-- ==== Sys2Proof/Word.lean ====
section
/-!
DEFINITION. Word.lean: the words of the WZ8860. Registers are 64 bits wide (R8); memory and record
flash are counted in bytes (R6).
-/

namespace Sys2Proof

/-- A register word (R8). -/
abbrev Word := BitVec 64

/-- One byte of memory, of record flash or of a stored record. -/
abbrev Byte := BitVec 8

end Sys2Proof
end

