-- ==== Sys2Proof/Config.lean ====
section
/-!
DEFINITION. Config.lean: the values the specification leaves open. Every constant here is opaque and has
no body, so nothing can be proved of its value. `State.fresh` counts the values drawn, so each draw is a
new argument.
-/

namespace Sys2Proof

/-- Bits drawn from the on-die random source (keys of R121, the nonce of R475, the array wrapping key of
R478), or any other value the specification does not state. The first argument is the draw's number. -/
opaque Config.freeWord : Nat → Word

/-- A byte whose value the specification does not state, by draw number and position. -/
opaque Config.freeByte : Nat → Nat → Byte

/-- An outcome the specification leaves open (for example whether a WRST_N pulse between 200 ns and 1 us
is taken, R461), by draw number. -/
opaque Config.freeBool : Nat → Bool

/-- A natural number the specification does not state, by draw number. -/
opaque Config.freeNat : Nat → Nat

/-- Whether a record for a bit of an EVENT register is of severity 1 (notice) rather than 0 (information):
R509 makes both no fault, and no rule chooses between them. By SOURCE and bit. -/
opaque Config.noticeEvent : Nat → Nat → Bool

/-- The CODE of a record that a rule asks for without giving its code, by SOURCE and a number of the model's. -/
opaque Config.openCode : Nat → Nat → Nat

/-- The digest of Geosteg's public key, which mask ROM holds (R472). -/
opaque Config.rootDigest : BitVec 384

/-- The opcodes an ENGINE body makes an engine accept (R436): Geosteg defines the body. Engines as SIM.JOBFMT numbers
them. -/
opaque Config.engineSet : List Byte → Nat → Word

/-- A FABRIC or ENGINE body needs no resource the device lacks (R452 cause 11): Geosteg defines the body. -/
opaque Config.bodyFits : List Byte → Bool

/-- The private scalar of the device key pair that DEVICE_SECRET gives (R473): how it is derived is not stated. -/
opaque Config.deviceScalar : BitVec 256 → Nat

/-- A word of mask ROM (R544), by address: the specification gives no contents but the root digest, and no place for it. -/
opaque Config.romWord : Nat → Word

end Sys2Proof
end

