-- ==== Sys2Proof/Syntax.lean ====
section
/-!
DEFINITION. Syntax.lean: the commands of the block, one constructor per row of spec/opcode_table.json in the
table's order, and the structures their operands carry. An operand is what the world outside the block
supplies: the value written, the identifiers of the unit or job, the contents of a frame, the outcome of
an operation whose inner working the specification leaves to another party.
-/

namespace Sys2Proof

/-- Who makes a register access: an application core, or the test port LC_ACCESS (R570). -/
structure Req where
  core : Nat
  test : Bool
  deriving DecidableEq, Repr

/-- What TCK samples at a boundary from its pins and monitors: the phase error against the selected
reference in 0.25 ns (R41 to R43), the frequency trim its loop asks for in parts per billion (R42), the lever pin (R538), and whether PFW_N is asserted or a rail
is out of its range (R469, R575). -/
structure BoundarySample where
  phaseErr : Int
  trim : Int
  leverPinOpen : Bool
  supplyBad : Bool
  deriving DecidableEq, Repr

/-- An NVMe-MI message received over MCTP (R559 to R561). -/
structure ManagementMessage where
  eid : Nat
  /-- Message tag in bits 2:0 and the TO bit in bit 3. -/
  tag : Nat
  /-- The message from its message-type byte onward. -/
  bytes : List Byte
  /-- The message arrived in sequence, within 8,176 bytes, and its packet check passes (R559). -/
  framed : Bool
  deriving DecidableEq, Repr

/-- What a PCIe device sends inbound (R557, R558): a memory read, a memory write, an INTx message (0 INTA to 3 INTD), or the
report of an error. -/
inductive PcieRequest where
  | read (addr len : Nat)
  | write (addr : Nat) (bytes : List Byte)
  | intx (line : Nat) (assert_ : Bool)
  | error (uncorrectable : Bool)
  deriving DecidableEq, Repr

/-- A message the endpoint sends (R560, R561). -/
structure MctpOut where
  eid : Nat
  tag : Nat
  bytes : List Byte
  deriving DecidableEq, Repr

/-- What the SPD of one RDIMM says (R549): its channel, capacity in GiB, organisation, the highest rate it supports in
MT/s, and whether it is a JEDEC DDR5 RDIMM with ECC. -/
structure Rdimm where
  channel : Nat
  gib : Nat
  org : Nat
  rate : Nat
  jedec : Bool
  deriving DecidableEq, Repr

/-- A page that is being read (R196): a piece of the read of a stored chunk, or a page of a set, by its member. -/
inductive PageRef where
  | piece (job piece : Nat)
  | page (set member : Nat)
  deriving DecidableEq, Repr

/-- How a lane of CMP ends a job (R97, R106, R108): its status, the input it consumed, the output it produced, and what
its state record keeps, whose engine state Geosteg defines. -/
structure JobEnd where
  status : Nat
  inConsumed : Nat
  output : List Byte
  frameEnd : Bool
  check : Nat
  memberSeq : Nat
  inFrame : Bool
  held : Bool
  engine : List Byte
  deriving DecidableEq, Repr

/-- A page as a module returns it (R178, R254): where it was read, whether every codeword decoded, the CRC32C of its data, its page
header and its data. -/
structure FlashPage where
  port : Nat
  die : Nat
  block : Nat
  page : Nat
  ok : Bool
  dcrc : Nat
  header : List Byte
  data : List Byte
  deriving DecidableEq, Repr

/-- What is read of the modules in Recovery or for an adoption (R175, R221, R407): every page that is not erased, and the erase
counts of blocks in eighths, by block key. -/
structure RecoveryRead where
  pages : List FlashPage
  erases : List (Nat × Nat)
  deriving DecidableEq, Repr

/-- A RoCEv2 request or response packet (R328) as HPT finds it: connection, PSN, whether it begins and ends its message,
its payload, the RDMA fields, whether IP, UDP and the ICRC check, whether the request is one that R328 supports, and
ECN CE. -/
structure RocePacket where
  conn : Nat
  psn : Nat
  first : Bool
  last : Bool
  payload : List Byte
  rkey : Nat
  off : Nat
  len : Nat
  imm : Option Nat
  intact : Bool
  supported : Bool
  ce : Bool
  deriving DecidableEq, Repr

/-- A Spray packet (R332): whether its IP and UDP headers check (R320, R336), ECN CE, and its UDP payload. -/
structure SprayPacket where
  ipOk : Bool
  ce : Bool
  bytes : List Byte
  deriving DecidableEq, Repr

/-- A MARK as it arrives (R382): its payload, with what RFL measures (R383): the time from the sending of the MARK named by
ECHO_TICK to this arrival, and this arrival minus the head's own boundary, both in 0.25 ns. -/
structure MarkIn where
  payload : List Byte
  trip : Nat
  arrival : Int
  /-- It came as a PUT on the fallback connection (R385). -/
  fallback : Bool
  deriving DecidableEq, Repr

/-- A CTRL message (R387): CODE 1 HB_START, 2 RELEASE, 3 RETURN_REQ, 4 BASE. -/
structure Ctrl where
  code : Nat
  side : Nat
  cause : Nat
  jseq : Nat
  sseq : Nat
  root : Nat
  deriving DecidableEq, Repr

/-- A VC entry (R387). -/
structure VcEntry where
  vc : Nat
  state : Nat
  op : Nat
  cause : Nat
  vgen : Nat
  target : Nat
  qgen : Nat
  deriving DecidableEq, Repr

/-- The PTR section of a side (R387). -/
structure Ptr where
  side : Nat
  jseq : Nat
  doneSeq : Nat
  sseq : Nat
  anchorSeq : Nat
  upto : Nat
  root : Nat
  writeSeq : Nat
  deriving DecidableEq, Repr

/-- A stripe-journal record as the peer sends it (R216, R387): side, SSEQ, its bytes. -/
structure SjCopy where
  side : Nat
  sseq : Nat
  bytes : List Byte
  deriving DecidableEq, Repr

/-- A KEYRES entry (R387, R414): KEY_ID, slot, RES_OWN, and RES_PEER in the bulk table. -/
structure KeyRes where
  keyId : Nat
  slot : Nat
  own : Nat
  peer : Nat
  deriving DecidableEq, Repr

/-- Values of the pacer's memory (R431): bin, VALID and M. -/
structure PacerBin where
  bin : Nat
  valid : Bool
  m : Nat
  deriving DecidableEq, Repr

/-- The bulk state of the shadow phase of Join (R414). -/
structure BulkIn where
  keyres : List KeyRes
  sj : List SjCopy
  ptr : List Ptr
  vcs : List VcEntry
  pacer : List PacerBin
  deriving DecidableEq, Repr

/-- A slot from the witness (R396) as it arrives: whether its comma is aligned, its characters 1 to 19, and Q of R399. -/
structure WitnessSlot where
  aligned : Bool
  bytes : List Byte
  q : Int
  deriving DecidableEq, Repr

/-- A forwarded command and its write data, wholly arrived (R392, R393): the forward tag, the payload of its FWD_CMD, the data, and
whether its data run checks (R380). -/
structure ForwardIn where
  tag : Nat
  payload : List Byte
  data : List Byte
  good : Bool
  deriving DecidableEq, Repr

/-- The commands (spec/opcode_table.json). -/
inductive Instr where
  /-- TICK_BOUNDARY (R24): The tick timer reaches the next boundary and the device closes sampling, seals the delta, applies results, acts on inputs by rank and opens budgets. -/
  | tickBoundary (x : BoundarySample)
  /-- JOB_CUT (R25): A job that exhausts its lane's tick budget is cut at the last allowed boundary and resumes in the next tick. -/
  | jobCut (cls lane upto : Nat)
  /-- PANEL_TICK (R37): Every 512th tick, panel inputs are sampled and the pacer, LEDs and temperatures are updated. -/
  | panelTick (pwr svc : Bool) (sensor : Nat) (reading : Int)
  /-- REF_VALID (R41): A witness reference becomes valid after 16 good edges and alignment moves to ACQUIRE. -/
  | refValid (link : Nat)
  /-- REF_MISSING (R41): The selected reference goes missing and alignment switches link, holds over or runs free. -/
  | refMissing (link : Nat)
  /-- LOCK_GAINED (R43): After 16 boundaries within 50 ns, alignment becomes LOCKED. -/
  | lockGained
  /-- HOLDOVER_END (R43): After 500 ms in HOLDOVER alignment returns to FREE. -/
  | holdoverEnd
  /-- REF_CTL_SRC_WRITE (R43): A write of TCK.REF_CTL.SRC reselects the reference and alignment state. -/
  | refCtlSrcWrite (r : Req) (v : Word)
  /-- COLD_RESET (R29): Assertion of PORST_N resets the device at once. -/
  | coldReset
  /-- WARM_RESET (R461): An assertion edge of WRST_N enters Reset at rank 3. -/
  | warmReset (widthNs : Nat)
  /-- SOFTWARE_RESET (R461): A write of the key to LCS.SW_RESET requests a software reset at rank 3. -/
  | softwareReset (r : Req) (v : Word)
  /-- WATCHDOG_RESET (R519): Expiry of the second watchdog period takes a watchdog reset at rank 3. -/
  | watchdogReset
  /-- LIFE_CYCLE_RESET (R461): A life-cycle command that changes LC ends with a reset at the next boundary. -/
  | lifeCycleReset
  /-- SUPPLY_FAULT (R575): A rail out of range for 1 µs is taken at rank 1 and enters Power-Fail Drain. -/
  | supplyFault (rails : Nat)
  /-- POWER_FAIL_WARNING (R466): PFW_N assertion is taken at rank 1 and the head enters Power-Fail Drain. -/
  | powerFailWarning (widthNs : Nat)
  /-- DRAIN_COMPLETE (R467): Power-Fail Drain ends when programs are answered and the flush is done, or at 2 ms. -/
  | drainComplete
  /-- POWER_FAIL_RESTART (R469): After 100 ms of PFW_N deasserted with no supply fault, LCS performs a restart. -/
  | powerFailRestart
  /-- SCLK_LOSS (R581): Loss of SCLK is taken as a supply fault at rank 1. -/
  | sclkLoss
  /-- HCLK_LOSS (R581): Loss of HCLK brings every host port down. -/
  | hclkLoss
  /-- THERMTRIP (R592): A sensor at 125 °C asserts THERMTRIP_N and takes a supply fault. -/
  | thermtrip (sensor : Nat)
  /-- BOOT_VERIFY (R465): In Reset, fuses are sensed and a boot loader slot verified, and core 0 is released into Structure Load. -/
  | bootVerify (dimms : List Rdimm)
  /-- STRUCTURE_LOAD (R444): SIM checks and loads the full image and its committed partials, then enters Self-Test. -/
  | structureLoad (readbackA readbackB : Bool)
  /-- SELF_TEST_PHASE_END (R459): A Self-Test phase ends and the next begins. -/
  | selfTestPhaseEnd (ok : Bool) (unit : Nat)
  /-- LISTEN_TIMEOUT (R460): LISTEN ticks pass without a peer MARK and the head requests START. -/
  | listenTimeout
  /-- RECOVERY_REPLAY (R175): In Recovery, FTL restores its tables from anchors, journal and checkpoint. -/
  | recoveryReplay (x : RecoveryRead)
  /-- RECOVERY_DONE (R456): Recovery ends for every granted side and the head enters Dual-Active or Solo-Active. -/
  | recoveryDone
  /-- STRUCTURE_SWAP_COMMIT (R450): A requested commit is taken at rank 7 and, when its guard holds, the head enters Restructure. -/
  | structureSwapCommit
  /-- RESTRUCTURE_END (R450): Restructure ends when lane roles and old-structure jobs are done. -/
  | restructureEnd
  /-- COMMIT_ABANDON (R449): A commit deferred for DEFER_MAX ticks is abandoned. -/
  | commitAbandon
  /-- RDMA_READ_DONE (R286): The write data of a command has been fetched, or the fetch failed. -/
  | rdmaReadDone (key : Nat) (ok : Bool)
  /-- FINGERPRINT_DONE (R52): The zero test and HMAC fingerprint of a chunk complete. -/
  | fingerprintDone (chunk : Nat) (busError : Bool)
  /-- SPOREBANK_LOOKUP (R55): RDX looks the fingerprint up in the hot set and resolves the data key. -/
  | sporebankLookup (chunk : Nat)
  /-- CHUNK_COMPRESS_DONE (R84): A compressor lane finishes a chunk, keeping the frame or storing it raw. -/
  | chunkCompressDone (chunk : Nat) (probe frame : List Byte)
  /-- CHUNK_ENCRYPT_DONE (R136): CIP finishes encrypting a chunk with its header as associated data. -/
  | chunkEncryptDone (chunk : Nat) (busError : Bool)
  /-- MOSS_PLACE (R182): FTL packs chunks into page-image pairs and programs two copies on different domains. -/
  | mossPlace
  /-- WRITE_COMPLETION (R65): A write completion is posted once its data, journal records and tick delta are durable and handed. -/
  | writeCompletion (key : Nat)
  /-- COPY_PLACE_AGAIN (R183): A copy whose program or verify failed is placed again in the next tick. -/
  | copyPlaceAgain (chunk copy : Nat)
  /-- MERGE (R63): A queued fingerprint is looked up in the full index and a newer duplicate aliased to the older chunk. -/
  | merge
  /-- SB_REGION_LOAD (R62): RDX loads a cold Sporebank region from the full index. -/
  | sbRegionLoad
  /-- MAP_PAGE_FETCH (R74): A map page missed in the cache arrives from DDR or flash and waiting commands resume. -/
  | mapPageFetch (nsid page : Nat)
  /-- CHUNK_DECRYPT_DONE (R139): CIP decrypts a read chunk and checks its tag. -/
  | chunkDecryptDone (job : Nat) (busError : Bool)
  /-- CHUNK_EXPAND_DONE (R87): A decompressor lane expands and checks a read chunk. -/
  | chunkExpandDone (chunk : Nat)
  /-- READ_COMPLETION (R76): A read completion is posted after its last data byte is transmitted. -/
  | readCompletion (key : Nat)
  /-- CMP_RING_DOORBELL (R102): A write of CMP.RING_PROD posts descriptors on a compression job ring. -/
  | cmpRingDoorbell (r : Req) (ring : Nat) (v : Word)
  /-- CMP_JOB_DISPATCH (R103): At a boundary a ring dispatches descriptors to lanes within its limits. -/
  | cmpJobDispatch (ring : Nat)
  /-- CMP_JOB_END (R106): A compression job ends and its completion record is written. -/
  | cmpJobEnd (job : Nat) (e : JobEnd)
  /-- CMP_RING_ENABLE (R110): Writing RING_CFG.EN 1 enables a ring and clears HALTED. -/
  | cmpRingEnable (r : Req) (ring : Nat) (v : Word)
  /-- CMP_RING_DISABLE (R110): Writing RING_CFG.EN 0 stops dispatch from the ring. -/
  | cmpRingDisable (r : Req) (ring : Nat) (v : Word)
  /-- LANE_ROLE_TAKEN (R81): A lane whose role a commit changed takes its new role once its slots are empty. -/
  | laneRoleTaken (lane : Nat)
  /-- GENERATE (R121): Key command GENERATE draws a new data or digest key into an empty slot. -/
  | generate (r : Req)
  /-- UNWRAP (R121): Key command UNWRAP loads a wrapped key blob into an empty slot. -/
  | unwrap (r : Req)
  /-- LOAD_PLAIN (R121): Key command LOAD_PLAIN loads a transport key into an empty slot. -/
  | loadPlain (r : Req)
  /-- SET_SUCC (R121): Key command SET_SUCC sets or clears a slot's successor. -/
  | setSucc (r : Req)
  /-- ROTATE (R128): Key command ROTATE switches an active key to its successor. -/
  | rotate (r : Req)
  /-- SET_LIMIT (R121): Key command SET_LIMIT raises a key's usage limit. -/
  | setLimit (r : Req)
  /-- DESTROY (R131): Key command DESTROY zeroes a slot unless it is locked. -/
  | destroy (r : Req)
  /-- KEY_RESERVE (R125): CIP reserves a further counter block for a data key. -/
  | keyReserve (slot : Nat)
  /-- KEY_USAGE_RESTORE (R126): FTL restores the usage counts of an unwrapped data key. -/
  | keyUsageRestore (slot : Nat)
  /-- REWRAP (R132): A stored chunk is decrypted and re-encrypted under its namespace's current key. -/
  | rewrap (nsid chunk : Nat)
  /-- CTX_OWNER_WRITE (R114): A write of a CTX_OWNER register zeroes the stream context. -/
  | ctxOwnerWrite (r : Req) (dgs : Bool) (ctx : Nat) (v : Word)
  /-- CIP_RING_DOORBELL (R149): A producer write posts descriptors on a CIP job ring. -/
  | cipRingDoorbell (r : Req) (ring : Nat) (v : Word)
  /-- DGS_RING_DOORBELL (R149): A producer write posts descriptors on a DGS job ring. -/
  | dgsRingDoorbell (r : Req) (ring : Nat) (v : Word)
  /-- CIP_JOB_END (R153): A CIP ring job ends and its completion record is written. -/
  | cipJobEnd (job : Nat) (error : Option Nat)
  /-- DGS_JOB_END (R153): A DGS ring job ends and its completion record is written. -/
  | dgsJobEnd (job : Nat) (error : Option Nat)
  /-- SNAP_CREATE (R164): FTL.SNAP_CMD CREATE makes the current map epoch a snapshot. -/
  | snapCreate (r : Req)
  /-- SNAP_DELETE (R167): FTL.SNAP_CMD DELETE removes a snapshot and starts its sweep. -/
  | snapDelete (r : Req)
  /-- SNAP_SWEEP (R167): FTL sweeps retained pages, dropping entries no snapshot sees. -/
  | snapSweep (nsid : Nat)
  /-- KEYQ_QUERY (R204): A write of FTL.KEYQ_ID is answered with the chunk count at the next boundary. -/
  | keyqQuery (r : Req) (v : Word)
  /-- CHECKPOINT_START (R173): Journal written since the last checkpoint exceeds its threshold and a checkpoint starts. -/
  | checkpointStart
  /-- CHECKPOINT_DONE (R173): The CKPT item is durable and covered journal blocks are freed. -/
  | checkpointDone
  /-- FOLD (R187): Fold moves moss chunks into bulk rows within the pacer's grant. -/
  | fold
  /-- MOSS_RELEASE (R189): Moss copies of a folded chunk are released once its row, RELOC and delta are durable and handed. -/
  | mossRelease (chunk : Nat)
  /-- UNIT_ERASE (R190): A unit without live bytes is erased after its erase intent and returned to the free pool. -/
  | unitErase (kind id : Nat)
  /-- GC_COPY (R192): Garbage collection copies the live chunks of a victim stripe. -/
  | gcCopy
  /-- CHUNK_REWRITE (R195): A recovered chunk is rewritten from the bytes that passed. -/
  | chunkRewrite
  /-- READ_RETRY (R196): An uncorrectable read is reissued at the next retry level, then recovered. -/
  | readRetry (p : PageRef)
  /-- PATROL_ROW (R202): The patrol reads a row, compares parity and checks its chunks. -/
  | patrolRow
  /-- PATROL_LATE (R203): A pass runs past 1.25 periods. -/
  | patrolLate
  /-- HOST_RECONSTRUCT (R210): RDN reconstructs missing pages for a host read. -/
  | hostReconstruct (job piece : Nat)
  /-- SJ_PAIR_MOVE (R220): RDN opens a new stripe-journal pair and writes a restatement. -/
  | sjPairMove
  /-- REBUILD_ROW (R226): RDN reconstructs and programs a row onto a replacement member. -/
  | rebuildRow
  /-- REBUILD_COMMIT (R226): A rebuilt member is written into the stripe descriptor after its record is durable and handed. -/
  | rebuildCommit (stripe : Nat)
  /-- LOSS_SWEEP (R232): FTL marks lost chunks and finds the granules that name them. -/
  | lossSweep (stripe row slot : Nat)
  /-- RESHAPE_START (R236): RDN.RESHAPE_CMD START begins a geometry reshape or evacuation. -/
  | reshapeStart (r : Req)
  /-- RESHAPE_ABANDON (R239): RDN.RESHAPE_CMD ABANDON stops the reshape at the next stripe. -/
  | reshapeAbandon (r : Req)
  /-- RESHAPE_STEP (R237): The stripe at the cursor is converted and the cursor advances. -/
  | reshapeStep
  /-- EXCL_READMIT (R224): Writing EXCL 0 readmits an excluded module to placement. -/
  | exclReadmit (r : Req) (module : Nat) (v : Word)
  /-- MODULE_LOSS (R246): A module loss is acted on at rank 6 and its stripes become degraded. -/
  | moduleLoss (port : Nat)
  /-- DIE_FAILURE (R267): A fatal media error is taken at rank 6 and the die is no longer used. -/
  | dieFailure (port die : Nat)
  /-- TRAINING_PATTERN_RECEIVED (R244): A training pattern moves a link from DETECT to TRAIN. -/
  | trainingPatternReceived (port : Nat)
  /-- EQUALISATION_COMPLETE (R244): Both ends report equalisation complete and the link enters ALIGN. -/
  | equalisationComplete (port : Nat)
  /-- TRAIN_TIMEOUT (R244): TRAIN exceeds 100 ms and the link returns to DETECT. -/
  | trainTimeout (port : Nat)
  /-- ALIGN_COMPLETE (R244): FEC lock and 64 good frames move the link to IDENT. -/
  | alignComplete (port : Nat)
  /-- ALIGN_TIMEOUT (R244): ALIGN exceeds 10 ms and the link returns to DETECT. -/
  | alignTimeout (port : Nat)
  /-- DESCRIPTOR_RECEIVED (R257): The IDENTIFY descriptor arrives and the port goes UP or FAULT. -/
  | descriptorReceived (port : Nat) (frame : List Byte)
  /-- IDENT_TIMEOUT (R244): No descriptor within 5,000 ticks sends the port to FAULT. -/
  | identTimeout (port : Nat)
  /-- RETRAIN_COMPLETE (R244): Realignment ends and the link returns to UP with replay. -/
  | retrainComplete (port : Nat)
  /-- RETRAIN_TIMEOUT (R244): RETRAIN exceeds 5,000 ticks and the link goes DOWN. -/
  | retrainTimeout (port : Nat)
  /-- DOWN_TIMEOUT (R244): After 500 ticks in DOWN the link returns to DETECT. -/
  | downTimeout (port : Nat)
  /-- PORT_ENABLE_WRITE (R244): A write of FRN.PORT_CTL.EN starts or stops a port. -/
  | portEnableWrite (r : Req) (port : Nat) (v : Word)
  /-- FORCE_RETRAIN (R244): Writing FORCE_RETRAIN 1 sends the link to ALIGN. -/
  | forceRetrain (r : Req) (port : Nat) (v : Word)
  /-- RSP_RECEIVED (R254): A module response frame arrives and its command ends. -/
  | rspReceived (port : Nat) (frame : List Byte)
  /-- RDATA_RECEIVED (R266): Read data frames of a command arrive and are checked against DLEN. -/
  | rdataReceived (port : Nat) (frame : List Byte)
  /-- MODULE_EVENT (R269): A module EVENT frame is acted on by its code. -/
  | moduleEvent (port : Nat) (frame : List Byte)
  /-- FROND_ACK (R250): An ACK or NAK frame acknowledges frames or triggers replay. -/
  | frondAck (port : Nat) (frame : List Byte)
  /-- CREDIT (R251): A CREDIT frame raises the command and page limits. -/
  | credit (port : Nat) (frame : List Byte)
  /-- REPLAY_TIMEOUT (R250): LACK does not advance for 2 ticks and unacknowledged frames are replayed. -/
  | replayTimeout (port : Nat)
  /-- IDLE_TIMEOUT (R267): No frame for IDLE ticks while UP sends the link to RETRAIN. -/
  | idleTimeout (port : Nat)
  /-- COMMAND_TIMEOUT (R267): A command without RSP after MAX_OP plus MARGIN is probed and may force a retrain. -/
  | commandTimeout (port tag : Nat)
  /-- HEALTH_POLL (R269): FRN sends HEALTH every 1,024 panel ticks. -/
  | healthPoll
  /-- RECON_START (R271): A management view disagreeing with the data path starts reconciliation. -/
  | reconStart (port : Nat)
  /-- RECON_END (R271): Reconciliation ends after 2 s with an outcome. -/
  | reconEnd (port : Nat)
  /-- EVAC_REQ (R270): Writing FRN.PORT_MGMT.EVAC_REQ 1 starts an evacuation. -/
  | evacReq (r : Req) (port : Nat) (v : Word)
  /-- PROPERTY_GET (R282): Fabrics Property Get returns a controller property. -/
  | propertyGet (key : Nat)
  /-- PROPERTY_SET (R282): Fabrics Property Set writes a controller property. -/
  | propertySet (key : Nat)
  /-- CONNECT (R353): Fabrics Connect creates a queue after the association checks. -/
  | connect (key : Nat)
  /-- DISCONNECT (R279): Fabrics Disconnect ends a queue. -/
  | disconnect (key : Nat)
  /-- GET_LOG_PAGE (R282): Get Log Page returns a supported log page. -/
  | getLogPage (key : Nat)
  /-- IDENTIFY (R284): Identify returns a controller or namespace structure. -/
  | identify (key : Nat)
  /-- ABORT (R303): Abort completes without aborting the command. -/
  | abort (key : Nat)
  /-- SET_FEATURES (R282): Set Features sets a supported feature. -/
  | setFeatures (key : Nat)
  /-- GET_FEATURES (R282): Get Features returns a supported feature. -/
  | getFeatures (key : Nat)
  /-- ASYNC_EVENT_REQUEST (R282): An Asynchronous Event Request is held until an event is posted. -/
  | asyncEventRequest (key : Nat)
  /-- KEEP_ALIVE (R279): Keep Alive restarts the Keep Alive timer. -/
  | keepAlive (key : Nat)
  /-- KEEP_ALIVE_EXPIRY (R279): The Keep Alive timer expires and the controller is reset. -/
  | keepAliveExpiry (vc : Nat)
  /-- CONTROLLER_RESET_DONE (R300): No command of the old generation remains and CSTS.RDY reads 0. -/
  | controllerResetDone (vc : Nat)
  /-- FLUSH (R301): Flush completes at the first boundary after admission. -/
  | flush (key : Nat)
  /-- WRITE (R288): A Write is admitted and ordered against overlapping commands. -/
  | write (key : Nat)
  /-- READ (R289): A Read resolves its granules and reads their chunks. -/
  | read (key : Nat)
  /-- COMPARE (R283): Compare reads the range and compares it with the host data. -/
  | compare (key : Nat)
  /-- WRITE_ZEROES (R283): Write Zeroes unmaps whole granules and zeroes partial ones. -/
  | writeZeroes (key : Nat)
  /-- DATASET_MANAGEMENT (R283): Dataset Management deallocates whole granules of its ranges. -/
  | datasetManagement (key : Nat)
  /-- RESERVATION_REGISTER (R306): Reservation Register changes a registration. -/
  | reservationRegister (key : Nat)
  /-- RESERVATION_REPORT (R306): Reservation Report returns the reservation state. -/
  | reservationReport (key : Nat)
  /-- RESERVATION_ACQUIRE (R307): Reservation Acquire acquires or preempts a reservation. -/
  | reservationAcquire (key : Nat)
  /-- RESERVATION_RELEASE (R307): Reservation Release releases or clears a reservation. -/
  | reservationRelease (key : Nat)
  /-- CAPACITY_EXCEEDED (R287): A write held by the moss limit beyond WAIT_MAX while fold is stopped completes with Capacity Exceeded. -/
  | capacityExceeded (conn : Nat)
  /-- ACT_START (R304): CMF.ACT_CMD START begins an activation hold. -/
  | actStart (r : Req)
  /-- ACT_RELEASE (R304): CMF.ACT_CMD RELEASE ends the hold. -/
  | actRelease (r : Req)
  /-- ACT_QUIESCED (R304): No command is in flight during the hold. -/
  | actQuiesced
  /-- ACT_TIMEOUT (R304): The hold ends at its 1 ms limit. -/
  | actTimeout
  /-- NS_READ (R276): CMF.NS_CMD READ copies a namespace entry into the registers. -/
  | nsRead (r : Req)
  /-- NS_WRITE (R277): CMF.NS_CMD WRITE creates or changes a namespace. -/
  | nsWrite (r : Req)
  /-- NS_DELETE (R277): CMF.NS_CMD DELETE removes a namespace. -/
  | nsDelete (r : Req)
  /-- ANA_FORCE_WRITE (R310): A write of CMF.ANA.FORCE forces a volume set's ANA state at the next boundary. -/
  | anaForceWrite (r : Req) (vset : Nat) (v : Word)
  /-- ANATT_EXCEEDED (R312): A set in Change beyond ANATT is presented Inaccessible. -/
  | anattExceeded (vset : Nat)
  /-- CTX_CREATE (R323): QPC.CMD CREATE makes a connection context ready. -/
  | ctxCreate (r : Req) (conn : Nat)
  /-- CTX_MODIFY (R323): QPC.CMD MODIFY changes the mutable fields of a context. -/
  | ctxModify (r : Req) (conn : Nat)
  /-- CTX_DESTROY (R323): QPC.CMD DESTROY frees a connection and flushes its work. -/
  | ctxDestroy (r : Req) (conn : Nat)
  /-- CTX_READ (R323): QPC.CMD READ copies a context into the registers. -/
  | ctxRead (r : Req) (conn : Nat)
  /-- CONTEXT_FETCH_DONE (R324): A context fetch from DDR completes and parked packets are processed. -/
  | contextFetchDone (conn : Nat)
  /-- ETH_PORT_UP (R319): A host port comes up. -/
  | ethPortUp (port : Nat)
  /-- ETH_PORT_DOWN (R319): A host port leaves the up state. -/
  | ethPortDown (port : Nat)
  /-- RAW_FRAME_RECEIVE (R321): A frame not handled by HPT is passed to the raw receive ring. -/
  | rawFrameReceive (port : Nat) (bytes : List Byte)
  /-- RAW_TRANSMIT (R321): A producer write on ring 257 sends a raw frame. -/
  | rawTransmit (r : Req) (v : Word)
  /-- ROCE_SEND (R313): A RoCEv2 Send packet carrying a capsule is accepted. -/
  | roceSend (p : RocePacket)
  /-- ROCE_RDMA_WRITE (R328): An RDMA Write request is checked and placed. -/
  | roceRdmaWrite (p : RocePacket)
  /-- ROCE_RDMA_READ_REQUEST (R328): An RDMA Read request is checked and answered. -/
  | roceRdmaReadRequest (p : RocePacket)
  /-- ROCE_READ_RESPONSE (R328): An RDMA Read response delivers fetched data. -/
  | roceReadResponse (p : RocePacket)
  /-- ROCE_ACK (R329): A RoCEv2 ACK acknowledges sent packets. -/
  | roceAck (conn psn : Nat)
  /-- ROCE_NAK (R329): A RoCEv2 NAK triggers resend or ERROR. -/
  | roceNak (conn psn cause : Nat)
  /-- ROCE_CNP (R331): A received CNP reduces the connection's rate. -/
  | roceCnp (conn : Nat)
  /-- ROCE_RETRANSMIT_TIMEOUT (R329): TIMEOUT expires and the requester resends from the oldest PSN. -/
  | roceRetransmitTimeout (conn : Nat)
  /-- ROCE_RATE_INCREASE (R331): After GAP ticks without CNP the rate rises. -/
  | roceRateIncrease (conn : Nat)
  /-- SPRAY_PUT (R337): A Spray PUT packet is checked and placed. -/
  | sprayPut (p : SprayPacket)
  /-- SPRAY_GET (R343): A Spray GET is checked and answered with a PUT. -/
  | sprayGet (p : SprayPacket)
  /-- SPRAY_ACK (R340): A Spray ACK acknowledges packets, detects losses and adjusts the window. -/
  | sprayAck (p : SprayPacket)
  /-- SPRAY_NAK (R339): A Spray NAK holds off, fails a message or errors the connection. -/
  | sprayNak (p : SprayPacket)
  /-- SPRAY_MESSAGE_COMPLETE (R337): A message's bitmap is full and its lower MSNs are done. -/
  | sprayMessageComplete (conn msn : Nat)
  /-- SPRAY_LOSS_TIMEOUT (R340): A packet's TIMEOUT expires and it is resent. -/
  | sprayLossTimeout (conn psn : Nat)
  /-- PATH_REENABLE (R335): A disabled path is re-enabled after 1 s. -/
  | pathReenable (conn path : Nat)
  /-- SPRAY_DB (R345): A write of HPT.SPRAY_DB posts work requests. -/
  | sprayDb (r : Req) (v : Word)
  /-- WORK_REQUEST_START (R347): A work request at the head of the ring starts, when armed once its counter is reached. -/
  | workRequestStart (conn : Nat)
  /-- WORK_REQUEST_COMPLETE (R348): A work request completes and its record and DONE_TAG are written. -/
  | workRequestComplete (conn n : Nat)
  /-- TRIG_SET (R327): HPT.TRIG_CMD set writes a trigger counter. -/
  | trigSet (r : Req) (tag value : Nat)
  /-- TRIG_ADD (R327): HPT.TRIG_CMD add adds to a trigger counter. -/
  | trigAdd (r : Req) (tag value : Nat)
  /-- VC_CREATE (R355): VCT.CMD CREATE makes a virtual controller ACTIVE. -/
  | vcCreate (r : Req)
  /-- VC_UPDATE (R357): VCT.CMD UPDATE copies live fields and reloads attachments. -/
  | vcUpdate (r : Req)
  /-- VC_RESET (R355): VCT.CMD RESET performs a controller reset. -/
  | vcReset (r : Req)
  /-- VC_DESTROY (R358): VCT.CMD DESTROY resets the controller and makes it DRAINING. -/
  | vcDestroy (r : Req)
  /-- VC_MOVE (R364): VCT.CMD MOVE starts moving a virtual controller to the peer. -/
  | vcMove (r : Req)
  /-- VC_FREED (R358): A DRAINING controller with no command in flight becomes FREE. -/
  | vcFreed (vc : Nat)
  /-- VC_SEAL (R366): A QUIESCING controller with nothing in flight is sealed and its record sent. -/
  | vcSeal (vc : Nat)
  /-- FREEZE_TIMEOUT (R363): Quiescence exceeds FREEZE_MAX and the move ends. -/
  | freezeTimeout
  /-- VC_RECORD_RECEIVED (R368): The target checks a saved-state record and loads or refuses it. -/
  | vcRecordReceived (target qbase : Nat) (bytes : List Byte)
  /-- MARK_RECEIVED (R382): A MARK heartbeat is accepted and the peer's state and boundary noted. -/
  | markReceived (m : MarkIn)
  /-- PEER_LOSS (R384): No MARK for LOSS ticks declares peer loss at rank 5. -/
  | peerLoss
  /-- PEER_UP (R384): MARKs are accepted again and the peer is present. -/
  | peerUp
  /-- DELTA_APPLY (R390): A wholly arrived tick delta is applied section by section. -/
  | deltaApply (good : Bool) (bytes : List Byte)
  /-- DELTA_KEEP_EXPIRY (R391): A sealed delta unacknowledged beyond KEEP is lost. -/
  | deltaKeepExpiry (tick : Nat)
  /-- FORWARDED_COMMAND (R393): A forwarded command and its data are taken at rank 10 on the holding head. -/
  | forwardedCommand (f : ForwardIn)
  /-- FWD_RSP_RECEIVED (R393): A forwarded response is transmitted to the host. -/
  | fwdRspReceived (tag : Nat) (payload data : List Byte)
  /-- JOIN_BULK_APPLY (R414): The joining head applies the bulk state of the shadow phase. -/
  | joinBulkApply (b : BulkIn)
  /-- RETURN_REQ_SEND (R414): The joining head sends RETURN_REQ once both shadows are complete. -/
  | returnReqSend
  /-- WITNESS_SLOT (R401): A valid witness slot on a valid link is acted on. -/
  | witnessSlot (link : Nat) (w : WitnessSlot)
  /-- EPOCH_LOSS (R405): A witness fence or epoch loss at rank 2 enters Eclipse. -/
  | epochLoss (module : Bool)
  /-- UMBRA_LINK_VALID (R398): A witness link becomes valid after 16 valid slots. -/
  | umbraLinkValid (link : Nat)
  /-- UMBRA_LINK_MISSING (R398): A witness link goes missing after 4 slots not received. -/
  | umbraLinkMissing (link : Nat)
  /-- LEASE_EXPIRED (R402): No grant-bearing slot within LEASE slots with the peer lost fences the head. -/
  | leaseExpired
  /-- ADOPT_FENCES_DONE (R407): Every fence of adoption has completed OK. -/
  | adoptFencesDone
  /-- ADOPT_JOURNAL_READ (R407): The new side's journal tail is read and applied. -/
  | adoptJournalRead (side : Nat) (x : RecoveryRead)
  /-- STRIPE_CHECK (R222): An adopted side's open stripe is checked before it is written. -/
  | stripeCheck (side stripe : Nat) (pages : List FlashPage)
  /-- HANDBACK_START (R409): RFL.HANDBACK_CMD START begins a Hand-Back. -/
  | handbackStart (r : Req)
  /-- DRAIN_END (R409): Hand-Back drain ends when nothing is in flight or DRAIN_MS elapses. -/
  | drainEnd
  /-- HANDBACK_SEAL (R409): The final delta with RELEASE is sealed and the epoch set to 0. -/
  | handbackSeal
  /-- HANDBACK_DONE (R409): The final delta is acknowledged and the head enters Eclipse. -/
  | handbackDone
  /-- BIN_END (R427): A repetitive-controller bin ends and its memory value is updated. -/
  | binEnd
  /-- PACER_FALLBACK (R429): N_BAD implausible panel ticks put the pacer in fallback. -/
  | pacerFallback
  /-- PACER_CLOSED (R429): N_GOOD plausible panel ticks return the pacer to closed loop. -/
  | pacerClosed
  /-- PCR_FORCE_WRITE (R429): Writing PCR.CTL.FORCE forces or releases fallback. -/
  | pcrForceWrite (r : Req) (v : Word)
  /-- TOD_WRITE (R426): A write of PCR.TOD sets the bin and phase at the next boundary. -/
  | todWrite (r : Req) (v : Word)
  /-- RC_DATA_WRITE (R427): A write of PCR.RC_DATA sets a memory bin at the next boundary. -/
  | rcDataWrite (r : Req) (v : Word)
  /-- SIM_VERIFY (R441): SIM.CMD VERIFY checks an image only. -/
  | simVerify (r : Req)
  /-- SIM_STAGE (R446): SIM.CMD STAGE begins staging a partial image. -/
  | simStage (r : Req)
  /-- STAGING_DONE (R446): Staging ends with shadows built or the partial refused. -/
  | stagingDone (flashOk : Bool)
  /-- SIM_COMMIT (R448): SIM.CMD COMMIT writes the COMMIT word and requests the swap. -/
  | simCommit (r : Req)
  /-- SIM_CANCEL (R447): SIM.CMD CANCEL discards a staged partial. -/
  | simCancel (r : Req)
  /-- SIM_LOAD (R445): SIM.CMD LOAD starts a load from a slot in Structure Load. -/
  | simLoad (r : Req)
  /-- SUBMIT (R475): LCS command SUBMIT checks and holds a token. -/
  | submit (r : Req)
  /-- ENTER_MAKER (R476): LCS command ENTER_MAKER programs DEVICE_SECRET and LC bit 0. -/
  | enterMaker (r : Req) (fuseOk : Bool)
  /-- PROVISION (R476): LCS command PROVISION programs the OEM digests, rollback and LC bit 1. -/
  | provision (r : Req) (value : Nat) (fuseOk : Bool)
  /-- FIELD (R476): LCS command FIELD programs LC bit 2. -/
  | field (r : Req) (fuseOk : Bool)
  /-- ENTER_RTM (R477): LCS command ENTER_RTM zeroises, erases the key-wrap store and enters Return-to-Maker. -/
  | enterRtm (r : Req) (fuseOk : Bool)
  /-- VOID (R476): LCS command VOID programs LC bit 4. -/
  | void (r : Req) (fuseOk : Bool)
  /-- ADD_KEY (R476): LCS command ADD_KEY programs an image key digest. -/
  | addKey (r : Req) (index : Nat) (fuseOk : Bool)
  /-- REVOKE (R476): LCS command REVOKE revokes an image key digest. -/
  | revoke (r : Req) (index : Nat) (fuseOk : Bool)
  /-- RAISE_ROLLBACK (R476): LCS command RAISE_ROLLBACK programs the next rollback row. -/
  | raiseRollback (r : Req) (value : Nat) (fuseOk : Bool)
  /-- ZEROISE (R479): LCS command ZEROISE raises the zeroise request. -/
  | zeroise (r : Req)
  /-- AWK_GENERATE (R478): LCS command AWK_GENERATE draws the array wrapping key. -/
  | awkGenerate (r : Req)
  /-- AWK_EXPORT (R478): LCS command AWK_EXPORT wraps the key to a device public key. -/
  | awkExport (r : Req)
  /-- AWK_IMPORT (R478): LCS command AWK_IMPORT loads the key from a blob. -/
  | awkImport (r : Req)
  /-- DEVICE_PUB (R476): LCS command DEVICE_PUB returns the device public key. -/
  | devicePub (r : Req)
  /-- RCF_UNLOCK (R483): A write of RCF.UNLOCK advances the unlock sequence. -/
  | rcfUnlock (r : Req) (v : Word)
  /-- RCF_PROGRAM (R484): RCF command PROGRAM programs one word. -/
  | rcfProgram (r : Req) (addr : Nat) (data : Word)
  /-- RCF_PROGRAM_BURST (R484): RCF command PROGRAM_BURST programs ascending words. -/
  | rcfProgramBurst (r : Req) (addr : Nat) (data : Word)
  /-- RCF_ERASE (R490): RCF command ERASE erases a sector through the intent journal. -/
  | rcfErase (r : Req) (addr : Nat)
  /-- RCF_SUSPEND (R488): RCF command SUSPEND holds the erase in progress. -/
  | rcfSuspend (r : Req)
  /-- RCF_RESUME (R488): RCF command RESUME resumes a suspended erase. -/
  | rcfResume (r : Req)
  /-- RCF_ROTATE (R494): RCF command ROTATE gives a settings sector an erased physical sector. -/
  | rcfRotate (r : Req) (addr : Nat)
  /-- RCF_OPERATION_END (R485): A record flash program or erase ends OK or FAIL. -/
  | rcfOperationEnd (pulses : Nat) (ok : Bool)
  /-- AUTO_SUSPEND (R488): An erase is suspended for a waiting read or program. -/
  | autoSuspend
  /-- SUSPEND_LIMIT_EXPIRY (R488): An automatic suspension ends after 500 µs and the pulse repeats. -/
  | suspendLimitExpiry
  /-- RECORD_FLASH_SCAN (R492): In Reset RCF finds the newest intent entry and builds the rotating map. -/
  | recordFlashScan
  /-- SPARE_ERASE (R494): A dirty rotating sector is erased into a spare in the background. -/
  | spareErase (sector : Nat)
  /-- WEAR_MOVE (R495): A logical sector on the least-worn sector moves to the most-worn spare. -/
  | wearMove
  /-- EVR_FLUSH (R503): Queued event records are written to flash in SEQ order. -/
  | evrFlush (ok : Bool)
  /-- TIME_RECORD (R502): A TIME record is made at the end of an operating-time unit. -/
  | timeRecord
  /-- EVR_RD_SEQ_WRITE (R506): A write of EVR.RD_SEQ selects a record to fetch. -/
  | evrRdSeqWrite (r : Req) (v : Word)
  /-- SW_RECORD (R507): A write of EVR.SW_REC2 makes array software's record. -/
  | swRecord (r : Req) (v : Word)
  /-- EVR_CLEAR (R508): EVR.CLEAR_CMD CLEAR clears the event log with a token. -/
  | evrClear (r : Req)
  /-- CLEAR_ROTATION_DONE (R508): The last event sector below TAIL is erased after a clear. -/
  | clearRotationDone
  /-- FAULT_REPORT (R510): FLT takes a fault report, classes it, queues it and records it. -/
  | faultReport (code source unit arg : Nat)
  /-- FLT_ACK (R514): A write of FLT.ACK retires the head entry of a class. -/
  | fltAck (r : Req) (cls seqLo : Nat)
  /-- ACK_TIMEOUT (R514): An acknowledgement deadline expires and a higher-class fault is taken. -/
  | ackTimeout (cls : Nat)
  /-- WDOG_ENABLE (R519): Writing FLT.WDOG_CTL.EN 1 starts the software watchdog. -/
  | wdogEnable (r : Req) (v : Word)
  /-- WDOG_KICK (R519): A write of the key to FLT.WDOG_KICK restarts the first period. -/
  | wdogKick (r : Req) (v : Word)
  /-- WDOG_STAGE1 (R519): The first watchdog period expires and the second starts. -/
  | wdogStage1
  /-- LANE_STALL (R520): A lane makes no progress for PROG_TICKS and is withdrawn. -/
  | laneStall (source lane : Nat)
  /-- BOUNDARY_WATCHDOG (R521): Step 5 has not begun 1,000 cycles after a boundary. -/
  | boundaryWatchdog
  /-- FLT_INJECT (R523): A write of FLT.INJECT makes a fault report. -/
  | fltInject (r : Req) (v : Word)
  /-- CHAIN_REFRESH (R528): BAY latches and shifts the bay chain, setting LEDs and sampling inputs. -/
  | chainRefresh (slots : List Nat)
  /-- CHATTER_CLEAR (R535): A chattering input stable for HOLDOFF_S is cleared. -/
  | chatterClear (input : Nat)
  /-- PRESENCE_CHANGE (R537): A filtered presence transition is recorded at rank 12. -/
  | presenceChange (bay : Nat)
  /-- LATCH_OPEN (R537): A filtered latch opening starts the latch warning where needed. -/
  | latchOpen (bay : Nat)
  /-- LATCH_CLOSE (R537): A filtered latch closing ends the latch warning. -/
  | latchClose (bay : Nat)
  /-- ATTENTION_PRESS (R537): A filtered attention press toggles LOCATE. -/
  | attentionPress (bay : Nat)
  /-- POWER_BUTTON_RELEASE (R537): A short press of the power button is recorded. -/
  | powerButtonRelease
  /-- POWER_BUTTON_LONG (R537): The power button held for LONG_S starts a Hand-Back in Dual-Active. -/
  | powerButtonLong
  /-- SERVICE_BUTTON_PRESS (R537): A service button press toggles IDENT. -/
  | serviceButtonPress
  /-- BUTTON_STUCK (R534): A button active for STUCK_S is marked stuck. -/
  | buttonStuck (input : Nat)
  /-- QCLR (R536): Writing QCLR 1 ends a bay's quarantine. -/
  | qclr (r : Req) (bay : Nat)
  /-- LEVER_OPEN (R538): A filtered lever opening is latched and taken at rank 4 to begin Hand-Back. -/
  | leverOpen
  /-- LEVER_CLOSE (R539): A filtered lever closing is recorded only. -/
  | leverClose
  /-- CORE_RUN_WRITE (R547): A write of APC.CORE_RUN releases or holds cores. -/
  | coreRunWrite (r : Req) (v : Word)
  /-- IRQ_EOI (R555): A write of APC.IRQ_EOI clears IN_SERVICE of a level source. -/
  | irqEoi (r : Req) (v : Word)
  /-- MACHINE_TIMER (R542): MTIME reaches a core's MTIMECMP and raises its timer interrupt. -/
  | machineTimer (core : Nat)
  /-- PCIE_LINK_UP (R557): The PCIe link comes up. -/
  | pcieLinkUp (gen width : Nat)
  /-- PCIE_LINK_DOWN (R557): The PCIe link leaves the up state. -/
  | pcieLinkDown
  /-- PCIE_INBOUND_REQUEST (R558): A device request is checked against the grants, or taken as MSI. -/
  | pcieInboundRequest (q : PcieRequest)
  /-- MCTP_CONTROL_MESSAGE (R560): The endpoint answers an MCTP control message itself. -/
  | mctpControlMessage (m : ManagementMessage)
  /-- MANAGEMENT_MESSAGE (R561): An NVMe-MI message is taken at rank 8 into the receive ring. -/
  | managementMessage (m : ManagementMessage)
  /-- MCTP_TX (R561): A transmit producer write sends an MCTP message. -/
  | mctpTx (r : Req) (v : Word)
  /-- MEM_FILL_DONE (R552): The background zero-fill of DDR completes. -/
  | memFillDone
  /-- SCRUB_PASS (R553): A scrub pass of HBM and DDR completes. -/
  | scrubPass
  /-- WIDE_VALUE_READ (R13): A read of the lowest word of a wide value copies the rest to a shadow. -/
  | wideValueRead (r : Req) (addr size : Nat)
  /-- REGISTER_WRITE (R14): A write to a register without its own row takes effect by its access code. -/
  | registerWrite (r : Req) (addr size : Nat) (v : Word)
  /-- PORST_RELEASE (R23): The release of PORST_N with the reference clocks stable samples the HSLOT strap, starts the supply monitors and lets ticks run from the next boundary. -/
  | porstRelease (hslot : Nat)
  /-- UNHELD_SIDE_CLAIM (R400): When a side has been held by no head for 10 s while this head holds its home side and no MARK has been accepted, the head starts to request CLAIM for it. -/
  | unheldSideClaim (side : Nat)
  /-- BUSY_HOLD_OFF_END (R339): A Spray packet answered with a BUSY NAK is resent once HOLD_US has elapsed. -/
  | busyHoldOffEnd (conn psn : Nat)
  /-- UMBRA_MIDWAY_SLOT (R395): At a 4 µs tick the head starts an Umbra slot midway between its boundaries. -/
  | umbraMidwaySlot
  /-- DYNAMIC_ADDRESS_ASSIGNMENT (R559): The I3C bus controller assigns the management endpoint its dynamic address through ENTDAA or SETDASA. -/
  | dynamicAddressAssignment (addr : Nat) (fromStatic : Bool)
  deriving DecidableEq, Repr

end Sys2Proof
end

