-- ==== Sys2Proof/Machine/Crypto.lean ====
section
/-!
DEFINITION. Machine/Crypto.lean: the published functions the specification names (R4): CRC32C, CRC32,
XXH64 (R49), SHA-256 and SHA-384 (R142), HMAC-SHA-256 (R52), AES-256-GCM (R133), and the little-endian and
big-endian readings of bytes (R6).
-/

namespace Sys2Proof.Machine

/-- Bytes read little-endian (R6). -/
def leNat : List Byte → Nat
  | [] => 0
  | b :: bs => b.toNat + 256 * leNat bs

/-- A number as n little-endian bytes (R6). -/
def leBytes : Nat → Nat → List Byte
  | 0, _ => []
  | n + 1, v => BitVec.ofNat 8 v :: leBytes n (v / 256)

/-- Bytes read big-endian. -/
def beNat (bs : List Byte) : Nat := bs.foldl (fun a b => a * 256 + b.toNat) 0

/-- A number as n big-endian bytes. -/
def beBytes (n v : Nat) : List Byte := (leBytes n v).reverse

/-- The little-endian field of a byte string at an offset (R6). -/
def leField (b : List Byte) (o n : Nat) : Nat := leNat ((b.drop o).take n)

/-- The field of a byte string at an offset, in network byte order (R6). -/
def beField (b : List Byte) (o n : Nat) : Nat := beNat ((b.drop o).take n)

/-- Bits hi to lo of a number. -/
def bits (v hi lo : Nat) : Nat := (v >>> lo) % 2 ^ (hi - lo + 1)

/-- One byte into a reflected CRC-32 with the given polynomial. -/
def crcByte (poly crc : Nat) (b : Byte) : Nat :=
  (List.range 8).foldl (fun c _ => if c % 2 = 1 then (c / 2) ^^^ poly else c / 2) (crc ^^^ b.toNat)

/-- CRC32C (Castagnoli), as the chapters use it. -/
def crc32c (bs : List Byte) : Nat := (bs.foldl (crcByte 0x82F63B78) 0xFFFFFFFF) ^^^ 0xFFFFFFFF

/-- CRC32 of RFC 1952. -/
def crc32 (bs : List Byte) : Nat := (bs.foldl (crcByte 0xEDB88320) 0xFFFFFFFF) ^^^ 0xFFFFFFFF

/-- The first n elements in groups of k (fuel n). -/
def chunksOf {α : Type} (k : Nat) : Nat → List α → List (List α)
  | 0, _ => []
  | _ + 1, [] => []
  | n + 1, xs => xs.take k :: chunksOf k n (xs.drop k)

/-! XXH64. -/

def xxP1 : BitVec 64 := 0x9E3779B185EBCA87
def xxP2 : BitVec 64 := 0xC2B2AE3D27D4EB4F
def xxP3 : BitVec 64 := 0x165667B19E3779F9
def xxP4 : BitVec 64 := 0x85EBCA77C2B2AE63
def xxP5 : BitVec 64 := 0x27D4EB2F165667C5

def xxRound (acc x : BitVec 64) : BitVec 64 := ((acc + x * xxP2).rotateLeft 31) * xxP1

def xxMerge (h v : BitVec 64) : BitVec 64 := (h ^^^ xxRound 0 v) * xxP1 + xxP4

def xxWord (bs : List Byte) : BitVec 64 := BitVec.ofNat 64 (leNat bs)

/-- The tail of XXH64: words of eight bytes, then one of four, then single bytes (fuel: the length). -/
def xxTail : Nat → BitVec 64 → List Byte → BitVec 64
  | 0, h, _ => h
  | n + 1, h, bs =>
    if bs.length ≥ 8 then
      xxTail n (((h ^^^ xxRound 0 (xxWord (bs.take 8))).rotateLeft 27) * xxP1 + xxP4) (bs.drop 8)
    else if bs.length ≥ 4 then
      xxTail n (((h ^^^ (xxWord (bs.take 4) * xxP1)).rotateLeft 23) * xxP2 + xxP3) (bs.drop 4)
    else match bs with
      | [] => h
      | b :: r => xxTail n (((h ^^^ (BitVec.ofNat 64 b.toNat * xxP5)).rotateLeft 11) * xxP1) r

/-- XXH64 with seed 0 (R49). -/
def xxh64 (bs : List Byte) : BitVec 64 :=
  let n := bs.length
  let stripes := chunksOf 32 (n / 32) bs
  let start : BitVec 64 :=
    if n < 32 then xxP5 else
      let acc := stripes.foldl (fun (a : BitVec 64 × BitVec 64 × BitVec 64 × BitVec 64) s =>
        (xxRound a.1 (xxWord (s.take 8)), xxRound a.2.1 (xxWord ((s.drop 8).take 8)),
         xxRound a.2.2.1 (xxWord ((s.drop 16).take 8)), xxRound a.2.2.2 (xxWord (s.drop 24))))
        (xxP1 + xxP2, xxP2, 0, 0 - xxP1)
      let h := acc.1.rotateLeft 1 + acc.2.1.rotateLeft 7 + acc.2.2.1.rotateLeft 12 + acc.2.2.2.rotateLeft 18
      xxMerge (xxMerge (xxMerge (xxMerge h acc.1) acc.2.1) acc.2.2.1) acc.2.2.2
  let h := xxTail (n + 1) (start + BitVec.ofNat 64 n) (bs.drop (n / 32 * 32))
  let h := (h ^^^ (h >>> 33)) * xxP2
  let h := (h ^^^ (h >>> 29)) * xxP3
  h ^^^ (h >>> 32)

/-- CONTENT_CHECK: the low 32 bits of XXH64 (R49). -/
def contentCheckOf (bs : List Byte) : Nat := (xxh64 bs).toNat % 2 ^ 32

/-! SHA-256 and SHA-384 (FIPS 180-4). -/

/-- The largest r below 2^n more than `r` whose k-th power is at most x, found bit by bit from the top. -/
def rootFrom (k x : Nat) : Nat → Nat → Nat
  | 0, r => r
  | n + 1, r => rootFrom k x n (if (r + 2 ^ n) ^ k ≤ x then r + 2 ^ n else r)

/-- The primes below 441: no divisor from 2 to 20 but the number itself. -/
def smallPrimes : List Nat :=
  (List.range 441).filter (fun n => decide (1 < n) && (List.range 19).all (fun d => n % (d + 2) != 0 || n == d + 2))

/-- The first 64 bits of the fractional part of the k-th root of p, as FIPS 180-4 makes its constants. -/
def rootFraction (k p : Nat) : BitVec 64 := BitVec.ofNat 64 (rootFrom k (p * 2 ^ (64 * k)) 70 0)

/-- The round constants of SHA-384: from the cube roots of the first eighty primes. -/
def sha384K : List (BitVec 64) := (smallPrimes.take 80).map (rootFraction 3)

/-- The round constants of SHA-256: the high halves of the first sixty-four of them. -/
def sha256K : List (BitVec 32) := (sha384K.take 64).map (fun k => k.extractLsb' 32 32)

/-- The parameters of a SHA-2 variant: rotations and shifts, constants, block and word size in bytes. -/
structure Sha2 (w : Nat) where
  s0 : Nat × Nat × Nat
  s1 : Nat × Nat × Nat
  e0 : Nat × Nat × Nat
  e1 : Nat × Nat × Nat
  ks : List (BitVec w)
  word : Nat
  init : List (BitVec w)

def sha2Sig {w : Nat} (r : Nat × Nat × Nat) (x : BitVec w) : BitVec w :=
  x.rotateRight r.1 ^^^ x.rotateRight r.2.1 ^^^ (x >>> r.2.2)

def sha2Big {w : Nat} (r : Nat × Nat × Nat) (x : BitVec w) : BitVec w :=
  x.rotateRight r.1 ^^^ x.rotateRight r.2.1 ^^^ x.rotateRight r.2.2

/-- The message schedule, newest word first (fuel: words still to make). -/
def sha2Schedule {w : Nat} (p : Sha2 w) : Nat → List (BitVec w) → List (BitVec w)
  | 0, ws => ws.reverse
  | n + 1, ws =>
    let x := sha2Sig p.s1 (ws.getD 1 0) + ws.getD 6 0 + sha2Sig p.s0 (ws.getD 14 0) + ws.getD 15 0
    sha2Schedule p n (x :: ws)

def sha2Block {w : Nat} (p : Sha2 w) (h : List (BitVec w)) (block : List Byte) : List (BitVec w) :=
  let ws := (chunksOf p.word 16 block).map (fun b => BitVec.ofNat w (beNat b))
  let sched := sha2Schedule p (p.ks.length - 16) ws.reverse
  let v := (sched.zip p.ks).foldl (fun (v : List (BitVec w)) wk =>
    let a := v.getD 0 0; let b := v.getD 1 0; let c := v.getD 2 0; let d := v.getD 3 0
    let e := v.getD 4 0; let f := v.getD 5 0; let g := v.getD 6 0; let hh := v.getD 7 0
    let t1 := hh + sha2Big p.e1 e + ((e &&& f) ^^^ (~~~ e &&& g)) + wk.2 + wk.1
    let t2 := sha2Big p.e0 a + ((a &&& b) ^^^ (a &&& c) ^^^ (b &&& c))
    [t1 + t2, a, b, c, d + t1, e, f, g]) h
  List.zipWith (· + ·) h v

def sha256P : Sha2 32 := {
  s0 := (7, 18, 3), s1 := (17, 19, 10), e0 := (2, 13, 22), e1 := (6, 11, 25), ks := sha256K, word := 4
  init := (smallPrimes.take 8).map (fun p => (rootFraction 2 p).extractLsb' 32 32) }

def sha384P : Sha2 64 := {
  s0 := (1, 8, 7), s1 := (19, 61, 6), e0 := (28, 34, 39), e1 := (14, 18, 41), ks := sha384K, word := 8
  init := ((smallPrimes.drop 8).take 8).map (rootFraction 2) }

/-- FIPS 180-4 padding for blocks of `blk` bytes whose length field takes `lenBytes`. -/
def sha2Pad (blk lenBytes n : Nat) : List Byte :=
  let z := (blk - (n + 1 + lenBytes) % blk) % blk
  (0x80 : Byte) :: (List.replicate z (0 : Byte) ++ beBytes lenBytes (8 * n))

/-- The chaining value after a message of whole blocks, as bytes (R146, PAD 0). -/
def sha256Chain (m : List Byte) : List Byte :=
  ((chunksOf 64 (m.length / 64) m).foldl (sha2Block sha256P) sha256P.init).flatMap (fun x => beBytes 4 x.toNat)

def sha384Chain (m : List Byte) : List Byte :=
  ((chunksOf 128 (m.length / 128) m).foldl (sha2Block sha384P) sha384P.init).flatMap (fun x => beBytes 8 x.toNat)

/-- SHA-256 (R142). -/
def sha256 (m : List Byte) : List Byte := sha256Chain (m ++ sha2Pad 64 8 m.length)

/-- SHA-384 (R142). -/
def sha384 (m : List Byte) : List Byte := (sha384Chain (m ++ sha2Pad 128 16 m.length)).take 48

/-- HMAC-SHA-256 with a key of at most 64 bytes (R143). -/
def hmacSha256 (key m : List Byte) : List Byte :=
  let k0 := key ++ List.replicate (64 - key.length) 0
  sha256 (k0.map (· ^^^ 0x5c) ++ sha256 (k0.map (· ^^^ 0x36) ++ m))

/-! AES-256 (FIPS 197) and GCM (R133). -/

/-- Multiplication in GF(2^8) with the reduction polynomial given by its low byte (fuel 8). -/
def gfMulFuel (poly : Nat) : Nat → Nat → Nat → Nat
  | 0, _, _ => 0
  | n + 1, a, b =>
    let a2 := if a ≥ 128 then ((2 * a) % 256) ^^^ poly else 2 * a
    (if b % 2 = 1 then a else 0) ^^^ gfMulFuel poly n a2 (b / 2)

def aesMul (a b : Nat) : Nat := gfMulFuel 0x1B 8 a b

/-- The inverse in the AES field, as the 254th power. -/
def aesInv (a : Nat) : Nat :=
  let a2 := aesMul a a; let a4 := aesMul a2 a2; let a8 := aesMul a4 a4; let a16 := aesMul a8 a8
  let a32 := aesMul a16 a16; let a64 := aesMul a32 a32; let a128 := aesMul a64 a64
  aesMul a128 (aesMul a64 (aesMul a32 (aesMul a16 (aesMul a8 (aesMul a4 a2)))))

def aesSbox (a : Nat) : Nat :=
  let b := BitVec.ofNat 8 (aesInv a)
  (b ^^^ b.rotateLeft 1 ^^^ b.rotateLeft 2 ^^^ b.rotateLeft 3 ^^^ b.rotateLeft 4 ^^^ 0x63).toNat

/-- The key schedule, words of four bytes, newest first (fuel: words still to make). -/
def aesExpand : Nat → Nat → Nat → List (List Nat) → List (List Nat)
  | 0, _, _, ws => ws.reverse
  | n + 1, i, rcon, ws =>
    let prev := ws.headD []
    let back := ws.getD 7 []
    let t :=
      if i % 8 = 0 then
        (match (prev.drop 1 ++ prev.take 1).map aesSbox with
          | x :: r => (x ^^^ rcon) :: r
          | [] => [])
      else if i % 8 = 4 then prev.map aesSbox else prev
    aesExpand n (i + 1) (if i % 8 = 0 then aesMul rcon 2 else rcon) (List.zipWith (· ^^^ ·) back t :: ws)

def aesShiftRows (s : List Nat) : List Nat :=
  (List.range 16).map (fun i => s.getD ((i + 4 * (i % 4)) % 16) 0)

def aesMixColumn (c : List Nat) : List Nat :=
  let a := c.getD 0 0; let b := c.getD 1 0; let d := c.getD 2 0; let e := c.getD 3 0
  [aesMul a 2 ^^^ aesMul b 3 ^^^ d ^^^ e, a ^^^ aesMul b 2 ^^^ aesMul d 3 ^^^ e,
   a ^^^ b ^^^ aesMul d 2 ^^^ aesMul e 3, aesMul a 3 ^^^ b ^^^ d ^^^ aesMul e 2]

def aesRound (s rk : List Nat) : List Nat :=
  List.zipWith (· ^^^ ·) ((chunksOf 4 4 (aesShiftRows (s.map aesSbox))).flatMap aesMixColumn) rk

/-- AES-256 of one block. -/
def aes256 (key block : List Byte) : List Byte :=
  let kw := chunksOf 4 8 (key.map (·.toNat))
  let rks := chunksOf 16 15 ((aesExpand 52 8 1 kw.reverse).flatMap id)
  let s0 := List.zipWith (· ^^^ ·) (block.map (·.toNat)) (rks.headD [])
  let s13 := ((rks.drop 1).take 13).foldl aesRound s0
  (List.zipWith (· ^^^ ·) (aesShiftRows (s13.map aesSbox)) (rks.getD 14 [])).map (BitVec.ofNat 8)

/-- Multiplication in the GCM field (fuel 128: bits of the first factor still to take). -/
def gcmMulFuel : Nat → BitVec 128 → BitVec 128 → BitVec 128
  | 0, _, _ => 0
  | n + 1, x, v =>
    let v' := if v.getLsbD 0 then (v >>> 1) ^^^ (0xE1#128 <<< 120) else v >>> 1
    (if x.getMsbD (127 - n) then v else 0) ^^^ gcmMulFuel n x v'

def gcmMul (x h : BitVec 128) : BitVec 128 := gcmMulFuel 128 x h

def pad16 (bs : List Byte) : List Byte := bs ++ List.replicate ((16 - bs.length % 16) % 16) 0

/-- GHASH over AAD, text and the length block (R137). -/
def ghash (h : BitVec 128) (aad text : List Byte) : BitVec 128 :=
  let all := pad16 aad ++ pad16 text ++ beBytes 8 (8 * aad.length) ++ beBytes 8 (8 * text.length)
  (chunksOf 16 (all.length / 16) all).foldl
    (fun y b => gcmMul (y ^^^ BitVec.ofNat 128 (beNat b)) h) 0

/-- n bytes of keystream under J0 = IV then the 32-bit counter (R133): the text's first block takes counter 2. -/
def gcmStream (key iv : List Byte) (n : Nat) : List Byte :=
  ((List.range ((n + 15) / 16)).flatMap (fun i => aes256 key (iv ++ beBytes 4 (2 + i)))).take n

/-- GCM encryption or decryption of the text of an invocation. -/
def gcmCrypt (key iv text : List Byte) : List Byte :=
  List.zipWith (· ^^^ ·) text (gcmStream key iv text.length)

/-- The GCM tag over AAD and ciphertext (R136, R137). -/
def gcmTag (key iv aad cipher : List Byte) : List Byte :=
  let h := BitVec.ofNat 128 (beNat (aes256 key (List.replicate 16 0)))
  List.zipWith (· ^^^ ·) (beBytes 16 (ghash h aad cipher).toNat) (aes256 key (iv ++ beBytes 4 1))

/-- CRC-16 with polynomial 0x1021 and initial value 0xFFFF. -/
def crc16 (b : List Byte) : Nat :=
  b.foldl (fun c x =>
    (List.range 8).foldl (fun c _ => if c ≥ 0x8000 then ((c * 2) % 0x10000) ^^^ 0x1021 else c * 2) (c ^^^ (x.toNat * 256))) 0xFFFF

end Sys2Proof.Machine
end

