-- ==== Sys2Proof/Machine/Sparse.lean ====
section
/-!
DEFINITION. Machine/Sparse.lean: keyed lists in one canonical form. `Tab` is a table keyed by a number
(slot, port, virtual controller); `Sparse` is the same list read with a default, and holds no entry equal
to its default, so equal contents are equal lists. Memory, record flash and the register file are `Sparse`.
-/

namespace Sys2Proof.Machine

/-- A table: key and value pairs, keys strictly rising. -/
abbrev Tab (α : Type) := List (Nat × α)

/-- The entry of a key, if the table has one. -/
def Tab.find {α : Type} : Tab α → Nat → Option α
  | [], _ => none
  | (k, v) :: m, a => if a = k then some v else Tab.find m a

/-- The entry of a key, or the given value. -/
def Tab.getD {α : Type} (m : Tab α) (a : Nat) (d : α) : α := (Tab.find m a).getD d

/-- The table without a key. -/
def Tab.erase {α : Type} (m : Tab α) (a : Nat) : Tab α := m.filter (fun p => p.1 ≠ a)

/-- The table with a key's entry set; the keys stay in rising order. -/
def Tab.insert {α : Type} : Tab α → Nat → α → Tab α
  | [], a, v => [(a, v)]
  | (k, w) :: m, a, v =>
    if a < k then (a, v) :: (k, w) :: m
    else if a = k then (a, v) :: m
    else (k, w) :: Tab.insert m a v

/-- The table with a present key's entry changed; an absent key changes nothing. -/
def Tab.modify {α : Type} (m : Tab α) (a : Nat) (f : α → α) : Tab α :=
  match Tab.find m a with
  | none => m
  | some v => Tab.insert m a (f v)

/-- The keys of a table. -/
def Tab.keys {α : Type} (m : Tab α) : List Nat := m.map Prod.fst

/-- The keys rise strictly. -/
def Tab.sorted {α : Type} : Tab α → Bool
  | [] => true
  | [_] => true
  | (a, _) :: (b, w) :: m => decide (a < b) && Tab.sorted ((b, w) :: m)

/-- What a key reads as: its entry, or the default of the key. -/
def Sparse.get {α : Type} (d : Nat → α) (m : Tab α) (a : Nat) : α := (Tab.find m a).getD (d a)

/-- A write: writing the default of a key removes its entry. -/
def Sparse.set {α : Type} [DecidableEq α] (d : Nat → α) (m : Tab α) (a : Nat) (v : α) : Tab α :=
  if v = d a then Tab.erase m a else Tab.insert m a v

/-- The canonical form: keys strictly rising, no entry equal to its default. -/
def Sparse.wf {α : Type} [DecidableEq α] (d : Nat → α) (m : Tab α) : Bool :=
  Tab.sorted m && m.all (fun p => decide (p.2 ≠ d p.1))

end Sys2Proof.Machine
end

