-- ==== Sys2Proof/Machine/RegMap.lean ====
section
/-!
DEFINITION. Machine/RegMap.lean: the register map (R563 to R569, R572): every register of every block as
the register tables of the chapters give it: offset, stride, count, and per field its bits, its access
code (R14), its reset value, whether a reset other than cold keeps it (R16, R463) and the values that are
not reserved encodings (R11). Reserved bits are the bits no field covers (R10). `F.X.REG.FIELD` names a
field for the operations that read or write it.
-/

namespace Sys2Proof.Machine

/-- The access codes of R14. -/
inductive Access where
  | ro | rw | w1c | w1s | wo | rws | rwl
  deriving DecidableEq, Repr

/-- A field of a register: bits `hi` to `lo`, access, reset value by instance, kept by a reset other than
cold, and the ranges of values that are not reserved (none given: every value). -/
structure FieldSpec where
  hi : Nat
  lo : Nat
  acc : Access
  reset : Nat → Nat
  kept : Bool
  legal : List (Nat × Nat)

/-- A register or an array of registers within its block (R12): offset, stride, count. -/
structure RegSpec where
  off : Nat
  stride : Nat
  count : Nat
  fields : List FieldSpec

/-- A field by the address of its register's instance 0, the stride of the array, and its bits. -/
structure Fld where
  addr : Nat
  stride : Nat
  hi : Nat
  lo : Nat
  deriving DecidableEq, Repr

/-- The field in instance `n` of its array (R12). The address stays in the 4 MiB of the block (R563) for every `n`, so that no number
of an instance, not even one that no array has, names a register of another block. -/
def Fld.nth (f : Fld) (n : Nat) : Fld :=
  { f with addr := f.addr / 0x400000 * 0x400000 + (f.addr % 0x400000 + n * f.stride) % 0x400000 }

/-- The same reset value in every instance. -/
def k (v : Nat) : Nat → Nat := fun _ => v

/-- COST of pacer class c at reset, from the class table of chapter 12. -/
def pcrResetCost (c : Nat) : Nat := [34, 34, 272, 16, 34, 34, 32, 16].getD c 0
/-- WEIGHT of pacer class c at reset. -/
def pcrResetWeight (c : Nat) : Nat := [8, 4, 16, 2, 1, 1, 4, 2].getD c 0
/-- CAP of pacer class c at reset; the CAP of PATROL (c = 3) is ignored, and the table gives it no number
(DESIGN CHOICE 0, assumption 6). -/
def pcrResetCap (c : Nat) : Nat :=
  [245000, 200000, 100000, 0, 100000, 50000, 50000, 100000].getD c 0
/-- URGENT of pacer class c at reset. -/
def pcrResetUrgent (c : Nat) : Nat := [160000, 100000].getD c 0
/-- ACK_TICKS of fault class n + 1 at reset. -/
def fltResetAck (n : Nat) : Nat := [0, 5000000, 5000000, 500000, 250000].getD n 0

/-- The registers of block TCK (01_tick_architecture.md). -/
def regsTCK : List RegSpec :=
  [
  -- TCK.CONFIG
  ⟨0x100, 0x0, 1, [⟨1, 0, .rwl, (k 1), false, [(0, 2)]⟩]⟩,
  -- TCK.STATUS
  ⟨0x108, 0x0, 1, [⟨31, 16, .ro, (k 4000), false, []⟩, ⟨7, 6, .ro, (k 0), false, []⟩, ⟨5, 5, .ro, (k 0), false, []⟩, ⟨4, 4, .ro, (k 0), false, []⟩, ⟨2, 0, .ro, (k 0), false, []⟩]⟩,
  -- TCK.TICK_COUNT
  ⟨0x110, 0x0, 1, [⟨63, 0, .ro, (k 0), true, []⟩]⟩,
  -- TCK.REF_CTL
  ⟨0x118, 0x0, 1, [⟨1, 0, .rw, (k 2), false, [(0, 3)]⟩]⟩,
  -- TCK.PHASE_ERR
  ⟨0x120, 0x0, 1, [⟨15, 0, .ro, (k 0), false, []⟩]⟩,
  -- TCK.TRIM
  ⟨0x128, 0x0, 1, [⟨31, 0, .ro, (k 0), false, []⟩]⟩,
  -- TCK.PEER_OFFSET
  ⟨0x130, 0x0, 1, [⟨15, 0, .ro, (k 0), false, []⟩]⟩,
  -- TCK.EVENT
  ⟨0x138, 0x0, 1, [⟨5, 5, .w1c, (k 0), false, []⟩, ⟨4, 4, .w1c, (k 0), false, []⟩, ⟨3, 3, .w1c, (k 0), false, []⟩, ⟨2, 2, .w1c, (k 0), false, []⟩, ⟨1, 1, .w1c, (k 0), false, []⟩, ⟨0, 0, .w1c, (k 0), false, []⟩]⟩] ++
  [
  -- TCK.EVENT_EN
  ⟨0x140, 0x0, 1, [⟨5, 5, .rw, (k 0), false, []⟩, ⟨4, 4, .rw, (k 0), false, []⟩, ⟨3, 3, .rw, (k 0), false, []⟩, ⟨2, 2, .rw, (k 0), false, []⟩, ⟨1, 1, .rw, (k 0), false, []⟩, ⟨0, 0, .rw, (k 0), false, []⟩]⟩,
  -- TCK.RR_STATE
  ⟨0x148, 0x0, 1, [⟨10, 10, .ro, (k 0), false, []⟩, ⟨9, 0, .ro, (k 0), false, []⟩]⟩,
  -- TCK.SAMPLED
  ⟨0x150, 0x0, 1, [⟨11, 0, .ro, (k 0), false, []⟩]⟩,
  -- TCK.CUT_COUNT
  ⟨0x200, 0x8, 6, [⟨63, 0, .ro, (k 0), true, []⟩]⟩]

/-- The registers of block LCS (14_modes_and_life_cycle.md). -/
def regsLCS : List RegSpec :=
  [
  -- LCS.STATUS
  ⟨0x100, 0x0, 1, [⟨31, 28, .ro, (k 0), false, []⟩, ⟨25, 25, .ro, (k 0), false, []⟩, ⟨24, 24, .ro, (k 0), false, []⟩, ⟨23, 23, .ro, (k 0), false, []⟩, ⟨22, 20, .ro, (k 0), false, []⟩, ⟨19, 19, .ro, (k 0), false, []⟩, ⟨17, 16, .ro, (k 0), false, []⟩, ⟨15, 15, .ro, (k 0), false, []⟩, ⟨14, 14, .ro, (k 0), false, []⟩, ⟨13, 13, .ro, (k 0), false, []⟩, ⟨10, 8, .ro, (k 0), false, []⟩, ⟨3, 0, .ro, (k 0), false, []⟩]⟩,
  -- LCS.RESET_CAUSE
  ⟨0x108, 0x0, 1, [⟨2, 0, .ro, (k 0), false, []⟩]⟩,
  -- LCS.SW_RESET
  ⟨0x110, 0x0, 1, [⟨15, 0, .wo, (k 0), false, []⟩]⟩,
  -- LCS.START_CTL
  ⟨0x118, 0x0, 1, [⟨63, 32, .rws, (k 100000), true, [(10000, 4294967295)]⟩, ⟨31, 0, .rws, (k 50000), true, [(1000, 4294967295)]⟩]⟩,
  -- LCS.CMD
  ⟨0x120, 0x0, 1, [⟨63, 32, .wo, (k 0), false, []⟩, ⟨9, 8, .wo, (k 0), false, []⟩, ⟨3, 0, .wo, (k 0), false, [(1, 14)]⟩]⟩,
  -- LCS.CMD_STATUS
  ⟨0x128, 0x0, 1, [⟨8, 8, .ro, (k 0), false, []⟩, ⟨3, 0, .ro, (k 0), false, []⟩]⟩,
  -- LCS.NONCE0
  ⟨0x130, 0x0, 1, [⟨63, 0, .ro, (k 0), false, []⟩]⟩,
  -- LCS.NONCE1
  ⟨0x138, 0x0, 1, [⟨63, 0, .ro, (k 0), false, []⟩]⟩] ++
  [
  -- LCS.KEYS
  ⟨0x140, 0x0, 1, [⟨13, 12, .ro, (k 0), false, []⟩, ⟨8, 8, .ro, (k 0), false, []⟩, ⟨7, 4, .ro, (k 0), false, []⟩, ⟨3, 0, .ro, (k 0), false, []⟩]⟩,
  -- LCS.ROLLBACK
  ⟨0x148, 0x0, 1, [⟨36, 32, .ro, (k 0), false, []⟩, ⟨31, 0, .ro, (k 0), false, []⟩]⟩,
  -- LCS.SERIAL0
  ⟨0x150, 0x0, 1, [⟨63, 0, .ro, (k 0), false, []⟩]⟩,
  -- LCS.SERIAL1
  ⟨0x158, 0x0, 1, [⟨63, 0, .ro, (k 0), false, []⟩]⟩,
  -- LCS.EVENT
  ⟨0x160, 0x0, 1, [⟨3, 3, .w1c, (k 0), false, []⟩, ⟨2, 2, .w1c, (k 0), false, []⟩, ⟨1, 1, .w1c, (k 0), false, []⟩, ⟨0, 0, .w1c, (k 0), false, []⟩]⟩,
  -- LCS.EVENT_EN
  ⟨0x168, 0x0, 1, [⟨3, 3, .rw, (k 0), false, []⟩, ⟨2, 2, .rw, (k 0), false, []⟩, ⟨1, 1, .rw, (k 0), false, []⟩, ⟨0, 0, .rw, (k 0), false, []⟩]⟩,
  -- LCS.PFD_STATUS
  ⟨0x170, 0x0, 1, [⟨33, 32, .ro, (k 0), true, []⟩, ⟨31, 16, .ro, (k 0), true, []⟩, ⟨15, 0, .ro, (k 0), true, []⟩]⟩,
  -- LCS.STAT
  ⟨0x200, 0x8, 8, [⟨63, 0, .ro, (k 0), true, []⟩]⟩] ++
  [
  -- LCS.DATA
  ⟨0x400, 0x8, 32, [⟨63, 0, .rw, (k 0), false, []⟩]⟩]

/-- The registers of block SIM (13_structure_images.md). -/
def regsSIM : List RegSpec :=
  [
  -- SIM.STATUS
  ⟨0x100, 0x0, 1, [⟨23, 20, .ro, (k 0), false, []⟩, ⟨19, 16, .ro, (k 0), false, []⟩, ⟨11, 10, .ro, (k 0), false, []⟩, ⟨9, 8, .ro, (k 0), false, []⟩, ⟨7, 7, .ro, (k 0), false, []⟩, ⟨2, 0, .ro, (k 0), false, []⟩]⟩,
  -- SIM.IMAGE
  ⟨0x108, 0x0, 1, [⟨63, 32, .ro, (k 0), false, []⟩, ⟨31, 0, .ro, (k 0), false, []⟩]⟩,
  -- SIM.BOOT_CTL
  ⟨0x110, 0x0, 1, [⟨5, 5, .ro, (k 0), true, []⟩, ⟨4, 4, .rws, (k 0), true, []⟩, ⟨1, 0, .rws, (k 0), true, [(0, 2)]⟩]⟩,
  -- SIM.CMD
  ⟨0x118, 0x0, 1, [⟨2, 0, .wo, (k 0), false, [(1, 5)]⟩]⟩,
  -- SIM.ARG
  ⟨0x120, 0x0, 1, [⟨47, 6, .rw, (k 0), false, []⟩, ⟨1, 0, .rw, (k 0), false, [(0, 2)]⟩]⟩,
  -- SIM.AT_TICK
  ⟨0x128, 0x0, 1, [⟨63, 0, .rw, (k 0), false, []⟩]⟩,
  -- SIM.SWAP_CTL
  ⟨0x130, 0x0, 1, [⟨31, 0, .rw, (k 500000), false, [(500, 4294967295)]⟩]⟩,
  -- SIM.SLOT_A
  ⟨0x138, 0x0, 1, [⟨63, 32, .ro, (k 0), false, []⟩, ⟨31, 28, .ro, (k 0), false, []⟩, ⟨27, 24, .ro, (k 0), false, []⟩, ⟨23, 16, .ro, (k 0), false, []⟩, ⟨0, 0, .ro, (k 0), false, []⟩]⟩] ++
  [
  -- SIM.SLOT_B
  ⟨0x140, 0x0, 1, [⟨63, 32, .ro, (k 0), false, []⟩, ⟨31, 28, .ro, (k 0), false, []⟩, ⟨27, 24, .ro, (k 0), false, []⟩, ⟨23, 16, .ro, (k 0), false, []⟩, ⟨0, 0, .ro, (k 0), false, []⟩]⟩,
  -- SIM.EVENT
  ⟨0x150, 0x0, 1, [⟨8, 8, .w1c, (k 0), false, []⟩, ⟨7, 7, .w1c, (k 0), false, []⟩, ⟨6, 6, .w1c, (k 0), false, []⟩, ⟨5, 5, .w1c, (k 0), false, []⟩, ⟨4, 4, .w1c, (k 0), false, []⟩, ⟨3, 3, .w1c, (k 0), false, []⟩, ⟨2, 2, .w1c, (k 0), false, []⟩, ⟨1, 1, .w1c, (k 0), false, []⟩, ⟨0, 0, .w1c, (k 0), false, []⟩]⟩,
  -- SIM.EVENT_EN
  ⟨0x158, 0x0, 1, [⟨8, 8, .rw, (k 0), false, []⟩, ⟨7, 7, .rw, (k 0), false, []⟩, ⟨6, 6, .rw, (k 0), false, []⟩, ⟨5, 5, .rw, (k 0), false, []⟩, ⟨4, 4, .rw, (k 0), false, []⟩, ⟨3, 3, .rw, (k 0), false, []⟩, ⟨2, 2, .rw, (k 0), false, []⟩, ⟨1, 1, .rw, (k 0), false, []⟩, ⟨0, 0, .rw, (k 0), false, []⟩]⟩,
  -- SIM.STAT
  ⟨0x200, 0x8, 6, [⟨63, 0, .ro, (k 0), true, []⟩]⟩,
  -- SIM.JOBFMT
  ⟨0x300, 0x8, 4, [⟨63, 0, .ro, (k 0), false, []⟩]⟩]

/-- The registers of block APC (18_control_complex.md). -/
def regsAPC : List RegSpec :=
  [
  -- APC.CORE_RUN
  ⟨0x100, 0x0, 1, [⟨47, 0, .rw, (k 0), false, []⟩]⟩,
  -- APC.RESET_VEC
  ⟨0x108, 0x0, 1, [⟨47, 2, .rws, (k 0), true, []⟩]⟩,
  -- APC.BOOT_CTL
  ⟨0x110, 0x0, 1, [⟨5, 5, .ro, (k 0), true, []⟩, ⟨4, 4, .rws, (k 0), true, []⟩, ⟨1, 0, .rws, (k 0), true, [(0, 2)]⟩]⟩,
  -- APC.IRQ_EOI
  ⟨0x118, 0x0, 1, [⟨9, 0, .wo, (k 0), false, []⟩]⟩,
  -- APC.PCIE_CTL
  ⟨0x120, 0x0, 1, [⟨0, 0, .rw, (k 0), false, []⟩, ⟨1, 1, .rw, (k 1), false, []⟩, ⟨4, 2, .rw, (k 5), false, [(1, 5)]⟩]⟩,
  -- APC.PCIE_STATUS
  ⟨0x128, 0x0, 1, [⟨3, 0, .ro, (k 0), false, []⟩, ⟨6, 4, .ro, (k 0), false, []⟩, ⟨8, 8, .ro, (k 0), false, []⟩]⟩,
  -- APC.MCTP_CFG
  ⟨0x130, 0x0, 1, [⟨17, 17, .ro, (k 0), false, []⟩, ⟨16, 16, .rws, (k 0), true, []⟩, ⟨15, 8, .ro, (k 0), false, []⟩, ⟨6, 0, .rws, (k 42), true, []⟩]⟩,
  -- APC.MCTP_RX_BASE
  ⟨0x138, 0x0, 1, [⟨47, 17, .rw, (k 0), false, []⟩, ⟨0, 0, .rw, (k 0), false, []⟩]⟩] ++
  [
  -- APC.MCTP_RX_IDX
  ⟨0x140, 0x0, 1, [⟨31, 16, .rw, (k 0), false, []⟩, ⟨15, 0, .ro, (k 0), false, []⟩]⟩,
  -- APC.MCTP_TX_BASE
  ⟨0x148, 0x0, 1, [⟨47, 17, .rw, (k 0), false, []⟩, ⟨0, 0, .rw, (k 0), false, []⟩]⟩,
  -- APC.MCTP_TX_IDX
  ⟨0x150, 0x0, 1, [⟨31, 16, .ro, (k 0), false, []⟩, ⟨15, 0, .rw, (k 0), false, []⟩]⟩,
  -- APC.MTIME
  ⟨0x158, 0x0, 1, [⟨63, 0, .ro, (k 0), false, []⟩]⟩,
  -- APC.EVENT
  ⟨0x160, 0x0, 1, [⟨7, 7, .w1c, (k 0), false, []⟩, ⟨6, 6, .w1c, (k 0), false, []⟩, ⟨5, 5, .w1c, (k 0), false, []⟩, ⟨4, 4, .w1c, (k 0), false, []⟩, ⟨3, 3, .w1c, (k 0), false, []⟩, ⟨2, 2, .w1c, (k 0), false, []⟩, ⟨1, 1, .w1c, (k 0), false, []⟩, ⟨0, 0, .w1c, (k 0), false, []⟩]⟩,
  -- APC.EVENT_EN
  ⟨0x168, 0x0, 1, [⟨7, 7, .rw, (k 0), false, []⟩, ⟨6, 6, .rw, (k 0), false, []⟩, ⟨5, 5, .rw, (k 0), false, []⟩, ⟨4, 4, .rw, (k 0), false, []⟩, ⟨3, 3, .rw, (k 0), false, []⟩, ⟨2, 2, .rw, (k 0), false, []⟩, ⟨1, 1, .rw, (k 0), false, []⟩, ⟨0, 0, .rw, (k 0), false, []⟩]⟩,
  -- APC.STAT
  ⟨0x200, 0x8, 8, [⟨63, 0, .ro, (k 0), true, []⟩]⟩,
  -- APC.IRQ_PEND
  ⟨0x400, 0x8, 16, [⟨63, 0, .ro, (k 0), false, []⟩]⟩] ++
  [
  -- APC.MTIMECMP
  ⟨0x2000, 0x8, 48, [⟨63, 0, .rw, (k 18446744073709551615), false, []⟩]⟩,
  -- APC.IRQ_ROUTE
  ⟨0x4000, 0x8, 1024, [⟨63, 63, .rw, (k 0), false, []⟩, ⟨62, 62, .ro, (k 0), false, []⟩, ⟨61, 61, .ro, (k 0), false, []⟩, ⟨47, 36, .rw, (k 0), false, []⟩, ⟨29, 24, .rw, (k 0), false, [(0, 47)]⟩, ⟨16, 16, .rw, (k 0), false, []⟩, ⟨7, 0, .rw, (k 0), false, []⟩]⟩,
  -- APC.MSI_TARGET
  ⟨0x8000, 0x0, 1, [⟨63, 0, .wo, (k 0), false, []⟩]⟩]

/-- The registers of block MEM (18_control_complex.md). -/
def regsMEM : List RegSpec :=
  [
  -- MEM.STATUS
  ⟨0x100, 0x0, 1, [⟨3, 3, .ro, (k 0), false, []⟩, ⟨2, 2, .ro, (k 0), false, []⟩, ⟨1, 1, .ro, (k 0), false, []⟩, ⟨0, 0, .ro, (k 0), false, []⟩, ⟨31, 16, .ro, (k 0), false, []⟩]⟩,
  -- MEM.DDR_SIZE
  ⟨0x108, 0x0, 1, [⟨11, 0, .ro, (k 0), false, []⟩]⟩,
  -- MEM.VIOL
  ⟨0x110, 0x0, 1, [⟨63, 63, .ro, (k 0), false, []⟩, ⟨54, 54, .ro, (k 0), false, []⟩, ⟨52, 48, .ro, (k 0), false, []⟩, ⟨47, 0, .ro, (k 0), false, []⟩]⟩,
  -- MEM.SCRUB_CTL
  ⟨0x118, 0x0, 1, [⟨23, 16, .rw, (k 100), false, [(10, 255)]⟩, ⟨7, 0, .rw, (k 24), false, [(1, 168)]⟩]⟩,
  -- MEM.EVENT
  ⟨0x130, 0x0, 1, [⟨3, 3, .w1c, (k 0), false, []⟩, ⟨2, 2, .w1c, (k 0), false, []⟩, ⟨1, 1, .w1c, (k 0), false, []⟩, ⟨0, 0, .w1c, (k 0), false, []⟩]⟩,
  -- MEM.EVENT_EN
  ⟨0x138, 0x0, 1, [⟨3, 3, .rw, (k 0), false, []⟩, ⟨2, 2, .rw, (k 0), false, []⟩, ⟨1, 1, .rw, (k 0), false, []⟩, ⟨0, 0, .rw, (k 0), false, []⟩]⟩,
  -- MEM.STAT
  ⟨0x200, 0x8, 6, [⟨63, 0, .ro, (k 0), true, []⟩]⟩,
  -- MEM.PART_BASE
  ⟨0x1000, 0x20, 16, [⟨47, 21, .rwl, (k 0), false, []⟩]⟩] ++
  [
  -- MEM.PART_SIZE
  ⟨0x1008, 0x20, 16, [⟨47, 21, .rwl, (k 0), false, []⟩]⟩,
  -- MEM.PART_CTL
  ⟨0x1010, 0x20, 16, [⟨63, 63, .rwl, (k 0), false, []⟩, ⟨34, 32, .rwl, (k 0), false, [(0, 5)]⟩, ⟨24, 24, .rwl, (k 0), false, []⟩, ⟨23, 0, .rwl, (k 0), false, []⟩]⟩,
  -- MEM.CH_STATUS
  ⟨0x2000, 0x8, 16, [⟨63, 32, .ro, (k 0), true, []⟩, ⟨31, 16, .ro, (k 0), true, []⟩, ⟨1, 0, .ro, (k 0), false, []⟩]⟩]

/-- The registers of block HPT (09_host_ports_and_transports.md). -/
def regsHPT : List RegSpec :=
  [
  -- HPT.CONFIG
  ⟨0x100, 0x0, 1, [⟨1, 0, .rwl, (k 0), false, [(0, 2)]⟩]⟩,
  -- HPT.STATUS
  ⟨0x108, 0x0, 1, [⟨31, 0, .ro, (k 0), false, []⟩]⟩,
  -- HPT.SPRAY_CTL
  ⟨0x110, 0x0, 1, [⟨63, 48, .rw, (k 10), false, [(1, 65535)]⟩, ⟨47, 32, .rw, (k 4096), false, [(64, 65535)]⟩, ⟨31, 20, .rw, (k 256), false, [(8, 4095)]⟩, ⟨17, 16, .rw, (k 2), false, [(1, 3)]⟩, ⟨15, 0, .rw, (k 18515), false, []⟩]⟩,
  -- HPT.ROCE_CC
  ⟨0x118, 0x0, 1, [⟨31, 16, .rw, (k 2000), false, [(1, 65535)]⟩, ⟨7, 0, .rw, (k 25), false, [(4, 255)]⟩]⟩,
  -- HPT.REGION_BASE
  ⟨0x120, 0x0, 1, [⟨47, 19, .rw, (k 0), false, []⟩, ⟨0, 0, .rw, (k 0), false, []⟩]⟩,
  -- HPT.TRIG_BASE
  ⟨0x128, 0x0, 1, [⟨47, 19, .rw, (k 0), false, []⟩, ⟨0, 0, .rw, (k 0), false, []⟩]⟩,
  -- HPT.SPRAY_DB
  ⟨0x130, 0x0, 1, [⟨48, 32, .wo, (k 0), false, []⟩, ⟨31, 0, .wo, (k 0), false, []⟩]⟩,
  -- HPT.TRIG_CMD
  ⟨0x138, 0x0, 1, [⟨63, 62, .wo, (k 0), false, [(1, 2)]⟩, ⟨47, 32, .wo, (k 0), false, [(1, 65535)]⟩, ⟨31, 0, .wo, (k 0), false, []⟩]⟩] ++
  [
  -- HPT.EVENT
  ⟨0x140, 0x0, 1, [⟨4, 4, .w1c, (k 0), false, []⟩, ⟨3, 3, .w1c, (k 0), false, []⟩, ⟨2, 2, .w1c, (k 0), false, []⟩, ⟨1, 1, .w1c, (k 0), false, []⟩, ⟨0, 0, .w1c, (k 0), false, []⟩]⟩,
  -- HPT.EVENT_EN
  ⟨0x148, 0x0, 1, [⟨4, 4, .rw, (k 0), false, []⟩, ⟨3, 3, .rw, (k 0), false, []⟩, ⟨2, 2, .rw, (k 0), false, []⟩, ⟨1, 1, .rw, (k 0), false, []⟩, ⟨0, 0, .rw, (k 0), false, []⟩]⟩,
  -- HPT.STAT
  ⟨0x200, 0x8, 16, [⟨63, 0, .ro, (k 0), true, []⟩]⟩,
  -- HPT.PORT_CTL
  ⟨0x1000, 0x40, 32, [⟨0, 0, .rw, (k 1), false, []⟩]⟩,
  -- HPT.PORT_STATUS
  ⟨0x1008, 0x40, 32, [⟨7, 4, .ro, (k 0), false, []⟩, ⟨1, 0, .ro, (k 0), false, []⟩]⟩,
  -- HPT.PORT_MAC
  ⟨0x1010, 0x40, 32, [⟨47, 0, .rws, (k 0), true, []⟩]⟩,
  -- HPT.PORT_ERR
  ⟨0x1018, 0x40, 32, [⟨63, 32, .ro, (k 0), true, []⟩, ⟨31, 0, .ro, (k 0), true, []⟩]⟩,
  -- HPT.IP_ADDR_LO
  ⟨0x2000, 0x20, 256, [⟨63, 0, .rw, (k 0), false, []⟩]⟩] ++
  [
  -- HPT.IP_ADDR_HI
  ⟨0x2008, 0x20, 256, [⟨63, 0, .rw, (k 0), false, []⟩]⟩,
  -- HPT.IP_CTL
  ⟨0x2010, 0x20, 256, [⟨7, 7, .rw, (k 0), false, []⟩, ⟨6, 6, .rw, (k 0), false, []⟩, ⟨4, 0, .rw, (k 0), false, []⟩]⟩,
  -- HPT.RING_BASE
  ⟨0x4000, 0x20, 258, [⟨47, 5, .rw, (k 0), false, []⟩]⟩,
  -- HPT.RING_CFG
  ⟨0x4008, 0x20, 258, [⟨12, 8, .rw, (k 4), false, [(4, 16)]⟩, ⟨0, 0, .rw, (k 0), false, []⟩]⟩,
  -- HPT.RING_PROD
  ⟨0x4010, 0x20, 257, [⟨31, 0, .ro, (k 0), false, []⟩]⟩,
  -- HPT.RING_CONS
  ⟨0x4018, 0x20, 257, [⟨31, 0, .rw, (k 0), false, []⟩]⟩,
  -- HPT.RAWTX_PROD
  ⟨0x6030, 0x0, 1, [⟨31, 0, .rw, (k 0), false, []⟩]⟩,
  -- HPT.RAWTX_CONS
  ⟨0x6038, 0x0, 1, [⟨31, 0, .ro, (k 0), false, []⟩]⟩]

/-- The registers of block QPC (09_host_ports_and_transports.md). -/
def regsQPC : List RegSpec :=
  [
  -- QPC.CONFIG
  ⟨0x100, 0x0, 1, [⟨47, 26, .rwl, (k 0), false, []⟩]⟩,
  -- QPC.STATUS
  ⟨0x108, 0x0, 1, [⟨43, 32, .ro, (k 0), false, []⟩, ⟨26, 16, .ro, (k 0), false, []⟩, ⟨14, 0, .ro, (k 0), false, []⟩]⟩,
  -- QPC.CMD
  ⟨0x110, 0x0, 1, [⟨19, 17, .wo, (k 0), false, [(1, 4)]⟩, ⟨16, 0, .wo, (k 0), false, []⟩]⟩,
  -- QPC.CMD_STATUS
  ⟨0x118, 0x0, 1, [⟨8, 8, .ro, (k 0), false, []⟩, ⟨7, 6, .ro, (k 0), false, []⟩, ⟨3, 0, .ro, (k 0), false, []⟩]⟩,
  -- QPC.ERR_LAST
  ⟨0x120, 0x0, 1, [⟨23, 20, .ro, (k 0), false, []⟩, ⟨16, 0, .ro, (k 0), false, []⟩]⟩,
  -- QPC.EVENT
  ⟨0x130, 0x0, 1, [⟨1, 1, .w1c, (k 0), false, []⟩, ⟨0, 0, .w1c, (k 0), false, []⟩]⟩,
  -- QPC.EVENT_EN
  ⟨0x138, 0x0, 1, [⟨1, 1, .rw, (k 0), false, []⟩, ⟨0, 0, .rw, (k 0), false, []⟩]⟩,
  -- QPC.STAT
  ⟨0x200, 0x8, 8, [⟨63, 0, .ro, (k 0), true, []⟩]⟩] ++
  [
  -- QPC.CTX_DATA
  ⟨0x400, 0x8, 16, [⟨63, 0, .rw, (k 0), false, []⟩]⟩]

/-- The registers of block CMF (08_command_service.md). -/
def regsCMF : List RegSpec :=
  [
  -- CMF.CONFIG
  ⟨0x100, 0x0, 1, [⟨39, 32, .rwl, (k 10), false, [(1, 255)]⟩, ⟨19, 16, .rwl, (k 18), false, [(14, 18)]⟩, ⟨12, 8, .rwl, (k 8), false, [(0, 16)]⟩, ⟨3, 0, .rwl, (k 9), false, [(5, 9)]⟩]⟩,
  -- CMF.STATUS
  ⟨0x108, 0x0, 1, [⟨20, 20, .ro, (k 0), false, []⟩, ⟨18, 0, .ro, (k 0), false, []⟩]⟩,
  -- CMF.ADMIT_CTL
  ⟨0x110, 0x0, 1, [⟨47, 16, .rw, (k 500000), false, [(50000, 4294967295)]⟩, ⟨15, 0, .rw, (k 1024), false, [(16, 4096)]⟩]⟩,
  -- CMF.NS_SEL
  ⟨0x118, 0x0, 1, [⟨14, 0, .rw, (k 1), false, [(1, 16384)]⟩]⟩,
  -- CMF.NS_DATA0
  ⟨0x120, 0x0, 1, [⟨63, 0, .rw, (k 0), false, []⟩]⟩,
  -- CMF.NS_DATA1
  ⟨0x128, 0x0, 1, [⟨63, 32, .rw, (k 0), false, []⟩, ⟨31, 0, .rw, (k 0), false, []⟩]⟩,
  -- CMF.NS_DATA2
  ⟨0x130, 0x0, 1, [⟨27, 27, .ro, (k 0), false, []⟩, ⟨26, 26, .rw, (k 0), false, []⟩, ⟨25, 25, .rw, (k 0), false, []⟩, ⟨24, 24, .rw, (k 0), false, []⟩, ⟨20, 16, .rw, (k 0), false, []⟩, ⟨11, 0, .rw, (k 0), false, []⟩]⟩,
  -- CMF.NS_CMD
  ⟨0x138, 0x0, 1, [⟨1, 0, .wo, (k 0), false, [(1, 3)]⟩]⟩] ++
  [
  -- CMF.NS_STATUS
  ⟨0x140, 0x0, 1, [⟨8, 8, .ro, (k 0), false, []⟩, ⟨3, 0, .ro, (k 0), false, []⟩]⟩,
  -- CMF.ACT_CMD
  ⟨0x148, 0x0, 1, [⟨1, 0, .wo, (k 0), false, [(1, 2)]⟩]⟩,
  -- CMF.ACT_STATUS
  ⟨0x150, 0x0, 1, [⟨47, 32, .ro, (k 0), false, []⟩, ⟨7, 4, .ro, (k 0), false, []⟩, ⟨1, 1, .ro, (k 0), false, []⟩, ⟨0, 0, .ro, (k 0), false, []⟩]⟩,
  -- CMF.SMART_BASE
  ⟨0x158, 0x0, 1, [⟨47, 9, .rw, (k 0), false, []⟩, ⟨0, 0, .rw, (k 0), false, []⟩]⟩,
  -- CMF.EVENT
  ⟨0x160, 0x0, 1, [⟨5, 5, .w1c, (k 0), false, []⟩, ⟨4, 4, .w1c, (k 0), false, []⟩, ⟨3, 3, .w1c, (k 0), false, []⟩, ⟨2, 2, .w1c, (k 0), false, []⟩, ⟨1, 1, .w1c, (k 0), false, []⟩, ⟨0, 0, .w1c, (k 0), false, []⟩]⟩,
  -- CMF.EVENT_EN
  ⟨0x168, 0x0, 1, [⟨5, 5, .rw, (k 0), false, []⟩, ⟨4, 4, .rw, (k 0), false, []⟩, ⟨3, 3, .rw, (k 0), false, []⟩, ⟨2, 2, .rw, (k 0), false, []⟩, ⟨1, 1, .rw, (k 0), false, []⟩, ⟨0, 0, .rw, (k 0), false, []⟩]⟩,
  -- CMF.STAT
  ⟨0x200, 0x8, 16, [⟨63, 0, .ro, (k 0), true, []⟩]⟩,
  -- CMF.ANA
  ⟨0x1000, 0x8, 32, [⟨63, 32, .ro, (k 0), false, []⟩, ⟨5, 4, .rw, (k 0), false, [(0, 2)]⟩, ⟨3, 0, .ro, (k 3), false, []⟩]⟩]

/-- The registers of block VCT (10_virtual_controllers.md). -/
def regsVCT : List RegSpec :=
  [
  -- VCT.CONFIG
  ⟨0x100, 0x0, 1, [⟨27, 11, .rwl, (k 65536), false, [(1024, 65536)]⟩, ⟨10, 0, .rwl, (k 1024), false, [(1, 1024)]⟩]⟩,
  -- VCT.DESC_BASE
  ⟨0x108, 0x0, 1, [⟨47, 20, .rw, (k 0), false, []⟩]⟩,
  -- VCT.NSMAP_BASE
  ⟨0x110, 0x0, 1, [⟨47, 20, .rw, (k 0), false, []⟩]⟩,
  -- VCT.CMD
  ⟨0x118, 0x0, 1, [⟨2, 0, .wo, (k 0), false, [(1, 5)]⟩]⟩,
  -- VCT.ARG
  ⟨0x120, 0x0, 1, [⟨63, 48, .rw, (k 0), false, []⟩, ⟨41, 32, .rw, (k 0), false, []⟩, ⟨9, 0, .rw, (k 0), false, []⟩]⟩,
  -- VCT.CMD_STATUS
  ⟨0x128, 0x0, 1, [⟨8, 8, .ro, (k 0), false, []⟩, ⟨3, 0, .ro, (k 0), false, []⟩]⟩,
  -- VCT.MOVE_CTL
  ⟨0x130, 0x0, 1, [⟨15, 0, .rw, (k 500), false, [(50, 65535)]⟩]⟩,
  -- VCT.MOVE_STATUS
  ⟨0x138, 0x0, 1, [⟨63, 48, .ro, (k 0), false, []⟩, ⟨19, 16, .ro, (k 0), false, []⟩, ⟨11, 8, .ro, (k 0), false, []⟩, ⟨1, 1, .ro, (k 0), false, []⟩, ⟨0, 0, .ro, (k 0), false, []⟩]⟩] ++
  [
  -- VCT.SAVE_ADDR
  ⟨0x140, 0x0, 1, [⟨47, 6, .rw, (k 0), false, []⟩]⟩,
  -- VCT.RESTORE_BUF
  ⟨0x148, 0x0, 1, [⟨63, 48, .rw, (k 0), false, []⟩, ⟨47, 6, .rw, (k 0), false, []⟩, ⟨0, 0, .rw, (k 0), false, []⟩]⟩,
  -- VCT.EVENT
  ⟨0x150, 0x0, 1, [⟨3, 3, .w1c, (k 0), false, []⟩, ⟨2, 2, .w1c, (k 0), false, []⟩, ⟨1, 1, .w1c, (k 0), false, []⟩, ⟨0, 0, .w1c, (k 0), false, []⟩]⟩,
  -- VCT.EVENT_EN
  ⟨0x158, 0x0, 1, [⟨3, 3, .rw, (k 0), false, []⟩, ⟨2, 2, .rw, (k 0), false, []⟩, ⟨1, 1, .rw, (k 0), false, []⟩, ⟨0, 0, .rw, (k 0), false, []⟩]⟩,
  -- VCT.STAT
  ⟨0x200, 0x8, 8, [⟨63, 0, .ro, (k 0), true, []⟩]⟩,
  -- VCT.VC_STATE
  ⟨0x1000, 0x8, 1024, [⟨63, 48, .ro, (k 0), false, []⟩, ⟨39, 20, .ro, (k 0), false, []⟩, ⟨4, 4, .ro, (k 0), false, []⟩, ⟨2, 0, .ro, (k 0), false, []⟩]⟩]

/-- The registers of block RDX (02_data_path.md). -/
def regsRDX : List RegSpec :=
  [
  -- RDX.CONFIG
  ⟨0x100, 0x0, 1, [⟨13, 10, .rwl, (k 0), false, []⟩, ⟨9, 9, .rwl, (k 1), false, []⟩, ⟨8, 8, .rwl, (k 1), false, []⟩, ⟨7, 4, .rwl, (k 10), false, [(0, 10)]⟩, ⟨1, 0, .rwl, (k 2), false, []⟩]⟩,
  -- RDX.SB_BASE
  ⟨0x108, 0x0, 1, [⟨47, 0, .ro, (k 0), false, []⟩]⟩,
  -- RDX.SB_STATUS
  ⟨0x110, 0x0, 1, [⟨19, 19, .ro, (k 0), false, []⟩, ⟨18, 0, .ro, (k 262144), false, []⟩]⟩,
  -- RDX.SB_FILL
  ⟨0x118, 0x0, 1, [⟨63, 48, .ro, (k 0), false, []⟩, ⟨31, 0, .ro, (k 0), false, []⟩]⟩,
  -- RDX.MERGE_CTL
  ⟨0x120, 0x0, 1, [⟨12, 8, .rwl, (k 22), false, [(16, 24)]⟩, ⟨0, 0, .rw, (k 1), false, []⟩]⟩,
  -- RDX.MERGE_STATUS
  ⟨0x128, 0x0, 1, [⟨24, 0, .ro, (k 0), false, []⟩]⟩,
  -- RDX.EVENT
  ⟨0x130, 0x0, 1, [⟨3, 3, .w1c, (k 0), false, []⟩, ⟨2, 2, .w1c, (k 0), false, []⟩, ⟨1, 1, .w1c, (k 0), false, []⟩, ⟨0, 0, .w1c, (k 0), false, []⟩]⟩,
  -- RDX.EVENT_EN
  ⟨0x138, 0x0, 1, [⟨3, 3, .rw, (k 0), false, []⟩, ⟨2, 2, .rw, (k 0), false, []⟩, ⟨1, 1, .rw, (k 0), false, []⟩, ⟨0, 0, .rw, (k 0), false, []⟩]⟩] ++
  [
  -- RDX.STAT
  ⟨0x200, 0x8, 10, [⟨63, 0, .ro, (k 0), true, []⟩]⟩]

/-- The registers of block CMP (03_compression_engine.md). -/
def regsCMP : List RegSpec :=
  [
  -- CMP.CONFIG
  ⟨0x100, 0x0, 1, [⟨23, 20, .rwl, (k 5), false, [(3, 7)]⟩, ⟨19, 16, .rwl, (k 15), false, [(8, 15)]⟩, ⟨13, 12, .rwl, (k 2), false, []⟩, ⟨11, 11, .rwl, (k 0), false, []⟩, ⟨10, 8, .rwl, (k 2), false, [(1, 4)]⟩, ⟨7, 7, .rwl, (k 1), false, []⟩, ⟨6, 0, .rwl, (k 40), false, [(8, 104)]⟩]⟩,
  -- CMP.STATUS
  ⟨0x108, 0x0, 1, [⟨39, 8, .ro, (k 0), false, []⟩, ⟨7, 7, .ro, (k 0), false, []⟩, ⟨6, 0, .ro, (k 40), false, []⟩]⟩,
  -- CMP.LANE_ROLE_LO
  ⟨0x110, 0x0, 1, [⟨63, 0, .ro, (k 1099511627775), false, []⟩]⟩,
  -- CMP.LANE_ROLE_HI
  ⟨0x118, 0x0, 1, [⟨47, 0, .ro, (k 0), false, []⟩]⟩,
  -- CMP.RING_ARB
  ⟨0x120, 0x0, 1, [⟨5, 5, .ro, (k 0), false, []⟩, ⟨4, 0, .ro, (k 0), false, []⟩]⟩,
  -- CMP.EVENT
  ⟨0x130, 0x0, 1, [⟨2, 2, .w1c, (k 0), false, []⟩, ⟨1, 1, .w1c, (k 0), false, []⟩, ⟨0, 0, .w1c, (k 0), false, []⟩]⟩,
  -- CMP.EVENT_EN
  ⟨0x138, 0x0, 1, [⟨2, 2, .rw, (k 0), false, []⟩, ⟨1, 1, .rw, (k 0), false, []⟩, ⟨0, 0, .rw, (k 0), false, []⟩]⟩,
  -- CMP.STAT
  ⟨0x200, 0x8, 14, [⟨63, 0, .ro, (k 0), true, []⟩]⟩] ++
  [
  -- CMP.RING_BASE
  ⟨0x1000, 0x40, 32, [⟨47, 6, .rw, (k 0), false, []⟩]⟩,
  -- CMP.RING_CFG
  ⟨0x1008, 0x40, 32, [⟨23, 16, .rw, (k 8), false, [(1, 104)]⟩, ⟨12, 8, .rw, (k 4), false, [(4, 16)]⟩, ⟨1, 1, .rw, (k 0), false, []⟩, ⟨0, 0, .rw, (k 0), false, []⟩]⟩,
  -- CMP.RING_PROD
  ⟨0x1010, 0x40, 32, [⟨31, 0, .rw, (k 0), false, []⟩]⟩,
  -- CMP.RING_CONS
  ⟨0x1018, 0x40, 32, [⟨31, 0, .ro, (k 0), false, []⟩]⟩,
  -- CMP.RING_CPL_BASE
  ⟨0x1020, 0x40, 32, [⟨47, 5, .rw, (k 0), false, []⟩]⟩,
  -- CMP.RING_CPL_PROD
  ⟨0x1028, 0x40, 32, [⟨31, 0, .ro, (k 0), false, []⟩]⟩,
  -- CMP.RING_CPL_CONS
  ⟨0x1030, 0x40, 32, [⟨31, 0, .rw, (k 0), false, []⟩]⟩,
  -- CMP.RING_STATUS
  ⟨0x1038, 0x40, 32, [⟨63, 32, .ro, (k 0), false, []⟩, ⟨3, 1, .ro, (k 0), false, []⟩, ⟨0, 0, .ro, (k 0), false, []⟩]⟩]

/-- The registers of block CIP (04_cipher_and_digest.md). -/
def regsCIP : List RegSpec :=
  [
  -- CIP.STATUS
  ⟨0x100, 0x0, 1, [⟨47, 32, .ro, (k 0), false, []⟩, ⟨28, 16, .ro, (k 0), false, []⟩, ⟨6, 0, .ro, (k 0), false, []⟩]⟩,
  -- CIP.KEY_CMD
  ⟨0x108, 0x0, 1, [⟨3, 0, .wo, (k 0), false, [(1, 7)]⟩]⟩,
  -- CIP.KEY_ARG0
  ⟨0x110, 0x0, 1, [⟨63, 32, .rw, (k 0), false, []⟩, ⟨27, 16, .rw, (k 0), false, []⟩, ⟨13, 12, .rw, (k 0), false, [(0, 2)]⟩, ⟨11, 0, .rw, (k 0), false, []⟩]⟩,
  -- CIP.KEY_ARG1
  ⟨0x118, 0x0, 1, [⟨47, 32, .rw, (k 0), false, []⟩, ⟨31, 0, .rw, (k 0), false, [(0, 0), (16, 268435456)]⟩]⟩,
  -- CIP.KEY_STATUS
  ⟨0x120, 0x0, 1, [⟨8, 8, .ro, (k 0), false, []⟩, ⟨3, 0, .ro, (k 0), false, []⟩]⟩,
  -- CIP.KEY_INFO_SEL
  ⟨0x128, 0x0, 1, [⟨13, 12, .rw, (k 0), false, [(0, 2)]⟩, ⟨11, 0, .rw, (k 0), false, []⟩]⟩,
  -- CIP.KEY_INFO0
  ⟨0x140, 0x0, 1, [⟨63, 32, .ro, (k 0), false, []⟩, ⟨28, 17, .ro, (k 0), false, []⟩, ⟨16, 16, .ro, (k 0), false, []⟩, ⟨15, 15, .ro, (k 0), false, []⟩, ⟨13, 12, .ro, (k 0), false, []⟩, ⟨2, 0, .ro, (k 0), false, []⟩]⟩,
  -- CIP.KEY_INFO1
  ⟨0x148, 0x0, 1, [⟨63, 0, .ro, (k 0), false, []⟩]⟩] ++
  [
  -- CIP.KEY_INFO2
  ⟨0x150, 0x0, 1, [⟨63, 32, .ro, (k 0), false, []⟩, ⟨31, 0, .ro, (k 0), false, []⟩]⟩,
  -- CIP.KEY_INFO3
  ⟨0x158, 0x0, 1, [⟨47, 32, .ro, (k 0), false, []⟩, ⟨31, 0, .ro, (k 0), false, []⟩]⟩,
  -- CIP.EVENT
  ⟨0x160, 0x0, 1, [⟨7, 7, .w1c, (k 0), false, []⟩, ⟨6, 6, .w1c, (k 0), false, []⟩, ⟨5, 5, .w1c, (k 0), false, []⟩, ⟨4, 4, .w1c, (k 0), false, []⟩, ⟨3, 3, .w1c, (k 0), false, []⟩, ⟨2, 2, .w1c, (k 0), false, []⟩, ⟨1, 1, .w1c, (k 0), false, []⟩, ⟨0, 0, .w1c, (k 0), false, []⟩]⟩,
  -- CIP.EVENT_EN
  ⟨0x168, 0x0, 1, [⟨7, 7, .rw, (k 0), false, []⟩, ⟨6, 6, .rw, (k 0), false, []⟩, ⟨5, 5, .rw, (k 0), false, []⟩, ⟨4, 4, .rw, (k 0), false, []⟩, ⟨3, 3, .rw, (k 0), false, []⟩, ⟨2, 2, .rw, (k 0), false, []⟩, ⟨1, 1, .rw, (k 0), false, []⟩, ⟨0, 0, .rw, (k 0), false, []⟩]⟩,
  -- CIP.ATTN_TX
  ⟨0x170, 0x0, 1, [⟨63, 0, .w1c, (k 0), false, []⟩]⟩,
  -- CIP.KEY_DATA
  ⟨0x180, 0x8, 16, [⟨63, 0, .rw, (k 0), false, []⟩]⟩,
  -- CIP.STAT
  ⟨0x200, 0x8, 11, [⟨63, 0, .ro, (k 0), true, []⟩]⟩,
  -- CIP.ATTN
  ⟨0x800, 0x8, 64, [⟨63, 0, .w1c, (k 0), false, []⟩]⟩] ++
  [
  -- CIP.RING_BASE
  ⟨0x1000, 0x40, 16, [⟨47, 6, .rw, (k 0), false, []⟩]⟩,
  -- CIP.RING_CFG
  ⟨0x1008, 0x40, 16, [⟨23, 16, .rw, (k 8), false, [(1, 48)]⟩, ⟨12, 8, .rw, (k 4), false, [(4, 16)]⟩, ⟨1, 1, .rw, (k 0), false, []⟩, ⟨0, 0, .rw, (k 0), false, []⟩]⟩,
  -- CIP.RING_PROD
  ⟨0x1010, 0x40, 16, [⟨31, 0, .rw, (k 0), false, []⟩]⟩,
  -- CIP.RING_CONS
  ⟨0x1018, 0x40, 16, [⟨31, 0, .ro, (k 0), false, []⟩]⟩,
  -- CIP.RING_CPL_BASE
  ⟨0x1020, 0x40, 16, [⟨47, 5, .rw, (k 0), false, []⟩]⟩,
  -- CIP.RING_CPL_PROD
  ⟨0x1028, 0x40, 16, [⟨31, 0, .ro, (k 0), false, []⟩]⟩,
  -- CIP.RING_CPL_CONS
  ⟨0x1030, 0x40, 16, [⟨31, 0, .rw, (k 0), false, []⟩]⟩,
  -- CIP.RING_STATUS
  ⟨0x1038, 0x40, 16, [⟨63, 32, .ro, (k 0), false, []⟩, ⟨3, 1, .ro, (k 0), false, []⟩, ⟨0, 0, .ro, (k 0), false, []⟩]⟩] ++
  [
  -- CIP.CTX_OWNER
  ⟨0x2000, 0x8, 256, [⟨4, 4, .rw, (k 0), false, []⟩, ⟨3, 0, .rw, (k 0), false, []⟩]⟩]

/-- The registers of block DGS (04_cipher_and_digest.md). -/
def regsDGS : List RegSpec :=
  [
  -- DGS.STATUS
  ⟨0x100, 0x0, 1, [⟨31, 16, .ro, (k 0), false, []⟩, ⟨4, 0, .ro, (k 0), false, []⟩]⟩,
  -- DGS.EVENT
  ⟨0x130, 0x0, 1, [⟨1, 1, .w1c, (k 0), false, []⟩, ⟨0, 0, .w1c, (k 0), false, []⟩]⟩,
  -- DGS.EVENT_EN
  ⟨0x138, 0x0, 1, [⟨1, 1, .rw, (k 0), false, []⟩, ⟨0, 0, .rw, (k 0), false, []⟩]⟩,
  -- DGS.STAT
  ⟨0x200, 0x8, 4, [⟨63, 0, .ro, (k 0), true, []⟩]⟩,
  -- DGS.RING_BASE
  ⟨0x1000, 0x40, 16, [⟨47, 6, .rw, (k 0), false, []⟩]⟩,
  -- DGS.RING_CFG
  ⟨0x1008, 0x40, 16, [⟨23, 16, .rw, (k 8), false, [(1, 48)]⟩, ⟨12, 8, .rw, (k 4), false, [(4, 16)]⟩, ⟨1, 1, .rw, (k 0), false, []⟩, ⟨0, 0, .rw, (k 0), false, []⟩]⟩,
  -- DGS.RING_PROD
  ⟨0x1010, 0x40, 16, [⟨31, 0, .rw, (k 0), false, []⟩]⟩,
  -- DGS.RING_CONS
  ⟨0x1018, 0x40, 16, [⟨31, 0, .ro, (k 0), false, []⟩]⟩] ++
  [
  -- DGS.RING_CPL_BASE
  ⟨0x1020, 0x40, 16, [⟨47, 5, .rw, (k 0), false, []⟩]⟩,
  -- DGS.RING_CPL_PROD
  ⟨0x1028, 0x40, 16, [⟨31, 0, .ro, (k 0), false, []⟩]⟩,
  -- DGS.RING_CPL_CONS
  ⟨0x1030, 0x40, 16, [⟨31, 0, .rw, (k 0), false, []⟩]⟩,
  -- DGS.RING_STATUS
  ⟨0x1038, 0x40, 16, [⟨63, 32, .ro, (k 0), false, []⟩, ⟨3, 1, .ro, (k 0), false, []⟩, ⟨0, 0, .ro, (k 0), false, []⟩]⟩,
  -- DGS.CTX_OWNER
  ⟨0x2000, 0x8, 256, [⟨4, 4, .rw, (k 0), false, []⟩, ⟨3, 0, .rw, (k 0), false, []⟩]⟩]

/-- The registers of block FTL (05_flash_translation.md). -/
def regsFTL : List RegSpec :=
  [
  -- FTL.CONFIG
  ⟨0x100, 0x0, 1, [⟨13, 12, .rwl, (k 2), false, [(0, 2)]⟩, ⟨9, 8, .rwl, (k 0), false, [(0, 1)]⟩, ⟨4, 0, .rwl, (k 4), false, [(1, 16)]⟩]⟩,
  -- FTL.STATUS
  ⟨0x108, 0x0, 1, [⟨9, 9, .ro, (k 0), false, []⟩, ⟨8, 8, .ro, (k 0), false, []⟩, ⟨5, 4, .ro, (k 0), false, []⟩, ⟨2, 0, .ro, (k 0), false, []⟩]⟩,
  -- FTL.MOSS_FILL
  ⟨0x110, 0x0, 1, [⟨63, 32, .ro, (k 0), false, []⟩, ⟨31, 0, .ro, (k 0), false, []⟩]⟩,
  -- FTL.MOSS_CTL
  ⟨0x118, 0x0, 1, [⟨19, 16, .rw, (k 2), false, [(1, 10)]⟩, ⟨15, 8, .rw, (k 95), false, [(60, 98)]⟩, ⟨7, 0, .rw, (k 75), false, [(20, 95)]⟩]⟩,
  -- FTL.STRIPE_STATUS
  ⟨0x120, 0x0, 1, [⟨59, 40, .ro, (k 0), false, []⟩, ⟨39, 20, .ro, (k 0), false, []⟩, ⟨19, 0, .ro, (k 0), false, []⟩]⟩,
  -- FTL.GC_CTL
  ⟨0x128, 0x0, 1, [⟨31, 16, .rw, (k 200), false, [(16, 65535)]⟩, ⟨15, 8, .rw, (k 48), false, [(8, 255)]⟩, ⟨7, 0, .rw, (k 8), false, [(2, 64)]⟩]⟩,
  -- FTL.RETRY_CTL
  ⟨0x130, 0x0, 1, [⟨19, 12, .rw, (k 75), false, [(50, 100)]⟩, ⟨11, 8, .rw, (k 3), false, [(1, 15)]⟩, ⟨3, 0, .rw, (k 7), false, [(1, 15)]⟩]⟩,
  -- FTL.WEAR_CTL
  ⟨0x138, 0x0, 1, [⟨39, 32, .rw, (k 120), false, [(100, 200)]⟩, ⟨31, 16, .rw, (k 32), false, []⟩, ⟨15, 0, .rw, (k 48), false, []⟩]⟩] ++
  [
  -- FTL.PATROL_CTL
  ⟨0x140, 0x0, 1, [⟨16, 16, .rw, (k 1), false, []⟩, ⟨9, 0, .rw, (k 144), false, [(24, 720)]⟩]⟩,
  -- FTL.PATROL_STATUS
  ⟨0x148, 0x0, 1, [⟨63, 32, .ro, (k 0), true, []⟩, ⟨9, 0, .ro, (k 0), false, []⟩]⟩,
  -- FTL.JSEQ
  ⟨0x150, 0x0, 1, [⟨63, 0, .ro, (k 0), false, []⟩]⟩,
  -- FTL.CKPT_SEQ
  ⟨0x158, 0x0, 1, [⟨63, 0, .ro, (k 0), false, []⟩]⟩,
  -- FTL.CKPT_CTL
  ⟨0x160, 0x0, 1, [⟨3, 0, .rw, (k 2), false, [(1, 8)]⟩]⟩,
  -- FTL.ANCHOR
  ⟨0x168, 0x0, 1, [⟨14, 8, .rws, (k 1), true, [(0, 95)]⟩, ⟨6, 0, .rws, (k 0), true, [(0, 95)]⟩]⟩,
  -- FTL.SNAP_CMD
  ⟨0x170, 0x0, 1, [⟨1, 0, .wo, (k 0), false, [(1, 2)]⟩]⟩,
  -- FTL.SNAP_ARG
  ⟨0x178, 0x0, 1, [⟨63, 32, .rw, (k 0), false, []⟩, ⟨31, 0, .rw, (k 0), false, []⟩]⟩] ++
  [
  -- FTL.SNAP_STATUS
  ⟨0x180, 0x0, 1, [⟨40, 40, .ro, (k 0), false, []⟩, ⟨35, 32, .ro, (k 0), false, []⟩, ⟨31, 0, .ro, (k 0), false, []⟩]⟩,
  -- FTL.KEYQ_ID
  ⟨0x188, 0x0, 1, [⟨31, 0, .rw, (k 0), false, []⟩]⟩,
  -- FTL.KEYQ_COUNT
  ⟨0x190, 0x0, 1, [⟨63, 63, .ro, (k 0), false, []⟩, ⟨47, 0, .ro, (k 0), false, []⟩]⟩,
  -- FTL.EVENT
  ⟨0x1A0, 0x0, 1, [⟨16, 16, .w1c, (k 0), false, []⟩, ⟨15, 15, .w1c, (k 0), false, []⟩, ⟨14, 14, .w1c, (k 0), false, []⟩, ⟨13, 13, .w1c, (k 0), false, []⟩, ⟨12, 12, .w1c, (k 0), false, []⟩, ⟨11, 11, .w1c, (k 0), false, []⟩, ⟨10, 10, .w1c, (k 0), false, []⟩, ⟨9, 9, .w1c, (k 0), false, []⟩, ⟨8, 8, .w1c, (k 0), false, []⟩, ⟨7, 7, .w1c, (k 0), false, []⟩, ⟨6, 6, .w1c, (k 0), false, []⟩, ⟨5, 5, .w1c, (k 0), false, []⟩, ⟨4, 4, .w1c, (k 0), false, []⟩, ⟨3, 3, .w1c, (k 0), false, []⟩, ⟨2, 2, .w1c, (k 0), false, []⟩, ⟨1, 1, .w1c, (k 0), false, []⟩, ⟨0, 0, .w1c, (k 0), false, []⟩]⟩,
  -- FTL.EVENT_EN
  ⟨0x1A8, 0x0, 1, [⟨16, 16, .rw, (k 0), false, []⟩, ⟨15, 15, .rw, (k 0), false, []⟩, ⟨14, 14, .rw, (k 0), false, []⟩, ⟨13, 13, .rw, (k 0), false, []⟩, ⟨12, 12, .rw, (k 0), false, []⟩, ⟨11, 11, .rw, (k 0), false, []⟩, ⟨10, 10, .rw, (k 0), false, []⟩, ⟨9, 9, .rw, (k 0), false, []⟩, ⟨8, 8, .rw, (k 0), false, []⟩, ⟨7, 7, .rw, (k 0), false, []⟩, ⟨6, 6, .rw, (k 0), false, []⟩, ⟨5, 5, .rw, (k 0), false, []⟩, ⟨4, 4, .rw, (k 0), false, []⟩, ⟨3, 3, .rw, (k 0), false, []⟩, ⟨2, 2, .rw, (k 0), false, []⟩, ⟨1, 1, .rw, (k 0), false, []⟩, ⟨0, 0, .rw, (k 0), false, []⟩]⟩,
  -- FTL.STAT
  ⟨0x200, 0x8, 16, [⟨63, 0, .ro, (k 0), true, []⟩]⟩,
  -- FTL.FDOM
  ⟨0x1000, 0x8, 96, [⟨3, 0, .rw, (fun n => n % 16), false, []⟩]⟩,
  -- FTL.MOD_WEAR0
  ⟨0x2000, 0x10, 96, [⟨63, 60, .ro, (k 0), false, []⟩, ⟨55, 32, .ro, (k 0), false, []⟩, ⟨23, 0, .ro, (k 0), false, []⟩]⟩] ++
  [
  -- FTL.MOD_WEAR1
  ⟨0x2008, 0x10, 96, [⟨63, 48, .ro, (k 0), false, []⟩, ⟨47, 32, .ro, (k 0), false, []⟩, ⟨31, 16, .ro, (k 0), false, []⟩, ⟨15, 0, .ro, (k 0), false, []⟩]⟩]

/-- The registers of block RDN (06_module_redundancy.md). -/
def regsRDN : List RegSpec :=
  [
  -- RDN.CONFIG
  ⟨0x100, 0x0, 1, [⟨63, 32, .rwl, (k 0), false, []⟩, ⟨16, 16, .rw, (k 1), false, []⟩, ⟨12, 8, .rwl, (k 22), false, [(2, 22)]⟩, ⟨4, 0, .rwl, (k 2), false, [(2, 22)]⟩]⟩,
  -- RDN.GEOM
  ⟨0x108, 0x0, 1, [⟨4, 0, .rw, (k 16), false, [(2, 22)]⟩]⟩,
  -- RDN.STATUS
  ⟨0x110, 0x0, 1, [⟨43, 43, .ro, (k 0), false, []⟩, ⟨42, 42, .ro, (k 0), false, []⟩, ⟨41, 41, .ro, (k 0), false, []⟩, ⟨40, 40, .ro, (k 0), false, []⟩, ⟨39, 20, .ro, (k 0), false, []⟩, ⟨19, 0, .ro, (k 0), false, []⟩]⟩,
  -- RDN.REBUILD_CTL
  ⟨0x118, 0x0, 1, [⟨31, 16, .rw, (k 8), false, [(1, 200)]⟩, ⟨15, 8, .rw, (k 25), false, [(0, 100)]⟩, ⟨0, 0, .rw, (k 1), false, []⟩]⟩,
  -- RDN.REBUILD_STATUS
  ⟨0x120, 0x0, 1, [⟨63, 48, .ro, (k 0), false, []⟩, ⟨36, 32, .ro, (k 31), false, []⟩, ⟨28, 24, .ro, (k 0), false, []⟩, ⟨19, 0, .ro, (k 0), false, []⟩]⟩,
  -- RDN.RESHAPE_CMD
  ⟨0x128, 0x0, 1, [⟨1, 0, .wo, (k 0), false, [(1, 2)]⟩]⟩,
  -- RDN.RESHAPE_ARG
  ⟨0x130, 0x0, 1, [⟨20, 16, .rw, (k 16), false, []⟩, ⟨14, 8, .rw, (k 0), false, [(0, 95)]⟩, ⟨0, 0, .rw, (k 0), false, []⟩]⟩,
  -- RDN.RESHAPE_STATUS
  ⟨0x138, 0x0, 1, [⟨54, 48, .ro, (k 0), false, []⟩, ⟨47, 47, .ro, (k 0), false, []⟩, ⟨46, 46, .ro, (k 0), false, []⟩, ⟨45, 45, .ro, (k 0), false, []⟩, ⟨44, 44, .ro, (k 0), false, []⟩, ⟨43, 40, .ro, (k 0), false, []⟩, ⟨39, 20, .ro, (k 0), false, []⟩, ⟨19, 0, .ro, (k 0), false, []⟩]⟩] ++
  [
  -- RDN.SJ_STATUS
  ⟨0x140, 0x0, 1, [⟨15, 15, .ro, (k 0), false, []⟩, ⟨14, 8, .ro, (k 0), false, []⟩, ⟨6, 0, .ro, (k 0), false, []⟩]⟩,
  -- RDN.SJ_SEQ
  ⟨0x148, 0x0, 1, [⟨63, 0, .ro, (k 0), false, []⟩]⟩,
  -- RDN.SJ_CTL
  ⟨0x150, 0x0, 1, [⟨7, 0, .rw, (k 64), false, [(8, 255)]⟩]⟩,
  -- RDN.LOSS_BASE
  ⟨0x158, 0x0, 1, [⟨47, 5, .rw, (k 0), false, []⟩]⟩,
  -- RDN.LOSS_CFG
  ⟨0x160, 0x0, 1, [⟨12, 8, .rw, (k 8), false, [(4, 16)]⟩, ⟨0, 0, .rw, (k 0), false, []⟩]⟩,
  -- RDN.LOSS_PROD
  ⟨0x168, 0x0, 1, [⟨31, 0, .ro, (k 0), false, []⟩]⟩,
  -- RDN.LOSS_CONS
  ⟨0x170, 0x0, 1, [⟨31, 0, .rw, (k 0), false, []⟩]⟩,
  -- RDN.EVENT
  ⟨0x180, 0x0, 1, [⟨9, 9, .w1c, (k 0), false, []⟩, ⟨8, 8, .w1c, (k 0), false, []⟩, ⟨7, 7, .w1c, (k 0), false, []⟩, ⟨6, 6, .w1c, (k 0), false, []⟩, ⟨5, 5, .w1c, (k 0), false, []⟩, ⟨4, 4, .w1c, (k 0), false, []⟩, ⟨3, 3, .w1c, (k 0), false, []⟩, ⟨2, 2, .w1c, (k 0), false, []⟩, ⟨1, 1, .w1c, (k 0), false, []⟩, ⟨0, 0, .w1c, (k 0), false, []⟩]⟩] ++
  [
  -- RDN.EVENT_EN
  ⟨0x188, 0x0, 1, [⟨9, 9, .rw, (k 0), false, []⟩, ⟨8, 8, .rw, (k 0), false, []⟩, ⟨7, 7, .rw, (k 0), false, []⟩, ⟨6, 6, .rw, (k 0), false, []⟩, ⟨5, 5, .rw, (k 0), false, []⟩, ⟨4, 4, .rw, (k 0), false, []⟩, ⟨3, 3, .rw, (k 0), false, []⟩, ⟨2, 2, .rw, (k 0), false, []⟩, ⟨1, 1, .rw, (k 0), false, []⟩, ⟨0, 0, .rw, (k 0), false, []⟩]⟩,
  -- RDN.STAT
  ⟨0x200, 0x8, 14, [⟨63, 0, .ro, (k 0), true, []⟩]⟩,
  -- RDN.MOD_STATE
  ⟨0x1000, 0x8, 96, [⟨27, 8, .ro, (k 0), false, []⟩, ⟨3, 3, .ro, (k 0), false, []⟩, ⟨2, 2, .rw, (k 0), false, []⟩, ⟨1, 0, .ro, (k 0), false, []⟩]⟩]

/-- The registers of block FRN (07_frond_link.md). -/
def regsFRN : List RegSpec :=
  [
  -- FRN.CONFIG
  ⟨0x100, 0x0, 1, [⟨6, 0, .rwl, (k 96), false, [(0, 96)]⟩]⟩,
  -- FRN.STATUS
  ⟨0x108, 0x0, 1, [⟨22, 16, .ro, (k 0), false, []⟩, ⟨6, 0, .ro, (k 0), false, []⟩]⟩,
  -- FRN.EPOCH
  ⟨0x110, 0x0, 1, [⟨31, 0, .ro, (k 0), false, []⟩]⟩,
  -- FRN.TIMEOUT
  ⟨0x118, 0x0, 1, [⟨27, 16, .rw, (k 250), false, [(16, 4095)]⟩, ⟨15, 0, .rw, (k 2500), false, [(100, 65535)]⟩]⟩,
  -- FRN.SUSP_CTL
  ⟨0x120, 0x0, 1, [⟨16, 16, .rw, (k 1), false, []⟩, ⟨15, 0, .rw, (k 200), false, []⟩]⟩,
  -- FRN.EVENT
  ⟨0x130, 0x0, 1, [⟨9, 9, .w1c, (k 0), false, []⟩, ⟨8, 8, .w1c, (k 0), false, []⟩, ⟨7, 7, .w1c, (k 0), false, []⟩, ⟨6, 6, .w1c, (k 0), false, []⟩, ⟨5, 5, .w1c, (k 0), false, []⟩, ⟨4, 4, .w1c, (k 0), false, []⟩, ⟨3, 3, .w1c, (k 0), false, []⟩, ⟨2, 2, .w1c, (k 0), false, []⟩, ⟨1, 1, .w1c, (k 0), false, []⟩, ⟨0, 0, .w1c, (k 0), false, []⟩]⟩,
  -- FRN.EVENT_EN
  ⟨0x138, 0x0, 1, [⟨9, 9, .rw, (k 0), false, []⟩, ⟨8, 8, .rw, (k 0), false, []⟩, ⟨7, 7, .rw, (k 0), false, []⟩, ⟨6, 6, .rw, (k 0), false, []⟩, ⟨5, 5, .rw, (k 0), false, []⟩, ⟨4, 4, .rw, (k 0), false, []⟩, ⟨3, 3, .rw, (k 0), false, []⟩, ⟨2, 2, .rw, (k 0), false, []⟩, ⟨1, 1, .rw, (k 0), false, []⟩, ⟨0, 0, .rw, (k 0), false, []⟩]⟩,
  -- FRN.STAT
  ⟨0x200, 0x8, 12, [⟨63, 0, .ro, (k 0), true, []⟩]⟩] ++
  [
  -- FRN.PORT_CTL
  ⟨0x1000, 0x80, 96, [⟨1, 1, .wo, (k 0), false, []⟩, ⟨0, 0, .rw, (k 1), false, []⟩]⟩,
  -- FRN.PORT_STATUS
  ⟨0x1008, 0x80, 96, [⟨31, 24, .ro, (k 0), false, []⟩, ⟨21, 20, .ro, (k 0), false, []⟩, ⟨18, 18, .ro, (k 0), false, []⟩, ⟨17, 16, .ro, (k 0), false, []⟩, ⟨3, 0, .ro, (k 0), false, []⟩]⟩,
  -- FRN.PORT_ERR
  ⟨0x1010, 0x80, 96, [⟨63, 48, .ro, (k 0), true, []⟩, ⟨47, 32, .ro, (k 0), true, []⟩, ⟨31, 16, .ro, (k 0), true, []⟩, ⟨15, 0, .ro, (k 0), true, []⟩]⟩,
  -- FRN.PORT_HEALTH
  ⟨0x1018, 0x80, 96, [⟨15, 8, .ro, (k 0), false, []⟩, ⟨3, 3, .ro, (k 0), false, []⟩, ⟨2, 2, .ro, (k 0), false, []⟩, ⟨1, 1, .ro, (k 0), false, []⟩, ⟨0, 0, .ro, (k 0), false, []⟩]⟩,
  -- FRN.PORT_MGMT
  ⟨0x1020, 0x80, 96, [⟨2, 2, .w1s, (k 0), false, []⟩, ⟨1, 0, .rw, (k 0), false, []⟩]⟩,
  -- FRN.PORT_DRIVE_LO
  ⟨0x1028, 0x80, 96, [⟨63, 0, .ro, (k 0), false, []⟩]⟩,
  -- FRN.PORT_DRIVE_HI
  ⟨0x1030, 0x80, 96, [⟨63, 0, .ro, (k 0), false, []⟩]⟩,
  -- FRN.PORT_FAIL_LO
  ⟨0x1038, 0x80, 96, [⟨63, 0, .ro, (k 0), false, []⟩]⟩] ++
  [
  -- FRN.PORT_FAIL_HI
  ⟨0x1040, 0x80, 96, [⟨63, 0, .ro, (k 0), false, []⟩]⟩,
  -- FRN.PORT_DESC
  ⟨0x1048, 0x80, 96, [⟨39, 32, .ro, (k 0), false, []⟩, ⟨31, 24, .ro, (k 0), false, []⟩, ⟨23, 16, .ro, (k 0), false, []⟩, ⟨15, 8, .ro, (k 0), false, []⟩, ⟨7, 0, .ro, (k 0), false, []⟩]⟩]

/-- The registers of block RFL (11_peer_and_failover.md). -/
def regsRFL : List RegSpec :=
  [
  -- RFL.CONFIG
  ⟨0x100, 0x0, 1, [⟨31, 0, .rwl, (k 2), false, []⟩]⟩,
  -- RFL.CTL
  ⟨0x108, 0x0, 1, [⟨32, 16, .rw, (k 0), false, []⟩, ⟨1, 1, .rw, (k 0), false, []⟩, ⟨0, 0, .rw, (k 1), false, []⟩]⟩,
  -- RFL.STATUS
  ⟨0x110, 0x0, 1, [⟨23, 22, .ro, (k 0), false, []⟩, ⟨21, 20, .ro, (k 0), false, []⟩, ⟨19, 18, .ro, (k 0), false, []⟩, ⟨17, 16, .ro, (k 0), false, []⟩, ⟨15, 12, .ro, (k 0), false, []⟩, ⟨6, 6, .ro, (k 0), false, []⟩, ⟨5, 5, .ro, (k 0), false, []⟩, ⟨3, 0, .ro, (k 0), false, []⟩]⟩,
  -- RFL.LOSS_CTL
  ⟨0x118, 0x0, 1, [⟨31, 16, .rw, (k 2048), false, [(256, 65535)]⟩, ⟨7, 0, .rw, (k 4), false, [(2, 255)]⟩]⟩,
  -- RFL.FWD_CTL
  ⟨0x120, 0x0, 1, [⟨15, 8, .rw, (k 64), false, [(1, 255)]⟩, ⟨0, 0, .rw, (k 1), false, []⟩]⟩,
  -- RFL.SHADOW_BASE
  ⟨0x128, 0x0, 1, [⟨63, 56, .rw, (k 8), false, []⟩, ⟨47, 30, .rw, (k 0), false, []⟩, ⟨0, 0, .rw, (k 0), false, []⟩]⟩,
  -- RFL.FB_RKEY
  ⟨0x130, 0x0, 1, [⟨31, 0, .rw, (k 0), false, []⟩]⟩,
  -- RFL.DELTA_STATUS
  ⟨0x138, 0x0, 1, [⟨63, 48, .ro, (k 0), false, []⟩, ⟨47, 20, .ro, (k 0), false, []⟩, ⟨18, 0, .ro, (k 0), false, []⟩]⟩] ++
  [
  -- RFL.HANDBACK_CMD
  ⟨0x140, 0x0, 1, [⟨1, 0, .wo, (k 0), false, [(1, 1)]⟩]⟩,
  -- RFL.HANDBACK_CTL
  ⟨0x148, 0x0, 1, [⟨6, 0, .rw, (k 50), false, [(1, 100)]⟩]⟩,
  -- RFL.HANDBACK_STATUS
  ⟨0x150, 0x0, 1, [⟨63, 32, .ro, (k 0), false, []⟩, ⟨11, 8, .ro, (k 0), false, []⟩, ⟨4, 4, .ro, (k 0), false, []⟩, ⟨2, 0, .ro, (k 0), false, []⟩]⟩,
  -- RFL.ADOPT_STATUS
  ⟨0x158, 0x0, 1, [⟨63, 32, .ro, (k 0), false, []⟩, ⟨31, 16, .ro, (k 0), false, []⟩, ⟨5, 4, .ro, (k 0), false, []⟩, ⟨2, 0, .ro, (k 0), false, []⟩]⟩,
  -- RFL.JOIN_STATUS
  ⟨0x160, 0x0, 1, [⟨7, 4, .ro, (k 0), false, []⟩, ⟨2, 0, .ro, (k 0), false, []⟩]⟩,
  -- RFL.EVENT
  ⟨0x170, 0x0, 1, [⟨9, 9, .w1c, (k 0), false, []⟩, ⟨8, 8, .w1c, (k 0), false, []⟩, ⟨7, 7, .w1c, (k 0), false, []⟩, ⟨6, 6, .w1c, (k 0), false, []⟩, ⟨5, 5, .w1c, (k 0), false, []⟩, ⟨4, 4, .w1c, (k 0), false, []⟩, ⟨3, 3, .w1c, (k 0), false, []⟩, ⟨2, 2, .w1c, (k 0), false, []⟩, ⟨1, 1, .w1c, (k 0), false, []⟩, ⟨0, 0, .w1c, (k 0), false, []⟩]⟩,
  -- RFL.EVENT_EN
  ⟨0x178, 0x0, 1, [⟨9, 9, .rw, (k 0), false, []⟩, ⟨8, 8, .rw, (k 0), false, []⟩, ⟨7, 7, .rw, (k 0), false, []⟩, ⟨6, 6, .rw, (k 0), false, []⟩, ⟨5, 5, .rw, (k 0), false, []⟩, ⟨4, 4, .rw, (k 0), false, []⟩, ⟨3, 3, .rw, (k 0), false, []⟩, ⟨2, 2, .rw, (k 0), false, []⟩, ⟨1, 1, .rw, (k 0), false, []⟩, ⟨0, 0, .rw, (k 0), false, []⟩]⟩,
  -- RFL.STAT
  ⟨0x200, 0x8, 10, [⟨63, 0, .ro, (k 0), true, []⟩]⟩] ++
  [
  -- RFL.LANE_ERR
  ⟨0x1000, 0x8, 16, [⟨63, 32, .ro, (k 0), true, []⟩, ⟨31, 0, .ro, (k 0), true, []⟩]⟩]

/-- The registers of block WIT (11_peer_and_failover.md). -/
def regsWIT : List RegSpec :=
  [
  -- WIT.CONFIG
  ⟨0x100, 0x0, 1, [⟨21, 16, .rw, (k 16), false, [(8, 32)]⟩, ⟨15, 0, .rws, (k 0), true, []⟩]⟩,
  -- WIT.STATUS
  ⟨0x108, 0x0, 1, [⟨31, 26, .ro, (k 0), false, []⟩, ⟨25, 24, .ro, (k 0), false, []⟩, ⟨17, 16, .ro, (k 0), false, []⟩, ⟨13, 13, .ro, (k 0), false, []⟩, ⟨11, 10, .ro, (k 0), false, []⟩, ⟨9, 8, .ro, (k 0), false, []⟩, ⟨7, 6, .ro, (k 0), false, []⟩, ⟨3, 0, .ro, (k 0), false, []⟩]⟩,
  -- WIT.EPOCH
  ⟨0x110, 0x0, 1, [⟨63, 32, .ro, (k 0), false, []⟩, ⟨31, 0, .ro, (k 0), false, []⟩]⟩,
  -- WIT.EVENT
  ⟨0x118, 0x0, 1, [⟨7, 7, .w1c, (k 0), false, []⟩, ⟨6, 6, .w1c, (k 0), false, []⟩, ⟨5, 5, .w1c, (k 0), false, []⟩, ⟨4, 4, .w1c, (k 0), false, []⟩, ⟨3, 3, .w1c, (k 0), false, []⟩, ⟨2, 2, .w1c, (k 0), false, []⟩, ⟨1, 1, .w1c, (k 0), false, []⟩, ⟨0, 0, .w1c, (k 0), false, []⟩]⟩,
  -- WIT.EVENT_EN
  ⟨0x120, 0x0, 1, [⟨7, 7, .rw, (k 0), false, []⟩, ⟨6, 6, .rw, (k 0), false, []⟩, ⟨5, 5, .rw, (k 0), false, []⟩, ⟨4, 4, .rw, (k 0), false, []⟩, ⟨3, 3, .rw, (k 0), false, []⟩, ⟨2, 2, .rw, (k 0), false, []⟩, ⟨1, 1, .rw, (k 0), false, []⟩, ⟨0, 0, .rw, (k 0), false, []⟩]⟩,
  -- WIT.STAT
  ⟨0x200, 0x8, 6, [⟨63, 0, .ro, (k 0), true, []⟩]⟩,
  -- WIT.LINK_STATUS
  ⟨0x1000, 0x20, 2, [⟨63, 32, .ro, (k 0), false, []⟩, ⟨1, 0, .ro, (k 0), false, []⟩]⟩,
  -- WIT.LINK_PHASE
  ⟨0x1008, 0x20, 2, [⟨63, 32, .ro, (k 0), false, []⟩, ⟨31, 0, .ro, (k 0), false, []⟩]⟩] ++
  [
  -- WIT.LINK_ERR
  ⟨0x1010, 0x20, 2, [⟨63, 32, .ro, (k 0), true, []⟩, ⟨31, 0, .ro, (k 0), true, []⟩]⟩]

/-- The registers of block PCR (12_pacer.md). -/
def regsPCR : List RegSpec :=
  [
  -- PCR.CTL
  ⟨0x100, 0x0, 1, [⟨1, 1, .rw, (k 0), false, []⟩, ⟨0, 0, .rw, (k 1), false, []⟩]⟩,
  -- PCR.STATUS
  ⟨0x108, 0x0, 1, [⟨7, 6, .ro, (k 0), false, []⟩, ⟨5, 5, .ro, (k 0), false, []⟩, ⟨2, 0, .ro, (k 0), false, []⟩]⟩,
  -- PCR.SETPOINT
  ⟨0x110, 0x0, 1, [⟨63, 48, .rw, (k 50), false, []⟩, ⟨47, 32, .rw, (k 2000), false, []⟩, ⟨15, 0, .rw, (k 75), false, [(20, 4095)]⟩]⟩,
  -- PCR.TOTAL
  ⟨0x118, 0x0, 1, [⟨51, 32, .rw, (k 1000000), false, []⟩, ⟨19, 0, .rw, (k 20000), false, []⟩]⟩,
  -- PCR.MEAS
  ⟨0x120, 0x0, 1, [⟨63, 44, .ro, (k 0), false, []⟩, ⟨43, 24, .ro, (k 0), false, []⟩, ⟨23, 12, .ro, (k 0), false, []⟩, ⟨11, 0, .ro, (k 0), false, []⟩]⟩,
  -- PCR.OUTPUT
  ⟨0x128, 0x0, 1, [⟨51, 32, .ro, (k 0), false, []⟩, ⟨19, 0, .ro, (k 0), false, []⟩]⟩,
  -- PCR.INTEG
  ⟨0x130, 0x0, 1, [⟨63, 0, .ro, (k 0), false, []⟩]⟩,
  -- PCR.RC_CTL
  ⟨0x138, 0x0, 1, [⟨40, 40, .rw, (k 1), false, []⟩, ⟨39, 32, .rw, (k 5), false, []⟩, ⟨27, 24, .rw, (k 3), false, [(1, 8)]⟩, ⟨20, 8, .rw, (k 1440), false, [(60, 4096)]⟩, ⟨7, 0, .rw, (k 24), false, [(1, 168)]⟩]⟩] ++
  [
  -- PCR.TOD
  ⟨0x140, 0x0, 1, [⟨63, 63, .ro, (k 0), true, []⟩, ⟨43, 32, .rw, (k 0), true, []⟩, ⟨31, 0, .rw, (k 0), true, []⟩]⟩,
  -- PCR.MODEL
  ⟨0x148, 0x0, 1, [⟨63, 40, .rw, (k 2400000), false, []⟩, ⟨39, 32, .rw, (k 30), false, []⟩, ⟨31, 16, .rw, (k 8), false, []⟩, ⟨15, 0, .rw, (k 58), false, []⟩]⟩,
  -- PCR.MODEL_CTL
  ⟨0x150, 0x0, 1, [⟨31, 16, .rw, (k 1024), false, [(16, 65535)]⟩, ⟨15, 0, .rw, (k 16), false, [(4, 65535)]⟩]⟩,
  -- PCR.RC_SEL
  ⟨0x158, 0x0, 1, [⟨12, 12, .rw, (k 0), false, []⟩, ⟨11, 0, .rw, (k 0), false, []⟩]⟩,
  -- PCR.RC_DATA
  ⟨0x160, 0x0, 1, [⟨31, 31, .rw, (k 0), false, []⟩, ⟨19, 0, .rw, (k 0), false, []⟩]⟩,
  -- PCR.EVENT
  ⟨0x170, 0x0, 1, [⟨2, 2, .w1c, (k 0), false, []⟩, ⟨1, 1, .w1c, (k 0), false, []⟩, ⟨0, 0, .w1c, (k 0), false, []⟩]⟩,
  -- PCR.EVENT_EN
  ⟨0x178, 0x0, 1, [⟨2, 2, .rw, (k 0), false, []⟩, ⟨1, 1, .rw, (k 0), false, []⟩, ⟨0, 0, .rw, (k 0), false, []⟩]⟩,
  -- PCR.STAT
  ⟨0x200, 0x8, 6, [⟨63, 0, .ro, (k 0), true, []⟩]⟩] ++
  [
  -- PCR.SCHED
  ⟨0x400, 0x8, 8, [⟨51, 32, .rw, (k 100000), false, []⟩, ⟨16, 16, .rw, (fun n => if n = 0 then 1 else 0), false, []⟩, ⟨13, 0, .rw, (k 0), false, []⟩]⟩,
  -- PCR.CLASS_CFG0
  ⟨0x1000, 0x20, 8, [⟨63, 44, .rw, (k 0), false, []⟩, ⟨43, 32, .rw, pcrResetCost, false, [(1, 4095)]⟩, ⟨7, 0, .rw, pcrResetWeight, false, []⟩]⟩,
  -- PCR.CLASS_CFG1
  ⟨0x1008, 0x20, 8, [⟨51, 32, .rw, pcrResetUrgent, false, []⟩, ⟨19, 0, .rw, pcrResetCap, false, []⟩]⟩,
  -- PCR.CLASS_PROF
  ⟨0x1010, 0x20, 8, [⟨63, 44, .rw, (k 2000), false, [(1, 1048575)]⟩, ⟨43, 24, .rw, (k 100), false, [(1, 1048575)]⟩, ⟨19, 0, .rw, (k 10), false, [(1, 1048575)]⟩]⟩,
  -- PCR.CLASS_SHARE
  ⟨0x1018, 0x20, 8, [⟨63, 44, .ro, (k 0), false, []⟩, ⟨43, 24, .ro, (k 0), false, []⟩, ⟨20, 20, .ro, (k 0), false, []⟩, ⟨19, 0, .ro, (k 0), false, []⟩]⟩]

/-- The registers of block BAY (17_bays_and_panel.md). -/
def regsBAY : List RegSpec :=
  [
  -- BAY.CONFIG
  ⟨0x100, 0x0, 1, [⟨3, 0, .rwl, (k 12), false, [(1, 12)]⟩]⟩,
  -- BAY.CTL
  ⟨0x108, 0x0, 1, [⟨15, 8, .rw, (k 4), false, [(2, 20)]⟩, ⟨1, 1, .rw, (k 1), false, []⟩, ⟨0, 0, .rw, (k 1), false, []⟩]⟩,
  -- BAY.STATUS
  ⟨0x110, 0x0, 1, [⟨63, 32, .ro, (k 0), true, []⟩, ⟨0, 0, .ro, (k 0), false, []⟩]⟩,
  -- BAY.FILT
  ⟨0x118, 0x0, 1, [⟨47, 40, .rw, (k 10), false, [(2, 60)]⟩, ⟨39, 36, .rw, (k 3), false, [(2, 15)]⟩, ⟨35, 32, .rw, (k 5), false, [(1, 15)]⟩, ⟨31, 24, .rw, (k 16), false, [(4, 255)]⟩, ⟨23, 16, .rw, (k 30), false, [(10, 255)]⟩, ⟨5, 0, .rw, (k 8), false, [(2, 63)]⟩]⟩,
  -- BAY.LEVER
  ⟨0x120, 0x0, 1, [⟨33, 33, .ro, (k 0), false, []⟩, ⟨32, 32, .ro, (k 0), false, []⟩, ⟨10, 0, .rw, (k 1000), false, [(100, 1990)]⟩]⟩,
  -- BAY.HEAD_IN
  ⟨0x128, 0x0, 1, [⟨5, 5, .ro, (k 0), false, []⟩, ⟨4, 4, .ro, (k 0), false, []⟩, ⟨3, 3, .ro, (k 0), false, []⟩, ⟨2, 2, .ro, (k 0), false, []⟩, ⟨1, 1, .ro, (k 0), false, []⟩, ⟨0, 0, .ro, (k 0), false, []⟩]⟩,
  -- BAY.HEAD_LED
  ⟨0x130, 0x0, 1, [⟨1, 1, .rw, (k 0), false, []⟩, ⟨0, 0, .rw, (k 0), false, []⟩]⟩,
  -- BAY.EVENT
  ⟨0x140, 0x0, 1, [⟨8, 8, .w1c, (k 0), false, []⟩, ⟨7, 7, .w1c, (k 0), false, []⟩, ⟨6, 6, .w1c, (k 0), false, []⟩, ⟨5, 5, .w1c, (k 0), false, []⟩, ⟨4, 4, .w1c, (k 0), false, []⟩, ⟨3, 3, .w1c, (k 0), false, []⟩, ⟨2, 2, .w1c, (k 0), false, []⟩, ⟨1, 1, .w1c, (k 0), false, []⟩, ⟨0, 0, .w1c, (k 0), false, []⟩]⟩] ++
  [
  -- BAY.EVENT_EN
  ⟨0x148, 0x0, 1, [⟨8, 8, .rw, (k 0), false, []⟩, ⟨7, 7, .rw, (k 0), false, []⟩, ⟨6, 6, .rw, (k 0), false, []⟩, ⟨5, 5, .rw, (k 0), false, []⟩, ⟨4, 4, .rw, (k 0), false, []⟩, ⟨3, 3, .rw, (k 0), false, []⟩, ⟨2, 2, .rw, (k 0), false, []⟩, ⟨1, 1, .rw, (k 0), false, []⟩, ⟨0, 0, .rw, (k 0), false, []⟩]⟩,
  -- BAY.STAT
  ⟨0x200, 0x8, 6, [⟨63, 0, .ro, (k 0), true, []⟩]⟩,
  -- BAY.BAY_CTL
  ⟨0x1000, 0x10, 96, [⟨5, 5, .wo, (k 0), false, []⟩, ⟨4, 3, .rw, (k 0), false, []⟩, ⟨2, 1, .rw, (k 0), false, []⟩]⟩,
  -- BAY.BAY_STATUS
  ⟨0x1008, 0x10, 96, [⟨15, 13, .ro, (k 0), false, []⟩, ⟨12, 12, .ro, (k 0), false, []⟩, ⟨9, 7, .ro, (k 0), false, []⟩, ⟨6, 6, .ro, (k 0), false, []⟩, ⟨5, 3, .ro, (k 0), false, []⟩, ⟨2, 0, .ro, (k 0), false, []⟩]⟩]

/-- The registers of block RCF (15_record_flash_and_events.md). -/
def regsRCF : List RegSpec :=
  [
  -- RCF.STATUS
  ⟨0x100, 0x0, 1, [⟨45, 32, .ro, (k 0), false, []⟩, ⟨18, 16, .ro, (k 0), false, []⟩, ⟨11, 11, .ro, (k 0), false, []⟩, ⟨10, 10, .ro, (k 0), false, []⟩, ⟨9, 9, .ro, (k 0), false, []⟩, ⟨8, 8, .ro, (k 0), false, []⟩, ⟨7, 5, .ro, (k 0), false, []⟩, ⟨4, 0, .ro, (k 0), false, []⟩]⟩,
  -- RCF.UNLOCK
  ⟨0x108, 0x0, 1, [⟨15, 0, .wo, (k 0), false, []⟩]⟩,
  -- RCF.CMD
  ⟨0x110, 0x0, 1, [⟨2, 0, .wo, (k 0), false, [(1, 6)]⟩]⟩,
  -- RCF.ADDR
  ⟨0x118, 0x0, 1, [⟨26, 0, .wo, (k 0), false, [(0, 79691775)]⟩]⟩,
  -- RCF.DATA
  ⟨0x120, 0x0, 1, [⟨63, 0, .wo, (k 0), false, []⟩]⟩,
  -- RCF.CTL
  ⟨0x128, 0x0, 1, [⟨31, 16, .rw, (k 1000), false, [(100, 65535)]⟩, ⟨11, 8, .rw, (k 8), false, [(1, 15)]⟩, ⟨0, 0, .rw, (k 1), false, []⟩]⟩,
  -- RCF.ROT_STATUS
  ⟨0x130, 0x0, 1, [⟨55, 46, .ro, (k 0), false, []⟩, ⟨45, 36, .ro, (k 0), false, []⟩, ⟨35, 18, .ro, (k 0), false, []⟩, ⟨17, 0, .ro, (k 0), false, []⟩]⟩,
  -- RCF.WEAR
  ⟨0x138, 0x0, 1, [⟨63, 32, .ro, (k 0), true, []⟩, ⟨24, 24, .ro, (k 0), false, []⟩, ⟨20, 16, .ro, (k 0), false, []⟩, ⟨13, 0, .ro, (k 0), false, []⟩]⟩] ++
  [
  -- RCF.EVENT
  ⟨0x150, 0x0, 1, [⟨7, 7, .w1c, (k 0), false, []⟩, ⟨6, 6, .w1c, (k 0), false, []⟩, ⟨5, 5, .w1c, (k 0), false, []⟩, ⟨4, 4, .w1c, (k 0), false, []⟩, ⟨3, 3, .w1c, (k 0), false, []⟩, ⟨2, 2, .w1c, (k 0), false, []⟩, ⟨1, 1, .w1c, (k 0), false, []⟩, ⟨0, 0, .w1c, (k 0), false, []⟩]⟩,
  -- RCF.EVENT_EN
  ⟨0x158, 0x0, 1, [⟨7, 7, .rw, (k 0), false, []⟩, ⟨6, 6, .rw, (k 0), false, []⟩, ⟨5, 5, .rw, (k 0), false, []⟩, ⟨4, 4, .rw, (k 0), false, []⟩, ⟨3, 3, .rw, (k 0), false, []⟩, ⟨2, 2, .rw, (k 0), false, []⟩, ⟨1, 1, .rw, (k 0), false, []⟩, ⟨0, 0, .rw, (k 0), false, []⟩]⟩,
  -- RCF.STAT
  ⟨0x200, 0x8, 8, [⟨63, 0, .ro, (k 0), true, []⟩]⟩]

/-- The registers of block EVR (15_record_flash_and_events.md). -/
def regsEVR : List RegSpec :=
  [
  -- EVR.STATUS
  ⟨0x100, 0x0, 1, [⟨21, 20, .ro, (k 0), false, []⟩, ⟨16, 8, .ro, (k 0), false, []⟩, ⟨3, 3, .ro, (k 0), false, []⟩, ⟨2, 2, .ro, (k 0), false, []⟩, ⟨1, 1, .ro, (k 0), false, []⟩, ⟨0, 0, .ro, (k 1), false, []⟩]⟩,
  -- EVR.HEAD
  ⟨0x108, 0x0, 1, [⟨63, 0, .ro, (k 0), false, []⟩]⟩,
  -- EVR.TAIL
  ⟨0x110, 0x0, 1, [⟨63, 0, .ro, (k 0), false, []⟩]⟩,
  -- EVR.TIME
  ⟨0x118, 0x0, 1, [⟨63, 32, .ro, (k 0), false, []⟩, ⟨31, 0, .ro, (k 0), false, []⟩]⟩,
  -- EVR.RD_SEQ
  ⟨0x120, 0x0, 1, [⟨63, 0, .rw, (k 0), false, []⟩]⟩,
  -- EVR.CLEAR_CMD
  ⟨0x128, 0x0, 1, [⟨1, 0, .wo, (k 0), false, [(1, 1)]⟩]⟩,
  -- EVR.RD_DATA
  ⟨0x140, 0x8, 8, [⟨63, 0, .ro, (k 0), false, []⟩]⟩,
  -- EVR.EVENT
  ⟨0x180, 0x0, 1, [⟨4, 4, .w1c, (k 0), false, []⟩, ⟨3, 3, .w1c, (k 0), false, []⟩, ⟨2, 2, .w1c, (k 0), false, []⟩, ⟨1, 1, .w1c, (k 0), false, []⟩, ⟨0, 0, .w1c, (k 0), false, []⟩]⟩] ++
  [
  -- EVR.EVENT_EN
  ⟨0x188, 0x0, 1, [⟨4, 4, .rw, (k 0), false, []⟩, ⟨3, 3, .rw, (k 0), false, []⟩, ⟨2, 2, .rw, (k 0), false, []⟩, ⟨1, 1, .rw, (k 0), false, []⟩, ⟨0, 0, .rw, (k 0), false, []⟩]⟩,
  -- EVR.SW_REC0
  ⟨0x190, 0x0, 1, [⟨63, 40, .rw, (k 0), false, []⟩, ⟨18, 16, .rw, (k 0), false, [(0, 6)]⟩, ⟨15, 0, .rw, (k 32768), false, [(32768, 65535)]⟩]⟩,
  -- EVR.SW_REC1
  ⟨0x198, 0x0, 1, [⟨63, 0, .rw, (k 0), false, []⟩]⟩,
  -- EVR.SW_REC2
  ⟨0x1A0, 0x0, 1, [⟨63, 0, .rw, (k 0), false, []⟩]⟩,
  -- EVR.STAT
  ⟨0x200, 0x8, 6, [⟨63, 0, .ro, (k 0), true, []⟩]⟩]

/-- The registers of block FLT (16_fault_handling.md). -/
def regsFLT : List RegSpec :=
  [
  -- FLT.STATUS
  ⟨0x100, 0x0, 1, [⟨16, 16, .ro, (k 0), false, []⟩, ⟨7, 7, .ro, (k 0), false, []⟩, ⟨2, 0, .ro, (k 0), false, []⟩]⟩,
  -- FLT.ACTIVE
  ⟨0x108, 0x0, 1, [⟨63, 0, .ro, (k 0), false, []⟩]⟩,
  -- FLT.ACK
  ⟨0x110, 0x0, 1, [⟨63, 32, .wo, (k 0), false, []⟩, ⟨2, 0, .wo, (k 0), false, [(1, 5)]⟩]⟩,
  -- FLT.WDOG_CTL
  ⟨0x118, 0x0, 1, [⟨16, 16, .w1s, (k 0), false, []⟩, ⟨15, 0, .rw, (k 2000), false, [(10, 65535)]⟩]⟩,
  -- FLT.WDOG_KICK
  ⟨0x120, 0x0, 1, [⟨15, 0, .wo, (k 0), false, []⟩]⟩,
  -- FLT.WDOG_STATUS
  ⟨0x128, 0x0, 1, [⟨33, 32, .ro, (k 0), false, []⟩, ⟨31, 0, .ro, (k 0), false, []⟩]⟩,
  -- FLT.PROG_CTL
  ⟨0x130, 0x0, 1, [⟨15, 0, .rw, (k 2500), false, [(500, 65535)]⟩]⟩,
  -- FLT.CE_CTL
  ⟨0x138, 0x0, 1, [⟨15, 0, .rw, (k 64), false, [(1, 65535)]⟩]⟩] ++
  [
  -- FLT.LAST_FATAL0
  ⟨0x140, 0x0, 1, [⟨63, 0, .ro, (k 0), true, []⟩]⟩,
  -- FLT.LAST_FATAL1
  ⟨0x148, 0x0, 1, [⟨63, 48, .ro, (k 0), true, []⟩, ⟨47, 24, .ro, (k 0), true, []⟩, ⟨0, 0, .ro, (k 0), true, []⟩]⟩,
  -- FLT.INJECT
  ⟨0x150, 0x0, 1, [⟨63, 48, .wo, (k 0), false, [(1281, 1297)]⟩, ⟨47, 24, .wo, (k 0), false, []⟩]⟩,
  -- FLT.EVENT
  ⟨0x160, 0x0, 1, [⟨8, 8, .w1c, (k 0), false, []⟩, ⟨7, 7, .w1c, (k 0), false, []⟩, ⟨6, 6, .w1c, (k 0), false, []⟩, ⟨5, 5, .w1c, (k 0), false, []⟩, ⟨4, 0, .w1c, (k 0), false, []⟩]⟩,
  -- FLT.EVENT_EN
  ⟨0x168, 0x0, 1, [⟨8, 8, .rw, (k 0), false, []⟩, ⟨7, 7, .rw, (k 0), false, []⟩, ⟨6, 6, .rw, (k 0), false, []⟩, ⟨5, 5, .rw, (k 0), false, []⟩, ⟨4, 0, .rw, (k 0), false, []⟩]⟩,
  -- FLT.STAT
  ⟨0x200, 0x8, 10, [⟨63, 0, .ro, (k 0), true, []⟩]⟩,
  -- FLT.CLASS_CTL
  ⟨0x400, 0x20, 5, [⟨31, 0, .rw, fltResetAck, false, []⟩]⟩,
  -- FLT.CLASS_STATUS
  ⟨0x408, 0x20, 5, [⟨63, 32, .ro, (k 0), true, []⟩, ⟨20, 20, .ro, (k 0), false, []⟩, ⟨4, 0, .ro, (k 0), false, []⟩]⟩] ++
  [
  -- FLT.CLASS_HEAD
  ⟨0x410, 0x20, 5, [⟨63, 0, .ro, (k 0), false, []⟩]⟩,
  -- FLT.CLASS_LEFT
  ⟨0x418, 0x20, 5, [⟨31, 0, .ro, (k 0), false, []⟩]⟩]

/-- The common registers of every block (R565): ID, ERR_STATUS, ERR_ADDR, ERR_MASK, INT_STATUS. -/
def regsCommon : List RegSpec := [
  ⟨0x0000, 0, 1, [⟨63, 0, .ro, k 0, false, []⟩]⟩,
  ⟨0x0008, 0, 1, [⟨63, 32, .ro, k 0, false, []⟩, ⟨8, 8, .w1c, k 0, false, []⟩, ⟨4, 0, .w1c, k 0, false, []⟩]⟩,
  ⟨0x0010, 0, 1, [⟨63, 61, .ro, k 0, false, []⟩, ⟨55, 50, .ro, k 0, false, []⟩, ⟨45, 0, .ro, k 0, false, []⟩]⟩,
  ⟨0x0018, 0, 1, [⟨4, 0, .rw, k 0, false, []⟩]⟩,
  ⟨0x0020, 0, 1, [⟨17, 0, .ro, k 0, false, []⟩]⟩]

/-- One block of the block table of R564: the prefix in ASCII (R565), the offset of EVENT, the bits EVENT
defines, and the block's own registers. -/
structure BlockSpec where
  ascii : Nat
  eventOff : Nat
  regs : List RegSpec

/-- The 23 blocks in SOURCE order (R563, R564). -/
def blocks : List BlockSpec := [
  ⟨0x54434B, 0x138, regsTCK⟩,
  ⟨0x4C4353, 0x160, regsLCS⟩,
  ⟨0x53494D, 0x150, regsSIM⟩,
  ⟨0x415043, 0x160, regsAPC⟩,
  ⟨0x4D454D, 0x130, regsMEM⟩,
  ⟨0x485054, 0x140, regsHPT⟩,
  ⟨0x515043, 0x130, regsQPC⟩,
  ⟨0x434D46, 0x160, regsCMF⟩,
  ⟨0x564354, 0x150, regsVCT⟩,
  ⟨0x524458, 0x130, regsRDX⟩,
  ⟨0x434D50, 0x130, regsCMP⟩,
  ⟨0x434950, 0x160, regsCIP⟩,
  ⟨0x444753, 0x130, regsDGS⟩,
  ⟨0x46544C, 0x1A0, regsFTL⟩,
  ⟨0x52444E, 0x180, regsRDN⟩,
  ⟨0x46524E, 0x130, regsFRN⟩,
  ⟨0x52464C, 0x170, regsRFL⟩,
  ⟨0x574954, 0x118, regsWIT⟩,
  ⟨0x504352, 0x170, regsPCR⟩,
  ⟨0x424159, 0x140, regsBAY⟩,
  ⟨0x524346, 0x150, regsRCF⟩,
  ⟨0x455652, 0x180, regsEVR⟩,
  ⟨0x464C54, 0x160, regsFLT⟩]

/-- SOURCE number of block TCK (R564). -/
def Src.TCK : Nat := 0
/-- SOURCE number of block LCS (R564). -/
def Src.LCS : Nat := 1
/-- SOURCE number of block SIM (R564). -/
def Src.SIM : Nat := 2
/-- SOURCE number of block APC (R564). -/
def Src.APC : Nat := 3
/-- SOURCE number of block MEM (R564). -/
def Src.MEM : Nat := 4
/-- SOURCE number of block HPT (R564). -/
def Src.HPT : Nat := 5
/-- SOURCE number of block QPC (R564). -/
def Src.QPC : Nat := 6
/-- SOURCE number of block CMF (R564). -/
def Src.CMF : Nat := 7
/-- SOURCE number of block VCT (R564). -/
def Src.VCT : Nat := 8
/-- SOURCE number of block RDX (R564). -/
def Src.RDX : Nat := 9
/-- SOURCE number of block CMP (R564). -/
def Src.CMP : Nat := 10
/-- SOURCE number of block CIP (R564). -/
def Src.CIP : Nat := 11
/-- SOURCE number of block DGS (R564). -/
def Src.DGS : Nat := 12
/-- SOURCE number of block FTL (R564). -/
def Src.FTL : Nat := 13
/-- SOURCE number of block RDN (R564). -/
def Src.RDN : Nat := 14
/-- SOURCE number of block FRN (R564). -/
def Src.FRN : Nat := 15
/-- SOURCE number of block RFL (R564). -/
def Src.RFL : Nat := 16
/-- SOURCE number of block WIT (R564). -/
def Src.WIT : Nat := 17
/-- SOURCE number of block PCR (R564). -/
def Src.PCR : Nat := 18
/-- SOURCE number of block BAY (R564). -/
def Src.BAY : Nat := 19
/-- SOURCE number of block RCF (R564). -/
def Src.RCF : Nat := 20
/-- SOURCE number of block EVR (R564). -/
def Src.EVR : Nat := 21
/-- SOURCE number of block FLT (R564). -/
def Src.FLT : Nat := 22

/-! Fields of TCK. -/
def F.TCK.CONFIG.TICK_LEN : Fld := ⟨0xF0000100, 0x0, 1, 0⟩
def F.TCK.STATUS.CYCLES : Fld := ⟨0xF0000108, 0x0, 31, 16⟩
def F.TCK.STATUS.ROLE : Fld := ⟨0xF0000108, 0x0, 7, 6⟩
def F.TCK.STATUS.HEAD_SLOT : Fld := ⟨0xF0000108, 0x0, 5, 5⟩
def F.TCK.STATUS.REF_LINK : Fld := ⟨0xF0000108, 0x0, 4, 4⟩
def F.TCK.STATUS.ALIGN : Fld := ⟨0xF0000108, 0x0, 2, 0⟩
def F.TCK.TICK_COUNT.COUNT : Fld := ⟨0xF0000110, 0x0, 63, 0⟩
def F.TCK.REF_CTL.SRC : Fld := ⟨0xF0000118, 0x0, 1, 0⟩
def F.TCK.PHASE_ERR.ERR : Fld := ⟨0xF0000120, 0x0, 15, 0⟩
def F.TCK.TRIM.PPB : Fld := ⟨0xF0000128, 0x0, 31, 0⟩
def F.TCK.PEER_OFFSET.OFFSET : Fld := ⟨0xF0000130, 0x0, 15, 0⟩
def F.TCK.EVENT.ALIGN_FAULT : Fld := ⟨0xF0000138, 0x0, 5, 5⟩
def F.TCK.EVENT.HOLDOVER_END : Fld := ⟨0xF0000138, 0x0, 4, 4⟩
def F.TCK.EVENT.REF_SWITCH : Fld := ⟨0xF0000138, 0x0, 3, 3⟩
def F.TCK.EVENT.REF_LOST : Fld := ⟨0xF0000138, 0x0, 2, 2⟩
def F.TCK.EVENT.LOCK_LOST : Fld := ⟨0xF0000138, 0x0, 1, 1⟩
def F.TCK.EVENT.LOCK_GAINED : Fld := ⟨0xF0000138, 0x0, 0, 0⟩
def F.TCK.RR_STATE.FIRST_VALID : Fld := ⟨0xF0000148, 0x0, 10, 10⟩
def F.TCK.RR_STATE.FIRST_VC : Fld := ⟨0xF0000148, 0x0, 9, 0⟩
def F.TCK.SAMPLED.RANKS : Fld := ⟨0xF0000150, 0x0, 11, 0⟩
def F.TCK.CUT_COUNT.COUNT : Fld := ⟨0xF0000200, 0x8, 63, 0⟩
/-! Fields of LCS. -/
def F.LCS.STATUS.TOKEN_PURPOSE : Fld := ⟨0xF0400100, 0x0, 31, 28⟩
def F.LCS.STATUS.GEO_TOKEN : Fld := ⟨0xF0400100, 0x0, 25, 25⟩
def F.LCS.STATUS.OEM_TOKEN : Fld := ⟨0xF0400100, 0x0, 24, 24⟩
def F.LCS.STATUS.ST_FAIL : Fld := ⟨0xF0400100, 0x0, 23, 23⟩
def F.LCS.STATUS.ST_PHASE : Fld := ⟨0xF0400100, 0x0, 22, 20⟩
def F.LCS.STATUS.BOOT_FAIL : Fld := ⟨0xF0400100, 0x0, 19, 19⟩
def F.LCS.STATUS.BOOT_SLOT : Fld := ⟨0xF0400100, 0x0, 17, 16⟩
def F.LCS.STATUS.AWK : Fld := ⟨0xF0400100, 0x0, 15, 15⟩
def F.LCS.STATUS.SECRET_KILLED : Fld := ⟨0xF0400100, 0x0, 14, 14⟩
def F.LCS.STATUS.DEBUG : Fld := ⟨0xF0400100, 0x0, 13, 13⟩
def F.LCS.STATUS.LC : Fld := ⟨0xF0400100, 0x0, 10, 8⟩
def F.LCS.STATUS.MODE : Fld := ⟨0xF0400100, 0x0, 3, 0⟩
def F.LCS.RESET_CAUSE.KIND : Fld := ⟨0xF0400108, 0x0, 2, 0⟩
def F.LCS.SW_RESET.KEY : Fld := ⟨0xF0400110, 0x0, 15, 0⟩
def F.LCS.START_CTL.LINK_WAIT : Fld := ⟨0xF0400118, 0x0, 63, 32⟩
def F.LCS.START_CTL.LISTEN : Fld := ⟨0xF0400118, 0x0, 31, 0⟩
def F.LCS.CMD.VALUE : Fld := ⟨0xF0400120, 0x0, 63, 32⟩
def F.LCS.CMD.INDEX : Fld := ⟨0xF0400120, 0x0, 9, 8⟩
def F.LCS.CMD.OP : Fld := ⟨0xF0400120, 0x0, 3, 0⟩
def F.LCS.CMD_STATUS.BUSY : Fld := ⟨0xF0400128, 0x0, 8, 8⟩
def F.LCS.CMD_STATUS.RESULT : Fld := ⟨0xF0400128, 0x0, 3, 0⟩
def F.LCS.NONCE0.NONCE : Fld := ⟨0xF0400130, 0x0, 63, 0⟩
def F.LCS.NONCE1.NONCE : Fld := ⟨0xF0400138, 0x0, 63, 0⟩
def F.LCS.KEYS.ACTIVE : Fld := ⟨0xF0400140, 0x0, 13, 12⟩
def F.LCS.KEYS.TOKEN_PROG : Fld := ⟨0xF0400140, 0x0, 8, 8⟩
def F.LCS.KEYS.REVOKED : Fld := ⟨0xF0400140, 0x0, 7, 4⟩
def F.LCS.KEYS.PROG : Fld := ⟨0xF0400140, 0x0, 3, 0⟩
def F.LCS.ROLLBACK.ROWS : Fld := ⟨0xF0400148, 0x0, 36, 32⟩
def F.LCS.ROLLBACK.MIN : Fld := ⟨0xF0400148, 0x0, 31, 0⟩
def F.LCS.SERIAL0.SERIAL : Fld := ⟨0xF0400150, 0x0, 63, 0⟩
def F.LCS.SERIAL1.SERIAL : Fld := ⟨0xF0400158, 0x0, 63, 0⟩
def F.LCS.EVENT.NO_WITNESS : Fld := ⟨0xF0400160, 0x0, 3, 3⟩
def F.LCS.EVENT.ST_FAIL : Fld := ⟨0xF0400160, 0x0, 2, 2⟩
def F.LCS.EVENT.TOKEN_FAIL : Fld := ⟨0xF0400160, 0x0, 1, 1⟩
def F.LCS.EVENT.CMD_DONE : Fld := ⟨0xF0400160, 0x0, 0, 0⟩
def F.LCS.PFD_STATUS.RESULT : Fld := ⟨0xF0400170, 0x0, 33, 32⟩
def F.LCS.PFD_STATUS.OUTSTANDING : Fld := ⟨0xF0400170, 0x0, 31, 16⟩
def F.LCS.PFD_STATUS.LAST_US : Fld := ⟨0xF0400170, 0x0, 15, 0⟩
def F.LCS.STAT.COUNT : Fld := ⟨0xF0400200, 0x8, 63, 0⟩
def F.LCS.DATA.DATA : Fld := ⟨0xF0400400, 0x8, 63, 0⟩
/-! Fields of SIM. -/
def F.SIM.STATUS.CAUSE : Fld := ⟨0xF0800100, 0x0, 23, 20⟩
def F.SIM.STATUS.PARTS : Fld := ⟨0xF0800100, 0x0, 19, 16⟩
def F.SIM.STATUS.SLOT : Fld := ⟨0xF0800100, 0x0, 11, 10⟩
def F.SIM.STATUS.CMD_RESULT : Fld := ⟨0xF0800100, 0x0, 9, 8⟩
def F.SIM.STATUS.BUSY : Fld := ⟨0xF0800100, 0x0, 7, 7⟩
def F.SIM.STATUS.STATE : Fld := ⟨0xF0800100, 0x0, 2, 0⟩
def F.SIM.IMAGE.COMPAT : Fld := ⟨0xF0800108, 0x0, 63, 32⟩
def F.SIM.IMAGE.IMAGE_SEQ : Fld := ⟨0xF0800108, 0x0, 31, 0⟩
def F.SIM.BOOT_CTL.TRIED : Fld := ⟨0xF0800110, 0x0, 5, 5⟩
def F.SIM.BOOT_CTL.TRIAL : Fld := ⟨0xF0800110, 0x0, 4, 4⟩
def F.SIM.BOOT_CTL.PREF : Fld := ⟨0xF0800110, 0x0, 1, 0⟩
def F.SIM.CMD.OP : Fld := ⟨0xF0800118, 0x0, 2, 0⟩
def F.SIM.ARG.ADDR : Fld := ⟨0xF0800120, 0x0, 47, 6⟩
def F.SIM.ARG.SRC : Fld := ⟨0xF0800120, 0x0, 1, 0⟩
def F.SIM.AT_TICK.TICK : Fld := ⟨0xF0800128, 0x0, 63, 0⟩
def F.SIM.SWAP_CTL.DEFER_MAX : Fld := ⟨0xF0800130, 0x0, 31, 0⟩
def F.SIM.SLOT_A.IMAGE_SEQ : Fld := ⟨0xF0800138, 0x0, 63, 32⟩
def F.SIM.SLOT_A.PARTS : Fld := ⟨0xF0800138, 0x0, 31, 28⟩
def F.SIM.SLOT_A.CAUSE : Fld := ⟨0xF0800138, 0x0, 27, 24⟩
def F.SIM.SLOT_A.FREE_SECT : Fld := ⟨0xF0800138, 0x0, 23, 16⟩
def F.SIM.SLOT_A.VALID : Fld := ⟨0xF0800138, 0x0, 0, 0⟩
def F.SIM.SLOT_B.IMAGE_SEQ : Fld := ⟨0xF0800140, 0x0, 63, 32⟩
def F.SIM.SLOT_B.PARTS : Fld := ⟨0xF0800140, 0x0, 31, 28⟩
def F.SIM.SLOT_B.CAUSE : Fld := ⟨0xF0800140, 0x0, 27, 24⟩
def F.SIM.SLOT_B.FREE_SECT : Fld := ⟨0xF0800140, 0x0, 23, 16⟩
def F.SIM.SLOT_B.VALID : Fld := ⟨0xF0800140, 0x0, 0, 0⟩
def F.SIM.EVENT.VERIFY_DONE : Fld := ⟨0xF0800150, 0x0, 8, 8⟩
def F.SIM.EVENT.TRIAL_FAILED : Fld := ⟨0xF0800150, 0x0, 7, 7⟩
def F.SIM.EVENT.PART_SKIPPED : Fld := ⟨0xF0800150, 0x0, 6, 6⟩
def F.SIM.EVENT.ABANDONED : Fld := ⟨0xF0800150, 0x0, 5, 5⟩
def F.SIM.EVENT.COMMITTED : Fld := ⟨0xF0800150, 0x0, 4, 4⟩
def F.SIM.EVENT.STAGED : Fld := ⟨0xF0800150, 0x0, 3, 3⟩
def F.SIM.EVENT.REFUSED : Fld := ⟨0xF0800150, 0x0, 2, 2⟩
def F.SIM.EVENT.LOAD_FAIL : Fld := ⟨0xF0800150, 0x0, 1, 1⟩
def F.SIM.EVENT.LOAD_DONE : Fld := ⟨0xF0800150, 0x0, 0, 0⟩
def F.SIM.STAT.COUNT : Fld := ⟨0xF0800200, 0x8, 63, 0⟩
def F.SIM.JOBFMT.OPCODES : Fld := ⟨0xF0800300, 0x8, 63, 0⟩
/-! Fields of APC. -/
def F.APC.CORE_RUN.RUN : Fld := ⟨0xF0C00100, 0x0, 47, 0⟩
def F.APC.RESET_VEC.ADDR : Fld := ⟨0xF0C00108, 0x0, 47, 2⟩
def F.APC.BOOT_CTL.TRIED : Fld := ⟨0xF0C00110, 0x0, 5, 5⟩
def F.APC.BOOT_CTL.TRIAL : Fld := ⟨0xF0C00110, 0x0, 4, 4⟩
def F.APC.BOOT_CTL.PREF : Fld := ⟨0xF0C00110, 0x0, 1, 0⟩
def F.APC.IRQ_EOI.SOURCE : Fld := ⟨0xF0C00118, 0x0, 9, 0⟩
def F.APC.PCIE_CTL.EN : Fld := ⟨0xF0C00120, 0x0, 0, 0⟩
def F.APC.PCIE_CTL.PERST : Fld := ⟨0xF0C00120, 0x0, 1, 1⟩
def F.APC.PCIE_CTL.MAX_GEN : Fld := ⟨0xF0C00120, 0x0, 4, 2⟩
def F.APC.PCIE_STATUS.GEN : Fld := ⟨0xF0C00128, 0x0, 3, 0⟩
def F.APC.PCIE_STATUS.WIDTH : Fld := ⟨0xF0C00128, 0x0, 6, 4⟩
def F.APC.PCIE_STATUS.UP : Fld := ⟨0xF0C00128, 0x0, 8, 8⟩
def F.APC.MCTP_CFG.EID_VALID : Fld := ⟨0xF0C00130, 0x0, 17, 17⟩
def F.APC.MCTP_CFG.EN : Fld := ⟨0xF0C00130, 0x0, 16, 16⟩
def F.APC.MCTP_CFG.EID : Fld := ⟨0xF0C00130, 0x0, 15, 8⟩
def F.APC.MCTP_CFG.STATIC_ADDR : Fld := ⟨0xF0C00130, 0x0, 6, 0⟩
def F.APC.MCTP_RX_BASE.ADDR : Fld := ⟨0xF0C00138, 0x0, 47, 17⟩
def F.APC.MCTP_RX_BASE.EN : Fld := ⟨0xF0C00138, 0x0, 0, 0⟩
def F.APC.MCTP_RX_IDX.CONS : Fld := ⟨0xF0C00140, 0x0, 31, 16⟩
def F.APC.MCTP_RX_IDX.PROD : Fld := ⟨0xF0C00140, 0x0, 15, 0⟩
def F.APC.MCTP_TX_BASE.ADDR : Fld := ⟨0xF0C00148, 0x0, 47, 17⟩
def F.APC.MCTP_TX_BASE.EN : Fld := ⟨0xF0C00148, 0x0, 0, 0⟩
def F.APC.MCTP_TX_IDX.CONS : Fld := ⟨0xF0C00150, 0x0, 31, 16⟩
def F.APC.MCTP_TX_IDX.PROD : Fld := ⟨0xF0C00150, 0x0, 15, 0⟩
def F.APC.MTIME.TIME : Fld := ⟨0xF0C00158, 0x0, 63, 0⟩
def F.APC.EVENT.EID_SET : Fld := ⟨0xF0C00160, 0x0, 7, 7⟩
def F.APC.EVENT.IRQ_DROP : Fld := ⟨0xF0C00160, 0x0, 6, 6⟩
def F.APC.EVENT.MCTP_BAD : Fld := ⟨0xF0C00160, 0x0, 5, 5⟩
def F.APC.EVENT.MCTP_RX_DROP : Fld := ⟨0xF0C00160, 0x0, 4, 4⟩
def F.APC.EVENT.AER_UNCORR : Fld := ⟨0xF0C00160, 0x0, 3, 3⟩
def F.APC.EVENT.AER_CORR : Fld := ⟨0xF0C00160, 0x0, 2, 2⟩
def F.APC.EVENT.PCIE_DOWN : Fld := ⟨0xF0C00160, 0x0, 1, 1⟩
def F.APC.EVENT.PCIE_UP : Fld := ⟨0xF0C00160, 0x0, 0, 0⟩
def F.APC.STAT.COUNT : Fld := ⟨0xF0C00200, 0x8, 63, 0⟩
def F.APC.IRQ_PEND.STATE : Fld := ⟨0xF0C00400, 0x8, 63, 0⟩
def F.APC.MTIMECMP.CMP : Fld := ⟨0xF0C02000, 0x8, 63, 0⟩
def F.APC.IRQ_ROUTE.EN : Fld := ⟨0xF0C04000, 0x8, 63, 63⟩
def F.APC.IRQ_ROUTE.IN_SERVICE : Fld := ⟨0xF0C04000, 0x8, 62, 62⟩
def F.APC.IRQ_ROUTE.PENDING : Fld := ⟨0xF0C04000, 0x8, 61, 61⟩
def F.APC.IRQ_ROUTE.HOLD : Fld := ⟨0xF0C04000, 0x8, 47, 36⟩
def F.APC.IRQ_ROUTE.CORE : Fld := ⟨0xF0C04000, 0x8, 29, 24⟩
def F.APC.IRQ_ROUTE.MODE : Fld := ⟨0xF0C04000, 0x8, 16, 16⟩
def F.APC.IRQ_ROUTE.ID : Fld := ⟨0xF0C04000, 0x8, 7, 0⟩
def F.APC.MSI_TARGET.MSG : Fld := ⟨0xF0C08000, 0x0, 63, 0⟩
/-! Fields of MEM. -/
def F.MEM.STATUS.FILL_DONE : Fld := ⟨0xF1000100, 0x0, 3, 3⟩
def F.MEM.STATUS.DDR_READY : Fld := ⟨0xF1000100, 0x0, 2, 2⟩
def F.MEM.STATUS.HBM_READY : Fld := ⟨0xF1000100, 0x0, 1, 1⟩
def F.MEM.STATUS.DDR_BAD : Fld := ⟨0xF1000100, 0x0, 0, 0⟩
def F.MEM.STATUS.RATE : Fld := ⟨0xF1000100, 0x0, 31, 16⟩
def F.MEM.DDR_SIZE.GIB : Fld := ⟨0xF1000108, 0x0, 11, 0⟩
def F.MEM.VIOL.VALID : Fld := ⟨0xF1000110, 0x0, 63, 63⟩
def F.MEM.VIOL.WRITE : Fld := ⟨0xF1000110, 0x0, 54, 54⟩
def F.MEM.VIOL.REQ : Fld := ⟨0xF1000110, 0x0, 52, 48⟩
def F.MEM.VIOL.ADDR : Fld := ⟨0xF1000110, 0x0, 47, 0⟩
def F.MEM.SCRUB_CTL.FILL_GBPS : Fld := ⟨0xF1000118, 0x0, 23, 16⟩
def F.MEM.SCRUB_CTL.SCRUB_H : Fld := ⟨0xF1000118, 0x0, 7, 0⟩
def F.MEM.EVENT.SCRUB_PASS : Fld := ⟨0xF1000130, 0x0, 3, 3⟩
def F.MEM.EVENT.CE : Fld := ⟨0xF1000130, 0x0, 2, 2⟩
def F.MEM.EVENT.VIOL : Fld := ⟨0xF1000130, 0x0, 1, 1⟩
def F.MEM.EVENT.FILL_DONE : Fld := ⟨0xF1000130, 0x0, 0, 0⟩
def F.MEM.STAT.COUNT : Fld := ⟨0xF1000200, 0x8, 63, 0⟩
def F.MEM.PART_BASE.BASE : Fld := ⟨0xF1001000, 0x20, 47, 21⟩
def F.MEM.PART_SIZE.SIZE : Fld := ⟨0xF1001008, 0x20, 47, 21⟩
def F.MEM.PART_CTL.EN : Fld := ⟨0xF1001010, 0x20, 63, 63⟩
def F.MEM.PART_CTL.ROLE : Fld := ⟨0xF1001010, 0x20, 34, 32⟩
def F.MEM.PART_CTL.INIT : Fld := ⟨0xF1001010, 0x20, 24, 24⟩
def F.MEM.PART_CTL.GRANT : Fld := ⟨0xF1001010, 0x20, 23, 0⟩
def F.MEM.CH_STATUS.CE : Fld := ⟨0xF1002000, 0x8, 63, 32⟩
def F.MEM.CH_STATUS.UE : Fld := ⟨0xF1002000, 0x8, 31, 16⟩
def F.MEM.CH_STATUS.STATE : Fld := ⟨0xF1002000, 0x8, 1, 0⟩
/-! Fields of HPT. -/
def F.HPT.CONFIG.SPLIT : Fld := ⟨0xF1400100, 0x0, 1, 0⟩
def F.HPT.STATUS.UP : Fld := ⟨0xF1400108, 0x0, 31, 0⟩
def F.HPT.SPRAY_CTL.BUSY_US : Fld := ⟨0xF1400110, 0x0, 63, 48⟩
def F.HPT.SPRAY_CTL.CWND_MAX_KB : Fld := ⟨0xF1400110, 0x0, 47, 32⟩
def F.HPT.SPRAY_CTL.CWND_INIT_KB : Fld := ⟨0xF1400110, 0x0, 31, 20⟩
def F.HPT.SPRAY_CTL.DUP_THR : Fld := ⟨0xF1400110, 0x0, 17, 16⟩
def F.HPT.SPRAY_CTL.UDP_PORT : Fld := ⟨0xF1400110, 0x0, 15, 0⟩
def F.HPT.ROCE_CC.AI_MBPS : Fld := ⟨0xF1400118, 0x0, 31, 16⟩
def F.HPT.ROCE_CC.GAP : Fld := ⟨0xF1400118, 0x0, 7, 0⟩
def F.HPT.REGION_BASE.ADDR : Fld := ⟨0xF1400120, 0x0, 47, 19⟩
def F.HPT.REGION_BASE.EN : Fld := ⟨0xF1400120, 0x0, 0, 0⟩
def F.HPT.TRIG_BASE.ADDR : Fld := ⟨0xF1400128, 0x0, 47, 19⟩
def F.HPT.TRIG_BASE.EN : Fld := ⟨0xF1400128, 0x0, 0, 0⟩
def F.HPT.SPRAY_DB.CONN : Fld := ⟨0xF1400130, 0x0, 48, 32⟩
def F.HPT.SPRAY_DB.PROD : Fld := ⟨0xF1400130, 0x0, 31, 0⟩
def F.HPT.TRIG_CMD.OP : Fld := ⟨0xF1400138, 0x0, 63, 62⟩
def F.HPT.TRIG_CMD.TAG : Fld := ⟨0xF1400138, 0x0, 47, 32⟩
def F.HPT.TRIG_CMD.VALUE : Fld := ⟨0xF1400138, 0x0, 31, 0⟩
def F.HPT.EVENT.RING_FULL : Fld := ⟨0xF1400140, 0x0, 4, 4⟩
def F.HPT.EVENT.MISS_FULL : Fld := ⟨0xF1400140, 0x0, 3, 3⟩
def F.HPT.EVENT.RAW_DROP : Fld := ⟨0xF1400140, 0x0, 2, 2⟩
def F.HPT.EVENT.PORT_DOWN : Fld := ⟨0xF1400140, 0x0, 1, 1⟩
def F.HPT.EVENT.PORT_UP : Fld := ⟨0xF1400140, 0x0, 0, 0⟩
def F.HPT.STAT.COUNT : Fld := ⟨0xF1400200, 0x8, 63, 0⟩
def F.HPT.PORT_CTL.EN : Fld := ⟨0xF1401000, 0x40, 0, 0⟩
def F.HPT.PORT_STATUS.SPEED : Fld := ⟨0xF1401008, 0x40, 7, 4⟩
def F.HPT.PORT_STATUS.STATE : Fld := ⟨0xF1401008, 0x40, 1, 0⟩
def F.HPT.PORT_MAC.MAC : Fld := ⟨0xF1401010, 0x40, 47, 0⟩
def F.HPT.PORT_ERR.FCS : Fld := ⟨0xF1401018, 0x40, 63, 32⟩
def F.HPT.PORT_ERR.FEC : Fld := ⟨0xF1401018, 0x40, 31, 0⟩
def F.HPT.IP_ADDR_LO.ADDR : Fld := ⟨0xF1402000, 0x20, 63, 0⟩
def F.HPT.IP_ADDR_HI.ADDR : Fld := ⟨0xF1402008, 0x20, 63, 0⟩
def F.HPT.IP_CTL.VALID : Fld := ⟨0xF1402010, 0x20, 7, 7⟩
def F.HPT.IP_CTL.V6 : Fld := ⟨0xF1402010, 0x20, 6, 6⟩
def F.HPT.IP_CTL.PORT : Fld := ⟨0xF1402010, 0x20, 4, 0⟩
def F.HPT.RING_BASE.ADDR : Fld := ⟨0xF1404000, 0x20, 47, 5⟩
def F.HPT.RING_CFG.SIZE_LOG2 : Fld := ⟨0xF1404008, 0x20, 12, 8⟩
def F.HPT.RING_CFG.EN : Fld := ⟨0xF1404008, 0x20, 0, 0⟩
def F.HPT.RING_PROD.COUNT : Fld := ⟨0xF1404010, 0x20, 31, 0⟩
def F.HPT.RING_CONS.COUNT : Fld := ⟨0xF1404018, 0x20, 31, 0⟩
/-! Fields of QPC. -/
def F.QPC.CONFIG.ADDR : Fld := ⟨0xF1800100, 0x0, 47, 26⟩
def F.QPC.STATUS.MISS_KB : Fld := ⟨0xF1800108, 0x0, 43, 32⟩
def F.QPC.STATUS.FETCHES : Fld := ⟨0xF1800108, 0x0, 26, 16⟩
def F.QPC.STATUS.CACHED : Fld := ⟨0xF1800108, 0x0, 14, 0⟩
def F.QPC.CMD.OP : Fld := ⟨0xF1800110, 0x0, 19, 17⟩
def F.QPC.CMD.CONN : Fld := ⟨0xF1800110, 0x0, 16, 0⟩
def F.QPC.CMD_STATUS.BUSY : Fld := ⟨0xF1800118, 0x0, 8, 8⟩
def F.QPC.CMD_STATUS.STATE : Fld := ⟨0xF1800118, 0x0, 7, 6⟩
def F.QPC.CMD_STATUS.RESULT : Fld := ⟨0xF1800118, 0x0, 3, 0⟩
def F.QPC.ERR_LAST.CAUSE : Fld := ⟨0xF1800120, 0x0, 23, 20⟩
def F.QPC.ERR_LAST.CONN : Fld := ⟨0xF1800120, 0x0, 16, 0⟩
def F.QPC.EVENT.CONN_ERR : Fld := ⟨0xF1800130, 0x0, 1, 1⟩
def F.QPC.EVENT.CMD_DONE : Fld := ⟨0xF1800130, 0x0, 0, 0⟩
def F.QPC.STAT.COUNT : Fld := ⟨0xF1800200, 0x8, 63, 0⟩
def F.QPC.CTX_DATA.DATA : Fld := ⟨0xF1800400, 0x8, 63, 0⟩
/-! Fields of CMF. -/
def F.CMF.CONFIG.ANATT : Fld := ⟨0xF1C00100, 0x0, 39, 32⟩
def F.CMF.CONFIG.CTAB_LOG2 : Fld := ⟨0xF1C00100, 0x0, 19, 16⟩
def F.CMF.CONFIG.ICD_KB : Fld := ⟨0xF1C00100, 0x0, 12, 8⟩
def F.CMF.CONFIG.MDTS : Fld := ⟨0xF1C00100, 0x0, 3, 0⟩
def F.CMF.STATUS.HOLD : Fld := ⟨0xF1C00108, 0x0, 20, 20⟩
def F.CMF.STATUS.INFLIGHT : Fld := ⟨0xF1C00108, 0x0, 18, 0⟩
def F.CMF.ADMIT_CTL.WAIT_MAX : Fld := ⟨0xF1C00110, 0x0, 47, 16⟩
def F.CMF.ADMIT_CTL.PER_TICK : Fld := ⟨0xF1C00110, 0x0, 15, 0⟩
def F.CMF.NS_SEL.NSID : Fld := ⟨0xF1C00118, 0x0, 14, 0⟩
def F.CMF.NS_DATA0.NSZE : Fld := ⟨0xF1C00120, 0x0, 63, 0⟩
def F.CMF.NS_DATA1.SRC_NSID : Fld := ⟨0xF1C00128, 0x0, 63, 32⟩
def F.CMF.NS_DATA1.SNAP_ME : Fld := ⟨0xF1C00128, 0x0, 31, 0⟩
def F.CMF.NS_DATA2.VALID : Fld := ⟨0xF1C00130, 0x0, 27, 27⟩
def F.CMF.NS_DATA2.PTPL : Fld := ⟨0xF1C00130, 0x0, 26, 26⟩
def F.CMF.NS_DATA2.WP : Fld := ⟨0xF1C00130, 0x0, 25, 25⟩
def F.CMF.NS_DATA2.LBAF : Fld := ⟨0xF1C00130, 0x0, 24, 24⟩
def F.CMF.NS_DATA2.VSET : Fld := ⟨0xF1C00130, 0x0, 20, 16⟩
def F.CMF.NS_DATA2.KEY_SLOT : Fld := ⟨0xF1C00130, 0x0, 11, 0⟩
def F.CMF.NS_CMD.OP : Fld := ⟨0xF1C00138, 0x0, 1, 0⟩
def F.CMF.NS_STATUS.BUSY : Fld := ⟨0xF1C00140, 0x0, 8, 8⟩
def F.CMF.NS_STATUS.RESULT : Fld := ⟨0xF1C00140, 0x0, 3, 0⟩
def F.CMF.ACT_CMD.OP : Fld := ⟨0xF1C00148, 0x0, 1, 0⟩
def F.CMF.ACT_STATUS.HOLD_TICKS : Fld := ⟨0xF1C00150, 0x0, 47, 32⟩
def F.CMF.ACT_STATUS.RESULT : Fld := ⟨0xF1C00150, 0x0, 7, 4⟩
def F.CMF.ACT_STATUS.QUIESCED : Fld := ⟨0xF1C00150, 0x0, 1, 1⟩
def F.CMF.ACT_STATUS.HOLD : Fld := ⟨0xF1C00150, 0x0, 0, 0⟩
def F.CMF.SMART_BASE.ADDR : Fld := ⟨0xF1C00158, 0x0, 47, 9⟩
def F.CMF.SMART_BASE.EN : Fld := ⟨0xF1C00158, 0x0, 0, 0⟩
def F.CMF.EVENT.RSV_CHANGE : Fld := ⟨0xF1C00160, 0x0, 5, 5⟩
def F.CMF.EVENT.CAP_EXCEEDED : Fld := ⟨0xF1C00160, 0x0, 4, 4⟩
def F.CMF.EVENT.ANA_CHANGE : Fld := ⟨0xF1C00160, 0x0, 3, 3⟩
def F.CMF.EVENT.ACT_TIMEOUT : Fld := ⟨0xF1C00160, 0x0, 2, 2⟩
def F.CMF.EVENT.ACT_QUIESCED : Fld := ⟨0xF1C00160, 0x0, 1, 1⟩
def F.CMF.EVENT.NS_CMD_DONE : Fld := ⟨0xF1C00160, 0x0, 0, 0⟩
def F.CMF.STAT.COUNT : Fld := ⟨0xF1C00200, 0x8, 63, 0⟩
def F.CMF.ANA.CHANGES : Fld := ⟨0xF1C01000, 0x8, 63, 32⟩
def F.CMF.ANA.FORCE : Fld := ⟨0xF1C01000, 0x8, 5, 4⟩
def F.CMF.ANA.STATE : Fld := ⟨0xF1C01000, 0x8, 3, 0⟩
/-! Fields of VCT. -/
def F.VCT.CONFIG.QPOOL : Fld := ⟨0xF2000100, 0x0, 27, 11⟩
def F.VCT.CONFIG.VC_MAX : Fld := ⟨0xF2000100, 0x0, 10, 0⟩
def F.VCT.DESC_BASE.ADDR : Fld := ⟨0xF2000108, 0x0, 47, 20⟩
def F.VCT.NSMAP_BASE.ADDR : Fld := ⟨0xF2000110, 0x0, 47, 20⟩
def F.VCT.CMD.OP : Fld := ⟨0xF2000118, 0x0, 2, 0⟩
def F.VCT.ARG.TARGET_QBASE : Fld := ⟨0xF2000120, 0x0, 63, 48⟩
def F.VCT.ARG.TARGET_VC : Fld := ⟨0xF2000120, 0x0, 41, 32⟩
def F.VCT.ARG.VC : Fld := ⟨0xF2000120, 0x0, 9, 0⟩
def F.VCT.CMD_STATUS.BUSY : Fld := ⟨0xF2000128, 0x0, 8, 8⟩
def F.VCT.CMD_STATUS.RESULT : Fld := ⟨0xF2000128, 0x0, 3, 0⟩
def F.VCT.MOVE_CTL.FREEZE_MAX : Fld := ⟨0xF2000130, 0x0, 15, 0⟩
def F.VCT.MOVE_STATUS.HOLD_TICKS : Fld := ⟨0xF2000138, 0x0, 63, 48⟩
def F.VCT.MOVE_STATUS.CAUSE : Fld := ⟨0xF2000138, 0x0, 19, 16⟩
def F.VCT.MOVE_STATUS.RESULT : Fld := ⟨0xF2000138, 0x0, 11, 8⟩
def F.VCT.MOVE_STATUS.SEALED : Fld := ⟨0xF2000138, 0x0, 1, 1⟩
def F.VCT.MOVE_STATUS.ACTIVE : Fld := ⟨0xF2000138, 0x0, 0, 0⟩
def F.VCT.SAVE_ADDR.ADDR : Fld := ⟨0xF2000140, 0x0, 47, 6⟩
def F.VCT.RESTORE_BUF.SIZE_64K : Fld := ⟨0xF2000148, 0x0, 63, 48⟩
def F.VCT.RESTORE_BUF.ADDR : Fld := ⟨0xF2000148, 0x0, 47, 6⟩
def F.VCT.RESTORE_BUF.EN : Fld := ⟨0xF2000148, 0x0, 0, 0⟩
def F.VCT.EVENT.ARRIVED : Fld := ⟨0xF2000150, 0x0, 3, 3⟩
def F.VCT.EVENT.MOVE_END : Fld := ⟨0xF2000150, 0x0, 2, 2⟩
def F.VCT.EVENT.FREED : Fld := ⟨0xF2000150, 0x0, 1, 1⟩
def F.VCT.EVENT.CMD_DONE : Fld := ⟨0xF2000150, 0x0, 0, 0⟩
def F.VCT.STAT.COUNT : Fld := ⟨0xF2000200, 0x8, 63, 0⟩
def F.VCT.VC_STATE.VGEN : Fld := ⟨0xF2001000, 0x8, 63, 48⟩
def F.VCT.VC_STATE.INFLIGHT : Fld := ⟨0xF2001000, 0x8, 39, 20⟩
def F.VCT.VC_STATE.ASSOC : Fld := ⟨0xF2001000, 0x8, 4, 4⟩
def F.VCT.VC_STATE.STATE : Fld := ⟨0xF2001000, 0x8, 2, 0⟩
/-! Fields of RDX. -/
def F.RDX.CONFIG.DKEY : Fld := ⟨0xF2400100, 0x0, 13, 10⟩
def F.RDX.CONFIG.ZERO_EN : Fld := ⟨0xF2400100, 0x0, 9, 9⟩
def F.RDX.CONFIG.DEDUPE_EN : Fld := ⟨0xF2400100, 0x0, 8, 8⟩
def F.RDX.CONFIG.PAGES_LOG2 : Fld := ⟨0xF2400100, 0x0, 7, 4⟩
def F.RDX.CONFIG.CHUNK : Fld := ⟨0xF2400100, 0x0, 1, 0⟩
def F.RDX.SB_BASE.ADDR : Fld := ⟨0xF2400108, 0x0, 47, 0⟩
def F.RDX.SB_STATUS.LOADING : Fld := ⟨0xF2400110, 0x0, 19, 19⟩
def F.RDX.SB_STATUS.COLD : Fld := ⟨0xF2400110, 0x0, 18, 0⟩
def F.RDX.SB_FILL.PEND : Fld := ⟨0xF2400118, 0x0, 63, 48⟩
def F.RDX.SB_FILL.VALID : Fld := ⟨0xF2400118, 0x0, 31, 0⟩
def F.RDX.MERGE_CTL.Q_LOG2 : Fld := ⟨0xF2400120, 0x0, 12, 8⟩
def F.RDX.MERGE_CTL.EN : Fld := ⟨0xF2400120, 0x0, 0, 0⟩
def F.RDX.MERGE_STATUS.DEPTH : Fld := ⟨0xF2400128, 0x0, 24, 0⟩
def F.RDX.EVENT.PEND_FAIL : Fld := ⟨0xF2400130, 0x0, 3, 3⟩
def F.RDX.EVENT.MERGE_FULL : Fld := ⟨0xF2400130, 0x0, 2, 2⟩
def F.RDX.EVENT.SAT : Fld := ⟨0xF2400130, 0x0, 1, 1⟩
def F.RDX.EVENT.SB_WARM : Fld := ⟨0xF2400130, 0x0, 0, 0⟩
def F.RDX.STAT.COUNT : Fld := ⟨0xF2400200, 0x8, 63, 0⟩
/-! Fields of CMP. -/
def F.CMP.CONFIG.SAVE_SHIFT : Fld := ⟨0xF2800100, 0x0, 23, 20⟩
def F.CMP.CONFIG.PROBE_THR : Fld := ⟨0xF2800100, 0x0, 19, 16⟩
def F.CMP.CONFIG.PROBE : Fld := ⟨0xF2800100, 0x0, 13, 12⟩
def F.CMP.CONFIG.CSUM_EN : Fld := ⟨0xF2800100, 0x0, 11, 11⟩
def F.CMP.CONFIG.LEVEL : Fld := ⟨0xF2800100, 0x0, 10, 8⟩
def F.CMP.CONFIG.COMP_EN : Fld := ⟨0xF2800100, 0x0, 7, 7⟩
def F.CMP.CONFIG.COMP_LANES : Fld := ⟨0xF2800100, 0x0, 6, 0⟩
def F.CMP.STATUS.HALTED : Fld := ⟨0xF2800108, 0x0, 39, 8⟩
def F.CMP.STATUS.ROLE_PEND : Fld := ⟨0xF2800108, 0x0, 7, 7⟩
def F.CMP.STATUS.COMP_NOW : Fld := ⟨0xF2800108, 0x0, 6, 0⟩
def F.CMP.LANE_ROLE_LO.ROLE : Fld := ⟨0xF2800110, 0x0, 63, 0⟩
def F.CMP.LANE_ROLE_HI.ROLE : Fld := ⟨0xF2800118, 0x0, 47, 0⟩
def F.CMP.RING_ARB.VALID : Fld := ⟨0xF2800120, 0x0, 5, 5⟩
def F.CMP.RING_ARB.FIRST : Fld := ⟨0xF2800120, 0x0, 4, 0⟩
def F.CMP.EVENT.INTEG_FAIL : Fld := ⟨0xF2800130, 0x0, 2, 2⟩
def F.CMP.EVENT.RING_HALT : Fld := ⟨0xF2800130, 0x0, 1, 1⟩
def F.CMP.EVENT.ROLE_DONE : Fld := ⟨0xF2800130, 0x0, 0, 0⟩
def F.CMP.STAT.COUNT : Fld := ⟨0xF2800200, 0x8, 63, 0⟩
def F.CMP.RING_BASE.ADDR : Fld := ⟨0xF2801000, 0x40, 47, 6⟩
def F.CMP.RING_CFG.MAX_LANES : Fld := ⟨0xF2801008, 0x40, 23, 16⟩
def F.CMP.RING_CFG.SIZE_LOG2 : Fld := ⟨0xF2801008, 0x40, 12, 8⟩
def F.CMP.RING_CFG.IRQ_EN : Fld := ⟨0xF2801008, 0x40, 1, 1⟩
def F.CMP.RING_CFG.EN : Fld := ⟨0xF2801008, 0x40, 0, 0⟩
def F.CMP.RING_PROD.COUNT : Fld := ⟨0xF2801010, 0x40, 31, 0⟩
def F.CMP.RING_CONS.COUNT : Fld := ⟨0xF2801018, 0x40, 31, 0⟩
def F.CMP.RING_CPL_BASE.ADDR : Fld := ⟨0xF2801020, 0x40, 47, 5⟩
def F.CMP.RING_CPL_PROD.COUNT : Fld := ⟨0xF2801028, 0x40, 31, 0⟩
def F.CMP.RING_CPL_CONS.COUNT : Fld := ⟨0xF2801030, 0x40, 31, 0⟩
def F.CMP.RING_STATUS.INFLIGHT : Fld := ⟨0xF2801038, 0x40, 63, 32⟩
def F.CMP.RING_STATUS.CAUSE : Fld := ⟨0xF2801038, 0x40, 3, 1⟩
def F.CMP.RING_STATUS.HALTED : Fld := ⟨0xF2801038, 0x40, 0, 0⟩
/-! Fields of CIP. -/
def F.CIP.STATUS.HALTED : Fld := ⟨0xF2C00100, 0x0, 47, 32⟩
def F.CIP.STATUS.LOADED_DATA : Fld := ⟨0xF2C00100, 0x0, 28, 16⟩
def F.CIP.STATUS.LOADED_TX : Fld := ⟨0xF2C00100, 0x0, 6, 0⟩
def F.CIP.KEY_CMD.OP : Fld := ⟨0xF2C00108, 0x0, 3, 0⟩
def F.CIP.KEY_ARG0.KEY_ID : Fld := ⟨0xF2C00110, 0x0, 63, 32⟩
def F.CIP.KEY_ARG0.OTHER_SLOT : Fld := ⟨0xF2C00110, 0x0, 27, 16⟩
def F.CIP.KEY_ARG0.TYPE : Fld := ⟨0xF2C00110, 0x0, 13, 12⟩
def F.CIP.KEY_ARG0.SLOT : Fld := ⟨0xF2C00110, 0x0, 11, 0⟩
def F.CIP.KEY_ARG1.SENDER : Fld := ⟨0xF2C00118, 0x0, 47, 32⟩
def F.CIP.KEY_ARG1.LIMIT : Fld := ⟨0xF2C00118, 0x0, 31, 0⟩
def F.CIP.KEY_STATUS.BUSY : Fld := ⟨0xF2C00120, 0x0, 8, 8⟩
def F.CIP.KEY_STATUS.RESULT : Fld := ⟨0xF2C00120, 0x0, 3, 0⟩
def F.CIP.KEY_INFO_SEL.TYPE : Fld := ⟨0xF2C00128, 0x0, 13, 12⟩
def F.CIP.KEY_INFO_SEL.SLOT : Fld := ⟨0xF2C00128, 0x0, 11, 0⟩
def F.CIP.KEY_INFO0.KEY_ID : Fld := ⟨0xF2C00140, 0x0, 63, 32⟩
def F.CIP.KEY_INFO0.SUCC_SLOT : Fld := ⟨0xF2C00140, 0x0, 28, 17⟩
def F.CIP.KEY_INFO0.SUCC_VALID : Fld := ⟨0xF2C00140, 0x0, 16, 16⟩
def F.CIP.KEY_INFO0.USAGE_VALID : Fld := ⟨0xF2C00140, 0x0, 15, 15⟩
def F.CIP.KEY_INFO0.TYPE : Fld := ⟨0xF2C00140, 0x0, 13, 12⟩
def F.CIP.KEY_INFO0.STATE : Fld := ⟨0xF2C00140, 0x0, 2, 0⟩
def F.CIP.KEY_INFO1.NEXT : Fld := ⟨0xF2C00148, 0x0, 63, 0⟩
def F.CIP.KEY_INFO2.RES_PEER : Fld := ⟨0xF2C00150, 0x0, 63, 32⟩
def F.CIP.KEY_INFO2.RES_OWN : Fld := ⟨0xF2C00150, 0x0, 31, 0⟩
def F.CIP.KEY_INFO3.SENDER : Fld := ⟨0xF2C00158, 0x0, 47, 32⟩
def F.CIP.KEY_INFO3.LIMIT : Fld := ⟨0xF2C00158, 0x0, 31, 0⟩
def F.CIP.EVENT.RES_WAIT : Fld := ⟨0xF2C00160, 0x0, 7, 7⟩
def F.CIP.EVENT.ZEROISED : Fld := ⟨0xF2C00160, 0x0, 6, 6⟩
def F.CIP.EVENT.RING_HALT : Fld := ⟨0xF2C00160, 0x0, 5, 5⟩
def F.CIP.EVENT.TAG_FAIL : Fld := ⟨0xF2C00160, 0x0, 4, 4⟩
def F.CIP.EVENT.KEY_CMD_DONE : Fld := ⟨0xF2C00160, 0x0, 3, 3⟩
def F.CIP.EVENT.KEY_EXHAUSTED : Fld := ⟨0xF2C00160, 0x0, 2, 2⟩
def F.CIP.EVENT.KEY_SWITCH : Fld := ⟨0xF2C00160, 0x0, 1, 1⟩
def F.CIP.EVENT.KEY_WARN : Fld := ⟨0xF2C00160, 0x0, 0, 0⟩
def F.CIP.ATTN_TX.SLOT : Fld := ⟨0xF2C00170, 0x0, 63, 0⟩
def F.CIP.KEY_DATA.DATA : Fld := ⟨0xF2C00180, 0x8, 63, 0⟩
def F.CIP.STAT.COUNT : Fld := ⟨0xF2C00200, 0x8, 63, 0⟩
def F.CIP.ATTN.SLOT : Fld := ⟨0xF2C00800, 0x8, 63, 0⟩
def F.CIP.RING_BASE.ADDR : Fld := ⟨0xF2C01000, 0x40, 47, 6⟩
def F.CIP.RING_CFG.MAX_LANES : Fld := ⟨0xF2C01008, 0x40, 23, 16⟩
def F.CIP.RING_CFG.SIZE_LOG2 : Fld := ⟨0xF2C01008, 0x40, 12, 8⟩
def F.CIP.RING_CFG.IRQ_EN : Fld := ⟨0xF2C01008, 0x40, 1, 1⟩
def F.CIP.RING_CFG.EN : Fld := ⟨0xF2C01008, 0x40, 0, 0⟩
def F.CIP.RING_PROD.COUNT : Fld := ⟨0xF2C01010, 0x40, 31, 0⟩
def F.CIP.RING_CONS.COUNT : Fld := ⟨0xF2C01018, 0x40, 31, 0⟩
def F.CIP.RING_CPL_BASE.ADDR : Fld := ⟨0xF2C01020, 0x40, 47, 5⟩
def F.CIP.RING_CPL_PROD.COUNT : Fld := ⟨0xF2C01028, 0x40, 31, 0⟩
def F.CIP.RING_CPL_CONS.COUNT : Fld := ⟨0xF2C01030, 0x40, 31, 0⟩
def F.CIP.RING_STATUS.INFLIGHT : Fld := ⟨0xF2C01038, 0x40, 63, 32⟩
def F.CIP.RING_STATUS.CAUSE : Fld := ⟨0xF2C01038, 0x40, 3, 1⟩
def F.CIP.RING_STATUS.HALTED : Fld := ⟨0xF2C01038, 0x40, 0, 0⟩
def F.CIP.CTX_OWNER.EN : Fld := ⟨0xF2C02000, 0x8, 4, 4⟩
def F.CIP.CTX_OWNER.RING : Fld := ⟨0xF2C02000, 0x8, 3, 0⟩
/-! Fields of DGS. -/
def F.DGS.STATUS.HALTED : Fld := ⟨0xF3000100, 0x0, 31, 16⟩
def F.DGS.STATUS.LOADED : Fld := ⟨0xF3000100, 0x0, 4, 0⟩
def F.DGS.EVENT.ZEROISED : Fld := ⟨0xF3000130, 0x0, 1, 1⟩
def F.DGS.EVENT.RING_HALT : Fld := ⟨0xF3000130, 0x0, 0, 0⟩
def F.DGS.STAT.COUNT : Fld := ⟨0xF3000200, 0x8, 63, 0⟩
def F.DGS.RING_BASE.ADDR : Fld := ⟨0xF3001000, 0x40, 47, 6⟩
def F.DGS.RING_CFG.MAX_LANES : Fld := ⟨0xF3001008, 0x40, 23, 16⟩
def F.DGS.RING_CFG.SIZE_LOG2 : Fld := ⟨0xF3001008, 0x40, 12, 8⟩
def F.DGS.RING_CFG.IRQ_EN : Fld := ⟨0xF3001008, 0x40, 1, 1⟩
def F.DGS.RING_CFG.EN : Fld := ⟨0xF3001008, 0x40, 0, 0⟩
def F.DGS.RING_PROD.COUNT : Fld := ⟨0xF3001010, 0x40, 31, 0⟩
def F.DGS.RING_CONS.COUNT : Fld := ⟨0xF3001018, 0x40, 31, 0⟩
def F.DGS.RING_CPL_BASE.ADDR : Fld := ⟨0xF3001020, 0x40, 47, 5⟩
def F.DGS.RING_CPL_PROD.COUNT : Fld := ⟨0xF3001028, 0x40, 31, 0⟩
def F.DGS.RING_CPL_CONS.COUNT : Fld := ⟨0xF3001030, 0x40, 31, 0⟩
def F.DGS.RING_STATUS.INFLIGHT : Fld := ⟨0xF3001038, 0x40, 63, 32⟩
def F.DGS.RING_STATUS.CAUSE : Fld := ⟨0xF3001038, 0x40, 3, 1⟩
def F.DGS.RING_STATUS.HALTED : Fld := ⟨0xF3001038, 0x40, 0, 0⟩
def F.DGS.CTX_OWNER.EN : Fld := ⟨0xF3002000, 0x8, 4, 4⟩
def F.DGS.CTX_OWNER.RING : Fld := ⟨0xF3002000, 0x8, 3, 0⟩
/-! Fields of FTL. -/
def F.FTL.CONFIG.DIE_GROUP : Fld := ⟨0xF3400100, 0x0, 13, 12⟩
def F.FTL.CONFIG.DIE_SPLIT : Fld := ⟨0xF3400100, 0x0, 9, 8⟩
def F.FTL.CONFIG.MOSS_PCT : Fld := ⟨0xF3400100, 0x0, 4, 0⟩
def F.FTL.STATUS.FOLD_STOPPED : Fld := ⟨0xF3400108, 0x0, 9, 9⟩
def F.FTL.STATUS.GC_URGENT : Fld := ⟨0xF3400108, 0x0, 8, 8⟩
def F.FTL.STATUS.MOSS_STATE : Fld := ⟨0xF3400108, 0x0, 5, 4⟩
def F.FTL.STATUS.RECOVERY : Fld := ⟨0xF3400108, 0x0, 2, 0⟩
def F.FTL.MOSS_FILL.SIZE_GIB : Fld := ⟨0xF3400110, 0x0, 63, 32⟩
def F.FTL.MOSS_FILL.USED_GIB : Fld := ⟨0xF3400110, 0x0, 31, 0⟩
def F.FTL.MOSS_CTL.HYST : Fld := ⟨0xF3400118, 0x0, 19, 16⟩
def F.FTL.MOSS_CTL.FULL : Fld := ⟨0xF3400118, 0x0, 15, 8⟩
def F.FTL.MOSS_CTL.HIGH : Fld := ⟨0xF3400118, 0x0, 7, 0⟩
def F.FTL.STRIPE_STATUS.REFRESH : Fld := ⟨0xF3400120, 0x0, 59, 40⟩
def F.FTL.STRIPE_STATUS.CLOSED : Fld := ⟨0xF3400120, 0x0, 39, 20⟩
def F.FTL.STRIPE_STATUS.FREE : Fld := ⟨0xF3400120, 0x0, 19, 0⟩
def F.FTL.GC_CTL.WL_SPREAD : Fld := ⟨0xF3400128, 0x0, 31, 16⟩
def F.FTL.GC_CTL.FREE_MIN : Fld := ⟨0xF3400128, 0x0, 15, 8⟩
def F.FTL.GC_CTL.FREE_STOP : Fld := ⟨0xF3400128, 0x0, 7, 0⟩
def F.FTL.RETRY_CTL.REFRESH_PCT : Fld := ⟨0xF3400130, 0x0, 19, 12⟩
def F.FTL.RETRY_CTL.REFRESH_RETRY : Fld := ⟨0xF3400130, 0x0, 11, 8⟩
def F.FTL.RETRY_CTL.MAX : Fld := ⟨0xF3400130, 0x0, 3, 0⟩
def F.FTL.WEAR_CTL.LIMIT_PCT : Fld := ⟨0xF3400138, 0x0, 39, 32⟩
def F.FTL.WEAR_CTL.RETRY_THR : Fld := ⟨0xF3400138, 0x0, 31, 16⟩
def F.FTL.WEAR_CTL.PLOOP_MARGIN : Fld := ⟨0xF3400138, 0x0, 15, 0⟩
def F.FTL.PATROL_CTL.EN : Fld := ⟨0xF3400140, 0x0, 16, 16⟩
def F.FTL.PATROL_CTL.PERIOD_H : Fld := ⟨0xF3400140, 0x0, 9, 0⟩
def F.FTL.PATROL_STATUS.PASSES : Fld := ⟨0xF3400148, 0x0, 63, 32⟩
def F.FTL.PATROL_STATUS.PROGRESS : Fld := ⟨0xF3400148, 0x0, 9, 0⟩
def F.FTL.JSEQ.SEQ : Fld := ⟨0xF3400150, 0x0, 63, 0⟩
def F.FTL.CKPT_SEQ.SEQ : Fld := ⟨0xF3400158, 0x0, 63, 0⟩
def F.FTL.CKPT_CTL.GIB : Fld := ⟨0xF3400160, 0x0, 3, 0⟩
def F.FTL.ANCHOR.MOD_B : Fld := ⟨0xF3400168, 0x0, 14, 8⟩
def F.FTL.ANCHOR.MOD_A : Fld := ⟨0xF3400168, 0x0, 6, 0⟩
def F.FTL.SNAP_CMD.OP : Fld := ⟨0xF3400170, 0x0, 1, 0⟩
def F.FTL.SNAP_ARG.NSID : Fld := ⟨0xF3400178, 0x0, 63, 32⟩
def F.FTL.SNAP_ARG.ME : Fld := ⟨0xF3400178, 0x0, 31, 0⟩
def F.FTL.SNAP_STATUS.BUSY : Fld := ⟨0xF3400180, 0x0, 40, 40⟩
def F.FTL.SNAP_STATUS.RESULT : Fld := ⟨0xF3400180, 0x0, 35, 32⟩
def F.FTL.SNAP_STATUS.ME : Fld := ⟨0xF3400180, 0x0, 31, 0⟩
def F.FTL.KEYQ_ID.KEY_ID : Fld := ⟨0xF3400188, 0x0, 31, 0⟩
def F.FTL.KEYQ_COUNT.VALID : Fld := ⟨0xF3400190, 0x0, 63, 63⟩
def F.FTL.KEYQ_COUNT.COUNT : Fld := ⟨0xF3400190, 0x0, 47, 0⟩
def F.FTL.EVENT.REPLAY_DROP : Fld := ⟨0xF34001A0, 0x0, 16, 16⟩
def F.FTL.EVENT.CKPT_DONE : Fld := ⟨0xF34001A0, 0x0, 15, 15⟩
def F.FTL.EVENT.SNAP_DONE : Fld := ⟨0xF34001A0, 0x0, 14, 14⟩
def F.FTL.EVENT.PATROL_LATE : Fld := ⟨0xF34001A0, 0x0, 13, 13⟩
def F.FTL.EVENT.PATROL_PASS : Fld := ⟨0xF34001A0, 0x0, 12, 12⟩
def F.FTL.EVENT.RETRY_WARN : Fld := ⟨0xF34001A0, 0x0, 11, 11⟩
def F.FTL.EVENT.PLOOP_WARN : Fld := ⟨0xF34001A0, 0x0, 10, 10⟩
def F.FTL.EVENT.RES_EVAC : Fld := ⟨0xF34001A0, 0x0, 9, 9⟩
def F.FTL.EVENT.RES_CRIT : Fld := ⟨0xF34001A0, 0x0, 8, 8⟩
def F.FTL.EVENT.RES_WARN : Fld := ⟨0xF34001A0, 0x0, 7, 7⟩
def F.FTL.EVENT.RETIRE : Fld := ⟨0xF34001A0, 0x0, 6, 6⟩
def F.FTL.EVENT.RETARGET : Fld := ⟨0xF34001A0, 0x0, 5, 5⟩
def F.FTL.EVENT.UNPLACEABLE : Fld := ⟨0xF34001A0, 0x0, 4, 4⟩
def F.FTL.EVENT.FREE_LOW : Fld := ⟨0xF34001A0, 0x0, 3, 3⟩
def F.FTL.EVENT.MOSS_FULL : Fld := ⟨0xF34001A0, 0x0, 2, 2⟩
def F.FTL.EVENT.MOSS_HIGH : Fld := ⟨0xF34001A0, 0x0, 1, 1⟩
def F.FTL.EVENT.RECOVERY_DONE : Fld := ⟨0xF34001A0, 0x0, 0, 0⟩
def F.FTL.STAT.COUNT : Fld := ⟨0xF3400200, 0x8, 63, 0⟩
def F.FTL.FDOM.DOMAIN : Fld := ⟨0xF3401000, 0x8, 3, 0⟩
def F.FTL.MOD_WEAR0.STATE : Fld := ⟨0xF3402000, 0x10, 63, 60⟩
def F.FTL.MOD_WEAR0.RESERVE : Fld := ⟨0xF3402000, 0x10, 55, 32⟩
def F.FTL.MOD_WEAR0.RETIRED : Fld := ⟨0xF3402000, 0x10, 23, 0⟩
def F.FTL.MOD_WEAR1.MAX_ERASE : Fld := ⟨0xF3402008, 0x10, 63, 48⟩
def F.FTL.MOD_WEAR1.AVG_ERASE : Fld := ⟨0xF3402008, 0x10, 47, 32⟩
def F.FTL.MOD_WEAR1.RETRY : Fld := ⟨0xF3402008, 0x10, 31, 16⟩
def F.FTL.MOD_WEAR1.PLOOP : Fld := ⟨0xF3402008, 0x10, 15, 0⟩
/-! Fields of RDN. -/
def F.RDN.CONFIG.SEED : Fld := ⟨0xF3800100, 0x0, 63, 32⟩
def F.RDN.CONFIG.AUTO_EVAC : Fld := ⟨0xF3800100, 0x0, 16, 16⟩
def F.RDN.CONFIG.D_MAX : Fld := ⟨0xF3800100, 0x0, 12, 8⟩
def F.RDN.CONFIG.D_MIN : Fld := ⟨0xF3800100, 0x0, 4, 0⟩
def F.RDN.GEOM.D : Fld := ⟨0xF3800108, 0x0, 4, 0⟩
def F.RDN.STATUS.LOSS_PEND : Fld := ⟨0xF3800110, 0x0, 43, 43⟩
def F.RDN.STATUS.RESHAPE : Fld := ⟨0xF3800110, 0x0, 42, 42⟩
def F.RDN.STATUS.REBUILD : Fld := ⟨0xF3800110, 0x0, 41, 41⟩
def F.RDN.STATUS.BROKEN : Fld := ⟨0xF3800110, 0x0, 40, 40⟩
def F.RDN.STATUS.CRITICAL : Fld := ⟨0xF3800110, 0x0, 39, 20⟩
def F.RDN.STATUS.DEGRADED : Fld := ⟨0xF3800110, 0x0, 19, 0⟩
def F.RDN.REBUILD_CTL.FLOOR : Fld := ⟨0xF3800118, 0x0, 31, 16⟩
def F.RDN.REBUILD_CTL.RELOC_PCT : Fld := ⟨0xF3800118, 0x0, 15, 8⟩
def F.RDN.REBUILD_CTL.EN : Fld := ⟨0xF3800118, 0x0, 0, 0⟩
def F.RDN.REBUILD_STATUS.ROW : Fld := ⟨0xF3800120, 0x0, 63, 48⟩
def F.RDN.REBUILD_STATUS.MEMBER_B : Fld := ⟨0xF3800120, 0x0, 36, 32⟩
def F.RDN.REBUILD_STATUS.MEMBER_A : Fld := ⟨0xF3800120, 0x0, 28, 24⟩
def F.RDN.REBUILD_STATUS.STRIPE : Fld := ⟨0xF3800120, 0x0, 19, 0⟩
def F.RDN.RESHAPE_CMD.OP : Fld := ⟨0xF3800128, 0x0, 1, 0⟩
def F.RDN.RESHAPE_ARG.NEW_D : Fld := ⟨0xF3800130, 0x0, 20, 16⟩
def F.RDN.RESHAPE_ARG.MODULE : Fld := ⟨0xF3800130, 0x0, 14, 8⟩
def F.RDN.RESHAPE_ARG.KIND : Fld := ⟨0xF3800130, 0x0, 0, 0⟩
def F.RDN.RESHAPE_STATUS.MODULE : Fld := ⟨0xF3800138, 0x0, 54, 48⟩
def F.RDN.RESHAPE_STATUS.QUEUED : Fld := ⟨0xF3800138, 0x0, 47, 47⟩
def F.RDN.RESHAPE_STATUS.ACTIVE : Fld := ⟨0xF3800138, 0x0, 46, 46⟩
def F.RDN.RESHAPE_STATUS.BUSY : Fld := ⟨0xF3800138, 0x0, 45, 45⟩
def F.RDN.RESHAPE_STATUS.KIND : Fld := ⟨0xF3800138, 0x0, 44, 44⟩
def F.RDN.RESHAPE_STATUS.RESULT : Fld := ⟨0xF3800138, 0x0, 43, 40⟩
def F.RDN.RESHAPE_STATUS.END : Fld := ⟨0xF3800138, 0x0, 39, 20⟩
def F.RDN.RESHAPE_STATUS.CURSOR : Fld := ⟨0xF3800138, 0x0, 19, 0⟩
def F.RDN.SJ_STATUS.SINGLE : Fld := ⟨0xF3800140, 0x0, 15, 15⟩
def F.RDN.SJ_STATUS.MOD_B : Fld := ⟨0xF3800140, 0x0, 14, 8⟩
def F.RDN.SJ_STATUS.MOD_A : Fld := ⟨0xF3800140, 0x0, 6, 0⟩
def F.RDN.SJ_SEQ.SSEQ : Fld := ⟨0xF3800148, 0x0, 63, 0⟩
def F.RDN.SJ_CTL.AHEAD : Fld := ⟨0xF3800150, 0x0, 7, 0⟩
def F.RDN.LOSS_BASE.ADDR : Fld := ⟨0xF3800158, 0x0, 47, 5⟩
def F.RDN.LOSS_CFG.SIZE_LOG2 : Fld := ⟨0xF3800160, 0x0, 12, 8⟩
def F.RDN.LOSS_CFG.EN : Fld := ⟨0xF3800160, 0x0, 0, 0⟩
def F.RDN.LOSS_PROD.COUNT : Fld := ⟨0xF3800168, 0x0, 31, 0⟩
def F.RDN.LOSS_CONS.COUNT : Fld := ⟨0xF3800170, 0x0, 31, 0⟩
def F.RDN.EVENT.PLACE_FAIL : Fld := ⟨0xF3800180, 0x0, 9, 9⟩
def F.RDN.EVENT.SJ_MOVED : Fld := ⟨0xF3800180, 0x0, 8, 8⟩
def F.RDN.EVENT.RESHAPE_DONE : Fld := ⟨0xF3800180, 0x0, 7, 7⟩
def F.RDN.EVENT.PARITY_MISMATCH : Fld := ⟨0xF3800180, 0x0, 6, 6⟩
def F.RDN.EVENT.LOSS_FULL : Fld := ⟨0xF3800180, 0x0, 5, 5⟩
def F.RDN.EVENT.LOSS : Fld := ⟨0xF3800180, 0x0, 4, 4⟩
def F.RDN.EVENT.REBUILD_DONE : Fld := ⟨0xF3800180, 0x0, 3, 3⟩
def F.RDN.EVENT.BROKEN : Fld := ⟨0xF3800180, 0x0, 2, 2⟩
def F.RDN.EVENT.CRITICAL : Fld := ⟨0xF3800180, 0x0, 1, 1⟩
def F.RDN.EVENT.DEGRADED : Fld := ⟨0xF3800180, 0x0, 0, 0⟩
def F.RDN.STAT.COUNT : Fld := ⟨0xF3800200, 0x8, 63, 0⟩
def F.RDN.MOD_STATE.STRIPES : Fld := ⟨0xF3801000, 0x8, 27, 8⟩
def F.RDN.MOD_STATE.EVAC : Fld := ⟨0xF3801000, 0x8, 3, 3⟩
def F.RDN.MOD_STATE.EXCL : Fld := ⟨0xF3801000, 0x8, 2, 2⟩
def F.RDN.MOD_STATE.STATE : Fld := ⟨0xF3801000, 0x8, 1, 0⟩
/-! Fields of FRN. -/
def F.FRN.CONFIG.PORTS : Fld := ⟨0xF3C00100, 0x0, 6, 0⟩
def F.FRN.STATUS.RECON : Fld := ⟨0xF3C00108, 0x0, 22, 16⟩
def F.FRN.STATUS.UP : Fld := ⟨0xF3C00108, 0x0, 6, 0⟩
def F.FRN.EPOCH.EPOCH : Fld := ⟨0xF3C00110, 0x0, 31, 0⟩
def F.FRN.TIMEOUT.IDLE : Fld := ⟨0xF3C00118, 0x0, 27, 16⟩
def F.FRN.TIMEOUT.MARGIN : Fld := ⟨0xF3C00118, 0x0, 15, 0⟩
def F.FRN.SUSP_CTL.EN : Fld := ⟨0xF3C00120, 0x0, 16, 16⟩
def F.FRN.SUSP_CTL.MIN_US : Fld := ⟨0xF3C00120, 0x0, 15, 0⟩
def F.FRN.EVENT.PROTOCOL : Fld := ⟨0xF3C00130, 0x0, 9, 9⟩
def F.FRN.EVENT.TEMP : Fld := ⟨0xF3C00130, 0x0, 8, 8⟩
def F.FRN.EVENT.RECON_END : Fld := ⟨0xF3C00130, 0x0, 7, 7⟩
def F.FRN.EVENT.MISMATCH : Fld := ⟨0xF3C00130, 0x0, 6, 6⟩
def F.FRN.EVENT.STALE : Fld := ⟨0xF3C00130, 0x0, 5, 5⟩
def F.FRN.EVENT.FENCED : Fld := ⟨0xF3C00130, 0x0, 4, 4⟩
def F.FRN.EVENT.DESC_BAD : Fld := ⟨0xF3C00130, 0x0, 3, 3⟩
def F.FRN.EVENT.DIE_FAIL : Fld := ⟨0xF3C00130, 0x0, 2, 2⟩
def F.FRN.EVENT.MODULE_LOSS : Fld := ⟨0xF3C00130, 0x0, 1, 1⟩
def F.FRN.EVENT.MODULE_UP : Fld := ⟨0xF3C00130, 0x0, 0, 0⟩
def F.FRN.STAT.COUNT : Fld := ⟨0xF3C00200, 0x8, 63, 0⟩
def F.FRN.PORT_CTL.FORCE_RETRAIN : Fld := ⟨0xF3C01000, 0x80, 1, 1⟩
def F.FRN.PORT_CTL.EN : Fld := ⟨0xF3C01000, 0x80, 0, 0⟩
def F.FRN.PORT_STATUS.RETRAINS : Fld := ⟨0xF3C01008, 0x80, 31, 24⟩
def F.FRN.PORT_STATUS.OUTCOME : Fld := ⟨0xF3C01008, 0x80, 21, 20⟩
def F.FRN.PORT_STATUS.RECON : Fld := ⟨0xF3C01008, 0x80, 18, 18⟩
def F.FRN.PORT_STATUS.DP_VIEW : Fld := ⟨0xF3C01008, 0x80, 17, 16⟩
def F.FRN.PORT_STATUS.STATE : Fld := ⟨0xF3C01008, 0x80, 3, 0⟩
def F.FRN.PORT_ERR.CRC : Fld := ⟨0xF3C01010, 0x80, 63, 48⟩
def F.FRN.PORT_ERR.REPLAY : Fld := ⟨0xF3C01010, 0x80, 47, 32⟩
def F.FRN.PORT_ERR.TIMEOUT : Fld := ⟨0xF3C01010, 0x80, 31, 16⟩
def F.FRN.PORT_ERR.LEN : Fld := ⟨0xF3C01010, 0x80, 15, 0⟩
def F.FRN.PORT_HEALTH.TEMP : Fld := ⟨0xF3C01018, 0x80, 15, 8⟩
def F.FRN.PORT_HEALTH.BRIDGE_FAULT : Fld := ⟨0xF3C01018, 0x80, 3, 3⟩
def F.FRN.PORT_HEALTH.SUPPLY_WARN : Fld := ⟨0xF3C01018, 0x80, 2, 2⟩
def F.FRN.PORT_HEALTH.TEMP_CRIT : Fld := ⟨0xF3C01018, 0x80, 1, 1⟩
def F.FRN.PORT_HEALTH.TEMP_WARN : Fld := ⟨0xF3C01018, 0x80, 0, 0⟩
def F.FRN.PORT_MGMT.EVAC_REQ : Fld := ⟨0xF3C01020, 0x80, 2, 2⟩
def F.FRN.PORT_MGMT.VIEW : Fld := ⟨0xF3C01020, 0x80, 1, 0⟩
def F.FRN.PORT_DRIVE_LO.DIES : Fld := ⟨0xF3C01028, 0x80, 63, 0⟩
def F.FRN.PORT_DRIVE_HI.DIES : Fld := ⟨0xF3C01030, 0x80, 63, 0⟩
def F.FRN.PORT_FAIL_LO.DIES : Fld := ⟨0xF3C01038, 0x80, 63, 0⟩
def F.FRN.PORT_FAIL_HI.DIES : Fld := ⟨0xF3C01040, 0x80, 63, 0⟩
def F.FRN.PORT_DESC.MAX_SUSP : Fld := ⟨0xF3C01048, 0x80, 39, 32⟩
def F.FRN.PORT_DESC.WL_PAGES : Fld := ⟨0xF3C01048, 0x80, 31, 24⟩
def F.FRN.PORT_DESC.RETRY_LEVELS : Fld := ⟨0xF3C01048, 0x80, 23, 16⟩
def F.FRN.PORT_DESC.BITS : Fld := ⟨0xF3C01048, 0x80, 15, 8⟩
def F.FRN.PORT_DESC.DIES : Fld := ⟨0xF3C01048, 0x80, 7, 0⟩
/-! Fields of RFL. -/
def F.RFL.CONFIG.VSET_HOME : Fld := ⟨0xF4000100, 0x0, 31, 0⟩
def F.RFL.CTL.FB_CONN : Fld := ⟨0xF4000108, 0x0, 32, 16⟩
def F.RFL.CTL.FB_EN : Fld := ⟨0xF4000108, 0x0, 1, 1⟩
def F.RFL.CTL.EN : Fld := ⟨0xF4000108, 0x0, 0, 0⟩
def F.RFL.STATUS.SHADOW_OK : Fld := ⟨0xF4000110, 0x0, 23, 22⟩
def F.RFL.STATUS.PEER_OWN : Fld := ⟨0xF4000110, 0x0, 21, 20⟩
def F.RFL.STATUS.OWN : Fld := ⟨0xF4000110, 0x0, 19, 18⟩
def F.RFL.STATUS.PEER_TICK_LEN : Fld := ⟨0xF4000110, 0x0, 17, 16⟩
def F.RFL.STATUS.PEER_MODE : Fld := ⟨0xF4000110, 0x0, 15, 12⟩
def F.RFL.STATUS.PEER : Fld := ⟨0xF4000110, 0x0, 6, 6⟩
def F.RFL.STATUS.FB_UP : Fld := ⟨0xF4000110, 0x0, 5, 5⟩
def F.RFL.STATUS.LINK : Fld := ⟨0xF4000110, 0x0, 3, 0⟩
def F.RFL.LOSS_CTL.KEEP : Fld := ⟨0xF4000118, 0x0, 31, 16⟩
def F.RFL.LOSS_CTL.LOSS : Fld := ⟨0xF4000118, 0x0, 7, 0⟩
def F.RFL.FWD_CTL.PER_TICK : Fld := ⟨0xF4000120, 0x0, 15, 8⟩
def F.RFL.FWD_CTL.EN : Fld := ⟨0xF4000120, 0x0, 0, 0⟩
def F.RFL.SHADOW_BASE.SIZE_GIB : Fld := ⟨0xF4000128, 0x0, 63, 56⟩
def F.RFL.SHADOW_BASE.ADDR : Fld := ⟨0xF4000128, 0x0, 47, 30⟩
def F.RFL.SHADOW_BASE.EN : Fld := ⟨0xF4000128, 0x0, 0, 0⟩
def F.RFL.FB_RKEY.RKEY : Fld := ⟨0xF4000130, 0x0, 31, 0⟩
def F.RFL.DELTA_STATUS.UNACKED : Fld := ⟨0xF4000138, 0x0, 63, 48⟩
def F.RFL.DELTA_STATUS.CARRY : Fld := ⟨0xF4000138, 0x0, 47, 20⟩
def F.RFL.DELTA_STATUS.LAST_LEN : Fld := ⟨0xF4000138, 0x0, 18, 0⟩
def F.RFL.HANDBACK_CMD.OP : Fld := ⟨0xF4000140, 0x0, 1, 0⟩
def F.RFL.HANDBACK_CTL.DRAIN_MS : Fld := ⟨0xF4000148, 0x0, 6, 0⟩
def F.RFL.HANDBACK_STATUS.TICKS : Fld := ⟨0xF4000150, 0x0, 63, 32⟩
def F.RFL.HANDBACK_STATUS.RESULT : Fld := ⟨0xF4000150, 0x0, 11, 8⟩
def F.RFL.HANDBACK_STATUS.SOURCE : Fld := ⟨0xF4000150, 0x0, 4, 4⟩
def F.RFL.HANDBACK_STATUS.PHASE : Fld := ⟨0xF4000150, 0x0, 2, 0⟩
def F.RFL.ADOPT_STATUS.TAIL : Fld := ⟨0xF4000158, 0x0, 63, 32⟩
def F.RFL.ADOPT_STATUS.TICKS : Fld := ⟨0xF4000158, 0x0, 31, 16⟩
def F.RFL.ADOPT_STATUS.SIDES : Fld := ⟨0xF4000158, 0x0, 5, 4⟩
def F.RFL.ADOPT_STATUS.STEP : Fld := ⟨0xF4000158, 0x0, 2, 0⟩
def F.RFL.JOIN_STATUS.CAUSE : Fld := ⟨0xF4000160, 0x0, 7, 4⟩
def F.RFL.JOIN_STATUS.PHASE : Fld := ⟨0xF4000160, 0x0, 2, 0⟩
def F.RFL.EVENT.FWD_LOST : Fld := ⟨0xF4000170, 0x0, 9, 9⟩
def F.RFL.EVENT.PROTOCOL : Fld := ⟨0xF4000170, 0x0, 8, 8⟩
def F.RFL.EVENT.JOIN_REFUSED : Fld := ⟨0xF4000170, 0x0, 7, 7⟩
def F.RFL.EVENT.ADOPT_DONE : Fld := ⟨0xF4000170, 0x0, 6, 6⟩
def F.RFL.EVENT.HANDBACK_ABANDONED : Fld := ⟨0xF4000170, 0x0, 5, 5⟩
def F.RFL.EVENT.HANDBACK_DONE : Fld := ⟨0xF4000170, 0x0, 4, 4⟩
def F.RFL.EVENT.SHADOW_LOST : Fld := ⟨0xF4000170, 0x0, 3, 3⟩
def F.RFL.EVENT.FB_ACTIVE : Fld := ⟨0xF4000170, 0x0, 2, 2⟩
def F.RFL.EVENT.PEER_UP : Fld := ⟨0xF4000170, 0x0, 1, 1⟩
def F.RFL.EVENT.PEER_LOSS : Fld := ⟨0xF4000170, 0x0, 0, 0⟩
def F.RFL.STAT.COUNT : Fld := ⟨0xF4000200, 0x8, 63, 0⟩
def F.RFL.LANE_ERR.FEC : Fld := ⟨0xF4001000, 0x8, 63, 32⟩
def F.RFL.LANE_ERR.CORR : Fld := ⟨0xF4001000, 0x8, 31, 0⟩
/-! Fields of WIT. -/
def F.WIT.CONFIG.LEASE : Fld := ⟨0xF4400100, 0x0, 21, 16⟩
def F.WIT.CONFIG.ARRAY_TAG : Fld := ⟨0xF4400100, 0x0, 15, 0⟩
def F.WIT.STATUS.LEASE_LEFT : Fld := ⟨0xF4400108, 0x0, 31, 26⟩
def F.WIT.STATUS.FENCE_SRC : Fld := ⟨0xF4400108, 0x0, 25, 24⟩
def F.WIT.STATUS.LINKS : Fld := ⟨0xF4400108, 0x0, 17, 16⟩
def F.WIT.STATUS.PEER_HEARD : Fld := ⟨0xF4400108, 0x0, 13, 13⟩
def F.WIT.STATUS.REQ_MASK : Fld := ⟨0xF4400108, 0x0, 11, 10⟩
def F.WIT.STATUS.REQ : Fld := ⟨0xF4400108, 0x0, 9, 8⟩
def F.WIT.STATUS.OWN : Fld := ⟨0xF4400108, 0x0, 7, 6⟩
def F.WIT.STATUS.STATE : Fld := ⟨0xF4400108, 0x0, 3, 0⟩
def F.WIT.EPOCH.MAX_SEEN : Fld := ⟨0xF4400110, 0x0, 63, 32⟩
def F.WIT.EPOCH.GRANTED : Fld := ⟨0xF4400110, 0x0, 31, 0⟩
def F.WIT.EVENT.TAG_MISMATCH : Fld := ⟨0xF4400118, 0x0, 7, 7⟩
def F.WIT.EVENT.STALE_RETRY : Fld := ⟨0xF4400118, 0x0, 6, 6⟩
def F.WIT.EVENT.LEASE_EXPIRED : Fld := ⟨0xF4400118, 0x0, 5, 5⟩
def F.WIT.EVENT.EPOCH_LOSS : Fld := ⟨0xF4400118, 0x0, 4, 4⟩
def F.WIT.EVENT.FENCED : Fld := ⟨0xF4400118, 0x0, 3, 3⟩
def F.WIT.EVENT.GRANT : Fld := ⟨0xF4400118, 0x0, 2, 2⟩
def F.WIT.EVENT.LINK_LOST : Fld := ⟨0xF4400118, 0x0, 1, 1⟩
def F.WIT.EVENT.LINK_UP : Fld := ⟨0xF4400118, 0x0, 0, 0⟩
def F.WIT.STAT.COUNT : Fld := ⟨0xF4400200, 0x8, 63, 0⟩
def F.WIT.LINK_STATUS.REF_COUNT : Fld := ⟨0xF4401000, 0x20, 63, 32⟩
def F.WIT.LINK_STATUS.STATE : Fld := ⟨0xF4401000, 0x20, 1, 0⟩
def F.WIT.LINK_PHASE.DELAY : Fld := ⟨0xF4401008, 0x20, 63, 32⟩
def F.WIT.LINK_PHASE.PHASE : Fld := ⟨0xF4401008, 0x20, 31, 0⟩
def F.WIT.LINK_ERR.CRC : Fld := ⟨0xF4401010, 0x20, 63, 32⟩
def F.WIT.LINK_ERR.MISSED : Fld := ⟨0xF4401010, 0x20, 31, 0⟩
/-! Fields of PCR. -/
def F.PCR.CTL.FORCE : Fld := ⟨0xF4800100, 0x0, 1, 1⟩
def F.PCR.CTL.EN : Fld := ⟨0xF4800100, 0x0, 0, 0⟩
def F.PCR.STATUS.CAUSE : Fld := ⟨0xF4800108, 0x0, 7, 6⟩
def F.PCR.STATUS.BOTH : Fld := ⟨0xF4800108, 0x0, 5, 5⟩
def F.PCR.STATUS.STATE : Fld := ⟨0xF4800108, 0x0, 2, 0⟩
def F.PCR.SETPOINT.KI : Fld := ⟨0xF4800110, 0x0, 63, 48⟩
def F.PCR.SETPOINT.KP : Fld := ⟨0xF4800110, 0x0, 47, 32⟩
def F.PCR.SETPOINT.SP : Fld := ⟨0xF4800110, 0x0, 15, 0⟩
def F.PCR.TOTAL.MAX : Fld := ⟨0xF4800118, 0x0, 51, 32⟩
def F.PCR.TOTAL.MIN : Fld := ⟨0xF4800118, 0x0, 19, 0⟩
def F.PCR.MEAS.B : Fld := ⟨0xF4800120, 0x0, 63, 44⟩
def F.PCR.MEAS.H : Fld := ⟨0xF4800120, 0x0, 43, 24⟩
def F.PCR.MEAS.N : Fld := ⟨0xF4800120, 0x0, 23, 12⟩
def F.PCR.MEAS.Y : Fld := ⟨0xF4800120, 0x0, 11, 0⟩
def F.PCR.OUTPUT.U_FF : Fld := ⟨0xF4800128, 0x0, 51, 32⟩
def F.PCR.OUTPUT.U : Fld := ⟨0xF4800128, 0x0, 19, 0⟩
def F.PCR.INTEG.I : Fld := ⟨0xF4800130, 0x0, 63, 0⟩
def F.PCR.RC_CTL.EN : Fld := ⟨0xF4800138, 0x0, 40, 40⟩
def F.PCR.RC_CTL.LEAD : Fld := ⟨0xF4800138, 0x0, 39, 32⟩
def F.PCR.RC_CTL.GAIN_SHIFT : Fld := ⟨0xF4800138, 0x0, 27, 24⟩
def F.PCR.RC_CTL.BINS : Fld := ⟨0xF4800138, 0x0, 20, 8⟩
def F.PCR.RC_CTL.PERIOD_H : Fld := ⟨0xF4800138, 0x0, 7, 0⟩
def F.PCR.TOD.TOD_VALID : Fld := ⟨0xF4800140, 0x0, 63, 63⟩
def F.PCR.TOD.BIN : Fld := ⟨0xF4800140, 0x0, 43, 32⟩
def F.PCR.TOD.TICKS : Fld := ⟨0xF4800140, 0x0, 31, 0⟩
def F.PCR.MODEL.CAP : Fld := ⟨0xF4800148, 0x0, 63, 40⟩
def F.PCR.MODEL.TOL : Fld := ⟨0xF4800148, 0x0, 39, 32⟩
def F.PCR.MODEL.Y1 : Fld := ⟨0xF4800148, 0x0, 31, 16⟩
def F.PCR.MODEL.Y0 : Fld := ⟨0xF4800148, 0x0, 15, 0⟩
def F.PCR.MODEL_CTL.N_GOOD : Fld := ⟨0xF4800150, 0x0, 31, 16⟩
def F.PCR.MODEL_CTL.N_BAD : Fld := ⟨0xF4800150, 0x0, 15, 0⟩
def F.PCR.RC_SEL.PEER : Fld := ⟨0xF4800158, 0x0, 12, 12⟩
def F.PCR.RC_SEL.BIN : Fld := ⟨0xF4800158, 0x0, 11, 0⟩
def F.PCR.RC_DATA.VALID : Fld := ⟨0xF4800160, 0x0, 31, 31⟩
def F.PCR.RC_DATA.M : Fld := ⟨0xF4800160, 0x0, 19, 0⟩
def F.PCR.EVENT.FLOOR_OVER : Fld := ⟨0xF4800170, 0x0, 2, 2⟩
def F.PCR.EVENT.CLOSED : Fld := ⟨0xF4800170, 0x0, 1, 1⟩
def F.PCR.EVENT.FALLBACK : Fld := ⟨0xF4800170, 0x0, 0, 0⟩
def F.PCR.STAT.COUNT : Fld := ⟨0xF4800200, 0x8, 63, 0⟩
def F.PCR.SCHED.TOTAL : Fld := ⟨0xF4800400, 0x8, 51, 32⟩
def F.PCR.SCHED.EN : Fld := ⟨0xF4800400, 0x8, 16, 16⟩
def F.PCR.SCHED.START_MIN : Fld := ⟨0xF4800400, 0x8, 13, 0⟩
def F.PCR.CLASS_CFG0.FLOOR : Fld := ⟨0xF4801000, 0x20, 63, 44⟩
def F.PCR.CLASS_CFG0.COST : Fld := ⟨0xF4801000, 0x20, 43, 32⟩
def F.PCR.CLASS_CFG0.WEIGHT : Fld := ⟨0xF4801000, 0x20, 7, 0⟩
def F.PCR.CLASS_CFG1.URGENT : Fld := ⟨0xF4801008, 0x20, 51, 32⟩
def F.PCR.CLASS_CFG1.CAP : Fld := ⟨0xF4801008, 0x20, 19, 0⟩
def F.PCR.CLASS_PROF.V_MAX : Fld := ⟨0xF4801010, 0x20, 63, 44⟩
def F.PCR.CLASS_PROF.A_MAX : Fld := ⟨0xF4801010, 0x20, 43, 24⟩
def F.PCR.CLASS_PROF.J_MAX : Fld := ⟨0xF4801010, 0x20, 19, 0⟩
def F.PCR.CLASS_SHARE.TARGET : Fld := ⟨0xF4801018, 0x20, 63, 44⟩
def F.PCR.CLASS_SHARE.FLOOR_NOW : Fld := ⟨0xF4801018, 0x20, 43, 24⟩
def F.PCR.CLASS_SHARE.BACKLOG : Fld := ⟨0xF4801018, 0x20, 20, 20⟩
def F.PCR.CLASS_SHARE.SHARE : Fld := ⟨0xF4801018, 0x20, 19, 0⟩
/-! Fields of BAY. -/
def F.BAY.CONFIG.PARTS : Fld := ⟨0xF4C00100, 0x0, 3, 0⟩
def F.BAY.CTL.LONG_S : Fld := ⟨0xF4C00108, 0x0, 15, 8⟩
def F.BAY.CTL.ACT_EN : Fld := ⟨0xF4C00108, 0x0, 1, 1⟩
def F.BAY.CTL.ATTN_LOCATE : Fld := ⟨0xF4C00108, 0x0, 0, 0⟩
def F.BAY.STATUS.BAD : Fld := ⟨0xF4C00110, 0x0, 63, 32⟩
def F.BAY.STATUS.CHAIN_OK : Fld := ⟨0xF4C00110, 0x0, 0, 0⟩
def F.BAY.FILT.QUAR_S : Fld := ⟨0xF4C00118, 0x0, 47, 40⟩
def F.BAY.FILT.QUAR_N : Fld := ⟨0xF4C00118, 0x0, 39, 36⟩
def F.BAY.FILT.HOLDOFF_S : Fld := ⟨0xF4C00118, 0x0, 35, 32⟩
def F.BAY.FILT.CHAT_MAX : Fld := ⟨0xF4C00118, 0x0, 31, 24⟩
def F.BAY.FILT.STUCK_S : Fld := ⟨0xF4C00118, 0x0, 23, 16⟩
def F.BAY.FILT.DEBOUNCE : Fld := ⟨0xF4C00118, 0x0, 5, 0⟩
def F.BAY.LEVER.LATCHED : Fld := ⟨0xF4C00120, 0x0, 33, 33⟩
def F.BAY.LEVER.OPEN : Fld := ⟨0xF4C00120, 0x0, 32, 32⟩
def F.BAY.LEVER.FILT_US : Fld := ⟨0xF4C00120, 0x0, 10, 0⟩
def F.BAY.HEAD_IN.SVC_CHAT : Fld := ⟨0xF4C00128, 0x0, 5, 5⟩
def F.BAY.HEAD_IN.SVC_STUCK : Fld := ⟨0xF4C00128, 0x0, 4, 4⟩
def F.BAY.HEAD_IN.SVC : Fld := ⟨0xF4C00128, 0x0, 3, 3⟩
def F.BAY.HEAD_IN.PWR_CHAT : Fld := ⟨0xF4C00128, 0x0, 2, 2⟩
def F.BAY.HEAD_IN.PWR_STUCK : Fld := ⟨0xF4C00128, 0x0, 1, 1⟩
def F.BAY.HEAD_IN.PWR : Fld := ⟨0xF4C00128, 0x0, 0, 0⟩
def F.BAY.HEAD_LED.SVC_FORCE : Fld := ⟨0xF4C00130, 0x0, 1, 1⟩
def F.BAY.HEAD_LED.IDENT : Fld := ⟨0xF4C00130, 0x0, 0, 0⟩
def F.BAY.EVENT.LEVER : Fld := ⟨0xF4C00140, 0x0, 8, 8⟩
def F.BAY.EVENT.CHAIN_FAULT : Fld := ⟨0xF4C00140, 0x0, 7, 7⟩
def F.BAY.EVENT.QUARANTINE : Fld := ⟨0xF4C00140, 0x0, 6, 6⟩
def F.BAY.EVENT.CHATTER : Fld := ⟨0xF4C00140, 0x0, 5, 5⟩
def F.BAY.EVENT.STUCK : Fld := ⟨0xF4C00140, 0x0, 4, 4⟩
def F.BAY.EVENT.HEAD_BUTTON : Fld := ⟨0xF4C00140, 0x0, 3, 3⟩
def F.BAY.EVENT.ATTN : Fld := ⟨0xF4C00140, 0x0, 2, 2⟩
def F.BAY.EVENT.LATCH : Fld := ⟨0xF4C00140, 0x0, 1, 1⟩
def F.BAY.EVENT.PRESENCE : Fld := ⟨0xF4C00140, 0x0, 0, 0⟩
def F.BAY.STAT.COUNT : Fld := ⟨0xF4C00200, 0x8, 63, 0⟩
def F.BAY.BAY_CTL.QCLR : Fld := ⟨0xF4C01000, 0x10, 5, 5⟩
def F.BAY.BAY_CTL.FAULT_SW : Fld := ⟨0xF4C01000, 0x10, 4, 3⟩
def F.BAY.BAY_CTL.LOCATE : Fld := ⟨0xF4C01000, 0x10, 2, 1⟩
def F.BAY.BAY_STATUS.LED : Fld := ⟨0xF4C01008, 0x10, 15, 13⟩
def F.BAY.BAY_STATUS.QUAR : Fld := ⟨0xF4C01008, 0x10, 12, 12⟩
def F.BAY.BAY_STATUS.CHAT : Fld := ⟨0xF4C01008, 0x10, 9, 7⟩
def F.BAY.BAY_STATUS.STUCK : Fld := ⟨0xF4C01008, 0x10, 6, 6⟩
def F.BAY.BAY_STATUS.RAW : Fld := ⟨0xF4C01008, 0x10, 5, 3⟩
def F.BAY.BAY_STATUS.FILTERED : Fld := ⟨0xF4C01008, 0x10, 2, 0⟩
/-! Fields of RCF. -/
def F.RCF.STATUS.SECTOR : Fld := ⟨0xF5000100, 0x0, 45, 32⟩
def F.RCF.STATUS.SEQ_STATE : Fld := ⟨0xF5000100, 0x0, 18, 16⟩
def F.RCF.STATUS.REPAIR : Fld := ⟨0xF5000100, 0x0, 11, 11⟩
def F.RCF.STATUS.SUSP_SW : Fld := ⟨0xF5000100, 0x0, 10, 10⟩
def F.RCF.STATUS.SUSPENDED : Fld := ⟨0xF5000100, 0x0, 9, 9⟩
def F.RCF.STATUS.BUSY : Fld := ⟨0xF5000100, 0x0, 8, 8⟩
def F.RCF.STATUS.RESULT : Fld := ⟨0xF5000100, 0x0, 7, 5⟩
def F.RCF.STATUS.PULSES : Fld := ⟨0xF5000100, 0x0, 4, 0⟩
def F.RCF.UNLOCK.KEY : Fld := ⟨0xF5000108, 0x0, 15, 0⟩
def F.RCF.CMD.OP : Fld := ⟨0xF5000110, 0x0, 2, 0⟩
def F.RCF.ADDR.ADDR : Fld := ⟨0xF5000118, 0x0, 26, 0⟩
def F.RCF.DATA.DATA : Fld := ⟨0xF5000120, 0x0, 63, 0⟩
def F.RCF.CTL.SPREAD : Fld := ⟨0xF5000128, 0x0, 31, 16⟩
def F.RCF.CTL.SUSP_MAX : Fld := ⟨0xF5000128, 0x0, 11, 8⟩
def F.RCF.CTL.AUTO_SUSP : Fld := ⟨0xF5000128, 0x0, 0, 0⟩
def F.RCF.ROT_STATUS.ERASED : Fld := ⟨0xF5000130, 0x0, 55, 46⟩
def F.RCF.ROT_STATUS.SPARES : Fld := ⟨0xF5000130, 0x0, 45, 36⟩
def F.RCF.ROT_STATUS.MAX_COUNT : Fld := ⟨0xF5000130, 0x0, 35, 18⟩
def F.RCF.ROT_STATUS.MIN_COUNT : Fld := ⟨0xF5000130, 0x0, 17, 0⟩
def F.RCF.WEAR.WARNINGS : Fld := ⟨0xF5000138, 0x0, 63, 32⟩
def F.RCF.WEAR.ERASE : Fld := ⟨0xF5000138, 0x0, 24, 24⟩
def F.RCF.WEAR.PULSES : Fld := ⟨0xF5000138, 0x0, 20, 16⟩
def F.RCF.WEAR.SECTOR : Fld := ⟨0xF5000138, 0x0, 13, 0⟩
def F.RCF.EVENT.SEQ_ERR : Fld := ⟨0xF5000150, 0x0, 7, 7⟩
def F.RCF.EVENT.REPAIRED : Fld := ⟨0xF5000150, 0x0, 6, 6⟩
def F.RCF.EVENT.CYCLES : Fld := ⟨0xF5000150, 0x0, 5, 5⟩
def F.RCF.EVENT.SPARE_LOW : Fld := ⟨0xF5000150, 0x0, 4, 4⟩
def F.RCF.EVENT.RETIRED : Fld := ⟨0xF5000150, 0x0, 3, 3⟩
def F.RCF.EVENT.VERIFY_FAIL : Fld := ⟨0xF5000150, 0x0, 2, 2⟩
def F.RCF.EVENT.PULSE_WARN : Fld := ⟨0xF5000150, 0x0, 1, 1⟩
def F.RCF.EVENT.OP_DONE : Fld := ⟨0xF5000150, 0x0, 0, 0⟩
def F.RCF.STAT.COUNT : Fld := ⟨0xF5000200, 0x8, 63, 0⟩
/-! Fields of EVR. -/
def F.EVR.STATUS.CLEAR_RESULT : Fld := ⟨0xF5400100, 0x0, 21, 20⟩
def F.EVR.STATUS.QUEUED : Fld := ⟨0xF5400100, 0x0, 16, 8⟩
def F.EVR.STATUS.CLEARING : Fld := ⟨0xF5400100, 0x0, 3, 3⟩
def F.EVR.STATUS.FULL : Fld := ⟨0xF5400100, 0x0, 2, 2⟩
def F.EVR.STATUS.FLUSHING : Fld := ⟨0xF5400100, 0x0, 1, 1⟩
def F.EVR.STATUS.HOLDING : Fld := ⟨0xF5400100, 0x0, 0, 0⟩
def F.EVR.HEAD.SEQ : Fld := ⟨0xF5400108, 0x0, 63, 0⟩
def F.EVR.TAIL.SEQ : Fld := ⟨0xF5400110, 0x0, 63, 0⟩
def F.EVR.TIME.POWER_CYCLES : Fld := ⟨0xF5400118, 0x0, 63, 32⟩
def F.EVR.TIME.OP_TIME : Fld := ⟨0xF5400118, 0x0, 31, 0⟩
def F.EVR.RD_SEQ.SEQ : Fld := ⟨0xF5400120, 0x0, 63, 0⟩
def F.EVR.CLEAR_CMD.OP : Fld := ⟨0xF5400128, 0x0, 1, 0⟩
def F.EVR.RD_DATA.DATA : Fld := ⟨0xF5400140, 0x8, 63, 0⟩
def F.EVR.EVENT.WRAP : Fld := ⟨0xF5400180, 0x0, 4, 4⟩
def F.EVR.EVENT.FULL : Fld := ⟨0xF5400180, 0x0, 3, 3⟩
def F.EVR.EVENT.FLUSH_DONE : Fld := ⟨0xF5400180, 0x0, 2, 2⟩
def F.EVR.EVENT.CLEARED : Fld := ⟨0xF5400180, 0x0, 1, 1⟩
def F.EVR.EVENT.OVERFLOW : Fld := ⟨0xF5400180, 0x0, 0, 0⟩
def F.EVR.SW_REC0.OBJECT : Fld := ⟨0xF5400190, 0x0, 63, 40⟩
def F.EVR.SW_REC0.SEVERITY : Fld := ⟨0xF5400190, 0x0, 18, 16⟩
def F.EVR.SW_REC0.CODE : Fld := ⟨0xF5400190, 0x0, 15, 0⟩
def F.EVR.SW_REC1.ARG0 : Fld := ⟨0xF5400198, 0x0, 63, 0⟩
def F.EVR.SW_REC2.ARG1 : Fld := ⟨0xF54001A0, 0x0, 63, 0⟩
def F.EVR.STAT.COUNT : Fld := ⟨0xF5400200, 0x8, 63, 0⟩
/-! Fields of FLT. -/
def F.FLT.STATUS.SELF_FENCED : Fld := ⟨0xF5800100, 0x0, 16, 16⟩
def F.FLT.STATUS.FATAL_HB : Fld := ⟨0xF5800100, 0x0, 7, 7⟩
def F.FLT.STATUS.ACTIVE_CLASS : Fld := ⟨0xF5800100, 0x0, 2, 0⟩
def F.FLT.ACTIVE.SEQ : Fld := ⟨0xF5800108, 0x0, 63, 0⟩
def F.FLT.ACK.SEQ_LO : Fld := ⟨0xF5800110, 0x0, 63, 32⟩
def F.FLT.ACK.CLASS : Fld := ⟨0xF5800110, 0x0, 2, 0⟩
def F.FLT.WDOG_CTL.EN : Fld := ⟨0xF5800118, 0x0, 16, 16⟩
def F.FLT.WDOG_CTL.TIMEOUT_MS : Fld := ⟨0xF5800118, 0x0, 15, 0⟩
def F.FLT.WDOG_KICK.KEY : Fld := ⟨0xF5800120, 0x0, 15, 0⟩
def F.FLT.WDOG_STATUS.STAGE : Fld := ⟨0xF5800128, 0x0, 33, 32⟩
def F.FLT.WDOG_STATUS.REMAIN_US : Fld := ⟨0xF5800128, 0x0, 31, 0⟩
def F.FLT.PROG_CTL.PROG_TICKS : Fld := ⟨0xF5800130, 0x0, 15, 0⟩
def F.FLT.CE_CTL.CE_THR : Fld := ⟨0xF5800138, 0x0, 15, 0⟩
def F.FLT.LAST_FATAL0.SEQ : Fld := ⟨0xF5800140, 0x0, 63, 0⟩
def F.FLT.LAST_FATAL1.CODE : Fld := ⟨0xF5800148, 0x0, 63, 48⟩
def F.FLT.LAST_FATAL1.OBJECT : Fld := ⟨0xF5800148, 0x0, 47, 24⟩
def F.FLT.LAST_FATAL1.DOUBLE : Fld := ⟨0xF5800148, 0x0, 0, 0⟩
def F.FLT.INJECT.CODE : Fld := ⟨0xF5800150, 0x0, 63, 48⟩
def F.FLT.INJECT.OBJECT : Fld := ⟨0xF5800150, 0x0, 47, 24⟩
def F.FLT.EVENT.WDOG_STAGE1 : Fld := ⟨0xF5800160, 0x0, 8, 8⟩
def F.FLT.EVENT.SELF_FENCE : Fld := ⟨0xF5800160, 0x0, 7, 7⟩
def F.FLT.EVENT.ACK_TIMEOUT : Fld := ⟨0xF5800160, 0x0, 6, 6⟩
def F.FLT.EVENT.OVERFLOW : Fld := ⟨0xF5800160, 0x0, 5, 5⟩
def F.FLT.EVENT.CLASS : Fld := ⟨0xF5800160, 0x0, 4, 0⟩
def F.FLT.STAT.COUNT : Fld := ⟨0xF5800200, 0x8, 63, 0⟩
def F.FLT.CLASS_CTL.ACK_TICKS : Fld := ⟨0xF5800400, 0x20, 31, 0⟩
def F.FLT.CLASS_STATUS.OVF : Fld := ⟨0xF5800408, 0x20, 63, 32⟩
def F.FLT.CLASS_STATUS.PAUSED : Fld := ⟨0xF5800408, 0x20, 20, 20⟩
def F.FLT.CLASS_STATUS.DEPTH : Fld := ⟨0xF5800408, 0x20, 4, 0⟩
def F.FLT.CLASS_HEAD.SEQ : Fld := ⟨0xF5800410, 0x20, 63, 0⟩
def F.FLT.CLASS_LEFT.TICKS : Fld := ⟨0xF5800418, 0x20, 31, 0⟩

end Sys2Proof.Machine
end

