-- ==== Sys2Proof/Machine/ControlTypes.lean ====
section
/-!
DEFINITION. Machine/ControlTypes.lean: the typed state of the control blocks TCK, LCS, SIM, APC, MEM, BAY,
RCF, EVR and FLT. A field that software reads through a register and that is kept here is shown in the
register by the views of Machine/Views.lean; every other register field is in the register file.
-/

namespace Sys2Proof.Machine

/-- The twelve operating modes (R455, chapter 00); the mode codes of R397 are `Mode.code`. -/
inductive Mode where
  | reset | structureLoad | selfTest | recovery | join | dualActive | soloActive | takeOver
  | handBack | restructure | eclipse | powerFailDrain
  deriving DecidableEq, Repr

/-- The reset kinds of R461, in the order of the codes of LCS.RESET_CAUSE. -/
inductive ResetKind where
  | cold | warm | software | watchdog | powerFail | lifeCycle
  deriving DecidableEq, Repr

/-- The alignment states of R43. -/
inductive AlignState where
  | free | acquire | locked | holdover
  deriving DecidableEq, Repr

/-- The cause of an Eclipse, as WIT.STATUS.FENCE_SRC counts them: 0 witness, 1 lease, 2 module,
3 Hand-Back or fault. -/
inductive FenceSrc where
  | witness | lease | module | handBackOrFault
  deriving DecidableEq, Repr

/-- An input held in a capture latch (R27, R28). Host capsules of ranks 9 and 10 are held by CMF. -/
inductive Input where
  | supplyFault (rails : Nat)
  | powerFailWarning
  | epochLoss (src : FenceSrc)
  | reset (kind : ResetKind)
  | leverOpen
  | handBackStart
  | peerLoss
  | moduleLoss (port : Nat)
  | dieFailure (port die : Nat)
  | commit
  | management (msg : ManagementMessage)
  deriving DecidableEq, Repr

/-- TCK: the tick generator and event sampler (chapter 01). -/
structure Tck where
  /-- Ticks run since PORST_N was released with the reference clocks stable (R23). -/
  ticking : Bool
  /-- The HSLOT strap sampled at the release of PORST_N (R572). -/
  headSlot : Nat
  /-- TICK_COUNT, the number of the current tick (R23). -/
  tick : Nat
  /-- The alignment state (R43). -/
  align : AlignState
  /-- The reference of Umbra link 0 is valid (R41). -/
  refValid0 : Bool
  /-- The reference of Umbra link 1 is valid (R41). -/
  refValid1 : Bool
  /-- The link whose reference is selected (R43, R44). -/
  refLink : Nat
  /-- Consecutive boundaries whose phase error was within 50 ns (R43). -/
  goodRun : Nat
  /-- Phase error at the last boundary, in 0.25 ns, signed (TCK.PHASE_ERR). -/
  phaseErr : Int
  /-- Frequency trim in use, in parts per billion, signed (TCK.TRIM). -/
  trim : Int
  /-- Own boundary minus the peer's, in ns, signed (TCK.PEER_OFFSET). -/
  peerOffset : Int
  /-- Tick at which HOLDOVER was entered (R43). -/
  holdSince : Nat
  /-- Step 5 of the last boundary has begun: work of the tick may start (R24). -/
  working : Bool
  /-- The phase has been stepped since the reference was taken up (R42). -/
  stepped : Bool
  /-- The step made at the last boundary, in 0.25 ns, signed; 0 when it was not stepped (R42). -/
  step : Int
  /-- The capture latches, in arrival order (R27, R32). -/
  latches : List Input
  /-- The virtual controller that last held F since the last reset (R34, R36). -/
  lastFirst : Option Nat
  /-- F(T) is defined in the current tick (R36). -/
  firstValid : Bool
  deriving DecidableEq, Repr

/-- The life-cycle states of R471. -/
inductive LifeState where
  | blank | maker | provisioned | field | returnToMaker | void
  deriving DecidableEq, Repr

/-- The fuse fields of R473. -/
structure Fuses where
  /-- SERIAL. -/
  serial : BitVec 128
  /-- The fifteen LC fuses: LC bit i is the majority of fuses 3i to 3i+2. -/
  lc : BitVec 15
  /-- DEVICE_SECRET, once programmed. -/
  deviceSecret : Option (BitVec 256)
  /-- The three SECRET_KILL fuses, read by majority. -/
  secretKill : BitVec 3
  /-- IMG_DIGEST(k), by k, once programmed. -/
  imgDigest : Tab (BitVec 384)
  /-- IMG_REVOKE(k). -/
  imgRevoke : BitVec 4
  /-- TOKEN_DIGEST, once programmed. -/
  tokenDigest : Option (BitVec 384)
  /-- The programmed ROLLBACK rows, row 0 first. -/
  rollback : List (BitVec 32)
  deriving DecidableEq, Repr

/-- A life-cycle command waiting for its boundary (R476). -/
structure LcsPending where
  op : Nat
  index : Nat
  value : Nat
  fromLcAccess : Bool
  /-- Every fuse the command programs verifies (R473). -/
  fuseOk : Bool
  deriving DecidableEq, Repr

/-- LCS: modes, resets, fuses, life cycle (chapter 14). -/
structure Lcs where
  /-- The operating mode (R455). -/
  mode : Mode
  /-- The serving mode to which Restructure returns (R456). -/
  resumeMode : Mode
  /-- The life-cycle state in force, as the fuses were sensed in the last Reset (R473, R476). -/
  life : LifeState
  /-- The fuses. -/
  fuses : Fuses
  /-- Kind of the last reset (LCS.RESET_CAUSE). -/
  resetCause : ResetKind
  /-- Boot loader slot in use: 0 none, 1 slot 0, 2 slot 1 (R465). -/
  bootSlot : Nat
  /-- No boot loader slot verified (R465). -/
  bootFail : Bool
  /-- Self-Test phase: 0 none, 1 to 4, 5 waiting for a grant (R459). -/
  stPhase : Nat
  /-- A test of phase 1 or 2 failed (R459). -/
  stFail : Bool
  /-- Tick of entry to Self-Test (R459). -/
  stEntry : Nat
  /-- Tick at which listening began (R460). -/
  listenSince : Nat
  /-- The nonce of R475: NONCE0, then NONCE1. -/
  nonce : Word × Word
  /-- PURPOSE of the OEM token held (R475). -/
  oemToken : Option Nat
  /-- PURPOSE of the Geosteg token held (R475). -/
  geoToken : Option Nat
  /-- The array wrapping key, when loaded (R478). -/
  awk : Option (BitVec 256)
  /-- The array wrapping key that sector 0 of the key-wrap store holds wrapped (R478); Geosteg defines that sector's
  format, and no read window reaches it (R480). -/
  awkStored : Option (BitVec 256)
  /-- KEY_INDEX of the loaded full image (LCS.KEYS.ACTIVE). -/
  keyActive : Nat
  /-- The life-cycle command waiting for its boundary (R476). -/
  pending : Option LcsPending
  /-- A life-cycle reset is due at the next boundary (R476). -/
  lifeResetDue : Bool
  /-- Tick B(P) at which Power-Fail Drain was entered (R466). -/
  drainStart : Nat
  /-- The drain has ended and every output is quiet (R467). -/
  drainEnded : Bool
  /-- Ticks without a break for which PFW_N has been deasserted and no rail at fault (R469). -/
  supplyGood : Nat
  /-- THERMTRIP_N is held asserted (R592). -/
  thermTripped : Bool
  deriving DecidableEq, Repr

/-- The requesters of record flash operations, in the order of R487. -/
inductive RcfWho where
  | evr | lcs | sim | software | background
  deriving DecidableEq, Repr

/-- What a record flash request asks (R484, R490, R494, R495, R496). -/
inductive RcfOp where
  /-- Program words: physical word address (byte address divided by 8) and value. -/
  | program (words : List (Nat × Word))
  /-- Erase a physical sector (R490). -/
  | erase (sector : Nat)
  /-- Give a logical sector an erased physical sector (R494). -/
  | rotate (logical : Nat)
  /-- Move a logical sector to the most-worn spare (R495). -/
  | wearMove (logical : Nat)
  deriving DecidableEq, Repr

/-- A record flash request. -/
structure RcfReq where
  who : RcfWho
  op : RcfOp
  deriving DecidableEq, Repr

/-- The states of the unlock sequence (R483, RCF.STATUS.SEQ_STATE). -/
inductive RcfSeq where
  | idle | key1 | key2
  | command (op : Nat)
  | address (op addr : Nat)
  | burst (next : Nat)
  deriving DecidableEq, Repr

/-- An entry of the intent journal that is not closed (R489, R490). -/
structure RcfIntent where
  entry : Nat
  sector : Nat
  count : Nat
  deriving DecidableEq, Repr

/-- An erase held suspended (R488): by SUSPEND, or automatically, and the request. -/
structure RcfHold where
  bySoftware : Bool
  req : RcfReq
  deriving DecidableEq, Repr

/-- RCF: the record flash controller (chapter 15). -/
structure Rcf where
  /-- Contents by word (byte address divided by 8); an unlisted word is all ones. -/
  flash : Tab Word
  /-- Information rows by sector times 8 plus word (R481); an unlisted word is all ones. -/
  info : Tab Word
  /-- The unlock sequence of array software (R483). -/
  seq : RcfSeq
  /-- Requests waiting, in the order made (R487). -/
  queue : List RcfReq
  /-- The request in progress (R487). -/
  current : Option RcfReq
  /-- The step of R490 an erase in progress is in, 1 to 4; 0 for any other operation. -/
  step : Nat
  /-- Step 2 of the erase in progress ended FAIL (R490). -/
  eraseFail : Bool
  /-- The erase held suspended (R488). -/
  held : Option RcfHold
  /-- Tick at which the suspension began (R488). -/
  suspSince : Nat
  /-- Times the erase in progress was suspended automatically (R488). -/
  suspCount : Nat
  /-- A suspended erase is never resumed: Power-Fail Drain was entered (R488). -/
  neverResume : Bool
  /-- Number of the next journal entry (R489). -/
  nextEntry : Nat
  /-- PASS of the next entry (R491). -/
  pass : Nat
  /-- The open entry, if any (R490). -/
  openIntent : Option RcfIntent
  /-- The erase in progress repairs the sector an open entry named (R492). -/
  repair : Bool
  /-- The map of the rotating region: logical sector to physical sector (R493). -/
  claims : Tab Nat
  /-- Claims verified in the tick in progress: they hold from the next boundary (R494). -/
  claimsDue : Tab Nat
  /-- Sectors of the region to be retired in place of their next erase (R496). -/
  retiring : List Nat
  /-- Tick of the last wear move (R495). -/
  lastMove : Option Nat
  deriving DecidableEq, Repr

/-- An event record (R499). -/
structure EvRec where
  seq : Nat
  opTime : Nat
  powerCycles : Nat
  tick : Nat
  parent : Nat
  source : Nat
  severity : Nat
  code : Nat
  object : Nat
  repeats : Nat
  arg0 : Nat
  arg1 : Nat
  deriving DecidableEq, Repr

/-- EVR: the event recorder (chapter 15). -/
structure Evr where
  /-- SEQ of the next record (R501). -/
  nextSeq : Nat
  /-- Records queued in SRAM, in SEQ order (R503). -/
  queue : List EvRec
  /-- SEQ values dropped and not yet named by an OVERFLOW record: first, last (R504). -/
  dropped : Option (Nat × Nat)
  /-- A flush of R503 is in progress. -/
  flushing : Bool
  /-- The event area by ring slot, 64 to a logical sector (R505). -/
  ring : Tab EvRec
  /-- The next ring slot to write. -/
  pos : Nat
  /-- The logical sector of that slot has been rotated for this pass (R505). -/
  entered : Bool
  /-- HEAD (R505). -/
  head : Nat
  /-- TAIL (R505). -/
  tail : Nat
  /-- OP_TIME in 1/64 hour (R502). -/
  opTime : Nat
  /-- Ticks run in the current unit of OP_TIME (R502). -/
  opTicks : Nat
  /-- EVR wrote a record in the current unit of OP_TIME (R502). -/
  unitUsed : Bool
  /-- The unit that ended last saw no record: a TIME record is due (R502). -/
  timeDue : Bool
  /-- POWER_CYCLES (R502). -/
  powerCycles : Nat
  /-- No erased spare can be made (R504). -/
  full : Bool
  /-- A write of SW_REC2 waits for its boundary (R507). -/
  swPending : Bool
  /-- A CLEAR waits for its boundary (R508). -/
  clearPending : Bool
  /-- Logical event sectors still to be rotated after a clear (R508). -/
  clearing : List Nat
  /-- Records of access errors, made at the next boundary (R568). -/
  atBoundary : List EvRec
  deriving DecidableEq, Repr

/-- An entry of a fault queue (R512). -/
structure FltEntry where
  seq : Nat
  code : Nat
  object : Nat
  /-- Ticks of the deadline left; none when the class has no deadline (R514). -/
  left : Option Nat
  deriving DecidableEq, Repr

/-- A fault report waiting for the next boundary (R510). -/
structure FltReport where
  code : Nat
  source : Nat
  unit : Nat
  arg1 : Nat
  /-- Made through FLT.INJECT (R523). -/
  injected : Bool
  /-- ACK_TIMEOUT: the class of the entry that was retired (R514). -/
  fromClass : Nat
  deriving DecidableEq, Repr

/-- FLT: the fault handler (chapter 16). -/
structure Flt where
  /-- The queues of classes 1 to 5, class 1 first (R512). -/
  queues : List (List FltEntry)
  /-- Reports raised in the tick in progress, in the order raised (R510). -/
  reports : List FltReport
  /-- Acknowledgements waiting for the next boundary: class and low half of SEQ (R514). -/
  acks : List (Nat × Nat)
  /-- Corrected errors of the last second: source, unit, tick (R511, CE_STORM). -/
  corrected : List (Nat × Nat × Nat)
  /-- Units marked for replacement under CE_STORM: source and unit (R511). -/
  marked : List (Nat × Nat)
  /-- Stage of the software watchdog: 0 off, 1 first period, 2 second (R519). -/
  wdogStage : Nat
  /-- Ticks of the period run so far (R519). -/
  wdogRun : Nat
  /-- A class-5 fault is taken and its Hand-Back waits for rank 4 or the end of Restructure (R516). -/
  handBackDue : Bool
  /-- A Hand-Back started by R516 is in progress (FLT.STATUS.FATAL_HB). -/
  fatalHandBack : Bool
  /-- Self-fenced since the last reset (R517). -/
  selfFenced : Bool
  /-- SEQ of the fault whose action a self-fence or Hand-Back is, for PARENT (R515). -/
  actingSeq : Nat
  /-- Lanes withdrawn from dispatch by LANE_STALL: source and lane (R511, R520). -/
  withdrawn : List (Nat × Nat)
  /-- TEMP_WARN is armed (R591). -/
  warnArmed : Bool
  /-- TEMP_CRIT is armed (R591). -/
  critArmed : Bool
  deriving DecidableEq, Repr

/-- The partial image being staged, staged or requested, and the shadow copies SIM has built (R446): register values,
the accepted opcodes of its ENGINE section, where its disposition record lies, and its bytes. -/
structure StagedPart where
  partSeq : Nat
  quiesce : Bool
  regs : List (Nat × Word)
  engine : Option (List Word)
  /-- Flash address of the disposition record. -/
  addr : Nat
  bytes : List Byte
  deriving DecidableEq, Repr

/-- SIM: the structure image manager (chapter 13). Its status words are in the register file. -/
structure Sim where
  /-- The command waiting for its boundary (SIM.CMD.OP). -/
  pending : Option Nat
  /-- The slot that the load in progress tries first: 0 A, 1 B (R443, R445). -/
  slot : Nat
  /-- The shadow copies. -/
  shadow : Option StagedPart
  /-- How SIM's last program of record flash ended. -/
  wrote : Option Bool
  /-- COMMIT has been executed and its word is being written (R448). -/
  requested : Bool
  /-- Boundaries at which the requested commit has been deferred (R449). -/
  deferred : Nat
  /-- The commit has been applied and has not ended: COMMITTED is still to be set (R450). -/
  committing : Bool
  deriving DecidableEq, Repr

/-- An interrupt message sent to a core: core, file (0 machine, 1 supervisor) and identity (R555). -/
structure IrqMessage where
  core : Nat
  file : Nat
  id : Nat
  deriving DecidableEq, Repr

/-- APC: cores, interrupt router, PCIe root port and management endpoint (chapter 18). -/
structure Apc where
  /-- The core reference count of R542 (APC.MTIME). -/
  mtime : Nat
  /-- Tick of the last message of each source (R555). -/
  lastMessage : Tab Nat
  /-- Identities pending in the IMSIC files of the cores (R554, R556). -/
  files : List IrqMessage
  /-- Cores whose machine timer interrupt is raised (R542). -/
  timerCores : List Nat
  /-- The pc each core was last released at (R547). -/
  started : Tab Nat
  /-- Registers a0 and a1 of core 0 as it left reset: slot and IMAGE_SEQ (R547). -/
  bootArgs : Nat × Nat
  /-- INTA to INTD asserted (R554). -/
  intx : Nat
  /-- The I3C dynamic address, once assigned (R559). -/
  dynamicAddr : Option Nat
  deriving DecidableEq, Repr

/-- MEM: the HBM and DDR controllers (chapter 18). Memory itself is `State.mem`. -/
structure MemCtl where
  /-- The background zero-fill is running (R552). -/
  filling : Bool
  /-- Tick at which the running scrub pass began (R553). -/
  scrubSince : Nat
  deriving DecidableEq, Repr

/-- The filter of one panel input (R532 to R536). -/
structure Filt where
  /-- The last good sample. -/
  raw : Bool
  /-- A sample has been taken since the reset (R533). -/
  seen : Bool
  /-- Consecutive samples that show a value other than the filtered one. -/
  count : Nat
  /-- The filtered state. -/
  filtered : Bool
  /-- A button active at the first sample is held inactive until released (R533). -/
  held : Bool
  /-- Panel ticks of the raw transitions of the last second (R535). -/
  changes : List Nat
  /-- The input is marked chattering (R535). -/
  chatter : Bool
  /-- Panel tick of the last raw transition (R535). -/
  lastChange : Nat
  /-- Tick at which the filtered state became active (R534, R537). -/
  activeSince : Nat
  /-- The button is marked stuck (R534). -/
  stuck : Bool
  /-- The filtered state last reported (R536). -/
  reported : Bool
  /-- A filtered transition waits to be acted on at rank 12 (R537). -/
  due : Bool
  /-- A long press has been acted on since the press (R537). -/
  longDone : Bool
  deriving DecidableEq, Repr

/-- BAY: the bay chain and the head panel (chapter 17). -/
structure Bay where
  /-- The filter of each input: bay times 4 plus 0 presence, 1 attention, 2 latch; 1024 the power button,
  1025 the service button. An absent entry is the state of R533 after a reset. -/
  inputs : Tab Filt
  /-- Ticks of the filtered presence transitions of each bay, newest first (R536). -/
  presence : Tab (List Nat)
  /-- Bays whose latch warning stands (R537). -/
  latchWarn : List Nat
  /-- Consecutive bad refreshes (R530). -/
  badRun : Nat
  /-- The zero shift of R529 has been made since the reset. -/
  primed : Bool
  /-- Length of the chain in use, parts (R530). -/
  parts : Nat
  /-- The lever pin as last sampled: open (R538). -/
  leverRaw : Bool
  /-- Ticks for which the lever pin has shown its present state (R538). -/
  leverRun : Nat
  /-- A filtered opening waits for Dual-Active or Solo-Active (R539). -/
  leverWaits : Bool
  /-- The inputs of the last good refresh, by bay, until a panel tick samples them (R528, R530). -/
  sample : Option (List Nat)
  /-- Frond ports to which a CMD frame was sent since the last panel tick, and in the panel period before (R540). -/
  active : List Nat
  shown : List Nat
  /-- The LEDs decided at the last panel tick, by bay: bit 2 LOCATE, 1 FAULT, 0 ACTIVITY (R540). -/
  leds : List Nat
  /-- LED_STAT, LED_SVC, LED_RMV as driven (R541). -/
  ledStat : Bool
  ledSvc : Bool
  ledRmv : Bool
  /-- TEMP_WARN has been taken since the last reset (R541). -/
  tempWarned : Bool
  deriving DecidableEq, Repr

end Sys2Proof.Machine
end

