-- ==== Sys2Proof/Machine/DataTypes.lean ====
section
/-!
DEFINITION. Machine/DataTypes.lean: the typed state of the data-path blocks RDX, CMP, CIP, DGS, FTL, RDN
and FRN.
-/

namespace Sys2Proof.Machine

/-- A hot-set entry with VALID 1 (R54). -/
structure HotEntry where
  fpPart : BitVec 128
  addr : Nat
  granules : Nat
  isPend : Bool
  perm : Bool
  lost : Bool
  age : Nat
  refCount : Nat
  keyId : Nat
  deriving DecidableEq, Repr

/-- The movements of R160. -/
inductive MoveKind where
  | fold | relocate | rewrap | rewrite
  deriving DecidableEq, Repr

/-- Where a chunk of a write stands on the write path (chapter 02, write path steps). -/
inductive ChunkStage where
  | cut          -- step 2 done: cut from the command's data
  | fingerprinted -- step 3 done
  | missed        -- step 4 done: a miss, to be compressed
  | compressed    -- step 5 done
  | encrypted     -- step 6 done
  | waitKey       -- the encryption waits for a reservation or a usable key (R124, R129)
  | placed        -- step 7: copies and journal record sent
  | hit           -- step 4 done: a hit on a durable chunk
  | pendingHit    -- step 4 done: a hit on a pending chunk (R56)
  | zero          -- the zero test held (R48)
  | refused       -- refused for want of a key (R52, R129)
  | failed        -- a copy is unplaceable (R68)
  deriving DecidableEq, Repr

/-- Work that a lane can hold: a chunk of a write, a read of a stored chunk, or a ring job, by its number. -/
inductive LaneItem where
  | write (chunk : Nat)
  | read (job : Nat)
  | ring (job : Nat)
  deriving DecidableEq, Repr

/-- A context slot of a lane that holds a cut job (R25, R79, R112): the job, the byte at which it was cut, the engine cycles
it has had, and whether it has gone over to the hash-only rate (R84). -/
structure CutSlot where
  item : LaneItem
  upto : Nat
  spent : Nat
  hashing : Bool
  deriving DecidableEq, Repr

/-- The lanes of an engine: the context slots that hold a cut job, by lane * 3 + class of R26 (R79, R112), and the engine
cycles of the tick that a lane has spent (R25); an unlisted lane has spent none. -/
structure Lanes where
  cuts : Tab CutSlot
  used : Tab Nat
  deriving DecidableEq, Repr

/-- The lanes of CMP, CIP, DGS and RDN (R77, R111, R209). -/
structure LaneBanks where
  cmp : Lanes
  cip : Lanes
  dgs : Lanes
  rdn : Lanes
  deriving DecidableEq, Repr

/-- A chunk of a write (R47), and the fields of its header (R49). -/
structure ChunkJob where
  /-- The command it belongs to; a rewrap or a rewrite has none. -/
  cmd : Option Nat
  nsid : Nat
  /-- First granule and number of granules. -/
  granule : Nat
  granules : Nat
  content : List Byte
  stage : ChunkStage
  fingerprint : BitVec 256
  /-- The digest key slot that formed it. -/
  dkey : Nat
  /-- Chunk number: of the chunk hit, or of the chunk placed. -/
  addr : Nat
  /-- The lane that fingerprints or encrypts it (R113). -/
  lane : Option Nat
  /-- The compressor lane it was given at admission, and the word of CMP.CONFIG it was given it under (R80, R81). -/
  cmpLane : Option Nat
  cmpConfig : Word
  /-- The tick in which it was queued for the step it stands at (R72). -/
  since : Nat
  /-- Its pending hit failed: it is driven again as a miss (R56). -/
  driven : Bool
  /-- RAW of the header. -/
  raw : Bool
  /-- The payload: the frame or the content; after encryption the ciphertext. -/
  payload : List Byte
  contentCheck : Nat
  keySlot : Nat
  keyId : Nat
  /-- The 80 header bytes that are associated data (R50), once formed. -/
  header : List Byte
  tag : BitVec 128
  /-- The chunk of a movement: rewrapped or rewritten under the same number (R132, R195). -/
  moves : Option MoveKind
  /-- Places of copies 0 and 1, whether each has passed verify, and failed placements (R65, R183). -/
  loc0 : Nat
  loc1 : Nat
  ok0 : Bool
  ok1 : Bool
  fails0 : Nat
  fails1 : Nat
  /-- PROGRAM commands of each copy not answered (R182). -/
  left0 : Nat
  left1 : Nat
  /-- A copy waits to be placed again (R183): bit 0 copy 0, bit 1 copy 1. -/
  again : Nat
  /-- Its map changes stand in a record (R172). -/
  recorded : Bool
  /-- Map epoch of the namespace when the write was admitted (R164). -/
  me : Nat
  deriving DecidableEq, Repr

/-- What a read of a stored chunk is for. -/
inductive ReadFor where
  | host
  | patrol
  /-- A movement of a background class (R417): its stored bytes are moved as they are read (R187, R192, R225, R237), or
  rewrapped (R132). -/
  | move (cls : Nat)
  deriving DecidableEq, Repr

/-- Where the stored bytes of a read come from (R75, R196). -/
inductive ReadSource where
  | first | second | rebuilt
  deriving DecidableEq, Repr

/-- The stages of a read of a stored chunk (R73). -/
inductive ReadStage where
  | waiting   -- pages asked for
  | stored    -- the stored bytes are present
  | ready     -- the stored bytes are present, for a movement
  | decrypted -- the tag check passed
  | expanded  -- the content passed R51
  | failed    -- every source failed (R75)
  deriving DecidableEq, Repr

/-- A page, or part of one, of a stored chunk: where it lies, and the bytes once read. -/
structure ReadPiece where
  port : Nat
  die : Nat
  block : Nat
  page : Nat
  col : Nat
  xlen : Nat
  data : Option (List Byte)
  failed : Bool
  /-- Retry level of the last READ (R196), and whether die-parity assist has been asked for or is not allowed. -/
  level : Nat
  recon : Bool
  /-- The bulk stripe it is a page of; none for a page of an SLC block. -/
  stripe : Option Nat
  deriving DecidableEq, Repr

/-- A read of a stored chunk (R73): the commands and granules it serves, the pieces, and the bytes so far. -/
structure ChunkRead where
  chunk : Nat
  use : ReadFor
  /-- Command, granule and GIDX of every granule served. -/
  waiters : List (Nat × Nat × Nat)
  source : ReadSource
  /-- The place read, in 64-byte units the length, and the other moss copy (R75, R196). -/
  place : Nat
  units : Nat
  other : Option Nat
  pieces : List ReadPiece
  stage : ReadStage
  stored : List Byte
  payload : List Byte
  content : List Byte
  /-- The lane that decrypts it (R113), and the decompressor lane it was given at admission (R80). -/
  lane : Option Nat
  cmpLane : Option Nat
  /-- The tick in which it was queued for the step it stands at (R72). -/
  since : Nat
  deriving DecidableEq, Repr

/-- A fingerprint waiting for merge (R63, R64). -/
structure MergeItem where
  fingerprint : BitVec 256
  addr : Nat
  granules : Nat
  keyId : Nat
  deriving DecidableEq, Repr

/-- RDX: reduction control (chapter 02). -/
structure Rdx where
  /-- Regions warm: regions load in ascending order, so those below this number (R62). -/
  warm : Nat
  /-- Regions are being loaded (R62). -/
  loading : Bool
  /-- The hot set: (region × 2^k + page) × 8 + slot (R53, R54). -/
  hot : Tab HotEntry
  /-- The merge queue, oldest first (R64). -/
  mergeQueue : List MergeItem
  /-- Chunks on the write path, by number. -/
  chunks : Tab ChunkJob
  /-- Number of the next chunk. -/
  nextChunk : Nat
  /-- Reads of stored chunks, by number. -/
  reads : Tab ChunkRead
  /-- Number of the next read. -/
  nextRead : Nat
  /-- WRITE_SEQ of the last chunk placed (R49). -/
  writeSeq : Nat
  /-- Merges found in the tick, newer and older chunk: their records follow the writes of the tick (R63, R64). -/
  merges : List (Nat × Nat)
  /-- Chunks whose cached counts the tick lowers, once for each granule: after every increment of it (R58, R59). -/
  lowered : List Nat
  deriving DecidableEq, Repr

/-- A job of a job ring that has been read and has not ended (R103, R104, R150). -/
structure RingJob where
  ring : Nat
  /-- The 64 bytes of the descriptor. -/
  desc : List Byte
  /-- The lane that runs it; none while it waits on a save area or a context (R109, R115). -/
  lane : Option Nat
  /-- Dispatched under the ENGINE section of an earlier structure (R450). -/
  old : Bool
  /-- Its encryption has waited for a reservation (R124). -/
  waited : Bool
  deriving DecidableEq, Repr

/-- A ring job that has ended, whose completion record is to be written (R106, R153): its ring, the IRQ bit, and the record
without PHASE and TICK: bytes 0 to 23. -/
structure JobDone where
  ring : Nat
  irq : Bool
  status : Nat
  body : List Byte
  deriving DecidableEq, Repr

/-- A stream of a save area since its START (R108): the opcode, WLOG and CSUM of the START job, the bytes not compressed, and
the compressed ones, as far as they have been taken or put out. -/
structure CodeStream where
  op : Nat
  wlog : Nat
  csum : Bool
  text : List Byte
  code : List Byte
  deriving DecidableEq, Repr

/-- CMP: the compression engine (chapter 03). -/
structure Cmp where
  /-- The lanes now in the compressor role (R77, R81). -/
  compressors : List Nat
  /-- Jobs of the rings, by number, in dispatch order. -/
  jobs : Tab RingJob
  /-- Number of the next job. -/
  nextJob : Nat
  /-- The ring that was the first of the last tick (R103), and the rings that have taken their turn since. -/
  lastRing : Option Nat
  turned : List Nat
  /-- Ring jobs that have ended, in the order in which they ended (R106). -/
  ended : List JobDone
  /-- What the engine states of save areas stand for, by the number they hold (R108): Geosteg defines the bytes. -/
  streams : Tab CodeStream
  /-- The number of the next engine state (R108). -/
  nextStream : Nat
  deriving DecidableEq, Repr

/-- The states of a key slot other than EMPTY (R123). -/
inductive KeyState where
  | ready | active | retiring | exhausted
  deriving DecidableEq, Repr

/-- A key slot that is not EMPTY (R118, R124). -/
structure KeySlot where
  state : KeyState
  keyId : Nat
  key : List Byte
  /-- LIMIT in blocks of 2^20 (R120). -/
  limit : Nat
  /-- NEXT (R124). -/
  next : Nat
  resOwn : Nat
  resPeer : Nat
  /-- Blocks of RES_OWN whose reservation is durable (R124, R125). -/
  durable : Nat
  usageValid : Bool
  succ : Option Nat
  sender : Nat
  /-- KEY_WARN has been set for the present W (R127). -/
  warned : Bool
  deriving DecidableEq, Repr

/-- A key command waiting for its boundary (R122): OP, KEY_ARG0, KEY_ARG1. -/
structure KeyPending where
  op : Nat
  arg0 : Word
  arg1 : Word
  deriving DecidableEq, Repr

/-- A CIP stream context with an open invocation (R114): what its state is computed from. -/
structure CipCtx where
  key : List Byte
  slotType : Nat
  slot : Nat
  encrypting : Bool
  iv : List Byte
  aad : List Byte
  text : List Byte
  deriving DecidableEq, Repr

/-- CIP: the cipher engine (chapter 04). -/
structure Cip where
  /-- Data key slots 0 to 4,095 that are not EMPTY. -/
  data : Tab KeySlot
  /-- Transport key slots 0 to 63 that are not EMPTY. -/
  transport : Tab KeySlot
  /-- Digest key slots 0 to 15 that are not EMPTY. -/
  digest : Tab KeySlot
  /-- The key command waiting for its boundary (R122). -/
  pending : Option KeyPending
  /-- Stream contexts with an open message (R114); an absent one holds none. -/
  ctx : Tab CipCtx
  /-- Jobs of the rings, by number (R149). -/
  jobs : Tab RingJob
  nextJob : Nat
  lastRing : Option Nat
  /-- Ring jobs that have ended (R106). -/
  ended : List JobDone
  deriving DecidableEq, Repr

/-- A DGS stream context with an open message (R114). -/
structure DgsCtx where
  opcode : Nat
  /-- The digest key copied at START of an HMAC message (R146). -/
  key : List Byte
  msg : List Byte
  deriving DecidableEq, Repr

/-- DGS: the digest engine (chapter 04). -/
structure Dgs where
  ctx : Tab DgsCtx
  jobs : Tab RingJob
  nextJob : Nat
  lastRing : Option Nat
  /-- Ring jobs that have ended (R106). -/
  ended : List JobDone
  deriving DecidableEq, Repr

/-! FTL: flash translation (chapter 05). -/

/-- A map entry (R161): TYPE, CHUNK, GIDX and BIRTH_ME. -/
structure MapEntry where
  typ : Nat
  chunk : Nat
  gidx : Nat
  birth : Nat
  deriving DecidableEq, Repr

/-- A retained entry (R165): namespace, granule, the replaced entry and its DEATH_ME. -/
structure Retained where
  nsid : Nat
  granule : Nat
  entry : MapEntry
  death : Nat
  deriving DecidableEq, Repr

/-- A chunk-table entry (R156), with the fingerprint and digest key of its fingerprint tree record (R162). -/
structure ChunkEntry where
  loc0 : Nat
  loc1 : Nat
  /-- 1 moss, 2 bulk, 3 alias. -/
  state : Nat
  granules : Nat
  perm : Bool
  lost : Bool
  units : Nat
  refCount : Nat
  keyId : Nat
  fp : BitVec 256
  dkey : Nat
  deriving DecidableEq, Repr

/-- The map epoch of a namespace and its snapshots (R164). -/
structure NsEpoch where
  me : Nat
  snaps : List Nat
  deriving DecidableEq, Repr

/-- The items of a map journal record (R170). -/
inductive JItem where
  | map (nsid granule : Nat) (e : MapEntry)
  | chunkNew (chunk keyId units loc0 loc1 granules : Nat) (fp : BitVec 256) (dkey : Nat)
  | reloc (chunk keyId units loc0 state loc1 : Nat)
  | alias_ (chunk target count : Nat)
  | deref (chunk cause item count : Nat)
  | keyres (keyId res slot : Nat)
  | snap (nsid me op : Nat)
  | dealloc (nsid first count : Nat)
  | unit (kind id state : Nat)
  | retire (module die block cause : Nat)
  | pageWb (kind index loc nsid : Nat)
  | ckpt (upto root pages : Nat)
  /-- RSV (R308): NSID, OP, RTYPE, PTPL, PRGEN, HOSTID, KEY, PKEY. -/
  | rsv (nsid op rtype : Nat) (ptpl : Bool) (prgen : Nat) (host : BitVec 128) (key pkey : Word)
  deriving DecidableEq, Repr

/-- Where one copy of a record stands: to be programmed, programmed and not answered, verified. -/
inductive CopyState where
  | waiting | sent | ok
  deriving DecidableEq, Repr

/-- A map journal record formed and not yet covered by a checkpoint (R169, R172). -/
structure JRec where
  jseq : Nat
  doneSeq : Nat
  epoch : Nat
  items : List JItem
  /-- The write it belongs to (R172), if any. -/
  cmd : Option Nat
  copy0 : CopyState
  copy1 : CopyState
  /-- The journal blocks its copies were last sent to, by block key (R168). -/
  block0 : Option Nat
  block1 : Option Nat
  /-- Its items have been applied (R171). -/
  applied : Bool
  /-- The tick in which it qualified for a delta (R66). -/
  qualified : Option Nat
  /-- The tick whose delta carries it (R66), once it qualifies and fits. -/
  delta : Option Nat
  /-- That delta has been handed to RFL, or sealed where R66 lets that do. -/
  handed : Bool
  /-- It carries a change: a record of a checkpoint carries none. -/
  forPeer : Bool
  /-- Superseded under R68: its changes are not applied. -/
  superseded : Bool
  deriving DecidableEq, Repr

/-- A map journal record as it is read: JSEQ, DONE_SEQ, and its items. -/
structure ReadRec where
  jseq : Nat
  doneSeq : Nat
  items : List JItem
  deriving DecidableEq, Repr

/-- A live map journal block pair and the first JSEQ in it (R174). -/
structure JPair where
  copy0 : Nat
  copy1 : Nat
  first : Nat
  deriving DecidableEq, Repr

/-- The tables of FTL (R155 to R167). -/
structure FtlTables where
  chunks : Tab ChunkEntry
  /-- Live map entries, by namespace × 2^64 + granule; an absent granule is unmapped. -/
  map : Tab MapEntry
  retained : List Retained
  epochs : Tab NsEpoch
  deriving DecidableEq, Repr

/-- A moss, journal or anchor block in use (R180 to R189), by its block key. -/
structure MossBlock where
  /-- 0 moss, 1 map journal, 2 stripe journal, 3 anchor. -/
  use : Nat
  /-- 1 open, 2 closed, 3 erase intent, 5 refresh (UNIT.STATE). -/
  state : Nat
  /-- Bytes written. -/
  fill : Nat
  /-- Bytes of live chunk copies. -/
  live : Nat
  /-- The tick in which it was opened (R202). -/
  opened : Nat
  deriving DecidableEq, Repr

/-- A member of a stripe (R186, R223, R226): its module, its blocks by die slot, whether it is FAILED, and the
replacement chosen with the rows durable on it. -/
structure StripeMember where
  module : Nat
  dies : List (Nat × Nat)
  failed : Bool
  repl : Option (Nat × List (Nat × Nat) × Nat)
  deriving DecidableEq, Repr

/-- A row sent and not yet durable (R188): pages not answered. -/
structure RowSent where
  row : Nat
  left : Nat
  deriving DecidableEq, Repr

/-- A set named in a LOSS record (R231): row, die slot, missing members as a bit mask, and whether its sweep has
ended. -/
structure LostSet where
  row : Nat
  slot : Nat
  members : Nat
  swept : Bool
  deriving DecidableEq, Repr

/-- A bulk stripe (R185, R186). -/
structure Stripe where
  /-- As UNIT.STATE: 1 open, 2 closed, 3 erase intent, 5 refresh. -/
  state : Nat
  /-- CLASS: 0 fold, 1 relocation, 2 metadata. -/
  cls : Nat
  g : Nat
  members : List StripeMember
  /-- Rows per block, and the dense block size S. -/
  rows : Nat
  blockSize : Nat
  rowsDone : Nat
  rowsSent : Nat
  /-- SENT_LIMIT of the last INTENT formed, and of the last one in force (R218). -/
  intent : Nat
  sentLimit : Nat
  erases : Nat
  valid : Nat
  openTick : Nat
  /-- Bytes filled in each data column (R187). -/
  fill : List Nat
  /-- The bytes of each data column from the first row not sent. -/
  buf : List (List Byte)
  /-- Data-space offsets of the chunks that start in those rows. -/
  starts : List Nat
  sent : List RowSent
  lost : List LostSet
  /-- Pages the patrol found wrong (R234): row, slot, member. -/
  wrong : List (Nat × Nat × Nat)
  deriving DecidableEq, Repr

/-- Averages and warnings of a die (R200). -/
structure DieWear where
  ep : Nat
  er : Nat
  ploopWarned : Bool
  retryWarned : Bool
  deriving DecidableEq, Repr

/-- What is known of a block: its erases, counted in eighths for SLC use (R201), pages that needed recovery since the
last erase (R198), and retirement. -/
structure BlockWear where
  erases8 : Nat
  recovered : List Nat
  retired : Bool
  deriving DecidableEq, Repr

/-- A movement in flight (R160, R190): the place in the making, the record that carries its RELOC item, and
whether the new bytes have passed verify. -/
structure Movement where
  kind : MoveKind
  loc0 : Nat
  loc1 : Nat
  /-- STATE after the movement: 1 moss, 2 bulk. -/
  state : Nat
  keyId : Nat
  units : Nat
  verified : Bool
  jseq : Option Nat
  /-- The new place in the moss tier, when the movement makes one. -/
  newMoss : List Nat
  /-- Units of the old place, when they differ. -/
  oldUnits : Option Nat
  /-- Old places still to be made dead: after the delta that carries the RELOC item is handed (R189, R190). -/
  old : List Nat
  deriving DecidableEq, Repr

/-- A decrement owed to a replaced chunk (R71): the record and item that caused it, and the map page that owes it, by its key. -/
structure Owed where
  chunk : Nat
  page : Nat
  cause : Nat
  item : Nat
  deriving DecidableEq, Repr

/-- A unit being erased (R190 steps 5 to 7): kind and identifier of its UNIT items, the record that carries its
erase intent, the ERASE commands not answered once they are sent. -/
structure EraseJob where
  kind : Nat
  id : Nat
  jseq : Nat
  sent : Bool
  left : Nat
  deriving DecidableEq, Repr

/-- A chunk recovered from another source, to be rewritten (R195), until the rewriting has ended: its stored bytes, and the place
that failed. -/
structure Rewrite where
  chunk : Nat
  stored : List Byte
  place : Nat
  deriving DecidableEq, Repr

/-- A metadata page (R162, R163): APPLIED_SEQ; the first record that has changed it since it was last written back; the place, the
body and the JSEQ of the PAGE_WB record of its last write-back; and the copies before it, with the JSEQ of the PAGE_WB record that
replaced each. -/
structure MetaPage where
  applied : Nat
  since : Option Nat
  loc : Option Nat
  written : List Byte
  wb : Nat
  earlier : List (Nat × Nat)
  deriving DecidableEq, Repr

/-- A metadata page on its way to flash: its identifier, place, APPLIED_SEQ and body. -/
structure PageOut where
  id : Nat
  place : Nat
  applied : Nat
  body : List Byte
  deriving DecidableEq, Repr

/-- The write-back of a checkpoint (R173): its pages, and where its directory begins, in pages. -/
structure WriteBack where
  pages : List PageOut
  root : Nat
  dirPages : Nat
  deriving DecidableEq, Repr

/-- A sweep of retained pages: of a snapshot deletion (R167) or a namespace deletion. -/
structure SnapSweep where
  nsid : Nat
  me : Nat
  wholeNs : Bool
  deriving DecidableEq, Repr

/-- A unit a patrol pass has still to read (R202): a bulk stripe (kind 0) or a block (kind 1), with the rows or pages
left. -/
structure PatrolUnit where
  kind : Nat
  id : Nat
  next : Nat
  stop : Nat
  deriving DecidableEq, Repr

/-- The patrol (R202, R203). -/
structure Patrol where
  /-- Tick at which the pass began; none before the first. -/
  since : Option Nat
  /-- What the pass has still to read, in order. -/
  units : List PatrolUnit
  /-- Raw bytes of the pass, and raw bytes read. -/
  total : Nat
  done : Nat
  late : Bool
  deriving DecidableEq, Repr

/-- FTL. -/
structure Ftl where
  /-- The side it keeps (R374). -/
  side : Nat
  tables : FtlTables
  /-- Records not covered by a checkpoint, in JSEQ order. -/
  journal : List JRec
  /-- JSEQ of the last record formed (FTL.JSEQ). -/
  jseq : Nat
  /-- Index of the next chunk number (R155). -/
  nextChunk : Nat
  /-- Journal bytes since the last checkpoint, and the UPTO of a checkpoint in progress (R173). -/
  sinceCkpt : Nat
  ckpt : Option Nat
  /-- UPTO and ROOT of the last checkpoint that is durable (R173). -/
  lastCkpt : Nat × Nat
  /-- The metadata pages that are cached or written back, by identifier (R162, R163). -/
  pages : Tab MetaPage
  /-- The pages and directory of the checkpoint in progress, once they are placed, and the directory of the last one: its place
  and pages (R173). -/
  writeBack : Option WriteBack
  dir : Option (Nat × Nat)
  /-- The highest RES that a durable KEYRES item gives a KEY_ID on a head, by KEY_ID × 2 + head slot (R126). -/
  keyres : Tab Nat
  /-- The open map journal block pair: block keys of copies 0 and 1 (R168). -/
  pair : Option (Nat × Nat)
  /-- The live journal block pairs, oldest first (R174). -/
  livePairs : List JPair
  /-- An anchor page is due (R174). -/
  anchorDue : Bool
  /-- Anchor pages written (R174). -/
  anchorSeq : Nat
  blocks : Tab MossBlock
  stripes : Tab Stripe
  nextStripe : Nat
  moves : Tab Movement
  owed : List Owed
  wear : Tab BlockWear
  dies : Tab DieWear
  /-- Namespace windows (map pages) held in the cache: namespace × 2^64 + page (R161, R163). -/
  mapCached : List Nat
  /-- Fetches of map pages outstanding, with the commands waiting (R74). -/
  mapFetch : Tab (List Nat)
  /-- Snapshot command waiting for its boundary: OP (R164). -/
  snapCmd : Option Nat
  /-- Moss bytes freed in the ended tick (R184). -/
  freedLast : Nat
  freedNow : Nat
  sweeps : List SnapSweep
  erasing : List EraseJob
  /-- A key query waits for its boundary (R204). -/
  keyQuery : Bool
  patrol : Patrol
  /-- The page most recently verified on each die, by port × 128 + die: block and page (R271). -/
  lastPage : Tab (Nat × Nat)
  /-- Moss chunks in the order they were placed (R187). -/
  mossOrder : List Nat
  /-- Chunks recovered under R75 and not yet rewritten (R195). -/
  rewrites : List Rewrite
  /-- UNIT.STATE 3 units to be erased again in Recovery (R175 step 6). -/
  eraseAgain : List (Nat × Nat)
  deriving DecidableEq, Repr

/-! RDN: redundancy across modules (chapter 06). -/

/-- A stripe-journal record's type and arguments (R217). -/
inductive SjBody where
  | open_ (rows : Nat)
  | intent (limit : Nat)
  | done (rows : Nat)
  | close (rows state : Nat)
  | member (m op module : Nat)
  | rebuild (a b rowsA rowsB : Nat)
  | reshape (op kind module newD cursor end_ moved : Nat)
  | loss (row slot members : Nat)
  deriving DecidableEq, Repr

/-- A stripe-journal record formed and not yet durable, or whose delta has not been handed (R215, R219). -/
structure SjRec where
  sseq : Nat
  stripe : Nat
  body : SjBody
  epoch : Nat
  copy0 : CopyState
  copy1 : CopyState
  delta : Option Nat
  handed : Bool
  deriving DecidableEq, Repr

/-- An in-place rebuild of a stripe (R226, R229): members, rows durable on each replacement, and the rows done at the
last REBUILD record. -/
structure Rebuild where
  a : Nat
  b : Option Nat
  rowsA : Nat
  rowsB : Nat
  recorded : Nat
  /-- SSEQ of the MEMBER record with OP 3 of each member whose rows are complete (R226 step 4). -/
  commitA : Option Nat
  commitB : Option Nat
  /-- The row being programmed, and pages of it not answered; 0 when none is. -/
  row : Nat
  left : Nat
  deriving DecidableEq, Repr

/-- An active reshape (R236, R237). -/
structure Reshape where
  kind : Nat
  module : Nat
  newD : Nat
  cursor : Nat
  end_ : Nat
  moved : Nat
  /-- Stripes passed, and the tick, since the last RESHAPE record. -/
  since : Nat
  sinceTick : Nat
  abandon : Bool
  deriving DecidableEq, Repr

/-- An entry for the loss ring (R233). -/
structure LossEntry where
  nsid : Nat
  /-- First granule of the run, and granules. -/
  first : Nat
  count : Nat
  birth : Nat
  death : Nat
  stripe : Nat
  deriving DecidableEq, Repr

/-- What the pages of a set are read for: a piece of a host read (R210), a rebuild (R226), the patrol of a stripe's row (R202,
R234, R235), or the patrol of a page of a block (R202). -/
inductive SetFor where
  | host (job piece : Nat)
  | rebuild
  | patrol
  | block
  deriving DecidableEq, Repr

/-- The pages of a set as they are read: the stripe, or the key of a block; row and die slot; and the pages asked for, by
member. -/
structure SetRead where
  unit : Nat
  row : Nat
  slot : Nat
  use : SetFor
  pages : Tab ReadPiece
  deriving DecidableEq, Repr

/-- A stripe-journal pair left behind: its block keys, and the stripes closed in it whose stripe-table page no checkpoint covers
yet (R220). -/
structure SjOld where
  copy0 : Nat
  copy1 : Nat
  closed : List Nat
  deriving DecidableEq, Repr

/-- RDN. -/
structure Rdn where
  /-- SSEQ of the last record formed. -/
  sseq : Nat
  journal : List SjRec
  /-- Block keys of the stripe-journal pair (R215). -/
  pair : Option (Nat × Nat)
  /-- The surviving block of the pair left, while the restatement is not durable (R220). -/
  survivor : Option Nat
  /-- Stripes whose CLOSE record stands in the pair in use, and the pairs left behind (R220). -/
  closed : List Nat
  oldPairs : List SjOld
  /-- SSEQ of the last record of a restatement that is not yet durable (R220). -/
  restating : Option Nat
  /-- Rebuilds in place that have begun, by stripe (R226). -/
  rebuilds : Tab Rebuild
  reshape : Option Reshape
  /-- Modules whose evacuation is queued (R236, R240). -/
  evacQueue : List Nat
  /-- Reshape command waiting for its boundary: OP. -/
  command : Option Nat
  /-- Entries found and not yet in the loss ring (R233). -/
  lossHeld : List LossEntry
  /-- Some stripe was degraded, critical or broken (REBUILD_DONE is set when none is left). -/
  impaired : Bool
  /-- Sets being read, by number, and the sets read so far. -/
  sets : Tab SetRead
  nextSet : Nat
  deriving DecidableEq, Repr

/-! FRN: the Frond link (chapter 07). -/

/-- The link states of R244, in the order of FRN.PORT_STATUS.STATE. -/
inductive LinkState where
  | off | detect | train | align | ident | up | retrain | down | fault
  deriving DecidableEq, Repr

/-- What a command to a module is for. -/
inductive Purpose where
  | identify
  | health
  | fence
  | status
  | suspend
  | resume
  /-- One copy of the chunks of a page-image pair (R182). -/
  | chunkCopy (jobs : List Nat) (copy : Nat)
  /-- One copy of journal records (R168). -/
  | journal (jseqs : List Nat) (copy : Nat)
  | sjournal (sseqs : List Nat) (copy : Nat)
  | anchor
  /-- A page of a row: stripe, row, member, die slot (R187); the die-parity page in slot G − 1. -/
  | row (stripe row member slot : Nat)
  /-- A page of a replacement member (R226). -/
  | rebuild (stripe row member slot : Nat)
  /-- A piece of a stored chunk: read number and piece (R73). -/
  | read (job piece : Nat)
  /-- A page that RDN or the patrol reads: number of the set read, and member (R202, R210, R226). -/
  | setPage (set member : Nat)
  /-- An erase of a block of a unit: kind and identifier (R190). -/
  | erase (kind id : Nat)
  /-- A probe of a reconciliation (R271). -/
  | probe
  deriving DecidableEq, Repr

/-- A command to a module (R252, R253). -/
structure FrnCmd where
  op : Nat
  die : Nat
  block : Nat
  page : Nat
  count : Nat
  mode : Nat
  retry : Nat
  col : Nat
  xlen : Nat
  /-- DIE_MASK of a FENCE. -/
  mask : Nat
  dlen : Nat
  /-- SRC of PPROG and RECON: die and block of each source (R252). -/
  src : List (Nat × Nat)
  purpose : Purpose
  /-- Host-path work (R26, R260). -/
  host : Bool
  /-- Epoch it was sent under. -/
  epoch : Nat
  /-- Tick it was sent. -/
  sent : Nat
  /-- LSEQ of its CMD frame. -/
  lseq : Nat
  /-- STATUS has been sent for it after its time limit (R267). -/
  probed : Bool
  /-- WDATA of a write-class command; data that has arrived for any other. -/
  data : List Byte
  deriving DecidableEq, Repr

/-- The descriptor of a module that passed R257 (R256). -/
structure FrnDesc where
  dies : Nat
  dieMap : Nat
  pageData : Nat
  pageMeta : Nat
  bits : Nat
  pages : Nat
  blocks : Nat
  spare : Nat
  cycles : Nat
  loops : Nat
  retryLevels : Nat
  corrLimit : Nat
  wlPages : Nat
  maxSusp : Nat
  qdepth : Nat
  tProgSlc : Nat
  tProg : Nat
  tErase : Nat
  maxOp : Nat
  fenceTime : Nat
  serial : Nat
  deriving DecidableEq, Repr

/-- A response payload (R254), with REPLAYED of its frame. -/
structure Rsp where
  op : Nat
  status : Nat
  loops : Nat
  maxCorr : Nat
  pagesOk : Nat
  mdValid : Bool
  dcrc : Nat
  dlen : Nat
  dieEpoch : Nat
  state : Nat
  replayed : Bool
  deriving DecidableEq, Repr

/-- A response, or the end of a command without one (R246), to be applied at the next boundary (R24 step 3). -/
structure FrnResult where
  port : Nat
  cmd : FrnCmd
  /-- None: the command ended without a response. -/
  rsp : Option Rsp
  deriving DecidableEq, Repr

/-- A Frond port (R244 to R271). -/
structure FrnPort where
  state : LinkState
  /-- Tick of entry to the state. -/
  since : Nat
  /-- Ticks of entry to RETRAIN (R244). -/
  retrainAt : List Nat
  desc : Option FrnDesc
  /-- LSEQ of the next frame sent, of the next frame expected, and the last LACK received (R249, R250). -/
  txNext : Nat
  rxNext : Nat
  lack : Nat
  /-- Frames sent and not acknowledged: LSEQ and bytes (R250). -/
  store : List (Nat × Nat)
  /-- Times the oldest unacknowledged frames have been replayed (R267). -/
  replays : Nat
  /-- Tick at which LACK last advanced, and at which a frame last arrived. -/
  ackAt : Nat
  heardAt : Nat
  /-- One NAK has been sent for the expected LSEQ (R249). -/
  nakSent : Bool
  /-- Credits (R251), and commands and pages sent on the link. -/
  cmdLimit : Nat
  pageLimit : Nat
  cmdsSent : Nat
  pagesSent : Nat
  nextTag : Nat
  /-- Commands sent and not answered, by tag. -/
  cmds : Tab FrnCmd
  /-- Commands waiting to be sent, in order. -/
  held : List FrnCmd
  /-- Pages of PROGRAM and PPROG commands sent whose WDATA frames wait for the line (R243): tag, host path, data. -/
  pages : List (Nat × Bool × List Byte)
  /-- The classes of CUT_COUNT cut on the port in the tick (R25): 4 program, 5 read. -/
  cut : List Nat
  /-- Frame bytes sent in the tick, with the debit of the tick before (R242, R243). -/
  line : Nat
  /-- The epoch under which each die's FENCE completed OK (R265). -/
  fenced : Tab Nat
  /-- The epoch under which each die answered FENCED (R265). -/
  refused : Tab Nat
  /-- Dies suspended, with the suspensions of the operation in progress (R260). -/
  suspended : List Nat
  suspCount : Tab Nat
  bridgeFault : Bool
  /-- A module loss has happened since the port was last UP (DP_VIEW). -/
  lostView : Bool
  /-- Tick at which a reconciliation began (R271). -/
  recon : Option Nat
  /-- Tick of the last RDATA length mismatch (R266). -/
  mismatchAt : Option Nat
  /-- Commands of before a full retrain, waiting for the module's responses (R268). -/
  recovering : Tab FrnCmd
  deriving DecidableEq, Repr

/-- FRN: the ports that are not in their reset state, and the results to be applied at the next boundary. -/
structure Frn where
  ports : Tab FrnPort
  results : List FrnResult
  /-- PAGE_SEQ of the last page the head programmed (R177). -/
  pageSeq : Nat
  /-- A boundary has begun a tick since the reset: the ports have left OFF (R16, R244). -/
  begun : Bool
  /-- Module losses and die failures seen in the tick, for rank 6: port, and die if one (R246, R267). -/
  lossReported : List (Nat × Option Nat)
  deriving DecidableEq, Repr

end Sys2Proof.Machine
end

