-- ==== Sys2Proof/Machine/ServiceTypes.lean ====
section
/-!
DEFINITION. Machine/ServiceTypes.lean: the typed state of the service blocks CMF, VCT, QPC, HPT, RFL, WIT and PCR, and
what the head transmits.
-/

namespace Sys2Proof.Machine

/-! CMF: the command service (chapter 08). -/

/-- A registrant (R306): host identifier and key. -/
structure Registrant where
  host : BitVec 128
  key : Word
  deriving DecidableEq, Repr

/-- The reservation of a namespace (R306). -/
structure Rsv where
  /-- Persistent reservation generation. -/
  prgen : Nat
  /-- Reservation type, 0 for none, and its holder. -/
  rtype : Nat
  holder : Option (BitVec 128)
  regs : List Registrant
  /-- Persist through power loss. -/
  ptpl : Bool
  deriving DecidableEq, Repr

/-- An entry of the namespace table (R276). -/
structure Ns where
  nsze : Nat
  /-- B = 512 (LBAF 1); B = 4,096 otherwise. -/
  small : Bool
  vset : Nat
  keySlot : Nat
  /-- Source namespace and map epoch of a snapshot namespace; 0 for a namespace with its own map. -/
  src : Nat
  snapMe : Nat
  wp : Bool
  deriving DecidableEq, Repr

/-- A capsule placed and not yet admitted (R27, R287): its bytes, and the tick from which the moss limit has held it. -/
structure Capsule where
  bytes : List Byte
  heldSince : Option Nat
  deriving DecidableEq, Repr

/-- A queue of a virtual controller (R279 to R281): its connection and what Connect gave. -/
structure Queue where
  live : Bool
  conn : Nat
  qgen : Nat
  sqsize : Nat
  sqhd : Nat
  fcOff : Bool
  deriving DecidableEq, Repr

/-- The stages of an admitted command. -/
inductive CmdStage where
  /-- Admitted; its own row has not acted on it yet. -/
  | admitted
  /-- Its data is being fetched from the host (R285). -/
  | fetching
  /-- Its data is present; it waits to read the granules it needs (R274, R290). -/
  | held
  /-- Its granules are being read. -/
  | reading
  /-- Its chunks and records are on the write path (R65). -/
  | writing
  /-- Forwarded to the peer (R392). -/
  | forwarded
  /-- Its work has ended with its status; the completion is to be posted. -/
  | finished
  /-- Its completion has been posted (R65, R76) and is to be transmitted. -/
  | posted
  /-- Its response has been sent on Spray and is not yet acknowledged (R365). -/
  | transmitted
  deriving DecidableEq, Repr

/-- A granule that a command reads (R73): its number, and its content once delivered; a failure is 1 for unrecovered
(R75), 2 for a key unavailable (R131). -/
structure GranuleRead where
  granule : Nat
  content : Option (List Byte)
  failure : Nat
  keyId : Nat
  deriving DecidableEq, Repr

/-- An admitted command (R287, R288, R360). Commands are numbered in the order of their order keys. -/
structure Cmd where
  /-- Stamps of R360: virtual controller, VGEN, queue, QGEN. -/
  vc : Nat
  vgen : Nat
  qid : Nat
  qgen : Nat
  conn : Nat
  sqe : List Byte
  /-- In-capsule data. -/
  icd : List Byte
  /-- Its namespace as it stood at admission (R277, R278): none when there was none, or it was not attached (R354). -/
  ns : Option Ns
  /-- Order key (R288). -/
  tick : Nat
  pos : Nat
  host : BitVec 128
  /-- Forward tag of a command received from the peer (R393), and of one sent to it (R392). -/
  fromPeer : Option Nat
  toPeer : Option Nat
  stage : CmdStage
  /-- Status: SCT × 256 + SC (R297). -/
  status : Nat
  dw0 : Nat
  /-- Data fetched from the host, or to be returned to it. -/
  data : List Byte
  /-- First granule and number of granules it touches. -/
  first : Nat
  count : Nat
  /-- Every run of granules it touches, for its overlaps. -/
  ranges : List (Nat × Nat)
  reads : List GranuleRead
  /-- It has resolved every granule it reads (R290). -/
  resolved : Bool
  /-- Map changes other than those of its chunks, by granule group (R283), and whether its records are formed. -/
  items : List (List JItem)
  recorded : Bool
  /-- Map epoch of its namespace at admission (R164). -/
  me : Nat
  /-- Once its completion is transmitted, its queue ends (Disconnect) or its controller is reset (Property Set). -/
  ends : Bool
  deriving DecidableEq, Repr

/-- An activation hold (R304). -/
structure Hold where
  since : Nat
  quiesced : Bool
  release : Bool
  deriving DecidableEq, Repr

/-- What a head presents of a volume set (R310 to R312): the NVMe ANA code, the tick Change began, and whether ANATT has
passed since. -/
structure AnaSet where
  state : Nat
  since : Nat
  late : Bool
  deriving DecidableEq, Repr

/-- A command forwarded by the peer, with its write data (R392, R393): whether its run and its payload check. -/
structure Forwarded where
  tag : Nat
  vc : Nat
  qid : Nat
  dataLen : Nat
  host : BitVec 128
  sqe : List Byte
  data : List Byte
  good : Bool
  deriving DecidableEq, Repr

/-- CMF. -/
structure Cmf where
  ns : Tab Ns
  /-- Reservations by namespace (R306); an absent one is none. -/
  rsv : Tab Rsv
  /-- Queues, by virtual controller × 2,048 + queue identifier. -/
  queues : Tab Queue
  /-- Unadmitted capsules, by connection, in submission order. -/
  caps : Tab (List Capsule)
  cmds : Tab Cmd
  nextCmd : Nat
  /-- Commands admitted in the tick (R287, R288). -/
  taken : Nat
  nsCmd : Option Nat
  hold : Option Hold
  /-- START of an activation waits for its boundary (R304). -/
  actStart : Bool
  ana : Tab AnaSet
  /-- Change count of the ANA log (R311). -/
  anaCount : Nat
  /-- Asynchronous events to be posted in step 3 of the next boundary: virtual controller, Dword 0. -/
  notices : List (Nat × Nat)
  /-- Forwarded commands received and waiting for a boundary with room (R393). -/
  arrived : List Forwarded
  deriving DecidableEq, Repr

/-! VCT: virtual controllers (chapter 10). -/

/-- The states of R363, in the order of VCT.VC_STATE.STATE. -/
inductive VcState where
  | free | active | draining | quiescing | sealed | loaded
  deriving DecidableEq, Repr

/-- An Error Information entry (R295): command identifier, queue, status, and the first failing block. -/
structure ErrInfo where
  cid : Nat
  qid : Nat
  status : Nat
  nsid : Nat
  lba : Nat
  deriving DecidableEq, Repr

/-- A host association (R351, R353) and the controller properties and features it set. -/
structure Assoc where
  host : BitVec 128
  nqn : List Byte
  /-- CC, and shutdown complete (CSTS.SHST). -/
  cc : Nat
  ready : Bool
  shutDone : Bool
  /-- Keep Alive timeout in ms, and ticks counted from the last admin command admitted (R279). -/
  kato : Nat
  kaTicks : Nat
  /-- Outstanding Asynchronous Event Requests: commands (R282), and events not yet reported: Dword 0. -/
  aers : List Nat
  events : List Nat
  aec : Nat
  /-- Number of Queues as set, and the Reservation Notification Mask by namespace. -/
  nq : Nat
  rsvMask : Tab Nat
  errors : List ErrInfo
  errCount : Nat
  /-- Changed Namespace List (R357). -/
  changed : List Nat
  /-- Reservation Notification log: type and namespace, oldest first. -/
  rsvLog : List (Nat × Nat)
  rsvCount : Nat
  deriving DecidableEq, Repr

/-- A virtual controller that is not FREE, or has been (R351 to R363). -/
structure Vc where
  state : VcState
  vgen : Nat
  /-- The copy of the descriptor (R352), and of the attachment map (R354). -/
  desc : List Byte
  nsmap : List Byte
  /-- Credits C and Y (R359). -/
  c : Nat
  y : Int
  assoc : Option Assoc
  /-- A controller reset is in progress: commands of the old generation remain (R300). -/
  resetting : Bool
  deriving DecidableEq, Repr

/-- A move from this head (R364): controller, target index and queue base, tick of MOVE, and IP entries made invalid. -/
structure Move where
  vc : Nat
  target : Nat
  qbase : Nat
  since : Nat
  deriving DecidableEq, Repr

/-- A record loaded on the target (R368): the source's index, the record, and its queue base. -/
structure LoadedRec where
  vc : Nat
  src : Nat
  qbase : Nat
  record : List Byte
  deriving DecidableEq, Repr

/-- VCT. -/
structure Vct where
  vcs : Tab Vc
  command : Option Nat
  move : Option Move
  loaded : Option LoadedRec
  /-- The peer's virtual controllers as its deltas show them (R390): state and VGEN. -/
  peer : Tab (Nat × Nat)
  deriving DecidableEq, Repr

/-! QPC and HPT (chapter 09). -/

/-- What a message on a connection carries. -/
inductive TxFor where
  /-- A response capsule of a command (R294), or its read data (R76), or a fetch of its write data (R285). -/
  | response (cmd : Nat)
  | readData (cmd : Nat)
  | fetch (cmd : Nat)
  /-- The work request of a ring, by its free-running count (R345). -/
  | work (n : Nat)
  /-- The PUT that answers a GET (R343), or data that answers an RDMA Read. -/
  | reply
  /-- A MARK or a sealed delta on the fallback (R385). -/
  | mark
  | delta (tick : Nat)
  deriving DecidableEq, Repr

/-- A RoCEv2 message sent and not acknowledged (R329): its first PSN, its packets, what it is. -/
structure RoceMsg where
  psn : Nat
  packets : Nat
  what : TxFor
  /-- Operation as in `Out.roce`, and the RDMA header: address, key and length. -/
  op : Nat
  reth : List Byte
  bytes : List Byte
  /-- Bytes of an RDMA Read request asked for; what has arrived is in `bytes`. -/
  want : Nat
  read : Bool
  deriving DecidableEq, Repr

/-- A Spray packet sent and not acknowledged (R334, R340). -/
structure SprayTx where
  psn : Nat
  msn : Nat
  index : Nat
  path : Nat
  len : Nat
  sent : Nat
  timeouts : Nat
  /-- Packets sent after it on its path that have been acknowledged (R340). -/
  dups : Nat
  /-- Waits until a tick to be sent again: a BUSY hold-off (R339). -/
  holdTill : Option Nat
  deriving DecidableEq, Repr

/-- A Spray message being sent (R333, R334): header fields, and the packets not yet sent. -/
structure SprayMsg where
  msn : Nat
  what : TxFor
  typ : Nat
  rkey : Nat
  off : Nat
  trig : Nat
  imm : Option Nat
  bytes : List Byte
  /-- Index of the next packet to be sent for the first time. -/
  next : Nat
  deriving DecidableEq, Repr

/-- A Spray message in progress at the receiver (R337). -/
structure SprayRx where
  typ : Nat
  len : Nat
  rkey : Nat
  off : Nat
  trig : Nat
  imm : Option Nat
  /-- Packets placed. -/
  got : List Nat
  /-- Bytes held: of a capsule, a GET descriptor or staged data, by packet. -/
  parts : Tab (List Byte)
  deriving DecidableEq, Repr

/-- A path (R335). -/
structure Path where
  weight : Nat
  acked : Nat
  losses : Nat
  /-- Tick at which the path was disabled. -/
  off : Option Nat
  deriving DecidableEq, Repr

/-- A work request started and not completed (R346): its count, the descriptor. -/
structure Work where
  n : Nat
  desc : List Byte
  /-- The message it sent has been acknowledged, or its data delivered. -/
  done : Bool
  deriving DecidableEq, Repr

/-- A connection that is not free (R322 to R325). -/
structure Conn where
  /-- Bytes 0 to 127 of the context. -/
  ctx : List Byte
  /-- In ERROR (R317). -/
  failed : Bool
  /-- Held by a move of its virtual controller (R366, R368). -/
  frozen : Bool
  /-- Packets parked behind a fetch of the context, in arrival order, and their bytes (R325). -/
  parked : List Instr
  parkedBytes : Nat
  /-- Tick at which the outstanding fetch of the context began (R324). -/
  fetch : Option Nat
  /-- RoCEv2: expected and next PSN, MSN of messages received; a NAK for the gap has been sent (R329). -/
  epsn : Nat
  npsn : Nat
  gapNak : Bool
  /-- Bytes of the message being received, and the place of the next byte of an RDMA Write: region key and offset, with
  the bytes still to come. -/
  asm : List Byte
  place : Option (Nat × Nat × Nat)
  sent : List RoceMsg
  retries : Nat
  rnr : Nat
  /-- Tick at which the oldest unacknowledged packet was sent last. -/
  timer : Nat
  /-- Sending rate in Mb/s (R331); ticks of the last CNP sent, reduction and increase. -/
  rate : Nat
  cnpSent : Nat
  cnpCut : Nat
  cnpGap : Nat
  /-- Spray sender: next PSN and MSN, messages, packets, paths, window, MSN_DONE reported (R334, R341). -/
  txPsn : Nat
  txMsn : Nat
  msgs : List SprayMsg
  tx : List SprayTx
  paths : List Path
  cwnd : Nat
  peerDone : Nat
  /-- Spray receiver: latest FLOOR, PSNs received at or above CUM_PSN, messages in progress, messages complete and waiting
  or failed above MSN_DONE, MSN_DONE, CE count, path of an ACK that is due (R337, R338). -/
  floor : Nat
  cum : Nat
  above : List Nat
  rx : Tab SprayRx
  past : List Nat
  done : Nat
  ce : Nat
  ackPath : Option Nat
  /-- Responses sent on a KIND 3 queue since Connect (R315). -/
  responses : Nat
  /-- Work ring: descriptors posted, and next to start (R345); requests started. -/
  posted : Nat
  started : Nat
  works : List Work
  deriving DecidableEq, Repr

/-- QPC. -/
structure Qpc where
  conns : Tab Conn
  /-- Contexts cached, least recently used first (R324). -/
  cached : List Nat
  /-- Command waiting for its boundary: OP and CONN. -/
  command : Option (Nat × Nat)
  deriving DecidableEq, Repr

/-- A completion record to be written in step 3 (R348): ring, and the record without its PHASE. -/
structure HptRecord where
  ring : Nat
  tag : Nat
  status : Nat
  recv : Bool
  imm : Option Nat
  trig : Nat
  conn : Nat
  len : Nat
  rkey : Nat
  deriving DecidableEq, Repr

/-- HPT. -/
structure Hpt where
  /-- Messages completed in the tick (R350): connection, MSN. -/
  completed : List (Nat × Nat)
  /-- Work requests completed in the tick: connection, count, status. -/
  ended : List (Nat × Nat × Nat)
  /-- Trigger writes waiting (R350): OP, TAG, VALUE. -/
  trig : List (Nat × Nat × Nat)
  /-- Records that wait for room in their ring (R337). -/
  records : List HptRecord
  deriving DecidableEq, Repr

/-! RFL and WIT (chapter 11). -/

/-- A MARK as accepted (R382), with the tick of its arrival. -/
structure Mark where
  tick : Nat
  mode : Nat
  tickLen : Nat
  align : Nat
  head : Nat
  own : Nat
  tag : Nat
  epoch : Nat
  compat : Nat
  /-- Tick of its arrival, and the arrival minus that tick's boundary in 0.25 ns. -/
  arrived : Nat
  arrival : Int
  deriving DecidableEq, Repr

/-- A sealed tick delta (R386 to R391) that is not acknowledged: its sections and the tick it was sealed. -/
structure Delta where
  tick : Nat
  epoch : Nat
  ctrl : List Ctrl
  vcs : List VcEntry
  sj : List SjCopy
  keyres : List KeyRes
  ptr : List Ptr
  /-- Map journal records: side, JSEQ, bytes. -/
  mapd : List (Nat × Nat × List Byte)
  pacer : List PacerBin
  /-- The PACER section's first 48 bytes. -/
  pacerHead : List Byte
  len : Nat
  sealedAt : Nat
  /-- LSEQ of its last frame, once sent on the Reflect link (R380). -/
  lseq : Option Nat
  deriving DecidableEq, Repr

/-- The shadow of a side (R390, R391): records present by JSEQ, whether it is complete, and what BASE and PTR gave. -/
structure Shadow where
  complete : Bool
  /-- UPTO and ROOT of the checkpoint it starts from (R391), and the JSEQ up to which every record is present. -/
  base : Nat
  root : Nat
  upto : Nat
  records : Tab ReadRec
  bytes : Nat
  ptr : Option Ptr
  /-- The stripe-journal records held: SSEQ and bytes. -/
  sj : List (Nat × List Byte)
  deriving DecidableEq, Repr

/-- A Hand-Back (R409, R411, R414): the sides it passes, the phase, its start and source, whether it is a return, whether
it has a receiver, and the tick of the final delta. -/
structure HandBack where
  sides : Nat
  phase : Nat
  since : Nat
  software : Bool
  isReturn : Bool
  receiver : Bool
  limit : Bool
  /-- Abandoned by a peer loss (R411). -/
  abandoned : Bool
  finalTick : Option Nat
  deriving DecidableEq, Repr

/-- An adoption (R407): its sides, those still to be read, the boundary G, the step, records read. -/
structure Adopt where
  sides : Nat
  todo : Nat
  since : Nat
  step : Nat
  tail : Nat
  deriving DecidableEq, Repr

/-- RFL. -/
structure Rfl where
  link : LinkState
  linkSince : Nat
  retrainAt : List Nat
  /-- Sequenced frames: next LSEQ sent, last LACK received, replays since LACK advanced (R250, R380). -/
  txNext : Nat
  lack : Nat
  replays : Nat
  /-- Tick at which LACK last advanced, and at which a frame last arrived (R250, R267). -/
  ackAt : Nat
  heardAt : Nat
  /-- The fallback is in use (R385). -/
  fallback : Bool
  mark : Option Mark
  /-- Peer loss is declared and not cleared (R384); a MARK has been accepted since the last reset. -/
  lost : Bool
  present : Bool
  /-- Messages and entries for the next delta. -/
  ctrl : List Ctrl
  vcs : List VcEntry
  deltas : List Delta
  /-- TICK of the last delta acknowledged. -/
  acked : Nat
  /-- Next data slot of the KEYRES rotation (R388), and RES_OWN as last sent, by slot. -/
  keyTurn : Nat
  keySent : Tab Nat
  shadows : Tab Shadow
  /-- TICK of the last delta applied. -/
  lastApplied : Nat
  nextTag : Nat
  handBack : Option HandBack
  /-- Tick at which the last Hand-Back began (RFL.HANDBACK_STATUS.TICKS). -/
  handBackAt : Option Nat
  /-- Sides that the peer hands back to this head (R409, R596), and of them those it has released. -/
  incoming : Nat
  released : Nat
  adopt : Option Adopt
  /-- Open stripes of adopted sides still to be checked (R407 step 5), as side × 2^20 + stripe. -/
  unchecked : List Nat
  /-- Sides named by RELEASE messages recorded in Self-Test or Recovery (R596). -/
  claimLater : Nat
  /-- Join (R413, R414): J has applied the bulk state; RETURN_REQ is sent; S serves a joining peer. -/
  bulk : Bool
  returnSent : Bool
  servesJoin : Bool
  /-- Sides for which a CTRL BASE is owed, with the UPTO of the checkpoint once it has begun (R391, R414). -/
  baseDue : List (Nat × Option Nat)
  /-- Tick from which no head has held a side that the peer does not show (R400). -/
  unheld : Option Nat
  /-- Sides still to be restored in Recovery (R175). -/
  recover : Nat
  deriving DecidableEq, Repr

/-- An Umbra link (R398): valid slots in a row, ns since the last one began, valid. -/
structure UmbraLink where
  good : Nat
  idle : Nat
  valid : Bool
  deriving DecidableEq, Repr

/-- A witness slot that waits for step 4 (R401): EPOCH, OWN, STATE. -/
structure SlotIn where
  epoch : Nat
  own : Nat
  state : Nat
  deriving DecidableEq, Repr

/-- WIT. -/
structure Wit where
  links : List UmbraLink
  /-- Sides held, and the request sent: REQ and REQ_MASK (R400). -/
  own : Nat
  req : Nat
  mask : Nat
  granted : Nat
  maxSeen : Nat
  /-- Time in ns since a slot with GRANTED or PENDING was taken (R402). -/
  leaseRun : Nat
  /-- Sides held before a lease fence (R406). -/
  heldBefore : Nat
  /-- Consecutive STALE results of each module (R403). -/
  stale : Tab Nat
  /-- Grants to be acted on at rank 5 of the next boundary. -/
  grant : Option SlotIn
  deriving DecidableEq, Repr

/-! PCR: the pacer (chapter 12). -/

/-- A class of background work (R417, R418, R424). -/
structure PcrClass where
  /-- s, v and a of R424, and t of R422. -/
  share : Nat
  v : Int
  a : Int
  target : Nat
  /-- Floor in force (R423). -/
  floorNow : Nat
  /-- Backlogged at the last panel tick, and at some boundary since (R420). -/
  backlog : Bool
  queued : Bool
  /-- Bytes of the grant of this tick not yet used, and the excess to be debited from the next (R418). -/
  grant : Nat
  debit : Nat
  /-- Class bytes used since the last panel tick, times COST (R420). -/
  used : Nat
  deriving DecidableEq, Repr

/-- PCR: the pacer. -/
structure Pcr where
  classes : List PcrClass
  /-- U, u_ff and i (R421). -/
  u : Nat
  uff : Nat
  integ : Int
  /-- Accumulators of R420: latencies and number of small reads, host bytes on the Frond ports. -/
  latSum : Nat
  latCount : Nat
  hostBytes : Nat
  /-- The values of the last panel tick (R420). -/
  y : Nat
  n : Nat
  h : Nat
  b : Nat
  /-- Runs of implausible and plausible panel ticks (R429). -/
  badRun : Nat
  goodRun : Nat
  fallback : Bool
  /-- Cause of the last fallback: 0 none, 1 model, 2 FORCE. -/
  cause : Nat
  /-- Panel ticks of the current bin, those in closed loop, the sum of U over them, and whether the head held exactly one
  side throughout (R427). -/
  binPanel : Nat
  binClosed : Nat
  binSum : Nat
  binOneSide : Bool
  /-- The memory by bin, VALID and M, and the peer copy (R427, R431). -/
  own : Tab (Bool × Nat)
  peer : Tab (Bool × Nat)
  /-- Writes of TOD and RC_DATA waiting for the next boundary (R426): TOD; peer copy, bin, VALID, M. -/
  todPending : Option Word
  rcPending : Option (Bool × Nat × Bool × Nat)
  /-- First bin of the next delta (R431). -/
  nextCarry : Nat
  deriving DecidableEq, Repr

/-- What the head transmits. -/
inductive Out where
  /-- A CMD frame to a module (R252): port, tag, opcode, die, block, page, count, retry level and epoch. -/
  | frondCmd (port tag op die block page count retry epoch : Nat)
  /-- A WDATA frame (R248): port, tag and data bytes. -/
  | frondData (port tag : Nat) (data : List Byte)
  /-- An ACK frame: LACK, and the cause of a NAK, 0 for none (R249, R250). -/
  | frondAck (port lack cause : Nat)
  /-- A replay of the unacknowledged frames of a port: how many (R250). -/
  | frondReplay (port frames : Nat)
  /-- The training pattern, or the equalisation exchange (R244). -/
  | frondTraining (port : Nat)
  /-- A RoCEv2 message or packet on a connection (R328): 1 Send, 2 RDMA Write, 3 RDMA Write with Immediate, 4 RDMA Read
  request, 5 RDMA Read response, 6 ACK, 7 NAK with its cause in one byte, 8 CNP, 9 RNR NAK with its timer in units of 10 us;
  PSN, packets, and the RDMA header and data. -/
  | roce (conn op psn packets : Nat) (bytes : List Byte)
  /-- A Spray packet on a connection (R332): TYPE, path, and its UDP payload. -/
  | spray (conn typ path : Nat) (packet : List Byte)
  /-- A frame of the raw transmit ring (R321). -/
  | rawFrame (port : Nat) (frame : List Byte)
  /-- A MARK on the Reflect link (R382), and an acknowledgement of sequenced frames (R380). -/
  | mark (payload : List Byte)
  | reflectAck (lack : Nat) (nak : Bool)
  /-- A sealed delta (R386), resent or not. -/
  | delta (tick : Nat) (bytes : List Byte)
  /-- A FWD_CMD with its data (R392) and a FWD_RSP with its data (R393). -/
  | forward (tag : Nat) (payload data : List Byte)
  | forwardRsp (tag : Nat) (payload data : List Byte)
  /-- The bulk state of Join (R414), and a saved-state record (R366). -/
  | joinBulk (keyres : List KeyRes) (sj : List SjCopy) (ptr : List Ptr) (vcs : List VcEntry) (pacer : List PacerBin)
  | vcRecord (record : List Byte)
  /-- A head slot on both Umbra links (R397), from character 1. -/
  | headSlot (midway : Bool) (slot : List Byte)
  /-- An interrupt message (R556) or an MCTP message (R561). -/
  | interrupt (core file id : Nat)
  | mctp (m : MctpOut)
  /-- The completion of a PCIe device's read: its data, or none for Unsupported Request (R558). -/
  | pcieCompletion (data : Option (List Byte))
  /-- The bay chain shifted (R528): the 32-bit output words, nearest part first. -/
  | chain (words : List Nat)
  deriving DecidableEq, Repr

end Sys2Proof.Machine
end

