-- ==== Sys2Proof/Machine/State.lean ====
section
/-!
DEFINITION. Machine/State.lean: the state of the block, its reset, and the ways a step can stop.
-/

namespace Sys2Proof.Machine

/-- The reasons a command can fault. A closed list: the block itself faults on nothing, because every error of
R566, R105, R297 and the like is a result it records. -/
inductive Fault where
  /-- Raised by no command; kept so that the list is not empty. Safe. -/
  | none
  deriving DecidableEq, Repr

/-- The reasons a command can be refused. -/
inductive Refusal where
  /-- No meaning yet for the command of that mnemonic; raised by an arm of Machine/Dispatch.lean alone. Safe: the
  run stops. -/
  | notModelled (mnemonic : String)
  deriving DecidableEq, Repr

/-- TCK at a cold reset (R23). The HSLOT strap is sampled only at the release of PORST_N; before it the
model reads 0 (DESIGN CHOICE, assumption 4). -/
def Tck.cold : Tck := {
  ticking := false, headSlot := 0, tick := 0, align := .free, refValid0 := false, refValid1 := false,
  refLink := 0, goodRun := 0, phaseErr := 0, trim := 0, peerOffset := 0, holdSince := 0, working := true, stepped := false, step := 0, latches := [],
  lastFirst := none, firstValid := false }

/-- Unprogrammed fuses (DESIGN CHOICE, assumption 4): a device before wafer test. -/
def Fuses.blank : Fuses := {
  serial := 0, lc := 0, deviceSecret := none, secretKill := 0, imgDigest := [], imgRevoke := 0,
  tokenDigest := none, rollback := [] }

/-- LCS at a cold reset. The nonce is drawn from the free values (R475, R572, assumption 5). -/
def Lcs.cold : Lcs := {
  mode := .reset, resumeMode := .reset, life := .blank, fuses := Fuses.blank, resetCause := .cold,
  bootSlot := 0, bootFail := false, stPhase := 0, stFail := false, stEntry := 0, listenSince := 0,
  nonce := (Config.freeWord 0, Config.freeWord 1), oemToken := none, geoToken := none, awk := none, awkStored := none,
  keyActive := 0, pending := none, lifeResetDue := false, drainStart := 0, drainEnded := false,
  supplyGood := 0, thermTripped := false }

/-- SIM at a cold reset; the slots of record flash are empty. -/
def Sim.cold : Sim := {
  pending := none, slot := 0, shadow := none, wrote := none, requested := false, deferred := 0, committing := false }

/-- APC at any reset (R542, R547, R556). -/
def Apc.cold : Apc := {
  mtime := 0, lastMessage := [], files := [], timerCores := [], started := [], bootArgs := (0, 0),
  intx := 0, dynamicAddr := none }

/-- MEM at any reset. -/
def MemCtl.cold : MemCtl := { filling := false, scrubSince := 0 }

/-- A filter after a reset (R533). -/
def Filt.cold : Filt := {
  raw := false, seen := false, count := 0, filtered := false, held := false, changes := [],
  chatter := false, lastChange := 0, activeSince := 0, stuck := false, reported := false, due := false,
  longDone := false }

/-- BAY at any reset (R529, R533, R539, R541); the chain length is the reset value of BAY.CONFIG.PARTS. -/
def Bay.cold : Bay := {
  inputs := [], presence := [], latchWarn := [], badRun := 0, primed := false, parts := 12,
  leverRaw := false, leverRun := 0, leverWaits := false, sample := none, active := [], shown := [], leds := [], ledStat := false, ledSvc := false,
  ledRmv := false, tempWarned := false }

/-- RCF at a cold reset; record flash itself is as it was made: erased (assumption 7). -/
def Rcf.cold : Rcf := {
  flash := [], info := [], seq := .idle, queue := [], current := none, step := 0, eraseFail := false,
  held := none, suspSince := 0, suspCount := 0, neverResume := false, nextEntry := 0, pass := 0,
  openIntent := none, repair := false, claims := [], claimsDue := [], retiring := [], lastMove := none }

/-- EVR at a cold reset with no record ever written (R501, R502). -/
def Evr.cold : Evr := {
  nextSeq := 1, queue := [], dropped := none, flushing := false, ring := [], pos := 0, entered := false,
  head := 0, tail := 0, opTime := 0, opTicks := 0, unitUsed := false, timeDue := false, powerCycles := 0,
  full := false, swPending := false, clearPending := false, clearing := [], atBoundary := [] }

/-- FLT at any reset (R522, R591). -/
def Flt.cold : Flt := {
  queues := [[], [], [], [], []], reports := [], acks := [], corrected := [], marked := [],
  wdogStage := 0, wdogRun := 0, handBackDue := false, fatalHandBack := false, selfFenced := false,
  actingSeq := 0, withdrawn := [], warnArmed := true, critArmed := true }


/-- RDX at any reset: every region cold (R62); HBM and DDR are not preserved (R463). -/
def Rdx.cold : Rdx := {
  warm := 0, loading := false, hot := [], mergeQueue := [], chunks := [], nextChunk := 0,
  reads := [], nextRead := 0, writeSeq := 0, merges := [], lowered := [] }

/-- CMP at any reset: lanes 0 to 39 are compressors (CMP.LANE_ROLE_LO), every slot is empty (R79). -/
def Cmp.cold : Cmp := {
  compressors := List.range 40, jobs := [], nextJob := 0, lastRing := none, turned := [], ended := [],
  streams := [], nextStream := 0 }

/-- The lanes at any reset: every context slot is empty, and no lane has spent a cycle (R79, R112). -/
def LaneBanks.cold : LaneBanks := { cmp := ⟨[], []⟩, cip := ⟨[], []⟩, dgs := ⟨[], []⟩, rdn := ⟨[], []⟩ }

/-- CIP at any reset: every slot and context emptied (R119, R463). -/
def Cip.cold : Cip := {
  data := [], transport := [], digest := [], pending := none, ctx := [], jobs := [], nextJob := 0,
  lastRing := none, ended := [] }

/-- DGS at any reset. -/
def Dgs.cold : Dgs := { ctx := [], jobs := [], nextJob := 0, lastRing := none, ended := [] }

/-- FTL at any reset: its tables are restored in Recovery (R175). -/
def Ftl.cold : Ftl := {
  side := 0, tables := { chunks := [], map := [], retained := [], epochs := [] }, journal := [], jseq := 0,
  nextChunk := 0, sinceCkpt := 0, ckpt := none, lastCkpt := (0, 0), pages := [], writeBack := none, dir := none, keyres := [], pair := none, livePairs := [], anchorDue := false, anchorSeq := 0, blocks := [], stripes := [],
  nextStripe := 0, moves := [], owed := [], wear := [], dies := [], mapCached := [], mapFetch := [],
  snapCmd := none, freedLast := 0, freedNow := 0, sweeps := [], erasing := [], keyQuery := false,
  patrol := { since := none, units := [], total := 0, done := 0, late := false }, lastPage := [],
  mossOrder := [], rewrites := [],
  eraseAgain := [] }

/-- RDN at any reset. -/
def Rdn.cold : Rdn := {
  sseq := 0, journal := [], pair := none, survivor := none, closed := [], oldPairs := [], restating := none, rebuilds := [], reshape := none,
  evacQueue := [], command := none, lossHeld := [], impaired := false, sets := [], nextSet := 0 }

/-- FRN at any reset: a port without an entry is OFF, or DETECT when it is enabled (R244). -/
def Frn.cold : Frn := { ports := [], results := [], pageSeq := 0, begun := false, lossReported := [] }

/-- PCR at a cold reset: off, its memory empty (R427). -/
def Pcr.cold : Pcr := {
  classes := List.replicate 8 { share := 0, v := 0, a := 0, target := 0, floorNow := 0, backlog := false, queued := false,
                                grant := 0, debit := 0, used := 0 },
  u := 0, uff := 0, integ := 0, latSum := 0, latCount := 0, hostBytes := 0, y := 0, n := 0, h := 0, b := 0,
  badRun := 0, goodRun := 0, fallback := false, cause := 0, binPanel := 0, binClosed := 0, binSum := 0,
  binOneSide := true, own := [], peer := [], todPending := none, rcPending := none, nextCarry := 0 }


/-- CMF at any reset. -/
def Cmf.cold : Cmf := {
  ns := [], rsv := [], queues := [], caps := [], cmds := [], nextCmd := 0, taken := 0, nsCmd := none, hold := none, actStart := false,
  ana := [], anaCount := 0, notices := [], arrived := [] }

/-- VCT at any reset: every virtual controller FREE (R363). -/
def Vct.cold : Vct := { vcs := [], command := none, move := none, loaded := none, peer := [] }

/-- QPC at any reset: every connection free. -/
def Qpc.cold : Qpc := { conns := [], cached := [], command := none }

/-- HPT at any reset. -/
def Hpt.cold : Hpt := { completed := [], ended := [], trig := [], records := [] }

/-- RFL at any reset. -/
def Rfl.cold : Rfl := {
  link := .off, linkSince := 0, retrainAt := [], txNext := 0, lack := 65535, replays := 0, ackAt := 0, heardAt := 0, fallback := false, mark := none, lost := false,
  present := false, ctrl := [], vcs := [], deltas := [], acked := 0, keyTurn := 0, keySent := [], shadows := [],
  lastApplied := 0, nextTag := 0, handBack := none, handBackAt := none, incoming := 0, released := 0, adopt := none, unchecked := [], claimLater := 0, bulk := false,
  returnSent := false, servesJoin := false, baseDue := [], unheld := none, recover := 0 }

/-- WIT at any reset: no side held, no link valid. -/
def Wit.cold : Wit := {
  links := [⟨0, 0, false⟩, ⟨0, 0, false⟩], own := 0, req := 0, mask := 0, granted := 0, maxSeen := 0, leaseRun := 0,
  heldBefore := 0, stale := [], grant := none }

/-- The state of the block: the typed state of every block, the register file, memory, and the queue of
commands waiting. -/
structure State where
  /-- The commands waiting, first in, first out. -/
  pending : List Instr
  /-- Tick generator and event sampler. -/
  tck : Tck
  /-- Life cycle, modes and resets. -/
  lcs : Lcs
  /-- Structure image manager. -/
  sim : Sim
  /-- Application core complex. -/
  apc : Apc
  /-- HBM and DDR controllers. -/
  memc : MemCtl
  /-- Bay chain and head panel. -/
  bay : Bay
  /-- Record flash controller. -/
  rcf : Rcf
  /-- Event recorder. -/
  evr : Evr
  /-- Fault handler. -/
  flt : Flt
  /-- Reduction control. -/
  rdx : Rdx
  /-- Compression engine. -/
  cmp : Cmp
  /-- Cipher engine and key slots. -/
  cip : Cip
  /-- Digest engine. -/
  dgs : Dgs
  /-- The lanes of CMP, CIP, DGS and RDN. -/
  lanes : LaneBanks
  /-- Flash translation. -/
  ftl : Ftl
  /-- Redundancy across modules. -/
  rdn : Rdn
  /-- Frond link. -/
  frn : Frn
  /-- Pacer. -/
  pcr : Pcr
  /-- Command service. -/
  cmf : Cmf
  /-- Virtual controllers. -/
  vct : Vct
  /-- Connection contexts. -/
  qpc : Qpc
  /-- Host ports and transports. -/
  hpt : Hpt
  /-- Reflect link. -/
  rfl : Rfl
  /-- Umbra links and witness. -/
  wit : Wit
  /-- FTL and RDN of the other side, while the head holds it too (R376). -/
  other : Option (Ftl × Rdn)
  /-- The register file (R563): the value of a register by its address, listed when it is not the reset value. -/
  regs : Tab Word
  /-- HBM, DDR and boot SRAM (R544): bytes by physical address; an unlisted byte reads 0 (assumption 2). -/
  mem : List Host.Cell
  /-- Shadow of the wide value read last: the remaining words (R13), by register address. -/
  shadow : Tab Word
  /-- What the last register read returned (R13, R14). -/
  busData : Word
  /-- What the head has transmitted since the last boundary, in order: the model's own field, so that a rule
  that says a frame or a completion is sent can be said. -/
  out : List Out
  /-- How many free values have been drawn: the model's own field (Config). -/
  fresh : Nat
  deriving DecidableEq, Repr

/-- The block right after PORST_N has been asserted (R29, R463). -/
def State.reset : State := {
  pending := []
  tck := Tck.cold
  lcs := Lcs.cold
  sim := Sim.cold
  apc := Apc.cold
  memc := MemCtl.cold
  bay := Bay.cold
  rcf := Rcf.cold
  evr := Evr.cold
  flt := Flt.cold
  rdx := Rdx.cold
  cmp := Cmp.cold
  cip := Cip.cold
  dgs := Dgs.cold
  lanes := LaneBanks.cold
  ftl := Ftl.cold
  rdn := Rdn.cold
  frn := Frn.cold
  pcr := Pcr.cold
  cmf := Cmf.cold
  vct := Vct.cold
  qpc := Qpc.cold
  hpt := Hpt.cold
  rfl := Rfl.cold
  wit := Wit.cold
  other := none
  regs := []
  mem := []
  shadow := []
  busData := 0
  out := []
  fresh := 2 }

end Sys2Proof.Machine
end

