-- ==== Sys2Proof/Machine/Ops.lean ====
section
/-!
DEFINITION. Machine/Ops.lean: the named operations over the state that every meaning shares: registers and
their fields (R8 to R16, R563 to R565), counters, EVENT bits, event records (R499 to R504, R515), access
errors (R566 to R568), fault reports (R510), capture latches (R27), memory, time and free values.
-/

namespace Sys2Proof.Machine

/-! Registers. -/

/-- The first address of register space (R563). -/
def ctlBase : Nat := 0xF0000000

/-- The base of a block (R563). -/
def blockBase (b : Nat) : Nat := ctlBase + b * 0x400000

/-- The instance of a register array at an offset, if the offset names one (R12). -/
def RegSpec.inst (r : RegSpec) (off : Nat) : Option Nat :=
  if r.count ≤ 1 then (if off = r.off then some 0 else none)
  else if off < r.off then none
  else if (off - r.off) % r.stride = 0 ∧ (off - r.off) / r.stride < r.count then
    some ((off - r.off) / r.stride)
  else none

/-- The register at an offset of a block's list, and its instance. -/
def findReg : List RegSpec → Nat → Option (RegSpec × Nat)
  | [], _ => none
  | r :: rs, off =>
    match r.inst off with
    | some n => some (r, n)
    | none => findReg rs off

/-- The SOURCE number of the block an address of register space lies in (R563). -/
def blockOf (a : Nat) : Option Nat :=
  if a < ctlBase then none
  else if (a - ctlBase) / 0x400000 < 23 then some ((a - ctlBase) / 0x400000) else none

/-- The register assigned to an address: its block, description and instance; none when the address is
unassigned (R9, R12, R565). -/
def specAt (a : Nat) : Option (Nat × RegSpec × Nat) :=
  match blockOf a with
  | none => none
  | some b =>
    let off := a - blockBase b
    match findReg (if off < 0x100 then regsCommon else (blocks.getD b ⟨0, 0, []⟩).regs) off with
    | none => none
    | some (r, n) => some (b, r, n)

/-- The reset value of instance n of a register (R16, R572). -/
def RegSpec.resetNat (r : RegSpec) (n : Nat) : Nat :=
  r.fields.foldl (fun v f => v + f.reset n % 2 ^ (f.hi - f.lo + 1) * 2 ^ f.lo) 0

/-- The reset value of the register at an address; 0 where there is none. -/
def regReset (a : Nat) : Word :=
  match specAt a with
  | none => 0
  | some (_, r, n) => BitVec.ofNat 64 (r.resetNat n)

/-- The value the register file holds for an address. -/
def State.reg (s : State) (a : Nat) : Word := Sparse.get regReset s.regs a

/-- A register of the register file given a value. -/
def State.setReg (s : State) (a : Nat) (w : Word) : State :=
  { s with regs := Sparse.set regReset s.regs a w }

/-- A value of a field is neither a reserved encoding nor out of the field's range (R11). -/
def FieldSpec.legalVal (f : FieldSpec) (v : Nat) : Bool :=
  f.legal.isEmpty || f.legal.any (fun r => decide (r.1 ≤ v) && decide (v ≤ r.2))

/-- Every field of a word holds a value its field map allows (R11, R439). -/
def RegSpec.legalWord (r : RegSpec) (v : Word) : Bool :=
  r.fields.all (fun f => f.legalVal (bits v.toNat f.hi f.lo))

/-- Bits hi to lo of a number replaced. -/
def setBits (w hi lo v : Nat) : Nat :=
  w / 2 ^ (hi + 1) * 2 ^ (hi + 1) + v % 2 ^ (hi - lo + 1) * 2 ^ lo + w % 2 ^ lo

/-- The value of a field in the register file. -/
def State.fld (s : State) (f : Fld) : Nat := bits (s.reg f.addr).toNat f.hi f.lo

/-- A field of the register file given a value; the other bits of its register stay. -/
def State.put (s : State) (f : Fld) (v : Nat) : State :=
  s.setReg f.addr (BitVec.ofNat 64 (setBits (s.reg f.addr).toNat f.hi f.lo v))

/-- A one-bit field read as a truth value. -/
def State.flag (s : State) (f : Fld) : Bool := s.fld f == 1

/-- A truth value written to a one-bit field. -/
def State.putFlag (s : State) (f : Fld) (b : Bool) : State := s.put f b.toNat

/-- A two's complement reading of a field of width w. -/
def signedOf (w v : Nat) : Int := if v < 2 ^ (w - 1) then (v : Int) else (v : Int) - 2 ^ w

/-- A number in two's complement of width w. -/
def unsignedOf (w : Nat) (i : Int) : Nat := (i % (2 ^ w : Int)).toNat

/-- Adds to instance n of a counter array; counters wrap at 2^64. -/
def State.count (s : State) (f : Fld) (n : Nat) (k : Nat := 1) : State :=
  s.put (f.nth n) (s.fld (f.nth n) + k)

/-- Adds to a field that saturates at its greatest value. -/
def State.saturate (s : State) (f : Fld) (k : Nat := 1) : State :=
  s.put f (min (s.fld f + k) (2 ^ (f.hi - f.lo + 1) - 1))

/-! Modes, time and free values. -/

/-- The mode code of R397. -/
def Mode.code : Mode → Nat
  | .reset => 0
  | .structureLoad => 1
  | .selfTest => 2
  | .recovery => 3
  | .join => 4
  | .dualActive => 5
  | .soloActive => 6
  | .takeOver => 7
  | .handBack => 8
  | .restructure => 9
  | .eclipse => 10
  | .powerFailDrain => 11

/-- The serving modes (R455). -/
def Mode.serving : Mode → Bool
  | .dualActive => true
  | .soloActive => true
  | .takeOver => true
  | .handBack => true
  | .restructure => true
  | _ => false

/-- The modes in which EVR holds its records (R503). -/
def Mode.holdsRecords : Mode → Bool
  | .reset => true
  | .structureLoad => true
  | .selfTest => true
  | .recovery => true
  | .powerFailDrain => true
  | _ => false

/-- The length of a tick in ns (R21). -/
def State.tickNs (s : State) : Nat :=
  match s.fld F.TCK.CONFIG.TICK_LEN with
  | 0 => 1000
  | 2 => 4000
  | _ => 2000

/-- The engine cycles of a tick (R21). -/
def State.tickCycles (s : State) : Nat := 2 * s.tickNs

/-- Ticks in a time of the given number of µs (R5). -/
def State.ticksIn (s : State) (us : Nat) : Nat := us * 1000 / s.tickNs

/-- TICK_COUNT. -/
def State.now (s : State) : Nat := s.tck.tick

/-- The current tick is a panel tick (R37). -/
def State.panelTick (s : State) : Bool := s.tck.tick % 512 == 0

/-! Sides (R376): `ftl` and `rdn` are the home side's; `other` holds the other side's. -/

/-- The two sides change places. -/
def State.swapSides (s : State) : State :=
  match s.other with
  | some (f, r) => { s with ftl := f, rdn := r, other := some (s.ftl, s.rdn) }
  | none => s

/-- Work of side k. -/
def State.onSide (s : State) (k : Nat) (f : State → State) : State :=
  if s.ftl.side = k then f s
  else match s.other with
    | some (g, _) => if g.side = k then (f s.swapSides).swapSides else f s
    | none => f s

/-- Work that every side held does. -/
def State.bothSides (s : State) (f : State → State) : State :=
  match s.other with
  | some _ => (f (f s).swapSides).swapSides
  | none => f s

/-- Work that a command asks for without naming a side: the home side's when it has any, else the other side's
(assumption 16). -/
def State.eitherSide (s : State) (f : State → State) : State :=
  match s.other with
  | some _ => let t := f s; if t = s then (f s.swapSides).swapSides else t
  | none => f s

/-- The head neither serves nor works: no step of a serving head applies. -/
def Mode.still (m : Mode) : Bool := m == .reset || m == .powerFailDrain

/-- The side whose volume sets hold a set (R374). -/
def State.vsetSide (s : State) (v : Nat) : Nat := (s.fld F.RFL.CONFIG.VSET_HOME >>> v) % 2

/-- The side of the chunk of a job or of a read (R375). -/
def State.sideOfJob (s : State) (n : Nat) : Nat := match Tab.find s.rdx.chunks n with | some j => j.addr / 2 ^ 47 | none => 0
def State.sideOfRead (s : State) (n : Nat) : Nat := match Tab.find s.rdx.reads n with | some r => r.chunk / 2 ^ 47 | none => 0

/-- One free value drawn: its number, and the state that has drawn it. -/
def State.draw (s : State) : Nat × State := (s.fresh, { s with fresh := s.fresh + 1 })

/-- The links a transmission uses: 0 host ports, 1 a new CMD frame of a Frond port, 2 anything else of the Frond ports, the
Reflect link and the Umbra links, 3 none of these. -/
def Out.link : Out → Nat
  | .frondCmd .. => 1
  | .frondData .. => 2
  | .frondAck .. => 2
  | .frondReplay .. => 2
  | .frondTraining .. => 2
  | .roce .. => 0
  | .spray .. => 0
  | .rawFrame .. => 0
  | .mark .. => 2
  | .reflectAck .. => 2
  | .delta .. => 2
  | .forward .. => 2
  | .forwardRsp .. => 2
  | .joinBulk .. => 2
  | .vcRecord .. => 2
  | .headSlot .. => 2
  | .interrupt .. => 3
  | .mctp .. => 3
  | .pcieCompletion .. => 3
  | .chain .. => 3

/-- The head may transmit: no link in Reset; in Power-Fail Drain nothing on the host ports and no new CMD frame, and nothing
at all once the drain has ended (R462, R466, R467). -/
def State.maySendOut (s : State) (o : Out) : Bool :=
  match s.lcs.mode with
  | .reset => o.link == 3
  | .powerFailDrain => !s.lcs.drainEnded && decide (2 ≤ o.link)
  | _ => true

/-- A transmission appended to those of the tick. -/
def State.send (s : State) (o : Out) : State := if s.maySendOut o then { s with out := s.out ++ [o] } else s

/-- An input taken by its capture latch (R27). -/
def State.latch (s : State) (i : Input) : State :=
  { s with tck := { s.tck with latches := s.tck.latches ++ [i] } }

/-! Faults and event records. -/

/-- The fault being handled: the head entry of the highest class from 2 to 5 whose queue is not empty
(R513), with its class. -/
def Flt.active (f : Flt) : Option (Nat × FltEntry) :=
  match (f.queues.getD 4 []).head? with
  | some e => some (5, e)
  | none => match (f.queues.getD 3 []).head? with
    | some e => some (4, e)
    | none => match (f.queues.getD 2 []).head? with
      | some e => some (3, e)
      | none => match (f.queues.getD 1 []).head? with
        | some e => some (2, e)
        | none => none

/-- PARENT of a record made now (R515). -/
def State.parent (s : State) : Nat :=
  if s.flt.actingSeq ≠ 0 then s.flt.actingSeq
  else match s.flt.active with
    | some (_, e) => e.seq
    | none => 0

/-- The records merged by R501 have the same SOURCE, CODE, OBJECT and tick. -/
def EvRec.sameEvent (r q : EvRec) : Bool :=
  r.source == q.source && r.code == q.code && r.object == q.object && r.tick == q.tick

/-- The first record of the queue of the same event counts the new one in REPEAT, saturating (R499, R501). -/
def mergeRec (r : EvRec) : List EvRec → Option (List EvRec)
  | [] => none
  | q :: qs =>
    if r.sameEvent q then some ({ q with repeats := min (q.repeats + 1) 255 } :: qs)
    else (mergeRec r qs).map (q :: ·)

/-- EVR makes a record (R501, R503, R504). Its SEQ, operating time and power cycle count are set here. -/
def State.makeRecord (s : State) (r : EvRec) : State :=
  let r := { r with opTime := s.evr.opTime, powerCycles := s.evr.powerCycles, repeats := 0 }
  match mergeRec r s.evr.queue with
  | some q => { s with evr := { s.evr with queue := q, unitUsed := true } }.count F.EVR.STAT.COUNT 1
  | none =>
    let n := s.evr.nextSeq
    let e := { s.evr with nextSeq := n + 1, unitUsed := true }
    if s.evr.full then { s with evr := e }.count F.EVR.STAT.COUNT 3
    else if s.evr.queue.length ≥ 255 then
      { s with evr := { e with dropped := some (match e.dropped with | some (a, _) => (a, n) | none => (n, n)) } }
        |>.count F.EVR.STAT.COUNT 2
    else { s with evr := { e with
      queue := e.queue ++ [{ r with seq := n }],
      flushing := e.flushing || (decide (r.severity ≥ 3) && s.lcs.mode.holdsRecords) || s.lcs.mode == .powerFailDrain } }

/-- A record with the PARENT and the tick of the present (R499, R515). -/
def State.record (s : State) (source severity code object arg0 arg1 : Nat) : State :=
  s.makeRecord { seq := 0, opTime := 0, powerCycles := 0, tick := s.tck.tick, parent := s.parent,
                 source := source, severity := severity, code := code, object := object % 2 ^ 24,
                 repeats := 0, arg0 := arg0, arg1 := arg1 }

/-- The address of a block's EVENT register (R564). -/
def eventAddr (src : Nat) : Nat := blockBase src + (blocks.getD src ⟨0, 0, []⟩).eventOff

/-- Sets a bit of a block's EVENT register (R15). -/
def State.setEventBit (s : State) (src bit : Nat) : State :=
  s.setReg (eventAddr src) (s.reg (eventAddr src) ||| BitVec.ofNat 64 (2 ^ bit))

/-- A bit of a block's EVENT register is set, and EVR makes its record (R500). -/
def State.event (s : State) (src bit : Nat) (unit : Nat := 0) (a0 : Nat := 0) (a1 : Nat := 0) : State :=
  (s.setEventBit src bit).record src (Config.noticeEvent src bit).toNat bit unit a0 a1

/-- A block raises a fault report (R510). -/
def State.report (s : State) (code source unit : Nat) (arg1 : Nat := 0) : State :=
  { s with flt := { s.flt with reports := s.flt.reports ++
      [{ code := code, source := source, unit := unit, arg1 := arg1, injected := false, fromClass := 0 }] } }

/-- An edge source of the interrupt router occurs (R554, R555): PENDING of its route is set. -/
def State.irqEdge (s : State) (src : Nat) : State := s.put (F.APC.IRQ_ROUTE.PENDING.nth src) 1

/-! Access errors. -/

/-- The kinds of access error of R566, in the order of X.ERR_ADDR.KIND. -/
inductive ErrKind where
  | size | unassigned | locked | encoding | state
  deriving DecidableEq, Repr

/-- The KIND number of R567. -/
def ErrKind.num : ErrKind → Nat
  | .size => 0
  | .unassigned => 1
  | .locked => 2
  | .encoding => 3
  | .state => 4

/-- LEN of X.ERR_ADDR (R567). -/
def lenCode (size : Nat) : Nat := if size ≥ 8 then 3 else if size ≥ 4 then 2 else if size ≥ 2 then 1 else 0

/-- The word X.ERR_ADDR captures (R567). -/
def errAddrWord (r : Req) (write : Bool) (addr size kind : Nat) : Word :=
  BitVec.ofNat 64 (2 ^ 63 + write.toNat * 2 ^ 62 + r.test.toNat * 2 ^ 61
    + (if r.test then 0 else r.core % 64) * 2 ^ 50 + lenCode size * 2 ^ 43 + kind * 2 ^ 40 + addr % 2 ^ 40)

/-- An access error is recorded in block b (R566, R567) and its record made at the next boundary (R568). -/
def State.accessErrorIn (s : State) (b : Nat) (r : Req) (write : Bool) (addr size : Nat) (kind : ErrKind) : State :=
  let st : Fld := ⟨blockBase b + 8, 0, kind.num, kind.num⟩
  let cnt : Fld := ⟨blockBase b + 8, 0, 63, 32⟩
  let s1 := (s.put st 1).saturate cnt
  let s2 :=
    if s1.fld ⟨blockBase b + 16, 0, 63, 63⟩ = 0 then
      (s1.setReg (blockBase b + 16) (errAddrWord r write addr size kind.num)).put ⟨blockBase b + 8, 0, 8, 8⟩ 1
    else s1
  if s2.fld ⟨blockBase b + 24, 0, kind.num, kind.num⟩ = 1 then s2
  else { s2 with evr := { s2.evr with atBoundary := s2.evr.atBoundary ++
    [{ seq := 0, opTime := 0, powerCycles := 0, tick := 0, parent := 0, source := b, severity := 1,
       code := 0x7F00, object := kind.num, repeats := 0, arg0 := addr,
       arg1 := write.toNat + (if r.test then 0 else r.core % 64) * 256 + r.test.toNat * 2 ^ 14 }] } }

/-- An access error in the block an address lies in. -/
def State.accessError (s : State) (r : Req) (write : Bool) (addr size : Nat) (kind : ErrKind) : State :=
  match blockOf addr with
  | none => s
  | some b => s.accessErrorIn b r write addr size kind

/-! Memory. -/

/-- A byte of memory; one that nothing has written reads 0 (assumption 2). -/
def State.byte (s : State) (a : Nat) : Byte := Sparse.get (fun _ => (0 : Byte)) s.mem a

/-- A byte of memory written. -/
def State.setByte (s : State) (a : Nat) (b : Byte) : State :=
  { s with mem := Sparse.set (fun _ => (0 : Byte)) s.mem a b }

/-- n bytes of memory from an address. -/
def State.load (s : State) (a n : Nat) : List Byte := (List.range n).map (fun i => s.byte (a + i))

/-- Bytes written to memory from an address, in ascending order. -/
def State.store (s : State) (a : Nat) : List Byte → State
  | [] => s
  | b :: bs => (s.setByte a b).store (a + 1) bs

/-- Memory is in canonical form. -/
abbrev Memory.wf (m : List Host.Cell) : Prop := Sparse.wf (fun _ => (0 : Byte)) m = true

end Sys2Proof.Machine
end

