-- ==== Sys2Proof/Machine/Lanes.lean ====
section
/-!
DEFINITION. Machine/Lanes.lean: the lanes of the compression, cipher, digest and parity engines: their work in engine cycles, the
lane each job is given, its turn on the lane, and the cut (R25, R26, R77 to R81, R111 to R113, R209).
-/

namespace Sys2Proof.Machine

/-- The engines that have lanes and job rings. -/
inductive Eng where
  | cmp | cip | dgs
  deriving DecidableEq, Repr

/-- The block of an engine. -/
def Eng.src : Eng → Nat
  | .cmp => Src.CMP
  | .cip => Src.CIP
  | .dgs => Src.DGS

/-- Lanes of an engine (R25, R77). -/
def Eng.lanes : Eng → Nat
  | .cmp => 112
  | _ => 48

/-- The lanes of an engine, and the lanes replaced. -/
def LaneBanks.of (b : LaneBanks) : Eng → Lanes
  | .cmp => b.cmp
  | .cip => b.cip
  | .dgs => b.dgs

def LaneBanks.set (b : LaneBanks) (e : Eng) (l : Lanes) : LaneBanks :=
  match e with
  | .cmp => { b with cmp := l }
  | .cip => { b with cip := l }
  | .dgs => { b with dgs := l }

/-! Cycles (R78, R111). -/

/-- Compression of n bytes. -/
def packCycles (n : Nat) : Nat := (n * 10 + 31) / 32

/-- The hash-only pass over n bytes, and the check of a RAW chunk. -/
def hashCycles (n : Nat) : Nat := (n + 15) / 16

/-- A field of a word of CMP.CONFIG. -/
def cfgFld (w : Word) (f : Fld) : Nat := bits w.toNat f.hi f.lo

/-- P of R84. -/
def probeOf (w : Word) : Nat := [0, 1024, 2048, 4096].getD (cfgFld w F.CMP.CONFIG.PROBE) 0

/-- Compression of a chunk of n bytes under a word of CMP.CONFIG: hash only while COMP_EN is 0 (R78, R86). -/
def compressCycles (w : Word) (n : Nat) : Nat := if cfgFld w F.CMP.CONFIG.COMP_EN = 1 then packCycles n else hashCycles n

/-- A chunk stored raw by its probe: the probe at the rate of compression, the rest at the hash-only rate (R78, R84). -/
def probedCycles (w : Word) (n : Nat) : Nat := packCycles (probeOf w) + hashCycles (n - probeOf w)

/-- Expansion to n bytes, or the check of a RAW chunk (R78). -/
def expandCycles (raw : Bool) (n : Nat) : Nat := if raw then hashCycles n else (n * 10 + 63) / 64

/-- A GCM pass over AAD and text (R111): blocks of AAD, of text, and the length block. -/
def gcmCycles (aad n : Nat) : Nat := (5 * ((aad + 15) / 16 + (n + 15) / 16 + 1) + 3) / 4

/-- Blocks of a padded SHA-256 message, of HMAC-SHA-256, and of a padded SHA-384 message (R144). -/
def sha256Blocks (n : Nat) : Nat := (n + 9 + 63) / 64
def hmacBlocks (n : Nat) : Nat := (n + 9 + 63) / 64 + 1
def sha384Blocks (n : Nat) : Nat := (n + 17 + 127) / 128

/-- The engine a chunk of a write stands before. -/
def ChunkStage.engine : ChunkStage → Option Eng
  | .cut => some .dgs
  | .missed => some .cmp
  | .compressed => some .cip
  | .waitKey => some .cip
  | _ => none

/-- The cycles a chunk of a write brings to an engine's queue: to CMP from its admission on (R80), to DGS and CIP while it
stands before them. -/
def ChunkJob.cycles (j : ChunkJob) : Eng → Nat
  | .cmp => if j.stage = .cut ∨ j.stage = .fingerprinted ∨ j.stage = .missed then compressCycles j.cmpConfig j.content.length else 0
  | .dgs => if j.stage = .cut then 16 * hmacBlocks j.content.length else 0
  | .cip => if j.stage.engine = some .cip then gcmCycles 80 j.payload.length else 0

/-- The lane of an engine that a chunk of a write has been given. -/
def ChunkJob.on (j : ChunkJob) : Eng → Option Nat
  | .cmp => j.cmpLane
  | _ => j.lane

/-- The engine a read of a stored chunk stands before. -/
def ReadStage.engine : ReadStage → Option Eng
  | .stored => some .cip
  | .decrypted => some .cmp
  | _ => none

/-- RAW and LOGICAL_LEN of the header read with a chunk (R73). -/
def ChunkRead.raw (r : ChunkRead) : Bool := (r.stored.getD 3 0).toNat % 2 == 1
def ChunkRead.logicalLen (r : ChunkRead) : Nat := leNat ((r.stored.drop 4).take 4)

/-- The cycles a read of a stored chunk brings to an engine's queue: to CMP from its admission on (R80), sized from the header
once that is read (R73) and until then as a chunk of 4,096 bytes. -/
def ChunkRead.cycles (r : ChunkRead) : Eng → Nat
  | .cmp =>
    if r.stage = .decrypted then expandCycles r.raw r.logicalLen
    else if r.stage = .waiting ∨ r.stage = .stored then expandCycles false 4096 else 0
  | .cip => if r.stage = .stored then gcmCycles 80 (r.stored.length - 96) else 0
  | .dgs => 0

/-- The lane of an engine that a read of a stored chunk has been given. -/
def ChunkRead.on (r : ChunkRead) : Eng → Option Nat
  | .cmp => r.cmpLane
  | _ => r.lane

/-- The cycles of a ring job, on the lengths its descriptor gives (R78, R111, R144): AAD at START, the length block, padding and
outer hash at END. The output of a decompress job is not known while it is queued: it counts there as its input (assumption
51). -/
def ringCycles (e : Eng) (d : List Byte) : Nat :=
  let f (o n : Nat) : Nat := leNat ((d.drop o).take n)
  let flags := f 1 1
  let n := f 16 4
  match e with
  | .cmp => if f 0 1 % 2 = 1 then packCycles n else expandCycles false n
  | .cip => (5 * ((if flags.testBit 0 then (f 20 4 + 15) / 16 else 0) + (n + 15) / 16 + (flags.testBit 1).toNat) + 3) / 4
  | .dgs =>
    let pads := flags.testBit 1 && flags.testBit 2
    if f 0 1 = 2 then 40 * (if pads then sha384Blocks n else n / 128)
    else 16 * ((if pads then sha256Blocks n else n / 64) + (decide (f 0 1 = 3) && flags.testBit 1).toNat)

/-- The ring jobs of an engine. -/
def State.ringJobs (s : State) : Eng → Tab RingJob
  | .cmp => s.cmp.jobs
  | .cip => s.cip.jobs
  | .dgs => s.dgs.jobs

/-- Engine cycles of work queued on a lane (R80, R113). -/
def State.laneLoad (s : State) (e : Eng) (lane : Nat) : Nat :=
  (s.rdx.chunks.filter (fun p => p.2.on e == some lane)).foldl (fun a p => a + p.2.cycles e) 0 +
  (s.rdx.reads.filter (fun p => p.2.on e == some lane)).foldl (fun a p => a + p.2.cycles e) 0 +
  ((s.ringJobs e).filter (fun p => p.2.lane == some lane)).foldl (fun a p => a + ringCycles e p.2.desc) 0

/-- Engine cycles of the tick that a lane has spent (R25). -/
def Lanes.spent (b : Lanes) (lane : Nat) : Nat := Tab.getD b.used lane 0

/-- A boundary opens a lane's budget (R25): what work begun in a tick took beyond its budget it takes from the next. -/
def Lanes.renew (b : Lanes) (budget : Nat) : Lanes :=
  { b with used := (b.used.map (fun p => (p.1, p.2 - budget))).filter (fun p => p.2 != 0) }

/-- Every chunk of the write has had its lookup, so none can still end it for want of a key (R52, R129). -/
def State.allLookedUp (s : State) (cmd : Option Nat) : Bool :=
  s.rdx.chunks.all (fun p => p.2.cmd != cmd || (p.2.stage != .cut && p.2.stage != .fingerprinted))

/-- Work that stands before an engine: the class of R26 (0 host path, 1 background, 2 job ring), its place in the order of its
class, the tick in which it was queued, and whether nothing but its lane keeps it. -/
structure LaneTask where
  item : LaneItem
  cls : Nat
  order : Nat × Nat
  since : Nat
  ready : Bool
  deriving DecidableEq, Repr

/-- A chunk of a write as work: in the order of the admission of its command (R26, R113). -/
def State.writeTask (s : State) (n : Nat) (j : ChunkJob) : LaneTask :=
  { item := .write n, cls := if j.cmd.isSome then 0 else 1, order := (j.cmd.getD 0, n), since := j.since
    ready := j.stage != .waitKey && (j.stage != .compressed || s.allLookedUp j.cmd) }

/-- A read of a stored chunk as work. -/
def readTask (n : Nat) (r : ChunkRead) : LaneTask :=
  { item := .read n, cls := if r.use = .host then 0 else 1
    order := ((r.waiters.map (fun w => w.1)).head?.getD 0, n), since := r.since, ready := true }

/-- A job of a ring as work: one dispatched at a boundary joins its class there (R103). -/
def ringTask (now n : Nat) (j : RingJob) : LaneTask :=
  { item := .ring n, cls := 2, order := (n, 0), since := now - 1, ready := !j.waited }

/-- The work that stands before an engine on a lane. -/
def State.laneTasks (s : State) (e : Eng) (lane : Nat) : List LaneTask :=
  (s.rdx.chunks.filter (fun p => p.2.stage.engine == some e && p.2.on e == some lane)).map (fun p => s.writeTask p.1 p.2) ++
  (s.rdx.reads.filter (fun p => p.2.stage.engine == some e && p.2.on e == some lane)).map (fun p => readTask p.1 p.2) ++
  ((s.ringJobs e).filter (fun p => p.2.lane == some lane)).map (fun p => ringTask s.now p.1 p.2)

/-- The context slot of a class on a lane. -/
def slotKey (lane cls : Nat) : Nat := lane * 3 + cls

/-- The slot in which a job lies cut. -/
def State.cutOf (s : State) (e : Eng) (lane : Nat) (t : LaneTask) : Option CutSlot :=
  (Tab.find (s.lanes.of e).cuts (slotKey lane t.cls)).filter (fun c => c.item == t.item)

/-- The order of R26 on a lane: the class, then cut work before new work, then the order of the class. -/
def State.goesBefore (s : State) (e : Eng) (lane : Nat) (a b : LaneTask) : Bool :=
  let rank (t : LaneTask) : Nat := t.cls * 2 + (s.cutOf e lane t).isNone.toNat
  decide (rank a < rank b) || (rank a == rank b && (decide (a.order.1 < b.order.1) ||
    (a.order.1 == b.order.1 && decide (a.order.2 < b.order.2))))

/-- A task is the next of its lane: it was queued in an earlier tick, and no other that could run goes before it. -/
def State.atFront (s : State) (e : Eng) (lane : Nat) (t : LaneTask) : Bool :=
  decide (t.since < s.now) && (s.laneTasks e lane).all (fun x =>
    x.item == t.item || !x.ready || decide (s.now ≤ x.since) || !s.goesBefore e lane x t)

/-- A job ends on its lane: it is the next of the lane, and the cycles it still needs are left in the tick (R25, R26). Its
slot is empty after it. -/
def State.laneEnd (s : State) (e : Eng) (lane : Nat) (t : LaneTask) (cycles : Nat) : Option State :=
  let b := s.lanes.of e
  let left := cycles - ((s.cutOf e lane t).map CutSlot.spent).getD 0
  if s.atFront e lane t && decide (b.spent lane + left ≤ s.tickCycles) then
    let cuts := if (s.cutOf e lane t).isSome then Tab.erase b.cuts (slotKey lane t.cls) else b.cuts
    some { s with lanes := s.lanes.set e { cuts := cuts, used := Tab.insert b.used lane (b.spent lane + left) } }
  else none

/-- A chunk of a write ends on the lane it was given. -/
def State.writeEnd (s : State) (e : Eng) (chunk : Nat) (j : ChunkJob) (cycles : Nat) : Option State :=
  (j.on e).bind (fun l => s.laneEnd e l (s.writeTask chunk j) cycles)

/-- A read of a stored chunk ends on the lane it was given. -/
def State.readEnd (s : State) (e : Eng) (job : Nat) (r : ChunkRead) (cycles : Nat) : Option State :=
  (r.on e).bind (fun l => s.laneEnd e l (readTask job r) cycles)

/-- A ring job ends on the lane it was given. -/
def State.ringEnd (s : State) (e : Eng) (job : Nat) (j : RingJob) (cycles : Nat) : Option State :=
  j.lane.bind (fun l => s.laneEnd e l (ringTask s.now job j) cycles)

/-- A job that is given up leaves its slot (R79, R112, R116). -/
def State.dropCut (s : State) (e : Eng) (item : LaneItem) : State :=
  let b := s.lanes.of e
  if b.cuts.any (fun p => p.2.item == item) then
    { s with lanes := s.lanes.set e { b with cuts := b.cuts.filter (fun p => p.2.item != item) } }
  else s

/-- An opcode is in the set that ENGINE accepts (R436): 0 CMP, 1 CIP, 2 DGS, 3 transport work requests. -/
def State.acceptsOp (s : State) (engine op : Nat) : Bool := decide (op < 64) && (s.fld (F.SIM.JOBFMT.OPCODES.nth engine)).testBit op

/-- What a completion record says of a job, without PHASE and TICK (R106, R153). -/
def doneBody (tag status flags lane inConsumed out : Nat) (rest : List Byte) : List Byte :=
  leBytes 4 tag ++ leBytes 1 status ++ leBytes 1 flags ++ leBytes 2 lane ++ leBytes 4 inConsumed ++ leBytes 4 out ++ rest

/-- The IRQ bit of a descriptor (R104, R150, R151). -/
def Eng.irqBit : Eng → Nat
  | .cmp => 5
  | .cip => 3
  | .dgs => 4

/-- A job that ends with nothing consumed and nothing written. -/
def emptyEnd (e : Eng) (j : RingJob) (status : Nat) : JobDone :=
  { ring := j.ring, irq := (j.desc.getD 1 0).toNat.testBit e.irqBit, status := status,
    body := doneBody (leNat ((j.desc.drop 4).take 4)) status 0 (j.lane.getD 0) 0 0 (leBytes 8 0) }

/-- A lane that takes new work: of the role asked for, not about to change it (R81), and not withdrawn (R511). -/
def State.laneOpen (s : State) (e : Eng) (compress : Bool) (lane : Nat) : Bool :=
  !s.flt.withdrawn.contains (e.src, lane) &&
  (e != .cmp || (s.cmp.compressors.contains lane == compress && decide (lane < s.fld F.CMP.CONFIG.COMP_LANES) == compress))

/-- The lane with the fewest cycles queued, the lowest on a tie (R80, R113). -/
def State.pickLane (s : State) (e : Eng) (compress : Bool) : Option Nat :=
  ((List.range e.lanes).filter (s.laneOpen e compress)).foldl (fun (best : Option Nat) l =>
    match best with
    | some b => if s.laneLoad e l < s.laneLoad e b then some l else best
    | none => some l) none

/-- Work done as a whole, such as the protection of a Spray packet or a rewrap: it goes to the lane with the fewest cycles
queued and spent, and what exceeds the tick's budget is taken from the next (R111, R113, assumption 51). -/
def State.chargeLane (s : State) (e : Eng) (compress : Bool) (cycles : Nat) : State :=
  let b := s.lanes.of e
  let load (l : Nat) : Nat := s.laneLoad e l + b.spent l
  match ((List.range e.lanes).filter (s.laneOpen e compress)).foldl (fun (best : Option Nat) l =>
    match best with
    | some x => if load l < load x then some l else best
    | none => some l) none with
  | some l => { s with lanes := s.lanes.set e { b with used := Tab.insert b.used l (b.spent l + cycles) } }
  | none => s

/-! The lanes of RDN (R209). -/

/-- Engine cycles that a set costs a lane of RDN: D source pages at 64 bytes a cycle. -/
def setCycles (d : Nat) : Nat := d * 256

/-- The lane of RDN that has spent the least of the tick, the lowest on a tie; none while every lane is withdrawn (R511). -/
def State.rdnLane (s : State) : Option Nat :=
  ((List.range 8).filter (fun l => !s.flt.withdrawn.contains (Src.RDN, l))).foldl (fun (best : Option Nat) l =>
    match best with
    | some b => if s.lanes.rdn.spent l < s.lanes.rdn.spent b then some l else best
    | none => some l) none

/-- Some lane of RDN has budget left in the tick (R25). -/
def State.rdnFree (s : State) : Bool := s.rdnLane.any (fun l => decide (s.lanes.rdn.spent l < s.tickCycles))

/-- Sets of D source pages given to the lanes of RDN, each to the one that has spent the least; what exceeds its budget a lane
takes from the next tick (R25, R209, assumption 51). -/
def State.chargeRdn (s : State) (d : Nat) : Nat → State
  | 0 => s
  | k + 1 =>
    let s1 : State := match s.rdnLane with
      | some l => { s with lanes := { s.lanes with rdn := { s.lanes.rdn with
          used := Tab.insert s.lanes.rdn.used l (s.lanes.rdn.spent l + setCycles d) } } }
      | none => s
    s1.chargeRdn d k

/-- A chunk of a write is queued for the work it now needs: DGS and CIP give it a lane now (R113); a compressor lane it was
given at admission that no longer takes work gives it to another (R81, R511). -/
def State.giveLane (s : State) (chunk : Nat) : State :=
  match Tab.find s.rdx.chunks chunk with
  | none => s
  | some j =>
    let j1 := match j.stage.engine with
      | some .cmp => { j with since := s.now, cmpLane := if j.cmpLane.any (s.laneOpen .cmp true) then j.cmpLane else s.pickLane .cmp true }
      | some e => { j with since := s.now, lane := s.pickLane e true }
      | none => { j with since := s.now }
    { s with rdx := { s.rdx with chunks := Tab.insert s.rdx.chunks chunk j1 } }

/-- A chunk of a write is admitted (R80): CMF gives it a compressor lane, under the CMP.CONFIG of that moment (R81). -/
def State.admitChunk (s : State) (chunk : Nat) : State :=
  match Tab.find s.rdx.chunks chunk with
  | none => s
  | some j =>
    let j1 := { j with cmpLane := s.pickLane .cmp true, cmpConfig := s.reg F.CMP.CONFIG.COMP_LANES.addr }
    ({ s with rdx := { s.rdx with chunks := Tab.insert s.rdx.chunks chunk j1 } } : State).giveLane chunk

/-- A read of a stored chunk is queued for the work it now needs. -/
def State.giveReadLane (s : State) (job : Nat) : State :=
  match Tab.find s.rdx.reads job with
  | none => s
  | some r =>
    let r1 := match r.stage.engine with
      | some .cmp => { r with since := s.now, cmpLane := if r.cmpLane.any (s.laneOpen .cmp false) then r.cmpLane else s.pickLane .cmp false }
      | some e => { r with since := s.now, lane := s.pickLane e true }
      | none => { r with since := s.now }
    { s with rdx := { s.rdx with reads := Tab.insert s.rdx.reads job r1 } }

/-- Work that no lane could take when it was queued is given one. -/
def State.lanesForWaiting (s : State) : State :=
  let writes := (s.rdx.chunks.filter (fun p => p.2.stage.engine.any (fun e => (p.2.on e).isNone))).map Prod.fst
  let reads := (s.rdx.reads.filter (fun p => p.2.stage.engine.any (fun e => (p.2.on e).isNone))).map Prod.fst
  reads.foldl State.giveReadLane (writes.foldl State.giveLane s)

/-- The job of a slot still stands before the engine; a job given up has left its slot (R79). -/
def State.itemStands (s : State) (e : Eng) : LaneItem → Bool
  | .write n => (Tab.find s.rdx.chunks n).any (fun j => j.stage.engine == some e)
  | .read n => (Tab.find s.rdx.reads n).any (fun r => r.stage.engine == some e)
  | .ring n => (Tab.find (s.ringJobs e) n).isSome

/-- Step 5 opens the budgets of every lane (R24, R25). -/
def State.openLanes (s : State) : State :=
  let c := s.tickCycles
  let one (e : Eng) : Lanes := { (s.lanes.of e).renew c with cuts := (s.lanes.of e).cuts.filter (fun p => s.itemStands e p.2.item) }
  ({ s with lanes := ⟨one .cmp, one .cip, one .dgs, s.lanes.rdn.renew c⟩ } : State).lanesForWaiting

end Sys2Proof.Machine
end

