-- ==== Sys2Proof/Machine/Grants.lean ====
section
/-!
DEFINITION. Machine/Grants.lean: the grants of background work (chapter 12, R417, R418), as the blocks that use them
see them.
-/

namespace Sys2Proof.Machine

/-- Class numbers of R417. -/
def Cls.fold : Nat := 0
def Cls.gc : Nat := 1
def Cls.rebuild : Nat := 2
def Cls.patrol : Nat := 3
def Cls.reshape : Nat := 4
def Cls.rewrap : Nat := 5
def Cls.mapWork : Nat := 6
def Cls.repl : Nat := 7

/-- The pacer's record of a class. -/
def State.pclass (s : State) (c : Nat) : PcrClass :=
  s.pcr.classes.getD c { share := 0, v := 0, a := 0, target := 0, floorNow := 0, backlog := false, queued := false,
                         grant := 0, debit := 0, used := 0 }

/-- The pacer's record of a class replaced. -/
def State.setClass (s : State) (c : Nat) (x : PcrClass) : State :=
  { s with pcr := { s.pcr with classes := s.pcr.classes.set c x } }

/-- A unit of the class may begin in this tick (R418): some of its grant is left. -/
def State.granted (s : State) (c : Nat) : Bool := decide ((s.pclass c).grant > 0)

/-- COST of a class, in sixteenths. -/
def State.costOf (s : State) (c : Nat) : Nat := s.fld (F.PCR.CLASS_CFG0.COST.nth c)

/-- Class bytes used (R418): what goes beyond the grant is debited from the next. -/
def State.spend (s : State) (c bytes : Nat) : State :=
  let x := s.pclass c
  s.setClass c { x with
    grant := x.grant - bytes, debit := x.debit + (bytes - x.grant), used := x.used + bytes * s.costOf c }

/-- The bytes of one operation of the META class are counted as one metadata page (assumption 17). -/
def State.spendMeta (s : State) : State := s.spend Cls.mapWork 4160

end Sys2Proof.Machine
end

