-- ==== Sys2Proof/Machine/HotSet.lean ====
section
/-!
DEFINITION. Machine/HotSet.lean: the hot set of the Sporebank (chapter 02, R53 to R62): lookup, insertion and
eviction, reference counts, the eviction hand and the loading of regions.
-/

namespace Sys2Proof.Machine

/-- k of R53. -/
def State.hotK (s : State) : Nat := s.fld F.RDX.CONFIG.PAGES_LOG2

/-- The region of a fingerprint (R53). -/
def regionOf (fp : BitVec 256) : Nat := fp.toNat % 2 ^ 18

/-- The page of a fingerprint within its region (R53). -/
def pageOf (k : Nat) (fp : BitVec 256) : Nat := fp.toNat / 2 ^ 18 % 2 ^ k

/-- FP_PART: bits 145 to 18 (R54). -/
def fpPartOf (fp : BitVec 256) : BitVec 128 := BitVec.ofNat 128 (fp.toNat / 2 ^ 18)

/-- The key of slot i of a fingerprint's page. -/
def hotKey (k : Nat) (fp : BitVec 256) (i : Nat) : Nat := (regionOf fp * 2 ^ k + pageOf k fp) * 8 + i

/-- The entries of a page, by slot. -/
def Rdx.page (r : Rdx) (k : Nat) (fp : BitVec 256) : List (Nat × HotEntry) :=
  (List.range 8).filterMap (fun i => (Tab.find r.hot (hotKey k fp i)).map (fun e => (i, e)))

/-- An entry matches a chunk but for its key (R55). -/
def HotEntry.sameChunk (e : HotEntry) (fp : BitVec 256) (granules : Nat) : Bool :=
  !e.lost && e.fpPart == fpPartOf fp && e.granules == granules

/-- The entry a lookup hits (R55), with its slot. -/
def Rdx.hit (r : Rdx) (k : Nat) (fp : BitVec 256) (granules keyId : Nat) : Option (Nat × HotEntry) :=
  (r.page k fp).find? (fun p => p.2.sameChunk fp granules && p.2.keyId == keyId)

/-- A region is warm (R62): regions load in ascending order. -/
def Rdx.isWarm (r : Rdx) (fp : BitVec 256) : Bool := decide (regionOf fp < r.warm)

/-- The slot an insertion takes (R57): a free one; else the entry of highest AGE that is not pending, at the lowest
offset; none when all eight are pending. -/
def Rdx.slotFor (r : Rdx) (k : Nat) (fp : BitVec 256) : Option Nat :=
  match (List.range 8).find? (fun i => (Tab.find r.hot (hotKey k fp i)).isNone) with
  | some i => some i
  | none =>
    ((r.page k fp).filter (fun p => !p.2.isPend)).foldl (fun b p =>
      match b with
      | none => some p
      | some q => if p.2.age > q.2.age then some p else some q) (none : Option (Nat × HotEntry)) |>.map Prod.fst

/-- An insertion (R56, R57): the state, and whether an entry was evicted. -/
def State.hotInsert (s : State) (fp : BitVec 256) (e : HotEntry) : State :=
  match s.rdx.slotFor s.hotK fp with
  | none => s
  | some i =>
    let key := hotKey s.hotK fp i
    let s1 := if (Tab.find s.rdx.hot key).isSome then s.count F.RDX.STAT.COUNT 6 else s
    { s1 with rdx := { s1.rdx with hot := Tab.insert s1.rdx.hot key e } }

/-- Every entry of a chunk address changed. -/
def State.hotModify (s : State) (addr : Nat) (f : HotEntry → HotEntry) : State :=
  { s with rdx := { s.rdx with hot := s.rdx.hot.map (fun p => if p.2.addr = addr then (p.1, f p.2) else p) } }

/-- The entries of a chunk address removed. -/
def State.hotRemove (s : State) (addr : Nat) : State :=
  { s with rdx := { s.rdx with hot := s.rdx.hot.filter (fun p => p.2.addr ≠ addr) } }

/-- A count that n more would carry past 0xFFFF_FFFE saturates (R60). -/
def saturates (c n : Nat) (perm : Bool) : Bool := !perm && decide (c + n > 0xFFFFFFFE)

/-- A chunk becomes PERM in the hot set and in the full index alike, and is counted once (R60). -/
def State.markPerm (s : State) (addr : Nat) : State :=
  let s1 := s.hotModify addr (fun e => { e with refCount := 0xFFFFFFFF, perm := true })
  let full (e : ChunkEntry) : ChunkEntry := { e with refCount := 0xFFFFFFFF, perm := true }
  let s2 := s1.onSide (addr / 2 ^ 47) (fun (t : State) =>
    { t with ftl := { t.ftl with tables := { t.ftl.tables with chunks := Tab.modify t.ftl.tables.chunks addr full } } })
  (s2.count F.RDX.STAT.COUNT 9).event Src.RDX 1 0 addr

/-- The cached count of a chunk raised (R58, R60): a PERM chunk keeps its own. -/
def State.hotRaise (s : State) (addr n : Nat) : State :=
  match s.rdx.hot.find? (fun p => p.2.addr == addr) with
  | none => s
  | some (_, e) =>
    if e.perm then s
    else if saturates e.refCount n e.perm then s.markPerm addr
    else s.hotModify addr (fun e => { e with refCount := e.refCount + n })

/-- The cached count of a chunk lowered; a count of zero invalidates the entry (R58). A PERM chunk keeps its own. -/
def State.hotLower (s : State) (addr n : Nat) : State :=
  match s.rdx.hot.find? (fun p => p.2.addr == addr) with
  | none => s
  | some (_, e) =>
    if e.perm then s
    else if e.refCount ≤ n then s.hotRemove addr
    else s.hotModify addr (fun e => { e with refCount := e.refCount - n })

/-- The eviction hand (R57): AGE, capped at 3, rises for every entry of page T mod 2^k of every region. -/
def State.evictionHand (s : State) : State :=
  let k := s.hotK
  { s with rdx := { s.rdx with hot := s.rdx.hot.map (fun p =>
      if p.1 / 8 % 2 ^ k = s.tck.tick % 2 ^ k then (p.1, { p.2 with age := min (p.2.age + 1) 3 }) else p) } }

/-- Every region cold (R62): of the cache, only entries marked pending are more than copies (chapter 02, Sporebank levels). -/
def Rdx.allCold (r : Rdx) : Rdx := { r with warm := 0, loading := false, hot := r.hot.filter (fun p => p.2.isPend) }

/-- The entry of the hot set as it lies in HBM (R54): 32 bytes, little-endian. -/
def HotEntry.bytes (e : HotEntry) : List Byte :=
  leBytes 16 e.fpPart.toNat ++ leBytes 6 e.addr ++ leBytes 1 e.granules ++
    leBytes 1 (1 + 2 * e.isPend.toNat + 4 * e.perm.toNat + 8 * e.lost.toNat + 16 * e.age) ++ leBytes 4 e.refCount ++ leBytes 4 e.keyId

/-- The hot set in HBM (R53, R54): the byte at an address, where the address lies in it; a free entry is 32 zeros. -/
def State.hotByte (s : State) (a : Nat) : Option Byte :=
  let base := s.fld F.RDX.SB_BASE.ADDR
  if base ≤ a ∧ a < base + 2 ^ (18 + s.hotK) * 256 then
    some (match Tab.find s.rdx.hot ((a - base) / 32) with
      | some e => e.bytes.getD ((a - base) % 32) 0
      | none => 0)
  else none

end Sys2Proof.Machine
end

