-- ==== Sys2Proof/Machine/MetaPages.lean ====
section
/-!
DEFINITION. Machine/MetaPages.lean: the metadata pages of FTL as bytes (chapter 05, R156, R161, R162, R186): map, retained,
chunk-table, fingerprint-tree, stripe-table and directory pages, their trailers, and how each is read back.
-/

namespace Sys2Proof.Machine

/-- Bytes padded with zeros to a length. -/
def padTo (n : Nat) (b : List Byte) : List Byte := b ++ List.replicate (n - b.length) 0

/-- The key of a granule of a namespace in the map. -/
def granuleKey (nsid g : Nat) : Nat := nsid * 2 ^ 64 + g

/-- The map page of a granule: 256 granules (R161). -/
def mapPageKey (nsid g : Nat) : Nat := nsid * 2 ^ 64 + g / 256

/-! Page identifiers (R162). -/

/-- The identifier of a metadata page: KIND, NSID and INDEX. Ascending numbers are the order of page identifiers. -/
def pageId (kind nsid index : Nat) : Nat := (kind * 2 ^ 32 + nsid) * 2 ^ 64 + index

/-- KIND, NSID and INDEX of an identifier. -/
def idKind (k : Nat) : Nat := k / 2 ^ 96
def idNsid (k : Nat) : Nat := k / 2 ^ 64 % 2 ^ 32
def idIndex (k : Nat) : Nat := k % 2 ^ 64

/-! Records of the pages. -/

/-- The 16 bytes of a map entry with a DEATH_ME (R161). -/
def MapEntry.image (e : MapEntry) (death : Nat) : List Byte :=
  leBytes 6 (if e.typ = 2 then e.chunk else 0) ++ leBytes 2 (e.typ + 4 * e.gidx) ++ leBytes 4 e.birth ++ leBytes 4 death

/-- The 16 bytes of a live map entry (R161). -/
def MapEntry.bytes (e : MapEntry) : List Byte := e.image 0xFFFFFFFF

/-- A map entry as it is read (R161), with its DEATH_ME; TYPE 3 and reserved bits make it malformed (R7). -/
def readMapEntry (b : List Byte) : Option (MapEntry × Nat) :=
  let e : MapEntry := { typ := leField b 6 1 % 4, chunk := leField b 0 6, gidx := leField b 6 1 / 4 % 8, birth := leField b 8 4 }
  if e.typ ≠ 3 ∧ e.image (leField b 12 4) = b then some (e, leField b 12 4) else none

/-- A record of a retained page (R162). -/
def Retained.image (r : Retained) : List Byte := leBytes 8 r.granule ++ r.entry.image r.death ++ leBytes 8 0

/-- A record of a retained page as it is read. -/
def readRetained (nsid : Nat) (b : List Byte) : Option Retained :=
  (readMapEntry ((b.drop 8).take 16)).bind (fun p =>
    let r : Retained := { nsid := nsid, granule := leField b 0 8, entry := p.1, death := p.2 }
    if r.image = b then some r else none)

/-- A chunk-table entry (R156). -/
def ChunkEntry.image (c : ChunkEntry) : List Byte :=
  leBytes 6 c.loc0 ++ leBytes 1 (c.state + 4 * c.granules + 64 * c.perm.toNat + 128 * c.lost.toNat) ++ leBytes 1 0 ++
  leBytes 6 c.loc1 ++ leBytes 2 c.units ++ leBytes 4 c.refCount ++ leBytes 4 c.keyId ++ leBytes 8 0

/-- A chunk-table entry as it is read; its fingerprint and digest key stand in the fingerprint tree. -/
def readChunkEntry (b : List Byte) : Option ChunkEntry :=
  let f := leField b 6 1
  let c : ChunkEntry := {
    loc0 := leField b 0 6, loc1 := leField b 8 6, state := f % 4, granules := f / 4 % 16, perm := f / 64 % 2 == 1, lost := f / 128 == 1,
    units := leField b 14 2, refCount := leField b 16 4, keyId := leField b 20 4, fp := 0, dkey := 0 }
  if c.image = b then some c else none

/-- A record of the fingerprint tree (R162). -/
def fpImage (chunk : Nat) (c : ChunkEntry) : List Byte :=
  leBytes 32 c.fp.toNat ++ leBytes 6 chunk ++ leBytes 1 c.dkey ++ leBytes 1 0

/-- A die and block in the layout of DIE(m, j) (R186). -/
def dieWord (p : Nat × Nat) : Nat := p.1 + p.2 * 128

/-- The die and block of such a word; bits 31:20 are reserved. -/
def readDieWord (w : Nat) : Option (Nat × Nat) := if w < 2 ^ 20 then some (w % 128, w / 128) else none

/-- The stripe descriptor (R186). -/
def Stripe.encode (x : Stripe) (number : Nat) : List Byte :=
  leBytes 4 number ++ leBytes 1 x.state ++ leBytes 1 x.cls ++ leBytes 1 x.members.length ++ leBytes 1 x.g ++
  leBytes 4 x.rowsDone ++ leBytes 4 x.erases ++ leBytes 8 x.valid ++ leBytes 8 x.openTick ++ List.replicate 32 0 ++
  x.members.flatMap (fun m => leBytes 8 m.module ++ padTo 64 (m.dies.flatMap (fun p => leBytes 4 (dieWord p))))

/-- A stripe as its descriptor gives it, with its rows per block; nothing of it has been sent or placed since. -/
def stripeOn (number rows : Nat) (b : List Byte) : Option (Nat × Stripe) :=
  let w := leField b 6 1
  let g := leField b 7 1
  let member (m : Nat) : Option StripeMember :=
    ((List.range g).mapM (fun j => readDieWord (leField b (72 + 72 * m + 4 * j) 4))).map (fun dies =>
      { module := leField b (64 + 72 * m) 1, dies := dies, failed := false, repl := none })
  ((List.range w).mapM member).bind (fun members =>
    let cols := (w - 2) * (g - 1)
    let done := leField b 8 2
    let x : Stripe := {
      state := leField b 4 1, cls := leField b 5 1, g := g, members := members, rows := rows, blockSize := rows * 16384,
      rowsDone := done, rowsSent := done, intent := done, sentLimit := done, erases := leField b 12 4, valid := leField b 16 8,
      openTick := leField b 24 8, fill := List.replicate cols (done * 16384), buf := List.replicate cols [], starts := [],
      sent := [], lost := [], wrong := [] }
    if x.state ≠ 0 ∧ 4 ≤ w ∧ w ≤ 24 ∧ (g = 4 ∨ g = 8 ∨ g = 16) ∧ padTo b.length (x.encode number) = b then some (number, x)
    else none)

/-! Page bodies (R162). -/

/-- Insertion in ascending order of a key. -/
def insertOn {α : Type} (key : α → Nat) (a : α) : List α → List α
  | [] => [a]
  | b :: bs => if key a < key b then a :: b :: bs else b :: insertOn key a bs

/-- A list in ascending order of a key; equal keys keep their order. -/
def sortOn {α : Type} (key : α → Nat) (l : List α) : List α := l.foldl (fun r a => insertOn key a r) []

/-- The retained entries of a namespace, sorted by granule, then BIRTH_ME. -/
def FtlTables.retainedOf (t : FtlTables) (nsid : Nat) : List Retained :=
  sortOn (fun r => r.granule * 2 ^ 32 + r.entry.birth) (t.retained.filter (fun r => r.nsid == nsid))

/-- The chunks of the fingerprint tree, sorted by fingerprint: an alias has given its record up (R159). -/
def FtlTables.byFingerprint (t : FtlTables) : List (Nat × ChunkEntry) :=
  sortOn (fun p => p.2.fp.toNat) (t.chunks.filter (fun p => p.2.state != 3))

/-- An unmapped granule's entry. -/
def MapEntry.unmapped : MapEntry := ⟨0, 0, 0, 0⟩

/-- The body of a page. Page i of the retained entries of a namespace, and of the fingerprint tree, holds the i-th run of records in
their sorted order (assumption 67). -/
def Ftl.body (f : Ftl) (id : Nat) : List Byte :=
  let i := idIndex id
  match idKind id with
  | 1 => (List.range 256).flatMap (fun j =>
      ((Tab.find f.tables.map (granuleKey (idNsid id) (i * 256 + j))).getD MapEntry.unmapped).bytes)
  | 2 => padTo 4096 ((((f.tables.retainedOf (idNsid id)).drop (128 * i)).take 128).flatMap Retained.image)
  | 3 => (List.range 128).flatMap (fun j =>
      ((Tab.find f.tables.chunks (f.side * 2 ^ 47 + i * 128 + j)).map ChunkEntry.image).getD (List.replicate 32 0))
  | 4 => padTo 4096 (((f.tables.byFingerprint.drop (102 * i)).take 102).flatMap (fun p => fpImage p.1 p.2))
  | 5 => padTo 4096 (((Tab.find f.stripes i).map (fun x => x.encode i)).getD [])
  | _ => []

/-- The pages that hold something, in ascending order of their identifiers. -/
def Ftl.bodies (f : Ftl) : List Nat :=
  let t := f.tables
  let maps := (t.map.map (fun p => pageId 1 (p.1 / 2 ^ 64) (p.1 % 2 ^ 64 / 256))).dedup
  let spaces := sortOn id (t.retained.map Retained.nsid).dedup
  let kept := spaces.flatMap (fun n => (List.range (((t.retainedOf n).length + 127) / 128)).map (pageId 2 n))
  let chunks := (t.chunks.map (fun p => pageId 3 0 (p.1 % 2 ^ 47 / 128))).dedup
  let tree := (List.range ((t.byFingerprint.length + 101) / 102)).map (pageId 4 0)
  maps ++ kept ++ chunks ++ tree ++ f.stripes.map (fun p => pageId 5 0 p.1)

/-- The pages whose bodies differ. -/
def Ftl.changed (a b : Ftl) : List Nat := ((a.bodies ++ b.bodies).dedup).filter (fun k => a.body k ≠ b.body k)

/-! Whole pages (R162). -/

/-- A metadata page: its body and its trailer. -/
def metaPage (id applied epoch : Nat) (body : List Byte) : List Byte :=
  let b := padTo 4096 body ++ leBytes 4 (idKind id) ++ leBytes 4 (idNsid id) ++ leBytes 8 (idIndex id) ++ leBytes 8 applied ++
    leBytes 4 epoch ++ List.replicate 32 0
  b ++ leBytes 4 (crc32c b)

/-- A metadata page as it is read: its identifier, APPLIED_SEQ and body; none when its trailer does not check (R7, R162). -/
def readMetaPage (b : List Byte) : Option (Nat × Nat × List Byte) :=
  let id := pageId (leField b 4096 1) (leField b 4100 4) (leField b 4104 8)
  if 1 ≤ idKind id ∧ idKind id ≤ 6 ∧ metaPage id (leField b 4112 8) (leField b 4120 4) (b.take 4096) = b then
    some (id, leField b 4112 8, b.take 4096)
  else none

/-- The map entries of a map page's body: granule and entry. -/
def readMapBody (index : Nat) (body : List Byte) : List (Nat × MapEntry) :=
  (List.range 256).filterMap (fun j => (readMapEntry ((body.drop (16 * j)).take 16)).bind (fun p =>
    if p.1.typ = 0 then none else some (index * 256 + j, p.1)))

/-- The retained entries of a page's body: a record of zeros is none. -/
def readRetainedBody (nsid : Nat) (body : List Byte) : List Retained :=
  ((chunksOf 32 128 body).filter (fun b => b.any (· != 0))).filterMap (readRetained nsid)

/-- The chunk-table entries of a page's body; one in STATE 0 is free. -/
def readChunkBody (side index : Nat) (body : List Byte) : List (Nat × ChunkEntry) :=
  (List.range 128).filterMap (fun j => (readChunkEntry ((body.drop (32 * j)).take 32)).bind (fun c =>
    if c.state = 0 then none else some (side * 2 ^ 47 + index * 128 + j, c)))

/-- The records of a page of the fingerprint tree: fingerprint, chunk and digest key. -/
def readFpBody (body : List Byte) : List (Nat × Nat × Nat) :=
  ((chunksOf 40 102 body).filter (fun b => b.length == 40 && b.any (· != 0))).map (fun b => (leField b 0 32, leField b 32 6, leField b 38 1))

/-- The places of a directory page's body. -/
def readDirBody (body : List Byte) : List Nat := ((chunksOf 8 512 body).map leNat).filter (fun p => p != 0 && decide (p < 2 ^ 48))

end Sys2Proof.Machine
end

