-- ==== Sys2Proof/Machine/FlashTables.lean ====
section
/-!
DEFINITION. Machine/FlashTables.lean: FTL's tables (chapter 05, R155 to R175, R204): the map with its epochs and
snapshots, the chunk table, journal records and their application, checkpoints and Recovery.
-/

namespace Sys2Proof.Machine

/-! The tables. -/

/-- The live map entry of a granule; unmapped when there is none. -/
def FtlTables.entry (t : FtlTables) (nsid g : Nat) : Option MapEntry := Tab.find t.map (granuleKey nsid g)

/-- The map epoch and snapshots of a namespace; the epoch is 1 when it is created (R164). -/
def FtlTables.epoch (t : FtlTables) (nsid : Nat) : NsEpoch := Tab.getD t.epochs nsid ⟨1, []⟩

/-- The chunk an entry resolves to: an alias resolves to its target (R159). -/
def FtlTables.target (t : FtlTables) (chunk : Nat) : Nat :=
  match Tab.find t.chunks chunk with
  | some c => if c.state = 3 then c.loc1 else chunk
  | none => chunk

/-- What a namespace bound to a snapshot resolves a granule to (R166). Of several retained entries that satisfy the rule, which a
write admitted before the snapshot and applied after it leaves, the newest was live at the end of the epoch (R164). -/
def FtlTables.entryAt (t : FtlTables) (nsid g me : Nat) : Option MapEntry :=
  match t.entry nsid g with
  | some e => if e.birth ≤ me then some e else retainedAt
  | none => retainedAt
where
  retainedAt : Option MapEntry :=
    ((t.retained.filter (fun r => r.nsid == nsid && r.granule == g && decide (r.entry.birth ≤ me) &&
      decide (me < r.death))).map (·.entry)).foldl (fun best e =>
        match best with
        | some b => if b.birth ≤ e.birth then some e else best
        | none => some e) none

/-- Some existing snapshot sees an entry (R165). -/
def NsEpoch.sees (n : NsEpoch) (birth death : Nat) : Bool :=
  n.snaps.any (fun e => decide (birth ≤ e) && decide (e < death))

/-- Replaces the tables. -/
def State.setTables (s : State) (t : FtlTables) : State := { s with ftl := { s.ftl with tables := t } }

/-- A chunk-table entry changed. -/
def State.modifyChunk (s : State) (chunk : Nat) (f : ChunkEntry → ChunkEntry) : State :=
  s.setTables { s.ftl.tables with chunks := Tab.modify s.ftl.tables.chunks chunk f }

/-- An entry that named an alias is gone or names its target now: the alias counts one fewer, and is freed at zero (R159). -/
def State.unnameAlias (s : State) (chunk : Nat) : State :=
  match Tab.find s.ftl.tables.chunks chunk with
  | none => s
  | some c =>
    if c.state ≠ 3 then s
    else if c.refCount ≤ 1 then s.setTables { s.ftl.tables with chunks := Tab.erase s.ftl.tables.chunks chunk }
    else s.modifyChunk chunk (fun c => { c with refCount := c.refCount - 1 })

/-- A live entry is replaced or removed: kept as a retained entry when a snapshot sees it, else its chunk owes a
decrement (R165, R71). -/
def State.retireEntry (s : State) (nsid g cause item : Nat) : State :=
  match s.ftl.tables.entry nsid g with
  | none => s
  | some e =>
    let n := s.ftl.tables.epoch nsid
    if n.sees e.birth n.me then
      let kept : Retained := { nsid := nsid, granule := g, entry := e, death := n.me }
      s.setTables { s.ftl.tables with
        map := Tab.erase s.ftl.tables.map (granuleKey nsid g),
        retained := s.ftl.tables.retained ++ [kept] }
    else
      let s1 := s.setTables { s.ftl.tables with map := Tab.erase s.ftl.tables.map (granuleKey nsid g) }
      if e.typ = 2 then
        let o : Owed := { chunk := s1.ftl.tables.target e.chunk, page := mapPageKey nsid g, cause := cause, item := item }
        ({ s1 with ftl := { s1.ftl with owed := s1.ftl.owed ++ [o] } } : State).unnameAlias e.chunk
      else s1

/-- The block of a moss place, as a key (R157). -/
def blockKeyOf (place : Nat) : Nat := place / 2 ^ 20

/-- The byte offset of a moss place in its block. -/
def mossOffset (place : Nat) : Nat := place % 2 ^ 20 * 64

/-- A place is in the bulk tier (R157). -/
def isBulk (place : Nat) : Bool := decide (place ≥ 2 ^ 47)

/-- The stripe of a bulk place. -/
def stripeOf (place : Nat) : Nat := place / 2 ^ 27 % 2 ^ 20

/-- The data-space byte offset of a bulk place. -/
def stripeOffset (place : Nat) : Nat := place % 2 ^ 27 * 64

/-- Stored bytes at a place become dead space (R158, R189). -/
def State.deadSpace (s : State) (place units : Nat) : State :=
  if isBulk place then
    let less (x : Stripe) : Stripe := { x with valid := x.valid - units * 64 }
    { s with ftl := { s.ftl with stripes := Tab.modify s.ftl.stripes (stripeOf place) less } }
  else
    let less (b : MossBlock) : MossBlock := { b with live := b.live - units * 64 }
    { s with ftl := { s.ftl with
        freedNow := s.ftl.freedNow + units * 64,
        blocks := Tab.modify s.ftl.blocks (blockKeyOf place) less } }

/-- The bytes of both places of a chunk become dead space. -/
def State.deadChunk (s : State) (c : ChunkEntry) : State :=
  if c.state = 1 then (s.deadSpace c.loc0 c.units).deadSpace c.loc1 c.units
  else if c.state = 2 then s.deadSpace c.loc0 c.units else s

/-- The record that carries a movement's RELOC item has been applied: the chunk's entry names the new place. -/
def State.moveApplied (s : State) (m : Movement) : Bool :=
  m.jseq.any (fun q => match s.ftl.journal.find? (fun r => r.jseq == q) with
    | some r => r.applied
    | none => decide (q ≤ s.ftl.jseq))

/-- The movement of a chunk that is freed ends (R160): before its item is applied its new bytes in the moss tier are dead space
(bulk bytes were never counted); after that the old places, which the entry no longer names, are. -/
def State.dropMove (s : State) (chunk : Nat) : State :=
  match Tab.find s.ftl.moves chunk with
  | none => s
  | some m =>
    let s1 : State := { s with ftl := { s.ftl with moves := Tab.erase s.ftl.moves chunk } }
    if s.moveApplied m then m.old.foldl (fun (t : State) p => t.deadSpace p (m.oldUnits.getD m.units)) s1
    else if m.state = 1 ∧ m.newMoss ≠ [] then m.newMoss.foldl (fun (t : State) p => t.deadSpace p m.units) s1 else s1

/-- A chunk's count in the full index raised (R58, R60); saturation marks it PERM in the hot set too. -/
def State.addRef (s : State) (chunk n : Nat) : State :=
  match Tab.find s.ftl.tables.chunks chunk with
  | none => s
  | some c =>
    if c.perm then s
    else if saturates c.refCount n c.perm then s.markPerm chunk
    else s.modifyChunk chunk (fun c => { c with refCount := c.refCount + n })

/-- A decrement takes effect (R158, R171): at zero the entry is freed and its bytes are dead. A decrement of an alias is one of
its target, to which the count has moved (R159). -/
def State.dropRef (s : State) (named n : Nat) : State :=
  let chunk := s.ftl.tables.target named
  match Tab.find s.ftl.tables.chunks chunk with
  | none => s
  | some c =>
    if c.perm then s
    else if c.refCount ≤ n then
      (((s.deadChunk c).dropMove chunk).setTables { s.ftl.tables with
        chunks := Tab.erase s.ftl.tables.chunks chunk }).hotRemove chunk
    else s.modifyChunk chunk (fun c => { c with refCount := c.refCount - n })

/-- Map entries of a page that name an alias are rewritten to name its target (R159). -/
def State.rewriteAliases (s : State) (page : Nat) : State :=
  let t := s.ftl.tables
  let hits := t.map.filter (fun p => p.1 / 2 ^ 64 = page / 2 ^ 64 ∧ p.1 % 2 ^ 64 / 256 = page % 2 ^ 64 ∧
    t.target p.2.chunk ≠ p.2.chunk)
  hits.foldl (fun (u : State) p =>
    (u.setTables { u.ftl.tables with
      map := Tab.insert u.ftl.tables.map p.1 { p.2 with chunk := u.ftl.tables.target p.2.chunk } }).unnameAlias p.2.chunk) s

/-- The order in which a unit passes through its states: open, closed, refresh, erase intent. -/
def unitRank (state : Nat) : Nat :=
  match state with
  | 1 => 1
  | 2 => 2
  | 5 => 3
  | 3 => 4
  | _ => 0

/-- A UNIT item (R170): a unit's state never falls back, since the state it names may have been left already; state 0
returns the unit to the free pool (R190). An anchor block that has been erased is the active one next (R174). A block known only
from the item has nothing live. -/
def State.applyUnit (s : State) (kind id state : Nat) : State :=
  if kind = 0 then
    let set (x : Stripe) : Stripe := { x with state := if unitRank x.state < unitRank state then state else x.state }
    { s with ftl := { s.ftl with
        stripes := if state = 0 then Tab.erase s.ftl.stripes id else Tab.modify s.ftl.stripes id set } }
  else
    let key := blockKeyOf id
    let set (b : MossBlock) : MossBlock :=
      { b with state := if unitRank b.state < unitRank state then state else b.state }
    let set (b : MossBlock) : MossBlock :=
      if kind = 3 ∧ state = 1 ∧ b.state = 3 then { b with state := 1, fill := 0 } else set b
    let fresh : MossBlock := { use := if kind = 1 then 0 else if kind = 2 then 1 else 3, state := state, fill := 0, live := 0, opened := s.now }
    { s with ftl := { s.ftl with
        blocks := if state = 0 then Tab.erase s.ftl.blocks key
          else if state = 4 then s.ftl.blocks
          else if (Tab.find s.ftl.blocks key).isSome then Tab.modify s.ftl.blocks key set
          else Tab.insert s.ftl.blocks key fresh } }

/-- A chunk's new place counts as live bytes of its stripe (R186). -/
def State.liveBulk (s : State) (place units : Nat) : State :=
  let more (x : Stripe) : Stripe := { x with valid := x.valid + units * 64 }
  { s with ftl := { s.ftl with stripes := Tab.modify s.ftl.stripes (stripeOf place) more } }

/-! The wear reserve (R199). -/

/-- A module's reserve consumption is reported on its thresholds (R199): the percent and event bit of each. -/
def reserveMarks : List (Nat × Nat × Nat) := [(50, 0, 7), (80, 1, 8), (95, 2, 9), (100, 3, 16)]

/-- RES_EVAC requests an evacuation, which waits in the queue of reshapes when AUTO_EVAC is 1 (R199, R240). -/
def State.requestEvac (s : State) (n : Nat) : State :=
  if n ∈ s.rdn.evacQueue ∨ (s.rdn.reshape.any (fun r => r.kind == 1 && r.module == n)) then s
  else { s with rdn := { s.rdn with evacQueue := s.rdn.evacQueue ++ [n] } }

/-- The thresholds of R199, once the module's descriptor has declared its spare blocks. -/
def State.reserveCheck (s : State) (n : Nat) : State :=
  if !(Tab.find s.frn.ports n).any (fun p => p.desc.isSome) || s.fld (F.FTL.MOD_WEAR0.RETIRED.nth n) == 0 then s
  else reserveMarks.foldl (fun (t : State) m =>
    let now := t.fld (F.FTL.MOD_WEAR0.STATE.nth n)
    if !now.testBit m.2.1 ∧ 100 * t.fld (F.FTL.MOD_WEAR0.RETIRED.nth n) ≥ m.1 * t.fld (F.FTL.MOD_WEAR0.RESERVE.nth n) then
      let t1 := t.put (F.FTL.MOD_WEAR0.STATE.nth n) (now + 2 ^ m.2.1)
      let t2 := if m.2.1 = 3 then t1 else t1.event Src.FTL m.2.2 n
      if m.2.1 = 2 ∧ t2.fld F.RDN.CONFIG.AUTO_EVAC = 1 then t2.requestEvac n else t2
    else t) s

/-! Items (R170, R171). -/

/-- An item is applied: `cause` and `item` name it for the decrements it owes. An ALIAS item moves the count that the newer
chunk then has: its COUNT, fixed when the record is formed, foresees the records before it (R159, R170). A RELOC item of a
chunk that has been aliased since is dropped (R160). What a SNAP item records the command or the sweep has done (R164, R167). -/
def State.applyItem (s : State) (cause item : Nat) : JItem → State
  | .map nsid g e =>
    let s1 := s.retireEntry nsid g cause item
    let chunk := s1.ftl.tables.target e.chunk
    let e := if e.typ = 2 then { e with chunk := chunk } else e
    let s2 := s1.setTables { s1.ftl.tables with map := Tab.insert s1.ftl.tables.map (granuleKey nsid g) e }
    if e.typ = 2 then s2.addRef chunk 1 else s2
  | .chunkNew chunk keyId units loc0 loc1 granules fp dkey =>
    s.setTables { s.ftl.tables with
      chunks := Tab.insert s.ftl.tables.chunks chunk
        ⟨loc0, loc1, 1, granules, false, false, units, 0, keyId, fp, dkey⟩ }
  | .reloc chunk keyId units loc0 state loc1 =>
    if (Tab.find s.ftl.tables.chunks chunk).all (fun c => c.state == 3) then s
    else
      let s1 := (s.modifyChunk chunk (fun c => { c with
        keyId := keyId, units := units, loc0 := loc0, state := state, loc1 := loc1 })).hotModify chunk
        (fun h => { h with keyId := keyId })
      if state = 2 then s1.liveBulk loc0 units else s1
  | .alias_ chunk target _ =>
    match Tab.find s.ftl.tables.chunks chunk with
    | none => s
    | some c =>
      let count := c.refCount
      let names := (s.ftl.tables.map.filter (fun p => p.2.typ = 2 ∧ p.2.chunk = chunk)).length +
        (s.ftl.tables.retained.filter (fun r => r.entry.typ = 2 ∧ r.entry.chunk = chunk)).length
      let s1 := (s.deadChunk c).modifyChunk chunk
        (fun (c : ChunkEntry) => { c with state := 3, loc1 := target, refCount := names })
      let owed (o : Owed) : Owed := if o.chunk = chunk then { o with chunk := target } else o
      let s1 : State := { s1 with ftl := { s1.ftl with owed := s1.ftl.owed.map owed } }
      let s1 := if names = 0 then s1.setTables { s1.ftl.tables with chunks := Tab.erase s1.ftl.tables.chunks chunk } else s1
      let s2 := s1.addRef target count
      let pages := ((s2.ftl.tables.map.filter (fun p => p.2.typ = 2 ∧ p.2.chunk = chunk)).map (fun p =>
        p.1 / 2 ^ 64 * 2 ^ 64 + p.1 % 2 ^ 64 / 256)).dedup.filter (fun k => k ∈ s2.ftl.mapCached)
      pages.foldl State.rewriteAliases s2
  | .deref chunk _ _ count => s.dropRef chunk count
  | .keyres keyId res slot =>
    let id := keyId * 2 + slot
    { s with ftl := { s.ftl with keyres := Tab.insert s.ftl.keyres id (max res (Tab.getD s.ftl.keyres id 0)) } }
  | .snap _ _ _ => s
  | .dealloc nsid first count =>
    let keys := (s.ftl.tables.map.filter (fun p => p.1 / 2 ^ 64 = nsid ∧ first ≤ p.1 % 2 ^ 64 ∧
      p.1 % 2 ^ 64 < first + count)).map (fun p => p.1 % 2 ^ 64)
    keys.foldl (fun (t : State) g => t.retireEntry nsid g cause item) s
  | .unit kind id state => s.applyUnit kind id state
  | .retire module die block _ =>
    let key := (module * 128 + die) * 8192 + block
    let w := Tab.getD s.ftl.wear key ⟨0, [], false⟩
    if w.retired then s
    else (({ s with ftl := { s.ftl with wear := Tab.insert s.ftl.wear key { w with retired := true } } } : State).saturate
      (F.FTL.MOD_WEAR0.RETIRED.nth module)).reserveCheck module
  | .pageWb _ _ _ _ => s
  | .ckpt _ _ _ => s
  | .rsv nsid op _ _ _ _ _ _ => s.event Src.CMF 5 nsid op

/-- The items of a record, together and in item order (R171). -/
def State.applyItems (s : State) (jseq : Nat) : Nat → List JItem → State
  | _, [] => s
  | i, x :: xs => (s.applyItem jseq i x).applyItems jseq (i + 1) xs

/-! Metadata pages (R162, R163, R171). -/

/-- A metadata page as FTL keeps it; one not seen before has never been written back. -/
def Ftl.page (f : Ftl) (id : Nat) : MetaPage :=
  Tab.getD f.pages id { applied := 0, since := none, loc := none, written := [], wb := 0, earlier := [] }

/-- A metadata page kept. -/
def State.setPage (s : State) (id : Nat) (p : MetaPage) : State :=
  { s with ftl := { s.ftl with pages := Tab.insert s.ftl.pages id p } }

/-- A record has been applied to a page: its APPLIED_SEQ is the record's JSEQ (R162), and the page is dirty with it until it is
written back (R163). -/
def State.touchPage (s : State) (jseq id : Nat) : State :=
  let p := s.ftl.page id
  s.setPage id { p with applied := jseq, since := some (p.since.getD jseq) }

/-- The stripe-table pages that UNIT items name. -/
def unitPages (items : List JItem) : List Nat :=
  items.filterMap (fun i => match i with
    | .unit 0 id _ => some (pageId 5 0 id)
    | _ => none)

/-- What applying a record, by some function, does to the tables and to the pages that it changes. -/
def State.applyTouching (s : State) (jseq : Nat) (items : List JItem) (apply : State → State) : State :=
  let t := apply s
  ((s.ftl.changed t.ftl ++ unitPages items).dedup).foldl (fun (u : State) id => u.touchPage jseq id) t

/-! Records (R168, R169, R172). -/

/-- The length of an item in bytes (R170). -/
def JItem.bytes : JItem → Nat
  | .chunkNew .. => 64
  | .rsv .. => 64
  | _ => 32

/-- The length of a record with these items, header included. -/
def recordBytes (items : List JItem) : Nat := 32 + (items.map JItem.bytes).foldl (· + ·) 0

/-- Both copies of a record have passed verify (R168). -/
def JRec.durable (r : JRec) : Bool := r.copy0 == .ok && r.copy1 == .ok

/-- Both copies of a chunk have passed verify: no job of the write path still holds it (R65, first condition). -/
def State.chunkVerified (s : State) (chunk : Nat) : Bool :=
  s.rdx.chunks.all (fun p => p.2.addr != chunk || p.2.stage != .placed || (p.2.ok0 && p.2.ok1))

/-- The chunks an item creates. -/
def JItem.newChunks : JItem → List Nat
  | .chunkNew c _ _ _ _ _ _ _ => [c]
  | _ => []

/-- The chunks an item names. -/
def JItem.names : JItem → List Nat
  | .chunkNew c _ _ _ _ _ _ _ => [c]
  | .map _ _ e => if e.typ = 2 then [e.chunk] else []
  | _ => []

/-- DONE_SEQ of a record formed now (R169): the highest JSEQ up to which every record is durable with its new chunks
verified. -/
def State.doneSeq (s : State) : Nat :=
  let done (r : JRec) : Bool := r.durable && (r.items.flatMap JItem.newChunks).all s.chunkVerified
  match s.ftl.journal.dropWhile done with
  | [] => s.ftl.jseq
  | r :: _ => r.jseq - 1

/-- A record is formed (R169). -/
def State.formRecord (s : State) (items : List JItem) (cmd : Option Nat) (forPeer : Bool) : State :=
  let n := s.ftl.jseq + 1
  let r : JRec := { jseq := n, doneSeq := s.doneSeq, epoch := s.fld F.FRN.EPOCH.EPOCH, items := items, cmd := cmd,
                    copy0 := .waiting, copy1 := .waiting, block0 := none, block1 := none, applied := false, qualified := none, delta := none, handed := !forPeer,
                    forPeer := forPeer, superseded := false }
  let s1 : State := { s with ftl := { s.ftl with
      journal := s.ftl.journal ++ [r], jseq := n, sinceCkpt := s.ftl.sinceCkpt + recordBytes items } }
  s1.count F.FTL.STAT.COUNT 12

/-- Records of the journal changed. -/
def State.mapJournal (s : State) (f : JRec → JRec) : State :=
  { s with ftl := { s.ftl with journal := s.ftl.journal.map f } }

/-- The items of a write cut into records of at most 16,384 bytes, between granules (R172): an item group is the items
of one granule. -/
def cutRecords : List (List JItem) → List JItem → List (List JItem)
  | [], acc => if acc = [] then [] else [acc]
  | g :: gs, acc =>
    if acc ≠ [] ∧ recordBytes (acc ++ g) > 16384 then acc :: cutRecords gs g
    else cutRecords gs (acc ++ g)

/-- A command's completion has not been posted, so its changes are not visible (R289, R290). -/
def State.unposted (s : State) (cmd : Nat) : Bool :=
  match Tab.find s.cmf.cmds cmd with
  | some c => c.stage != .posted && c.stage != .transmitted
  | none => false

/-- A record is durable, its write has been posted, and every chunk it names has both copies verified, or it is superseded: its items may be
applied. A record whose chunk is not yet verified waits, so that R68 can still supersede it (assumption 12). -/
def State.settled (s : State) (r : JRec) : Bool :=
  r.durable && !(r.cmd.any s.unposted && !r.superseded) && (r.superseded || (r.items.flatMap JItem.names).all s.chunkVerified)

/-- The highest RES that the records give a KEY_ID and a head slot, and no less than one known (R126). -/
def highestOf (rs : List JRec) (keyId slot known : Nat) : Nat :=
  (rs.flatMap JRec.items).foldl (fun m i => match i with
    | .keyres k r h => if k = keyId ∧ h = slot then max m r else m
    | _ => m) known

/-- Blocks of this head whose KEYRES record is verified are usable from this boundary on (R125). -/
def State.reservationsDurable (s : State) : State :=
  let mark (p : Nat × KeySlot) : Nat × KeySlot :=
    (p.1, { p.2 with durable := highestOf (s.ftl.journal.filter JRec.durable) p.2.keyId s.tck.headSlot p.2.durable })
  { s with cip := { s.cip with data := s.cip.data.map mark } }

/-- Settled records are applied in JSEQ order (R171); a superseded one changes nothing (R68), and one of a checkpoint names what
stands already (R173). -/
def State.applyDurable (s : State) : State :=
  let ready := (s.ftl.journal.takeWhile s.settled).filter (fun r => !r.applied)
  ready.foldl (fun (t : State) (r : JRec) =>
    let t1 := if r.superseded ∨ !r.forPeer then t else t.applyTouching r.jseq r.items (fun u => u.applyItems r.jseq 0 r.items)
    t1.mapJournal (fun (q : JRec) => if q.jseq = r.jseq then { q with applied := true } else q)) s

/-- What an item makes of a granule: its new entry; a DEALLOC unmaps. -/
def JItem.entryOf (nsid g : Nat) : JItem → Option MapEntry
  | .map n g' e => if n = nsid ∧ g' = g then some e else none
  | .dealloc n first count => if n = nsid ∧ first ≤ g ∧ g < first + count then some ⟨0, 0, 0, 0⟩ else none
  | _ => none

/-- The map entry a granule resolves to (R74): the newest settled record that waits for its turn under R171, else the
map. -/
def State.liveEntry (s : State) (nsid g : Nat) : Option MapEntry :=
  let waiting := (s.ftl.journal.filter (fun r => !r.applied && !r.superseded && s.settled r)).reverse
  match waiting.findSome? (fun r => r.items.reverse.findSome? (JItem.entryOf nsid g)) with
  | some e => if e.typ = 0 then none else some e
  | none => s.ftl.tables.entry nsid g

/-- The chunk-table entry of a chunk, an alias resolved: from the table, or from a settled record that waits. -/
def State.chunkEntry (s : State) (chunk : Nat) : Option ChunkEntry :=
  match Tab.find s.ftl.tables.chunks (s.ftl.tables.target chunk) with
  | some c => some c
  | none =>
    s.ftl.journal.findSome? (fun r => r.items.findSome? (fun i => match i with
      | .chunkNew c keyId units loc0 loc1 granules fp dkey =>
        if c = chunk ∧ !r.superseded then some ⟨loc0, loc1, 1, granules, false, false, units, 0, keyId, fp, dkey⟩
        else none
      | _ => none))

/-- The chunk that a number stands for once every record formed is applied: an ALIAS item waits for its turn (R159). -/
def State.finalChunk (s : State) (chunk : Nat) : Nat :=
  (((s.ftl.journal.filter (fun r => !r.applied)).flatMap JRec.items).findSome? (fun i => match i with
    | .alias_ c target _ => if c = chunk then some target else none
    | _ => none)).getD (s.ftl.tables.target chunk)

/-- Decrements owed whose map page is present are journalled as DEREF items, in records within the limit of R169 (R71, R171);
the others wait for their page. -/
def State.resolveOwed (s : State) : State :=
  let due := s.ftl.owed.filter (fun o => s.ftl.mapCached.contains o.page)
  let s1 : State := { s with ftl := { s.ftl with owed := s.ftl.owed.filter (fun o => !s.ftl.mapCached.contains o.page) } }
  (cutRecords (due.map (fun (o : Owed) => [JItem.deref (s.finalChunk o.chunk) o.cause o.item 1])) []).foldl
    (fun (t : State) items => t.formRecord items none true) s1

/-! What the records formed make of the map (R58, R159). -/

/-- What an item does to the live entries: the map after it, the chunks it names anew, and those it lets go, once for each
granule; an entry that a snapshot sees is kept (R165). -/
def FtlTables.remap (t : FtlTables) (m : Tab MapEntry) : JItem → Tab MapEntry × List Nat × List Nat
  | .map nsid g e =>
    (Tab.insert m (granuleKey nsid g) e, if e.typ = 2 then [e.chunk] else [], (Tab.find m (granuleKey nsid g)).toList.filterMap (gone nsid))
  | .dealloc nsid first count =>
    let here (p : Nat × MapEntry) : Bool :=
      p.1 / 2 ^ 64 == nsid && decide (first ≤ p.1 % 2 ^ 64) && decide (p.1 % 2 ^ 64 < first + count)
    (m.filter (fun p => !here p), [], ((m.filter here).map Prod.snd).filterMap (gone nsid))
  | _ => (m, [], [])
where
  /-- The chunk that loses a granule when an entry goes. -/
  gone (nsid : Nat) (e : MapEntry) : Option Nat :=
    if e.typ = 2 ∧ !(t.epoch nsid).sees e.birth (t.epoch nsid).me then some e.chunk else none

/-- The same of items one after another. -/
def FtlTables.remapAll (t : FtlTables) (m : Tab MapEntry) : List JItem → Tab MapEntry × List Nat × List Nat
  | [] => (m, [], [])
  | i :: is =>
    let (m1, named, gone) := t.remap m i
    let (m2, named', gone') := t.remapAll m1 is
    (m2, named ++ named', gone ++ gone')

/-- The items formed and still to be applied. -/
def State.formedItems (s : State) : List JItem :=
  (s.ftl.journal.filter (fun r => !r.applied && !r.superseded)).flatMap JRec.items

/-- The map with everything formed applied, and the chunks so named and let go. -/
def State.formed (s : State) : Tab MapEntry × List Nat × List Nat := s.ftl.tables.remapAll s.ftl.tables.map s.formedItems

/-- The count that the full index will hold for a chunk once everything formed is applied and every decrement owed has taken
effect. -/
def State.expectedCount (s : State) (chunk : Nat) : Nat :=
  match Tab.find s.ftl.tables.chunks chunk with
  | none => 0
  | some e =>
    if e.perm then e.refCount
    else
      let (_, named, gone) := s.formed
      let here (c : Nat) : Bool := s.finalChunk c == chunk
      let derefs := s.formedItems.foldl (fun t i => match i with | .deref c _ _ n => if here c then t + n else t | _ => t) 0
      e.refCount + (named.filter here).length - (gone.filter here).length - derefs - (s.ftl.owed.filter (fun o => here o.chunk)).length

/-- The cached counts of chunks that have lost granules in the tick are lowered at its end, after every increment of the tick
(R58, R59). -/
def State.lowerCounts (s : State) : State :=
  let s1 : State := { s with rdx := { s.rdx with lowered := [] } }
  s.rdx.lowered.foldl (fun (t : State) c => t.hotLower c 1) s1

/-- Chunks lose granules in this tick. -/
def State.willLower (s : State) (chunks : List Nat) : State :=
  { s with rdx := { s.rdx with lowered := s.rdx.lowered ++ chunks.map s.finalChunk } }

/-! The loading of regions (R62). -/

/-- The chunks of the full index whose fingerprint lies in a region, in ascending number. -/
def State.regionChunks (s : State) (region : Nat) : List (Nat × ChunkEntry) :=
  let of (f : Ftl) : List (Nat × ChunkEntry) :=
    f.tables.chunks.filter (fun p => (p.2.state == 1 || p.2.state == 2) && regionOf p.2.fp == region)
  of s.ftl ++ (match s.other with | some o => of o.1 | none => [])

/-- A chunk of the full index enters its page of the hot set: in the first free slot; with none free it is left out. What AGE it
enters with no rule states: a free value (assumption 23). -/
def State.loadEntry (s : State) (p : Nat × ChunkEntry) : State :=
  if s.rdx.hot.any (fun h => h.2.addr == p.1) then s
  else match (List.range 8).find? (fun i => (Tab.find s.rdx.hot (hotKey s.hotK p.2.fp i)).isNone) with
    | none => s
    | some i =>
      let (n, s1) := s.draw
      let e : HotEntry := {
        fpPart := fpPartOf p.2.fp, addr := p.1, granules := p.2.granules, isPend := false, perm := p.2.perm, lost := p.2.lost,
        age := Config.freeNat n % 4, refCount := countOf s p.1, keyId := p.2.keyId }
      { s1 with rdx := { s1.rdx with hot := Tab.insert s1.rdx.hot (hotKey s.hotK p.2.fp i) e } }
where
  /-- The count of a chunk of either side. -/
  countOf (s : State) (chunk : Nat) : Nat :=
    if s.ftl.side = chunk / 2 ^ 47 then s.expectedCount chunk else s.swapSides.expectedCount chunk

/-- SB_REGION_LOAD (R62): the next region is loaded from the full index and marked warm; after the last one SB_WARM is
set. Entries the region already holds stay. Chunks enter in ascending number, and those that find no slot in their page are left
out: the rule names neither (assumption 59). -/
def execSbRegionLoad (s : State) : Host.Outcome State Fault Refusal :=
  .next (if s.rdx.warm ≥ 2 ^ 18 ∨ !s.granted Cls.mapWork then s else
    let warm := s.rdx.warm + 1
    let t := (s.regionChunks s.rdx.warm).foldl State.loadEntry s.spendMeta
    let t : State := { t with rdx := { t.rdx with warm := warm, loading := decide (warm < 2 ^ 18) } }
    if warm = 2 ^ 18 then t.event Src.RDX 0 else t)

/-! Checkpoints (R173). -/

/-- CHECKPOINT_START (R173): the journal written since the last checkpoint exceeds the threshold. -/
def execCheckpointStart (s : State) : Host.Outcome State Fault Refusal :=
  .next (s.eitherSide (fun (s : State) => if s.ftl.ckpt.isNone ∧ s.ftl.sinceCkpt > s.fld F.FTL.CKPT_CTL.GIB * 2 ^ 30 then
    { s with ftl := { s.ftl with ckpt := some s.ftl.jseq } } else s))

/-! Snapshots (R164 to R167). -/

/-- The snapshot command executes in step 3 of the boundary after its write (R164, R167). -/
def State.runSnapCommand (s : State) : State :=
  match s.ftl.snapCmd with
  | none => s
  | some op =>
    let nsid := s.fld F.FTL.SNAP_ARG.NSID
    let me := s.fld F.FTL.SNAP_ARG.ME
    let s00 : State := { s with ftl := { s.ftl with snapCmd := none } }
    let s0 := s00.put F.FTL.SNAP_STATUS.BUSY 0
    let known := cmfHas s nsid
    if !known then s0.put F.FTL.SNAP_STATUS.RESULT 1
    else
      let n := s.ftl.tables.epoch nsid
      if op = 1 then
        if n.snaps.length ≥ 65535 ∨ n.me ≥ 0xFFFFFFFE then s0.put F.FTL.SNAP_STATUS.RESULT 2
        else
          let s1 := s0.setTables { s0.ftl.tables with
            epochs := Tab.insert s0.ftl.tables.epochs nsid ⟨n.me + 1, n.snaps ++ [n.me]⟩ }
          ((s1.formRecord [.snap nsid n.me 1] none true).put F.FTL.SNAP_STATUS.RESULT 0).put F.FTL.SNAP_STATUS.ME n.me
      else if me ∉ n.snaps then s0.put F.FTL.SNAP_STATUS.RESULT 3
      else
        let s1 := s0.setTables { s0.ftl.tables with
          epochs := Tab.insert s0.ftl.tables.epochs nsid { n with snaps := n.snaps.erase me } }
        let w : SnapSweep := { nsid := nsid, me := me, wholeNs := false }
        let s2 : State := { s1 with ftl := { s1.ftl with sweeps := s1.ftl.sweeps ++ [w] } }
        (s2.formRecord [.snap nsid me 2] none true).put F.FTL.SNAP_STATUS.RESULT 0
where
  /-- The namespace is in the namespace table. -/
  cmfHas (s : State) (nsid : Nat) : Bool := nsid != 0 && (Tab.find s.ftl.tables.epochs nsid).isSome

/-- SNAP_SWEEP (R167): within the pacer's grant, the sweep of a namespace's retained pages ends: every entry that no remaining snapshot sees is
dropped with a DEREF item, a SNAP item with OP 3 is journalled, and SNAP_DONE is set. The sweep of a deleted
namespace takes its map entries too. -/
def execSnapSweep (nsid : Nat) (s : State) : Host.Outcome State Fault Refusal :=
  .next (s.eitherSide (fun (s : State) => match s.ftl.sweeps.find? (fun (w : SnapSweep) => w.nsid == nsid) with
    | none => s
    | some w =>
      if !s.granted Cls.mapWork then s else
      let s := s.spendMeta
      let t := s.ftl.tables
      let n := t.epoch nsid
      let gone := t.retained.filter (fun (r : Retained) => r.nsid == nsid && (w.wholeNs || !n.sees r.entry.birth r.death))
      let live : Tab MapEntry := if w.wholeNs then t.map.filter (fun p => p.1 / 2 ^ 64 = nsid) else []
      let chunks := (gone.map Retained.entry ++ live.map Prod.snd).filterMap (fun (e : MapEntry) => if e.typ = 2 then some e.chunk else none)
      let s1 := s.setTables { t with
        retained := t.retained.filter (fun r => r ∉ gone),
        map := if w.wholeNs then t.map.filter (fun p => p.1 / 2 ^ 64 ≠ nsid) else t.map,
        epochs := if w.wholeNs then Tab.erase t.epochs nsid else t.epochs }
      let s2 : State := { s1 with ftl := { s1.ftl with sweeps := s1.ftl.sweeps.erase w } }
      let items : List JItem := chunks.map (fun c => JItem.deref (s.finalChunk c) s2.ftl.jseq 0 1) ++ [.snap nsid w.me 3]
      ((cutRecords (items.map (fun x => [x])) []).foldl (fun (u : State) x => u.formRecord x none true) (chunks.foldl State.unnameAlias (s2.willLower chunks))).event Src.FTL 14 nsid w.me))

/-! The key query (R204). -/

/-- Chunks stored under a KEY_ID in STATE 1 or 2 (R204). -/
def State.chunksUnder (s : State) (keyId : Nat) : Nat :=
  let here (f : Ftl) : Nat := (f.tables.chunks.filter (fun p => p.2.keyId = keyId ∧ (p.2.state = 1 ∨ p.2.state = 2))).length
  here s.ftl + (match s.other with | some (f, _) => here f | none => 0)

/-- The answer at the boundary after the write of KEYQ_ID (R204). -/
def State.answerKeyQuery (s : State) : State :=
  if s.ftl.keyQuery then
    let s1 : State := { s with ftl := { s.ftl with keyQuery := false } }
    ((s1.put F.FTL.KEYQ_COUNT.COUNT
      (s.chunksUnder (s.fld F.FTL.KEYQ_ID.KEY_ID))).put F.FTL.KEYQ_COUNT.VALID 1)
  else s

/-- MAP_PAGE_FETCH (R74): a map page arrives from DDR or flash; the commands that wait on it go on, and entries that
name an alias are rewritten (R159). -/
def execMapPageFetch (nsid page : Nat) (s : State) : Host.Outcome State Fault Refusal :=
  let key := nsid * 2 ^ 64 + page
  .next (s.eitherSide (fun (s : State) => if (Tab.find s.ftl.mapFetch key).isSome then
    let s1 : State := { s with ftl := { s.ftl with
        mapFetch := Tab.erase s.ftl.mapFetch key,
        mapCached := if key ∈ s.ftl.mapCached then s.ftl.mapCached else s.ftl.mapCached ++ [key] } }
    s1.rewriteAliases key
    else s))

end Sys2Proof.Machine
end

