-- ==== Sys2Proof/Machine/ReflectLink.lean ====
section
/-!
DEFINITION. Machine/ReflectLink.lean: the states and the frames of the Reflect link (chapter 11, R377 to R380). In the rows
that name a port, port 96 is the Reflect link.
-/

namespace Sys2Proof.Machine

/-- The port number by which the rows of R244 name the Reflect link. -/
def reflectPort : Nat := 96

/-- The state of the Reflect link (R244, R378): DETECT once it is enabled. -/
def State.reflect (s : State) : LinkState := if s.rfl.link = .off ∧ s.flag F.RFL.CTL.EN then .detect else s.rfl.link

/-- The Reflect link enters a state. -/
def State.reflectEnter (s : State) (st : LinkState) : State := { s with rfl := { s.rfl with link := st, linkSince := s.now } }

/-- Frames sent and not acknowledged (R250). -/
def Rfl.unacked (r : Rfl) : Nat := (r.txNext + 2 * 65536 - 1 - r.lack) % 65536

/-- Sequenced frames sent on the Reflect link. -/
def State.reflectSend (s : State) (frames : Nat) (o : Out) : State :=
  ({ s with rfl := { s.rfl with
      txNext := (s.rfl.txNext + frames) % 65536, ackAt := if s.rfl.unacked = 0 then s.now else s.rfl.ackAt } } : State).send o

/-- The frames of a run of bytes (R379): at most 16,384 bytes each. -/
def reflectFrames (bytes : Nat) : Nat := (bytes + 16383) / 16384

/-- A LACK covers an LSEQ. -/
def lackCovers (lack lseq : Nat) : Bool := decide ((lack + 65536 - lseq) % 65536 < 32768)

/-- A LACK arrives (R250): the deltas whose last frame it covers are acknowledged. -/
def Rfl.takeLack (r : Rfl) (lack now : Nat) : Rfl :=
  let done (d : Delta) : Bool := d.lseq.any (lackCovers lack)
  { r with
    lack := lack, heardAt := now, replays := if lack = r.lack then r.replays else 0,
    ackAt := if lack = r.lack then r.ackAt else now,
    acked := (r.deltas.filter done).foldl (fun m d => max m d.tick) r.acked,
    deltas := r.deltas.filter (fun d => !done d) }

/-- The replay or idle limit of R267 in UP: RETRAIN, or DOWN at the third entry within 500,000 ticks (R244, R378). -/
def State.reflectRetrain (s : State) : State :=
  if s.reflect ≠ .up then s
  else
    let recent := s.rfl.retrainAt.filter (fun t => t + 500000 > s.now)
    if recent.length < 3 then ({ s with rfl := { s.rfl with retrainAt := recent ++ [s.now] } } : State).reflectEnter .retrain
    else s.reflectEnter .down

/-- Every unacknowledged frame is replayed (R250). -/
def State.reflectReplay (s : State) : State :=
  let s1 : State := { s with rfl := { s.rfl with replays := s.rfl.replays + 1, ackAt := s.now } }
  if s1.rfl.replays > 4 then s1.reflectRetrain else s1.count F.RFL.STAT.COUNT 3 s1.rfl.unacked

/-! The rows of R244 for the Reflect link. -/

def State.reflectPattern (s : State) : State :=
  if s.reflect = .detect then (s.reflectEnter .train).send (.frondTraining reflectPort) else s

def State.reflectEqualised (s : State) : State :=
  if s.reflect = .train ∧ s.now ≤ s.rfl.linkSince + 50000 then s.reflectEnter .align else s

/-- A time limit of a state has run out. -/
def State.reflectLimit (s : State) (st : LinkState) (ticks : Nat) (next : LinkState) : State :=
  if s.reflect = st ∧ s.now ≥ s.rfl.linkSince + ticks then s.reflectEnter next else s

/-- ALIGN ends: LSEQ and the replay state are reset; deltas not acknowledged are to be sent again (R391). -/
def State.reflectAligned (s : State) : State :=
  if s.reflect = .align ∧ s.now ≤ s.rfl.linkSince + 5000 then
    let r : Rfl := { s.rfl with
      txNext := 0, lack := 65535, replays := 0, heardAt := s.now, ackAt := s.now,
      deltas := s.rfl.deltas.map (fun d => { d with lseq := none }) }
    ({ s with rfl := r } : State).reflectEnter .ident
  else s

/-- RETRAIN ends within its time: the unacknowledged frames are replayed. -/
def State.reflectRetrained (s : State) : State :=
  if s.reflect = .retrain ∧ s.now ≤ s.rfl.linkSince + 5000 then
    let s1 := s.reflectEnter .up
    ({ s1 with rfl := { s1.rfl with heardAt := s.now, ackAt := s.now, replays := 0 } } : State).count F.RFL.STAT.COUNT 3
      s1.rfl.unacked
  else s

/-- The link carries frames. -/
def State.reflectCarries (s : State) : Bool := s.reflect == .ident || s.reflect == .up || s.reflect == .retrain

/-- An ACK frame: an acknowledgement, or a NAK that asks for a replay. -/
def State.reflectAcked (s : State) (lack : Nat) (nak : Bool) : State :=
  if !s.reflectCarries then s
  else
    let s1 : State := { s with rfl := s.rfl.takeLack lack s.now }
    if nak then s1.reflectReplay else s1

/-- NAK and LACK of an ACK frame of the Reflect link (R249, R379, R380); none for a frame that is not accepted. -/
def readReflectAck (b : List Byte) : Option (Bool × Nat) :=
  let f := beField b
  if b.length = 28 ∧ f 0 1 = 0x20 ∧ f 1 1 < 2 ∧ f 2 2 = 0 ∧ f 6 2 = 0 ∧ f 20 2 = crc16 (b.take 20) ∧ f 22 2 = 0 ∧
      f 24 4 = crc32c (b.take 24) then
    some ((f 1 1).testBit 0, f 4 2)
  else none

/-- LACK has not advanced for 2 ticks while frames are unacknowledged. -/
def State.reflectReplayTimeout (s : State) : State :=
  if s.reflect = .up ∧ s.rfl.unacked ≠ 0 ∧ s.now ≥ s.rfl.ackAt + 2 then s.reflectReplay else s

/-- No frame has arrived for IDLE ticks (R267). -/
def State.reflectIdle (s : State) : State :=
  if s.reflect = .up ∧ s.now ≥ s.rfl.heardAt + s.fld F.FRN.TIMEOUT.IDLE then s.reflectRetrain else s

/-- RFL.CTL.EN has been written: 0 puts the link OFF; 1 starts it. -/
def State.reflectEnableWritten (s : State) : State :=
  if s.flag F.RFL.CTL.EN then (if s.rfl.link = .off then s.reflectEnter .detect else s) else s.reflectEnter .off

end Sys2Proof.Machine
end

