-- ==== Sys2Proof/Machine/Frond.lean ====
section
/-!
DEFINITION. Machine/Frond.lean: the Frond link to the flash modules (chapter 07, R242 to R271): link states,
frame acceptance and replay, credits, commands and responses, suspension, the epoch fence, errors, events and
reconciliation.
-/

namespace Sys2Proof.Machine

/-! Ports. -/

/-- A port that has no entry (R244): OFF at reset, DETECT from the first boundary after it when it is enabled and may train. -/
def State.coldPort (s : State) (n : Nat) : FrnPort := {
  state := if s.frn.begun = true ∧ s.fld (F.FRN.PORT_CTL.EN.nth n) = 1 ∧ n < s.fld F.FRN.CONFIG.PORTS then .detect else .off,
  since := 0, retrainAt := [], desc := none, txNext := 0, rxNext := 0, lack := 65535, store := [],
  replays := 0, ackAt := 0, heardAt := 0, nakSent := false, cmdLimit := 0, pageLimit := 0, cmdsSent := 0,
  pagesSent := 0, nextTag := 0, cmds := [], held := [], pages := [], cut := [], line := 0, fenced := [], refused := [], suspended := [],
  suspCount := [], bridgeFault := false, lostView := false, recon := none, mismatchAt := none,
  recovering := [] }

/-- Frond port n. -/
def State.port (s : State) (n : Nat) : FrnPort := Tab.getD s.frn.ports n (s.coldPort n)

/-- Frond port n replaced. -/
def State.setPort (s : State) (n : Nat) (p : FrnPort) : State :=
  { s with frn := { s.frn with ports := Tab.insert s.frn.ports n p } }

/-- The port enters a link state now (R244). -/
def FrnPort.enter (p : FrnPort) (st : LinkState) (now : Nat) : FrnPort := { p with state := st, since := now }

/-- The STATE code of FRN.PORT_STATUS. -/
def LinkState.code : LinkState → Nat
  | .off => 0
  | .detect => 1
  | .train => 2
  | .align => 3
  | .ident => 4
  | .up => 5
  | .retrain => 6
  | .down => 7
  | .fault => 8

/-- DP_VIEW of a port: usable when UP with no BRIDGE_FAULT, failed after a module loss, else absent (R271). -/
def FrnPort.dpView (p : FrnPort) : Nat :=
  if p.lostView then 2 else if p.state = .up ∧ !p.bridgeFault then 1 else 0

/-- The data path reports the module usable (R270). -/
def FrnPort.usable (p : FrnPort) : Bool := p.dpView == 1

/-- A die is present in a module's descriptor. -/
def FrnDesc.hasDie (d : FrnDesc) (die : Nat) : Bool := decide (die < d.dies) && d.dieMap.testBit die

/-- The head slot whose dies a die belongs to, under DIE_SPLIT (R180). -/
def State.dieSide (s : State) (d : FrnDesc) (die : Nat) : Nat :=
  if s.fld F.FTL.CONFIG.DIE_SPLIT = 0 then die % 2 else if die < d.dies / 2 then 0 else 1

/-- The head drives the die: one of its own half, or of a side it holds (R180). -/
def State.drives (s : State) (d : FrnDesc) (die : Nat) : Bool :=
  d.hasDie die && (s.dieSide d die == s.tck.headSlot || s.wit.own.testBit (s.dieSide d die))

/-- The dies the head drives on a module, as a mask (FRN.PORT_DRIVE_LO and HI, R180). -/
def State.driveMask (s : State) (d : FrnDesc) : Nat :=
  (List.range 128).foldl (fun m die => if s.drives d die then m + 2 ^ die else m) 0

/-- A die is failed: its bit of FRN.PORT_FAIL (R267, R269). -/
def State.dieFailed (s : State) (n die : Nat) : Bool :=
  if die < 64 then (s.fld (F.FRN.PORT_FAIL_LO.DIES.nth n)).testBit die
  else (s.fld (F.FRN.PORT_FAIL_HI.DIES.nth n)).testBit (die - 64)

/-- The bit of a failed die set. -/
def State.markDieFailed (s : State) (n die : Nat) : State :=
  if s.dieFailed n die then s
  else if die < 64 then s.put (F.FRN.PORT_FAIL_LO.DIES.nth n) (s.fld (F.FRN.PORT_FAIL_LO.DIES.nth n) + 2 ^ die)
  else s.put (F.FRN.PORT_FAIL_HI.DIES.nth n) (s.fld (F.FRN.PORT_FAIL_HI.DIES.nth n) + 2 ^ (die - 64))

/-! Commands. -/

/-- Opcodes of the write class (R253): PROGRAM, ERASE, PPROG. -/
def writeClass (op : Nat) : Bool := op == 2 || op == 3 || op == 7

/-- The DLEN each opcode requires (R253). -/
def requiredDlen (op count xlen : Nat) (md : Bool) : Nat :=
  match op with
  | 1 => 64 * xlen + 64 * md.toNat
  | 2 => 16448 * count
  | 7 => 64
  | 8 => 64 * xlen + 64 * md.toNat
  | 10 => 128
  | 11 => 64
  | _ => 0

/-- A command with the given opcode, place and purpose, every unused field zero (R252). -/
def frnCmd (op die block page count xlen : Nat) (md : Bool) (u : Purpose) (host : Bool) : FrnCmd := {
  op := op, die := die, block := block, page := page, count := count, mode := 0, retry := 0, col := 0,
  xlen := xlen, mask := 0, src := [], dlen := requiredDlen op count xlen md, purpose := u, host := host, epoch := 0,
  sent := 0, lseq := 0, probed := false, data := [] }

/-- Pages of write buffer a command takes (R251). -/
def FrnCmd.pagesTaken (c : FrnCmd) : Nat := if c.op = 2 then c.count else if c.op = 7 then 1 else 0

/-- Sequenced frames a command takes: its CMD frame and its WDATA frames (R248). -/
def FrnCmd.frames (c : FrnCmd) : Nat := 1 + c.pagesTaken

/-- Bytes of the frames of a command in the replay store. -/
def FrnCmd.frameBytes (c : FrnCmd) : Nat := 84 + (if c.op = 2 then c.count * 16468 else if c.op = 7 then 84 else 0)

/-! The line (R242, R243). -/

/-- Bits per microsecond that a lane carries after its coding (R242): 53,125 MBd of two bits, transcoded 256b/257b and protected
by RS(544,514). -/
def lineBits : Nat := 53125 * 2 * 256 * 514 / (257 * 544)

/-- The budget of a port in a tick: its frame bytes each way (R25, R242). -/
def State.portBudget (s : State) : Nat := lineBits * s.tickNs / 8000

/-- Bytes of a frame with its header and FCRC (R248). -/
def frameLen (payload : Nat) : Nat := 16 + payload + 4

/-- ACK, CREDIT, FENCE and STATUS go before any work of the classes of R26 (R243). -/
def FrnCmd.urgent (c : FrnCmd) : Bool := c.op == 9 || c.op == 6

/-- The class of a command on a port (R26). DESIGN CHOICE (assumption 58): IDENTIFY, HEALTH, SUSPEND and RESUME, which the spec
puts in no class, go with the host path. -/
def FrnCmd.hostClass (c : FrnCmd) : Bool := c.host || c.op == 10 || c.op == 11 || c.op == 4 || c.op == 5

/-- A port's line takes a frame of a class of R26 now (R25, R243): the frame fits the tick's budget; at a 1 us tick a page's frame
may begin while any of the budget is left. -/
def State.lineTakes (s : State) (p : FrnPort) (bytes : Nat) (page : Bool) : Bool :=
  if page && s.tickNs == 1000 then decide (p.line < s.portBudget) else decide (p.line + bytes ≤ s.portBudget)

/-- A frame sent on the line: its bytes, whatever their class, count against the budget (R243). -/
def FrnPort.onLine (p : FrnPort) (bytes : Nat) : FrnPort := { p with line := p.line + bytes }

/-- A sequenced frame sent: the next LSEQ, its place in the replay store, and the line (R249, R250). -/
def FrnPort.sendFrame (p : FrnPort) (bytes now : Nat) : FrnPort :=
  ({ p with
    txNext := (p.txNext + 1) % 65536
    store := p.store ++ [(p.txNext, bytes)]
    ackAt := if p.store = [] then now else p.ackAt } : FrnPort).onLine bytes

/-- The replay store leaves room for frames (R250). -/
def FrnPort.storeRoom (p : FrnPort) (frames bytes : Nat) : Bool :=
  decide (p.store.length + frames ≤ 16384) && decide ((p.store.map Prod.snd).foldl (· + ·) 0 + bytes ≤ 384 * 1024)

/-- The epoch the head places in every CMD frame (FRN.EPOCH, R265). -/
def State.frnEpoch (s : State) : Nat := s.fld F.FRN.EPOCH.EPOCH

/-- A command may be sent now (R24, R243, R244, R250, R251, R265): step 5 of the boundary has begun; the port is UP, or in IDENT
for IDENTIFY; the credits, the replay store and, but for FENCE and STATUS, the line leave room; and a write-class command goes
only under a non-zero epoch whose FENCE of its die has completed OK and which the die has not answered FENCED. In Power-Fail
Drain no new CMD frame is sent (R466). -/
def State.maySend (s : State) (p : FrnPort) (c : FrnCmd) : Bool :=
  s.tck.working && s.lcs.mode != .powerFailDrain &&
  (p.state == .up || (p.state == .ident && c.op == 10)) &&
  decide (p.cmdsSent < p.cmdLimit) && decide (p.pagesSent + c.pagesTaken ≤ p.pageLimit) &&
  p.storeRoom c.frames c.frameBytes && (c.urgent || s.lineTakes p (frameLen 64) false) &&
  (!writeClass c.op || (s.frnEpoch != 0 && Tab.find p.fenced c.die == some s.frnEpoch &&
    Tab.find p.refused c.die != some s.frnEpoch))

/-- A command sent on a port: its CMD frame takes the next LSEQ and its tag is new (R249, R252); the pages of a write-class
command wait for the line. -/
def FrnPort.sendCmd (p : FrnPort) (c : FrnCmd) (epoch now : Nat) : FrnPort :=
  let c' := { c with epoch := epoch, sent := now, lseq := p.txNext, data := if writeClass c.op then c.data else [] }
  let size := if c.op = 2 then 16448 else 64
  let ps := if writeClass c.op then
    (List.range c.pagesTaken).map (fun i => (p.nextTag, c.hostClass, (c.data.drop (i * size)).take size)) else []
  ({ p with
    cmds := Tab.insert p.cmds p.nextTag c',
    nextTag := (p.nextTag + 1) % 65536,
    cmdsSent := p.cmdsSent + 1,
    pagesSent := p.pagesSent + c.pagesTaken,
    pages := p.pages ++ ps } : FrnPort).sendFrame (frameLen 64) now

/-- Counters of commands sent (FRN.STAT). -/
def State.countSent (s : State) (c : FrnCmd) : State :=
  let s1 := s.count F.FRN.STAT.COUNT 0
  match c.op with
  | 1 => s1.count F.FRN.STAT.COUNT 1
  | 2 => s1.count F.FRN.STAT.COUNT 2 c.count
  | 3 => s1.count F.FRN.STAT.COUNT 3
  | 5 => s1
  | 4 => s1.count F.FRN.STAT.COUNT 4
  | _ => s1

/-- Bytes read and programmed by a command on the host path, for the pacer (R420). -/
def State.hostLoad (s : State) (c : FrnCmd) : State :=
  if c.host then
    let k := if c.op = 2 then 16384 * c.count else if c.op = 1 ∨ c.op = 8 then 64 * c.xlen else 0
    { s with pcr := { s.pcr with hostBytes := s.pcr.hostBytes + k } }
  else s

/-- A port may send frames of pages: it is UP, with the boundary at step 5. -/
def State.maySendPage (s : State) (p : FrnPort) (bytes : Nat) : Bool :=
  s.tck.working && s.lcs.mode != .powerFailDrain && p.state == .up && p.storeRoom 1 bytes && s.lineTakes p bytes true

/-- The WDATA frames that wait on a port are sent in order while its line takes them (R243, R248): those of a class, or of a tag.
A page is never cut. -/
def State.sendPages (s : State) (n : Nat) (which : Nat × Bool × List Byte → Bool) : List (Nat × Bool × List Byte) → State
  | [] => s
  | x :: xs =>
    if which x && s.maySendPage (s.port n) (frameLen x.2.2.length) then
      let p := ({ s.port n with pages := (s.port n).pages.erase x } : FrnPort).sendFrame (frameLen x.2.2.length) s.now
      ((s.setPort n p).send (.frondData n x.1 x.2.2)).sendPages n which xs
    else if which x then s
    else s.sendPages n which xs

/-- A command and its frames sent on port n: the CMD frame, and as much of the WDATA of a write-class command as the line takes
in the tick (R243, R248). -/
def State.transmit (s : State) (n : Nat) (c : FrnCmd) : State :=
  let p := s.port n
  let s1 := (s.setPort n (p.sendCmd c s.frnEpoch s.now)).send
    (.frondCmd n p.nextTag c.op c.die c.block c.page c.count c.retry s.frnEpoch)
  let s2 := s1.sendPages n (fun x => x.1 == p.nextTag) (s1.port n).pages
  let s3 : State := { s2 with bay := { s2.bay with active := if s2.bay.active.contains n then s2.bay.active else s2.bay.active ++ [n] } }
  (s3.countSent c).hostLoad c

/-- Sends the held commands of a port that may be sent, in order. -/
def State.pumpList (s : State) (n : Nat) : List FrnCmd → State
  | [] => s
  | c :: cs =>
    if s.maySend (s.port n) c then
      ((s.setPort n { s.port n with held := (s.port n).held.erase c }).transmit n c).pumpList n cs
    else s.pumpList n cs

/-- What waits on a port is sent as far as it may be, in the order of R26 and R243: FENCE and STATUS; then of the host path the
pages of commands already begun and the commands held; then those of the background. -/
def State.pump (s : State) (n : Nat) : State :=
  let held := (s.port n).held
  let s1 := s.pumpList n (held.filter FrnCmd.urgent)
  let s2 := s1.sendPages n (fun x => x.2.1) (s1.port n).pages
  let s3 := s2.pumpList n (held.filter (fun c => !c.urgent && c.hostClass))
  let s4 := s3.sendPages n (fun x => !x.2.1) (s3.port n).pages
  s4.pumpList n (held.filter (fun c => !c.urgent && !c.hostClass))

/-- A command offered to a port: sent at once when it may be and nothing of its class goes before it, and held otherwise. -/
def State.issue (s : State) (n : Nat) (c : FrnCmd) : State :=
  let p := s.port n
  let first := if c.urgent then !p.held.any FrnCmd.urgent else p.held.isEmpty && p.pages.isEmpty
  if first ∧ s.maySend p c then s.transmit n c
  else s.setPort n { p with held := p.held ++ [c] }

/-- A result that FTL and RDN apply in step 3 of the next boundary (R24). -/
def State.result (s : State) (n : Nat) (c : FrnCmd) (r : Option Rsp) : State :=
  { s with frn := { s.frn with results := s.frn.results ++ [⟨n, c, r⟩] } }

/-- The FENCE of R265: the new epoch over the dies the head drives; none when it drives no die. -/
def State.sendFence (s : State) (n : Nat) : State :=
  match (s.port n).desc with
  | none => s
  | some d =>
    let m := s.driveMask d
    if m = 0 ∨ s.frnEpoch = 0 then s
    else s.issue n { frnCmd 9 0 0 0 0 0 false .fence false with mask := m }

/-- In the tick in which FRN.EPOCH changes, a FENCE goes out on every UP port (R265). -/
def State.fenceAll (s : State) : State :=
  (Tab.keys s.frn.ports).foldl (fun t n => if (t.port n).state = .up then t.sendFence n else t) s

/-- FRN.EPOCH changes (R265). -/
def State.setFrnEpoch (s : State) (e : Nat) : State :=
  if s.frnEpoch = e then s else ({ s.put F.FRN.EPOCH.EPOCH e with wit := { s.wit with maxSeen := max s.wit.maxSeen e } } : State).fenceAll

/-- Every die the head drives on an UP module has been fenced under the epoch in force; a port that is not UP, or
where it drives no die, counts as fenced (R265, R407). -/
def State.portFenced (s : State) (n : Nat) : Bool :=
  match (s.port n).desc with
  | none => true
  | some d => (s.port n).state != .up ||
    (List.range d.dies).all (fun die => !s.drives d die || Tab.find (s.port n).fenced die == some s.frnEpoch)

/-! Loss and retraining. -/

/-- A reconciliation ends with an outcome (R271). -/
def State.endRecon (s : State) (n outcome : Nat) : State :=
  match (s.port n).recon with
  | none => s
  | some _ =>
    (((s.setPort n { s.port n with recon := none }).put (F.FRN.PORT_STATUS.OUTCOME.nth n) outcome).put
      (F.FRN.PORT_STATUS.RECON.nth n) 0).event Src.FRN 7 n outcome

/-- A module loss (R246): every outstanding command ends without a response and the loss is captured for rank 6. -/
def State.moduleLoss (s : State) (n : Nat) : State :=
  let p := s.port n
  let ended := p.cmds.map Prod.snd ++ p.recovering.map Prod.snd ++ p.held
  let s1 := s.setPort n { p with
    cmds := [], recovering := [], held := [], pages := [], lostView := true, fenced := [], refused := [], suspended := [],
    suspCount := [] }
  let s2 := ended.foldl (fun t c => t.result n c none) s1
  (((s2.count F.FRN.STAT.COUNT 9).event Src.FRN 1 n).endRecon n 3).latch (.moduleLoss n)

/-- A fatal media error of a die, captured for rank 6 (R267, R269). -/
def State.dieFailure (s : State) (n die : Nat) : State :=
  ((s.markDieFailed n die).event Src.FRN 2 n die).latch (.dieFailure n die)

/-- A full retrain: replay state is discarded and responses are recovered later (R244, R268). -/
def State.fullRetrain (s : State) (n : Nat) : State :=
  let p := s.port n
  if p.state = .up then
    s.setPort n { (p.enter .align s.now) with
      recovering := p.cmds ++ p.recovering, cmds := [], pages := [], txNext := 0, rxNext := 0, lack := 65535, store := [],
      replays := 0, cmdLimit := 0, pageLimit := 0, cmdsSent := 0, pagesSent := 0 }
  else s

/-- The replay limit or the idle limit of R267 in UP: RETRAIN, or DOWN with a module loss at the third entry within
500,000 ticks (R244). -/
def State.toRetrain (s : State) (n : Nat) : State :=
  let p := s.port n
  if p.state ≠ .up then s
  else
    let recent := p.retrainAt.filter (fun t => t + 500000 > s.now)
    if recent.length < 3 then
      ((s.setPort n { (p.enter .retrain s.now) with retrainAt := recent ++ [s.now] }).saturate
        (F.FRN.PORT_STATUS.RETRAINS.nth n)).count F.FRN.STAT.COUNT 8
    else (s.setPort n (p.enter .down s.now)).moduleLoss n

/-! Frames. -/

/-- A LACK received: frames up to it are acknowledged (R250). -/
def FrnPort.acked (p : FrnPort) (lack now : Nat) : FrnPort :=
  if lack = p.lack then p
  else
    let kept := p.store.filter (fun q => (q.1 + 65536 - lack) % 65536 < 32768 ∧ q.1 ≠ lack)
    { p with lack := lack, store := kept, replays := 0, ackAt := now }

/-- A frame from a module as it is read (R248): its header and payload, and why it is not accepted, by the cause of a NAK. -/
structure FrondFrame where
  nak : Bool
  replayed : Bool
  lseq : Nat
  lack : Nat
  tag : Nat
  payload : List Byte
  cause : Nat
  deriving DecidableEq, Repr

/-- LEN of a frame type that a module sends. -/
def frondLenOk (typ n : Nat) : Bool :=
  match typ with
  | 0x11 => n == 32
  | 0x12 => decide (64 ≤ n) && decide (n ≤ 16448) && n % 64 == 0
  | 0x13 => n == 16
  | 0x20 => n == 0
  | 0x21 => n == 8
  | _ => false

/-- A frame that should have a type (R7, R248, R249, R266): cause 1 when a CRC fails, 2 when its length, type or reserved bits do
not check. DESIGN CHOICE (assumption 73): a header that does not check is cause 2 but for its CRC. -/
def readFrame (typ : Nat) (b : List Byte) : FrondFrame :=
  let f := beField b
  let n := f 6 2
  { nak := (f 1 1).testBit 0, replayed := (f 1 1).testBit 2, lseq := f 2 2, lack := f 4 2, tag := f 12 2, payload := (b.drop 16).take n
    cause := if b.length < 16 then 2 else if f 14 2 ≠ crc16 (b.take 14) then 1 else if b.length ≠ 20 + n then 2
      else if f (16 + n) 4 ≠ crc32c (b.take (16 + n)) then 1
      else if f 0 1 = typ ∧ frondLenOk typ n = true ∧ f 1 1 < 8 then 0 else 2 }

/-- A frame arrives (R249): accepted when it checks and a sequenced one has the LSEQ expected, or discarded with one NAK that names
the LSEQ expected. -/
def State.frame (s : State) (n : Nat) (f : FrondFrame) (sequenced : Bool) : Bool × State :=
  let p := s.port n
  if f.cause = 0 ∧ !sequenced then (true, s.setPort n { p.acked f.lack s.now with heardAt := s.now })
  else if f.cause = 0 ∧ f.lseq = p.rxNext then
    let p1 := { (p.acked f.lack s.now) with rxNext := (p.rxNext + 1) % 65536, heardAt := s.now, nakSent := false }
    (true, (s.setPort n (p1.onLine (frameLen 0))).send (.frondAck n f.lseq 0))
  else
    let s1 := (s.saturate (F.FRN.PORT_ERR.CRC.nth n)).count F.FRN.STAT.COUNT 6
    if p.nakSent then (false, s1)
    else (false, (s1.setPort n (({ p with nakSent := true } : FrnPort).onLine (frameLen 0))).send
      (.frondAck n ((p.rxNext + 65535) % 65536) (if f.cause = 0 then 3 else f.cause)))

/-- The port receives frames: it has passed ALIGN. -/
def LinkState.carries : LinkState → Bool
  | .ident => true
  | .up => true
  | .retrain => true
  | _ => false

/-! The descriptor (R256, R257). -/

/-- The fields of a descriptor. -/
def readDesc (b : List Byte) : FrnDesc := {
  dies := beField b 3 1, dieMap := beField b 4 16, pageData := beField b 20 2, pageMeta := beField b 22 1,
  bits := beField b 23 1, pages := beField b 24 2, blocks := beField b 26 2, spare := beField b 28 4,
  cycles := beField b 32 4, loops := beField b 36 1, retryLevels := beField b 37 1, corrLimit := beField b 38 2,
  wlPages := beField b 42 1, maxSusp := beField b 43 1, qdepth := beField b 44 2, tProgSlc := beField b 52 4,
  tProg := beField b 56 4, tErase := beField b 60 4, maxOp := beField b 64 4, fenceTime := beField b 68 4,
  serial := beField b 72 16 }

/-- A descriptor passes R257. -/
def descPasses (b : List Byte) : Bool :=
  let d := readDesc b
  b.length == 128 && beField b 0 2 == 0x4644 && beField b 2 1 == 1 && beField b 124 4 == crc32c (b.take 124) &&
  beField b 46 2 == 0 && beField b 96 28 == 0 && decide (1 ≤ d.dies) && decide (d.dies ≤ 128) &&
  decide (d.qdepth ≥ 1024) && decide (d.maxOp ≤ 1000000000)

/-- FTL may use the module's dies: the geometry meets R176. -/
def FrnDesc.geometryOk (d : FrnDesc) : Bool :=
  d.pageData == 16384 && d.pageMeta == 64 && decide (256 ≤ d.pages) && decide (d.pages ≤ 4096) &&
  decide (1 ≤ d.bits) && decide (d.bits ≤ 4) && decide (d.blocks ≤ 8192)

/-- FRN.PORT_DESC and the PORT_DRIVE masks of a port whose descriptor passed. -/
def State.showDesc (s : State) (n : Nat) (d : FrnDesc) : State :=
  let m := s.driveMask d
  let s1 := (((s.put (F.FRN.PORT_DESC.MAX_SUSP.nth n) d.maxSusp).put (F.FRN.PORT_DESC.WL_PAGES.nth n) d.wlPages).put
    (F.FRN.PORT_DESC.RETRY_LEVELS.nth n) d.retryLevels)
  let s2 := (s1.put (F.FRN.PORT_DESC.BITS.nth n) d.bits).put (F.FRN.PORT_DESC.DIES.nth n) d.dies
  let s3 := (s2.put (F.FRN.PORT_DRIVE_LO.DIES.nth n) (m % 2 ^ 64)).put (F.FRN.PORT_DRIVE_HI.DIES.nth n) (m / 2 ^ 64)
  s3.put (F.FTL.MOD_WEAR0.RESERVE.nth n) d.spare

/-- The answer to IDENTIFY: in IDENT the port goes UP or to FAULT (R244, R257); a probe's answer is compared with
the descriptor held (R271). -/
def State.identified (s : State) (n : Nat) (b : List Byte) : State :=
  let p := s.port n
  match p.state with
  | .ident =>
    if descPasses b then
      let p1 := { (p.enter .up s.now) with desc := some (readDesc b), lostView := false, bridgeFault := false }
      let s1 := ((s.setPort n p1).put (F.FRN.PORT_STATUS.RETRAINS.nth n) 0).put
        (F.FRN.PORT_HEALTH.BRIDGE_FAULT.nth n) 0
      (((s1.showDesc n (readDesc b)).reserveCheck n).sendFence n).event Src.FRN 0 n
    else (s.setPort n (p.enter .fault s.now)).event Src.FRN 3 n
  | .up =>
    if descPasses b && p.desc == some (readDesc b) then s
    else (s.setPort n (p.enter .down s.now)).moduleLoss n
  | _ => s

/-! Responses. -/

/-- A PROTOCOL error (R266, R269). -/
def State.protocol (s : State) (n : Nat) : State := s.event Src.FRN 9 n

/-- The data of a READ or RECON disagrees with its length (R266): the data is discarded, and the command is sent again at
the same level; a second mismatch within 1 s forces a full retrain. -/
def State.lengthMismatch (s : State) (n tag : Nat) (c : FrnCmd) : State :=
  let p := s.port n
  let again := p.mismatchAt.any (fun t => decide (s.now < t + s.ticksIn 1000000))
  let s1 := (((s.setPort n { p with cmds := Tab.erase p.cmds tag, mismatchAt := some s.now }).saturate
    (F.FRN.PORT_ERR.LEN.nth n)).count F.FRN.STAT.COUNT 7).protocol n
  let s2 := s1.issue n c
  if again then s2.fullRetrain n else s2

/-- The dies of a mask that hold an epoch. -/
def setDies (m : Tab Nat) (mask e : Nat) : Tab Nat :=
  (List.range 128).foldl (fun t d => if mask.testBit d then Tab.insert t d e else t) m

/-- A response that FRN settles itself, or hands to FTL and RDN as a result (R265, R267). -/
def State.settle (s : State) (n : Nat) (c : FrnCmd) (r : Rsp) : State :=
  let s0 : State := { s with wit := { s.wit with maxSeen := max s.wit.maxSeen r.dieEpoch } }
  let s1 := if r.status = 8 then s0.dieFailure n c.die else s0
  let s2 :=
    if r.status = 4 then
      let s3 := (s1.setPort n { s1.port n with refused := Tab.insert (s1.port n).refused c.die c.epoch }).count
        F.FRN.STAT.COUNT 10
      ((s3.event Src.FRN 4 n c.die).report 0x0510 Src.FRN n c.die).latch (.epochLoss .module)
    else if r.status = 5 then (s1.event Src.FRN 5 n r.dieEpoch).report 0x0510 Src.FRN n r.dieEpoch
    else s1
  match c.purpose with
  | .identify => if r.status = 0 then s2.identified n c.data else s2
  | .fence =>
    if r.status = 0 then
      let s3 := s2.setPort n { s2.port n with fenced := setDies (s2.port n).fenced c.mask c.epoch }
      ({ s3 with wit := { s3.wit with stale := Tab.erase s3.wit.stale n } } : State).pump n
    else s2.result n c (some r)
  | .health =>
    let h := c.data
    let s3 := (((s2.put (F.FRN.PORT_HEALTH.TEMP.nth n) (beField h 0 1)).put (F.FRN.PORT_HEALTH.TEMP_WARN.nth n)
      (beField h 1 1 % 2)).put (F.FRN.PORT_HEALTH.TEMP_CRIT.nth n) (beField h 1 1 / 2 % 2))
    s3.put (F.FRN.PORT_HEALTH.SUPPLY_WARN.nth n) (beField h 1 1 / 4 % 2)
  | .status =>
    -- R267: a module that answers and still holds the command is given a further MAX_OP; otherwise a full retrain
    if r.state = 1 ∨ r.state = 2 then
      s2.setPort n { s2.port n with cmds := (s2.port n).cmds.map (fun q =>
        if q.2.probed ∧ q.2.die = c.die then (q.1, { q.2 with sent := s2.now }) else q) }
    else s2.fullRetrain n
  | .suspend => s2
  | .resume => s2
  | .probe => if r.status = 3 ∨ r.status = 8 then s2.dieFailure n c.die else s2
  | _ => s2.result n c (some r)

/-- The fields of a response (R254); none when a reserved field is not zero or STATUS is reserved (R7, R255). -/
def readRsp (f : FrondFrame) : Option Rsp :=
  let g := beField f.payload
  if g 1 1 > 0x0B ∨ g 7 1 ≥ 4 ∨ g 20 1 ≥ 4 ∨ g 22 10 ≠ 0 then none
  else some {
    op := g 0 1, status := g 1 1, loops := g 3 1, maxCorr := g 4 2, pagesOk := g 6 1, mdValid := (g 7 1).testBit 0, dcrc := g 8 4,
    dlen := g 12 4, dieEpoch := g 16 4, state := g 21 1, replayed := f.replayed }

/-- A response for a command (R254, R266, R268). -/
def State.respond (s : State) (n tag : Nat) (r : Rsp) : State :=
  let p := s.port n
  match Tab.find p.cmds tag with
  | some c =>
    if (c.op = 1 ∨ c.op = 8) ∧ r.status = 0 ∧ (r.dlen ≠ c.dlen ∨ c.data.length ≠ c.dlen) then
      s.lengthMismatch n tag c
    else
      let p1 := { p with
        cmds := Tab.erase p.cmds tag,
        suspCount := if writeClass c.op then Tab.erase p.suspCount c.die else p.suspCount }
      (s.setPort n p1).settle n c r
  | none =>
    match (if r.replayed then Tab.find p.recovering tag else none) with
    | some c =>
      let s1 := s.setPort n { p with recovering := Tab.erase p.recovering tag }
      -- a command accepted with its data incomplete did nothing: it is sent again
      if r.status = 11 then s1.issue n c else s1.settle n c r
    | none => if r.replayed then s else ((s.count F.FRN.STAT.COUNT 6)).protocol n

/-- A response frame (R249, R254). DESIGN CHOICE (assumption 73): a malformed payload is discarded and counted, and sets PROTOCOL. -/
def State.responseFrame (s : State) (n : Nat) (b : List Byte) : State :=
  let f := readFrame 0x11 b
  let (ok, t) := s.frame n f true
  if !ok then t
  else match readRsp f with
    | some r => t.respond n f.tag r
    | none => (t.count F.FRN.STAT.COUNT 6).protocol n

/-! Suspension (R260). -/

/-- The typical time of an operation, ns. -/
def FrnDesc.typical (d : FrnDesc) (c : FrnCmd) : Nat :=
  if c.op = 3 then d.tErase else if c.mode = 1 then d.tProgSlc else d.tProg

/-- A host-path read of a die waits at the module. -/
def FrnPort.hostRead (p : FrnPort) (die : Nat) : Bool :=
  p.cmds.any (fun q => q.2.host && q.2.die == die && (q.2.op == 1 || q.2.op == 8))

/-- The SUSPEND and RESUME commands of a tick on a port (R260). -/
def State.suspendPort (s : State) (n : Nat) : State :=
  let p := s.port n
  match p.desc with
  | none => s
  | some d =>
    if p.state ≠ .up then s else
    let busy := (p.cmds.filter (fun q => (q.2.op = 3 ∨ (q.2.op = 2 ∧ q.2.mode = 0)) ∧ q.2.die ∉ p.suspended ∧
      p.hostRead q.2.die ∧
      d.typical q.2 > (s.now - q.2.sent) * s.tickNs + s.fld F.FRN.SUSP_CTL.MIN_US * 1000 ∧
      Tab.getD p.suspCount q.2.die 0 < d.maxSusp)).map (fun q => q.2.die)
    let s1 := if s.fld F.FRN.SUSP_CTL.EN = 0 then s else busy.dedup.foldl (fun t die =>
      (t.setPort n { t.port n with
        suspended := (t.port n).suspended ++ [die],
        suspCount := Tab.insert (t.port n).suspCount die (Tab.getD (t.port n).suspCount die 0 + 1) }).issue n
        (frnCmd 4 die 0 0 0 0 false .suspend false)) s
    let idle := (s1.port n).suspended.filter (fun die => !(s1.port n).hostRead die)
    idle.foldl (fun t die =>
      (t.setPort n { t.port n with suspended := (t.port n).suspended.erase die }).issue n
        (frnCmd 5 die 0 0 0 0 false .resume false)) s1

/-- Bytes of the frames that a replay sends again. -/
def FrnPort.replayBytes (p : FrnPort) : Nat := (p.store.map Prod.snd).foldl (· + ·) 0

/-- FRN's work at a boundary (R24, R243): every port's budget is opened, less the debit of the tick before; what waits goes out,
and suspensions. -/
def State.frnBoundary (s : State) : State :=
  let renew (p : FrnPort) : FrnPort := { p with line := p.line - s.portBudget, cut := [] }
  let s1 : State := { s with frn := { s.frn with begun := true, ports := s.frn.ports.map (fun q => (q.1, renew q.2)) } }
  (Tab.keys s1.frn.ports).foldl (fun t n => (t.pump n).suspendPort n) s1

/-! The commands. -/

/-- MODULE_LOSS (R246, R267): the module of a port in UP or RETRAIN is lost, as when a command is still without
its response after the responses of R268. -/
def execModuleLoss (port : Nat) (s : State) : Host.Outcome State Fault Refusal :=
  .next (if port < 96 ∧ ((s.port port).state = .up ∨ (s.port port).state = .retrain) then
    (s.setPort port ((s.port port).enter .down s.now)).moduleLoss port else s)

/-- DIE_FAILURE (R267): a fatal media error of a die is captured for rank 6. -/
def execDieFailure (port die : Nat) (s : State) : Host.Outcome State Fault Refusal :=
  .next (if port < 96 ∧ die < 128 then s.dieFailure port die else s)

/-- TRAINING_PATTERN_RECEIVED (R244): DETECT to TRAIN. -/
def execTrainingPatternReceived (port : Nat) (s : State) : Host.Outcome State Fault Refusal :=
  .next (if port = reflectPort then s.reflectPattern else
    if port < 96 ∧ (s.port port).state = .detect then
    (s.setPort port ((s.port port).enter .train s.now)).send (.frondTraining port) else s)

/-- EQUALISATION_COMPLETE (R244): TRAIN to ALIGN within 50,000 ticks. -/
def execEqualisationComplete (port : Nat) (s : State) : Host.Outcome State Fault Refusal :=
  .next (if port = reflectPort then s.reflectEqualised else
    if (s.port port).state = .train ∧ s.now ≤ (s.port port).since + 50000 then
    s.setPort port { ((s.port port).enter .align s.now) with cmdLimit := 0, pageLimit := 0, cmdsSent := 0, pagesSent := 0 }
    else s)

/-- TRAIN_TIMEOUT (R244): 50,000 ticks in TRAIN. -/
def execTrainTimeout (port : Nat) (s : State) : Host.Outcome State Fault Refusal :=
  .next (if port = reflectPort then s.reflectLimit .train 50000 .detect else
    if (s.port port).state = .train ∧ s.now ≥ (s.port port).since + 50000 then
    (s.setPort port ((s.port port).enter .detect s.now)).saturate (F.FRN.PORT_ERR.TIMEOUT.nth port) else s)

/-- ALIGN_COMPLETE (R244): FEC lock and 64 frames within 5,000 ticks; IDENTIFY is sent. -/
def execAlignComplete (port : Nat) (s : State) : Host.Outcome State Fault Refusal :=
  .next (if port = reflectPort then s.reflectAligned else
    if (s.port port).state = .align ∧ s.now ≤ (s.port port).since + 5000 then
    (s.setPort port { ((s.port port).enter .ident s.now) with
      txNext := 0, rxNext := 0, lack := 65535, store := [], replays := 0, heardAt := s.now, nakSent := false }).issue port
      (frnCmd 10 0 0 0 0 0 false .identify false)
    else s)

/-- ALIGN_TIMEOUT (R244): 5,000 ticks in ALIGN. -/
def execAlignTimeout (port : Nat) (s : State) : Host.Outcome State Fault Refusal :=
  .next (if port = reflectPort then s.reflectLimit .align 5000 .detect else
    if (s.port port).state = .align ∧ s.now ≥ (s.port port).since + 5000 then
    (s.setPort port ((s.port port).enter .detect s.now)).saturate (F.FRN.PORT_ERR.TIMEOUT.nth port) else s)

/-- DESCRIPTOR_RECEIVED (R244, R257): the response to IDENTIFY. -/
def execDescriptorReceived (port : Nat) (frame : List Byte) (s : State) : Host.Outcome State Fault Refusal :=
  .next (if (s.port port).state.carries ∧ (Tab.find (s.port port).cmds (readFrame 0x11 frame).tag).any (fun c => c.op == 10) then
    s.responseFrame port frame
    else s)

/-- IDENT_TIMEOUT (R244): no response in 5,000 ticks. -/
def execIdentTimeout (port : Nat) (s : State) : Host.Outcome State Fault Refusal :=
  .next (if port = reflectPort then s.reflectLimit .ident 5000 .fault else
    if (s.port port).state = .ident ∧ s.now ≥ (s.port port).since + 5000 then
    (s.setPort port ((s.port port).enter .fault s.now)).event Src.FRN 3 port else s)

/-- RETRAIN_COMPLETE (R244): realigned within 5,000 ticks; frames after the last LACK are replayed and held commands
go out. -/
def execRetrainComplete (port : Nat) (s : State) : Host.Outcome State Fault Refusal :=
  .next (if port = reflectPort then s.reflectRetrained else
    if (s.port port).state = .retrain ∧ s.now ≤ (s.port port).since + 5000 then
    let p := { ((s.port port).enter .up s.now) with heardAt := s.now, ackAt := s.now, replays := 0 }
    let s1 := (s.setPort port (p.onLine p.replayBytes)).send (.frondReplay port p.store.length)
    (s1.count F.FRN.STAT.COUNT 5 p.store.length).pump port
    else s)

/-- RETRAIN_TIMEOUT (R244): 5,000 ticks in RETRAIN; a module loss. -/
def execRetrainTimeout (port : Nat) (s : State) : Host.Outcome State Fault Refusal :=
  .next (if port = reflectPort then s.reflectLimit .retrain 5000 .down else
    if (s.port port).state = .retrain ∧ s.now ≥ (s.port port).since + 5000 then
    (s.setPort port ((s.port port).enter .down s.now)).moduleLoss port else s)

/-- DOWN_TIMEOUT (R244): 500 ticks in DOWN. -/
def execDownTimeout (port : Nat) (s : State) : Host.Outcome State Fault Refusal :=
  .next (if port = reflectPort then s.reflectLimit .down 500 .detect else
    if (s.port port).state = .down ∧ s.now ≥ (s.port port).since + 500 then
    s.setPort port { ((s.port port).enter .detect s.now) with desc := none } else s)

/-- EN has been written (R244): 1 starts the port, 0 stops it with a module loss from UP or RETRAIN. -/
def State.portEnableWritten (s : State) (n : Nat) (was : Bool) : State :=
  let en := s.fld (F.FRN.PORT_CTL.EN.nth n) = 1
  if en then
    if was ∨ n ≥ s.fld F.FRN.CONFIG.PORTS then s
    else (s.setPort n ((s.port n).enter .detect s.now)).send (.frondTraining n)
  else
    let st := (s.port n).state
    let s1 := s.setPort n ((s.port n).enter .off s.now)
    if st = .up ∨ st = .retrain then s1.moduleLoss n else s1

/-- RSP_RECEIVED (R249, R254): a response arrives and its command ends; FTL and RDN apply the result at the next
boundary. -/
def execRspReceived (port : Nat) (frame : List Byte) (s : State) : Host.Outcome State Fault Refusal :=
  .next (if (s.port port).state.carries then s.responseFrame port frame else s)

/-- RDATA_RECEIVED (R249, R266): data of a command arrives. -/
def execRdataReceived (port : Nat) (frame : List Byte) (s : State) : Host.Outcome State Fault Refusal :=
  .next (if (s.port port).state.carries then
    let f := readFrame 0x12 frame
    let (ok, t) := s.frame port f true
    if !ok then t
    else if (Tab.find (t.port port).cmds f.tag).isSome then
      t.setPort port { t.port port with
        cmds := Tab.modify (t.port port).cmds f.tag (fun c => { c with data := c.data ++ f.payload }) }
    else (t.count F.FRN.STAT.COUNT 6).protocol port
    else s)

/-- An event of a module, acted on by its CODE (R7, R269): one with a reserved code, a reserved field that is not zero or a die that no
module has is discarded and sets PROTOCOL. -/
def State.moduleEvent (s : State) (n : Nat) (b : List Byte) : State :=
  let die := beField b 1 1
  let value := beField b 4 4
  if beField b 2 2 ≠ 0 ∨ die ≥ 128 then s.protocol n
  else match beField b 0 1 with
    | 1 => s.dieFailure n die
    | 2 => s.event Src.FRN 8 n value
    | 3 => s.event Src.FRN 8 n value
    | 4 => s.record Src.FRN (Config.noticeEvent Src.FRN 64).toNat (Config.openCode Src.FRN 0) n value 0
    | 5 =>
      let s1 := (s.setPort n { s.port n with bridgeFault := true }).put (F.FRN.PORT_HEALTH.BRIDGE_FAULT.nth n) 1
      s1.moduleLoss n
    | _ => s.protocol n

/-- MODULE_EVENT (R269): a module EVENT frame. -/
def execModuleEvent (port : Nat) (frame : List Byte) (s : State) : Host.Outcome State Fault Refusal :=
  .next (if (s.port port).state.carries then
    let f := readFrame 0x13 frame
    let (ok, t) := s.frame port f true
    if ok then t.moduleEvent port f.payload else t
    else s)

/-- Every unacknowledged frame of a port is replayed after a NAK (R250, R267). -/
def State.nakReplay (s : State) (n : Nat) : State :=
  let p := s.port n
  let s1 := (s.setPort n (({ p with replays := p.replays + 1 } : FrnPort).onLine p.replayBytes)).send (.frondReplay n p.store.length)
  let s2 := (s1.saturate (F.FRN.PORT_ERR.REPLAY.nth n)).count F.FRN.STAT.COUNT 5 p.store.length
  if p.replays + 1 > 4 then s2.toRetrain n else s2

/-- FROND_ACK (R250): an ACK frame acknowledges frames; a NAK starts a replay. -/
def execFrondAck (port : Nat) (frame : List Byte) (s : State) : Host.Outcome State Fault Refusal :=
  .next (if port = reflectPort then
      match readReflectAck frame with
      | some (nak, lack) => s.reflectAcked lack nak
      | none => s
    else if (s.port port).state.carries then
      let f := readFrame 0x20 frame
      let (ok, t) := s.frame port f false
      if !ok then t else if f.nak then t.nakReplay port else t.pump port
    else s)

/-- A free-running count of 32 bits that has been raised (R251). -/
def raisedCount (old v : Nat) : Nat :=
  let step := (v + 2 ^ 32 - old % 2 ^ 32) % 2 ^ 32
  if step < 2 ^ 31 then old + step else old

/-- CREDIT (R251): the limits rise; at the first one after a full retrain the commands without a response are sent
again (R268). -/
def execCredit (port : Nat) (frame : List Byte) (s : State) : Host.Outcome State Fault Refusal :=
  .next (if (s.port port).state.carries then
    let f := readFrame 0x21 frame
    let (ok, t) := s.frame port f false
    if !ok then t
    else
      let p := t.port port
      let up := decide (p.state = .up)
      (t.setPort port { p with
        cmdLimit := raisedCount p.cmdLimit (beField f.payload 0 4), pageLimit := raisedCount p.pageLimit (beField f.payload 4 4)
        held := if up then p.recovering.map Prod.snd ++ p.held else p.held
        recovering := if up then [] else p.recovering }).pump port
    else s)

/-- REPLAY_TIMEOUT (R250, R267): LACK has not advanced for 2 ticks while frames are unacknowledged. -/
def execReplayTimeout (port : Nat) (s : State) : Host.Outcome State Fault Refusal :=
  .next (if port = reflectPort then s.reflectReplayTimeout else
    if (s.port port).state = .up ∧ (s.port port).store ≠ [] ∧ s.now ≥ (s.port port).ackAt + 2 then
    let p := s.port port
    if p.replays ≥ 4 then s.toRetrain port
    else
      let s1 := (s.setPort port (({ p with replays := p.replays + 1, ackAt := s.now } : FrnPort).onLine p.replayBytes)).send
        (.frondReplay port p.store.length)
      (s1.saturate (F.FRN.PORT_ERR.REPLAY.nth port)).count F.FRN.STAT.COUNT 5 p.store.length
    else s)

/-- IDLE_TIMEOUT (R267): no frame for IDLE ticks while UP. -/
def execIdleTimeout (port : Nat) (s : State) : Host.Outcome State Fault Refusal :=
  .next (if port = reflectPort then s.reflectIdle else
    if (s.port port).state = .up ∧ s.now ≥ (s.port port).heardAt + s.fld F.FRN.TIMEOUT.IDLE then
    s.toRetrain port else s)

/-- COMMAND_TIMEOUT (R267): no response within MAX_OP plus MARGIN ticks: STATUS goes to the die; a command already
probed forces a full retrain. -/
def execCommandTimeout (port tag : Nat) (s : State) : Host.Outcome State Fault Refusal :=
  .next (match Tab.find (s.port port).cmds tag, (s.port port).desc with
    | some c, some d =>
      if (s.port port).state = .up ∧
          s.now ≥ c.sent + (d.maxOp + s.tickNs - 1) / s.tickNs + s.fld F.FRN.TIMEOUT.MARGIN then
        let s1 := s.saturate (F.FRN.PORT_ERR.TIMEOUT.nth port)
        if c.probed then s1.fullRetrain port
        else
          (s1.setPort port { s1.port port with
            cmds := Tab.insert (s1.port port).cmds tag { c with probed := true } }).issue port
            (frnCmd 6 c.die 0 0 0 0 false .status false)
      else s
    | _, _ => s)

/-- HEALTH_POLL (R269): every 1,024 panel ticks HEALTH goes out on every UP port. -/
def execHealthPoll (s : State) : Host.Outcome State Fault Refusal :=
  .next (if s.now % (512 * 1024) = 0 then
    (Tab.keys s.frn.ports).foldl (fun t n =>
      if (t.port n).state = .up then t.issue n (frnCmd 11 0 0 0 0 0 false .health false) else t) s
    else s)

/-- The views of a port disagree (R271). -/
def State.viewsDisagree (s : State) (n : Nat) : Bool :=
  let v := s.fld (F.FRN.PORT_MGMT.VIEW.nth n)
  let dp := (s.port n).dpView
  (decide (v ≥ 2) && dp == 1) || (v == 1 && dp == 2)

/-- RECON_START (R271): the views disagree; FRN probes the module while it is UP. -/
def execReconStart (port : Nat) (s : State) : Host.Outcome State Fault Refusal :=
  .next (if port < 96 ∧ s.viewsDisagree port ∧ (s.port port).recon.isNone then
    let s1 := ((s.setPort port { s.port port with recon := some s.now }).put (F.FRN.PORT_STATUS.RECON.nth port) 1)
    let s2 := (s1.event Src.FRN 6 port (s.fld (F.FRN.PORT_MGMT.VIEW.nth port)) (s.port port).dpView).count
      F.FRN.STAT.COUNT 11
    match (s2.port port).desc with
    | none => s2
    | some d =>
      if (s2.port port).state ≠ .up then s2 else
      let s3 := (s2.issue port (frnCmd 10 0 0 0 0 0 false .identify false)).issue port
        (frnCmd 11 0 0 0 0 0 false .health false)
      (List.range d.dies).foldl (fun t die =>
        if t.drives d die then
          let t1 := t.issue port (frnCmd 6 die 0 0 0 0 false .probe false)
          match Tab.find t1.ftl.lastPage (port * 128 + die) with
          | some (b, pg) => t1.issue port (frnCmd 1 die b pg 0 256 true .probe false)
          | none => t1
        else t) s3
    else s)

/-- RECON_END (R271): 2 s after its start a reconciliation ends with its outcome. -/
def execReconEnd (port : Nat) (s : State) : Host.Outcome State Fault Refusal :=
  .next (match (s.port port).recon with
    | some t =>
      if s.now ≥ t + s.ticksIn 2000000 then
        s.endRecon port (if !s.viewsDisagree port then 0 else if (s.port port).dpView = 1 then 1 else 2)
      else s
    | none => s)

end Sys2Proof.Machine
end

