-- ==== Sys2Proof/Machine/Parity.lean ====
section
/-!
DEFINITION. Machine/Parity.lean: the parity equations of RDN (chapter 06, R205 to R207, R234) over GF(2^8) with
the polynomial 0x11D and the generator 2.
-/

namespace Sys2Proof.Machine

/-- Multiplication in the field of R205. -/
def gfMul (a b : Nat) : Nat := gfMulFuel 0x1D 8 a b

/-- g to the power n. -/
def gfPow : Nat → Nat
  | 0 => 1
  | n + 1 => gfMul 2 (gfPow n)

/-- The inverse of a field element: its 254th power. -/
def gfInv (a : Nat) : Nat :=
  let a2 := gfMul a a; let a4 := gfMul a2 a2; let a8 := gfMul a4 a4; let a16 := gfMul a8 a8
  let a32 := gfMul a16 a16; let a64 := gfMul a32 a32; let a128 := gfMul a64 a64
  gfMul a128 (gfMul a64 (gfMul a32 (gfMul a16 (gfMul a8 (gfMul a4 a2)))))

/-- Bytewise XOR of two pages; the longer one's tail stays. -/
def xorPage : List Byte → List Byte → List Byte
  | a :: as, b :: bs => (a ^^^ b) :: xorPage as bs
  | [], bs => bs
  | as, [] => as

/-- A page multiplied by a field element. -/
def mulPage (c : Nat) (p : List Byte) : List Byte := p.map (fun b => BitVec.ofNat 8 (gfMul c b.toNat))

/-- P of the data pages (R205). -/
def parityP (data : List (List Byte)) : List Byte := data.foldl xorPage []

/-- Q of the data pages, the first with coefficient g^i (R205). -/
def parityQFrom : Nat → List (List Byte) → List Byte
  | _, [] => []
  | i, d :: ds => xorPage (mulPage (gfPow i) d) (parityQFrom (i + 1) ds)

/-- Q of the data pages (R205). -/
def parityQ (data : List (List Byte)) : List Byte := parityQFrom 0 data

/-- The die-parity page of a member: the XOR of its pages of the row (R206). -/
def dieParity (pages : List (List Byte)) : List Byte := pages.foldl xorPage []

/-- P of the data pages that are present: the missing ones left out (R207). -/
def partialP (data : List (Option (List Byte))) : List Byte := parityP (data.map (·.getD []))

/-- Q of the data pages that are present. -/
def partialQ (data : List (Option (List Byte))) : List Byte := parityQ (data.map (·.getD []))

/-- The members whose page is missing. -/
def missingOf (pages : List (Option (List Byte))) : List Nat :=
  (List.range pages.length).filter (fun i => (pages.getD i none).isNone)

/-- Reconstruction of a set (R207): the pages in member order, D data pages, then P, then Q, none where missing. A set
with three or more missing pages has no answer. -/
def reconstruct (pages : List (Option (List Byte))) : Option (List (List Byte)) :=
  let d := pages.length - 2
  let data := pages.take d
  let p := pages.getD d none
  let q := pages.getD (d + 1) none
  let whole (ds : List (List Byte)) : List (List Byte) := ds ++ [parityP ds, parityQ ds]
  match missingOf data with
  | [] => some (whole (data.map (·.getD [])))
  | [x] =>
    match p, q with
    | some pp, _ => some (whole ((data.map (·.getD [])).set x (xorPage pp (partialP data))))
    | none, some qq =>
      some (whole ((data.map (·.getD [])).set x (mulPage (gfInv (gfPow x)) (xorPage qq (partialQ data)))))
    | none, none => none
  | [x, y] =>
    match p, q with
    | some pp, some qq =>
      let a := xorPage pp (partialP data)
      let b := xorPage qq (partialQ data)
      let dx := mulPage (gfInv (gfPow x ^^^ gfPow y)) (xorPage (mulPage (gfPow y) a) b)
      some (whole (((data.map (·.getD [])).set x dx).set y (xorPage a dx)))
    | _, _ => none
  | _ => none

/-- The findings of the patrol's comparison (R234). -/
inductive Finding where
  | consistent
  | pWrong
  | qWrong
  | dataWrong (x : Nat)
  | unlocatable
  deriving DecidableEq, Repr

/-- A page of zeros. -/
def zeroPage (p : List Byte) : Bool := p.all (· == 0)

/-- The classification of a set by its syndromes (R234): D data pages, then P, then Q. -/
def classify (pages : List (List Byte)) : Finding :=
  let d := pages.length - 2
  let data := pages.take d
  let sp := xorPage (pages.getD d []) (parityP data)
  let sq := xorPage (pages.getD (d + 1) []) (parityQ data)
  if zeroPage sp && zeroPage sq then .consistent
  else if zeroPage sq then .pWrong
  else if zeroPage sp then .qWrong
  else match (List.range d).find? (fun x => sq == mulPage (gfPow x) sp) with
    | some x => .dataWrong x
    | none => .unlocatable

end Sys2Proof.Machine
end

