-- ==== Sys2Proof/Machine/FlashBlocks.lean ====
section
/-!
DEFINITION. Machine/FlashBlocks.lean: the blocks of the modules as FTL uses them (chapter 05): page headers (R177,
R178), choice of dies and blocks (R174, R176, R180, R201), wear and retirement (R198 to R200), refresh (R197), and the
moss tier's size and fill (R181, R184).
-/

namespace Sys2Proof.Machine

/-! Page headers (R177, R178). -/

/-- A page header (R177): 64 bytes, little-endian. -/
def pageHeader (kind epoch pageSeq unit page head firstHdr dataCrc : Nat) : List Byte :=
  let h := leBytes 2 0x4850 ++ leBytes 1 1 ++ leBytes 1 kind ++ leBytes 4 epoch ++ leBytes 8 pageSeq ++ leBytes 6 unit ++
    leBytes 2 page ++ leBytes 2 head ++ leBytes 2 firstHdr ++ leBytes 4 dataCrc ++ List.replicate 28 0
  h ++ leBytes 4 (crc32c h)

/-- The checks of R178 on a page header read with its page: MAGIC, VERSION, HDR_CRC and DATA_CRC, and the place. -/
def pageHeaderPasses (h : List Byte) (unit page dcrc : Nat) : Bool :=
  h.length == 64 && leNat (h.take 2) == 0x4850 && leNat ((h.drop 2).take 1) == 1 &&
  leNat (h.drop 60) == crc32c (h.take 60) && leNat ((h.drop 28).take 4) == dcrc &&
  leNat ((h.drop 16).take 6) == unit && leNat ((h.drop 22).take 2) == page

/-- What is programmed for one page: its 16,384 data bytes, then its page header. The page takes the next PAGE_SEQ. -/
def State.pageImage (s : State) (kind unit page firstHdr : Nat) (data : List Byte) : List Byte × State :=
  let d := padTo 16384 data
  let n := s.frn.pageSeq + 1
  (d ++ pageHeader kind s.frnEpoch n unit page s.tck.headSlot firstHdr (crc32c d),
   { s with frn := { s.frn with pageSeq := n } })

/-- The images of consecutive pages from a byte string; `starts` are the offsets at which chunk headers or records
begin. -/
def State.pageImages (s : State) (kind unit page : Nat) (starts : List Nat) (bytes : List Byte) :
    Nat → List Byte × State
  | 0 => ([], s)
  | k + 1 =>
    let here := starts.filter (fun o => o < 16384)
    let (img, s1) := s.pageImage kind unit page (here.foldl min 0xFFFF) (bytes.take 16384)
    let later := (starts.filter (fun o => 16384 ≤ o)).map (fun o => o - 16384)
    let (rest, s2) := s1.pageImages kind unit (page + 1) later (bytes.drop 16384) k
    (img ++ rest, s2)

/-! Dies and blocks. -/

/-- The key of a block: its place without the offset (R157). -/
def blockKey (port die block : Nat) : Nat := (port * 128 + die) * 8192 + block

/-- The module, die and block of a block key. -/
def keyPort (k : Nat) : Nat := k / 2 ^ 20
def keyDie (k : Nat) : Nat := k / 8192 % 128
def keyBlock (k : Nat) : Nat := k % 8192

/-- The place of a block's first byte. -/
def placeOf (k : Nat) : Nat := k * 2 ^ 20

/-- Bytes of a block in SLC mode and in dense mode (R176). -/
def FrnDesc.slcBytes (d : FrnDesc) : Nat := d.pages / d.bits * 16384
def FrnDesc.denseBytes (d : FrnDesc) : Nat := d.pages * 16384

/-- The failure domain of a module (FTL.FDOM). -/
def State.domain (s : State) (n : Nat) : Nat := s.fld (F.FTL.FDOM.DOMAIN.nth n)

/-- The lowest-numbered die of a side on a module (R174). -/
def State.lowestDie (s : State) (d : FrnDesc) (side : Nat) : Option Nat :=
  (List.range d.dies).find? (fun die => d.hasDie die && s.dieSide d die == side)

/-- A block is an anchor block of some side (R174). -/
def State.anchorBlock (s : State) (n : Nat) (d : FrnDesc) (die block : Nat) : Bool :=
  decide (block < 2) && (n == s.fld F.FTL.ANCHOR.MOD_A || n == s.fld F.FTL.ANCHOR.MOD_B) &&
  (s.lowestDie d 0 == some die || s.lowestDie d 1 == some die)

/-- Blocks of a die that stripes use, as members or as replacements. -/
def State.stripeBlocks (s : State) (n die : Nat) : List Nat :=
  let inMember (m : Nat) (dies : List (Nat × Nat)) : List Nat :=
    if m = n then (dies.filter (fun p => p.1 = die)).map Prod.snd else []
  s.ftl.stripes.flatMap (fun p => p.2.members.flatMap (fun (m : StripeMember) =>
    inMember m.module m.dies ++ (match m.repl with | some (r, ds, _) => inMember r ds | none => [])))

/-- Wear of a block. -/
def State.blockWear (s : State) (k : Nat) : BlockWear := Tab.getD s.ftl.wear k ⟨0, [], false⟩

/-- The blocks of a die that are free: in no unit, not retired, and no anchor block. -/
def State.freeBlocks (s : State) (n : Nat) (d : FrnDesc) (die : Nat) : List Nat :=
  let used := s.stripeBlocks n die
  (List.range d.blocks).filter (fun b =>
    b ∉ used && (Tab.find s.ftl.blocks (blockKey n die b)).isNone && !(s.blockWear (blockKey n die b)).retired &&
    !s.anchorBlock n d die b)

/-- The free block of a die with the lowest erase count, the lowest number on a tie (R201). -/
def State.freeBlock (s : State) (n : Nat) (d : FrnDesc) (die : Nat) : Option Nat :=
  (s.freeBlocks n d die).foldl (fun (best : Option Nat) b =>
    match best with
    | none => some b
    | some c => if (s.blockWear (blockKey n die b)).erases8 < (s.blockWear (blockKey n die c)).erases8 then some b else best)
    none

/-- The wear reserve of a module is exhausted (R199). -/
def State.reserveGone (s : State) (n : Nat) : Bool := (s.fld (F.FTL.MOD_WEAR0.STATE.nth n)).testBit 3

/-- FTL may place new data on a die: the module is usable and meets R176, its reserve lasts (R199), and the die is
driven, not failed, and has not refused the epoch (R180, R265). -/
def State.mayUse (s : State) (n die : Nat) : Bool :=
  match (s.port n).desc with
  | none => false
  | some d => (s.port n).usable && d.geometryOk && !s.reserveGone n && s.drives d die && s.dieSide d die == s.ftl.side &&
    !s.dieFailed n die &&
    Tab.find (s.port n).refused die != some s.frnEpoch

/-- Every die FTL may use: port and die. -/
def State.usableDies (s : State) : List (Nat × Nat) :=
  (Tab.keys s.frn.ports).flatMap (fun n =>
    ((List.range 128).filter (fun die => s.mayUse n die)).map (fun die => (n, die)))

/-- Commands a die has still to answer (R182): the least busy die has the fewest. -/
def State.busyness (s : State) (p : Nat × Nat) : Nat :=
  (((s.port p.1).cmds.filter (fun q => q.2.die = p.2)).length +
    ((s.port p.1).held.filter (fun c => c.die = p.2)).length)

/-- The least busy of some dies, the first on a tie. -/
def State.leastBusy (s : State) (l : List (Nat × Nat)) : Option (Nat × Nat) :=
  l.foldl (fun (best : Option (Nat × Nat)) p =>
    match best with
    | none => some p
    | some q => if s.busyness p < s.busyness q then some p else best) none

/-- Room left in an open block of a use on a die: its key and free bytes. -/
def State.openOn (s : State) (use n die : Nat) : Option (Nat × MossBlock) :=
  s.ftl.blocks.find? (fun p => keyPort p.1 = n ∧ keyDie p.1 = die ∧ p.2.use = use ∧ p.2.state = 1)

/-- Bytes of an SLC block on a module. -/
def State.slcSize (s : State) (n : Nat) : Nat := ((s.port n).desc.map FrnDesc.slcBytes).getD 0

/-- Raw capacity of the dies the head drives, measured in dense mode. -/
def State.rawCapacity (s : State) : Nat :=
  s.frn.ports.foldl (fun t p =>
    match p.2.desc with
    | some d => if d.geometryOk then t + ((List.range d.dies).filter (s.drives d)).length * d.blocks * d.denseBytes else t
    | none => t) 0

/-- The moss tier's size in bytes (R181). -/
def State.mossSize (s : State) : Nat := s.rawCapacity * s.fld F.FTL.CONFIG.MOSS_PCT / 100

/-- FTL may draw one more block of a module into the moss tier: the blocks drawn, of every side held, stay within
its size (R181). -/
def State.mossRoom (s : State) (n : Nat) : Bool :=
  decide ((s.ftl.blocks ++ ((s.other.map (fun o => o.1.blocks)).getD [])).foldl (fun t p =>
    if p.2.use = 3 then t else t + s.slcSize (keyPort p.1)) (s.slcSize n) ≤ s.mossSize)

/-- The die can take `need` bytes of a use: an open block has room, or a block is free. -/
def State.canTake (s : State) (use need : Nat) (p : Nat × Nat) : Bool :=
  (match s.openOn use p.1 p.2 with
   | some (_, b) => decide (b.fill + need ≤ s.slcSize p.1)
   | none => false) ||
  (match (s.port p.1).desc with
   | some d => s.mossRoom p.1 && (s.freeBlock p.1 d p.2).isSome && decide (need ≤ d.slcBytes)
   | none => false)

/-- UNIT.KIND of a block by its use (R170). -/
def unitKind (use : Nat) : Nat := if use = 0 then 1 else if use = 3 then 3 else 2

/-- A block's state changed, with its UNIT item (R170). -/
def State.setBlockState (s : State) (key state : Nat) : State :=
  match Tab.find s.ftl.blocks key with
  | none => s
  | some b =>
    let s1 : State := { s with ftl := { s.ftl with blocks := Tab.insert s.ftl.blocks key { b with state := state } } }
    s1.formRecord [.unit (unitKind b.use) (placeOf key) state] none true

/-- A free block opened for a use. -/
def State.openFree (s : State) (use n die block : Nat) : State :=
  let b : MossBlock := { use := use, state := 1, fill := 0, live := 0, opened := s.now }
  let s1 : State := { s with ftl := { s.ftl with blocks := Tab.insert s.ftl.blocks (blockKey n die block) b } }
  s1.formRecord [.unit (unitKind use) (placeOf (blockKey n die block)) 1] none true

/-- An open block of a use with room for `need` bytes on a die; one without room is closed, and a free block opened. -/
def State.openBlock (s : State) (use need n die : Nat) : Option (Nat × State) :=
  let fresh (t : State) : Option (Nat × State) :=
    match (t.port n).desc with
    | none => none
    | some d => if t.mossRoom n then (t.freeBlock n d die).map (fun b => (blockKey n die b, t.openFree use n die b)) else none
  match s.openOn use n die with
  | some (k, b) => if b.fill + need ≤ s.slcSize n then some (k, s) else fresh (s.setBlockState k 2)
  | none => fresh s

/-- Bytes written into a block, and bytes of live chunk copies among them. -/
def State.fillBlock (s : State) (key bytes live : Nat) : State :=
  { s with ftl := { s.ftl with blocks := Tab.modify s.ftl.blocks key (fun (b : MossBlock) =>
      { b with fill := b.fill + bytes, live := b.live + live }) } }

/-- Fill of a block. -/
def State.blockFill (s : State) (key : Nat) : Nat := ((Tab.find s.ftl.blocks key).map MossBlock.fill).getD 0

/-- PROGRAM of consecutive pages of an SLC block. -/
def State.programSlc (s : State) (key page count : Nat) (images : List Byte) (u : Purpose) (host : Bool) : State :=
  s.issue (keyPort key)
    { frnCmd 2 (keyDie key) (keyBlock key) page count 0 false u host with mode := 1, data := images }

/-! Wear (R198 to R200). -/

/-- A block is retired (R198), by its cause. -/
def State.retireBlock (s : State) (key cause : Nat) : State :=
  let w := s.blockWear key
  if w.retired then s
  else
    let s1 : State := { s with ftl := { s.ftl with wear := Tab.insert s.ftl.wear key { w with retired := true } } }
    let s2 := s1.formRecord [.retire (keyPort key) (keyDie key) (keyBlock key) cause] none true
    let s3 := (s2.saturate (F.FTL.MOD_WEAR0.RETIRED.nth (keyPort key))).count F.FTL.STAT.COUNT 9
    (s3.event Src.FTL 6 (keyPort key) (keyDie key * 8192 + keyBlock key) cause).reserveCheck (keyPort key)

/-- A page of a block has needed die parity or RDN (R198, cause 3). -/
def State.noteRecovered (s : State) (key page : Nat) : State :=
  let w := s.blockWear key
  if w.recovered.contains page then s
  else { s with ftl := { s.ftl with wear := Tab.insert s.ftl.wear key { w with recovered := w.recovered ++ [page] } } }

/-- A running average of R200. -/
def average (e x w : Nat) : Nat := ((e : Int) + ((x : Int) - (e : Int)).tdiv w).toNat

/-- The averages of a die. -/
def State.dieWear (s : State) (n die : Nat) : DieWear :=
  Tab.getD s.ftl.dies (n * 128 + die) ⟨0, 0, false, false⟩

/-- The greatest of a quantity over a module's dies. -/
def State.worstDie (s : State) (n : Nat) (f : DieWear → Nat) : Nat :=
  (s.ftl.dies.filter (fun p => p.1 / 128 = n)).foldl (fun m p => max m (f p.2)) 0

/-- The averages of a die after an operation, shown and warned of (R200). -/
def State.setDieWear (s : State) (n die : Nat) (w : DieWear) : State :=
  let s1 : State := { s with ftl := { s.ftl with dies := Tab.insert s.ftl.dies (n * 128 + die) w } }
  (s1.put (F.FTL.MOD_WEAR1.PLOOP.nth n) (s1.worstDie n DieWear.ep)).put (F.FTL.MOD_WEAR1.RETRY.nth n)
    (s1.worstDie n DieWear.er)

/-- A program of a die has taken loops (R200): E_p, and PLOOP_WARN once until it falls back. -/
def State.programLoops (s : State) (n die loops : Nat) : State :=
  match (s.port n).desc with
  | none => s
  | some d =>
    let w := s.dieWear n die
    let ep := average w.ep (16 * loops) 64
    let high := decide (ep > 16 * d.loops + s.fld F.FTL.WEAR_CTL.PLOOP_MARGIN)
    let s1 := s.setDieWear n die { w with ep := ep, ploopWarned := high }
    if high && !w.ploopWarned then s1.event Src.FTL 10 n die else s1

/-- A read of a die has taken retries (R200): E_r, and RETRY_WARN once until it falls back. -/
def State.readRetries (s : State) (n die retries : Nat) : State :=
  let w := s.dieWear n die
  let er := average w.er (256 * retries) 256
  let high := decide (er > s.fld F.FTL.WEAR_CTL.RETRY_THR)
  let s1 := s.setDieWear n die { w with er := er, retryWarned := high }
  if high && !w.retryWarned then s1.event Src.FTL 11 n die else s1

/-- A block has been erased (R201): an SLC erase counts one eighth. -/
def State.blockErased (s : State) (key eighths : Nat) : State :=
  let w := s.blockWear key
  let n := keyPort key
  let s1 : State := { s with ftl := { s.ftl with
    wear := Tab.insert s.ftl.wear key { w with erases8 := w.erases8 + eighths, recovered := [] } } }
  let all := s1.ftl.wear.filter (fun p => keyPort p.1 = n)
  let most := all.foldl (fun m p => max m (p.2.erases8 / 8)) 0
  let total := all.foldl (fun m p => m + p.2.erases8) 0
  let blocks := match (s1.port n).desc with
    | some d => ((List.range d.dies).filter (s1.drives d)).length * d.blocks
    | none => 0
  (s1.put (F.FTL.MOD_WEAR1.MAX_ERASE.nth n) (min most 65535)).put (F.FTL.MOD_WEAR1.AVG_ERASE.nth n)
    (if blocks = 0 then 0 else total / 8 / blocks)

/-- The block has reached LIMIT_PCT percent of the rated cycles (R198, cause 4). -/
def State.wornOut (s : State) (key : Nat) : Bool :=
  match (s.port (keyPort key)).desc with
  | some d => decide ((s.blockWear key).erases8 * 100 ≥ 8 * d.cycles * s.fld F.FTL.WEAR_CTL.LIMIT_PCT)
  | none => false

/-! Refresh (R197). -/

/-- A read that succeeded asks for a refresh (R197). -/
def State.weakRead (s : State) (n level maxCorr : Nat) : Bool :=
  decide (level ≥ s.fld F.FTL.RETRY_CTL.REFRESH_RETRY) ||
  (match (s.port n).desc with
   | some d => decide (maxCorr * 100 > s.fld F.FTL.RETRY_CTL.REFRESH_PCT * d.corrLimit)
   | none => false)

/-! Moss fill (R184). -/

/-- The moss tier's use in bytes (R184): chunk copies, journal blocks and open blocks, of every side held. -/
def State.mossUsed (s : State) : Nat :=
  (s.ftl.blocks ++ ((s.other.map (fun o => o.1.blocks)).getD [])).foldl (fun t p =>
    t + (if p.2.use = 3 then 0 else if p.2.use = 0 ∧ p.2.state ≠ 1 then p.2.live else s.slcSize (keyPort p.1))) 0

/-- Fill reaches a percentage of the tier. -/
def State.mossAtLeast (s : State) (pct : Nat) : Bool :=
  s.mossSize != 0 && decide (s.mossUsed * 100 ≥ pct * s.mossSize)

/-- The moss bytes freed in the tick before (R184), over every side held. -/
def State.mossFreed (s : State) : Nat := s.ftl.freedLast + ((s.other.map (fun o => o.1.freedLast)).getD 0)

/-- MOSS_STATE and its events (R184). -/
def State.mossMarks (s : State) : State :=
  let was := s.fld F.FTL.STATUS.MOSS_STATE
  let full := s.fld F.FTL.MOSS_CTL.FULL
  let now :=
    if s.mossAtLeast full then 2
    else if was = 2 ∧ s.mossAtLeast (full - s.fld F.FTL.MOSS_CTL.HYST) then 2
    else if s.mossAtLeast (s.fld F.FTL.MOSS_CTL.HIGH) then 1 else 0
  let s1 := if was = now then s else s.put F.FTL.STATUS.MOSS_STATE now
  let s2 := if was = 0 ∧ now ≥ 1 then s1.event Src.FTL 1 else s1
  if was < 2 ∧ now = 2 then s2.event Src.FTL 2 else s2

/-- The moss bytes freed in the tick that ends become those of the last tick (R184). -/
def State.mossTurn (s : State) : State :=
  { s with ftl := { s.ftl with freedLast := s.ftl.freedNow, freedNow := 0 } }

end Sys2Proof.Machine
end

