-- ==== Sys2Proof/Machine/JournalFormat.lean ====
section
/-!
DEFINITION. Machine/JournalFormat.lean: the bytes of journal items and records (R169, R170), stripe descriptors (R186),
stripe-journal records (R216, R217), anchor pages (R174) and chunk headers (R49, R51).
-/

namespace Sys2Proof.Machine

/-- A truth value as a number. -/
def bit (b : Bool) : Nat := b.toNat

/-- The CODE and SIZE of an item and its four leading bytes (R170). -/
def itemHead (code size first : Nat) : List Byte := leBytes 1 code ++ leBytes 1 size ++ leBytes 2 0 ++ leBytes 4 first

/-- The bytes of an item (R170). -/
def JItem.encode : JItem → List Byte
  | .map nsid g e => itemHead 1 1 nsid ++ leBytes 8 g ++ e.bytes
  | .chunkNew chunk keyId units loc0 loc1 granules fp _ =>
    itemHead 2 2 keyId ++ leBytes 6 chunk ++ leBytes 2 units ++ leBytes 6 loc0 ++ leBytes 2 granules ++ leBytes 8 loc1 ++
      leBytes 32 fp.toNat
  | .reloc chunk keyId units loc0 state loc1 =>
    itemHead 3 1 keyId ++ leBytes 6 chunk ++ leBytes 2 units ++ leBytes 6 loc0 ++ leBytes 2 state ++ leBytes 8 loc1
  | .alias_ chunk target count => itemHead 4 1 0 ++ leBytes 8 chunk ++ leBytes 8 target ++ leBytes 8 count
  | .deref chunk cause item count =>
    itemHead 5 1 0 ++ leBytes 8 chunk ++ leBytes 8 cause ++ leBytes 2 item ++ leBytes 6 count
  | .keyres keyId res slot => padTo 32 (itemHead 6 1 keyId ++ leBytes 4 res ++ leBytes 1 slot)
  | .snap nsid me op => padTo 32 (itemHead 7 1 nsid ++ leBytes 4 me ++ leBytes 1 op)
  | .dealloc nsid first count => padTo 32 (itemHead 8 1 nsid ++ leBytes 8 first ++ leBytes 8 count)
  | .unit kind id state => padTo 32 (itemHead 9 1 kind ++ leBytes 8 id ++ leBytes 1 state)
  | .retire module die block cause =>
    padTo 32 (itemHead 10 1 0 ++ leBytes 1 module ++ leBytes 1 die ++ leBytes 2 block ++ leBytes 1 cause)
  | .pageWb kind index loc nsid => itemHead 11 1 kind ++ leBytes 8 index ++ leBytes 8 loc ++ leBytes 8 nsid
  | .rsv nsid op rtype ptpl prgen host key pkey =>
    padTo 64 (itemHead 13 2 nsid ++ leBytes 1 op ++ leBytes 1 rtype ++ leBytes 2 ptpl.toNat ++ leBytes 4 prgen ++
      leBytes 16 host.toNat ++ leBytes 8 key.toNat ++ leBytes 8 pkey.toNat)
  | .ckpt upto root pages => itemHead 12 1 0 ++ leBytes 8 upto ++ leBytes 8 root ++ leBytes 8 pages

/-- The bytes of a record (R169); CRC covers it with the field taken as zero. -/
def JRec.encode (r : JRec) : List Byte :=
  let body := r.items.flatMap JItem.encode
  let head := leBytes 2 0x4A52 ++ leBytes 1 1 ++ leBytes 1 0 ++ leBytes 4 (32 + body.length) ++ leBytes 8 r.jseq ++
    leBytes 8 r.doneSeq ++ leBytes 4 r.epoch
  head ++ leBytes 4 (crc32c (head ++ leBytes 4 0 ++ body)) ++ body

/-- TYPE of a stripe-journal record (R217). -/
def SjBody.typ : SjBody → Nat
  | .open_ _ => 1
  | .intent _ => 2
  | .done _ => 3
  | .close _ _ => 4
  | .member _ _ _ => 5
  | .rebuild _ _ _ _ => 6
  | .reshape _ _ _ _ _ _ _ => 7
  | .loss _ _ _ => 8

/-- The arguments of a stripe-journal record, from offset 32 (R217). -/
def SjBody.args : SjBody → List Byte
  | .open_ rows => leBytes 2 rows
  | .intent limit => leBytes 2 limit
  | .done rows => leBytes 2 rows
  | .close rows state => leBytes 2 rows ++ leBytes 1 state
  | .member m op module => leBytes 1 m ++ leBytes 1 op ++ leBytes 1 module
  | .rebuild a b rowsA rowsB => leBytes 1 a ++ leBytes 1 b ++ leBytes 2 rowsA ++ leBytes 2 rowsB
  | .reshape op kind module newD cursor end_ moved =>
    leBytes 1 op ++ leBytes 1 kind ++ leBytes 1 module ++ leBytes 1 newD ++ leBytes 4 cursor ++ leBytes 8 end_ ++
      leBytes 8 moved
  | .loss row slot members => leBytes 2 row ++ leBytes 2 slot ++ leBytes 4 members

/-- The bytes of a stripe-journal record (R216, R217); `body` follows at offset 64. -/
def SjRec.encode (r : SjRec) (head : Nat) (body : List Byte) : List Byte :=
  let all := padTo 32 r.body.args ++ body
  let padded := padTo ((all.length + 32 + 63) / 64 * 64 - 32) all
  let h := leBytes 2 0x534A ++ leBytes 1 1 ++ leBytes 1 r.body.typ ++ leBytes 2 (padded.length + 32) ++ leBytes 2 head ++
    leBytes 8 r.sseq ++ leBytes 4 r.epoch ++ leBytes 4 r.stripe
  h ++ leBytes 4 (crc32c (h ++ leBytes 8 0 ++ padded)) ++ leBytes 4 0 ++ padded

/-- An anchor page (R174). -/
def anchorPage (head epoch seq first : Nat) (pairs : List (Nat × Nat)) : List Byte :=
  leBytes 2 0x414E ++ leBytes 1 1 ++ leBytes 1 head ++ leBytes 4 epoch ++ leBytes 8 seq ++ leBytes 8 pairs.length ++
  leBytes 8 first ++ pairs.flatMap (fun p => leBytes 6 (placeOf p.1) ++ leBytes 6 (placeOf p.2))

/-! Records as they are read (R7, R169, R170, R216, R217). -/

/-- An item that bytes may stand for, by its CODE. The digest key of a new chunk stands in its header. -/
def itemOf (b : List Byte) : Option JItem :=
  let f (o n : Nat) : Nat := leField b o n
  match f 0 1 with
  | 1 => (readMapEntry ((b.drop 16).take 16)).map (fun p => .map (f 4 4) (f 8 8) p.1)
  | 2 => some (.chunkNew (f 8 6) (f 4 4) (f 14 2) (f 16 6) (f 24 6) (f 22 2) (BitVec.ofNat 256 (f 32 32)) 0)
  | 3 => some (.reloc (f 8 6) (f 4 4) (f 14 2) (f 16 6) (f 22 2) (f 24 6))
  | 4 => some (.alias_ (f 8 6) (f 16 6) (f 24 4))
  | 5 => some (.deref (f 8 6) (f 16 8) (f 24 2) (f 26 2))
  | 6 => some (.keyres (f 4 4) (f 8 4) (f 12 1))
  | 7 => some (.snap (f 4 4) (f 8 4) (f 12 1))
  | 8 => some (.dealloc (f 4 4) (f 8 8) (f 16 8))
  | 9 => some (.unit (f 4 1) (f 8 6) (f 16 1))
  | 10 => some (.retire (f 8 1) (f 9 1) (f 10 2) (f 12 1))
  | 11 => some (.pageWb (f 4 1) (f 8 8) (f 16 6) (f 24 4))
  | 12 => some (.ckpt (f 8 8) (f 16 6) (f 24 4))
  | 13 => some (.rsv (f 4 4) (f 8 1) (f 9 1) (f 10 1 == 1) (f 12 4) (BitVec.ofNat 128 (f 16 16)) (BitVec.ofNat 64 (f 32 8))
      (BitVec.ofNat 64 (f 40 8)))
  | _ => none

/-- The items of a record's body; none when one is unknown or has a reserved field that is not zero (R7). -/
def readItems : Nat → List Byte → Option (List JItem)
  | 0, b => if b = [] then some [] else none
  | fuel + 1, b =>
    if b = [] then some []
    else
      let n := 32 * leField b 1 1
      match itemOf (b.take n) with
      | none => none
      | some i => if i.encode = b.take n then (readItems fuel (b.drop n)).map (i :: ·) else none

/-- A record is valid when MAGIC, VERSION, LEN and CRC check (R169, R175), and its items are well formed (R7). -/
def readRecord (b : List Byte) : Option ReadRec :=
  let len := leField b 4 4
  if leField b 0 2 = 0x4A52 ∧ leField b 2 1 = 1 ∧ leField b 3 1 = 0 ∧ len = b.length ∧ len % 32 = 0 ∧ len ≤ 16384 ∧
      crc32c (b.take 28 ++ leBytes 4 0 ++ b.drop 32) = leField b 28 4 then
    (readItems 512 (b.drop 32)).map (fun items => { jseq := leField b 8 8, doneSeq := leField b 16 8, items := items })
  else none

/-- The type and arguments that the bytes of a stripe-journal record may stand for (R217). -/
def sjBodyOf (b : List Byte) : Option SjBody :=
  let f (o n : Nat) : Nat := leField b o n
  match f 3 1 with
  | 1 => some (.open_ (f 32 2))
  | 2 => some (.intent (f 32 2))
  | 3 => some (.done (f 32 2))
  | 4 => some (.close (f 32 2) (f 34 1))
  | 5 => some (.member (f 32 1) (f 33 1) (f 34 1))
  | 6 => some (.rebuild (f 32 1) (f 33 1) (f 34 2) (f 36 2))
  | 7 => some (.reshape (f 32 1) (f 33 1) (f 34 1) (f 35 1) (f 36 4) (f 40 8) (f 48 8))
  | 8 => some (.loss (f 32 2) (f 34 2) (f 36 4))
  | _ => none

/-- A stripe-journal record as it is read: SSEQ, the stripe, its type and arguments, and what follows offset 64. -/
structure ReadSj where
  sseq : Nat
  stripe : Nat
  body : SjBody
  rest : List Byte
  deriving DecidableEq, Repr

/-- A stripe-journal record is valid when MAGIC, VERSION, LEN and CRC check (R216, R221) and no reserved field is set (R7). -/
def readSj (b : List Byte) : Option ReadSj :=
  let len := leField b 4 2
  match sjBodyOf b with
  | none => none
  | some body =>
    if leField b 0 2 = 0x534A ∧ leField b 2 1 = 1 ∧ len = b.length ∧ len % 64 = 0 ∧ 64 ≤ len ∧ len ≤ 2048 ∧ leField b 6 2 < 2 ∧
        leField b 20 4 < 2 ^ 20 ∧ leField b 28 4 = 0 ∧ padTo 32 body.args = (b.drop 32).take 32 ∧
        crc32c (b.take 24 ++ leBytes 4 0 ++ b.drop 28) = leField b 24 4 then
      some { sseq := leField b 8 8, stripe := leField b 20 4, body := body, rest := b.drop 64 }
    else none

/-- An anchor page as it is read (R174): ANCHOR_SEQ, FIRST_JSEQ and the block keys of its pairs. -/
structure ReadAnchor where
  seq : Nat
  first : Nat
  pairs : List (Nat × Nat)
  deriving DecidableEq, Repr

/-- An anchor page read from the data of a page. -/
def readAnchor (b : List Byte) : Option ReadAnchor :=
  let n := leField b 16 2
  if leField b 0 2 = 0x414E ∧ leField b 2 1 = 1 ∧ leField b 3 1 < 2 ∧ 1 ≤ n ∧ n ≤ 1024 ∧ leField b 18 6 = 0 then
    some { seq := leField b 8 8, first := leField b 24 8,
           pairs := (List.range n).map (fun i => (leField b (32 + 12 * i) 6 / 2 ^ 20, leField b (38 + 12 * i) 6 / 2 ^ 20)) }
  else none

/-! The chunk header (R49). -/

/-- The fields of a chunk header. -/
structure ChunkHeader where
  magic : Nat
  version : Nat
  raw : Bool
  gz : Bool
  flags : Nat
  logicalLen : Nat
  storedLen : Nat
  keyId : Nat
  iv : List Byte
  contentCheck : Nat
  fingerprint : Nat
  dkey : Nat
  reserved : Nat
  epoch : Nat
  writeSeq : Nat
  tag : Nat
  deriving DecidableEq, Repr

/-- Header bytes 0 to 79 (R49, R50). -/
def headerBytes (raw : Bool) (logicalLen storedLen keyId : Nat) (iv : List Byte) (check fp dkey epoch writeSeq : Nat) :
    List Byte :=
  leBytes 2 0x6D43 ++ leBytes 1 1 ++ leBytes 1 (bit raw) ++ leBytes 4 logicalLen ++ leBytes 4 storedLen ++
  leBytes 4 keyId ++ iv ++ leBytes 4 check ++ leBytes 32 fp ++ leBytes 4 dkey ++ leBytes 4 epoch ++ leBytes 8 writeSeq

/-- The fields of the first 96 stored bytes (R49). -/
def readHeader (b : List Byte) : ChunkHeader :=
  let f (a k : Nat) : Nat := leNat ((b.drop a).take k)
  { magic := f 0 2, version := f 2 1, raw := f 3 1 % 2 == 1, gz := f 3 1 / 2 % 2 == 1, flags := f 3 1 / 4,
    logicalLen := f 4 4, storedLen := f 8 4, keyId := f 12 4, iv := (b.drop 16).take 12, contentCheck := f 28 4,
    fingerprint := f 32 32, dkey := f 64 1 % 16, reserved := f 64 1 / 16 + f 65 3, epoch := f 68 4, writeSeq := f 72 8,
    tag := f 80 16 }

/-- The header checks of R51: every one that needs neither the key nor the content. -/
def ChunkHeader.passes (h : ChunkHeader) : Bool :=
  h.magic == 0x6D43 && h.version == 1 && h.flags == 0 && h.reserved == 0 && !(h.raw && h.gz) &&
  h.logicalLen % 4096 == 0 && decide (h.logicalLen ≤ 32768) && (!h.raw || h.storedLen == h.logicalLen)

end Sys2Proof.Machine
end

