-- ==== Sys2Proof/Machine/MossTier.lean ====
section
/-!
DEFINITION. Machine/MossTier.lean: the moss tier (chapter 05, R168, R172 to R174, R182 to R184, R189; chapter 02, R65
to R68): placing the two copies of a chunk, the records of a write, and the journal and anchor pages of each boundary.
-/

namespace Sys2Proof.Machine

/-! Stored bytes. -/

/-- The stored bytes of a chunk: header, tag, payload, and zeros to a whole number of 64-byte units (R49, R157). -/
def ChunkJob.stored (j : ChunkJob) : List Byte :=
  let b := j.header ++ leBytes 16 j.tag.toNat ++ j.payload
  padTo ((b.length + 63) / 64 * 64) b

/-- The stored length in 64-byte units (R156). -/
def ChunkJob.units (j : ChunkJob) : Nat := (96 + j.payload.length + 63) / 64

/-- A chunk job changed. -/
def State.modifyJob (s : State) (n : Nat) (f : ChunkJob → ChunkJob) : State :=
  { s with rdx := { s.rdx with chunks := Tab.modify s.rdx.chunks n f } }

/-- A chunk job, by number. -/
def State.job (s : State) (n : Nat) : Option ChunkJob := Tab.find s.rdx.chunks n

/-! The records of a write (R172). -/

/-- The chunk jobs of a command, in granule order: they are numbered in that order. -/
def State.jobsOf (s : State) (cmd : Nat) : List (Nat × ChunkJob) :=
  s.rdx.chunks.filter (fun p => p.2.cmd = some cmd)

/-- A chunk of a write has reached step 7: it has its place, or hits one that has its record (R56, R172). -/
def State.atStep7 (s : State) (j : ChunkJob) : Bool :=
  match j.stage with
  | .placed => true
  | .hit => true
  | .zero => true
  | .pendingHit =>
    s.rdx.chunks.all (fun p => p.2.addr != j.addr || p.2.stage == .pendingHit || p.2.recorded || p.2.cmd == j.cmd)
  | _ => false

/-- The items of each granule of a chunk (R172): its CHUNK_NEW item ahead of the first MAP item that names it. -/
def ChunkJob.items (j : ChunkJob) : List (List JItem) :=
  (List.range j.granules).map (fun i =>
    let m : JItem := .map j.nsid (j.granule + i)
      (if j.stage = .zero then ⟨1, 0, 0, j.me⟩ else ⟨2, j.addr, i, j.me⟩)
    if j.stage = .placed ∧ i = 0 then
      [.chunkNew j.addr j.keyId j.units j.loc0 j.loc1 j.granules j.fingerprint j.dkey, m]
    else [m])

/-- Two commands of one namespace touch a common granule (chapter 08). -/
def Cmd.overlaps (a b : Cmd) : Bool :=
  leNat ((a.sqe.drop 4).take 4) == leNat ((b.sqe.drop 4).take 4) &&
  a.ranges.any (fun x => b.ranges.any (fun y => decide (x.1 < y.1 + y.2) && decide (y.1 < x.1 + x.2)))

/-- The records of a write may be formed: those of every overlapping write of lower key are formed, or it has ended
(R290). -/
def State.mayRecord (s : State) (cmd : Nat) (c : Cmd) : Bool :=
  s.cmf.cmds.all (fun p => decide (p.1 ≥ cmd) || !p.2.overlaps c || p.2.recorded || !cmdWrites p.2 ||
    p.2.stage == .finished || p.2.stage == .posted || p.2.stage == .transmitted)
where
  /-- Write, Write Zeroes and Dataset Management are writes (R288). -/
  cmdWrites (c : Cmd) : Bool :=
    c.toPeer.isNone && (match c.sqe.head? with
      | some b => b == 1 || b == 8 || (b == 9 && (leNat ((c.sqe.drop 44).take 4)).testBit 2)
      | none => false)

/-- The records of a write are formed as soon as its chunks have reached step 7 (R56, R172), with the items of its
deallocated granules (R283), in the order of R290. -/
def State.recordWrite (s : State) (cmd : Nat) : State :=
  match Tab.find s.cmf.cmds cmd with
  | none => s
  | some c =>
    let js := s.jobsOf cmd
    if c.stage = .writing ∧ !c.recorded ∧ (js ≠ [] ∨ c.items ≠ []) ∧
        js.all (fun p => s.atStep7 p.2 && !p.2.recorded) ∧ s.mayRecord cmd c then
      let items := js.flatMap (fun p => p.2.items) ++ c.items
      let gone := (s.ftl.tables.remapAll s.formed.1 items.flatten).2.2
      let s1 := (cutRecords items []).foldl (fun (t : State) items => t.formRecord items (some cmd) true) (s.willLower gone)
      let s2 := js.foldl (fun (t : State) p => t.modifyJob p.1 (fun j => { j with recorded := true })) s1
      { s2 with cmf := { s2.cmf with cmds := Tab.insert s2.cmf.cmds cmd { c with recorded := true } } }
    else s

/-- The side of a command's namespace. -/
def State.sideOf (s : State) (c : Cmd) : Nat := match c.ns with | some n => s.vsetSide n.vset | none => 0

/-- The writes in flight of the side, in the order of their keys. -/
def State.writers (s : State) : List Nat :=
  (s.cmf.cmds.filter (fun p => p.2.stage = .writing ∧ s.sideOf p.2 = s.ftl.side)).map Prod.fst

/-- Every write whose chunks have reached step 7 forms its records. -/
def State.recordWrites (s : State) : State := s.writers.foldl State.recordWrite s

/-- The records of a command are superseded (R68): its granules keep their earlier mappings, so the cached counts that its
remapping lowered rise again (R58). -/
def State.supersede (s : State) (cmd : Nat) : State :=
  let t := s.mapJournal (fun (r : JRec) => if r.cmd = some cmd then { r with superseded := true } else r)
  let before := s.formed.2.2.map s.finalChunk
  let after := t.formed.2.2.map s.finalChunk
  (before.diff after).foldl (fun (u : State) c => u.hotRaise c 1) (t.willLower (after.diff before))

/-- A chunk whose copy is unplaceable (R68, R56): its write fails, its pending entry goes, and every chunk whose pending
hit depended on it is driven again as a miss. A movement whose copy is unplaceable ends; its mover keeps the chunk. -/
def State.failChunk (s : State) (n : Nat) : State :=
  match s.job n with
  | none => s
  | some j =>
    let s1 := (s.modifyJob n (fun j => { j with stage := .failed, again := 0 })).event Src.FTL 4 0 j.addr
    let s2 : State := match j.cmd with
      | some c => s1.supersede c
      | none =>
        let t := s1.dropMove j.addr
        { t with rdx := { t.rdx with chunks := Tab.erase t.rdx.chunks n } }
    let s3 : State := { s2 with rdx := { s2.rdx with
      hot := s2.rdx.hot.filter (fun p => !(p.2.addr == j.addr && p.2.isPend)) } }
    let deps := s3.rdx.chunks.filter (fun p => p.2.stage = .pendingHit ∧ p.2.addr = j.addr)
    if deps = [] then s3
    else
      let cmds := (deps.filterMap (fun p => p.2.cmd)).dedup
      let s4 := deps.foldl (fun (t : State) p => t.modifyJob p.1 (fun j => { j with stage := .fingerprinted, driven := true, since := t.now })) s3
      let s5 := cmds.foldl State.supersede s4
      let undo (p : Nat × ChunkJob) : Nat × ChunkJob :=
        if p.2.cmd.any (fun c => cmds.contains c) then (p.1, { p.2 with recorded := false }) else p
      let again (p : Nat × Cmd) : Nat × Cmd := if cmds.contains p.1 then (p.1, { p.2 with recorded := false }) else p
      let s6 : State := { s5 with
        rdx := { s5.rdx with chunks := s5.rdx.chunks.map undo },
        cmf := { s5.cmf with cmds := s5.cmf.cmds.map again } }
      s6.event Src.RDX 3 0 j.addr

/-! Placing (R182, R183). -/

/-- The dies of a page-image pair (R182): the least busy that can take it, then the least busy on a module of another
domain. -/
def State.mossPair (s : State) (use need : Nat) : Option ((Nat × Nat) × (Nat × Nat)) :=
  let dies := s.usableDies.filter (s.canTake use need)
  let ok := dies.filter (fun p => dies.any (fun q => s.domain q.1 != s.domain p.1))
  match s.leastBusy ok with
  | none => none
  | some a => (s.leastBusy (dies.filter (fun q => s.domain q.1 ≠ s.domain a.1))).map (fun b => (a, b))

/-- The least busy die of a domain other than one given (R183). -/
def State.mossOther (s : State) (use need dom : Nat) : Option (Nat × Nat) :=
  s.leastBusy ((s.usableDies.filter (s.canTake use need)).filter (fun q => s.domain q.1 ≠ dom))

/-- Chunks that follow one another in an image while they fit. -/
def takeFit (room : Nat) : List (Nat × ChunkJob) → List (Nat × ChunkJob)
  | [] => []
  | p :: ps => if p.2.units * 64 ≤ room then p :: takeFit (room - p.2.units * 64) ps else []

/-- The offsets at which byte strings laid one after another begin. -/
def startsOf : Nat → List (List Byte) → List Nat
  | _, [] => []
  | o, b :: bs => o :: startsOf (o + b.length) bs

/-- Pages that hold a number of bytes. -/
def pagesFor (n : Nat) : Nat := (n + 16383) / 16384

/-- The image of some byte strings programmed into an open SLC block, its tail zero-filled (R168, R182): the offset at which it
begins, and the state. -/
def State.programImage (s : State) (key kind : Nat) (parts : List (List Byte)) (live : Nat) (u : Purpose) (host : Bool) :
    Nat × State :=
  let bytes := parts.flatten
  let at0 := s.blockFill key
  let k := pagesFor bytes.length
  let (img, s1) := s.pageImages kind (placeOf key) (at0 / 16384) (startsOf 0 parts) bytes k
  (at0, (s1.fillBlock key (k * 16384) live).programSlc key (at0 / 16384) k img u host)

/-- A chunk of an image: its job, the offset at which it begins, and its stored length. -/
structure Packed where
  job : Nat
  off : Nat
  len : Nat
  deriving DecidableEq, Repr

/-- The chunks of an image where they lie, one after another. -/
def packed : Nat → List (Nat × ChunkJob) → List Packed
  | _, [] => []
  | o, p :: ps => ⟨p.1, o, p.2.units * 64⟩ :: packed (o + p.2.units * 64) ps

/-- The PROGRAM commands of an image that touch a chunk: each takes four pages (R252). -/
def Packed.parts (p : Packed) : Nat := (p.off + p.len - 1) / 65536 + 1 - p.off / 65536

/-- One copy of an image of chunks programmed into an open moss block (R182): PROGRAM commands of four pages at most, each for
the chunks it touches. The offset at which the image begins, and the state. -/
def State.programChunks (s : State) (key copy : Nat) (parts : List (List Byte)) (chunks : List Packed) (host : Bool) : Nat × State :=
  let bytes := parts.flatten
  let at0 := s.blockFill key
  let k := pagesFor bytes.length
  let (img, s1) := s.pageImages 1 (placeOf key) (at0 / 16384) (startsOf 0 parts) bytes k
  let live := (chunks.map Packed.len).foldl (· + ·) 0
  (at0, (List.range ((k + 3) / 4)).foldl (fun (t : State) i =>
    let jobs := (chunks.filter (fun c => c.off / 65536 ≤ i ∧ i ≤ (c.off + c.len - 1) / 65536)).map Packed.job
    t.programSlc key (at0 / 16384 + 4 * i) (min 4 (k - 4 * i)) ((img.drop (i * 65792)).take 65792) (.chunkCopy jobs copy) host)
    (s1.fillBlock key (k * 16384) live))

/-- One page-image pair: as many of the chunks as fit in both blocks, in order, at the same offsets (R182). None when no pair of
dies can take the first. -/
def State.placeGroup (s : State) (js : List (Nat × ChunkJob)) : Option (List (Nat × ChunkJob) × State) :=
  match js with
  | [] => none
  | p :: _ =>
    let need := pagesFor (p.2.units * 64) * 16384
    match s.mossPair 0 need with
    | none => none
    | some (a, b) =>
      match s.openBlock 0 need a.1 a.2 with
      | none => none
      | some (k0, s1) =>
        match s1.openBlock 0 need b.1 b.2 with
        | none => none
        | some (k1, s2) =>
          let room := min (s2.slcSize a.1 - s2.blockFill k0) (s2.slcSize b.1 - s2.blockFill k1)
          let group := takeFit room js
          let bytes := group.map (fun q => q.2.stored)
          let spots := packed 0 group
          let host := group.any (fun q => q.2.cmd.isSome)
          let (o0, s3) := s2.programChunks k0 0 bytes spots host
          let (o1, s4) := s3.programChunks k1 1 bytes spots host
          let s5 := spots.foldl (fun (t : State) q => t.modifyJob q.job (fun j => { j with
            stage := .placed, left0 := q.parts, left1 := q.parts,
            loc0 := placeOf k0 + (o0 + q.off) / 64, loc1 := placeOf k1 + (o1 + q.off) / 64 })) s4
          let s6 : State := { s5 with ftl := { s5.ftl with mossOrder := s5.ftl.mossOrder ++ group.map (fun q => q.2.addr) } }
          some (group, s6.count F.FTL.STAT.COUNT 0 group.length)

/-- WRITE_SEQ of a chunk that CIP has handed over: bytes 72 to 79 of its header (R49). -/
def ChunkJob.writeSeq (j : ChunkJob) : Nat := leNat ((j.header.drop 72).take 8)

/-- Insertion of a chunk by the order in which CIP handed it over. -/
def insertArrived (p : Nat × ChunkJob) : List (Nat × ChunkJob) → List (Nat × ChunkJob)
  | [] => [p]
  | q :: qs => if p.2.writeSeq < q.2.writeSeq then p :: q :: qs else q :: insertArrived p qs

/-- The chunks CIP has handed over, in the order they arrived: CIP numbers them as it ends them (R182, R49). -/
def State.toPlace (s : State) : List (Nat × ChunkJob) :=
  (s.rdx.chunks.filter (fun p => p.2.stage = .encrypted ∧ p.2.since < s.now ∧ p.2.moves.isNone ∧
    p.2.addr / 2 ^ 47 = s.ftl.side)).foldl (fun l p => insertArrived p l) []

/-- Every chunk handed over is placed; one that no pair of dies can take is unplaceable (R183). -/
def State.placeAll (s : State) : Nat → State
  | 0 => s
  | fuel + 1 =>
    match s.toPlace with
    | [] => s
    | p :: ps =>
      match s.placeGroup (p :: ps) with
      | some (_, s1) => s1.placeAll fuel
      | none => (s.failChunk p.1).placeAll fuel

/-- MOSS_PLACE (R182): the chunks that CIP has handed over are packed in order into pairs of page images and programmed,
and the writes that have reached step 7 form their records. -/
def execMossPlace (s : State) : Host.Outcome State Fault Refusal :=
  .next (s.bothSides (fun (s : State) => ((s.placeAll s.toPlace.length).recordWrites).mossMarks))

/-- The place of copy 0 or 1 of a chunk job. -/
def ChunkJob.loc (j : ChunkJob) (copy : Nat) : Nat := if copy = 0 then j.loc0 else j.loc1

/-- COPY_PLACE_AGAIN (R183): a copy that failed is placed again on a module of a domain other than the surviving
copy's. When the write's record is formed already, a RELOC item names the new place (assumption 13). -/
def execCopyPlaceAgain (chunk copy : Nat) (s : State) : Host.Outcome State Fault Refusal :=
  .next (s.onSide (s.sideOfJob chunk) (fun (s : State) => match s.job chunk with
    | none => s
    | some j =>
      if j.stage ≠ .placed ∨ copy ≥ 2 ∨ !j.again.testBit copy then s
      else
        let need := pagesFor (j.units * 64) * 16384
        match s.mossOther 0 need (s.domain (keyPort (blockKeyOf (j.loc (1 - copy))))) with
        | none => s.failChunk chunk
        | some d =>
          match s.openBlock 0 need d.1 d.2 with
          | none => s.failChunk chunk
          | some (k, s1) =>
            let (o, s2) := s1.programChunks k copy [j.stored] [⟨chunk, 0, j.units * 64⟩] j.cmd.isSome
            let place := placeOf k + o / 64
            let set (j : ChunkJob) : ChunkJob :=
              if copy = 0 then { j with loc0 := place, left0 := 1, again := j.again - 2 ^ copy }
              else { j with loc1 := place, left1 := 1, again := j.again - 2 ^ copy }
            let s3 := ((s2.modifyJob chunk set).deadSpace (j.loc copy) j.units).count F.FTL.STAT.COUNT 1
            let j' := set j
            if j.moves.isSome then
              { s3 with ftl := { s3.ftl with moves := Tab.modify s3.ftl.moves j.addr (fun (m : Movement) =>
                  { m with loc0 := j'.loc0, loc1 := j'.loc1, newMoss := [place] }) } }
            else if j.recorded then s3.formRecord [.reloc j.addr j.keyId j.units j'.loc0 1 j'.loc1] none true else s3))

/-! Results of copies (R65, R183). -/

/-- A program of moss pages failed: the block is retired, and its live chunks move at refresh priority (R183, R198). -/
def State.mossProgramFailed (s : State) (key : Nat) : State :=
  let s1 := s.retireBlock key 1
  match Tab.find s1.ftl.blocks key with
  | some b => if b.state = 1 ∨ b.state = 2 then s1.setBlockState key 5 else s1
  | none => s1

/-- A command of a copy answered: the copy has passed once every command of it has (R65, R182). -/
def ChunkJob.answered (j : ChunkJob) (copy : Nat) : ChunkJob :=
  if copy = 0 then { j with left0 := j.left0 - 1, ok0 := decide (j.left0 ≤ 1) }
  else { j with left1 := j.left1 - 1, ok1 := decide (j.left1 ≤ 1) }

/-- A PROGRAM of a copy of a chunk has passed verify (R65): when both copies have, the chunk is durable and its entry is no
longer pending. -/
def State.copyPassed (s : State) (n copy : Nat) : State :=
  match s.job n with
  | none => s
  | some j =>
    let j1 := j.answered copy
    let s1 := s.modifyJob n (fun _ => j1)
    if j1.ok0 && j1.ok1 && j.moves.isSome then
      { s1 with
        rdx := { s1.rdx with chunks := Tab.erase s1.rdx.chunks n },
        ftl := { s1.ftl with moves := Tab.modify s1.ftl.moves j.addr (fun (m : Movement) => { m with verified := true }) } }
    else if j1.ok0 && j1.ok1 then s1.hotModify j.addr (fun e => { e with isPend := false })
    else s1

/-- A failed placement of a copy counted: the copy waits to be placed again. -/
def ChunkJob.failed (j : ChunkJob) (copy : Nat) : ChunkJob :=
  let again := if j.again.testBit copy then j.again else j.again + 2 ^ copy
  if copy = 0 then { j with fails0 := j.fails0 + 1, left0 := 0, again := again }
  else { j with fails1 := j.fails1 + 1, left1 := 0, again := again }

/-- A copy of a chunk has failed (R183): it waits to be placed again; after four failed placements it is unplaceable. -/
def State.copyFailed (s : State) (n copy : Nat) : State :=
  match s.job n with
  | none => s
  | some j =>
    let j1 := j.failed copy
    let s1 := s.modifyJob n (fun _ => j1)
    if (if copy = 0 then j1.fails0 else j1.fails1) ≥ 4 then s1.failChunk n else s1

/-- The page most recently verified on a die (R271). -/
def State.noteLast (s : State) (port : Nat) (c : FrnCmd) : State :=
  { s with ftl := { s.ftl with
      lastPage := Tab.insert s.ftl.lastPage (port * 128 + c.die) (c.block, c.page + c.count - 1) } }

/-- A command's chunks whose copy still stands where the command put it: one already failed waits to be placed again. -/
def State.standing (s : State) (key copy : Nat) (jobs : List Nat) : List Nat :=
  jobs.filter (fun n => (s.job n).any (fun j =>
    j.stage == .placed && blockKeyOf (j.loc copy) == key && !j.again.testBit copy))

/-- The result of a PROGRAM of one copy of an image. A FENCED copy is never placed again by the fenced head (R69, R265). -/
def State.chunkCopyResult (s : State) (port : Nat) (c : FrnCmd) (jobs : List Nat) (copy : Nat) (r : Option Rsp) : State :=
  let key := blockKey port c.die c.block
  let here := s.standing key copy jobs
  match r with
  | some x =>
    if x.status = 0 then here.foldl (fun (t : State) n => t.copyPassed n copy) (s.noteLast port c)
    else if x.status = 4 then s
    else here.foldl (fun (t : State) n => t.copyFailed n copy) (s.mossProgramFailed key)
  | none => here.foldl (fun (t : State) n => t.copyFailed n copy) s

/-! The map journal on flash (R168, R174). -/

/-- The state of copy 0 or 1 of a record. -/
def JRec.copyState (r : JRec) (copy : Nat) : CopyState := if copy = 0 then r.copy0 else r.copy1

/-- A copy of a record given a state. -/
def JRec.setCopy (r : JRec) (copy : Nat) (c : CopyState) : JRec :=
  if copy = 0 then { r with copy0 := c } else { r with copy1 := c }

/-- The block of copy 0 or 1 of a record. -/
def JRec.block (r : JRec) (copy : Nat) : Option Nat := if copy = 0 then r.block0 else r.block1

/-- A copy of a record sent to a block. -/
def JRec.sendCopy (r : JRec) (copy key : Nat) : JRec :=
  if copy = 0 then { r with copy0 := .sent, block0 := some key } else { r with copy1 := .sent, block1 := some key }

/-- A journal block pair is live, and an anchor page is due (R174). -/
def State.addPair (s : State) (k0 k1 : Nat) : State :=
  let first := ((s.ftl.journal.filter (fun r => !r.durable)).map JRec.jseq).foldl min (s.ftl.jseq + 1)
  { s with ftl := { s.ftl with livePairs := s.ftl.livePairs ++ [⟨k0, k1, first⟩], anchorDue := true } }

/-- A new journal pair is the open one (R168). -/
def State.setPair (s : State) (k0 k1 : Nat) : State :=
  let s1 := s.addPair k0 k1
  { s1 with ftl := { s1.ftl with pair := some (k0, k1) } }

/-- An open journal pair with room for some bytes in both blocks: the present one, or a new one on modules of different
domains (R168). -/
def State.journalPair (s : State) (need : Nat) : Option ((Nat × Nat) × State) :=
  let fresh (t : State) : Option ((Nat × Nat) × State) :=
    match t.mossPair 1 need with
    | none => none
    | some (a, b) =>
      match t.openBlock 1 need a.1 a.2 with
      | none => none
      | some (k0, t1) =>
        match t1.openBlock 1 need b.1 b.2 with
        | none => none
        | some (k1, t2) => some ((k0, k1), t2.setPair k0 k1)
  match s.ftl.pair with
  | none => fresh s
  | some (k0, k1) =>
    if s.blockFill k0 + need ≤ s.slcSize (keyPort k0) ∧ s.blockFill k1 + need ≤ s.slcSize (keyPort k1) then
      some ((k0, k1), s)
    else fresh ((s.setBlockState k0 2).setBlockState k1 2)

/-- Records that follow one another while they fit in four pages. -/
def takeRecords (room : Nat) : List JRec → List JRec
  | [] => []
  | r :: rs => if recordBytes r.items ≤ room then r :: takeRecords (room - recordBytes r.items) rs else []

/-- Records of a copy sent to a block. -/
def State.sentRecords (s : State) (copy key : Nat) (seqs : List Nat) : State :=
  s.mapJournal (fun (r : JRec) => if r.jseq ∈ seqs ∧ r.copyState copy = .waiting then r.sendCopy copy key else r)

/-- The block in which the other copy of a record stands, when a block shares its failure domain (R168). -/
def State.clash (s : State) (copy key : Nat) (r : JRec) : Option Nat :=
  (r.block (1 - copy)).filter (fun b => r.copyState (1 - copy) != .waiting && s.domain (keyPort b) == s.domain (keyPort key))

/-- A copy of a record placed again in a block of its own, in another domain than its other copy (R168); the two blocks are a
live pair. With no die to take it, UNPLACEABLE, and the copy is offered again at the next boundary. -/
def State.programApart (s : State) (copy other : Nat) (r : JRec) : State :=
  let need := pagesFor (recordBytes r.items) * 16384
  match (s.mossOther 1 need (s.domain (keyPort other))).bind (fun d => s.openBlock 1 need d.1 d.2) with
  | none => s.event Src.FTL 4
  | some (k, s1) =>
    let (_, s2) := s1.programImage k 2 [r.encode] 0 (.journal [r.jseq] copy) true
    (s2.addPair (if copy = 0 then k else other) (if copy = 0 then other else k)).sentRecords copy k [r.jseq]

/-- The waiting records of a copy are programmed in JSEQ order, each page's tail zero-filled (R168). -/
def State.programCopy (s : State) (copy : Nat) : Nat → State
  | 0 => s
  | fuel + 1 =>
    let waiting := s.ftl.journal.filter (fun r => r.copyState copy = .waiting)
    let rs := takeRecords 65536 waiting
    if rs = [] then s
    else
      match s.journalPair (pagesFor ((rs.map (fun r => recordBytes r.items)).foldl (· + ·) 0) * 16384) with
      | none => s.event Src.FTL 4
      | some ((k0, k1), s1) =>
        let k := if copy = 0 then k0 else k1
        match rs.takeWhile (fun r => (s1.clash copy k r).isNone), rs with
        | [], r :: _ => (s1.programApart copy ((s1.clash copy k r).getD k) r).programCopy copy fuel
        | free, _ =>
          let seqs := free.map JRec.jseq
          let (_, s2) := s1.programImage k 2 (free.map JRec.encode) 0 (.journal seqs copy) true
          (s2.sentRecords copy k seqs).programCopy copy fuel

/-- JOURNAL_PAGE_PROGRAM (R168): every journal page that holds a record is programmed, twice. -/
def State.programJournal (s : State) : State :=
  let k := s.ftl.journal.length
  (s.programCopy 0 k).programCopy 1 k

/-- A checkpoint begins (R173), at the JSEQ of the last record formed. -/
def State.beginCkpt (s : State) : State :=
  if s.ftl.ckpt.isNone then { s with ftl := { s.ftl with ckpt := some s.ftl.jseq } } else s

/-- A journal block whose program failed is retired and closed, and the pair goes on with a block of another domain than the
surviving one's (R168, R183). What it holds is moved by a checkpoint, which frees it (R198, assumption 62). -/
def State.journalBlockFailed (s : State) (key : Nat) : State :=
  let s1 := ((s.retireBlock key 1).setBlockState key 2).beginCkpt
  match s1.ftl.pair with
  | none => s1
  | some (k0, k1) =>
    if key ≠ k0 ∧ key ≠ k1 then s1
    else
      let other := if key = k0 then k1 else k0
      match (s1.mossOther 1 16384 (s1.domain (keyPort other))).bind (fun d => s1.openBlock 1 16384 d.1 d.2) with
      | none => ({ s1 with ftl := { s1.ftl with pair := none } } : State).event Src.FTL 4
      | some (k, s2) => if key = k0 then s2.setPair k other else s2.setPair other k

/-- The result of a copy of a journal page (R168): a failed copy is placed again in a block of another domain than the
surviving copy's. -/
def State.journalResult (s : State) (port : Nat) (c : FrnCmd) (seqs : List Nat) (copy : Nat) (r : Option Rsp) : State :=
  let key := blockKey port c.die c.block
  let mark (t : State) (x : CopyState) : State :=
    t.mapJournal (fun (q : JRec) =>
      if q.jseq ∈ seqs ∧ q.copyState copy = .sent ∧ q.block copy = some key then q.setCopy copy x else q)
  match r with
  | some x =>
    if x.status = 0 then mark s .ok
    else if x.status = 4 then s
    else (mark s .waiting).journalBlockFailed key
  | none => mark s .waiting

/-! Anchor pages (R174). -/

/-- An anchor block of a module has been retired. -/
def State.anchorGone (s : State) (key : Nat) : Bool := (s.blockWear key).retired

/-- The active anchor block of a side's die: the open one, or the first that has never been used (R174). -/
def State.activeAnchor (s : State) (n die : Nat) : Option Nat :=
  let usable (k : Nat) : Bool := !s.anchorGone k
  let both := [blockKey n die 0, blockKey n die 1]
  match both.find? (fun k => usable k && (Tab.find s.ftl.blocks k).any (fun b => b.use == 3 && b.state == 1)) with
  | some k => some k
  | none => if both.any (fun k => (Tab.find s.ftl.blocks k).any (fun b => b.state == 2 || b.state == 3)) then none
    else both.find? (fun k => usable k && (Tab.find s.ftl.blocks k).isNone)

/-- The erase intent of an anchor block, which is the active one once it is erased (R174). -/
def State.eraseAnchor (s : State) (key : Nat) : State :=
  let b : MossBlock := { use := 3, state := 3, fill := 0, live := 0, opened := s.now }
  let s1 := s.formRecord [.unit 3 (placeOf key) 3] none true
  { s1 with ftl := { s1.ftl with
      blocks := Tab.insert s1.ftl.blocks key b,
      erasing := s1.ftl.erasing ++ [{ kind := 3, id := placeOf key, jseq := s1.ftl.jseq, sent := false, left := 1 }] } }

/-- The other anchor block of the die is to be erased and used, or the same one again once the other is retired (R174, R198). -/
def State.turnAnchor (s : State) (key : Nat) : State :=
  let other := if keyBlock key = 0 then key + 1 else key - 1
  if !s.anchorGone other then s.eraseAnchor other else if !s.anchorGone key then s.eraseAnchor key else s

/-- The anchor page programmed to one module whose die meets R176; when that fills the block, the other one is to be erased and
used. -/
def State.anchorTo (s : State) (n : Nat) (page : List Byte) : State :=
  match (s.port n).desc with
  | none => s
  | some d =>
    match if d.geometryOk then (s.lowestDie d s.ftl.side).bind (s.activeAnchor n) else none with
    | none => s
    | some key =>
      let b : MossBlock := { use := 3, state := 1, fill := 0, live := 0, opened := s.now }
      let s1 : State :=
        if (Tab.find s.ftl.blocks key).isSome then s
        else { s with ftl := { s.ftl with blocks := Tab.insert s.ftl.blocks key b } }
      let (img, s2) := s1.pageImage 8 (placeOf key) (s1.blockFill key / 16384) 0xFFFF page
      let s3 := (s2.fillBlock key 16384 0).programSlc key (s1.blockFill key / 16384) 1 img .anchor false
      if s3.blockFill key < d.slcBytes then s3 else (s3.setBlockState key 2).turnAnchor key

/-- The result of an anchor page (R174, R198): a block whose program failed is retired and closed, the other one takes its place,
and the page is due again. -/
def State.anchorResult (s : State) (port : Nat) (c : FrnCmd) (r : Option Rsp) : State :=
  let key := blockKey port c.die c.block
  if r.any (fun x => x.status == 1) ∧ !s.anchorGone key then
    let s1 := ((s.retireBlock key 1).setBlockState key 2).turnAnchor key
    { s1 with ftl := { s1.ftl with anchorDue := true } }
  else s

/-- The anchor block of a module may be programmed: no erase of it is due. -/
def State.anchorReady (s : State) (n : Nat) : Bool :=
  s.ftl.erasing.all (fun e => e.kind != 3 || keyPort (blockKeyOf e.id) != n)

/-- ANCHOR_PAGE (R174): when a journal block pair has been opened, an anchor page that lists every live pair is programmed
to both anchor modules. -/
def State.programAnchor (s : State) : State :=
  let a := s.fld F.FTL.ANCHOR.MOD_A
  let b := s.fld F.FTL.ANCHOR.MOD_B
  if s.ftl.anchorDue && s.anchorReady a && s.anchorReady b then
    let pairs := s.ftl.livePairs.map (fun p => (p.copy0, p.copy1)) ++ s.rdn.oldPairs.map (fun p => (p.copy0, p.copy1)) ++
      s.rdn.pair.toList
    let first := (s.ftl.livePairs.head?.map JPair.first).getD 0
    let n := s.ftl.anchorSeq + 1
    let page := anchorPage s.tck.headSlot s.frnEpoch n first (pairs.take 1024)
    let s1 : State := { s with ftl := { s.ftl with anchorSeq := n, anchorDue := false } }
    (s1.anchorTo a page).anchorTo b page
  else s

/-! Releasing moss copies (R189). -/

/-- A movement's RELOC item is durable and applied, and the delta that carries it has been handed (R189, R190). -/
def State.moveDone (s : State) (m : Movement) : Bool :=
  match m.jseq with
  | none => false
  | some q => match s.ftl.journal.find? (fun r => r.jseq = q) with
    | some r => r.applied && r.handed
    | none => decide (q ≤ s.ftl.jseq)

/-- A movement ends: the old places are dead space, and a rewriting is done (R195). -/
def State.endMove (s : State) (chunk : Nat) (m : Movement) : State :=
  let units := ((Tab.find s.ftl.tables.chunks chunk).map ChunkEntry.units).getD m.units
  let s1 := m.old.foldl (fun (t : State) p => t.deadSpace p (m.oldUnits.getD units)) s
  { s1 with ftl := { s1.ftl with
      moves := Tab.erase s1.ftl.moves chunk
      rewrites := s1.ftl.rewrites.filter (fun w => m.kind != .rewrite || w.chunk != chunk) } }

/-- MOSS_RELEASE (R189): a folded chunk's moss copies are released once its row and RELOC item are durable and the delta
that carries it has been handed. -/
def execMossRelease (chunk : Nat) (s : State) : Host.Outcome State Fault Refusal :=
  .next (s.onSide (chunk / 2 ^ 47) (fun (s : State) => match Tab.find s.ftl.moves chunk with
    | none => s
    | some m =>
      if m.kind = .fold ∧ s.moveDone m then
        let s1 := (s.endMove chunk m).count F.FTL.STAT.COUNT 2
        ({ s1 with ftl := { s1.ftl with mossOrder := s1.ftl.mossOrder.filter (fun c => c ≠ chunk) } } : State).mossMarks
      else s))

end Sys2Proof.Machine
end

