-- ==== Sys2Proof/Machine/Keys.lean ====
section
/-!
DEFINITION. Machine/Keys.lean: the key slots of CIP and DGS (chapter 04, R117 to R131, R134, R135): states, usage and
reservations, the resolution of a key, IVs, and the key commands.
-/

namespace Sys2Proof.Machine

/-! Slots. -/

/-- The slots of a type: 0 data, 1 transport, 2 digest. -/
def Cip.slots (c : Cip) (typ : Nat) : Tab KeySlot := if typ = 0 then c.data else if typ = 1 then c.transport else c.digest

/-- The number of slots of a type. -/
def slotCount (typ : Nat) : Nat := [4096, 64, 16].getD typ 0

/-- The slots of a type replaced. -/
def State.setSlots (s : State) (typ : Nat) (m : Tab KeySlot) : State :=
  if typ = 0 then { s with cip := { s.cip with data := m } }
  else if typ = 1 then { s with cip := { s.cip with transport := m } }
  else { s with cip := { s.cip with digest := m } }

/-- A slot that is not EMPTY. -/
def State.slot (s : State) (typ n : Nat) : Option KeySlot := Tab.find (s.cip.slots typ) n

/-- A slot given a value. -/
def State.setSlot (s : State) (typ n : Nat) (k : KeySlot) : State :=
  s.setSlots typ (Tab.insert (s.cip.slots typ) n k)

/-- USED of R124. -/
def KeySlot.usedBlocks (k : KeySlot) (typ : Nat) : Nat :=
  if typ = 0 then k.resOwn + k.resPeer else (k.next + 2 ^ 20 - 1) / 2 ^ 20

/-- W of R123. -/
def KeySlot.warnAt (k : KeySlot) : Nat := (k.limit * 95 + 99) / 100

/-- The key is spent (R123, R124). -/
def KeySlot.spent (k : KeySlot) (typ : Nat) : Bool :=
  if typ = 0 then k.usedBlocks 0 == k.limit && k.next == k.resOwn * 2 ^ 20 else k.next == k.limit * 2 ^ 20

/-- Every action of R123 that sets an event sets the slot's ATTN bit too, and names KEY_ID in the record. -/
def State.keyEvent (s : State) (typ n bit keyId : Nat) : State :=
  let s1 := s.event Src.CIP bit (typ * 4096 + n) keyId
  if typ = 0 then s1.put (F.CIP.ATTN.SLOT.nth (n / 64)) (s1.fld (F.CIP.ATTN.SLOT.nth (n / 64)) ||| 2 ^ (n % 64))
  else s1.put F.CIP.ATTN_TX.SLOT (s1.fld F.CIP.ATTN_TX.SLOT ||| 2 ^ n)

/-- The usable successor of a key: READY or ACTIVE (R123). -/
def State.successor (s : State) (typ : Nat) (k : KeySlot) : Option (Nat × KeySlot) :=
  k.succ.bind (fun n => match s.slot typ n with
    | some x => if x.state = .ready ∨ x.state = .active then some (n, x) else none
    | none => none)

/-- A key switches to its successor (R123, R128). -/
def State.switchKey (s : State) (typ n : Nat) (k : KeySlot) (m : Nat) (x : KeySlot) : State :=
  ((s.setSlot typ n { k with state := .retiring }).setSlot typ m { x with state := .active }).keyEvent typ n 1 k.keyId

/-- USED has reached W (R123, R127): the warning once, and the switch when the successor can take over. -/
def State.checkWarn (s : State) (typ n : Nat) : State :=
  match s.slot typ n with
  | none => s
  | some k =>
    if k.usedBlocks typ < k.warnAt then s
    else
      let s1 := if k.warned then s else (s.setSlot typ n { k with warned := true }).keyEvent typ n 0 k.keyId
      if k.state ≠ .active ∨ k.warned then s1
      else match s.successor typ k with
        | some (m, x) => s1.switchKey typ n { k with warned := true } m x
        | none => s1

/-- A key whose USED is LIMIT and whose values are all used becomes EXHAUSTED (R123). -/
def State.checkSpent (s : State) (typ n : Nat) : State :=
  match s.slot typ n with
  | none => s
  | some k =>
    if k.spent typ ∧ k.state ≠ .exhausted then
      (s.setSlot typ n { k with state := .exhausted }).keyEvent typ n 2 k.keyId
    else s

/-! Resolution (R129). -/

/-- The key reached from a slot in at most the given number of steps: its slot, and the steps taken. -/
def State.resolveFrom (s : State) (typ : Nat) : Nat → Nat → Nat → Option (Nat × Nat)
  | 0, n, taken =>
    match s.slot typ n with
    | some k => if k.state = .ready ∨ k.state = .active ∨ (k.state = .retiring ∧ k.succ.isNone) then some (n, taken) else none
    | none => none
  | fuel + 1, n, taken =>
    match s.slot typ n with
    | none => none
    | some k =>
      match k.state, k.succ with
      | .ready, _ => some (n, taken)
      | .active, _ => some (n, taken)
      | .retiring, none => some (n, taken)
      | .exhausted, none => none
      | _, some m => s.resolveFrom typ fuel m (taken + 1)

/-- The key of a namespace's chunk or of a Spray packet (R129), which becomes ACTIVE when it is READY: its slot, the
successor steps taken, and the state. -/
def State.resolveKey (s : State) (typ n : Nat) : Option (Nat × Nat) × State :=
  match s.resolveFrom typ 3 n 0 with
  | none => (none, s)
  | some (m, steps) =>
    match s.slot typ m with
    | some k => (some (m, steps), if k.state = .ready then s.setSlot typ m { k with state := .active } else s)
    | none => (none, s)

/-! Use (R124, R134, R135). -/

/-- The next counter value of a data key may be used: its block's reservation is durable (R124). -/
def KeySlot.mayUse (k : KeySlot) (typ : Nat) : Bool :=
  if typ = 0 then k.usageValid && decide (k.next < min k.resOwn k.durable * 2 ^ 20) else decide (k.next < k.limit * 2 ^ 20)

/-- The IV of R134. -/
def ivOf (domain origin sender counter : Nat) : List Byte :=
  leBytes 1 domain ++ leBytes 1 origin ++ leBytes 2 sender ++ leBytes 8 counter

/-- One invocation under a slot (R135): the key, the IV, and the state with NEXT raised. -/
def State.invoke (s : State) (typ n domain : Nat) : Option (List Byte × List Byte) × State :=
  match s.slot typ n with
  | none => (none, s)
  | some k =>
    if k.mayUse typ then
      let iv := ivOf domain s.tck.headSlot (if domain = 0x54 then k.sender else 0) k.next
      let s1 := s.setSlot typ n { k with next := k.next + 1 }
      (some (k.key, iv), s1.checkSpent typ n)
    else (none, s)

/-- The data slot that holds a KEY_ID (R131). -/
def State.slotOfId (s : State) (keyId : Nat) : Option (Nat × KeySlot) := s.cip.data.find? (fun p => p.2.keyId == keyId)

/-- The head holds some side (R125). -/
def State.holdsSide (s : State) : Bool := s.wit.own != 0

/-- CIP reserves a further block of a data key at a boundary (R125): a KEYRES item is journalled, for the home side while the
head holds it, else for the side it holds. -/
def State.reserve (s : State) (n : Nat) : State :=
  match s.slot 0 n with
  | none => s
  | some k =>
    if k.usageValid ∧ k.state ≠ .exhausted ∧ s.holdsSide ∧ k.next + 2 ^ 19 ≥ k.resOwn * 2 ^ 20 ∧ k.usedBlocks 0 < k.limit then
      let h := s.tck.headSlot
      (s.setSlot 0 n { k with resOwn := k.resOwn + 1 }).onSide (if s.wit.own.testBit h then h else 1 - h)
        (fun t => t.formRecord [.keyres k.keyId (k.resOwn + 1) h] none true)
    else s

/-- KEY_RESERVE (R125): a data key whose values run low reserves one further block. -/
def execKeyReserve (slot : Nat) (s : State) : Host.Outcome State Fault Refusal := .next (s.reserve slot)

/-- Usage of a loaded data key restored (R126): NEXT at the end of the blocks reserved. -/
def State.restoreUsage (s : State) (n own peer : Nat) : State :=
  match s.slot 0 n with
  | none => s
  | some k => (s.setSlot 0 n { k with resOwn := own, resPeer := peer, durable := own, next := own * 2 ^ 20,
                                       usageValid := true }).checkSpent 0 n

/-- The highest RES of a KEY_ID and a head slot in a side's map journal (R126): of its applied items, and of its records. -/
def Ftl.highestRes (f : Ftl) (keyId slot : Nat) : Nat :=
  highestOf f.journal keyId slot (Tab.getD f.keyres (keyId * 2 + slot) 0)

/-- The highest RES of a KEY_ID and a head slot in the map journals of the sides held (R126). -/
def State.highestRes (s : State) (keyId slot : Nat) : Nat :=
  max (s.ftl.highestRes keyId slot) ((s.other.map (fun o => o.1.highestRes keyId slot)).getD 0)

/-- The usage of a loaded data key restored from the journals and from what the slot holds already (R126). -/
def State.restoreFromJournals (s : State) (n : Nat) : State :=
  match s.slot 0 n with
  | none => s
  | some k =>
    let h := s.tck.headSlot
    s.restoreUsage n (max k.resOwn (s.highestRes k.keyId h)) (max k.resPeer (s.highestRes k.keyId (1 - h)))

/-- KEY_USAGE_RESTORE (R126): a key loaded at another time has its usage restored within the pacer's grant. -/
def execKeyUsageRestore (slot : Nat) (s : State) : Host.Outcome State Fault Refusal :=
  .next (if s.granted Cls.mapWork ∧ (s.slot 0 slot).any (fun k => !k.usageValid) then s.spendMeta.restoreFromJournals slot else s)

/-- The peer's reservations (R124): RES_PEER, matched by KEY_ID. -/
def State.peerRes (s : State) (keyId res : Nat) : State :=
  match s.slotOfId keyId with
  | none => s
  | some (n, k) => (s.setSlot 0 n { k with resPeer := max k.resPeer res }).checkSpent 0 n

/-! Zeroisation (R117). -/

/-- CIP and DGS zero every slot, context and lane slot; the jobs in flight complete ZEROISED in the step 3 that follows. -/
def State.zeroise (s : State) : State :=
  let s1 : State := { s with
    cip := { s.cip with
      data := [], transport := [], digest := [], ctx := [], jobs := [],
      ended := s.cip.ended ++ s.cip.jobs.map (fun p => emptyEnd .cip p.2 0x24) },
    dgs := { s.dgs with ctx := [], jobs := [], ended := s.dgs.ended ++ s.dgs.jobs.map (fun p => emptyEnd .dgs p.2 0x24) } }
  (s1.event Src.CIP 6).event Src.DGS 1

/-! Key commands (R121, R122). -/

/-- Random bytes of the on-die source: free values. -/
def State.randomBytes (s : State) (n : Nat) : List Byte × State :=
  ((List.range n).map (Config.freeByte s.fresh), { s with fresh := s.fresh + 1 })

/-- A wrapped key blob (R120). Without an array wrapping key the wrap is free. DESIGN CHOICE (assumption 71): the array wrapping
key taken as AES key bytes has its lowest byte first, as where it is exported and drawn. -/
def State.blob (s : State) (typ keyId limit : Nat) (key : List Byte) : List Byte × State :=
  let (iv, s1) := s.randomBytes 12
  let head := leBytes 2 0x4B57 ++ leBytes 1 1 ++ leBytes 1 typ ++ leBytes 4 keyId ++
    leBytes 4 (if typ = 0 then limit else 0) ++ leBytes 1 key.length ++ leBytes 3 0 ++ iv ++ leBytes 4 0
  let plain := key ++ List.replicate (64 - key.length) 0
  match s1.lcs.awk with
  | some k =>
    let kb := leBytes 32 k.toNat
    let c := gcmCrypt kb iv plain
    (head ++ c ++ gcmTag kb iv head c ++ leBytes 16 0, s1)
  | none =>
    let (free, s2) := s1.randomBytes 80
    (head ++ free ++ leBytes 16 0, s2)

/-- CIP.KEY_DATA as bytes. -/
def State.keyData (s : State) : List Byte := (List.range 16).flatMap (fun i => leBytes 8 (s.fld (F.CIP.KEY_DATA.DATA.nth i)))

/-- CIP.KEY_DATA written. -/
def State.setKeyData (s : State) (b : List Byte) : State :=
  (List.range 16).foldl (fun (t : State) i => t.put (F.CIP.KEY_DATA.DATA.nth i) (leNat ((b.drop (8 * i)).take 8))) s

/-- A reserved field of a blob is not zero (R120, R122). -/
def blobReserved (b : List Byte) : Bool :=
  let f (o n : Nat) : Nat := leNat ((b.drop o).take n)
  f 13 3 != 0 || f 28 4 != 0 || f 112 16 != 0

/-- The key of a blob that checks (R120, R122): KEY_ID, LIMIT and key. -/
def State.unblob (s : State) (typ : Nat) (b : List Byte) : Option (Nat × Nat × List Byte) :=
  let f (o n : Nat) : Nat := leNat ((b.drop o).take n)
  match s.lcs.awk with
  | none => none
  | some k =>
    let kb := leBytes 32 k.toNat
    let iv := (b.drop 16).take 12
    let c := (b.drop 32).take 64
    let len := f 12 1
    let lenOk := if typ = 0 then len == 32 else decide (32 ≤ len) && decide (len ≤ 64)
    let limOk := if typ = 0 then decide (16 ≤ f 8 4) && decide (f 8 4 ≤ 2 ^ 28) else f 8 4 == 0
    if f 0 2 = 0x4B57 ∧ f 2 1 = 1 ∧ f 3 1 = typ ∧ lenOk ∧ limOk ∧ gcmTag kb iv (b.take 32) c = (b.drop 96).take 16 then
      some (f 4 4, f 8 4, (gcmCrypt kb iv c).take len)
    else none

/-- A key command ends with its result (R122): BUSY 0, KEY_CMD_DONE, and KEY_DATA zeroed or given a blob. -/
def State.endKeyCommand (s : State) (result : Nat) (data : List Byte) : State :=
  (((s.put F.CIP.KEY_STATUS.BUSY 0).put F.CIP.KEY_STATUS.RESULT result).setKeyData data).event Src.CIP 3 0 result

/-- A new slot. -/
def newSlot (keyId limit sender : Nat) (key : List Byte) (usage : Bool) : KeySlot := {
  state := .ready, keyId := keyId, key := key, limit := limit, next := 0, resOwn := 0, resPeer := 0, durable := 0,
  usageValid := usage, succ := none, sender := sender, warned := false }

/-- A KEY_ID that may not be loaded (R122). -/
def State.badId (s : State) (typ keyId : Nat) : Bool := keyId == 0 || (s.cip.slots typ).any (fun p => p.2.keyId == keyId)

/-- A KEY_ID is 32 bits; LIMIT 16 to 2^28. -/
def limitOk (n : Nat) : Bool := decide (16 ≤ n) && decide (n ≤ 2 ^ 28)

/-- The key command executes in step 3 of the boundary after its write (R121, R122). DESIGN CHOICE (assumption 72): KEY_ARG0 and
KEY_ARG1 count as they stood at the write of KEY_CMD, KEY_DATA as it stands now; of several results that apply, BAD_ARG of the
arguments comes first, then SLOT_STATE, BAD_ARG of what only that command reads, UNWRAP_FAIL and DUP_ID. -/
def State.runKeyCommand (s : State) : State :=
  match s.cip.pending with
  | none => s
  | some p =>
    let s0 : State := { s with cip := { s.cip with pending := none } }
    let typ := bits p.arg0.toNat 13 12
    let n := bits p.arg0.toNat 11 0
    let other := bits p.arg0.toNat 27 16
    let keyId := bits p.arg0.toNat 63 32
    let limit := bits p.arg1.toNat 31 0
    let sender := bits p.arg1.toNat 47 32
    let stop (r : Nat) : State := s0.endKeyCommand r []
    let types := match p.op with
      | 1 => typ == 0 || typ == 2
      | 2 => typ == 0 || typ == 2
      | 3 => typ == 1
      | 7 => decide (typ ≤ 2)
      | _ => decide (typ ≤ 1)
    if !types ∨ n ≥ slotCount typ ∨ bits p.arg0.toNat 31 28 ≠ 0 ∨ bits p.arg0.toNat 15 14 ≠ 0 ∨ bits p.arg1.toNat 63 48 ≠ 0 then
      stop 1
    else match p.op, s0.slot typ n with
      | 1, none =>
        let lim := if limit = 0 then 2 ^ 20 else limit
        if typ = 0 ∧ !limitOk lim then stop 1
        else if s0.badId typ keyId then stop 3
        else
          let (key, s1) := s0.randomBytes 32
          let (b, s2) := s1.blob typ keyId lim key
          (s2.setSlot typ n (newSlot keyId (if typ = 0 then lim else 0) 0 key true)).endKeyCommand 0 b
      | 2, none =>
        if blobReserved s0.keyData then stop 1
        else match s0.unblob typ s0.keyData with
        | none => stop 4
        | some (id, lim, key) =>
          if s0.badId typ id then stop 3
          else (s0.setSlot typ n (newSlot id lim 0 key (typ != 0))).endKeyCommand 0 []
      | 3, none =>
        if !limitOk limit then stop 1
        else if s0.badId 1 keyId then stop 3
        else (s0.setSlot 1 n (newSlot keyId limit sender (s0.keyData.take 32) true)).endKeyCommand 0 []
      | 4, some k =>
        if other ≥ slotCount typ then stop 1
        else if other = n then (s0.setSlot typ n { k with succ := none }).endKeyCommand 0 []
        else
          let k1 := { k with succ := some other }
          let s1 := s0.setSlot typ n k1
          let s2 := match s1.successor typ k1 with
            | some (m, x) => if k1.state = KeyState.active ∧ k1.usedBlocks typ ≥ k1.warnAt then s1.switchKey typ n k1 m x else s1
            | none => s1
          s2.endKeyCommand 0 []
      | 5, some k =>
        if k.state ≠ .active then stop 2
        else match s0.successor typ k with
          | none => stop 6
          | some (m, x) => (s0.switchKey typ n k m x).endKeyCommand 0 []
      | 6, some k =>
        if !limitOk limit ∨ limit ≤ k.limit then stop 1
        else
          let st := if k.state = .exhausted ∧ limit > k.usedBlocks typ then (if k.succ.isSome then KeyState.retiring else KeyState.active) else k.state
          let k1 := { k with limit := limit, state := st, warned := k.warned && decide (k.usedBlocks typ ≥ (limit * 95 + 99) / 100) }
          let s1 := s0.setSlot typ n k1
          if typ = 0 then
            let (b, s2) := s1.blob 0 k.keyId limit k.key
            s2.endKeyCommand 0 b
          else s1.endKeyCommand 0 []
      | 7, some _ =>
        if typ = 2 ∧ n = s0.fld F.RDX.CONFIG.DKEY ∧ s0.lcs.mode ≠ .structureLoad then stop 5
        else (s0.setSlots typ (Tab.erase (s0.cip.slots typ) n)).endKeyCommand 0 []
      | _, _ => stop 2

/-- What CIP does for its keys in step 3 of a boundary, once the key command has run (R123, R125, R127, R128): data keys reserve
their blocks, and a key whose USED has reached W warns and switches. -/
def State.keyTurn (s : State) : State :=
  if s.lcs.mode.still then s
  else
    let s1 := (Tab.keys s.cip.data).foldl (fun (t : State) n => (t.reserve n).checkWarn 0 n) s
    (Tab.keys s1.cip.transport).foldl (fun (t : State) n => t.checkWarn 1 n) s1

end Sys2Proof.Machine
end

