-- ==== Sys2Proof/Machine/Partitions.lean ====
section
/-!
DEFINITION. Machine/Partitions.lean: the memory partitions of MEM and the grants that every access to HBM and DDR needs
(R544, R548, R550, R551).
-/

namespace Sys2Proof.Machine

/-- HBM: 128 GiB (R544). -/
def hbmBase : Nat := 0x2000000000
def hbmEnd : Nat := 0x4000000000

/-- DDR (R544). -/
def ddrBase : Nat := 0x10000000000

/-- The end of DDR (R544, R549). -/
def State.ddrEnd (s : State) : Nat := ddrBase + s.fld F.MEM.DDR_SIZE.GIB * 2 ^ 30

/-- The range of an enabled partition (R550): a DDR partition with SIZE 0 extends to the end of DDR. -/
def State.partRange (s : State) (n : Nat) : Option (Nat × Nat) :=
  if s.fld (F.MEM.PART_CTL.EN.nth n) = 0 then none
  else
    let b := s.fld (F.MEM.PART_BASE.BASE.nth n) * 2 ^ 21
    let k := s.fld (F.MEM.PART_SIZE.SIZE.nth n) * 2 ^ 21
    some (b, if k = 0 then s.ddrEnd else b + k)

/-- HBM or DDR is accessible at an address (R548). -/
def State.memReady (s : State) (a : Nat) : Bool :=
  if a < hbmEnd then decide (hbmBase ≤ a) && s.flag F.MEM.STATUS.HBM_READY
  else decide (ddrBase ≤ a) && decide (a < s.ddrEnd) && s.flag F.MEM.STATUS.DDR_READY

/-- The end of the partition that holds an address and grants a requester, over partitions n − 1 down to 0. -/
def State.grantEnd (s : State) (req a : Nat) : Nat → Option Nat
  | 0 => none
  | n + 1 =>
    match s.partRange n with
    | some (b, e) =>
      if b ≤ a ∧ a < e ∧ (s.fld (F.MEM.PART_CTL.GRANT.nth n)).testBit req then some e else s.grantEnd req a n
    | none => s.grantEnd req a n

/-- The first address from a on that no partition grants, followed through at most the given number of partitions. -/
def State.grantedUpTo (s : State) (req a : Nat) : Nat → Nat
  | 0 => a
  | n + 1 =>
    match s.grantEnd req a 16 with
    | some e => s.grantedUpTo req e n
    | none => a

/-- Every byte of a range lies in an enabled partition that grants the requester, in memory that is accessible (R548,
R551). -/
def State.memOk (s : State) (req a len : Nat) : Bool :=
  len == 0 || (s.memReady a && decide (a + len ≤ s.grantedUpTo req a 16))

/-- MEM refuses an access (R551): it is counted, the first is held in MEM.VIOL, and MEM.EVENT.VIOL is set. -/
def State.violation (s : State) (req : Nat) (write : Bool) (a : Nat) : State :=
  let s1 := (s.count F.MEM.STAT.COUNT 3).event Src.MEM 1 req a
  if s1.flag F.MEM.VIOL.VALID then s1
  else (((s1.put F.MEM.VIOL.VALID 1).putFlag F.MEM.VIOL.WRITE write).put F.MEM.VIOL.REQ req).put F.MEM.VIOL.ADDR a

/-- A block writes memory: the write takes place only when it is granted (R551). -/
def State.storeBy (s : State) (req a : Nat) (b : List Byte) : State :=
  if s.memOk req a b.length then s.store a b else s.violation req true a

/-- The bytes of a range as a block reads them: the hot set stands in its partition of HBM (R54, R550). -/
def State.view (s : State) (a n : Nat) : List Byte :=
  if hbmBase ≤ a ∧ s.rdx.hot ≠ [] then (List.range n).map (fun i => (s.hotByte (a + i)).getD (s.byte (a + i))) else s.load a n

/-- A block reads memory: none when the read is refused (R551). -/
def State.loadBy (s : State) (req a n : Nat) : Option (List Byte) :=
  if s.memOk req a n then some (s.view a n) else none

/-- A block has read memory: a read that was refused is noted (R551). -/
def State.noteRead (s : State) (req a n : Nat) : State := if s.memOk req a n then s else s.violation req false a

end Sys2Proof.Machine
end

