-- ==== Sys2Proof/Machine/Transport.lean ====
section
/-!
DEFINITION. Machine/Transport.lean: connections and what the head sends on them (chapter 09): the software part of a
context (R322), RoCEv2 messages (R328, R329), Spray packets, paths and windows (R332 to R335, R341, R342), the loss of a
connection (R317), regions and triggers (R326, R327).
-/

namespace Sys2Proof.Machine

/-! Contexts (R322). -/

/-- A field of n bytes of a context, little-endian. -/
def Conn.ctxNat (c : Conn) (off n : Nat) : Nat := leNat ((c.ctx.drop off).take n)

def Conn.kind (c : Conn) : Nat := c.ctxNat 0 1 % 16
def Conn.portOf (c : Conn) : Nat := c.ctxNat 1 1 % 32
def Conn.enc (c : Conn) : Bool := (c.ctxNat 1 1).testBit 7
def Conn.seg (c : Conn) : Nat := 1024 * 2 ^ (c.ctxNat 3 1 % 4)
def Conn.vcOf (c : Conn) : Nat := c.ctxNat 6 2 % 1024
def Conn.remote (c : Conn) : Nat := c.ctxNat 48 3
def Conn.timeoutExp (c : Conn) : Nat := c.ctxNat 52 1 % 32
def Conn.retry (c : Conn) : Nat := c.ctxNat 52 1 / 32
def Conn.rnrRetry (c : Conn) : Nat := c.ctxNat 53 1 % 8
def Conn.pathCount (c : Conn) : Nat := c.ctxNat 54 1 % 16
def Conn.cq (c : Conn) : Nat := c.ctxNat 55 1
def Conn.txKey (c : Conn) : Nat := c.ctxNat 58 2 % 4096
def Conn.sqAddr (c : Conn) : Nat := c.ctxNat 64 6
def Conn.sqLog2 (c : Conn) : Nat := c.ctxNat 70 1 % 16
def Conn.rspRkey (c : Conn) : Nat := c.ctxNat 80 4
def Conn.rspSlots (c : Conn) : Nat := c.ctxNat 84 2
def Conn.rspOff (c : Conn) : Nat := c.ctxNat 88 8

/-- The connection carries RoCEv2, or else Spray. -/
def Conn.isRoce (c : Conn) : Bool := c.kind == 1 || c.kind == 2

/-- The connection carries an NVMe queue (R313, R314). -/
def Conn.isNvme (c : Conn) : Bool := c.kind == 1 || c.kind == 3

/-- TIMEOUT in ticks (R322). -/
def State.connTimeout (s : State) (c : Conn) : Nat := 4096 * 2 ^ c.timeoutExp / s.tickNs

/-- A connection that is not free. -/
def State.conn (s : State) (n : Nat) : Option Conn := Tab.find s.qpc.conns n

/-- A connection that is ready. -/
def State.ready (s : State) (n : Nat) : Option Conn := (s.conn n).bind (fun c => if c.failed || c.frozen then none else some c)

/-- A connection is lost (R317): destroyed, or in ERROR. -/
def State.connLost (s : State) (n : Nat) : Bool := (s.conn n).all Conn.failed

/-- A connection given a value. -/
def State.setConn (s : State) (n : Nat) (c : Conn) : State := { s with qpc := { s.qpc with conns := Tab.insert s.qpc.conns n c } }

/-- A connection changed. -/
def State.modifyConn (s : State) (n : Nat) (f : Conn → Conn) : State :=
  { s with qpc := { s.qpc with conns := Tab.modify s.qpc.conns n f } }

/-- A context has been used last (R324). -/
def State.touch (s : State) (n : Nat) : State :=
  if n ∈ s.qpc.cached then { s with qpc := { s.qpc with cached := (s.qpc.cached.filter (fun m => m ≠ n)) ++ [n] } } else s

/-! Loss (R317). -/

/-- The outstanding work requests of a connection end, the first with the status given, the others FLUSHED (R323, R349). -/
def State.flushWorks (s : State) (n : Nat) (c : Conn) (first : Nat) : State :=
  let from_ := (c.works.map Work.n).foldl min c.started
  let open_ := ((List.range (c.posted - from_)).map (fun i => from_ + i)).filter (fun k =>
    decide (k ≥ c.started) || c.works.any (fun w => w.n == k))
  let ends := open_.zipIdx.map (fun p => (n, p.1, if p.2 = 0 then first else 0x34))
  { s with hpt := { s.hpt with ended := s.hpt.ended ++ ends } }

/-- A connection enters ERROR (R317): ERR_LAST, CONN_ERR, and its requests end. Its queue ends at the next boundary. -/
def State.connError (s : State) (n cause : Nat) (first : Nat := 0x34) : State :=
  match s.ready n with
  | none => s
  | some c =>
    let s1 := (s.flushWorks n c first).setConn n { c with
      failed := true, works := [], started := c.posted, sent := [], msgs := [], tx := [], rx := [], parked := [], parkedBytes := 0 }
    (((s1.put F.QPC.ERR_LAST.CONN n).put F.QPC.ERR_LAST.CAUSE cause).event Src.QPC 1 n cause).count F.QPC.STAT.COUNT 6

/-! RoCEv2 sending (R328, R329). -/

/-- Packets of a message of some bytes. -/
def packetsOf (seg len : Nat) : Nat := max 1 ((len + seg - 1) / seg)

/-- The RDMA extended header: address, key and length in network byte order. -/
def rethBytes (addr key len : Nat) : List Byte := beBytes 8 addr ++ beBytes 4 key ++ beBytes 4 len

/-- A RoCEv2 message sent on a connection: its PSNs are taken, and it is kept until acknowledged. -/
def State.roceMessage (s : State) (n : Nat) (c : Conn) (op : Nat) (what : TxFor) (reth bytes : List Byte) (want : Nat) : State :=
  let k := packetsOf c.seg (if op = 4 then want else bytes.length)
  let m : RoceMsg := {
    psn := c.npsn, packets := k, what := what, op := op, reth := reth, bytes := bytes, want := want, read := op == 4 }
  let c1 : Conn := { c with
    npsn := (c.npsn + k) % 2 ^ 24, sent := c.sent ++ [m], timer := if c.sent = [] then s.now else c.timer }
  (s.setConn n c1).send (.roce n op c.npsn k (reth ++ bytes))

/-! Spray sending (R332 to R335, R341, R342). -/

/-- The Spray data header (R333). -/
def sprayHeader (typ : Nat) (enc : Bool) (immV : Bool) (kstep path dst src psn msn msgLen off rkey payLen trig floor
    regionOff imm : Nat) : List Byte :=
  beBytes 1 (16 + typ) ++ beBytes 1 (enc.toNat + immV.toNat * 2 + kstep * 8) ++ beBytes 1 path ++ beBytes 1 0 ++
  beBytes 4 dst ++ beBytes 4 src ++ beBytes 4 psn ++ beBytes 4 msn ++ beBytes 4 msgLen ++ beBytes 4 off ++
  beBytes 4 rkey ++ beBytes 2 payLen ++ beBytes 2 trig ++ beBytes 4 floor ++ beBytes 8 regionOff ++ beBytes 4 imm

/-- The ACK and NAK header of 32 bytes (R338, R339) from offset 8 on given as `rest`. -/
def sprayAckHeader (typ : Nat) (enc : Bool) (kstep path dst : Nat) (rest : List Byte) : List Byte :=
  beBytes 1 (16 + typ) ++ beBytes 1 (enc.toNat + kstep * 8) ++ beBytes 1 path ++ beBytes 1 0 ++ beBytes 4 dst ++ rest

/-- The UDP payload of a packet whose header is known for a number of successor steps (R332, R342): protected with the
connection's key on a lane of CIP (R113), or with its CRC. None when the key is exhausted. -/
def State.sealPacket (s : State) (c : Conn) (header : Nat → List Byte) (payload : List Byte) : Option (List Byte) × State :=
  if c.enc then
    match s.resolveKey 1 c.txKey with
    | (none, s1) => (none, s1)
    | (some (m, steps), s1) =>
      match s1.invoke 1 m 0x54 with
      | (none, s2) => (none, s2)
      | (some (key, iv), s2) =>
        let h := header steps
        let x := gcmCrypt key iv payload
        (some (h ++ iv ++ x ++ gcmTag key iv h x), (s2.chargeLane .cip false (gcmCycles h.length payload.length)).count F.CIP.STAT.COUNT 4)
  else
    let b := header 0 ++ payload
    (some (b ++ beBytes 4 (crc32c b)), s)

/-- Every path enabled with weight 8 (R335). -/
def freshPaths (n : Nat) : List Path := List.replicate n { weight := 8, acked := 0, losses := 0, off := none }

/-- Unacknowledged bytes on a path. -/
def Conn.inFlight (c : Conn) (path : Nat) : Nat := (c.tx.filter (fun t => t.path = path)).foldl (fun a t => a + t.len) 0

/-- The path of the next packet (R335): the lowest unacknowledged bytes over weight, the lower number on a tie, avoiding
the path of a loss unless it is the only one enabled. -/
def Conn.choosePath (c : Conn) (avoid : Option Nat) : Nat :=
  let on := (List.range c.paths.length).filter (fun p => (c.paths[p]?).any (fun x => x.off.isNone))
  let from_ := match on.filter (fun p => some p ≠ avoid) with
    | [] => on
    | l => l
  let weight (p : Nat) : Nat := ((c.paths[p]?).map Path.weight).getD 1
  match from_ with
  | [] => 0
  | p :: ps => ps.foldl (fun best q => if c.inFlight q * weight best < c.inFlight best * weight q then q else best) p

/-- FLOOR (R334): the lowest PSN that is neither acknowledged nor superseded. -/
def Conn.floorPsn (c : Conn) : Nat := c.tx.foldl (fun m t => min m t.psn) c.txPsn

/-- Packet `index` of a message sent under a new PSN (R334). -/
def State.sprayPacket (s : State) (n : Nat) (c : Conn) (m : SprayMsg) (index path timeouts : Nat) : State :=
  let part := (m.bytes.drop (index * c.seg)).take c.seg
  let h (steps : Nat) : List Byte := sprayHeader m.typ c.enc m.imm.isSome steps path (c.remote % 2 ^ 17) n c.txPsn m.msn m.bytes.length
    (index * c.seg) m.rkey part.length m.trig c.floorPsn m.off (m.imm.getD 0)
  match s.sealPacket c h part with
  | (none, s1) => s1.connError n 6 0x33
  | (some b, s1) =>
    let t : SprayTx := { psn := c.txPsn, msn := m.msn, index := index, path := path, len := part.length, sent := s.now,
                         timeouts := timeouts, dups := 0, holdTill := none }
    (s1.modifyConn n (fun c => { c with txPsn := (c.txPsn + 1) % 2 ^ 32, tx := c.tx ++ [t] })).send (.spray n m.typ path b)

/-- New packets sent while the window and the receiver's MSN_DONE allow (R334, R341). -/
def State.sprayPump (s : State) (n : Nat) : Nat → State
  | 0 => s
  | fuel + 1 =>
    match s.ready n with
    | none => s
    | some c =>
      let open_ (m : SprayMsg) : Bool := decide (m.next < packetsOf c.seg m.bytes.length) && decide (m.msn < c.peerDone + 64)
      let out := c.tx.foldl (fun a t => a + t.len) 0
      match c.msgs.find? open_ with
      | none => s
      | some m =>
        if out + min c.seg (m.bytes.length - m.next * c.seg) > c.cwnd ∧ c.tx ≠ [] then s
        else
          let s1 := s.sprayPacket n c m m.next (c.choosePath none) 0
          let bump (x : SprayMsg) : SprayMsg := if x.msn = m.msn then { x with next := x.next + 1 } else x
          (s1.modifyConn n (fun c => { c with msgs := c.msgs.map bump })).sprayPump n fuel

/-- A Spray message begins (R334). -/
def State.sprayMessage (s : State) (n : Nat) (c : Conn) (typ : Nat) (what : TxFor) (rkey off trig : Nat) (imm : Option Nat)
    (bytes : List Byte) : State :=
  let m : SprayMsg := { msn := c.txMsn, what := what, typ := typ, rkey := rkey, off := off, trig := trig, imm := imm,
                        bytes := bytes, next := 0 }
  (s.setConn n { c with txMsn := (c.txMsn + 1) % 2 ^ 32, msgs := c.msgs ++ [m] }).sprayPump n (packetsOf c.seg bytes.length)

/-- A GET (R343): the descriptor is its payload. -/
def State.sprayGet (s : State) (n : Nat) (c : Conn) (what : TxFor) (srcKey len srcOff dstKey dstTrig dstOff : Nat) : State :=
  s.sprayMessage n c 4 what 0 0 0 none (beBytes 4 srcKey ++ beBytes 4 len ++ beBytes 8 srcOff ++ beBytes 4 dstKey ++
    beBytes 2 dstTrig ++ beBytes 2 0 ++ beBytes 8 dstOff)

/-! Regions and triggers (R326, R327). -/

/-- The bytes of a region that an access may use (R326), in partitions that MEM grants to HPT (R551): its physical address.
`put` asks for the PUT right, else GET. -/
def State.region (s : State) (conn rkey off len : Nat) (put : Bool) : Option Nat :=
  let i := rkey / 2 ^ 16
  if i = 0 ∨ s.fld F.HPT.REGION_BASE.EN = 0 then none
  else
    let e := (s.loadBy Src.HPT (s.fld F.HPT.REGION_BASE.ADDR * 2 ^ 19 + 32 * i) 32).getD []
    let f (o n : Nat) : Nat := leNat ((e.drop o).take n)
    let flags := f 16 4
    let ok := flags.testBit 20 && f 6 2 == rkey % 2 ^ 16 && (flags.testBit 17 || flags % 2 ^ 17 == conn) &&
      flags.testBit (if put then 18 else 19) && decide (off + len ≤ f 8 6) &&
      s.memOk Src.HPT (f 0 6 + off) len
    if ok then some (f 0 6 + off) else none

/-- The address of a trigger counter, when the table is in use. -/
def State.trigAddr (s : State) (tag : Nat) : Option Nat :=
  if tag = 0 ∨ s.fld F.HPT.TRIG_BASE.EN = 0 then none else some (s.fld F.HPT.TRIG_BASE.ADDR * 2 ^ 19 + 8 * tag)

/-- A trigger counter. -/
def State.trigger (s : State) (tag : Nat) : Nat :=
  match s.trigAddr tag with
  | some a => leNat ((s.loadBy Src.HPT a 4).getD [])
  | none => 0

/-- A trigger counter changed (R327). -/
def State.setTrigger (s : State) (tag : Nat) (f : Nat → Nat) : State :=
  match s.trigAddr tag with
  | some a => s.storeBy Src.HPT a (leBytes 4 (f (s.trigger tag) % 2 ^ 32))
  | none => s

end Sys2Proof.Machine
end

