-- ==== Sys2Proof/Machine/Commands.lean ====
section
/-!
DEFINITION. Machine/Commands.lean: what every NVMe command shares (chapter 08; chapter 10, R351 to R362): the fields of a
submission entry, statuses, fetches and returned data, the order of R290, completions, controller resets, the ANA state
of a volume set, and the checks ahead of an I/O command.
-/

namespace Sys2Proof.Machine

/-! Submission entries. -/

/-- A field of n bytes of the submission entry. -/
def Cmd.field (c : Cmd) (off n : Nat) : Nat := leNat ((c.sqe.drop off).take n)

def Cmd.opcode (c : Cmd) : Nat := c.field 0 1
def Cmd.cid (c : Cmd) : Nat := c.field 2 2
def Cmd.nsid (c : Cmd) : Nat := c.field 4 4
/-- Command dword n. -/
def Cmd.cdw (c : Cmd) (n : Nat) : Nat := c.field (4 * n) 4
/-- The Fabrics command type, in the byte where other commands have the NSID. -/
def Cmd.fctype (c : Cmd) : Nat := c.field 4 1
/-- First logical block, and NLB + 1. -/
def Cmd.slba (c : Cmd) : Nat := c.field 40 8
def Cmd.nlb (c : Cmd) : Nat := c.field 48 2 + 1

/-- Type and subtype of the data pointer (R285). -/
def Cmd.sglType (c : Cmd) : Nat := c.field 39 1
/-- A Keyed SGL Data Block: address, length and key. -/
def Cmd.keyed (c : Cmd) : Bool := c.sglType == 0x40 || c.sglType == 0x4F
def Cmd.inCapsule (c : Cmd) : Bool := c.sglType == 0x01
def Cmd.sglAddr (c : Cmd) : Nat := c.field 24 8
def Cmd.sglLen (c : Cmd) : Nat := if c.keyed then c.field 32 3 else c.field 32 4
def Cmd.sglKey (c : Cmd) : Nat := c.field 35 4

/-- The logical block size of a namespace (R273). -/
def Ns.block (n : Ns) : Nat := if n.small then 512 else 4096

/-- Connect, the command that makes its own queue. -/
def Cmd.isConnect (c : Cmd) : Bool := c.opcode == 0x7F && c.fctype == 1

/-- The command is on an I/O queue. -/
def Cmd.io (c : Cmd) : Bool := c.qid != 0 && c.opcode != 0x7F

/-- Write, Write Zeroes and Dataset Management with AD are writes (R288). -/
def Cmd.isWrite (c : Cmd) : Bool := c.io && (c.opcode == 1 || c.opcode == 8 || (c.opcode == 9 && (c.cdw 11).testBit 2))

/-- Read and Compare are reads (R288). -/
def Cmd.isRead (c : Cmd) : Bool := c.io && (c.opcode == 2 || c.opcode == 5)

/-- A reservation command. -/
def Cmd.isReservation (c : Cmd) : Bool :=
  c.io && (c.opcode == 0x0D || c.opcode == 0x0E || c.opcode == 0x11 || c.opcode == 0x15)

/-- The command has neither ended nor been posted. -/
def Cmd.open_ (c : Cmd) : Bool := c.stage != .finished && c.stage != .posted && c.stage != .transmitted

/-! Statuses (R297). -/

/-- DNR of a status. -/
def dnrOf (status : Nat) : Bool :=
  [0x001, 0x002, 0x003, 0x00B, 0x00F, 0x011, 0x016, 0x018, 0x020, 0x080, 0x083, 0x109, 0x182, 0x285].contains status

/-- The status field of a completion: SC in bits 8:1, SCT in bits 11:9, DNR in bit 15. -/
def statusField (status : Nat) : Nat := status % 256 * 2 + status / 256 * 512 + (dnrOf status).toNat * 32768

/-! Commands. -/

/-- An admitted command. -/
def State.cmd (s : State) (key : Nat) : Option Cmd := Tab.find s.cmf.cmds key

/-- A command changed. -/
def State.modifyCmd (s : State) (key : Nat) (f : Cmd → Cmd) : State :=
  { s with cmf := { s.cmf with cmds := Tab.modify s.cmf.cmds key f } }

/-- The work of a command has ended with a status (R294, R295). -/
def State.finish (s : State) (key status : Nat) (dw0 : Nat := 0) : State :=
  s.modifyCmd key (fun c => { c with stage := .finished, status := status, dw0 := dw0 })

/-- A command leaves the table. -/
def State.endCmd (s : State) (key : Nat) : State := { s with cmf := { s.cmf with cmds := Tab.erase s.cmf.cmds key } }

/-- The namespace of a command, as it stood at admission. -/
def State.nsOf (_ : State) (c : Cmd) : Option Ns := c.ns

/-- The virtual controller of an index, when it is not absent. -/
def State.vc (s : State) (v : Nat) : Option Vc := Tab.find s.vct.vcs v

/-- A virtual controller changed. -/
def State.modifyVc (s : State) (v : Nat) (f : Vc → Vc) : State := { s with vct := { s.vct with vcs := Tab.modify s.vct.vcs v f } }

/-- The association of a virtual controller changed. -/
def State.modifyAssoc (s : State) (v : Nat) (f : Assoc → Assoc) : State :=
  s.modifyVc v (fun x => { x with assoc := x.assoc.map f })

/-- The key of a queue. -/
def queueKey (v q : Nat) : Nat := v * 2048 + q

/-- A queue of a virtual controller. -/
def State.queue (s : State) (v q : Nat) : Option Queue := if q < 2048 then Tab.find s.cmf.queues (queueKey v q) else none

/-- An Asynchronous Event Request that waits for an event: it is outstanding, and holds up nothing (R304, R365). -/
def Cmd.waitsEvent (c : Cmd) : Bool := c.qid == 0 && c.opcode == 0x0C && c.stage == .held

/-- Commands of a virtual controller in flight, of any generation (R362). -/
def State.inFlight (s : State) (v : Nat) : List (Nat × Cmd) :=
  s.cmf.cmds.filter (fun p => p.2.vc = v ∧ p.2.fromPeer.isNone ∧ !p.2.waitsEvent)

/-! Descriptors of virtual controllers (R352, R354). -/

/-- A field of a virtual controller's descriptor. -/
def Vc.field (v : Vc) (off n : Nat) : Nat := leNat ((v.desc.drop off).take n)

def Vc.qcount (v : Vc) : Nat := v.field 26 2
def Vc.cmdRate (v : Vc) : Nat := v.field 32 4
def Vc.byteRate (v : Vc) : Nat := v.field 36 4
def Vc.burst (v : Vc) : Nat := v.field 30 2
def Vc.nsAll (v : Vc) : Bool := (v.field 2 1).testBit 1

/-- A namespace is attached to a virtual controller (R354). -/
def Vc.attached (v : Vc) (nsid : Nat) : Bool :=
  nsid != 0 && (v.nsAll || ((v.nsmap.getD ((nsid - 1) / 8) 0).toNat).testBit ((nsid - 1) % 8))

/-! Transmission (R313, R315, R361). -/

/-- The stamps of a command are current and its controller may transmit (R361). A Connect has no queue to be stamped with
(R34, R353). -/
def State.stampsHold (s : State) (c : Cmd) : Bool :=
  if c.isConnect then (s.ready c.conn).isSome
  else match s.vc c.vc, s.queue c.vc c.qid with
  | some v, some q => v.vgen == c.vgen && q.qgen == c.qgen && v.state != .draining && v.state != .free
  | _, _ => false

/-- Data of a command sent to the host's key and address (R285, R315). -/
def State.sendData (s : State) (key : Nat) (c : Cmd) (off : Nat) (bytes : List Byte) : State :=
  match s.ready c.conn with
  | none => s
  | some k =>
    if k.isRoce then s.roceMessage c.conn k 2 (.readData key) (rethBytes (c.sglAddr + off) c.sglKey bytes.length) bytes 0
    else s.sprayMessage c.conn k 1 (.readData key) c.sglKey (c.sglAddr + off) 0 none bytes

/-- The last byte of the command's data has been transmitted (R76): on Spray, it is acknowledged (R315). -/
def State.dataGone (s : State) (key : Nat) (c : Cmd) : Bool :=
  match s.conn c.conn with
  | some k => k.msgs.all (fun m => m.what != .readData key)
  | none => true

/-- The bytes of a keyed block fetched from the host (R285, R315). On Spray the staging offset is the command's number
times 2^24 (assumption 21). -/
def State.fetchData (s : State) (key : Nat) (c : Cmd) (len : Nat) : State :=
  let s1 := s.modifyCmd key (fun c => { c with stage := .fetching, data := [] })
  if !s.stampsHold c then s1.count F.VCT.STAT.COUNT 0
  else match s1.ready c.conn with
    | none => s1
    | some k =>
      if k.isRoce then
        s1.roceMessage c.conn k 4 (.fetch key) (rethBytes c.sglAddr c.sglKey len) [] len
      else s1.sprayGet c.conn k (.fetch key) c.sglKey len c.sglAddr 1 0 (key * 2 ^ 24)

/-- Data returned by a command that is not a read of blocks, and its end. -/
def State.returnData (s : State) (key : Nat) (bytes : List Byte) : State :=
  match s.cmd key with
  | none => s
  | some c =>
    if c.fromPeer.isSome then (s.modifyCmd key (fun c => { c with data := bytes })).finish key 0
    else
      let s1 := if s.stampsHold c then s.sendData key c 0 bytes else s.count F.VCT.STAT.COUNT 0
      s1.finish key 0

/-- The 16-byte response capsule of a command. -/
def responseBytes (c : Cmd) (sqhd : Nat) : List Byte :=
  leBytes 8 c.dw0 ++ leBytes 2 sqhd ++ leBytes 2 c.qid ++ leBytes 2 c.cid ++ leBytes 2 (statusField c.status)

/-- An entry for the Error Information log page (R295). -/
def State.logError (s : State) (c : Cmd) (lba : Nat) : State :=
  if c.status = 0 ∨ c.status = 0x083 ∨ c.status / 256 = 3 then s
  else
    let e : ErrInfo := { cid := c.cid, qid := c.qid, status := statusField c.status, nsid := c.nsid, lba := lba }
    s.modifyAssoc c.vc (fun a => { a with errors := (e :: a.errors).take 256, errCount := a.errCount + 1 })

/-- The block of the first granule that failed, where one applies (R296). -/
def State.failedLba (s : State) (c : Cmd) : Nat :=
  match c.reads.find? (fun g => g.failure = 1), s.nsOf c with
  | some g, some n => g.granule * 4096 / n.block
  | none, some _ => c.slba
  | _, none => 0

/-- The SQHD a response reports (R280): of its queue; a Connect that made no queue reports 0. -/
def State.sqhdOf (s : State) (c : Cmd) : Nat :=
  match s.queue c.vc c.qid with
  | some q => if c.isConnect && q.fcOff && q.conn == c.conn then 0xFFFF else if q.fcOff then 0 else q.sqhd
  | none => 0

/-- The response of a command is transmitted and the command ends (R294, R361): withheld when its stamps are stale; on
Spray it ends when it is acknowledged (R365). -/
def State.transmitResponse (s : State) (key : Nat) : State :=
  match s.cmd key with
  | none => s
  | some c =>
    if c.stage = .transmitted then s
    else match c.fromPeer with
    | some tag =>
      (s.endCmd key).reflectSend (1 + reflectFrames c.data.length) (.forwardRsp tag (beBytes 2 (statusField c.status / 2) ++
        beBytes 2 0 ++ beBytes 4 (c.dw0 % 2 ^ 32) ++ beBytes 4 (c.dw0 / 2 ^ 32) ++
        beBytes 4 c.data.length ++ beBytes 16 0) c.data)
    | none =>
      if !s.stampsHold c then ((s.endCmd key).count F.CMF.STAT.COUNT 9).count F.VCT.STAT.COUNT 0
      else match s.ready c.conn with
        | some k =>
          let s1 := if c.status = 0 then s else s.count F.CMF.STAT.COUNT 8
          let s2 := s1.logError c (s.failedLba c)
          let b := responseBytes c (s.sqhdOf c)
          if k.isRoce then (s2.roceMessage c.conn k 1 (.response key) [] b 0).endCmd key
          else
            let slot := if k.rspSlots = 0 then 0 else k.responses % k.rspSlots
            let k1 : Conn := { k with responses := k.responses + 1 }
            (s2.modifyCmd key (fun c => { c with stage := .transmitted })).sprayMessage c.conn k1 1 (.response key) k1.rspRkey
              (k1.rspOff + 16 * slot) 0 none b
        | none => ((s.endCmd key).count F.CMF.STAT.COUNT 9).count F.VCT.STAT.COUNT 0

/-! Order (R289, R290). -/

/-- Overlapping commands of lower key that satisfy a condition. -/
def State.below (s : State) (key : Nat) (c : Cmd) (p : Cmd → Bool) : Bool :=
  s.cmf.cmds.any (fun q => decide (q.1 < key) && q.2.toPeer.isNone && q.2.overlaps c && p q.2)

/-- A read must wait: an overlapping write of lower key has neither completed nor failed (R290). -/
def State.readWaits (s : State) (key : Nat) (c : Cmd) : Bool := s.below key c (fun d => d.isWrite && d.open_)

/-- A write must wait to be posted: for overlapping writes of lower key, and for overlapping reads of lower key that have
not resolved (R290). -/
def State.writeWaits (s : State) (key : Nat) (c : Cmd) : Bool :=
  s.below key c (fun d => (d.isWrite && d.open_) || (d.isRead && d.open_ && !d.resolved))

/-- An earlier reservation command of the namespace has not taken effect, or, for a reservation command, an earlier I/O
command of it has not been checked (R307). -/
def State.outOfTurn (s : State) (key : Nat) (c : Cmd) : Bool :=
  s.cmf.cmds.any (fun q => decide (q.1 < key) && q.2.io && q.2.nsid == c.nsid && q.2.toPeer.isNone &&
    ((q.2.isReservation && (q.2.stage == .admitted || q.2.stage == .fetching || q.2.stage == .held)) ||
      (c.isReservation && q.2.stage == .admitted)))

/-! Abandoning the chunks of a write that fails (R68, R298). -/

/-- A chunk of a failed write. One that was to be stored as new: bytes already placed are dead space, its pending entry goes,
and chunks whose pending hit depended on it are driven again as misses (R56). One that hit: the granules its hit added are
taken off the cached count again (R58). -/
def State.abandonChunk (s : State) (p : Nat × ChunkJob) : State :=
  let j := p.2
  if j.stage = .missed ∨ j.stage = .compressed ∨ j.stage = .waitKey ∨ j.stage = .encrypted ∨ j.stage = .placed then
    let s1 := if j.stage = .placed then (s.deadSpace j.loc0 j.units).deadSpace j.loc1 j.units else s
    let deps := s1.rdx.chunks.filter (fun q => q.2.stage = .pendingHit ∧ q.2.addr = j.addr ∧ q.2.cmd ≠ j.cmd)
    let cmds := (deps.filterMap (fun q => q.2.cmd)).dedup
    let undo (q : Nat × ChunkJob) : Nat × ChunkJob :=
      if deps.any (fun d => d.1 == q.1) then (q.1, { q.2 with stage := .fingerprinted, recorded := false, driven := true, since := s.now })
      else if q.2.cmd.any (fun c => cmds.contains c) then (q.1, { q.2 with recorded := false }) else q
    let again (q : Nat × Cmd) : Nat × Cmd := if cmds.contains q.1 then (q.1, { q.2 with recorded := false }) else q
    let s2 := cmds.foldl State.supersede s1
    let s3 : State := { s2 with
      rdx := { s2.rdx with
        chunks := s2.rdx.chunks.map undo,
        hot := s2.rdx.hot.filter (fun h => !(h.2.addr == j.addr && h.2.isPend)) },
      cmf := { s2.cmf with cmds := s2.cmf.cmds.map again } }
    if deps = [] then s3 else s3.event Src.RDX 3 0 j.addr
  else if j.stage = .hit ∨ j.stage = .pendingHit then s.hotLower j.addr j.granules
  else s

/-- A write fails with a status and changes no granule (R298). -/
def State.failWrite (s : State) (key status : Nat) : State :=
  let js := s.jobsOf key
  let s1 := js.foldl State.abandonChunk (s.supersede key)
  let s2 : State := { s1 with rdx := { s1.rdx with chunks := s1.rdx.chunks.filter (fun p => p.2.cmd ≠ some key) } }
  s2.finish key status

/-! Namespace access (R310, R311). -/

/-- The ANA code a head presents for a volume set (R310): 1 optimised, 2 non-optimised, 3 inaccessible, 4 persistent
loss, 15 change. -/
def State.anaCode (s : State) (v : Nat) : Nat :=
  let force := s.fld (F.CMF.ANA.FORCE.nth v)
  let side := (s.fld F.RFL.CONFIG.VSET_HOME >>> v) % 2
  let changing :=
    (match s.rfl.adopt with | some a => a.sides.testBit side && decide (a.step < 5) | none => false) ||
    (match s.rfl.handBack with | some h => h.sides.testBit side | none => false) || s.rfl.incoming.testBit side
  if force = 1 then 3
  else if force = 2 then 4
  else if s.lcs.mode = .eclipse ∨ s.lcs.mode = .join then 3
  else if changing then (if (Tab.getD s.cmf.ana v ⟨3, 0, false⟩).late then 3 else 15)
  else if s.lcs.mode.serving ∧ s.wit.own.testBit side then 1
  else if s.rfl.present ∧ (s.rfl.mark.any (fun m => m.own.testBit side)) ∧ s.rfl.link = .up then 2
  else 3

/-- The ANA states presented from now on (R310, R311): each change is counted and posted to the controllers that have the
event enabled, in step 3 of the next boundary. -/
def State.anaUpdate (s : State) : State :=
  (List.range 32).foldl (fun (t : State) v =>
    let old := Tab.getD t.cmf.ana v ⟨3, 0, false⟩
    let now := t.anaCode v
    if old.state = now then t
    else
      let a : AnaSet := { state := now, since := t.now, late := old.late && now == 3 }
      let t1 : State := { t with cmf := { t.cmf with
        ana := Tab.insert t.cmf.ana v a, anaCount := t.cmf.anaCount + 1,
        notices := t.cmf.notices ++ (Tab.keys t.vct.vcs).map (fun c => (c, 0x0C0302)) } }
      ((t1.put (F.CMF.ANA.STATE.nth v) now).put (F.CMF.ANA.CHANGES.nth v) (t1.fld (F.CMF.ANA.CHANGES.nth v) + 1)).event
        Src.CMF 3 v now) s

/-! Events to hosts (R282, R311, R357). -/

/-- The Asynchronous Event Configuration bit that enables a notice: namespace attributes 8, ANA 11; a reservation notice
is masked by namespace. -/
def noticeEnabled (a : Assoc) (dw0 : Nat) : Bool :=
  let info := dw0 / 256 % 256
  if dw0 % 8 = 2 then (if info = 0 then a.aec.testBit 8 else if info = 3 then a.aec.testBit 11 else true) else true

/-- An event is posted: it completes an outstanding request, or waits for one. -/
def State.postNotice (s : State) (n : Nat × Nat) : State :=
  match s.vc n.1 with
  | none => s
  | some v =>
    match v.assoc with
    | none => s
    | some a =>
      if !noticeEnabled a n.2 ∨ a.events.contains n.2 then s
      else match a.aers with
        | k :: ks => (s.modifyAssoc n.1 (fun a => { a with aers := ks })).finish k 0 n.2
        | [] => s.modifyAssoc n.1 (fun a => { a with events := a.events ++ [n.2] })

/-- The notices of the last tick are posted (R311, R357). -/
def State.postNotices (s : State) : State :=
  let l := s.cmf.notices
  l.foldl State.postNotice { s with cmf := { s.cmf with notices := [] } }

/-! Ends of queues and controllers (R279, R300). -/

/-- The code of a virtual controller's state (VCT.VC_STATE.STATE). -/
def VcState.code : VcState → Nat
  | .free => 0
  | .active => 1
  | .draining => 2
  | .quiescing => 3
  | .sealed => 4
  | .loaded => 5

/-- An entry for the VC section of the tick's delta (R363, R387). -/
def State.tellEntry (s : State) (e : VcEntry) : State := { s with rfl := { s.rfl with vcs := s.rfl.vcs ++ [e] } }

/-- A virtual controller's state and generation are told to the peer (R363). -/
def State.tellVc (s : State) (v : Nat) : State :=
  match s.vc v with
  | some x => s.tellEntry { vc := v, state := x.state.code, op := 0, cause := 0, vgen := x.vgen, target := 0, qgen := 0 }
  | none => s

/-- A queue's generation is told to the peer. -/
def State.tellQueue (s : State) (v q qgen : Nat) : State :=
  s.tellEntry { vc := v, state := ((s.vc v).map (fun x => x.state.code)).getD 0, op := 4, cause := 0,
                vgen := ((s.vc v).map Vc.vgen).getD 0, target := q, qgen := qgen }

/-- A move ends with a result (R363): 0 MOVED, 1 TIMEOUT, 2 REFUSED, 3 RESET, 4 PEER_LOST. -/
def State.endMoveWith (s : State) (v result : Nat) : State :=
  match s.vct.move with
  | some m =>
    if m.vc = v then
      ((({ s with vct := { s.vct with move := none } } : State).put F.VCT.MOVE_STATUS.ACTIVE 0
        |>.put F.VCT.MOVE_STATUS.SEALED 0 |>.put F.VCT.MOVE_STATUS.RESULT result
        |>.put F.VCT.MOVE_STATUS.HOLD_TICKS (min (s.now - m.since) 65535)).count F.VCT.STAT.COUNT
          (if result = 0 then 2 else 4)).event Src.VCT 2 v result
    else s
  | none => s

/-- Capsules of the connections of a virtual controller are discarded. -/
def State.dropCapsules (s : State) (v : Nat) : State :=
  let mine (n : Nat) : Bool := (s.conn n).any (fun c => c.isNvme && c.vcOf == v)
  { s with cmf := { s.cmf with caps := s.cmf.caps.filter (fun p => !mine p.1) } }

/-- A controller reset begins (R300): no further command is admitted, unadmitted capsules are discarded, and every
generation number advances; the association ends. -/
def State.controllerReset (s : State) (v : Nat) : State :=
  match s.vc v with
  | none => s
  | some x =>
    let bump (p : Nat × Queue) : Nat × Queue :=
      if p.1 / 2048 = v then (p.1, { p.2 with live := false, qgen := (p.2.qgen + 1) % 65536 }) else p
    let s1 := (if x.state = .quiescing then s.endMoveWith v 3 else s).dropCapsules v
    let y : Vc := { x with
      vgen := (x.vgen + 1) % 65536, resetting := true,
      state := if x.state = .quiescing then .active else x.state,
      assoc := x.assoc.map (fun a => { a with ready := false, aers := [], events := [] }) }
    let held := (x.assoc.map Assoc.aers).getD []
    let s2 : State := { s1 with
      vct := { s1.vct with vcs := Tab.insert s1.vct.vcs v y },
      cmf := { s1.cmf with queues := s1.cmf.queues.map bump, cmds := s1.cmf.cmds.filter (fun p => p.1 ∉ held) } }
    let s3 := (s2.count F.VCT.STAT.COUNT 1).tellVc v
    (s3.cmf.queues.filter (fun p => p.1 / 2048 = v)).foldl (fun (t : State) p => t.tellQueue v (p.1 % 2048) p.2.qgen) s3

/-- A queue ends (R279, R300): the admin queue takes its controller with it. -/
def State.endQueue (s : State) (v q : Nat) : State :=
  if q = 0 then s.controllerReset v
  else
    let end_ (x : Queue) : Queue := { x with live := false, qgen := (x.qgen + 1) % 65536 }
    match s.queue v q with
    | none => s
    | some x =>
      ({ s with cmf := { s.cmf with
          queues := Tab.modify s.cmf.queues (queueKey v q) end_, caps := Tab.erase s.cmf.caps x.conn } } : State).tellQueue v q
            ((x.qgen + 1) % 65536)

/-- The queues whose connection is lost end, at the boundary (R279, R317). -/
def State.endLostQueues (s : State) : State :=
  (s.cmf.queues.filter (fun p => p.2.live && s.connLost p.2.conn)).foldl (fun (t : State) p =>
    t.endQueue (p.1 / 2048) (p.1 % 2048)) s

/-! Checks of an I/O command. -/

/-- The bytes a command requires (R286). -/
def Cmd.required (c : Cmd) (block : Nat) : Nat :=
  match c.opcode with
  | 0x01 => c.nlb * block
  | 0x02 => c.nlb * block
  | 0x05 => c.nlb * block
  | 0x09 => (c.cdw 10 % 256 + 1) * 16
  | 0x0D => 16
  | 0x11 => 16
  | 0x15 => 8
  | 0x0E => (c.cdw 10 + 1) * 4
  | _ => 0

/-- The command's data goes from host to device (R285). -/
def Cmd.toDevice (c : Cmd) : Bool :=
  c.opcode == 1 || c.opcode == 5 || c.opcode == 9 || c.opcode == 0x0D || c.opcode == 0x11 || c.opcode == 0x15

/-- The checks of the data pointer (R285, R286, R316): a status, or none. -/
def State.pointerStatus (s : State) (c : Cmd) (need : Nat) : Option Nat :=
  let psdt := c.field 1 1 / 64
  let spray : Bool := match s.conn c.conn with | some k => k.kind == 3 | none => false
  if psdt ≠ 1 ∧ psdt ≠ 2 then some 0x002
  else if need = 0 then none
  else if !c.keyed ∧ !c.inCapsule then some 0x011
  else if c.inCapsule ∧ (!c.toDevice ∨ c.qid = 0) then some 0x011
  else if c.sglType = 0x4F ∧ spray then some 0x002
  else if need > 2 ^ s.fld F.CMF.CONFIG.MDTS * 4096 then some 0x002
  else if c.inCapsule ∧ c.sglAddr > s.fld F.CMF.CONFIG.ICD_KB * 1024 then some 0x016
  else if c.sglLen ≠ need then some 0x00F
  else if c.inCapsule ∧ c.sglAddr + c.sglLen ≠ c.icd.length then some 0x00F
  else none

/-- The status of an ANA state (R311). -/
def anaStatus (code : Nat) : Option Nat :=
  if code = 15 then some 0x303 else if code = 3 then some 0x302 else if code = 4 then some 0x301 else none

/-- The reservation of a namespace. -/
def State.rsvOf (s : State) (nsid : Nat) : Rsv :=
  Tab.getD s.cmf.rsv nsid { prgen := 0, rtype := 0, holder := none, regs := [], ptpl := false }

/-- A command conflicts with the reservation of its namespace (R306): types 1 and 2 are held by one host, 3 and 4 by the
registrants of one holder, 5 and 6 by all registrants; 1, 3 and 5 exclude writes only. -/
def Rsv.conflicts (r : Rsv) (host : BitVec 128) (write : Bool) : Bool :=
  let registered := r.regs.any (fun g => g.host == host)
  let holds := r.holder == some host
  match r.rtype with
  | 0 => false
  | 1 => write && !holds
  | 2 => !holds
  | 3 => write && !holds && !registered
  | 4 => !holds && !registered
  | 5 => write && !registered
  | _ => !registered

/-- The checks of an I/O command ahead of its own work (R277, R278, R283, R285, R286, R297, R306, R311): a status, or
none. Where several apply, the first of this order is given (assumption 22). -/
def State.ioStatus (s : State) (c : Cmd) : Option Nat :=
  if (c.field 1 1) % 4 ≠ 0 then some 0x002
  else if (c.opcode = 1 ∨ c.opcode = 2 ∨ c.opcode = 5 ∨ c.opcode = 8) ∧ c.cdw 12 / 2 ^ 26 % 16 ≠ 0 then some 0x002
  else if c.opcode = 1 ∧ c.cdw 12 / 2 ^ 20 % 16 ≠ 0 then some 0x002
  else match s.nsOf c with
    | none => some 0x00B
    | some n =>
      if (anaStatus (s.anaCode n.vset)).isSome then anaStatus (s.anaCode n.vset)
      else match if c.fromPeer.isSome then none else s.pointerStatus c (c.required n.block) with
        | some x => some x
        | none =>
          if (c.isRead || c.opcode == 1 || c.opcode == 8) && decide (c.slba + c.nlb > n.nsze) then some 0x080
          else if c.isWrite ∧ (n.wp ∨ n.src ≠ 0) then some 0x020
          else if (c.isRead || c.isWrite) && (s.rsvOf c.nsid).conflicts c.host c.isWrite then some 0x083
          else none

/-- First granule and granules of a range of blocks (R273). -/
def granulesOf (block slba nlb : Nat) : Nat × Nat :=
  let first := slba * block / 4096
  (first, ((slba + nlb) * block + 4095) / 4096 - first)

/-- A command for a volume set that the peer holds is forwarded (R310, R392). -/
def State.isForwarded (s : State) (c : Cmd) : Bool :=
  c.fromPeer.isNone && (match s.nsOf c with | some n => s.anaCode n.vset == 2 | none => false)

/-- The payload of a FWD_CMD (R392). -/
def forwardBytes (c : Cmd) (len : Nat) : List Byte :=
  beBytes 2 c.vc ++ beBytes 2 c.qid ++ beBytes 4 0 ++ beBytes 4 len ++ beBytes 4 0 ++ leBytes 16 c.host.toNat ++ c.sqe

/-- A command, with its data when it has any, is sent to the peer (R392). -/
def State.forwardCmd (s : State) (key : Nat) : State :=
  match s.cmd key with
  | none => s
  | some c =>
    let tag := s.rfl.nextTag
    let s1 := ({ s with rfl := { s.rfl with nextTag := (tag + 1) % 2 ^ 32 } } : State).modifyCmd key (fun c => { c with
      stage := .forwarded, toPeer := some tag })
    ((s1.reflectSend (1 + reflectFrames c.data.length) (.forward tag (forwardBytes c c.data.length) c.data)).count F.CMF.STAT.COUNT 12).count F.RFL.STAT.COUNT 5

/-- What every I/O row does first (R307, R311, R392): the checks; the fetch of its data, or the data taken from the
capsule; or forwarding. The command is left admitted while it is out of turn. -/
def State.ioStart (s : State) (key : Nat) (c : Cmd) : State :=
  if s.outOfTurn key c then s
  else match s.ioStatus c with
    | some x =>
      let s1 := if x = 0x083 then s.count F.CMF.STAT.COUNT 14 else s
      s1.finish key x
    | none =>
      match s.nsOf c with
      | none => s.finish key 0x00B
      | some n =>
        if s.isForwarded c ∧ s.fld F.RFL.FWD_CTL.EN = 0 then s.finish key 0x302
        else
          let need := c.required n.block
          let (g0, gn) := if c.isRead || c.opcode == 1 || c.opcode == 8 then granulesOf n.block c.slba c.nlb else (0, 0)
          let s1 := s.modifyCmd key (fun c => { c with first := g0, count := gn, ranges := if c.opcode = 9 then [(0, n.nsze * n.block / 4096)] else [(g0, gn)] })
          let c1 : Cmd := (s1.cmd key).getD c
          let waits := (c.isRead && s1.readWaits key c1) || (c.isWrite && s1.writeWaits key c1)
          let s1 := if waits then s1.count F.CMF.STAT.COUNT 10 else s1
          if c.toDevice ∧ c.fromPeer.isNone ∧ c.keyed then s1.fetchData key c need
          else
            let s2 := s1.modifyCmd key (fun c => { c with
              stage := .held, data := if c.fromPeer.isSome then c.data else (c.icd.drop c.sglAddr).take need })
            if s.isForwarded c then s2.forwardCmd key else s2

end Sys2Proof.Machine
end

