-- ==== Sys2Proof/Machine/Admin.lean ====
section
/-!
DEFINITION. Machine/Admin.lean: the admin and Fabrics commands (chapter 08, R279 to R284, R300, R303; chapter 10, R353,
R354, R357). The places of fields within NVMe structures are those of NVMe 2.0 and NVMe over Fabrics (assumption 24).
-/

namespace Sys2Proof.Machine

/-! Data structures. -/

/-- Byte strings laid over zeros at offsets, in a structure of n bytes. -/
def layout (n : Nat) (fields : List (Nat × List Byte)) : List Byte :=
  fields.foldl (fun (b : List Byte) f => b.take f.1 ++ f.2 ++ b.drop (f.1 + f.2.length)) (List.replicate n 0)

/-- A string of n bytes up to its first NUL (R353). -/
def upToNul (b : List Byte) : List Byte := b.takeWhile (fun x => x != 0)

/-! Checks of an admin command. -/

/-- Bytes of data an admin command returns. -/
def Cmd.adminBytes (c : Cmd) : Nat :=
  match c.opcode with
  | 0x06 => 4096
  | 0x02 => (c.cdw 10 / 65536 + c.cdw 11 % 65536 * 65536 + 1) * 4
  | 0x0A => if c.cdw 10 % 256 = 0x81 then 16 else 0
  | _ => 0

/-- The checks of an admin command's data pointer (R285, R286): a status, or none. The bytes required are those the
command returns (assumption 25). -/
def State.adminPointer (s : State) (c : Cmd) : Option Nat := s.pointerStatus c c.adminBytes

/-- An admin command acts once, on its controller: its association, when it is admitted on a live admin queue. -/
def State.runAdmin (s : State) (key opcode : Nat) (f : Cmd → Vc → Assoc → State) : State :=
  match s.cmd key with
  | none => s
  | some c =>
    if c.stage ≠ .admitted ∨ c.qid ≠ 0 ∨ c.opcode ≠ opcode then s
    else match s.vc c.vc with
      | none => s.finish key 0x002
      | some v =>
        match v.assoc with
        | none => s.finish key 0x002
        | some a =>
          if c.field 1 1 % 4 ≠ 0 then s.finish key 0x002
          else match s.adminPointer c with
            | some x => s.finish key x
            | none => f c v a

/-- A Fabrics command acts once. -/
def State.runFabrics (s : State) (key fctype : Nat) (f : Cmd → State) : State :=
  match s.cmd key with
  | none => s
  | some c => if c.opcode = 0x7F ∧ c.fctype = fctype ∧ c.stage = .admitted then f c else s

/-! Properties (R280, R284, R300). -/

/-- The controller properties: their length and value. CAP gives MQES 1,023, CQR, TO 4 and the NVM command set. -/
def State.property (s : State) (v : Nat) (a : Assoc) (off : Nat) : Option (Nat × Nat) :=
  let resetting := (s.vc v).any Vc.resetting
  match off with
  | 0x00 => some (8, 1023 + 2 ^ 16 + 4 * 2 ^ 24 + 2 ^ 37)
  | 0x08 => some (4, 0x20000)
  | 0x14 => some (4, a.cc)
  | 0x1C => some (4, (a.ready || resetting).toNat + (if a.cc / 2 ^ 14 % 4 ≠ 0 then (if a.shutDone then 2 else 1) * 4 else 0))
  | _ => none

/-- PROPERTY_GET (R282): a property of the controller. -/
def execPropertyGet (key : Nat) (s : State) : Host.Outcome State Fault Refusal :=
  .next (s.runFabrics key 4 (fun c =>
    match (s.vc c.vc).bind Vc.assoc with
    | none => s.finish key 0x002
    | some a =>
      let size := if c.field 40 1 % 8 = 1 then 8 else 4
      match s.property c.vc a (c.field 44 4) with
      | some (n, x) => if c.qid = 0 ∧ n = size then s.finish key 0 x else s.finish key 0x002
      | none => s.finish key 0x002))

/-- A write of CC begins a controller reset (R300): CC.EN from 1 to 0, or a shutdown requested in CC.SHN. -/
def ccResets (old new : Nat) : Bool := (old % 2 == 1 && new % 2 == 0) || (new / 2 ^ 14 % 4 != 0 && old / 2 ^ 14 % 4 == 0)

/-- PROPERTY_SET (R282, R300): CC is written; a write that begins a controller reset does so once its own completion has
been transmitted (assumption 26). -/
def execPropertySet (key : Nat) (s : State) : Host.Outcome State Fault Refusal :=
  .next (s.runFabrics key 0 (fun c =>
    match (s.vc c.vc).bind Vc.assoc with
    | none => s.finish key 0x002
    | some a =>
      if c.qid ≠ 0 ∨ c.field 44 4 ≠ 0x14 ∨ c.field 40 1 % 8 ≠ 0 then s.finish key 0x002
      else
        let x := c.field 48 4
        let resets := ccResets a.cc x
        let s1 := s.modifyAssoc c.vc (fun a => { a with cc := x, ready := a.ready || (x % 2 == 1 && !resets) })
        (s1.modifyCmd key (fun c => { c with ends := resets })).finish key 0))

/-! Connect and Disconnect (R279 to R281, R353). -/

/-- The Keep Alive timeout in ms, rounded up to whole seconds (R279). -/
def roundKato (ms : Nat) : Nat := (ms + 999) / 1000 * 1000

/-- A queue identifier has ended and commands of its earlier generation are in flight (R281). -/
def State.oldQueueBusy (s : State) (v q key : Nat) : Bool :=
  s.cmf.cmds.any (fun p => p.1 != key && p.2.vc == v && p.2.qid == q && p.2.fromPeer.isNone && !p.2.isConnect)

/-- The checks of a Connect (R280, R281, R353): a status, or none. -/
def State.connectStatus (s : State) (key : Nat) (c : Cmd) : Option Nat :=
  let sqsize := c.field 44 2
  let hostId := c.data.take 16
  let cntlid := leNat ((c.data.drop 16).take 2)
  match s.vc c.vc with
  | none => some 0x182
  | some v =>
    let text (o : Nat) : List Byte := upToNul ((v.desc.drop o).take 256)
    let named (o : Nat) : List Byte := upToNul ((c.data.drop o).take 256)
    if v.state ≠ .active ∨ c.field 40 2 ≠ 0 then some 0x182
    else if named 256 ≠ text 256 then some 0x182
    else if !(v.field 2 1).testBit 0 ∧ (hostId ≠ (v.desc.drop 8).take 16 ∨ named 512 ≠ text 512) then some 0x182
    else if sqsize = 0 ∨ sqsize > 1023 then some 0x182
    else if s.cmf.queues.any (fun p => p.2.live && p.2.conn == c.conn) then some 0x182
    else if c.qid = 0 then
      if cntlid ≠ 0xFFFF ∧ cntlid ≠ v.field 0 2 then some 0x182
      else if v.assoc.isSome ∨ v.resetting then some 0x181
      else if s.oldQueueBusy c.vc 0 key then some 0x181 else none
    else match v.assoc with
      | none => some 0x182
      | some a =>
        if v.resetting ∨ cntlid ≠ v.field 0 2 ∨ BitVec.ofNat 128 (leNat hostId) ≠ a.host then some 0x182
        else if c.qid > v.qcount then some 0x182
        else if (s.queue c.vc c.qid).any Queue.live then some 0x182
        else if s.oldQueueBusy c.vc c.qid key then some 0x181 else none

/-- The association an admin Connect binds (R353). -/
def newAssoc (c : Cmd) : Assoc := {
  host := BitVec.ofNat 128 (leNat (c.data.take 16)), nqn := upToNul ((c.data.drop 512).take 256), cc := 0, ready := false,
  shutDone := false, kato := roundKato (c.field 48 4), kaTicks := 0, aers := [], events := [], aec := 0, nq := 0, rsvMask := [],
  errors := [], errCount := 0, changed := [], rsvLog := [], rsvCount := 0 }

/-- A Connect whose data is present (R353). -/
def State.connectNow (s : State) (key : Nat) (c : Cmd) : State :=
  match s.connectStatus key c with
  | some x => (s.count F.VCT.STAT.COUNT 6).finish key x
  | none =>
    let qgen := ((s.queue c.vc c.qid).map Queue.qgen).getD 0
    let size := c.field 44 2 + 1
    let q : Queue := {
      live := true, conn := c.conn, qgen := qgen, sqsize := c.field 44 2, sqhd := 1 % size, fcOff := (c.field 46 1).testBit 2 }
    let s1 : State := { s with cmf := { s.cmf with queues := Tab.insert s.cmf.queues (queueKey c.vc c.qid) q } }
    let s2 := if c.qid = 0 then s1.modifyVc c.vc (fun v => { v with assoc := some (newAssoc c) }) else s1
    let vgen := ((s2.vc c.vc).map Vc.vgen).getD 0
    let cntlid := ((s2.vc c.vc).map (fun v => v.field 0 2)).getD 0
    ((s2.modifyConn c.conn (fun k => { k with responses := 0 })).modifyCmd key (fun c => { c with
      vgen := vgen, qgen := qgen })).finish key 0 cntlid

/-- CONNECT (R279 to R281, R353): its data is fetched; then the queue, and with an admin Connect the association, is made
or refused. -/
def execConnect (key : Nat) (s : State) : Host.Outcome State Fault Refusal :=
  .next (match s.cmd key with
    | none => s
    | some c =>
      if !c.isConnect then s
      else if c.stage = .held then s.connectNow key c
      else if c.stage ≠ .admitted then s
      else
        let check : Option Nat :=
          if !c.keyed then some 0x011
          else if c.sglType = 0x4F ∧ (s.conn c.conn).any (fun k => k.kind == 3) then some 0x002
          else if c.sglLen ≠ 1024 then some 0x00F else none
        match check with
        | some x => s.finish key x
        | none => s.fetchData key c 1024)

/-- DISCONNECT (R279): the queue ends once the completion has been transmitted (assumption 26); that of the admin queue
takes the controller with it. -/
def execDisconnect (key : Nat) (s : State) : Host.Outcome State Fault Refusal :=
  .next (s.runFabrics key 8 (fun _ => (s.modifyCmd key (fun c => { c with ends := true })).finish key 0))

/-! Log pages (R282, R295, R311, R357). -/

/-- The Error Information log page: the newest entry first. -/
def errorLog (a : Assoc) : List Byte :=
  a.errors.zipIdx.flatMap (fun p => layout 64 [
    (0, leBytes 8 (a.errCount - p.2)), (8, leBytes 2 p.1.qid), (10, leBytes 2 p.1.cid), (12, leBytes 2 p.1.status),
    (16, leBytes 8 p.1.lba), (24, leBytes 4 p.1.nsid)]) ++ List.replicate (64 * (256 - a.errors.length)) 0

/-- The Commands Supported and Effects log page: the commands of R282 and R283; those that change blocks say so. -/
def effectsLog : List Byte :=
  let admin := [0x02, 0x06, 0x08, 0x09, 0x0A, 0x0C, 0x18]
  let io := [0x00, 0x01, 0x02, 0x05, 0x08, 0x09, 0x0D, 0x0E, 0x11, 0x15]
  let word (l : List Nat) (w : List Nat) (i : Nat) : List Byte := leBytes 4 (if i ∈ l then (if i ∈ w then 3 else 1) else 0)
  (List.range 256).flatMap (word admin []) ++ (List.range 256).flatMap (word io [0x01, 0x08, 0x09]) ++ List.replicate 2048 0

/-- The namespaces attached to a virtual controller, ascending (R354). -/
def State.attachedNs (s : State) (v : Vc) : List (Nat × Ns) := s.cmf.ns.filter (fun p => v.attached p.1)

/-- The ANA log page (R310, R311): every group, with its attached namespaces unless groups alone are asked for. -/
def State.anaLog (s : State) (v : Vc) (groupsOnly : Bool) : List Byte :=
  let group (g : Nat) : List Byte :=
    let ns := if groupsOnly then [] else (s.attachedNs v).filter (fun p => p.2.vset = g)
    layout 32 [(0, leBytes 4 (g + 1)), (4, leBytes 4 ns.length), (8, leBytes 8 (s.fld (F.CMF.ANA.CHANGES.nth g))),
      (16, leBytes 1 (s.fld (F.CMF.ANA.STATE.nth g)))] ++ ns.flatMap (fun p => leBytes 4 p.1)
  layout 16 [(0, leBytes 8 s.cmf.anaCount), (8, leBytes 2 32)] ++ (List.range 32).flatMap group

/-- The Reservation Notification log page: the oldest notification. -/
def rsvLogPage (a : Assoc) : List Byte :=
  match a.rsvLog with
  | [] => List.replicate 64 0
  | (typ, nsid) :: rest => layout 64 [
      (0, leBytes 8 (a.rsvCount - rest.length)), (8, leBytes 1 typ), (9, leBytes 1 (min rest.length 255)), (12, leBytes 4 nsid)]

/-- The Changed Namespace List: overflow as NVMe states (R357). -/
def changedLog (a : Assoc) : List Byte :=
  let l := if a.changed.length > 1024 then [0xFFFFFFFF] else Tab.keys (a.changed.foldl (fun (m : Tab Nat) n => Tab.insert m n 0) [])
  l.flatMap (leBytes 4) ++ List.replicate (4096 - 4 * l.length) 0

/-- A log page by its identifier. -/
def State.logPage (s : State) (v : Vc) (a : Assoc) (lid lsp : Nat) : Option (List Byte) :=
  match lid with
  | 0x01 => some (errorLog a)
  | 0x02 => some (if s.flag F.CMF.SMART_BASE.EN then (s.loadBy Src.CMF (s.fld F.CMF.SMART_BASE.ADDR * 512) 512).getD (List.replicate 512 0)
      else List.replicate 512 0)
  | 0x04 => some (changedLog a)
  | 0x05 => some effectsLog
  | 0x0C => some (s.anaLog v (lsp.testBit 0))
  | 0x80 => some (rsvLogPage a)
  | _ => none

/-- What reading a log page without Retain Asynchronous Event clears. -/
def logRead (lid : Nat) (a : Assoc) : Assoc :=
  let b : Assoc := { a with events := a.events.filter (fun e => e / 65536 % 256 ≠ lid) }
  if lid = 0x04 then { b with changed := [] }
  else if lid = 0x80 then { b with rsvLog := b.rsvLog.drop 1 } else b

/-- GET_LOG_PAGE (R282): the bytes of a log page from an offset; past its end, zeros. -/
def execGetLogPage (key : Nat) (s : State) : Host.Outcome State Fault Refusal :=
  .next (s.runAdmin key 0x02 (fun c v a =>
    let lid := c.cdw 10 % 256
    match s.logPage v a lid (c.cdw 10 / 256 % 16) with
    | none => s.finish key 0x109
    | some page =>
      let off := c.cdw 12 + c.cdw 13 * 2 ^ 32
      let s := if lid = 0x02 ∧ s.flag F.CMF.SMART_BASE.EN then s.noteRead Src.CMF (s.fld F.CMF.SMART_BASE.ADDR * 512) 512 else s
      if off > page.length ∨ off % 4 ≠ 0 then s.finish key 0x002
      else
        let part := (page.drop off).take c.adminBytes
        let s1 := s.returnData key (part ++ List.replicate (c.adminBytes - part.length) 0)
        if (c.cdw 10).testBit 15 then s1 else s1.modifyAssoc c.vc (logRead lid)))

/-! Identify (R282, R284). -/

/-- Granules of a namespace that are not unmapped. -/
def State.mappedGranules (s : State) (nsid : Nat) (n : Ns) : Nat :=
  let count (t : State) : Nat :=
    if n.src = 0 then (t.ftl.tables.map.filter (fun p => p.1 / 2 ^ 64 = nsid)).length
    else
      let live := (t.ftl.tables.map.filter (fun p => p.1 / 2 ^ 64 = n.src ∧ p.2.birth ≤ n.snapMe)).length
      live + (t.ftl.tables.retained.filter (fun r => r.nsid = n.src ∧ r.entry.birth ≤ n.snapMe ∧ n.snapMe < r.death ∧
        !((t.ftl.tables.entry n.src r.granule).any (fun e => decide (e.birth ≤ n.snapMe))))).length
  if s.ftl.side = s.vsetSide n.vset then count s else count s.swapSides

/-- The Identify Namespace structure (R284). -/
def State.identifyNs (s : State) (nsid : Nat) (n : Ns) : List Byte :=
  let small := n.small
  layout 4096 [
    (0, leBytes 8 n.nsze), (8, leBytes 8 n.nsze), (16, leBytes 8 (s.mappedGranules nsid n * 4096 / n.block)),
    (24, leBytes 1 3), (30, leBytes 1 1), (31, leBytes 1 0xFF), (33, leBytes 1 1),
    (34, leBytes 2 (if small then 4095 else 511)), (36, leBytes 2 (if small then 511 else 63)),
    (40, leBytes 2 0), (42, leBytes 2 0), (44, leBytes 2 (if small then 2047 else 255)),
    (92, leBytes 4 (n.vset + 1)), (99, leBytes 1 (n.wp || n.src != 0).toNat),
    (128, leBytes 4 ((if small then 9 else 12) * 65536))]

/-- The Identify Controller structure (R284). -/
def State.identifyCtrl (s : State) (v : Vc) : List Byte :=
  layout 4096 [
    (76, leBytes 1 0x0A), (77, leBytes 1 (s.fld F.CMF.CONFIG.MDTS)), (78, leBytes 2 (v.field 0 2)), (80, leBytes 4 0x20000),
    (92, leBytes 4 0x900), (96, leBytes 4 1), (111, leBytes 1 1), (259, leBytes 1 3), (261, leBytes 1 6), (262, leBytes 1 255),
    (320, leBytes 2 10), (342, leBytes 1 (s.fld F.CMF.CONFIG.ANATT)), (343, leBytes 1 0x5F), (344, leBytes 4 32),
    (348, leBytes 4 32), (512, leBytes 1 0x66), (513, leBytes 1 0x44), (514, leBytes 2 1024), (516, leBytes 4 16384),
    (520, leBytes 2 0x2D), (525, leBytes 1 0), (526, leBytes 2 511), (528, leBytes 2 63), (536, leBytes 4 0x100004),
    (768, (v.desc.drop 256).take 256), (1792, leBytes 4 ((64 + 1024 * s.fld F.CMF.CONFIG.ICD_KB) / 16)), (1796, leBytes 4 1),
    (1800, leBytes 2 0), (1803, leBytes 1 1)]

/-- A list of namespaces: those attached above a number, ascending, at most 1,024. -/
def State.nsList (s : State) (v : Vc) (above : Nat) : List Byte :=
  let l := (((s.attachedNs v).map Prod.fst).filter (fun n => above < n)).take 1024
  l.flatMap (leBytes 4) ++ List.replicate (4096 - 4 * l.length) 0

/-- IDENTIFY (R282, R284, R354): CNS 0x00 to 0x03. -/
def execIdentify (key : Nat) (s : State) : Host.Outcome State Fault Refusal :=
  .next (s.runAdmin key 0x06 (fun c v _ =>
    match c.cdw 10 % 256 with
    | 0x00 =>
      match c.ns with
      | some n => s.returnData key (s.identifyNs c.nsid n)
      | none => s.finish key 0x00B
    | 0x01 => s.returnData key (s.identifyCtrl v)
    | 0x02 => if c.nsid ≥ 0xFFFFFFFE then s.finish key 0x00B else s.returnData key (s.nsList v c.nsid)
    | 0x03 =>
      if c.ns.isSome then s.returnData key (layout 4096 [(0, leBytes 1 4), (1, leBytes 1 1)]) else s.finish key 0x00B
    | _ => s.finish key 0x002))

/-! Abort, events and Keep Alive (R279, R282, R303). -/

/-- ABORT (R303): it never aborts. -/
def execAbort (key : Nat) (s : State) : Host.Outcome State Fault Refusal :=
  .next (s.runAdmin key 0x08 (fun _ _ _ => s.finish key 0 1))

/-- ASYNC_EVENT_REQUEST (R282): it waits for an event; a fifth one is refused with Invalid Field in Command. -/
def execAsyncEventRequest (key : Nat) (s : State) : Host.Outcome State Fault Refusal :=
  .next (s.runAdmin key 0x0C (fun c _ a =>
    if a.aers.length ≥ 4 then s.finish key 0x002
    else match a.events with
      | e :: es => (s.modifyAssoc c.vc (fun a => { a with events := es })).finish key 0 e
      | [] => (s.modifyAssoc c.vc (fun a => { a with aers := a.aers ++ [key] })).modifyCmd key (fun c => { c with stage := .held })))

/-- KEEP_ALIVE (R279, R282): the timer was restarted when the command was admitted. -/
def execKeepAlive (key : Nat) (s : State) : Host.Outcome State Fault Refusal :=
  .next (s.runAdmin key 0x18 (fun _ _ _ => s.finish key 0))

/-- The rounded Keep Alive timeout in ticks (R279). -/
def State.katoTicks (s : State) (a : Assoc) : Nat := (a.kato * 1000000 + s.tickNs - 1) / s.tickNs

/-- KEEP_ALIVE_EXPIRY (R279): the timeout has passed since the last admin command: the controller is reset. The timer does
not run while the controller is QUIESCING, SEALED or LOADED (R365). -/
def execKeepAliveExpiry (vc : Nat) (s : State) : Host.Outcome State Fault Refusal :=
  .next (match s.vc vc with
    | none => s
    | some v =>
      match v.assoc with
      | none => s
      | some a =>
        if v.state = .active ∧ !v.resetting ∧ a.kato ≠ 0 ∧ a.kaTicks ≥ s.katoTicks a then s.controllerReset vc else s)

/-- CONTROLLER_RESET_DONE (R300, R353): no command of the old generation is in flight: CSTS.RDY reads 0, a shutdown is
complete, and the association has ended. -/
def execControllerResetDone (vc : Nat) (s : State) : Host.Outcome State Fault Refusal :=
  .next (match s.vc vc with
    | none => s
    | some v =>
      if v.resetting ∧ (s.inFlight vc).all (fun p => p.2.vgen == v.vgen) then
        s.modifyVc vc (fun v => { v with resetting := false, assoc := none })
      else s)

/-! Features (R282). -/

/-- PTPL of a namespace's reservations changed, as its RSV item says (R306, R308). -/
def State.setPtpl (s : State) (nsid : Nat) (ptpl : Bool) (cmd : Option Nat) : State :=
  let r := s.rsvOf nsid
  let side := match Tab.find s.cmf.ns nsid with | some n => s.vsetSide n.vset | none => 0
  let s1 : State := { s with cmf := { s.cmf with rsv := Tab.insert s.cmf.rsv nsid { r with ptpl := ptpl } } }
  s1.onSide side (fun (t : State) => t.formRecord [.rsv nsid 8 r.rtype ptpl r.prgen 0 0 0] cmd true)

/-- The head holds the side of a namespace's volume set. -/
def State.ownsNs (s : State) (n : Ns) : Bool := s.wit.own.testBit (s.vsetSide n.vset)

/-- SET_FEATURES (R282). A feature of a namespace's reservations is set by the head that holds its volume set
(assumption 27). -/
def execSetFeatures (key : Nat) (s : State) : Host.Outcome State Fault Refusal :=
  .next (s.runAdmin key 0x09 (fun c v _ =>
    let x := c.cdw 11
    if (c.cdw 10).testBit 31 then s.finish key 0x002
    else match c.cdw 10 % 256 with
      | 0x07 =>
        if x % 65536 = 0xFFFF ∨ x / 65536 = 0xFFFF then s.finish key 0x002
        else
          let n := min (max (x % 65536) (x / 65536)) (v.qcount - 1)
          (s.modifyAssoc c.vc (fun a => { a with nq := n })).finish key 0 (n + n * 65536)
      | 0x0B => (s.modifyAssoc c.vc (fun a => { a with aec := x })).finish key 0
      | 0x0F => (s.modifyAssoc c.vc (fun a => { a with kato := roundKato x, kaTicks := 0 })).finish key 0
      | 0x82 =>
        if c.nsid = 0xFFFFFFFF then
          (s.modifyAssoc c.vc (fun a => { a with
            rsvMask := (s.attachedNs v).foldl (fun (m : Tab Nat) p => Tab.insert m p.1 (x % 16)) a.rsvMask })).finish key 0
        else if c.ns.isNone then s.finish key 0x00B
        else (s.modifyAssoc c.vc (fun a => { a with rsvMask := Tab.insert a.rsvMask c.nsid (x % 16) })).finish key 0
      | 0x83 =>
        match c.ns with
        | none => s.finish key 0x00B
        | some n =>
          if !s.ownsNs n then s.finish key 0x302
          else if (s.rsvOf c.nsid).ptpl = x.testBit 0 then s.finish key 0
          else ((s.setPtpl c.nsid (x.testBit 0) (some key)).modifyCmd key (fun c => { c with
            stage := .writing, recorded := true, items := [] }))
      | _ => s.finish key 0x002))

/-- GET_FEATURES (R282): the value now in force, whichever is selected. -/
def execGetFeatures (key : Nat) (s : State) : Host.Outcome State Fault Refusal :=
  .next (s.runAdmin key 0x0A (fun c _ a =>
    match c.cdw 10 % 256 with
    | 0x07 => s.finish key 0 (a.nq + a.nq * 65536)
    | 0x0B => s.finish key 0 a.aec
    | 0x0F => s.finish key 0 a.kato
    | 0x81 => s.returnData key (leBytes 16 a.host.toNat)
    | 0x82 => if c.ns.isNone then s.finish key 0x00B else s.finish key 0 (Tab.getD a.rsvMask c.nsid 0)
    | 0x83 => if c.ns.isNone then s.finish key 0x00B else s.finish key 0 (s.rsvOf c.nsid).ptpl.toNat
    | _ => s.finish key 0x002))

end Sys2Proof.Machine
end

