-- ==== Sys2Proof/Machine/Ecc.lean ====
section
/-!
DEFINITION. Machine/Ecc.lean: ECDSA and ECDH over P-384 (FIPS 186-5), as images, tokens and blobs use them (R440, R474,
R478).
-/

namespace Sys2Proof.Machine

/-- The field prime of P-384. -/
def p384 : Nat := 2 ^ 384 - 2 ^ 128 - 2 ^ 96 + 2 ^ 32 - 1

/-- The order of the base point. -/
def p384N : Nat := 0xffffffffffffffffffffffffffffffffffffffffffffffffc7634d81f4372ddf581a0db248b0a77aecec196accc52973

/-- The coefficient b of the curve. -/
def p384B : Nat := 0xb3312fa7e23ee7e4988e056be3f82d19181d9c6efe8141120314088f5013875ac656398d8a2ed19d2a85c8edd3ec2aef

/-- The base point. -/
def p384G : Nat × Nat :=
  (0xaa87ca22be8b05378eb1c71ef320ad746e1d3b628ba79b9859f741e082542a385502f25dbf55296c3a545e3872760ab7,
   0x3617de4a96262c6f5d9e98bf9292dc29f8f41dbd289a147ce9da3113b5f0b8c00a60b1ce1d7e819d7a431d7c90ea0e5f)

/-- b to the power e modulo m, for e below 2^384. -/
def powMod (b e m : Nat) : Nat :=
  (List.range 384).reverse.foldl (fun a i => if e.testBit i then a * a % m * b % m else a * a % m) 1

/-- The inverse modulo a prime. -/
def invMod (a m : Nat) : Nat := powMod (a % m) (m - 2) m

/-- A point in Jacobian coordinates; Z = 0 is the point at infinity. -/
structure JPoint where
  x : Nat
  y : Nat
  z : Nat
  deriving DecidableEq, Repr

/-- The difference modulo the field prime. -/
def subP (a b : Nat) : Nat := (a + p384 - b % p384) % p384

/-- A point doubled. -/
def JPoint.double (q : JPoint) : JPoint :=
  if q.z = 0 ∨ q.y = 0 then ⟨1, 1, 0⟩
  else
    let yy := q.y * q.y % p384
    let s := 4 * q.x * yy % p384
    let zz := q.z * q.z % p384
    let m := 3 * subP q.x zz * ((q.x + zz) % p384) % p384
    let x := subP (m * m) (2 * s)
    ⟨x, subP (m * subP s x) (8 * yy * yy), 2 * q.y * q.z % p384⟩

/-- Two points added. -/
def JPoint.add (a b : JPoint) : JPoint :=
  if a.z = 0 then b else if b.z = 0 then a
  else
    let zaa := a.z * a.z % p384
    let zbb := b.z * b.z % p384
    let u1 := a.x * zbb % p384
    let u2 := b.x * zaa % p384
    let s1 := a.y * (zbb * b.z % p384) % p384
    let s2 := b.y * (zaa * a.z % p384) % p384
    if u1 = u2 then (if s1 = s2 then a.double else ⟨1, 1, 0⟩)
    else
      let h := subP u2 u1
      let r := subP s2 s1
      let hh := h * h % p384
      let hhh := hh * h % p384
      let v := u1 * hh % p384
      let x := subP (r * r) (hhh + 2 * v)
      ⟨x, subP (r * subP v x) (s1 * hhh), a.z * b.z % p384 * h % p384⟩

/-- A multiple of a point. -/
def JPoint.mul (k : Nat) (q : JPoint) : JPoint :=
  (List.range 384).reverse.foldl (fun (a : JPoint) i => if k.testBit i then a.double.add q else a.double) ⟨1, 1, 0⟩

/-- Affine coordinates; none for the point at infinity. -/
def JPoint.affine (q : JPoint) : Option (Nat × Nat) :=
  if q.z = 0 then none
  else
    let i := invMod q.z p384
    let ii := i * i % p384
    some (q.x * ii % p384, q.y * (ii * i % p384) % p384)

/-- A point lies on the curve. -/
def onCurve (x y : Nat) : Bool :=
  decide (x < p384) && decide (y < p384) && y * y % p384 == (x * x % p384 * x + (p384 - 3) * x + p384B) % p384

/-- ECDSA with SHA-384 verifies (R440, R474): public key (x, y), message, signature (r, s). -/
def ecdsaVerify (x y : Nat) (msg : List Byte) (r s : Nat) : Bool :=
  if r = 0 ∨ r ≥ p384N ∨ s = 0 ∨ s ≥ p384N ∨ !onCurve x y then false
  else
    let w := invMod s p384N
    let u1 := beNat (sha384 msg) * w % p384N
    let u2 := r * w % p384N
    match ((JPoint.mul u1 ⟨p384G.1, p384G.2, 1⟩).add (JPoint.mul u2 ⟨x, y, 1⟩)).affine with
    | some (a, _) => a % p384N == r
    | none => false

/-- The public key of a private scalar. -/
def publicKey (d : Nat) : Nat × Nat := ((JPoint.mul d ⟨p384G.1, p384G.2, 1⟩).affine).getD (0, 0)

/-- The ECDH shared x-coordinate (R478). -/
def ecdhX (d x y : Nat) : Option Nat :=
  if onCurve x y then ((JPoint.mul d ⟨x, y, 1⟩).affine).map Prod.fst else none

end Sys2Proof.Machine
end

