-- ==== Sys2Proof/Machine/RecordFlash.lean ====
section
/-!
DEFINITION. Machine/RecordFlash.lean: the record flash controller (chapter 15, R480 to R497): the layout
and its permissions, the unlock sequence, the one operation at a time, suspension, the intent journal and the
rotating region.
-/

namespace Sys2Proof.Machine

/-- A word of record flash or of an information row that nothing has programmed since its erase. -/
def erasedWord : Nat → Word := fun _ => 0xFFFFFFFFFFFFFFFF

/-- A word of record flash, by byte address divided by 8. -/
def Rcf.word (c : Rcf) (w : Nat) : Word := Sparse.get erasedWord c.flash w

/-- Word i of the information row of a physical sector (R481). -/
def Rcf.infoWord (c : Rcf) (sector i : Nat) : Word := Sparse.get erasedWord c.info (sector * 8 + i)

/-- Programs a word: bits only ever go from 1 to 0. -/
def Rcf.programWord (c : Rcf) (w : Nat) (v : Word) : Rcf :=
  { c with flash := Sparse.set erasedWord c.flash w (c.word w &&& v) }

/-- Programs a word of an information row. -/
def Rcf.programInfo (c : Rcf) (sector i : Nat) (v : Word) : Rcf :=
  { c with info := Sparse.set erasedWord c.info (sector * 8 + i) (c.infoWord sector i &&& v) }

/-- Erases a sector and its information row (R486). -/
def Rcf.eraseSector (c : Rcf) (sector : Nat) : Rcf :=
  { c with flash := c.flash.filter (fun p => p.1 / 512 ≠ sector),
           info := c.info.filter (fun p => p.1 / 8 ≠ sector) }

/-- The rotating region: physical sectors 10,240 to 13,823 (R480). -/
def isRotating (sector : Nat) : Bool := decide (10240 ≤ sector) && decide (sector ≤ 13823)

/-- COUNT of a sector, when its word checks (R481). -/
def Rcf.countOf? (c : Rcf) (sector : Nat) : Option Nat :=
  let w := (c.infoWord sector 0).toNat
  if bits w 63 32 = 0x45434E54 then some (bits w 17 0) else none

/-- The highest COUNT in the rotating region. -/
def Rcf.maxCount (c : Rcf) : Nat :=
  c.info.foldl (fun m p => if p.1 % 8 = 0 ∧ isRotating (p.1 / 8) then max m ((c.countOf? (p.1 / 8)).getD 0) else m) 0

/-- COUNT of a sector; one without a valid word takes the highest of the region (R493). -/
def Rcf.countOf (c : Rcf) (sector : Nat) : Nat :=
  match c.countOf? sector with
  | some n => n
  | none => if isRotating sector then c.maxCount else 0

/-- The claim a sector's information row holds, when it checks: logical sector and GEN (R481). -/
def Rcf.claimOf (c : Rcf) (sector : Nat) : Option (Nat × Nat) :=
  let w := (c.infoWord sector 1).toNat
  let m := (c.infoWord sector 2).toNat
  if bits w 63 48 = 0x4C47 ∧ bits m 63 32 = 0x4D41524B ∧ bits m 31 0 = crc32c (leBytes 8 w) then
    some (bits w 43 32, bits w 31 0)
  else none

/-- A sector of the region is retired (R493). -/
def Rcf.isRetired (c : Rcf) (sector : Nat) : Bool := c.infoWord sector 7 == 0

/-- A sector of the region is claimed: the map holds it. -/
def Rcf.isClaimed (c : Rcf) (sector : Nat) : Bool :=
  c.claims.any (fun p => p.2 == sector) || c.claimsDue.any (fun p => p.2 == sector)

/-- A sector of the region is an erased spare: erased apart from a valid COUNT word (R493). -/
def Rcf.isErased (c : Rcf) (sector : Nat) : Bool :=
  isRotating sector && (c.countOf? sector).isSome && !c.isClaimed sector && !c.retiring.contains sector &&
  c.info.all (fun p => p.1 / 8 != sector || p.1 % 8 == 0) && c.flash.all (fun p => p.1 / 512 != sector) &&
  !(c.openIntent.any (fun i => i.sector == sector))

/-- The physical sectors of the rotating region. -/
def rotatingSectors : List Nat := (List.range 3584).map (· + 10240)

/-- The erased spares. -/
def Rcf.erasedSpares (c : Rcf) : List Nat := (c.info.map (fun p => p.1 / 8)).dedup.filter c.isErased

/-- The erased spare of lowest COUNT, the lower number on a tie (R494). -/
def Rcf.leastSpare (c : Rcf) : Option Nat :=
  c.erasedSpares.foldl (fun b x => match b with
    | none => some x
    | some y => if c.countOf x < c.countOf y ∨ (c.countOf x = c.countOf y ∧ x < y) then some x else some y) none

/-- The erased spare of highest COUNT (R495). -/
def Rcf.mostSpare (c : Rcf) : Option Nat :=
  c.erasedSpares.foldl (fun b x => match b with
    | none => some x
    | some y => if c.countOf y < c.countOf x ∨ (c.countOf x = c.countOf y ∧ x < y) then some x else some y) none

/-- A sector of the region is dirty: not retired, not claimed, not an erased spare (R493). -/
def Rcf.isDirty (c : Rcf) (sector : Nat) : Bool :=
  isRotating sector && !c.isRetired sector && !c.isClaimed sector && !c.isErased sector

/-- Unclaimed sectors not retired (RCF.ROT_STATUS.SPARES). -/
def Rcf.spares (c : Rcf) : Nat :=
  3584 - c.claims.length - (rotatingSectors.filter (fun x => c.isRetired x || c.retiring.contains x)).length

/-- The claim words programmed for a logical sector on a physical one (R494 step 2). -/
def Rcf.programClaim (c : Rcf) (logical sector gen : Nat) : Rcf :=
  let w := 0x4C47 * 2 ^ 48 + logical * 2 ^ 32 + gen % 2 ^ 32
  (c.programInfo sector 1 (BitVec.ofNat 64 w)).programInfo sector 2
    (BitVec.ofNat 64 (0x4D41524B * 2 ^ 32 + crc32c (leBytes 8 w)))

/-- The physical sector a logical one resolves to. -/
def Rcf.resolve (c : Rcf) (logical : Nat) : Option Nat := Tab.find c.claims logical

/-- The physical word a record flash address names: the logical window resolves through the map. -/
def Rcf.physical (c : Rcf) (addr : Nat) : Option Nat :=
  if addr < 0x4000000 then some (addr / 8)
  else match c.resolve ((addr - 0x4000000) / 4096) with
    | some p => some (p * 512 + addr % 4096 / 8)
    | none => none

/-- Array software may program the address (R480). -/
def State.swMayProgram (s : State) (addr : Nat) : Bool :=
  if addr < 0x0400000 then s.lcs.bootSlot != 1
  else if addr < 0x0800000 then s.lcs.bootSlot != 2
  else if addr < 0x1800000 then s.fld F.SIM.STATUS.SLOT != 1
  else if addr < 0x2800000 then s.fld F.SIM.STATUS.SLOT != 2
  else if addr < 0x3600000 then false
  else if addr < 0x3601000 then false
  else if addr < 0x3700000 then true
  else if addr < 0x3800000 then false
  else if addr < 0x4000000 then true
  else if addr < 0x4800000 then false
  else decide (addr < 0x4C00000)

/-- Array software may erase the sector of the address (R480, R484): a logical address ends PROT. -/
def State.swMayErase (s : State) (addr : Nat) : Bool :=
  if decide (0x3600000 ≤ addr) && decide (addr < 0x3700000) then false
  else if addr ≥ 0x4000000 then false
  else s.swMayProgram addr

/-- The addresses the layout closes to the read window (R480, R482). -/
def windowOpen (addr : Nat) : Bool :=
  if addr < 0x2800000 then true
  else if addr < 0x3601000 then false
  else if addr < 0x4000000 then true
  else if addr < 0x4800000 then false
  else decide (addr < 0x4C00000)

/-- What a read of a word returns: a sector whose erase is in progress, suspended, or named by an open intent
reads as all ones, and so does a logical sector without a claim (R482, R493). -/
def Rcf.readWord (c : Rcf) (addr : Nat) : Word :=
  match c.physical addr with
  | none => 0xFFFFFFFFFFFFFFFF
  | some w => if c.openIntent.any (fun i => i.sector == w / 512) then 0xFFFFFFFFFFFFFFFF else c.word w

/-! The unlock sequence and the commands of array software (R483, R484). -/

/-- An operation of array software ends: RESULT, PULSES, SECTOR and OP_DONE (R483). -/
def State.rcfEnd (s : State) (result pulses sector : Nat) : State :=
  ((((s.put F.RCF.STATUS.BUSY 0).put F.RCF.STATUS.RESULT result).put F.RCF.STATUS.PULSES pulses).put
    F.RCF.STATUS.SECTOR sector).event Src.RCF 0 sector

/-- A sequence error (R483). -/
def State.rcfSeqError (s : State) : State :=
  ({ s with rcf := { s.rcf with seq := .idle } }.put F.RCF.STATUS.RESULT 4).event Src.RCF 7

/-- Every word of the operation is in the sector. -/
def RcfOp.sectors (c : Rcf) : RcfOp → List Nat
  | .program ws => ws.map (fun p => p.1 / 512)
  | .erase sector => [sector]
  | .rotate l => (c.resolve l).toList
  | .wearMove l => (c.resolve l).toList

/-- An operation that erases (R488: no other erase starts while one is suspended). -/
def RcfOp.isErase : RcfOp → Bool
  | .erase _ => true
  | _ => false

/-- A waiting request may start: programs of a sector named by an open intent wait (R492), a rotation waits for an
erased spare, and no other erase starts while one is suspended (R488). A repair is the erase of that sector. -/
def Rcf.ready (c : Rcf) (r : RcfReq) : Bool :=
  (match r.op with
    | .erase _ => c.held.isNone
    | .rotate _ => c.leastSpare.isSome || (r.who != .evr)
    | .wearMove _ => c.mostSpare.isSome
    | .program _ => true)
  && (r.op.isErase || (r.op.sectors c).all (fun x => !(c.openIntent.any (fun i => i.sector == x))))

/-- The request taken next (R487): EVR, LCS, SIM, array software, background; the order made within each. -/
def Rcf.pick (c : Rcf) : Option RcfReq :=
  match c.queue.find? (fun r => r.who == .evr && c.ready r) with
  | some r => some r
  | none => match c.queue.find? (fun r => r.who == .lcs && c.ready r) with
    | some r => some r
    | none => match c.queue.find? (fun r => r.who == .sim && c.ready r) with
      | some r => some r
      | none => match c.queue.find? (fun r => r.who == .software && c.ready r) with
        | some r => some r
        | none => c.queue.find? (fun r => r.who == .background && c.ready r)

/-- A request starts. The first entry of a journal sector records the erase of the journal sector ahead, so an
erase asked for at such an entry waits for it (R491). -/
def Rcf.begin (c : Rcf) (r : RcfReq) : Rcf :=
  match r.op with
  | .erase sector =>
    let ahead := 14080 + (c.nextEntry / 128 + 1) % 256
    if c.nextEntry % 128 = 0 ∧ sector ≠ ahead then
      { c with current := some ⟨.background, .erase ahead⟩, step := 1, eraseFail := false, suspCount := 0 }
    else { c with current := some r, queue := c.queue.erase r, step := 1, eraseFail := false, suspCount := 0 }
  | _ => { c with current := some r, queue := c.queue.erase r, step := 0 }

/-- When nothing is in progress, RCF takes the next request (R487); when nothing waits, an automatic suspension
ends and the interrupted pulse is repeated whole (R488). -/
def Rcf.serve (c : Rcf) : Rcf :=
  if c.current.isSome then c
  else match c.pick with
    | some r => c.begin r
    | none => match c.held with
      | some h =>
        if h.bySoftware || c.neverResume then c
        else { c with current := some h.req, step := 2, held := none }
      | none => c

/-- A request made to RCF. -/
def State.rcfRequest (s : State) (r : RcfReq) : State :=
  { s with rcf := { s.rcf with queue := s.rcf.queue ++ [r] }.serve }

/-- The erase in progress is suspended (R488). -/
def State.rcfSuspend (s : State) (bySoftware : Bool) : State :=
  match s.rcf.current with
  | some r =>
    if r.op.isErase && s.rcf.step == 2 then
      ({ s with rcf := { s.rcf with
          current := none, held := some ⟨bySoftware, r⟩, suspSince := s.tck.tick,
          suspCount := s.rcf.suspCount + (!bySoftware).toNat } }).count F.RCF.STAT.COUNT 2
    else s
  | none =>
    match s.rcf.held with
    | some h => { s with rcf := { s.rcf with held := some { h with bySoftware := h.bySoftware || bySoftware } } }
    | none => s

/-- The write of RCF.UNLOCK (R483). -/
def State.rcfUnlockWrite (s : State) (key : Nat) : State :=
  if s.fld F.RCF.STATUS.BUSY = 1 then s.rcfSeqError
  else match s.rcf.seq with
    | .key1 => if key = 0xC3A5 then { s with rcf := { s.rcf with seq := .key2 } } else s.rcfSeqError
    | .idle => if key = 0x5A7C then { s with rcf := { s.rcf with seq := .key1 } } else s.rcfSeqError
    | .burst _ => if key = 0x5A7C then { s with rcf := { s.rcf with seq := .key1 } }
      else { s with rcf := { s.rcf with seq := .idle } }
    | _ => s.rcfSeqError

/-- The write of RCF.CMD (R483). -/
def State.rcfCmdWrite (s : State) (op : Nat) : State :=
  match s.rcf.seq with
  | .key2 => { s with rcf := { s.rcf with seq := .command op } }
  | _ => s.rcfSeqError

/-- The write of RCF.ADDR (R483). -/
def State.rcfAddrWrite (s : State) (addr : Nat) : State :=
  match s.rcf.seq with
  | .command op => { s with rcf := { s.rcf with seq := .address op addr } }
  | _ => s.rcfSeqError

/-- Array software's program of one word (R484): its checks, then the request. -/
def State.rcfSwProgram (s : State) (addr : Nat) (data : Word) (seqAfter : RcfSeq) : State :=
  let s0 := { s with rcf := { s.rcf with seq := .idle } }
  if addr % 8 ≠ 0 ∨ addr ≥ 0x4C00000 then s0.rcfEnd 5 0 (addr / 4096)
  else if !s.swMayProgram addr then s0.rcfEnd 3 0 (addr / 4096)
  else match s.rcf.physical addr with
    | some w =>
      if s.rcf.word w ≠ 0xFFFFFFFFFFFFFFFF then s0.rcfEnd 2 0 (addr / 4096)
      else (({ s with rcf := { s.rcf with seq := seqAfter } }).put F.RCF.STATUS.BUSY 1).rcfRequest
        ⟨.software, .program [(w, data)]⟩
    | none =>
      -- an unclaimed settings sector is claimed at its first program (R493)
      match s.rcf.leastSpare with
      | none => s0.rcfEnd 6 0 (addr / 4096)
      | some p =>
        let l := (addr - 0x4000000) / 4096
        (({ s with rcf := { (s.rcf.programClaim l p 1) with
            seq := seqAfter,
            claims := Tab.insert s.rcf.claims l p } }).put F.RCF.STATUS.BUSY 1).rcfRequest
          ⟨.software, .program [(p * 512 + addr % 4096 / 8, data)]⟩

/-- The word after the last one of a burst, while the sector lasts (R484). -/
def burstNext (addr : Nat) : RcfSeq := if (addr + 8) % 4096 = 0 then .idle else .burst (addr + 8)

/-- The write of RCF.DATA: the operation starts (R483, R484). -/
def State.rcfDataWrite (s : State) (data : Word) : State :=
  match s.rcf.seq with
  | .burst next =>
    if s.fld F.RCF.STATUS.BUSY = 1 then s.rcfSeqError else s.rcfSwProgram next data (burstNext next)
  | .address op addr =>
    let s0 := { s with rcf := { s.rcf with seq := .idle } }
    if s.fld F.RCF.STATUS.BUSY = 1 then s.rcfSeqError
    else match op with
    | 1 => s.rcfSwProgram addr data .idle
    | 2 => s.rcfSwProgram addr data (burstNext addr)
    | 3 =>
      if addr % 8 ≠ 0 ∨ addr ≥ 0x4C00000 then s0.rcfEnd 5 0 (addr / 4096)
      else if !s.swMayErase addr then s0.rcfEnd 3 0 (addr / 4096)
      else (s0.put F.RCF.STATUS.BUSY 1).rcfRequest ⟨.software, .erase (addr / 4096)⟩
    | 4 =>
      if addr % 8 ≠ 0 ∨ addr ≥ 0x4C00000 then s0.rcfEnd 5 0 (addr / 4096)
      else (s0.rcfSuspend true).rcfEnd 0 0 (addr / 4096)
    | 5 =>
      if addr % 8 ≠ 0 ∨ addr ≥ 0x4C00000 then s0.rcfEnd 5 0 (addr / 4096)
      else match s0.rcf.held with
        | some h => ({ s0 with rcf := { s0.rcf with held := some { h with bySoftware := false } }.serve }).rcfEnd 0 0
            (addr / 4096)
        | none => s0.rcfEnd 0 0 (addr / 4096)
    | 6 =>
      if addr % 8 ≠ 0 ∨ addr ≥ 0x4C00000 then s0.rcfEnd 5 0 (addr / 4096)
      else if addr < 0x4800000 then s0.rcfEnd 3 0 (addr / 4096)
      else if s0.rcf.leastSpare.isNone then s0.rcfEnd 6 0 (addr / 4096)
      else (s0.put F.RCF.STATUS.BUSY 1).rcfRequest ⟨.software, .rotate ((addr - 0x4000000) / 4096)⟩
    | _ => s.rcfSeqError
  | _ => s.rcfSeqError

/-! The end of an operation (R485, R486, R490, R494 to R497). -/

/-- Pulses past the warning count (R497). -/
def State.rcfPulses (s : State) (isErase : Bool) (sector pulses : Nat) : State :=
  if pulses > (if isErase then 8 else 16) then
    let s1 := (s.saturate F.RCF.WEAR.WARNINGS).putFlag F.RCF.WEAR.ERASE isErase
    ((s1.put F.RCF.WEAR.PULSES pulses).put F.RCF.WEAR.SECTOR sector |>.count F.RCF.STAT.COUNT 3).event Src.RCF 1 sector
  else s

/-- A FAIL (R496, R497): in the rotating region the sector is to be retired. -/
def State.rcfFail (s : State) (isErase : Bool) (sector : Nat) : State :=
  let s1 := (s.count F.RCF.STAT.COUNT 4).event Src.RCF 2 sector
  if isRotating sector && !s1.rcf.retiring.contains sector then
    let s2 : State := { s1 with rcf := { s1.rcf with retiring := s1.rcf.retiring ++ [sector] } }
    let s2 := (s2.event Src.RCF 3 sector).record Src.RCF (Config.noticeEvent Src.RCF 0x405).toNat 0x405 sector
      (s1.rcf.countOf sector) (if isErase then 2 else 1)
    let s2 := s2.count F.RCF.STAT.COUNT 5
    if s2.rcf.spares < 64 then s2.event Src.RCF 4 else s2
  else s1

/-- The words of an intent entry (R489). -/
def intentWords (i : RcfIntent) (pass : Nat) : List Word :=
  let w0 := 0xA * 2 ^ 60 + i.sector * 2 ^ 46 + i.count * 2 ^ 28
  [BitVec.ofNat 64 w0, BitVec.ofNat 64 (pass + crc32c (leBytes 8 w0 ++ leBytes 4 pass) * 2 ^ 32)]

/-- The CLOSE word of an entry (R489). -/
def closeWord (sector : Nat) : Word := BitVec.ofNat 64 (0x434C4F53 * 2 ^ 32 + sector)

/-- The word number of word i of journal entry k (R489). -/
def entryWord (k i : Nat) : Nat := 0x3700000 / 8 + 4 * k + i

/-- The entry after the present one (R491). -/
def Rcf.advanceEntry (c : Rcf) : Rcf :=
  { c with nextEntry := (c.nextEntry + 1) % 32768, pass := c.pass + (if c.nextEntry = 32767 then 1 else 0) }

/-- Saturating COUNT word (R481). -/
def countWord (n : Nat) : Word := BitVec.ofNat 64 (0x45434E54 * 2 ^ 32 + min n 262143)

/-- An erase ends (R490, R492). -/
def State.rcfEraseDone (s : State) (r : RcfReq) (sector pulses : Nat) : State :=
  let fail := s.rcf.eraseFail
  let s1 := { s with rcf := { s.rcf with current := none, step := 0, openIntent := none, repair := false } }
  let s2 := if fail then s1 else s1.count F.RCF.STAT.COUNT 1
  let s3 := if s.rcf.repair && !fail then
    ((s2.count F.RCF.STAT.COUNT 7).event Src.RCF 6 sector).record Src.RCF
      (Config.noticeEvent Src.RCF 0x404).toNat 0x404 sector (s2.rcf.countOf sector) 0
    else s2
  if r.who = .software then s3.rcfEnd (if fail then 1 else 0) pulses sector else s3

/-- The step of R490 that an erase is in has ended. -/
def State.rcfEraseStep (s : State) (r : RcfReq) (sector pulses : Nat) (ok : Bool) : State :=
  let c := s.rcf
  let k := c.nextEntry
  let intent : RcfIntent := ⟨k, sector, (c.openIntent.elim (c.countOf sector) (fun i => if c.repair then i.count + 1 else c.countOf sector))⟩
  match c.step with
  | 1 =>
    let s1 := s.rcfPulses false (14080 + k / 128) pulses
    if ok then
      let c1 := match intentWords intent c.pass with
        | [a, b] => (c.programWord (entryWord k 0) a).programWord (entryWord k 1) b
        | _ => c
      { s1 with rcf := { c1.advanceEntry with openIntent := some intent, step := 2 } }
    else { s1 with rcf := c.advanceEntry }.rcfFail false (14080 + k / 128)
  | 2 =>
    let s1 := s.rcfPulses true sector pulses
    if ok then { s1 with rcf := { (c.eraseSector sector) with step := 3 } }
    else { s1 with rcf := { c with step := 4, eraseFail := true } }.rcfFail true sector
  | 3 =>
    let n := (c.openIntent.elim (c.countOf sector) (·.count)) + 1
    let s1 := { s with rcf := { (if ok then c.programInfo sector 0 (countWord n) else c) with step := 4 } }
    let s2 := (s1.rcfPulses false sector pulses)
    let s3 := if n = 100000 then s2.event Src.RCF 5 sector else s2
    if ok then s3 else s3.rcfFail false sector
  | _ =>
    let s1 := match c.openIntent with
      | some i => { s with rcf := c.programWord (entryWord i.entry 2) (closeWord i.sector) }
      | none => s
    (s1.rcfPulses false (14080 + k / 128) pulses).rcfEraseDone r sector pulses

/-- A rotation's claim has been programmed (R494). -/
def State.rcfRotateDone (s : State) (r : RcfReq) (l pulses : Nat) (ok : Bool) : State :=
  match s.rcf.leastSpare with
  | none => if r.who = .software then { s with rcf := { s.rcf with current := none } }.rcfEnd 6 pulses 0
    else { s with rcf := { s.rcf with current := none, queue := s.rcf.queue ++ [r] } }
  | some p =>
    let gen := match s.rcf.resolve l with
      | some old => (s.rcf.claimOf old).elim 1 (fun q => q.2 + 1)
      | none => 1
    if ok then
      let s1 := ({ s with rcf := { (s.rcf.programClaim l p gen) with
          current := none, claimsDue := Tab.insert s.rcf.claimsDue l p } }.count F.RCF.STAT.COUNT 6).rcfPulses
          false p pulses
      let s2 := if r.who = .evr then { s1 with evr := { s1.evr with entered := true } } else s1
      if r.who = .software then s2.rcfEnd 0 pulses p else s2
    else
      let s1 := { s with rcf := { s.rcf with current := none } }.rcfFail false p
      if r.who = .software then s1.rcfEnd 1 pulses p
      else { s1 with rcf := { s1.rcf with queue := s1.rcf.queue ++ [r] } }

/-- A wear move's copy and claim have been programmed (R495). -/
def State.rcfMoveDone (s : State) (l pulses : Nat) (ok : Bool) : State :=
  let s0 := { s with rcf := { s.rcf with current := none } }
  match s.rcf.mostSpare, s.rcf.resolve l with
  | some p, some old =>
    if ok then
      let moved := s.rcf.flash.filter (fun q => q.1 / 512 = old)
      let c1 := moved.foldl (fun c q => c.programWord (p * 512 + q.1 % 512) q.2) s0.rcf
      let gen := (s.rcf.claimOf old).elim 1 (fun q => q.2 + 1)
      { s0 with rcf := { (c1.programClaim l p gen) with
          claimsDue := Tab.insert c1.claimsDue l p,
          lastMove := some s.tck.tick } }.rcfPulses false p pulses
    else s0.rcfFail false p
  | _, _ => s0

/-- A program ends (R485): OK with its words programmed, or FAIL. -/
def State.rcfProgramDone (s : State) (r : RcfReq) (ws : List (Nat × Word)) (pulses : Nat) (ok : Bool) : State :=
  let sector : Nat := match ws with
    | p :: _ => p.1 / 512
    | [] => 0
  let c : Rcf := if ok then ws.foldl (fun (c : Rcf) (p : Nat × Word) => c.programWord p.1 p.2) s.rcf else s.rcf
  let s0 : State := { s with rcf := { c with current := none } }
  let s1 := (if ok then s0.count F.RCF.STAT.COUNT 0 ws.length else s0.rcfFail false sector).rcfPulses false sector pulses
  if r.who = .software then
    (if ok then s1 else { s1 with rcf := { s1.rcf with seq := .idle } }).rcfEnd (if ok then 0 else 1) pulses sector
  else if r.who = .sim then { s1 with sim := { s1.sim with wrote := some ok } }
  else s1

/-- The operation in progress ends, or the step of an erase ends, after a number of pulses, OK or FAIL
(R485, R486, R490). -/
def State.rcfOperationEnd (s : State) (pulses : Nat) (ok : Bool) : State :=
  match s.rcf.current with
  | none => s
  | some r =>
    let s1 : State := match r.op with
      | .erase sector => s.rcfEraseStep r sector pulses ok
      | .rotate l => s.rcfRotateDone r l pulses ok
      | .wearMove l => s.rcfMoveDone l pulses ok
      | .program ws => s.rcfProgramDone r ws pulses ok
    { s1 with rcf := s1.rcf.serve }

/-- At a boundary: claims verified in the ended tick hold (R494), and waiting requests are taken. -/
def State.rcfBoundary (s : State) : State :=
  { s with rcf := { s.rcf with
      claims := s.rcf.claimsDue.foldl (fun (m : Tab Nat) (p : Nat × Nat) => Tab.insert m p.1 p.2) s.rcf.claims, claimsDue := [] }.serve }

/-- Entry to Power-Fail Drain: any erase is suspended and never resumed (R488). -/
def State.rcfEnterDrain (s : State) : State :=
  let s1 := s.rcfSuspend true
  { s1 with rcf := { s1.rcf with neverResume := true } }

/-- Every reset ends a suspended erase without resuming it (R488) and stops what is in progress. -/
def Rcf.afterReset (c : Rcf) : Rcf :=
  { c with seq := .idle, queue := [], current := none, step := 0, eraseFail := false, held := none,
           suspCount := 0, neverResume := false, repair := false, claimsDue := [] }

/-! The scan at start (R492, R493). -/

/-- A valid entry of the intent journal (R489): its intent and PASS. -/
def Rcf.entryAt (c : Rcf) (k : Nat) : Option (RcfIntent × Nat) :=
  let w0 := (c.word (entryWord k 0)).toNat
  let w1 := (c.word (entryWord k 1)).toNat
  if bits w0 63 60 = 0xA ∧ bits w1 63 32 = crc32c (leBytes 8 w0 ++ leBytes 4 (bits w1 31 0)) then
    some (⟨k, bits w0 59 46, bits w0 45 28⟩, bits w1 31 0)
  else none

/-- The newest valid entry: highest PASS, then highest k (R492). -/
def Rcf.newestEntry (c : Rcf) : Option (RcfIntent × Nat) :=
  c.flash.foldl (fun best p =>
    if p.1 ≥ 0x3700000 / 8 ∧ p.1 < 0x3800000 / 8 ∧ p.1 % 4 = 0 then
      match c.entryAt ((p.1 - 0x3700000 / 8) / 4), best with
      | some (i, ps), some (j, qs) => if ps > qs ∨ (ps = qs ∧ i.entry > j.entry) then some (i, ps) else some (j, qs)
      | some x, none => some x
      | none, b => b
    else best) none

/-- The map of the rotating region (R493): of several claims of a logical sector the highest GEN stands. -/
def Rcf.buildMap (c : Rcf) : Tab Nat :=
  (c.info.filter (fun p => p.1 % 8 = 1)).foldl (fun (m : Tab Nat) p =>
    let sector := p.1 / 8
    if isRotating sector && !c.isRetired sector && !(c.openIntent.any (fun i => i.sector == sector)) then
      match c.claimOf sector with
      | some (l, g) =>
        match Tab.find m l with
        | some q => if g > ((c.claimOf q).elim 0 (·.2)) then Tab.insert m l sector else m
        | none => Tab.insert m l sector
      | none => m
    else m) []

/-- The scan of R492 by RCF: the newest entry, the map, and the repair of a sector an open entry names. -/
def State.rcfScan (s : State) : State :=
  let c := s.rcf
  let c1 := match c.newestEntry with
    | none => { c with nextEntry := 0, pass := 0, openIntent := none }
    | some (i, ps) =>
      let closed := c.word (entryWord i.entry 2) == closeWord i.sector
      { c with nextEntry := (i.entry + 1) % 32768, pass := ps + (if i.entry = 32767 then 1 else 0),
               openIntent := if closed then none else some i }
  let c2 := { c1 with claims := c1.buildMap }
  match c2.openIntent with
  | some i => { s with rcf := { c2 with current := some ⟨.background, .erase i.sector⟩, step := 1, eraseFail := false,
                                        repair := true } }
  | none => { s with rcf := c2 }

/-! The commands. -/

/-- RCF_OPERATION_END (R485, R486, R490): the operation or the step of an erase in progress ends. -/
def execRcfOperationEnd (pulses : Nat) (ok : Bool) (s : State) : Host.Outcome State Fault Refusal :=
  .next (s.rcfOperationEnd pulses ok)

/-- AUTO_SUSPEND (R488): the erase in progress is suspended for a waiting read or program. -/
def execAutoSuspend (s : State) : Host.Outcome State Fault Refusal :=
  .next (if s.fld F.RCF.CTL.AUTO_SUSP = 1 ∧ s.rcf.suspCount < s.fld F.RCF.CTL.SUSP_MAX ∧ s.rcf.current.isSome then
    let t := s.rcfSuspend false
    match t.rcf.pick with
    | some r => { t with rcf := t.rcf.begin r }
    | none => t
  else s)

/-- SUSPEND_LIMIT_EXPIRY (R488): 250 ticks after it began, an automatic suspension ends and the pulse is
repeated whole; what is in progress ends first. -/
def execSuspendLimitExpiry (s : State) : Host.Outcome State Fault Refusal :=
  .next (match s.rcf.held with
    | some h =>
      if !h.bySoftware && !s.rcf.neverResume && s.rcf.current.isNone &&
          decide (s.tck.tick ≥ s.rcf.suspSince + 250) then
        { s with rcf := { s.rcf with current := some h.req, step := 2, held := none } }
      else s
    | none => s)

/-- SPARE_ERASE (R494, R496): RCF erases a dirty sector in the background; one that is to be retired has RETIRED
programmed in place of the erase. -/
def execSpareErase (sector : Nat) (s : State) : Host.Outcome State Fault Refusal :=
  .next (if s.rcf.isDirty sector then
    if s.rcf.retiring.contains sector then
      { s with rcf := { (s.rcf.programInfo sector 7 0) with retiring := s.rcf.retiring.erase sector } }
    else s.rcfRequest ⟨.background, .erase sector⟩
  else s)

/-- The claimed sector of lowest COUNT in the region that does not hold the event sector being written (R495). -/
def State.leastWorn (s : State) : Option (Nat × Nat) :=
  s.rcf.claims.foldl (fun b p =>
    if p.1 = s.evr.pos / 64 then b
    else match b with
      | none => some p
      | some q => if s.rcf.countOf p.2 < s.rcf.countOf q.2 then some p else some q) none

/-- WEAR_MOVE (R495). -/
def execWearMove (s : State) : Host.Outcome State Fault Refusal :=
  .next (match s.leastWorn with
    | some (l, p) =>
      if s.rcf.maxCount > s.rcf.countOf p + s.fld F.RCF.CTL.SPREAD
          ∧ s.rcf.lastMove.all (fun t => decide (s.tck.tick ≥ t + 500000))
          ∧ s.rcf.queue.all (fun r => match r.op with
            | .rotate _ => false
            | _ => true) ∧ s.rcf.mostSpare.isSome then
        s.rcfRequest ⟨.background, .wearMove l⟩
      else s
    | none => s)

end Sys2Proof.Machine
end

