-- ==== Sys2Proof/Machine/ImageChecks.lean ====
section
/-!
DEFINITION. Machine/ImageChecks.lean: the formats of structure images (R433 to R442) and of boot loader images (R545),
their checks (R441, R452, R550), and the choice of a slot (R443, R546). An image is read through a function from an offset
to a byte, so that a slot is read where it lies.
-/

namespace Sys2Proof.Machine

/-! Reading. -/

/-- A byte of record flash as SIM and LCS read it. -/
def Rcf.byteAt (c : Rcf) (a : Nat) : Byte := BitVec.ofNat 8 ((c.readWord (a / 8 * 8)).toNat >>> (8 * (a % 8)))

/-- n bytes from an offset. -/
def readAt (rd : Nat → Byte) (off n : Nat) : List Byte := (List.range n).map (fun i => rd (off + i))

/-- A little-endian number (R6). -/
def leAt (rd : Nat → Byte) (off n : Nat) : Nat := leNat (readAt rd off n)

/-- An octet string read as a number. -/
def beAt (rd : Nat → Byte) (off n : Nat) : Nat := beNat (readAt rd off n)

/-- Reserved bytes are zero. -/
def zeroAt (rd : Nat → Byte) (off n : Nat) : Bool := (List.range n).all (fun i => rd (off + i) == 0)

/-- The flash address of image slot A (0) or B (1) (R480). -/
def slotBase (slot : Nat) : Nat := 0x0800000 + slot * 0x1000000

/-- Bytes of an image slot. -/
def slotSize : Nat := 0x1000000

/-- An image slot's bytes. -/
def Rcf.slotByte (c : Rcf) (slot i : Nat) : Byte := c.byteAt (slotBase slot + i)

/-- The next 4 KiB sector boundary at or after an offset. -/
def sectorUp (n : Nat) : Nat := (n + 4095) / 4096 * 4096

/-! Keys and signatures. -/

/-- SHA-384 as a number of 384 bits. -/
def keyDigest (m : List Byte) : BitVec 384 := BitVec.ofNat 384 (beNat (sha384 m))

/-- The key of a signature block is one that the life-cycle state allows (R440, R471, R472). -/
def Lcs.keyAllowed (l : Lcs) (index : Nat) (digest : BitVec 384) : Bool :=
  match l.life with
  | .maker => digest == Config.rootDigest
  | .returnToMaker => digest == Config.rootDigest
  | .provisioned => Tab.find l.fuses.imgDigest index == some digest && !l.fuses.imgRevoke.toNat.testBit index
  | .field => Tab.find l.fuses.imgDigest index == some digest && !l.fuses.imgRevoke.toNat.testBit index
  | .blank => false
  | .void => false

/-- The rollback minimum (R473): the value in the highest programmed row. -/
def Fuses.rollbackMin (f : Fuses) : Nat := (f.rollback.getLast?.map BitVec.toNat).getD 0

/-- The rollback check (R471, R472): enforced in Field alone. -/
def Lcs.rollbackOk (l : Lcs) (seq : Nat) : Bool := l.life != .field || decide (l.fuses.rollbackMin ≤ seq)

/-- The signature block at the end of an image checks (R440): its MAGIC and VERSION, and the ECDSA signature of the bytes
before it followed by its own first 104. -/
def signatureOk (rd : Nat → Byte) (len : Nat) : Bool :=
  let b := len - 512
  leAt rd b 2 == 0x5347 && leAt rd (b + 2) 1 == 1 &&
    ecdsaVerify (beAt rd (b + 8) 48) (beAt rd (b + 56) 48) (readAt rd 0 (b + 104)) (beAt rd (b + 104) 48) (beAt rd (b + 152) 48)

/-- KEY_INDEX of the signature block, and SHA-384 of its public key. -/
def signer (rd : Nat → Byte) (len : Nat) : Nat × BitVec 384 :=
  (leAt rd (len - 509) 1, keyDigest (readAt rd (len - 504) 96))

/-! Sections (R437, R438). -/

/-- An entry of the section table. -/
structure Section where
  typ : Nat
  off : Nat
  len : Nat
  crc : Nat
  deriving DecidableEq, Repr

/-- The section table. -/
def sectionsOf (rd : Nat → Byte) : List Section :=
  (List.range (leAt rd 22 2)).map (fun i =>
    ⟨leAt rd (64 + 32 * i) 1, leAt rd (68 + 32 * i) 4, leAt rd (72 + 32 * i) 4, leAt rd (76 + 32 * i) 4⟩)

/-- The body of the section of a type. -/
def bodyOf (rd : Nat → Byte) (typ : Nat) : Option (List Byte) :=
  ((sectionsOf rd).find? (fun x => x.typ == typ)).map (fun x => readAt rd x.off x.len)

/-- The bodies follow in ascending order without overlap from an offset on, 64-aligned, the bytes between them and up to
the end zero (R438); the bytes before the first are not looked at. -/
def bodiesOk (rd : Nat → Byte) (stop : Nat) : Bool → Nat → List Section → Bool
  | first, from_, [] => decide (from_ ≤ stop) && (first || zeroAt rd from_ (stop - from_))
  | first, from_, x :: xs =>
    x.off % 64 == 0 && decide (from_ ≤ x.off) && decide (x.off + x.len ≤ stop) &&
      (first || zeroAt rd from_ (x.off - from_)) && bodiesOk rd stop false (x.off + x.len) xs

/-- How many sections have a type. -/
def sectionCount (xs : List Section) (typ : Nat) : Nat := (xs.filter (fun x => x.typ == typ)).length

/-- Cause SECTIONS does not apply (R437, R438, R452): reserved bytes, the table, the bodies' places and the section types. A
full image has a non-zero IMAGE_SEQ and PART_SEQ 0 (R437). -/
def sectionsOk (rd : Nat → Byte) (len : Nat) : Bool :=
  let n := leAt rd 22 2
  let xs := sectionsOf rd
  decide (1 ≤ n) && decide (n ≤ 16) && leAt rd 14 2 / 2 == 0 && zeroAt rd 28 4 && zeroAt rd 40 24 &&
    (List.range n).all (fun i => zeroAt rd (65 + 32 * i) 3 && zeroAt rd (80 + 32 * i) 16) &&
    zeroAt rd (len - 508) 4 && zeroAt rd (len - 312) 312 &&
    bodiesOk rd (len - 512) true (64 + 32 * n) xs &&
    xs.all (fun x => decide (1 ≤ x.typ) && decide (x.typ ≤ 4) && (x.typ != 4 || decide (x.len ≤ 4096))) &&
    (if leAt rd 3 1 == 1 then
      (sectionCount xs 1 == 1 && sectionCount xs 2 == 1 && sectionCount xs 3 == 1) && leAt rd 8 4 != 0 && leAt rd 12 2 == 0
    else decide (sectionCount xs 1 ≤ 1) && decide (sectionCount xs 2 ≤ 1) && decide (sectionCount xs 3 ≤ 1) &&
      decide (sectionCount xs 4 ≤ 1) && xs.any (fun x => x.typ != 4))

/-- Every body passes its CRC. -/
def bodiesCrc (rd : Nat → Byte) : Bool := (sectionsOf rd).all (fun x => crc32c (readAt rd x.off x.len) == x.crc)

/-! Register records (R433, R439, R550). -/

/-- The registers of the table of R433. -/
def structureRegs : List Nat :=
  [F.TCK.CONFIG.TICK_LEN.addr, F.HPT.CONFIG.SPLIT.addr, F.FRN.CONFIG.PORTS.addr, F.CMP.CONFIG.COMP_LANES.addr,
   F.RDX.CONFIG.CHUNK.addr, F.RDX.MERGE_CTL.Q_LOG2.addr, F.QPC.CONFIG.ADDR.addr, F.FTL.CONFIG.MOSS_PCT.addr,
   F.RDN.CONFIG.SEED.addr, F.RFL.CONFIG.VSET_HOME.addr, F.CMF.CONFIG.CTAB_LOG2.addr, F.VCT.CONFIG.VC_MAX.addr,
   F.BAY.CONFIG.PARTS.addr] ++
  (List.range 16).flatMap (fun n => [(F.MEM.PART_BASE.BASE.nth n).addr, (F.MEM.PART_SIZE.SIZE.nth n).addr,
    (F.MEM.PART_CTL.EN.nth n).addr])

/-- The fields of the fixed choices (R433). -/
def fixedChoices : List Fld :=
  [F.TCK.CONFIG.TICK_LEN, F.HPT.CONFIG.SPLIT, F.FRN.CONFIG.PORTS, F.RDX.CONFIG.CHUNK, F.RDX.CONFIG.DKEY,
   F.RDX.CONFIG.PAGES_LOG2, F.RDX.MERGE_CTL.Q_LOG2, F.QPC.CONFIG.ADDR, F.FTL.CONFIG.DIE_SPLIT, F.RDN.CONFIG.SEED,
   F.RFL.CONFIG.VSET_HOME, F.CMF.CONFIG.CTAB_LOG2] ++
  (List.range 16).flatMap (fun n => [F.MEM.PART_BASE.BASE.nth n, F.MEM.PART_SIZE.SIZE.nth n, F.MEM.PART_CTL.EN.nth n,
    F.MEM.PART_CTL.ROLE.nth n, F.MEM.PART_CTL.INIT.nth n, F.MEM.PART_CTL.GRANT.nth n])

/-- A word keeps every fixed choice of its register as it is in force (R435, R439). -/
def State.keepsFixed (s : State) (a : Nat) (v : Word) : Bool :=
  fixedChoices.all (fun f => f.addr != a || bits v.toNat f.hi f.lo == s.fld f)

/-- The records of a REGS body: address word and value. -/
def regRecords (body : List Byte) : List (Nat × Word) :=
  (List.range (body.length / 16)).map (fun i =>
    (leNat ((body.drop (16 * i)).take 8), BitVec.ofNat 64 (leNat ((body.drop (16 * i + 8)).take 8))))

/-- The value the records give a field; the value in force where they do not name its register. -/
def State.fieldIn (s : State) (recs : List (Nat × Word)) (f : Fld) : Nat :=
  match recs.find? (fun p => p.1 == f.addr) with
  | some p => bits p.2.toNat f.hi f.lo
  | none => s.fld f

/-- The enabled partitions of the records (R550): base, end, role, INIT, and whether SIZE is 0. -/
def State.partsIn (s : State) (recs : List (Nat × Word)) : List (Nat × Nat × Nat × Bool × Bool) :=
  (List.range 16).filterMap (fun n =>
    if s.fieldIn recs (F.MEM.PART_CTL.EN.nth n) = 0 then none
    else
      let b := s.fieldIn recs (F.MEM.PART_BASE.BASE.nth n) * 2 ^ 21
      let k := s.fieldIn recs (F.MEM.PART_SIZE.SIZE.nth n) * 2 ^ 21
      some (b, if k = 0 then s.ddrEnd else b + k, s.fieldIn recs (F.MEM.PART_CTL.ROLE.nth n),
        s.fieldIn recs (F.MEM.PART_CTL.INIT.nth n) == 1, k == 0))

/-- Two ranges do not overlap. -/
def apart (a b : Nat × Nat × Nat × Bool × Bool) : Bool := decide (a.2.1 ≤ b.1) || decide (b.2.1 ≤ a.1)

/-- The partition rules of R550 hold. -/
def State.partitionsOk (s : State) (recs : List (Nat × Word)) : Bool :=
  let ps := s.partsIn recs
  let role := fun (r : Nat) => ps.filter (fun p => p.2.2.1 == r)
  let size := fun (r : Nat) => ((role r).map (fun p => p.2.1 - p.1)).foldl (· + ·) 0
  !s.flag F.MEM.STATUS.DDR_BAD &&
    (List.range ps.length).all (fun i => (List.range i).all (fun j =>
      match ps[i]?, ps[j]? with
      | some a, some b => apart a b
      | _, _ => true)) &&
    ps.all (fun p => decide (p.1 < p.2.1) &&
      ((decide (hbmBase ≤ p.1) && decide (p.2.1 ≤ hbmEnd)) || (decide (ddrBase ≤ p.1) && decide (p.2.1 ≤ s.ddrEnd)))) &&
    ps.all (fun p => !p.2.2.2.2 || (decide (ddrBase ≤ p.1) && ps.all (fun q => decide (q.1 ≤ p.1)))) &&
    [1, 2, 3, 4, 5].all (fun r => (role r).length == 1) &&
    decide (2 ^ (26 + s.fieldIn recs F.RDX.CONFIG.PAGES_LOG2) ≤ size 3) &&
    decide (64 * 2 ^ s.fieldIn recs F.RDX.MERGE_CTL.Q_LOG2 ≤ size 5) &&
    decide (((ps.filter (fun p => p.2.2.2.1 && decide (ddrBase ≤ p.1))).map (fun p => p.2.1 - p.1)).foldl (· + ·) 0
      ≤ 64 * 2 ^ 30)

/-- A record names a register of R433 and a value every field of it may hold (R439). -/
def recordOk (p : Nat × Word) : Bool :=
  structureRegs.contains p.1 && (match specAt p.1 with
    | some (_, r, _) => r.legalWord p.2
    | none => false)

/-- No address appears twice. -/
def addressesOnce : List (Nat × Word) → Bool
  | [] => true
  | p :: ps => ps.all (fun q => q.1 != p.1) && addressesOnce ps

/-- Cause VALUE does not apply (R439, R550, R452). -/
def State.valuesOk (s : State) (rd : Nat → Byte) : Bool :=
  let full := leAt rd 3 1 == 1
  let body := (bodyOf rd 1).getD []
  let recs := regRecords body
  body.length % 16 == 0 && recs.all recordOk && addressesOnce recs &&
    (if full then structureRegs.all (fun a => recs.any (fun p => p.1 == a)) && s.partitionsOk recs
    else decide (s.fld F.VCT.CONFIG.VC_MAX ≤ s.fieldIn recs F.VCT.CONFIG.VC_MAX) &&
      decide (s.fld F.VCT.CONFIG.QPOOL ≤ s.fieldIn recs F.VCT.CONFIG.QPOOL)) &&
    ((bodyOf rd 2).map Config.bodyFits).getD true && ((bodyOf rd 3).map Config.bodyFits).getD true

/-! The checks in order (R441, R446, R452). -/

/-- What a partial is checked against (R446): IMAGE_SEQ and COMPAT of the loaded full image, and the next PART_SEQ. -/
structure PartBase where
  seq : Nat
  compat : Nat
  part : Nat
  deriving DecidableEq, Repr

/-- The first cause of R452 that applies to an image of one of the kinds, of which the source holds a number of bytes; 0
when it passes R441, and R446 where a base is given. -/
def State.imageCause (s : State) (rd : Nat → Byte) (held : Nat) (kinds : List Nat) (base : Option PartBase) : Nat :=
  let kind := leAt rd 3 1
  let len := leAt rd 4 4
  if held < 64 then 2
  else if leAt rd 0 2 ≠ 0x415A ∨ leAt rd 2 1 ≠ 1 ∨ leAt rd 20 2 ≠ 0x8860 ∨ !kinds.contains kind then 1
  else if len < 640 ∨ len % 64 ≠ 0 ∨ len > (if kind = 1 then 2 ^ 24 else 2 ^ 22) ∨ len > held then 2
  else if !signatureOk rd len then 3
  else if !s.lcs.keyAllowed (signer rd len).1 (signer rd len).2 then 4
  else if !s.lcs.rollbackOk (leAt rd 8 4) then 5
  else if !sectionsOk rd len then 6
  else if !bodiesCrc rd then 7
  else if base.any (fun b => leAt rd 8 4 != b.seq || leAt rd 12 2 != b.part) then 8
  else if base.any (fun b => leAt rd 16 4 != b.compat) then 9
  else if kind = 2 ∧ !((regRecords ((bodyOf rd 1).getD [])).all (fun p => s.keepsFixed p.1 p.2)) then 10
  else if !s.valuesOk rd then 11
  else 0

/-! The partial area of a slot (R442). -/

/-- A partial in a slot: the offset of its disposition record, its length, PART_SEQ, and the words that count as written. -/
structure SlotPart where
  off : Nat
  len : Nat
  seq : Nat
  staged : Bool
  commit : Bool
  abort : Bool
  deriving DecidableEq, Repr

/-- A disposition word is written: it holds exactly its value. -/
def dispositionIs (rd : Nat → Byte) (off tag seq : Nat) : Bool := leAt rd off 8 == tag * 2 ^ 32 + seq

/-- The partials from an offset on, at most the given number: each begins with a disposition record, and the next one lies at
the next sector boundary. -/
def partsFrom (rd : Nat → Byte) : Nat → Nat → List SlotPart
  | 0, _ => []
  | n + 1, off =>
    let len := leAt rd (off + 68) 4
    let seq := leAt rd (off + 76) 2
    if leAt rd (off + 64) 2 = 0x415A ∧ leAt rd (off + 67) 1 = 2 ∧ off + 64 + len ≤ slotSize then
      { off := off, len := len, seq := seq, staged := dispositionIs rd off 0x53544744 seq,
        commit := dispositionIs rd (off + 8) 0x434D5449 seq, abort := dispositionIs rd (off + 16) 0x41425254 seq }
        :: partsFrom rd n (sectorUp (off + 64 + len))
    else []

/-- The partials of a slot. -/
def Rcf.slotParts (c : Rcf) (slot : Nat) : List SlotPart :=
  partsFrom (c.slotByte slot) 8 (sectorUp (leAt (c.slotByte slot) 4 4))

/-- The offset at which the next partial of a slot would begin. -/
def Rcf.slotEnd (c : Rcf) (slot : Nat) : Nat :=
  match (c.slotParts slot).getLast? with
  | some p => sectorUp (p.off + 64 + p.len)
  | none => sectorUp (leAt (c.slotByte slot) 4 4)

/-! Choice of a slot (R443, R546). -/

/-- The slot chosen from PREF, TRIAL, TRIED and what the check of each slot found (whether it passes, and IMAGE_SEQ): the
slot, and TRIAL, TRIED and whether the trial has failed. With PREF 0 and neither slot passing, slot 0. -/
def chooseSlot (pref trial tried : Nat) (a b : Bool × Nat) : Nat × Nat × Nat × Bool :=
  let named := if pref = 1 then 0 else if pref = 2 then 1
    else if a.1 then (if b.1 ∧ b.2 > a.2 then 1 else 0) else if b.1 then 1 else 0
  if trial = 0 then (named, 0, tried, false)
  else if tried = 0 then (named, 1, 1, false)
  else (1 - named, 0, 0, true)

/-! Refusal and abandonment. -/

/-- SIM refuses an image (R452): the cause stands in SIM.STATUS.CAUSE and in an event record. -/
def State.simRefuse (s : State) (cause : Nat) : State :=
  (s.put F.SIM.STATUS.CAUSE cause).event Src.SIM 2 0 cause

/-- A disposition word is handed to RCF (R442). -/
def State.programDisposition (s : State) (addr tag seq : Nat) : State :=
  ({ s with sim := { s.sim with wrote := none } } : State).rcfRequest
    ⟨.sim, .program [(addr / 8, BitVec.ofNat 64 (tag * 2 ^ 32 + seq))]⟩

/-- The requested commit is abandoned (R449): the ABORT word, no shadows, STATE loaded. -/
def State.abandonCommit (s : State) : State :=
  match s.sim.shadow with
  | none => s
  | some p =>
    let s1 := s.programDisposition (p.addr + 16) 0x41425254 p.partSeq
    let s2 : State := { s1 with sim := { s1.sim with shadow := none, requested := false, deferred := 0 } }
    ((s2.put F.SIM.STATUS.STATE 2).count F.SIM.STAT.COUNT 5).event Src.SIM 5 0 p.partSeq

/-- The requested commit needs an activation hold (R449). -/
def State.commitNeedsHold (s : State) : Bool :=
  match s.sim.shadow with
  | none => false
  | some p => p.quiesce || s.fieldIn p.regs F.CMF.CONFIG.MDTS != s.fld F.CMF.CONFIG.MDTS ||
      s.fieldIn p.regs F.CMF.CONFIG.ICD_KB != s.fld F.CMF.CONFIG.ICD_KB

/-- An activation hold has ended without QUIESCED: a requested commit that needs it is abandoned (R449). -/
def State.holdLost (s : State) : State :=
  if s.fld F.SIM.STATUS.STATE = 6 ∧ s.commitNeedsHold then s.abandonCommit else s

/-! Boot loader images (R545). -/

/-- A boot loader slot's bytes. -/
def Rcf.bootByte (c : Rcf) (slot i : Nat) : Byte := c.byteAt (slot * 0x400000 + i)

/-- The image of a boot loader slot verifies (R545). -/
def State.bootOk (s : State) (slot : Nat) : Bool :=
  let rd := s.rcf.bootByte slot
  let len := leAt rd 4 4
  leAt rd 0 2 == 0x424C && leAt rd 2 1 == 1 && leAt rd 3 1 == 0 && leAt rd 16 2 == 0x8860 && zeroAt rd 18 46 &&
    len % 64 == 0 && decide (1024 ≤ len) && decide (len ≤ 2 ^ 22) &&
    leAt rd 12 4 % 4 == 0 && decide (leAt rd 12 4 < len - 512) &&
    signatureOk rd len && zeroAt rd (len - 508) 4 && zeroAt rd (len - 312) 312 &&
    s.lcs.keyAllowed (signer rd len).1 (signer rd len).2 && s.lcs.rollbackOk (leAt rd 8 4)

end Sys2Proof.Machine
end

