-- ==== Sys2Proof/Machine/Reservations.lean ====
section
/-!
DEFINITION. Machine/Reservations.lean: the reservation commands (chapter 08, R306 to R308), with the meaning NVMe 2.0 gives
Register, Report, Acquire and Release (assumption 28).
-/

namespace Sys2Proof.Machine

/-- What a reservation command does: it is refused with a status; it changes nothing; or it leaves a new state, with the
operation of its RSV item, the keys the item names, and who is told: notification type and hosts. -/
inductive RsvResult where
  | refused (status : Nat)
  | same
  | change (r : Rsv) (op : Nat) (key pkey : Word) (told : List (Nat × BitVec 128))

/-- The registrant of a host. -/
def Rsv.registrant (r : Rsv) (h : BitVec 128) : Option Registrant := r.regs.find? (fun g => g.host == h)

/-- The reservation is of a type that all registrants hold. -/
def Rsv.allHold (r : Rsv) : Bool := r.rtype == 5 || r.rtype == 6

/-- A host holds the reservation. -/
def Rsv.heldBy (r : Rsv) (h : BitVec 128) : Bool :=
  r.rtype != 0 && (if r.allHold then (r.registrant h).isSome else r.holder == some h)

/-- Hosts registered other than one. -/
def Rsv.others (r : Rsv) (h : BitVec 128) : List (BitVec 128) := (r.regs.map Registrant.host).filter (fun x => x ≠ h)

/-- The reservation released: registrants of the types that other registrants depend on are told. -/
def Rsv.release (r : Rsv) (h : BitVec 128) : Rsv × List (Nat × BitVec 128) :=
  ({ r with rtype := 0, holder := none },
   if r.rtype = 1 ∨ r.rtype = 2 then [] else (r.others h).map (fun x => (2, x)))

/-- A registrant removed; a reservation that it held, or that the last registrant of all held, is released. -/
def Rsv.removeHost (r : Rsv) (h : BitVec 128) : Rsv × List (Nat × BitVec 128) :=
  let r1 : Rsv := { r with regs := r.regs.filter (fun g => g.host ≠ h) }
  if r.rtype ≠ 0 ∧ (r.holder = some h ∨ (r.allHold ∧ r1.regs = [])) ∧ !(r.allHold && !r1.regs.isEmpty) then r1.release h
  else (r1, [])

/-- PTPL as CPTPL of a Register asks. -/
def Rsv.cptpl (r : Rsv) (x : Nat) : Rsv := if x = 2 then { r with ptpl := false } else if x = 3 then { r with ptpl := true } else r

/-- PRGEN raised. -/
def Rsv.bump (r : Rsv) : Rsv := { r with prgen := (r.prgen + 1) % 2 ^ 32 }

/-- Reservation Register. -/
def Rsv.register (r : Rsv) (h : BitVec 128) (action : Nat) (iekey : Bool) (cptpl : Nat) (crkey nrkey : Word) : RsvResult :=
  match action, r.registrant h with
  | 0, none =>
    if r.regs.length ≥ 64 then .refused 0x002
    else .change (({ r with regs := r.regs ++ [⟨h, nrkey⟩] } : Rsv).cptpl cptpl).bump 1 nrkey 0 []
  | 0, some g => if g.key = nrkey then .same else .refused 0x083
  | 1, some g =>
    if g.key = crkey ∨ iekey then
      let (r1, told) := r.removeHost h
      .change (r1.cptpl cptpl).bump 2 0 g.key told
    else .refused 0x083
  | 2, some g =>
    if g.key = crkey ∨ iekey then
      let set (x : Registrant) : Registrant := if x.host = h then { x with key := nrkey } else x
      .change (({ r with regs := r.regs.map set } : Rsv).cptpl cptpl).bump 3 nrkey g.key []
    else .refused 0x083
  | 1, none => .refused 0x083
  | 2, none => .refused 0x083
  | _, _ => .refused 0x002

/-- Preempt: the registrants with a key go, and the reservation passes to the host when its holder is among them. -/
def Rsv.preempt (r : Rsv) (h : BitVec 128) (rtype : Nat) (crkey prkey : Word) : RsvResult :=
  let all := r.allHold && prkey == 0
  let hit (g : Registrant) : Bool := all || g.key == prkey
  let gone := (r.regs.filter (fun g => hit g && g.host != h)).map Registrant.host
  let takes := all || (!r.allHold && r.rtype != 0 && r.regs.any (fun g => hit g && r.holder == some g.host))
  let left := r.regs.filter (fun g => !(hit g && g.host != h))
  if prkey = 0 ∧ !r.allHold then .refused 0x002
  else if gone = [] ∧ !takes ∧ !r.regs.any hit then .refused 0x083
  else
    let r1 : Rsv := { r with regs := left }
    let told := gone.map (fun x => (1, x)) ++ (if takes && r.rtype != rtype then ((r1.others h).map (fun x => (2, x))) else [])
    .change (if takes then { r1 with rtype := rtype, holder := some h } else r1).bump 5 crkey prkey told

/-- Reservation Acquire; Preempt and Abort acts as Preempt (R307). -/
def Rsv.acquire (r : Rsv) (h : BitVec 128) (action rtype : Nat) (crkey prkey : Word) : RsvResult :=
  match r.registrant h with
  | none => .refused 0x083
  | some g =>
    if g.key ≠ crkey then .refused 0x083
    else if rtype = 0 ∨ rtype > 6 ∨ action > 2 then .refused 0x002
    else if action = 0 then
      if r.rtype = 0 then .change { r with rtype := rtype, holder := some h } 4 crkey 0 []
      else if r.heldBy h ∧ r.rtype = rtype then .same else .refused 0x083
    else r.preempt h rtype crkey prkey

/-- Reservation Release: release or clear. -/
def Rsv.releaseCmd (r : Rsv) (h : BitVec 128) (action rtype : Nat) (crkey : Word) : RsvResult :=
  match r.registrant h with
  | none => .refused 0x083
  | some g =>
    if g.key ≠ crkey then .refused 0x083
    else if action = 0 then
      if !r.heldBy h then .same
      else if r.rtype ≠ rtype then .refused 0x002
      else
        let (r1, told) := r.release h
        .change r1 6 crkey 0 told
    else if action = 1 then
      .change ({ r with rtype := 0, holder := none, regs := [] } : Rsv).bump 7 crkey 0 ((r.others h).map (fun x => (3, x)))
    else .refused 0x002

/-- A host told of a change to a namespace's reservation, on every controller of this head it is associated with and has
not masked it on: the log page and the event. -/
def State.tellHost (s : State) (nsid : Nat) (n : Nat × BitVec 128) : State :=
  s.vct.vcs.foldl (fun (t : State) p =>
    match p.2.assoc with
    | some a =>
      if a.host = n.2 ∧ !(Tab.getD a.rsvMask nsid 0).testBit n.1 then
        let t1 := t.modifyAssoc p.1 (fun a => { a with rsvLog := (a.rsvLog ++ [(n.1, nsid)]).drop (a.rsvLog.length - 254), rsvCount := a.rsvCount + 1 })
        { t1 with cmf := { t1.cmf with notices := t1.cmf.notices ++ [(p.1, 0x800006)] } }
      else t
    | none => t) s

/-- A reservation command takes effect at its order key (R307): the state, its RSV item in the journal of the namespace's
side (R308), and the notifications. It completes with its record. -/
def State.applyRsv (s : State) (key : Nat) (c : Cmd) (n : Ns) (res : RsvResult) : State :=
  match res with
  | .refused x => (if x = 0x083 then s.count F.CMF.STAT.COUNT 14 else s).finish key x
  | .same => s.finish key 0
  | .change r op k pk told =>
    let s1 : State := { s with cmf := { s.cmf with rsv := Tab.insert s.cmf.rsv c.nsid r } }
    let s2 := s1.onSide (s.vsetSide n.vset) (fun (t : State) =>
      t.formRecord [.rsv c.nsid op r.rtype r.ptpl r.prgen c.host k pk] (some key) true)
    let s3 := s2.modifyCmd key (fun c => { c with stage := .writing, recorded := true, items := [] })
    told.foldl (fun (t : State) x => t.tellHost c.nsid x) s3

/-- A reservation command: the checks and the fetch of its data; then its effect, in its turn (R307). -/
def State.runRsv (s : State) (key opcode : Nat) (f : Cmd → Ns → Rsv → State → State) : State :=
  match s.cmd key with
  | none => s
  | some c =>
    if !c.io ∨ c.opcode ≠ opcode then s
    else
      let s1 := if c.stage = .admitted then s.ioStart key c else s
      match s1.cmd key with
      | none => s1
      | some d =>
        match d.ns with
        | some n => if d.stage = .held ∧ !s1.outOfTurn key d then f d n (s1.rsvOf d.nsid) s1 else s1
        | none => s1

/-- A field of a command's data. -/
def Cmd.dataWord (c : Cmd) (off : Nat) : Word := BitVec.ofNat 64 (leNat ((c.data.drop off).take 8))

/-- Reservation Register carried out. -/
def State.rsvRegister (s : State) (key : Nat) : State :=
  s.runRsv key 0x0D (fun c n r t =>
    t.applyRsv key c n (r.register c.host (c.cdw 10 % 8) ((c.cdw 10).testBit 3) (c.cdw 10 / 2 ^ 30) (c.dataWord 0) (c.dataWord 8)))

/-- Reservation Acquire carried out. -/
def State.rsvAcquire (s : State) (key : Nat) : State :=
  s.runRsv key 0x11 (fun c n r t =>
    if (c.cdw 10).testBit 3 then t.finish key 0x002
    else t.applyRsv key c n (r.acquire c.host (c.cdw 10 % 8) (c.cdw 10 / 256 % 256) (c.dataWord 0) (c.dataWord 8)))

/-- Reservation Release carried out. -/
def State.rsvRelease (s : State) (key : Nat) : State :=
  s.runRsv key 0x15 (fun c n r t =>
    if (c.cdw 10).testBit 3 then t.finish key 0x002
    else t.applyRsv key c n (r.releaseCmd c.host (c.cdw 10 % 8) (c.cdw 10 / 256 % 256) (c.dataWord 0)))

/-- The CNTLID shown for a registrant: of a controller of this head its host is associated with, else 0xFFFF. -/
def State.registrantCtrl (s : State) (h : BitVec 128) : Nat :=
  match s.vct.vcs.find? (fun p => p.2.assoc.any (fun a => a.host == h)) with
  | some (_, v) => v.field 0 2
  | none => 0xFFFF

/-- The extended Reservation Status data structure. -/
def State.rsvStatus (s : State) (r : Rsv) : List Byte :=
  layout 64 [(0, leBytes 4 r.prgen), (4, leBytes 1 r.rtype), (5, leBytes 2 r.regs.length), (9, leBytes 1 r.ptpl.toNat)] ++
  r.regs.flatMap (fun g => layout 64 [(0, leBytes 2 (s.registrantCtrl g.host)), (2, leBytes 1 (r.heldBy g.host).toNat),
    (8, leBytes 8 g.key.toNat), (16, leBytes 16 g.host.toNat)])

/-- Reservation Report carried out (R306). -/
def State.rsvReport (s : State) (key : Nat) : State :=
  s.runRsv key 0x0E (fun c _ r t =>
    if !(c.cdw 11).testBit 0 then t.finish key 0x018
    else
      let n := (c.cdw 10 + 1) * 4
      let b := (t.rsvStatus r).take n
      t.returnData key (b ++ List.replicate (n - b.length) 0))

/-- RESERVATION_REGISTER (R306 to R308). -/
def execReservationRegister (key : Nat) (s : State) : Host.Outcome State Fault Refusal := .next (s.rsvRegister key)

/-- RESERVATION_ACQUIRE (R306 to R308). -/
def execReservationAcquire (key : Nat) (s : State) : Host.Outcome State Fault Refusal := .next (s.rsvAcquire key)

/-- RESERVATION_RELEASE (R306 to R308). -/
def execReservationRelease (key : Nat) (s : State) : Host.Outcome State Fault Refusal := .next (s.rsvRelease key)

/-- RESERVATION_REPORT (R306). -/
def execReservationReport (key : Nat) (s : State) : Host.Outcome State Fault Refusal := .next (s.rsvReport key)

/-- FLUSH (R301): every write completed earlier is durable, so it waits for nothing. -/
def execFlush (key : Nat) (s : State) : Host.Outcome State Fault Refusal :=
  .next (match s.cmd key with
    | none => s
    | some c =>
      if !c.io ∨ c.opcode ≠ 0 ∨ c.stage ≠ .admitted then s
      else if c.nsid = 0xFFFFFFFF then s.finish key (if c.field 1 1 % 4 ≠ 0 then 0x002 else 0)
      else
        let s1 := s.ioStart key c
        match s1.cmd key with
        | some d => if d.stage = .held then s1.finish key 0 else s1
        | none => s1)

end Sys2Proof.Machine
end

