-- ==== Sys2Proof/Machine/Tick.lean ====
section
/-!
DEFINITION. Machine/Tick.lean: TCK's alignment to the witness reference (chapter 01, R40 to R46), the rotation
of virtual controllers (R34 to R36), engine cuts (R25) and the release of PORST_N (R23).
-/

namespace Sys2Proof.Machine

/-- The reference of a link is valid (R41). -/
def Tck.refValid (t : Tck) (link : Nat) : Bool := if link = 0 then t.refValid0 else t.refValid1

/-- The validity of a link's reference set. -/
def Tck.setRef (t : Tck) (link : Nat) (v : Bool) : Tck :=
  if link = 0 then { t with refValid0 := v } else { t with refValid1 := v }

/-- SRC selects the link, or is auto (R40, R44). -/
def State.selectable (s : State) (link : Nat) : Bool :=
  s.fld F.TCK.REF_CTL.SRC == link || s.fld F.TCK.REF_CTL.SRC == 2

/-- Half a step of phase error: ±50 ns in units of 0.25 ns (R43). -/
def within50 (err : Int) : Bool := decide (err.natAbs ≤ 200)

/-- The greatest trim in parts per billion: one engine cycle of 0.5 ns in a tick (R42). -/
def State.maxTrim (s : State) : Int := 500000000 / (s.tickNs : Int)

/-- A trim limited to one engine cycle a tick (R42). -/
def State.clampTrim (s : State) (x : Int) : Int := max (-s.maxTrim) (min x s.maxTrim)

/-- The modes in which the phase is corrected by a step (R42). -/
def Mode.stepsPhase (m : Mode) : Bool := m == .reset || m == .structureLoad || m == .selfTest

/-- The role in peer alignment (R45): 0 none, 1 leader, 2 follower. A peer that reports another tick length is not aligned to
(R46). -/
def State.alignRole (s : State) : Nat :=
  if s.tck.align = .acquire ∨ s.tck.align = .locked ∨ s.rfl.link ≠ .up then 0
  else match s.rfl.mark with
    | some m =>
      if m.tickLen ≠ s.fld F.TCK.CONFIG.TICK_LEN then 0
      else if m.align = 1 ∨ m.align = 2 then 2 else if s.tck.headSlot = 0 then 1 else 2
    | none => 0

/-- A correction of phase at a boundary (R42): the whole error by one step, once, in the modes that step; a slew of at most
one engine cycle a tick otherwise, and after the step (DEDUCED, assumption 51). -/
def State.correctPhase (s : State) (t : Tck) (err trim : Int) : Tck :=
  if s.lcs.mode.stepsPhase && !t.stepped then { t with stepped := true, step := -err }
  else { t with step := 0, trim := s.clampTrim trim }

/-- The correction toward the peer, in FREE and HOLDOVER (R45): a follower corrects until its boundaries lie within 100 ns of
the peer's; a leader, and a head without a role, makes none. -/
def State.followPeer (s : State) (t : Tck) (trim : Int) : Tck :=
  if s.alignRole = 2 ∧ 100 < s.tck.peerOffset.natAbs then s.correctPhase t (4 * s.tck.peerOffset) trim else { t with step := 0 }

/-- TCK at a boundary (R42, R43, R45): the phase error and its correction, the run of good boundaries, and the loss of
lock. -/
def State.alignBoundary (s : State) (x : BoundarySample) : State :=
  let t := s.tck
  match t.align with
  | .free => { s with tck := s.followPeer { t with phaseErr := 0, goodRun := 0 } x.trim }
  | .holdover => { s with tck := s.followPeer { t with phaseErr := x.phaseErr, goodRun := 0 } x.trim }
  | .acquire =>
    { s with tck := s.correctPhase { t with
        phaseErr := x.phaseErr, goodRun := if within50 x.phaseErr then t.goodRun + 1 else 0 } x.phaseErr x.trim }
  | .locked =>
    let u := s.correctPhase { t with phaseErr := x.phaseErr } x.phaseErr x.trim
    if within50 x.phaseErr || !t.refValid t.refLink then { s with tck := u }
    else { s with tck := { u with align := .acquire, goodRun := 0 } }.event Src.TCK 1

/-- A write of SRC (R43, R44). A write of auto selects link 0, whichever link was selected and whichever references are valid:
the spec says only that auto prefers link 0 (DESIGN CHOICE, assumption 52). -/
def State.srcWritten (s : State) : State :=
  match s.fld F.TCK.REF_CTL.SRC with
  | 3 => { s with tck := { s.tck with align := .free, trim := 0, goodRun := 0 } }
  | src =>
    let link := if src = 1 then 1 else 0
    { s with tck := { s.tck with
        refLink := link, goodRun := 0, stepped := false, align := if s.tck.refValid link then .acquire else .free } }

/-- REF_VALID (R41, R43): the reference of a link becomes valid. -/
def execRefValid (link : Nat) (s : State) : Host.Outcome State Fault Refusal :=
  .next (if link ≥ 2 then s else
    let t := { s.tck with
      refValid0 := s.tck.refValid0 || (link == 0), refValid1 := s.tck.refValid1 || (link == 1) }
    match t.align with
    | .free =>
      if s.selectable link && t.refLink == link then
        { s with tck := { t with align := .acquire, goodRun := 0, stepped := false } }
      else { s with tck := t }
    | .holdover =>
      if s.selectable link then { s with tck := { t with align := .acquire, refLink := link, goodRun := 0 } }
      else { s with tck := t }
    | _ => { s with tck := t })

/-- REF_MISSING (R41, R43, R44): the reference of a link goes missing. -/
def execRefMissing (link : Nat) (s : State) : Host.Outcome State Fault Refusal :=
  .next (if link ≥ 2 then s else
    let s1 := { s with tck := s.tck.setRef link false }
    if s1.tck.refLink ≠ link then s1
    else
      let other := 1 - link
      let switch := s1.fld F.TCK.REF_CTL.SRC == 2 && s1.tck.refValid other
      match s1.tck.align with
      | .locked =>
        if switch then
          { s1 with tck := { s1.tck with align := .acquire, refLink := other, goodRun := 0 } }.event Src.TCK 3 other
        else { s1 with tck := { s1.tck with align := .holdover, holdSince := s1.tck.tick } }.event Src.TCK 2 link
      | .acquire =>
        if switch then
          { s1 with tck := { s1.tck with align := .acquire, refLink := other, goodRun := 0 } }.event Src.TCK 3 other
        else { s1 with tck := { s1.tck with align := .free, goodRun := 0 } }.event Src.TCK 2 link
      | _ => s1)

/-- LOCK_GAINED (R43): 16 consecutive boundaries within ±50 ns. -/
def execLockGained (s : State) : Host.Outcome State Fault Refusal :=
  .next (if s.tck.align = .acquire ∧ s.tck.goodRun ≥ 16 then
    { s with tck := { s.tck with align := .locked } }.event Src.TCK 0 else s)

/-- HOLDOVER_END (R43): 500 ms in HOLDOVER. -/
def execHoldoverEnd (s : State) : Host.Outcome State Fault Refusal :=
  .next (if s.tck.align = .holdover ∧ s.tck.tick ≥ s.tck.holdSince + s.ticksIn 500000 then
    { s with tck := { s.tck with align := .free, goodRun := 0 } }.event Src.TCK 4 else s)

/-- PORST_RELEASE (R23, R572): PORST_N is released with the reference clocks stable: the strap is sampled and ticks
run from the next boundary. -/
def execPorstRelease (hslot : Nat) (s : State) : Host.Outcome State Fault Refusal :=
  .next (if s.tck.ticking then s else { s with
      tck := { s.tck with ticking := true, headSlot := hslot % 2 },
      ftl := { s.ftl with side := hslot % 2 } })

/-- The first virtual controller of a tick (R34 to R36): the next enabled index after the one that last held F,
wrapping; the lowest when none has since the reset. -/
def nextFirst (enabled : List Nat) (last : Option Nat) : Option Nat :=
  match last with
  | none => enabled.head?
  | some f =>
    match enabled.find? (fun v => f < v) with
    | some v => some v
    | none => enabled.head?

/-- The order in which a tick takes the enabled virtual controllers, from F (R34). -/
def rotation (enabled : List Nat) (first : Option Nat) : List Nat :=
  match first with
  | none => enabled
  | some f => enabled.filter (fun v => f ≤ v) ++ enabled.filter (fun v => v < f)

end Sys2Proof.Machine
end

