-- ==== Sys2Proof/Machine/Admission.lean ====
section
/-!
DEFINITION. Machine/Admission.lean: the admission of capsules (R34, R35, R287, R288, R359), the posting of completions
(R65, R76, R294), the activation hold (R304), namespace commands (R276, R277) and the limit of a volume set's change
(R312).
-/

namespace Sys2Proof.Machine

/-! What an admitted command takes with it. -/

/-- The flash tables of a side, while the head holds it. -/
def State.tablesOf (s : State) (side : Nat) : Option FtlTables :=
  if s.ftl.side = side then some s.ftl.tables
  else (s.other.bind (fun o => if o.1.side = side then some o.1.tables else none))

/-- A namespace that exists; one bound to a snapshot exists while the snapshot does (R277, R278). Whether a snapshot of a
side the head does not hold exists is left to the head that holds it. -/
def State.liveNs (s : State) (nsid : Nat) : Option Ns :=
  match Tab.find s.cmf.ns nsid with
  | none => none
  | some n =>
    if n.src = 0 then some n
    else match s.tablesOf (s.vsetSide n.vset) with
      | some t => if n.snapMe ∈ (t.epoch n.src).snaps then some n else none
      | none => some n

/-- The map epoch a write admitted now carries (R164). -/
def State.epochNow (s : State) (nsid : Nat) (n : Option Ns) : Nat :=
  match n.bind (fun n => s.tablesOf (s.vsetSide n.vset)) with
  | some t => (t.epoch nsid).me
  | none => 0

/-! Capsules. -/

/-- A field of n bytes of a capsule's submission entry. -/
def Capsule.field (c : Capsule) (off n : Nat) : Nat := leNat ((c.bytes.drop off).take n)

def Capsule.fabrics (c : Capsule) : Bool := c.field 0 1 == 0x7F
def Capsule.isConnect (c : Capsule) : Bool := c.fabrics && c.field 4 1 == 1

/-- The live queue of a connection: its identifier, and the queue. -/
def State.queueOn (s : State) (conn : Nat) : Option (Nat × Queue) :=
  (s.cmf.queues.find? (fun p => p.2.live && p.2.conn == conn)).map (fun p => (p.1 % 2048, p.2))

/-- The capsule is taken at rank 9: an admin queue's, or a Fabrics command's. -/
def State.isRank9 (s : State) (conn : Nat) (c : Capsule) : Bool := c.fabrics || (s.queueOn conn).any (fun q => q.1 == 0)

/-- The command a capsule holds, as it is admitted now (R288, R360). -/
def State.capsuleCmd (s : State) (conn vc : Nat) (cap : Capsule) : Cmd :=
  let q := s.queueOn conn
  let qid := if cap.isConnect then cap.field 42 2 else (q.map Prod.fst).getD 0
  let v := s.vc vc
  let nsid := cap.field 4 4
  let ns := if cap.fabrics || !(v.any (fun x => x.attached nsid)) then none else s.liveNs nsid
  { vc := vc, vgen := (v.map Vc.vgen).getD 0, qid := qid, qgen := (q.map (fun p => p.2.qgen)).getD 0, conn := conn,
    sqe := cap.bytes.take 64, icd := cap.bytes.drop 64, ns := ns, tick := s.now, pos := s.cmf.taken,
    host := ((v.bind Vc.assoc).map Assoc.host).getD 0, fromPeer := none, toPeer := none, stage := .admitted, status := 0,
    dw0 := 0, data := [], first := 0, count := 0, ranges := [], reads := [], resolved := false, items := [],
    recorded := false, me := s.epochNow nsid ns, ends := false }

/-- The status of a command whose opcode is not supported (R282, R283): 0 when it is. Properties are those of the admin
queue. -/
def Cmd.opcodeStatus (c : Cmd) : Nat :=
  let ok :=
    if c.opcode = 0x7F then
      if c.qid = 0 then [0, 1, 4, 8].contains c.fctype else [1, 8].contains c.fctype
    else if c.qid = 0 then [0x02, 0x06, 0x08, 0x09, 0x0A, 0x0C, 0x18].contains c.opcode
    else [0x00, 0x01, 0x02, 0x05, 0x08, 0x09, 0x0D, 0x0E, 0x11, 0x15].contains c.opcode
  if ok then 0 else 0x001

/-- The instances of CMF.STAT that count an admitted command. -/
def Cmd.countedIn (c : Cmd) : List Nat :=
  0 :: (if !c.io then [7]
    else match c.opcode with
      | 0x02 => [1]
      | 0x01 => [2]
      | 0x08 => [3]
      | 0x09 => [4]
      | 0x05 => [5]
      | 0x00 => [6]
      | _ => [])

/-- A command enters the table, and no more. -/
def State.insertCmd (s : State) (c : Cmd) : State :=
  { s with cmf := { s.cmf with cmds := Tab.insert s.cmf.cmds s.cmf.nextCmd c, nextCmd := s.cmf.nextCmd + 1 } }

/-- A command is admitted: counted, with its order key (R287, R288); an unsupported opcode ends it. -/
def State.admitCmd (s : State) (c : Cmd) : State :=
  let key := s.cmf.nextCmd
  let s1 := c.countedIn.foldl (fun (t : State) n => t.count F.CMF.STAT.COUNT n) (s.insertCmd c)
  let s2 : State := { s1 with cmf := { s1.cmf with taken := s1.cmf.taken + 1 } }
  if c.opcodeStatus = 0 then s2 else s2.finish key c.opcodeStatus

/-- The submission queue head moves past an entry (R280). -/
def State.consumeEntry (s : State) (vc conn : Nat) : State :=
  match s.queueOn conn with
  | none => s
  | some (q, _) => { s with cmf := { s.cmf with queues := Tab.modify s.cmf.queues (queueKey vc q) (fun x => { x with
      sqhd := (x.sqhd + 1) % (x.sqsize + 1) }) } }

/-- Bytes a write needs of the moss tier, as R184 limits them: the data of a Write, the partial granules of a Write
Zeroes. -/
def Cmd.mossBytes (c : Cmd) (n : Ns) : Nat :=
  if !c.isWrite then 0
  else if c.opcode = 1 then c.required n.block
  else if c.opcode = 8 then
    let (a, b) := (c.slba * n.block, (c.slba + c.nlb) * n.block)
    ((if a % 4096 = 0 then 0 else 1) + (if b % 4096 = 0 then 0 else 1)) * 4096
  else 0

/-- The bytes an I/O command is charged with (R359). -/
def Cmd.chargedBytes (c : Cmd) : Nat := c.required ((c.ns.map Ns.block).getD 4096)

/-! Credits (R359). -/

/-- The depth of the command credit, and of the byte credit. -/
def Vc.cmdDepth (v : Vc) : Nat := max 1024 (v.cmdRate * v.burst)
def Vc.byteDepth (v : Vc) : Nat := v.byteRate * v.burst

/-- One top-up of both credits. -/
def Vc.topUp (v : Vc) : Vc := { v with
  c := if v.cmdRate > 0 then min (v.c + v.cmdRate) v.cmdDepth else v.c,
  y := if v.byteRate > 0 then min (v.y + v.byteRate) v.byteDepth else v.y }

/-- The share of a virtual controller allows another command. -/
def Vc.mayTake (v : Vc) : Bool := (v.cmdRate == 0 || decide (v.c ≥ 1024)) && (v.byteRate == 0 || decide (v.y > 0))

/-- An admitted I/O command is charged. -/
def Vc.charge (v : Vc) (bytes : Nat) : Vc := { v with
  c := if v.cmdRate > 0 then v.c - 1024 else v.c,
  y := if v.byteRate > 0 then v.y - bytes else v.y }

/-- The credits of every virtual controller are topped up before rank 9. -/
def State.topUpCredits (s : State) : State :=
  { s with vct := { s.vct with vcs := s.vct.vcs.map (fun p => (p.1, if p.2.state = .free then p.2 else p.2.topUp)) } }

/-! Admission (R34, R35, R287). -/

/-- Admission in progress: the rank, the moss bytes left (none: no limit), whether admission has stopped for the tick or
for the virtual controller, whether the moss limit stopped it, and whether a share was spent. -/
structure Admit where
  s : State
  rank : Nat
  room : Option Nat
  stop : Bool
  vcStop : Bool
  moss : Bool
  spent : Bool

/-- The virtual controller's state holds the capsule back (R300, R304, R353, R358, R365): a Connect is answered unless
the controller is moving; QUIESCING admits Keep Alive alone. -/
def State.holdsBack (s : State) (vc : Nat) (c : Cmd) : Bool :=
  let keepAlive := c.qid == 0 && c.opcode == 0x18
  let held := match s.cmf.hold with
    | some _ => !(c.opcode == 0x7F || keepAlive)
    | none => false
  held || (match s.vc vc with
    | none => false
    | some v =>
      match v.state with
      | .quiescing => !keepAlive
      | .sealed => true
      | .loaded => true
      | .draining => !c.isConnect
      | _ => v.resetting && !c.isConnect)

/-- A command of the same queue with the same CID is in flight (R287). -/
def State.cidInUse (s : State) (c : Cmd) : Bool :=
  s.cmf.cmds.any (fun p => p.2.fromPeer.isNone && p.2.vc == c.vc && p.2.conn == c.conn && p.2.qid == c.qid && p.2.qgen == c.qgen &&
    p.2.cid == c.cid)

/-- One capsule is tried; true when it has left its queue. -/
def Admit.capsule (a : Admit) (vc conn : Nat) (cap : Capsule) : Admit × Bool :=
  let s := a.s
  let c := s.capsuleCmd conn vc cap
  if (s.queueOn conn).isNone ∧ !cap.isConnect then (a, true)
  else if s.holdsBack vc c then (a, false)
  else if s.cidInUse c then
    let s1 := (s.insertCmd c).finish s.cmf.nextCmd 0x003
    ({ a with s := s1.consumeEntry vc conn }, true)
  else if s.cmf.taken ≥ s.fld F.CMF.ADMIT_CTL.PER_TICK ∨ s.cmf.cmds.length ≥ 2 ^ s.fld F.CMF.CONFIG.CTAB_LOG2 then
    ({ a with stop := true }, false)
  else if c.io ∧ !((s.vc vc).all Vc.mayTake) then
    ({ a with vcStop := true, spent := true }, false)
  else
    let need := (c.ns.map c.mossBytes).getD 0
    if need ≠ 0 ∧ (a.room.any (fun r => decide (need > r))) then ({ a with stop := true, moss := true }, false)
    else
      let s1 := (s.admitCmd c).consumeEntry vc conn
      let s2 := if c.io then s1.modifyVc vc (fun v => v.charge c.chargedBytes) else s1
      let s3 := if c.qid = 0 ∧ !c.isConnect then s2.modifyAssoc vc (fun x => { x with kaTicks := 0 }) else s2
      ({ a with s := s3, room := a.room.map (fun r => r - need) }, true)

/-- The capsules of a connection, in submission order, up to the first that is not taken at the rank. -/
def Admit.queue (a : Admit) (vc conn : Nat) : List Capsule → Admit × List Capsule
  | [] => (a, [])
  | c :: cs =>
    if a.stop || a.vcStop || (a.s.isRank9 conn c != (a.rank == 9)) then (a, c :: cs)
    else match a.capsule vc conn c with
      | (b, true) => b.queue vc conn cs
      | (b, false) => (b, c :: cs)

/-- A connection's turn. -/
def Admit.conn (a : Admit) (vc conn : Nat) : Admit :=
  if a.stop || a.vcStop then a
  else match Tab.find a.s.cmf.caps conn with
    | none => a
    | some l =>
      let (b, rest) := a.queue vc conn l
      let caps := if rest = [] then Tab.erase b.s.cmf.caps conn else Tab.insert b.s.cmf.caps conn rest
      { b with s := { b.s with cmf := { b.s.cmf with caps := caps } } }

/-- The connections of a virtual controller that hold capsules: by ascending queue, then those without a queue by
ascending connection. -/
def State.capConns (s : State) (vc : Nat) : List Nat :=
  let mine := (Tab.keys s.cmf.caps).filter (fun n => (s.conn n).any (fun k => k.isNvme && k.vcOf == vc))
  let queued := s.cmf.queues.filterMap (fun p => if p.1 / 2048 = vc ∧ p.2.live ∧ p.2.conn ∈ mine then some p.2.conn else none)
  queued ++ mine.filter (fun n => n ∉ queued)

/-- A virtual controller's turn at a rank. -/
def Admit.vc (a : Admit) (vc : Nat) : Admit :=
  (a.s.capConns vc).foldl (fun (b : Admit) n => b.conn vc n) { a with vcStop := false }

/-- The virtual controllers enabled in the rotation: those not FREE (R34). -/
def State.enabledVcs (s : State) : List Nat := (s.vct.vcs.filter (fun p => p.2.state ≠ .free)).map Prod.fst

/-- FREE virtual controllers that capsules name, ascending (R34). -/
def State.freeVcs (s : State) : List Nat :=
  let named := (Tab.keys s.cmf.caps).filterMap (fun n => (s.conn n).bind (fun k => if k.isNvme then some k.vcOf else none))
  let free := named.filter (fun v => v ∉ s.enabledVcs)
  Tab.keys (free.foldl (fun (m : Tab Unit) v => Tab.insert m v ()) [])

/-- F(T) moves on, at every tick (R34 to R36). -/
def State.advanceFirst (s : State) : State :=
  let f := nextFirst s.enabledVcs s.tck.lastFirst
  { s with tck := { s.tck with lastFirst := if f.isSome then f else s.tck.lastFirst, firstValid := f.isSome } }

/-- The virtual controllers in the order of the tick. -/
def State.vcOrder (s : State) : List Nat :=
  rotation s.enabledVcs (if s.tck.firstValid then s.tck.lastFirst else none) ++ s.freeVcs

/-- A forwarded command is admitted (R393, R394): one whose data does not match what it requires ends with Data Transfer
Error. -/
def State.admitForwarded (s : State) (f : Forwarded) : State :=
  let nsid := leNat ((f.sqe.drop 4).take 4)
  let ns := s.liveNs nsid
  let c : Cmd := {
    vc := f.vc, vgen := 0, qid := f.qid, qgen := 0, conn := 0, sqe := f.sqe, icd := [], ns := ns, tick := s.now,
    pos := s.cmf.taken, host := f.host, fromPeer := some f.tag, toPeer := none, stage := .admitted, status := 0, dw0 := 0,
    data := f.data, first := 0, count := 0, ranges := [], reads := [], resolved := false, items := [], recorded := false,
    me := s.epochNow nsid ns, ends := false }
  let key := s.cmf.nextCmd
  let need := if c.toDevice then c.chargedBytes else 0
  let s1 := (s.admitCmd c).count F.CMF.STAT.COUNT 13
  if !f.good ∨ f.dataLen ≠ need ∨ f.data.length ≠ need then s1.finish key 0x004 else s1

/-- Forwarded commands are taken ahead of the head's own, at most n of them (R393). -/
def Admit.forwarded : Nat → Admit → Admit
  | 0, a => a
  | n + 1, a =>
    match a.s.cmf.arrived with
    | [] => a
    | f :: rest =>
      let s := a.s
      if s.cmf.taken ≥ s.fld F.CMF.ADMIT_CTL.PER_TICK ∨ s.cmf.cmds.length ≥ 2 ^ s.fld F.CMF.CONFIG.CTAB_LOG2 then
        { a with stop := true }
      else
        let key := s.cmf.nextCmd
        let s1 := ({ s with cmf := { s.cmf with arrived := rest } } : State).admitForwarded f
        let need := match s1.cmd key with
          | some c => if c.stage = .admitted then (c.ns.map c.mossBytes).getD 0 else 0
          | none => 0
        if need ≠ 0 ∧ a.room.any (fun r => decide (need > r)) then { a with stop := true, moss := true }
        else Admit.forwarded n { a with s := s1, room := a.room.map (fun r => r - need) }

/-- A mode in which capsules are admitted (R288). -/
def Mode.admits (m : Mode) : Bool := m.serving || m == .join || m == .eclipse

/-- The ticks for which the moss limit has held the write capsules it reached or left (R287). -/
def State.markHeld (s : State) (moss : Bool) : State :=
  let mark (c : Capsule) : Capsule := { c with heldSince :=
    if moss && (c.field 0 1 == 1 || c.field 0 1 == 8) then some (c.heldSince.getD s.now) else none }
  { s with cmf := { s.cmf with caps := s.cmf.caps.map (fun p => (p.1,
      if (s.queueOn p.1).any (fun q => q.1 != 0) then p.2.map mark else p.2)) } }

/-- ADMISSION (R34, R35, R287, R304, R359): ranks 9 and 10 take the capsules of the tick. -/
def State.admission (s : State) : State :=
  let s0 := s.advanceFirst
  if !s0.lcs.mode.admits then s0
  else
    let room := if s0.fld F.FTL.STATUS.MOSS_STATE = 2 then some (s0.mossFreed / 2) else none
    let a9 : Admit := {
      s := s0.topUpCredits, rank := 9, room := room, stop := false, vcStop := false, moss := false, spent := false }
    let b9 := s0.vcOrder.foldl Admit.vc a9
    let a10 : Admit := { b9 with rank := 10, vcStop := false }
    let f10 := if a10.stop || a10.s.cmf.hold.isSome then a10
      else Admit.forwarded (s0.fld F.RFL.FWD_CTL.PER_TICK) a10
    let b10 := if f10.s.cmf.hold.isSome then f10 else s0.vcOrder.foldl Admit.vc f10
    let s00 := b10.s.markHeld b10.moss
    let s1 := if b10.spent then s00.count F.VCT.STAT.COUNT 7 else s00
    s1.count F.CMF.STAT.COUNT 15 (s1.cmf.caps.foldl (fun n p => n + p.2.length) 0)

/-- CAPACITY_EXCEEDED (R287): a write capsule that the moss limit has held for longer than WAIT_MAX, while fold is
stopped, ends with Capacity Exceeded and is not admitted. -/
def execCapacityExceeded (conn : Nat) (s : State) : Host.Outcome State Fault Refusal :=
  .next (
    let late (c : Capsule) : Bool :=
      c.heldSince.any (fun t => decide (s.now > t + s.fld F.CMF.ADMIT_CTL.WAIT_MAX)) && s.flag F.FTL.STATUS.FOLD_STOPPED
    match Tab.find s.cmf.caps conn, s.conn conn with
    | some l, some k =>
      match l.find? late with
      | none => s
      | some cap =>
        let rest := l.erase cap
        let s1 := (s.insertCmd (s.capsuleCmd conn k.vcOf cap)).finish s.cmf.nextCmd 0x081
        let caps := if rest = [] then Tab.erase s1.cmf.caps conn else Tab.insert s1.cmf.caps conn rest
        (({ s1 with cmf := { s1.cmf with caps := caps } } : State).consumeEntry k.vcOf conn).event Src.CMF 4 k.vcOf
    | _, _ => s)

/-! Posting (step 3; R65, R76, R289, R294). -/

/-- A chunk of a write is durable: both copies verified, or of the chunk it hit. -/
def State.chunkDone (s : State) (j : ChunkJob) : Bool :=
  match j.stage with
  | .placed => j.ok0 && j.ok1
  | .hit => s.chunkVerified j.addr
  | .pendingHit => s.chunkVerified j.addr
  | .zero => true
  | _ => false

/-- The records of a command that stand, on either side. -/
def State.recordsOf (s : State) (key : Nat) : List JRec :=
  (s.ftl.journal ++ ((s.other.map (fun o => o.1.journal)).getD [])).filter (fun r => r.cmd = some key ∧ !r.superseded)

/-- The conditions of R65 and R290 hold for a command that writes; a head that does not hold the side posts no completion of
a write (R69, R405, R409). -/
def State.writeDone (s : State) (key : Nat) (c : Cmd) : Bool :=
  c.stage == .writing && s.wit.own.testBit (s.sideOf c) && c.recorded && (s.jobsOf key).all (fun j => s.chunkDone j.2) &&
    (s.recordsOf key).all (fun r => r.durable && r.handed) && !(c.isWrite && s.writeWaits key c)

/-- A small read: a Read or Compare of at most 4 granules (R420). -/
def Cmd.smallRead (c : Cmd) : Bool := c.isRead && decide (c.count ≤ 4)

/-- The latency of a posted small read joins the accumulators of R420. -/
def State.noteLatency (s : State) (c : Cmd) : State :=
  if c.smallRead then
    { s with pcr := { s.pcr with latSum := s.pcr.latSum + (s.now - c.tick), latCount := s.pcr.latCount + 1 } }
  else s

/-- What follows the transmission of a completion: the end of a queue or a controller reset (assumption 26). -/
def State.afterCompletion (s : State) (c : Cmd) : State :=
  if !c.ends ∨ !s.stampsHold c then s
  else if c.fctype = 8 then s.endQueue c.vc c.qid
  else s.controllerReset c.vc

/-- A completion is posted: that of a write changes what reads see, and its own row transmits it, as for a Read; any other
is transmitted at once (R294). -/
def State.postOne (s : State) (key : Nat) : State :=
  match s.cmd key with
  | none => s
  | some c =>
    if s.writeDone key c then
      let s1 : State := { s with rdx := { s.rdx with chunks := s.rdx.chunks.filter (fun p => p.2.cmd ≠ some key) } }
      let s2 := s1.modifyCmd key (fun c => { c with stage := .posted, status := 0 })
      if c.isWrite ∧ c.fromPeer.isNone then s2 else s2.transmitResponse key
    else if c.stage = .finished ∧ s.dataGone key c then
      let s1 := s.noteLatency c
      let s2 := s1.modifyCmd key (fun c => { c with stage := .posted })
      if c.io ∧ c.opcode = 2 ∧ c.status = 0 ∧ c.fromPeer.isNone then s2
      else (s2.transmitResponse key).afterCompletion c
    else if c.stage = .transmitted ∧ s.connLost c.conn then s.endCmd key
    else s

/-- A write one of whose copies is unplaceable fails with Write Fault (R68). -/
def State.failUnplaceable (s : State) : State :=
  let keys := (s.rdx.chunks.filterMap (fun p => if p.2.stage = .failed then p.2.cmd else none)).dedup
  keys.foldl (fun (t : State) k => t.failWrite k 0x280) s

/-- Step 3 posts every completion whose conditions are met, in the order of the order keys. -/
def State.postCompletions (s : State) : State :=
  let s1 := s.failUnplaceable
  (Tab.keys s1.cmf.cmds).foldl State.postOne s1

/-! The activation hold (R304). -/

/-- An admitted command is in flight on the head, forwarded ones included. -/
def State.anyInFlight (s : State) : Bool := s.cmf.cmds.any (fun p => !p.2.waitsEvent)

/-- A hold lasts 1 ms at most. -/
def State.holdLimit (s : State) : Nat := s.ticksIn 1000

/-- The hold ends with a result: 0 released, 1 TIMEOUT, 2 ended by the limit. -/
def State.endHold (s : State) (h : Hold) (result : Nat) : State :=
  let s1 : State := { s with cmf := { s.cmf with hold := none } }
  let s2 := ((s1.put F.CMF.ACT_STATUS.HOLD 0).put F.CMF.ACT_STATUS.RESULT result).put F.CMF.ACT_STATUS.HOLD_TICKS
    (min (s.now - h.since) 65535)
  if result = 1 then (s2.event Src.CMF 2).holdLost else s2

/-- Step 3 of a boundary: a hold released, or quiesced and at its limit, ends; a START begins one. -/
def State.holdBoundary (s : State) : State :=
  let s1 := match s.cmf.hold with
    | none => s
    | some h =>
      if h.release then s.endHold h (if h.quiesced then 0 else 1)
      else if h.quiesced ∧ s.now ≥ h.since + s.holdLimit then s.endHold h 2 else s
  if s1.cmf.actStart ∧ s1.cmf.hold.isNone then
    let s2 : State := { s1 with cmf := { s1.cmf with actStart := false, hold := some ⟨s1.now, false, false⟩ } }
    (s2.put F.CMF.ACT_STATUS.HOLD 1).put F.CMF.ACT_STATUS.QUIESCED 0
  else s1

/-- ACT_QUIESCED (R304): no admitted command is in flight during a hold. -/
def execActQuiesced (s : State) : Host.Outcome State Fault Refusal :=
  .next (match s.cmf.hold with
    | none => s
    | some h =>
      if h.quiesced ∨ s.anyInFlight then s
      else
        let s1 : State := { s with cmf := { s.cmf with hold := some { h with quiesced := true } } }
        (s1.put F.CMF.ACT_STATUS.QUIESCED 1).event Src.CMF 1)

/-- ACT_TIMEOUT (R304): the limit of 1 ms has passed and the hold is not quiesced: it ends, and nothing waiting for it
takes effect. -/
def execActTimeout (s : State) : Host.Outcome State Fault Refusal :=
  .next (match s.cmf.hold with
    | none => s
    | some h => if h.quiesced ∨ s.now < h.since + s.holdLimit then s else s.endHold h 1)

/-! Namespace commands (R276, R277). -/

/-- The entry the NS_DATA registers describe. -/
def State.nsFromRegs (s : State) : Ns :=
  let src := s.fld F.CMF.NS_DATA1.SRC_NSID
  { nsze := (s.reg F.CMF.NS_DATA0.NSZE.addr).toNat, small := s.flag F.CMF.NS_DATA2.LBAF, vset := s.fld F.CMF.NS_DATA2.VSET,
    keySlot := s.fld F.CMF.NS_DATA2.KEY_SLOT, src := src, snapMe := s.fld F.CMF.NS_DATA1.SNAP_ME,
    wp := s.flag F.CMF.NS_DATA2.WP || src != 0 }

/-- A size is a whole number of granules from 1 to 2^48 blocks. -/
def Ns.sizeOk (n : Ns) : Bool := n.nsze != 0 && n.nsze * n.block % 4096 == 0 && decide (n.nsze ≤ 2 ^ 48)

/-- NS READ. -/
def State.nsRead (s : State) (nsid : Nat) : State :=
  match Tab.find s.cmf.ns nsid with
  | none => (s.put F.CMF.NS_DATA2.VALID 0).put F.CMF.NS_STATUS.RESULT 2
  | some n =>
    let s1 := (s.put F.CMF.NS_DATA0.NSZE n.nsze).setReg F.CMF.NS_DATA1.SRC_NSID.addr (BitVec.ofNat 64 (n.src * 2 ^ 32 + n.snapMe))
    let d2 := 2 ^ 27 + (s.rsvOf nsid).ptpl.toNat * 2 ^ 26 + n.wp.toNat * 2 ^ 25 + n.small.toNat * 2 ^ 24 + n.vset * 2 ^ 16 + n.keySlot
    (s1.setReg F.CMF.NS_DATA2.VALID.addr (BitVec.ofNat 64 d2)).put F.CMF.NS_STATUS.RESULT 0

/-- NS WRITE: an entry is created, or its size, key slot, write protection or reservation persistence changed. -/
def State.nsWrite (s : State) (nsid : Nat) : State :=
  let n := s.nsFromRegs
  let ptpl := s.flag F.CMF.NS_DATA2.PTPL
  let bad := s.put F.CMF.NS_STATUS.RESULT 1
  if !n.sizeOk ∨ (n.src = 0 ∧ n.snapMe ≠ 0) then bad
  else match Tab.find s.cmf.ns nsid with
    | some o =>
      if o.small ≠ n.small ∨ o.vset ≠ n.vset ∨ o.src ≠ n.src ∨ o.snapMe ≠ n.snapMe ∨ n.nsze < o.nsze then bad
      else
        let s1 : State := { s with cmf := { s.cmf with ns := Tab.insert s.cmf.ns nsid n } }
        let s2 := if (s.rsvOf nsid).ptpl = ptpl then s1 else if s.ownsNs n then s1.setPtpl nsid ptpl none
          else { s1 with cmf := { s1.cmf with rsv := Tab.insert s1.cmf.rsv nsid { s1.rsvOf nsid with ptpl := ptpl } } }
        s2.put F.CMF.NS_STATUS.RESULT 0
    | none =>
      let s1 : State := { s with cmf := { s.cmf with ns := Tab.insert s.cmf.ns nsid n } }
      let s2 := if n.src = 0 then s1.onSide (s.vsetSide n.vset) (fun (t : State) =>
          if (Tab.find t.ftl.tables.epochs nsid).isSome then t
          else t.setTables { t.ftl.tables with epochs := Tab.insert t.ftl.tables.epochs nsid ⟨1, []⟩ }) else s1
      let s3 := if !ptpl then s2 else if s.ownsNs n then s2.setPtpl nsid ptpl none
        else { s2 with cmf := { s2.cmf with rsv := Tab.insert s2.cmf.rsv nsid { s2.rsvOf nsid with ptpl := ptpl } } }
      s3.put F.CMF.NS_STATUS.RESULT 0

/-- NS DELETE: the namespace is gone for commands admitted from now on, and its map is swept (R167, R277). -/
def State.nsDelete (s : State) (nsid : Nat) : State :=
  match Tab.find s.cmf.ns nsid with
  | none => s.put F.CMF.NS_STATUS.RESULT 2
  | some n =>
    if s.cmf.ns.any (fun p => p.2.src == nsid) then s.put F.CMF.NS_STATUS.RESULT 3
    else
      let s1 : State := { s with cmf := { s.cmf with ns := Tab.erase s.cmf.ns nsid, rsv := Tab.erase s.cmf.rsv nsid } }
      let w : SnapSweep := { nsid := nsid, me := 0, wholeNs := true }
      let s2 := if n.src = 0 then s1.onSide (s.vsetSide n.vset) (fun (t : State) =>
          { t with ftl := { t.ftl with sweeps := t.ftl.sweeps ++ [w] } }) else s1
      s2.put F.CMF.NS_STATUS.RESULT 0

/-- The namespace command executes in step 3 of the boundary after its write (R277). -/
def State.runNsCommand (s : State) : State :=
  match s.cmf.nsCmd with
  | none => s
  | some op =>
    let nsid := s.fld F.CMF.NS_SEL.NSID
    let s0 := ({ s with cmf := { s.cmf with nsCmd := none } } : State).put F.CMF.NS_STATUS.BUSY 0
    let s1 := match op with
      | 1 => s0.nsRead nsid
      | 2 => s0.nsWrite nsid
      | _ => s0.nsDelete nsid
    s1.event Src.CMF 0 nsid

/-! A volume set's change (R312). -/

/-- ANATT_EXCEEDED (R312, R595): a set that would stay in Change beyond ANATT is presented as Inaccessible. -/
def execAnattExceeded (vset : Nat) (s : State) : Host.Outcome State Fault Refusal :=
  .next (match Tab.find s.cmf.ana vset with
    | none => s
    | some a =>
      let limit := s.fld F.CMF.CONFIG.ANATT
      if a.state = 15 ∧ !a.late ∧ s.now > a.since + s.ticksIn (limit * 1000000) then
        let s1 : State := { s with cmf := { s.cmf with ana := Tab.insert s.cmf.ana vset { a with late := true } } }
        (s1.record Src.CMF 1 0x0502 vset (s.now - a.since) limit).anaUpdate
      else s)

/-- Keep Alive timers count ticks; not while the controller moves (R279, R365). -/
def State.countKeepAlive (s : State) : State :=
  let step (v : Vc) : Vc := if v.state = .active then { v with assoc := v.assoc.map (fun a => { a with kaTicks := a.kaTicks + 1 }) } else v
  { s with vct := { s.vct with vcs := s.vct.vcs.map (fun p => (p.1, step p.2)) } }

/-- Capsules are discarded without completion (R288). -/
def State.discardCapsules (s : State) : State := { s with cmf := { s.cmf with caps := [], arrived := [] } }

end Sys2Proof.Machine
end

