-- ==== Sys2Proof/Machine/HostPorts.lean ====
section
/-!
DEFINITION. Machine/HostPorts.lean: Ethernet ports and raw frames (R318 to R321), connection contexts and their cache (R322
to R325), RoCEv2 (R328 to R331).
-/

namespace Sys2Proof.Machine

/-! Ethernet ports (R318, R319). -/

/-- Ports of the split in force. -/
def State.hostPorts (s : State) : Nat := 8 * 2 ^ min (s.fld F.HPT.CONFIG.SPLIT) 2

/-- Line rate of a port in Mb/s. -/
def State.lineRate (s : State) : Nat := 800000 / 2 ^ min (s.fld F.HPT.CONFIG.SPLIT) 2

/-- The port is up. -/
def State.portUp (s : State) (p : Nat) : Bool := (s.fld F.HPT.STATUS.UP).testBit p

/-- A host port's state changed. -/
def State.setHostPort (s : State) (p : Nat) (up : Bool) : State :=
  let m := s.fld F.HPT.STATUS.UP
  let s1 := s.put F.HPT.STATUS.UP (if up then m ||| 2 ^ p else m - (if m.testBit p then 2 ^ p else 0))
  (s1.put (F.HPT.PORT_STATUS.STATE.nth p) (if up then 2 else 0)).put (F.HPT.PORT_STATUS.SPEED.nth p)
    (if up then 3 - min (s.fld F.HPT.CONFIG.SPLIT) 2 else 0)

/-- ETH_PORT_UP (R319): an enabled port of the split comes up. -/
def execEthPortUp (port : Nat) (s : State) : Host.Outcome State Fault Refusal :=
  .next (if port < s.hostPorts ∧ s.flag (F.HPT.PORT_CTL.EN.nth port) ∧ !s.portUp port then
    (s.setHostPort port true).event Src.HPT 0 port else s)

/-- ETH_PORT_DOWN (R319): a port leaves the up state. -/
def execEthPortDown (port : Nat) (s : State) : Host.Outcome State Fault Refusal :=
  .next (if port < s.hostPorts ∧ s.portUp port then (s.setHostPort port false).event Src.HPT 1 port else s)

/-! Rings (R102, R106, R321, R348). -/

/-- Entries of an HPT ring. -/
def State.ringSize (s : State) (r : Nat) : Nat := 2 ^ s.fld (F.HPT.RING_CFG.SIZE_LOG2.nth r)

/-- The counts of a ring. -/
def State.ringProd (s : State) (r : Nat) : Nat := s.fld (F.HPT.RING_PROD.COUNT.nth r)
def State.ringCons (s : State) (r : Nat) : Nat := s.fld (F.HPT.RING_CONS.COUNT.nth r)

/-- Entries in use: the counts are free-running. -/
def State.ringUsed (s : State) (r : Nat) : Nat := (s.ringProd r + 2 ^ 32 - s.ringCons r) % 2 ^ 32

/-- An enabled ring has room for another entry, beside some that are already to be written. -/
def State.ringRoom (s : State) (r waiting : Nat) : Bool :=
  s.flag (F.HPT.RING_CFG.EN.nth r) && decide (s.ringUsed r + waiting < s.ringSize r)

/-- The address of the slot of entry k of a ring. -/
def State.ringSlot (s : State) (r size k : Nat) : Nat :=
  s.fld (F.HPT.RING_BASE.ADDR.nth r) * 32 + size * (k % s.ringSize r)

/-- PHASE of entry k (R106): 1 on the first pass, then alternating. -/
def phaseOf (size k : Nat) : Nat := 1 - k / size % 2

/-- RAW_FRAME_RECEIVE (R319, R321): a frame not handled by HPT goes to the raw receive ring. `bytes` runs from the
destination MAC address to the last payload byte, without the FCS. -/
def execRawFrameReceive (port : Nat) (bytes : List Byte) (s : State) : Host.Outcome State Fault Refusal :=
  .next (if port ≥ s.hostPorts ∨ !s.portUp port then s
    else
      let s1 := s.count F.HPT.STAT.COUNT 0
      let dst := bytes.take 6
      let mine := beNat dst == s.fld (F.HPT.PORT_MAC.MAC.nth port) || ((dst.headD 0).toNat % 2 == 1)
      if bytes.length > 9212 ∨ bytes.length < 60 then (s1.count F.HPT.STAT.COUNT 2).saturate (F.HPT.PORT_ERR.FCS.nth port)
      else if !mine then s1
      else if !s1.ringRoom 256 0 then (s1.count F.HPT.STAT.COUNT 4).event Src.HPT 2 port
      else
        let k := s1.ringProd 256
        let desc := leBytes 2 bytes.length ++ leBytes 1 port ++ List.replicate 5 0 ++ leBytes 8 s.now ++ List.replicate 48 0
        (((s1.storeBy Src.HPT (s1.ringSlot 256 16384 k) (desc ++ bytes)).put (F.HPT.RING_PROD.COUNT.nth 256) (k + 1)).irqEdge
          (256 + 256)).count F.HPT.STAT.COUNT 3)

/-- The frames posted on the raw transmit ring are sent (R321). -/
def State.rawTransmit (s : State) : Nat → State
  | 0 => s
  | fuel + 1 =>
    if !s.flag (F.HPT.RING_CFG.EN.nth 257) ∨ s.ringUsed 257 = 0 then s
    else
      let k := s.ringCons 257
      let a := s.ringSlot 257 16384 k
      let slot := (s.loadBy Src.HPT a 16384).getD []
      let len := leNat (slot.take 2)
      let port := leNat ((slot.drop 2).take 1)
      let s1 := ((s.noteRead Src.HPT a 16384).put (F.HPT.RING_CONS.COUNT.nth 257) (k + 1)).count F.HPT.STAT.COUNT 1
      ((s1.send (.rawFrame port ((slot.drop 64).take len))).irqEdge (256 + 257)).rawTransmit fuel

/-! Contexts (R322, R323). -/

/-- The transport state of a context, in the model's own layout of bytes 128 to 511, which the specification leaves to
Geosteg (assumption 31). -/
def Conn.transportBytes (c : Conn) : List Byte :=
  let l := [c.epsn, c.npsn, c.rate, c.txPsn, c.txMsn, c.cwnd, c.peerDone, c.floor, c.done, c.responses, c.posted, c.started]
  let b := l.flatMap (leBytes 8)
  b ++ List.replicate (384 - b.length) 0

/-- The 512 bytes of a context. -/
def Conn.contextBytes (c : Conn) : List Byte := c.ctx ++ c.transportBytes

/-- Every path enabled, as a new context has them. -/
def State.newConn (s : State) (ctx : List Byte) : Conn :=
  let f (o n : Nat) : Nat := leNat ((ctx.drop o).take n)
  { ctx := ctx, failed := false, frozen := false, parked := [], parkedBytes := 0, fetch := none, epsn := f 76 3, npsn := f 72 3,
    gapNak := false, asm := [], place := none, sent := [], retries := 0, rnr := 0, timer := 0, rate := s.lineRate, cnpSent := 0,
    cnpCut := 0, cnpGap := 0, txPsn := 0, txMsn := 0, msgs := [], tx := [], paths := freshPaths (f 54 1 % 16),
    cwnd := s.fld F.HPT.SPRAY_CTL.CWND_INIT_KB * 1024, peerDone := 0, floor := 0, cum := 0, above := [], rx := [], past := [],
    done := 0, ce := 0, ackPath := none, responses := 0, posted := 0, started := 0, works := [] }

/-- A context whose transport state was written in that layout. -/
def State.connFrom (s : State) (b : List Byte) : Conn :=
  let f (i : Nat) : Nat := leNat ((b.drop (128 + 8 * i)).take 8)
  let c := s.newConn (b.take 128)
  { c with
    epsn := f 0, npsn := f 1, rate := f 2, txPsn := f 3, txMsn := f 4, cwnd := f 5, peerDone := f 6, floor := f 7, cum := f 7,
    done := f 8, responses := f 9, posted := f 10, started := f 11 }

/-- Some byte of a run is not zero. -/
def anySet (b : List Byte) (o n : Nat) : Bool := ((b.drop o).take n).any (fun x => x != 0)

/-- Every field of a context is in range, and every reserved one is zero (R7, R322). -/
def State.contextOk (s : State) (b : List Byte) : Bool :=
  let f (o n : Nat) : Nat := leNat ((b.drop o).take n)
  let kind := f 0 1
  let spray := kind == 3 || kind == 4
  let paths := f 54 1
  decide (1 ≤ kind ∧ kind ≤ 4) && decide (f 1 1 % 32 < s.hostPorts) && decide (f 2 1 < 64) && decide (f 3 1 < 3) &&
    decide (f 6 2 < 1024) && !anySet b 14 2 && ((f 1 1).testBit 5 || (!anySet b 20 12 && !anySet b 36 12)) && f 51 1 == 0 &&
    decide (8 ≤ f 52 1 % 32 ∧ f 52 1 % 32 ≤ 20) && decide (f 53 1 < 8) &&
    (if spray then decide (1 ≤ paths ∧ paths ≤ 8) && decide (f 48 3 < 2 ^ 17) else paths == 1) &&
    decide (f 58 2 < 4096) && (!(spray && (f 1 1).testBit 7) || decide (f 58 2 < 64)) && !anySet b 60 4 &&
    (kind == 1 || kind == 3 || (f 64 6 % 64 == 0 && decide (4 ≤ f 70 2 ∧ f 70 2 ≤ 12))) && decide (f 70 2 < 16) &&
    f 75 1 == 0 && f 79 1 == 0 && (kind != 3 || decide (1 ≤ f 84 2 ∧ f 84 2 ≤ 1024)) && !anySet b 86 2 && !anySet b 96 32

/-- Bytes 0 to 127 as the CTX_DATA registers hold them. -/
def State.ctxData (s : State) : List Byte := (List.range 16).flatMap (fun i => leBytes 8 (s.fld (F.QPC.CTX_DATA.DATA.nth i)))

/-- A connection's context is written back and leaves the cache (R324). -/
def State.evictContext (s : State) (n : Nat) : State :=
  let s1 : State := { s with qpc := { s.qpc with cached := s.qpc.cached.filter (fun m => m ≠ n) } }
  let s2 := s1.count F.QPC.STAT.COUNT 2
  match s.conn n with
  | some c => s2.storeBy Src.QPC (s.fld F.QPC.CONFIG.ADDR * 2 ^ 26 + 512 * n) c.contextBytes
  | none => s2

/-- A context cannot be evicted (R324). -/
def State.pinned (s : State) (n : Nat) : Bool :=
  (match s.conn n with
    | some c => c.parked != [] || c.sent != [] || c.tx != [] || c.msgs != []
    | none => false) || s.qpc.command.any (fun q => q.2 == n)

/-- A context enters the cache; when it is full, the least recently used unpinned one leaves (R324). -/
def State.cacheContext (s : State) (n : Nat) : State :=
  let s1 := if s.qpc.cached.length < 16384 then s
    else match s.qpc.cached.find? (fun m => !s.pinned m) with
      | some m => s.evictContext m
      | none => s
  { s1 with qpc := { s1.qpc with cached := (s1.qpc.cached.filter (fun m => m ≠ n)) ++ [n] } }

/-- The descriptor of a work request in its ring (R345). -/
def State.workDesc (s : State) (c : Conn) (n : Nat) : List Byte :=
  (s.loadBy Src.HPT (c.sqAddr + 64 * (n % 2 ^ c.sqLog2)) 64).getD []

/-- The completion record of a work request (R348); none when it is not to be written. -/
def State.workRecord (s : State) (conn : Nat) (c : Conn) (n status : Nat) : Option HptRecord :=
  let d := s.workDesc c n
  let f (o k : Nat) : Nat := leNat ((d.drop o).take k)
  if status = 0 ∧ !(f 1 1).testBit 0 then none
  else some { ring := c.cq, tag := f 4 4, status := status, recv := false, imm := none, trig := 0, conn := conn,
              len := f 20 4, rkey := 0 }

/-- Records to be written when their ring has room. -/
def State.addRecords (s : State) (l : List HptRecord) : State := { s with hpt := { s.hpt with records := s.hpt.records ++ l } }

/-- DESTROY (R323): outstanding work requests complete FLUSHED, and the connection is free. -/
def State.destroyConn (s : State) (n : Nat) (c : Conn) : State :=
  let s1 := s.flushWorks n c 0x34
  let mine := s1.hpt.ended.filter (fun e => e.1 = n)
  let s2 : State := { s1 with
    hpt := { s1.hpt with
      ended := s1.hpt.ended.filter (fun e => e.1 ≠ n),
      completed := s1.hpt.completed.filter (fun e => e.1 ≠ n) },
    qpc := { s1.qpc with conns := Tab.erase s1.qpc.conns n, cached := s1.qpc.cached.filter (fun m => m ≠ n) } }
  (s2.addRecords (mine.filterMap (fun e => s.workRecord n c e.2.1 e.2.2))).count F.QPC.STAT.COUNT 5

/-- A MODIFY changes only what R323 lets it. -/
def modifiable (old new : List Byte) : Bool :=
  (List.range 128).all (fun i =>
    [2, 4, 5, 8, 9, 10, 11, 12, 13, 52, 58, 59].contains i || old.getD i 0 == new.getD i 0)

/-- The context command executes in step 3 of the boundary after its write (R323, R350). -/
def State.runQpcCommand (s : State) : State :=
  match s.qpc.command with
  | none => s
  | some (op, n) =>
    let s0 := ({ s with qpc := { s.qpc with command := none } } : State).put F.QPC.CMD_STATUS.BUSY 0
    let b := s.ctxData
    let result (t : State) (r : Nat) : State := (t.put F.QPC.CMD_STATUS.RESULT r).event Src.QPC 0 n
    match op, s.conn n with
    | 1, none =>
      if s.contextOk b then
        let s1 : State := s0.setConn n (s.newConn b)
        result ((s1.cacheContext n).count F.QPC.STAT.COUNT 4) 0
      else result s0 1
    | 2, some c =>
      if c.failed then result s0 2
      else if s.contextOk b ∧ modifiable c.ctx b then result (s0.setConn n { c with ctx := b }) 0
      else result s0 1
    | 3, some c => result (s0.destroyConn n c) 0
    | 4, c =>
      let ctx := match c with
        | some x => x.ctx
        | none => List.replicate 128 0
      let s1 := (List.range 16).foldl (fun (t : State) i =>
        t.put (F.QPC.CTX_DATA.DATA.nth i) (leNat ((ctx.drop (8 * i)).take 8))) s0
      let st := match c with
        | some x => if x.failed then 2 else 1
        | none => 0
      result (s1.put F.QPC.CMD_STATUS.STATE st) 0
    | _, _ => result s0 2

/-! Sequence numbers. -/

/-- a is at or beyond b, in numbers of w bits. -/
def seqGe (w a b : Nat) : Bool := decide ((a + 2 ^ w - b % 2 ^ w) % 2 ^ w < 2 ^ (w - 1))

/-- The distance from b to a, in numbers of w bits. -/
def seqDist (w a b : Nat) : Nat := (a + 2 ^ w - b % 2 ^ w) % 2 ^ w

/-! RoCEv2: answers (R329). -/

/-- An acknowledgement. -/
def State.roceAck (s : State) (n psn : Nat) : State := s.send (.roce n 6 psn 0 [])

/-- A NAK: 0 PSN Sequence Error, 1 Invalid Request, 2 Remote Access Error, 3 Remote Operational Error. -/
def State.roceNak (s : State) (n psn cause : Nat) : State := (s.send (.roce n 7 psn 0 (leBytes 1 cause))).count F.HPT.STAT.COUNT 6

/-- A NAK that puts the connection in ERROR (R329). -/
def State.roceFatal (s : State) (n psn cause : Nat) : State := (s.roceNak n psn cause).connError n 4

/-- A packet that carries CE is answered with a CNP, at most one per GAP ticks (R331). -/
def State.roceEcn (s : State) (n : Nat) (c : Conn) (ce : Bool) : State :=
  if ce ∧ (c.cnpSent = 0 ∨ s.now ≥ c.cnpSent + s.fld F.HPT.ROCE_CC.GAP) then
    ((s.modifyConn n (fun c => { c with cnpSent := s.now })).send (.roce n 8 0 0 [])).count F.HPT.STAT.COUNT 8
  else s

/-- How a request packet stands to the expected PSN (R329). -/
inductive PsnPlace where
  | expected | beyond | duplicate
  deriving DecidableEq, Repr

def Conn.psnPlace (c : Conn) (psn : Nat) : PsnPlace :=
  if psn % 2 ^ 24 = c.epsn then .expected else if seqGe 24 psn c.epsn then .beyond else .duplicate

/-- A request packet in order is taken by `f`; one beyond the expected PSN is answered once with a NAK for the gap; a
duplicate is acknowledged again, or by `dup`. -/
def State.roceRequest (s : State) (p : RocePacket) (dup : Conn → State → State) (f : Conn → State → State) : State :=
  match s.ready p.conn with
  | none => s.count F.HPT.STAT.COUNT 15
  | some c =>
    let s0 := s.count F.HPT.STAT.COUNT 5
    if !p.intact ∨ !c.isRoce then s0.count F.HPT.STAT.COUNT 15
    else
      let s1 := s0.roceEcn p.conn c p.ce
      match c.psnPlace p.psn with
      | .beyond =>
        if c.gapNak then s1 else (s1.roceNak p.conn c.epsn 0).modifyConn p.conn (fun c => { c with gapNak := true })
      | .duplicate => dup c s1
      | .expected =>
        if !p.supported then s1.roceFatal p.conn p.psn 1
        else f c (s1.modifyConn p.conn (fun c => { c with gapNak := false }))

/-- The expected PSN moves on. -/
def State.advancePsn (s : State) (n k : Nat) : State := s.modifyConn n (fun c => { c with epsn := (c.epsn + k) % 2 ^ 24 })

/-- Capsule buffers of a queue (R330): as many as its entries; one before its Connect. -/
def State.capsuleBuffers (s : State) (n : Nat) : Nat :=
  match s.cmf.queues.find? (fun p => p.2.live && p.2.conn == n) with
  | some (_, q) => q.sqsize + 1
  | none => 1

/-- Buffers in use: capsules unadmitted, and commands of the connection in flight. -/
def State.buffersUsed (s : State) (n : Nat) : Nat :=
  (Tab.getD s.cmf.caps n []).length + (s.cmf.cmds.filter (fun p => p.2.conn = n ∧ p.2.fromPeer.isNone)).length

/-- A capsule is placed (R28). -/
def State.placeCapsule (s : State) (n : Nat) (b : List Byte) : State :=
  { s with cmf := { s.cmf with caps := Tab.insert s.cmf.caps n (Tab.getD s.cmf.caps n [] ++ [⟨b, none⟩]) } }

/-- A Send packet of a capsule (R313, R330). -/
def State.roceSendIn (s : State) (p : RocePacket) : State :=
  s.roceRequest p (fun _ t => t.roceAck p.conn p.psn) (fun c t =>
    let limit := 64 + 1024 * s.fld F.CMF.CONFIG.ICD_KB
    let b := if p.first then p.payload else c.asm ++ p.payload
    if c.kind ≠ 1 ∨ b.length > limit ∨ (p.last ∧ b.length < 64) then t.roceFatal p.conn p.psn 1
    else if p.first ∧ s.buffersUsed p.conn ≥ s.capsuleBuffers p.conn then t.send (.roce p.conn 9 p.psn 0 (leBytes 1 1))
    else
      let t1 := (t.advancePsn p.conn 1).modifyConn p.conn (fun c => { c with
        asm := if p.last then [] else b, done := if p.last then c.done + 1 else c.done })
      if p.last then (t1.placeCapsule p.conn b).roceAck p.conn p.psn else t1)

/-- An RDMA Write packet (R326, R328): KIND 2 alone takes it. -/
def State.roceWriteIn (s : State) (p : RocePacket) : State :=
  s.roceRequest p (fun _ t => t.roceAck p.conn p.psn) (fun c t =>
    if c.kind ≠ 2 ∨ p.len > 2 ^ 24 then t.roceFatal p.conn p.psn 1
    else
      let target : Option (Nat × Nat × Nat) := if p.first then some (p.rkey, p.off, p.len) else c.place
      match target with
      | none => t.roceFatal p.conn p.psn 1
      | some (rkey, off, left) =>
        if p.payload.length > left then t.roceFatal p.conn p.psn 1
        else match t.region p.conn rkey off left true with
          | none => t.roceFatal p.conn p.psn 2
          | some a =>
            let msn := c.done
            let t1 := ((t.store a p.payload).advancePsn p.conn 1).modifyConn p.conn (fun c => { c with
              place := if p.last then none else some (rkey, off + p.payload.length, left - p.payload.length),
              asm := [], done := if p.last then c.done + 1 else c.done })
            if !p.last then t1
            else
              let t2 := t1.roceAck p.conn p.psn
              match p.imm with
              | none => t2
              | some x =>
                let r : SprayRx := { typ := 1, len := p.len, rkey := rkey, off := off, trig := 0, imm := some x, got := [], parts := [] }
                let t3 := t2.modifyConn p.conn (fun c => { c with rx := Tab.insert c.rx msn r })
                { t3 with hpt := { t3.hpt with completed := t3.hpt.completed ++ [(p.conn, msn)] } })

/-- An RDMA Read request is answered (R326, R328); a duplicate is answered again. -/
def State.roceReadIn (s : State) (p : RocePacket) : State :=
  let answer (dup : Bool) (c : Conn) (t : State) : State :=
    if c.kind ≠ 2 ∨ p.len > 2 ^ 24 then t.roceFatal p.conn p.psn 1
    else match t.region p.conn p.rkey p.off p.len false with
      | none => t.roceFatal p.conn p.psn 2
      | some a =>
        let k := packetsOf c.seg p.len
        let t1 := t.send (.roce p.conn 5 p.psn k (t.load a p.len))
        if dup then t1 else (t1.advancePsn p.conn k).modifyConn p.conn (fun c => { c with done := c.done + 1 })
  s.roceRequest p (answer true) (answer false)

/-! RoCEv2: what comes back to a requester (R329). -/

/-- A work request has what it asked for. -/
def Conn.workDone (c : Conn) (n : Nat) : Conn :=
  { c with works := c.works.map (fun w => if w.n = n then { w with done := true } else w) }

/-- A message of a connection is acknowledged, or its data delivered. -/
def Conn.acked (c : Conn) (what : TxFor) : Conn :=
  match what with
  | .work n => c.workDone n
  | _ => c

/-- Messages at the front of the list that an acknowledgement up to a PSN covers; a read waits for its response. -/
def ackedFront (psn : Nat) : List RoceMsg → List RoceMsg × List RoceMsg
  | [] => ([], [])
  | m :: ms =>
    if !m.read && seqGe 24 psn (m.psn + m.packets - 1) then
      let (a, b) := ackedFront psn ms
      (m :: a, b)
    else ([], m :: ms)

/-- Packets up to a PSN are acknowledged: progress resets the retries and the timer. -/
def State.roceAcked (s : State) (n psn : Nat) : State :=
  match s.ready n with
  | none => s
  | some c =>
    let (gone, left) := ackedFront psn c.sent
    if gone = [] then s
    else
      let c1 : Conn := { c with sent := left, retries := 0, rnr := 0, timer := s.now }
      s.setConn n (gone.foldl (fun (x : Conn) m => x.acked m.what) c1)

/-- Resend from the oldest unacknowledged PSN; RETRY resends without progress put the connection in ERROR (R329). -/
def State.roceResend (s : State) (n : Nat) : State :=
  match s.ready n with
  | none => s
  | some c =>
    if c.sent = [] then s
    else if c.retries ≥ c.retry then s.connError n 1 0x32
    else
      let s1 := s.setConn n { c with retries := c.retries + 1, timer := s.now }
      c.sent.foldl (fun (t : State) m =>
        (t.send (.roce n m.op m.psn m.packets (m.reth ++ m.bytes))).count F.HPT.STAT.COUNT 7) s1

/-- Data of an RDMA Read arrives (R285, R328): in order for the oldest read; the whole of it is delivered. -/
def State.roceResponseIn (s : State) (p : RocePacket) : State :=
  match s.ready p.conn with
  | none => s.count F.HPT.STAT.COUNT 15
  | some c =>
    let s0 := s.count F.HPT.STAT.COUNT 5
    if !p.intact ∨ !c.isRoce then s0.count F.HPT.STAT.COUNT 15
    else
      let s1 := (s0.roceEcn p.conn c p.ce).roceAcked p.conn ((p.psn + 2 ^ 24 - 1) % 2 ^ 24)
      match (s1.ready p.conn).bind (fun c => c.sent.head?.map (fun m => (c, m))) with
      | none => s1
      | some (c, m) =>
        let got := m.bytes.length
        if !m.read ∨ p.psn ≠ (m.psn + got / c.seg) % 2 ^ 24 ∨ got + p.payload.length > m.want ∨ (got % c.seg ≠ 0) then s1
        else
          let m1 : RoceMsg := { m with bytes := m.bytes ++ p.payload }
          if m1.bytes.length < m.want then
            s1.setConn p.conn { c with sent := m1 :: c.sent.drop 1, retries := 0, rnr := 0, timer := s.now }
          else
            let s2 := s1.setConn p.conn ({ c with sent := c.sent.drop 1, retries := 0, rnr := 0, timer := s.now }.acked m.what)
            match m.what with
            | .fetch key => s2.modifyCmd key (fun d => if d.stage = .fetching then { d with data := m1.bytes } else d)
            | .work n =>
              let d := s2.workDesc c n
              match s2.region p.conn (leNat ((d.drop 16).take 4)) (leNat ((d.drop 8).take 8)) m.want true with
              | some a => s2.store a m1.bytes
              | none => s2
            | _ => s2

/-- A NAK received (R329): 0 PSN Sequence Error, 1 Invalid Request, 2 Remote Access Error, 3 Remote Operational Error,
4 RNR. -/
def State.roceNakIn (s : State) (n psn cause : Nat) : State :=
  match s.ready n with
  | none => s.count F.HPT.STAT.COUNT 15
  | some c =>
    let s0 := s.count F.HPT.STAT.COUNT 5
    let s1 := s0.roceAcked n ((psn + 2 ^ 24 - 1) % 2 ^ 24)
    match cause with
    | 0 => s1.roceResend n
    | 2 => s1.connError n 3 0x31
    | 4 =>
      if c.rnrRetry ≠ 7 ∧ c.rnr + 1 ≥ c.rnrRetry then s1.connError n 2 0x32
      else
        let s2 := s1.modifyConn n (fun c => { c with rnr := c.rnr + 1, timer := s.now })
        ((s2.ready n).map Conn.sent |>.getD []).foldl (fun (t : State) m =>
          (t.send (.roce n m.op m.psn m.packets (m.reth ++ m.bytes))).count F.HPT.STAT.COUNT 7) s2
    | _ => s1.connError n 3 0x36

/-- A CNP received (R331): the rate falls by a quarter, at most once per GAP ticks. -/
def State.roceCnpIn (s : State) (n : Nat) : State :=
  match s.ready n with
  | none => s.count F.HPT.STAT.COUNT 15
  | some c =>
    let cut := c.cnpCut = 0 ∨ s.now ≥ c.cnpCut + s.fld F.HPT.ROCE_CC.GAP
    ((s.count F.HPT.STAT.COUNT 5).count F.HPT.STAT.COUNT 9).setConn n { c with
      rate := if cut then c.rate * 3 / 4 else c.rate, cnpCut := if cut then s.now else c.cnpCut, cnpGap := s.now }

/-- ROCE_RETRANSMIT_TIMEOUT (R329): TIMEOUT has passed without an acknowledgement. -/
def execRoceRetransmitTimeout (conn : Nat) (s : State) : Host.Outcome State Fault Refusal :=
  .next (match s.ready conn with
    | none => s
    | some c => if c.sent ≠ [] ∧ s.now ≥ c.timer + s.connTimeout c then s.roceResend conn else s)

/-- ROCE_RATE_INCREASE (R331): GAP ticks have passed with no CNP. -/
def execRoceRateIncrease (conn : Nat) (s : State) : Host.Outcome State Fault Refusal :=
  .next (match s.ready conn with
    | none => s
    | some c =>
      if c.isRoce ∧ s.now ≥ c.cnpGap + s.fld F.HPT.ROCE_CC.GAP then
        s.setConn conn { c with rate := min s.lineRate (c.rate + s.fld F.HPT.ROCE_CC.AI_MBPS), cnpGap := s.now }
      else s)

end Sys2Proof.Machine
end

