-- ==== Sys2Proof/Machine/Spray.lean ====
section
/-!
DEFINITION. Machine/Spray.lean: the Spray transport (R332 to R344), the cache of contexts as packets meet it (R324, R325),
work requests, triggers and completion records (R327, R345 to R350).
-/

namespace Sys2Proof.Machine

/-! Packets (R332, R333, R336, R338). -/

/-- A field of a packet, in network byte order. -/
def pkt (b : List Byte) (off n : Nat) : Nat := beNat ((b.drop off).take n)

/-- Bytes of the Spray header of a TYPE. -/
def sprayHeaderLen (typ : Nat) : Nat := if typ = 1 ∨ typ = 4 then 52 else 32

/-- The key some successor steps from a transport slot (R342). -/
def State.keyAfter (s : State) (n : Nat) : Nat → Option (List Byte)
  | 0 => (s.slot 1 n).map KeySlot.key
  | k + 1 => match (s.slot 1 n).bind KeySlot.succ with
    | some m => s.keyAfter m k
    | none => none

/-- The reserved fields of a header are zero (R333, R338, R339). -/
def sprayReservedOk (typ : Nat) (b : List Byte) : Bool :=
  let flags := pkt b 1 1
  let data := typ == 1 || typ == 4
  pkt b 0 1 == 16 + typ && flags / 32 == 0 && !flags.testBit 2 && (data || !flags.testBit 1) && decide (pkt b 2 1 < 8) &&
    pkt b 3 1 == 0 && decide (pkt b 4 4 < 2 ^ 17) &&
    (if data then decide (pkt b 8 4 < 2 ^ 17)
     else if typ = 2 then pkt b 26 6 == 0 else pkt b 17 3 == 0 && pkt b 24 8 == 0)

/-- The payload of a packet that passes R336 for its connection, in the clear; the state counts the check, on a lane of CIP
(R113). -/
def State.openPacket (s : State) (c : Conn) (typ : Nat) (b : List Byte) : Option (List Byte) × State :=
  let h := sprayHeaderLen typ
  let pay := if typ = 1 ∨ typ = 4 then pkt b 32 2 else 0
  let enc := (pkt b 1 1).testBit 0
  let want := h + pay + (if enc then 28 else 4)
  if b.length ≠ want ∨ !sprayReservedOk typ b ∨ enc ≠ c.enc then (none, s)
  else if enc then
    match s.keyAfter c.txKey (pkt b 1 1 / 8 % 4) with
    | none => (none, s)
    | some key =>
      let iv := (b.drop h).take 12
      let x := (b.drop (h + 12)).take pay
      let s1 := (s.chargeLane .cip false (gcmCycles h pay)).count F.CIP.STAT.COUNT 5
      if gcmTag key iv (b.take h) x = b.drop (h + 12 + pay) then (some (gcmCrypt key iv x), s1)
      else (none, s1.count F.CIP.STAT.COUNT 6)
  else if beBytes 4 (crc32c (b.take (h + pay))) = b.drop (h + pay) then (some ((b.drop h).take pay), s)
  else (none, s)

/-! Control packets (R338, R339). -/

/-- An ACK or NAK packet on a connection: `rest` is its header from offset 8. -/
def State.sprayControl (s : State) (n : Nat) (c : Conn) (typ path : Nat) (rest : List Byte) : State :=
  match s.sealPacket c (fun steps => sprayAckHeader typ c.enc steps path (c.remote % 2 ^ 17) rest) [] with
  | (some b, s1) => s1.send (.spray n typ path b)
  | (none, s1) => s1.connError n 6 0x33

/-- A NAK (R339): 1 BUSY, 2 BAD_KEY, 3 LEN, 4 WINDOW. -/
def State.sprayNak (s : State) (n : Nat) (c : Conn) (path psn msn cause hold : Nat) : State :=
  (s.sprayControl n c 3 path (beBytes 4 psn ++ beBytes 4 msn ++ beBytes 1 cause ++ beBytes 3 0 ++ beBytes 4 hold ++
    beBytes 8 0)).count F.HPT.STAT.COUNT 13

/-- The NAK BUSY of R325, from the packet's own headers: unprotected, with the CRC. -/
def State.busyFromPacket (s : State) (n : Nat) (b : List Byte) : State :=
  let h := sprayAckHeader 3 false 0 (pkt b 2 1) (pkt b 8 4) (beBytes 4 (pkt b 12 4) ++ beBytes 4 (pkt b 16 4) ++ beBytes 1 1 ++
    beBytes 3 0 ++ beBytes 4 (s.fld F.HPT.SPRAY_CTL.BUSY_US) ++ beBytes 8 0)
  (s.send (.spray n 3 (pkt b 2 1) (h ++ beBytes 4 (crc32c h)))).count F.HPT.STAT.COUNT 13

/-! Receipt (R334, R336, R337, R344). -/

/-- MSN_DONE moves past the messages that have completed or failed. -/
def advanceDone : Nat → Nat → List Nat → Nat × List Nat
  | 0, d, past => (d, past)
  | fuel + 1, d, past =>
    if d ∈ past then advanceDone fuel ((d + 1) % 2 ^ 32) (past.filter (fun m => m ≠ d)) else (d, past)

/-- A message has completed or failed at the receiver. -/
def Conn.endRx (c : Conn) (msn : Nat) : Conn :=
  let (d, past) := advanceDone (c.past.length + 1) c.done (msn :: c.past)
  { c with done := d, past := past }

/-- A PSN received, and the latest FLOOR. -/
def Conn.notePsn (c : Conn) (psn floor path : Nat) (ce : Bool) : Conn :=
  let f := if seqGe 32 floor c.floor then floor else c.floor
  { c with
    floor := f, above := ((psn :: c.above).dedup).filter (fun p => seqGe 32 p f), ackPath := some path,
    ce := min (c.ce + ce.toNat) 65535 }

/-- CUM_PSN: the lowest PSN at or above FLOOR not yet received. -/
def cumFrom (above : List Nat) : Nat → Nat → Nat
  | 0, p => p
  | fuel + 1, p => if p ∈ above then cumFrom above fuel ((p + 1) % 2 ^ 32) else p

def Conn.cumPsn (c : Conn) : Nat := cumFrom c.above (c.above.length + 1) c.floor

/-- Messages in progress on the head (R337). -/
def State.bitmaps (s : State) : Nat := s.qpc.conns.foldl (fun t p => t + p.2.rx.length) 0

/-- Where the bytes of a PUT go. -/
inductive PutTarget where
  /-- A physical address: the message's byte 0. -/
  | memory (addr : Nat)
  | capsule
  /-- The staging buffer of a command (R315). -/
  | staging (key : Nat)
  deriving DecidableEq, Repr

/-- The command whose fetch a staging offset names (assumption 21), while it waits for that fetch. -/
def State.stagingKey (s : State) (n off len : Nat) : Option Nat :=
  let key := off / 2 ^ 24
  match s.cmd key with
  | some c => if c.stage = .fetching ∧ c.conn = n ∧ off % 2 ^ 24 + len ≤ max c.sglLen 1024 then some key else none
  | none => none

/-- The target of a PUT, when R314, R315 or R326 allows it. -/
def State.putTarget (s : State) (n : Nat) (c : Conn) (rkey off len : Nat) : Option PutTarget :=
  if c.kind = 3 ∧ rkey = 0 then some .capsule
  else if c.kind = 3 ∧ rkey = 1 then (s.stagingKey n off len).map .staging
  else (s.region n rkey off len true).map .memory

/-- The length rules of R344 for a packet: true when it breaks one. -/
def State.lengthWrong (s : State) (c : Conn) (typ rkey msgLen off pay : Nat) (seen : Option Nat) : Bool :=
  let last := decide (off + c.seg ≥ msgLen)
  decide (msgLen > 2 ^ 24) || seen.any (fun l => l != msgLen) || off % c.seg != 0 ||
    (decide (msgLen > 0) && decide (off ≥ msgLen)) || (msgLen == 0 && off != 0) ||
    (if last then pay != msgLen - off else pay != c.seg) ||
    (typ == 4 && msgLen != 32) ||
    (typ == 1 && c.kind == 3 && rkey == 0 &&
      (decide (msgLen < 64) || decide (msgLen > 64 + 1024 * s.fld F.CMF.CONFIG.ICD_KB)))

/-- A message fails at the receiver (R344): what was placed stays, and it counts as done. -/
def State.failRx (s : State) (n msn : Nat) : State :=
  s.modifyConn n (fun c => { c with rx := Tab.erase c.rx msn }.endRx msn)

/-- The whole of a message held by packet. -/
def SprayRx.whole (r : SprayRx) : List Byte := r.parts.flatMap Prod.snd

/-- The GET's data is sent as a PUT (R343). -/
def State.answerGet (s : State) (n msn : Nat) (r : SprayRx) : State :=
  match s.ready n with
  | none => s
  | some c =>
    let d := r.whole
    match s.region n (pkt d 0 4) (pkt d 8 8) (pkt d 4 4) false with
    | some a => s.sprayMessage n c 1 .reply (pkt d 16 4) (pkt d 24 8) (pkt d 20 2) none (s.load a (pkt d 4 4))
    | none => s.sprayNak n c (c.ackPath.getD 0) r.off msn 2 0

/-- The GET of this head that returning data answers: a work request whose local range it is. -/
def Conn.getWork (c : Conn) (r : SprayRx) : Option Nat :=
  (c.works.find? (fun w =>
    !w.done && leNat (w.desc.take 1) == 2 && leNat ((w.desc.drop 16).take 4) == r.rkey &&
      leNat ((w.desc.drop 8).take 8) == r.off && leNat ((w.desc.drop 20).take 4) == r.len)).map Work.n

/-- A message's bitmap is full and every lower MSN is done (R337): it completes. Its record, trigger and capsule follow at
the next boundary; while its completion ring is full it waits. -/
def State.completeRx (s : State) (n msn : Nat) : State :=
  match s.ready n with
  | none => s
  | some c =>
    match Tab.find c.rx msn with
    | none => s
    | some r =>
      if r.got.length < packetsOf c.seg r.len ∨ c.done ≠ msn then s
      else if r.typ = 4 then
        (s.setConn n ({ c with rx := Tab.erase c.rx msn, ackPath := some (c.ackPath.getD 0) }.endRx msn)).answerGet n msn r
      else if c.kind = 3 ∧ r.rkey = 1 then
        match s.stagingKey n r.off r.len with
        | some key =>
          (s.setConn n ({ c with rx := Tab.erase c.rx msn, ackPath := some (c.ackPath.getD 0) }.endRx msn)).modifyCmd key
            (fun d => { d with data := r.whole })
        | none => s.failRx n msn
      else
        let waiting := (s.hpt.records.filter (fun x => x.ring = c.cq)).length + s.hpt.completed.length + s.hpt.ended.length
        if c.kind = 4 ∧ !s.ringRoom c.cq waiting then s.event Src.HPT 4 c.cq n
        else
          let c1 := match c.getWork r with
            | some w => c.workDone w
            | none => c
          let s1 := s.setConn n ({ c1 with ackPath := some (c1.ackPath.getD 0) }.endRx msn)
          { s1 with hpt := { s1.hpt with completed := s1.hpt.completed ++ [(n, msn)] } }

/-- A PUT or GET packet in a present context (R336, R337, R343, R344). -/
def State.sprayDataIn (s : State) (n typ : Nat) (ce : Bool) (b : List Byte) : State :=
  match s.ready n with
  | none => s.count F.HPT.STAT.COUNT 15
  | some c =>
    if c.kind ≠ 3 ∧ c.kind ≠ 4 then s.count F.HPT.STAT.COUNT 15
    else match s.openPacket c typ b with
      | (none, s1) => s1.count F.HPT.STAT.COUNT 15
      | (some pay, s0) =>
        let psn := pkt b 12 4
        let msn := pkt b 16 4
        let len := pkt b 20 4
        let off := pkt b 24 4
        let rkey := pkt b 28 4
        let path := pkt b 2 1
        let roff := pkt b 40 8
        let noted (x : Conn) : Conn := x.notePsn psn (pkt b 36 4) path ce
        let k := off / c.seg
        let seen := Tab.find c.rx msn
        if !seqGe 32 msn c.done ∨ msn ∈ c.past ∨ seen.any (fun r => r.got.contains k && r.len == len && off % c.seg == 0) then
          (s0.setConn n (noted c)).count F.HPT.STAT.COUNT 12
        else if seqDist 32 msn c.done ≥ 64 then (s0.sprayNak n c path psn msn 4 0).connError n 5
        else if s.lengthWrong c typ rkey len off pay.length (seen.map SprayRx.len) then
          (s0.sprayNak n c path psn msn 3 0).failRx n msn
        else if seen.isNone ∧ s.bitmaps ≥ 65536 then s0.sprayNak n c path psn msn 1 (s.fld F.HPT.SPRAY_CTL.BUSY_US)
        else
          let target : Option PutTarget :=
            if typ = 4 then
              (if c.kind = 3 ∨ (s.region n (pkt pay 0 4) (pkt pay 8 8) (pkt pay 4 4) false).isSome then some .capsule else none)
            else s.putTarget n c rkey roff len
          match target with
          | none => (s0.sprayNak n c path psn msn 2 0).failRx n msn
          | some t =>
            let r0 : SprayRx := seen.getD {
              typ := typ, len := len, rkey := rkey, off := if typ = 4 then psn else roff, trig := pkt b 34 2,
              imm := if (pkt b 1 1).testBit 1 then some (pkt b 48 4) else none, got := [], parts := [] }
            let inMemory : Option Nat := match t with
              | .memory a => some a
              | _ => none
            let r : SprayRx := { r0 with
              got := k :: r0.got, parts := if inMemory.isSome then r0.parts else Tab.insert r0.parts k pay }
            let s1 := match inMemory with
              | some a => s0.store (a + off) pay
              | none => s0
            let s2 := s1.setConn n (noted { c with rx := Tab.insert c.rx msn r })
            if typ = 4 then s2.completeRx n msn else s2

/-! Acknowledgement at the sender (R335, R340, R341). -/

/-- A path of a connection changed. -/
def Conn.onPath (c : Conn) (p : Nat) (f : Path → Path) : Conn :=
  match c.paths[p]? with
  | some x => { c with paths := c.paths.set p (f x) }
  | none => c

/-- A packet acknowledged on a path. -/
def Path.ack (p : Path) : Path :=
  { p with acked := (p.acked + 1) % 100, losses := 0, weight := if p.acked + 1 = 100 then min 8 (p.weight + 1) else p.weight }

/-- A loss on a path. -/
def Path.loss (p : Path) : Path := { p with weight := max 1 (p.weight / 2) }

/-- A loss by timeout: the third in a row disables the path. -/
def Path.timeout (p : Path) (now : Nat) : Path :=
  let q := p.loss
  { q with losses := p.losses + 1, off := if p.losses + 1 ≥ 3 then some now else p.off }

/-- When every path is disabled, all are enabled again with weight 1. -/
def Conn.reviveAll (c : Conn) : Conn :=
  if c.paths.all (fun p => p.off.isSome) then
    { c with paths := c.paths.map (fun p => { p with off := none, weight := 1, losses := 0 }) }
  else c

/-- The window after an ACK for n packets, a of them with CE (R341). -/
def windowAfter (cwnd seg most n a : Nat) : Nat :=
  let w := if a > 0 then cwnd - cwnd * a / (2 * n) else cwnd + seg * n * seg / cwnd
  max seg (min w most)

/-- A lost packet is sent again under a new PSN, off the path of its loss (R334, R335). -/
def State.resendPacket (s : State) (n : Nat) (t : SprayTx) (avoid : Option Nat) (timeouts : Nat) : State :=
  match s.ready n with
  | none => s
  | some c =>
    let c1 : Conn := { c with tx := c.tx.filter (fun x => x.psn ≠ t.psn) }
    match c.msgs.find? (fun m => m.msn = t.msn) with
    | none => s.setConn n c1
    | some m => ((s.setConn n c1).sprayPacket n c1 m t.index (c1.choosePath avoid) timeouts).count F.HPT.STAT.COUNT 11

/-- A delta sent on the fallback is acknowledged (R385, R391). -/
def State.deltaAcked (s : State) (tick : Nat) : State :=
  { s with rfl := { s.rfl with deltas := s.rfl.deltas.filter (fun d => d.tick ≠ tick), acked := max s.rfl.acked tick } }

/-- A whole message is acknowledged: what it carried. -/
def State.messageAcked (s : State) (n : Nat) (m : SprayMsg) : State :=
  match m.what with
  | .response key => s.endCmd key
  | .delta tick => s.deltaAcked tick
  | .work k => if m.typ = 1 then s.modifyConn n (fun c => c.workDone k) else s
  | _ => s

/-- Messages with no packet left to send or to be acknowledged are done with. -/
def State.sweepMessages (s : State) (n : Nat) : State :=
  match s.ready n with
  | none => s
  | some c =>
    let over_ (m : SprayMsg) : Bool := decide (m.next ≥ packetsOf c.seg m.bytes.length) && c.tx.all (fun t => t.msn != m.msn)
    let gone := c.msgs.filter over_
    gone.foldl (fun (t : State) m => t.messageAcked n m) (s.setConn n { c with msgs := c.msgs.filter (fun m => !over_ m) })

/-- An ACK (R338, R340, R341). -/
def State.sprayAckIn (s : State) (n : Nat) (b : List Byte) : State :=
  match s.ready n with
  | none => s.count F.HPT.STAT.COUNT 15
  | some c =>
    if c.kind ≠ 3 ∧ c.kind ≠ 4 then s.count F.HPT.STAT.COUNT 15
    else match s.openPacket c 2 b with
      | (none, s1) => s1.count F.HPT.STAT.COUNT 15
      | (some _, s0) =>
        let cum := pkt b 8 4
        let sack := pkt b 16 8
        let acked (t : SprayTx) : Bool :=
          !seqGe 32 t.psn cum || (seqDist 32 t.psn cum ≥ 1 && decide (seqDist 32 t.psn cum ≤ 64) && sack.testBit (seqDist 32 t.psn cum - 1))
        let gone := c.tx.filter acked
        let later (t : SprayTx) : Nat := (gone.filter (fun g => g.path = t.path ∧ seqGe 32 g.psn t.psn)).length
        let left := (c.tx.filter (fun t => !acked t)).map (fun t => { t with dups := t.dups + later t })
        let c1 := gone.foldl (fun (x : Conn) g => x.onPath g.path Path.ack) { c with tx := left }
        let most := s.fld F.HPT.SPRAY_CTL.CWND_MAX_KB * 1024
        let c2 : Conn := { c1 with
          cwnd := if gone = [] then c1.cwnd else windowAfter c1.cwnd c.seg most gone.length (min (pkt b 24 2) gone.length),
          peerDone := if seqGe 32 (pkt b 12 4) c.peerDone then pkt b 12 4 else c.peerDone }
        let lost := c2.tx.filter (fun t => t.dups ≥ s.fld F.HPT.SPRAY_CTL.DUP_THR ∧ t.holdTill.isNone)
        let c3 := lost.foldl (fun (x : Conn) t => x.onPath t.path Path.loss) c2
        let s1 := lost.foldl (fun (u : State) t => u.resendPacket n t (some t.path) t.timeouts) (s0.setConn n c3)
        (s1.sweepMessages n).sprayPump n 64

/-- A message fails at the sender (R339, R344): its work request ends with the status given. -/
def State.failTx (s : State) (n msn status : Nat) : State :=
  match s.ready n with
  | none => s
  | some c =>
    match c.msgs.find? (fun m => m.msn = msn) with
    | none => s
    | some m =>
      let c1 : Conn := { c with msgs := c.msgs.filter (fun x => x.msn ≠ msn), tx := c.tx.filter (fun t => t.msn ≠ msn) }
      let s1 := s.setConn n c1
      match m.what with
      | .work k => { s1 with hpt := { s1.hpt with ended := s1.hpt.ended ++ [(n, k, status)] } }
      | .response key => s1.endCmd key
      | _ => s1

/-- A NAK (R325, R339): an unprotected BUSY on a protected connection is a hold-off alone. -/
def State.sprayNakIn (s : State) (n : Nat) (b : List Byte) : State :=
  match s.ready n with
  | none => s.count F.HPT.STAT.COUNT 15
  | some c =>
    if c.kind ≠ 3 ∧ c.kind ≠ 4 then s.count F.HPT.STAT.COUNT 15
    else
      let psn := pkt b 8 4
      let msn := pkt b 12 4
      let cause := pkt b 16 1
      let hold (u : State) : State :=
        let till := s.now + (pkt b 20 4 * 1000 + s.tickNs - 1) / s.tickNs
        u.modifyConn n (fun c => { c with tx := c.tx.map (fun t => if t.psn = psn then { t with holdTill := some till } else t) })
      let plain := !(pkt b 1 1).testBit 0
      let (ok, s0) := s.openPacket (if plain ∧ cause = 1 then { c with ctx := c.ctx.set 1 (c.ctx.getD 1 0 &&& 0x7F) } else c) 3 b
      if ok.isNone then s0.count F.HPT.STAT.COUNT 15
      else match cause with
        | 1 => hold s0
        | 2 => s0.failTx n msn 0x31
        | 3 => s0.failTx n msn 0x30
        | 4 => s0.connError n 5
        | _ => s0

/-! The cache as packets meet it (R324, R325). -/

/-- A packet processed in a context that is present. -/
def State.receive (s : State) : Instr → State
  | .roceSend p => s.roceSendIn p
  | .roceRdmaWrite p => s.roceWriteIn p
  | .roceRdmaReadRequest p => s.roceReadIn p
  | .roceReadResponse p => s.roceResponseIn p
  | .roceAck n psn => (s.count F.HPT.STAT.COUNT 5).roceAcked n psn
  | .roceNak n psn cause => s.roceNakIn n psn cause
  | .roceCnp n => s.roceCnpIn n
  | .sprayPut p => s.sprayDataIn (pkt p.bytes 4 4) 1 p.ce p.bytes
  | .sprayGet p => s.sprayDataIn (pkt p.bytes 4 4) 4 p.ce p.bytes
  | .sprayAck p => s.sprayAckIn (pkt p.bytes 4 4) p.bytes
  | .sprayNak p => s.sprayNakIn (pkt p.bytes 4 4) p.bytes
  | _ => s

/-- Bytes of the miss buffer in use. -/
def State.missBytes (s : State) : Nat := s.qpc.conns.foldl (fun t p => t + p.2.parkedBytes) 0

/-- Fetches outstanding. -/
def State.fetches (s : State) : Nat := (s.qpc.conns.filter (fun p => p.2.fetch.isSome)).length

/-- A packet arrives for a connection (R325): it is processed when the context is present, and parked behind the fetch of
the context, or refused, when it is not. -/
def State.arrive (s : State) (n len : Nat) (i : Instr) (spray : Option (List Byte)) : State :=
  match s.ready n with
  | none => s.count F.HPT.STAT.COUNT 15
  | some c =>
    if n ∈ s.qpc.cached ∧ c.parked = [] then ((s.count F.QPC.STAT.COUNT 0).touch n).receive i
    else
      let s1 := s.count F.QPC.STAT.COUNT 1
      if s.missBytes + len > 2 ^ 21 ∨ c.parkedBytes + len > 65536 then
        let s2 := (s1.count F.HPT.STAT.COUNT 14).event Src.HPT 3 0 n
        match spray with
        | some b => s2.busyFromPacket n b
        | none => s2
      else
        (s1.setConn n { c with
          parked := c.parked ++ [i], parkedBytes := c.parkedBytes + len,
          fetch := if c.fetch.isSome then c.fetch else if s.fetches < 1024 then some s.now else none }).count F.QPC.STAT.COUNT 3

/-- Fetches held back by the limit of 1,024 begin. -/
def State.startFetches (s : State) : State :=
  s.qpc.conns.foldl (fun (t : State) p =>
    if p.2.parked ≠ [] ∧ p.2.fetch.isNone ∧ t.fetches < 1024 then t.modifyConn p.1 (fun c => { c with fetch := some t.now }) else t) s

/-- CONTEXT_FETCH_DONE (R324, R325): the context is present, and the parked packets are processed in arrival order. -/
def execContextFetchDone (conn : Nat) (s : State) : Host.Outcome State Fault Refusal :=
  .next (match s.conn conn with
    | none => s
    | some c =>
      match c.fetch with
      | none => s
      | some since =>
        let s1 := s.setConn conn { c with fetch := none, parked := [], parkedBytes := 0 }
        let s2 := s1.cacheContext conn
        let s3 := if s.now > since + 4 then s2.count F.QPC.STAT.COUNT 7 else s2
        (c.parked.foldl State.receive s3).startFetches)

/-- ROCE_SEND (R313, R328 to R330): a packet of a capsule. -/
def execRoceSend (p : RocePacket) (s : State) : Host.Outcome State Fault Refusal :=
  .next (s.arrive p.conn p.payload.length (.roceSend p) none)

/-- ROCE_RDMA_WRITE (R328). -/
def execRoceRdmaWrite (p : RocePacket) (s : State) : Host.Outcome State Fault Refusal :=
  .next (s.arrive p.conn p.payload.length (.roceRdmaWrite p) none)

/-- ROCE_RDMA_READ_REQUEST (R328). -/
def execRoceRdmaReadRequest (p : RocePacket) (s : State) : Host.Outcome State Fault Refusal :=
  .next (s.arrive p.conn 0 (.roceRdmaReadRequest p) none)

/-- ROCE_READ_RESPONSE (R328). -/
def execRoceReadResponse (p : RocePacket) (s : State) : Host.Outcome State Fault Refusal :=
  .next (s.arrive p.conn p.payload.length (.roceReadResponse p) none)

/-- ROCE_ACK (R329). -/
def execRoceAck (conn psn : Nat) (s : State) : Host.Outcome State Fault Refusal := .next (s.arrive conn 0 (.roceAck conn psn) none)

/-- ROCE_NAK (R329). -/
def execRoceNak (conn psn cause : Nat) (s : State) : Host.Outcome State Fault Refusal :=
  .next (s.arrive conn 0 (.roceNak conn psn cause) none)

/-- ROCE_CNP (R331). -/
def execRoceCnp (conn : Nat) (s : State) : Host.Outcome State Fault Refusal := .next (s.arrive conn 0 (.roceCnp conn) none)

/-- A Spray packet of a TYPE arrives; one whose IP or UDP is malformed, or of another TYPE, is discarded (R336). -/
def State.sprayArrives (s : State) (p : SprayPacket) (typ : Nat) (i : Instr) : State :=
  let s0 := s.count F.HPT.STAT.COUNT 10
  if !p.ipOk ∨ pkt p.bytes 0 1 ≠ 16 + typ ∨ p.bytes.length < 12 then s0.count F.HPT.STAT.COUNT 15
  else s0.arrive (pkt p.bytes 4 4) p.bytes.length i (if typ = 1 ∨ typ = 4 then some p.bytes else none)

/-- SPRAY_PUT (R337). -/
def execSprayPut (p : SprayPacket) (s : State) : Host.Outcome State Fault Refusal := .next (s.sprayArrives p 1 (.sprayPut p))

/-- SPRAY_GET (R343). -/
def execSprayGet (p : SprayPacket) (s : State) : Host.Outcome State Fault Refusal := .next (s.sprayArrives p 4 (.sprayGet p))

/-- SPRAY_ACK (R338, R340, R341). -/
def execSprayAck (p : SprayPacket) (s : State) : Host.Outcome State Fault Refusal := .next (s.sprayArrives p 2 (.sprayAck p))

/-- SPRAY_NAK (R339). -/
def execSprayNak (p : SprayPacket) (s : State) : Host.Outcome State Fault Refusal := .next (s.sprayArrives p 3 (.sprayNak p))

/-- SPRAY_MESSAGE_COMPLETE (R337). -/
def execSprayMessageComplete (conn msn : Nat) (s : State) : Host.Outcome State Fault Refusal := .next (s.completeRx conn msn)

/-- SPRAY_LOSS_TIMEOUT (R335, R340): a packet's TIMEOUT has passed; resent RETRY + 1 times, it puts the connection in
ERROR. -/
def execSprayLossTimeout (conn psn : Nat) (s : State) : Host.Outcome State Fault Refusal :=
  .next (match s.ready conn with
    | none => s
    | some c =>
      match c.tx.find? (fun t => t.psn = psn) with
      | none => s
      | some t =>
        if s.now < t.sent + s.connTimeout c ∨ t.holdTill.isSome then s
        else if t.timeouts + 1 ≥ c.retry + 1 then s.connError conn 1 0x32
        else (s.setConn conn (c.onPath t.path (fun p => p.timeout s.now)).reviveAll).resendPacket conn t (some t.path) (t.timeouts + 1))

/-- BUSY_HOLD_OFF_END (R339, R340): HOLD_US has passed; the packet is resent, and the resend does not count toward RETRY. -/
def execBusyHoldOffEnd (conn psn : Nat) (s : State) : Host.Outcome State Fault Refusal :=
  .next (match s.ready conn with
    | none => s
    | some c =>
      match c.tx.find? (fun t => t.psn = psn) with
      | none => s
      | some t =>
        match t.holdTill with
        | some h => if s.now ≥ h then s.resendPacket conn t none t.timeouts else s
        | none => s)

/-- PATH_REENABLE (R335): a disabled path comes back after 500,000 ticks with weight 1. -/
def execPathReenable (conn path : Nat) (s : State) : Host.Outcome State Fault Refusal :=
  .next (match s.ready conn with
    | none => s
    | some c =>
      match (c.paths[path]?).bind Path.off with
      | some t =>
        if s.now ≥ t + 500000 then s.setConn conn (c.onPath path (fun p => { p with off := none, weight := 1, losses := 0 })) else s
      | none => s)

/-! Work requests (R345 to R347). -/

/-- Requests posted and not completed. -/
def Conn.oldest (c : Conn) : Nat := (c.works.map Work.n).foldl min c.started

/-- A write of HPT.SPRAY_DB (R345). -/
def State.sprayDoorbell (s : State) (n prod : Nat) : State :=
  match s.ready n with
  | none => s
  | some c =>
    if c.kind ≠ 2 ∧ c.kind ≠ 4 then s
    else
      let more := seqDist 32 prod c.posted
      if more + (c.posted - c.oldest) > 2 ^ c.sqLog2 then s.connError n 7
      else s.setConn n { c with posted := c.posted + more }

/-- A descriptor breaks R7 or a field range, or sets TRIG on KIND 2. -/
def descBad (c : Conn) (d : List Byte) : Bool :=
  let f (o n : Nat) : Nat := leNat ((d.drop o).take n)
  !(f 0 1 == 1 || f 0 1 == 2) || decide (f 1 1 ≥ 16) || anySet d 48 16 || decide (f 20 4 > 2 ^ 24) || (c.kind == 2 && f 2 2 != 0)

/-- WORK_REQUEST_START (R346, R347): the request at the head of the ring starts: not while FENCE or ARMED holds it. -/
def execWorkRequestStart (conn : Nat) (s : State) : Host.Outcome State Fault Refusal :=
  .next (match s.ready conn with
    | none => s
    | some c =>
      if c.started ≥ c.posted ∨ (c.kind ≠ 2 ∧ c.kind ≠ 4) then s
      else
        let n := c.started
        let d := s.workDesc c n
        let f (o k : Nat) : Nat := leNat ((d.drop o).take k)
        let flags := f 1 1
        if flags.testBit 1 ∧ c.works ≠ [] then s
        else if flags.testBit 2 ∧ s.trigger (f 40 2) < f 44 4 then s
        else
          let put := f 0 1 == 1
          let c1 : Conn := { c with started := n + 1 }
          let len := f 20 4
          match (if descBad c d || !s.acceptsOp 3 (f 0 1) then none else s.region conn (f 16 4) (f 8 8) len (!put)) with
          | none =>
            let s1 := s.setConn conn { c1 with works := c1.works ++ [⟨n, d, true⟩] }
            { s1 with hpt := { s1.hpt with ended := s1.hpt.ended ++ [(conn, n, 0x35)] } }
          | some a =>
            let c2 : Conn := { c1 with works := c1.works ++ [⟨n, d, false⟩] }
            let imm := if flags.testBit 3 then some (f 28 4) else none
            let reth := rethBytes (f 32 8) (f 24 4) len
            if c.isRoce then
              if put then
                s.roceMessage conn c2 (if imm.isSome then 3 else 2) (.work n)
                  (reth ++ (match imm with | some x => beBytes 4 x | none => [])) (s.load a len) 0
              else s.roceMessage conn c2 4 (.work n) reth [] len
            else if put then s.sprayMessage conn c2 1 (.work n) (f 24 4) (f 32 8) (f 2 2) imm (s.load a len)
            else s.sprayGet conn c2 (.work n) (f 24 4) len (f 32 8) (f 16 4) (f 2 2) (f 8 8))

/-- WORK_REQUEST_COMPLETE (R347, R348): the packets of a PUT are acknowledged, or the data of a GET delivered; the record
and DONE_TAG follow at the next boundary. -/
def execWorkRequestComplete (conn n : Nat) (s : State) : Host.Outcome State Fault Refusal :=
  .next (match s.ready conn with
    | none => s
    | some c =>
      if c.works.any (fun w => w.n == n && w.done) ∧ !s.hpt.ended.any (fun e => e.1 == conn && e.2.1 == n) then
        { s with hpt := { s.hpt with ended := s.hpt.ended ++ [(conn, n, 0)] } }
      else s)

/-! Step 3 (R338, R348, R350). -/

/-- A trigger counter is increased (R327); while the table is off, the increment is lost. -/
def State.addTrigger (s : State) (tag : Nat) : State := if tag = 0 then s else s.setTrigger tag (fun x => x + 1)

/-- The effects of a completed message (R337, R348): its record, its trigger, its capsule. -/
def State.messageEffects (s : State) (n msn : Nat) : State :=
  match s.conn n with
  | none => s
  | some c =>
    match Tab.find c.rx msn with
    | none => s
    | some r =>
      let s1 := s.setConn n { c with rx := Tab.erase c.rx msn }
      if c.kind = 3 ∧ r.rkey = 0 then s1.placeCapsule n r.whole
      else
        let rec_ : HptRecord := { ring := c.cq, tag := msn, status := 0, recv := true, imm := r.imm, trig := r.trig,
                                  conn := n, len := r.len, rkey := r.rkey }
        (if c.kind = 4 ∨ c.kind = 2 then s1.addRecords [rec_] else s1).addTrigger r.trig

/-- The effects of a completed work request: its record, its DONE_TAG. -/
def State.workEffects (s : State) (e : Nat × Nat × Nat) : State :=
  let (n, k, status) := e
  match s.conn n with
  | none => s
  | some c =>
    let s1 := s.setConn n { c with works := c.works.filter (fun w => w.n ≠ k) }
    let s2 := s1.addRecords ((s.workRecord n c k status).toList)
    if status = 0 then s2.addTrigger (leNat (((s.workDesc c k).drop 42).take 2)) else s2

/-- The bytes of a record (R348). -/
def HptRecord.bytes (r : HptRecord) (phase now : Nat) : List Byte :=
  leBytes 4 r.tag ++ leBytes 1 r.status ++ leBytes 1 (phase + r.recv.toNat * 2 + r.imm.isSome.toNat * 4) ++ leBytes 2 r.trig ++
  leBytes 4 r.conn ++ leBytes 4 (r.imm.getD 0) ++ leBytes 4 r.len ++ leBytes 4 r.rkey ++ leBytes 8 now

/-- The records whose ring has room are written, in order. -/
def State.writeRecords (s : State) : State :=
  let l := s.hpt.records
  l.foldl (fun (t : State) r =>
    if t.ringRoom r.ring 0 then
      let k := t.ringProd r.ring
      ((t.storeBy Src.HPT (t.ringSlot r.ring 32 k) (r.bytes (phaseOf (t.ringSize r.ring) k) t.now)).put (F.HPT.RING_PROD.COUNT.nth r.ring)
        (k + 1)).irqEdge (256 + r.ring)
    else t.addRecords [r]) { s with hpt := { s.hpt with records := [] } }

/-- TRIG_CMD writes (R350): 1 set, 2 add. -/
def State.applyTrig (s : State) (w : Nat × Nat × Nat) : State :=
  let (op, tag, value) := w
  s.setTrigger tag (fun x => if op = 1 then value else x + value)

/-- The ACKs that are due (R338): one per connection. -/
def State.sendAcks (s : State) : State :=
  s.qpc.conns.foldl (fun (t : State) p =>
    match p.2.ackPath, t.ready p.1 with
    | some path, some c =>
      let cum := c.cumPsn
      let sack := (List.range 64).foldl (fun (a : Nat) i => if (cum + 1 + i) % 2 ^ 32 ∈ c.above then a + 2 ^ i else a) 0
      let c1 : Conn := { c with ackPath := none, ce := 0, cum := cum }
      (t.setConn p.1 c1).sprayControl p.1 c1 2 path (beBytes 4 cum ++ beBytes 4 c.done ++ beBytes 8 sack ++ beBytes 2 c.ce ++ beBytes 6 0)
    | _, _ => t) s

/-- Step 3 applies transport results in the order of R350, ahead of the QPC command. -/
def State.transportResults (s : State) : State :=
  let order (l : List (Nat × Nat)) : List (Nat × Nat) :=
    (l.foldl (fun (m : Tab (Nat × Nat)) x => Tab.insert m (x.1 * 2 ^ 32 + x.2) x) []).map Prod.snd
  let done := order s.hpt.completed
  let ends := s.hpt.ended
  let trigs := s.hpt.trig
  let s0 : State := { s with hpt := { s.hpt with completed := [], ended := [], trig := [] } }
  let s1 := done.foldl (fun (t : State) x => t.messageEffects x.1 x.2) s0
  let s2 := ends.foldl State.workEffects s1
  let s3 := trigs.foldl State.applyTrig s2
  s3.writeRecords.runQpcCommand.sendAcks

end Sys2Proof.Machine
end

