-- ==== Sys2Proof/Machine/Controllers.lean ====
section
/-!
DEFINITION. Machine/Controllers.lean: virtual controllers (chapter 10): the commands of R355, the states of R363, and the
move of a controller to the peer (R364 to R370).
-/

namespace Sys2Proof.Machine

/-! Descriptors (R352, R356). -/

/-- The descriptor and the attachment map of an index, as DDR holds them. -/
def State.descAt (s : State) (v : Nat) : List Byte :=
  (s.loadBy Src.VCT (s.fld F.VCT.DESC_BASE.ADDR * 2 ^ 20 + 1024 * v) 1024).getD []
def State.nsmapAt (s : State) (v : Nat) : List Byte :=
  (s.loadBy Src.VCT (s.fld F.VCT.NSMAP_BASE.ADDR * 2 ^ 20 + 2048 * v) 2048).getD []

/-- A descriptor keeps R7 and the field ranges of R352. -/
def descriptorOk (d : List Byte) : Bool :=
  let f (o n : Nat) : Nat := leNat ((d.drop o).take n)
  decide (1 ≤ f 0 2 ∧ f 0 2 ≤ 0xFFEF) && decide (f 2 1 < 4) && f 3 1 == 0 && decide (1 ≤ f 26 2 ∧ f 26 2 ≤ 1024) &&
    decide (1 ≤ f 29 1 ∧ f 29 1 ≤ 16) && decide (1 ≤ f 30 2 ∧ f 30 2 ≤ 4096) && !anySet d 40 216 && !anySet d 768 256

def Vc.qbase (v : Vc) : Nat := v.field 24 2
def Vc.ipFirst (v : Vc) : Nat := v.field 28 1
def Vc.ipCount (v : Vc) : Nat := v.field 29 1

/-- Two ranges share a number. -/
def rangesMeet (a n b m : Nat) : Bool := decide (a < b + m) && decide (b < a + n)

/-- The virtual controllers that are not FREE, but one. -/
def State.otherVcs (s : State) (v : Nat) : List Vc := (s.vct.vcs.filter (fun p => p.1 ≠ v ∧ p.2.state ≠ .free)).map Prod.snd

/-- A queue range is refused (R356). -/
def State.noQueues (s : State) (v qbase qcount : Nat) : Bool :=
  decide (qbase + qcount > s.fld F.VCT.CONFIG.QPOOL) || (s.otherVcs v).any (fun x => rangesMeet qbase qcount x.qbase x.qcount)

/-- An IP range is refused (R356). -/
def State.ipClash (s : State) (v first count : Nat) : Bool :=
  decide (first + count > 256) || (s.otherVcs v).any (fun x => rangesMeet first count x.ipFirst x.ipCount)

/-- An index is FREE. -/
def State.vcFree (s : State) (v : Nat) : Bool := (s.vc v).all (fun x => x.state == .free)

/-- The fields an UPDATE may not change (R356). -/
def fixedFields (d : List Byte) : List Byte :=
  d.take 2 ++ [d.getD 2 0 &&& 1] ++ (d.drop 8).take 22 ++ (d.drop 256).take 512

/-! Commands (R355 to R358, R364). -/

/-- CREATE. -/
def State.vcCreate (s : State) (v : Nat) : State × Nat :=
  let d := s.descAt v
  let vgen := (((s.vc v).map Vc.vgen).getD 0 + 1) % 65536
  let x : Vc := { state := .active, vgen := vgen, desc := d, nsmap := s.nsmapAt v, c := 0, y := 0, assoc := none, resetting := false }
  let x : Vc := { x with c := x.cmdDepth, y := x.byteDepth }
  if !s.vcFree v then (s, 2)
  else if !descriptorOk d then (s, 1)
  else if s.inFlight v ≠ [] then (s, 5)
  else if s.noQueues v x.qbase x.qcount then (s, 3)
  else if s.ipClash v x.ipFirst x.ipCount then (s, 4)
  else (({ s with vct := { s.vct with vcs := Tab.insert s.vct.vcs v x } } : State).tellVc v, 0)

/-- UPDATE: the live fields and the attachment map; the namespaces whose attachment changes are told to the host (R357). -/
def State.vcUpdate (s : State) (v : Nat) : State × Nat :=
  match s.vc v with
  | none => (s, 2)
  | some x =>
    let d := s.descAt v
    if x.state ≠ .active then (s, 2)
    else if !descriptorOk d ∨ fixedFields d ≠ fixedFields x.desc then (s, 1)
    else
      let y : Vc := { x with desc := d, nsmap := s.nsmapAt v }
      let diff := (Tab.keys s.cmf.ns).filter (fun n => x.attached n != y.attached n)
      let y1 : Vc := { y with assoc := y.assoc.map (fun a => { a with changed := a.changed ++ diff }) }
      let s1 : State := { s with vct := { s.vct with vcs := Tab.insert s.vct.vcs v y1 } }
      (if diff = [] then s1 else { s1 with cmf := { s1.cmf with notices := s1.cmf.notices ++ [(v, 0x040002)] } }, 0)

/-- The connections of a virtual controller's queues close as if lost (R358). -/
def State.closeConns (s : State) (v : Nat) : State :=
  (s.qpc.conns.filter (fun p => p.2.isNvme && p.2.vcOf == v && !p.2.failed)).foldl (fun (t : State) p =>
    (t.modifyConn p.1 (fun c => { c with failed := true })).count F.QPC.STAT.COUNT 6) s

/-- RESET and DESTROY. -/
def State.vcReset (s : State) (v : Nat) (destroy : Bool) : State × Nat :=
  match s.vc v with
  | none => (s, 2)
  | some x =>
    if x.state ≠ .active then (s, 2)
    else
      let s1 := s.controllerReset v
      (if destroy then ((s1.closeConns v).modifyVc v (fun x => { x with state := .draining })).tellVc v else s1, 0)

/-- MOVE (R364). -/
def State.vcMove (s : State) (v : Nat) : State × Nat :=
  match s.vc v with
  | none => (s, 2)
  | some x =>
    if s.vct.move.isSome then (s, 5)
    else if x.state ≠ .active ∨ s.lcs.mode ≠ .dualActive ∨ s.rfl.link ≠ .up then (s, 2)
    else
      let m : Move := { vc := v, target := s.fld F.VCT.ARG.TARGET_VC, qbase := s.fld F.VCT.ARG.TARGET_QBASE, since := s.now }
      let s1 : State := { s with vct := { s.vct with move := some m } }
      let s2 := (s1.modifyVc v (fun x => { x with state := .quiescing })).tellVc v
      ((s2.put F.VCT.MOVE_STATUS.ACTIVE 1).put F.VCT.MOVE_STATUS.SEALED 0, 0)

/-- The command executes in step 3 of the boundary after its write (R355). -/
def State.runVcCommand (s : State) : State :=
  match s.vct.command with
  | none => s
  | some op =>
    let v := s.fld F.VCT.ARG.VC
    let s0 := ({ s with vct := { s.vct with command := none } } : State).put F.VCT.CMD_STATUS.BUSY 0
    let read (t : State) : State := (t.noteRead Src.VCT (t.fld F.VCT.DESC_BASE.ADDR * 2 ^ 20 + 1024 * v) 1024).noteRead
      Src.VCT (t.fld F.VCT.NSMAP_BASE.ADDR * 2 ^ 20 + 2048 * v) 2048
    let (s1, r) :=
      if v ≥ s.fld F.VCT.CONFIG.VC_MAX then (s0, 1)
      else match op with
        | 1 => (read s0).vcCreate v
        | 2 => (read s0).vcUpdate v
        | 3 => s0.vcReset v false
        | 4 => s0.vcReset v true
        | _ => s0.vcMove v
    (s1.put F.VCT.CMD_STATUS.RESULT r).event Src.VCT 0 v

/-- VC_FREED (R358, R363): nothing of a DRAINING controller is in flight: its index is FREE. -/
def execVcFreed (vc : Nat) (s : State) : Host.Outcome State Fault Refusal :=
  .next (match s.vc vc with
    | none => s
    | some x =>
      if x.state = .draining ∧ s.inFlight vc = [] then
        ((s.modifyVc vc (fun x => { x with state := .free, assoc := none, resetting := false })).tellVc vc).event Src.VCT 1 vc
      else s)

/-! The saved-state record (R366, R367). -/

/-- Zeros that fill up to a multiple of 64 bytes. -/
def pad64 (b : List Byte) : List Byte := padTo ((b.length + 63) / 64 * 64) b

/-- The live queues of a virtual controller, admin queue first. -/
def State.liveQueues (s : State) (v : Nat) : List (Nat × Queue) :=
  (s.cmf.queues.filter (fun p => p.1 / 2048 = v ∧ p.2.live)).map (fun p => (p.1 % 2048, p.2))

/-- An HPT.IP entry: ADDR_LO, ADDR_HI, CTL and 8 reserved bytes. -/
def State.ipEntry (s : State) (e : Nat) : List Byte :=
  leBytes 8 (s.reg ((F.HPT.IP_ADDR_LO.ADDR.nth e).addr)).toNat ++ leBytes 8 (s.reg ((F.HPT.IP_ADDR_HI.ADDR.nth e).addr)).toNat ++
  leBytes 8 (s.reg ((F.HPT.IP_CTL.VALID.nth e).addr)).toNat ++ leBytes 8 0

/-- Ticks left of the Keep Alive timer; 0 when none runs. -/
def State.keepAliveLeft (s : State) (a : Assoc) : Nat := if a.kato = 0 then 0 else max 1 (s.katoTicks a - a.kaTicks)

/-- The saved-state record of a virtual controller. -/
def State.vcRecord (s : State) (v : Nat) (x : Vc) : List Byte :=
  let qs := s.liveQueues v
  let ctxs := qs.map (fun q => ((s.conn q.2.conn).map Conn.contextBytes).getD (List.replicate 512 0))
  let caps := qs.flatMap (fun q => (Tab.getD s.cmf.caps q.2.conn []).map (fun c => (q.1, c.bytes)))
  let aers := match x.assoc with
    | some a => a.aers.map (fun k => ((s.cmd k).map Cmd.cid).getD 0)
    | none => []
  let body := x.desc ++ x.nsmap ++ (List.range x.ipCount).flatMap (fun i => s.ipEntry (x.ipFirst + i)) ++
    qs.flatMap (fun q => layout 32 [(0, leBytes 2 q.1), (2, leBytes 2 q.2.qgen), (4, leBytes 4 q.2.conn), (8, leBytes 2 q.2.sqsize),
      (10, leBytes 2 q.2.sqhd), (12, leBytes 1 q.2.fcOff.toNat)]) ++ ctxs.flatten ++
    caps.flatMap (fun c => layout 16 [(0, leBytes 2 c.1), (2, leBytes 2 c.2.length)] ++ pad64 c.2)
  let header (crc : Nat) : List Byte := layout 128 [
    (0, leBytes 2 0x5643), (2, leBytes 1 1), (3, leBytes 1 x.assoc.isSome.toNat), (4, leBytes 2 v), (6, leBytes 2 x.vgen),
    (8, leBytes 2 qs.length), (10, leBytes 2 qs.length), (12, leBytes 4 caps.length), (16, leBytes 4 (128 + body.length)),
    (20, leBytes 4 ((x.assoc.map s.keepAliveLeft).getD 0)), (24, leBytes 8 s.now), (32, aers.flatMap (leBytes 2)),
    (40, leBytes 1 aers.length), (44, leBytes 4 ((x.assoc.map Assoc.aec).getD 0)),
    (48, leBytes 4 (((x.assoc.bind (fun a => a.events.head?))).getD 0)), (124, leBytes 4 crc)]
  header (crc32c (header 0 ++ body)) ++ body

/-- The IP entries of a virtual controller made valid or invalid. -/
def State.setIps (s : State) (x : Vc) (valid : Nat) : State :=
  (List.range x.ipCount).foldl (fun (t : State) i => t.put (F.HPT.IP_CTL.VALID.nth (x.ipFirst + i)) valid) s

/-- The connections of a virtual controller's queues held, or let go. -/
def State.freezeConns (s : State) (v : Nat) (hold : Bool) : State :=
  (s.liveQueues v).foldl (fun (t : State) q => t.modifyConn q.2.conn (fun c => { c with frozen := hold })) s

/-- VC_SEAL (R366): nothing of a QUIESCING controller is in flight: its record is built and sent. -/
def execVcSeal (vc : Nat) (s : State) : Host.Outcome State Fault Refusal :=
  .next (match s.vc vc with
    | none => s
    | some x =>
      if x.state = .quiescing ∧ s.vct.move.any (fun m => m.vc == vc) ∧ s.inFlight vc = [] then
        let r := s.vcRecord vc x
        let s1 := (s.storeBy Src.VCT (s.fld F.VCT.SAVE_ADDR.ADDR * 64) r).setIps x 0
        let s2 := (s1.freezeConns vc true).modifyVc vc (fun x => { x with state := .sealed })
        ((s2.tellVc vc).put F.VCT.MOVE_STATUS.SEALED 1).reflectSend (reflectFrames r.length) (.vcRecord r)
      else s)

/-- FREEZE_TIMEOUT (R363): quiescence has lasted FREEZE_MAX ticks: admission resumes. -/
def execFreezeTimeout (s : State) : Host.Outcome State Fault Refusal :=
  .next (match s.vct.move with
    | none => s
    | some m =>
      match s.vc m.vc with
      | some x =>
        if x.state = .quiescing ∧ s.now ≥ m.since + s.fld F.VCT.MOVE_CTL.FREEZE_MAX then
          ((s.endMoveWith m.vc 1).modifyVc m.vc (fun x => { x with state := .active })).tellVc m.vc
        else s
      | none => s)

/-! The target (R368, R369). -/

/-- The parts of a record: descriptor, IP entries, queue entries, contexts, capsules. -/
structure RecordParts where
  desc : List Byte
  nsmap : List Byte
  ips : List (List Byte)
  queues : List (List Byte)
  ctxs : List (List Byte)
  caps : List (Nat × List Byte)
  capsOk : Bool
  /-- Bytes the parts take. -/
  total : Nat

/-- Capsule entries: queue and bytes; whether every reserved byte is zero, and the bytes they take. -/
def capEntries : Nat → List Byte → List (Nat × List Byte) × Bool × Nat
  | 0, _ => ([], true, 0)
  | n + 1, b =>
    let len := leNat ((b.drop 2).take 2)
    let size := 16 + (len + 63) / 64 * 64
    let (rest, ok, t) := capEntries n (b.drop size)
    ((leNat (b.take 2), (b.drop 16).take len) :: rest, ok && !anySet b 4 12, size + t)

/-- A record read. -/
def readParts (b : List Byte) : RecordParts :=
  let f (o n : Nat) : Nat := leNat ((b.drop o).take n)
  let nq := f 8 2
  let nconn := f 10 2
  let ipn := f (128 + 29) 1
  let at1 := 128 + 1024 + 2048
  let at2 := at1 + 32 * ipn
  let at3 := at2 + 32 * nq
  let at4 := at3 + 512 * nconn
  let (caps, ok, n) := capEntries (f 12 4) (b.drop at4)
  let cut (o k w : Nat) : List (List Byte) := (List.range k).map (fun i => (b.drop (o + w * i)).take w)
  { desc := (b.drop 128).take 1024, nsmap := (b.drop 1152).take 2048, ips := cut at1 ipn 32, queues := cut at2 nq 32,
    ctxs := cut at3 nconn 512, caps := caps, capsOk := ok, total := at4 + n }

/-- The connection of a queue entry. -/
def entryConn (q : List Byte) : Nat := leNat ((q.drop 4).take 4)

/-- The first cause of R368 that applies; 0 for none. -/
def State.refusalCause (s : State) (target qbase : Nat) (b : List Byte) : Nat :=
  let f (o n : Nat) : Nat := leNat ((b.drop o).take n)
  if b.length < 128 + 1024 + 2048 ∨ f 16 4 > s.fld F.VCT.RESTORE_BUF.SIZE_64K * 65536 ∨ b.length ≠ f 16 4 then 1
  else if f 12 4 > b.length ∨ (readParts b).total ≠ f 16 4 ∨ f 8 2 ≠ f 10 2 then 1
  else
    let p := readParts b
    let zeroed := b.take 124 ++ List.replicate 4 0 ++ b.drop 128
    let reserved := decide (f 3 1 ≥ 2) || decide (f 4 2 ≥ 1024) || decide (f 40 1 ≥ 8) || anySet b 41 3 || anySet b 52 72 ||
      p.queues.any (fun q => decide (leNat ((q.drop 12).take 1) ≥ 2) || anySet q 13 19 || decide (entryConn q ≥ 2 ^ 17)) ||
      p.ips.any (fun e => anySet e 24 8) || !p.capsOk
    if f 0 2 ≠ 0x5643 ∨ f 2 1 ≠ 1 ∨ f 124 4 ≠ crc32c zeroed ∨ reserved then 2
    else if s.lcs.mode ≠ .dualActive ∨ s.fld F.VCT.RESTORE_BUF.EN = 0 then 3
    else if !s.vcFree target ∨ target ≥ s.fld F.VCT.CONFIG.VC_MAX ∨ s.inFlight target ≠ [] then 4
    else
      let d (o n : Nat) : Nat := leNat ((p.desc.drop o).take n)
      let ipPort (e : List Byte) : Nat := leNat ((e.drop 16).take 1) % 32
      if s.noQueues target qbase (d 26 2) then 5
      else if p.queues.any (fun q => (s.conn (entryConn q)).isSome) then 6
      else if (List.range (d 29 1)).any (fun i => s.flag (F.HPT.IP_CTL.VALID.nth (d 28 1 + i))) then 7
      else if p.ips.any (fun e => !s.portUp (ipPort e)) ∨ p.ctxs.any (fun c => !s.portUp (leNat ((c.drop 1).take 1) % 32)) then 8
      else 0

/-- VC_RECORD_RECEIVED (R368): a record that has wholly arrived is checked, and refused or loaded. -/
def execVcRecordReceived (target qbase : Nat) (bytes : List Byte) (s : State) : Host.Outcome State Fault Refusal :=
  .next (
    let src := leNat ((bytes.drop 4).take 2) % 1024
    let vgen := leNat ((bytes.drop 6).take 2)
    let entry (op cause : Nat) : VcEntry :=
      { vc := src, state := 0, op := op, cause := cause, vgen := vgen, target := target, qgen := 0 }
    let cause := s.refusalCause target qbase bytes
    if cause ≠ 0 then (s.tellEntry (entry 3 cause)).count F.VCT.STAT.COUNT 5
    else
      let p := readParts bytes
      let s1 := s.storeBy Src.VCT (s.fld F.VCT.RESTORE_BUF.ADDR * 64) bytes
      let pairs := p.queues.zip p.ctxs
      let s2 := pairs.foldl (fun (t : State) q =>
        let c := t.connFrom q.2
        let ctx := c.ctx.take 6 ++ leBytes 2 target ++ c.ctx.drop 8
        let f (o n : Nat) : Nat := leNat ((q.1.drop o).take n)
        let x : Queue := { live := true, conn := f 4 4, qgen := f 2 2, sqsize := f 8 2, sqhd := f 10 2, fcOff := f 12 1 == 1 }
        let t1 := t.setConn (f 4 4) { c with ctx := ctx, frozen := true }
        { t1 with cmf := { t1.cmf with queues := Tab.insert t1.cmf.queues (queueKey target (f 0 2)) x } }) s1
      let x : Vc := {
        state := .loaded, vgen := ((s.vc target).map Vc.vgen).getD 0, desc := p.desc.take 24 ++ leBytes 2 qbase ++ p.desc.drop 26,
        nsmap := p.nsmap, c := 0, y := 0, assoc := none, resetting := false }
      let x1 : Vc := { x with c := x.cmdDepth, y := x.byteDepth }
      let s3 : State := { s2 with vct := { s2.vct with
        vcs := Tab.insert s2.vct.vcs target x1, loaded := some ⟨target, src, qbase, bytes⟩ } }
      (s3.tellVc target).tellEntry (entry 1 0))

/-- A loaded or moved controller leaves nothing behind: its connections, queues, capsules and outstanding event requests
go. -/
def State.dropVc (s : State) (v : Nat) : State :=
  let conns := (s.liveQueues v).map (fun q => q.2.conn)
  let s1 : State := { s with
    qpc := { s.qpc with
      conns := s.qpc.conns.filter (fun p => p.1 ∉ conns), cached := s.qpc.cached.filter (fun n => n ∉ conns) },
    cmf := { s.cmf with
      caps := s.cmf.caps.filter (fun p => p.1 ∉ conns),
      queues := s.cmf.queues.map (fun p => if p.1 / 2048 = v then (p.1, { p.2 with live := false }) else p),
      cmds := s.cmf.cmds.filter (fun p => !(p.2.vc == v && p.2.fromPeer.isNone && p.2.waitsEvent)) } }
  (s1.modifyVc v (fun x => { x with state := .free, assoc := none, resetting := false })).tellVc v

/-- READY is applied by the source (R369): the controller is FREE here, and COMMIT is formed. -/
def State.applyReady (s : State) (src target : Nat) : State :=
  match s.vc src, s.vct.move with
  | some x, some m =>
    if x.state = .sealed ∧ m.vc = src ∧ m.target = target then
      ((s.endMoveWith src 0).dropVc src).tellEntry
        { vc := src, state := 0, op := 2, cause := 0, vgen := x.vgen, target := target, qgen := 0 }
    else s
  | _, _ => s

/-- The source takes a sealed controller back (R370): RESULT 2 REFUSED with its cause, or 4 PEER_LOST. -/
def State.unseal (s : State) (src result cause : Nat) : State :=
  match s.vc src with
  | none => s
  | some x =>
    if x.state ≠ .sealed then s
    else
      let s1 := ((s.endMoveWith src result).put F.VCT.MOVE_STATUS.CAUSE cause).setIps x 1
      ((s1.freezeConns src false).modifyVc src (fun x => { x with state := .active })).tellVc src

/-- The association a record restores (R369). What the record does not carry is free (assumption 32): the host when the
descriptor allows any, the properties and features, and the Keep Alive timeout beyond the ticks left. -/
def State.restoredAssoc (s : State) (x : Vc) (b : List Byte) : Assoc × State :=
  let f (o n : Nat) : Nat := leNat ((b.drop o).take n)
  let (d, s1) := s.draw
  let left := f 20 4
  let any := (x.field 2 1).testBit 0
  let host := if any then BitVec.ofNat 128 ((Config.freeWord d).toNat * 2 ^ 64 + (Config.freeWord (d + 1)).toNat)
    else BitVec.ofNat 128 (x.field 8 16)
  let kato := if left = 0 then 0 else ((left * s.tickNs + 999999999) / 1000000000 + Config.freeNat d) * 1000
  let cc := Config.freeNat (d + 1) % 2 ^ 14
  let a : Assoc := {
    host := host, nqn := if any then [] else (x.desc.drop 512).take 256, cc := cc, ready := cc % 2 == 1, shutDone := false,
    kato := kato, kaTicks := 0, aers := [], events := if f 48 4 = 0 then [] else [f 48 4], aec := f 44 4,
    nq := Config.freeNat (d + 2) % x.qcount, rsvMask := [], errors := [], errCount := 0, changed := [], rsvLog := [],
    rsvCount := 0 }
  ({ a with kaTicks := s.katoTicks a - left }, { s1 with fresh := s1.fresh + 2 })

/-- An Asynchronous Event Request restored with its CID. -/
def State.restoreAer (s : State) (v vgen qgen conn cid : Nat) : State :=
  let key := s.cmf.nextCmd
  let c : Cmd := {
    vc := v, vgen := vgen, qid := 0, qgen := qgen, conn := conn, sqe := layout 64 [(0, [0x0C]), (2, leBytes 2 cid)], icd := [],
    ns := none, tick := s.now, pos := s.cmf.taken, host := 0, fromPeer := none, toPeer := none, stage := .held, status := 0,
    dw0 := 0, data := [], first := 0, count := 0, ranges := [], reads := [], resolved := false, items := [], recorded := false,
    me := 0, ends := false }
  (s.insertCmd c).modifyAssoc v (fun a => { a with aers := a.aers ++ [key] })

/-- COMMIT is applied by the target (R369): the loaded controller is ACTIVE here. A head in Eclipse never does so (R370). -/
def State.applyCommit (s : State) (src : Nat) : State :=
  match s.vct.loaded with
  | none => s
  | some l =>
    match s.vc l.vc with
    | none => s
    | some x =>
      if l.src ≠ src ∨ x.state ≠ .loaded ∨ s.lcs.mode = .eclipse then s
      else
        let b := l.record
        let f (o n : Nat) : Nat := leNat ((b.drop o).take n)
        let p := readParts b
        let s0 : State := { s with vct := { s.vct with loaded := none } }
        let s1 := p.ips.zipIdx.foldl (fun (t : State) e =>
          let n := x.ipFirst + e.2
          let w (o : Nat) : Word := BitVec.ofNat 64 (leNat ((e.1.drop o).take 8))
          ((t.setReg (F.HPT.IP_ADDR_LO.ADDR.nth n).addr (w 0)).setReg (F.HPT.IP_ADDR_HI.ADDR.nth n).addr (w 8)).setReg
            (F.HPT.IP_CTL.VALID.nth n).addr (w 16 ||| 128)) s0
        let s2 := s1.freezeConns l.vc false
        let vgen := f 6 2
        let (assoc, s3) := if (f 3 1).testBit 0 then (fun (r : Assoc × State) => (some r.1, r.2)) (s2.restoredAssoc x b) else (none, s2)
        let s4 := (s3.modifyVc l.vc (fun x => { x with state := .active, vgen := vgen, assoc := assoc })).tellVc l.vc
        let admin := (s4.queue l.vc 0).getD { live := false, conn := 0, qgen := 0, sqsize := 0, sqhd := 0, fcOff := false }
        let s5 := (List.range (f 40 1 % 8)).foldl (fun (t : State) i =>
          t.restoreAer l.vc vgen admin.qgen admin.conn (f (32 + 2 * i) 2)) s4
        let caps := p.caps.reverse.foldl (fun (m : Tab (List Capsule)) c =>
          match s5.queue l.vc c.1 with
          | some q => Tab.insert m q.conn (⟨c.2, none⟩ :: Tab.getD m q.conn [])
          | none => m) s5.cmf.caps
        let s6 : State := { s5 with cmf := { s5.cmf with caps := caps, notices := s5.cmf.notices ++ [(l.vc, 0x0C0302)] } }
        (s6.count F.VCT.STAT.COUNT 3).event Src.VCT 3 l.vc

/-- Peer loss at rank 5 (R363, R370): a sealed controller is taken back, a loaded one discarded. -/
def State.movesLost (s : State) : State :=
  let s1 := match s.vct.move with
    | some m => s.unseal m.vc 4 0
    | none => s
  match s1.vct.loaded with
  | some l => ({ s1 with vct := { s1.vct with loaded := none } } : State).dropVc l.vc
  | none => s1

end Sys2Proof.Machine
end

