-- ==== Sys2Proof/Machine/Stripes.lean ====
section
/-!
DEFINITION. Machine/Stripes.lean: bulk stripes (chapters 05 and 06): placement (R211 to R214), the stripe journal (R215
to R220), rows and their durability (R185 to R188, R193, R205), movements (R160, R187, R190, R195) and erasing.
-/

namespace Sys2Proof.Machine

/-! Placement. -/

/-- G (FTL.CONFIG.DIE_GROUP, R185). -/
def State.groupSize (s : State) : Nat :=
  match s.fld F.FTL.CONFIG.DIE_GROUP with
  | 0 => 4
  | 1 => 8
  | _ => 16

/-- The key of a module for a stripe (R211). -/
def State.placeKey (s : State) (stripe n : Nat) : Nat :=
  crc32c (leBytes 4 (s.fld F.RDN.CONFIG.SEED) ++ leBytes 4 stripe ++ leBytes 4 n)

/-- The die groups of a module: the dies of the side in ascending order, G at a time (R180, R213). -/
def State.dieGroups (s : State) (d : FrnDesc) : List (List Nat) :=
  (chunksOf s.groupSize 128 ((List.range d.dies).filter (fun die => s.drives d die && s.dieSide d die == s.ftl.side))).filter
    (fun g => g.length = s.groupSize)

/-- A free block on every die of a group, die slot by die slot (R213). -/
def State.groupBlocks (s : State) (n : Nat) (d : FrnDesc) (group : List Nat) : Option (List (Nat × Nat)) :=
  group.mapM (fun die => if s.dieFailed n die then none else (s.freeBlock n d die).map (fun b => (die, b)))

/-- The dies and blocks a member on a module would take for a stripe (R213). -/
def State.memberDies (s : State) (stripe n : Nat) : Option (List (Nat × Nat)) :=
  match (s.port n).desc with
  | none => none
  | some d =>
    let gs := s.dieGroups d
    if gs = [] then none
    else
      let q := s.placeKey stripe n % gs.length
      (gs.drop q ++ gs.take q).findSome? (s.groupBlocks n d)

/-- RDN of every side held. -/
def State.rdns (s : State) : List Rdn := s.rdn :: (s.other.map Prod.snd).toList

/-- An evacuation of a module is active or queued, on a side held (RDN.MOD_STATE.EVAC, R212). -/
def State.evacuating (s : State) (n : Nat) : Bool :=
  s.rdns.any (fun x => x.evacQueue.contains n || x.reshape.any (fun r => r.kind == 1 && r.module == n))

/-- A module is eligible for a stripe (R212). -/
def State.eligible (s : State) (stripe n : Nat) : Bool :=
  (s.port n).usable && s.fld (F.RDN.MOD_STATE.STATE.nth n) == 0 && s.fld (F.RDN.MOD_STATE.EXCL.nth n) == 0 &&
  !s.reserveGone n && !s.evacuating n && (s.memberDies stripe n).isSome &&
  (match (s.port n).desc with | some d => d.geometryOk | none => false)

/-- Insertion by key, the lower number first on equal keys (R211). -/
def insertByKey (key : Nat → Nat) (n : Nat) : List Nat → List Nat
  | [] => [n]
  | m :: ms => if key n < key m ∨ (key n = key m ∧ n < m) then n :: m :: ms else m :: insertByKey key n ms

/-- The modules in ascending key order (R211). -/
def State.keyOrder (s : State) (stripe : Nat) : List Nat :=
  (Tab.keys s.frn.ports).foldl (fun l n => insertByKey (s.placeKey stripe) n l) []

/-- The modules taken in key order under the cap on each domain (R211), with `have_` modules counted already. -/
def State.choose (s : State) (stripe cap : Nat) (held : List Nat) : Nat → List Nat → List Nat
  | 0, _ => []
  | _, [] => []
  | w + 1, n :: ns =>
    if s.eligible stripe n && n ∉ held && decide ((held.filter (fun m => s.domain m = s.domain n)).length < cap) then
      n :: s.choose stripe cap (held ++ [n]) w ns
    else s.choose stripe cap held (w + 1) ns

/-- The cap on members in a domain (R211). -/
def State.domainCap (s : State) (stripe w : Nat) : Nat :=
  let doms := (((Tab.keys s.frn.ports).filter (s.eligible stripe)).map s.domain).dedup
  if w ≤ doms.length then 1 else 2

/-- D of a new stripe (R211): during a geometry reshape its target. -/
def State.newD (s : State) : Nat :=
  ((s.rdns.findSome? (fun x => x.reshape.filter (fun r => r.kind == 0))).map Reshape.newD).getD (s.fld F.RDN.GEOM.D)

/-- The members of a new stripe: data members, then P, then Q (R211). -/
def State.placement (s : State) (stripe : Nat) : Option (List Nat) :=
  let w := s.newD + 2
  let chosen := s.choose stripe (s.domainCap stripe w) [] w (s.keyOrder stripe)
  if chosen.length = w then some chosen else none

/-- Members a module could give to further stripes: over its die groups, the fewest free blocks of a die. -/
def State.formableOn (s : State) (n : Nat) : Nat :=
  match (s.port n).desc with
  | none => 0
  | some d =>
    if s.eligible 0 n then
      (s.dieGroups d).foldl (fun t g =>
        t + (g.map (fun die => (s.freeBlocks n d die).length)).foldl min d.blocks) 0
    else 0

/-- k stripes can be formed: each takes a module once, and a domain as often as the cap allows (assumption 15). -/
def canForm (counts : List (Nat × Nat)) (w cap k : Nat) : Bool :=
  let doms := (counts.map Prod.fst).dedup
  let total := doms.foldl (fun t dm =>
    t + min (cap * k) ((counts.filter (fun p => p.1 = dm)).foldl (fun u p => u + min k p.2) 0)) 0
  decide (total ≥ k * w)

/-- The free stripes the head can form (R194). -/
def State.freeStripes (s : State) : Nat :=
  let w := s.newD + 2
  let counts := (Tab.keys s.frn.ports).map (fun n => (s.domain n, s.formableOn n))
  let cap := s.domainCap 0 w
  (List.range 20).foldl (fun k i =>
    let b := 2 ^ (19 - i)
    if canForm counts w cap (k + b) then k + b else k) 0

/-! The stripe journal (R215 to R219). -/

/-- A stripe-journal record is formed (R216). -/
def State.formSj (s : State) (stripe : Nat) (body : SjBody) : State :=
  let n := s.rdn.sseq + 1
  let r : SjRec := { sseq := n, stripe := stripe, body := body, epoch := s.frnEpoch, copy0 := .waiting, copy1 := .waiting,
                     delta := none, handed := false }
  { s with rdn := { s.rdn with sseq := n, journal := s.rdn.journal ++ [r] } }

/-- The body of an OPEN record is the stripe's descriptor; of a MEMBER record with OP 2 the replacement's dies (R217). -/
def State.sjBody (s : State) (r : SjRec) : List Byte :=
  match r.body with
  | .open_ _ => match Tab.find s.ftl.stripes r.stripe with | some x => x.encode r.stripe | none => []
  | .member m 2 _ =>
    match Tab.find s.ftl.stripes r.stripe with
    | some x => match (x.members.getD m ⟨0, [], false, none⟩).repl with
      | some (_, dies, _) => dies.flatMap (fun p => leBytes 4 (dieWord p))
      | none => []
    | none => []
  | _ => []

/-- A stripe-journal record is durable (R215). -/
def SjRec.durable (r : SjRec) : Bool := r.copy0 == .ok && r.copy1 == .ok

/-- The state of copy 0 or 1 of a record. -/
def SjRec.copyState (r : SjRec) (copy : Nat) : CopyState := if copy = 0 then r.copy0 else r.copy1

/-- A copy of a record given a state. -/
def SjRec.setCopy (r : SjRec) (copy : Nat) (c : CopyState) : SjRec :=
  if copy = 0 then { r with copy0 := c } else { r with copy1 := c }

/-- Records of the stripe journal changed. -/
def State.mapSj (s : State) (f : SjRec → SjRec) : State :=
  { s with rdn := { s.rdn with journal := s.rdn.journal.map f } }

/-- Two eligible modules of different domains, and a die of each for the stripe-journal pair (R215, R220). -/
def State.sjPairDies (s : State) (need : Nat) : Option ((Nat × Nat) × (Nat × Nat)) :=
  let dies := (s.usableDies.filter (s.canTake 2 need)).filter (fun p => s.eligible 0 p.1)
  let ok := dies.filter (fun p => dies.any (fun q => s.domain q.1 != s.domain p.1))
  match s.leastBusy ok with
  | none => none
  | some a => (s.leastBusy (dies.filter (fun q => s.domain q.1 ≠ s.domain a.1))).map (fun b => (a, b))

/-- A pair is the stripe-journal pair from now on; the one before is left behind with the stripes closed in it (R220), and an
anchor page is due (R215). -/
def State.setSjPair (s : State) (k0 k1 : Nat) : State :=
  let old := (s.rdn.pair.map (fun p => (⟨p.1, p.2, s.rdn.closed⟩ : SjOld))).toList
  { s with
    rdn := { s.rdn with pair := some (k0, k1), oldPairs := s.rdn.oldPairs ++ old, closed := [] }
    ftl := { s.ftl with anchorDue := true } }

/-- A new stripe-journal pair is opened. -/
def State.openSjPair (s : State) (need : Nat) : Option ((Nat × Nat) × State) :=
  match s.sjPairDies need with
  | none => none
  | some (a, b) =>
    match s.openBlock 2 need a.1 a.2 with
    | none => none
    | some (k0, s1) =>
      match s1.openBlock 2 need b.1 b.2 with
      | none => none
      | some (k1, s2) => some ((k0, k1), s2.setSjPair k0 k1)

/-- A block of the pair that has been retired after a failed program gives place to one of another domain than the other
block's; while none can be had, UNPLACEABLE (R168, R215). -/
def State.repairSjPair (s : State) (need : Nat) : State :=
  match s.rdn.pair with
  | none => s
  | some (k0, k1) =>
    let gone (k : Nat) : Bool := (s.blockWear k).retired
    if gone k0 = gone k1 then s
    else
      let other := if gone k0 then k1 else k0
      let dies := (s.usableDies.filter (s.canTake 2 need)).filter (fun p =>
        s.eligible 0 p.1 && s.domain p.1 != s.domain (keyPort other))
      match (s.leastBusy dies).bind (fun d => s.openBlock 2 need d.1 d.2) with
      | none => s.event Src.FTL 4
      | some (k, s1) => if gone k0 then s1.setSjPair k k1 else s1.setSjPair k0 k

/-- The pair for some bytes: the present one while it has room and neither block has failed, or the first. A pair that is full is
left by SJ_PAIR_MOVE. -/
def State.sjPair (s : State) (need : Nat) : Option ((Nat × Nat) × State) :=
  match s.rdn.pair with
  | none => s.openSjPair need
  | some (k0, k1) =>
    if [k0, k1].all (fun k => !(s.blockWear k).retired && decide (s.blockFill k + need ≤ s.slcSize (keyPort k))) then
      some ((k0, k1), s)
    else none

/-- Stripe-journal records that follow one another while they fit. -/
def takeSj (room : Nat) : List (Nat × List Byte) → List (Nat × List Byte)
  | [] => []
  | r :: rs => if r.2.length ≤ room then r :: takeSj (room - r.2.length) rs else []

/-- The waiting records of a copy are programmed (R215), and while a restatement is not durable, on the surviving block of
the pair left too (R220). -/
def State.programSjCopy (s : State) (copy : Nat) : Nat → State
  | 0 => s
  | fuel + 1 =>
    let waiting := s.rdn.journal.filter (fun r => r.copyState copy = .waiting)
    match takeSj 65536 (waiting.map (fun r => (r.sseq, r.encode s.tck.headSlot (s.sjBody r)))) with
    | [] => s
    | rs =>
      let bytes := rs.map Prod.snd
      let seqs := rs.map Prod.fst
      match s.sjPair (pagesFor ((bytes.map List.length).foldl (· + ·) 0) * 16384) with
      | none => s
      | some ((k0, k1), s1) =>
        let (_, s2) := s1.programImage (if copy = 0 then k0 else k1) 2 bytes 0 (.sjournal seqs copy) true
        let s3 := match s2.rdn.survivor with
          | some k => if copy = 0 then (s2.programImage k 2 bytes 0 (.sjournal seqs 2) true).2 else s2
          | none => s2
        (s3.mapSj (fun (r : SjRec) =>
          if r.sseq ∈ seqs ∧ r.copyState copy = .waiting then r.setCopy copy .sent else r)).programSjCopy copy fuel

/-- The stripe-journal pages of a boundary (R215). -/
def State.programSj (s : State) : State :=
  let k := s.rdn.journal.length
  let s1 := if k = 0 then s else s.repairSjPair 16384
  (s1.programSjCopy 0 k).programSjCopy 1 k

/-- The result of a stripe-journal page (R168, R215): a failed copy waits to be programmed again, in another block once its own is
retired. -/
def State.sjResult (s : State) (port : Nat) (c : FrnCmd) (seqs : List Nat) (copy : Nat) (r : Option Rsp) : State :=
  if copy ≥ 2 then (if r.any (fun x => x.status == 1) then s.retireBlock (blockKey port c.die c.block) 1 else s)
  else match r with
    | some x =>
      if x.status = 0 then
        s.mapSj (fun (q : SjRec) => if q.sseq ∈ seqs then q.setCopy copy .ok else q)
      else if x.status = 4 then s
      else
        let key := blockKey port c.die c.block
        ((s.retireBlock key 1).setBlockState key 2).mapSj
          (fun (q : SjRec) => if q.sseq ∈ seqs then q.setCopy copy .waiting else q)
    | none => s.mapSj (fun (q : SjRec) => if q.sseq ∈ seqs then q.setCopy copy .waiting else q)

/-! Stripes. -/

/-- A stripe changed. -/
def State.modifyStripe (s : State) (id : Nat) (f : Stripe → Stripe) : State :=
  { s with ftl := { s.ftl with stripes := Tab.modify s.ftl.stripes id f } }

/-- D of a stripe. -/
def Stripe.dataMembers (x : Stripe) : Nat := x.members.length - 2

/-- The number of the next stripe to open: one that no stripe has. -/
def State.stripeNumber (s : State) : Nat :=
  match (List.range (s.ftl.stripes.length + 1)).find? (fun i =>
    (Tab.find s.ftl.stripes ((s.ftl.nextStripe + i) % 2 ^ 20)).isNone) with
  | some i => (s.ftl.nextStripe + i) % 2 ^ 20
  | none => s.ftl.nextStripe % 2 ^ 20

/-- A stripe is opened (R185, R211, R218): its UNIT item, OPEN record and first INTENT. When placement fails no stripe is
opened (R214), and none whose data space would exceed 8 GiB (R185, assumption 63). -/
def State.openStripe (s : State) (cls : Nat) : Option Nat × State :=
  let id := s.stripeNumber
  let fail := s.event Src.RDN 9 id
  match s.placement id with
  | none => (none, fail)
  | some mods =>
    match mods.mapM (fun n => (s.memberDies id n).map (fun ds => (n, ds))) with
    | none => (none, fail)
    | some ms =>
      let rows := (mods.map (fun n => ((s.port n).desc.map FrnDesc.pages).getD 0)).foldl min 4096
      let g := s.groupSize
      let keys := ms.flatMap (fun m => m.2.map (fun p => blockKey m.1 p.1 p.2))
      let cols := (mods.length - 2) * (g - 1)
      if cols * rows * 16384 > 2 ^ 33 then (none, fail) else
      let limit := min rows (s.fld F.RDN.SJ_CTL.AHEAD)
      let x : Stripe := {
        state := 1, cls := cls, g := g,
        members := ms.map (fun m => { module := m.1, dies := m.2, failed := false, repl := none }),
        rows := rows, blockSize := rows * 16384, rowsDone := 0, rowsSent := 0, intent := limit, sentLimit := 0,
        erases := (keys.map (fun k => (s.blockWear k).erases8 / 8)).foldl max 0, valid := 0, openTick := s.now,
        fill := List.replicate cols 0, buf := List.replicate cols [], starts := [], sent := [], lost := [], wrong := [] }
      let s1 : State := { s with ftl := { s.ftl with stripes := Tab.insert s.ftl.stripes id x, nextStripe := id + 1 } }
      let s2 := s1.formRecord [.unit 0 id 1] none true
      (some id, (s2.formSj id (.open_ rows)).formSj id (.intent limit))

/-- A stripe closes at its durable rows (R193, R218, R221): with STATE 2 when full, 5 when something failed. Its chunks in
rows not durable go back to their movers (R160). -/
def State.closeStripe (s : State) (id state : Nat) : State :=
  match Tab.find s.ftl.stripes id with
  | none => s
  | some x =>
    let s1 := s.modifyStripe id (fun x => { x with
      state := state, sent := [], starts := [], rowsSent := x.rowsDone,
      buf := List.replicate x.buf.length [], fill := x.fill.map (fun _ => x.rowsDone * 16384) })
    let s2 := (s1.formRecord [.unit 0 id state] none true).formSj id (.close x.rowsDone state)
    { s2 with
      rdn := { s2.rdn with closed := s2.rdn.closed ++ [id] }
      ftl := { s2.ftl with
        moves := s2.ftl.moves.filter (fun p => !(p.2.state == 2 && stripeOf p.2.loc0 == id && !p.2.verified)) } }

/-! Refresh (R197). -/

/-- A stripe is given STATE 5, with its UNIT item (R195, R197): an open one closes at its durable rows. -/
def State.refreshStripe (s : State) (id : Nat) : State :=
  match Tab.find s.ftl.stripes id with
  | none => s
  | some x =>
    if x.state = 1 then (s.closeStripe id 5).count F.FTL.STAT.COUNT 10
    else if x.state ≠ 2 then s
    else
      let s1 : State := { s with ftl := { s.ftl with stripes := Tab.insert s.ftl.stripes id { x with state := 5 } } }
      (s1.formRecord [.unit 0 id 5] none true).count F.FTL.STAT.COUNT 10

/-- A moss block that a read found weak: its live chunks are moved at refresh priority (R197). -/
def State.refreshBlock (s : State) (key : Nat) : State :=
  match Tab.find s.ftl.blocks key with
  | some b => if b.use = 0 ∧ (b.state = 1 ∨ b.state = 2) then (s.setBlockState key 5).count F.FTL.STAT.COUNT 10 else s
  | none => s

/-! Rows. -/

/-- The page of a data column in the first row not sent. -/
def Stripe.headPage (x : Stripe) (c : Nat) : List Byte := padTo 16384 ((x.buf.getD c []).take 16384)

/-- FIRST_HDR of the page of a data column in a row (R177); no chunk starts in a metadata stripe. -/
def Stripe.firstHdr (x : Stripe) (c row : Nat) : Nat :=
  if x.cls = 2 then 0xFFFF else
  let base := c * x.blockSize + row * 16384
  ((x.starts.filter (fun o => base ≤ o ∧ o < base + 16384)).map (fun o => o - base)).foldl min 0xFFFF

/-- The pages of a set: D data pages of a die slot, then P and Q (R205). -/
def Stripe.setPages (x : Stripe) (slot : Nat) : List (List Byte) :=
  let data := (List.range x.dataMembers).map (fun i => x.headPage (i * (x.g - 1) + slot))
  data ++ [parityP data, parityQ data]

/-- The KIND of a member's pages (R177). -/
def Stripe.pageKind (x : Stripe) (m : Nat) : Nat :=
  if m < x.dataMembers then (if x.cls = 2 then 7 else 3) else if m = x.dataMembers then 4 else 5

/-- The page of a member in a die slot programmed, or its die-parity page formed by the module (R187, R206, R261). -/
def State.sendPage (s : State) (id : Nat) (x : Stripe) (row m slot : Nat) (mem : List (List Byte)) : State :=
  match x.members[m]? with
  | none => s
  | some mb =>
    let (die, block) := mb.dies.getD slot (0, 0)
    if slot + 1 < x.g then
      let (img, s1) := s.pageImage (x.pageKind m) id row
        (if m < x.dataMembers then x.firstHdr (m * (x.g - 1) + slot) row else 0xFFFF) (mem.getD slot [])
      s1.issue mb.module { frnCmd 2 die block row 1 0 false (.row id row m slot) false with data := img }
    else
      let (img, s1) := s.pageImage 6 id row 0xFFFF (dieParity mem)
      s1.issue mb.module { frnCmd 7 die block row (x.g - 1) 0 false (.row id row m slot) false with
        src := mb.dies.take (x.g - 1), data := img.drop 16384 }

/-- A row is sent: every page of its sets with P and Q, and every die-parity page (R187, R205). -/
def State.sendRow (s : State) (id : Nat) (x : Stripe) : State :=
  let row := x.rowsSent
  let sets := (List.range (x.g - 1)).map x.setPages
  let s1 := (List.range x.members.length).foldl (fun (t : State) m =>
    let mem := sets.map (fun pages => pages.getD m [])
    (List.range x.g).foldl (fun (u : State) slot => u.sendPage id x row m slot mem) t) s
  (s1.modifyStripe id (fun x => { x with
    rowsSent := row + 1, buf := x.buf.map (List.drop 16384),
    starts := x.starts.filter (fun o => o % x.blockSize ≥ (row + 1) * 16384),
    sent := x.sent ++ [⟨row, x.members.length * x.g⟩] })).count F.RDN.STAT.COUNT 0 (x.g - 1)

/-- SJ_INTENT (R218): a new INTENT when the rows sent come within AHEAD / 2 of the last one; while a restatement is not durable it
raises no SENT_LIMIT (R220). -/
def State.formIntent (s : State) (id : Nat) : State :=
  match Tab.find s.ftl.stripes id with
  | none => s
  | some x =>
    let ahead := s.fld F.RDN.SJ_CTL.AHEAD
    let limit := min x.rows (x.rowsSent + ahead)
    if x.state = 1 ∧ x.rowsSent + ahead / 2 ≥ x.intent ∧ limit > x.intent then
      (s.modifyStripe id (fun x => { x with intent := limit })).formSj id (.intent limit)
    else s

/-- Every way to read the page has been tried (R196): it needs a reconstruction. -/
def ReadPiece.givenUp (p : ReadPiece) : Bool := p.failed && p.recon

/-- Every page asked for of a set is present or given up. -/
def SetRead.settled (r : SetRead) : Bool := r.pages.all (fun p => p.2.data.isSome || p.2.givenUp)

/-- The set is read for a host read. -/
def SetFor.isHost : SetFor → Bool
  | .host _ _ => true
  | _ => false

/-- RDN takes background work (R26, R209): some lane has budget left, and no reconstruction for a host read waits for one. -/
def State.rdnTakes (s : State) : Bool :=
  s.rdnFree && s.rdns.all (fun x => x.sets.all (fun r => !(r.2.use.isHost && r.2.settled)))

/-- Rows that every data column has filled are sent, below the SENT_LIMIT in force, as RDN has lanes for their parity (R187,
R209, R218). -/
def State.sendRows (s : State) (id : Nat) : Nat → State
  | 0 => s
  | fuel + 1 =>
    match Tab.find s.ftl.stripes id with
    | none => s
    | some x =>
      if x.state = 1 ∧ s.ftl.side * 2 ^ 20 + id ∉ s.rfl.unchecked ∧ x.rowsSent < x.sentLimit ∧ x.rowsSent < x.rows ∧
          x.buf.all (fun b => decide (b.length ≥ 16384)) ∧ s.rdnTakes then
        (((s.sendRow id x).chargeRdn x.dataMembers (x.g - 1)).formIntent id).sendRows id fuel
      else s

/-- The open stripes send what they may. -/
def State.sendAllRows (s : State) : State :=
  (Tab.keys s.ftl.stripes).foldl (fun (t : State) id => (t.sendRows id 4096).formIntent id) s

/-- Every data column padded with zeros to the end of the row that the fullest has begun (R187). -/
def Stripe.padRow (x : Stripe) : Stripe :=
  let top := (x.fill.foldl max 0 + 16383) / 16384 * 16384
  { x with fill := x.fill.map (fun _ => top),
           buf := x.buf.map (fun b => padTo (top - x.rowsSent * 16384) b) }

/-- Every data column padded to the end of its block: the stripe takes no more. -/
def Stripe.padAll (x : Stripe) : Stripe :=
  { x with fill := x.fill.map (fun _ => x.blockSize),
           buf := x.buf.map (fun b => padTo (x.blockSize - x.rowsSent * 16384) b) }

/-- The rows begun in the open stripes of a class are ended (R187, R419). -/
def State.endRows (s : State) (cls : Nat) : State :=
  (s.ftl.stripes.filter (fun p => p.2.state = 1 ∧ p.2.cls = cls)).foldl
    (fun (t : State) p => (t.modifyStripe p.1 Stripe.padRow).sendRows p.1 4096) s

/-- WL_PAGES in force for a stripe: the greatest of its modules (R188). -/
def State.wlPages (s : State) (x : Stripe) : Nat :=
  (x.members.map (fun m => ((s.port m.module).desc.map FrnDesc.wlPages).getD 1)).foldl max 1

/-- Rows durable after the results so far (R188): rows that have passed, to the end of a group that shares wordlines. -/
def State.durableRows (s : State) (x : Stripe) : Nat :=
  let passed (r : Nat) : Bool := x.sent.any (fun q => q.row == r && q.left == 0)
  let run := ((List.range (x.rowsSent - x.rowsDone)).takeWhile (fun i => passed (x.rowsDone + i))).length
  let top := x.rowsDone + run
  if top = x.rows then top else top / s.wlPages x * s.wlPages x

/-! Movements (R160, R190). -/

/-- The RELOC item of a movement (R170). -/
def Movement.item (chunk : Nat) (m : Movement) : JItem :=
  .reloc chunk m.keyId m.units m.loc0 m.state m.loc1

/-- Movements whose new bytes have passed verify form their RELOC records (R190). -/
def State.formMoves (s : State) : State :=
  let due := s.ftl.moves.filter (fun p => p.2.verified ∧ p.2.jseq = none)
  (cutRecords (due.map (fun p => [p.2.item p.1])) []).foldl (fun (t : State) items =>
    let t1 := t.formRecord items none true
    let here := items.filterMap (fun i => match i with | .reloc c _ _ _ _ _ => some c | _ => none)
    let mark (p : Nat × Movement) : Nat × Movement :=
      if p.1 ∈ here then (p.1, { p.2 with jseq := some t1.ftl.jseq }) else p
    { t1 with ftl := { t1.ftl with moves := t1.ftl.moves.map mark } }) s

/-- The last row that the stored bytes at a bulk place touch. -/
def lastRow (size place units : Nat) : Nat := (stripeOffset place % size + units * 64 - 1) / 16384

/-- ROW_DURABLE (R188): the durable rows of a stripe advance; a DONE record is formed and the movements into them are
verified; a full stripe closes. -/
def State.advanceRows (s : State) (id : Nat) : State :=
  match Tab.find s.ftl.stripes id with
  | none => s
  | some x =>
    let top := s.durableRows x
    if top ≤ x.rowsDone then s
    else
      let s1 := (s.modifyStripe id (fun x => { x with
        rowsDone := top, sent := x.sent.filter (fun q => top ≤ q.row) })).formSj id (.done top)
      let verify (p : Nat × Movement) : Nat × Movement :=
        if p.2.state = 2 ∧ stripeOf p.2.loc0 = id ∧ isBulk p.2.loc0 ∧ lastRow x.blockSize p.2.loc0 p.2.units < top then
          (p.1, { p.2 with verified := true }) else p
      let s2 : State := { s1 with ftl := { s1.ftl with moves := s1.ftl.moves.map verify } }
      if top = x.rows then s2.closeStripe id 2 else s2

/-- A failed page of a row (R193): the block is retired, the stripe closed at its last durable row with STATE 5, and the
chunks of the rows not durable return to their movers. -/
def State.rowFailed (s : State) (id port : Nat) (c : FrnCmd) (retire : Bool) : State :=
  let s1 := if retire then s.retireBlock (blockKey port c.die c.block) 1 else s
  match Tab.find s1.ftl.stripes id with
  | none => s1
  | some x => if x.state = 1 then (s1.closeStripe id 5).event Src.FTL 5 id x.rowsDone else s1

/-- The result of a page of a row. -/
def State.rowResult (s : State) (port : Nat) (c : FrnCmd) (id row : Nat) (r : Option Rsp) : State :=
  match r with
  | none => s
  | some x =>
    if x.status = 0 then
      let s1 := s.modifyStripe id (fun y => { y with
        sent := y.sent.map (fun q => if q.row = row then { q with left := q.left - 1 } else q) })
      (if c.op = 2 then s1.noteLast port c else s1).advanceRows id
    else if x.status = 4 then s
    else s.rowFailed id port c (x.status != 9)

/-- The column a chunk goes into: the one with the lowest fill, the lowest on a tie (R187), when it has room. -/
def Stripe.column (x : Stripe) (len : Nat) : Option Nat :=
  let low := x.fill.foldl min x.blockSize
  if low + len ≤ x.blockSize then x.fill.findIdx? (fun f => f = low) else none

/-- Stored bytes placed in a column: the place, and the stripe. -/
def Stripe.put (x : Stripe) (id c : Nat) (stored : List Byte) : Nat × Stripe :=
  let f := x.fill.getD c 0
  let off := c * x.blockSize + f
  (2 ^ 47 + id * 2 ^ 27 + off / 64,
   { x with fill := x.fill.set c (f + stored.length), buf := x.buf.set c (x.buf.getD c [] ++ stored),
            starts := x.starts ++ [off] })

/-- Stored bytes placed in the open stripe of a class; a stripe without room is ended and another opened (R185, R187). No place
when none can be opened (R214). -/
def State.placeBulk (s : State) (cls : Nat) (stored : List Byte) : Nat → Option Nat × State
  | 0 => (none, s)
  | fuel + 1 =>
    match s.ftl.stripes.find? (fun p => p.2.state = 1 ∧ p.2.cls = cls ∧ p.2.fill.any (fun f => f < p.2.blockSize)) with
    | none =>
      match s.openStripe cls with
      | (none, s1) => (none, s1)
      | (some _, s1) => s1.placeBulk cls stored fuel
    | some (id, x) =>
      match x.column stored.length with
      | none => ((s.modifyStripe id Stripe.padAll).sendRows id 4096).placeBulk cls stored fuel
      | some c =>
        let (place, y) := x.put id c stored
        (some place, (s.modifyStripe id (fun _ => y)).sendRows id 4096)

/-- Fold may place a chunk while FOLD_STOPPED only in a row already begun (R194). -/
def State.foldRoom (s : State) (cls len : Nat) : Bool :=
  s.fld F.FTL.STATUS.FOLD_STOPPED == 0 ||
  s.ftl.stripes.any (fun p => p.2.state == 1 && p.2.cls == cls &&
    (match p.2.column len with
     | some c => decide ((p.2.fill.getD c 0 + len + 16383) / 16384 ≤ (p.2.fill.foldl max 0 + 16383) / 16384)
     | none => false))

/-- A movement of a chunk may start (R160): the chunk is live, no alias, not about to be one, and no other movement of it is in
flight. -/
def State.mayMove (s : State) (chunk : Nat) : Bool :=
  (Tab.find s.ftl.tables.chunks chunk).any (fun e => !e.lost && (e.state == 1 || e.state == 2)) &&
  (Tab.find s.ftl.moves chunk).isNone && s.finalChunk chunk == chunk

/-- A movement of a chunk into a bulk stripe is started; whether it was (R160, R214). -/
def State.moveToBulk (s : State) (kind : MoveKind) (cls chunk keyId : Nat) (stored : List Byte) : Bool × State :=
  match Tab.find s.ftl.tables.chunks chunk with
  | none => (false, s)
  | some e =>
    if !s.mayMove chunk then (false, s)
    else match s.placeBulk cls stored 3 with
      | (none, s1) => (false, s1)
      | (some place, s1) =>
        let m : Movement := {
          kind := kind, loc0 := place, loc1 := 0, state := 2, keyId := keyId, units := stored.length / 64, verified := false,
          jseq := none, newMoss := [], oldUnits := some e.units,
          old := if e.state = 1 then [e.loc0, e.loc1] else [e.loc0] }
        (true, { s1 with ftl := { s1.ftl with moves := Tab.insert s1.ftl.moves chunk m } })

/-- FREE_LOW (R194): the urgency of free stripes, shown and reported. -/
def State.freeMarks (s : State) : State :=
  let n := s.freeStripes
  let low := decide (n < s.fld F.FTL.GC_CTL.FREE_MIN)
  let s1 := if low && s.fld F.FTL.STATUS.GC_URGENT == 0 then s.event Src.FTL 3 0 n else s
  (s1.putFlag F.FTL.STATUS.GC_URGENT low).putFlag F.FTL.STATUS.FOLD_STOPPED (decide (n < s.fld F.FTL.GC_CTL.FREE_STOP))

/-! Erasing (R190 steps 5 to 7). -/

/-- The blocks of a unit. -/
def State.unitBlocks (s : State) (kind id : Nat) : List Nat :=
  if kind = 0 then
    match Tab.find s.ftl.stripes id with
    | some x => x.members.flatMap (fun m =>
        (if m.failed then [] else m.dies.map (fun p => blockKey m.module p.1 p.2)) ++
        (match m.repl with | some (n, ds, _) => ds.map (fun p => blockKey n p.1 p.2) | none => []))
    | none => []
  else [blockKeyOf id]

/-- No read that resolved to a block of the unit is in flight (R190 step 4), of a chunk or of a set. -/
def State.unitQuiet (s : State) (keys : List Nat) : Bool :=
  let clear (p : ReadPiece) : Bool := p.data.isSome || p.givenUp || !keys.contains (blockKey p.port p.die p.block)
  s.rdx.reads.all (fun r => r.2.stage != .waiting || r.2.pieces.all clear) &&
  s.rdns.all (fun x => x.sets.all (fun r => r.2.pages.all (fun p => clear p.2)))

/-- The unit is closed, holds no live byte, and no movement still names it (R190). -/
def State.erasable (s : State) (kind id : Nat) : Bool :=
  s.ftl.erasing.all (fun e => !(e.kind == kind && e.id == id)) &&
  (if kind = 0 then
    match Tab.find s.ftl.stripes id with
    | some x => (x.state == 2 || x.state == 5) && x.valid == 0 && (Tab.find s.rdn.rebuilds id).isNone &&
        x.lost.all (fun l => l.swept) &&
        s.ftl.moves.all (fun p => (!(isBulk p.2.loc0 && stripeOf p.2.loc0 == id)) &&
          p.2.old.all (fun l => !(isBulk l && stripeOf l == id)))
    | none => false
  else
    match Tab.find s.ftl.blocks (blockKeyOf id) with
    | some b => (b.state == 2 || b.state == 5) && b.live == 0 &&
        s.ftl.moves.all (fun p => p.2.newMoss.all (fun l => blockKeyOf l != blockKeyOf id) &&
          p.2.old.all (fun l => isBulk l || blockKeyOf l != blockKeyOf id)) &&
        s.ftl.livePairs.all (fun p => p.copy0 != blockKeyOf id && p.copy1 != blockKeyOf id) &&
        s.rdn.pair.all (fun p => p.1 != blockKeyOf id && p.2 != blockKeyOf id) &&
        s.rdn.oldPairs.all (fun p => p.copy0 != blockKeyOf id && p.copy1 != blockKeyOf id)
    | none => false)

/-- UNIT_ERASE (R190 step 5): a unit without live bytes and without reads in flight enters its erase intent. Blocks with
two unrecoverable reads since their last erase, and blocks that have had their cycles, are retired first and not erased (R198,
codes 3 and 4). -/
def execUnitErase (kind id : Nat) (s : State) : Host.Outcome State Fault Refusal :=
  .next (s.eitherSide (fun (s : State) => 
    let keys := s.unitBlocks kind id
    if s.erasable kind id && s.unitQuiet keys then
      let s1 := keys.foldl (fun (t : State) k =>
        if (t.blockWear k).recovered.length ≥ 2 then t.retireBlock k 3 else if t.wornOut k then t.retireBlock k 4 else t) s
      let s2 := if kind = 0 then s1.modifyStripe id (fun x => { x with state := 3 })
        else { s1 with ftl := { s1.ftl with
          blocks := Tab.modify s1.ftl.blocks (blockKeyOf id) (fun (b : MossBlock) => { b with state := 3 }) } }
      let s3 := s2.formRecord [.unit kind id 3] none true
      { s3 with ftl := { s3.ftl with erasing := s3.ftl.erasing ++ [{
          kind := kind, id := id, jseq := s3.ftl.jseq, sent := false, left := 0 }] } }
    else s))

/-- The record with a JSEQ is durable. -/
def State.recordDurable (s : State) (jseq : Nat) : Bool :=
  match s.ftl.journal.find? (fun r => r.jseq = jseq) with
  | some r => r.durable
  | none => decide (jseq ≤ s.ftl.jseq)

/-- A unit's erase ends: it is erased, then free (R190 step 7); an anchor block is the active one (R174). -/
def State.eraseDone (s : State) (e : EraseJob) : State :=
  let s1 : State := { s with ftl := { s.ftl with erasing := s.ftl.erasing.filter (fun x => !(x.kind == e.kind && x.id == e.id)) } }
  let hurt := e.kind == 0 && (match Tab.find s.ftl.stripes e.id with
    | some x => x.members.any StripeMember.failed
    | none => false)
  if e.kind = 3 then
    let set (b : MossBlock) : MossBlock := { b with state := 1, fill := 0 }
    let s2 := if (s.blockWear (blockKeyOf e.id)).retired then (s1.setBlockState (blockKeyOf e.id) 2).turnAnchor (blockKeyOf e.id)
      else s1.formRecord [.unit 3 e.id 4, .unit 3 e.id 1] none true
    if (s.blockWear (blockKeyOf e.id)).retired then s2
    else { s2 with ftl := { s2.ftl with blocks := Tab.modify s2.ftl.blocks (blockKeyOf e.id) set } }
  else
    let s1 := if hurt then s1.count F.RDN.STAT.COUNT 4 else s1
    (s1.formRecord [.unit e.kind e.id 4, .unit e.kind e.id 0] none true).count F.FTL.STAT.COUNT (if e.kind = 0 then 4 else 5)

/-- The ERASE commands of a unit whose erase intent is durable (R190 step 6). -/
def State.sendErases (s : State) (e : EraseJob) : State :=
  let keys := (s.unitBlocks e.kind e.id).filter (fun k => !(s.blockWear k).retired)
  let s1 := keys.foldl (fun (t : State) k => t.issue (keyPort k)
    { frnCmd 3 (keyDie k) (keyBlock k) 0 0 0 false (.erase e.kind e.id) false with mode := if e.kind = 0 then 0 else 1 }) s
  let e' := { e with sent := true, left := keys.length }
  let s2 : State := { s1 with ftl := { s1.ftl with
    erasing := s1.ftl.erasing.map (fun x => if x.kind = e.kind ∧ x.id = e.id then e' else x) } }
  if keys = [] then s2.eraseDone e' else s2

/-- Erase intents that have become durable send their ERASE commands. -/
def State.startErases (s : State) : State :=
  (s.ftl.erasing.filter (fun e => !e.sent && s.recordDurable e.jseq)).foldl State.sendErases s

/-- The result of an ERASE (R198): a failed erase retires the block at once. -/
def State.eraseResult (s : State) (port : Nat) (c : FrnCmd) (kind id : Nat) (r : Option Rsp) : State :=
  let key := blockKey port c.die c.block
  let s1 := match r with
    | some x =>
      if x.status = 0 then s.blockErased key (if c.mode = 1 then 1 else 8)
      else if x.status = 2 then s.retireBlock key 2
      else s
    | none => s
  let refused := match r with | some x => x.status == 4 | none => true
  if refused then s1
  else
    match s1.ftl.erasing.find? (fun e => e.kind = kind ∧ e.id = id) with
    | none => s1
    | some e =>
      let e' := { e with left := e.left - 1 }
      let s2 : State := { s1 with ftl := { s1.ftl with
        erasing := s1.ftl.erasing.map (fun x => if x.kind = kind ∧ x.id = id then e' else x) } }
      if e'.left = 0 then s2.eraseDone e' else s2

/-- Movements whose item is applied and whose delta has been handed end, but for folds, which MOSS_RELEASE ends (R189,
R190). -/
def State.endMoves (s : State) : State :=
  (s.ftl.moves.filter (fun p => p.2.kind ≠ .fold ∧ s.moveDone p.2)).foldl (fun (t : State) p =>
    (t.endMove p.1 p.2).count F.FTL.STAT.COUNT 3) s

end Sys2Proof.Machine
end

