-- ==== Sys2Proof/Machine/Checkpoints.lean ====
section
/-!
DEFINITION. Machine/Checkpoints.lean: the write-back of metadata pages and the end of a checkpoint (chapter 05, R162, R163, R173;
chapter 06, R220).
-/

namespace Sys2Proof.Machine

/-! Pages that are due (R163, R173). -/

/-- The bytes at a bulk place are on flash: their rows are durable (R188). -/
def State.bulkDurable (s : State) (place units : Nat) : Bool :=
  (Tab.find s.ftl.stripes (stripeOf place)).any (fun x => decide (lastRow x.blockSize place units < x.rowsDone))

/-- A bulk place lies in a stripe that is to be emptied. -/
def State.onRefresh (s : State) (place : Nat) : Bool :=
  (Tab.find s.ftl.stripes (stripeOf place)).any (fun x => x.state == 5)

/-- A page is due at a checkpoint: a record of JSEQ ≤ UPTO has changed it since its last write-back, or something other than a
record has, or its stripe is to be emptied (R163, R173). -/
def State.pageDue (s : State) (upto id : Nat) : Bool :=
  let p := s.ftl.page id
  p.since.any (fun q => decide (q ≤ upto)) || (p.since.isNone && s.ftl.body id != padTo 4096 p.written) || p.loc.any s.onRefresh

/-- The pages due, in the order of their identifiers. -/
def State.duePages (s : State) (upto : Nat) : List Nat :=
  (sortOn id (s.ftl.bodies ++ Tab.keys s.ftl.pages).dedup).filter (s.pageDue upto)

/-- A map page that owes a decrement whose DEREF item is not durable (R163, rule 1). A DEREF item does not name its page, so any that
is not yet durable holds the map pages back (assumption 68). -/
def State.owes (s : State) (id : Nat) : Bool :=
  idKind id == 1 &&
  (s.ftl.owed.any (fun o => pageId 1 (o.page / 2 ^ 64) (o.page % 2 ^ 64) == id) ||
    s.ftl.journal.any (fun r => !r.durable && r.items.any (fun i => match i with
      | .deref _ _ _ _ => true
      | _ => false)))

/-- Every record of JSEQ ≤ UPTO is applied, and no page due has to wait. -/
def State.mayWriteBack (s : State) (upto : Nat) : Bool :=
  s.ftl.journal.all (fun r => r.applied || decide (r.jseq > upto)) && (s.duePages upto).all (fun id => !s.owes id)

/-! Writing back (R162, R163, R173). -/

/-- Pages placed in a metadata stripe, one after another (R163). -/
def State.placePages (s : State) : List PageOut → Option (List PageOut × State)
  | [] => some ([], s)
  | p :: ps =>
    match s.placeBulk 2 (metaPage p.id p.applied s.frnEpoch p.body) 3 with
    | (none, _) => none
    | (some place, s1) => match (s1.liveBulk place 65).placePages ps with
      | none => none
      | some (rest, s2) => some ({ p with place := place } :: rest, s2)

/-- The directory (R162): the places of the written-back pages in the order of their identifiers, 512 a page. -/
def directoryPages (epoch : Nat) (places : List Nat) : List Byte :=
  ((chunksOf 512 places.length places).zipIdx).flatMap (fun p => metaPage (pageId 6 0 p.2) 0 epoch (p.1.flatMap (leBytes 8)))

/-- The pages due are placed, and after them the directory, its pages consecutive (R173); no page is left as it was when room for
some is lacking (R214). -/
def State.placeCheckpoint (s : State) (upto : Nat) : State :=
  let due := (s.duePages upto).map (fun id => (⟨id, 0, (s.ftl.page id).applied, s.ftl.body id⟩ : PageOut))
  let fail := s.event Src.RDN 9 s.stripeNumber
  match s.placePages due with
  | none => fail
  | some (out, s1) =>
    let placeAt (id : Nat) : Option Nat :=
      match out.find? (fun p => p.id == id) with
      | some p => some p.place
      | none => (s.ftl.page id).loc
    let ids := sortOn id (Tab.keys s.ftl.pages ++ due.map PageOut.id).dedup
    let places := ids.filterMap placeAt
    if places = [] then { s1 with ftl := { s1.ftl with writeBack := some ⟨out, 0, 0⟩ } }
    else match s1.placeBulk 2 (directoryPages s.frnEpoch places) 3 with
    | (none, _) => fail
    | (some root, s2) =>
      let n := (places.length + 511) / 512
      let s3 := out.foldl (fun (t : State) p => t.setPage p.id { t.ftl.page p.id with since := none }) (s2.liveBulk root (65 * n))
      ({ s3 with ftl := { s3.ftl with writeBack := some ⟨out, root, n⟩ } } : State).endRows 2

/-- A page on its way, and the directory, whose rows can no longer become durable: its stripe is open no longer (R193). -/
def State.writeBackLost (s : State) (place units : Nat) : Bool :=
  !s.bulkDurable place units && !(Tab.find s.ftl.stripes (stripeOf place)).any (fun x => x.state == 1)

/-- What no metadata page holds is carried over in the records of a checkpoint, so that the journal before it can go
(assumption 66): epochs and snapshots, sweeps under way, blocks in use, retirements, key reservations and reservations. -/
def State.carriedOver (s : State) : List JItem :=
  s.ftl.tables.epochs.flatMap (fun p =>
    (if p.2.me > 1 then [.snap p.1 (p.2.me - 1) 1] else []) ++
    (if p.2.me > 1 ∧ p.2.me - 1 ∉ p.2.snaps then [.snap p.1 (p.2.me - 1) 2, .snap p.1 (p.2.me - 1) 3] else []) ++
    (p.2.snaps.filter (fun e => e + 1 ≠ p.2.me)).map (fun e => .snap p.1 e 1)) ++
  (s.ftl.sweeps.filter (fun w => !w.wholeNs)).map (fun w => .snap w.nsid w.me 2) ++
  s.ftl.blocks.map (fun p => .unit (unitKind p.2.use) (placeOf p.1) p.2.state) ++
  (s.ftl.wear.filter (fun p => p.2.retired)).map (fun p => .retire (keyPort p.1) (keyDie p.1) (keyBlock p.1) 0) ++
  s.ftl.keyres.map (fun p => .keyres (p.1 / 2) p.2 (p.1 % 2)) ++
  (s.cmf.rsv.filter (fun p => (Tab.find s.cmf.ns p.1).any (fun n => s.vsetSide n.vset == s.ftl.side))).flatMap (fun p =>
    p.2.regs.map (fun g => .rsv p.1 1 p.2.rtype p.2.ptpl p.2.prgen g.host g.key 0) ++
    (p.2.holder.toList.map (fun h => .rsv p.1 4 p.2.rtype p.2.ptpl p.2.prgen h 0 0)))

/-- A written-back page is recorded (R163): its place, and the copy before it, which becomes dead space when a checkpoint covers
the PAGE_WB record. -/
def State.recordPage (s : State) (p : PageOut) (jseq : Nat) : State :=
  let q := s.ftl.page p.id
  s.setPage p.id { q with
    loc := some p.place, written := p.body, wb := jseq, earlier := q.earlier ++ (q.loc.map (fun l => (l, jseq))).toList }

/-- The PAGE_WB items of the pages written back, map pages last (R163), what is carried over, and the CKPT item (R173). -/
def State.journalCheckpoint (s : State) (upto : Nat) (w : WriteBack) : State :=
  let pages := w.pages.filter (fun p => idKind p.id != 1) ++ w.pages.filter (fun p => idKind p.id == 1)
  let wbs : List JItem := pages.map (fun p => .pageWb (idKind p.id) (idIndex p.id) p.place (idNsid p.id))
  let records := cutRecords ((wbs ++ s.carriedOver).map (fun i => [i]) ++ [[.ckpt upto w.root w.dirPages]]) []
  let s1 := records.foldl (fun (t : State) items => t.formRecord items none false) s
  pages.foldl (fun (t : State) p => t.recordPage p s1.ftl.jseq) s1

/-- The CKPT item of a checkpoint has been formed. -/
def State.ckptFormed (s : State) (upto : Nat) : Bool :=
  s.ftl.journal.any (fun (r : JRec) => r.items.any (fun i => match i with
    | .ckpt u _ _ => u == upto
    | _ => false))

/-- CHECKPOINT_DONE (R163, R173): within the pacer's grant, the pages due and then the directory are written back into metadata
stripes; once their rows are durable, FTL journals the PAGE_WB items and the CKPT item. Pages whose rows fail are written
back again. -/
def execCheckpointDone (s : State) : Host.Outcome State Fault Refusal :=
  .next (s.eitherSide (fun (s : State) => match s.ftl.ckpt with
    | none => s
    | some upto =>
      if s.ckptFormed upto ∨ !s.granted Cls.mapWork then s
      else match s.ftl.writeBack with
        | none => if s.mayWriteBack upto then s.spendMeta.placeCheckpoint upto else s
        | some w =>
          let spots := (if w.dirPages = 0 then [] else [(w.root, 65 * w.dirPages)]) ++ w.pages.map (fun p => (p.place, 65))
          if spots.all (fun p => s.bulkDurable p.1 p.2) then s.spendMeta.journalCheckpoint upto w
          else if spots.any (fun p => s.writeBackLost p.1 p.2) then
            let s1 := spots.foldl (fun (t : State) p => t.deadSpace p.1 p.2) s
            let s2 := w.pages.foldl (fun (t : State) p =>
              t.setPage p.id { t.ftl.page p.id with since := some (min upto ((t.ftl.page p.id).since.getD upto)) }) s1
            { s2 with ftl := { s2.ftl with writeBack := none } }
          else s))

/-! The end of a checkpoint (R163, R173, R220). -/

/-- The CKPT item of a checkpoint, when its record is durable. -/
def State.ckptDurable (s : State) (upto : Nat) : Bool :=
  s.ftl.journal.any (fun (r : JRec) => r.durable && r.items.any (fun i => match i with
    | .ckpt u _ _ => u == upto
    | _ => false))

/-- The copies of a page that a checkpoint covers become dead space (R163). -/
def State.dropEarlier (s : State) (upto id : Nat) : State :=
  let p := s.ftl.page id
  let gone := p.earlier.filter (fun e => decide (e.2 ≤ upto))
  if gone = [] then s
  else gone.foldl (fun (t : State) e => t.deadSpace e.1 65)
    (s.setPage id { p with earlier := p.earlier.filter (fun e => decide (e.2 > upto)) })

/-- A journal block that nothing needs: it is closed and holds no live byte, and goes through FTL's UNIT items. -/
def State.dropBlock (s : State) (key : Nat) : State :=
  match Tab.find s.ftl.blocks key with
  | some b => if b.state = 2 then s else s.setBlockState key 2
  | none => s

/-- The stripe-table page of a stripe closed shows it so in a copy whose PAGE_WB record the checkpoint covers, or the stripe is gone
(R220). -/
def State.closeCovered (s : State) (upto id : Nat) : Bool :=
  let p := s.ftl.page (pageId 5 0 id)
  (Tab.find s.ftl.stripes id).isNone || (p.loc.isSome && decide (p.wb ≤ upto) && leField p.written 4 1 != 1)

/-- A stripe-journal pair left behind is freed when the restatement is durable and a checkpoint covers every stripe closed in it
(R220). -/
def State.freeOldPairs (s : State) (upto : Nat) : State :=
  if s.rdn.restating.isSome then s
  else
    let done := s.rdn.oldPairs.filter (fun p => p.closed.all (s.closeCovered upto))
    let still := s.rdn.oldPairs.filter (fun p => !p.closed.all (s.closeCovered upto))
    let inUse := still.flatMap (fun p => [p.copy0, p.copy1]) ++ (match s.rdn.pair with | some (a, b) => [a, b] | none => [])
    let s1 : State := { s with rdn := { s.rdn with oldPairs := still } }
    ((done.flatMap (fun p => [p.copy0, p.copy1])).filter (fun k => k ∉ inUse)).foldl State.dropBlock s1

/-- The map journal block pairs that hold only records of JSEQ ≤ UPTO are freed (R173). -/
def State.freePairs (s : State) (upto : Nat) : State :=
  let holds (p : JPair) (r : JRec) : Bool :=
    r.block0.any (fun k => k == p.copy0 || k == p.copy1) || r.block1.any (fun k => k == p.copy0 || k == p.copy1)
  let gone := s.ftl.livePairs.filter (fun p => s.ftl.pair != some (p.copy0, p.copy1) &&
    s.ftl.journal.all (fun r => decide (r.jseq ≤ upto) || !holds p r))
  let still := s.ftl.livePairs.filter (fun p => p ∉ gone)
  let inUse := still.flatMap (fun p => [p.copy0, p.copy1])
  let s1 : State := { s with ftl := { s.ftl with livePairs := still } }
  ((gone.flatMap (fun p => [p.copy0, p.copy1])).filter (fun k => k ∉ inUse)).foldl State.dropBlock s1

/-- When the CKPT item is durable, records of JSEQ ≤ UPTO are covered and their blocks freed, with the copies of pages and the
directory that the checkpoint replaces (R163, R173, R220). -/
def State.finishCkpt (s : State) : State :=
  match s.ftl.ckpt with
  | none => s
  | some upto =>
    if s.ckptDurable upto then
      let s0 := s.freePairs upto
      let kept := s0.ftl.journal.filter (fun (r : JRec) => decide (r.jseq > upto) || !r.applied || !r.handed)
      let size := (kept.map (fun (r : JRec) => recordBytes r.items)).foldl (· + ·) 0
      let root := (s.ftl.writeBack.map (fun w => (w.root, w.dirPages))).getD (0, 0)
      let s1 : State := { s0 with ftl := { s0.ftl with
          ckpt := none, lastCkpt := (upto, root.1), journal := kept, sinceCkpt := size, writeBack := none, dir := some root } }
      let s2 := s.ftl.dir.toList.foldl (fun (t : State) d => t.deadSpace d.1 (65 * d.2)) s1
      let s3 := ((Tab.keys s2.ftl.pages).foldl (fun (t : State) id => t.dropEarlier upto id) s2).freeOldPairs upto
      ((s3.put F.FTL.CKPT_SEQ.SEQ upto).count F.FTL.STAT.COUNT 11).event Src.FTL 15 0 upto
    else s

end Sys2Proof.Machine
end

