-- ==== Sys2Proof/Machine/FlashReads.lean ====
section
/-!
DEFINITION. Machine/FlashReads.lean: reads of stored chunks and of sets (chapter 05, R178, R195 to R197, R200; chapter 02,
R73, R75; chapter 06, R207 to R210, R231): the pages asked for, retries, die-parity assist, reconstruction, the other copy, and
the rewriting of what was recovered.
-/

namespace Sys2Proof.Machine

/-! Pieces. -/

/-- The pages that a run of bytes of a block touches, as pieces (R196). -/
def piecesOf (stripe : Option Nat) (port die block off len : Nat) : List ReadPiece :=
  (List.range ((off + len - 1) / 16384 + 1 - off / 16384)).map (fun i =>
    let p := off / 16384 + i
    let lo := max off (p * 16384)
    let hi := min (off + len) ((p + 1) * 16384)
    { port := port, die := die, block := block, page := p, col := lo % 16384 / 64, xlen := (hi - lo) / 64, data := none,
      failed := false, level := 0, recon := false, stripe := stripe })

/-- The member and die slot of a bulk place. -/
def Stripe.spot (x : Stripe) (place : Nat) : Nat × Nat :=
  let c := stripeOffset place / x.blockSize
  (c / (x.g - 1), c % (x.g - 1))

/-- A page is named in a LOSS record, or the patrol found it wrong (R208, R234). -/
def Stripe.named (x : Stripe) (row slot m : Nat) : Bool :=
  x.lost.any (fun l => l.row == row && l.slot == slot && l.members.testBit m) || x.wrong.contains (row, slot, m)

/-- Where the page of a member in a row may be read as a source (R208): in its block; of a FAILED member in the replacement's, once
the row is rebuilt there (R229). None for a missing page. -/
def Stripe.pageSpot (x : Stripe) (row slot m : Nat) : Option (Nat × Nat × Nat) :=
  match x.members[m]? with
  | none => none
  | some mb =>
    if x.named row slot m then none
    else if mb.failed then mb.repl.bind (fun r => if row < r.2.2 then (r.2.1[slot]?).map (fun d => (r.1, d)) else none)
    else (mb.dies[slot]?).map (fun d => (mb.module, d))

/-- A page of a stripe is missing but not for want of reading it (R208). -/
def Stripe.missing (x : Stripe) (row slot m : Nat) : Bool := (x.pageSpot row slot m).isNone

/-- The set is named in a LOSS record. -/
def Stripe.setLost (x : Stripe) (row slot : Nat) : Bool := x.lost.any (fun l => l.row == row && l.slot == slot)

/-- A piece that no READ can serve: it waits for a reconstruction from the first. -/
def ReadPiece.lostPage (p : ReadPiece) : ReadPiece := { p with failed := true, level := 15, recon := true }

/-- The pieces of the stored bytes at a place. A host read reconstructs a FAILED member until its replacement is committed
(R226). -/
def State.placePieces (s : State) (place units : Nat) : List ReadPiece :=
  if isBulk place then
    match Tab.find s.ftl.stripes (stripeOf place) with
    | none => []
    | some x =>
      let (m, slot) := x.spot place
      match x.members[m]? with
      | none => []
      | some mb =>
        let (die, block) := mb.dies.getD slot (0, 0)
        (piecesOf (some (stripeOf place)) mb.module die block (stripeOffset place % x.blockSize) (units * 64)).map (fun p =>
          if mb.failed || x.named p.page slot m then p.lostPage else p)
  else
    piecesOf none (keyPort (blockKeyOf place)) (keyDie (blockKeyOf place)) (keyBlock (blockKeyOf place)) (mossOffset place)
      (units * 64)

/-- The READ of a page, or of part of it, at its level (R196, R259). -/
def State.readPage (s : State) (u : Purpose) (p : ReadPiece) (host : Bool) : State :=
  s.issue p.port { frnCmd 1 p.die p.block p.page 0 p.xlen true u host with retry := p.level, col := p.col }

/-- The READs of the pieces that do not wait for a reconstruction. -/
def State.issuePieces (s : State) (job : Nat) (host : Bool) : Nat → List ReadPiece → State
  | _, [] => s
  | i, p :: ps => (if p.failed then s else s.readPage (.read job i) p host).issuePieces job host (i + 1) ps

/-- A place touches a page of a lost set (R231). -/
def State.touchesLost (s : State) (place units : Nat) : Bool :=
  isBulk place && (match Tab.find s.ftl.stripes (stripeOf place) with
    | none => true
    | some x =>
      let (m, slot) := x.spot place
      let off := stripeOffset place % x.blockSize
      (List.range ((off + units * 64 - 1) / 16384 + 1 - off / 16384)).any (fun i =>
        x.lost.any (fun l => l.row == off / 16384 + i && l.slot == slot && l.members.testBit m)))

/-- A read of the stored bytes at a place begins (R73); `other` is the other moss copy (R75). One that touches a lost page fails at
once (R231). A movement needs no decompressor. -/
def State.startReadAt (s : State) (chunk : Nat) (use : ReadFor) (waiters : List (Nat × Nat × Nat)) (place units : Nat)
    (other : Option Nat) (lost : Bool) : State :=
  let n := s.rdx.nextRead
  let bad := lost || s.touchesLost place units
  let ps := if bad then [] else s.placePieces place units
  let moves := match use with | .move _ => true | _ => false
  let r : ChunkRead := {
    chunk := chunk, use := use, waiters := waiters, source := .first, place := place, units := units, other := other, pieces := ps,
    stage := if bad then .failed else .waiting, stored := [], payload := [], content := [],
    lane := none, cmpLane := if moves then none else s.pickLane .cmp false, since := s.now }
  let s1 : State := { s with rdx := { s.rdx with reads := Tab.insert s.rdx.reads n r, nextRead := n + 1 } }
  s1.issuePieces n (use == .host) 0 ps

/-- A read of a stored chunk begins (R73), at its first place. A chunk that is lost fails at once (R61). -/
def State.startRead (s : State) (chunk : Nat) (use : ReadFor) (waiters : List (Nat × Nat × Nat)) : State :=
  match s.chunkEntry chunk with
  | none => s
  | some e => s.startReadAt chunk use waiters e.loc0 e.units (if e.state = 1 then some e.loc1 else none) e.lost

/-- A read changed. -/
def State.modifyRead (s : State) (job : Nat) (f : ChunkRead → ChunkRead) : State :=
  { s with rdx := { s.rdx with reads := Tab.modify s.rdx.reads job f } }

/-- A piece of a read changed. -/
def State.modifyPiece (s : State) (job i : Nat) (f : ReadPiece → ReadPiece) : State :=
  s.modifyRead job (fun r => match r.pieces[i]? with
    | some p => { r with pieces := r.pieces.set i (f p) }
    | none => r)

/-- The stored bytes are present once every piece has its data: for a movement as they are, else for decryption. -/
def State.assemble (s : State) (job : Nat) : State :=
  match Tab.find s.rdx.reads job with
  | none => s
  | some r =>
    if r.stage = .waiting ∧ r.pieces.all (fun p => p.data.isSome) then
      let next : ReadStage := match r.use with | .move _ => .ready | _ => .stored
      (s.modifyRead job (fun r => { r with
        stage := next, stored := r.pieces.flatMap (fun p => p.data.getD []) })).giveReadLane job
    else s

/-- The next source of a read whose present one has failed (R75, R196): a moss chunk's other copy; a bulk chunk's
reconstruction; else the read fails. -/
def State.nextSource (s : State) (job : Nat) : State :=
  match Tab.find s.rdx.reads job with
  | none => s
  | some r =>
    if r.source ≠ .first then s.modifyRead job (fun r => { r with stage := .failed })
    else if isBulk r.place then
      let ps := (s.placePieces r.place r.units).map ReadPiece.lostPage
      s.modifyRead job (fun r => { r with source := .rebuilt, pieces := ps, stage := .waiting, stored := [] })
    else match r.other with
      | none => s.modifyRead job (fun r => { r with stage := .failed })
      | some l =>
        let ps := s.placePieces l r.units
        (s.modifyRead job (fun r => { r with
          source := .second, place := l, other := some r.place, pieces := ps, stage := .waiting, stored := [] })).issuePieces
            job (r.use == .host) 0 ps

/-! What comes back. -/

/-- UNIT of the page header a piece should carry (R177). -/
def ReadPiece.unit (p : ReadPiece) : Nat := p.stripe.getD (placeOf (blockKey p.port p.die p.block))

/-- A page with the answer to its READ or RECON (R178, R196): its data, or its failure; only an uncorrectable page is worth another
level. RECON gives the page header only where the module holds it. -/
def ReadPiece.answer (p : ReadPiece) (c : FrnCmd) (x : Option Rsp) : ReadPiece :=
  match x with
  | none => { p with failed := true, level := 15 }
  | some q =>
    if q.status = 0 ∧ ((pageHeaderPasses (c.data.take 64) p.unit p.page q.dcrc && q.mdValid) || (c.op == 8 && !q.mdValid)) then
      { p with data := some (c.data.drop 64), failed := false }
    else if q.status = 3 ∧ c.op = 1 then { p with failed := true }
    else { p with failed := true, level := 15, recon := p.recon || c.op == 8 }

/-- The unit of a page that was hard to read is refreshed (R197). -/
def State.refreshPage (s : State) (p : ReadPiece) : State :=
  match p.stripe with
  | some id => s.refreshStripe id
  | none => s.refreshBlock (blockKey p.port p.die p.block)

/-- What a page that has been read says of its die and its block (R197, R198, R200). -/
def State.pageRead (s : State) (p : ReadPiece) (c : FrnCmd) (maxCorr : Nat) : State :=
  if c.op = 1 then
    let s1 := s.readRetries p.port p.die c.retry
    if s1.weakRead p.port c.retry maxCorr then s1.refreshPage p else s1
  else ((s.count F.FTL.STAT.COUNT 7).noteRecovered (blockKey p.port p.die p.block) p.page).refreshPage p

/-- The result of a READ or RECON of a piece of a chunk. -/
def State.readResult (s : State) (port : Nat) (c : FrnCmd) (job i : Nat) (x : Option Rsp) : State :=
  match ((Tab.find s.rdx.reads job).bind (fun r => r.pieces[i]?)).filter (fun p => p.port == port && p.data.isNone) with
  | none => s
  | some p =>
    let p1 := p.answer c x
    let s1 := (s.modifyPiece job i (fun _ => p1)).assemble job
    if p1.data.isSome then s1.pageRead p c ((x.map Rsp.maxCorr).getD 0) else s1

/-! Sets (R208 to R210). -/

/-- A set being read changed. -/
def State.modifySet (s : State) (n : Nat) (f : SetRead → SetRead) : State :=
  { s with rdn := { s.rdn with sets := Tab.modify s.rdn.sets n f } }

/-- A set read no longer. -/
def State.dropSet (s : State) (n : Nat) : State := { s with rdn := { s.rdn with sets := Tab.erase s.rdn.sets n } }

/-- The member whose page a set is read to reconstruct, when it is read for a host: that of the piece. -/
def State.setTarget (s : State) (r : SetRead) : Option Nat :=
  match r.use, Tab.find s.ftl.stripes r.unit with
  | .host job _, some x => (Tab.find s.rdx.reads job).map (fun q => (x.spot q.place).1)
  | _, _ => none

/-- The members whose pages are sources (R208, R210): present, not given up, and not the one sought; data members first, then P,
then Q. -/
def State.sources (s : State) (x : Stripe) (r : SetRead) : List Nat :=
  (List.range x.members.length).filter (fun m => !x.missing r.row r.slot m && s.setTarget r != some m &&
    !(Tab.find r.pages m).any ReadPiece.givenUp)

/-- The members whose pages the set needs: D sources, so Q only when a second page is missing (R210); the patrol compares
them all (R202, R234). -/
def State.wanted (s : State) (x : Stripe) (r : SetRead) : List Nat :=
  match r.use with
  | .patrol => s.sources x r
  | _ => (s.sources x r).take x.dataMembers

/-- The READs of the pages a set needs and has not asked for. -/
def State.askSet (s : State) (n : Nat) : State :=
  match Tab.find s.rdn.sets n with
  | none => s
  | some r =>
    match Tab.find s.ftl.stripes r.unit with
    | none => s
    | some x =>
      (s.wanted x r).foldl (fun (t : State) m =>
        match x.pageSpot r.row r.slot m with
        | none => t
        | some (port, die, block) =>
          if (Tab.find r.pages m).isSome then t
          else (piecesOf (some r.unit) port die block (r.row * 16384) 16384).foldl (fun (u : State) p =>
            (u.modifySet n (fun r => { r with pages := Tab.insert r.pages m p })).readPage (.setPage n m) p r.use.isHost) t) s

/-- A set begins to be read: its number names the side that reads it. -/
def State.startSet (s : State) (r : SetRead) : State :=
  let n := s.rdn.nextSet * 2 + s.ftl.side
  ({ s with rdn := { s.rdn with sets := Tab.insert s.rdn.sets n r, nextSet := s.rdn.nextSet + 1 } } : State).askSet n

/-- A page of a block read by the patrol. -/
def State.startBlockPage (s : State) (key page : Nat) : State :=
  let n := s.rdn.nextSet * 2 + s.ftl.side
  let ps := piecesOf none (keyPort key) (keyDie key) (keyBlock key) (page * 16384) 16384
  let r : SetRead := { unit := key, row := page, slot := 0, use := .block, pages := ps.map (fun p => (0, p)) }
  let s1 : State := { s with rdn := { s.rdn with sets := Tab.insert s.rdn.sets n r, nextSet := s.rdn.nextSet + 1 } }
  ps.foldl (fun (t : State) p => t.readPage (.setPage n 0) p false) s1

/-- The result of a READ or RECON of a page of a set. -/
def State.setResult (s : State) (port : Nat) (c : FrnCmd) (n m : Nat) (x : Option Rsp) : State :=
  match ((Tab.find s.rdn.sets n).bind (fun r => Tab.find r.pages m)).filter (fun p => p.port == port && p.data.isNone) with
  | none => s
  | some p =>
    let p1 := p.answer c x
    let s1 := (s.modifySet n (fun r => { r with pages := Tab.insert r.pages m p1 })).askSet n
    if p1.data.isSome then s1.pageRead p c ((x.map Rsp.maxCorr).getD 0) else s1

/-- The pages of a set as they were read, in member order. -/
def SetRead.got (r : SetRead) (w : Nat) : List (Option (List Byte)) :=
  (List.range w).map (fun m => (Tab.find r.pages m).bind ReadPiece.data)

/-! Retries (R196). -/

/-- The levels FTL may ask of a module (R196, R259). -/
def State.retryMax (s : State) (n : Nat) : Nat :=
  min (s.fld F.FTL.RETRY_CTL.MAX) (((s.port n).desc.map FrnDesc.retryLevels).getD 0)

/-- The blocks of a stripe's member, or of its replacement, that hold a page: those of the member's row (R206). -/
def Stripe.rowBlocks (x : Stripe) (p : ReadPiece) : List (Nat × Nat) :=
  let all := x.members.flatMap (fun m => (m.module, m.dies) :: (m.repl.map (fun r => (r.1, r.2.1))).toList)
  ((all.find? (fun b => b.1 == p.port && b.2.contains (p.die, p.block))).map Prod.snd).getD []

/-- The pages of stripes that are being read. -/
def State.pagesRead (s : State) : List ReadPiece :=
  s.rdx.reads.flatMap (fun r => r.2.pieces) ++ s.rdn.sets.flatMap (fun r => r.2.pages.map Prod.snd)

/-- The blocks that the module XORs to give a page through die-parity assist (R196, R261): allowed when no other page of the
member's row fails. -/
def State.assistOf (s : State) (p : ReadPiece) : Option (List (Nat × Nat)) :=
  match p.stripe.bind (Tab.find s.ftl.stripes) with
  | none => none
  | some x =>
    let mates := (x.rowBlocks p).filter (fun d => d ≠ (p.die, p.block))
    let fails (q : ReadPiece) : Bool :=
      q.stripe == p.stripe && q.port == p.port && q.page == p.page && mates.contains (q.die, q.block) && q.failed &&
        decide (s.retryMax q.port ≤ q.level)
    if mates = [] ∨ !(s.port p.port).usable ∨ s.pagesRead.any fails then none else some mates

/-- The next way to read a failed page (R196): another level, or die-parity assist, its sources given. -/
def State.nextTry (s : State) (p : ReadPiece) : Option (ReadPiece × List (Nat × Nat)) :=
  if p.level < s.retryMax p.port then some ({ p with failed := false, level := p.level + 1 }, [])
  else if p.recon then none
  else (s.assistOf p).map (fun src => ({ p with failed := false, recon := true, level := 15 }, src))

/-- The command of the next try. -/
def State.tryPage (s : State) (u : Purpose) (p : ReadPiece) (src : List (Nat × Nat)) (host : Bool) : State :=
  if src = [] then (s.readPage u p host).count F.FTL.STAT.COUNT 6
  else s.issue p.port { frnCmd 8 p.die p.block p.page src.length p.xlen true u host with col := p.col, src := src }

/-- The last level has failed: the die's average has the read (R200). -/
def State.levelsDone (s : State) (p : ReadPiece) : State :=
  if p.level = 15 ∨ p.level < s.retryMax p.port then s else s.readRetries p.port p.die p.level

/-- READ_RETRY of a piece of a chunk: when nothing is left, a bulk page waits for RDN, and a moss chunk is read from its other
copy. -/
def State.retryPiece (s : State) (job i : Nat) : State :=
  match Tab.find s.rdx.reads job with
  | none => s
  | some r =>
    match r.pieces[i]? with
    | none => s
    | some p =>
      if r.stage ≠ .waiting ∨ !p.failed ∨ p.givenUp then s
      else
        let s1 := s.levelsDone p
        match s.nextTry p with
        | some (p1, src) => (s1.modifyPiece job i (fun _ => p1)).tryPage (.read job i) p1 src (r.use == .host)
        | none => if p.stripe.isSome then s1.modifyPiece job i ReadPiece.lostPage else s1.nextSource job

/-- READ_RETRY of a page of a set: when nothing is left the page is missing (R208), and another source is asked for. -/
def State.retrySet (s : State) (n m : Nat) : State :=
  match Tab.find s.rdn.sets n with
  | none => s
  | some r =>
    match Tab.find r.pages m with
    | none => s
    | some p =>
      if !p.failed ∨ p.givenUp then s
      else
        let s1 := s.levelsDone p
        match s.nextTry p with
        | some (p1, src) =>
          (s1.modifySet n (fun r => { r with pages := Tab.insert r.pages m p1 })).tryPage (.setPage n m) p1 src r.use.isHost
        | none => (s1.modifySet n (fun r => { r with pages := Tab.insert r.pages m p.lostPage })).askSet n

/-- READ_RETRY (R196): a page that could not be read is asked for at the next level; after the last, a bulk page through
die-parity assist, which is allowed when no other page of the member's row fails, and then from RDN; a moss chunk from its other
copy. -/
def execReadRetry (page : PageRef) (s : State) : Host.Outcome State Fault Refusal :=
  .next (match page with
    | .piece job i => s.onSide (s.sideOfRead job) (fun t => t.retryPiece job i)
    | .page set m => s.onSide (set % 2) (fun t => t.retrySet set m))

/-! Lost sets (R231). -/

/-- A set with three or more missing pages is lost: its LOSS record, at once. -/
def State.loseSet (s : State) (id row slot members : Nat) : State :=
  match Tab.find s.ftl.stripes id with
  | none => s
  | some x =>
    if x.setLost row slot then s
    else
      let l : LostSet := { row := row, slot := slot, members := members, swept := false }
      ((s.modifyStripe id (fun x => { x with lost := x.lost ++ [l] })).formSj id (.loss row slot members)).count
        F.RDN.STAT.COUNT 10

/-- The pages of a set as RDN may use them (R208): those of missing members left out. -/
def Stripe.usablePages (x : Stripe) (row slot : Nat) (pages : List (Option (List Byte))) : List (Option (List Byte)) :=
  (List.range x.members.length).map (fun m => if x.missing row slot m then none else pages.getD m none)

/-- The members whose page of the set is missing, as a mask (R231). -/
def State.missingOfSet (s : State) (x : Stripe) (r : SetRead) : Nat :=
  ((List.range x.members.length).filter (fun m => !(s.sources x r).contains m)).foldl (fun t m => t + 2 ^ m) 0

/-- The set of a piece that waits for a reconstruction. -/
def State.hostSet (s : State) (job i : Nat) : Option (Nat × SetRead) := s.rdn.sets.find? (fun r => r.2.use == .host job i)

/-- The read of a piece whose set cannot be reconstructed ends under R75 (R210, R231). -/
def State.failRead (s : State) (job : Nat) : State := s.modifyRead job (fun r => { r with stage := .failed })

/-- HOST_RECONSTRUCT of a piece (R207 to R210): at first RDN asks for the D sources of its set; once they are present, and a lane
is free, it reconstructs the page. A set with three or more missing pages is lost, and the read ends under R75. -/
def State.hostReconstruct (s : State) (job i : Nat) (r : ChunkRead) (p : ReadPiece) (id : Nat) (x : Stripe) : State :=
  let (m, slot) := x.spot r.place
  if x.setLost p.page slot || decide (x.rowsDone ≤ p.page) then s.failRead job
  else match s.hostSet job i with
    | none =>
      (s.startSet { unit := id, row := p.page, slot := slot, use := .host job i, pages := [] }).count F.FTL.STAT.COUNT 8
    | some (n, q) =>
      if (s.sources x q).length < x.dataMembers then
        ((s.loseSet id p.page slot (s.missingOfSet x q)).dropSet n).failRead job
      else if !(s.wanted x q).all (fun w => (Tab.find q.pages w).any (fun y => y.data.isSome)) then s.askSet n
      else if !s.rdnFree then s
      else match reconstruct (x.usablePages p.page slot ((q.got x.members.length).set m none)) with
        | none => s
        | some whole =>
          let bytes := ((whole.getD m []).drop (p.col * 64)).take (p.xlen * 64)
          let s1 := (s.modifyPiece job i (fun p => { p with data := some bytes, failed := false })).assemble job
          let s2 := ((s1.dropSet n).chargeRdn x.dataMembers 1).count F.RDN.STAT.COUNT 1
          let s3 := if (x.members[m]?).any StripeMember.failed then s2 else s2.noteRecovered (blockKey p.port p.die p.block) p.page
          s3.refreshStripe id

/-- HOST_RECONSTRUCT (R207 to R210): RDN's work on a piece that every other way has failed to give. -/
def execHostReconstruct (job piece : Nat) (s : State) : Host.Outcome State Fault Refusal :=
  .next (s.onSide (s.sideOfRead job) (fun (s : State) => match Tab.find s.rdx.reads job with
    | none => s
    | some r =>
      match (r.pieces[piece]?).filter (fun p => r.stage == .waiting && p.givenUp) with
      | none => s
      | some p =>
        match p.stripe with
        | none => s
        | some id => match Tab.find s.ftl.stripes id with
          | none => s
          | some x => s.hostReconstruct job piece r p id x))

/-! Rewriting (R195). -/

/-- The place from which a read had first tried to take its chunk. -/
def ChunkRead.firstPlace (r : ChunkRead) : Nat := if r.source = .second then r.other.getD r.place else r.place

/-- A chunk that passed from a source other than the first is to be rewritten (R75, R195). -/
def State.queueRewrite (s : State) (r : ChunkRead) : State :=
  if r.source = .first ∨ s.ftl.rewrites.any (fun w => w.chunk == r.chunk) then s
  else { s with ftl := { s.ftl with
    rewrites := s.ftl.rewrites ++ [{ chunk := r.chunk, stored := r.stored, place := r.firstPlace }] } }

/-- A stored chunk as the job of a movement in the moss tier: copy `copy` is placed anew, the other one stands. -/
def jobOfStored (chunk keyId granules copy loc0 loc1 : Nat) (b : List Byte) : ChunkJob := {
  cmd := none, nsid := 0, granule := 0, granules := granules, content := [], stage := .placed, fingerprint := 0, dkey := 0,
  addr := chunk, lane := none, cmpLane := none, cmpConfig := 0, since := 0, driven := false, raw := false, payload := b.drop 96,
  contentCheck := 0, keySlot := 0, keyId := keyId, header := b.take 80, tag := BitVec.ofNat 128 (leNat ((b.drop 80).take 16)),
  moves := some .rewrite, loc0 := loc0, loc1 := loc1, ok0 := copy != 0, ok1 := copy == 0, fails0 := 0, fails1 := 0,
  left0 := if copy = 0 then 1 else 0, left1 := if copy = 0 then 0 else 1, again := 0, recorded := false, me := 0 }

/-- A moss copy placed again from the bytes that passed, in a domain other than the surviving copy's (R195). With no die to take
it, UNPLACEABLE, and the rewriting waits. -/
def State.rewriteMoss (s : State) (w : Rewrite) (e : ChunkEntry) : State :=
  let copy := if w.place = e.loc0 then 0 else 1
  let stays := if copy = 0 then e.loc1 else e.loc0
  let need := pagesFor w.stored.length * 16384
  match (s.mossOther 0 need (s.domain (keyPort (blockKeyOf stays)))).bind (fun d => s.openBlock 0 need d.1 d.2) with
  | none => s.event Src.FTL 4 0 w.chunk
  | some (k, s1) =>
    let n := s1.rdx.nextChunk
    let (o, s2) := s1.programChunks k copy [w.stored] [⟨n, 0, w.stored.length⟩] false
    let place := placeOf k + o / 64
    let loc0 := if copy = 0 then place else stays
    let loc1 := if copy = 0 then stays else place
    let j := jobOfStored w.chunk e.keyId e.granules copy loc0 loc1 w.stored
    let mv : Movement := {
      kind := .rewrite, loc0 := loc0, loc1 := loc1, state := 1, keyId := e.keyId, units := e.units, verified := false,
      jseq := none, newMoss := [place], oldUnits := none, old := [w.place] }
    { s2 with
      rdx := { s2.rdx with chunks := Tab.insert s2.rdx.chunks n j, nextChunk := n + 1 },
      ftl := { s2.ftl with moves := Tab.insert s2.ftl.moves w.chunk mv } }

/-- A rewriting is still asked for: its chunk still lies where it could not be read. -/
def State.rewriteDue (s : State) (w : Rewrite) : Bool :=
  (Tab.find s.ftl.tables.chunks w.chunk).any (fun e =>
    (e.state == 1 && (e.loc0 == w.place || e.loc1 == w.place)) || (e.state == 2 && e.loc0 == w.place))

/-- CHUNK_REWRITE (R195): the oldest recovered chunk that is in no movement is rewritten from the bytes that passed: a moss copy is
placed again; a bulk chunk moves into a relocation stripe, and its former stripe takes STATE 5. The chunk stays in the queue until
its movement has ended. -/
def execChunkRewrite (s : State) : Host.Outcome State Fault Refusal :=
  .next (s.eitherSide (fun (s : State) =>
    let s1 : State := { s with ftl := { s.ftl with rewrites := s.ftl.rewrites.filter s.rewriteDue } }
    match s1.ftl.rewrites.find? (fun w => s1.mayMove w.chunk) with
    | none => s1
    | some w =>
      match Tab.find s1.ftl.tables.chunks w.chunk with
      | none => s1
      | some e =>
        if e.state = 1 then s1.rewriteMoss w e
        else (s1.moveToBulk .rewrite 1 w.chunk e.keyId w.stored).2.refreshStripe (stripeOf e.loc0)))

end Sys2Proof.Machine
end

