-- ==== Sys2Proof/Machine/Movers.lean ====
section
/-!
DEFINITION. Machine/Movers.lean: the movers of stored bytes: fold (R187, R194) and garbage collection (R190, R192, R195). Each asks
for the stored bytes of its chunks in order within its grant, and places them as they arrive.
-/

namespace Sys2Proof.Machine

/-! What every mover does (R160, R187, R190). -/

/-- The read of a chunk for a movement of a class. -/
def State.moverRead (s : State) (cls chunk : Nat) : Option (Nat × ChunkRead) :=
  s.rdx.reads.find? (fun r => r.2.use == .move cls && r.2.chunk == chunk)

/-- A mover has read the chunk from every source in vain (R75): it passes the chunk over. -/
def State.unreadable (s : State) (chunk : Nat) : Bool :=
  s.rdx.reads.any (fun r => r.2.chunk == chunk && r.2.stage == .failed)

/-- A read ends without being used. -/
def State.dropRead (s : State) (job : Nat) : State := { s with rdx := { s.rdx with reads := Tab.erase s.rdx.reads job } }

/-- The reads of a class on this side for chunks it no longer moves are given up. -/
def State.dropStale (s : State) (cls : Nat) (queue : List Nat) : State :=
  { s with rdx := { s.rdx with reads := s.rdx.reads.filter (fun r =>
      r.2.use != .move cls || r.2.chunk / 2 ^ 47 != s.ftl.side || queue.contains r.2.chunk ||
      (r.2.stage == .failed && (Tab.find s.ftl.tables.chunks r.2.chunk).isSome)) } }

/-- Chunks whose stored bytes are present are placed, in order, up to the first that waits. Bytes that fail the header checks of
R51 are read from the next source (R75); fold moves the bytes unchanged (R187). -/
def State.placeReady (s : State) (kind : MoveKind) (cls stripeCls : Nat) (room : State → Nat → Bool) : List (Nat × ChunkEntry) → State
  | [] => s
  | (c, e) :: cs =>
    match s.moverRead cls c with
    | none => s
    | some (n, r) =>
      if r.stage ≠ .ready then s
      else if kind ≠ .fold ∧ !(readHeader r.stored).passes then s.nextSource n
      else if !room s r.stored.length then s
      else match s.moveToBulk kind stripeCls c e.keyId r.stored with
        | (true, t) => (t.dropRead n).placeReady kind cls stripeCls room cs
        | (false, t) => t

/-- The stored bytes of further chunks are asked for while the grant lasts (R418). -/
def State.askReads (s : State) (cls : Nat) : List (Nat × ChunkEntry) → State
  | [] => s
  | (c, e) :: cs =>
    if (s.moverRead cls c).isSome then s.askReads cls cs
    else if s.granted cls then ((s.startRead c (.move cls) []).spend cls (e.units * 64)).askReads cls cs
    else s

/-- A mover's step over its chunks in order. -/
def State.moveChunks (s : State) (kind : MoveKind) (cls stripeCls : Nat) (room : State → Nat → Bool) (queue : State → List (Nat × ChunkEntry)) :
    State :=
  let s1 := (s.dropStale cls ((queue s).map Prod.fst)).placeReady kind cls stripeCls room (queue s)
  s1.askReads cls (queue s1)

/-- No mover but fold waits for room in a row begun (R194). -/
def anyRoom (_ : State) (_ : Nat) : Bool := true

/-! Fold (R187, R194). -/

/-- A chunk placed that is not yet in the chunk table. -/
def State.onItsWay (s : State) (chunk : Nat) : Bool :=
  (Tab.find s.ftl.tables.chunks chunk).isNone &&
  ((s.chunkEntry chunk).isSome || s.rdx.chunks.any (fun p => p.2.addr == chunk && p.2.stage == .placed))

/-- The moss chunks fold takes next: in the order they were placed, dead ones and those in movement skipped (R187). One that is
still on its way holds those after it. -/
def State.foldQueue (s : State) : List (Nat × ChunkEntry) :=
  (s.ftl.mossOrder.takeWhile (fun c => !s.onItsWay c)).filterMap (fun c =>
    match Tab.find s.ftl.tables.chunks c with
    | some e => if e.state = 1 ∧ s.mayMove c ∧ !s.unreadable c then some (c, e) else none
    | none => none)

/-- FOLD (R187): fold moves moss chunks, ciphertext unchanged, into the open fold stripe within the pacer's grant: read from
copy 0, or from copy 1 when copy 0's page fails R178. While FOLD_STOPPED it only ends rows already begun (R194). -/
def execFold (s : State) : Host.Outcome State Fault Refusal :=
  .next (s.eitherSide (fun (s : State) => s.moveChunks .fold Cls.fold 0 (fun t n => t.foldRoom 0 n) State.foldQueue))

/-! Garbage collection (R192, R194). -/

/-- The bulk chunks of a stripe that may be moved. -/
def State.movable (s : State) (id : Nat) : List (Nat × ChunkEntry) :=
  s.ftl.tables.chunks.filter (fun p => p.2.state = 2 ∧ stripeOf p.2.loc0 = id ∧ s.mayMove p.1 ∧ !s.unreadable p.1)

/-- The moss chunks of blocks to be refreshed. -/
def State.refreshMoss (s : State) : List (Nat × ChunkEntry) :=
  s.foldQueue.filter (fun p => [p.2.loc0, p.2.loc1].any (fun l =>
    (Tab.find s.ftl.blocks (blockKeyOf l)).any (fun b => b.state == 5)))

/-- The spread of erase counts on the head's dies (R192): blocks that no list names have never been erased. -/
def State.eraseSpread (s : State) : Nat :=
  let counts := s.ftl.wear.map (fun p => p.2.erases8 / 8)
  let blocks := s.frn.ports.foldl (fun t p =>
    match p.2.desc with
    | some d => t + ((List.range d.dies).filter (s.drives d)).length * d.blocks
    | none => t) 0
  counts.foldl max 0 - (if counts.length < blocks then 0 else counts.foldl min (counts.foldl max 0))

/-- The lowest erase count among a stripe's blocks. -/
def State.lowestErase (s : State) (x : Stripe) : Nat :=
  let l := x.members.flatMap (fun m => m.dies.map (fun p => (s.blockWear (blockKey m.module p.1 p.2)).erases8))
  l.foldl min (l.foldl max 0)

/-- The least of some stripes by a measure, the first on a tie. -/
def leastBy (f : Nat × Stripe → Nat) : List (Nat × Stripe) → Option (Nat × Stripe)
  | [] => none
  | p :: ps => match leastBy f ps with
    | none => some p
    | some q => if f q < f p then some q else some p

/-- The victim of garbage collection (R192, R225): stripes of STATE 5, then the one with the least-erased block when the
spread exceeds WL_SPREAD, then the lowest VALID, the lower ERASES on a tie. -/
def State.victim (s : State) : Option Nat :=
  let closed := s.ftl.stripes.filter (fun p => (p.2.state = 2 ∨ p.2.state = 5) ∧ (Tab.find s.rdn.rebuilds p.1).isNone ∧
    s.movable p.1 ≠ [])
  match closed.find? (fun p => p.2.state = 5) with
  | some p => some p.1
  | none =>
    if s.eraseSpread > s.fld F.FTL.GC_CTL.WL_SPREAD then (leastBy (fun p => s.lowestErase p.2) closed).map Prod.fst
    else (leastBy (fun p => p.2.valid * 2 ^ 32 + p.2.erases) closed).map Prod.fst

/-- The chunks to be moved next: those of moss blocks to be refreshed, then the victim's (R192, R197). -/
def State.gcQueue (s : State) : List (Nat × ChunkEntry) :=
  match s.refreshMoss with
  | [] => match s.victim with | some id => s.movable id | none => []
  | l => l

/-- GC_COPY (R192): garbage collection copies live chunks of its victim into the open relocation stripe. -/
def execGcCopy (s : State) : Host.Outcome State Fault Refusal :=
  .next (s.eitherSide (fun (s : State) => s.moveChunks .relocate Cls.gc 1 anyRoom State.gcQueue))

end Sys2Proof.Machine
end

