-- ==== Sys2Proof/Machine/Redundancy.lean ====
section
/-!
DEFINITION. Machine/Redundancy.lean: redundancy across modules (chapter 06, R220 to R240): member failure, rebuild, lost
data, the patrol and its comparison (R202, R203, R234, R235), reshape and evacuation, and the results of module
commands.
-/

namespace Sys2Proof.Machine

/-! Conditions of a stripe (R223). -/

/-- FAILED members of a stripe. -/
def Stripe.failedCount (x : Stripe) : Nat := (x.members.filter StripeMember.failed).length

/-- A stripe names a module, as a member or as a replacement. -/
def Stripe.names (x : Stripe) (n : Nat) : Bool :=
  x.members.any (fun m => m.module == n || (match m.repl with | some (r, _, _) => r == n | none => false))

/-- This head's stripes, of every side held, with a member on a module (RDN.MOD_STATE.STRIPES). -/
def State.stripesOn (s : State) (n : Nat) : Nat :=
  ((s.ftl.stripes ++ ((s.other.map (fun o => o.1.stripes)).getD [])).filter (fun p => p.2.names n)).length

/-- MODULE_EXCLUDE (R224): a FAILED module that no stripe names any longer is EXCLUDED. -/
def State.excludeCheck (s : State) : State :=
  (List.range 96).foldl (fun (t : State) n =>
    if t.fld (F.RDN.MOD_STATE.STATE.nth n) = 1 ∧ t.stripesOn n = 0 then
      (t.put (F.RDN.MOD_STATE.STATE.nth n) 2).put (F.RDN.MOD_STATE.EXCL.nth n) 1
    else t) s

/-- REBUILD_DONE: no stripe is degraded, critical or broken. -/
def State.rebuildDoneCheck (s : State) : State :=
  if s.rdn.impaired && s.ftl.stripes.all (fun p => p.2.failedCount == 0) then
    ({ s with rdn := { s.rdn with impaired := false } } : State).event Src.RDN 3
  else s

/-- Every set of a broken stripe is lost (R231). -/
def State.loseBroken (s : State) (id : Nat) : State :=
  match Tab.find s.ftl.stripes id with
  | none => s
  | some x =>
    if x.failedCount < 3 then s
    else
      (List.range x.rowsDone).foldl (fun (t : State) row =>
        (List.range (x.g - 1)).foldl (fun (u : State) slot =>
          let gone := (List.range x.members.length).filter (x.missing row slot)
          if gone.length ≥ 3 then u.loseSet id row slot (gone.foldl (fun m i => m + 2 ^ i) 0) else u) t) s

/-- A member of a stripe fails (R223, R229): its MEMBER record, the closing of an open stripe, and the new condition. -/
def State.failMember (s : State) (id m : Nat) : State :=
  match Tab.find s.ftl.stripes id with
  | none => s
  | some x =>
    match x.members[m]? with
    | none => s
    | some mb =>
      if mb.failed then s
      else
        let s1 := (s.modifyStripe id (fun x => { x with members := x.members.set m { mb with failed := true } })).formSj id
          (.member m 1 mb.module)
        let s2 := if x.state = 1 then (s1.closeStripe id 5).event Src.FTL 5 id x.rowsDone else s1
        let k := x.failedCount + 1
        let s3 := if k = 1 then s2.event Src.RDN 0 id m else if k = 2 then s2.event Src.RDN 1 id m
          else if k = 3 then s2.event Src.RDN 2 id m else s2
        let s4 := match Tab.find s3.rdn.rebuilds id with
          | some rb =>
            if rb.b.isNone then
              let rb' := { rb with b := some m, rowsB := 0, commitB := none }
              ({ s3 with rdn := { s3.rdn with rebuilds := Tab.insert s3.rdn.rebuilds id rb' } } : State).formSj id
                (.rebuild rb.a m rb.rowsA 0)
            else s3
          | none => s3
        ({ s4 with rdn := { s4.rdn with impaired := true } } : State).loseBroken id

/-- REPLACEMENT_ABANDON (R230): a replacement on the module failed before its commit. -/
def State.abandonReplacement (s : State) (id m : Nat) : State :=
  match Tab.find s.ftl.stripes id with
  | none => s
  | some x =>
    match x.members[m]? with
    | none => s
    | some mb =>
      match mb.repl with
      | none => s
      | some (r, _, _) =>
        let s1 := (s.modifyStripe id (fun x => { x with members := x.members.set m { mb with repl := none } })).formSj id
          (.member m 4 r)
        let reset (rb : Rebuild) : Rebuild :=
          if rb.a = m then { rb with rowsA := 0, commitA := none, row := 0, left := 0 }
          else if rb.b = some m then { rb with rowsB := 0, commitB := none, row := 0, left := 0 }
          else rb
        { s1 with rdn := { s1.rdn with rebuilds := Tab.modify s1.rdn.rebuilds id reset } }

/-- MEMBER_FAILURE (R223): a module loss acted on at rank 6. -/
def State.failModule (s : State) (n : Nat) : State :=
  let s1 := s.put (F.RDN.MOD_STATE.STATE.nth n) 1
  let s2 := s1.ftl.stripes.foldl (fun (t : State) p =>
    (List.range p.2.members.length).foldl (fun (u : State) m =>
      match p.2.members[m]? with
      | none => u
      | some mb =>
        let u1 := if mb.module = n then u.failMember p.1 m else u
        if (match mb.repl with | some (r, _, _) => r == n | none => false) then u1.abandonReplacement p.1 m else u1) t) s1
  s2.excludeCheck

/-! Rebuild (R225 to R230). -/

/-- Stripe rebuilt by relocation rather than in place (R225). -/
def State.byRelocation (s : State) (id : Nat) (x : Stripe) : Bool :=
  (Tab.find s.rdn.rebuilds id).isNone &&
  (x.state == 5 || decide (x.valid * 100 < s.fld F.RDN.REBUILD_CTL.RELOC_PCT * (x.blockSize * x.fill.length)))

/-- The class in which a stripe is rebuilt (R227). -/
def Stripe.rebuildRank (x : Stripe) : Nat :=
  if x.failedCount = 2 then 0
  else if x.failedCount = 1 then (if x.cls = 2 then 1 else 2)
  else if x.failedCount ≥ 3 then 3 else 4

/-- The stripe rebuilt next (R227): by class, then ascending; one whose chunks are all on their way out is passed over. -/
def State.rebuildTarget (s : State) : Option (Nat × Stripe) :=
  let due := s.ftl.stripes.filter (fun p => (p.2.state = 2 ∨ p.2.state = 5) ∧ p.2.failedCount > 0 ∧
    (!s.byRelocation p.1 p.2 || s.movable p.1 != []))
  leastBy (fun p => p.2.rebuildRank) due

/-- A replacement for a member (R214): the key order goes on past the stripe's members, and its next eligible module is taken, under
the cap over the surviving members. -/
def State.replacement (s : State) (id : Nat) (x : Stripe) : Option (Nat × List (Nat × Nat)) :=
  let live := (x.members.filter (fun m => !m.failed)).map StripeMember.module ++
    x.members.filterMap (fun m => m.repl.map (fun r => r.1))
  let all := x.members.map StripeMember.module ++ live
  let past := ((s.keyOrder id).reverse.takeWhile (fun n => n ∉ all)).reverse
  match s.choose id (s.domainCap id x.members.length) live 1 past with
  | n :: _ => (s.memberDies id n).map (fun ds => (n, ds))
  | [] => none

/-- The replacement of a member chosen and journalled (R226 step 1). -/
def State.chooseReplacement (s : State) (id m : Nat) : State :=
  match Tab.find s.ftl.stripes id with
  | none => s
  | some x =>
    match x.members[m]? with
    | none => s
    | some mb =>
      match s.replacement id x with
      | none => s.event Src.RDN 9 id
      | some (n, ds) =>
        (s.modifyStripe id (fun x => { x with members := x.members.set m { mb with repl := some (n, ds, 0) } })).formSj id
          (.member m 2 n)

/-- Every MEMBER record of a stripe is durable: the step it ends has ended (R226). -/
def State.membersSettled (s : State) (id : Nat) : Bool :=
  s.rdn.journal.all (fun r => r.stripe != id || r.durable || (match r.body with | .member _ _ _ => false | _ => true))

/-- The rebuild of a stripe begins with its FAILED members. -/
def State.beginRebuild (s : State) (id : Nat) (x : Stripe) : State :=
  let failed := (List.range x.members.length).filter (fun m => (x.members[m]?).any StripeMember.failed)
  match failed with
  | [] => s
  | a :: rest =>
    let rb : Rebuild := { a := a, b := rest.head?, rowsA := 0, rowsB := 0, recorded := 0, commitA := none, commitB := none,
                          row := 0, left := 0 }
    { s with rdn := { s.rdn with rebuilds := Tab.insert s.rdn.rebuilds id rb } }

/-- The members a row rebuilds: those whose replacement holds the rows below it and not it (R226, R229). -/
def Rebuild.membersAt (rb : Rebuild) (row : Nat) : List Nat :=
  (if rb.rowsA = row ∧ rb.commitA.isNone then [rb.a] else []) ++
  (match rb.b with | some b => if rb.rowsB = row ∧ rb.commitB.isNone then [b] else [] | none => [])

/-- The next row to rebuild: the lowest that some member still needs. -/
def Rebuild.nextRow (rb : Rebuild) (rows : Nat) : Nat :=
  let a := if rb.commitA.isNone then rb.rowsA else rows
  match rb.b with
  | some _ => if rb.commitB.isNone then min a rb.rowsB else a
  | none => a

/-- The page a rebuild programs for a member: reconstructed, or zeros where the set is lost (R231). -/
def rebuiltPage (set : Option (List (List Byte))) (m : Nat) : List Byte :=
  match set with
  | some whole => whole.getD m []
  | none => List.replicate 16384 0

/-- One member's pages of a row programmed onto its replacement, and the die-parity page formed (R226 step 2). -/
def State.rebuildMember (s : State) (id : Nat) (x : Stripe) (row : Nat) (sets : List (Option (List (List Byte)))) (m : Nat) :
    State :=
  match (x.members[m]?).bind StripeMember.repl with
  | none => s
  | some (n, ds, _) =>
    let mem := sets.map (fun q => rebuiltPage q m)
    (List.range x.g).foldl (fun (t : State) slot =>
      let (die, block) := ds.getD slot (0, 0)
      if slot + 1 < x.g then
        let (img, t1) := t.pageImage (x.pageKind m) id row 0xFFFF (mem.getD slot [])
        t1.issue n { frnCmd 2 die block row 1 0 false (.rebuild id row m slot) false with data := img }
      else
        let (img, t1) := t.pageImage 6 id row 0xFFFF (dieParity mem)
        t1.issue n { frnCmd 7 die block row (x.g - 1) 0 false (.rebuild id row m slot) false with
          src := ds.take (x.g - 1), data := img.drop 16384 }) s

/-- The sets of a row that are being read. -/
def State.rowSets (s : State) (use : SetFor) (id row : Nat) : List (Nat × SetRead) :=
  s.rdn.sets.filter (fun r => r.2.use == use && r.2.unit == id && r.2.row == row)

/-- The sets read for a use but for those of one row are given up. -/
def State.keepRow (s : State) (use : SetFor) (id row : Nat) : State :=
  { s with rdn := { s.rdn with sets := s.rdn.sets.filter (fun r => r.2.use != use || (r.2.unit == id && r.2.row == row)) } }

/-- Every page that a set needs is present. -/
def State.setReady (s : State) (x : Stripe) (r : SetRead) : Bool :=
  (s.wanted x r).all (fun m => (Tab.find r.pages m).any (fun p => p.data.isSome))

/-- One row rebuilt in place from the pages of its sets, die slot by die slot (R226, R229, R231). -/
def State.programRebuilt (s : State) (id : Nat) (x : Stripe) (rb : Rebuild) (row : Nat) (sets : List (Nat × SetRead)) : State :=
  let ms := rb.membersAt row
  let whole := (List.range (x.g - 1)).map (fun slot =>
    (sets.find? (fun q => q.2.slot == slot)).bind (fun q => reconstruct (x.usablePages row slot (q.2.got x.members.length))))
  let s1 := (sets.map Prod.fst).foldl State.dropSet (ms.foldl (fun (t : State) m => t.rebuildMember id x row whole m) s)
  let rb' := { rb with row := row, left := ms.length * x.g }
  let s2 : State := { s1 with rdn := { s1.rdn with rebuilds := Tab.insert s1.rdn.rebuilds id rb' } }
  ((s2.chargeRdn x.dataMembers sets.length).spend Cls.rebuild (ms.length * (x.g - 1) * 16384)).count F.RDN.STAT.COUNT 2
    (ms.length * (x.g - 1))

/-- The next row of an in-place rebuild (R226): its sets are read, one that cannot be reconstructed is lost at once (R231), and when
every other is present the row is programmed. -/
def State.rebuildRow (s : State) (id : Nat) (x : Stripe) (rb : Rebuild) : State :=
  let row := rb.nextRow x.rowsDone
  if row ≥ x.rowsDone ∨ rb.membersAt row = [] then s
  else
    let s := s.keepRow .rebuild id row
    let sets := s.rowSets .rebuild id row
    let slots := (List.range (x.g - 1)).filter (fun slot => !x.setLost row slot)
    if sets.length < slots.length then
      (slots.filter (fun slot => sets.all (fun q => q.2.slot != slot))).foldl (fun (t : State) slot =>
        t.startSet { unit := id, row := row, slot := slot, use := .rebuild, pages := [] }) s
    else
      let short := sets.filter (fun q => (s.sources x q.2).length < x.dataMembers)
      if short ≠ [] then
        short.foldl (fun (t : State) q => (t.loseSet id row q.2.slot (s.missingOfSet x q.2)).dropSet q.1) s
      else if sets.all (fun q => s.setReady x q.2) then (if s.rdnTakes then s.programRebuilt id x rb row sets else s)
      else (sets.map Prod.fst).foldl State.askSet s

/-- REBUILD_ROW (R225 to R231): the next work of rebuild. For a stripe rebuilt by relocation, live chunks move; for one rebuilt in
place, its replacements are chosen, and then one row is reconstructed. -/
def execRebuildRow (s : State) : Host.Outcome State Fault Refusal :=
  .next (s.eitherSide (fun (s : State) =>
    if s.fld F.RDN.REBUILD_CTL.EN = 0 ∨ !s.granted Cls.rebuild then s
    else match s.rebuildTarget with
      | none => s
      | some (id, x) =>
        if s.byRelocation id x then s.moveChunks .relocate Cls.rebuild 1 anyRoom (fun t => t.movable id)
        else match Tab.find s.rdn.rebuilds id with
          | none => s.beginRebuild id x
          | some rb =>
            let bare := ([rb.a] ++ rb.b.toList).filter (fun m => (x.members[m]?).any (fun mb => mb.failed && mb.repl.isNone))
            if bare ≠ [] then bare.foldl (fun (t : State) m => t.chooseReplacement id m) s
            else if rb.left ≠ 0 ∨ !s.membersSettled id then s
            else s.rebuildRow id x rb))

/-- A row is durable on the replacements (R226 steps 3 and 4). -/
def State.rebuildAdvance (s : State) (id : Nat) (rb : Rebuild) : State :=
  match Tab.find s.ftl.stripes id with
  | none => s
  | some x =>
    let ms := rb.membersAt rb.row
    let rb1 := { rb with
      rowsA := if rb.a ∈ ms then rb.rowsA + 1 else rb.rowsA,
      rowsB := if rb.b.any (fun b => ms.contains b) then rb.rowsB + 1 else rb.rowsB }
    let members := (List.range x.members.length).filterMap (fun m => (x.members[m]?).map (fun mb =>
      if m ∈ ms then { mb with repl := mb.repl.map (fun r => (r.1, r.2.1, rb.row + 1)) } else mb))
    let s1 := s.modifyStripe id (fun x => { x with members := members })
    let top := max rb1.rowsA rb1.rowsB
    let (rb2, s2) :=
      if top ≥ rb1.recorded + 64 then
        ({ rb1 with recorded := top }, s1.formSj id (.rebuild rb1.a (rb1.b.getD 31) rb1.rowsA rb1.rowsB))
      else (rb1, s1)
    let modOf (m : Nat) : Nat := (((x.members[m]?).bind StripeMember.repl).map (fun r => r.1)).getD 0
    let (rb3, s3) :=
      if rb2.rowsA ≥ x.rowsDone ∧ rb2.commitA.isNone then
        let t := s2.formSj id (.member rb2.a 3 (modOf rb2.a))
        ({ rb2 with commitA := some t.rdn.sseq }, t)
      else (rb2, s2)
    let (rb4, s4) := match rb3.b with
      | some b =>
        if rb3.rowsB ≥ x.rowsDone ∧ rb3.commitB.isNone then
          let t := s3.formSj id (.member b 3 (modOf b))
          ({ rb3 with commitB := some t.rdn.sseq }, t)
        else (rb3, s3)
      | none => (rb3, s3)
    { s4 with rdn := { s4.rdn with rebuilds := Tab.insert s4.rdn.rebuilds id rb4 } }

/-- The result of a page of a replacement (R226, R230). -/
def State.rebuildResult (s : State) (port : Nat) (c : FrnCmd) (id row m : Nat) (r : Option Rsp) : State :=
  match Tab.find s.rdn.rebuilds id, r with
  | some rb, some x =>
    if rb.row ≠ row ∨ rb.left = 0 then s
    else if x.status = 0 then
      let rb' := { rb with left := rb.left - 1 }
      if rb'.left = 0 then s.rebuildAdvance id rb'
      else { s with rdn := { s.rdn with rebuilds := Tab.insert s.rdn.rebuilds id rb' } }
    else if x.status = 4 then s
    else (if x.status = 9 then s else s.retireBlock (blockKey port c.die c.block) 1).abandonReplacement id m
  | _, _ => s

/-- A stripe-journal record is durable and has been handed. -/
def State.sjSettled (s : State) (sseq : Nat) : Bool :=
  match s.rdn.journal.find? (fun r => r.sseq = sseq) with
  | some r => r.durable && r.handed
  | none => decide (sseq ≤ s.rdn.sseq)

/-- A member's replacement written into the descriptor (R226 step 5). -/
def State.commitMember (s : State) (id m : Nat) : State :=
  s.modifyStripe id (fun x =>
    match x.members[m]? with
    | none => x
    | some mb => match mb.repl with
      | none => x
      | some (n, ds, _) => { x with
          members := x.members.set m { module := n, dies := ds, failed := false, repl := none } })

/-- REBUILD_COMMIT (R226 step 5, R224, R231): the members whose MEMBER OP 3 record is durable and handed are written into the
descriptor; when none is left the rebuild ends, and a stripe with lost sets takes STATE 5. -/
def execRebuildCommit (stripe : Nat) (s : State) : Host.Outcome State Fault Refusal :=
  .next (s.eitherSide (fun (s : State) => match Tab.find s.rdn.rebuilds stripe with
    | none => s
    | some rb =>
      let okA := rb.commitA.any s.sjSettled
      let okB := rb.commitB.any s.sjSettled
      if !okA && !okB then s
      else
        let s1 := if okA then s.commitMember stripe rb.a else s
        let s2 := if okB then s1.commitMember stripe (rb.b.getD 31) else s1
        match Tab.find s2.ftl.stripes stripe with
        | none => s2
        | some x =>
          if x.failedCount > 0 then s2
          else
            let s3 : State := { s2 with rdn := { s2.rdn with rebuilds := Tab.erase s2.rdn.rebuilds stripe } }
            let s4 := s3.count F.RDN.STAT.COUNT 3
            let s5 := if x.lost = [] then s4 else s4.refreshStripe stripe
            s5.excludeCheck.rebuildDoneCheck))

/-! The stripe-journal pair (R220). -/

/-- The pair must be left: a module that holds a copy is FAILED, or a block has no room for an image. -/
def State.sjPairBad (s : State) : Bool :=
  match s.rdn.pair with
  | none => false
  | some (k0, k1) => [k0, k1].any (fun k => s.fld (F.RDN.MOD_STATE.STATE.nth (keyPort k)) != 0 ||
      decide (s.slcSize (keyPort k) < s.blockFill k + 65536))

/-- The restatement of R220. -/
def State.restate (s : State) : State :=
  let s1 := (s.ftl.stripes.filter (fun p => p.2.state = 1)).foldl (fun (t : State) p =>
    ((t.formSj p.1 (.open_ p.2.rows)).formSj p.1 (.intent p.2.sentLimit)).formSj p.1 (.done p.2.rowsDone)) s
  let s2 := s1.rdn.rebuilds.foldl (fun (t : State) p =>
    t.formSj p.1 (.rebuild p.2.a (p.2.b.getD 31) p.2.rowsA p.2.rowsB)) s1
  let s3 := match s2.rdn.reshape with
    | some r => s2.formSj 0 (.reshape 2 r.kind r.module r.newD r.cursor r.end_ r.moved)
    | none => s2
  s3.ftl.stripes.foldl (fun (t : State) p =>
    (p.2.lost.filter (fun l => !l.swept)).foldl (fun (u : State) l => u.formSj p.1 (.loss l.row l.slot l.members)) t) s3

/-- SJ_PAIR_MOVE (R220): a new pair is opened on two eligible modules of different domains, and the restatement written
first; the records that waited follow it. -/
def execSjPairMove (s : State) : Host.Outcome State Fault Refusal :=
  .next (s.eitherSide (fun (s : State) => 
    if !s.sjPairBad then s
    else match s.openSjPair 65536 with
      | none => s
      | some (_, s1) =>
        let old := match s.rdn.pair with | some (a, b) => [a, b] | none => []
        let alive := old.find? (fun k => s.fld (F.RDN.MOD_STATE.STATE.nth (keyPort k)) = 0 ∧
          s.blockFill k + 65536 ≤ s.slcSize (keyPort k))
        let kept := s1.rdn.journal.filter (fun r => !r.durable)
        let s2 : State := { s1 with rdn := { s1.rdn with
          journal := s1.rdn.journal.filter (fun r => r.durable), survivor := alive } }
        let s3 := s2.restate
        -- the records that waited are written again, after the restatement
        let again := kept.map (fun r => { r with copy0 := .waiting, copy1 := .waiting })
        { s3 with rdn := { s3.rdn with
          journal := s3.rdn.journal ++ again, restating := some s3.rdn.sseq } }))

/-- The restatement becomes durable (R220): SJ_MOVED is set. -/
def State.restateCheck (s : State) : State :=
  match s.rdn.restating with
  | none => s
  | some n =>
    if s.rdn.journal.all (fun r => r.durable || decide (n < r.sseq)) then
      ({ s with rdn := { s.rdn with restating := none, survivor := none } } : State).event Src.RDN 8
    else s

/-- The records of the stripe journal in force: an INTENT that is durable and handed raises SENT_LIMIT (R218). -/
def State.intentsInForce (s : State) : State :=
  if s.rdn.restating.isSome then s
  else
    s.rdn.journal.foldl (fun (t : State) r =>
      match r.body with
      | .intent limit =>
        if r.durable && r.handed then t.modifyStripe r.stripe (fun x => { x with sentLimit := max x.sentLimit limit }) else t
      | _ => t) s

/-- Records that nothing waits for any longer leave the list; an INTENT that is settled during a restatement stays until it may
raise its SENT_LIMIT (R220). -/
def State.pruneSj (s : State) : State :=
  let waits (r : SjRec) : Bool := s.rdn.restating.isSome && (match r.body with | .intent _ => true | _ => false)
  { s with rdn := { s.rdn with journal := s.rdn.journal.filter (fun r => !(r.durable && r.handed) || waits r) } }

/-! Lost data (R231 to R233). -/

/-- The data-space range of a lost page (R232). -/
def Stripe.lostRange (x : Stripe) (row slot m : Nat) : Nat := (m * (x.g - 1) + slot) * x.blockSize + row * 16384

/-- Bulk chunks whose stored bytes meet a lost data page of a set (R232). -/
def State.lostChunks (s : State) (id : Nat) (x : Stripe) (l : LostSet) : List Nat :=
  let ranges := ((List.range x.dataMembers).filter (fun m => l.members.testBit m)).map (x.lostRange l.row l.slot)
  (s.ftl.tables.chunks.filter (fun p => p.2.state = 2 ∧ stripeOf p.2.loc0 = id ∧
    ranges.any (fun o => decide (stripeOffset p.2.loc0 < o + 16384) && decide (o < stripeOffset p.2.loc0 + p.2.units * 64)))).map
    Prod.fst

/-- Runs of consecutive granules that report the same namespace and epochs (R232). -/
def lossRuns (stripe : Nat) : List (Nat × Nat × Nat × Nat) → List LossEntry
  | [] => []
  | (nsid, g, b, d) :: rest =>
    match lossRuns stripe rest with
    | e :: es =>
      if e.nsid = nsid ∧ e.first = g + 1 ∧ e.birth = b ∧ e.death = d then { e with first := g, count := e.count + 1 } :: es
      else ⟨nsid, g, 1, b, d, stripe⟩ :: e :: es
    | [] => [⟨nsid, g, 1, b, d, stripe⟩]

/-- Insertion of a retained entry in the order of namespace, epochs and granule, so that runs stand together. -/
def insertLoss (e : Nat × Nat × Nat × Nat) : List (Nat × Nat × Nat × Nat) → List (Nat × Nat × Nat × Nat)
  | [] => [e]
  | f :: fs =>
    let k (q : Nat × Nat × Nat × Nat) : Nat := ((q.1 * 2 ^ 32 + q.2.2.1) * 2 ^ 32 + q.2.2.2) * 2 ^ 64 + q.2.1
    if k e < k f then e :: f :: fs else f :: insertLoss e fs

/-- LOSS_SWEEP (R61, R232): the sweep of a lost set marks its chunks LOST, finds the granules that name them, live and
retained, holds an entry for each run, and ends with RDN.EVENT.LOSS. -/
def execLossSweep (stripe row slot : Nat) (s : State) : Host.Outcome State Fault Refusal :=
  .next (s.eitherSide (fun (s : State) => match Tab.find s.ftl.stripes stripe with
    | none => s
    | some x =>
      match x.lost.find? (fun l => l.row = row ∧ l.slot = slot ∧ !l.swept) with
      | none => s
      | some l =>
        if !s.granted Cls.mapWork then s
        else
          let gone := s.lostChunks stripe x l
          let s1 := gone.foldl (fun (t : State) c =>
            ((t.modifyChunk c (fun e => { e with lost := true })).hotModify c (fun h => { h with lost := true })).count
              F.RDN.STAT.COUNT 11) s
          let t := s.ftl.tables
          let live := (t.map.filter (fun p => p.2.typ = 2 ∧ t.target p.2.chunk ∈ gone)).map (fun p =>
            (p.1 / 2 ^ 64, p.1 % 2 ^ 64, 0, 0xFFFFFFFF))
          let old := (t.retained.filter (fun r => r.entry.typ = 2 ∧ t.target r.entry.chunk ∈ gone)).map (fun r =>
            (r.nsid, r.granule, r.entry.birth, r.death))
          let runs := lossRuns stripe live ++ lossRuns stripe (old.foldl (fun m e => insertLoss e m) [])
          let s2 := s1.modifyStripe stripe (fun x => { x with
            lost := x.lost.map (fun q => if q.row = row ∧ q.slot = slot then { q with swept := true } else q) })
          let s3 : State := { s2 with rdn := { s2.rdn with lossHeld := s2.rdn.lossHeld ++ runs } }
          s3.event Src.RDN 4 stripe row))

/-! The Lichen patrol (R202, R203, R234, R235). -/

/-- Raw bytes a row of a unit holds. -/
def State.patrolRowBytes (s : State) (u : PatrolUnit) : Nat :=
  if u.kind = 0 then
    match Tab.find s.ftl.stripes u.id with
    | some x => x.members.length * x.g * 16384
    | none => 0
  else 16384

/-- A new pass (R202): closed stripes in ascending number, then blocks, then open stripes, each as far as it is written. -/
def State.beginPass (s : State) : State :=
  let stripesIn (open_ : Bool) : List PatrolUnit :=
    (s.ftl.stripes.filter (fun p => decide (p.2.rowsDone > 0) && ((p.2.state == 1) == open_) && p.2.state != 3)).map
      (fun p => ⟨0, p.1, 0, p.2.rowsDone⟩)
  let blocks := (s.ftl.blocks.filter (fun p => p.2.fill ≥ 16384)).map (fun p => ⟨1, p.1, 0, p.2.fill / 16384⟩)
  let units := stripesIn false ++ blocks ++ stripesIn true
  let total := units.foldl (fun t u => t + (u.stop - u.next) * s.patrolRowBytes u) 0
  { s with ftl := { s.ftl with patrol := { since := some s.now, units := units, total := total, done := 0, late := false } } }

/-- PATROL_PASS (R203): the pass ends and the next begins. -/
def State.endPass (s : State) : State :=
  ((s.event Src.FTL 12).put F.FTL.PATROL_STATUS.PASSES (s.fld F.FTL.PATROL_STATUS.PASSES + 1)).beginPass

/-- A finding of the patrol's comparison in a set (R234): counted, and the page located is wrong from then on. -/
def State.finding (s : State) (id row slot : Nat) (x : Stripe) : Finding → State
  | .consistent => s
  | .pWrong => (mark x.dataMembers).count F.RDN.STAT.COUNT 6
  | .qWrong => (mark (x.dataMembers + 1)).count F.RDN.STAT.COUNT 7
  | .dataWrong m => (mark m).count F.RDN.STAT.COUNT 8
  | .unlocatable => s.count F.RDN.STAT.COUNT 9
where
  /-- The page named a missing page. -/
  mark (m : Nat) : State := s.modifyStripe id (fun x => { x with wrong := x.wrong ++ [(row, slot, m)] })

/-- A set compared (R234): the classification, STATE 5 and PARITY_MISMATCH. -/
def State.compareSet (s : State) (id row slot : Nat) (pages : List (List Byte)) : State :=
  match Tab.find s.ftl.stripes id with
  | none => s
  | some x =>
    let f := classify pages
    let s1 := s.count F.RDN.STAT.COUNT 5
    if f = .consistent then s1
    else (((s1.finding id row slot x f).refreshStripe id).event Src.RDN 6 id row).count F.FTL.STAT.COUNT 15

/-- The die-parity pages of a row compared (R235): each against its member's pages, and the P and Q identities over them;
a mismatch counts as a P, Q or unlocatable finding. -/
def State.compareParity (s : State) (id row : Nat) (sets : List (List (List Byte))) (parity : List (List Byte)) : State :=
  let w := parity.length
  let own := (List.range w).all (fun m => zeroPage (xorPage (dieParity (sets.map (fun p => p.getD m []))) (parity.getD m [])))
  let f := classify parity
  if own && f == .consistent then s
  else
    let k := match f with | .pWrong => 6 | .qWrong => 7 | _ => 9
    ((((s.count F.RDN.STAT.COUNT k).refreshStripe id).event Src.RDN 6 id row)).count F.FTL.STAT.COUNT 15

/-- The chunks that start in a row of a stripe. -/
def State.chunksStarting (s : State) (id row : Nat) (x : Stripe) : List Nat :=
  (s.ftl.tables.chunks.filter (fun p => p.2.state = 2 ∧ stripeOf p.2.loc0 = id ∧ !p.2.lost ∧
    stripeOffset p.2.loc0 % x.blockSize / 16384 = row)).map Prod.fst

/-- The chunk copies that start in a page of a moss block: the chunk, its units, the place there and the other copy's. -/
def State.mossStarting (s : State) (key page : Nat) : List (Nat × Nat × Nat × Nat) :=
  let here (l : Nat) : Bool := blockKeyOf l == key && mossOffset l / 16384 == page
  (s.ftl.tables.chunks.filter (fun p => p.2.state = 1 ∧ !p.2.lost)).flatMap (fun p =>
    (if here p.2.loc0 then [(p.1, p.2.units, p.2.loc0, p.2.loc1)] else []) ++
    (if here p.2.loc1 then [(p.1, p.2.units, p.2.loc1, p.2.loc0)] else []))

/-- The patrol's sets but for those of one row are given up. -/
def State.keepPatrol (s : State) (use : SetFor) (id row : Nat) : State :=
  { s with rdn := { s.rdn with sets := s.rdn.sets.filter (fun r =>
      (r.2.use != .patrol && r.2.use != .block) || (r.2.use == use && r.2.unit == id && r.2.row == row)) } }

/-- The patrol asks for a row of a unit (R202): every page of its sets, lost ones passed over (R231), and each live chunk that
starts in it for a tag check. -/
def State.patrolAsk (s : State) (u : PatrolUnit) : State :=
  if u.kind = 0 then
    match Tab.find s.ftl.stripes u.id with
    | none => s
    | some x =>
      let s1 := ((List.range x.g).filter (fun slot => !x.setLost u.next slot)).foldl (fun (t : State) slot =>
        t.startSet { unit := u.id, row := u.next, slot := slot, use := .patrol, pages := [] }) s
      (s.chunksStarting u.id u.next x).foldl (fun (t : State) c => t.startRead c .patrol []) s1
  else
    (s.mossStarting u.id u.next).foldl (fun (t : State) c => t.startReadAt c.1 .patrol [] c.2.2.1 c.2.1 (some c.2.2.2) false)
      (s.startBlockPage u.id u.next)

/-- A row of a bulk stripe as the patrol has read it: every set whose pages are all present is compared (R234, R235); a page that is
given up on a member that is present is a finding (R197). -/
def State.patrolCompare (s : State) (id row : Nat) (x : Stripe) (sets : List (Nat × SetRead)) : State :=
  let w := x.members.length
  let whole (slot : Nat) : Option (List (List Byte)) :=
    (sets.find? (fun q => q.2.slot == slot)).bind (fun q => (q.2.got w).mapM (fun o => o))
  let s1 := sets.foldl (fun (t : State) q =>
    if q.2.pages.any (fun p => p.2.givenUp) then (t.refreshStripe id).count F.FTL.STAT.COUNT 15
    else if q.2.slot + 1 < x.g then (match whole q.2.slot with | some ps => t.compareSet id row q.2.slot ps | none => t)
    else t) (s.chargeRdn w sets.length)
  match (List.range x.g).mapM whole with
  | some all => s1.compareParity id row (all.take (x.g - 1)) (all.getD (x.g - 1) [])
  | none => s1

/-- What the patrol makes of a row whose pages have been read or given up. -/
def State.patrolEnd (s : State) (u : PatrolUnit) (sets : List (Nat × SetRead)) : State :=
  if u.kind = 0 then
    match Tab.find s.ftl.stripes u.id with
    | some x => s.patrolCompare u.id u.next x sets
    | none => s
  else if sets.any (fun q => q.2.pages.any (fun p => p.2.givenUp)) then (s.refreshBlock u.id).count F.FTL.STAT.COUNT 15
  else s

/-- A unit of the pass is still there: one written after the pass began is skipped (R202). -/
def State.patrolHere (s : State) (u : PatrolUnit) : Bool :=
  let since := s.ftl.patrol.since.getD 0
  if u.kind = 0 then (Tab.find s.ftl.stripes u.id).any (fun x => decide (x.openTick ≤ since))
  else (Tab.find s.ftl.blocks u.id).any (fun b => decide (b.opened ≤ since))

/-- The patrol passes on from a row, and from a unit after its last; when nothing is left the pass ends. -/
def State.patrolNext (s : State) (u : PatrolUnit) (us : List PatrolUnit) : State :=
  let bytes := s.patrolRowBytes u
  let s1 := s.count F.FTL.STAT.COUNT 14
  let units := if u.next + 1 < u.stop then { u with next := u.next + 1 } :: us else us
  let s2 : State := { s1 with ftl := { s1.ftl with
    patrol := { s1.ftl.patrol with units := units, done := s1.ftl.patrol.done + bytes } } }
  if units = [] then s2.endPass else s2

/-- PATROL_ROW (R202): within the grant, the patrol reads the next row of its pass, compares it with parity once every page has been
read or given up, and submits the chunks that start in it for their checks. A unit that is gone is passed over; when nothing is
left the pass ends. -/
def execPatrolRow (s : State) : Host.Outcome State Fault Refusal :=
  .next (s.eitherSide (fun (s : State) =>
    if s.fld F.FTL.PATROL_CTL.EN = 0 ∨ !s.granted Cls.patrol ∨ s.ftl.patrol.since.isNone then s
    else match s.ftl.patrol.units.dropWhile (fun u => !s.patrolHere u) with
      | [] => s.endPass
      | u :: us =>
        let use : SetFor := if u.kind = 0 then .patrol else .block
        let sets := s.rowSets use u.id u.next
        if sets = [] then ((s.keepPatrol use u.id u.next).patrolAsk u).spend Cls.patrol (s.patrolRowBytes u)
        else if sets.all (fun q => q.2.settled) ∧ s.rdnTakes then
          ((sets.map Prod.fst).foldl State.dropSet (s.patrolEnd u sets)).patrolNext u us
        else s))

/-- The first pass begins as the patrol is enabled on a head that serves (R203). -/
def State.patrolStart (s : State) : State :=
  if s.ftl.patrol.since.isNone && s.flag F.FTL.PATROL_CTL.EN && s.lcs.mode.serving then s.beginPass else s

/-- Ticks of a patrol period (R203). -/
def State.patrolPeriod (s : State) : Nat := s.ticksIn (s.fld F.FTL.PATROL_CTL.PERIOD_H * 3600000000)

/-- PATROL_LATE (R203): the pass runs past 1.25 periods. -/
def execPatrolLate (s : State) : Host.Outcome State Fault Refusal :=
  .next (s.eitherSide (fun (s : State) => match s.ftl.patrol.since with
    | none => s
    | some t =>
      if !s.ftl.patrol.late && decide (4 * (s.now - t) > 5 * s.patrolPeriod) then
        ({ s with ftl := { s.ftl with patrol := { s.ftl.patrol with late := true } } } : State).event Src.FTL 13
      else s))

/-- PATROL_REQUEST (R203): what the patrol asks of the pacer, in MB/s: the bytes left in the pass over the panel ticks left
in the period. -/
def State.patrolRequest (s : State) : Nat :=
  let p := s.ftl.patrol
  match p.since with
  | none => 0
  | some t =>
    if s.fld F.FTL.PATROL_CTL.EN = 0 then 0
    else
      let left := max 1 ((t + s.patrolPeriod - s.now) / 512)
      (p.total - p.done) * 1000 / (left * 512 * s.tickNs)

/-! Reshape and evacuation (R236 to R240). -/

/-- A stripe needs conversion (R236). -/
def State.needsConversion (s : State) (r : Reshape) (x : Stripe) : Bool :=
  if r.kind = 0 then x.dataMembers != r.newD || x.g != s.groupSize else x.names r.module

/-- The largest dense block among the head's dies. -/
def State.largestBlock (s : State) : Nat :=
  s.frn.ports.foldl (fun t p => match p.2.desc with | some d => if d.geometryOk then max t d.denseBytes else t | none => t) 0

/-- A geometry is allowed (R236): D in the family, and the data space at most 8 GiB. -/
def State.geomOk (s : State) (d : Nat) : Bool :=
  decide (s.fld F.RDN.CONFIG.D_MIN ≤ d) && decide (d ≤ s.fld F.RDN.CONFIG.D_MAX) &&
  decide (d * (s.groupSize - 1) * s.largestBlock ≤ 2 ^ 33)

/-- A reshape starts (R236): its RESHAPE record with OP 1. -/
def State.startReshape (s : State) (kind module newD : Nat) : State :=
  let end_ := (Tab.keys s.ftl.stripes).foldl (fun m k => max m (k + 1)) 0
  let r : Reshape := { kind := kind, module := module, newD := newD, cursor := 0, end_ := end_, moved := 0, since := 0,
                       sinceTick := s.now, abandon := false }
  let s1 := if kind = 0 then s.put F.RDN.GEOM.D newD else s.put (F.FRN.PORT_MGMT.EVAC_REQ.nth module) 0
  ({ s1 with rdn := { s1.rdn with reshape := some r } } : State).formSj 0 (.reshape 1 kind module newD 0 end_ 0)

/-- A queued evacuation starts when no reshape is active (R238, R240). -/
def State.startQueued (s : State) : State :=
  match s.rdn.reshape, s.rdn.evacQueue with
  | none, n :: ns => ({ s with rdn := { s.rdn with evacQueue := ns } } : State).startReshape 1 n 0
  | _, _ => s

/-- The reshape command executes in step 3 of the boundary after its write (R236, R239). -/
def State.runReshapeCommand (s : State) : State :=
  match s.rdn.command with
  | none => s
  | some op =>
    let s0 : State := { s with rdn := { s.rdn with command := none } }
    let s1 := s0.put F.RDN.RESHAPE_STATUS.BUSY 0
    let kind := s1.fld F.RDN.RESHAPE_ARG.KIND
    let module := s1.fld F.RDN.RESHAPE_ARG.MODULE
    let newD := s1.fld F.RDN.RESHAPE_ARG.NEW_D
    let result (t : State) (x : Nat) : State := t.put F.RDN.RESHAPE_STATUS.RESULT x
    if op = 1 then
      if kind = 0 ∧ !s1.geomOk newD then result s1 1
      else match s1.rdn.reshape with
        | some _ => if kind = 1 then result (s1.requestEvac module) 0 else result s1 2
        | none => result (s1.startReshape kind module newD) 0
    else match s1.rdn.reshape with
      | none => result s1 3
      | some r =>
        result (({ s1 with rdn := { s1.rdn with reshape := some { r with abandon := true } } } : State).formSj 0
          (.reshape 4 r.kind r.module r.newD r.cursor r.end_ r.moved)) 0

/-- The reshape ends (R238). -/
def State.endReshape (s : State) (r : Reshape) : State :=
  let s1 := ({ s with rdn := { s.rdn with reshape := none } } : State).dropStale Cls.reshape []
  let s2 := if r.abandon then s1
    else
      let t := (s1.formSj 0 (.reshape 3 r.kind r.module r.newD r.cursor r.end_ r.moved)).event Src.RDN 7
      if r.kind = 1 ∧ t.stripesOn r.module = 0 then
        (t.put (F.RDN.MOD_STATE.STATE.nth r.module) 2).put (F.RDN.MOD_STATE.EXCL.nth r.module) 1
      else t
  s2.excludeCheck.startQueued

/-- The reshape after a stripe or some bytes, with a checkpoint record every 256 stripes and every 500,000 ticks (R237). -/
def State.setReshape (s : State) (r : Reshape) : State :=
  if r.since ≥ 256 ∨ s.now ≥ r.sinceTick + 500000 then
    ({ s with rdn := { s.rdn with reshape := some { r with since := 0, sinceTick := s.now } } } : State).formSj 0
      (.reshape 2 r.kind r.module r.newD r.cursor r.end_ r.moved)
  else { s with rdn := { s.rdn with reshape := some r } }

/-- Some chunk of a stripe has been moved out of it, or is on its way: the stripe is not at a boundary (R239). -/
def State.conversionBegun (s : State) (id : Nat) : Bool :=
  s.ftl.moves.any (fun p => p.2.old.any (fun l => isBulk l && stripeOf l == id))

/-- The live chunks of the stripe at the cursor move (R237). -/
def State.convertStripe (s : State) (r : Reshape) : State :=
  let todo := s.movable r.cursor
  let t := s.moveChunks .relocate Cls.reshape 1 anyRoom (fun u => u.movable r.cursor)
  let gone := todo.filter (fun p => (Tab.find t.ftl.moves p.1).isSome)
  let t1 := if gone ≠ [] ∧ gone.length = todo.length then t.count F.RDN.STAT.COUNT 13 else t
  t1.setReshape { r with moved := r.moved + (gone.map (fun p => p.2.units * 64)).foldl (· + ·) 0 }

/-- RESHAPE_STEP (R237 to R239): the stripe at the cursor is converted: its live chunks move; the cursor passes a stripe that is
gone or needs no conversion. -/
def execReshapeStep (s : State) : Host.Outcome State Fault Refusal :=
  .next (s.eitherSide (fun (s : State) => match s.rdn.reshape with
    | none => s
    | some r =>
      let pass (t : State) : State := t.setReshape { r with cursor := r.cursor + 1, since := r.since + 1 }
      let ends := r.abandon || decide (r.cursor ≥ r.end_)
      match Tab.find s.ftl.stripes r.cursor with
      | some x =>
        if r.cursor < r.end_ ∧ s.needsConversion r x then
          if r.abandon ∧ !s.conversionBegun r.cursor then s.endReshape r else s.convertStripe r
        else if ends then s.endReshape r
        else pass s
      | none => if ends then s.endReshape r else pass s))

/-- EXCL has been written (R224): 0 readmits the module to placement. -/
def State.exclWritten (s : State) (n : Nat) : State :=
  if s.fld (F.RDN.MOD_STATE.EXCL.nth n) = 0 ∧ s.fld (F.RDN.MOD_STATE.STATE.nth n) = 2 then
    s.put (F.RDN.MOD_STATE.STATE.nth n) 0
  else s

/-! Results of module commands (R24 step 3). -/

/-- A program's loops (R200): every PROGRAM and PPROG that the module has carried out says them, passed or failed. -/
def State.loopsOf (s : State) (r : FrnResult) : State :=
  match r.rsp with
  | some x =>
    if (r.cmd.op = 2 ∨ r.cmd.op = 7) ∧ (x.status = 0 ∨ x.status = 1) then s.programLoops r.port r.cmd.die x.loops else s
  | none => s

/-- A result of FRN applied by FTL or RDN, by what its command was for. -/
def State.applyResult (s : State) (r : FrnResult) : State :=
  let s := s.loopsOf r
  match r.cmd.purpose with
  | .chunkCopy jobs copy => s.chunkCopyResult r.port r.cmd jobs copy r.rsp
  | .journal seqs copy => s.journalResult r.port r.cmd seqs copy r.rsp
  | .sjournal seqs copy => s.sjResult r.port r.cmd seqs copy r.rsp
  | .anchor => s.anchorResult r.port r.cmd r.rsp
  | .row id row _ _ => s.rowResult r.port r.cmd id row r.rsp
  | .rebuild id row m _ => s.rebuildResult r.port r.cmd id row m r.rsp
  | .read job piece => s.readResult r.port r.cmd job piece r.rsp
  | .setPage set m => s.setResult r.port r.cmd set m r.rsp
  | .erase kind id => s.eraseResult r.port r.cmd kind id r.rsp
  | _ => s

/-- Every result of the ended tick applied, in the order received. -/
def State.applyFrnResults (s : State) : State :=
  s.frn.results.foldl State.applyResult { s with frn := { s.frn with results := [] } }

/-- FTL's and RDN's work of step 3 after the results (R24): records applied, movements and erases carried on, counts that
R71 owes resolved, checkpoints ended, commands run, the patrol's first pass begun. -/
def State.ftlResults (s : State) : State :=
  let s1 := (s.reservationsDurable.applyDurable.formMoves).endMoves
  let s2 := (s1.resolveOwed.finishCkpt).startErases
  let s3 := ((s2.restateCheck).intentsInForce.pruneSj).excludeCheck.rebuildDoneCheck
  (((s3.runSnapCommand).answerKeyQuery).runReshapeCommand).patrolStart

/-- FTL's and RDN's transmissions of a tick: rows, journal pages and anchor pages (R168, R174, R187, R215). -/
def State.ftlSends (s : State) : State :=
  let foldEnds := decide ((s.pclass Cls.fold).share = 0)
  let relocEnds := [Cls.gc, Cls.rebuild, Cls.reshape, Cls.rewrap].all (fun c => (s.pclass c).share == 0)
  let s1 := if foldEnds then s.endRows 0 else s
  let s2 := if relocEnds then s1.endRows 1 else s1
  ((s2.sendAllRows.programJournal).programSj).programAnchor

end Sys2Proof.Machine
end

