-- ==== Sys2Proof/Machine/Pacer.lean ====
section
/-!
DEFINITION. Machine/Pacer.lean: the pacer (chapter 12): measurement, control law, allocation, profiles, the repetitive
controller, plausibility and fallback, and the grants of each tick.
-/

namespace Sys2Proof.Machine

/-! Modes (R430). -/

/-- What the pacer does in the mode the head is in, as PCR.STATUS.STATE numbers it: 0 off, 1 open, 2 closed loop,
3 fallback, 4 drain subset, 5 zero (R430). -/
def State.pacerState (s : State) : Nat :=
  match s.lcs.mode with
  | .reset => 0
  | .structureLoad => 0
  | .selfTest => 0
  | .recovery => 1
  | .join => 1
  | .eclipse => 5
  | .powerFailDrain => 5
  | .handBack => match s.rfl.handBack with
    | some h => if h.phase ≥ 3 then 5 else 4
    | none => 4
  | _ => if s.fld F.PCR.CTL.EN = 0 then 1 else if s.pcr.fallback then 3 else 2

/-- The classes that go on in a state of the pacer: in the drain subset, PATROL and REPL alone. -/
def pacerRuns (st c : Nat) : Bool := if st = 4 then c == Cls.patrol || c == Cls.repl else st != 0 && st != 5

/-- A class standing still. -/
def PcrClass.still (x : PcrClass) : PcrClass := { x with share := 0, v := 0, a := 0 }

/-! Floors and backlog (R420, R423). -/

/-- A property that holds on some side held. -/
def State.onAnySide (s : State) (p : State → Bool) : Bool := p s || (s.other.isSome && p s.swapSides)

/-- CAP of a class, MB/s: for PATROL, the request of R203. -/
def State.capOf (s : State) (c : Nat) : Nat :=
  if c = Cls.patrol then s.patrolRequest + (if s.other.isSome then s.swapSides.patrolRequest else 0)
  else s.fld (F.PCR.CLASS_CFG1.CAP.nth c)

/-- Some stripe is degraded; some stripe is critical (R228). -/
def State.degradedStripe (s : State) : Bool := s.ftl.stripes.any (fun p => decide (p.2.failedCount ≥ 1))
def State.criticalStripe (s : State) : Bool := s.ftl.stripes.any (fun p => decide (p.2.failedCount ≥ 2))

/-- The floor that the source of R423 sets for a class. -/
def State.classFloor (s : State) (c : Nat) : Nat :=
  if c = Cls.rebuild then
    let f := s.fld F.RDN.REBUILD_CTL.FLOOR * 1000
    if s.onAnySide State.criticalStripe then 2 * f else if s.onAnySide State.degradedStripe then f else 0
  else if c = Cls.fold then
    match s.fld F.FTL.STATUS.MOSS_STATE with
    | 1 => s.fld (F.PCR.CLASS_CFG1.URGENT.nth c)
    | 2 => s.capOf c
    | _ => 0
  else if c = Cls.gc then (if s.flag F.FTL.STATUS.GC_URGENT then s.fld (F.PCR.CLASS_CFG1.URGENT.nth c) else 0)
  else if c = Cls.patrol then (if s.onAnySide (fun t => t.ftl.patrol.late) then s.capOf c else 0)
  else 0

/-- The floor in force: the highest that applies (R423). -/
def State.floorOf (s : State) (c : Nat) : Nat := max (s.fld (F.PCR.CLASS_CFG0.FLOOR.nth c)) (s.classFloor c)

/-- A block has work of a class queued, on the side that FTL and RDN keep. -/
def State.sideBacklog (s : State) (c : Nat) : Bool :=
  match c with
  | 0 => s.foldQueue != []
  | 1 => s.gcQueue != []
  | 2 => s.rebuildTarget.isSome
  | 3 => s.ftl.patrol.since.isSome && s.fld F.FTL.PATROL_CTL.EN == 1
  | 4 => s.rdn.reshape.isSome
  | 5 => s.ftl.tables.chunks.any (fun p => (s.slotOfId p.2.keyId).any (fun k => k.2.state == .retiring))
  | 6 => s.ftl.ckpt.isSome || !s.ftl.sweeps.isEmpty || s.ftl.stripes.any (fun p => p.2.lost.any (fun l => !l.swept)) ||
      decide (s.rdx.warm < 2 ^ 18) || !s.rdx.mergeQueue.isEmpty || s.cip.data.any (fun p => !p.2.usageValid) ||
      !s.rfl.unchecked.isEmpty
  | _ => s.qpc.conns.any (fun p => !p.2.isNvme && !(s.flag F.RFL.CTL.FB_EN && p.1 == s.fld F.RFL.CTL.FB_CONN) && (decide (p.2.started < p.2.posted) ||
      p.2.msgs.any (fun m => m.what == .reply)))

/-- A class's block holds queued work. -/
def State.backlogOf (s : State) (c : Nat) : Bool := s.onAnySide (fun t => t.sideBacklog c)

/-! Allocation (R422). -/

/-- What allocation needs of a class. -/
structure Alloc where
  floor : Nat
  cap : Nat
  weight : Nat
  cost : Nat
  /-- It is backlogged and has a weight. -/
  takes : Bool

/-- The target of a class at x. -/
def Alloc.target (a : Alloc) (x : Nat) : Nat :=
  if a.takes then max a.floor (min a.cap (a.floor + a.weight * x * 16 / max 1 a.cost)) else a.floor

/-- The budget that the targets take at x, in sixteenths. -/
def allocCost (l : List Alloc) (x : Nat) : Nat := l.foldl (fun t a => t + a.target x * a.cost) 0

/-- The largest x below 2^n that keeps to the budget, bit by bit from the highest. -/
def largestX (l : List Alloc) (budget : Nat) : Nat → Nat → Nat
  | 0, x => x
  | n + 1, x => if allocCost l (x + 2 ^ n) ≤ budget then largestX l budget n (x + 2 ^ n) else largestX l budget n x

/-- What allocation takes of the classes. -/
def State.allocs (s : State) (st : Nat) : List Alloc :=
  (List.range 8).map (fun c =>
    let run := pacerRuns st c
    { floor := if run then s.floorOf c else 0, cap := s.capOf c, weight := s.fld (F.PCR.CLASS_CFG0.WEIGHT.nth c),
      cost := s.costOf c,
      takes := run && (s.pclass c).backlog && s.fld (F.PCR.CLASS_CFG0.WEIGHT.nth c) != 0 })

/-- The targets under a budget U (R422), and whether the floors alone exceed it. -/
def targetsFor (l : List Alloc) (u : Nat) : List Nat × Bool :=
  let x := largestX l (16 * u) 29 0
  (l.map (fun a => a.target x), decide (allocCost l 0 > 16 * u))

/-! Profiles (R424). -/

/-- The integer square root of a number below 4^n, bit by bit. -/
def isqrtBits (m : Nat) : Nat → Nat → Nat
  | 0, r => r
  | n + 1, r => if (r + 2 ^ n) * (r + 2 ^ n) ≤ m then isqrtBits m n (r + 2 ^ n) else isqrtBits m n r

/-- isqrt rounds down. -/
def isqrt (m : Nat) : Nat := isqrtBits m 32 0

/-- One step of a class toward its target. -/
def PcrClass.step (x : PcrClass) (vMax aMax jMax : Nat) : PcrClass :=
  let d : Int := (x.target : Int) - x.share
  let vWant : Int := d.sign * (min vMax (isqrt (2 * aMax * d.natAbs)) : Nat)
  let aWant : Int := max (-(aMax : Int)) (min (aMax : Int) (vWant - x.v))
  let a : Int := x.a + max (-(jMax : Int)) (min (jMax : Int) (aWant - x.a))
  let v : Int := max (-(vMax : Int)) (min (vMax : Int) (x.v + a))
  let s : Int := max 0 (x.share + v)
  if d * ((x.target : Int) - s) ≤ 0 then { x with share := x.target, v := 0, a := 0 }
  else { x with share := s.toNat, v := v, a := a }

/-- A change to every class. -/
def State.mapClasses (s : State) (f : Nat → PcrClass → PcrClass) : State :=
  { s with pcr := { s.pcr with classes := s.pcr.classes.zipIdx.map (fun p => f p.2 p.1) } }

/-- The targets of a panel tick, and each class's step toward its own. -/
def State.stepClasses (s : State) (st : Nat) (targets : List Nat) : State :=
  s.mapClasses (fun c x =>
    let y := { x with target := targets.getD c 0, floorNow := s.floorOf c }
    if pacerRuns st c then
      y.step (s.fld (F.PCR.CLASS_PROF.V_MAX.nth c)) (s.fld (F.PCR.CLASS_PROF.A_MAX.nth c)) (s.fld (F.PCR.CLASS_PROF.J_MAX.nth c))
    else y.still)

/-! The repetitive controller (R426, R427). -/

/-- Ticks of a bin. -/
def State.binTicks (s : State) : Nat :=
  s.ticksIn (s.fld F.PCR.RC_CTL.PERIOD_H * 3600 / max 1 (s.fld F.PCR.RC_CTL.BINS) * 1000000)

/-- The head holds exactly one side. -/
def State.oneSide (s : State) : Bool := s.wit.own == 1 || s.wit.own == 2

/-- The feed-forward of a panel tick (R427). -/
def State.feedForward (s : State) : Nat :=
  let b := (s.fld F.PCR.TOD.BIN + s.fld F.PCR.RC_CTL.LEAD) % max 1 (s.fld F.PCR.RC_CTL.BINS)
  match Tab.find s.pcr.own b with
  | some (true, m) => if s.flag F.PCR.RC_CTL.EN && s.flag F.PCR.TOD.TOD_VALID && s.oneSide then m else 0
  | _ => 0

/-- BIN_END (R427): the bin has run its ticks: its value is updated when the bin qualifies, and the next bin begins. -/
def execBinEnd (s : State) : Host.Outcome State Fault Refusal :=
  .next (if s.fld F.PCR.TOD.TOD_VALID = 0 ∨ s.fld F.PCR.TOD.TICKS < s.binTicks then s
    else
      let p := s.pcr
      let b := s.fld F.PCR.TOD.BIN
      let learn := s.flag F.PCR.RC_CTL.EN && p.binOneSide && decide (p.binClosed > 0) && decide (2 * p.binClosed ≥ p.binPanel)
      let mean := p.binSum / max 1 p.binClosed
      let m : Nat := match Tab.find p.own b with
        | some (true, m) => ((m : Int) + ((mean : Int) - m).tdiv (2 ^ s.fld F.PCR.RC_CTL.GAIN_SHIFT)).toNat
        | _ => mean
      let p1 := { p with binPanel := 0, binClosed := 0, binSum := 0, binOneSide := s.oneSide,
                         own := if learn then Tab.insert p.own b (true, m) else p.own }
      let s1 := ({ s with pcr := p1 } : State).put F.PCR.TOD.BIN ((b + 1) % max 1 (s.fld F.PCR.RC_CTL.BINS))
      let s2 := s1.put F.PCR.TOD.TICKS (s.fld F.PCR.TOD.TICKS - s.binTicks)
      if learn then s2.count F.PCR.STAT.COUNT 4 else s2)

/-! Fallback (R428, R429). -/

/-- The minute of the period. -/
def State.periodMinute (s : State) : Nat :=
  let binSec := s.fld F.PCR.RC_CTL.PERIOD_H * 3600 / max 1 (s.fld F.PCR.RC_CTL.BINS)
  (s.fld F.PCR.TOD.BIN * binSec + s.fld F.PCR.TOD.TICKS * s.tickNs / 1000000000) / 60

/-- The schedule entry with the highest START_MIN that has begun; of equal ones the first. -/
def State.scheduled (s : State) : Nat :=
  if s.fld F.PCR.TOD.TOD_VALID = 0 then 0
  else
    let best := (List.range 8).foldl (fun (m : Option (Nat × Nat)) n =>
      let start := s.fld (F.PCR.SCHED.START_MIN.nth n)
      if s.flag (F.PCR.SCHED.EN.nth n) ∧ start ≤ s.periodMinute ∧ m.all (fun q => decide (q.1 < start)) then
        some (start, s.fld (F.PCR.SCHED.TOTAL.nth n)) else m) none
    (best.map Prod.snd).getD 0

/-- The panel tick is plausible (R428), compared without rounding. -/
def State.plausible (s : State) (y load : Nat) : Bool :=
  let cap := s.fld F.PCR.MODEL.CAP
  let (num, den) := if 16 * load ≥ 15 * cap then (15, 1) else (load, cap - load)
  let err : Int := ((y : Int) - s.fld F.PCR.MODEL.Y0) * den - (s.fld F.PCR.MODEL.Y1 * num : Nat)
  decide (err.natAbs ≤ s.fld F.PCR.MODEL.TOL * den)

/-- The error of R421. -/
def State.latencyError (s : State) : Int := if s.pcr.n > 0 then (s.fld F.PCR.SETPOINT.SP : Int) - s.pcr.y else 0

/-- PACER_FALLBACK (R429): N_BAD implausible panel ticks in a row, or FORCE. -/
def execPacerFallback (s : State) : Host.Outcome State Fault Refusal :=
  .next (
    let force := s.flag F.PCR.CTL.FORCE
    if s.pcr.fallback ∨ s.pacerState ≠ 2 ∨ !(force || decide (s.pcr.badRun ≥ s.fld F.PCR.MODEL_CTL.N_BAD)) then s
    else
      let p1 := { s.pcr with fallback := true, goodRun := 0, badRun := 0, u := s.scheduled, cause := if force then 2 else 1 }
      (({ s with pcr := p1 } : State).count F.PCR.STAT.COUNT 3).event Src.PCR 0)

/-- PACER_CLOSED (R429): N_GOOD plausible panel ticks in a row, with FORCE 0; i is set so that U does not jump. -/
def execPacerClosed (s : State) : Host.Outcome State Fault Refusal :=
  .next (if !s.pcr.fallback ∨ s.flag F.PCR.CTL.FORCE ∨ s.pcr.goodRun < s.fld F.PCR.MODEL_CTL.N_GOOD then s
    else
      let i : Int := (s.pcr.u : Int) - s.pcr.uff - s.fld F.PCR.SETPOINT.KP * s.latencyError
      ({ s with pcr := { s.pcr with fallback := false, integ := i, badRun := 0 } } : State).event Src.PCR 1)

/-! The control law (R421). -/

/-- U of a closed-loop panel tick. -/
def State.controlLaw (s : State) : State :=
  let e := s.latencyError
  let kp : Int := s.fld F.PCR.SETPOINT.KP
  let ki : Int := s.fld F.PCR.SETPOINT.KI
  let top : Int := s.fld F.PCR.TOTAL.MAX
  let low : Int := s.fld F.PCR.TOTAL.MIN
  let ff : Int := s.pcr.uff
  let raw := ff + kp * e + s.pcr.integ
  let i := if (raw ≥ top ∧ e > 0) ∨ (raw ≤ low ∧ e < 0) then s.pcr.integ else max (-top) (min top (s.pcr.integ + ki * e))
  { s with pcr := { s.pcr with integ := i, u := (max low (min top (ff + kp * e + i))).toNat } }

/-! The panel tick. -/

/-- The values of a panel tick (R420): the accumulators are formed into them and cleared. -/
def State.measure (s : State) : State :=
  let p := s.pcr
  let used := p.classes.foldl (fun t x => t + x.used) 0
  let len := 512 * s.tickNs
  let p1 := { p with
    y := if p.latCount = 0 then 0 else p.latSum / p.latCount, n := p.latCount, h := p.hostBytes * 1000 / len,
    b := used * 1000 / (16 * len), latSum := 0, latCount := 0, hostBytes := 0 }
  { s with pcr := p1 }

/-- The backlog bits of a panel tick. -/
def State.noteBacklog (s : State) : State :=
  s.mapClasses (fun _ x => { x with backlog := x.queued, queued := false, used := 0 })

/-- Plausibility of a panel tick with N > 0 (R428). -/
def State.judge (s : State) : State :=
  if s.pcr.n = 0 then s
  else if s.plausible s.pcr.y (s.pcr.h + s.pcr.b) then
    { s with pcr := { s.pcr with badRun := 0, goodRun := s.pcr.goodRun + 1 } }
  else ({ s with pcr := { s.pcr with badRun := s.pcr.badRun + 1, goodRun := 0 } } : State).count F.PCR.STAT.COUNT 2

/-- What a bin learns from a panel tick (R427). -/
def State.learnPanel (s : State) (closed : Bool) : State :=
  { s with pcr := { s.pcr with
    binPanel := s.pcr.binPanel + 1, binClosed := s.pcr.binClosed + closed.toNat,
    binSum := s.pcr.binSum + (if closed then s.pcr.u else 0) } }

/-- Allocation and profiles under the budget in force (R422, R424). -/
def State.allocate (s : State) (st : Nat) : State :=
  let (t, floorsExceed) := targetsFor (s.allocs st) s.pcr.u
  let s1 := if floorsExceed then (s.count F.PCR.STAT.COUNT 5).event Src.PCR 2 else s
  s1.stepClasses st t

/-- The pacer at a panel tick (R420 to R424, R428 to R430). -/
def State.pacerPanel (s : State) : State :=
  let st := s.pacerState
  match st with
  | 0 => s.noteBacklog
  | 5 => s.noteBacklog
  | 1 =>
    let s1 := ({ s with pcr := { s.pcr with latSum := 0, latCount := 0, hostBytes := 0 } } : State).noteBacklog
    s1.stepClasses 1 ((List.range 8).map (fun c =>
      if (s1.pclass c).backlog then max (s1.capOf c) (s1.floorOf c) else s1.floorOf c))
  | 3 =>
    let s1 := s.measure.noteBacklog.judge
    let s2 : State := { s1 with pcr := { s1.pcr with uff := s1.feedForward, u := s1.scheduled } }
    ((s2.count F.PCR.STAT.COUNT 1).learnPanel false).allocate 3
  | _ =>
    let s1 := s.measure.noteBacklog.judge
    let s2 := ({ s1 with pcr := { s1.pcr with uff := s1.feedForward } } : State).controlLaw
    ((if st = 2 then s2.count F.PCR.STAT.COUNT 0 else s2).learnPanel (st == 2)).allocate st

/-! The boundary (R418, R425, R426). -/

/-- A class at a boundary: shares that the mode zeroes, floors raised at once, and the grant of the tick. -/
def State.openClass (s : State) (st c : Nat) (x : PcrClass) : PcrClass :=
  let y := if pacerRuns st c then x else x.still
  let floor := if pacerRuns st c then s.floorOf c else 0
  let z := if floor > y.share then { y with share := floor, v := 0, a := 0 } else y
  let g := z.share * s.tickNs / 1000
  { z with grant := g - z.debit, debit := z.debit - g, floorNow := floor, queued := z.queued || s.backlogOf c }

/-- PCR at a boundary: pending writes, the phase of the bin, floors and grants. -/
def State.pacerBoundary (s : State) : State :=
  let s1 := match s.pcr.todPending with
    | some w =>
      let field := fun (f : Fld) => bits w.toNat f.hi f.lo
      let t := ((s.put F.PCR.TOD.BIN (field F.PCR.TOD.BIN)).put F.PCR.TOD.TICKS (field F.PCR.TOD.TICKS)).put F.PCR.TOD.TOD_VALID 1
      { t with pcr := { t.pcr with todPending := none, binPanel := 0, binClosed := 0, binSum := 0, binOneSide := t.oneSide } }
    | none => if s.flag F.PCR.TOD.TOD_VALID then s.put F.PCR.TOD.TICKS (s.fld F.PCR.TOD.TICKS + 1) else s
  let s2 : State := match s1.pcr.rcPending with
    | some (peer, b, v, m) =>
      if peer then { s1 with pcr := { s1.pcr with rcPending := none, peer := Tab.insert s1.pcr.peer b (v, m) } }
      else { s1 with pcr := { s1.pcr with rcPending := none, own := Tab.insert s1.pcr.own b (v, m) } }
    | none => s1
  let st := s2.pacerState
  let s3 : State := { s2 with pcr := { s2.pcr with
    binOneSide := s2.pcr.binOneSide && s2.oneSide, integ := if st = 5 then 0 else s2.pcr.integ } }
  s3.mapClasses (fun c x => s3.openClass st c x)

/-- A change of BINS or PERIOD_H clears every VALID bit of the memory and of the peer copy (PCR.RC_CTL). -/
def State.rcCtlWritten (s : State) (was : Word) : State :=
  if (s.reg F.PCR.RC_CTL.BINS.addr).toNat % 2 ^ 21 = was.toNat % 2 ^ 21 then s
  else { s with pcr := { s.pcr with
    own := s.pcr.own.map (fun p => (p.1, (false, p.2.2))), peer := s.pcr.peer.map (fun p => (p.1, (false, p.2.2))) } }

end Sys2Proof.Machine
end

