-- ==== Sys2Proof/Machine/Recovery.lean ====
section
/-!
DEFINITION. Machine/Recovery.lean: what FTL and RDN restore from the pages of the modules in Recovery and for an adoption
(chapter 05, R162, R171, R175, R178, R179, R191; chapter 06, R217, R221).
-/

namespace Sys2Proof.Machine

/-! Pages as they are read (R178). -/

/-- The block of a page. -/
def pageBlock (p : FlashPage) : Nat := blockKey p.port p.die p.block

/-- A page counts as written (R178): it decodes, its header checks, and UNIT and PAGE name the place that was read. -/
def pagePasses (p : FlashPage) (unit : Nat) : Bool :=
  p.ok && p.data.length == 16384 && pageHeaderPasses p.header unit p.page p.dcrc

/-- The data of a page of a block, when it counts as written. -/
def writtenPage (x : RecoveryRead) (key unit n : Nat) : Option (List Byte) :=
  (x.pages.find? (fun p => pageBlock p == key && p.page == n && pagePasses p unit)).map FlashPage.data

/-- The bytes at an offset of a block; none when they lie partly in a page never written (R178). -/
def writtenBytes (x : RecoveryRead) (key unit o n : Nat) : Option (List Byte) :=
  ((List.range ((o + n + 16383) / 16384 - o / 16384)).mapM (fun i => writtenPage x key unit (o / 16384 + i))).map (fun ps =>
    (ps.flatten.drop (o % 16384)).take n)

/-- The written pages of an SLC block, in ascending order. -/
def writtenPages (x : RecoveryRead) (key : Nat) : List FlashPage :=
  sortOn FlashPage.page (x.pages.filter (fun p => pageBlock p == key && pagePasses p (placeOf key)))

/-- A block holds a page treated as never written (R179): one that was programmed and does not pass. -/
def tornBlock (x : RecoveryRead) (key unit : Nat) : Bool := x.pages.any (fun p => pageBlock p == key && !pagePasses p unit)

/-! The journals on flash (R175 steps 1 and 2, R221). -/

/-- The records that begin in a page, from an offset of its block on: each of the length its header gives. -/
def recordsFrom (x : RecoveryRead) (key stop : Nat) : Nat → Nat → List (List Byte)
  | 0, _ => []
  | fuel + 1, o =>
    if o ≥ stop then []
    else
      let h := (writtenBytes x key (placeOf key) o 8).getD []
      let len := if leField h 0 2 = 0x4A52 then leField h 4 4 else if leField h 0 2 = 0x534A then leField h 4 2 else 0
      if len = 0 then []
      else (writtenBytes x key (placeOf key) o len).toList ++ recordsFrom x key stop fuel (o + len)

/-- The records in a journal block: those that begin in each page from its FIRST_HDR on (R177). -/
def recordsIn (x : RecoveryRead) (key : Nat) : List (List Byte) :=
  (writtenPages x key).flatMap (fun p =>
    let first := leField p.header 26 2
    if first = 0xFFFF then [] else recordsFrom x key ((p.page + 1) * 16384) 512 (p.page * 16384 + first))

/-- The anchor blocks of the side on the two anchor modules (R174). -/
def State.anchorKeys (s : State) : List Nat :=
  [s.fld F.FTL.ANCHOR.MOD_A, s.fld F.FTL.ANCHOR.MOD_B].flatMap (fun n =>
    match (s.port n).desc.bind (fun d => s.lowestDie d s.ftl.side) with
    | some die => [blockKey n die 0, blockKey n die 1]
    | none => [])

/-- The valid anchor page with the highest ANCHOR_SEQ (R175 step 1). -/
def State.anchorFound (s : State) (x : RecoveryRead) : Option ReadAnchor :=
  ((s.anchorKeys.flatMap (fun k => (writtenPages x k).filterMap (fun p => readAnchor p.data))).foldl (fun best a =>
    match best with
    | some b => if b.seq < a.seq then some a else best
    | none => some a) none)

/-- The journals as they are found: the map journal's records by JSEQ, the stripe journal's in SSEQ order, a record being valid when
one of its copies is; and the pairs, map journal's and stripe journal's (R175 step 2, R215, R221). -/
structure Journals where
  anchor : ReadAnchor
  records : Tab ReadRec
  sj : List ReadSj
  mapPairs : List (Nat × Nat)
  sjPairs : List (Nat × Nat)
  deriving DecidableEq, Repr

/-- Records by their JSEQ; of two copies the first stands. -/
def byJseq (rs : List ReadRec) : Tab ReadRec :=
  rs.foldl (fun m r => if (Tab.find m r.jseq).isSome then m else Tab.insert m r.jseq r) []

/-- Stripe-journal records by their SSEQ. -/
def bySseq (rs : List ReadSj) : List ReadSj :=
  (rs.foldl (fun (m : Tab ReadSj) r => if (Tab.find m r.sseq).isSome then m else Tab.insert m r.sseq r) []).map Prod.snd

/-- What the pairs that an anchor page lists hold. -/
def journalsOn (x : RecoveryRead) (a : ReadAnchor) : Journals :=
  let found := a.pairs.map (fun p => (p, recordsIn x p.1 ++ recordsIn x p.2))
  let isSj (q : (Nat × Nat) × List (List Byte)) : Bool := q.2.any (fun b => leField b 0 2 == 0x534A)
  let maps := found.filter (fun q => !isSj q)
  let sjs := found.filter isSj
  { anchor := a, records := byJseq (maps.flatMap (fun q => q.2.filterMap readRecord)),
    sj := bySseq (sjs.flatMap (fun q => q.2.filterMap readSj)), mapPairs := maps.map Prod.fst, sjPairs := sjs.map Prod.fst }

/-- The records from a JSEQ up to the first for which no copy is valid (R175 step 2). -/
def runFrom (records : Tab ReadRec) : Nat → Nat → List ReadRec
  | 0, _ => []
  | fuel + 1, n => match Tab.find records n with
    | some r => r :: runFrom records fuel (n + 1)
    | none => []

/-- The highest CKPT item of some records: UPTO, ROOT and DIR_PAGES (R175 step 3). -/
def lastCkptOf (rs : List ReadRec) : Option (Nat × Nat × Nat) :=
  (rs.flatMap ReadRec.items).foldl (fun best i => match i, best with
    | .ckpt u root n, none => some (u, root, n)
    | .ckpt u root n, some b => if b.1 ≤ u then some (u, root, n) else some b
    | _, _ => best) none

/-! Stripes, from their descriptors and the stripe journal (R186, R217, R221). -/

/-- Rows per block of a stripe on some modules: the fewest dense pages that one of them declares (R185). -/
def State.rowsOn (s : State) (mods : List Nat) : Nat :=
  (mods.filterMap (fun n => (s.port n).desc.map FrnDesc.pages)).foldl min 4096

/-- The stripe that a stripe-table page holds. -/
def State.stripeOfBody (s : State) (index : Nat) (body : List Byte) : Option (Nat × Stripe) :=
  stripeOn index (s.rowsOn ((List.range (leField body 6 1)).map (fun m => leField body (64 + 72 * m) 1))) body

/-- A member of a stripe changed. -/
def Stripe.setMember (x : Stripe) (m : Nat) (f : StripeMember → StripeMember) : Stripe :=
  match x.members[m]? with
  | some mb => { x with members := x.members.set m (f mb) }
  | none => x

/-- The durable rows of a stripe as a record gives them: nothing stands beyond them. -/
def Stripe.doneTo (x : Stripe) (rows : Nat) : Stripe :=
  { x with rowsDone := rows, rowsSent := rows, fill := x.fill.map (fun _ => rows * 16384) }

/-- The rows durable on a replacement. -/
def Stripe.rebuiltTo (x : Stripe) (m rows : Nat) : Stripe :=
  x.setMember m (fun mb => { mb with repl := mb.repl.map (fun r => (r.1, r.2.1, rows)) })

/-- A stripe-journal record applied to its stripe, or to the rebuilds and the reshape (R217, R221). Every valid record is, in SSEQ
order, since each type says another thing of its stripe (assumption 69). -/
def State.applySj (s : State) (r : ReadSj) : State :=
  let id := r.stripe
  match r.body with
  | .open_ rows => match stripeOn id rows r.rest with
    | some (_, x) => { s with ftl := { s.ftl with stripes := Tab.insert s.ftl.stripes id { x with state := 1 } } }
    | none => s
  | .intent limit => s.modifyStripe id (fun x => { x with intent := max x.intent limit, sentLimit := max x.sentLimit limit })
  | .done rows => s.modifyStripe id (fun x => x.doneTo (max x.rowsDone rows))
  | .close rows state => s.modifyStripe id (fun x => { x.doneTo rows with state := state })
  | .member m op n =>
    match op with
    | 1 => s.modifyStripe id (fun x => x.setMember m (fun mb => { mb with failed := true }))
    | 2 => s.modifyStripe id (fun x => x.setMember m (fun mb => { mb with
        repl := ((List.range x.g).mapM (fun j => readDieWord (leField r.rest (4 * j) 4))).map (fun dies => (n, dies, 0)) }))
    | 3 =>
      let t := s.commitMember id m
      if (Tab.find t.ftl.stripes id).any (fun x => x.failedCount == 0) then
        { t with rdn := { t.rdn with rebuilds := Tab.erase t.rdn.rebuilds id } }
      else t
    | _ => s.modifyStripe id (fun x => x.setMember m (fun mb => { mb with repl := none }))
  | .rebuild a b rowsA rowsB =>
    let rb : Rebuild := { a := a, b := if b = 31 then none else some b, rowsA := rowsA, rowsB := rowsB, recorded := max rowsA rowsB,
                          commitA := none, commitB := none, row := 0, left := 0 }
    let s1 := s.modifyStripe id (fun x => (x.rebuiltTo a rowsA).rebuiltTo b rowsB)
    { s1 with rdn := { s1.rdn with rebuilds := Tab.insert s1.rdn.rebuilds id rb } }
  | .reshape op kind module newD cursor end_ moved =>
    let q : Reshape := { kind := kind, module := module, newD := newD, cursor := cursor, end_ := end_, moved := moved, since := 0,
                         sinceTick := s.now, abandon := op == 4 }
    { s with rdn := { s.rdn with reshape := if op = 3 ∨ op = 4 then none else some q } }
  | .loss row slot members => s.modifyStripe id (fun x =>
      if x.setLost row slot then x else { x with lost := x.lost ++ [⟨row, slot, members, false⟩] })

/-- The page of a data column of a stripe: as it is read, or reconstructed from its set (R207, R210). -/
def stripeColumn (x : RecoveryRead) (id : Nat) (st : Stripe) (c row : Nat) : Option (List Byte) :=
  let m := c / (st.g - 1)
  let slot := c % (st.g - 1)
  let read (i : Nat) : Option (List Byte) :=
    (st.pageSpot row slot i).bind (fun p => writtenPage x (blockKey p.1 p.2.1 p.2.2) id row)
  match read m with
  | some d => some d
  | none => (reconstruct ((List.range st.members.length).map read)).bind (fun whole => whole[m]?)

/-- The stored bytes at a place of either tier, in 64-byte units (R157). -/
def State.storedAt (s : State) (x : RecoveryRead) (place units : Nat) : Option (List Byte) :=
  if isBulk place then
    match Tab.find s.ftl.stripes (stripeOf place) with
    | none => none
    | some st =>
      let o := stripeOffset place % st.blockSize
      let c := stripeOffset place / st.blockSize
      ((List.range ((o + units * 64 + 16383) / 16384 - o / 16384)).mapM (fun i =>
        stripeColumn x (stripeOf place) st c (o / 16384 + i))).map (fun ps => (ps.flatten.drop (o % 16384)).take (units * 64))
  else writtenBytes x (blockKeyOf place) (placeOf (blockKeyOf place)) (mossOffset place) (units * 64)

/-! Metadata pages (R162, R175 step 3). -/

/-- A metadata page at a place: its identifier, APPLIED_SEQ and body. -/
def State.metaAt (s : State) (x : RecoveryRead) (place : Nat) : Option (Nat × Nat × List Byte) :=
  (s.storedAt x place 65).bind readMetaPage

/-- The places in the directory from ROOT: its pages stand consecutively, as many as the CKPT item says, or while they go on. -/
def State.directory (s : State) (x : RecoveryRead) (root i : Nat) : Nat → List Nat
  | 0 => []
  | fuel + 1 => match s.metaAt x (root + 65 * i) with
    | some (id, _, body) => if id = pageId 6 0 i then readDirBody body ++ s.directory x root (i + 1) fuel else []
    | none => []

/-- The places that PAGE_WB items name, with the JSEQ of their records (R163). -/
def writtenBack (rs : List ReadRec) : List (Nat × Nat) :=
  rs.flatMap (fun r => r.items.filterMap (fun i => match i with
    | .pageWb _ _ loc _ => some (loc, r.jseq)
    | _ => none))

/-- A metadata page is taken into the tables; a later copy takes the place of an earlier one. -/
def State.takePage (s : State) (place wb : Nat) (q : Nat × Nat × List Byte) : State :=
  let p : MetaPage := { applied := q.2.1, since := none, loc := some place, written := q.2.2, wb := wb, earlier := [] }
  s.setPage q.1 p

/-- The stripes whose descriptors the pages hold, and that the stripe journal has not given. -/
def State.stripePages (s : State) : State :=
  let found := (s.ftl.pages.filter (fun p => idKind p.1 == 5)).filterMap (fun p => s.stripeOfBody (idIndex p.1) p.2.written)
  { s with ftl := { s.ftl with stripes := found.foldl (fun m q =>
      if (Tab.find m q.1).isSome then m else Tab.insert m q.1 q.2) s.ftl.stripes } }

/-- The pages at some places read, as far as the stripes known reach; the stripe-table pages among them give further stripes, and
the reading is repeated until none is found. -/
def State.readPages (s : State) (x : RecoveryRead) (places : List (Nat × Nat)) : Nat → State
  | 0 => s
  | fuel + 1 =>
    let t := (places.foldl (fun (u : State) p => match u.metaAt x p.1 with
      | some q => u.takePage p.1 p.2 q
      | none => u) s).stripePages
    if t.ftl.stripes.length = s.ftl.stripes.length then t else t.readPages x places fuel

/-- The tables from the bodies of the pages (R162): a chunk's fingerprint and digest key stand in the fingerprint tree. -/
def Ftl.tablesOf (f : Ftl) : FtlTables :=
  let of (kind : Nat) : List (Nat × MetaPage) := f.pages.filter (fun p => idKind p.1 == kind)
  let tree := (of 4).flatMap (fun p => readFpBody p.2.written)
  let named (chunk : Nat) (c : ChunkEntry) : ChunkEntry :=
    match tree.find? (fun r => r.2.1 == chunk) with
    | some r => { c with fp := BitVec.ofNat 256 r.1, dkey := r.2.2 }
    | none => c
  { chunks := ((of 3).flatMap (fun p => readChunkBody f.side (idIndex p.1) p.2.written)).foldl (fun m q =>
      Tab.insert m q.1 (named q.1 q.2)) [],
    map := (of 1).foldl (fun m p => (readMapBody (idIndex p.1) p.2.written).foldl (fun m q =>
      Tab.insert m (granuleKey (idNsid p.1) q.1) q.2) m) [],
    retained := (of 2).flatMap (fun p => readRetainedBody (idNsid p.1) p.2.written),
    epochs := [] }

/-! Replay (R171, R175 steps 4 and 5). -/

/-- A page has not had a record applied (R171). -/
def Ftl.above (f : Ftl) (jseq id : Nat) : Bool := decide ((f.page id).applied < jseq)

/-- The chunk-table page of a chunk. -/
def chunkPage (chunk : Nat) : Nat := pageId 3 0 (chunk % 2 ^ 47 / 128)

/-- An epoch and its snapshots after a SNAP item, and the sweeps under way (R164, R167). -/
def State.replaySnap (s : State) (nsid me op : Nat) : State :=
  let n := s.ftl.tables.epoch nsid
  let n' : NsEpoch := match op with
    | 1 => { me := max n.me (me + 1), snaps := if me ∈ n.snaps then n.snaps else n.snaps ++ [me] }
    | 2 => { n with snaps := n.snaps.erase me }
    | _ => n
  let w : SnapSweep := { nsid := nsid, me := me, wholeNs := false }
  let s1 := s.setTables { s.ftl.tables with epochs := Tab.insert s.ftl.tables.epochs nsid n' }
  { s1 with ftl := { s1.ftl with sweeps := match op with
      | 2 => if s1.ftl.sweeps.contains w then s1.ftl.sweeps else s1.ftl.sweeps ++ [w]
      | 3 => s1.ftl.sweeps.erase w
      | _ => s1.ftl.sweeps } }

/-- A granule's entry goes, when its map page has not had the record applied; what is kept as a retained entry is kept once. -/
def State.replayRetire (s : State) (nsid g jseq item : Nat) : State :=
  if s.ftl.above jseq (pageId 1 nsid (g / 256)) then
    let t := s.retireEntry nsid g jseq item
    t.setTables { t.ftl.tables with retained := t.ftl.tables.retained.dedup }
  else s

/-- An item replayed: each page takes it only when its APPLIED_SEQ is below the record's JSEQ (R171). A DEREF item settles the
decrement that its CAUSE and ITEM owed. -/
def State.replayItem (s : State) (jseq item : Nat) (i : JItem) : State :=
  match i with
  | .map nsid g e =>
    let s1 := s.replayRetire nsid g jseq item
    let chunk := s1.ftl.tables.target e.chunk
    let s2 := if s.ftl.above jseq (pageId 1 nsid (g / 256)) then
        s1.setTables { s1.ftl.tables with
          map := Tab.insert s1.ftl.tables.map (granuleKey nsid g) (if e.typ = 2 then { e with chunk := chunk } else e) }
      else s1
    if e.typ = 2 ∧ s.ftl.above jseq (chunkPage chunk) then s2.addRef chunk 1 else s2
  | .chunkNew chunk _ _ _ _ _ _ _ => if s.ftl.above jseq (chunkPage chunk) then s.applyItem jseq item i else s
  | .reloc chunk _ _ _ _ _ => if s.ftl.above jseq (chunkPage chunk) then s.applyItem jseq item i else s
  | .alias_ chunk target count =>
    let owed (o : Owed) : Owed := if o.chunk = chunk then { o with chunk := target } else o
    let s1 : State := { s with ftl := { s.ftl with owed := s.ftl.owed.map owed } }
    let s2 := if s.ftl.above jseq (chunkPage chunk) then
        s1.modifyChunk chunk (fun c => { c with state := 3, loc1 := target }) else s1
    if s.ftl.above jseq (chunkPage target) then s2.addRef target count else s2
  | .deref chunk cause n count =>
    let target := s.ftl.tables.target chunk
    let mine (o : Owed) : Bool := o.cause == cause && o.item == n && o.chunk == target
    let s1 : State := match s.ftl.owed.find? mine with
      | some o => { s with ftl := { s.ftl with owed := s.ftl.owed.erase o } }
      | none => s
    if s.ftl.above jseq (chunkPage target) then s1.dropRef chunk count else s1
  | .snap nsid me op => s.replaySnap nsid me op
  | .dealloc nsid first count =>
    ((s.ftl.tables.map.filter (fun p => p.1 / 2 ^ 64 = nsid ∧ first ≤ p.1 % 2 ^ 64 ∧ p.1 % 2 ^ 64 < first + count)).map
      (fun p => p.1 % 2 ^ 64)).foldl (fun (t : State) g => t.replayRetire nsid g jseq item) s
  | .unit 0 _ _ => s
  | .rsv _ _ _ _ _ _ _ _ => s
  | i => s.applyItem jseq item i

/-- The items of a record replayed in order. -/
def State.replayItems (s : State) (jseq : Nat) : Nat → List JItem → State
  | _, [] => s
  | n, i :: is => (s.replayItem jseq n i).replayItems jseq (n + 1) is

/-- A record replayed: the pages it changes take its JSEQ (R171). -/
def State.replayRecord (s : State) (r : ReadRec) : State :=
  s.applyTouching r.jseq r.items (fun t => t.replayItems r.jseq 0 r.items)

/-- The chunk header at a place, when its page or pages pass. -/
def State.headerAt (s : State) (x : RecoveryRead) (place : Nat) : Option ChunkHeader :=
  (s.storedAt x place 2).map (fun b => readHeader (b.take 96))

/-- The digest key of a new chunk, which its header holds: a CHUNK_NEW item has no field for it (assumption 65). -/
def State.withDkey (s : State) (x : RecoveryRead) : JItem → JItem
  | .chunkNew chunk keyId units loc0 loc1 granules fp _ =>
    .chunkNew chunk keyId units loc0 loc1 granules fp (((s.headerAt x loc0).orElse (fun _ => s.headerAt x loc1)).map
      ChunkHeader.dkey |>.getD (s.fld F.RDX.CONFIG.DKEY))
  | i => i

/-- The copies that an item creates or moves whose header is present (R175 step 5, R191): the place and the chunk of each, and of
those that are not. An item that places nothing has neither. -/
def State.copies (s : State) (x : RecoveryRead) : JItem → List Nat × List Nat
  | .chunkNew _ _ _ loc0 loc1 _ fp _ =>
    [loc0, loc1].partition (fun l => (s.headerAt x l).any (fun h => h.fingerprint == fp.toNat))
  | .reloc chunk keyId units loc0 state loc1 =>
    let before := (Tab.find s.ftl.tables.chunks chunk).bind (fun c => s.headerAt x c.loc0)
    (if state = 1 then [loc0, loc1] else [loc0]).partition (fun l => (s.headerAt x l).any (fun h =>
      h.passes && h.keyId == keyId && (96 + h.storedLen + 63) / 64 == units && before.all (fun b => b.fingerprint == h.fingerprint)))
  | _ => ([], [])

/-- An item may be applied: at least one header of what it places is present. -/
def State.mayApply (s : State) (x : RecoveryRead) (i : JItem) : Bool :=
  let c := s.copies x i
  !c.1.isEmpty || c.2.isEmpty

/-- The second copy of a chunk of which one header is present is written: its bytes are placed again (R175 step 5, R195). -/
def State.secondCopy (s : State) (x : RecoveryRead) (chunk units : Nat) (c : List Nat × List Nat) : State :=
  match c with
  | ([good], [bad]) => match s.storedAt x good units with
    | some b => { s with ftl := { s.ftl with rewrites := s.ftl.rewrites ++ [{ chunk := chunk, stored := b, place := bad }] } }
    | none => s
  | _ => s

/-- The second copies of what a record places. -/
def State.secondCopies (s : State) (x : RecoveryRead) (items : List JItem) (before : State) : State :=
  items.foldl (fun (t : State) i => match i with
    | .chunkNew chunk _ units _ _ _ _ _ => t.secondCopy x chunk units (before.copies x i)
    | .reloc chunk _ units _ _ _ => t.secondCopy x chunk units (before.copies x i)
    | _ => t) s

/-- Records beyond DONE_SEQ are applied up to the first that places a chunk of which no header is present (R175 step 5): the
state, the JSEQ of the first record discarded and the number of them. -/
def State.applyTail (s : State) (x : RecoveryRead) : List ReadRec → State × Nat × Nat
  | [] => (s, 0, 0)
  | r :: rs =>
    if r.items.all (s.mayApply x) then ((s.replayRecord r).secondCopies x r.items s).applyTail x rs else (s, r.jseq, rs.length + 1)

/-! Units (R175 step 6, R179). -/

/-- The last state that UNIT items give a stripe, of records its page has not had applied, after it was last opened. -/
def State.stripeState (s : State) (rs : List ReadRec) (id : Nat) : Option Nat :=
  (rs.filter (fun r => s.ftl.above r.jseq (pageId 5 0 id))).foldl (fun last r => r.items.foldl (fun last i => match i with
    | .unit 0 n st => if n = id then some (if last.any (fun l => st ≠ 1 ∧ unitRank st < unitRank l ∧ st ≠ 0 ∧ st ≠ 4) then last.getD st else st) else last
    | _ => last) last) none

/-- The stripes after the UNIT items of the records (R170, R190): one erased is gone, and one that no page and no UNIT item of the
records knows, and that the stripe journal shows closed, has gone before the checkpoint. -/
def State.settleStripes (s : State) (rs : List ReadRec) : State :=
  let set (p : Nat × Stripe) : Option (Nat × Stripe) :=
    match s.stripeState rs p.1 with
    | some st => if st = 0 ∨ st = 4 then none else if unitRank p.2.state < unitRank st then some (p.1, { p.2 with state := st }) else some p
    | none => if (s.ftl.page (pageId 5 0 p.1)).loc.isNone ∧ p.2.state ≠ 1 then none
      else if (s.ftl.page (pageId 5 0 p.1)).loc.isSome ∧ leField (s.ftl.page (pageId 5 0 p.1)).written 4 1 = 0 ∧ p.2.state ≠ 1 then none
      else some p
  { s with ftl := { s.ftl with stripes := s.ftl.stripes.filterMap set } }

/-- A moss block known from the places of the chunk table. -/
def State.restoreCopy (s : State) (place units : Nat) : State :=
  let key := blockKeyOf place
  let b : MossBlock := Tab.getD s.ftl.blocks key { use := 0, state := 2, fill := 0, live := 0, opened := s.now }
  { s with ftl := { s.ftl with blocks := Tab.insert s.ftl.blocks key { b with live := b.live + units * 64 } } }

/-- How far each block is written; one that holds a page treated as never written takes no further page (R179). -/
def State.restoreFill (s : State) (x : RecoveryRead) : State :=
  let top (k : Nat) : Nat := (writtenPages x k).foldl (fun m p => max m (p.page + 1)) 0
  let s1 : State := { s with ftl := { s.ftl with blocks := s.ftl.blocks.map (fun p => (p.1, { p.2 with fill := top p.1 * 16384 })) } }
  (s1.ftl.blocks.filter (fun p => p.2.state = 1 ∧ tornBlock x p.1 (placeOf p.1))).foldl (fun (t : State) p => t.setBlockState p.1 2) s1

/-- Live bytes of the stripes: of chunks, of metadata pages and of the directory (R186). -/
def State.restoreValid (s : State) : State :=
  let s1 : State := { s with ftl := { s.ftl with stripes := s.ftl.stripes.map (fun p => (p.1, { p.2 with valid := 0 })) } }
  let s2 := (s1.ftl.tables.chunks.filter (fun p => p.2.state = 2)).foldl (fun (t : State) p => t.liveBulk p.2.loc0 p.2.units) s1
  let s3 := s2.ftl.pages.foldl (fun (t : State) p => p.2.loc.toList.foldl (fun (u : State) l => u.liveBulk l 65) t) s2
  s3.ftl.dir.toList.foldl (fun (t : State) d => t.liveBulk d.1 (65 * d.2)) s3

/-- The entries that name an alias, counted: one that nothing names is freed (R159). -/
def State.countAliases (s : State) : State :=
  let t := s.ftl.tables
  let names (c : Nat) : Nat := (t.map.filter (fun p => p.2.typ = 2 ∧ p.2.chunk = c)).length +
    (t.retained.filter (fun r => r.entry.typ = 2 ∧ r.entry.chunk = c)).length
  let set (p : Nat × ChunkEntry) : Option (Nat × ChunkEntry) :=
    if p.2.state ≠ 3 then some p else if names p.1 = 0 then none else some (p.1, { p.2 with refCount := names p.1 })
  s.setTables { t with chunks := t.chunks.filterMap set }

/-- Blocks, stripes and wear after the replay. -/
def State.restoreUnits (s : State) (x : RecoveryRead) : State :=
  let worn (m : Tab BlockWear) (e : Nat × Nat) : Tab BlockWear := Tab.insert m e.1 { Tab.getD m e.1 ⟨0, [], false⟩ with erases8 := e.2 }
  let moss := s.ftl.tables.chunks.filter (fun p => p.2.state = 1)
  let s1 : State := { s with ftl := { s.ftl with wear := x.erases.foldl worn s.ftl.wear, mossOrder := moss.map Prod.fst } }
  let s2 := moss.foldl (fun (t : State) p => (t.restoreCopy p.2.loc0 p.2.units).restoreCopy p.2.loc1 p.2.units) s1
  ((s2.restoreValid).restoreFill x)

/-- A unit left in erase intent is erased again (R175 step 6, R179): its intent is durable already. -/
def State.eraseFirst (s : State) (kind id : Nat) : State :=
  { s with ftl := { s.ftl with erasing := s.ftl.erasing ++ [{ kind := kind, id := id, jseq := 0, sent := false, left := 0 }] } }

/-! The row check (R221, R222). -/

/-- Every page of a row on the members not FAILED passes R178. -/
def rowWritten (x : RecoveryRead) (id : Nat) (st : Stripe) (row : Nat) : Bool :=
  st.members.all (fun m => m.failed || m.dies.all (fun p => (writtenPage x (blockKey m.module p.1 p.2) id row).isSome))

/-- P and Q of a set agree with its data, with at most one member FAILED; with two, R178 alone decides (R221). -/
def setAgrees (x : RecoveryRead) (id : Nat) (st : Stripe) (row slot : Nat) : Bool :=
  let pages := st.members.map (fun m => if m.failed then none
    else (m.dies[slot]?).bind (fun p => writtenPage x (blockKey m.module p.1 p.2) id row))
  if st.failedCount ≥ 2 then true
  else match reconstruct pages with
    | some whole => (List.range pages.length).all (fun i => match pages.getD i none with
      | some d => whole.getD i [] == d
      | none => true)
    | none => false

/-- A row is accepted (R221). -/
def State.rowAccepted (s : State) (x : RecoveryRead) (id : Nat) (st : Stripe) (row : Nat) : Bool :=
  let wl := s.wlPages st
  ((List.range wl).map (fun i => row / wl * wl + i)).all (fun r => r ≥ st.rows || rowWritten x id st r) &&
  (List.range (st.g - 1)).all (setAgrees x id st row)

/-- The row check of an open stripe (R221, R222): its rows from ROWS_DONE on that are accepted are durable; the first row not accepted
closes the stripe with STATE 5 and a CLOSE record. -/
def State.checkStripe (s : State) (x : RecoveryRead) (id : Nat) : State :=
  match Tab.find s.ftl.stripes id with
  | none => s
  | some st =>
    if st.state ≠ 1 then s
    else
      let more := ((List.range (st.sentLimit - st.rowsDone)).takeWhile (fun i => s.rowAccepted x id st (st.rowsDone + i))).length
      let top := st.rowsDone + more
      let s1 := s.modifyStripe id (fun st => { st.doneTo top with buf := st.buf.map (fun _ => []) })
      if top < st.sentLimit then s1.closeStripe id 5
      else if more = 0 then s1 else s1.formSj id (.done top)

/-- The reservation that an RSV item leaves (R308): OP 1 to 3 and 8 concern a registration, the others the reservation. -/
def Rsv.change (r : Rsv) (op rtype : Nat) (ptpl : Bool) (prgen : Nat) (host : BitVec 128) (key pkey : Word) : Rsv :=
  let base : Rsv := { r with prgen := prgen, ptpl := ptpl, rtype := rtype, holder := if rtype = 0 then none else r.holder }
  let others := r.regs.filter (fun g => g.host ≠ host)
  match op with
  | 1 => { base with regs := r.regs ++ [⟨host, key⟩] }
  | 2 => { base with regs := others }
  | 3 => { base with regs := r.regs.map (fun g => if g.host = host then ⟨host, key⟩ else g) }
  | 4 => { base with holder := some host }
  | 5 => { base with
      holder := if rtype = 0 then none else if r.holder.isSome ∧ r.rtype = rtype ∧ pkey ≠ 0 ∧
        !(r.regs.any (fun g => g.key == pkey && some g.host == r.holder)) then r.holder else some host,
      regs := r.regs.filter (fun g => g.host = host ∨ (pkey ≠ 0 ∧ g.key ≠ pkey)) }
  | 7 => { base with holder := none, regs := [] }
  | 9 => { base with holder := none, regs := [] }
  | _ => base

/-- Reservations are restored from RSV items (R309); a namespace whose PTPL is 0 is then cleared, with an item of OP 9. -/
def State.restoreRsv (s : State) : JItem → State
  | .rsv nsid op rtype ptpl prgen host key pkey =>
    let r : Rsv := Tab.getD s.cmf.rsv nsid { prgen := 0, rtype := 0, holder := none, regs := [], ptpl := false }
    { s with cmf := { s.cmf with rsv := Tab.insert s.cmf.rsv nsid (r.change op rtype ptpl prgen host key pkey) } }
  | _ => s

/-- The namespaces whose reservations do not persist are cleared after the loss of power to both heads (R309). -/
def State.clearRsv (s : State) : State :=
  (s.cmf.rsv.filter (fun p => !p.2.ptpl && (p.2.regs != [] || p.2.rtype != 0))).foldl (fun (t : State) p =>
    let i : JItem := .rsv p.1 9 0 false p.2.prgen 0 0 0
    (t.restoreRsv i).formRecord [i] none true) s

/-! The whole of it (R175, R221, R407). -/

/-- What the replay of a side starts from: the journals, the JSEQ from which records are taken, the records of a complete shadow and
the checkpoint it starts from (R407 step 3). Stripe-journal records of the pair are taken above those of the shadow (R222). -/
structure Source where
  found : Journals
  start : Nat
  base : Option (Nat × Nat)
  done : Nat
  deriving DecidableEq, Repr

/-- The source from flash alone. -/
def Journals.source (j : Journals) : Source := { found := j, start := j.anchor.first, base := none, done := 0 }

/-- The source with a complete shadow: its records stand before those on flash. -/
def Journals.withShadow (j : Journals) (h : Shadow) : Source :=
  let held := h.records.filter (fun r => r.1 > h.base ∧ r.1 ≤ h.upto)
  let sj := h.sj.filterMap (fun r => readSj r.2)
  let last := sj.foldl (fun m r => max m r.sseq) 0
  { found := { j with
      records := byJseq (held.map Prod.snd ++ j.records.map Prod.snd), sj := bySseq (sj ++ j.sj.filter (fun r => r.sseq > last)) },
    start := h.base + 1, base := some (h.base, h.root), done := h.upto }

/-- Steps 2 and 3 of R175 with R221: the sequence numbers, the live pairs, the stripes of the stripe journal, and the metadata pages
of the highest checkpoint. -/
def State.loadTables (s : State) (x : RecoveryRead) (q : Source) (run : List ReadRec) (ck : Nat × Nat × Nat) : State :=
  let j := q.found
  let firstOf (p : Nat × Nat) : Nat :=
    ((recordsIn x p.1 ++ recordsIn x p.2).filterMap readRecord).foldl (fun m r => min m r.jseq) (j.anchor.first + j.records.length)
  let top := j.records.foldl (fun m r => max m r.1) (max ck.1 (q.start - 1))
  let closed := (j.sj.filterMap (fun r => match r.body with
    | .close _ _ => some r.stripe
    | _ => none)).dedup
  let s1 : State := { s with
    ftl := { s.ftl with
      jseq := top, anchorSeq := j.anchor.seq, livePairs := j.mapPairs.map (fun p => ⟨p.1, p.2, firstOf p⟩),
      lastCkpt := (ck.1, ck.2.1), dir := if ck.2.1 = 0 then none else some ck.2,
      sinceCkpt := ((run.filter (fun r => r.jseq > ck.1)).map (fun r => recordBytes r.items)).foldl (· + ·) 0 }
    rdn := { s.rdn with
      sseq := j.sj.foldl (fun m r => max m r.sseq) 0, pair := j.sjPairs.getLast?,
      closed := closed, oldPairs := j.sjPairs.dropLast.map (fun p => ⟨p.1, p.2, closed⟩) }
    frn := { s.frn with pageSeq := x.pages.foldl (fun m p => max m (leField p.header 8 8)) s.frn.pageSeq } }
  let s2 := j.sj.foldl State.applySj s1
  let places := (if ck.2.1 = 0 then [] else (s2.directory x ck.2.1 0 (if ck.2.2 = 0 then 4096 else ck.2.2)).map (fun l => (l, 0))) ++
    writtenBack (run.filter (fun r => r.jseq > ck.1))
  let s3 := s2.readPages x places (places.length + 1)
  s3.setTables s3.ftl.tablesOf

/-- The numbers that chunks of some records have (R158): none of them is given again before a checkpoint. -/
def chunkNumbers (rs : List ReadRec) : List Nat := rs.flatMap (fun r => r.items.flatMap JItem.newChunks)

/-- Steps 2 to 7 of R175 for a side: its tables, the records applied and discarded, the units erased again, key usage and
reservations, and in Recovery the check of its open stripes (R221). An adoption (R407) leaves the reservations that do not persist
and checks its open stripes later. -/
def State.replay (s : State) (x : RecoveryRead) (q : Source) (adopt : Bool) : State :=
  let j := q.found
  let run := runFrom j.records (j.records.length + 1) q.start
  let last := lastCkptOf run
  let ck : Nat × Nat × Nat := match last, q.base with
    | some c, some b => if b.1 ≤ c.1 then c else (b.1, b.2, 0)
    | some c, none => c
    | none, some b => (b.1, b.2, 0)
    | none, none => (0, 0, 0)
  let s1 := s.loadTables x q run ck
  let done := run.foldl (fun m r => max m r.doneSeq) q.done
  let above := (run.filter (fun r => r.jseq > ck.1)).map (fun r => { r with items := r.items.map (s1.withDkey x) })
  let s2 := (above.filter (fun r => r.jseq ≤ done)).foldl State.replayRecord s1
  let (s3, first, dropped) := s2.applyTail x (above.filter (fun r => r.jseq > done))
  let s4 := if dropped = 0 then s3
    else ((s3.count F.FTL.STAT.COUNT 13 dropped).event Src.FTL 16 0 first dropped).beginCkpt
  let kept := above.filter (fun r => dropped = 0 || r.jseq < first)
  let s5 := ((s4.settleStripes kept).countAliases).restoreUnits x
  let again := (s5.ftl.blocks.filter (fun p => p.2.state = 3)).map (fun p => (unitKind p.2.use, placeOf p.1)) ++
    (s5.ftl.stripes.filter (fun p => p.2.state = 3)).map (fun p => (0, p.1))
  let numbers := (Tab.keys s5.ftl.tables.chunks ++ chunkNumbers (j.records.map Prod.snd)).filter (fun c => c / 2 ^ 47 = s.ftl.side)
  let s6 : State := { s5 with
    ftl := { s5.ftl with
      eraseAgain := again, nextChunk := numbers.foldl (fun m c => max m (c % 2 ^ 47 + 1)) s5.ftl.nextChunk,
      nextStripe := s5.ftl.stripes.foldl (fun m p => max m (p.1 + 1)) 0 }
    rdn := { s5.rdn with impaired := s5.ftl.stripes.any (fun p => p.2.members.any StripeMember.failed) } }
  let s7 := again.foldl (fun (t : State) u => t.eraseFirst u.1 u.2) s6
  let s8 := (run.filter (fun r => dropped = 0 || r.jseq < first)).foldl (fun (t : State) r => r.items.foldl State.restoreRsv t) s7
  let s9 := if adopt then s8
    else (Tab.keys s8.ftl.stripes).foldl (fun (t : State) id => t.checkStripe x id) s8.clearRsv
  s9.put F.FTL.CKPT_SEQ.SEQ ck.1

/-- The tables of a side exist, empty when the head has not kept it (R376). -/
def State.ensureSide (s : State) (k : Nat) : State :=
  if s.ftl.side = k ∨ s.other.any (fun o => o.1.side == k) then s
  else { s with other := some ({ Ftl.cold with side := k }, Rdn.cold) }

/-- A side's tables restored from what has been read of the modules, with a complete shadow where there is one: nothing of an
earlier holding is kept. Without a valid anchor page the side holds nothing. -/
def State.replaySide (s : State) (k : Nat) (x : RecoveryRead) (shadow : Option Shadow) (adopt : Bool) : State :=
  (s.ensureSide k).onSide k (fun t =>
    let u : State := { t with
      ftl := { Ftl.cold with side := k, snapCmd := t.ftl.snapCmd, keyQuery := t.ftl.keyQuery },
      rdn := { Rdn.cold with command := t.rdn.command } }
    match u.anchorFound x, shadow with
    | some a, some h => u.replay x ((journalsOn x a).withShadow h) adopt
    | some a, none => u.replay x (journalsOn x a).source adopt
    | none, _ => u)

/-- The journal records of a side on flash after the last one in its shadow (R407 step 3). -/
def State.tailRecords (s : State) (k : Nat) (x : RecoveryRead) (shadow : Option Shadow) : Nat :=
  let count (t : State) : Nat := match t.anchorFound x with
    | some a => ((journalsOn x a).records.filter (fun r => shadow.all (fun h => decide (r.1 > h.upto)))).length
    | none => 0
  count { s with ftl := { s.ftl with side := k } }

/-- RECOVERY_REPLAY (R175): in Recovery, FTL restores a side's tables from what it has read of the modules, the home side's
first; after the last side, the usage of every loaded data key (R126). -/
def execRecoveryReplay (x : RecoveryRead) (s : State) : Host.Outcome State Fault Refusal :=
  .next (if s.lcs.mode ≠ .recovery ∨ s.rfl.recover = 0 then s
    else
      let k := if s.rfl.recover.testBit s.tck.headSlot then s.tck.headSlot else 1 - s.tck.headSlot
      let s1 := s.replaySide k x none false
      let left := s.rfl.recover - 2 ^ k
      let s2 : State := { s1 with rfl := { s1.rfl with recover := left } }
      if left = 0 then
        (((Tab.keys s2.cip.data).foldl State.restoreFromJournals s2).put F.FTL.STATUS.RECOVERY 7).event Src.FTL 0
      else s2)

end Sys2Proof.Machine
end

