-- ==== Sys2Proof/Machine/Deltas.lean ====
section
/-!
DEFINITION. Machine/Deltas.lean: the tick delta (chapter 11, R386 to R391; chapter 12, R431): its sealing in step 2 of a
boundary, its transmission and retention, and the checkpoints that restart a shadow.
-/

namespace Sys2Proof.Machine

/-! The bytes of a delta (R386, R387). -/

/-- A CTRL message. -/
def ctrlBytes (c : Ctrl) : List Byte :=
  beBytes 1 c.code ++ beBytes 1 c.side ++ beBytes 2 c.cause ++ beBytes 4 0 ++ beBytes 8 c.jseq ++ beBytes 8 c.sseq ++
    beBytes 6 c.root ++ beBytes 2 0

/-- A VC entry. -/
def vcEntryBytes (e : VcEntry) : List Byte :=
  beBytes 2 e.vc ++ beBytes 1 e.state ++ beBytes 1 e.op ++ beBytes 1 e.cause ++ beBytes 1 0 ++ beBytes 2 e.vgen ++
    beBytes 2 e.target ++ beBytes 2 e.qgen ++ beBytes 4 0

/-- A KEYRES entry. -/
def keyResBytes (k : KeyRes) : List Byte := beBytes 4 k.keyId ++ beBytes 4 k.own ++ beBytes 2 k.slot ++ beBytes 6 0

/-- A PTR section. -/
def ptrBytes (p : Ptr) : List Byte :=
  beBytes 8 p.jseq ++ beBytes 8 p.doneSeq ++ beBytes 8 p.sseq ++ beBytes 8 p.anchorSeq ++ beBytes 8 p.upto ++
    beBytes 6 p.root ++ beBytes 2 0 ++ beBytes 8 p.writeSeq ++ beBytes 8 0

/-- A bin of a PACER section (R431). -/
def pacerBinBytes (b : PacerBin) : List Byte := beBytes 4 (b.valid.toNat * 2 ^ 31 + b.m)

/-- A section with its header; a section with an empty body is not sent. -/
def sectionBytes (kind side : Nat) (body : List Byte) : List Byte :=
  if body = [] then [] else beBytes 1 kind ++ beBytes 1 side ++ beBytes 2 0 ++ beBytes 4 body.length ++ body

/-- The sections of a delta, in order: those that concern a side apart for each. -/
def Delta.sections (d : Delta) (head : Nat) : List (List Byte) :=
  let perSide (kind : Nat) (f : Nat → List Byte) : List (List Byte) := [sectionBytes kind 0 (f 0), sectionBytes kind 1 (f 1)]
  (perSide 1 (fun k => (d.ctrl.filter (fun c => c.side = k)).flatMap ctrlBytes) ++
    [sectionBytes 2 head (d.vcs.flatMap vcEntryBytes)] ++
    perSide 3 (fun k => (d.sj.filter (fun r => r.side = k)).flatMap SjCopy.bytes) ++
    [sectionBytes 4 head (d.keyres.flatMap keyResBytes)] ++
    perSide 5 (fun k => (d.ptr.filter (fun p => p.side = k)).flatMap ptrBytes) ++
    perSide 6 (fun k => (d.mapd.filter (fun r => r.1 = k)).flatMap (fun r => r.2.2)) ++
    [sectionBytes 7 head (if d.pacer = [] then [] else d.pacerHead ++ d.pacer.flatMap pacerBinBytes)]).filter (fun x => x ≠ [])

/-- The bytes of a delta. -/
def Delta.encode (d : Delta) (head : Nat) : List Byte :=
  let secs := d.sections head
  let body := secs.flatten
  let front := beBytes 2 0x5444 ++ beBytes 1 1 ++ beBytes 1 head ++ beBytes 4 (32 + body.length) ++ beBytes 8 d.tick ++
    beBytes 4 d.epoch ++ beBytes 2 secs.length ++ beBytes 6 0
  front ++ beBytes 4 (crc32c (front ++ beBytes 4 0 ++ body)) ++ body

/-! A delta as it is read (R7, R386, R387, R431). -/

/-- A tick delta that has been read: its sections, and the map journal records with the side of each. -/
structure DeltaIn where
  tick : Nat
  ctrl : List Ctrl
  vcs : List VcEntry
  sj : List SjCopy
  keyres : List KeyRes
  ptr : List Ptr
  mapd : List (Nat × ReadRec)
  pacer : List PacerBin
  deriving DecidableEq, Repr

/-- A run of records cut apart, each of the length that a function reads from its beginning. -/
def cutRun (len : List Byte → Nat) : Nat → List Byte → Option (List (List Byte))
  | 0, b => if b = [] then some [] else none
  | fuel + 1, b =>
    if b = [] then some []
    else if len b = 0 ∨ b.length < len b then none
    else (cutRun len fuel (b.drop (len b))).map (b.take (len b) :: ·)

/-- An entry read by the layout it is written in: its bytes must be those that the layout gives (R7). -/
def exactly {α : Type} (write : α → List Byte) (b : List Byte) (a : α) : Option α := if write a = b then some a else none

/-- A CTRL message as it is read; its CODE is one of the table. -/
def readCtrl (b : List Byte) : Option Ctrl :=
  let c : Ctrl := { code := beField b 0 1, side := beField b 1 1, cause := beField b 2 2, jseq := beField b 8 8, sseq := beField b 16 8, root := beField b 24 6 }
  if 1 ≤ c.code ∧ c.code ≤ 4 ∧ c.side < 2 then exactly ctrlBytes b c else none

/-- A VC entry as it is read. -/
def readVcEntry (b : List Byte) : Option VcEntry :=
  let e : VcEntry := { vc := beField b 0 2, state := beField b 2 1, op := beField b 3 1, cause := beField b 4 1, vgen := beField b 6 2,
                       target := beField b 8 2, qgen := beField b 10 2 }
  if e.op ≤ 4 then exactly vcEntryBytes b e else none

/-- A KEYRES entry as it is read. -/
def readKeyRes (b : List Byte) : Option KeyRes :=
  exactly keyResBytes b { keyId := beField b 0 4, slot := beField b 8 2, own := beField b 4 4, peer := 0 }

/-- A PTR section as it is read. -/
def readPtr (side : Nat) (b : List Byte) : Option Ptr :=
  exactly ptrBytes b { side := side, jseq := beField b 0 8, doneSeq := beField b 8 8, sseq := beField b 16 8, anchorSeq := beField b 24 8,
                       upto := beField b 32 8, root := beField b 40 6, writeSeq := beField b 48 8 }

/-- A bin of a PACER section as it is read. -/
def readPacerBin (bin : Nat) (b : List Byte) : Option PacerBin :=
  exactly pacerBinBytes b { bin := bin, valid := beField b 0 4 / 2 ^ 31 == 1, m := beField b 0 4 % 2 ^ 20 }

/-- The bins of a PACER section (R431). -/
def readPacer (b : List Byte) : Option (List PacerBin) :=
  let n := beField b 14 2
  if b.length = 48 + 4 * n ∧ n ≤ 16 ∧ beField b 10 1 < 4 ∧ beField b 11 1 = 0 then
    (List.range n).mapM (fun k => readPacerBin (beField b 12 2 + k) ((b.drop (48 + 4 * k)).take 4))
  else none

/-- One section joined to what has been read before it. -/
def DeltaIn.add (d : DeltaIn) (kind side : Nat) (body : List Byte) : Option DeltaIn :=
  let entries (k : Nat) : Option (List (List Byte)) := cutRun (fun _ => k) body.length body
  match kind with
  | 1 => ((entries 32).bind (·.mapM readCtrl)).map (fun l => { d with ctrl := d.ctrl ++ l })
  | 2 => ((entries 16).bind (·.mapM readVcEntry)).map (fun l => { d with vcs := d.vcs ++ l })
  | 3 => ((cutRun (fun b => leField b 4 2) body.length body).bind (·.mapM (fun b => (readSj b).map (fun r =>
      ({ side := side, sseq := r.sseq, bytes := b } : SjCopy))))).map (fun l => { d with sj := d.sj ++ l })
  | 4 => ((entries 16).bind (·.mapM readKeyRes)).map (fun l => { d with keyres := d.keyres ++ l })
  | 5 => (readPtr side body).map (fun p => { d with ptr := d.ptr ++ [p] })
  | 6 => ((cutRun (fun b => leField b 4 4) body.length body).bind (·.mapM readRecord)).map (fun l =>
      { d with mapd := d.mapd ++ l.map (fun r => (side, r)) })
  | 7 => (readPacer body).map (fun l => { d with pacer := d.pacer ++ l })
  | _ => none

/-- The sections of a delta, as many as NSECT says. -/
def readSections : Nat → List Byte → DeltaIn → Option DeltaIn
  | 0, b, d => if b = [] then some d else none
  | n + 1, b, d =>
    let len := beField b 4 4
    if b.length < 8 + len ∨ beField b 1 1 > 1 ∨ beField b 2 2 ≠ 0 then none
    else (d.add (beField b 0 1) (beField b 1 1) ((b.drop 8).take len)).bind (readSections n (b.drop (8 + len)))

/-- A delta is read when MAGIC, VERSION, LEN and CRC check and nothing reserved is set (R7, R386). -/
def readDelta (b : List Byte) : Option DeltaIn :=
  if beField b 0 2 = 0x5444 ∧ beField b 2 1 = 1 ∧ beField b 3 1 < 2 ∧ beField b 4 4 = b.length ∧ b.length ≤ 262144 ∧ beField b 22 6 = 0 ∧
      crc32c (b.take 28 ++ leBytes 4 0 ++ b.drop 32) = beField b 28 4 then
    readSections (beField b 20 2) (b.drop 32)
      { tick := beField b 8 8, ctrl := [], vcs := [], sj := [], keyres := [], ptr := [], mapd := [], pacer := [] }
  else none

/-! What a delta carries (R387, R388). -/

/-- The sides held whose tables the head keeps, and the state as each side sees it. -/
def State.heldViews (s : State) : List (Nat × State) :=
  [0, 1].filterMap (fun k =>
    if !s.wit.own.testBit k then none
    else if s.ftl.side = k then some (k, s)
    else if s.other.any (fun o => o.1.side == k) then some (k, s.swapSides) else none)

/-- The loaded data slots from a slot on, in rotating order. -/
def State.keyRotation (s : State) : List (Nat × KeySlot) :=
  s.cip.data.filter (fun p => decide (p.1 ≥ s.rfl.keyTurn)) ++ s.cip.data.filter (fun p => decide (p.1 < s.rfl.keyTurn))

/-- A KEYRES entry of a slot. -/
def keyResOf (p : Nat × KeySlot) : KeyRes := { keyId := p.2.keyId, slot := p.1, own := p.2.resOwn, peer := p.2.resPeer }

/-- RES_OWN of a slot changed since it was last sent. -/
def State.keyChanged (s : State) (p : Nat × KeySlot) : Bool := Tab.getD s.rfl.keySent p.1 0 != p.2.resOwn

/-- KEYRES: every data key whose RES_OWN changed, and 64 further slots in rotation (R388). -/
def State.keyResSection (s : State) : List (Nat × KeySlot) × List (Nat × KeySlot) :=
  (s.cip.data.filter s.keyChanged, (s.keyRotation.filter (fun p => !s.keyChanged p)).take 64)

/-- PTR of a side (R387). -/
def State.ptrOf (s : State) (side : Nat) : Ptr := {
  side := side, jseq := s.ftl.jseq, doneSeq := s.doneSeq, sseq := s.rdn.sseq, anchorSeq := s.ftl.anchorSeq,
  upto := s.ftl.lastCkpt.1, root := s.ftl.lastCkpt.2, writeSeq := s.rdx.writeSeq }

/-- The stripe-journal records of a side not yet in a delta. -/
def State.sjSection (s : State) (side : Nat) : List SjCopy :=
  (s.rdn.journal.filter (fun r => r.delta.isNone)).map (fun r => { side := side, sseq := r.sseq, bytes := r.encode s.tck.headSlot (s.sjBody r) })

/-- A record as the peer receives it: one that R68 superseded names nothing. -/
def JRec.forDelta (r : JRec) : JRec := if r.superseded then { r with items := [] } else r

/-- A record qualifies (R66): every chunk it names has both copies verified. -/
def State.qualifies (s : State) (r : JRec) : Bool :=
  r.delta.isNone && (r.forDelta.items.flatMap JItem.names).all s.chunkVerified

/-- Records placed in the order in which they qualified: tick, side, record. -/
def insertQualified (x : Nat × Nat × JRec) : List (Nat × Nat × JRec) → List (Nat × Nat × JRec)
  | [] => [x]
  | y :: ys => if x.1 < y.1 then x :: y :: ys else y :: insertQualified x ys

/-- The records that qualify, in order (R66, R67). -/
def State.qualifiedRecords (s : State) (tick : Nat) : List (Nat × Nat × JRec) :=
  (s.heldViews.flatMap (fun v => (v.2.ftl.journal.filter v.2.qualifies).map (fun r => (r.qualified.getD tick, v.1, r)))).foldl
    (fun l x => insertQualified x l) []

/-- The records that the room left takes, one whole record at a time (R67, R388); the first of a side brings its section's
header of 8 bytes (R386). -/
def takeMapd (room : Nat) (opened : List Nat) : List (Nat × Nat × JRec) → List (Nat × Nat × JRec)
  | [] => []
  | x :: xs =>
    let need := recordBytes x.2.2.forDelta.items + (if opened.contains x.2.1 then 0 else 8)
    if need ≤ room then x :: takeMapd (room - need) (x.2.1 :: opened) xs else []

/-- The bins of the next PACER section (R431): the next 16 in cyclic order. -/
def State.pacerSection (s : State) : List PacerBin :=
  let n := s.fld F.PCR.RC_CTL.BINS
  if n = 0 then []
  else (List.range (min 16 n)).map (fun i =>
    let b := (s.pcr.nextCarry + i) % n
    let v := Tab.getD s.pcr.own b (false, 0)
    { bin := b, valid := v.1, m := v.2 })

/-- The first 48 bytes of a PACER section (R431). -/
def State.pacerHeader (s : State) (first count : Nat) : List Byte :=
  beBytes 4 s.pcr.u ++ beBytes 4 (unsignedOf 32 s.pcr.integ) ++ beBytes 2 (s.fld F.PCR.TOD.BIN) ++
    beBytes 1 (s.pcr.fallback.toNat + 2 * (decide (s.wit.own = 3)).toNat) ++ beBytes 1 0 ++ beBytes 2 first ++ beBytes 2 count ++
    s.pcr.classes.flatMap (fun c => beBytes 4 c.share)

/-! Sealing (R24 step 2, R66, R67, R389, R405). -/

/-- Modes in which a head seals tick deltas. -/
def Mode.seals (m : Mode) : Bool := m.serving || m == .join || m == .recovery || m == .eclipse

/-- Records and stripe-journal records that entered the delta: handed to RFL (R389); the others that qualified keep their
tick. -/
def State.markSealed (s : State) (tick : Nat) (taken : List (Nat × Nat)) : State :=
  let mark (side : Nat) (t : State) (r : JRec) : JRec :=
    if taken.contains (side, r.jseq) then { r with delta := some tick, handed := true, qualified := some (r.qualified.getD tick) }
    else if t.qualifies r then { r with qualified := some (r.qualified.getD tick) } else r
  let sj (r : SjRec) : SjRec := if r.delta.isNone then { r with delta := some tick, handed := true } else r
  s.heldViews.foldl (fun (u : State) v => u.onSide v.1 (fun t =>
    { t with
      ftl := { t.ftl with journal := t.ftl.journal.map (mark v.1 t) }, rdn := { t.rdn with journal := t.rdn.journal.map sj } })) s

/-- The delta of a tick is sealed and handed to RFL. A head in Eclipse sends only CTRL and VC. -/
def State.sealAt (s : State) (tick : Nat) : State :=
  if !s.lcs.mode.seals ∨ s.rfl.deltas.any (fun d => d.tick == tick) then s
  else
    let full := s.lcs.mode ≠ .eclipse
    let views := if full then s.heldViews else []
    let (changed, further) := if full then s.keyResSection else ([], [])
    let d0 : Delta := {
      tick := tick, epoch := s.frnEpoch, ctrl := s.rfl.ctrl, vcs := s.rfl.vcs, sj := views.flatMap (fun v => v.2.sjSection v.1),
      keyres := (changed ++ further).map keyResOf, ptr := views.map (fun v => v.2.ptrOf v.1), mapd := [], pacer := [],
      pacerHead := [], len := 0, sealedAt := s.now, lseq := none }
    let used := 32 + (d0.sections s.tck.headSlot).flatten.length
    let ready := if full then s.qualifiedRecords tick else []
    let taken := takeMapd (262144 - used) [] ready
    let d1 : Delta := { d0 with mapd := taken.map (fun x => (x.2.1, x.2.2.jseq, x.2.2.forDelta.encode)) }
    let used1 := 32 + (d1.sections s.tck.headSlot).flatten.length
    let bins := if full ∧ used1 + 8 + 48 + 64 ≤ 262144 then s.pacerSection else []
    let d2 : Delta := { d1 with pacer := bins, pacerHead := s.pacerHeader s.pcr.nextCarry bins.length }
    let len := 32 + (d2.sections s.tck.headSlot).flatten.length
    let carry := (ready.drop taken.length).foldl (fun t x => t + recordBytes x.2.2.forDelta.items) 0
    let s1 := if full then s.markSealed tick (taken.map (fun x => (x.2.1, x.2.2.jseq))) else s
    let turn := match further.reverse.head? with | some p => p.1 + 1 | none => s.rfl.keyTurn
    let s2 : State := { s1 with
      rfl := { s1.rfl with
        ctrl := [], vcs := [], deltas := s1.rfl.deltas ++ [{ d2 with len := len }], keyTurn := turn,
        keySent := (changed ++ further).foldl (fun m p => Tab.insert m p.1 p.2.resOwn) s1.rfl.keySent },
      pcr := { s1.pcr with nextCarry := if bins = [] then s1.pcr.nextCarry else (s1.pcr.nextCarry + bins.length) % max 1 (s1.fld F.PCR.RC_CTL.BINS) } }
    let s3 := if carry = 0 then s2 else s2.count F.RFL.STAT.COUNT 2 carry
    (s3.put F.RFL.DELTA_STATUS.LAST_LEN len).put F.RFL.DELTA_STATUS.CARRY carry

/-- Step 2 of a boundary: the delta of the tick that has ended is sealed, unless a Hand-Back has sealed it (R409). -/
def State.sealDelta (s : State) : State := s.sealAt (s.now - 1)

/-! Transmission (R381, R385, R389, R391). -/

/-- The peer receives tick deltas (R389): it is not lost, and is in a mode that takes them; in Join, once the shadow phase
has begun. -/
def State.peerTakesDeltas (s : State) : Bool :=
  !s.rfl.lost && s.rfl.mark.any (fun m => m.mode != 0 && m.mode != 1 && m.mode != 2 && m.mode != 10 && m.mode != 11 &&
    (m.mode != 4 || s.rfl.servesJoin))

/-- The connection of the fallback, when it is in use (R385): KIND 4, ready, while the Reflect link is not UP. -/
def State.fallbackConn (s : State) : Option (Nat × Conn) :=
  let n := s.fld F.RFL.CTL.FB_CONN
  if s.flag F.RFL.CTL.FB_EN && s.reflect != .up then
    (s.ready n).bind (fun c => if c.kind = 4 then some (n, c) else none)
  else none

/-- A delta is sent on the link, or as one PUT on the fallback. -/
def State.sendDelta (s : State) (d : Delta) : State :=
  let bytes := d.encode s.tck.headSlot
  let note (t : State) (l : Option Nat) : State :=
    ({ t with rfl := { t.rfl with deltas := t.rfl.deltas.map (fun x => if x.tick = d.tick then { x with lseq := l } else x) } } : State).count
      F.RFL.STAT.COUNT 0
  if s.reflect = .up then
    let frames := reflectFrames bytes.length
    note (s.reflectSend frames (.delta d.tick bytes)) (some ((s.rfl.txNext + frames + 65535) % 65536))
  else match s.fallbackConn with
    | some (n, c) => note (s.sprayMessage n c 1 (.delta d.tick) (s.fld F.RFL.FB_RKEY.RKEY) 0 0 none bytes) none
    | none => s

/-- The deltas not yet sent go out in order; on the fallback, one already in a message is not sent again. -/
def State.sendDeltas (s : State) : State :=
  if !s.peerTakesDeltas then s
  else
    let inMessage (t : Nat) : Bool := match s.fallbackConn with
      | some (_, c) => c.msgs.any (fun m => m.what == .delta t)
      | none => false
    (s.rfl.deltas.filter (fun d => d.lseq.isNone && !inMessage d.tick)).foldl State.sendDelta s

/-- DELTA_KEEP_EXPIRY (R391): a sealed delta is not acknowledged within KEEP ticks: it is dropped, and a checkpoint is owed
for each side the head holds. -/
def execDeltaKeepExpiry (tick : Nat) (s : State) : Host.Outcome State Fault Refusal :=
  .next (match s.rfl.deltas.find? (fun d => d.tick = tick) with
    | none => s
    | some d =>
      if s.now < d.sealedAt + s.fld F.RFL.LOSS_CTL.KEEP then s
      else { s with rfl := { s.rfl with
        deltas := s.rfl.deltas.filter (fun x => x.tick ≠ tick),
        baseDue := ([0, 1].filter s.wit.own.testBit).map (fun k => (k, none)) } })

/-- A checkpoint owed begins while the peer takes deltas; once it is durable, CTRL BASE is sent for its side (R391). -/
def State.serveBase (s : State) : State :=
  if !s.peerTakesDeltas then s
  else s.rfl.baseDue.foldl (fun (t : State) e =>
    let drop (u : State) : State := { u with rfl := { u.rfl with baseDue := u.rfl.baseDue.erase e } }
    match (t.heldViews.find? (fun v => v.1 = e.1)) with
    | none => drop t
    | some (k, v) =>
      match e.2 with
      | none =>
        if v.ftl.ckpt.isSome then t
        else
          let t1 := t.onSide k (fun u => { u with ftl := { u.ftl with ckpt := some u.ftl.jseq } })
          { t1 with rfl := { t1.rfl with baseDue := (k, some v.ftl.jseq) :: (t1.rfl.baseDue.erase e) } }
      | some upto =>
        if v.ftl.lastCkpt.1 = upto ∧ v.ftl.ckpt ≠ some upto then
          let c : Ctrl := { code := 4, side := k, cause := 0, jseq := upto, sseq := v.rdn.sseq, root := v.ftl.lastCkpt.2 }
          let t1 := drop t
          { t1 with rfl := { t1.rfl with ctrl := t1.rfl.ctrl ++ [c] } }
        else t) s

end Sys2Proof.Machine
end

