-- ==== Sys2Proof/Machine/Ownership.lean ====
section
/-!
DEFINITION. Machine/Ownership.lean: how sides pass between heads (chapter 11): requests and grants, Eclipse, adoption and
Hand-Back; the entry to a mode (chapter 14, R455).
-/

namespace Sys2Proof.Machine

/-! Modes and sides. -/

/-- The head enters a mode (R455), with its event record (R500). At the end of a mode in which EVR holds its records, it
flushes them (R503). Every entry to Recovery marks the regions of the Sporebank cold (R62). -/
def State.enterMode (s : State) (m : Mode) : State :=
  let code := 0x200 + m.code
  let s1 := ({ s with lcs := { s.lcs with mode := m } } : State).record Src.LCS (Config.noticeEvent Src.LCS code).toNat code
    s.lcs.mode.code 0 0
  let s1 : State := if m = .recovery then { s1 with rdx := s1.rdx.allCold } else s1
  if s.lcs.mode.holdsRecords then { s1 with evr := { s1.evr with flushing := true } } else s1

/-- The sides held change: the dies driven follow (R376). -/
def State.setOwn (s : State) (own : Nat) : State :=
  if s.wit.own = own then s
  else
    let s1 : State := { s with wit := { s.wit with own := own } }
    s1.frn.ports.foldl (fun (t : State) p => match p.2.desc with | some d => t.showDesc p.1 d | none => t) s1

/-- The request of the head slots (R400): 0 none, 1 START, 2 CLAIM, 3 RELEASE. -/
def State.setRequest (s : State) (req mask : Nat) : State :=
  { s with wit := { s.wit with req := if mask = 0 then 0 else req, mask := if req = 0 then 0 else mask } }

/-- The sides of a mask that this head does not hold. -/
def State.notOwn (s : State) (mask : Nat) : Nat := mask % 4 &&& (3 ^^^ s.wit.own % 4)

/-- The head may send CLAIM: in a serving mode, or in Join once its grant is acted on (R415, R457). -/
def State.mayClaim (s : State) : Bool :=
  s.lcs.mode == .dualActive || s.lcs.mode == .soloActive || s.lcs.mode == .takeOver || s.lcs.mode == .restructure ||
    (s.lcs.mode == .join && s.wit.own != 0)

/-- CLAIM for sides it does not hold (R400); a START that stands goes first (R411). -/
def State.claim (s : State) (mask : Nat) : State :=
  let m := s.notOwn mask
  if !s.mayClaim ∨ m = 0 ∨ s.wit.req = 1 then s
  else s.setRequest 2 (if s.wit.req = 2 then s.wit.mask ||| m else m)

/-- The sides the peer last reported holding. -/
def State.peerOwn (s : State) : Nat := (s.rfl.mark.map Mark.own).getD 0

/-- The sides that the peer has released and this head is to claim (R410). -/
def State.releasedSides (s : State) : Nat := s.rfl.incoming &&& s.rfl.released

/-- A witness link is valid (R398). -/
def State.linkValid (s : State) : Bool := s.wit.links.any UmbraLink.valid

/-- The head's own slot as a side mask: its home side. -/
def State.home (s : State) : Nat := 2 ^ s.tck.headSlot

/-- START is requested where it waits for a valid link (R400, R406, R460): after Self-Test for the home side, once with
NO_WITNESS while no link is valid, and not while the lever is open (R539); after a lease fence for the sides held before. -/
def State.makeRequests (s : State) : State :=
  if s.lcs.mode = .selfTest ∧ s.lcs.stPhase ≥ 5 then
    if s.flag F.BAY.LEVER.OPEN ∧ s.wit.req ≠ 1 then s
    else if s.linkValid then s.setRequest 1 s.home
    else if s.lcs.stPhase = 5 then ({ s with lcs := { s.lcs with stPhase := 6 } } : State).event Src.LCS 3
    else s
  else if s.lcs.mode = .eclipse ∧ s.wit.heldBefore ≠ 0 ∧ s.linkValid then s.setRequest 1 s.wit.heldBefore
  else s

/-! Eclipse (R405, R406, R517). -/

/-- The code of WIT.STATUS.FENCE_SRC. -/
def FenceSrc.code : FenceSrc → Nat
  | .witness => 0
  | .lease => 1
  | .module => 2
  | .handBackOrFault => 3

/-- The head enters Eclipse: epoch 0, no side held, grants of the pacer cancelled. -/
def State.enterEclipse (s : State) (src : FenceSrc) : State :=
  let before := if src = .lease then s.wit.own else 0
  let s1 := (s.setOwn 0).setFrnEpoch 0
  let s2 : State := { s1 with
    wit := { s1.wit with heldBefore := before, req := 0, mask := 0, grant := none },
    rfl := { s1.rfl with adopt := none, handBack := none, unchecked := [], recover := 0, servesJoin := false },
    pcr := { s1.pcr with classes := s1.pcr.classes.map (fun c => { c with grant := 0 }) },
    flt := { s1.flt with fatalHandBack := false } }
  let s3 := if s.lcs.mode = .join then s2.put F.RFL.JOIN_STATUS.PHASE 0 else s2
  (s3.put F.WIT.STATUS.FENCE_SRC src.code).enterMode .eclipse

/-- RELEASE of sides for the next delta, with the last JSEQ and SSEQ formed (R409, R517). -/
def State.tellRelease (s : State) (sides : Nat) : State :=
  let msgs := (s.heldViews.filter (fun v => sides.testBit v.1)).map (fun v =>
    ({ code := 2, side := v.1, cause := 0, jseq := v.2.ftl.jseq, sseq := v.2.rdn.sseq, root := 0 } : Ctrl))
  { s with rfl := { s.rfl with ctrl := s.rfl.ctrl ++ msgs } }

/-- A self-fence (R517): RELEASE and REQ RELEASE for every side held. -/
def State.selfFence (s : State) : State :=
  let own := s.wit.own
  let s1 := ((s.record Src.FLT 6 0x512 (Src.FLT * 65536) 0 0).setEventBit Src.FLT 7).count F.FLT.STAT.COUNT 7
  let s2 : State := { s1 with flt := { s1.flt with selfFenced := true } }
  ((s2.tellRelease own).enterEclipse .handBackOrFault).setRequest 3 own

/-- Modes in which an epoch loss is acted on (R401, R456). -/
def Mode.fences (m : Mode) : Bool := m.serving || m == .recovery || m == .join

/-- An epoch loss, or a self-fence, at rank 2 (R33, R401, R405, R517): true when it is acted on. -/
def State.takeEpochLoss (s : State) (src : FenceSrc) : State × Bool :=
  if src = .handBackOrFault then
    (if s.lcs.mode.fences ∨ s.lcs.mode = .selfTest then (s.selfFence, true) else (s, false))
  else
    let s1 := s.event Src.WIT 4 0 src.code
    if s.lcs.mode.fences then ((s1.count F.WIT.STAT.COUNT 3).enterEclipse src, true) else (s1, false)

/-! Adoption (R407, R408). -/

/-- Step 1 of R407 at the grant boundary: the sides are held under the new epoch, every driven die is fenced, and step 2
waits. -/
def State.adoptSides (s : State) (sides own epoch : Nat) : State :=
  let s1 := (s.setOwn own).setFrnEpoch epoch
  let s2 := [0, 1].foldl (fun (t : State) k => if sides.testBit k then t.ensureSide k else t) s1
  let all := match s2.rfl.adopt with | some a => (if a.step < 5 then a.sides ||| sides else sides) | none => sides
  let a : Adopt := match s2.rfl.adopt with
    | some a => if a.step < 5 then { a with sides := all, todo := a.todo ||| sides, step := 2 } else ⟨sides, sides, s.now, 2, 0⟩
    | none => ⟨sides, sides, s.now, 2, 0⟩
  let s3 : State := { s2 with rfl := { s2.rfl with adopt := some a } }
  ((s3.put F.RFL.ADOPT_STATUS.SIDES all).put F.RFL.ADOPT_STATUS.STEP 2).put F.RFL.ADOPT_STATUS.TAIL a.tail

/-- ADOPT_FENCES_DONE (R407 step 2): every FENCE on every UP port has completed OK. -/
def execAdoptFencesDone (s : State) : Host.Outcome State Fault Refusal :=
  .next (match s.rfl.adopt with
    | some a =>
      if a.step = 2 ∧ (Tab.keys s.frn.ports).all s.portFenced then
        ({ s with rfl := { s.rfl with adopt := some { a with step := 3 } } } : State).put F.RFL.ADOPT_STATUS.STEP 3
      else s
    | none => s)

/-- The shadow of a side, when it is complete (R391). -/
def State.wholeShadow (s : State) (k : Nat) : Option Shadow := (Tab.find s.rfl.shadows k).filter Shadow.complete

/-- Writes of a side that this head will never complete (R69, R409): they leave the write path. -/
def State.dropWrites (s : State) (k : Nat) : State :=
  let gone := (s.cmf.cmds.filter (fun p => p.2.isWrite && p.2.toPeer.isNone && p.2.open_ && s.sideOf p.2 == k)).map Prod.fst
  { s with
    cmf := { s.cmf with cmds := s.cmf.cmds.filter (fun p => p.1 ∉ gone) },
    rdx := { s.rdx with chunks := s.rdx.chunks.filter (fun p => !(p.2.cmd.any (fun c => gone.contains c)) && !(p.2.cmd.isNone && p.2.addr / 2 ^ 47 == k)) } }

/-- Step 4 of R407 ends: the sides are served. Sides still to be claimed are claimed now (R411, R596). -/
def State.adoptDone (s : State) (a : Adopt) : State :=
  let open_ := s.heldViews.flatMap (fun v =>
    if a.sides.testBit v.1 then (v.2.ftl.stripes.filter (fun p => p.2.state = 1)).map (fun p => v.1 * 2 ^ 20 + p.1) else [])
  let joins := s.lcs.mode = .join
  let s1 : State := { s with rfl := { s.rfl with
    adopt := some { a with todo := 0, step := 5 }, unchecked := s.rfl.unchecked ++ open_,
    incoming := s.notOwn s.rfl.incoming, released := s.notOwn s.rfl.released } }
  let s2 := ((s1.put F.RFL.ADOPT_STATUS.TICKS (min (s.now - a.since) 65535)).put F.RFL.ADOPT_STATUS.STEP 5).event Src.RFL 6 0 a.sides
  let s3 := s2.count F.RFL.STAT.COUNT 8
  let s4 := if joins then (s3.put F.RFL.JOIN_STATUS.PHASE 5).enterMode .dualActive
    else if s.lcs.mode = .restructure then { s3 with lcs := { s3.lcs with resumeMode := .soloActive } }
    else if s.lcs.mode = .takeOver then s3.enterMode .soloActive
    else s3
  let s5 := s4.claim (s4.rfl.claimLater ||| s4.releasedSides ||| (if s4.rfl.lost then s4.peerOwn else 0))
  { s5 with rfl := { s5.rfl with claimLater := 0 } }

/-- ADOPT_JOURNAL_READ (R407 steps 3 and 4): a side's journals have been read to their end, and are applied. -/
def execAdoptJournalRead (side : Nat) (x : RecoveryRead) (s : State) : Host.Outcome State Fault Refusal :=
  .next (match s.rfl.adopt with
    | some a =>
      if a.step = 3 ∧ side < 2 ∧ a.todo.testBit side then
        let s1 := (s.dropWrites side).replaySide side x (s.wholeShadow side) true
        let b : Adopt := { a with todo := a.todo - 2 ^ side, tail := a.tail + s.tailRecords side x (s.wholeShadow side) }
        let s2 := ({ s1 with rfl := { s1.rfl with adopt := some b, shadows := Tab.erase s1.rfl.shadows side } } : State).put
          F.RFL.ADOPT_STATUS.TAIL b.tail
        if b.todo = 0 then s2.adoptDone b else s2
      else s
    | none => s)

/-- STRIPE_CHECK (R407 step 5, R222): within the pacer's grant, an open stripe of an adopted side is checked by the pages read of
it: its rows that are accepted are durable. -/
def execStripeCheck (side stripe : Nat) (pages : List FlashPage) (s : State) : Host.Outcome State Fault Refusal :=
  let mark := side * 2 ^ 20 + stripe
  .next (if mark ∉ s.rfl.unchecked ∨ !s.granted Cls.mapWork then s
    else
      let s1 := s.onSide side (fun t => t.checkStripe ⟨pages, []⟩ stripe)
      let left := s.rfl.unchecked.erase mark
      let s2 : State := { s1 with rfl := { s1.rfl with unchecked := left } }
      if left = [] then ({ s2 with rfl := { s2.rfl with adopt := none } } : State).put F.RFL.ADOPT_STATUS.STEP 0 else s2)

/-! Grants (R401, R406, R407, R411). -/

/-- A grant acted on at rank 5: Recovery after a START, adoption of the sides added, or a new fence alone. -/
def State.actGrant (s : State) (g : SlotIn) : State :=
  let added := s.notOwn g.own
  let s0 := ((({ s with wit := { s.wit with granted := g.epoch, grant := none, stale := [] } } : State).event Src.WIT 2 0 g.epoch g.own).count
    F.WIT.STAT.COUNT 2).setRequest 0 0
  let recovers : Bool := s.wit.req == 1 && (s.lcs.mode == .selfTest || (s.lcs.mode == .eclipse && s.wit.heldBefore != 0))
  if recovers then
    let s1 := (s0.setOwn g.own).setFrnEpoch g.epoch
    let s2 : State := { s1 with
      wit := { s1.wit with heldBefore := 0 }, rfl := { s1.rfl with recover := g.own }, lcs := { s1.lcs with stPhase := 0 } }
    s2.enterMode .recovery
  else match s.lcs.mode with
    | .join =>
      if added = 0 then s0.setFrnEpoch g.epoch else (s0.adoptSides added g.own g.epoch).put F.RFL.JOIN_STATUS.PHASE 4
    | .handBack =>
      match s.rfl.handBack with
      | some h =>
        if h.abandoned then
          let s1 : State := { s0 with rfl := { s0.rfl with handBack := none }, flt := { s0.flt with fatalHandBack := false } }
          (s1.adoptSides g.own g.own g.epoch).enterMode .takeOver
        else (s0.setOwn g.own).setFrnEpoch g.epoch
      | none => (s0.setOwn g.own).setFrnEpoch g.epoch
    | .restructure =>
      if added = 0 then s0.setFrnEpoch g.epoch
      else
        let s1 := s0.adoptSides added g.own g.epoch
        { s1 with lcs := { s1.lcs with resumeMode := .takeOver } }
    | .dualActive => if added = 0 then s0.setFrnEpoch g.epoch else (s0.adoptSides added g.own g.epoch).enterMode .takeOver
    | .soloActive => if added = 0 then s0.setFrnEpoch g.epoch else (s0.adoptSides added g.own g.epoch).enterMode .takeOver
    | .takeOver => if added = 0 then s0.setFrnEpoch g.epoch else s0.adoptSides added g.own g.epoch
    | .recovery =>
      let s1 := (s0.setOwn g.own).setFrnEpoch g.epoch
      { s1 with rfl := { s1.rfl with recover := s1.rfl.recover ||| added } }
    | _ => { s with wit := { s.wit with grant := none } }

/-- A FENCE that ended STALE (R403): MAX_SEEN rises, START is requested for the sides held, and after three in a row the
module's dies are failed. -/
def State.staleFence (s : State) (r : FrnResult) : State :=
  match r.rsp with
  | some p =>
    if p.status ≠ 5 then s
    else
      let seen := if p.dieEpoch = 0 then (s.frnEpoch + 2 ^ 16) % 2 ^ 32 else p.dieEpoch
      let n := Tab.getD s.wit.stale r.port 0 + 1
      let s1 : State := { s with wit := { s.wit with maxSeen := max s.wit.maxSeen seen, stale := Tab.insert s.wit.stale r.port n } }
      let s2 := ((s1.setRequest 1 s1.wit.own).event Src.WIT 6 r.port).count F.WIT.STAT.COUNT 5
      if n < 3 then s2
      else match (s2.port r.port).desc with
        | some d => ((List.range d.dies).filter d.hasDie).foldl (fun (t : State) die => t.dieFailure r.port die) s2
        | none => s2
  | none => s

/-- The FENCE results that arrived in the tick are taken (R24 step 3). -/
def State.staleResults (s : State) : State :=
  let fences := s.frn.results.filter (fun r => r.cmd.purpose == .fence)
  fences.foldl State.staleFence { s with frn := { s.frn with results := s.frn.results.filter (fun r => r.cmd.purpose != .fence) } }

/-! Hand-Back (R409 to R411). -/

/-- A peer is there to receive. -/
def State.receiver (s : State) : Bool := s.lcs.mode == .dualActive && s.rfl.present

/-- A Hand-Back begins (R409 phase 1): of every side held, or of the peer's home side alone (R414). -/
def State.beginHandBack (s : State) (sides : Nat) (software isReturn : Bool) : State :=
  let h : HandBack := {
    sides := sides, phase := 1, since := s.now, software := software, isReturn := isReturn, receiver := isReturn || s.receiver,
    limit := false, abandoned := false, finalTick := none }
  let msgs := ([0, 1].filter sides.testBit).map (fun k =>
    ({ code := 1, side := k, cause := 0, jseq := 0, sseq := 0, root := 0 } : Ctrl))
  let s1 : State := { s with rfl := { s.rfl with handBack := some h, handBackAt := some s.now, ctrl := s.rfl.ctrl ++ msgs } }
  ((((s1.put F.RFL.HANDBACK_STATUS.PHASE 1).put F.RFL.HANDBACK_STATUS.RESULT 0).putFlag F.RFL.HANDBACK_STATUS.SOURCE software).count
    F.RFL.STAT.COUNT 9).enterMode .handBack

/-- The lever, or START, at rank 4 (R33, R409, R539): true when acted on. -/
def State.takeHandBack (s : State) (software : Bool) : State × Bool :=
  if s.lcs.mode = .dualActive ∨ (s.lcs.mode = .soloActive ∧ !software) then
    (s.beginHandBack s.wit.own software false, true)
  else (s, false)

/-- Drain follows Start at the next boundary (R409). -/
def State.handBackBoundary (s : State) : State :=
  match s.rfl.handBack with
  | some h =>
    if h.phase = 1 ∧ h.since < s.now then
      ({ s with rfl := { s.rfl with handBack := some { h with phase := 2 } } } : State).put F.RFL.HANDBACK_STATUS.PHASE 2
    else s
  | none => s

/-- A command of the sides is in flight, forwarded ones included (R409 phase 2). -/
def State.sidesBusy (s : State) (sides : Nat) : Bool :=
  s.cmf.cmds.any (fun p => p.2.ns.isSome && p.2.toPeer.isNone && sides.testBit (s.sideOf p.2) && p.2.stage != .posted && p.2.stage != .transmitted)

/-- DRAIN_END (R409 phase 2): nothing of the sides is in flight, or DRAIN_MS has elapsed. -/
def execDrainEnd (s : State) : Host.Outcome State Fault Refusal :=
  .next (match s.rfl.handBack with
    | some h =>
      let late := decide (s.now ≥ h.since + s.ticksIn (s.fld F.RFL.HANDBACK_CTL.DRAIN_MS * 1000))
      if h.phase ≤ 2 ∧ h.since < s.now ∧ !h.abandoned ∧ (!s.sidesBusy h.sides ∨ late) then
        ({ s with rfl := { s.rfl with handBack := some { h with phase := 3, limit := s.sidesBusy h.sides } } } : State).put
          F.RFL.HANDBACK_STATUS.PHASE 3
      else s
    | none => s)

/-- HANDBACK_SEAL (R409 phase 3): the final delta is sealed with RELEASE for each side; the sides are released. A return
keeps the head's own side and its epoch, and the head goes on in Solo-Active (R414, R456). -/
def execHandbackSeal (s : State) : Host.Outcome State Fault Refusal :=
  .next (match s.rfl.handBack with
    | some h =>
      if h.phase ≠ 3 ∨ h.finalTick.isSome ∨ h.abandoned then s
      else
        let s1 := (s.tellRelease h.sides).sealAt s.now
        let s2 : State := { s1 with rfl := { s1.rfl with handBack := some { h with finalTick := some s.now } } }
        let left := s.wit.own &&& (3 ^^^ h.sides)
        if h.isReturn then ((s2.setOwn left).setRequest 3 h.sides).enterMode .soloActive
        else ((s2.setOwn 0).setFrnEpoch 0).setRequest 3 h.sides
    | none => s)

/-- HANDBACK_DONE (R409 phase 4): the final delta is acknowledged, or there is no receiver and the boundary after the seal
has come: Eclipse. -/
def execHandbackDone (s : State) : Host.Outcome State Fault Refusal :=
  .next (match s.rfl.handBack with
    | some h =>
      match h.finalTick with
      | some f =>
        if h.isReturn ∨ h.abandoned ∨ !(if h.receiver then decide (s.rfl.acked ≥ f) else decide (s.now > f)) then s
        else
          let result := if !h.receiver then 2 else if h.limit then 3 else 0
          let s1 := ((s.put F.RFL.HANDBACK_STATUS.RESULT result).put F.RFL.HANDBACK_STATUS.PHASE 4).event Src.RFL 4 0 h.sides
          (s1.enterEclipse .handBackOrFault).setRequest 3 h.sides
      | none => s
    | none => s)

/-- A Hand-Back is abandoned (R411): START for the sides held, the lever kept latched as open. -/
def State.abandonHandBack (s : State) (h : HandBack) : State :=
  let sides := s.wit.own ||| h.sides
  let s1 : State := { s with rfl := { s.rfl with handBack := some { h with abandoned := true } } }
  (((s1.put F.RFL.HANDBACK_STATUS.RESULT 1).put F.BAY.LEVER.LATCHED 1).event Src.RFL 5 0 h.sides).setRequest 1 sides

/-- A return ends when the peer's MARK shows the side (R414). -/
def State.endReturn (s : State) : State :=
  match s.rfl.handBack with
  | some h =>
    if h.isReturn ∧ h.finalTick.isSome ∧ h.sides &&& s.peerOwn = h.sides then
      ({ s with rfl := { s.rfl with handBack := none } } : State).put F.RFL.HANDBACK_STATUS.PHASE 0
    else s
  | none => s

end Sys2Proof.Machine
end

