-- ==== Sys2Proof/Machine/Bays.lean ====
section
/-!
DEFINITION. Machine/Bays.lean: the bay chain, the input filters, the events of rank 12, the ejector lever and the LEDs
(chapter 17, R526 to R541), and the junction temperature (R591).
-/

namespace Sys2Proof.Machine

/-! Filters (R532 to R536). -/

/-- The number of a bay's input: 0 presence, 1 attention, 2 latch; 1024 is the power button and 1025 the service button. -/
def bayInput (bay k : Nat) : Nat := bay * 4 + k

/-- An input's filter. -/
def State.filt (s : State) (i : Nat) : Filt := Tab.getD s.bay.inputs i Filt.cold

/-- An input's filter replaced. -/
def State.setFilt (s : State) (i : Nat) (x : Filt) : State :=
  { s with bay := { s.bay with inputs := Tab.insert s.bay.inputs i x } }

/-- Buttons: the attention buttons and the two of the head. -/
def isButton (i : Nat) : Bool := decide (1024 ≤ i) || i % 4 == 1

/-- The bay of an input, or 0x80 for the head panel (R537). -/
def inputUnit (i : Nat) : Nat := if i ≥ 1024 then 0x80 else i / 4

/-- The input number of a record (R537). -/
def inputNumber (i : Nat) : Nat := if i ≥ 1024 then i - 1021 else i % 4

/-- The bay's inputs report nothing: it is quarantined (R536). -/
def State.quarantined (s : State) (bay : Nat) : Bool := s.flag (F.BAY.BAY_STATUS.QUAR.nth bay)

/-- One sample of an input at a panel tick (R532, R533, R535). -/
def State.sampleInput (s : State) (i : Nat) (raw : Bool) : State :=
  let x := s.filt i
  let held := if x.seen then x.held && raw else isButton i && raw
  let moved := x.seen && x.raw != raw
  let changes := (x.changes.filter (fun t => decide (t + s.ticksIn 1000000 > s.now))) ++ (if moved then [s.now] else [])
  let marks := !x.chatter && decide (changes.length > s.fld F.BAY.FILT.CHAT_MAX)
  let value := raw && !held
  let n := if value == x.filtered then 0 else x.count + 1
  let accept := !x.chatter && !marks && decide (n ≥ s.fld F.BAY.FILT.DEBOUNCE)
  let y : Filt := { x with
    raw := raw, seen := true, held := held, changes := changes, chatter := x.chatter || marks
    lastChange := if moved then s.now else x.lastChange
    count := if accept || x.chatter || marks then 0 else n
    filtered := if accept then value else x.filtered
    activeSince := if accept && value then s.now else x.activeSince
    longDone := if accept && value then false else x.longDone }
  let s1 := s.setFilt i y
  let s2 := if marks then (s1.count F.BAY.STAT.COUNT 3).event Src.BAY 5 (inputUnit i) (inputNumber i) else s1
  if !accept then s2
  else
    let s3 := s2.count F.BAY.STAT.COUNT 1
    if i < 1024 ∧ i % 4 = 0 then
      { s3 with bay := { s3.bay with presence := Tab.insert s3.bay.presence (i / 4) (s.now :: (Tab.getD s3.bay.presence (i / 4) []).take 15) } }
    else s3

/-- A button's filtered release, where R537 names no transition for it: only a stuck one is reported (R534). -/
def State.releaseButton (s : State) (i : Nat) : State :=
  let x := s.filt i
  let s1 := s.setFilt i { x with reported := false, stuck := false, due := false, longDone := false }
  if x.stuck then s1.event Src.BAY (if i ≥ 1024 then 3 else 2) (inputUnit i) (inputNumber i) 0 else s1

/-- What waits to be acted on at rank 12 after the samples of a panel tick: a filtered state that differs from the one last
reported, unless the bay is quarantined (R536, R537). -/
def State.markDue (s : State) (i : Nat) : State :=
  let x := s.filt i
  if i < 1024 ∧ s.quarantined (i / 4) then s.setFilt i { x with due := false }
  else if x.filtered == x.reported then s
  else if !isButton i then s.setFilt i { x with due := true }
  else if x.filtered then
    (if i = 1024 then s.setFilt i { x with reported := true } else s.setFilt i { x with due := true })
  else if i = 1024 ∧ !x.longDone ∧ !x.stuck ∧ s.now ≤ x.activeSince + s.ticksIn (s.fld F.BAY.CTL.LONG_S * 1000000) then
    s.setFilt i { x with due := true }
  else s.releaseButton i

/-- The bays of the chain in use. -/
def State.bays (s : State) : Nat := 8 * s.bay.parts

/-- The samples of a panel tick: the last good refresh, and the two buttons of the head. -/
def State.panelSamples (s : State) (pwr svc : Bool) : State :=
  let s1 := match s.bay.sample with
    | some xs =>
      let t := (List.range s.bays).foldl (fun (t : State) b =>
        let v := xs.getD b 0
        ((t.sampleInput (bayInput b 0) (v.testBit 0)).sampleInput (bayInput b 1) (v.testBit 1)).sampleInput (bayInput b 2)
          (v.testBit 2)) s
      { t with bay := { t.bay with sample := none } }
    | none => s
  let s2 := (s1.sampleInput 1024 pwr).sampleInput 1025 svc
  (1024 :: 1025 :: (List.range (4 * s2.bays)).filter (fun i => i % 4 ≠ 3)).foldl State.markDue s2

/-! LEDs (R540, R541). -/

/-- Panel ticks elapsed. -/
def State.panelCount (s : State) : Nat := s.now / 512

/-- The blinks: on in the even periods of the panel tick count (assumption 44). -/
def State.fastBlink (s : State) : Bool := s.panelCount / 128 % 2 == 0
def State.slowBlink (s : State) : Bool := s.panelCount / 512 % 2 == 0

/-- The stripes of either side with a member on a module (RDN.MOD_STATE.STRIPES). -/
def State.allStripesOn (s : State) (n : Nat) : Nat :=
  (s.ftl.stripes.filter (fun p => p.2.members.any (fun m => m.module == n || m.repl.any (fun r => r.1 == n)))).length +
    (match s.other with
      | some (f, _) => (f.stripes.filter (fun p => p.2.members.any (fun m => m.module == n || m.repl.any (fun r => r.1 == n)))).length
      | none => 0)

/-- The outputs of a bay (R540): bit 2 LOCATE, 1 FAULT, 0 ACTIVITY. -/
def State.bayLeds (s : State) (b : Nat) : Nat :=
  let present := (s.filt (bayInput b 0)).filtered
  let mod := s.fld (F.RDN.MOD_STATE.STATE.nth b)
  let link := (s.port b).state
  let act := s.flag F.BAY.CTL.ACT_EN && s.bay.shown.contains b
  let fault := if s.quarantined b then s.fastBlink
    else match s.fld (F.BAY.BAY_CTL.FAULT_SW.nth b) with
      | 1 => false
      | 2 => true
      | 3 => s.slowBlink
      | _ =>
        if mod = 1 ∨ (mod = 2 ∧ present) ∨ (present ∧ (link = .fault ∨ link = .down)) then true
        else s.evacuating b && s.slowBlink
  let locate := if s.bay.latchWarn.contains b then s.fastBlink
    else match s.fld (F.BAY.BAY_CTL.LOCATE.nth b) with
      | 1 => true
      | 2 => s.slowBlink
      | 3 => s.fastBlink
      | _ => false
  locate.toNat * 4 + fault.toNat * 2 + act.toNat

/-- Modes in which LED_STAT blinks slowly. -/
def Mode.starting (m : Mode) : Bool :=
  m == .reset || m == .structureLoad || m == .selfTest || m == .recovery || m == .join

/-- The head LEDs (R541). -/
def State.headLeds (s : State) : Bool × Bool × Bool :=
  let stat := if s.flag F.BAY.HEAD_LED.IDENT then s.fastBlink
    else if s.lcs.mode.serving then true else s.lcs.mode.starting && s.slowBlink
  let handling := !(s.flt.queues.getD 3 []).isEmpty || !(s.flt.queues.getD 4 []).isEmpty
  let svc := if s.fld F.RFL.HANDBACK_STATUS.RESULT = 1 ∧ s.flag F.BAY.LEVER.LATCHED then s.fastBlink
    else s.flag F.BAY.HEAD_LED.SVC_FORCE || handling || s.bay.tempWarned
  let rmv := if s.rfl.handBack.any (fun h => decide (1 ≤ h.phase) && decide (h.phase ≤ 3)) then s.slowBlink
    else s.wit.own == 0 && !s.lcs.mode.serving
  (stat, svc, rmv)

/-- The LEDs are decided, after rank 12 of a panel tick (R540, R541). -/
def State.decideLeds (s : State) : State :=
  if !s.panelTick then s
  else
    let (a, b, c) := s.headLeds
    { s with bay := { s.bay with leds := (List.range s.bays).map s.bayLeds, ledStat := a, ledSvc := b, ledRmv := c } }

/-! The chain (R526 to R530). -/

/-- The output words of the chain, part 0 first: 64 bits each, bay slots of 8 bits in which bits 2:0 are the LEDs (R527). -/
def chainWords (leds : List Nat) (parts : Nat) : List Nat :=
  (List.range parts).map (fun p => (List.range 8).foldl (fun w i => w + leds.getD (8 * p + i) 0 * 256 ^ i) 0)

/-- The length in use changes to PARTS (R530): bays that leave the range lose their filters. -/
def State.takeParts (s : State) : State :=
  let n := s.fld F.BAY.CONFIG.PARTS
  if s.bay.parts = n then s
  else { s with bay := { s.bay with
    parts := n, inputs := s.bay.inputs.filter (fun p => decide (1024 ≤ p.1) || decide (p.1 < 32 * n)),
    presence := s.bay.presence.filter (fun p => decide (p.1 < 8 * n)), latchWarn := s.bay.latchWarn.filter (fun b => decide (b < 8 * n)) } }

/-- CHAIN_REFRESH (R528 to R530): the refresh that begins at B(512k − 48): the outputs are shifted out and the slots shifted
in, bay 0 first. After a reset zeros are shifted first. -/
def execChainRefresh (slots : List Nat) (s : State) : Host.Outcome State Fault Refusal :=
  .next (if !s.tck.ticking ∨ s.now % 512 ≠ 464 then s
    else
      let s0 := s.takeParts
      let s1 := if s0.bay.primed then s0 else
        ({ s0 with bay := { s0.bay with primed := true } } : State).send (.chain (List.replicate s0.bay.parts 0))
      let s2 := ((List.range s1.bays).foldl (fun (t : State) b => t.put (F.BAY.BAY_STATUS.LED.nth b) (s1.bay.leds.getD b 0))
        (s1.send (.chain (chainWords s1.bay.leds s1.bay.parts)))).count F.BAY.STAT.COUNT 0
      let good := (List.range s1.bays).all (fun b => slots.getD b 0 / 32 % 8 == 5)
      if good then
        ({ s2 with bay := { s2.bay with badRun := 0, sample := some (slots.take s1.bays) } } : State).put F.BAY.STATUS.CHAIN_OK 1
      else
        let n := s2.bay.badRun + 1
        let s3 := ({ s2 with bay := { s2.bay with badRun := n, sample := none } } : State).saturate F.BAY.STATUS.BAD
        if n = 8 then (s3.put F.BAY.STATUS.CHAIN_OK 0).event Src.BAY 7 else s3)

/-! Rank 12 (R537). -/

/-- A sampled input of rank 12 is recorded (R500): acted on, or recorded only in Power-Fail Drain (R468). -/
def State.panelRecord (s : State) (unit : Nat) : State :=
  s.record Src.TCK (Config.noticeEvent Src.TCK 0x10C).toNat 0x10C unit (s.lcs.mode != .powerFailDrain).toNat 0

/-- Rank 12 is deferred at the boundary at which Power-Fail Drain is entered (R33). -/
def State.panelDeferred (s : State) : Bool := s.lcs.mode == .powerFailDrain && s.lcs.drainStart == s.now

/-- The place of an input in rank 12 (R32, R537): the power button, the service button, then the bays in ascending number, and
within a bay presence, latch and attention button. -/
def panelPlace (i : Nat) : Nat := if i ≥ 1024 then i - 1024 else 2 + i / 4 * 3 + [0, 2, 1].getD (i % 4) 0

/-- The power button has been held for LONG_S, and that has not been acted on (R537). -/
def State.longPress (s : State) : Bool :=
  let x := s.filt 1024
  x.filtered && !x.longDone && !x.stuck && decide (x.activeSince + s.ticksIn (s.fld F.BAY.CTL.LONG_S * 1000000) ≤ s.now)

/-- A transition that comes before an input's in rank 12 is still to be acted on (R32, R537). -/
def State.panelEarlier (s : State) (i : Nat) : Bool :=
  s.bay.inputs.any (fun p => p.2.due && decide (panelPlace p.1 < panelPlace i)) || (decide (0 < panelPlace i) && s.longPress)

/-- An input has a transition to be acted on now: its turn in rank 12 has come. -/
def State.dueNow (s : State) (i : Nat) : Bool := (s.filt i).due && !s.panelDeferred && !s.panelEarlier i

/-- A filtered transition that is due is reported: its EVENT bit and record (R537). -/
def State.reportInput (s : State) (i bit : Nat) : State :=
  let x := s.filt i
  let s1 := s.setFilt i { x with due := false, reported := x.filtered }
  (s1.panelRecord (inputUnit i)).event Src.BAY bit (inputUnit i) (inputNumber i) x.filtered.toNat

/-- Rank 12 is acted on: not in Power-Fail Drain (R468). -/
def State.panelActs (s : State) : Bool := s.lcs.mode != .powerFailDrain

/-- A quarantine begins with the transition that completes its count (R536). -/
def State.checkQuarantine (s : State) (bay : Nat) : State :=
  let recent := (Tab.getD s.bay.presence bay []).filter (fun t => decide (t + s.ticksIn (s.fld F.BAY.FILT.QUAR_S * 1000000) > s.now))
  if recent.length ≥ s.fld F.BAY.FILT.QUAR_N ∧ !s.quarantined bay then
    ((s.put (F.BAY.BAY_STATUS.QUAR.nth bay) 1).count F.BAY.STAT.COUNT 4).event Src.BAY 6 bay
  else s

/-- PRESENCE_CHANGE (R536, R537). -/
def execPresenceChange (bay : Nat) (s : State) : Host.Outcome State Fault Refusal :=
  .next (if s.dueNow (bayInput bay 0) then ((s.reportInput (bayInput bay 0) 0).checkQuarantine bay).decideLeds else s)

/-- LATCH_OPEN (R537): a warning where the port is UP or stripes name the module. -/
def execLatchOpen (bay : Nat) (s : State) : Host.Outcome State Fault Refusal :=
  .next (let x := s.filt (bayInput bay 2)
    if !s.dueNow (bayInput bay 2) ∨ !x.filtered then s
    else
      let s1 := s.reportInput (bayInput bay 2) 1
      let warn := s1.panelActs && ((s1.port bay).state == .up || s1.allStripesOn bay != 0)
      (if warn then { s1 with bay := { s1.bay with latchWarn := s1.bay.latchWarn ++ [bay] } } else s1).decideLeds)

/-- LATCH_CLOSE (R537). -/
def execLatchClose (bay : Nat) (s : State) : Host.Outcome State Fault Refusal :=
  .next (let x := s.filt (bayInput bay 2)
    if !s.dueNow (bayInput bay 2) ∨ x.filtered then s
    else
      let s1 := s.reportInput (bayInput bay 2) 1
      ({ s1 with bay := { s1.bay with latchWarn := s1.bay.latchWarn.filter (· ≠ bay) } } : State).decideLeds)

/-- ATTENTION_PRESS (R537): toggles LOCATE between 0 and 2. -/
def execAttentionPress (bay : Nat) (s : State) : Host.Outcome State Fault Refusal :=
  .next (if !s.dueNow (bayInput bay 1) then s
    else
      let s1 := s.reportInput (bayInput bay 1) 2
      (if s1.panelActs && s1.flag F.BAY.CTL.ATTN_LOCATE then
        s1.put (F.BAY.BAY_CTL.LOCATE.nth bay) (if s1.fld (F.BAY.BAY_CTL.LOCATE.nth bay) = 0 then 2 else 0)
      else s1).decideLeds)

/-- POWER_BUTTON_RELEASE (R537): a short press. -/
def execPowerButtonRelease (s : State) : Host.Outcome State Fault Refusal :=
  .next (if s.dueNow 1024 then (s.reportInput 1024 3).decideLeds else s)

/-- POWER_BUTTON_LONG (R537, R409): held for LONG_S: in Dual-Active a Hand-Back begins at rank 12, as for START. -/
def execPowerButtonLong (s : State) : Host.Outcome State Fault Refusal :=
  .next (let x := s.filt 1024
    if !s.longPress ∨ s.panelDeferred then s
    else
      let s1 := ((s.setFilt 1024 { x with longDone := true }).panelRecord 0x80).event Src.BAY 3 0x80 3 1
      (if s1.lcs.mode = .dualActive then (s1.takeHandBack true).1 else s1).decideLeds)

/-- SERVICE_BUTTON_PRESS (R537): toggles IDENT. -/
def execServiceButtonPress (s : State) : Host.Outcome State Fault Refusal :=
  .next (if !s.dueNow 1025 then s
    else
      let s1 := s.reportInput 1025 3
      (if s1.panelActs then s1.put F.BAY.HEAD_LED.IDENT (1 - s1.fld F.BAY.HEAD_LED.IDENT) else s1).decideLeds)

/-- BUTTON_STUCK (R534). -/
def execButtonStuck (input : Nat) (s : State) : Host.Outcome State Fault Refusal :=
  .next (let x := s.filt input
    if !isButton input ∨ !x.filtered ∨ x.stuck ∨ s.now < x.activeSince + s.ticksIn (s.fld F.BAY.FILT.STUCK_S * 1000000) then s
    else ((s.setFilt input { x with stuck := true }).count F.BAY.STAT.COUNT 2).event Src.BAY 4 (inputUnit input) (inputNumber input))

/-- CHATTER_CLEAR (R535): the raw value has been stable for HOLDOFF_S. -/
def execChatterClear (input : Nat) (s : State) : Host.Outcome State Fault Refusal :=
  .next (let x := s.filt input
    if x.chatter ∧ s.now ≥ x.lastChange + s.ticksIn (s.fld F.BAY.FILT.HOLDOFF_S * 1000000) then
      s.setFilt input { x with chatter := false, count := 0, changes := [] }
    else s)

/-- QCLR ends a quarantine (R536). -/
def State.endQuarantine (s : State) (bay : Nat) : State :=
  ({ s with bay := { s.bay with presence := Tab.erase s.bay.presence bay } } : State).put (F.BAY.BAY_STATUS.QUAR.nth bay) 0

/-! The lever (R538, R539). -/

/-- The pin sampled at a boundary (R538). -/
def State.sampleLever (s : State) (open_ : Bool) : State :=
  if s.bay.leverRaw = open_ then { s with bay := { s.bay with leverRun := s.bay.leverRun + 1 } }
  else { s with bay := { s.bay with leverRaw := open_, leverRun := 0 } }

/-- The pin has shown its state for FILT_US. -/
def State.leverSteady (s : State) : Bool := decide (s.bay.leverRun * s.tickNs ≥ s.fld F.BAY.LEVER.FILT_US * 1000)

/-- LEVER_OPEN (R538, R539): the filtered lever opens: it is latched open, and the opening is captured for rank 4. -/
def execLeverOpen (s : State) : Host.Outcome State Fault Refusal :=
  .next (if s.bay.leverRaw ∧ s.leverSteady ∧ !s.flag F.BAY.LEVER.OPEN then
      ((s.put F.BAY.LEVER.OPEN 1).put F.BAY.LEVER.LATCHED 1).latch .leverOpen
    else s)

/-- LEVER_CLOSE (R539): the filtered lever closes: recorded only. -/
def execLeverClose (s : State) : Host.Outcome State Fault Refusal :=
  .next (if !s.bay.leverRaw ∧ s.leverSteady ∧ s.flag F.BAY.LEVER.OPEN then
      (s.put F.BAY.LEVER.OPEN 0).event Src.BAY 8 0x80 0 0
    else s)

/-! Temperature (R591). -/

/-- The hottest sensor is taken against its limits, each once as it is passed. -/
def State.takeTemperature (s : State) (sensor : Nat) (reading : Int) : State :=
  let warn := decide (reading ≥ 105) && s.flt.warnArmed
  let crit := decide (reading ≥ 115) && s.flt.critArmed
  let s1 := if warn then s.report 0x050C Src.FLT (sensor % 24) reading.toNat else s
  let s2 := if crit then s1.report 0x050D Src.FLT (sensor % 24) reading.toNat else s1
  { s2 with flt := { s2.flt with
    warnArmed := (s2.flt.warnArmed && !warn) || decide (reading ≤ 100),
    critArmed := (s2.flt.critArmed && !crit) || decide (reading ≤ 110) } }

end Sys2Proof.Machine
end

