-- ==== Sys2Proof/Machine/Control.lean ====
section
/-!
DEFINITION. Machine/Control.lean: the application core complex and the memory controllers (chapter 18): cores (R542, R547),
the interrupt router (R554 to R556), the PCIe root port (R557, R558), the MCTP management endpoint (R559 to R561), zero-fill
and scrub (R552, R553).
-/

namespace Sys2Proof.Machine

/-! Cores. -/

/-- Core n runs (R547). -/
def State.coreRuns (s : State) (n : Nat) : Bool := (s.fld F.APC.CORE_RUN.RUN).testBit n

/-- Core n starts in machine mode at APC.RESET_VEC with its interrupt files cleared (R547, R556). -/
def State.startCore (s : State) (n : Nat) : State :=
  { s with apc := { s.apc with
    files := s.apc.files.filter (fun m => m.core != n)
    started := Tab.insert s.apc.started n (s.fld F.APC.RESET_VEC.ADDR * 4) } }

/-- Core n goes back into reset: its registers and its pending interrupts are lost (R547). -/
def State.holdCore (s : State) (n : Nat) : State :=
  { s with apc := { s.apc with
    files := s.apc.files.filter (fun m => m.core != n)
    timerCores := s.apc.timerCores.filter (· != n)
    started := Tab.erase s.apc.started n } }

/-- APC.CORE_RUN has been written; what it held before (R547). -/
def State.coreRunWritten (s : State) (was : Nat) : State :=
  (List.range 48).foldl (fun (t : State) n =>
    match was.testBit n, t.coreRuns n with
    | false, true => t.startCore n
    | true, false => t.holdCore n
    | _, _ => t) s

/-- APC.MTIMECMP of core n has been written: the interrupt stands only while MTIME is at or above it (R542). -/
def State.timerWritten (s : State) (n : Nat) : State :=
  if s.apc.mtime < s.fld (F.APC.MTIMECMP.CMP.nth n) then
    { s with apc := { s.apc with timerCores := s.apc.timerCores.filter (· != n) } }
  else s

/-- MACHINE_TIMER (R542): MTIME has reached the compare value of a core that runs. -/
def execMachineTimer (core : Nat) (s : State) : Host.Outcome State Fault Refusal :=
  .next (if core < 48 ∧ s.coreRuns core ∧ s.fld (F.APC.MTIMECMP.CMP.nth core) ≤ s.apc.mtime ∧ core ∉ s.apc.timerCores then
    { s with apc := { s.apc with timerCores := s.apc.timerCores ++ [core] } }
  else s)

/-! The interrupt router. -/

/-- The MCTP receive ring holds a message (R554, R561). -/
def State.mctpHeld (s : State) : Nat := (s.fld F.APC.MCTP_RX_IDX.PROD + 2 ^ 16 - s.fld F.APC.MCTP_RX_IDX.CONS) % 2 ^ 16

/-- A source of R554 is a level source. -/
def isLevel (n : Nat) : Bool := decide (n < 23) || (decide (33 ≤ n) && decide (n ≤ 36)) || n == 129 || n == 131

/-- A source of R554 is an edge source. -/
def isEdge (n : Nat) : Bool :=
  n == 32 || (decide (64 ≤ n) && decide (n ≤ 128)) || n == 130 || (decide (160 ≤ n) && decide (n < 192)) ||
    (decide (256 ≤ n) && decide (n ≤ 513))

/-- A level source is active (R554). -/
def State.levelActive (s : State) (n : Nat) : Bool :=
  if n < 23 then s.reg (eventAddr n) &&& s.reg (eventAddr n + 8) != 0
  else if 33 ≤ n ∧ n ≤ 36 then !(s.flt.queues.getD (n - 32) []).isEmpty
  else if n = 129 then s.mctpHeld != 0
  else n == 131 && s.apc.intx != 0

/-- Bit n of APC.IRQ_PEND: a source that is active, or pending (IRQ_PEND). -/
def State.irqState (s : State) (n : Nat) : Bool :=
  if isLevel n then s.levelActive n else isEdge n && s.flag (F.APC.IRQ_ROUTE.PENDING.nth n)

/-- The route of a source qualifies for a message (R555). -/
def State.routeDue (s : State) (n : Nat) : Bool :=
  s.flag (F.APC.IRQ_ROUTE.EN.nth n) &&
    (match Tab.find s.apc.lastMessage n with
      | some t => decide (t + s.fld (F.APC.IRQ_ROUTE.HOLD.nth n) ≤ s.now)
      | none => true) &&
    s.irqState n && !(isLevel n && s.flag (F.APC.IRQ_ROUTE.IN_SERVICE.nth n))

/-- The router sends the message of a source (R555, R556): to the file of a core that runs, or discarded. -/
def State.sendIrq (s : State) (n : Nat) : State :=
  let m : IrqMessage := ⟨s.fld (F.APC.IRQ_ROUTE.CORE.nth n), s.fld (F.APC.IRQ_ROUTE.MODE.nth n), s.fld (F.APC.IRQ_ROUTE.ID.nth n)⟩
  let s1 := (s.put (F.APC.IRQ_ROUTE.PENDING.nth n) 0).putFlag (F.APC.IRQ_ROUTE.IN_SERVICE.nth n) (isLevel n)
  let s2 : State := { s1 with apc := { s1.apc with lastMessage := Tab.insert s1.apc.lastMessage n s.now } }
  if s.coreRuns m.core then
    let s3 : State := { s2 with apc := { s2.apc with
      files := if s2.apc.files.contains m then s2.apc.files else s2.apc.files ++ [m] } }
    (s3.send (.interrupt m.core m.file m.id)).count F.APC.STAT.COUNT 0
  else (s2.count F.APC.STAT.COUNT 1).event Src.APC 6 n

/-- The interrupt messages of step 3 (R555, R556). -/
def State.routeInterrupts (s : State) : State :=
  (List.range 514).foldl (fun (t : State) n => if t.routeDue n then t.sendIrq n else t) s

/-- APC.IRQ_EOI has been written (R555). -/
def State.endOfService (s : State) (n : Nat) : State := s.put (F.APC.IRQ_ROUTE.IN_SERVICE.nth n) 0

/-! PCIe. -/

/-- PCIE_LINK_UP (R557): training ends: the port is enabled and PERST is released; rate and width are in range. -/
def execPcieLinkUp (gen width : Nat) (s : State) : Host.Outcome State Fault Refusal :=
  .next (if s.flag F.APC.PCIE_CTL.EN ∧ !s.flag F.APC.PCIE_CTL.PERST ∧ 1 ≤ gen ∧ gen ≤ s.fld F.APC.PCIE_CTL.MAX_GEN ∧
      (width = 1 ∨ width = 2 ∨ width = 4) ∧ !s.flag F.APC.PCIE_STATUS.UP then
    (((s.put F.APC.PCIE_STATUS.GEN gen).put F.APC.PCIE_STATUS.WIDTH width).put F.APC.PCIE_STATUS.UP 1).event Src.APC 0
  else s)

/-- The link leaves the up state: rate, width and the INTx messages go with it (R557). -/
def State.pcieDown (s : State) : State :=
  if s.flag F.APC.PCIE_STATUS.UP then
    let s1 := ((s.put F.APC.PCIE_STATUS.GEN 0).put F.APC.PCIE_STATUS.WIDTH 0).put F.APC.PCIE_STATUS.UP 0
    ({ s1 with apc := { s1.apc with intx := 0 } } : State).event Src.APC 1
  else s

/-- PCIE_LINK_DOWN (R557). -/
def execPcieLinkDown (s : State) : Host.Outcome State Fault Refusal := .next s.pcieDown

/-- APC.PCIE_CTL has been written: with the port off or PERST asserted the link cannot stay up (R557). -/
def State.pcieCtlWritten (s : State) : State :=
  if s.flag F.APC.PCIE_CTL.EN ∧ !s.flag F.APC.PCIE_CTL.PERST then s else s.pcieDown

/-- The requester number of PCIe devices (R551). -/
def pcieReq : Nat := 23

/-- The address of MSI and MSI-X messages (R558). -/
def msiTarget : Nat := 0xF0C08000

/-- An inbound request is refused (R558, R551). -/
def State.refusePcie (s : State) (write : Bool) (addr : Nat) : State :=
  let s1 := s.count F.APC.STAT.COUNT 7
  let s2 := if decide (addr < hbmBase) then s1 else s1.violation pcieReq write addr
  if write then s2 else s2.send (.pcieCompletion none)

/-- PCIE_INBOUND_REQUEST (R557, R558): a device's request while the link is up. -/
def execPcieInboundRequest (q : PcieRequest) (s : State) : Host.Outcome State Fault Refusal :=
  .next (if !s.flag F.APC.PCIE_STATUS.UP then s else match q with
    | .read addr len =>
      if len ≤ 4096 ∧ s.memOk pcieReq addr len then s.send (.pcieCompletion (some (s.load addr len)))
      else s.refusePcie false addr
    | .write addr bytes =>
      if addr = msiTarget ∧ bytes.length = 4 ∧ leNat bytes < 32 then
        (s.irqEdge (160 + leNat bytes)).count F.APC.STAT.COUNT 6
      else if bytes.length ≤ 512 ∧ s.memOk pcieReq addr bytes.length then s.store addr bytes
      else s.refusePcie true addr
    | .intx line on =>
      if line < 4 then
        { s with apc := { s.apc with
          intx := if on then s.apc.intx ||| 2 ^ line else s.apc.intx &&& (15 ^^^ 2 ^ line) } }
      else s
    | .error uncorrectable => s.event Src.APC (if uncorrectable then 3 else 2))

/-! The management endpoint. -/

/-- A message is discarded: counted, and MCTP_BAD is set (R559, R560). -/
def State.discardMctp (s : State) : State := (s.count F.APC.STAT.COUNT 4).event Src.APC 5

/-- The endpoint sends a message (R559, R561). -/
def State.sendMctp (s : State) (eid tag : Nat) (bytes : List Byte) : State :=
  (s.send (.mctp ⟨eid, tag, bytes⟩)).count F.APC.STAT.COUNT 3

/-- The message integrity check passes: CRC-32C over the message, in its last four bytes (R560, DSP0236). -/
def integrityOk (b : List Byte) : Bool :=
  decide (5 ≤ b.length) && leNat (b.drop (b.length - 4)) == crc32c (b.take (b.length - 4))

/-- The response to a control request of DSP0236: completion code and data, and what the endpoint's EID becomes (R560). -/
def State.controlAnswer (s : State) (cmd : Nat) (data : List Byte) : List Byte × Option Nat :=
  let nat := fun (n : Nat) => BitVec.ofNat 8 n
  match cmd with
  | 1 =>
    match data with
    | [op, eid] =>
      if op.toNat % 4 < 2 ∧ eid.toNat ≠ 0 ∧ eid.toNat ≠ 255 then ([nat 0, nat 0, eid, nat 0], some eid.toNat)
      else ([nat 2], none)
    | _ => ([nat 3], none)
  | 2 => if data = [] then ([nat 0, nat (s.fld F.APC.MCTP_CFG.EID), nat 0, nat 0], none) else ([nat 3], none)
  | 3 => if data = [] then (nat 0 :: leBytes 16 s.lcs.fuses.serial.toNat, none) else ([nat 3], none)
  | 4 =>
    match data with
    | [t] =>
      if t.toNat = 0 ∨ t.toNat = 4 ∨ t.toNat = 255 then
        (nat 0 :: nat 1 :: (List.range 4).map (fun i => Config.freeByte s.fresh i), none)
      else ([nat 0x80], none)
    | _ => ([nat 3], none)
  | 5 => if data = [] then ([nat 0, nat 2, nat 0, nat 4], none) else ([nat 3], none)
  | _ => ([nat 5], none)

/-- A control message arrives (R560): a request is answered; anything else the endpoint takes without effect. -/
def State.controlMessage (s : State) (m : ManagementMessage) : State :=
  let s1 := s.count F.APC.STAT.COUNT 2
  let rq := (m.bytes.getD 1 0).toNat
  if m.bytes.length < 3 ∨ rq < 128 then s1
  else
    let cmd := (m.bytes.getD 2 0).toNat
    let (ans, eid) := s1.controlAnswer cmd (m.bytes.drop 3)
    let s2 := match eid with
      | some e => ((s1.put F.APC.MCTP_CFG.EID e).put F.APC.MCTP_CFG.EID_VALID 1).event Src.APC 7
      | none => s1
    let s3 : State := { s2 with fresh := s2.fresh + 1 }
    (s3.sendMctp m.eid (m.tag % 8) ([0, BitVec.ofNat 8 (rq % 32), m.bytes.getD 2 0] ++ ans)).count F.APC.STAT.COUNT 5

/-- A message arrives at the endpoint (R559 to R561). -/
def State.receiveMctp (s : State) (m : ManagementMessage) : State :=
  let typ := (m.bytes.getD 0 0).toNat
  if !s.flag F.APC.MCTP_CFG.EN then s
  else if !m.framed ∨ m.bytes.length = 0 ∨ 8176 < m.bytes.length then s.discardMctp
  else if typ % 128 = 0 then s.controlMessage m
  else if typ % 128 ≠ 4 ∨ (128 ≤ typ ∧ !integrityOk m.bytes) then s.discardMctp
  else (s.count F.APC.STAT.COUNT 2).latch (.management m)

/-- MCTP_CONTROL_MESSAGE (R559, R560). -/
def execMctpControlMessage (m : ManagementMessage) (s : State) : Host.Outcome State Fault Refusal := .next (s.receiveMctp m)

/-- MANAGEMENT_MESSAGE (R559 to R561): an NVMe-MI message that passes the checks is captured for rank 8. -/
def execManagementMessage (m : ManagementMessage) (s : State) : Host.Outcome State Fault Refusal := .next (s.receiveMctp m)

/-- Rank 8 (R561): the message is written to the next slot of the receive ring, or dropped. -/
def State.takeManagement (s : State) (m : ManagementMessage) : State :=
  if !s.flag F.APC.MCTP_RX_BASE.EN ∨ 16 ≤ s.mctpHeld then (s.count F.APC.STAT.COUNT 4).event Src.APC 4
  else
    let p := s.fld F.APC.MCTP_RX_IDX.PROD
    let desc := leBytes 2 m.bytes.length ++ leBytes 1 m.eid ++ leBytes 1 (m.tag % 16) ++ leBytes 4 0 ++ leBytes 8 s.now
    (s.storeBy Src.APC (s.fld F.APC.MCTP_RX_BASE.ADDR * 2 ^ 17 + p % 16 * 8192) (desc ++ m.bytes)).put
      F.APC.MCTP_RX_IDX.PROD (p + 1)

/-- The endpoint sends the next slot of the transmit ring (R561). -/
def State.mctpSendSlot (s : State) : State :=
  let c := s.fld F.APC.MCTP_TX_IDX.CONS
  let a := s.fld F.APC.MCTP_TX_BASE.ADDR * 2 ^ 17 + c % 16 * 8192
  let s1 := s.put F.APC.MCTP_TX_IDX.CONS (c + 1)
  match s1.loadBy Src.APC a 8192 with
  | none => (s1.violation Src.APC false a).count F.APC.STAT.COUNT 4
  | some b =>
    let len := leNat (b.take 2)
    if len = 0 ∨ 8176 < len then s1.count F.APC.STAT.COUNT 4
    else
      let msg := (b.drop 16).take len
      let out := if (msg.getD 0 0).toNat ≥ 128 then msg ++ leBytes 4 (crc32c msg) else msg
      (s1.sendMctp (b.getD 2 0).toNat ((b.getD 3 0).toNat % 16) out).irqEdge 130

/-- The endpoint sends the slots from CONS to PROD in order (R561). -/
def State.mctpSendSlots (s : State) : Nat → State
  | 0 => s
  | n + 1 =>
    if s.fld F.APC.MCTP_TX_IDX.CONS = s.fld F.APC.MCTP_TX_IDX.PROD ∨ !s.flag F.APC.MCTP_TX_BASE.EN ∨
        !s.flag F.APC.MCTP_CFG.EN then s
    else s.mctpSendSlot.mctpSendSlots n

/-- DYNAMIC_ADDRESS_ASSIGNMENT (R559): ENTDAA, or SETDASA to the static address, gives the enabled endpoint its address. -/
def execDynamicAddressAssignment (addr : Nat) (fromStatic : Bool) (s : State) : Host.Outcome State Fault Refusal :=
  .next (if s.flag F.APC.MCTP_CFG.EN ∧ (fromStatic ∨ s.apc.dynamicAddr.isNone) then
    { s with apc := { s.apc with dynamicAddr := some (addr % 128) } }
  else s)

/-! Memory. -/

/-- MEM_FILL_DONE (R552): the last region is filled; the first scrub pass begins (R553). -/
def execMemFillDone (s : State) : Host.Outcome State Fault Refusal :=
  .next (if s.memc.filling then
    (({ s with memc := { s.memc with filling := false, scrubSince := s.now } } : State).put F.MEM.STATUS.FILL_DONE 1).event
      Src.MEM 0
  else s)

/-- SCRUB_PASS (R553): SCRUB_H hours after the pass began. -/
def execScrubPass (s : State) : Host.Outcome State Fault Refusal :=
  .next (if s.flag F.MEM.STATUS.FILL_DONE ∧ s.memc.scrubSince + s.ticksIn (s.fld F.MEM.SCRUB_CTL.SCRUB_H * 3600000000) ≤ s.now then
    (({ s with memc := { s.memc with scrubSince := s.now } } : State).count F.MEM.STAT.COUNT 4).event Src.MEM 3
  else s)

end Sys2Proof.Machine
end

