-- ==== Sys2Proof/Machine/FaultHandling.lean ====
section
/-!
DEFINITION. Machine/FaultHandling.lean: fault classes and nested faults (chapter 16, R509 to R523): the
code table, taking reports at a boundary, the queues, deadlines, fatal faults and the watchdogs.
-/

namespace Sys2Proof.Machine

/-- The class of a fault code in the code table of R511; 0 for a code that names no fault. ACK_TIMEOUT
takes its class from R514. -/
def faultClass : Nat → Nat
  | 0x0501 => 1
  | 0x0502 => 3
  | 0x0503 => 2
  | 0x0504 => 2
  | 0x0505 => 4
  | 0x0506 => 2
  | 0x0507 => 3
  | 0x0508 => 5
  | 0x0509 => 5
  | 0x050A => 5
  | 0x050B => 5
  | 0x050C => 4
  | 0x050D => 5
  | 0x050E => 4
  | 0x0510 => 4
  | 0x0511 => 3
  | _ => 0

/-- The class of a report when it is taken (R511, R514). -/
def FltReport.cls (r : FltReport) (f : Flt) : Nat :=
  if r.code = 0x050F then
    if r.injected then
      match f.active with
      | some (c, _) => min (c + 1) 5
      | none => 3
    else min (r.fromClass + 1) 5
  else faultClass r.code

/-- The SEVERITY of a class (R509). -/
def classSeverity (c : Nat) : Nat := c + 1

/-- The queue of a class from 1 to 5 (R512). -/
def Flt.queueOf (f : Flt) (c : Nat) : List FltEntry := f.queues.getD (c - 1) []

/-- The queue of a class replaced. -/
def Flt.setQueue (f : Flt) (c : Nat) (q : List FltEntry) : Flt := { f with queues := f.queues.set (c - 1) q }

/-- SEQ of the record that a record of this event made now has, or is merged into (R501). -/
def State.seqFor (s : State) (source code object : Nat) : Nat :=
  match s.evr.queue.find? (fun q => q.source == source && q.code == code && q.object == object % 2 ^ 24
      && q.tick == s.tck.tick) with
  | some q => q.seq
  | none => s.evr.nextSeq

/-- The ACK_TICKS of a class (R514). -/
def State.ackTicks (s : State) (c : Nat) : Nat := s.fld (F.FLT.CLASS_CTL.ACK_TICKS.nth (c - 1))

/-- A fault of class c joins its queue, or is counted when the queue is full (R512). -/
def State.enqueueFault (s : State) (c : Nat) (e : FltEntry) : State :=
  if c = 1 ∨ (s.flt.queueOf c).length < 16 then
    { s with flt := s.flt.setQueue c (s.flt.queueOf c ++ [e]) }
  else ((s.saturate (F.FLT.CLASS_STATUS.OVF.nth (c - 1))).count F.FLT.STAT.COUNT 5).setEventBit Src.FLT 5

/-- LAST_FATAL0 and LAST_FATAL1 (R522). -/
def State.noteFatal (s : State) (seq code object : Nat) (double : Bool) : State :=
  (((s.put F.FLT.LAST_FATAL0.SEQ seq).put F.FLT.LAST_FATAL1.CODE code).put F.FLT.LAST_FATAL1.OBJECT
    object).putFlag F.FLT.LAST_FATAL1.DOUBLE double

/-- A double fatal: a self-fence at rank 2 of the same boundary, in every mode but four (R517). -/
def State.doubleFatal (s : State) (seq : Nat) : State :=
  match s.lcs.mode with
  | .reset => s
  | .structureLoad => s
  | .eclipse => s
  | .powerFailDrain => s
  | _ => { s with flt := { s.flt with actingSeq := seq, handBackDue := false } }.latch
           (.epochLoss .handBackOrFault)

/-- A first fatal, by mode (R516). -/
def State.firstFatal (s : State) (seq : Nat) : State :=
  match s.lcs.mode with
  | .dualActive =>
    { s with flt := { s.flt with actingSeq := seq, fatalHandBack := true } }.latch .handBackStart
  | .restructure =>
    if s.lcs.resumeMode = .dualActive then { s with flt := { s.flt with handBackDue := true } }
    else s
  | .soloActive => s
  | .takeOver => s
  | .handBack => s
  | .recovery => s.doubleFatal seq
  | .join => s.doubleFatal seq
  | .selfTest => { s with lcs := { s.lcs with stFail := true } }
  | .reset => s
  | .structureLoad => s
  | .eclipse => s
  | .powerFailDrain => s

/-- CE_STORM (R511): more than CE_THR corrected errors of one unit within 500,000 ticks
mark the unit for replacement; FLT raises the report when the mark is made. -/
def State.countCorrected (s : State) (source unit : Nat) : State :=
  let kept := (s.flt.corrected.filter (fun (_, _, t) => t + 500000 > s.tck.tick)) ++
    [(source, unit, s.tck.tick)]
  let s := { s with flt := { s.flt with corrected := kept } }
  if (kept.filter (fun (a, b, _) => a = source ∧ b = unit)).length > s.fld F.FLT.CE_CTL.CE_THR
      ∧ (source, unit) ∉ s.flt.marked then
    { s with flt := { s.flt with marked := s.flt.marked ++ [(source, unit)] } }.report 0x0502 source unit
  else s

/-- What FLT itself does for a code of R511, beside the class handling. A connection lost by UE_CONTEXT has no CAUSE in
QPC.ERR_LAST: that field is a free value. -/
def State.faultAction (s : State) (r : FltReport) : State :=
  if r.code = 0x0501 then s.countCorrected r.source r.unit
  else if r.code = 0x0506 ∧ r.source = Src.QPC then
    let (n, s1) := s.draw
    s1.connError r.unit (Config.freeNat n)
  else if r.code = 0x0507 then
    { s with flt := { s.flt with withdrawn :=
        if (r.source, r.unit) ∈ s.flt.withdrawn then s.flt.withdrawn else s.flt.withdrawn ++ [(r.source, r.unit)] } }
  else if r.code = 0x050C then
    { s with bay := { s.bay with tempWarned := true } }
  else if r.code = 0x050E then s.setEventBit Src.FLT 8
  else s

/-- FLT takes one report (R510 to R513, R516, R517). -/
def State.takeFault (s : State) (r : FltReport) : State :=
  let c := r.cls s.flt
  if c = 0 then s else
  let object := r.source * 2 ^ 16 + r.unit % 2 ^ 16
  let seq := s.seqFor Src.FLT r.code object
  let secondFatal := decide (c = 5) && (!(s.flt.queueOf 5).isEmpty || (decide (r.code = 0x050F) && !r.injected
    && decide (r.fromClass = 5)))
  let arg1 := r.arg1 % 2 ^ 63 + r.injected.toNat * 2 ^ 63
  let s1 := ((s.record Src.FLT (classSeverity c) r.code object c arg1).setEventBit Src.FLT (c - 1)).count
    F.FLT.STAT.COUNT (c - 1)
  let s1 := if c = 1 then s1.irqEdge 32 else s1
  let s2 := if r.injected then s1.count F.FLT.STAT.COUNT 9 else s1
  let s3 := s2.enqueueFault c ⟨seq, r.code, object, if s2.ackTicks c = 0 then none else some (s2.ackTicks c)⟩
  let s4 := s3.faultAction r
  if c = 5 then
    if secondFatal then (s4.noteFatal seq r.code object true).doubleFatal seq
    else (s4.noteFatal seq r.code object false).firstFatal seq
  else s4

/-- The start of step 3 (R510): every report raised in the ended tick is taken, in the order raised, and
class-1 entries retire at the end of the step (R512). -/
def State.takeReports (s : State) : State :=
  let s1 := s.flt.reports.foldl State.takeFault { s with flt := { s.flt with reports := [] } }
  { s1 with flt := s1.flt.setQueue 1 [] }

/-- Acknowledgements of the ended tick retire the entries they name (R514, step 3). -/
def State.applyAcks (s : State) : State :=
  let f := s.flt.acks.foldl (fun f (c, lo) =>
    match f.queueOf c with
    | e :: q => if e.seq % 2 ^ 32 = lo then f.setQueue c q else f
    | [] => f) s.flt
  { s with flt := { f with acks := [] } }

/-- The deadline of the fault being handled loses the ended tick, except in Eclipse and Power-Fail Drain
(R514). -/
def State.runDeadline (s : State) : State :=
  if s.lcs.mode = .eclipse ∨ s.lcs.mode = .powerFailDrain then s
  else match s.flt.active with
    | none => s
    | some (c, e) =>
      match s.flt.queueOf c with
      | _ :: q => { s with flt := s.flt.setQueue c ({ e with left := e.left.map (· - 1) } :: q) }
      | [] => s

/-- The ticks of one period of the software watchdog (R519, R5). -/
def State.wdogPeriod (s : State) : Nat := s.ticksIn (s.fld F.FLT.WDOG_CTL.TIMEOUT_MS * 1000)

/-- The software watchdog starts at the boundary after EN is written, and its period loses the ended tick,
except in Power-Fail Drain (R519). -/
def State.runWatchdog (s : State) : State :=
  if s.lcs.mode = .powerFailDrain ∨ s.fld F.FLT.WDOG_CTL.EN = 0 then s
  else if s.flt.wdogStage = 0 then { s with flt := { s.flt with wdogStage := 1, wdogRun := 0 } }
  else { s with flt := { s.flt with wdogRun := s.flt.wdogRun + 1 } }

/-- A kick restarts the first period (R519). -/
def State.kickWatchdog (s : State) : State :=
  if s.flt.wdogStage = 0 then s else { s with flt := { s.flt with wdogStage := 1, wdogRun := 0 } }

/-- A fault that may be reported by a block (R510, R511): every code of the table but those FLT makes
itself, from one of the 23 blocks. -/
def reportable (code source unit : Nat) : Bool :=
  faultClass code != 0 && code != 0x050E && decide (source < 23) && decide (unit < 2 ^ 16)

/-- What MEM itself notes of an error it reports (R553): unit n is DDR channel n, or HBM stack n − 12. -/
def State.noteMemory (s : State) (code unit : Nat) : State :=
  if unit ≥ 16 then s
  else if code = 0x0501 then
    ((s.saturate (F.MEM.CH_STATUS.CE.nth unit)).count F.MEM.STAT.COUNT (if unit < 12 then 1 else 0)).event Src.MEM 2 unit
  else if 0x0503 ≤ code ∧ code ≤ 0x0506 then (s.saturate (F.MEM.CH_STATUS.UE.nth unit)).count F.MEM.STAT.COUNT 2
  else if code = 0x0508 ∨ code = 0x0509 then s.put (F.MEM.CH_STATUS.STATE.nth unit) 3
  else s

/-- FAULT_REPORT (R510): a block reports an error; FLT takes it at the next boundary. -/
def execFaultReport (code source unit arg : Nat) (s : State) : Host.Outcome State Fault Refusal :=
  .next (if reportable code source unit then
      (if source = Src.MEM then s.noteMemory code unit else s).report code source unit arg
    else s)

/-- ACK_TIMEOUT (R514): the deadline of the fault being handled has run out: its entry retires and FLT takes
a fault of the next class. -/
def execAckTimeout (cls : Nat) (s : State) : Host.Outcome State Fault Refusal :=
  .next (match s.flt.active with
    | some (c, e) =>
      if c = cls ∧ e.left = some 0 then
        (({ s with flt := s.flt.setQueue c ((s.flt.queueOf c).drop 1) }.setEventBit Src.FLT 6).count
          F.FLT.STAT.COUNT 6).takeFault
          { code := 0x050F, source := e.object / 2 ^ 16, unit := e.object % 2 ^ 16, arg1 := e.seq,
            injected := false, fromClass := c }
      else s
    | none => s)

/-- WDOG_STAGE1 (R519): the first period has run out; FLT takes the fault and the second period starts. -/
def execWdogStage1 (s : State) : Host.Outcome State Fault Refusal :=
  .next (if s.flt.wdogStage = 1 ∧ s.flt.wdogRun ≥ s.wdogPeriod then
    ({ s with flt := { s.flt with wdogStage := 2, wdogRun := 0 } }.count F.FLT.STAT.COUNT 8).takeFault
      { code := 0x050E, source := Src.FLT, unit := 0, arg1 := 0, injected := false, fromClass := 0 }
    else s)

/-- WATCHDOG_RESET (R519, R28): the second period has run out; the reset is requested for rank 3, one
request however often it expires. -/
def execWatchdogReset (s : State) : Host.Outcome State Fault Refusal :=
  .next (if s.flt.wdogStage = 2 ∧ s.flt.wdogRun ≥ s.wdogPeriod ∧ (.reset .watchdog) ∉ s.tck.latches then
    s.latch (.reset .watchdog) else s)

/-- LANE_STALL (R520): a lane of CMP, CIP, DGS or RDN, or a transmit engine of HPT, holds work and its
consumed-byte count has not advanced for PROG_TICKS ticks; it is reported. -/
def execLaneStall (source lane : Nat) (s : State) : Host.Outcome State Fault Refusal :=
  .next (if source ∈ [Src.CMP, Src.CIP, Src.DGS, Src.RDN, Src.HPT] then s.report 0x0507 source lane else s)

/-- BOUNDARY_WATCHDOG (R521): step 5 has not begun 1,000 engine cycles after the boundary; TCK reports
BOUNDARY. -/
def execBoundaryWatchdog (s : State) : Host.Outcome State Fault Refusal :=
  .next (s.report 0x050B Src.TCK 0)

end Sys2Proof.Machine
end

