-- ==== Sys2Proof/Machine/Zstd.lean ====
section
/-!
DEFINITION. Machine/Zstd.lean: the Zstandard decoder of the decompressor lanes, as RFC 8878 gives the format and R83, R87, R88,
R91 and R100 the subset and its failures. Statuses are those of R107. A bitstream is held as a number, so that bits are taken
by shifts.
-/

namespace Sys2Proof.Machine

/-! Bitstreams. -/

/-- A bitstream read from its end: the number its bytes form, and the bits left below the mark. -/
structure BackBits where
  v : Nat
  n : Nat
  deriving DecidableEq, Repr

/-- The bitstream of some bytes: the highest set bit of the last byte is the mark, so a last byte of 0 is corrupt. -/
def BackBits.of (bs : List Byte) : Option BackBits :=
  if bs.getLastD 0 = 0 then none else some ⟨leNat bs, Nat.log2 (leNat bs)⟩

/-- The next k bits, when as many are left. -/
def BackBits.read (b : BackBits) (k : Nat) : Option (Nat × BackBits) :=
  if k ≤ b.n then some ((b.v >>> (b.n - k)) % 2 ^ k, ⟨b.v, b.n - k⟩) else none

/-- The next k bits without taking them; zeros follow the last one left. -/
def BackBits.peek (b : BackBits) (k : Nat) : Nat :=
  if k ≤ b.n then (b.v >>> (b.n - k)) % 2 ^ k else b.v % 2 ^ b.n * 2 ^ (k - b.n)

/-! Finite state entropy tables. -/

/-- A cell of an FSE table: the symbol, the bits to read, and what to add to them for the next state. -/
structure FseCell where
  sym : Nat
  nbits : Nat
  base : Nat
  deriving DecidableEq, Repr

/-- An FSE table: its accuracy log, and its cells by state. -/
structure FseTable where
  log : Nat
  cells : List FseCell
  deriving DecidableEq, Repr

/-- The symbol and the move of a state. -/
def FseTable.cell (t : FseTable) (state : Nat) : FseCell := t.cells.getD state ⟨0, 0, 0⟩

/-- The zeros that follow a probability of 0, two bits at a time (fuel: the bits there are). -/
def fseZeros (v : Nat) : Nat → Nat → List Int → Nat × List Int
  | 0, pos, acc => (pos, acc)
  | fuel + 1, pos, acc =>
    let k := (v >>> pos) % 4
    let acc1 := List.replicate k 0 ++ acc
    if k = 3 then fseZeros v fuel (pos + 2) acc1 else (pos + 2, acc1)

/-- The probabilities of an FSE table description from a bit position on, in reverse; -1 stands for "less than 1". -/
def fseProbs (v total maxSym : Nat) : Nat → Nat → Nat → List Int → Option (List Int × Nat)
  | 0, _, _, _ => none
  | fuel + 1, remaining, pos, acc =>
    if remaining = 0 then (if pos ≤ total ∧ acc.length ≤ maxSym + 1 then some (acc, pos) else none)
    else if acc.length > maxSym ∨ pos > total then none
    else
      let k := Nat.log2 (remaining + 1) + 1
      let x := (v >>> pos) % 2 ^ k
      let low := x % 2 ^ (k - 1)
      let threshold := 2 ^ k - 1 - (remaining + 1)
      let (val, used) := if low < threshold then (low, k - 1) else if x ≥ 2 ^ (k - 1) then (x - threshold, k) else (x, k)
      if val = 0 then fseProbs v total maxSym fuel (remaining - 1) (pos + used) (-1 :: acc)
      else if val = 1 then
        let (pos1, acc1) := fseZeros v total (pos + used) (0 :: acc)
        fseProbs v total maxSym fuel remaining pos1 acc1
      else if val - 1 ≤ remaining then fseProbs v total maxSym fuel (remaining - (val - 1)) (pos + used) ((val - 1 : Nat) :: acc)
      else none

/-- The states of an FSE table taken in order: each symbol's next state number rises (the counters, by symbol). -/
def fseCells (log : Nat) : List Nat → List Nat → List FseCell
  | [], _ => []
  | sym :: rest, next =>
    let x := next.getD sym 1
    let nb := log - Nat.log2 x
    ⟨sym, nb, x * 2 ^ nb - 2 ^ log⟩ :: fseCells log rest (next.set sym (x + 1))

/-- The FSE table of a distribution: symbols of probability -1 take the last cells, the others are spread over the rest. -/
def fseTable (log : Nat) (probs : List Int) : FseTable :=
  let size := 2 ^ log
  let syms := probs.zipIdx
  let rare := (syms.filter (fun p => p.1 == -1)).map Prod.snd
  let step := size / 2 + size / 8 + 3
  let places := ((List.range size).map (fun k => k * step % size)).filter (fun p => decide (p < size - rare.length))
  let spread := syms.flatMap (fun p => List.replicate p.1.toNat p.2)
  let placed := places.zip spread
  let low := (List.range (size - rare.length)).map (fun i => ((placed.find? (fun p => p.1 == i)).map Prod.snd).getD 0)
  ⟨log, fseCells log (low ++ rare.reverse) (probs.map (fun p => if p = -1 then 1 else p.toNat))⟩

/-- An FSE table description: the table, and the bytes that follow it. -/
def fseRead (maxLog maxSym : Nat) (bs : List Byte) : Option (FseTable × List Byte) :=
  let v := leNat bs
  let log := v % 16 + 5
  if bs.isEmpty ∨ log > maxLog then none
  else match fseProbs v (8 * bs.length) maxSym (8 * bs.length + 2) (2 ^ log) 4 [] with
    | none => none
    | some (acc, pos) => some (fseTable log acc.reverse, bs.drop ((pos + 7) / 8))

/-! Huffman tables. -/

/-- A Huffman table: the most bits of a code, and the runs of its lookup table in order: how many places each symbol takes,
the symbol, and the bits of its code. -/
structure HuffTable where
  maxBits : Nat
  runs : List (Nat × Nat × Nat)
  deriving DecidableEq, Repr

/-- The run of a lookup table that a place falls into. -/
def huffLookup : List (Nat × Nat × Nat) → Nat → Nat × Nat
  | [], _ => (0, 0)
  | (k, sym, nb) :: rest, i => if i < k then (sym, nb) else huffLookup rest (i - k)

/-- The Huffman table of the weights listed; the last symbol's weight is what completes the code. At most 11 bits. -/
def huffTable (ws : List Nat) : Option HuffTable :=
  let sum := (ws.map (fun w => if w = 0 then 0 else 2 ^ (w - 1))).sum
  let m := Nat.log2 sum + 1
  let left := 2 ^ m - sum
  if sum = 0 ∨ m > 11 ∨ 2 ^ Nat.log2 left ≠ left ∨ ws.length > 255 then none
  else
    let syms := (ws ++ [Nat.log2 left + 1]).zipIdx
    some ⟨m, (List.range m).flatMap (fun i => (syms.filter (fun p => p.1 == i + 1)).map (fun p => (2 ^ i, p.2, m - i)))⟩

/-- Weights from two FSE states in turn, until the bitstream is exhausted. -/
def huffWeights (t : FseTable) : Nat → Nat → Nat → BackBits → List Nat → List Nat
  | 0, _, _, _, acc => acc
  | fuel + 1, a, b, bits, acc =>
    let c := t.cell a
    match bits.read c.nbits with
    | none => (t.cell b).sym :: c.sym :: acc
    | some (x, rest) => huffWeights t fuel b (c.base + x) rest (c.sym :: acc)

/-- A Huffman tree description: the table, and the bytes that follow. -/
def huffRead : List Byte → Option (HuffTable × List Byte)
  | [] => none
  | h :: bs =>
    if h.toNat ≥ 128 then
      let n := h.toNat - 127
      let k := (n + 1) / 2
      if bs.length < k then none
      else (huffTable (((bs.take k).flatMap (fun b => [b.toNat / 16, b.toNat % 16])).take n)).map (fun t => (t, bs.drop k))
    else if bs.length < h.toNat then none
    else match fseRead 6 255 (bs.take h.toNat) with
      | none => none
      | some (t, code) => match BackBits.of code with
        | none => none
        | some b => match b.read t.log with
          | none => none
          | some (s1, b1) => match b1.read t.log with
            | none => none
            | some (s2, b2) => (huffTable (huffWeights t 256 s1 s2 b2 []).reverse).map (fun t => (t, bs.drop h.toNat))

/-- Symbols of one Huffman stream, in reverse; the stream ends with its last symbol. -/
def huffSyms (t : HuffTable) : Nat → BackBits → List Byte → Option (List Byte)
  | 0, b, acc => if b.n = 0 then some acc else none
  | n + 1, b, acc =>
    let (sym, nb) := huffLookup t.runs (b.peek t.maxBits)
    if nb ≤ b.n then huffSyms t n ⟨b.v, b.n - nb⟩ (BitVec.ofNat 8 sym :: acc) else none

/-- One Huffman stream of n symbols. -/
def huffStream (t : HuffTable) (n : Nat) (bs : List Byte) : Option (List Byte) :=
  match BackBits.of bs with
  | none => none
  | some b => (huffSyms t n b []).map List.reverse

/-- Four Huffman streams behind their jump table, or one. -/
def huffStreams (t : HuffTable) (four : Bool) (n : Nat) (bs : List Byte) : Option (List Byte) :=
  if !four then huffStream t n bs
  else
    let len (i : Nat) := leNat ((bs.drop (2 * i)).take 2)
    let k := (n + 3) / 4
    let body := bs.drop 6
    if bs.length < 6 ∨ 3 * k > n ∨ len 0 + len 1 + len 2 > body.length then none
    else match huffStream t k (body.take (len 0)), huffStream t k ((body.drop (len 0)).take (len 1)),
        huffStream t k ((body.drop (len 0 + len 1)).take (len 2)), huffStream t (n - 3 * k) (body.drop (len 0 + len 1 + len 2)) with
      | some a, some b, some c, some d => some (a ++ b ++ c ++ d)
      | _, _, _, _ => none

/-! Blocks. -/

/-- What a frame carries from block to block: its tables and its repeat offsets. -/
structure ZTables where
  huff : Option HuffTable
  ll : Option FseTable
  off : Option FseTable
  ml : Option FseTable
  reps : Nat × Nat × Nat
  deriving DecidableEq, Repr

/-- The tables at the start of a frame. -/
def ZTables.fresh : ZTables := { huff := none, ll := none, off := none, ml := none, reps := (1, 4, 8) }

/-- The literals section: the literals, the Huffman table in force, and the bytes that follow. -/
def zLiterals (huff : Option HuffTable) (bs : List Byte) : Option (List Byte × Option HuffTable × List Byte) :=
  let v := leNat (bs.take 5)
  let typ := v % 4
  let fmt := v / 4 % 4
  if bs.isEmpty then none
  else if typ ≤ 1 then
    let (hlen, n) := if fmt % 2 = 0 then (1, v % 256 / 8) else if fmt = 1 then (2, v % 2 ^ 16 / 16) else (3, v % 2 ^ 24 / 16)
    let body := bs.drop hlen
    if bs.length < hlen then none
    else if typ = 0 then (if body.length < n then none else some (body.take n, huff, body.drop n))
    else match body with
      | [] => none
      | b :: rest => some (List.replicate n b, huff, rest)
  else
    let (hlen, w) := if fmt ≤ 1 then (3, 10) else if fmt = 2 then (4, 14) else (5, 18)
    let n := v / 16 % 2 ^ w
    let c := v / 2 ^ (4 + w) % 2 ^ w
    let body := (bs.drop hlen).take c
    if bs.length < hlen + c then none
    else
      let table := if typ = 2 then huffRead body else huff.map (fun t => (t, body))
      match table with
      | none => none
      | some (t, code) => (huffStreams t (decide (fmt ≠ 0)) n code).map (fun l => (l, some t, bs.drop (hlen + c)))

/-- The base value and the extra bits of a literals length code. -/
def llBase (c : Nat) : Nat × Nat :=
  if c < 16 then (c, 0)
  else [(16, 1), (18, 1), (20, 1), (22, 1), (24, 2), (28, 2), (32, 3), (40, 3), (48, 4), (64, 6), (128, 7), (256, 8), (512, 9),
    (1024, 10), (2048, 11), (4096, 12), (8192, 13), (16384, 14), (32768, 15), (65536, 16)].getD (c - 16) (0, 0)

/-- The base value and the extra bits of a match length code. -/
def mlBase (c : Nat) : Nat × Nat :=
  if c < 32 then (c + 3, 0)
  else [(35, 1), (37, 1), (39, 1), (41, 1), (43, 2), (47, 2), (51, 3), (59, 3), (67, 4), (83, 4), (99, 5), (131, 7), (259, 8),
    (515, 9), (1027, 10), (2051, 11), (4099, 12), (8195, 13), (16387, 14), (32771, 15), (65539, 16)].getD (c - 32) (0, 0)

def llDefault : List Int := [4, 3, 2, 2, 2, 2, 2, 2, 2, 2, 2, 2, 2, 1, 1, 1, 2, 2, 2, 2, 2, 2, 2, 2, 2, 3, 2, 1, 1, 1, 1, 1, -1, -1, -1, -1]
def offDefault : List Int := [1, 1, 1, 1, 1, 1, 2, 2, 2, 1, 1, 1, 1, 1, 1, 1, 1, 1, 1, 1, 1, 1, 1, 1, -1, -1, -1, -1, -1]
def mlDefault : List Int := [1, 4, 3, 2, 2, 2, 2, 2, 2] ++ List.replicate 37 1 ++ List.replicate 7 (-1)

/-- The table of one kind of code by its mode: predefined, RLE, FSE, or the one of the block before. -/
def zTable (mode : Nat) (defLog : Nat) (dist : List Int) (maxLog maxSym : Nat) (last : Option FseTable) (bs : List Byte) :
    Option (FseTable × List Byte) :=
  if mode = 0 then some (fseTable defLog dist, bs)
  else if mode = 1 then (match bs with
    | [] => none
    | b :: rest => if b.toNat ≤ maxSym then some (⟨0, [⟨b.toNat, 0, 0⟩]⟩, rest) else none)
  else if mode = 2 then fseRead maxLog maxSym bs
  else last.map (fun t => (t, bs))

/-- The three tables of a sequences section, and its bitstream. -/
def zSeqTables (t : ZTables) (modes : Nat) (bs : List Byte) : Option (FseTable × FseTable × FseTable × List Byte) :=
  if modes % 4 ≠ 0 then none
  else match zTable (modes / 64) 6 llDefault 9 35 t.ll bs with
    | none => none
    | some (ll, b1) => match zTable (modes / 16 % 4) 5 offDefault 8 31 t.off b1 with
      | none => none
      | some (off, b2) => match zTable (modes / 4 % 4) 6 mlDefault 9 52 t.ml b2 with
        | none => none
        | some (ml, b3) => some (ll, off, ml, b3)

/-- The match offset of an offset value, and the repeat offsets after it. -/
def zOffset (reps : Nat × Nat × Nat) (value lit : Nat) : Nat × Nat × Nat × Nat :=
  let (a, b, c) := reps
  if value > 3 then (value - 3, value - 3, a, b)
  else match value + (if lit = 0 then 1 else 0) with
    | 1 => (a, a, b, c)
    | 2 => (b, b, a, c)
    | 3 => (c, c, a, b)
    | _ => (a - 1, a - 1, a, b)

/-- A match copied behind an output held in reverse; the copy may overlap what it makes (fuel: the length). -/
def copyMatch (o : Nat) : Nat → Nat → List Byte → List Byte
  | 0, _, rev => rev
  | fuel + 1, n, rev =>
    if n ≤ o then (rev.drop (o - n)).take n ++ rev else copyMatch o fuel (n - o) (rev.take o ++ rev)

/-- The sequences of a block carried out: literals and matches behind the frame's output (held in reverse, with its length),
and the length of each sequence, in reverse. -/
structure ZSeq where
  lits : List Byte
  rev : List Byte
  len : Nat
  reps : Nat × Nat × Nat
  units : List Nat
  deriving DecidableEq, Repr

/-- One sequence: its literals, then its match, whose offset lies within the frame's window and output. -/
def ZSeq.step (x : ZSeq) (window lit mlen value : Nat) : Option ZSeq :=
  let (o, reps) := zOffset x.reps value lit
  if lit > x.lits.length ∨ o = 0 ∨ o > x.len + lit ∨ o > window then none
  else some { lits := x.lits.drop lit, rev := copyMatch o mlen mlen ((x.lits.take lit).reverse ++ x.rev), len := x.len + lit + mlen,
              reps := reps, units := (lit + mlen) :: x.units }

/-- The sequences, from the three states on; the bitstream ends with the last one's bits. -/
def zSequences (ll off ml : FseTable) (window : Nat) : Nat → Nat → Nat → Nat → BackBits → ZSeq → Option ZSeq
  | 0, _, _, _, b, x => if b.n = 0 then some x else none
  | n + 1, sl, so, sm, b, x =>
    let cl := ll.cell sl
    let co := off.cell so
    let cm := ml.cell sm
    let (bl, el) := llBase cl.sym
    let (bm, em) := mlBase cm.sym
    match b.read co.sym with
    | none => none
    | some (vo, b1) => match b1.read em with
      | none => none
      | some (vm, b2) => match b2.read el with
        | none => none
        | some (vl, b3) => match x.step window (bl + vl) (bm + vm) (2 ^ co.sym + vo) with
          | none => none
          | some x1 =>
            if n = 0 then zSequences ll off ml window n sl so sm b3 x1
            else match b3.read cl.nbits with
              | none => none
              | some (dl, b4) => match b4.read cm.nbits with
                | none => none
                | some (dm, b5) => match b5.read co.nbits with
                  | none => none
                  | some (d, b6) => zSequences ll off ml window n (cl.base + dl) (co.base + d) (cm.base + dm) b6 x1

/-- The number of sequences, and the bytes that follow it. -/
def zSeqCount (bs : List Byte) : Option (Nat × List Byte) :=
  match bs with
  | [] => none
  | a :: r1 =>
    if a.toNat < 128 then some (a.toNat, r1)
    else match r1 with
      | [] => none
      | b :: r2 =>
        if a.toNat < 255 then some ((a.toNat - 128) * 256 + b.toNat, r2)
        else match r2 with
          | [] => none
          | c :: r3 => some (b.toNat + c.toNat * 256 + 0x7F00, r3)

/-- What is left of the literals after the last sequence. -/
def ZSeq.finish (x : ZSeq) : ZSeq :=
  if x.lits.isEmpty then x
  else { x with lits := [], rev := x.lits.reverse ++ x.rev, len := x.len + x.lits.length, units := x.lits.length :: x.units }

/-- A compressed block (RFC 8878, clause 3.1.1.3). -/
def zCompressed (t : ZTables) (window : Nat) (rev : List Byte) (len : Nat) (bs : List Byte) : Option (ZTables × ZSeq) :=
  match zLiterals t.huff bs with
  | none => none
  | some (lits, huff, b1) =>
    let x : ZSeq := { lits := lits, rev := rev, len := len, reps := t.reps, units := [] }
    match zSeqCount b1 with
    | none => none
    | some (0, rest) => if rest.isEmpty then some ({ t with huff := huff }, x.finish) else none
    | some (_, []) => none
    | some (n, m :: b2) => match zSeqTables t m.toNat b2 with
      | none => none
      | some (ll, off, ml, code) => match BackBits.of code with
        | none => none
        | some b => match b.read ll.log with
          | none => none
          | some (sl, c1) => match c1.read off.log with
            | none => none
            | some (so, c2) => match c2.read ml.log with
              | none => none
              | some (sm, c3) => (zSequences ll off ml window n sl so sm c3 x).map (fun y =>
                ({ huff := huff, ll := some ll, off := some off, ml := some ml, reps := y.reps }, y.finish))

/-- A block of a type and size: Raw, RLE or Compressed; its content decodes to at most the block maximum (R100). -/
def zBlock (t : ZTables) (window typ size : Nat) (rev : List Byte) (len : Nat) (content : List Byte) : Option (ZTables × ZSeq) :=
  let most := min window 131072
  let whole (bs : List Byte) : ZTables × ZSeq :=
    (t, { lits := [], rev := bs.reverse ++ rev, len := len + bs.length, reps := t.reps, units := [bs.length] })
  if size > most then none
  else if typ = 0 then some (whole content)
  else if typ = 1 then some (whole (List.replicate size (content.getD 0 0)))
  else if typ = 2 then (match zCompressed t window rev len content with
    | some (t1, y) => if y.len - len ≤ most then some (t1, y) else none
    | none => none)
  else none

/-! Frames. -/

/-- A frame header (RFC 8878, clause 3.1.1.1): its length with the magic number, and what it says. -/
structure ZHead where
  size : Nat
  single : Bool
  csum : Bool
  dict : Nat
  fcs : Option Nat
  window : Nat
  deriving DecidableEq, Repr

/-- What stands at the start of some bytes: too few to tell, no frame, a header that is not accepted, or a frame. -/
inductive ZStart where
  | short
  | noFrame
  | bad
  | skip (len : Nat)
  | frame (h : ZHead)
  deriving DecidableEq, Repr

/-- Some bytes may still become a magic number. -/
def zMagicPrefix (bs : List Byte) : Bool :=
  bs.isPrefixOf (leBytes 4 0xFD2FB528) ||
  (List.range 16).any (fun i => bs.isPrefixOf (leBytes 4 (0x184D2A50 + i)))

/-- The start of a frame or of a skippable frame. -/
def zStart (bs : List Byte) : ZStart :=
  let magic := leNat (bs.take 4)
  if bs.length < 4 then (if zMagicPrefix bs then .short else .noFrame)
  else if magic / 16 = 0x184D2A5 then (if bs.length < 8 then .short else .skip (8 + leNat ((bs.drop 4).take 4)))
  else if magic ≠ 0xFD2FB528 then .noFrame
  else match bs.drop 4 with
    | [] => .short
    | d :: _ =>
      let d := d.toNat
      let single := d.testBit 5
      let wlen := if single then 0 else 1
      let dlen := if d % 4 = 3 then 4 else d % 4
      let flen := if d / 64 = 0 then (if single then 1 else 0) else 2 ^ (d / 64)
      let w := (bs.getD 5 0).toNat
      let f := leNat ((bs.drop (5 + wlen + dlen)).take flen)
      let fcs := if flen = 0 then none else if flen = 2 then some (f + 256) else some f
      if d.testBit 3 then .bad
      else if bs.length < 5 + wlen + dlen + flen then .short
      else .frame { size := 5 + wlen + dlen + flen, single := single, csum := d.testBit 2, dict := leNat ((bs.drop (5 + wlen)).take dlen),
                    fcs := fcs, window := if single then fcs.getD 0 else 2 ^ (10 + w / 8) + 2 ^ (10 + w / 8) / 8 * (w % 8) }

/-- How decoding stops: at the end of a frame, for want of input, for want of space (with sequences of the block held), or
with a status of R107. -/
inductive CodeStop where
  | ended
  | short
  | full
  | failed (status : Nat)
  deriving DecidableEq, Repr

/-- Limits on the output, each counted from its start: the space there is (R97), EXPECT_LEN and the frame's content size (R100);
and whether a Compressed block must be smaller than its content, as a compressor writes it (R88). -/
structure CodeLimits where
  space : Nat
  expect : Option Nat
  fcs : Option Nat
  small : Bool
  deriving DecidableEq, Repr

/-- Whole sequences or code words are put out while they fit (R97, R100): the output's new length, and why it stopped. -/
def emitUnits (l : CodeLimits) (total : Nat) : List Nat → Nat × Option CodeStop
  | [] => (total, none)
  | n :: ns =>
    let t := total + n
    let past (x : Option Nat) : Bool := x.any (fun m => decide (t > m))
    if past l.expect && l.expect.all (fun m => decide (m ≤ l.space)) && (!past l.fcs || decide (l.expect.getD 0 ≤ l.fcs.getD 0)) then
      (l.expect.getD 0, some (.failed 0x16))
    else if past l.fcs && l.fcs.all (fun m => decide (m ≤ l.space)) then (l.fcs.getD 0, some (.failed 0x15))
    else if t > l.space then (total, some .full)
    else emitUnits l t ns

/-- Where the decoder stands: how it stopped, the input not taken and how much was, the output in reverse and its length. -/
structure CodeRun where
  stop : CodeStop
  rest : List Byte
  pos : Nat
  rev : List Byte
  total : Nat
  deriving DecidableEq, Repr

/-- The blocks of a frame and its checksum (R88, R100). The output before the frame stays below it, unreachable (start). -/
def zBlocks (h : ZHead) (l : CodeLimits) (start : Nat) : Nat → ZTables → List Byte → Nat → List Byte → Nat → CodeRun
  | 0, _, bs, pos, rev, total => ⟨.short, bs, pos, rev, total⟩
  | fuel + 1, t, bs, pos, rev, total =>
    let b := leNat (bs.take 3)
    let typ := b / 2 % 4
    let size := b / 8
    let clen := if typ = 1 then 1 else size
    if bs.length < 3 then ⟨.short, bs, pos, rev, total⟩
    else if typ = 3 ∨ size > min h.window 131072 then ⟨.failed 0x12, bs, pos, rev, total⟩
    else if bs.length < 3 + clen then ⟨.short, bs, pos, rev, total⟩
    else match zBlock t h.window typ size rev (total - start) ((bs.drop 3).take clen) with
      | none => ⟨.failed 0x12, bs, pos, rev, total⟩
      | some (t1, y) =>
        if l.small && typ == 2 && decide (y.len - (total - start) ≤ clen) then ⟨.failed 0x12, bs, pos, rev, total⟩ else
        let rest := bs.drop (3 + clen)
        let pos1 := pos + 3 + clen
        match emitUnits l total y.units.reverse with
        | (n, some why) => ⟨why, rest, pos1, y.rev.drop (start + y.len - n), n⟩
        | (n, none) =>
          if b % 2 = 0 then zBlocks h l start fuel t1 rest pos1 y.rev n
          else if h.fcs.any (fun m => decide (n - start ≠ m)) then ⟨.failed 0x15, rest, pos1, y.rev, n⟩
          else if !h.csum then ⟨.ended, rest, pos1, y.rev, n⟩
          else if rest.length < 4 then ⟨.short, rest, pos1, y.rev, n⟩
          else if leNat (rest.take 4) ≠ contentCheckOf (y.rev.take (n - start)).reverse then ⟨.failed 0x17, rest.drop 4, pos1 + 4, y.rev, n⟩
          else ⟨.ended, rest.drop 4, pos1 + 4, y.rev, n⟩

end Sys2Proof.Machine
end

