-- ==== Sys2Proof/Machine/Deflate.lean ====
section
/-!
DEFINITION. Machine/Deflate.lean: the decoder of WZ4410 gzip members (R92 to R95): RFC 1952 members with their subfield, and
RFC 1951 deflate data. Statuses are those of R107. The input is held as a number, so that bits are taken by shifts.
-/

namespace Sys2Proof.Machine

/-! Bits and codes. -/

/-- A bitstream read from its start: its number, how many bits there are, and the place of the next. -/
structure FwdBits where
  v : Nat
  size : Nat
  at_ : Nat
  deriving DecidableEq, Repr

/-- What taking something from the input gives: too few bits, nothing that decodes, or a value and the bits after it. -/
inductive Took (α : Type) where
  | short
  | bad
  | got (a : α) (b : FwdBits)

/-- The next k bits. -/
def FwdBits.take (b : FwdBits) (k : Nat) : Took Nat :=
  if b.at_ + k ≤ b.size then .got ((b.v >>> b.at_) % 2 ^ k) { b with at_ := b.at_ + k } else .short

/-- A canonical prefix code: how many codes have each length from 1 to 15, and the symbols in order. -/
structure PrefixCode where
  counts : List Nat
  syms : List Nat
  deriving DecidableEq, Repr

/-- What is left of the code space after the codes of each length; none when there are too many (RFC 1951). -/
def codeSpace : List Nat → Nat → Option Nat
  | [], left => some left
  | c :: rest, left => if c ≤ 2 * left then codeSpace rest (2 * left - c) else none

/-- The code of a list of lengths: it must be complete, or, where one is allowed, a single code of one bit. -/
def prefixCode (single : Bool) (lens : List Nat) : Option PrefixCode :=
  let counts := (List.range 15).map (fun i => (lens.filter (fun l => l == i + 1)).length)
  let code : PrefixCode :=
    ⟨counts, (List.range 15).flatMap (fun i => (lens.zipIdx.filter (fun p => p.1 == i + 1)).map Prod.snd)⟩
  match codeSpace counts 1 with
  | none => none
  | some 0 => some code
  | some _ => if single && counts.sum ≤ 1 && counts.getD 0 0 == counts.sum then some code else none

/-- A symbol, bit by bit through the lengths. -/
def PrefixCode.walk (c : PrefixCode) (b : FwdBits) : List Nat → Nat → Nat → Nat → Nat → Took Nat
  | [], _, _, _, _ => .bad
  | n :: rest, k, code, first, index =>
    if b.at_ + k ≥ b.size then .short
    else
      let code := code + (b.v >>> (b.at_ + k)) % 2
      if code < first + n then .got (c.syms.getD (index + (code - first)) 0) { b with at_ := b.at_ + k + 1 }
      else c.walk b rest (k + 1) (2 * code) (2 * (first + n)) (index + n)

/-- The next symbol of a code. -/
def PrefixCode.next (c : PrefixCode) (b : FwdBits) : Took Nat := c.walk b c.counts 0 0 0 0

/-! Deflate blocks. -/

/-- The two codes of a block with fixed codes. -/
def fixedLit : List Nat := List.replicate 144 8 ++ List.replicate 112 9 ++ List.replicate 24 7 ++ List.replicate 8 8
def fixedDist : List Nat := List.replicate 30 5

/-- The base and extra bits of a length symbol from 257, and of a distance symbol. -/
def lenBase (i : Nat) : Nat × Nat :=
  if i < 8 then (i + 3, 0) else if i = 28 then (258, 0)
  else (2 ^ (i / 4 - 1) * (4 + i % 4) + 3, i / 4 - 1)
def distBase (i : Nat) : Nat × Nat :=
  if i < 4 then (i + 1, 0) else (2 ^ (i / 2 - 1) * (2 + i % 2) + 1, i / 2 - 1)

/-- Code lengths of a dynamic block, in reverse: repeats and runs of zeros (fuel: the lengths there are). -/
def dynLens (c : PrefixCode) (total : Nat) : Nat → FwdBits → List Nat → Took (List Nat)
  | 0, _, _ => .bad
  | fuel + 1, b, acc =>
    if acc.length = total then .got acc b
    else if acc.length > total then .bad
    else match c.next b with
      | .short => .short
      | .bad => .bad
      | .got s b1 =>
        if s < 16 then dynLens c total fuel b1 (s :: acc)
        else
          let (k, base, v) := if s = 16 then (2, 3, acc.head?) else if s = 17 then (3, 3, some 0) else (7, 11, some 0)
          match v, b1.take k with
          | none, _ => .bad
          | _, .short => .short
          | _, .bad => .bad
          | some v, .got n b2 => dynLens c total fuel b2 (List.replicate (base + n) v ++ acc)

/-- Lengths of the code length code, three bits each (RFC 1951, clause 3.2.7). -/
def clLens : Nat → FwdBits → List Nat → Took (List Nat)
  | 0, b, acc => .got acc b
  | n + 1, b, acc => match b.take 3 with
    | .got l b1 => clLens n b1 (l :: acc)
    | .short => .short
    | .bad => .bad

def clOrder : List Nat := [16, 17, 18, 0, 8, 7, 9, 6, 10, 5, 11, 4, 12, 3, 13, 2, 14, 1, 15]

/-- The codes of a dynamic block. -/
def dynCodes (b : FwdBits) : Took (PrefixCode × PrefixCode) :=
  match b.take 14 with
  | .short => .short
  | .bad => .bad
  | .got h b1 =>
    let nlit := h % 32 + 257
    let ndist := h / 32 % 32 + 1
    if nlit > 286 ∨ ndist > 30 then .bad
    else match clLens (h / 1024 + 4) b1 [] with
      | .short => .short
      | .bad => .bad
      | .got acc b2 =>
        let ls := clOrder.zip acc.reverse
        match prefixCode false ((List.range 19).map (fun i => ((ls.find? (fun p => p.1 == i)).map Prod.snd).getD 0)) with
        | none => .bad
        | some c => match dynLens c (nlit + ndist) (nlit + ndist + 1) b2 [] with
          | .short => .short
          | .bad => .bad
          | .got acc b3 =>
            let lens := acc.reverse
            if lens.getD 256 0 = 0 then .bad
            else match prefixCode true (lens.take nlit), prefixCode true (lens.drop nlit) with
              | some l, some d => .got (l, d) b3
              | _, _ => .bad

/-- Where the inflater stands in a member: the last code word taken, the member's history and output in reverse. -/
structure Inflated where
  stop : CodeStop
  b : FwdBits
  rev : List Byte
  total : Nat
  deriving DecidableEq, Repr

/-- A code word of a block: a literal, the end of the block, or a match. -/
inductive CodeWord where
  | lit (v : Nat)
  | endBlock
  | copy (len dist : Nat)

/-- The next code word. -/
def codeWord (lit dist : PrefixCode) (b : FwdBits) : Took CodeWord :=
  match lit.next b with
  | .short => .short
  | .bad => .bad
  | .got s b1 =>
    if s < 256 then .got (.lit s) b1
    else if s = 256 then .got .endBlock b1
    else if s > 285 then .bad
    else
      let (lb, le) := lenBase (s - 257)
      match b1.take le with
      | .short => .short
      | .bad => .bad
      | .got lx b2 => match dist.next b2 with
        | .short => .short
        | .bad => .bad
        | .got d b3 =>
          if d > 29 then .bad
          else
            let (db, de) := distBase d
            match b3.take de with
            | .short => .short
            | .bad => .bad
            | .got dx b4 => .got (.copy (lb + lx) (db + dx)) b4

/-- One unit of output within the limits (R97, R100). -/
def putOut (l : CodeLimits) (total n : Nat) : Nat × Option CodeStop := emitUnits l total [n]

/-- The code words of a block. The history a distance may reach starts where the given output length ends (R94). -/
def inflateWords (l : CodeLimits) (start : Nat) (lit dist : PrefixCode) : Nat → FwdBits → List Byte → Nat → Inflated
  | 0, b, rev, total => ⟨.short, b, rev, total⟩
  | fuel + 1, b, rev, total =>
    match codeWord lit dist b with
    | .short => ⟨.short, b, rev, total⟩
    | .bad => ⟨.failed 0x12, b, rev, total⟩
    | .got .endBlock b1 => ⟨.ended, b1, rev, total⟩
    | .got (.lit v) b1 => (match putOut l total 1 with
      | (n, none) => inflateWords l start lit dist fuel b1 (BitVec.ofNat 8 v :: rev) n
      | (n, some why) => ⟨why, b, rev, n⟩)
    | .got (.copy k d) b1 =>
      if d > total - start then ⟨.failed 0x12, b, rev, total⟩
      else match putOut l total k with
        | (n, none) => inflateWords l start lit dist fuel b1 (copyMatch d k k rev) n
        | (n, some why) => ⟨why, b, (copyMatch d k k rev).drop (total + k - n), n⟩

/-- The bytes of a stored block. -/
def inflateStored (l : CodeLimits) : Nat → FwdBits → List Byte → Nat → Inflated
  | 0, b, rev, total => ⟨.ended, b, rev, total⟩
  | k + 1, b, rev, total => match b.take 8 with
    | .got v b1 => (match putOut l total 1 with
      | (n, none) => inflateStored l k b1 (BitVec.ofNat 8 v :: rev) n
      | (n, some why) => ⟨why, b, rev, n⟩)
    | _ => ⟨.short, b, rev, total⟩

/-- One block from its header on. -/
def inflateBlock (l : CodeLimits) (start : Nat) (b : FwdBits) (rev : List Byte) (total : Nat) : Inflated :=
  match b.take 3 with
  | .got h b1 =>
    if h / 2 = 0 then
      let b2 := { b1 with at_ := (b1.at_ + 7) / 8 * 8 }
      match b2.take 32 with
      | .got w b3 =>
        if w % 2 ^ 16 + w / 2 ^ 16 ≠ 0xFFFF then ⟨.failed 0x12, b, rev, total⟩ else inflateStored l (w % 2 ^ 16) b3 rev total
      | _ => ⟨.short, b, rev, total⟩
    else if h / 2 = 1 then
      (match prefixCode false fixedLit with
      | some lit => inflateWords l start lit ⟨[0, 0, 0, 0, 30, 0, 0, 0, 0, 0, 0, 0, 0, 0, 0], List.range 30⟩ b.size b1 rev total
      | none => ⟨.failed 0x12, b, rev, total⟩)
    else if h / 2 = 2 then
      (match dynCodes b1 with
      | .got (lit, dist) b2 => inflateWords l start lit dist b.size b2 rev total
      | .short => ⟨.short, b, rev, total⟩
      | .bad => ⟨.failed 0x12, b, rev, total⟩)
    else ⟨.failed 0x12, b, rev, total⟩
  | _ => ⟨.short, b, rev, total⟩

/-- The blocks of a member, up to the one with BFINAL (fuel: the bits there are). -/
def inflate (l : CodeLimits) (start : Nat) : Nat → FwdBits → List Byte → Nat → Inflated
  | 0, b, rev, total => ⟨.short, b, rev, total⟩
  | fuel + 1, b, rev, total =>
    let r := inflateBlock l start b rev total
    match r.stop with
    | .ended => if (b.v >>> b.at_) % 2 = 1 then r else inflate l start fuel r.b r.rev r.total
    | _ => r

/-! Members. -/

/-- A member header that is accepted (R93): its length, and its WZ4410 subfield: HIST and MEMBER_SEQ. -/
structure GzHead where
  size : Nat
  hist : Bool
  seq : Option Nat
  deriving DecidableEq, Repr

/-- What stands at the start of some bytes: too few to tell, no member, a header refused with a status, or a member. -/
inductive GzStart where
  | short
  | noMember
  | refused (status : Nat)
  | member (h : GzHead)
  deriving DecidableEq, Repr

/-- Bytes up to and with the zero that ends a name or a comment. -/
def zeroEnd (bs : List Byte) : Option Nat := if bs.any (fun b => b == 0) then some (bs.findIdx (fun b => b == 0) + 1) else none

/-- The WZ4410 subfield among the extra subfields of a member (fuel: their bytes). DESIGN CHOICE (assumption 74): its reserved bits
are not looked at, and one of another length is passed over as a subfield of someone else's. -/
def gzSubfield : Nat → List Byte → Option (Bool × Nat)
  | 0, _ => none
  | fuel + 1, x =>
    let n := leNat ((x.drop 2).take 2)
    if x.length < 4 ∨ x.length < 4 + n then none
    else if leNat (x.take 2) = 0x5A57 ∧ n = 8 then some ((x.getD 4 0).getLsbD 0, leNat ((x.drop 8).take 4))
    else gzSubfield fuel (x.drop (4 + n))

/-- The start of a member (R93). A header of more than 1,024 bytes is not accepted. -/
def gzStart (bs : List Byte) : GzStart :=
  let refuse : GzStart := .refused 0x10
  let more : GzStart := if bs.length ≥ 1024 then refuse else .short
  let flg := (bs.getD 3 0).toNat
  if bs.length < 2 then (if bs.isPrefixOf [0x1F, 0x8B] then .short else .noMember)
  else if leNat (bs.take 2) ≠ 0x8B1F then .noMember
  else if bs.length < 10 then .short
  else if bs.getD 2 0 ≠ 8 ∨ flg ≥ 32 then refuse
  else
    let xlen := leNat ((bs.drop 10).take 2)
    let extra := flg.testBit 2
    let p1 := if extra then 12 + xlen else 10
    if (extra && bs.length < 12) || bs.length < p1 then more
    else match (if flg.testBit 3 then zeroEnd (bs.drop p1) else some 0) with
      | none => more
      | some n => match (if flg.testBit 4 then zeroEnd (bs.drop (p1 + n)) else some 0) with
        | none => more
        | some m =>
          let p2 := p1 + n + m
          let size := if flg.testBit 1 then p2 + 2 else p2
          let sub := if extra then gzSubfield xlen ((bs.drop 12).take xlen) else none
          if size > 1024 then refuse
          else if bs.length < size then .short
          else if flg.testBit 1 && leNat ((bs.drop p2).take 2) != crc32 (bs.take p2) % 2 ^ 16 then .refused 0x18
          else .member { size := size, hist := sub.any Prod.fst, seq := sub.map Prod.snd }

/-- The deflate data of a member and its trailer (R95), behind the output of the members before it. -/
def gzMember (h : GzHead) (l : CodeLimits) (bs : List Byte) (pos : Nat) (rev : List Byte) (total : Nat) : CodeRun :=
  let body := bs.drop h.size
  let b : FwdBits := ⟨leNat body, 8 * body.length, 0⟩
  let r := inflate l (if h.hist then 0 else total) b.size b rev total
  let n := match r.stop with | .ended => (r.b.at_ + 7) / 8 | _ => r.b.at_ / 8
  let rest := body.drop n
  let pos1 := pos + h.size + n
  match r.stop with
  | .ended =>
    if rest.length < 8 then ⟨.short, rest, pos1, r.rev, r.total⟩
    else if leNat (rest.take 4) ≠ crc32 (r.rev.take (r.total - total)).reverse then ⟨.failed 0x18, rest.drop 8, pos1 + 8, r.rev, r.total⟩
    else if leNat ((rest.drop 4).take 4) ≠ (r.total - total) % 2 ^ 32 then ⟨.failed 0x19, rest.drop 8, pos1 + 8, r.rev, r.total⟩
    else ⟨.ended, rest.drop 8, pos1 + 8, r.rev, r.total⟩
  | why => ⟨why, rest, pos1, r.rev, r.total⟩

end Sys2Proof.Machine
end

