-- ==== Sys2Proof/Machine/Codec.lean ====
section
/-!
DEFINITION. Machine/Codec.lean: what the lanes of CMP make of Zstandard frames and gzip members: the streams of the job rings
(R89 to R97, R100), the frame of a chunk as the compressor writes it (R83), and the checks of an expansion (R87).
-/

namespace Sys2Proof.Machine

/-- What a stream's compressed bytes decode to: the status of R107, the bytes taken, the output in reverse and its length,
whether it stands at a frame or member end, the bytes of a frame begun and not yet decodable, whether sequences are held
(R97), the running check of the frame or member (R106), and the member's number. -/
structure Decoded where
  status : Nat
  pos : Nat
  rev : List Byte
  total : Nat
  atEnd : Bool
  left : Nat
  held : Bool
  check : Nat
  seq : Option Nat
  deriving DecidableEq, Repr

/-- The output in order. -/
def Decoded.out (d : Decoded) : List Byte := d.rev.reverse

/-- The input ends in a frame or member: an END job is truncated (R100), another takes all of it. -/
def endShort (isEnd : Bool) (r : CodeRun) (check : Nat) (seq : Option Nat) : Decoded :=
  { status := if isEnd then 0x13 else 0, pos := r.pos + r.rest.length, rev := r.rev, total := r.total, atEnd := false,
    left := r.rest.length, held := false, check := check, seq := seq }

/-- A stop with a status where the decoder stands. -/
def endAt (status : Nat) (r : CodeRun) (held : Bool) (check : Nat) (seq : Option Nat) : Decoded :=
  { status := status, pos := r.pos, rev := r.rev, total := r.total, atEnd := false, left := 0, held := held, check := check, seq := seq }

/-- A stream of Zstandard frames and skippable frames from its START on (R88, R91, R97, R100). After at least one frame,
bytes that begin none are TRAILING in an END job (fuel: the bytes). DESIGN CHOICE (assumption 75): a frame without the checksum that
the descriptor's CSUM requires ends BAD_HEADER. -/
def zstdStream (wlog : Nat) (csum isEnd : Bool) (l : CodeLimits) : Nat → Bool → Nat → CodeRun → Decoded
  | 0, _, check, r => endShort isEnd r check none
  | fuel + 1, any, check, r =>
    if r.rest.isEmpty then
      { endShort (isEnd && !any) r check none with atEnd := any }
    else match zStart r.rest with
      | .short => endShort isEnd r check none
      | .noFrame => endAt (if isEnd && any then 0x14 else 0x10) r false check none
      | .bad => endAt 0x10 r false check none
      | .skip n =>
        if r.rest.length < n then endShort isEnd r check none
        else zstdStream wlog csum isEnd l fuel true check { r with rest := r.rest.drop n, pos := r.pos + n }
      | .frame h =>
        if h.dict ≠ 0 ∨ h.window > 2 ^ wlog then endAt 0x11 r false check none
        else if csum && !h.csum then endAt 0x10 r false check none
        else
          let r1 := zBlocks h { l with fcs := h.fcs.map (fun n => r.total + n) } r.total r.rest.length ZTables.fresh
            (r.rest.drop h.size) (r.pos + h.size) r.rev r.total
          let c := contentCheckOf (r1.rev.take (r1.total - r.total)).reverse
          match r1.stop with
          | .ended => zstdStream wlog csum isEnd l fuel true c r1
          | .short => endShort isEnd r1 c none
          | .full => endAt 1 r1 true c none
          | .failed n => endAt n r1 false c none

/-- A stream of gzip members from its START on (R93 to R95, R97, R100). -/
def gzStream (isEnd : Bool) (l : CodeLimits) : Nat → Bool → Option Nat → Nat → CodeRun → Decoded
  | 0, _, seq, check, r => endShort isEnd r check seq
  | fuel + 1, any, seq, check, r =>
    if r.rest.isEmpty then { endShort (isEnd && !any) r check seq with atEnd := any }
    else match gzStart r.rest with
      | .short => endShort isEnd r check seq
      | .noMember => endAt (if isEnd && any then 0x14 else 0x10) r false check seq
      | .refused n => endAt n r false check seq
      | .member h =>
        if h.hist && (!any || h.seq != seq.map (fun n => n + 1)) then endAt 0x1A r false check seq
        else
          let r1 := gzMember h l r.rest r.pos r.rev r.total
          let c := crc32 (r1.rev.take (r1.total - r.total)).reverse
          match r1.stop with
          | .ended => gzStream isEnd l fuel true h.seq c r1
          | .short => endShort isEnd r1 c h.seq
          | .full => endAt 1 r1 false c h.seq
          | .failed n => endAt n r1 false c h.seq

/-- A stream of compressed bytes decoded from its START on. Opcodes 1 and 2 are Zstandard, 3 and 4 gzip (R104). -/
def decodeStream (op wlog : Nat) (csum isEnd : Bool) (l : CodeLimits) (bs : List Byte) : Decoded :=
  let r : CodeRun := ⟨.short, bs, 0, [], 0⟩
  if op ≤ 2 then zstdStream wlog csum isEnd l (bs.length + 1) false (contentCheckOf []) r
  else gzStream isEnd l (bs.length + 1) false none (crc32 []) r

/-- No limit on the output. -/
def noLimits : CodeLimits := { space := 2 ^ 64, expect := none, fcs := none, small := false }

/-! What a compressor writes. -/

/-- The Zstandard frame header that a START job writes (R90): Single_Segment and the size in its smallest field in a
single-shot job, else a Window_Descriptor. -/
def zstdHeader (single csum : Bool) (wlog len : Nat) : List Byte :=
  let c := if csum then 4 else 0
  leBytes 4 0xFD2FB528 ++
  (if !single then [BitVec.ofNat 8 c, BitVec.ofNat 8 ((wlog - 10) * 8)]
   else if len < 256 then [BitVec.ofNat 8 (0x20 + c), BitVec.ofNat 8 len]
   else if len < 65536 + 256 then BitVec.ofNat 8 (0x60 + c) :: leBytes 2 (len - 256)
   else BitVec.ofNat 8 (0xA0 + c) :: leBytes 4 len)

/-- The member header that a compress job writes (R92). -/
def gzHeader (hist : Bool) (seq : Nat) : List Byte :=
  [0x1F, 0x8B, 8, 4] ++ leBytes 4 0 ++ [0, 255] ++ leBytes 2 12 ++ [0x57, 0x5A] ++ leBytes 2 8 ++ [if hist then 1 else 0, 0, 0, 0] ++
  leBytes 4 seq

/-- Zstandard bytes are one frame that decodes to a text, up to its end when it has been closed and else to a block boundary (R83,
R88 to R90): no second frame, no skippable one, and no Compressed block that is not smaller than its content. -/
def oneFrame (closed : Bool) (code text : List Byte) : Bool :=
  match zStart code with
  | .frame h =>
    let r := zBlocks h { noLimits with fcs := h.fcs, small := true } 0 code.length ZTables.fresh (code.drop h.size) h.size [] 0
    (match r.stop with | .ended => closed | .short => !closed | _ => false) && r.rest.isEmpty && r.rev.reverse == text
  | _ => false

/-- The stream of compressed bytes decodes to what a compressor has taken (R89, R92): to a frame or member end when it has
been closed, else to a block boundary, behind an empty stored block in gzip. -/
def encodes (op : Nat) (closed : Bool) (code text : List Byte) : Bool :=
  if op ≤ 2 then oneFrame closed code text
  else
    let r := decodeStream op 64 false false noLimits code
    r.status == 0 && r.left == 0 && r.atEnd == closed && r.out == text &&
    (closed || code.isEmpty || [0, 0, 0xFF, 0xFF].isSuffixOf code)

/-- A block as the compressor of chunks writes it (R83): one Huffman stream for fewer than 256 literals and four for more, and
the Predefined or FSE_Compressed modes. -/
def chunkBlockForm (content : List Byte) : Bool :=
  let v := leNat (content.take 5)
  let n := if v / 4 % 4 ≤ 1 then v / 16 % 2 ^ 10 else if v / 4 % 4 = 2 then v / 16 % 2 ^ 14 else v / 16 % 2 ^ 18
  v % 4 != 3 && (v % 4 != 2 || (v / 4 % 4 == 0) == decide (n < 256)) &&
  match zLiterals none content with
  | none => false
  | some (_, _, rest) => match zSeqCount rest with
    | none => false
    | some (0, _) => true
    | some (_, m) => [6, 4, 2].all (fun i => (m.getD 0 0).toNat / 2 ^ i % 4 == 0 || (m.getD 0 0).toNat / 2 ^ i % 4 == 2)

/-- A frame is the one frame of a compressed chunk with that content (R83): its header, one last block of type RLE or
Compressed, and a checksum when CSUM_EN is 1. -/
def chunkFrame (csum : Bool) (content frame : List Byte) : Bool :=
  let h := zstdHeader true csum 0 content.length
  let b := leNat ((frame.drop 7).take 3)
  frame.take 7 == h && b % 2 == 1 && (b / 2 % 4 == 1 || (b / 2 % 4 == 2 && chunkBlockForm (frame.drop 10))) &&
  encodes 1 true frame content

/-! Expansion of a chunk (R87). -/

/-- The payload of a chunk decoded as far as a space allows; none when step 2 of R87 refuses its header. -/
def expandRun (gz : Bool) (len space : Nat) (payload : List Byte) : Option CodeRun :=
  if gz then
    match gzStart payload with
    | .member h => if h.hist then none else some (gzMember h { noLimits with space := space, expect := some len } payload 0 [] 0)
    | _ => none
  else match zStart payload with
    | .frame h =>
      if !h.single ∨ h.dict ≠ 0 ∨ h.fcs ≠ some len then none
      else some (zBlocks h { noLimits with space := space, fcs := some len } 0 payload.length ZTables.fresh (payload.drop h.size)
        h.size [] 0)
    | _ => none

/-- Steps 2 to 5 of R87 for a payload that is not raw: the step that fails, or 0 and the output. -/
def expandPayload (gz : Bool) (len : Nat) (payload : List Byte) : Nat × List Byte :=
  match expandRun gz len (2 ^ 64) payload with
  | none => (2, [])
  | some r => match r.stop with
    | .ended => if r.total ≠ len then (4, []) else if r.rest.isEmpty then (0, r.rev.reverse) else (5, [])
    | .short => if r.total < len then (4, []) else (5, [])
    | .full => (4, [])
    | .failed n => if n = 0x12 then (3, []) else if n = 0x15 ∨ n = 0x16 ∨ r.total < len then (4, []) else (5, [])

/-- The output of a chunk's payload up to the last whole sequence or code word within a space (R25, R78). -/
def expandUpto (gz : Bool) (len space : Nat) (payload : List Byte) : Nat :=
  match expandRun gz len space payload with
  | some r => r.total
  | none => 0

end Sys2Proof.Machine
end

