-- ==== Sys2Proof/Machine/DataPath.lean ====
section
/-!
DEFINITION. Machine/DataPath.lean: the write path and the read path (chapter 02, R47 to R76; chapter 03, R82 to R87;
chapter 04, R124, R129, R131, R132, R136, R139; chapter 08, R274, R283, R286, R296, R298): cutting, fingerprints, the
Sporebank lookup, compression, encryption, merge, decryption, expansion, rewrap, and the I/O commands.
-/

namespace Sys2Proof.Machine

/-! Ranges (R273, R274). -/

/-- First byte, and the byte after the last, of a command's blocks in its namespace. -/
def Cmd.byteRange (c : Cmd) (block : Nat) : Nat × Nat := (c.slba * block, (c.slba + c.nlb) * block)

/-- The granules of a command that its blocks cover only in part (R274). -/
def Cmd.partials (c : Cmd) (block : Nat) : List Nat :=
  let (a, b) := c.byteRange block
  ((List.range c.count).map (fun i => c.first + i)).filter (fun g => decide (g * 4096 < a) || decide (b < (g + 1) * 4096))

/-- The content of a granule of 4,096 zeros. -/
def zeroGranule : List Byte := List.replicate 4096 0

/-- The part of a granule that lies within a byte range: its offset in the range, and its bytes. -/
def pieceOf (a b g : Nat) (content : List Byte) : Nat × List Byte :=
  let lo := max a (g * 4096)
  let hi := min b ((g + 1) * 4096)
  (lo - a, (content.drop (lo - g * 4096)).take (hi - lo))

/-- The whole content of a granule of a write: its blocks laid over what it held (R274). -/
def mergeGranule (a b g : Nat) (data old : List Byte) : List Byte :=
  let lo := max a (g * 4096)
  let hi := min b ((g + 1) * 4096)
  old.take (lo - g * 4096) ++ (data.drop (lo - a)).take (hi - lo) ++ (old.drop (hi - g * 4096)).take ((g + 1) * 4096 - hi)

/-! Cutting (R47). -/

/-- C of R47, in granules. -/
def State.chunkGranules (s : State) : Nat := 2 ^ s.fld F.RDX.CONFIG.CHUNK

/-- Runs of granules within one chunk window, in order (R47). -/
def cutWindows (c : Nat) : List (Nat × List Byte) → List (Nat × List (List Byte)) → List (Nat × List (List Byte))
  | [], acc => acc.reverse
  | (g, b) :: rest, (g0, bs) :: acc =>
    if g / c = g0 / c ∧ g = g0 + bs.length then cutWindows c rest ((g0, bs ++ [b]) :: acc)
    else cutWindows c rest ((g, [b]) :: (g0, bs) :: acc)
  | (g, b) :: rest, [] => cutWindows c rest [(g, [b])]

/-- A chunk of a write as it is cut. -/
def cutJob (key nsid me g : Nat) (bs : List (List Byte)) : ChunkJob := {
  cmd := some key, nsid := nsid, granule := g, granules := bs.length, content := bs.flatten, stage := .cut,
  fingerprint := 0, dkey := 0, addr := 0, lane := none, cmpLane := none, cmpConfig := 0,
  since := 0, driven := false, raw := false, payload := [], contentCheck := 0, keySlot := 0,
  keyId := 0, header := [], tag := 0, moves := none, loc0 := 0, loc1 := 0, ok0 := false, ok1 := false, fails0 := 0, fails1 := 0, left0 := 0, left1 := 0,
  again := 0, recorded := false, me := me }

/-- The digest slot that forms fingerprints holds a key (R52). -/
def State.digestKey (s : State) : Option KeySlot := s.slot 2 (s.fld F.RDX.CONFIG.DKEY)

/-- A chunk is a zero chunk (R48). -/
def State.zeroChunk (s : State) (content : List Byte) : Bool := s.flag F.RDX.CONFIG.ZERO_EN && content.all (fun b => b == 0)

/-- Granules of a write cut into chunks (R47); without a digest key, a chunk that is not a zero chunk ends the write
(R52). A write that changes nothing ends at once. -/
def State.cutWrite (s : State) (key : Nat) (granules : List (Nat × List Byte)) (items : List (List JItem)) : State :=
  match s.cmd key with
  | none => s
  | some c =>
    let js := (cutWindows s.chunkGranules granules []).map (fun p => cutJob key c.nsid c.me p.1 p.2)
    if js = [] ∧ items = [] then s.finish key 0
    else if s.digestKey.isNone ∧ js.any (fun j => !s.zeroChunk j.content) then s.finish key 0x7C1
    else
      let n := s.rdx.nextChunk
      let rows := js.zipIdx.map (fun p => (n + p.2, p.1))
      let s1 : State := { s with rdx := { s.rdx with
        chunks := rows.foldl (fun (m : Tab ChunkJob) p => Tab.insert m p.1 p.2) s.rdx.chunks, nextChunk := n + js.length } }
      (rows.foldl (fun (t : State) p => t.admitChunk p.1) s1).modifyCmd key (fun c => { c with stage := .writing, items := items, recorded := false, reads := [] })

/-! Reading granules (R73, R74, R278). -/

/-- The namespace whose map a command reads, and what one of its granules resolves to (R166, R278). -/
def State.resolveGranule (s : State) (c : Cmd) (g : Nat) : Option MapEntry :=
  match c.ns with
  | some n => if n.src = 0 then s.liveEntry c.nsid g else s.ftl.tables.entryAt n.src g n.snapMe
  | none => none

/-- The map pages a command needs that are not in the cache (R74). -/
def State.missingPages (s : State) (c : Cmd) (gs : List Nat) : List Nat :=
  let n := match c.ns with | some n => if n.src = 0 then c.nsid else n.src | none => c.nsid
  ((gs.map (mapPageKey n)).dedup).filter (fun k => k ∉ s.ftl.mapCached)

/-- A command waits on fetches of map pages: one fetch of a page serves all (R74). -/
def State.awaitPages (s : State) (key : Nat) (pages : List Nat) : State :=
  { s with ftl := { s.ftl with mapFetch := pages.foldl (fun (m : Tab (List Nat)) k =>
      let l := Tab.getD m k []
      Tab.insert m k (if key ∈ l then l else l ++ [key])) s.ftl.mapFetch } }

/-- A read of a chunk already begun for a command of the same tick, which serves this one too (R73). -/
def State.sharedRead (s : State) (c : Cmd) (chunk : Nat) : Option Nat :=
  (s.rdx.reads.find? (fun p => p.2.use = .host ∧ p.2.chunk = chunk ∧
    p.2.waiters.any (fun w => (s.cmd w.1).any (fun d => d.tick == c.tick)))).map Prod.fst

/-- A granule of a command resolved: zeros at once, or a read of its chunk. -/
def State.readGranule (s : State) (key : Nat) (c : Cmd) (g : Nat) : State :=
  let row (content : Option (List Byte)) : GranuleRead := { granule := g, content := content, failure := 0, keyId := 0 }
  let add (t : State) (r : GranuleRead) : State := t.modifyCmd key (fun c => { c with reads := c.reads ++ [r] })
  match s.resolveGranule c g with
  | none => add s (row (some zeroGranule))
  | some e =>
    if e.typ ≠ 2 then add s (row (some zeroGranule))
    else
      let chunk := s.ftl.tables.target e.chunk
      let s1 := add s (row none)
      match s1.sharedRead c chunk with
      | some n => s1.modifyRead n (fun r => { r with waiters := r.waiters ++ [(key, g, e.gidx)] })
      | none =>
        match s1.chunkEntry chunk with
        | some _ => s1.startRead chunk .host [(key, g, e.gidx)]
        | none => s1.modifyCmd key (fun c => { c with
            reads := c.reads.map (fun r => if r.granule = g then { r with failure := 1 } else r) })

/-- Granules read for a command (R73, R74, R290): nothing begins until every map page is present. -/
def State.readGranules (s : State) (key : Nat) (gs : List Nat) : State :=
  match s.cmd key with
  | none => s
  | some c =>
    s.onSide (s.sideOf c) (fun (t : State) =>
      match t.missingPages c gs with
      | [] =>
        gs.foldl (fun (u : State) g => u.readGranule key c g)
          (t.modifyCmd key (fun c => { c with stage := .reading, reads := [], resolved := true }))
      | pages => t.awaitPages key pages)

/-! What follows the reads of a command. -/

/-- Every granule of a command is read, or has failed. -/
def Cmd.readsSettled (c : Cmd) : Bool := c.stage == .reading && c.reads.all (fun r => r.content.isSome || r.failure != 0)

/-- Runs of consecutive granules that failed alike: first, number, KEY_ID. -/
def failedRuns (failure : Nat) : List GranuleRead → List (Nat × Nat × Nat) → List (Nat × Nat × Nat)
  | [], acc => acc.reverse
  | r :: rs, acc =>
    if r.failure ≠ failure then failedRuns failure rs acc
    else match acc with
      | (g, n, k) :: rest =>
        if g + n = r.granule ∧ k = r.keyId then failedRuns failure rs ((g, n + 1, k) :: rest)
        else failedRuns failure rs ((r.granule, 1, r.keyId) :: acc)
      | [] => failedRuns failure rs [(r.granule, 1, r.keyId)]

/-- The event records of granules that failed (R595): UNRECOVERED and KEY_UNAVAILABLE. -/
def State.failureRecords (s : State) (c : Cmd) : State :=
  let s1 := (failedRuns 1 c.reads []).foldl (fun (t : State) r => t.record Src.CMF 1 0x0500 c.nsid r.1 r.2.1) s
  (failedRuns 2 c.reads []).foldl (fun (t : State) r =>
    t.record Src.CMF 1 0x0501 c.nsid r.1 (r.2.2 * 2 ^ 32 + r.2.1)) s1

/-- The status of a command whose granules were read (R274, R296, R298). -/
def Cmd.readStatus (c : Cmd) : Nat :=
  if c.reads.any (fun r => r.failure == 1) then 0x281 else if c.reads.any (fun r => r.failure == 2) then 0x7C1 else 0

/-- Consecutive pieces joined. -/
def joinPieces : List (Nat × List Byte) → List (Nat × List Byte) → List (Nat × List Byte)
  | [], acc => acc.reverse
  | (o, b) :: rest, (o0, b0) :: acc =>
    if o = o0 + b0.length then joinPieces rest ((o0, b0 ++ b) :: acc) else joinPieces rest ((o, b) :: (o0, b0) :: acc)
  | p :: rest, [] => joinPieces rest [p]

/-- A Read returns the data of every granule that did not fail (R296, R298), and ends. -/
def State.returnRead (s : State) (key : Nat) (c : Cmd) (n : Ns) : State :=
  let (a, b) := c.byteRange n.block
  let good := c.reads.filterMap (fun r => r.content.map (fun x => pieceOf a b r.granule x))
  let whole := c.reads.flatMap (fun r => (pieceOf a b r.granule (r.content.getD zeroGranule)).2)
  if c.fromPeer.isSome then (s.modifyCmd key (fun c => { c with data := whole })).finish key c.readStatus
  else
    let s1 := (joinPieces good []).foldl (fun (t : State) p =>
      if t.stampsHold c then t.sendData key c p.1 p.2 else t.count F.VCT.STAT.COUNT 0) s
    s1.finish key c.readStatus

/-- What a command does once its granules are read: a Read returns them, a Compare compares, a Write merges and is cut
(R274, R283). -/
def State.readsDone (s : State) (key : Nat) : State :=
  match s.cmd key with
  | none => s
  | some c =>
    match c.ns with
    | none => s
    | some n =>
      if !c.readsSettled then s
      else
        let s1 := s.failureRecords c
        let (a, b) := c.byteRange n.block
        if c.opcode = 2 then s1.returnRead key c n
        else if c.readStatus ≠ 0 then s1.finish key c.readStatus
        else if c.opcode = 5 then
          let held := c.reads.flatMap (fun r => (pieceOf a b r.granule (r.content.getD [])).2)
          s1.finish key (if held = c.data then 0 else 0x285)
        else
          let old (g : Nat) : List Byte := ((c.reads.find? (fun r => r.granule = g)).bind GranuleRead.content).getD zeroGranule
          let s2 := s1.count F.CMF.STAT.COUNT 11 c.reads.length
          if c.opcode = 8 then
            let parts := c.partials n.block
            let zeros := List.replicate (b - a) (0 : Byte)
            let first := (a + 4095) / 4096
            let items : List (List JItem) := if first < b / 4096 then [[.dealloc c.nsid first (b / 4096 - first)]] else []
            s2.cutWrite key (parts.map (fun g => (g, mergeGranule a b g zeros (old g)))) items
          else
            s2.cutWrite key (((List.range c.count).map (fun i => c.first + i)).map (fun g =>
              (g, mergeGranule a b g c.data (old g)))) []

/-- A write with its data present goes on (R274, R283): whole granules at once, others after they have been read. -/
def State.beginWrite (s : State) (key : Nat) : State :=
  match s.cmd key with
  | none => s
  | some c =>
    match c.ns with
    | none => s
    | some n =>
      let parts := c.partials n.block
      if parts = [] then (s.modifyCmd key (fun c => { c with stage := .reading, reads := [] })).readsDone key
      else if s.readWaits key c then s
      else (s.readGranules key parts).readsDone key

/-- Dataset Management (R283): the whole granules of its ranges are deallocated when AD is set. -/
def State.beginDsm (s : State) (key : Nat) : State :=
  match s.cmd key with
  | none => s
  | some c =>
    match c.ns with
    | none => s
    | some n =>
      let rs := (List.range (c.cdw 10 % 256 + 1)).map (fun i =>
        (leNat ((c.data.drop (16 * i + 8)).take 8), leNat ((c.data.drop (16 * i + 4)).take 4)))
      if rs.any (fun r => decide (r.1 + r.2 > n.nsze)) then s.finish key 0x080
      else if !(c.cdw 11).testBit 2 then s.finish key 0
      else
        let whole := rs.filterMap (fun r =>
          let first := (r.1 * n.block + 4095) / 4096
          let end_ := (r.1 + r.2) * n.block / 4096
          if first < end_ then some (first, end_ - first) else none)
        let items : List (List JItem) := whole.map (fun r => [.dealloc c.nsid r.1 r.2])
        (s.modifyCmd key (fun c => { c with ranges := whole })).cutWrite key [] items

/-- A Read or Compare resolves its granules once no overlapping write of lower key is open (R290). -/
def State.beginRead (s : State) (key : Nat) : State :=
  match s.cmd key with
  | none => s
  | some c =>
    if s.readWaits key c then s
    else (s.readGranules key ((List.range c.count).map (fun i => c.first + i))).readsDone key

/-- An I/O command whose data is present goes on. -/
def State.resumeIo (s : State) (key : Nat) : State :=
  match s.cmd key with
  | none => s
  | some c =>
    if c.stage ≠ .held then s
    else if c.opcode = 1 ∨ c.opcode = 8 then s.beginWrite key
    else if c.opcode = 2 ∨ c.opcode = 5 then s.beginRead key
    else if c.opcode = 9 then s.beginDsm key
    else s

/-- An I/O command acts for the first time, or goes on. -/
def State.runIo (s : State) (key opcode : Nat) : State :=
  match s.cmd key with
  | none => s
  | some c =>
    if !c.io ∨ c.opcode ≠ opcode then s
    else if c.stage = .admitted then (s.ioStart key c).resumeIo key
    else s.resumeIo key

/-- WRITE (R283, R288): the checks, the fetch of its data, and its chunks. -/
def execWrite (key : Nat) (s : State) : Host.Outcome State Fault Refusal := .next (s.runIo key 1)

/-- READ (R283, R288): the checks, and the reads of its granules. -/
def execRead (key : Nat) (s : State) : Host.Outcome State Fault Refusal := .next (s.runIo key 2)

/-- COMPARE (R283): a read compared with the host's data; a difference gives Compare Failure. -/
def execCompare (key : Nat) (s : State) : Host.Outcome State Fault Refusal := .next (s.runIo key 5)

/-- WRITE_ZEROES (R283): whole granules become unmapped, partial granules are merged with zeros. -/
def execWriteZeroes (key : Nat) (s : State) : Host.Outcome State Fault Refusal := .next (s.runIo key 8)

/-- DATASET_MANAGEMENT (R283): with AD, the whole granules of its ranges are deallocated. -/
def execDatasetManagement (key : Nat) (s : State) : Host.Outcome State Fault Refusal := .next (s.runIo key 9)

/-- RDMA_READ_DONE (R286): the fetch of a command's data has ended. A fetch that failed, or brought fewer bytes than
asked for, ends the command with nothing done. -/
def execRdmaReadDone (key : Nat) (ok : Bool) (s : State) : Host.Outcome State Fault Refusal :=
  .next (match s.cmd key with
    | none => s
    | some c =>
      if c.stage ≠ .fetching then s
      else
        let need := if c.isConnect then 1024 else match c.ns with | some n => c.required n.block | none => 0
        if !ok || decide (c.data.length < need) then s.finish key 0x004
        else
          let s1 := s.modifyCmd key (fun c => { c with stage := .held, data := c.data.take need })
          if c.isConnect then s1 else if s1.isForwarded c then s1.forwardCmd key else s1.resumeIo key)

/-! Fingerprints (R48, R52). -/

/-- FINGERPRINT_DONE (R48, R52, R72, R148): the zero test, then HMAC-SHA-256 under the digest key on the chunk's DGS lane;
without a key the write ends, and so it does after a memory error of the lane (R68, R116). -/
def execFingerprintDone (chunk : Nat) (busError : Bool) (s : State) : Host.Outcome State Fault Refusal :=
  .next (match s.job chunk with
    | none => s
    | some j =>
      if j.stage ≠ .cut ∨ s.now ≤ j.since then s
      else if busError then (match j.cmd with | some c => s.failWrite c 0x280 | none => s)
      else if s.zeroChunk j.content then s.modifyJob chunk (fun j => { j with stage := .zero })
      else match s.digestKey, j.cmd with
        | some k, _ =>
          match s.writeEnd .dgs chunk j (16 * hmacBlocks j.content.length) with
          | none => s
          | some s1 =>
            let fp := BitVec.ofNat 256 (beNat (hmacSha256 k.key j.content))
            (s1.count F.DGS.STAT.COUNT 0).modifyJob chunk (fun j => { j with
              stage := .fingerprinted, fingerprint := fp, dkey := s.fld F.RDX.CONFIG.DKEY, lane := none, since := s.now })
        | none, some c => s.failWrite c 0x7C1
        | none, none => s)

/-! The Sporebank lookup (R55 to R57, R129, R375). -/

/-- The entry a chunk hits: R55, and CHUNK_ADDR bit 47 of the namespace's side (R375). -/
def State.lookupHit (s : State) (j : ChunkJob) (keyId side : Nat) : Option HotEntry :=
  ((s.rdx.page s.hotK j.fingerprint).find? (fun p =>
    p.2.sameChunk j.fingerprint j.granules && p.2.keyId == keyId && p.2.addr / 2 ^ 47 == side)).map Prod.snd

/-- The fingerprint joins the merge queue, unless that is full (R63, R64). -/
def State.queueMerge (s : State) (m : MergeItem) : State :=
  if s.rdx.mergeQueue.length ≥ 2 ^ s.fld F.RDX.MERGE_CTL.Q_LOG2 then (s.count F.RDX.STAT.COUNT 8).event Src.RDX 2 0 m.addr
  else { s with rdx := { s.rdx with mergeQueue := s.rdx.mergeQueue ++ [m] } }

/-- A miss (R56, R155): the chunk takes a number of its side, and with deduplication a pending entry and a place in the
merge queue. -/
def State.lookupMiss (s : State) (chunk : Nat) (j : ChunkJob) (side slot keyId : Nat) (index : Bool) : State :=
  s.onSide side (fun (s : State) =>
    let addr := side * 2 ^ 47 + s.ftl.nextChunk
    let s1 : State := { s with ftl := { s.ftl with nextChunk := s.ftl.nextChunk + 1 } }
    let s2 := s1.modifyJob chunk (fun j => { j with stage := .missed, addr := addr, keySlot := slot, keyId := keyId })
    let s2 := s2.giveLane chunk
    if index then
      (s2.hotInsert j.fingerprint {
        fpPart := fpPartOf j.fingerprint, addr := addr, granules := j.granules, isPend := true, perm := false, lost := false,
        age := 0, refCount := j.granules, keyId := keyId }).queueMerge
          { fingerprint := j.fingerprint, addr := addr, granules := j.granules, keyId := keyId }
    else s2)

/-- A fingerprint of an earlier command waits for its lookup: RDX takes them in admission order (chapter 02, before R56). -/
def State.lookupOutOfTurn (s : State) (chunk : Nat) (j : ChunkJob) : Bool :=
  s.rdx.chunks.any (fun p => p.2.stage == .fingerprinted &&
    (decide (p.2.cmd.getD 0 < j.cmd.getD 0) || (p.2.cmd == j.cmd && decide (p.1 < chunk))))

/-- SPOREBANK_LOOKUP (R55, R56, R72, R129): the data key is resolved; the fingerprint hits an entry, or is a miss. A chunk
whose pending hit has failed is a miss whatever the page holds. An exhausted key ends the write. -/
def execSporebankLookup (chunk : Nat) (s : State) : Host.Outcome State Fault Refusal :=
  .next (match s.job chunk with
    | none => s
    | some j =>
      match j.cmd.bind s.cmd with
      | none => s
      | some c =>
        match c.ns with
        | none => s
        | some n =>
          if j.stage ≠ .fingerprinted ∨ s.now ≤ j.since ∨ s.lookupOutOfTurn chunk j then s
          else match s.resolveKey 0 n.keySlot with
            | (none, s1) => (s1.count F.CIP.STAT.COUNT 10 (s.jobsOf (j.cmd.getD 0)).length).failWrite (j.cmd.getD 0) 0x7C0
            | (some (slot, _), s1) =>
              let side := s.vsetSide n.vset
              let keyId := match s1.slot 0 slot with | some k => k.keyId | none => 0
              if !s.flag F.RDX.CONFIG.DEDUPE_EN then s1.lookupMiss chunk j side slot keyId false
              else
                let s2 := s1.count F.RDX.STAT.COUNT 0
                if j.driven then (s2.count F.RDX.STAT.COUNT 3).lookupMiss chunk j side slot keyId true
                else if !s.rdx.isWarm j.fingerprint then
                  ((s2.count F.RDX.STAT.COUNT 3).count F.RDX.STAT.COUNT 4).lookupMiss chunk j side slot keyId true
                else match s2.lookupHit j keyId side with
                  | some e =>
                    let s3 := (s2.hotModify e.addr (fun x => { x with age := 0 })).hotRaise e.addr j.granules
                    if e.isPend then
                      (s3.count F.RDX.STAT.COUNT 2).modifyJob chunk (fun j => { j with
                        stage := .pendingHit, addr := e.addr, keySlot := slot, keyId := keyId })
                    else
                      (s3.count F.RDX.STAT.COUNT 1).modifyJob chunk (fun j => { j with
                        stage := .hit, addr := e.addr, keySlot := slot, keyId := keyId })
                  | none =>
                    let other := (s2.rdx.page s2.hotK j.fingerprint).any (fun p =>
                      p.2.sameChunk j.fingerprint j.granules && p.2.addr / 2 ^ 47 == side)
                    let s3 := if other then s2.count F.RDX.STAT.COUNT 5 else s2
                    (s3.count F.RDX.STAT.COUNT 3).lookupMiss chunk j side slot keyId true)

/-! Compression (R82 to R86). -/

/-- P of R84. -/
def State.probeLen (s : State) : Nat := probeOf (s.reg F.CMP.CONFIG.PROBE.addr)

/-- Why a chunk is stored raw under a word of CMP.CONFIG: 3 COMP_EN 0 (R86), 1 by the probe (R84), 2 by the saving test (R85);
0 when its frame is kept. E is the length of the probe's block encoding, F that of the whole frame. -/
def rawReasonOf (w : Word) (len e f : Nat) : Nat :=
  let p := probeOf w
  if cfgFld w F.CMP.CONFIG.COMP_EN ≠ 1 then 3
  else if p ≠ 0 ∧ len > p ∧ 16 * e > cfgFld w F.CMP.CONFIG.PROBE_THR * p then 1
  else if f ≤ len - len / 2 ^ cfgFld w F.CMP.CONFIG.SAVE_SHIFT then 0
  else 2

/-- The choice under the CMP.CONFIG of now. -/
def State.rawReason (s : State) (len e f : Nat) : Nat := rawReasonOf (s.reg F.CMP.CONFIG.COMP_EN.addr) len e f

/-- The block content of a probe encodes the chunk's first P bytes (R84): as the last block of a frame it decodes to them. -/
def probeEncodes (p : Nat) (content block : List Byte) : Bool :=
  encodes 1 true (zstdHeader true false 0 p ++ leBytes 3 (1 + 2 * 2 + block.length * 8) ++ block) (content.take p) ||
  (block.length == 1 && (content.take p).all (fun b => b == block.getD 0 0)) || block == content.take p

/-- The cycles a chunk costs its compressor lane, by the choice made (R78, R84). -/
def packedCycles (w : Word) (len why : Nat) : Nat := if why = 1 then probedCycles w len else compressCycles w len

/-- CHUNK_COMPRESS_DONE (R82 to R86): the frame is kept, or the chunk is stored raw, under the CMP.CONFIG it was given its lane
under (R81). The second operand is the probe's block encoding, whose length is E; it is read where a probe is made. A frame
that R83 does not allow for the chunk, or a probe that does not encode its first P bytes, is none that the lane could have
made: no event. A chunk cut in the hash-only pass that follows a probe is raw by its probe. -/
def execChunkCompressDone (chunk : Nat) (probe frame : List Byte) (s : State) : Host.Outcome State Fault Refusal :=
  .next (match s.job chunk with
    | none => s
    | some j =>
      let w := j.cmpConfig
      let len := j.content.length
      let why := rawReasonOf w len probe.length frame.length
      let probes := cfgFld w F.CMP.CONFIG.COMP_EN == 1 && probeOf w != 0 && decide (len > probeOf w)
      let hashed := (j.cmpLane.bind (fun l => s.cutOf .cmp l (s.writeTask chunk j))).any CutSlot.hashing
      if j.stage ≠ .missed ∨ (why = 0 ∧ !chunkFrame (cfgFld w F.CMP.CONFIG.CSUM_EN == 1) j.content frame) ∨
          (probes ∧ !probeEncodes (probeOf w) j.content probe) ∨ (hashed ∧ why ≠ 1 ∧ why ≠ 3) then s
      else match s.writeEnd .cmp chunk j (packedCycles w len why) with
        | none => s
        | some s1 => ((s1.count F.CMP.STAT.COUNT why).modifyJob chunk (fun j => { j with
            stage := .compressed, raw := why != 0, payload := if why = 0 then frame else j.content,
            contentCheck := contentCheckOf j.content })).giveLane chunk)

/-! Encryption (R124, R134, R136). -/

/-- CHUNK_ENCRYPT_DONE (R111, R113, R124, R134 to R136): on the chunk's CIP lane the payload is encrypted under the key
resolved, with header bytes 0 to 79 as associated data. Without a counter value whose reservation is durable the encryption
waits. A slot emptied since, or a memory error of the lane, ends the write under R68 (R116, R117). -/
def execChunkEncryptDone (chunk : Nat) (busError : Bool) (s : State) : Host.Outcome State Fault Refusal :=
  .next (match s.job chunk with
    | none => s
    | some j =>
      if (j.stage ≠ .compressed ∧ j.stage ≠ .waitKey) ∨ s.now ≤ j.since ∨ !s.allLookedUp j.cmd then s
      else if busError || !((s.slot 0 j.keySlot).any (fun k => k.keyId == j.keyId)) then
        (match j.cmd with | some c => s.failWrite c 0x280 | none => s)
      else match s.invoke 0 j.keySlot 0x44 with
        | (none, s1) =>
          if j.stage = .waitKey then s1
          else ((s1.modifyJob chunk (fun j => { j with stage := .waitKey })).count F.CIP.STAT.COUNT 9).event Src.CIP 7 j.keySlot
        | (some (key, iv), s1) =>
          match s1.writeEnd .cip chunk j (gcmCycles 80 j.payload.length) with
          | none => s
          | some s1 =>
            let seq := s1.rdx.writeSeq + 1
            let h := headerBytes j.raw j.content.length j.payload.length j.keyId iv j.contentCheck j.fingerprint.toNat j.dkey
              (s1.fld F.FRN.EPOCH.EPOCH) seq
            let x := gcmCrypt key iv j.payload
            let s2 : State := { s1 with rdx := { s1.rdx with writeSeq := seq } }
            (s2.count F.CIP.STAT.COUNT 0).modifyJob chunk (fun j => { j with
              stage := .encrypted, lane := none, header := h, payload := x, since := s.now
              tag := BitVec.ofNat 128 (leNat (gcmTag key iv h x)) }))

/-! Completions (R65, R76, R361). -/

/-- WRITE_COMPLETION (R65, R361): the completion of a write posted with success is transmitted. -/
def execWriteCompletion (key : Nat) (s : State) : Host.Outcome State Fault Refusal :=
  .next (match s.cmd key with
    | some c => if c.stage = .posted ∧ c.isWrite then s.transmitResponse key else s
    | none => s)

/-- READ_COMPLETION (R76, R361): the completion of a posted Read is transmitted. -/
def execReadCompletion (key : Nat) (s : State) : Host.Outcome State Fault Refusal :=
  .next (match s.cmd key with
    | some c => if c.stage = .posted ∧ c.io ∧ c.opcode = 2 then s.transmitResponse key else s
    | none => s)

/-! Merge (R63, R64, R159). -/

/-- The older chunk of the full index that a queued fingerprint matches (R55, R63): same key, length and whole
fingerprint under the same digest key. Where several match, no rule names one: the lowest-numbered (assumption 60). -/
def State.olderChunk (s : State) (m : MergeItem) (e : ChunkEntry) : Option Nat :=
  (s.ftl.tables.chunks.find? (fun p => p.1 < m.addr ∧ p.1 / 2 ^ 47 = m.addr / 2 ^ 47 ∧ (p.2.state = 1 ∨ p.2.state = 2) ∧
    !p.2.lost ∧ p.2.fp = m.fingerprint ∧ p.2.dkey = e.dkey ∧ p.2.granules = m.granules ∧ p.2.keyId = m.keyId)).map Prod.fst

/-- The hot-set entry of a merged chunk is replaced by the older chunk's (R63), which counts the granules of both (R60). -/
def State.mergeHot (s : State) (newer older : Nat) (o : ChunkEntry) (count : Nat) : State :=
  match s.rdx.hot.find? (fun p => p.2.addr == newer) with
  | none => s.hotRaise older count
  | some (_, h) =>
    if s.rdx.hot.any (fun p => p.2.addr == older) then (s.hotRemove newer).hotRaise older h.refCount
    else (s.hotModify newer (fun h => { h with
      addr := older, isPend := false, perm := o.perm, lost := false, refCount := s.expectedCount older, keyId := o.keyId })).hotRaise
        older h.refCount

/-- MERGE (R63, R64): the oldest queued fingerprint is looked up in the full index; a newer duplicate is to become an alias of
the older chunk at the end of the tick. A chunk whose record is not applied, or that is in movement, waits; one that is gone is
dropped. -/
def execMerge (s : State) : Host.Outcome State Fault Refusal :=
  .next (match s.rdx.mergeQueue with
    | [] => s
    | m :: rest =>
      if !s.flag F.RDX.MERGE_CTL.EN ∨ !s.granted Cls.mapWork then s
      else s.onSide (m.addr / 2 ^ 47) (fun (s : State) =>
        let popped : State := { s.spendMeta with rdx := { s.rdx with mergeQueue := rest } }
        match Tab.find s.ftl.tables.chunks m.addr with
        | none => if (s.chunkEntry m.addr).isSome ∨ s.rdx.chunks.any (fun p => p.2.addr = m.addr) then s else popped
        | some e =>
          if (Tab.find s.ftl.moves m.addr).isSome then s
          else if e.state = 3 ∨ e.lost then popped
          else match s.olderChunk m e with
            | none => popped
            | some older => { popped with rdx := { popped.rdx with merges := popped.rdx.merges ++ [(m.addr, older)] } }))

/-- A chunk of a write that hit a merged chunk, and whose record is not formed yet, names the older chunk instead. -/
def ChunkJob.redirect (newer older : Nat) (j : ChunkJob) : ChunkJob :=
  if j.addr = newer ∧ !j.recorded ∧ (j.stage = .hit ∨ j.stage = .pendingHit) then { j with addr := older, stage := .hit } else j

/-- A merge of the tick as the tick ends (R63, R64, R159): the writes of the tick have formed their records, and the ALIAS
record redirects what remains. A chunk that has begun a movement meanwhile joins the queue again; one freed is left. -/
def State.closeMerge (s : State) (p : Nat × Nat) : State :=
  s.onSide (p.1 / 2 ^ 47) (fun (s : State) =>
    match Tab.find s.ftl.tables.chunks p.1, Tab.find s.ftl.tables.chunks p.2 with
    | some e, some o =>
      if e.state = 3 ∨ o.state = 3 ∨ s.finalChunk p.2 ≠ p.2 then s
      else if (Tab.find s.ftl.moves p.1).isSome then
        { s with rdx := { s.rdx with mergeQueue :=
            { fingerprint := e.fp, addr := p.1, granules := e.granules, keyId := e.keyId } :: s.rdx.mergeQueue } }
      else
        let n := s.expectedCount p.1
        let s1 := (s.formRecord [.alias_ p.1 p.2 n] none true).mergeHot p.1 p.2 o n
        ({ s1 with rdx := { s1.rdx with chunks := s1.rdx.chunks.map (fun q => (q.1, q.2.redirect p.1 p.2)) } } : State).count
          F.RDX.STAT.COUNT 7
    | _, _ => s)

/-- The end of a tick in RDX: merges are applied after the tick's writes (R64), and every decrement of a cached count after
every increment (R59). -/
def State.closeReduction (s : State) : State :=
  let s1 := s.rdx.merges.foldl State.closeMerge { s with rdx := { s.rdx with merges := [] } }
  s1.lowerCounts

/-! Decryption and expansion (R51, R73, R75, R87, R131, R139). -/

/-- The granules a read serves are delivered, or fail, and the read ends. -/
def State.endRead (s : State) (job : Nat) (r : ChunkRead) (content : Option (List Byte)) (failure keyId : Nat) : State :=
  let s1 : State := { s with rdx := { s.rdx with reads := Tab.erase s.rdx.reads job } }
  r.waiters.foldl (fun (t : State) w =>
    let (key, g, gidx) := w
    let piece := content.map (fun b => (b.drop (gidx * 4096)).take 4096)
    (t.modifyCmd key (fun c => { c with reads := c.reads.map (fun x =>
      if x.granule = g then { x with content := piece, failure := failure, keyId := keyId } else x) })).readsDone key) s1

/-- A chunk fails a check of R51: the next source is read, or every source has failed (R75). -/
def State.integrityFailure (s : State) (job : Nat) (r : ChunkRead) : State :=
  s.onSide (r.chunk / 2 ^ 47) (fun (t : State) => t.nextSource job)

/-- The reads that every source has failed end (R75); a movement's stays, and its mover passes the chunk over. -/
def State.endFailedReads (s : State) : State :=
  (s.rdx.reads.filter (fun p => p.2.stage == .failed && (match p.2.use with | .move _ => false | _ => true))).foldl (fun (t : State) p => t.endRead p.1 p.2 none 1 0) s

/-- CHUNK_DECRYPT_DONE (R51, R111, R116, R131, R139): on the read's CIP lane the header is checked, the payload decrypted and
the tag checked. A memory error of the lane is an integrity failure; a KEY_ID that no slot holds is none. -/
def execChunkDecryptDone (job : Nat) (busError : Bool) (s : State) : Host.Outcome State Fault Refusal :=
  .next (match Tab.find s.rdx.reads job with
    | none => s
    | some r =>
      if r.stage ≠ .stored ∨ s.now ≤ r.since then s
      else
        let h := readHeader r.stored
        if busError || !h.passes || decide (96 + h.storedLen > r.stored.length) then s.integrityFailure job r
        else match s.slotOfId h.keyId with
          | none => s.endRead job r none 2 h.keyId
          | some (_, k) =>
            match s.readEnd .cip job r (gcmCycles 80 h.storedLen) with
            | none => s
            | some s =>
              let x := (r.stored.drop 96).take h.storedLen
              if gcmTag k.key h.iv (r.stored.take 80) x = (r.stored.drop 80).take 16 then
                ((s.count F.CIP.STAT.COUNT 1).modifyRead job (fun r => { r with
                  stage := .decrypted, payload := gcmCrypt k.key h.iv x })).giveReadLane job
              else ((s.count F.CIP.STAT.COUNT 2).event Src.CIP 4 0 r.chunk).integrityFailure job r)

/-- The first step of R87 that fails, or 0 and the content: a RAW chunk has only the hash of its content. -/
def expandCheck (h : ChunkHeader) (payload : List Byte) : Nat × List Byte :=
  if h.raw then (if contentCheckOf payload = h.contentCheck then 0 else 6, payload)
  else match expandPayload h.gz h.logicalLen payload with
    | (0, out) => if contentCheckOf out = h.contentCheck then (0, out) else (6, [])
    | r => r

/-- The output a payload has given when expansion fails (R87): as far as the decoder came. -/
def expandedLen (h : ChunkHeader) (payload : List Byte) : Nat := expandUpto h.gz h.logicalLen h.logicalLen payload

/-- CHUNK_EXPAND_DONE (R78, R87): on the read's decompressor lane a chunk that passes is delivered, and rewritten when it came from another source (R75); one
that fails is counted by its step and recovered. -/
def execChunkExpandDone (chunk : Nat) (s : State) : Host.Outcome State Fault Refusal :=
  .next (match Tab.find s.rdx.reads chunk with
    | none => s
    | some r =>
      let h := readHeader r.stored
      if r.stage ≠ .decrypted ∨ s.now ≤ r.since then s
      else match s.readEnd .cmp chunk r (if h.raw then expandCycles true r.payload.length
          else expandCycles false (expandedLen h r.payload)) with
      | none => s
      | some s =>
        let (bad, content) := expandCheck h r.payload
        if bad ≠ 0 then (((s.count F.CMP.STAT.COUNT (5 + bad)).event Src.CMP 2 0 bad).integrityFailure chunk r)
        else
          let s1 := s.onSide (r.chunk / 2 ^ 47) (fun (t : State) => t.queueRewrite r)
          (s1.count F.CMP.STAT.COUNT (if h.raw then 5 else 4)).endRead chunk r (some content) 0 0)

/-! Rewrap (R132, R195). -/

/-- The stored bytes of a rewrapped chunk: KEY_ID, IV, EPOCH and WRITE_SEQ of the header are new (R132). -/
def rewrapped (stored plain key iv : List Byte) (keyId epoch seq : Nat) : List Byte :=
  let h := stored.take 12 ++ leBytes 4 keyId ++ iv ++ (stored.drop 28).take 40 ++ leBytes 4 epoch ++ leBytes 8 seq
  let x := gcmCrypt key iv plain
  let b := h ++ gcmTag key iv h x ++ x
  padTo ((b.length + 63) / 64 * 64) b

/-- The stored bytes of a chunk rewrapped on a CIP lane (R132): a decryption and an encryption are charged to it (R111, R113). Bytes
that do not pass are recovered first. -/
def State.rewrapBytes (s : State) (job chunk : Nat) (e : ChunkEntry) (stored : List Byte) (n : Ns) : State :=
  let h := readHeader stored
  match s.slotOfId e.keyId, s.resolveKey 0 n.keySlot with
  | some (_, old), (some (m, _), s1) =>
    let keyId := match s1.slot 0 m with | some k => k.keyId | none => 0
    let x := (stored.drop 96).take h.storedLen
    let cost := gcmCycles 80 h.storedLen
    if keyId = e.keyId then s.dropRead job
    else if !h.passes || h.keyId != e.keyId || gcmTag old.key h.iv (stored.take 80) x != (stored.drop 80).take 16 then
      (((s.chargeLane .cip true cost).count F.CIP.STAT.COUNT 2).event Src.CIP 4 0 chunk).nextSource job
    else match s1.invoke 0 m 0x44 with
      | (none, s2) => (s2.count F.CIP.STAT.COUNT 9).event Src.CIP 7 m
      | (some (key, iv), s2) =>
        let seq := s2.rdx.writeSeq + 1
        let b := rewrapped stored (gcmCrypt old.key h.iv x) key iv keyId (s2.fld F.FRN.EPOCH.EPOCH) seq
        let s3 : State := { s2 with rdx := { s2.rdx with writeSeq := seq } }
        match s3.moveToBulk .rewrap 1 chunk keyId b with
        | (true, s4) => ((s4.dropRead job).chargeLane .cip true (2 * cost)).count F.CIP.STAT.COUNT 3
        | (false, _) => s.event Src.RDN 9 s.stripeNumber
  | _, _ => s

/-- REWRAP (R132, R195): a stored chunk of the bulk tier is read within the grant; once its bytes are present they are decrypted,
checked and encrypted under its namespace's current key, and placed in a relocation stripe. -/
def execRewrap (nsid chunk : Nat) (s : State) : Host.Outcome State Fault Refusal :=
  .next (s.onSide (chunk / 2 ^ 47) (fun (s : State) =>
    match Tab.find s.ftl.tables.chunks chunk, Tab.find s.cmf.ns nsid with
    | some e, some n =>
      if e.state ≠ 2 ∨ !s.mayMove chunk then s
      else match s.moverRead Cls.rewrap chunk with
        | none => if s.granted Cls.rewrap then (s.startRead chunk (.move Cls.rewrap) []).spend Cls.rewrap (e.units * 64) else s
        | some (job, r) => if r.stage = .ready then s.rewrapBytes job chunk e r.stored n else s
    | _, _ => s))

end Sys2Proof.Machine
end

