-- ==== Sys2Proof/Machine/Rings.lean ====
section
/-!
DEFINITION. Machine/Rings.lean: the job rings of CMP, CIP and DGS (R102 to R110, R149 to R154), the save areas and stream
contexts of their jobs (R89 to R101, R108, R114 to R117, R137 to R147), and lanes that change role or are withdrawn (R81,
R511).
-/

namespace Sys2Proof.Machine

/-! Ring registers. -/

/-- A ring register field of CMP, CIP or DGS: the layouts agree (R149). -/
def Eng.fld (e : Eng) (f : Fld) (n : Nat) : Fld := ({ f with addr := f.addr - blockBase Src.CMP + blockBase e.src } : Fld).nth n

/-- Job rings of an engine (R102, R149). -/
def Eng.rings : Eng → Nat
  | .cmp => 32
  | _ => 16

/-- The EVENT bit for a halted ring. -/
def Eng.haltBit : Eng → Nat
  | .cmp => 1
  | .cip => 5
  | .dgs => 0

/-- The interrupt source of ring 0 (R554). -/
def Eng.irqBase : Eng → Nat
  | .cmp => 64
  | .cip => 96
  | .dgs => 112

/-- Entries of a ring: 2^s. -/
def State.jobRingSize (s : State) (e : Eng) (n : Nat) : Nat := 2 ^ s.fld (e.fld F.CMP.RING_CFG.SIZE_LOG2 n)

def State.jobProd (s : State) (e : Eng) (n : Nat) : Nat := s.fld (e.fld F.CMP.RING_PROD.COUNT n)
def State.jobCons (s : State) (e : Eng) (n : Nat) : Nat := s.fld (e.fld F.CMP.RING_CONS.COUNT n)
def State.cplProd (s : State) (e : Eng) (n : Nat) : Nat := s.fld (e.fld F.CMP.RING_CPL_PROD.COUNT n)
def State.cplCons (s : State) (e : Eng) (n : Nat) : Nat := s.fld (e.fld F.CMP.RING_CPL_CONS.COUNT n)

/-- A ring is enabled. -/
def State.ringEnabled (s : State) (e : Eng) (n : Nat) : Bool := s.flag (e.fld F.CMP.RING_CFG.EN n)

/-- A ring dispatches: enabled and not halted (R110). -/
def State.ringRuns (s : State) (e : Eng) (n : Nat) : Bool :=
  s.ringEnabled e n && !s.flag (e.fld F.CMP.RING_STATUS.HALTED n)

/-- The jobs of an engine that have ended. -/
def State.endedJobs (s : State) : Eng → List JobDone
  | .cmp => s.cmp.ended
  | .cip => s.cip.ended
  | .dgs => s.dgs.ended

/-- The jobs of an engine replaced. -/
def State.setJobs (s : State) (e : Eng) (jobs : Tab RingJob) : State :=
  match e with
  | .cmp => { s with cmp := { s.cmp with jobs := jobs } }
  | .cip => { s with cip := { s.cip with jobs := jobs } }
  | .dgs => { s with dgs := { s.dgs with jobs := jobs } }

/-- The ended jobs of an engine replaced. -/
def State.setEnded (s : State) (e : Eng) (l : List JobDone) : State :=
  match e with
  | .cmp => { s with cmp := { s.cmp with ended := l } }
  | .cip => { s with cip := { s.cip with ended := l } }
  | .dgs => { s with dgs := { s.dgs with ended := l } }

/-- A number for a new job. -/
def State.newJobNo (s : State) (e : Eng) : Nat × State :=
  match e with
  | .cmp => (s.cmp.nextJob, { s with cmp := { s.cmp with nextJob := s.cmp.nextJob + 1 } })
  | .cip => (s.cip.nextJob, { s with cip := { s.cip with nextJob := s.cip.nextJob + 1 } })
  | .dgs => (s.dgs.nextJob, { s with dgs := { s.dgs with nextJob := s.dgs.nextJob + 1 } })

/-- Jobs of a ring dispatched and not yet completed (RING_STATUS.INFLIGHT). DESIGN CHOICE (assumption 54): a job that waits on
a save area or a context counts, since its descriptor has been taken. -/
def State.ringInflight (s : State) (e : Eng) (n : Nat) : Nat :=
  ((s.ringJobs e).filter (fun p => p.2.ring == n)).length + ((s.endedJobs e).filter (fun d => d.ring == n)).length

/-- A ring halts (R102, R110): causes 1 index overrun, 2 descriptor read error, 3 completion write error. -/
def State.haltRing (s : State) (e : Eng) (n cause : Nat) : State :=
  (((s.put (e.fld F.CMP.RING_STATUS.HALTED n) 1).put (e.fld F.CMP.RING_STATUS.CAUSE n) cause).event e.src e.haltBit n cause).irqEdge
    (e.irqBase + n)

/-- A write of RING_PROD (R102): more than 2^s beyond CONS halts the ring. -/
def State.ringProdWritten (s : State) (e : Eng) (n v : Nat) : State :=
  let s1 := s.put (e.fld F.CMP.RING_PROD.COUNT n) v
  if (v + 2 ^ 32 - s.jobCons e n) % 2 ^ 32 > s.jobRingSize e n then s1.haltRing e n 1 else s1

/-- A write of RING_CFG has taken effect (R110): EN from 0 to 1 clears HALTED. -/
def State.ringCfgWritten (s : State) (e : Eng) (n : Nat) (wasOn : Bool) : State :=
  if !wasOn && s.ringEnabled e n then
    (s.put (e.fld F.CMP.RING_STATUS.HALTED n) 0).put (e.fld F.CMP.RING_STATUS.CAUSE n) 0
  else s

/-! Descriptors. -/

/-- A field of a descriptor. -/
def descField (d : List Byte) (off n : Nat) : Nat := leNat ((d.drop off).take n)

/-- START and END of a job: both make it a whole message. -/
def jobStarts (d : List Byte) : Bool := (descField d 1 1).testBit 0
def jobEnds (d : List Byte) : Bool := (descField d 1 1).testBit 1

/-- The largest length a job may name: 16 MiB. -/
def jobMax : Nat := 2 ^ 24

/-- The size of a save area (R108). -/
def saveSize (op wlog : Nat) : Nat := 512 + (if op ≥ 3 then 32768 else 2 ^ wlog) + (if op = 2 then 131072 else 0)

/-- A CMP descriptor that completes with BAD_DESC (R98, R104, R105, R436). -/
def State.cmpBadDesc (s : State) (d : List Byte) : Bool :=
  let f := descField d
  let op := f 0 1
  let flags := f 1 1
  let level := f 2 1
  let wlog := f 3 1
  let compress := op == 1 || op == 3
  let src := f 8 8
  let dst := f 24 8
  let ovf := f 32 8
  let save := f 48 8
  let wlogOk := if op = 1 then decide (15 ≤ wlog) && decide (wlog ≤ 20)
    else if op = 2 then decide (15 ≤ wlog) && decide (wlog ≤ 23) else wlog == 15
  let ok := decide (1 ≤ op) && decide (op ≤ 4) && s.acceptsOp 0 op && decide (flags < 64) &&
    (if compress then decide (1 ≤ level) && decide (level ≤ 4) else level == 0) && wlogOk &&
    decide (src < 2 ^ 48) && decide (f 16 4 ≤ jobMax) && decide (1 ≤ f 20 4) && decide (f 20 4 ≤ jobMax) && decide (dst < 2 ^ 48) &&
    decide (ovf < 2 ^ 48) && decide (f 40 4 ≤ jobMax) && (flags.testBit 2 || (ovf == 0 && f 40 4 == 0)) &&
    (!compress || f 44 4 == 0xFFFFFFFF) && save % 64 == 0 && decide (save < 2 ^ 48) && f 56 8 == 0 &&
    (save != 0 || (jobStarts d && jobEnds d)) &&
    decide (f 20 4 + f 40 4 ≥ if op = 2 then 131072 else 4096) &&
    s.memOk Src.CMP src (f 16 4) && s.memOk Src.CMP dst (f 20 4) && s.memOk Src.CMP ovf (f 40 4) &&
    (save == 0 || s.memOk Src.CMP save (saveSize op wlog))
  !ok

/-- A save area that a job which does not start its stream may not use (R90, R108). -/
def State.badSave (s : State) (d : List Byte) : Bool :=
  let r := s.load (descField d 48 8) 512
  let f := descField r
  !(jobStarts d) && !(f 0 2 == 0x5343 && f 2 1 == 1 && f 3 1 == descField d 0 1 && f 5 1 == descField d 3 1 &&
    (f 4 1).testBit 0 && !(f 4 1).testBit 3 && f 508 4 == crc32 (r.take 508))

/-- A job of a stream context (R114): one that is not a whole message. -/
def usesCtx (d : List Byte) : Bool := !(jobStarts d && jobEnds d)

/-- The context of a job does not belong to its ring (R114). -/
def State.ctxForeign (s : State) (e : Eng) (ring : Nat) (d : List Byte) : Bool :=
  let f (x y : Fld) : Fld := if e = .dgs then y else x
  usesCtx d && !(s.fld ((f F.CIP.CTX_OWNER.EN F.DGS.CTX_OWNER.EN).nth (descField d 2 2)) == 1 &&
    s.fld ((f F.CIP.CTX_OWNER.RING F.DGS.CTX_OWNER.RING).nth (descField d 2 2)) == ring)

/-- A CIP descriptor that completes with BAD_DESC (R138, R150, R152, R436). -/
def State.cipBadDesc (s : State) (ring : Nat) (d : List Byte) : Bool :=
  let f := descField d
  let op := f 0 1
  let flags := f 1 1
  let typ := f 40 2 / 2 ^ 14
  let ok := (op == 1 || op == 2) && s.acceptsOp 1 op && decide (flags < 16) && decide (f 2 2 ≤ 255) && (usesCtx d || f 2 2 == 0) &&
    decide (f 8 8 < 2 ^ 48) && decide (f 16 4 ≤ jobMax) && decide (f 20 4 ≤ jobMax) && (jobStarts d || f 20 4 == 0) &&
    decide (f 24 8 < 2 ^ 48) && decide (f 32 8 < 2 ^ 48) && f 40 2 / 2 ^ 12 % 4 == 0 && decide (typ ≤ 1) &&
    decide (f 40 2 % 2 ^ 12 < slotCount typ) && f 42 6 == 0 && decide (f 48 8 < 2 ^ 48) && decide (f 56 8 < 2 ^ 48) &&
    (!flags.testBit 2 || (op == 2 && !usesCtx d)) && !s.ctxForeign .cip ring d &&
    s.memOk Src.CIP (f 8 8) (f 16 4) && s.memOk Src.CIP (f 24 8) (f 16 4) && s.memOk Src.CIP (f 32 8) (f 20 4) &&
    (!jobStarts d || s.memOk Src.CIP (f 48 8) 12) && (!jobEnds d || s.memOk Src.CIP (f 56 8) 16)
  !ok

/-- Bytes of a block of a digest (R146), and of what its END job writes or compares (R142, R146). -/
def dgsBlock (op : Nat) : Nat := if op = 2 then 128 else 64
def dgsOut (op : Nat) (pad : Bool) : Nat := if op = 2 then (if pad then 48 else 64) else 32

/-- A DGS descriptor that completes with BAD_DESC (R145, R146, R151, R152, R436). -/
def State.dgsBadDesc (s : State) (ring : Nat) (d : List Byte) : Bool :=
  let f := descField d
  let op := f 0 1
  let flags := f 1 1
  let pad := flags.testBit 2
  let whole := f 16 4 % dgsBlock op == 0
  let ok := decide (1 ≤ op) && decide (op ≤ 3) && s.acceptsOp 2 op && decide (flags < 32) && decide (f 2 2 ≤ 255) &&
    (usesCtx d || f 2 2 == 0) && decide (f 8 8 < 2 ^ 48) && decide (f 16 4 ≤ jobMax) && decide (f 20 4 < 16) &&
    ((op == 3 && jobStarts d) || f 20 4 == 0) && decide (f 24 8 < 2 ^ 48) && (d.drop 32).all (fun b => b == 0) &&
    (usesCtx d || pad) && (jobEnds d || (whole && !flags.testBit 3)) && (pad || (op != 3 && (!jobEnds d || whole))) &&
    !s.ctxForeign .dgs ring d && s.memOk Src.DGS (f 8 8) (f 16 4) &&
    (!jobEnds d || s.memOk Src.DGS (f 24 8) (dgsOut op pad))
  !ok

/-- A descriptor that completes with BAD_DESC. -/
def State.badDesc (s : State) (e : Eng) (ring : Nat) (d : List Byte) : Bool :=
  match e with
  | .cmp => s.cmpBadDesc d
  | .cip => s.cipBadDesc ring d
  | .dgs => s.dgsBadDesc ring d

/-- What a job holds while it runs (R109, R115): its save area or its stream context. -/
def jobHolds (e : Eng) (d : List Byte) : Option Nat :=
  match e with
  | .cmp => if descField d 48 8 = 0 then none else some (descField d 48 8)
  | _ => if usesCtx d then some (descField d 2 2) else none

/-! Ends and completions (R106, R153). -/

/-- A job leaves its lane: its completion record is written in the step 3 that follows. -/
def State.endJob (s : State) (e : Eng) (job : Nat) (d : JobDone) : State :=
  (s.setJobs e (Tab.erase (s.ringJobs e) job)).setEnded e (s.endedJobs e ++ [d])

/-- A completion record is written (R106); a write that MEM refuses halts the ring (R110). -/
def State.postDone (e : Eng) (s : State) (d : JobDone) : State :=
  let n := d.ring
  let k := s.cplProd e n
  let size := s.jobRingSize e n
  let a := s.fld (e.fld F.CMP.RING_CPL_BASE.ADDR n) * 32 + 32 * (k % size)
  let rec_ := d.body.take 5 ++ [BitVec.ofNat 8 ((d.body.getD 5 0).toNat + (1 - k / size % 2))] ++ d.body.drop 6 ++ leBytes 8 s.now
  if s.memOk e.src a 32 then
    let s1 := (s.store a rec_).put (e.fld F.CMP.RING_CPL_PROD.COUNT n) (k + 1)
    let s2 := match e with
      | .cmp => if d.status ≤ 1 then s1.count F.CMP.STAT.COUNT 12 else (s1.count F.CMP.STAT.COUNT 12).count F.CMP.STAT.COUNT 13
      | .cip => if d.status = 0 then s1.count F.CIP.STAT.COUNT 7 else (s1.count F.CIP.STAT.COUNT 7).count F.CIP.STAT.COUNT 8
      | .dgs => if d.status = 0 then s1.count F.DGS.STAT.COUNT 1 else (s1.count F.DGS.STAT.COUNT 1).count F.DGS.STAT.COUNT 2
    let s3 := if d.status = 0x28 then s2.count F.DGS.STAT.COUNT 3 else s2
    if d.irq && s3.flag (e.fld F.CMP.RING_CFG.IRQ_EN n) then s3.irqEdge (e.irqBase + n) else s3
  else (s.violation e.src true a).haltRing e n 3

/-- Step 3: the completion records of the jobs that have ended, in the order in which they ended. -/
def State.postDones (s : State) (e : Eng) : State := (s.endedJobs e).foldl (State.postDone e) (s.setEnded e [])

/-! Dispatch (R103, R108, R109, R115). -/

/-- No other job of the engine holds what a job needs, and none that was dispatched before it waits for it. -/
def State.mayHold (s : State) (e : Eng) (job : Nat) (d : List Byte) : Bool :=
  match jobHolds e d with
  | none => true
  | some h => (s.ringJobs e).all (fun p => p.1 == job || jobHolds e p.2.desc != some h || (p.2.lane.isNone && decide (job < p.1)))

/-- The lanes that jobs of a ring occupy. -/
def State.ringLanes (s : State) (e : Eng) (n : Nat) : List Nat :=
  (((s.ringJobs e).filter (fun p => p.2.ring == n)).filterMap (fun p => p.2.lane)).dedup

/-- The lane a job is given, within MAX_LANES of its ring (R80, R103). DESIGN CHOICE (assumption 55): where the lane of R80 is one
that the ring does not hold and the ring holds MAX_LANES already, the job waits; it does not take a lane the ring holds. -/
def State.laneForJob (s : State) (e : Eng) (n : Nat) (d : List Byte) : Option Nat :=
  match s.pickLane e (e != .cmp || descField d 0 1 % 2 == 1) with
  | none => none
  | some l =>
    let held := s.ringLanes e n
    if l ∈ held ∨ held.length < s.fld (e.fld F.CMP.RING_CFG.MAX_LANES n) then some l else none

/-- The state record of a save area at the start of a stream, with BUSY set (R108). -/
def freshRecord (op wlog : Nat) : List Byte :=
  let b := leBytes 2 0x5343 ++ leBytes 1 1 ++ leBytes 1 op ++ leBytes 1 9 ++ leBytes 1 wlog ++ List.replicate 502 0
  b ++ leBytes 4 (crc32 b)

/-- A job begins on a lane: one with a bad descriptor or save area ends at once (R101, R105, R108, R152); a CMP job marks its
save area BUSY. -/
def State.beginJob (s : State) (e : Eng) (job : Nat) (j : RingJob) : State :=
  if s.badDesc e j.ring j.desc then s.endJob e job (emptyEnd e j 2)
  else if e = .cmp ∧ descField j.desc 48 8 ≠ 0 ∧ s.badSave j.desc then s.endJob e job (emptyEnd e j 3)
  else
    let s1 := s.setJobs e (Tab.insert (s.ringJobs e) job j)
    if e = .cmp ∧ descField j.desc 48 8 ≠ 0 then
      let a := descField j.desc 48 8
      if jobStarts j.desc then s1.store a (freshRecord (descField j.desc 0 1) (descField j.desc 3 1))
      else s1.setByte (a + 4) (s1.byte (a + 4) ||| 8)
    else s1

/-- The waiting jobs of a ring begin, in order, as far as their lanes and what they hold allow. -/
def State.beginWaiting (s : State) (e : Eng) (n : Nat) : State :=
  ((s.ringJobs e).filter (fun p => p.2.ring == n && p.2.lane.isNone)).foldl (fun (t : State) p =>
    if t.mayHold e p.1 p.2.desc then
      match t.laneForJob e n p.2.desc with
      | some l => t.beginJob e p.1 { p.2 with lane := some l }
      | none => t
    else t) s

/-- Descriptors are read in slot order within the ring's limits (R103); at most the given number. DESIGN CHOICE (assumption 56):
the LANE of a BAD_DESC completion, whose job ran on no lane, is the lane that R80 picks, a compressor lane in CMP. -/
def State.readDescs (s : State) (e : Eng) (n : Nat) : Nat → State
  | 0 => s
  | fuel + 1 =>
    let k := s.jobCons e n
    let size := s.jobRingSize e n
    let room := decide ((s.cplProd e n + 2 ^ 32 - s.cplCons e n) % 2 ^ 32 + s.ringInflight e n < size)
    if !s.ringRuns e n || k == s.jobProd e n || !room then s
    else
      let a := s.fld (e.fld F.CMP.RING_BASE.ADDR n) * 64 + 64 * (k % size)
      match s.loadBy e.src a 64 with
      | none => (s.violation e.src false a).haltRing e n 2
      | some d =>
        let (job, s0) := s.newJobNo e
        let s1 := s0.put (e.fld F.CMP.RING_CONS.COUNT n) (k + 1)
        let j : RingJob := { ring := n, desc := d, lane := none, old := false, waited := false }
        if s.badDesc e n d then (s1.endJob e job (emptyEnd e { j with lane := s.pickLane e true } 2)).readDescs e n fuel
        else if s1.mayHold e job d then
          match s1.laneForJob e n d with
          | some l => (s1.beginJob e job { j with lane := some l }).readDescs e n fuel
          | none => s
        else (s1.setJobs e (Tab.insert (s1.ringJobs e) job j)).readDescs e n fuel

/-- A ring dispatches at a boundary (R103). -/
def State.dispatchRing (s : State) (e : Eng) (n : Nat) : State :=
  if s.ringRuns e n then (s.beginWaiting e n).readDescs e n (s.jobRingSize e n) else s

/-- The first ring of a tick: the next enabled one after the first of the tick before (R103). -/
def State.firstRing (s : State) (e : Eng) (last : Option Nat) : Option Nat :=
  let on := (List.range e.rings).filter (s.ringEnabled e)
  match last with
  | none => on.head?
  | some l => match on.find? (fun n => decide (l < n)) with
    | some n => some n
    | none => on.head?

/-- The rings of an engine in the order of the tick. -/
def ringOrder (e : Eng) (first : Nat) : List Nat := (List.range e.rings).map (fun i => (first + i) % e.rings)

/-- Step 4: the arbitration of the CMP rings; those of CIP and DGS dispatch. -/
def State.ringTurn (s : State) : State :=
  let fc := s.firstRing .cmp s.cmp.lastRing
  let s1 : State := match fc with
    | some n => { s with cmp := { s.cmp with lastRing := some n, turned := [] } }.put F.CMP.RING_ARB.FIRST n
    | none => s
  let s2 := s1.putFlag F.CMP.RING_ARB.VALID fc.isSome
  let s3 : State := match s2.firstRing .cip s2.cip.lastRing with
    | some n => (ringOrder .cip n).foldl (fun (t : State) r => t.dispatchRing .cip r) { s2 with cip := { s2.cip with lastRing := some n } }
    | none => s2
  match s3.firstRing .dgs s3.dgs.lastRing with
  | some n => (ringOrder .dgs n).foldl (fun (t : State) r => t.dispatchRing .dgs r) { s3 with dgs := { s3.dgs with lastRing := some n } }
  | none => s3

/-- A ring has descriptors to read, or jobs that have been read and wait. -/
def State.ringWaits (s : State) (e : Eng) (n : Nat) : Bool :=
  s.ringRuns e n && (s.jobProd e n != s.jobCons e n || (s.ringJobs e).any (fun p => p.2.ring == n && p.2.lane.isNone))

/-- It is a CMP ring's turn in the tick (R103): it has not had it, and every ring that goes before it in the order of the tick
has had it or waits for nothing. -/
def State.ringTurnOf (s : State) (n : Nat) : Bool :=
  !s.cmp.turned.contains n && match s.cmp.lastRing with
    | some f => ((ringOrder .cmp f).takeWhile (fun r => r != n)).all (fun r => s.cmp.turned.contains r || !s.ringWaits .cmp r)
    | none => false

/-- CMP_JOB_DISPATCH (R103): a ring with waiting jobs takes its turn, in the rotating order. -/
def execCmpJobDispatch (ring : Nat) (s : State) : Host.Outcome State Fault Refusal :=
  .next (if ring < 32 ∧ s.ringTurnOf ring then
      ({ s with cmp := { s.cmp with turned := s.cmp.turned ++ [ring] } } : State).dispatchRing .cmp ring
    else s)

/-! CMP jobs (R89 to R101, R108). -/

/-- Output to the primary buffer, then to the overflow buffer (R96). -/
def State.writeOutput (s : State) (d : List Byte) (out : List Byte) : State :=
  let n := descField d 20 4
  (s.store (descField d 24 8) (out.take n)).store (descField d 32 8) (out.drop n)

/-- The status and the output that the declared lengths leave (R100): EXPECT_LEN of a decompress job bounds the stream's
output, and its END must reach it. -/
def expectedEnd (d : List Byte) (status total : Nat) (out : List Byte) : Nat × List Byte :=
  let x := descField d 44 4
  if x = 0xFFFFFFFF ∨ descField d 0 1 % 2 = 1 then (status, out)
  else if total + out.length > x then (0x16, out.take (x - total))
  else if status = 0 ∧ jobEnds d ∧ total + out.length < x then (0x15, out)
  else (status, out)

/-- The state record after an OK or OUT_FULL end (R108): IN_STREAM is cleared at a Zstandard END. -/
def savedRecord (d : List Byte) (x : JobEnd) (totalIn totalOut : Nat) (status : Nat) : List Byte :=
  let op := descField d 0 1
  let open_ := !(decide (op ≤ 2) && jobEnds d && status == 0)
  let flags := open_.toNat + x.inFrame.toNat * 2 + x.held.toNat * 4
  let b := leBytes 2 0x5343 ++ leBytes 1 1 ++ leBytes 1 op ++ leBytes 1 flags ++ leBytes 1 (descField d 3 1) ++ leBytes 2 0 ++
    leBytes 8 totalIn ++ leBytes 8 totalOut ++ leBytes 4 x.memberSeq ++ leBytes 4 x.check ++
    (x.engine.take 476 ++ List.replicate (476 - x.engine.length) 0)
  b ++ leBytes 4 (crc32 b)

/-- The status codes with which a CMP lane ends a job (R107): those it meets after the descriptor and save area check. -/
def cmpEndStatus (n : Nat) : Bool := n == 0 || n == 1 || n == 4 || (decide (0x10 ≤ n) && decide (n ≤ 0x1A))

/-- START and END without a save area (R81, R97). -/
def singleShot (d : List Byte) : Bool := jobStarts d && jobEnds d && descField d 48 8 == 0

/-- The stream of a job (R89, R91, R108): a new one at START, else the one its save area's engine state stands for. An engine
state that this head has not written (R108 lets either head's lanes use it) stands for none. -/
def State.cmpStream (s : State) (d : List Byte) : Option CodeStream :=
  if jobStarts d then
    some { op := descField d 0 1, wlog := descField d 3 1, csum := (descField d 1 1).testBit 3, text := [], code := [] }
  else match leNat (s.load (descField d 48 8 + 32) 8) with
    | 0 => none
    | n + 1 => (Tab.find s.cmp.streams n).filter (fun c => c.op == descField d 0 1)

/-- The limits of a decompress job on its stream's output (R96, R97, R100). -/
def outLimits (d : List Byte) (c : CodeStream) : CodeLimits :=
  { space := c.text.length + descField d 20 4 + descField d 40 4,
    expect := if descField d 44 4 = 0xFFFFFFFF then none else some (descField d 44 4), fcs := none, small := false }

/-- How a decompress job ends (R91, R95, R97, R100), and its stream after it: the stream's bytes decoded from its START on. -/
def decompressEnd (d : List Byte) (c : CodeStream) (src : List Byte) (next : Nat) : JobEnd × CodeStream :=
  let code := c.code ++ src
  let r := decodeStream c.op c.wlog (c.csum || (descField d 1 1).testBit 3) (jobEnds d) (outLimits d c) code
  let text := r.out
  ({ status := r.status, inConsumed := r.pos - c.code.length, output := text.drop c.text.length,
     frameEnd := r.atEnd && r.pos == code.length, check := r.check, memberSeq := r.seq.getD 0, inFrame := !r.atEnd, held := r.held,
     engine := leBytes 8 (next + 1) },
   { c with text := text, code := code.take r.pos })

/-- The header with which a compress job opens its frame or member (R90, R92, R94): none while the stream's last is open. DESIGN
CHOICE (assumption 57): the first member of a stream has HIST 0 whatever HIST of the START job says, for there is no history
to carry. -/
def openedWith (d : List Byte) (c : CodeStream) (members : Nat) : List Byte :=
  if c.op = 1 then (if jobStarts d then zstdHeader (singleShot d) c.csum c.wlog (descField d 16 4) else [])
  else gzHeader ((descField d 1 1).testBit 4 && !jobStarts d) members

/-- How a compress job ends (R89, R92, R94, R97) with the output its lane reports, and its stream after it; none when that output
does not close the stream's frame, member or block as the job asks, or does not decode to what the stream has taken. OUT_FULL
ends no job whose remaining input would fit uncompressed, with its closure, in the space that remains. -/
def compressEnd (d : List Byte) (c : CodeStream) (src : List Byte) (e : JobEnd) (next : Nat) : Option (JobEnd × CodeStream) :=
  let text := c.text ++ src.take e.inConsumed
  let code := c.code ++ e.output
  let before := decodeStream c.op 64 false false noLimits c.code
  let members := match before.seq with | some n => n + 1 | none => 0
  let opens := jobStarts d || (decide (c.op = 3) && before.atEnd)
  let h := openedWith d c members
  let r := decodeStream c.op 64 false false noLimits code
  let room := descField d 20 4 + descField d 40 4 - e.output.length
  let rest := src.length - e.inConsumed
  let ok := (e.status == 0 && e.inConsumed == src.length || e.status == 1 && decide (e.inConsumed < src.length) &&
      decide (room < rest + 3 * (rest / 65535 + 1) + 13)) &&
    (!opens || e.output.take h.length == h) && encodes c.op (jobEnds d && e.status == 0) code text
  if !ok then none
  else some ({ e with
      frameEnd := r.atEnd, check := r.check, memberSeq := r.seq.getD 0, inFrame := !r.atEnd, held := false, engine := leBytes 8 (next + 1) },
    { c with text := text, code := code })

/-- A job of CMP ends (R96, R101, R106, R108): the output, the state record of a save area, and the completion. -/
def State.cmpFinish (s : State) (job : Nat) (j : RingJob) (e : JobEnd) : State :=
  let d := j.desc
  let a := descField d 48 8
  let before := if a = 0 ∨ jobStarts d then (0, 0) else (leNat (s.load (a + 8) 8), leNat (s.load (a + 16) 8))
  let (status, out) := expectedEnd d e.status before.2 e.output
  let s1 := s.writeOutput d out
  let s2 := if a ≠ 0 ∧ status ≤ 1 then
      s1.store a (savedRecord d e (before.1 + e.inConsumed) (before.2 + out.length) status)
    else s1
  let n := descField d 20 4
  let flags := (decide (out.length > n)).toNat * 2 + e.frameEnd.toNat * 4
  let body := doneBody (descField d 4 4) status flags (j.lane.getD 0) e.inConsumed (min out.length n)
    (leBytes 4 (out.length - n) ++ leBytes 4 e.check)
  s2.endJob .cmp job { ring := j.ring, irq := (descField d 1 1).testBit 5, status := status, body := body }

/-- The stream after a job that saves its state (R97, R108). -/
def State.keepStream (s : State) (d : List Byte) (status : Nat) (c : CodeStream) : State :=
  if descField d 48 8 ≠ 0 ∧ status ≤ 1 then
    { s with cmp := { s.cmp with streams := Tab.insert s.cmp.streams s.cmp.nextStream c, nextStream := s.cmp.nextStream + 1 } }
  else s

/-- The history region and the block buffer of a save area, written before its state record (R97, R108). DESIGN CHOICE (assumption
70): byte n of the stream's text stands in the region at n modulo its size, and the block buffer holds the rest of a held block
as the bytes its sequences give. -/
def State.storeHistory (s : State) (d : List Byte) (r : JobEnd) (c : CodeStream) : State :=
  let a := descField d 48 8
  let size := if c.op ≥ 3 then 32768 else 2 ^ c.wlog
  if a = 0 ∨ r.status > 1 then s else
  let first := c.text.length - size
  let last := c.text.drop first
  let wrap := size - first % size
  let s1 := (s.store (a + 512 + first % size) (last.take wrap)).store (a + 512) (last.drop wrap)
  if r.held then
    s1.store (a + 512 + size) (((decodeStream c.op 64 false false noLimits c.code).out.drop c.text.length).take 131072)
  else s1

/-- The cycles of a CMP job that ends so (R78): compression counts on the input, expansion on the output. -/
def cmpJobCycles (d : List Byte) (r : JobEnd) : Nat :=
  if descField d 0 1 % 2 = 1 then packCycles r.inConsumed else expandCycles false r.output.length

/-- The end of a CMP job and its stream after it, from what its lane reports: a decompress job's follows from the stream's bytes,
a compress job's output must encode what it has taken; a bus error and a stream of the other head end as reported. None for an
end that the job's lengths or its stream do not allow. -/
def State.cmpOutcome (s : State) (d : List Byte) (e : JobEnd) : Option (JobEnd × Option CodeStream) :=
  let src := s.load (descField d 8 8) (descField d 16 4)
  if !cmpEndStatus e.status ∨ e.inConsumed > descField d 16 4 ∨ e.output.length > descField d 20 4 + descField d 40 4 then none
  else if e.status = 4 then some (e, none)
  else match s.cmpStream d with
    | none => some (e, none)
    | some c =>
      if descField d 0 1 % 2 = 0 then
        let (r, c1) := decompressEnd d c src s.cmp.nextStream
        some (r, some c1)
      else (compressEnd d c src e s.cmp.nextStream).map (fun x => (x.1, some x.2))

/-- CMP_JOB_END (R78, R89 to R101, R106, R108): a running job ends on its lane. -/
def execCmpJobEnd (job : Nat) (e : JobEnd) (s : State) : Host.Outcome State Fault Refusal :=
  .next (match Tab.find s.cmp.jobs job with
    | none => s
    | some j =>
      match s.cmpOutcome j.desc e with
      | none => s
      | some (r, c) => match s.ringEnd .cmp job j (cmpJobCycles j.desc r) with
        | none => s
        | some t =>
          match c with
          | some c1 => ((t.storeHistory j.desc r c1).cmpFinish job j r).keepStream j.desc r.status c1
          | none => t.cmpFinish job j r)

/-! CIP jobs (R114 to R116, R130, R137 to R140). -/

/-- The end of a CIP or DGS job with its counts. -/
def engineDone (e : Eng) (j : RingJob) (status inConsumed out counter : Nat) : JobDone :=
  { ring := j.ring, irq := (descField j.desc 1 1).testBit e.irqBit, status := status,
    body := doneBody (descField j.desc 4 4) status 0 (j.lane.getD 0) inConsumed out (leBytes 8 counter) }

/-- A CIP stream context replaced, or emptied. -/
def State.setCipCtx (s : State) (n : Nat) (c : Option CipCtx) : State :=
  { s with cip := { s.cip with ctx := match c with | some x => Tab.insert s.cip.ctx n x | none => Tab.erase s.cip.ctx n } }

/-- GCM over the next bytes of an invocation, after those already taken (R137). -/
def gcmNext (key iv : List Byte) (before : Nat) (bytes : List Byte) : List Byte :=
  (gcmCrypt key iv (List.replicate before 0 ++ bytes)).drop before

/-- The rest of a CIP job, its invocation open (R137 to R140): the text, and at END the tag. -/
def State.cipRun (s : State) (job : Nat) (j : RingJob) (c : CipCtx) (counter : Nat) : State :=
  let d := j.desc
  let src := s.load (descField d 8 8) (descField d 16 4)
  let out := gcmNext c.key c.iv c.text.length src
  let c1 : CipCtx := { c with text := c.text ++ (if c.encrypting then out else src) }
  let tag := gcmTag c.key c.iv c.aad c1.text
  let bad := !c.encrypting && jobEnds d && tag != s.load (descField d 56 8) 16
  let first := (descField d 1 1).testBit 2
  if c1.text.length > 2 ^ 36 - 32 then
    (s.setCipCtx (descField d 2 2) none).endJob .cip job (engineDone .cip j 0x23 0 0 counter)
  else
    let s1 := if bad && first then s else s.store (descField d 24 8) out
    let s2 := if c.encrypting && jobEnds d then s1.store (descField d 56 8) tag else s1
    let s3 := if usesCtx d then s2.setCipCtx (descField d 2 2) (if jobEnds d then none else some c1) else s2
    s3.endJob .cip job (engineDone .cip j (if bad then 0x20 else 0) src.length (if bad && first then 0 else out.length) counter)

/-- What opening a CIP job gives: the job has ended or waits, or runs on its context with a COUNTER. -/
inductive CipOpen where
  | settled (s : State)
  | open_ (s : State) (c : CipCtx) (counter : Nat)
  deriving DecidableEq, Repr

/-- A START job of CIP opens its invocation (R130, R135, R138): an encryption takes a counter value, and waits while none is
durable (R124). -/
def State.cipStart (s : State) (job : Nat) (j : RingJob) (k : KeySlot) : CipOpen :=
  let d := j.desc
  let typ := descField d 40 2 / 2 ^ 14
  let n := descField d 40 2 % 2 ^ 12
  let aad := s.load (descField d 32 8) (descField d 20 4)
  let c (iv : List Byte) (enc : Bool) : CipCtx :=
    { key := k.key, slotType := typ, slot := n, encrypting := enc, iv := iv, aad := aad, text := [] }
  if descField d 0 1 = 2 then .open_ s (c (s.load (descField d 48 8) 12) false) 0
  else if k.state = .exhausted ∨ k.spent typ then .settled (s.endJob .cip job (engineDone .cip j 0x22 0 0 0))
  else match s.invoke typ n 0x4A with
    | (some (_, iv), s1) => .open_ (s1.store (descField d 48 8) iv) (c iv true) k.next
    | (none, s1) =>
      .settled (if j.waited then s1
        else ((s1.setJobs .cip (Tab.insert s1.cip.jobs job { j with waited := true })).count F.CIP.STAT.COUNT 9).event Src.CIP 7 n)

/-- A CIP job opens (R114, R152): its key slot, then its invocation or its context. -/
def State.cipOpen (s : State) (job : Nat) (j : RingJob) : CipOpen :=
  let d := j.desc
  match s.slot (descField d 40 2 / 2 ^ 14) (descField d 40 2 % 2 ^ 12) with
  | none => .settled (s.endJob .cip job (engineDone .cip j 0x21 0 0 0))
  | some k =>
    if jobStarts d then s.cipStart job j k
    else match Tab.find s.cip.ctx (descField d 2 2) with
      | some c => if c.encrypting == (descField d 0 1 == 1) then .open_ s c 0
                  else .settled (s.endJob .cip job (engineDone .cip j 3 0 0 0))
      | none => .settled (s.endJob .cip job (engineDone .cip j 3 0 0 0))

/-- A CIP job is broken off with a status once k bytes of its text have passed (R116, R117, R153): output written stays written,
the context is invalidated, and the completion says what was consumed and written, and the COUNTER of an IV already taken. -/
def State.cipBroken (s : State) (job : Nat) (j : RingJob) (status k : Nat) : State :=
  let d := j.desc
  let lose (t : State) : State := (if usesCtx d then t.setCipCtx (descField d 2 2) none else t).dropCut .cip (.ring job)
  match s.cipOpen job j with
  | .settled _ => (lose s).endJob .cip job (engineDone .cip j status 0 0 0)
  | .open_ t c counter =>
    let n := min k (descField d 16 4)
    let out := if (descField d 1 1).testBit 2 then [] else gcmNext c.key c.iv c.text.length (t.load (descField d 8 8) n)
    (lose (t.store (descField d 24 8) out)).endJob .cip job (engineDone .cip j status n out.length counter)

/-- CIP_JOB_END (R111, R116, R137 to R140, R152 to R154): a running job ends by its work, or with a memory error that strikes
once the given number of bytes of its text have passed. -/
def execCipJobEnd (job : Nat) (error : Option Nat) (s : State) : Host.Outcome State Fault Refusal :=
  .next (match Tab.find s.cip.jobs job with
    | none => s
    | some j =>
      if j.lane.isNone then s
      else match error with
        | some k => s.cipBroken job j 4 k
        | none => match s.ringEnd .cip job j (ringCycles .cip j.desc) with
          | none => s
          | some t => match t.cipOpen job j with
            | .settled u => { u with lanes := s.lanes }
            | .open_ u c counter => u.cipRun job j c counter)

/-! DGS jobs (R142 to R147). -/

/-- A DGS stream context replaced, or emptied. -/
def State.setDgsCtx (s : State) (n : Nat) (c : Option DgsCtx) : State :=
  { s with dgs := { s.dgs with ctx := match c with | some x => Tab.insert s.dgs.ctx n x | none => Tab.erase s.dgs.ctx n } }

/-- What an END job gives (R142, R143, R146): a digest, or without PAD the raw chaining value. -/
def digestOf (c : DgsCtx) (pad : Bool) (msg : List Byte) : List Byte :=
  if c.opcode = 3 then hmacSha256 c.key msg
  else if c.opcode = 2 then (if pad then sha384 msg else sha384Chain msg)
  else if pad then sha256 msg else sha256Chain msg

/-- The rest of a DGS job, its message open (R146, R147). -/
def State.dgsRun (s : State) (job : Nat) (j : RingJob) (c : DgsCtx) : State :=
  let d := j.desc
  let src := s.load (descField d 8 8) (descField d 16 4)
  let msg := c.msg ++ src
  if msg.length > 2 ^ 61 - 1 then (s.setDgsCtx (descField d 2 2) none).endJob .dgs job (engineDone .dgs j 0x23 0 0 0)
  else if !jobEnds d then
    (s.setDgsCtx (descField d 2 2) (some { c with msg := msg })).endJob .dgs job (engineDone .dgs j 0 src.length 0 0)
  else
    let h := digestOf c ((descField d 1 1).testBit 2) msg
    let s1 := if usesCtx d then s.setDgsCtx (descField d 2 2) none else s
    if (descField d 1 1).testBit 3 then
      s1.endJob .dgs job (engineDone .dgs j (if s.load (descField d 24 8) h.length = h then 0 else 0x28) src.length 0 0)
    else (s1.store (descField d 24 8) h).endJob .dgs job (engineDone .dgs j 0 src.length h.length 0)

/-- A DGS job is broken off with a status once k bytes of its message have passed (R116, R117, R153). -/
def State.dgsBroken (s : State) (job : Nat) (j : RingJob) (status k : Nat) : State :=
  ((if usesCtx j.desc then s.setDgsCtx (descField j.desc 2 2) none else s).dropCut .dgs (.ring job)).endJob .dgs job
    (engineDone .dgs j status (min k (descField j.desc 16 4)) 0 0)

/-- DGS_JOB_END (R111, R116, R142 to R147, R152 to R154): a running job ends by its work, or with a memory error that strikes
once the given number of bytes of its message have passed. -/
def execDgsJobEnd (job : Nat) (error : Option Nat) (s : State) : Host.Outcome State Fault Refusal :=
  .next (match Tab.find s.dgs.jobs job with
    | none => s
    | some j =>
      let d := j.desc
      let op := descField d 0 1
      if j.lane.isNone then s
      else match error with
      | some k => s.dgsBroken job j 4 k
      | none => match s.ringEnd .dgs job j (ringCycles .dgs d) with
        | none => s
        | some t =>
          if jobStarts d then
            match op, s.slot 2 (descField d 20 4 % 16) with
            | 3, none => s.endJob .dgs job (engineDone .dgs j 0x21 0 0 0)
            | 3, some k => t.dgsRun job j { opcode := 3, key := k.key, msg := [] }
            | _, _ => t.dgsRun job j { opcode := op, key := [], msg := [] }
          else match Tab.find s.dgs.ctx (descField d 2 2) with
            | some c => if c.opcode = op then t.dgsRun job j c else s.endJob .dgs job (engineDone .dgs j 3 0 0 0)
            | none => s.endJob .dgs job (engineDone .dgs j 3 0 0 0))

/-! Lanes that change role (R81) or are withdrawn (R511). -/

/-- The role a lane is to have: C of R77. -/
def State.roleDue (s : State) (lane : Nat) : Bool := decide (lane < s.fld F.CMP.CONFIG.COMP_LANES)

/-- A lane's role differs from the one the structure gives it. -/
def State.roleChanges (s : State) (lane : Nat) : Bool := s.cmp.compressors.contains lane != s.roleDue lane

/-- A commit has changed C, or has not (R81): ROLE_PEND. -/
def State.rolePending (s : State) : State :=
  if (List.range 112).any s.roleChanges then s.put F.CMP.STATUS.ROLE_PEND 1 else s

/-- The boundary after a commit: the job-ring jobs on a lane whose role changes move to a lane of the old role (R81). A job with a
save area goes on there from its saved state; a single-shot one begins again. -/
def State.moveRingJobs (s : State) : State :=
  if !s.flag F.CMP.STATUS.ROLE_PEND then s
  else (s.cmp.jobs.filter (fun p => p.2.lane.any s.roleChanges)).foldl (fun (t : State) p =>
    match t.pickLane .cmp (descField p.2.desc 0 1 % 2 == 1) with
    | some l =>
      let cut := if descField p.2.desc 48 8 = 0 then none
        else (p.2.lane.bind (fun o => Tab.find t.lanes.cmp.cuts (slotKey o 2))).filter (fun c => c.item == .ring p.1)
      let u := (t.dropCut .cmp (.ring p.1)).setJobs .cmp (Tab.insert t.cmp.jobs p.1 { p.2 with lane := some l })
      match cut with
      | some c => { u with lanes := u.lanes.set .cmp { u.lanes.cmp with cuts := Tab.insert u.lanes.cmp.cuts (slotKey l 2) c } }
      | none => u
    | none => t) s

/-- A lane's slots are empty, and nothing that stands before it has been begun. -/
def State.laneEmpty (s : State) (lane : Nat) : Bool :=
  s.cmp.jobs.all (fun p => p.2.lane != some lane) &&
  s.rdx.chunks.all (fun p => p.2.cmpLane != some lane || p.2.stage != .missed) &&
  s.rdx.reads.all (fun p => p.2.cmpLane != some lane || p.2.stage != .decrypted)

/-- LANE_ROLE_TAKEN (R81): a lane whose role changed and whose slots are empty takes its new role; the last one sets
ROLE_DONE. -/
def execLaneRoleTaken (lane : Nat) (s : State) : Host.Outcome State Fault Refusal :=
  .next (if lane ≥ 112 ∨ !s.flag F.CMP.STATUS.ROLE_PEND ∨ !s.roleChanges lane ∨ !s.laneEmpty lane then s
    else
      let on := if s.roleDue lane then (List.range 112).filter (fun l => l == lane || s.cmp.compressors.contains l)
        else s.cmp.compressors.filter (fun l => l != lane)
      let s1 : State := { s with cmp := { s.cmp with compressors := on } }
      if (List.range 112).any s1.roleChanges then s1
      else (s1.put F.CMP.STATUS.ROLE_PEND 0).event Src.CMP 0 0 on.length)

/-- The bytes of a ring job that have passed when it is broken off: those at which it lies cut. -/
def State.passed (s : State) (e : Eng) (job : Nat) (j : RingJob) : Nat :=
  ((j.lane.bind (fun l => s.cutOf e l (ringTask s.now job j))).map CutSlot.upto).getD 0

/-- A ring job of an engine is broken off with a status: one that has begun is cut. -/
def State.breakJob (s : State) (e : Eng) (status : Nat) (p : Nat × RingJob) : State :=
  match e with
  | .cmp => (s.dropCut .cmp (.ring p.1)).endJob .cmp p.1 (emptyEnd .cmp p.2 status)
  | .cip => if s.passed .cip p.1 p.2 = 0 then
      ((if usesCtx p.2.desc then s.setCipCtx (descField p.2.desc 2 2) none else s).endJob .cip p.1 (emptyEnd .cip p.2 status))
    else s.cipBroken p.1 p.2 status (s.passed .cip p.1 p.2)
  | .dgs => s.dgsBroken p.1 p.2 status (s.passed .dgs p.1 p.2)

/-- The jobs of a lane withdrawn by LANE_STALL end as R116 states (R511): a ring job with BUS_ERR, a write chunk under R68, a
read chunk as an integrity failure. -/
def State.failLane (s : State) (e : Eng) (lane : Nat) : State :=
  let s1 := ((s.ringJobs e).filter (fun p => p.2.lane == some lane)).foldl (fun (t : State) p => t.breakJob e 4 p) s
  let writes := (s1.rdx.chunks.filter (fun p => p.2.stage.engine == some e && p.2.on e == some lane)).filterMap (fun p => p.2.cmd)
  let s2 := writes.dedup.foldl (fun (t : State) k => t.failWrite k 0x280) s1
  (s2.rdx.reads.filter (fun p => p.2.stage.engine == some e && p.2.on e == some lane)).foldl
    (fun (t : State) p => t.integrityFailure p.1 p.2) s2

/-- The lanes withdrawn since a list of withdrawn lanes was taken. -/
def State.failWithdrawn (s : State) (before : List (Nat × Nat)) : State :=
  (s.flt.withdrawn.filter (fun w => !before.contains w)).foldl (fun (t : State) w =>
    if w.1 = Src.CMP then t.failLane .cmp w.2
    else if w.1 = Src.CIP then t.failLane .cip w.2
    else if w.1 = Src.DGS then t.failLane .dgs w.2 else t) s

/-- The zeroise request of LCS (R117): keys, contexts, lane slots and jobs of CIP and DGS, and the host-path chunks in flight
there. -/
def State.zeroiseAll (s : State) : State :=
  let inEngine (x : Option Eng) : Bool := x == some .cip || x == some .dgs
  let s0 := s.cip.jobs.foldl (fun (t : State) p => if t.passed .cip p.1 p.2 = 0 then t else t.breakJob .cip 0x24 p) s
  let s0 := s0.dgs.jobs.foldl (fun (t : State) p => t.breakJob .dgs 0x24 p) s0
  let s1 := s0.zeroise
  let s1 : State := { s1 with lanes := { s1.lanes with cip := { s1.lanes.cip with cuts := [] }, dgs := { s1.lanes.dgs with cuts := [] } } }
  let writes := (s1.rdx.chunks.filter (fun p => inEngine p.2.stage.engine)).filterMap (fun p => p.2.cmd)
  let s2 := writes.dedup.foldl (fun (t : State) k => t.failWrite k 0x280) s1
  (s2.rdx.reads.filter (fun p => inEngine p.2.stage.engine)).foldl (fun (t : State) p => t.integrityFailure p.1 p.2) s2

/-! Cuts (R25, R79, R99, R112, R115). -/

/-- Where a lane may cut a job when it has had c cycles: at one byte, or at any up to a bound (the sequences that a compressor
finds are its own). Compression counts on the input up to the hash-only rate, expansion on the output (R78); GCM on 16-byte
blocks behind the AAD, SHA-256 on 64-byte and SHA-384 on 128-byte blocks (R111). -/
inductive CutPoint where
  | exactly (upto : Nat)
  | within (upto : Nat)
  deriving DecidableEq, Repr

/-- The byte of a cut is the last boundary of its kind. -/
def CutPoint.allows : CutPoint → Nat → Bool
  | .exactly n, upto => upto == n
  | .within n, upto => decide (upto ≤ n)

/-- A cut of a job: its point, the cycles the whole job needs, those up to the byte of the cut, and whether it falls in a
hash-only pass. -/
structure Cut where
  point : CutPoint
  need : Nat
  spent : Nat
  hashing : Bool
  deriving DecidableEq, Repr

/-- Bytes of a message whose blocks take c cycles. -/
def blocksWithin (c per size : Nat) : Nat := c / per * size

/-- Bytes of text whose GCM blocks, behind those of the AAD, take c cycles. -/
def gcmWithin (c aad : Nat) : Nat := (c * 4 / 5 - (aad + 15) / 16) * 16

/-- Bytes of output within c cycles of expansion, and of a hash-only pass in whole stripes. -/
def outWithin (c : Nat) : Nat := c * 64 / 10
def stripesWithin (c : Nat) : Nat := c * 16 / 32 * 32

/-- The cut of a chunk of a write at a byte, after c cycles (R84, R111, R148). -/
def ChunkJob.cutAt (j : ChunkJob) (c upto : Nat) : Option Cut :=
  let len := j.content.length
  let w := j.cmpConfig
  match j.stage.engine with
  | some .dgs => some ⟨.exactly (blocksWithin c 16 64), 16 * hmacBlocks len, upto / 64 * 16, false⟩
  | some .cip => some ⟨.exactly (gcmWithin c 80), gcmCycles 80 j.payload.length, (5 * (5 + upto / 16) + 3) / 4, false⟩
  | some .cmp =>
    if cfgFld w F.CMP.CONFIG.COMP_EN ≠ 1 then some ⟨.exactly (stripesWithin c), hashCycles len, hashCycles upto, true⟩
    else if upto ≤ c * 32 / 10 then some ⟨.within (c * 32 / 10), packCycles len, packCycles upto, false⟩
    else if probeOf w ≠ 0 ∧ probeOf w < len ∧ packCycles (probeOf w) ≤ c then
      some ⟨.exactly ((probeOf w + (c - packCycles (probeOf w)) * 16) / 32 * 32), probedCycles w len, probedCycles w upto, true⟩
    else none
  | none => none

/-- The cut of a read of a stored chunk at a byte, after c cycles (R78, R87, R111). -/
def ChunkRead.cutAt (r : ChunkRead) (c upto : Nat) : Option Cut :=
  let h := readHeader r.stored
  match r.stage.engine with
  | some .cip => some ⟨.exactly (gcmWithin c 80), gcmCycles 80 h.storedLen, (5 * (5 + upto / 16) + 3) / 4, false⟩
  | some .cmp =>
    if h.raw then some ⟨.exactly (stripesWithin c), expandCycles true r.payload.length, hashCycles upto, true⟩
    else some ⟨.exactly (expandUpto h.gz h.logicalLen (outWithin c) r.payload),
      expandCycles false (expandUpto h.gz h.logicalLen h.logicalLen r.payload), expandCycles false upto, false⟩
  | _ => none

/-- The cut of a ring job at a byte, after c cycles (R78, R99, R111): a decompress job's is where its stream's output stops at that
space, and an output stop ends the job instead. -/
def State.jobCutAt (s : State) (e : Eng) (j : RingJob) (c upto : Nat) : Option Cut :=
  let d := j.desc
  let room := descField d 20 4 + descField d 40 4
  let aad := if jobStarts d then (descField d 20 4 + 15) / 16 else 0
  match e with
  | .cmp =>
    if descField d 0 1 % 2 = 1 then some ⟨.within (c * 32 / 10), packCycles (descField d 16 4), packCycles upto, false⟩
    else match s.cmpStream d with
      | none => some ⟨.within (outWithin c), expandCycles false room, expandCycles false upto, false⟩
      | some x =>
        let src := s.load (descField d 8 8) (descField d 16 4)
        let out (space : Nat) : Nat :=
          (decodeStream x.op x.wlog x.csum (jobEnds d) { outLimits d x with space := x.text.length + space } (x.code ++ src)).total -
            x.text.length
        some ⟨.exactly (out (min (outWithin c) room)), expandCycles false (out room), expandCycles false upto, false⟩
  | .cip => some ⟨.exactly (gcmWithin c (16 * aad)), ringCycles .cip d, (5 * (aad + upto / 16) + 3) / 4, false⟩
  | .dgs =>
    if descField d 0 1 = 2 then some ⟨.exactly (blocksWithin c 40 128), ringCycles .dgs d, upto / 128 * 40, false⟩
    else some ⟨.exactly (blocksWithin c 16 64), ringCycles .dgs d, upto / 64 * 16, false⟩

/-- The cut of a lane's job at a byte, after c cycles. -/
def State.cutAt (s : State) (e : Eng) (item : LaneItem) (c upto : Nat) : Option Cut :=
  match item with
  | .write n => (Tab.find s.rdx.chunks n).bind (fun j => j.cutAt c upto)
  | .read n => (Tab.find s.rdx.reads n).bind (fun r => r.cutAt c upto)
  | .ring n => (Tab.find (s.ringJobs e) n).bind (fun j => s.jobCutAt e j c upto)

/-- The job that a lane has at its front is cut (R25): its budget does not let it end, and the byte is the last boundary of its
kind within that budget. The job goes on from there in the next tick, and the rest of the budget passes unused. A unit longer
than a whole budget keeps the cycles it has had (assumption 51). -/
def State.cutLane (s : State) (e : Eng) (lane upto : Nat) : Option State :=
  let b := s.lanes.of e
  match (s.laneTasks e lane).find? (fun t => t.ready && s.atFront e lane t) with
  | none => none
  | some t =>
    let before := s.cutOf e lane t
    let c := (before.map CutSlot.spent).getD 0 + (s.tickCycles - b.spent lane)
    match s.cutAt e t.item c upto with
    | none => none
    | some x =>
      if x.need ≤ c ∨ s.tickCycles ≤ b.spent lane ∨ !x.point.allows upto then none
      else
        let stuck := decide (upto ≤ (before.map CutSlot.upto).getD 0)
        let slot : CutSlot := { item := t.item, upto := upto, spent := if stuck then c else x.spent, hashing := x.hashing }
        some { s with lanes := s.lanes.set e { b with
          cuts := Tab.insert b.cuts (slotKey lane t.cls) slot, used := Tab.insert b.used lane s.tickCycles } }

/-- The lanes or ports of each engine class of R25: compressor and decompressor lanes share the 112 lanes of R77. -/
def cutLanes (cls : Nat) : Nat := [112, 112, 48, 48, 96, 96].getD cls 0

/-- Work of a port is cut in the tick (R25, R243), once a class: a PROGRAM of several pages between two of them, because the line
does not take the next, or reads before the next command. -/
def State.portCut (s : State) (cls n : Nat) : Option State :=
  let p := s.port n
  let waits := if cls = 4 then p.pages.any (fun x => !s.lineTakes p (frameLen x.2.2.length) true &&
      (Tab.find p.cmds x.1).any (fun c => decide ((p.pages.filter (fun y => y.1 == x.1)).length < c.pagesTaken)))
    else p.held.any (fun c => (c.op == 1 || c.op == 8) && !s.lineTakes p (frameLen 64) false)
  if waits && !p.cut.contains cls then some (s.setPort n { p with cut := p.cut ++ [cls] }) else none

/-- JOB_CUT (R25): a job that cannot finish within its lane's budget is cut at the byte given, the last boundary of its kind that
completes within it, and goes on from there in the next tick. The classes are those of CUT_COUNT: 0 compressor, 1
decompressor, 2 AES-256-GCM, 3 SHA-256, 4 Frond program, 5 Frond read. -/
def execJobCut (cls lane upto : Nat) (s : State) : Host.Outcome State Fault Refusal :=
  .next (if lane ≥ cutLanes cls then s
    else
      let cut := match cls with
        | 0 => if s.cmp.compressors.contains lane then s.cutLane .cmp lane upto else none
        | 1 => if s.cmp.compressors.contains lane then none else s.cutLane .cmp lane upto
        | 2 => s.cutLane .cip lane upto
        | 3 => s.cutLane .dgs lane upto
        | _ => s.portCut cls lane
      match cut with
      | some t => t.count F.TCK.CUT_COUNT.COUNT cls
      | none => s)

end Sys2Proof.Machine
end

