-- ==== Sys2Proof/Machine/Images.lean ====
section
/-!
DEFINITION. Machine/Images.lean: SIM: the load of a structure image (R443 to R445), its commands (R446 to R448), and the
commit of a partial image (R448 to R451).
-/

namespace Sys2Proof.Machine

/-! Loading (R443 to R445). -/

/-- A field of SIM.SLOT_A or SIM.SLOT_B. -/
def slotField (f : Fld) (slot : Nat) : Fld := { f with addr := f.addr + 8 * slot }

/-- The check of a slot's full image (R441), with what SIM.SLOT_A or SIM.SLOT_B shows of it. -/
def State.checkSlot (s : State) (slot : Nat) : Nat × State :=
  let cause := s.imageCause (s.rcf.slotByte slot) slotSize [1] none
  (cause, ((s.put (slotField F.SIM.SLOT_A.CAUSE slot) cause).putFlag (slotField F.SIM.SLOT_A.VALID slot) (cause == 0)).put
    (slotField F.SIM.SLOT_A.IMAGE_SEQ slot) (leAt (s.rcf.slotByte slot) 8 4))

/-- The start of a Structure Load: the slot is chosen under SIM.BOOT_CTL (R443). -/
def State.startLoad (s : State) : State :=
  let found := fun (n : Nat) => (s.imageCause (s.rcf.slotByte n) slotSize [1] none == 0, leAt (s.rcf.slotByte n) 8 4)
  let (slot, trial, tried, failed) := chooseSlot (s.fld F.SIM.BOOT_CTL.PREF) (s.fld F.SIM.BOOT_CTL.TRIAL)
    (s.fld F.SIM.BOOT_CTL.TRIED) (found 0) (found 1)
  let s1 := ((({ s with sim := { s.sim with slot := slot } } : State).put F.SIM.BOOT_CTL.TRIAL trial).put
    F.SIM.BOOT_CTL.TRIED tried).put F.SIM.STATUS.STATE 1
  if failed then s1.event Src.SIM 7 else s1

/-- The bits of a register that hold fields; the others read zero whatever is written (R10). -/
def RegSpec.held (r : RegSpec) (v : Word) : Word :=
  BitVec.ofNat 64 (r.fields.foldl (fun t f => t + bits v.toNat f.hi f.lo * 2 ^ f.lo) 0)

/-- Every value written reads back (R444 step 3). -/
def recordsReadBack (recs : List (Nat × Word)) : Bool :=
  recs.all (fun p => match specAt p.1 with
    | some (_, r, _) => r.held p.2 == p.2
    | none => false)

/-- The records are written, each VALUE whole, in order (R439). -/
def State.writeRegs (s : State) (recs : List (Nat × Word)) : State :=
  recs.foldl (fun (t : State) p => t.setReg p.1 p.2) s

/-- The accepted opcodes of an ENGINE section (R436). -/
def engineWords (body : List Byte) : List Word := (List.range 4).map (Config.engineSet body)

/-- SIM.JOBFMT takes the accepted opcodes. -/
def State.setFormats (s : State) (ws : List Word) : State :=
  (List.range 4).foldl (fun (t : State) n => t.setReg (F.SIM.JOBFMT.OPCODES.nth n).addr (ws.getD n 0)) s

/-- A partial is applied in Structure Load (R444 step 4). -/
def State.applyPart (s : State) (rd : Nat → Byte) : State :=
  let s1 := s.writeRegs (regRecords ((bodyOf rd 1).getD []))
  match bodyOf rd 3 with
  | some b => s1.setFormats (engineWords b)
  | none => s1

/-- The committed partials of a slot, in order (R444): those without COMMIT, without STAGED or with ABORT are skipped, and
applying stops at the first out of sequence or refused, with PART_SKIPPED. -/
def State.applyParts (s : State) (slot : Nat) : List SlotPart → State
  | [] => s
  | p :: ps =>
    if !p.staged || !p.commit || p.abort then s.applyParts slot ps
    else
      let rd := fun i => s.rcf.slotByte slot (p.off + 64 + i)
      let last := s.fld F.SIM.STATUS.PARTS
      if s.imageCause rd (slotSize - p.off - 64) [2]
          (some ⟨s.fld F.SIM.IMAGE.IMAGE_SEQ, s.fld F.SIM.IMAGE.COMPAT, last + 1⟩) ≠ 0 ∨
          !recordsReadBack (regRecords ((bodyOf rd 1).getD [])) then
        s.event Src.SIM 6 0 p.seq
      else ((s.applyPart rd).put F.SIM.STATUS.PARTS (last + 1)).applyParts slot ps

/-- The base of the partition that holds a ROLE (R550). -/
def State.roleBase (s : State) (role : Nat) : Nat :=
  (((List.range 16).find? (fun n => s.flag (F.MEM.PART_CTL.EN.nth n) && s.fld (F.MEM.PART_CTL.ROLE.nth n) == role)).map
    (fun n => s.fld (F.MEM.PART_BASE.BASE.nth n) * 2 ^ 21)).getD 0

/-- What follows from the structure built: the compressor lanes (R77), the place of the hot set (R550). -/
def State.adoptStructure (s : State) : State :=
  ({ s with cmp := { s.cmp with compressors := List.range (s.fld F.CMP.CONFIG.COMP_LANES) } } : State).put F.RDX.SB_BASE.ADDR
    (s.roleBase 3)

/-- One slot is tried (R444, R445): none when step 1, 2 or 3 fails, and the state with the cause. A failure leaves every
register written at its reset value. -/
def State.trySlot (s : State) (slot : Nat) (readback : Bool) : Bool × State :=
  let (cause, s1) := s.checkSlot slot
  let rd := s.rcf.slotByte slot
  let recs := regRecords ((bodyOf rd 1).getD [])
  if cause ≠ 0 then (false, (s1.simRefuse cause).count F.SIM.STAT.COUNT 1)
  else if !readback || !recordsReadBack recs then
    (false, ((recs.foldl (fun (t : State) p => t.setReg p.1 (regReset p.1)) s1).simRefuse 12).count F.SIM.STAT.COUNT 1)
  else
    let s2 := s1.applyPart rd
    let s3 := (((s2.put F.SIM.IMAGE.IMAGE_SEQ (leAt rd 8 4)).put F.SIM.IMAGE.COMPAT (leAt rd 16 4)).put F.SIM.STATUS.PARTS
      0).put F.SIM.STATUS.SLOT (slot + 1)
    let s4 := (s3.applyParts slot (s.rcf.slotParts slot)).adoptStructure
    let s5 : State := { s4 with lcs := { s4.lcs with keyActive := (signer rd (leAt rd 4 4)).1 } }
    (true, ((s5.put F.SIM.STATUS.STATE 2).count F.SIM.STAT.COUNT 0).event Src.SIM 0 slot (leAt rd 8 4))

/-- The load (R444, R445): the chosen slot, then the other once; LOAD_FAIL when both fail. -/
def State.loadStructure (s : State) (readbackA readbackB : Bool) : Bool × State :=
  let back := fun (n : Nat) => if n = 0 then readbackA else readbackB
  let (ok, s1) := s.trySlot s.sim.slot (back s.sim.slot)
  if ok then (true, s1)
  else
    let (ok2, s2) := s1.trySlot (1 - s.sim.slot) (back (1 - s.sim.slot))
    if ok2 then (true, s2) else (false, (s2.put F.SIM.STATUS.STATE 3).event Src.SIM 1)

/-! Commands (R446 to R448). -/

/-- A command ends with a result. -/
def State.simResult (s : State) (result : Nat) : State := s.put F.SIM.STATUS.CMD_RESULT result

/-- The bytes that SIM may read in DDR from an address on (R551). -/
def State.ddrHeld (s : State) (a : Nat) : Nat :=
  if decide (ddrBase ≤ a) && s.memReady a then s.grantedUpTo Src.SIM a 16 - a else 0

/-- VERIFY (R441): the image that SIM.ARG names is checked. -/
def State.simVerify (s : State) : State :=
  let src := s.fld F.SIM.ARG.SRC
  let a := s.fld F.SIM.ARG.ADDR * 64
  let (cause, s1) := if src = 0 then
      (s.imageCause (fun i => s.byte (a + i)) (s.ddrHeld a) [1, 2] none, s.noteRead Src.SIM a 64)
    else s.checkSlot (src - 1)
  let s2 := s1.count F.SIM.STAT.COUNT 2
  let s3 := if cause = 0 then s2.simResult 0 else (s2.simRefuse cause).simResult 2
  s3.event Src.SIM 8 0 cause

/-- STAGE (R446, R447): step 1, and the program of the partial into the active slot. -/
def State.simStage (s : State) : State :=
  if s.fld F.SIM.ARG.SRC ≠ 0 then s.simResult 2
  else if (s.lcs.mode ≠ .dualActive ∧ s.lcs.mode ≠ .soloActive) ∨ s.fld F.SIM.STATUS.STATE ≠ 2 then s.simResult 1
  else
    let a := s.fld F.SIM.ARG.ADDR * 64
    let rd := fun i => s.byte (a + i)
    let slot := s.fld F.SIM.STATUS.SLOT - 1
    let len := leAt rd 4 4
    let cause := s.imageCause rd (s.ddrHeld a) [2]
      (some ⟨s.fld F.SIM.IMAGE.IMAGE_SEQ, s.fld F.SIM.IMAGE.COMPAT, s.fld F.SIM.STATUS.PARTS + 1⟩)
    let off := s.rcf.slotEnd slot
    let cause := if cause ≠ 0 then cause
      else if (s.rcf.slotParts slot).length ≥ 8 ∨ sectorUp (off + 64 + len) > slotSize then 13 else 0
    let s1 := s.noteRead Src.SIM a 64
    if cause ≠ 0 then (s1.simRefuse cause).simResult 2
    else
      let bytes := readAt rd 0 len
      let addr := slotBase slot + off
      let part : StagedPart := {
        partSeq := leAt rd 12 2
        quiesce := leAt rd 14 2 % 2 == 1
        regs := regRecords ((bodyOf rd 1).getD [])
        engine := (bodyOf rd 3).map engineWords
        addr := addr
        bytes := bytes }
      let s2 : State := { s1 with sim := { s1.sim with shadow := some part, wrote := none, requested := false, deferred := 0 } }
      (((s2.rcfRequest ⟨.sim, .program ((List.range (len / 8)).map (fun i =>
        ((addr + 64) / 8 + i, BitVec.ofNat 64 (leNat ((bytes.drop (8 * i)).take 8)))))⟩).put F.SIM.STATUS.STATE 4).simResult 0)

/-- COMMIT (R448): SIM writes the COMMIT word; the request stands once it is written. -/
def State.simCommit (s : State) : State :=
  match s.sim.shadow with
  | some p =>
    if s.fld F.SIM.STATUS.STATE ≠ 5 ∨ s.sim.requested then s.simResult 1
    else
      let s1 := s.programDisposition (p.addr + 8) 0x434D5449 p.partSeq
      ({ s1 with sim := { s1.sim with requested := true } } : State).simResult 0
  | none => s.simResult 1

/-- CANCEL (R447, R448). -/
def State.simCancel (s : State) : State :=
  if (s.fld F.SIM.STATUS.STATE = 4 ∨ s.fld F.SIM.STATUS.STATE = 5) ∧ !s.sim.requested then
    (({ s with sim := { s.sim with shadow := none } } : State).put F.SIM.STATUS.STATE 2).simResult 0
  else s.simResult 1

/-- LOAD (R445): the load starts again, with the slot that SIM.ARG names. -/
def State.simLoad (s : State) : State :=
  let src := s.fld F.SIM.ARG.SRC
  if s.lcs.mode ≠ .structureLoad ∨ src = 0 ∨ src > 2 then s.simResult 2
  else if s.fld F.SIM.STATUS.STATE = 1 then s.simResult 1
  else (({ s with sim := { s.sim with slot := src - 1 } } : State).put F.SIM.STATUS.STATE 1).simResult 0

/-- Step 3 of a boundary: the COMMIT word has been written, or its program has failed (R448, R452 cause 14). -/
def State.simWrote (s : State) : State :=
  match s.sim.wrote with
  | some ok =>
    if !s.sim.requested then s
    else
      let s1 : State := { s with sim := { s.sim with requested := false, deferred := 0 } }
      if ok then s1.put F.SIM.STATUS.STATE 6
      else (({ s1 with sim := { s1.sim with shadow := none } } : State).put F.SIM.STATUS.STATE 2).simRefuse 14
  | none => s

/-- Step 3 of a boundary: the command of SIM.CMD executes. -/
def State.runSimCommand (s : State) : State :=
  let s0 := s.simWrote
  match s0.sim.pending with
  | none => s0
  | some op =>
    let s1 := ({ s0 with sim := { s0.sim with pending := none } } : State).put F.SIM.STATUS.BUSY 0
    match op with
    | 1 => s1.simVerify
    | 2 => s1.simStage
    | 3 => s1.simCommit
    | 4 => s1.simCancel
    | _ => s1.simLoad

/-- STAGING_DONE (R446): the partial is programmed and read back: STAGED is written and the shadows stand; or staging ends
with cause FLASH. -/
def execStagingDone (flashOk : Bool) (s : State) : Host.Outcome State Fault Refusal :=
  .next (match s.sim.shadow, s.sim.wrote with
    | some p, some ok =>
      if s.fld F.SIM.STATUS.STATE ≠ 4 then s
      else if !ok || !flashOk || (List.range p.bytes.length).any (fun i =>
          s.rcf.byteAt (p.addr + 64 + i) != p.bytes.getD i 0) then
        (({ s with sim := { s.sim with shadow := none } } : State).put F.SIM.STATUS.STATE 2).simRefuse 14
      else
        (((s.programDisposition p.addr 0x53544744 p.partSeq).put F.SIM.STATUS.STATE 5).count F.SIM.STAT.COUNT 3).event
          Src.SIM 3 0 p.partSeq
    | _, _ => s)

/-! The commit (R448 to R450). -/

/-- STRUCTURE_SWAP_COMMIT (R448): SIM presents the commit for the next boundary, once that is at or after AT_TICK; rank 7
acts on it. -/
def execStructureSwapCommit (s : State) : Host.Outcome State Fault Refusal :=
  .next (if s.fld F.SIM.STATUS.STATE = 6 ∧ s.fld F.SIM.AT_TICK.TICK ≤ s.now + 1 ∧ !s.tck.latches.contains .commit then
      s.latch .commit
    else s)

/-- The guards of R433 and R449 hold. -/
def State.commitGuard (s : State) (p : StagedPart) : Bool :=
  (s.lcs.mode == .dualActive || s.lcs.mode == .soloActive) &&
    (let pct := s.fieldIn p.regs F.FTL.CONFIG.MOSS_PCT
     pct == s.fld F.FTL.CONFIG.MOSS_PCT ||
      decide (s.mossUsed * 100 < s.fld F.FTL.MOSS_CTL.FULL * (s.rawCapacity * pct / 100))) &&
    (let lo := s.fieldIn p.regs F.RDN.CONFIG.D_MIN
     let hi := s.fieldIn p.regs F.RDN.CONFIG.D_MAX
     (lo == s.fld F.RDN.CONFIG.D_MIN && hi == s.fld F.RDN.CONFIG.D_MAX) ||
      (decide (lo ≤ s.fld F.RDN.GEOM.D) && decide (s.fld F.RDN.GEOM.D ≤ hi))) &&
    (!s.commitNeedsHold || s.cmf.hold.any (fun h => h.quiesced))

/-- The jobs of the rings were dispatched under an ENGINE section that is no longer in force (R450). -/
def State.markOld (s : State) : State :=
  { s with
    cmp := { s.cmp with jobs := s.cmp.jobs.map (fun p => (p.1, { p.2 with old := true })) }
    cip := { s.cip with jobs := s.cip.jobs.map (fun p => (p.1, { p.2 with old := true })) }
    dgs := { s.dgs with jobs := s.dgs.jobs.map (fun p => (p.1, { p.2 with old := true })) } }

/-- Rank 7 (R449, R450): the commit is applied and the head enters Restructure, or it is deferred and stays captured. -/
def State.commitAtBoundary (s : State) : State :=
  match s.sim.shadow with
  | none => s
  | some p =>
    if s.fld F.SIM.STATUS.STATE ≠ 6 then s
    else if !s.commitGuard p then
      ({ s with sim := { s.sim with deferred := s.sim.deferred + 1 } } : State).latch .commit
    else
      let s1 := s.writeRegs p.regs
      let s2 := match p.engine with
        | some ws => s1.markOld.setFormats ws
        | none => s1
      let s3 : State := { s2 with
        sim := { s2.sim with shadow := none, deferred := 0, committing := true },
        lcs := { s2.lcs with resumeMode := s2.lcs.mode } }
      ((s3.put F.SIM.STATUS.STATE 7).enterMode .restructure).rolePending

/-- COMMIT_ABANDON (R449): the commit has been deferred for DEFER_MAX ticks. -/
def execCommitAbandon (s : State) : Host.Outcome State Fault Refusal :=
  .next (if s.fld F.SIM.STATUS.STATE = 6 ∧ s.sim.deferred ≥ s.fld F.SIM.SWAP_CTL.DEFER_MAX then s.abandonCommit else s)

/-- No lane role is pending and no job of an old ENGINE runs (R450). -/
def State.oldWorkDone (s : State) : Bool :=
  !s.flag F.CMP.STATUS.ROLE_PEND && s.cmp.jobs.all (fun p => !p.2.old) && s.cip.jobs.all (fun p => !p.2.old) &&
    s.dgs.jobs.all (fun p => !p.2.old)

/-- RESTRUCTURE_END (R450): the head leaves Restructure for the mode it came from, unless another has been entered; COMMITTED
is set. A Hand-Back that a fatal fault asked for in Restructure begins when that mode is Dual-Active (R516). -/
def execRestructureEnd (s : State) : Host.Outcome State Fault Refusal :=
  .next (if !s.sim.committing ∨ !s.oldWorkDone then s
    else
      let s1 : State := { s with sim := { s.sim with committing := false } }
      let s2 := if s.lcs.mode = .restructure then s1.enterMode s.lcs.resumeMode else s1
      let s3 := ((s2.put F.SIM.STATUS.STATE 2).count F.SIM.STAT.COUNT 4).put F.SIM.STATUS.PARTS (s.fld F.SIM.STATUS.PARTS + 1)
      let s4 := s3.event Src.SIM 4 0 (s.fld F.SIM.STATUS.PARTS + 1)
      if s4.flt.handBackDue && s4.lcs.mode == .dualActive then
        ({ s4 with flt := { s4.flt with handBackDue := false, fatalHandBack := true } } : State).latch .handBackStart
      else s4)

end Sys2Proof.Machine
end

