-- ==== Sys2Proof/Machine/EventRecorder.lean ====
section
/-!
DEFINITION. Machine/EventRecorder.lean: the event recorder (chapter 15, R499 to R508): holding and flushing,
the event ring with HEAD and TAIL, operating time, array software's records and the clear.
-/

namespace Sys2Proof.Machine

/-- The severity of a record of EVR's own codes, which the code table does not give (assumption 9). -/
def evrSeverity (code : Nat) : Nat := (Config.noticeEvent Src.EVR code).toNat

/-- The 64 bytes of an event record (R499). -/
def EvRec.bytes (r : EvRec) : List Byte :=
  let body := leBytes 8 r.seq ++ leBytes 4 r.opTime ++ leBytes 4 r.powerCycles ++ leBytes 8 r.tick ++
    leBytes 8 r.parent ++ leBytes 1 r.source ++ leBytes 1 (r.severity % 8) ++ leBytes 2 r.code ++
    leBytes 3 r.object ++ leBytes 1 r.repeats ++ leBytes 8 r.arg0 ++ leBytes 8 r.arg1
  body ++ leBytes 4 (crc32c body) ++ leBytes 4 0x45565244

/-- EVR may write records now: not in a mode in which it holds them, or in a flush (R503). -/
def State.evrMayWrite (s : State) : Bool := !s.lcs.mode.holdsRecords || s.evr.flushing

/-- The records of a logical sector of the ring, by slot. -/
def Evr.inSector (e : Evr) (l : Nat) : List (Nat × EvRec) := e.ring.filter (fun p => p.1 / 64 = l)

/-- The record of a SEQ, when it is readable: TAIL ≤ SEQ ≤ HEAD and present (R506). -/
def Evr.recordOf (e : Evr) (seq : Nat) : Option EvRec :=
  if e.tail ≤ seq ∧ seq ≤ e.head then (e.ring.find? (fun p => p.2.seq == seq)).map Prod.snd else none

/-- A flush begins (R503, R464). -/
def State.startFlush (s : State) : State :=
  if s.evr.queue = [] then s else { s with evr := { s.evr with flushing := true } }

/-- The write position has entered a logical sector (R505): TAIL moves past its records and RCF rotates it. -/
def State.enterEventSector (s : State) : State :=
  let l := s.evr.pos / 64
  let top := (s.evr.inSector l).foldl (fun m p => max m (p.2.seq + 1)) s.evr.tail
  ({ s with evr := { s.evr with tail := top, ring := s.evr.ring.filter (fun p => p.1 / 64 ≠ l) } }.setEventBit
    Src.EVR 4).rcfRequest ⟨.evr, .rotate l⟩

/-- EVR waits for a rotation it has asked for. -/
def State.rotationAsked (s : State) : Bool :=
  (s.rcf.current.toList ++ s.rcf.queue).any (fun r => r.who == .evr && (match r.op with
    | .rotate _ => true
    | _ => false))

/-- FULL: no erased spare can be made (R504). -/
def State.updateFull (s : State) : State :=
  let none := s.rcf.leastSpare.isNone && rotatingSectors.all (fun x => !s.rcf.isDirty x || s.rcf.retiring.contains x)
  let stuck := none && s.rotationAsked
  if stuck && !s.evr.full then { s with evr := { s.evr with full := true } }.setEventBit Src.EVR 3
  else if !stuck && s.evr.full then { s with evr := { s.evr with full := false } }
  else s

/-- The record of array software (R507). -/
def State.makeSwRecord (s : State) : State :=
  if s.evr.swPending then
    { s with evr := { s.evr with swPending := false } }.makeRecord
      { seq := 0, opTime := 0, powerCycles := 0, tick := s.tck.tick, parent := 0, source := 0x40,
        severity := s.fld F.EVR.SW_REC0.SEVERITY, code := s.fld F.EVR.SW_REC0.CODE,
        object := s.fld F.EVR.SW_REC0.OBJECT, repeats := 0, arg0 := s.fld F.EVR.SW_REC1.ARG0,
        arg1 := s.fld F.EVR.SW_REC2.ARG1 }
  else s

/-- The nonce changes: two values from the random source; a token is held only until then (R475). -/
def State.newNonce (s : State) : State :=
  { s with lcs := { s.lcs with nonce := (Config.freeWord s.fresh, Config.freeWord (s.fresh + 1)),
                               oemToken := none, geoToken := none },
           fresh := s.fresh + 2 }

/-- CLEAR (R508), in step 3 of the boundary after the write. -/
def State.clearLog (s : State) : State :=
  if !s.evr.clearPending then s else
  let s0 := { s with evr := { s.evr with clearPending := false } }
  let by_ := if s.lcs.oemToken = some 3 then 1 else if s.lcs.geoToken = some 3 then 2
    else if s.lcs.life = .returnToMaker then 3 else 0
  if by_ = 0 then s0.put F.EVR.STATUS.CLEAR_RESULT 1
  else if s.lcs.mode.holdsRecords then s0.put F.EVR.STATUS.CLEAR_RESULT 2
  else
    let seq := s0.evr.nextSeq
    let s1 := (s0.put F.EVR.STATUS.CLEAR_RESULT 0).record Src.EVR (evrSeverity 0x401) 0x401 by_ s.evr.tail s.evr.head
    let gone := ((s1.evr.ring.map (fun p => p.1 / 64)).dedup.filter (fun l =>
      l ≠ s1.evr.pos / 64 && (s1.evr.inSector l).all (fun p => decide (p.2.seq < seq))))
    let s2 := { s1 with evr := { s1.evr with tail := seq, clearing := gone } }.count F.EVR.STAT.COUNT 5
    let s3 := if by_ = 3 then s2 else s2.newNonce
    gone.foldl (fun t l => t.rcfRequest ⟨.background, .rotate l⟩) s3

/-- Records of the access errors of the ended tick (R568). -/
def State.makeErrorRecords (s : State) : State :=
  s.evr.atBoundary.foldl (fun t r => t.makeRecord { r with tick := t.tck.tick, parent := t.parent })
    { s with evr := { s.evr with atBoundary := [] } }

/-- An OVERFLOW record once the queue has room again (R504). -/
def State.noteOverflow (s : State) : State :=
  match s.evr.dropped with
  | some (a, b) =>
    if s.evr.queue.length < 255 then
      ({ s with evr := { s.evr with dropped := none } }.setEventBit Src.EVR 0).record Src.EVR (evrSeverity 0x402)
        0x402 (b + 1 - a) a b
    else s
  | none => s

/-- A unit of operating time is 56.25 s (R502). -/
def State.opUnit (s : State) : Nat := s.ticksIn 56250000

/-- Operating time gains the ended tick (R502). -/
def State.runOpTime (s : State) : State :=
  if s.evr.opTicks + 1 ≥ s.opUnit then
    { s with evr := { s.evr with opTime := s.evr.opTime + 1, opTicks := 0, timeDue := !s.evr.unitUsed,
                                 unitUsed := false } }
  else { s with evr := { s.evr with opTicks := s.evr.opTicks + 1 } }

/-- EVR's part of step 3 of a boundary. -/
def State.evrBoundary (s : State) : State :=
  let s1 := ((s.makeErrorRecords.makeSwRecord.clearLog).noteOverflow).updateFull
  if s1.evrMayWrite && s1.evr.queue != [] && decide (s1.evr.pos % 64 = 0) && !s1.evr.entered && !s1.rotationAsked then
    s1.enterEventSector
  else s1

/-- EVR at start (R492, R502, R505): HEAD, TAIL, SEQ, operating time and power cycles from the records present. -/
def State.evrScan (s : State) : State :=
  let recs := s.evr.ring.map Prod.snd
  let head := recs.foldl (fun m r => max m r.seq) 0
  let low := recs.foldl (fun m r => if m = 0 then r.seq else min m r.seq) 0
  let clear := recs.foldl (fun m r => if r.source = Src.EVR ∧ r.code = 0x401 then max m r.seq else m) 0
  let slot := ((s.evr.ring.find? (fun p => p.2.seq == head)).map (fun p => (p.1 + 1) % 131072)).getD 0
  let cycles := recs.foldl (fun m r => max m r.powerCycles) 0
  { s with evr := { s.evr with
      head := head, tail := max low clear, nextSeq := max s.evr.nextSeq (head + 1), pos := slot,
      entered := decide (slot % 64 ≠ 0), opTime := max s.evr.opTime (recs.foldl (fun m r => max m r.opTime) 0),
      powerCycles := if s.lcs.resetCause = .cold then cycles + 1 else max cycles s.evr.powerCycles } }

/-- RECORD_FLASH_SCAN (R492): in Reset, RCF finds the newest intent entry, builds the map and starts the repair of
an open one, and lets EVR find HEAD and TAIL. -/
def execRecordFlashScan (s : State) : Host.Outcome State Fault Refusal :=
  .next (if s.lcs.mode = .reset then s.rcfScan.evrScan else s)

/-- EVR_FLUSH (R499, R503 to R505): the oldest queued record has been written; when it failed verify before MARK,
its slot is left without one and it is written again into the next slot. -/
def execEvrFlush (ok : Bool) (s : State) : Host.Outcome State Fault Refusal :=
  .next (match s.evr.queue with
    | [] => s
    | r :: rest =>
      if s.evrMayWrite && (decide (s.evr.pos % 64 ≠ 0) || s.evr.entered) && !s.evr.full then
        let pos := (s.evr.pos + 1) % 131072
        let e := { s.evr with pos := pos, entered := decide (pos % 64 ≠ 0) }
        if ok then
          let t := { s with evr := { e with
            queue := rest, ring := Tab.insert e.ring s.evr.pos r, head := max e.head r.seq,
            tail := if e.tail = 0 then r.seq else e.tail } }.count F.EVR.STAT.COUNT 0
          let t := t.noteOverflow
          if s.evr.flushing && t.evr.queue == [] then
            ({ t with evr := { t.evr with flushing := false } }.setEventBit Src.EVR 2).count F.EVR.STAT.COUNT 4
          else t
        else { s with evr := e }
      else s)

/-- TIME_RECORD (R502): the unit of operating time that ended saw no other record. -/
def execTimeRecord (s : State) : Host.Outcome State Fault Refusal :=
  .next (if s.evr.timeDue then
    { s with evr := { s.evr with timeDue := false } }.record Src.EVR (evrSeverity 0x400) 0x400 0 0 0
    else s)

/-- CLEAR_ROTATION_DONE (R508): the last event sector with records below TAIL alone is erased. -/
def execClearRotationDone (s : State) : Host.Outcome State Fault Refusal :=
  .next (if s.evr.clearing ≠ [] ∧ s.evr.clearing.all (fun l =>
      (s.rcf.current.toList ++ s.rcf.queue).all (fun r => r.op != .rotate l)) then
    { s with evr := { s.evr with
        clearing := [], ring := s.evr.ring.filter (fun p => p.1 / 64 ∉ s.evr.clearing) } }.setEventBit Src.EVR 1
    else s)

end Sys2Proof.Machine
end

