-- ==== Sys2Proof/Machine/LifeCycle.lean ====
section
/-!
DEFINITION. Machine/LifeCycle.lean: LCS: fuses and the life-cycle state (R471 to R473), tokens (R474, R475), the life-cycle
commands (R476, R477, R479) and the array wrapping key (R478).
-/

namespace Sys2Proof.Machine

/-! Fuses. -/

/-- LC bit i: at least two of its three fuses are blown (R473). -/
def Fuses.lcBit (f : Fuses) (i : Nat) : Bool :=
  decide (2 ≤ (f.lc.toNat.testBit (3 * i)).toNat + (f.lc.toNat.testBit (3 * i + 1)).toNat + (f.lc.toNat.testBit (3 * i + 2)).toNat)

/-- The life-cycle state that the fuses read as (R473): a thermometer code; any other pattern is Void. -/
def Fuses.lifeState (f : Fuses) : LifeState :=
  match f.lcBit 0, f.lcBit 1, f.lcBit 2, f.lcBit 3, f.lcBit 4 with
  | false, false, false, false, false => .blank
  | true, false, false, false, false => .maker
  | true, true, false, false, false => .provisioned
  | true, true, true, false, false => .field
  | true, true, true, true, false => .returnToMaker
  | _, _, _, _, _ => .void

/-- The three fuses of LC bit i are blown. -/
def Fuses.blowLc (f : Fuses) (i : Nat) : Fuses := { f with lc := f.lc ||| BitVec.ofNat 15 (7 * 2 ^ (3 * i)) }

/-- SECRET_KILL is programmed (R473). -/
def Fuses.killed (f : Fuses) : Bool :=
  decide (2 ≤ (f.secretKill.toNat.testBit 0).toNat + (f.secretKill.toNat.testBit 1).toNat + (f.secretKill.toNat.testBit 2).toNat)

/-- DEVICE_SECRET, while it is usable (R473). -/
def Fuses.secret (f : Fuses) : Option (BitVec 256) := if f.killed then none else f.deviceSecret

/-! Command data. -/

/-- Bytes of LCS.DATA. -/
def State.lcsData (s : State) : List Byte := (List.range 32).flatMap (fun i => leBytes 8 (s.fld (F.LCS.DATA.DATA.nth i)))

/-- LCS.DATA takes bytes; the rest is zero. -/
def State.setLcsData (s : State) (b : List Byte) : State :=
  (List.range 32).foldl (fun (t : State) i => t.put (F.LCS.DATA.DATA.nth i) (leNat ((b.drop (8 * i)).take 8))) s

/-- A part of LCS.DATA. -/
def part (b : List Byte) (off n : Nat) : List Byte := (b.drop off).take n

/-! Tokens (R474, R475). -/

/-- A token verifies (R474). -/
def State.tokenOk (s : State) (b : List Byte) : Bool :=
  let at_ := fun off n => leNat (part b off n)
  let big := fun off => beNat (part b off 48)
  let key := keyDigest (part b 64 96)
  ecdsaVerify (big 64) (big 112) (part b 0 160) (big 160) (big 208) &&
    at_ 0 2 == 0x544B && at_ 2 1 == 1 && at_ 5 3 == 0 && at_ 40 24 == 0 &&
    decide (1 ≤ at_ 3 1) && decide (at_ 3 1 ≤ 3) &&
    at_ 8 16 == s.lcs.fuses.serial.toNat &&
    at_ 24 16 == s.lcs.nonce.1.toNat + s.lcs.nonce.2.toNat * 2 ^ 64 &&
    (if at_ 4 1 = 2 then key == Config.rootDigest
     else at_ 4 1 == 1 && s.lcs.fuses.tokenDigest == some key)

/-! Ends of commands (R476). -/

/-- A life-cycle command ends: RESULT, CMD_DONE, and LCS.DATA zeroed or holding the output. -/
def State.endLcs (s : State) (result : Nat) (output : List Byte := []) : State :=
  let s1 := ((s.put F.LCS.CMD_STATUS.BUSY 0).put F.LCS.CMD_STATUS.RESULT result).setLcsData output
  (if result = 0 then s1.count F.LCS.STAT.COUNT 7 else s1).event Src.LCS 0 0 result

/-- The fuses take new values when every one verifies; otherwise the command ends FUSE_FAIL (assumption 43). -/
def State.programFuses (s : State) (ok : Bool) (f : Fuses) : State :=
  if ok then ({ s with lcs := { s.lcs with fuses := f } } : State).endLcs 0 else s.endLcs 5

/-- As `programFuses`, for a command that changes LC: a life-cycle reset follows at the next boundary (R476). -/
def State.programLc (s : State) (ok : Bool) (f : Fuses) : State :=
  let s1 := s.programFuses ok f
  if ok then { s1 with lcs := { s1.lcs with lifeResetDue := true } } else s1

/-! The array wrapping key (R478). -/

/-- A key of 256 bits from the random source. -/
def State.drawKey (s : State) : BitVec 256 × State :=
  let (b, s1) := s.randomBytes 32
  (BitVec.ofNat 256 (leNat b), s1)

/-- The key is loaded and kept in the key-wrap store. -/
def State.keepAwk (s : State) (k : BitVec 256) : State :=
  { s with lcs := { s.lcs with awk := some k, awkStored := some k } }

/-- The AES key of a blob: the first 32 bytes of SHA-384 of the shared x-coordinate and the target's serial. -/
def blobKeyOf (x : Nat) (serial : List Byte) : List Byte := (sha384 (beBytes 48 x ++ serial)).take 32

/-- AWK_EXPORT: the key wrapped to a device public key (R478); none when that is no point of the curve. -/
def State.exportBlob (s : State) (awk : BitVec 256) (d : List Byte) : Option (List Byte) × State :=
  let (e, s1) := s.randomBytes 48
  let (iv, s2) := s1.randomBytes 12
  let scalar := beNat e % (p384N - 1) + 1
  match ecdhX scalar (beNat (part d 0 48)) (beNat (part d 48 48)) with
  | none => (none, s2)
  | some x =>
    let (px, py) := publicKey scalar
    let aad := beBytes 48 px ++ beBytes 48 py ++ iv ++ List.replicate 4 0
    let key := blobKeyOf x (part d 96 16)
    let c := gcmCrypt key iv (leBytes 32 awk.toNat)
    (some (aad ++ c ++ gcmTag key iv aad c), s2)

/-- The key of a blob for this device (R478); none when its tag fails. -/
def State.importBlob (s : State) (secret : BitVec 256) (d : List Byte) : Option (BitVec 256) :=
  match ecdhX (Config.deviceScalar secret) (beNat (part d 0 48)) (beNat (part d 48 48)) with
  | none => none
  | some x =>
    let key := blobKeyOf x (leBytes 16 s.lcs.fuses.serial.toNat)
    let iv := part d 96 12
    let c := part d 112 32
    if gcmTag key iv (part d 0 112) c = part d 144 16 then some (BitVec.ofNat 256 (leNat (gcmCrypt key iv c))) else none

/-! The commands (R476). -/

/-- The states, modes and sources that the table of R476 allows a command. -/
def State.lcsAllowed (s : State) (op : Nat) (test : Bool) : Bool :=
  let l := s.lcs.life
  match op with
  | 1 => l != .void
  | 2 => l == .blank && test
  | 3 => l == .maker
  | 4 => l == .provisioned && !test
  | 5 => (l == .provisioned || l == .field) && (s.lcs.mode == .reset || s.lcs.mode == .structureLoad ||
      s.lcs.mode == .selfTest || s.lcs.mode == .eclipse)
  | 6 => l == .returnToMaker
  | 7 => (l == .provisioned || l == .field) && !test
  | 8 => (l == .provisioned || l == .field) && !test
  | 9 => (l == .provisioned || l == .field) && !test
  | 10 => (l == .maker || l == .provisioned || l == .field || l == .returnToMaker) && !test
  | 11 => (l == .maker || l == .provisioned || l == .field) && !test
  | 12 => (l == .provisioned || l == .field) && !test
  | 13 => (l == .maker || l == .provisioned || l == .field) && !test
  | 14 => l == .maker || l == .provisioned || l == .field
  | _ => false

/-- SUBMIT (R475). -/
def State.lcsSubmit (s : State) : State :=
  let b := s.lcsData
  if s.tokenOk b then
    let purpose := leNat (part b 3 1)
    let l := if leNat (part b 4 1) = 2 then { s.lcs with geoToken := some purpose } else { s.lcs with oemToken := some purpose }
    (({ s with lcs := l } : State).count F.LCS.STAT.COUNT 5).endLcs 0
  else ((s.newNonce.event Src.LCS 1).count F.LCS.STAT.COUNT 6).endLcs 3

/-- ENTER_MAKER: DEVICE_SECRET, then LC bit 0. -/
def State.lcsEnterMaker (s : State) (ok : Bool) : State :=
  if s.lcs.geoToken ≠ some 1 then s.endLcs 4
  else
    let (k, s1) := s.drawKey
    (s1.programLc ok (({ s1.lcs.fuses with deviceSecret := some k } : Fuses).blowLc 0)).newNonce

/-- PROVISION: IMG_DIGEST(0), TOKEN_DIGEST, ROLLBACK(0), then LC bit 1. -/
def State.lcsProvision (s : State) (value : Nat) (ok : Bool) : State :=
  let b := s.lcsData
  s.programLc ok (({ s.lcs.fuses with
    imgDigest := Tab.insert s.lcs.fuses.imgDigest 0 (BitVec.ofNat 384 (beNat (part b 0 48))),
    tokenDigest := some (BitVec.ofNat 384 (beNat (part b 48 48))),
    rollback := [BitVec.ofNat 32 value] } : Fuses).blowLc 1)

/-- ENTER_RTM (R477): zeroise, erase the key-wrap store, SECRET_KILL, then LC bits 2 and 3. -/
def State.lcsEnterRtm (s : State) (ok : Bool) : State :=
  if s.lcs.oemToken ≠ some 2 ∨ s.lcs.geoToken ≠ some 2 then s.endLcs 4
  else
    let s1 := s.zeroiseAll
    let s2 : State := { s1 with
      rcf := (List.range 256).foldl (fun (c : Rcf) i => c.eraseSector (13824 + i)) s1.rcf,
      lcs := { s1.lcs with awk := none, awkStored := none } }
    (s2.programLc ok ((({ s2.lcs.fuses with secretKill := 7 } : Fuses).blowLc 2).blowLc 3)).newNonce

/-- ADD_KEY. -/
def State.lcsAddKey (s : State) (index : Nat) (ok : Bool) : State :=
  if (Tab.find s.lcs.fuses.imgDigest index).isSome then s.endLcs 6
  else s.programFuses ok { s.lcs.fuses with
    imgDigest := Tab.insert s.lcs.fuses.imgDigest index (BitVec.ofNat 384 (beNat (part s.lcsData 0 48))) }

/-- REVOKE. -/
def State.lcsRevoke (s : State) (index : Nat) (ok : Bool) : State :=
  let f := s.lcs.fuses
  if index = s.lcs.keyActive ∨ f.imgDigest.all (fun p => p.1 == index || f.imgRevoke.toNat.testBit p.1) then s.endLcs 7
  else s.programFuses ok { f with imgRevoke := f.imgRevoke ||| BitVec.ofNat 4 (2 ^ index) }

/-- RAISE_ROLLBACK. -/
def State.lcsRaise (s : State) (value : Nat) (ok : Bool) : State :=
  let f := s.lcs.fuses
  if value ≤ f.rollbackMin ∨ value > s.fld F.SIM.IMAGE.IMAGE_SEQ then s.endLcs 1
  else if f.rollback.length ≥ 16 then s.endLcs 6
  else s.programFuses ok { f with rollback := f.rollback ++ [BitVec.ofNat 32 value] }

/-- AWK_GENERATE and AWK_IMPORT (R478): STATE when a key is loaded; AWK_FAIL without a usable DEVICE_SECRET to wrap it
under, or when the blob's tag fails. -/
def State.lcsLoadAwk (s : State) (import_ : Bool) : State :=
  if s.lcs.awk.isSome then s.endLcs 2
  else match s.lcs.fuses.secret with
    | none => s.endLcs 8
    | some d =>
      if import_ then
        match s.importBlob d s.lcsData with
        | some k => (s.keepAwk k).endLcs 0
        | none => s.endLcs 8
      else
        let (k, s1) := s.drawKey
        (s1.keepAwk k).endLcs 0

/-- AWK_EXPORT (R478): AWK_FAIL when no key is loaded or the public key given is no point of the curve. -/
def State.lcsExport (s : State) : State :=
  match s.lcs.awk with
  | none => s.endLcs 8
  | some k =>
    match s.exportBlob k s.lcsData with
    | (some b, s1) => s1.endLcs 0 b
    | (none, s1) => s1.endLcs 8

/-- DEVICE_PUB: the device public key. -/
def State.lcsDevicePub (s : State) : State :=
  match s.lcs.fuses.secret with
  | none => s.endLcs 8
  | some d =>
    let (x, y) := publicKey (Config.deviceScalar d)
    s.endLcs 0 (beBytes 48 x ++ beBytes 48 y)

/-- ZEROISE (R479): the zeroise request, which clears the array wrapping key too. -/
def State.lcsZeroise (s : State) : State :=
  let s1 := s.zeroiseAll
  ({ s1 with lcs := { s1.lcs with awk := none } } : State).endLcs 0

/-- Step 3 of a boundary: the life-cycle command written to LCS.CMD executes (R476). -/
def State.runLcsCommand (s : State) : State :=
  match s.lcs.pending with
  | none => s
  | some c =>
    let s1 : State := { s with lcs := { s.lcs with pending := none } }
    if !s1.lcsAllowed c.op c.fromLcAccess then s1.endLcs 2
    else match c.op with
      | 1 => s1.lcsSubmit
      | 2 => s1.lcsEnterMaker c.fuseOk
      | 3 => s1.lcsProvision c.value c.fuseOk
      | 4 => s1.programLc c.fuseOk (s1.lcs.fuses.blowLc 2)
      | 5 => s1.lcsEnterRtm c.fuseOk
      | 6 => s1.programLc c.fuseOk (s1.lcs.fuses.blowLc 4)
      | 7 => s1.lcsAddKey c.index c.fuseOk
      | 8 => s1.lcsRevoke c.index c.fuseOk
      | 9 => s1.lcsRaise c.value c.fuseOk
      | 10 => s1.lcsZeroise
      | 11 => s1.lcsLoadAwk false
      | 12 => s1.lcsExport
      | 13 => s1.lcsLoadAwk true
      | _ => s1.lcsDevicePub

end Sys2Proof.Machine
end

