-- ==== Sys2Proof/Machine/Peer.lean ====
section
/-!
DEFINITION. Machine/Peer.lean: the peer head (chapter 11): MARKs and peer loss, the deltas it sends, forwarded commands, and
Join.
-/

namespace Sys2Proof.Machine

/-! Shadows (R390, R391). -/

/-- A shadow that holds nothing. -/
def Shadow.empty : Shadow := { complete := false, base := 0, root := 0, upto := 0, records := [], bytes := 0, ptr := none, sj := [] }

/-- The shadow of a side. -/
def State.shadowOf (s : State) (k : Nat) : Shadow := Tab.getD s.rfl.shadows k Shadow.empty

def State.setShadow (s : State) (k : Nat) (h : Shadow) : State :=
  { s with rfl := { s.rfl with shadows := Tab.insert s.rfl.shadows k h } }

/-- The shadow of a side is in use and complete (RFL.STATUS.SHADOW_OK). -/
def State.shadowOk (s : State) (k : Nat) : Bool := s.flag F.RFL.SHADOW_BASE.EN && (s.shadowOf k).complete

/-- The sides of a mask whose shadow was complete are marked incomplete (R391). -/
def State.loseShadows (s : State) (sides : Nat) : State :=
  let lost := [0, 1].filter (fun k => sides.testBit k && (s.shadowOf k).complete)
  let s1 := lost.foldl (fun (t : State) k => t.setShadow k { t.shadowOf k with complete := false }) s
  if lost = [] then s1 else s1.event Src.RFL 3 0 (lost.foldl (fun m k => m + 2 ^ k) 0)

/-- The last record up to which every JSEQ is present (R390). -/
def presentUpto (records : Tab ReadRec) : Nat → Nat → Nat
  | 0, n => n
  | fuel + 1, n => if (Tab.find records (n + 1)).isSome then presentUpto records fuel (n + 1) else n

def Shadow.advance (h : Shadow) : Shadow := { h with upto := presentUpto h.records (h.records.length + 1) h.upto }

/-- UPTO and ROOT of a record's CKPT item. -/
def ckptOf (items : List JItem) : Option (Nat × Nat) :=
  items.findSome? (fun i => match i with
    | .ckpt upto root _ => some (upto, root)
    | _ => none)

/-- Records of JSEQ ≤ UPTO are freed. -/
def Shadow.free (h : Shadow) (upto root : Nat) : Shadow :=
  let kept := h.records.filter (fun r => r.1 > upto)
  ({ h with
      records := kept, base := upto, root := root, upto := max h.upto upto,
      bytes := kept.foldl (fun t r => t + recordBytes r.2.items) 0 } : Shadow).advance

/-- The bytes that the shadow of one side may take: half of the store. -/
def State.shadowSize (s : State) : Nat := s.fld F.RFL.SHADOW_BASE.SIZE_GIB * 2 ^ 29

/-- A map journal record joins the shadow of its side (R390, R391). -/
def State.shadowRecord (s : State) (k : Nat) (r : ReadRec) : State :=
  let h := s.shadowOf k
  let size := recordBytes r.items
  if !s.flag F.RFL.SHADOW_BASE.EN then s
  else if h.bytes + size > s.shadowSize then s.loseShadows (2 ^ k)
  else if (Tab.find h.records r.jseq).isSome ∨ r.jseq ≤ h.upto then s
  else
    let h1 := ({ h with records := Tab.insert h.records r.jseq r, bytes := h.bytes + size } : Shadow).advance
    s.setShadow k (match ckptOf r.items with | some (u, root) => h1.free u root | none => h1)

/-! MARKs (R382, R383). -/

/-- The code of TCK.STATUS.ALIGN. -/
def AlignState.code : AlignState → Nat
  | .free => 0
  | .acquire => 1
  | .locked => 2
  | .holdover => 3

/-- The compatibility identifier of the loaded image. -/
def State.compat (s : State) : Nat := s.fld F.SIM.IMAGE.COMPAT

/-- The payload of a MARK (R382), sent at the boundary itself. -/
def State.markBytes (s : State) : List Byte :=
  let echo := match s.rfl.mark with
    | some m => (m.tick, unsignedOf 32 (((s.now - m.arrived) * s.tickNs * 4 : Nat) - m.arrival))
    | none => (0, 0)
  beBytes 8 s.now ++ beBytes 1 s.lcs.mode.code ++
    beBytes 1 (s.fld F.TCK.CONFIG.TICK_LEN % 4 + s.tck.align.code * 4 + s.tck.headSlot % 2 * 32 + s.wit.own % 4 * 64) ++
    beBytes 2 (s.fld F.WIT.CONFIG.ARRAY_TAG) ++ beBytes 4 s.frnEpoch ++ beBytes 8 echo.1 ++ beBytes 4 echo.2 ++ beBytes 4 0 ++
    beBytes 4 s.compat ++ beBytes 28 0

/-- The fields of a MARK as it is read (R382), with what RFL measures. -/
structure MarkRead where
  tick : Nat
  mode : Nat
  tickLen : Nat
  align : Nat
  head : Nat
  own : Nat
  tag : Nat
  epoch : Nat
  compat : Nat
  echoHold : Nat
  txOffset : Int
  trip : Nat
  arrival : Int
  fallback : Bool
  deriving DecidableEq, Repr

/-- The fields of a MARK's payload; none when it is malformed: its length, a reserved field or the mode code (R7, R382, R397). -/
def readMark (m : MarkIn) : Option MarkRead :=
  let b := m.payload
  let f := beField b
  let flags := f 9 1
  if b.length ≠ 64 ∨ f 8 1 > 11 ∨ f 36 28 ≠ 0 then none
  else some {
    tick := f 0 8, mode := f 8 1, tickLen := flags % 4, align := flags / 4 % 8, head := flags / 32 % 2, own := flags / 64, tag := f 10 2,
    epoch := f 12 4, compat := f 32 4, echoHold := f 24 4, txOffset := signedOf 32 (f 28 4),
    trip := m.trip, arrival := m.arrival, fallback := m.fallback }

/-- The head transmits: not in Reset or Structure Load, and not once a drain has ended (R462, R467). -/
def State.transmits (s : State) : Bool :=
  s.lcs.mode != .reset && s.lcs.mode != .structureLoad && !(s.lcs.mode == .powerFailDrain && s.lcs.drainEnded)

/-- The MARK of the boundary, on the link or on the fallback; FB_ACTIVE when the fallback comes into use (R385). -/
def State.sendMark (s : State) : State :=
  if !s.transmits then s
  else
    let fb := s.fallbackConn
    let s1 := if fb.isSome ∧ !s.rfl.fallback then s.event Src.RFL 2 else s
    let s2 : State := { s1 with rfl := { s1.rfl with fallback := fb.isSome } }
    if s.reflect = .ident ∨ s.reflect = .up then s2.send (.mark s.markBytes)
    else match fb with
      | some (n, c) => s2.sprayMessage n c 1 .mark (s.fld F.RFL.FB_RKEY.RKEY) 0 0 none s.markBytes
      | none => s2

/-- Join is refused or goes on, by what the peer's MARK shows (R413). -/
def State.joinCheck (s : State) (m : MarkRead) : State :=
  if s.lcs.mode ≠ .join ∨ s.fld F.RFL.JOIN_STATUS.PHASE > 1 then s
  else
    let cause := if m.tickLen ≠ s.fld F.TCK.CONFIG.TICK_LEN then 1 else if m.compat ≠ s.compat then 2
      else if m.tag ≠ s.fld F.WIT.CONFIG.ARRAY_TAG then 3 else 0
    let s1 := s.put F.RFL.JOIN_STATUS.CAUSE cause
    if cause = 0 then s1.put F.RFL.JOIN_STATUS.PHASE 2
    else if s.fld F.RFL.JOIN_STATUS.CAUSE = cause then s1 else s1.event Src.RFL 7 0 cause

/-- Every stripe-journal record of a restatement of a side (R220, R414): the records are copies for the peer, and no record
of the head's own journal is formed. -/
def State.restatement (s : State) (k : Nat) : List SjCopy :=
  let t := s.restate
  (t.rdn.journal.drop s.rdn.journal.length).map (fun r => { side := k, sseq := r.sseq, bytes := r.encode s.tck.headSlot (t.sjBody r) })

/-- The bulk state that S sends, and the checkpoints it owes (R414). -/
def State.startJoin (s : State) : State :=
  let views := s.heldViews
  let vcs := s.vct.vcs.map (fun p =>
    ({ vc := p.1, state := p.2.state.code, op := 0, cause := 0, vgen := p.2.vgen, target := 0, qgen := 0 } : VcEntry))
  let bins := s.pcr.peer.map (fun p => ({ bin := p.1, valid := p.2.1, m := p.2.2 } : PacerBin))
  let keys := s.cip.data.map keyResOf
  let ptr := views.map (fun v => v.2.ptrOf v.1)
  let sj := views.flatMap (fun v => v.2.restatement v.1)
  let size := 16 * keys.length + (sj.map (fun r => r.bytes.length)).foldl (· + ·) 0 + 64 * ptr.length + 16 * vcs.length + 48 + 4 * bins.length
  let s1 := s.reflectSend (reflectFrames size) (.joinBulk keys sj ptr vcs bins)
  { s1 with rfl := { s1.rfl with
      servesJoin := true, deltas := [], baseDue := ([0, 1].filter s.wit.own.testBit).map (fun k => (k, none)) } }

/-- A MARK is accepted (R382 to R384, R413, R414). -/
def State.acceptMark (s : State) (m : MarkRead) : State :=
  let mark : Mark := {
    tick := m.tick, mode := m.mode, tickLen := m.tickLen, align := m.align, head := m.head, own := m.own % 4, tag := m.tag,
    epoch := m.epoch, compat := m.compat, arrived := s.now, arrival := m.arrival }
  let held := if m.mode = 8 then 0 else m.own % 4
  let differs (l : Nat) : Bool := l != s.fld F.TCK.CONFIG.TICK_LEN
  let r : Rfl := { s.rfl with
    mark := some mark, unheld := none, lastApplied := if m.tick < s.rfl.lastApplied then 0 else s.rfl.lastApplied,
    incoming := s.rfl.incoming &&& (3 ^^^ held), released := s.rfl.released &&& (3 ^^^ held),
    claimLater := s.rfl.claimLater &&& (3 ^^^ m.own % 4), servesJoin := s.rfl.servesJoin && m.mode == 4 }
  let s1 : State := { s with rfl := if m.fallback then r else { r with heardAt := s.now } }
  let s2 := if m.fallback then s1
    else { s1 with tck := { s1.tck with peerOffset := -((m.arrival - ((m.trip : Int) - m.echoHold) / 2 - m.txOffset) / 4) } }
  let s3 := if differs m.tickLen ∧ !(s.rfl.mark.any (fun p => differs p.tickLen)) then s2.event Src.TCK 5 0 m.tickLen else s2
  let s4 := s3.joinCheck m
  if m.mode = 4 ∧ s4.lcs.mode.serving ∧ !s4.rfl.servesJoin ∧ !m.fallback then s4.startJoin.endReturn else s4.endReturn

/-- A MARK that is malformed is not accepted (R7, R378): in IDENT it fails the link. -/
def State.badMark (s : State) : State :=
  if s.reflect = .ident then (s.reflectEnter .fault).event Src.RFL 8
  else if s.reflect = .up ∨ s.reflect = .retrain then s.event Src.RFL 8
  else s

/-- MARK_RECEIVED (R378, R382, R385): in IDENT the MARK passes the link or fails it; in UP and RETRAIN, and on the fallback,
it is accepted. -/
def execMarkReceived (m : MarkIn) (s : State) : Host.Outcome State Fault Refusal :=
  .next (match m.fallback, readMark m with
    | true, some r => if s.flag F.RFL.CTL.FB_EN then s.acceptMark r else s
    | true, none => if s.flag F.RFL.CTL.FB_EN then s.event Src.RFL 8 else s
    | false, none => s.badMark
    | false, some r =>
      match s.reflect with
      | .ident =>
        if r.tag = s.fld F.WIT.CONFIG.ARRAY_TAG ∧ r.head ≠ s.tck.headSlot then (s.reflectEnter .up).acceptMark r
        else s.badMark
      | .up => s.acceptMark r
      | .retrain => s.acceptMark r
      | _ => s)

/-! Peer loss (R384, R394, R415). -/

/-- RFL works: the head is in none of Reset, Structure Load and Power-Fail Drain. -/
def Mode.hearsPeer (m : Mode) : Bool := m != .reset && m != .structureLoad && m != .powerFailDrain

/-- PEER_LOSS (R384): no MARK has been accepted in the last LOSS ticks. It is acted on at rank 5. -/
def execPeerLoss (s : State) : Host.Outcome State Fault Refusal :=
  let limit := s.fld F.RFL.LOSS_CTL.LOSS
  let silent : Bool := match s.rfl.mark with
    | some m => decide (m.arrived + limit ≤ s.now)
    | none => decide (limit ≤ s.now)
  .next (if !s.lcs.mode.hearsPeer ∨ s.rfl.lost ∨ !silent then s
    else ((({ s with rfl := { s.rfl with lost := true } } : State).event Src.RFL 0).count F.RFL.STAT.COUNT 7).latch .peerLoss)

/-- PEER_UP (R384, R400): MARKs are accepted again: a CLAIM that the loss asked for is withdrawn; one for released sides
stands. -/
def execPeerUp (s : State) : Host.Outcome State Fault Refusal :=
  .next (if s.rfl.lost ∧ s.rfl.mark.any (fun m => decide (m.arrived + s.fld F.RFL.LOSS_CTL.LOSS > s.now)) then
    let s1 := ({ s with rfl := { s.rfl with lost := false } } : State).event Src.RFL 1
    if s1.wit.req = 2 then s1.setRequest 2 (s1.wit.mask &&& s1.releasedSides) else s1
  else s)

/-- Forwarded commands without a response end with Asymmetric Access Transition (R394). -/
def State.loseForwarded (s : State) : State :=
  let mine := s.cmf.cmds.filter (fun p => p.2.stage == .forwarded)
  let s1 := mine.foldl (fun (t : State) p => t.finish p.1 0x303) s
  if mine = [] then s1 else s1.event Src.RFL 9 0 mine.length

/-- Peer loss at rank 5 (R33, R400, R411, R415, R456, R457). -/
def State.takePeerLoss (s : State) : State :=
  let s1 := s.loseForwarded.movesLost
  let kept := s1.releasedSides
  let s2 : State := { s1 with rfl := { s1.rfl with servesJoin := false, incoming := kept, present := false } }
  let wanted := s2.peerOwn ||| kept
  match s2.lcs.mode with
  | .dualActive => (s2.enterMode .soloActive).claim wanted
  | .restructure => (s2.enterMode .soloActive).claim wanted
  | .soloActive =>
    -- a return that has been sealed ends here: no head receives the side
    let s3 := match s2.rfl.handBack with
      | some _ => ({ s2 with rfl := { s2.rfl with handBack := none } } : State).put F.RFL.HANDBACK_STATUS.PHASE 0
      | none => s2
    s3.claim wanted
  | .takeOver => s2.claim wanted
  | .handBack =>
    match s2.rfl.handBack with
    | some h => if h.abandoned then s2 else s2.abandonHandBack h
    | none => s2
  | .join => if s2.wit.own = 0 then s2.enterEclipse .handBackOrFault else s2.claim wanted
  | _ => s2

/-! Modes that the peer's MARK changes (R456, R460). -/

/-- The peer shows a serving mode. -/
def Mark.serving (m : Mark) : Bool := m.mode == 5 || m.mode == 6 || m.mode == 7 || m.mode == 8 || m.mode == 9

/-- Self-Test ends in Join, its START withdrawn (R456, R460). -/
def State.enterJoin (s : State) : State :=
  let s1 : State := { s with
    rfl := { s.rfl with bulk := false, returnSent := false }, lcs := { s.lcs with stPhase := 0 } }
  (((s1.setRequest 0 0).put F.RFL.JOIN_STATUS.PHASE 1).put F.RFL.JOIN_STATUS.CAUSE 0).enterMode .join

/-- The mode changes that the peer's last MARK asks for, while the peer is not lost. -/
def State.modesByMark (s : State) : State :=
  let s0 : State := { s with rfl := { s.rfl with present := s.rfl.mark.isSome && !s.rfl.lost } }
  match s0.rfl.mark with
  | none => s0
  | some m =>
    if s0.rfl.lost then s0
    else match s0.lcs.mode with
      | .selfTest =>
        if s0.lcs.stPhase < 4 ∨ s0.flag F.BAY.LEVER.OPEN then s0
        else if m.serving ∧ s0.reflect = .up then s0.enterJoin
        else if s0.lcs.stPhase = 4 ∧ !m.serving then { s0 with lcs := { s0.lcs with stPhase := 5 } }
        else s0
      | .soloActive =>
        let one := s0.wit.own == 1 || s0.wit.own == 2
        if one ∧ (m.mode = 5 ∨ m.own.testBit (if s0.wit.own = 1 then 1 else 0)) then s0.enterMode .dualActive else s0
      | _ => s0

/-- The tick from which a side has been held by no head while no MARK was accepted (R400). -/
def State.watchUnheld (s : State) : State :=
  let missing := s.wit.own &&& s.home = s.home ∧ s.wit.own ≠ 3
  { s with rfl := { s.rfl with unheld :=
    if missing ∧ (s.rfl.mark.all (fun m => s.rfl.lost && m.own == 0)) then some (s.rfl.unheld.getD s.now) else none } }

/-- UNHELD_SIDE_CLAIM (R400): no head has held a side for 10 s while this head holds its home side and no MARK has been
accepted. -/
def execUnheldSideClaim (side : Nat) (s : State) : Host.Outcome State Fault Refusal :=
  .next (match s.rfl.unheld with
    | some t => if side < 2 ∧ !s.wit.own.testBit side ∧ s.now ≥ t + s.ticksIn 10000000 then s.claim (2 ^ side) else s
    | none => s)

/-! Deltas of the peer (R390, R391, R596). -/

/-- A CTRL message that the mode only records (R596). -/
def State.recordCtrl (s : State) (c : Ctrl) : State :=
  let code := Config.openCode Src.RFL c.code
  s.record Src.RFL (Config.noticeEvent Src.RFL code).toNat code c.side c.jseq c.sseq

/-- A CTRL message acted on (R391, R410, R414, R596). -/
def State.applyCtrl (s : State) (c : Ctrl) : State :=
  let bit := 2 ^ c.side
  let early := s.lcs.mode = .selfTest ∨ s.lcs.mode = .recovery
  match c.code with
  | 1 => if s.lcs.mode.serving then { s with rfl := { s.rfl with incoming := s.rfl.incoming ||| bit } } else s.recordCtrl c
  | 2 =>
    if s.lcs.mode.serving then
      ({ s with rfl := { s.rfl with incoming := s.rfl.incoming ||| bit, released := s.rfl.released ||| bit } } : State).claim bit
    else if s.lcs.mode = .join ∧ bit = s.home then s.setRequest 1 s.home
    else if early then ({ s with rfl := { s.rfl with claimLater := s.rfl.claimLater ||| bit } } : State).recordCtrl c
    else s.recordCtrl c
  | 3 =>
    let other := 3 ^^^ s.home
    if s.lcs.mode = .soloActive ∧ s.wit.own = 3 then s.beginHandBack other false true else s.recordCtrl c
  | 4 =>
    let h := s.shadowOf c.side
    s.setShadow c.side ({ h with upto := 0, complete := s.flag F.RFL.SHADOW_BASE.EN } |>.free c.jseq c.root)
  | _ => s

/-- A VC entry of the peer (R363, R369, R370). -/
def State.applyVcEntry (s : State) (e : VcEntry) : State :=
  match e.op with
  | 1 => s.applyReady e.vc e.target
  | 2 => s.applyCommit e.vc
  | 3 => s.unseal e.vc 2 e.cause
  | 4 => s
  | _ => { s with vct := { s.vct with peer := Tab.insert s.vct.peer e.vc (e.state, e.vgen) } }

/-- A stripe-journal record of the peer's. -/
def State.shadowSj (s : State) (c : SjCopy) : State :=
  let h := s.shadowOf c.side
  s.setShadow c.side { h with sj := h.sj ++ [(c.sseq, c.bytes)] }

/-- The sections of a delta, applied (R390). -/
def State.applySections (s : State) (d : DeltaIn) : State :=
  let s1 := d.mapd.foldl (fun (t : State) r => t.shadowRecord r.1 r.2) s
  let s2 := d.sj.foldl State.shadowSj s1
  let s3 := d.ptr.foldl (fun (t : State) p => t.setShadow p.side { t.shadowOf p.side with ptr := some p }) s2
  let s4 := d.keyres.foldl (fun (t : State) k => t.peerRes k.keyId k.own) s3
  let s5 := d.vcs.foldl State.applyVcEntry s4
  let s6 : State := { s5 with pcr := { s5.pcr with
    peer := d.pacer.foldl (fun m b => Tab.insert m b.bin (b.valid, b.m)) s5.pcr.peer } }
  d.ctrl.foldl State.applyCtrl s6

/-- DELTA_APPLY (R380, R390, R391): a delta that has wholly arrived, its run complete or not. One discarded, or malformed (R7), and
a gap in the ticks, leave the shadows of the sides the peer holds incomplete; one already applied is ignored. -/
def execDeltaApply (good : Bool) (bytes : List Byte) (s : State) : Host.Outcome State Fault Refusal :=
  .next (if !s.lcs.mode.hearsPeer ∨ !(s.reflectCarries || s.flag F.RFL.CTL.FB_EN) then s
    else match if good then readDelta bytes else none with
    | none => ((s.event Src.RFL 8).count F.RFL.STAT.COUNT 4).loseShadows s.peerOwn
    | some d =>
    if d.tick ≤ s.rfl.lastApplied ∧ s.rfl.lastApplied ≠ 0 then s
    else
      let s1 := if s.rfl.lastApplied ≠ 0 ∧ d.tick ≠ s.rfl.lastApplied + 1 then s.loseShadows s.peerOwn else s
      let s2 : State := { s1 with rfl := { s1.rfl with lastApplied := d.tick } }
      (s2.count F.RFL.STAT.COUNT 1).applySections d)

/-! Forwarded commands (R392 to R394, R458). -/

/-- A FWD_CMD as it is read (R392): one whose length or reserved bytes do not check is malformed (R7), as a run that does not check. -/
def readForward (f : ForwardIn) : Forwarded :=
  let g := beField f.payload
  { tag := f.tag, vc := g 0 2, qid := g 2 2, dataLen := g 8 4, host := BitVec.ofNat 128 (leField f.payload 16 16),
    sqe := (f.payload.drop 32).take 64, data := f.data
    good := f.good && f.payload.length == 96 && g 4 4 == 0 && g 12 4 == 0 }

/-- FORWARDED_COMMAND (R393, R394, R458): a FWD_CMD has arrived with its data: it waits for a boundary, or is answered at
once by a head that executes none. -/
def execForwardedCommand (x : ForwardIn) (s : State) : Host.Outcome State Fault Refusal :=
  .next (if s.reflect ≠ .up ∨ !s.lcs.mode.hearsPeer then s
    else
      let f := readForward x
      let s1 := s.count F.RFL.STAT.COUNT 6
      let s2 := if f.good then s1 else (s1.event Src.RFL 8).count F.RFL.STAT.COUNT 4
      if s.lcs.mode.serving then { s2 with cmf := { s2.cmf with arrived := s2.cmf.arrived ++ [f] } }
      else s2.reflectSend 1 (.forwardRsp f.tag (beBytes 2 (statusField 0x302 / 2) ++ beBytes 30 0) []))

/-- A FWD_RSP is malformed (R7, R393). -/
def fwdRspBad (b data : List Byte) : Bool :=
  b.length != 32 || beField b 2 2 != 0 || beField b 12 4 != data.length || beField b 16 16 != 0

/-- FWD_RSP_RECEIVED (R393): the peer's answer: the data and the completion go to the host. -/
def execFwdRspReceived (tag : Nat) (payload data : List Byte) (s : State) : Host.Outcome State Fault Refusal :=
  .next (match s.cmf.cmds.find? (fun p => p.2.toPeer = some tag ∧ p.2.stage = .forwarded) with
    | none => s
    | some (key, c) =>
      if fwdRspBad payload data then s.event Src.RFL 8 else
      let status := beField payload 0 2
      let dw0 := beField payload 4 4 + beField payload 8 4 * 2 ^ 32
      let st := status % 256 + status / 256 % 8 * 256
      let s1 := if st ≠ 0 ∨ data = [] then s
        else if s.stampsHold c then s.sendData key c 0 data else s.count F.VCT.STAT.COUNT 0
      s1.finish key st dw0)

/-! Join (R413, R414). -/

/-- JOIN_BULK_APPLY (R126, R414, R432): the bulk state of the serving head: key usage, stripe journals, controllers, and the
pacer's memory. -/
def execJoinBulkApply (b : BulkIn) (s : State) : Host.Outcome State Fault Refusal :=
  .next (if s.lcs.mode ≠ .join ∨ s.fld F.RFL.JOIN_STATUS.PHASE ≠ 2 ∨ s.rfl.bulk then s
    else
      let s1 := b.keyres.foldl (fun (t : State) k => match t.slotOfId k.keyId with
        | some (n, _) => t.restoreUsage n k.peer k.own
        | none => t) s
      let s2 := b.sj.foldl State.shadowSj s1
      let s3 := b.ptr.foldl (fun (t : State) p => t.setShadow p.side { t.shadowOf p.side with ptr := some p }) s2
      let s4 := b.vcs.foldl State.applyVcEntry s3
      { s4 with
        pcr := { s4.pcr with own := b.pacer.foldl (fun m x => Tab.insert m x.bin (x.valid, x.m)) s4.pcr.own },
        rfl := { s4.rfl with bulk := true } })

/-- RETURN_REQ_SEND (R414): both shadows are complete: RETURN_REQ goes in the next delta. -/
def execReturnReqSend (s : State) : Host.Outcome State Fault Refusal :=
  .next (if s.lcs.mode = .join ∧ s.fld F.RFL.JOIN_STATUS.PHASE = 2 ∧ s.rfl.bulk ∧ s.shadowOk 0 ∧ s.shadowOk 1 then
    let c : Ctrl := { code := 3, side := s.tck.headSlot, cause := 0, jseq := 0, sseq := 0, root := 0 }
    ({ s with rfl := { s.rfl with ctrl := s.rfl.ctrl ++ [c], returnSent := true } } : State).put F.RFL.JOIN_STATUS.PHASE 3
  else s)

end Sys2Proof.Machine
end

