-- ==== Sys2Proof/Machine/Modes.lean ====
section
/-!
DEFINITION. Machine/Modes.lean: resets (R461 to R465), Power-Fail Drain (R466 to R469), the boot of Reset (R465, R545 to
R549), Structure Load and Self-Test (R444, R459, R460), the end of Recovery (R456), and the supply, clock and thermal
faults (R575, R578, R581, R592).
-/

namespace Sys2Proof.Machine

/-! Resets. -/

/-- The code of LCS.RESET_CAUSE.KIND. -/
def ResetKind.code : ResetKind → Nat
  | .cold => 0
  | .warm => 1
  | .software => 2
  | .watchdog => 3
  | .powerFail => 4
  | .lifeCycle => 5

/-- What a reset other than cold leaves of a register: the fields it keeps; the others at their reset values (R16, R463). -/
def keptWord (a : Nat) (w : Word) : Word :=
  match specAt a with
  | none => 0
  | some (_, r, n) => BitVec.ofNat 64 (r.fields.foldl (fun t f =>
      t + (if f.kept then bits w.toNat f.hi f.lo else f.reset n % 2 ^ (f.hi - f.lo + 1)) * 2 ^ f.lo) 0)

/-- The register file after a reset other than cold. -/
def State.keptRegs (s : State) : Tab Word :=
  s.regs.foldl (fun (m : Tab Word) p => Sparse.set regReset m p.1 (keptWord p.1 p.2)) []

/-- LCS after a reset: the fuses and the key-wrap store are kept; everything else is lost. -/
def Lcs.afterReset (l : Lcs) (kind : ResetKind) : Lcs :=
  { Lcs.cold with fuses := l.fuses, life := l.fuses.lifeState, awkStored := l.awkStored, resetCause := kind }

/-- A cold reset (R29, R462, R463): at once, whatever the tick was doing. -/
def State.coldReset (s : State) : State :=
  ({ State.reset with
    pending := s.pending
    lcs := s.lcs.afterReset .cold
    rcf := { Rcf.cold with flash := s.rcf.flash, info := s.rcf.info }
    evr := { Evr.cold with ring := s.evr.ring }
    fresh := s.fresh } : State).newNonce

/-- Which LCS.STAT counts a reset kind: none counts the life-cycle reset. -/
def ResetKind.counter : ResetKind → Option Nat
  | .warm => some 0
  | .software => some 1
  | .watchdog => some 2
  | .powerFail => some 3
  | _ => none

/-- BAY after a reset other than cold (R533): every filtered state starts inactive. At a panel tick rank 12 is deferred (R33):
transitions not yet acted on, and the samples of the last refresh, stay for the next panel tick. -/
def State.bayAfterReset (s : State) : Bay :=
  if s.panelTick then { Bay.cold with
    inputs := (s.bay.inputs.filter (fun p => p.2.due)).map (fun p => (p.1, { Filt.cold with
      due := true, filtered := p.2.filtered, reported := p.2.reported, raw := p.2.raw, seen := true }))
    sample := s.bay.sample }
  else Bay.cold

/-- A reset other than cold (R462 to R464): its record, the flush of the event buffer, and Reset. Boot SRAM is zeroed (R544); HBM
and DDR hold what they held until Self-Test phase 2 writes them, so that a save area in flight keeps BUSY (R110, assumption 61). -/
def State.performReset (s : State) (kind : ResetKind) : State :=
  let s0 := s.record Src.LCS (Config.noticeEvent Src.LCS 0x300).toNat 0x300 kind.code 0 0
  let s1 := match kind.counter with
    | some n => s0.count F.LCS.STAT.COUNT n
    | none => s0
  let s2 := s1.enterMode .reset
  ({ State.reset with
    pending := s.pending
    tck := { Tck.cold with ticking := s.tck.ticking, headSlot := s.tck.headSlot, tick := s.tck.tick }
    lcs := { s.lcs.afterReset kind with thermTripped := s.lcs.thermTripped }
    bay := s.bayAfterReset
    rcf := s.rcf.afterReset
    evr := { s2.evr with swPending := false, clearPending := false, clearing := [], flushing := true }
    ftl := { Ftl.cold with side := s.tck.headSlot }
    pcr := { Pcr.cold with own := s.pcr.own, peer := s.pcr.peer }
    regs := s2.keptRegs
    mem := s.mem.filter (fun c => decide (hbmBase ≤ c.1))
    fresh := s.fresh } : State).newNonce

/-- COLD_RESET (R29): PORST_N is asserted. -/
def execColdReset (s : State) : Host.Outcome State Fault Refusal := .next s.coldReset

/-- A request of rank 3 is captured: one, however often it is made (R28). -/
def State.requestReset (s : State) (kind : ResetKind) : State :=
  if s.tck.latches.contains (.reset kind) then s else s.latch (.reset kind)

/-- WARM_RESET (R461, R578): a pulse of WRST_N of 1 us is taken, one of up to 200 ns is rejected, and one between may be
taken. -/
def execWarmReset (widthNs : Nat) (s : State) : Host.Outcome State Fault Refusal :=
  .next (if widthNs ≥ 1000 then s.requestReset .warm
    else if widthNs ≤ 200 then s
    else
      let (n, s1) := s.draw
      if Config.freeBool n then s1.requestReset .warm else s1)

/-- LIFE_CYCLE_RESET (R461, R476): a life-cycle command has changed LC: the reset follows at the next boundary. -/
def execLifeCycleReset (s : State) : Host.Outcome State Fault Refusal :=
  .next (if s.lcs.lifeResetDue then s.requestReset .lifeCycle else s)

/-! Power-Fail Drain. -/

/-- Entry to Power-Fail Drain at rank 1 (R466, R468, R488). -/
def State.enterDrain (s : State) : State :=
  let s1 := s.discardCapsules
  let s2 : State := { s1 with
    pcr := { s1.pcr with classes := s1.pcr.classes.map (fun c => { c with grant := 0 }) }
    lcs := { s1.lcs with drainStart := s.now, drainEnded := false, supplyGood := 0 } }
  let s3 := (s2.rcfEnterDrain.count F.LCS.STAT.COUNT 4).enterMode .powerFailDrain
  (s3.record Src.EVR (evrSeverity 0x403) 0x403 0 0 0).startFlush

/-- Write-class commands of a port that have no response. -/
def FrnPort.writesOut (p : FrnPort) : Nat := (p.cmds.filter (fun c => writeClass c.2.op)).length

/-- Every write-class command has its response, or its port has left UP (R467). -/
def State.programsAnswered (s : State) : Bool := s.frn.ports.all (fun p => p.2.state != .up || p.2.writesOut == 0)

/-- DRAIN_COMPLETE (R467): the conditions hold, or 2 ms have passed. -/
def execDrainComplete (s : State) : Host.Outcome State Fault Refusal :=
  .next (if s.lcs.mode ≠ .powerFailDrain ∨ s.lcs.drainEnded then s
    else
      let met := s.programsAnswered && s.evr.queue == []
      if !met && decide (s.now < s.lcs.drainStart + s.ticksIn 2000) then s
      else
        let s1 : State := { s with lcs := { s.lcs with drainEnded := true, supplyGood := 0 } }
        ((s1.put F.LCS.PFD_STATUS.LAST_US ((s.now - s.lcs.drainStart) * s.tickNs / 1000)).put F.LCS.PFD_STATUS.OUTSTANDING
          (s.frn.ports.foldl (fun n p => n + p.2.writesOut) 0)).put F.LCS.PFD_STATUS.RESULT (!met).toNat)

/-- POWER_FAIL_RESTART (R469): 100 ms without a break with PFW_N deasserted and no supply fault, after the drain has ended. -/
def execPowerFailRestart (s : State) : Host.Outcome State Fault Refusal :=
  .next (if s.lcs.mode = .powerFailDrain ∧ s.lcs.drainEnded ∧ s.lcs.supplyGood ≥ s.ticksIn 100000 then
      s.performReset .powerFail
    else s)

/-! Supplies, clocks and temperature. -/

/-- A supply fault is captured with every rail that faulted (R28, R575). -/
def State.captureSupply (s : State) (rails : Nat) : State :=
  let held := s.tck.latches.findSome? (fun i => match i with
    | .supplyFault r => some r
    | _ => none)
  match held with
  | some r => { s with tck := { s.tck with latches := s.tck.latches.map (fun i =>
      if i = .supplyFault r then .supplyFault (r ||| rails) else i) } }
  | none => s.latch (.supplyFault rails)

/-- SUPPLY_FAULT (R575): the rails, bit i rail i of R573 in its order; no monitor acts before the release of PORST_N. -/
def execSupplyFault (rails : Nat) (s : State) : Host.Outcome State Fault Refusal :=
  .next (if s.tck.ticking ∧ rails % 2 ^ 11 ≠ 0 then s.captureSupply (rails % 2 ^ 11) else s)

/-- SCLK_LOSS (R581): taken as a supply fault, that names no rail. -/
def execSclkLoss (s : State) : Host.Outcome State Fault Refusal :=
  .next (if s.tck.ticking then s.captureSupply 0 else s)

/-- HCLK_LOSS (R581): every host port comes down. -/
def execHclkLoss (s : State) : Host.Outcome State Fault Refusal :=
  .next ((List.range s.hostPorts).foldl (fun (t : State) p =>
    if t.portUp p then (t.setHostPort p false).event Src.HPT 1 p else t) s)

/-- THERMTRIP (R592): THERMTRIP_N is asserted and held, and a supply fault is taken. -/
def execThermtrip (sensor : Nat) (s : State) : Host.Outcome State Fault Refusal :=
  .next (if sensor < 24 ∧ s.tck.ticking then
      ({ s with lcs := { s.lcs with thermTripped := true } } : State).captureSupply 0
    else s)

/-- POWER_FAIL_WARNING (R466, R578): PFW_N; a pulse of up to 100 ns is rejected; one warning, however often (R28). -/
def execPowerFailWarning (widthNs : Nat) (s : State) : Host.Outcome State Fault Refusal :=
  .next (if widthNs ≤ 100 ∨ !s.tck.ticking ∨ s.tck.latches.contains .powerFailWarning then s else s.latch .powerFailWarning)

/-! Reset and boot. -/

/-- The population of DDR is valid (R549). -/
def dimmsOk (ds : List Rdimm) : Bool :=
  (List.range 12).all (fun c => (ds.filter (fun d => d.channel == c)).length == 1) && ds.length == 12 &&
    ds.all (fun d => d.jedec && decide (16 ≤ d.gib) && decide (d.gib ≤ 256)) &&
    (match ds with
      | [] => false
      | d :: _ => ds.all (fun e => e.gib == d.gib && e.org == d.org))

/-- MEM reads the SPD of every RDIMM (R549). -/
def State.readSpd (s : State) (ds : List Rdimm) : State :=
  if dimmsOk ds then
    ((s.put F.MEM.DDR_SIZE.GIB (ds.foldl (fun t d => t + d.gib) 0)).put F.MEM.STATUS.RATE
      (ds.foldl (fun t d => min t d.rate) 6400)).put F.MEM.STATUS.DDR_BAD 0
  else (s.put F.MEM.DDR_SIZE.GIB 0).put F.MEM.STATUS.DDR_BAD 1

/-- The boot loader slot that Reset takes (R546): the one that APC.BOOT_CTL chooses, or else the other; none when neither
verifies. -/
def State.chooseBoot (s : State) : Option Nat × State :=
  let found := fun (n : Nat) => (s.bootOk n, leAt (s.rcf.bootByte n) 8 4)
  let (slot, trial, tried, _) := chooseSlot (s.fld F.APC.BOOT_CTL.PREF) (s.fld F.APC.BOOT_CTL.TRIAL)
    (s.fld F.APC.BOOT_CTL.TRIED) (found 0) (found 1)
  let s1 := (s.put F.APC.BOOT_CTL.TRIAL trial).put F.APC.BOOT_CTL.TRIED tried
  (if (found slot).1 then some slot else if (found (1 - slot)).1 then some (1 - slot) else none, s1)

/-- Core 0 leaves reset (R547): its pc, and the registers a0 and a1. -/
def State.releaseCore0 (s : State) (slot : Nat) : State :=
  let entry := leAt (s.rcf.bootByte slot) 12 4
  let seq := leAt (s.rcf.bootByte slot) 8 4
  ({ s with apc := { s.apc with
    bootArgs := (slot, seq)
    started := Tab.insert s.apc.started 0 (0x40000000 + slot * 0x400000 + entry) } } : State).put
      F.APC.CORE_RUN.RUN 1

/-- BOOT_VERIFY (R456, R465, R478, R546, R547, R549): in Reset, once the flush of R464 is done: the fuses are sensed, the
array wrapping key is loaded, the DDR population is read, and a boot loader slot is verified. In Blank and Void the head
stays in Reset. -/
def execBootVerify (dimms : List Rdimm) (s : State) : Host.Outcome State Fault Refusal :=
  .next (if s.lcs.mode ≠ .reset ∨ !s.tck.ticking ∨ (s.evr.flushing ∧ s.evr.queue ≠ []) then s
    else
      let life := s.lcs.fuses.lifeState
      let awk := if s.lcs.fuses.secret.isSome ∧ life ≠ .returnToMaker then s.lcs.awkStored else none
      let s1 : State := { s with lcs := { s.lcs with life := life, awk := awk } }
      let s2 := s1.readSpd dimms
      if life = .blank ∨ life = .void then s2
      else match s2.chooseBoot with
        | (none, s3) => { s3 with lcs := { s3.lcs with bootFail := true } }
        | (some slot, s3) =>
          let s4 : State := { s3 with lcs := { s3.lcs with bootSlot := slot + 1, bootFail := false } }
          ((s4.releaseCore0 slot).enterMode .structureLoad).startLoad)

/-! Structure Load and Self-Test. -/

/-- The state of every channel and stack that is there (R549, MEM.CH_STATUS). -/
def State.setChannels (s : State) (v : Nat) : State :=
  (List.range 16).foldl (fun (t : State) n =>
    if n < 12 ∧ s.flag F.MEM.STATUS.DDR_BAD then t else t.put (F.MEM.CH_STATUS.STATE.nth n) v) s

/-- The head enters Self-Test (R456, R459). -/
def State.enterSelfTest (s : State) : State :=
  let s1 : State := { s with lcs := { s.lcs with stPhase := 1, stFail := false, stEntry := s.now } }
  (s1.enterMode .selfTest).setChannels 1

/-- STRUCTURE_LOAD (R444, R445): the load of the slots ends: Self-Test, or the head stays in Structure Load. -/
def execStructureLoad (readbackA readbackB : Bool) (s : State) : Host.Outcome State Fault Refusal :=
  .next (if s.lcs.mode ≠ .structureLoad ∨ s.fld F.SIM.STATUS.STATE ≠ 1 then s
    else
      let (ok, s1) := s.loadStructure readbackA readbackB
      if ok then s1.enterSelfTest else s1)

/-- Every enabled Frond port that has left DETECT is UP or FAULT (R459). -/
def State.portsTrained (s : State) : Bool :=
  s.frn.ports.all (fun p => p.2.state == .off || p.2.state == .detect || p.2.state == .up || p.2.state == .fault)

/-- Phase 2 ends (R548, R552): HBM and DDR read zero, those regions of DDR that the background fill has not reached too; they are
ready, and the fill begins. -/
def State.memoryReady (s : State) : State :=
  let s1 := ((s.put F.MEM.STATUS.HBM_READY 1).putFlag F.MEM.STATUS.DDR_READY (!s.flag F.MEM.STATUS.DDR_BAD)).setChannels 2
  { s1 with memc := { s1.memc with filling := true }, mem := s1.mem.filter (fun c => decide (c.1 < hbmBase)) }

/-- SELF_TEST_PHASE_END (R459, R456): phases 1 and 2 end by their tests, phase 3 when the links are trained or LINK_WAIT has
passed. A failure names the unit and leads to Eclipse. -/
def execSelfTestPhaseEnd (ok : Bool) (unit : Nat) (s : State) : Host.Outcome State Fault Refusal :=
  .next (if s.lcs.mode ≠ .selfTest then s
    else match s.lcs.stPhase with
      | 1 =>
        if ok && !s.lcs.stFail then { s with lcs := { s.lcs with stPhase := 2 } }
        else (({ s with lcs := { s.lcs with stFail := true } } : State).event Src.LCS 2 unit).enterEclipse .handBackOrFault
      | 2 =>
        if ok && !s.lcs.stFail then ({ s with lcs := { s.lcs with stPhase := 3 } } : State).memoryReady
        else (({ s with lcs := { s.lcs with stFail := true } } : State).event Src.LCS 2 unit).enterEclipse .handBackOrFault
      | 3 =>
        if s.portsTrained ∨ s.now ≥ s.lcs.stEntry + s.fld F.LCS.START_CTL.LINK_WAIT then
          { s with lcs := { s.lcs with stPhase := 4, listenSince := s.now } }
        else s
      | _ => s)

/-- LISTEN_TIMEOUT (R460): LISTEN ticks have passed without a MARK: START is to be requested. An open lever holds the head
where it is (R539). -/
def execListenTimeout (s : State) : Host.Outcome State Fault Refusal :=
  .next (if s.lcs.mode = .selfTest ∧ s.lcs.stPhase = 4 ∧ !s.flag F.BAY.LEVER.OPEN ∧
      s.now ≥ s.lcs.listenSince + s.fld F.LCS.START_CTL.LISTEN ∧
      s.rfl.mark.all (fun m => decide (m.arrived + s.fld F.LCS.START_CTL.LISTEN ≤ s.now)) then
      { s with lcs := { s.lcs with stPhase := 5 } }
    else s)

/-- RECOVERY_DONE (R456, R457, R596): every side granted is restored: Dual-Active when the peer is present and its MARK shows
OWN with the other side, else Solo-Active; a peer loss and releases recorded before are claimed now. -/
def execRecoveryDone (s : State) : Host.Outcome State Fault Refusal :=
  .next (if s.lcs.mode ≠ .recovery ∨ s.rfl.recover ≠ 0 ∨ s.fld F.FTL.STATUS.RECOVERY ≠ 7 then s
    else
      let peer := s.rfl.present && s.peerOwn &&& (3 ^^^ s.wit.own % 4) != 0
      let s1 := s.enterMode (if peer then .dualActive else .soloActive)
      let s2 := s1.claim (s.rfl.claimLater ||| (if s.rfl.lost then s.peerOwn else 0))
      { s2 with rfl := { s2.rfl with claimLater := 0 } })

end Sys2Proof.Machine
end

