-- ==== Sys2Proof/Machine/Witness.lean ====
section
/-!
DEFINITION. Machine/Witness.lean: the Umbra links and the witness (chapter 11, R395 to R403).
-/

namespace Sys2Proof.Machine

/-! Head slots (R395, R397). -/

/-- A head slot on a link, characters 1 to 19. -/
def State.headSlotBytes (s : State) (link : Nat) : List Byte :=
  let body := beBytes 1 (64 + 32 + link * 16 + s.tck.headSlot % 2 * 8) ++ beBytes 4 (max s.wit.maxSeen s.frnEpoch) ++
    beBytes 1 s.lcs.mode.code ++ beBytes 1 (s.fld F.TCK.CONFIG.TICK_LEN % 4 + s.rfl.lost.toNat * 4) ++ beBytes 4 s.frnEpoch ++
    beBytes 1 (s.wit.own % 4) ++ beBytes 1 s.wit.req ++ beBytes 1 s.wit.mask ++ beBytes 1 0 ++ beBytes 2 (s.fld F.WIT.CONFIG.ARRAY_TAG)
  body ++ beBytes 2 (crc16 body)

/-- A head slot starts on both links. -/
def State.sendSlots (s : State) (midway : Bool) : State :=
  (s.send (.headSlot midway (s.headSlotBytes 0))).send (.headSlot midway (s.headSlotBytes 1))

/-- The slot of a boundary that falls on an edge (R40, R395): at a 1 us tick, an even one. -/
def State.boundarySlot (s : State) : State :=
  if !s.transmits ∨ (s.tickNs = 1000 ∧ s.now % 2 = 1) then s else s.sendSlots false

/-- UMBRA_MIDWAY_SLOT (R395): at a 4 us tick the head starts a slot midway between its boundaries. -/
def execUmbraMidwaySlot (s : State) : Host.Outcome State Fault Refusal :=
  .next (if s.tickNs = 4000 ∧ s.transmits then s.sendSlots true else s)

/-! Links (R398). -/

/-- A link of the witness. -/
def Wit.link (w : Wit) (n : Nat) : UmbraLink := w.links.getD n ⟨0, 0, false⟩

/-- A link changed. -/
def State.modifyLink (s : State) (n : Nat) (f : UmbraLink → UmbraLink) : State :=
  { s with wit := { s.wit with links := s.wit.links.set n (f (s.wit.link n)) } }

/-- WIT works: not in Reset or Structure Load, nor in Power-Fail Drain, where its slots are recorded only (R468). -/
def State.witnessHeard (s : State) : Bool := s.lcs.mode.hearsPeer

/-- UMBRA_LINK_VALID (R398): 16 valid slots in a row. -/
def execUmbraLinkValid (link : Nat) (s : State) : Host.Outcome State Fault Refusal :=
  .next (if link < 2 ∧ !(s.wit.link link).valid ∧ (s.wit.link link).good ≥ 16 then
    (s.modifyLink link (fun l => { l with valid := true })).event Src.WIT 0 link
  else s)

/-- UMBRA_LINK_MISSING (R398): 4 slots expected in a row have not been validly received. -/
def execUmbraLinkMissing (link : Nat) (s : State) : Host.Outcome State Fault Refusal :=
  .next (if link < 2 ∧ (s.wit.link link).valid ∧ (s.wit.link link).idle ≥ 10000 then
    (s.modifyLink link (fun l => { l with valid := false, good := 0 })).event Src.WIT 1 link
  else s)

/-- The time of a tick passes on the links: slots of 2,000 ns expected and not validly received are counted, and the lease
runs. -/
def State.witnessTick (s : State) : State :=
  let step (t : State) (n : Nat) : State :=
    let l := t.wit.link n
    let idle := l.idle + t.tickNs
    let missed := (idle / 2000 - 1) - (l.idle / 2000 - 1)
    let t1 := t.modifyLink n (fun l => { l with idle := idle, good := if missed = 0 then l.good else 0 })
    if missed = 0 then t1 else t1.saturate (F.WIT.LINK_ERR.MISSED.nth n) missed
  let s1 := step (step s 0) 1
  { s1 with wit := { s1.wit with leaseRun := s1.wit.leaseRun + s1.tickNs } }

/-! Slots of the witness (R396, R399, R401). -/

/-- The fields of a slot from the witness that the head uses (R396). -/
structure SlotRead where
  refCount : Nat
  p : Int
  epoch : Nat
  own : Nat
  state : Nat
  peerHeard : Bool
  tag : Nat
  deriving DecidableEq, Repr

/-- A slot as it is read; its characters stand from 1 on. -/
def readSlot (b : List Byte) : SlotRead := {
  refCount := beField b 1 4, p := signedOf 16 (beField b 5 2), epoch := beField b 7 4, own := beField b 11 1 % 4, state := beField b 12 1,
  peerHeard := (beField b 13 1).testBit 0, tag := beField b 15 2 }

/-- The CRC of a slot checks (R396). -/
def slotIntact (b : List Byte) : Bool := b.length == 19 && beField b 17 2 == crc16 (b.take 17)

/-- VER, DIR and LINK of a slot check, its reserved fields are zero and it has no reserved encoding (R7, R396, R398). -/
def slotFormOk (link : Nat) (b : List Byte) : Bool :=
  let st := beField b 12 1
  let cause := beField b 14 1
  beField b 0 1 == 64 + link * 16 && decide (beField b 11 1 < 4) && decide (st ≤ 3) && decide (beField b 13 1 < 2) &&
    (st != 3 || (decide (1 ≤ cause) && decide (cause ≤ 3)))

/-- A valid slot on a valid link (R401): a grant waits for rank 5 of the next boundary, an epoch loss for rank 2. -/
def State.actOnSlot (s : State) (w : SlotRead) : State :=
  let own := s.wit.own
  let slotOwn := w.own
  let loss (t : State) : State := t.latch (.epochLoss .witness)
  let s1 : State := if w.state = 1 ∨ w.state = 2 then { s with wit := { s.wit with leaseRun := 0 } } else s
  let released := s1.wit.req = 3 ∨ (s1.lcs.mode = .eclipse ∧ s1.fld F.WIT.STATUS.FENCE_SRC = 3)
  let recorded (t : State) : State := if t.wit.req = 3 then t.setRequest 0 0 else t
  match w.state with
  | 1 =>
    if w.epoch > s1.wit.granted ∧ slotOwn &&& own = own then
      { s1 with wit := { s1.wit with grant := some ⟨w.epoch, slotOwn, w.state⟩ } }
    else if w.epoch = s1.wit.granted ∧ slotOwn = own then recorded s1
    else if w.epoch = s1.wit.granted ∧ released ∧ own &&& slotOwn = own then s1
    else loss s1
  | 0 => if own ≠ 0 then loss s1 else recorded s1
  | 3 => loss (s1.event Src.WIT 3)
  | _ => s1

/-- WITNESS_SLOT (R398 to R401): a slot from the witness. One that is not valid is counted; a valid one shows its timing,
counts toward the validity of its link, and on a valid link is acted on. -/
def execWitnessSlot (link : Nat) (w : WitnessSlot) (s : State) : Host.Outcome State Fault Refusal :=
  .next (if link ≥ 2 ∨ !s.witnessHeard then s
    else
      let r := readSlot w.bytes
      let intact := w.aligned && slotIntact w.bytes
      if !intact ∨ !slotFormOk link w.bytes ∨ r.tag ≠ s.fld F.WIT.CONFIG.ARRAY_TAG then
        let s1 := (s.modifyLink link (fun l => { l with good := 0 })).count F.WIT.STAT.COUNT 1
        if !intact then s1.saturate (F.WIT.LINK_ERR.CRC.nth link)
        else if slotFormOk link w.bytes then s1.event Src.WIT 7 link r.tag
        else s1
      else
        let s1 := (s.modifyLink link (fun l => { l with good := l.good + 1, idle := 0 })).count F.WIT.STAT.COUNT 0
        let s2 := ((s1.put (F.WIT.LINK_STATUS.REF_COUNT.nth link) r.refCount).put (F.WIT.LINK_PHASE.PHASE.nth link)
          (unsignedOf 32 ((r.p - w.q) / 2))).put (F.WIT.LINK_PHASE.DELAY.nth link) (unsignedOf 32 ((r.p + w.q) / 2))
        let s3 := (s2.put F.WIT.STATUS.STATE r.state).putFlag F.WIT.STATUS.PEER_HEARD r.peerHeard
        if (s.wit.link link).valid then s3.actOnSlot r else s3)

/-- EPOCH_LOSS (R401, R405): a witness fence, or a FENCED response of a module, is captured for rank 2 of the next boundary,
which enters Eclipse. -/
def execEpochLoss (module : Bool) (s : State) : Host.Outcome State Fault Refusal :=
  .next (if s.witnessHeard then s.latch (.epochLoss (if module then .module else .witness)) else s)

/-- LEASE_EXPIRED (R402): the head holds a side, peer loss is declared, and no GRANTED or PENDING has been taken in LEASE
slots. -/
def execLeaseExpired (s : State) : Host.Outcome State Fault Refusal :=
  .next (if s.wit.own ≠ 0 ∧ s.rfl.lost ∧ s.lcs.mode.fences ∧ s.wit.leaseRun ≥ s.fld F.WIT.CONFIG.LEASE * 2000 then
    ((s.event Src.WIT 5).count F.WIT.STAT.COUNT 4).latch (.epochLoss .lease)
  else s)

end Sys2Proof.Machine
end

