-- ==== Sys2Proof/Machine/Views.lean ====
section
/-!
DEFINITION. Machine/Views.lean: what a read of a register shows where the value lives in the typed state of a block: status
words, counts and the like. Each view gives fields of the register at `a` (the address of instance 0) in instance `n`; every
other field reads as the register file holds it.
-/

namespace Sys2Proof.Machine

/-- Fields of a register with the values they show. -/
abbrev View := List (Fld × Nat)

/-- The view of one register: its address, and the fields shown. -/
abbrev ViewRow := Nat × View

/-- The rows of the register at an address. -/
def rowsAt (a : Nat) (l : List ViewRow) : View := (l.filter (fun r => r.1 == a)).flatMap Prod.snd

/-- A row of one field. -/
def show1 (f : Fld) (v : Nat) : ViewRow := (f.addr, [(f, v)])

/-- Both sides held (R376). -/
def State.sidesHeld (s : State) : List (Ftl × Rdn) := (s.ftl, s.rdn) :: s.other.toList

/-- A number limited to a field. -/
def sat (w v : Nat) : Nat := min v (2 ^ w - 1)

/-! TCK, LCS, SIM, APC. -/

/-- TCK (chapter 01). -/
def State.viewTck (s : State) : List ViewRow :=
  [show1 F.TCK.STATUS.CYCLES s.tickCycles, show1 F.TCK.STATUS.ROLE s.alignRole, show1 F.TCK.STATUS.HEAD_SLOT s.tck.headSlot,
   show1 F.TCK.STATUS.REF_LINK s.tck.refLink, show1 F.TCK.STATUS.ALIGN s.tck.align.code,
   show1 F.TCK.TICK_COUNT.COUNT s.tck.tick, show1 F.TCK.PHASE_ERR.ERR (unsignedOf 16 s.tck.phaseErr),
   show1 F.TCK.TRIM.PPB (unsignedOf 32 s.tck.trim),
   show1 F.TCK.PEER_OFFSET.OFFSET (if s.rfl.link = .up then unsignedOf 16 s.tck.peerOffset else 0),
   show1 F.TCK.RR_STATE.FIRST_VALID s.tck.firstValid.toNat, show1 F.TCK.RR_STATE.FIRST_VC (s.tck.lastFirst.getD 0)]

/-- The code of LCS.STATUS.LC. -/
def LifeState.code : LifeState → Nat
  | .blank => 0
  | .maker => 1
  | .provisioned => 2
  | .field => 3
  | .returnToMaker => 4
  | .void => 5

/-- Vendor debug is open (R471). -/
def Lcs.debugOpen (l : Lcs) : Bool := l.life == .maker || l.life == .returnToMaker

/-- The bits k for which a property holds, below n. -/
def bitSet (n : Nat) (p : Nat → Bool) : Nat := (List.range n).foldl (fun v k => v + (p k).toNat * 2 ^ k) 0

/-- LCS (chapter 14). -/
def State.viewLcs (s : State) : List ViewRow :=
  let l := s.lcs
  [show1 F.LCS.STATUS.TOKEN_PURPOSE (l.oemToken.getD (l.geoToken.getD 0)), show1 F.LCS.STATUS.GEO_TOKEN l.geoToken.isSome.toNat,
   show1 F.LCS.STATUS.OEM_TOKEN l.oemToken.isSome.toNat, show1 F.LCS.STATUS.ST_FAIL l.stFail.toNat,
   show1 F.LCS.STATUS.ST_PHASE (min l.stPhase 5), show1 F.LCS.STATUS.BOOT_FAIL l.bootFail.toNat,
   show1 F.LCS.STATUS.BOOT_SLOT l.bootSlot, show1 F.LCS.STATUS.AWK l.awk.isSome.toNat,
   show1 F.LCS.STATUS.SECRET_KILLED l.fuses.killed.toNat, show1 F.LCS.STATUS.DEBUG l.debugOpen.toNat,
   show1 F.LCS.STATUS.LC l.life.code, show1 F.LCS.STATUS.MODE l.mode.code,
   show1 F.LCS.RESET_CAUSE.KIND l.resetCause.code, show1 F.LCS.NONCE0.NONCE l.nonce.1.toNat, show1 F.LCS.NONCE1.NONCE l.nonce.2.toNat,
   show1 F.LCS.KEYS.ACTIVE l.keyActive, show1 F.LCS.KEYS.TOKEN_PROG l.fuses.tokenDigest.isSome.toNat,
   show1 F.LCS.KEYS.REVOKED l.fuses.imgRevoke.toNat,
   show1 F.LCS.KEYS.PROG (bitSet 4 (fun k => (Tab.find l.fuses.imgDigest k).isSome)),
   show1 F.LCS.ROLLBACK.ROWS l.fuses.rollback.length, show1 F.LCS.ROLLBACK.MIN l.fuses.rollbackMin,
   show1 F.LCS.SERIAL0.SERIAL (l.fuses.serial.toNat % 2 ^ 64), show1 F.LCS.SERIAL1.SERIAL (l.fuses.serial.toNat / 2 ^ 64)]

/-- SIM (chapter 13): the partial area of a slot whose full image passed its check. -/
def State.viewSim (s : State) : List ViewRow :=
  let parts := fun (slot : Nat) => ((s.rcf.slotParts slot).filter SlotPart.staged).length
  let free := fun (slot : Nat) => min 255 ((slotSize - s.rcf.slotEnd slot) / 4096)
  (if s.flag F.SIM.SLOT_A.VALID then [show1 F.SIM.SLOT_A.PARTS (parts 0), show1 F.SIM.SLOT_A.FREE_SECT (free 0)] else []) ++
    (if s.flag F.SIM.SLOT_B.VALID then [show1 F.SIM.SLOT_B.PARTS (parts 1), show1 F.SIM.SLOT_B.FREE_SECT (free 1)] else [])

/-- APC (chapter 18). -/
def State.viewApc (s : State) (n : Nat) : List ViewRow :=
  [show1 F.APC.MTIME.TIME s.apc.mtime, show1 F.APC.IRQ_PEND.STATE (bitSet 64 (fun b => s.irqState (64 * n + b)))]

/-! HPT, QPC, CMF, VCT. -/

/-- QPC (chapter 09). -/
def State.viewQpc (s : State) : List ViewRow :=
  let kept := s.qpc.conns.foldl (fun t (c : Nat × Conn) => t + c.2.parkedBytes) 0
  [show1 F.QPC.STATUS.MISS_KB ((kept + 1023) / 1024),
   show1 F.QPC.STATUS.FETCHES (s.qpc.conns.filter (fun c => c.2.fetch.isSome)).length,
   show1 F.QPC.STATUS.CACHED s.qpc.cached.length]

/-- CMF (chapter 08). -/
def State.viewCmf (s : State) : List ViewRow :=
  [show1 F.CMF.STATUS.HOLD s.cmf.hold.isSome.toNat, show1 F.CMF.STATUS.INFLIGHT (s.cmf.cmds.filter (fun c => c.2.open_)).length]

/-- VCT (chapter 10): virtual controller n. -/
def State.viewVct (s : State) (n : Nat) : List ViewRow :=
  match s.vc n with
  | none => []
  | some v => [show1 F.VCT.VC_STATE.VGEN v.vgen,
      show1 F.VCT.VC_STATE.INFLIGHT (s.cmf.cmds.filter (fun c => c.2.vc == n && c.2.open_)).length,
      show1 F.VCT.VC_STATE.ASSOC v.assoc.isSome.toNat, show1 F.VCT.VC_STATE.STATE v.state.code]

/-! RDX, CMP, CIP, DGS. -/

/-- RDX (chapter 02). -/
def State.viewRdx (s : State) : List ViewRow :=
  [show1 F.RDX.SB_STATUS.LOADING s.rdx.loading.toNat, show1 F.RDX.SB_STATUS.COLD (2 ^ 18 - s.rdx.warm),
   show1 F.RDX.SB_FILL.PEND (sat 16 (s.rdx.hot.filter (fun p => p.2.isPend)).length),
   show1 F.RDX.SB_FILL.VALID (sat 32 s.rdx.hot.length), show1 F.RDX.MERGE_STATUS.DEPTH s.rdx.mergeQueue.length]

/-- Bit n set while ring n of an engine is halted. -/
def State.haltedRings (s : State) (e : Eng) : Nat := bitSet e.rings (fun n => s.flag (e.fld F.CMP.RING_STATUS.HALTED n))

/-- CMP (chapter 03): ring n. -/
def State.viewCmp (s : State) (n : Nat) : List ViewRow :=
  [show1 F.CMP.STATUS.HALTED (s.haltedRings .cmp), show1 F.CMP.STATUS.COMP_NOW s.cmp.compressors.length,
   show1 F.CMP.LANE_ROLE_LO.ROLE (bitSet 64 (fun k => s.cmp.compressors.contains k)),
   show1 F.CMP.LANE_ROLE_HI.ROLE (bitSet 48 (fun k => s.cmp.compressors.contains (64 + k))),
   show1 F.CMP.RING_STATUS.INFLIGHT (s.ringInflight .cmp n)]

/-- The code of KEY_INFO0.STATE. -/
def KeyState.code : KeyState → Nat
  | .ready => 1
  | .active => 2
  | .retiring => 3
  | .exhausted => 4

/-- The key slot that KEY_INFO_SEL selects (R128). -/
def State.viewKey (s : State) : List ViewRow :=
  let typ := s.fld F.CIP.KEY_INFO_SEL.TYPE
  match s.slot typ (s.fld F.CIP.KEY_INFO_SEL.SLOT) with
  | none => [show1 F.CIP.KEY_INFO0.TYPE typ]
  | some k =>
    [show1 F.CIP.KEY_INFO0.KEY_ID k.keyId, show1 F.CIP.KEY_INFO0.SUCC_SLOT (k.succ.getD 0),
     show1 F.CIP.KEY_INFO0.SUCC_VALID k.succ.isSome.toNat, show1 F.CIP.KEY_INFO0.USAGE_VALID k.usageValid.toNat,
     show1 F.CIP.KEY_INFO0.TYPE typ, show1 F.CIP.KEY_INFO0.STATE (if typ = 2 then 1 else k.state.code),
     show1 F.CIP.KEY_INFO1.NEXT k.next, show1 F.CIP.KEY_INFO2.RES_PEER k.resPeer, show1 F.CIP.KEY_INFO2.RES_OWN k.resOwn,
     show1 F.CIP.KEY_INFO3.SENDER k.sender, show1 F.CIP.KEY_INFO3.LIMIT k.limit]

/-- CIP (chapter 04): ring n. -/
def State.viewCip (s : State) (n : Nat) : List ViewRow :=
  [show1 F.CIP.STATUS.HALTED (s.haltedRings .cip), show1 F.CIP.STATUS.LOADED_DATA s.cip.data.length,
   show1 F.CIP.STATUS.LOADED_TX s.cip.transport.length,
   show1 F.CIP.RING_STATUS.INFLIGHT (s.ringInflight .cip n)] ++ s.viewKey

/-- DGS (chapter 04): ring n. -/
def State.viewDgs (s : State) (n : Nat) : List ViewRow :=
  [show1 F.DGS.STATUS.HALTED (s.haltedRings .dgs), show1 F.DGS.STATUS.LOADED s.cip.digest.length,
   show1 F.DGS.RING_STATUS.INFLIGHT (s.ringInflight .dgs n)]

/-! FTL, RDN, FRN. -/

/-- Stripes of the sides held that satisfy a test. -/
def State.countStripes (s : State) (p : Stripe → Bool) : Nat :=
  s.sidesHeld.foldl (fun t x => t + (x.1.stripes.filter (fun y => p y.2)).length) 0

/-- FTL (chapter 05). -/
def State.viewFtl (s : State) : List ViewRow :=
  let p := s.ftl.patrol
  [show1 F.FTL.MOSS_FILL.SIZE_GIB (s.mossSize / 2 ^ 30), show1 F.FTL.MOSS_FILL.USED_GIB (s.mossUsed / 2 ^ 30),
   show1 F.FTL.STRIPE_STATUS.REFRESH (s.countStripes (fun x => x.state == 5)),
   show1 F.FTL.STRIPE_STATUS.CLOSED (s.countStripes (fun x => x.state == 2)), show1 F.FTL.STRIPE_STATUS.FREE s.freeStripes,
   show1 F.FTL.PATROL_STATUS.PROGRESS (if p.total = 0 then 0 else p.done * 1000 / p.total), show1 F.FTL.JSEQ.SEQ s.ftl.jseq]

/-- RDN (chapter 06): module n. -/
def State.viewRdn (s : State) (n : Nat) : List ViewRow :=
  let running := s.sidesHeld.flatMap (fun x => x.2.rebuilds)
  let reshape := s.sidesHeld.findSome? (fun x => x.2.reshape)
  [show1 F.RDN.STATUS.LOSS_PEND (s.sidesHeld.any (fun x => x.1.stripes.any (fun y => y.2.lost.any (fun l => !l.swept)))).toNat,
   show1 F.RDN.STATUS.RESHAPE reshape.isSome.toNat, show1 F.RDN.STATUS.REBUILD (!running.isEmpty).toNat,
   show1 F.RDN.STATUS.BROKEN (decide (0 < s.countStripes (fun x => decide (3 ≤ x.failedCount)))).toNat,
   show1 F.RDN.STATUS.CRITICAL (s.countStripes (fun x => x.failedCount == 2)),
   show1 F.RDN.STATUS.DEGRADED (s.countStripes (fun x => x.failedCount == 1)),
   show1 F.RDN.SJ_STATUS.SINGLE s.rdn.survivor.isSome.toNat,
   show1 F.RDN.SJ_STATUS.MOD_B ((s.rdn.pair.map (fun p => keyPort p.2)).getD 0),
   show1 F.RDN.SJ_STATUS.MOD_A ((s.rdn.pair.map (fun p => keyPort p.1)).getD 0), show1 F.RDN.SJ_SEQ.SSEQ s.rdn.sseq,
   show1 F.RDN.MOD_STATE.STRIPES (s.allStripesOn n), show1 F.RDN.MOD_STATE.EVAC (s.evacuating n).toNat] ++
    (match running.head? with
      | some (id, rb) => [show1 F.RDN.REBUILD_STATUS.ROW rb.row, show1 F.RDN.REBUILD_STATUS.MEMBER_B (rb.b.getD 31),
          show1 F.RDN.REBUILD_STATUS.MEMBER_A rb.a, show1 F.RDN.REBUILD_STATUS.STRIPE id]
      | none => []) ++
    [show1 F.RDN.RESHAPE_STATUS.QUEUED (s.sidesHeld.any (fun x => !x.2.evacQueue.isEmpty)).toNat,
     show1 F.RDN.RESHAPE_STATUS.ACTIVE reshape.isSome.toNat] ++
    (match reshape with
      | some r => [show1 F.RDN.RESHAPE_STATUS.MODULE (if r.kind = 1 then r.module else 0), show1 F.RDN.RESHAPE_STATUS.KIND r.kind,
          show1 F.RDN.RESHAPE_STATUS.END r.end_, show1 F.RDN.RESHAPE_STATUS.CURSOR r.cursor]
      | none => [])

/-- FRN (chapter 07): port n. -/
def State.viewFrn (s : State) (n : Nat) : List ViewRow :=
  [show1 F.FRN.STATUS.RECON (s.frn.ports.filter (fun p => p.2.recon.isSome)).length,
   show1 F.FRN.STATUS.UP (s.frn.ports.filter (fun p => p.2.state == .up)).length,
   show1 F.FRN.PORT_STATUS.DP_VIEW (s.port n).dpView, show1 F.FRN.PORT_STATUS.STATE (s.port n).state.code]

/-! RFL, WIT, PCR. -/

/-- RFL (chapter 11). -/
def State.viewRfl (s : State) : List ViewRow :=
  let m := s.rfl.mark
  [show1 F.RFL.STATUS.SHADOW_OK (bitSet 2 s.shadowOk), show1 F.RFL.STATUS.PEER_OWN s.peerOwn, show1 F.RFL.STATUS.OWN s.wit.own,
   show1 F.RFL.STATUS.PEER_TICK_LEN ((m.map Mark.tickLen).getD 0), show1 F.RFL.STATUS.PEER_MODE ((m.map Mark.mode).getD 0),
   show1 F.RFL.STATUS.PEER s.rfl.present.toNat, show1 F.RFL.STATUS.FB_UP s.rfl.fallback.toNat,
   show1 F.RFL.STATUS.LINK s.rfl.link.code, show1 F.RFL.DELTA_STATUS.UNACKED s.rfl.deltas.length,
   show1 F.RFL.HANDBACK_STATUS.TICKS (match s.rfl.handBackAt with | some t => s.now - t | none => 0)]

/-- WIT (chapter 11): link n. -/
def State.viewWit (s : State) (n : Nat) : List ViewRow :=
  let l := s.wit.link n
  [show1 F.WIT.STATUS.LEASE_LEFT (if s.wit.own = 0 then 0 else s.fld F.WIT.CONFIG.LEASE - s.wit.leaseRun / 2000),
   show1 F.WIT.STATUS.LINKS (bitSet 2 (fun k => (s.wit.link k).valid)), show1 F.WIT.STATUS.REQ_MASK s.wit.mask,
   show1 F.WIT.STATUS.REQ s.wit.req, show1 F.WIT.STATUS.OWN s.wit.own, show1 F.WIT.EPOCH.MAX_SEEN s.wit.maxSeen,
   show1 F.WIT.EPOCH.GRANTED s.wit.granted, show1 F.WIT.LINK_STATUS.STATE (if l.valid then 2 else if l.good > 0 then 1 else 0)]

/-- PCR (chapter 12): class n. -/
def State.viewPcr (s : State) (n : Nat) : List ViewRow :=
  let p := s.pcr
  let c := s.pclass n
  let bin := Tab.getD (if s.flag F.PCR.RC_SEL.PEER then p.peer else p.own) (s.fld F.PCR.RC_SEL.BIN) (false, 0)
  [show1 F.PCR.STATUS.CAUSE p.cause, show1 F.PCR.STATUS.BOTH (s.wit.own % 4 == 3).toNat, show1 F.PCR.STATUS.STATE s.pacerState,
   show1 F.PCR.MEAS.B (sat 20 p.b), show1 F.PCR.MEAS.H (sat 20 p.h), show1 F.PCR.MEAS.N (sat 12 p.n), show1 F.PCR.MEAS.Y (sat 12 p.y),
   show1 F.PCR.OUTPUT.U_FF p.uff, show1 F.PCR.OUTPUT.U p.u, show1 F.PCR.INTEG.I (unsignedOf 64 p.integ),
   show1 F.PCR.CLASS_SHARE.TARGET c.target, show1 F.PCR.CLASS_SHARE.FLOOR_NOW c.floorNow,
   show1 F.PCR.CLASS_SHARE.BACKLOG c.backlog.toNat, show1 F.PCR.CLASS_SHARE.SHARE c.share,
   show1 F.PCR.RC_DATA.VALID bin.1.toNat, show1 F.PCR.RC_DATA.M bin.2]

/-! BAY, RCF, EVR, FLT. -/

/-- BAY (chapter 17): bay n. -/
def State.viewBay (s : State) (n : Nat) : List ViewRow :=
  let f := fun (k : Nat) => s.filt (bayInput n k)
  let three := fun (g : Filt → Bool) => (g (f 2)).toNat * 4 + (g (f 1)).toNat * 2 + (g (f 0)).toNat
  let pwr := s.filt 1024
  let svc := s.filt 1025
  [show1 F.BAY.BAY_STATUS.CHAT (three Filt.chatter), show1 F.BAY.BAY_STATUS.STUCK (f 1).stuck.toNat,
   show1 F.BAY.BAY_STATUS.RAW (three Filt.raw), show1 F.BAY.BAY_STATUS.FILTERED (three Filt.filtered),
   show1 F.BAY.HEAD_IN.SVC_CHAT svc.chatter.toNat, show1 F.BAY.HEAD_IN.SVC_STUCK svc.stuck.toNat,
   show1 F.BAY.HEAD_IN.SVC svc.filtered.toNat, show1 F.BAY.HEAD_IN.PWR_CHAT pwr.chatter.toNat,
   show1 F.BAY.HEAD_IN.PWR_STUCK pwr.stuck.toNat, show1 F.BAY.HEAD_IN.PWR pwr.filtered.toNat]

/-- The code of RCF.STATUS.SEQ_STATE. -/
def RcfSeq.code : RcfSeq → Nat
  | .idle => 0
  | .key1 => 1
  | .key2 => 2
  | .command _ => 3
  | .address _ _ => 4
  | .burst _ => 5

/-- RCF (chapter 15). -/
def State.viewRcf (s : State) : List ViewRow :=
  let c := s.rcf
  let least := rotatingSectors.foldl (fun m n => min m (c.countOf n)) (2 ^ 18 - 1)
  [show1 F.RCF.STATUS.SEQ_STATE c.seq.code, show1 F.RCF.STATUS.REPAIR c.repair.toNat,
   show1 F.RCF.STATUS.SUSP_SW (c.held.any RcfHold.bySoftware).toNat, show1 F.RCF.STATUS.SUSPENDED c.held.isSome.toNat,
   show1 F.RCF.ROT_STATUS.ERASED c.erasedSpares.length, show1 F.RCF.ROT_STATUS.SPARES c.spares,
   show1 F.RCF.ROT_STATUS.MAX_COUNT c.maxCount, show1 F.RCF.ROT_STATUS.MIN_COUNT least]

/-- The 64 bytes of the record that EVR.RD_SEQ selects; zeros when it is not readable (R506). -/
def State.selectedRecord (s : State) : List Byte :=
  match s.evr.recordOf (s.fld F.EVR.RD_SEQ.SEQ) with
  | some r => r.bytes
  | none => List.replicate 64 0

/-- EVR (chapter 15): word n of the selected record. -/
def State.viewEvr (s : State) (n : Nat) : List ViewRow :=
  let e := s.evr
  [show1 F.EVR.STATUS.QUEUED e.queue.length, show1 F.EVR.STATUS.CLEARING (!e.clearing.isEmpty).toNat,
   show1 F.EVR.STATUS.FULL e.full.toNat, show1 F.EVR.STATUS.FLUSHING e.flushing.toNat,
   show1 F.EVR.STATUS.HOLDING (s.lcs.mode.holdsRecords && !e.flushing).toNat, show1 F.EVR.HEAD.SEQ e.head,
   show1 F.EVR.TAIL.SEQ e.tail, show1 F.EVR.TIME.POWER_CYCLES e.powerCycles, show1 F.EVR.TIME.OP_TIME e.opTime,
   show1 F.EVR.RD_DATA.DATA (leNat ((s.selectedRecord.drop (8 * n)).take 8))]

/-- FLT (chapter 16): class n + 1. -/
def State.viewFlt (s : State) (n : Nat) : List ViewRow :=
  let q := s.flt.queues.getD n []
  let runs := s.flt.active.any (fun p => p.1 == n + 1) && s.lcs.mode != .eclipse && s.lcs.mode != .powerFailDrain
  [show1 F.FLT.STATUS.SELF_FENCED s.flt.selfFenced.toNat, show1 F.FLT.STATUS.FATAL_HB s.flt.fatalHandBack.toNat,
   show1 F.FLT.STATUS.ACTIVE_CLASS ((s.flt.active.map Prod.fst).getD 0),
   show1 F.FLT.ACTIVE.SEQ ((s.flt.active.map (fun p => p.2.seq)).getD 0), show1 F.FLT.WDOG_STATUS.STAGE s.flt.wdogStage,
   show1 F.FLT.WDOG_STATUS.REMAIN_US (if s.flt.wdogStage = 0 then 0 else (s.wdogPeriod - s.flt.wdogRun) * s.tickNs / 1000),
   show1 F.FLT.CLASS_STATUS.PAUSED ((q.head?.any (fun e => e.left.isSome)) && !runs).toNat,
   show1 F.FLT.CLASS_STATUS.DEPTH q.length, show1 F.FLT.CLASS_HEAD.SEQ ((q.head?.map FltEntry.seq).getD 0),
   show1 F.FLT.CLASS_LEFT.TICKS ((q.head?.bind FltEntry.left).getD 0)]

/-! Every block. -/

/-- The views of a block, for instance n of its arrays. -/
def State.blockView (s : State) (b n : Nat) : List ViewRow :=
  match b with
  | 0 => s.viewTck
  | 1 => s.viewLcs
  | 2 => s.viewSim
  | 3 => s.viewApc n
  | 6 => s.viewQpc
  | 7 => s.viewCmf
  | 8 => s.viewVct n
  | 9 => s.viewRdx
  | 10 => s.viewCmp n
  | 11 => s.viewCip n
  | 12 => s.viewDgs n
  | 13 => s.viewFtl
  | 14 => s.viewRdn n
  | 15 => s.viewFrn n
  | 16 => s.viewRfl
  | 17 => s.viewWit n
  | 18 => s.viewPcr n
  | 19 => s.viewBay n
  | 20 => s.viewRcf
  | 21 => s.viewEvr n
  | 22 => s.viewFlt n
  | _ => []

/-- The common registers of block b (R565, R569): X.ID, and X.INT_STATUS. -/
def State.commonWord (s : State) (b off : Nat) (w : Nat) : Nat :=
  let x := blocks.getD b ⟨0, 0, []⟩
  if off = 0 then x.ascii * 2 ^ 40 + b * 2 ^ 32 + 0x88600100
  else if off = 0x20 then
    (s.fld ⟨blockBase b + 8, 0, 4, 0⟩ != 0).toNat * 2 ^ 17 +
      (s.reg (eventAddr b) &&& s.reg (eventAddr b + 8) != 0).toNat * 2 ^ 16 + x.eventOff
  else w

/-- The bits of a register that a read shows (R10, R14). -/
def RegSpec.readMask (r : RegSpec) : Nat :=
  r.fields.foldl (fun m f => if f.acc = .wo then m else m ||| (2 ^ (f.hi + 1) - 2 ^ f.lo)) 0

/-- The value a register shows now (R10, R14). -/
def State.liveWord (s : State) (addr : Nat) : Word :=
  match specAt addr with
  | none => 0
  | some (b, r, n) =>
    let w := (s.reg addr).toNat &&& r.readMask
    let off := addr - blockBase b
    if off < 0x100 then BitVec.ofNat 64 (s.commonWord b off w)
    else BitVec.ofNat 64 ((rowsAt (blockBase b + r.off) (s.blockView b n)).foldl (fun v p => setBits v p.1.hi p.1.lo p.2) w)

end Sys2Proof.Machine
end

