-- ==== Sys2Proof/Machine/Registers.lean ====
section
/-!
DEFINITION. Machine/Registers.lean: accesses of the cores and of LC_ACCESS to the physical address space (R544, R551) and to
register space: the access rules of R8 to R16, R435, R566, R570 and R594, the reserved values that depend on other fields,
the writes a register's own rule discards, and what a write starts.
-/

namespace Sys2Proof.Machine

/-! What a write does to the fields (R11, R14, R594). -/

/-- RWL fields take writes in the present mode (R14). -/
def Mode.unlocks (m : Mode) : Bool := m == .structureLoad || m == .restructure

/-- The value another field of the register at `a` holds after a write of `v` that keeps a reserved encoding out of it. -/
def State.takes (s : State) (r : RegSpec) (a v : Nat) (g : Fld) : Nat :=
  let x := bits v g.hi g.lo
  if r.fields.all (fun f => f.lo != g.lo || f.legalVal x) then x else bits (s.reg a).toNat g.hi g.lo

/-- PERIOD_H and BINS give bins of a whole number of seconds (R426). -/
def binsWhole (period bins : Nat) : Bool := bins != 0 && period * 3600 % bins == 0

/-- A field's value is in the range that its description gives by other fields (R11). `i` is the address of instance 0, `a`
that of the register written. -/
def State.inRange (s : State) (r : RegSpec) (i a n : Nat) (f : FieldSpec) (v : Nat) : Bool :=
  let x := bits v f.hi f.lo
  let it := fun (g : Fld) => i == g.addr && f.lo == g.lo
  let other := s.takes r a v
  if it F.FTL.MOSS_CTL.FULL then decide (other F.FTL.MOSS_CTL.HIGH < x)
  else if it F.FTL.GC_CTL.FREE_STOP then decide (x < other F.FTL.GC_CTL.FREE_MIN)
  else if it F.FTL.ANCHOR.MOD_B then
    s.fld (F.FTL.FDOM.DOMAIN.nth x) != s.fld (F.FTL.FDOM.DOMAIN.nth (other F.FTL.ANCHOR.MOD_A))
  else if it F.HPT.SPRAY_CTL.CWND_INIT_KB then decide (x ≤ other F.HPT.SPRAY_CTL.CWND_MAX_KB)
  else if it F.RDN.CONFIG.D_MIN then decide (x ≤ other F.RDN.CONFIG.D_MAX)
  else if it F.RDN.GEOM.D then s.geomOk x
  else if it F.PCR.TOTAL.MIN then decide (x ≤ other F.PCR.TOTAL.MAX)
  else if it F.PCR.RC_CTL.PERIOD_H || it F.PCR.RC_CTL.BINS then
    binsWhole (bits v F.PCR.RC_CTL.PERIOD_H.hi F.PCR.RC_CTL.PERIOD_H.lo) (bits v F.PCR.RC_CTL.BINS.hi F.PCR.RC_CTL.BINS.lo)
  else if it F.PCR.RC_SEL.BIN then decide (x < s.fld F.PCR.RC_CTL.BINS)
  else if it F.RFL.SHADOW_BASE.SIZE_GIB then decide (4 * s.fld F.FTL.CKPT_CTL.GIB ≤ x)
  else if it F.APC.IRQ_ROUTE.ID then x != 0 || other F.APC.IRQ_ROUTE.EN == 0
  else if it F.HPT.REGION_BASE.ADDR then x % 4 == 0
  else if it F.VCT.NSMAP_BASE.ADDR then x % 2 == 0
  else if it F.HPT.RING_BASE.ADDR then decide (n < 256) || x % 512 == 0
  else true

/-- Fields writable only while an enable is 0, with that enable (R102, R110, R233, R321, R326, R391, R519, R561). -/
def enableLocks : List (Fld × Fld) := [
  (F.CMP.RING_BASE.ADDR, F.CMP.RING_CFG.EN), (F.CMP.RING_CPL_BASE.ADDR, F.CMP.RING_CFG.EN),
  (F.CMP.RING_CFG.SIZE_LOG2, F.CMP.RING_CFG.EN), (F.CIP.RING_BASE.ADDR, F.CIP.RING_CFG.EN),
  (F.CIP.RING_CPL_BASE.ADDR, F.CIP.RING_CFG.EN), (F.CIP.RING_CFG.SIZE_LOG2, F.CIP.RING_CFG.EN),
  (F.DGS.RING_BASE.ADDR, F.DGS.RING_CFG.EN), (F.DGS.RING_CPL_BASE.ADDR, F.DGS.RING_CFG.EN),
  (F.DGS.RING_CFG.SIZE_LOG2, F.DGS.RING_CFG.EN), (F.HPT.RING_BASE.ADDR, F.HPT.RING_CFG.EN),
  (F.HPT.RING_CFG.SIZE_LOG2, F.HPT.RING_CFG.EN), (F.HPT.REGION_BASE.ADDR, F.HPT.REGION_BASE.EN),
  (F.HPT.TRIG_BASE.ADDR, F.HPT.TRIG_BASE.EN), (F.RDN.LOSS_BASE.ADDR, F.RDN.LOSS_CFG.EN),
  (F.RDN.LOSS_CFG.SIZE_LOG2, F.RDN.LOSS_CFG.EN), (F.RFL.SHADOW_BASE.ADDR, F.RFL.SHADOW_BASE.EN),
  (F.APC.MCTP_RX_BASE.ADDR, F.APC.MCTP_RX_BASE.EN), (F.APC.MCTP_TX_BASE.ADDR, F.APC.MCTP_TX_BASE.EN),
  (F.FLT.WDOG_CTL.TIMEOUT_MS, F.FLT.WDOG_CTL.EN)]

/-- The field of the register whose instance 0 is at `i` is locked by its enable. -/
def State.enableLocked (s : State) (i n : Nat) (f : FieldSpec) : Bool :=
  enableLocks.any (fun p => p.1.addr == i && p.1.lo == f.lo && s.flag (p.2.nth n))

/-- A write to a fixed choice in Restructure would change it (R22, R435). -/
def State.fixedField (s : State) (a : Nat) (f : FieldSpec) (x : Nat) : Bool :=
  fixedChoices.any (fun g => g.addr == a && g.lo == f.lo && s.fld g != x)

/-- A field that its description makes reserved in instance n (R10): PCR.CLASS_CFG1.URGENT of classes 2 to 7. -/
def reservedIn (i n : Nat) (f : FieldSpec) : Bool :=
  i == F.PCR.CLASS_CFG1.URGENT.addr && f.lo == F.PCR.CLASS_CFG1.URGENT.lo && decide (2 ≤ n)

/-- The error kind of a write to one field, if any (R566, kinds 3 to 5). -/
def State.fieldError (s : State) (r : RegSpec) (i a n : Nat) (f : FieldSpec) (v : Nat) : Option ErrKind :=
  let x := bits v f.hi f.lo
  if reservedIn i n f then none
  else match f.acc with
  | .ro => none
  | .w1c => none
  | .w1s => none
  | .rwl =>
    if !s.lcs.mode.unlocks || (s.lcs.mode == .restructure && s.fixedField a f x) then some .locked
    else if f.legalVal x && s.inRange r i a n f v then none else some .encoding
  | _ =>
    if !(f.legalVal x && s.inRange r i a n f v) then some .encoding
    else if s.enableLocked i n f then some .state else none

/-- The word a register holds after a write, field by field (R14). -/
def State.written (s : State) (r : RegSpec) (i a n v : Nat) : Nat :=
  r.fields.foldl (fun (w : Nat) f =>
    let x := bits v f.hi f.lo
    if reservedIn i n f then w
    else match f.acc with
    | .ro => w
    | .wo => w
    | .w1c => setBits w f.hi f.lo (bits w f.hi f.lo &&& (2 ^ (f.hi - f.lo + 1) - 1 ^^^ x))
    | .w1s => setBits w f.hi f.lo (bits w f.hi f.lo ||| x)
    | _ => if (s.fieldError r i a n f v).isNone then setBits w f.hi f.lo x else w) (s.reg a).toNat

/-- The first kind of R566 among the fields of a write. -/
def State.firstError (s : State) (r : RegSpec) (i a n v : Nat) : Option ErrKind :=
  (r.fields.filterMap (fun f => s.fieldError r i a n f v)).foldl (fun (m : Option ErrKind) k =>
    match m with
    | none => some k
    | some j => if k.num < j.num then some k else some j) none

/-- The register starts a command or an action: a write to it is taken whole or not at all (R594). The rule's examples are WO
fields; that no W1S or RW field counts, such as FLT.WDOG_CTL.EN beside a reserved TIMEOUT_MS, is the model's choice (DESIGN
CHOICE, assumption 53). -/
def RegSpec.acts (r : RegSpec) : Bool := r.fields.any (fun f => f.acc == .wo)

/-! Writes that a register's own rule discards (R566 kind 5). -/

/-- A field of the word written. -/
def wfld (v : Nat) (f : Fld) : Nat := bits v f.hi f.lo

/-- Command registers with the BUSY they obey. -/
def busyCommands : List (Fld × Fld) := [
  (F.CIP.KEY_CMD.OP, F.CIP.KEY_STATUS.BUSY), (F.FTL.SNAP_CMD.OP, F.FTL.SNAP_STATUS.BUSY),
  (F.RDN.RESHAPE_CMD.OP, F.RDN.RESHAPE_STATUS.BUSY), (F.CMF.NS_CMD.OP, F.CMF.NS_STATUS.BUSY),
  (F.QPC.CMD.OP, F.QPC.CMD_STATUS.BUSY), (F.VCT.CMD.OP, F.VCT.CMD_STATUS.BUSY), (F.SIM.CMD.OP, F.SIM.STATUS.BUSY),
  (F.LCS.CMD.OP, F.LCS.CMD_STATUS.BUSY)]

/-- FLT.ACK names the head entry of its class's queue, and not class 1 (R514). -/
def State.ackNames (s : State) (c lo : Nat) : Bool :=
  c != 1 && (match (s.flt.queueOf c).head? with
    | some e => e.seq % 2 ^ 32 == lo
    | none => false)

/-- FLT.INJECT is accepted (R523). -/
def State.mayInject (s : State) : Bool :=
  s.lcs.debugOpen || s.lcs.mode == .reset || s.lcs.mode == .structureLoad || s.lcs.mode == .selfTest || s.lcs.mode == .eclipse

/-- The write of `v` to the register at `a` is not discarded by the register's own rule. -/
def State.accepts (s : State) (a v : Nat) : Bool :=
  if busyCommands.any (fun p => p.1.addr == a && s.flag p.2) then false
  else if a = F.CMF.ACT_CMD.OP.addr then wfld v F.CMF.ACT_CMD.OP != 1 || s.cmf.hold.isNone
  else if a = F.RFL.HANDBACK_CMD.OP.addr then s.lcs.mode == .dualActive
  else if a = F.LCS.SW_RESET.KEY.addr then wfld v F.LCS.SW_RESET.KEY == 0x5352
  else if a = F.FLT.ACK.CLASS.addr then s.ackNames (wfld v F.FLT.ACK.CLASS) (wfld v F.FLT.ACK.SEQ_LO)
  else if a = F.FLT.WDOG_KICK.KEY.addr then wfld v F.FLT.WDOG_KICK.KEY == 0x574B
  else if a = F.FLT.INJECT.CODE.addr then s.mayInject
  else true

/-! What a write starts. -/

/-- A command register with BUSY has been written: its command waits for the next boundary. -/
def State.startCommand (s : State) (r : Req) (i v : Nat) (fuseOk : Bool) : State :=
  if i = F.CIP.KEY_CMD.OP.addr then
    ({ s with cip := { s.cip with pending := some ⟨wfld v F.CIP.KEY_CMD.OP, s.reg F.CIP.KEY_ARG0.SLOT.addr,
        s.reg F.CIP.KEY_ARG1.LIMIT.addr⟩ } } : State).put F.CIP.KEY_STATUS.BUSY 1
  else if i = F.FTL.SNAP_CMD.OP.addr then
    let side := match Tab.find s.cmf.ns (s.fld F.FTL.SNAP_ARG.NSID) with
      | some n => s.vsetSide n.vset
      | none => s.ftl.side
    let set := fun (t : State) => ({ t with ftl := { t.ftl with snapCmd := some (wfld v F.FTL.SNAP_CMD.OP) } } : State)
    (s.onSide side set).put F.FTL.SNAP_STATUS.BUSY 1
  else if i = F.RDN.RESHAPE_CMD.OP.addr then
    ({ s with rdn := { s.rdn with command := some (wfld v F.RDN.RESHAPE_CMD.OP) } } : State).put F.RDN.RESHAPE_STATUS.BUSY 1
  else if i = F.CMF.NS_CMD.OP.addr then
    ({ s with cmf := { s.cmf with nsCmd := some (wfld v F.CMF.NS_CMD.OP) } } : State).put F.CMF.NS_STATUS.BUSY 1
  else if i = F.QPC.CMD.OP.addr then
    ({ s with qpc := { s.qpc with command := some (wfld v F.QPC.CMD.OP, wfld v F.QPC.CMD.CONN) } } : State).put
      F.QPC.CMD_STATUS.BUSY 1
  else if i = F.VCT.CMD.OP.addr then
    ({ s with vct := { s.vct with command := some (wfld v F.VCT.CMD.OP) } } : State).put F.VCT.CMD_STATUS.BUSY 1
  else if i = F.SIM.CMD.OP.addr then
    ({ s with sim := { s.sim with pending := some (wfld v F.SIM.CMD.OP) } } : State).put F.SIM.STATUS.BUSY 1
  else if i = F.LCS.CMD.OP.addr then
    let c : LcsPending := ⟨wfld v F.LCS.CMD.OP, wfld v F.LCS.CMD.INDEX, wfld v F.LCS.CMD.VALUE, r.test, fuseOk⟩
    ({ s with lcs := { s.lcs with pending := some c } } : State).put F.LCS.CMD_STATUS.BUSY 1
  else s

/-- Other registers of the service blocks: HPT, CMF, RFL, VCT. -/
def State.serviceWritten (s : State) (i n v : Nat) : State :=
  if i = F.CMF.ACT_CMD.OP.addr then
    if wfld v F.CMF.ACT_CMD.OP = 1 then { s with cmf := { s.cmf with actStart := true } }
    else { s with cmf := { s.cmf with hold := s.cmf.hold.map (fun h => { h with release := true }) } }
  else if i = F.HPT.SPRAY_DB.PROD.addr then s.sprayDoorbell (wfld v F.HPT.SPRAY_DB.CONN) (wfld v F.HPT.SPRAY_DB.PROD)
  else if i = F.HPT.TRIG_CMD.OP.addr then
    { s with hpt := { s.hpt with
      trig := s.hpt.trig ++ [(wfld v F.HPT.TRIG_CMD.OP, wfld v F.HPT.TRIG_CMD.TAG, wfld v F.HPT.TRIG_CMD.VALUE)] } }
  else if i = (F.HPT.RING_PROD.COUNT.nth 257).addr then s.rawTransmit 65536
  else if i = F.HPT.PORT_CTL.EN.addr then
    if !s.flag (F.HPT.PORT_CTL.EN.nth n) ∧ s.portUp n then (s.setHostPort n false).event Src.HPT 1 n else s
  else if i = F.RFL.CTL.EN.addr then s.reflectEnableWritten
  else if i = F.RFL.SHADOW_BASE.EN.addr then
    if s.flag F.RFL.SHADOW_BASE.EN then s else { s with rfl := { s.rfl with shadows := [] } }
  else if i = F.RFL.HANDBACK_CMD.OP.addr then if s.tck.latches.contains .handBackStart then s else s.latch .handBackStart
  else s

/-- Registers of the data blocks: rings, stream contexts, Frond ports, exclusion. `was` is what the register held. -/
def State.dataWritten (s : State) (i n v was : Nat) : State :=
  if i = F.CMP.RING_PROD.COUNT.addr then s.ringProdWritten .cmp n (wfld v F.CMP.RING_PROD.COUNT)
  else if i = F.CIP.RING_PROD.COUNT.addr then s.ringProdWritten .cip n (wfld v F.CIP.RING_PROD.COUNT)
  else if i = F.DGS.RING_PROD.COUNT.addr then s.ringProdWritten .dgs n (wfld v F.DGS.RING_PROD.COUNT)
  else if i = F.CMP.RING_CFG.EN.addr then s.ringCfgWritten .cmp n (wfld was F.CMP.RING_CFG.EN == 1)
  else if i = F.CIP.RING_CFG.EN.addr then s.ringCfgWritten .cip n (wfld was F.CIP.RING_CFG.EN == 1)
  else if i = F.DGS.RING_CFG.EN.addr then s.ringCfgWritten .dgs n (wfld was F.DGS.RING_CFG.EN == 1)
  else if i = F.CIP.CTX_OWNER.EN.addr then s.setCipCtx n none
  else if i = F.DGS.CTX_OWNER.EN.addr then s.setDgsCtx n none
  else if i = F.CMP.CONFIG.COMP_LANES.addr then s.rolePending
  else if i = F.FRN.PORT_CTL.EN.addr then
    let s1 := s.portEnableWritten n (wfld was F.FRN.PORT_CTL.EN == 1)
    if wfld v F.FRN.PORT_CTL.FORCE_RETRAIN = 1 then s1.fullRetrain n else s1
  else if i = F.FRN.PORT_MGMT.VIEW.addr then
    let s1 := s.setPort n { s.port n with mismatchAt := none }
    if wfld v F.FRN.PORT_MGMT.EVAC_REQ = 1 then s1.bothSides (fun (t : State) => t.requestEvac n) else s1
  else if i = F.RDN.MOD_STATE.EXCL.addr then s.exclWritten n
  else if i = F.FTL.KEYQ_ID.KEY_ID.addr then
    ({ s with ftl := { s.ftl with keyQuery := true } } : State).put F.FTL.KEYQ_COUNT.VALID 0
  else s

/-- Registers of the control blocks: TCK, LCS, SIM, APC, MEM, PCR, BAY, RCF, EVR, FLT. -/
def State.controlWritten (s : State) (i n v was : Nat) : State :=
  if i = F.TCK.REF_CTL.SRC.addr then s.srcWritten
  else if i = F.LCS.SW_RESET.KEY.addr then s.requestReset .software
  else if i = F.SIM.BOOT_CTL.PREF.addr then if s.flag F.SIM.BOOT_CTL.TRIAL then s else s.put F.SIM.BOOT_CTL.TRIED 0
  else if i = F.APC.BOOT_CTL.PREF.addr then if s.flag F.APC.BOOT_CTL.TRIAL then s else s.put F.APC.BOOT_CTL.TRIED 0
  else if i = F.APC.CORE_RUN.RUN.addr then s.coreRunWritten (wfld was F.APC.CORE_RUN.RUN)
  else if i = F.APC.IRQ_EOI.SOURCE.addr then s.endOfService (wfld v F.APC.IRQ_EOI.SOURCE)
  else if i = F.APC.MTIMECMP.CMP.addr then s.timerWritten n
  else if i = F.APC.PCIE_CTL.EN.addr then s.pcieCtlWritten
  else if i = F.APC.MCTP_TX_IDX.PROD.addr ∨ i = F.APC.MCTP_TX_BASE.EN.addr ∨ i = F.APC.MCTP_CFG.EN.addr then s.mctpSendSlots 16
  else if i = F.MEM.EVENT.VIOL.addr then if wfld v F.MEM.EVENT.VIOL = 1 then s.put F.MEM.VIOL.VALID 0 else s
  else if i = F.PCR.RC_CTL.EN.addr then s.rcCtlWritten (BitVec.ofNat 64 was)
  else if i = F.BAY.BAY_CTL.QCLR.addr then if wfld v F.BAY.BAY_CTL.QCLR = 1 then s.endQuarantine n else s
  else if i = F.RCF.UNLOCK.KEY.addr then s.rcfUnlockWrite (wfld v F.RCF.UNLOCK.KEY)
  else if i = F.RCF.CMD.OP.addr then s.rcfCmdWrite (wfld v F.RCF.CMD.OP)
  else if i = F.RCF.ADDR.ADDR.addr then s.rcfAddrWrite (wfld v F.RCF.ADDR.ADDR)
  else if i = F.RCF.DATA.DATA.addr then s.rcfDataWrite (BitVec.ofNat 64 v)
  else if i = F.EVR.SW_REC2.ARG1.addr then { s with evr := { s.evr with swPending := true } }
  else if i = F.EVR.CLEAR_CMD.OP.addr then { s with evr := { s.evr with clearPending := true } }
  else if i = F.FLT.ACK.CLASS.addr then
    { s with flt := { s.flt with acks := s.flt.acks ++ [(wfld v F.FLT.ACK.CLASS, wfld v F.FLT.ACK.SEQ_LO)] } }
  else if i = F.FLT.WDOG_KICK.KEY.addr then s.kickWatchdog
  else if i = F.FLT.INJECT.CODE.addr then
    { s with flt := { s.flt with reports := s.flt.reports ++ [
      { code := wfld v F.FLT.INJECT.CODE, source := v / 2 ^ 40 % 256, unit := v / 2 ^ 24 % 2 ^ 16, arg1 := 0, injected := true,
        fromClass := 0 }] } }
  else s

/-- What a write starts beside the fields it sets, in instance n of the register at `i`. -/
def State.afterWrite (s : State) (r : Req) (i n v was : Nat) (fuseOk : Bool) : State :=
  let off := i % 0x400000
  if off = 8 then
    if v.testBit 8 then s.put ⟨i + 8, 0, 63, 63⟩ 0 else s
  else (((s.startCommand r i v fuseOk).serviceWritten i n v).dataWritten i n v was).controlWritten i n v was

/-- Registers whose write takes effect at the next boundary (R426, R427): the register itself keeps its value until then. -/
def State.delayWrite (s : State) (i v : Nat) : Option State :=
  if i = F.PCR.TOD.BIN.addr then some { s with pcr := { s.pcr with todPending := some (BitVec.ofNat 64 v) } }
  else if i = F.PCR.RC_DATA.M.addr then
    some { s with pcr := { s.pcr with rcPending := some (s.flag F.PCR.RC_SEL.PEER, s.fld F.PCR.RC_SEL.BIN,
      wfld v F.PCR.RC_DATA.VALID == 1, wfld v F.PCR.RC_DATA.M) } }
  else none

/-! Accesses to register space. -/

/-- The registers that LC_ACCESS reaches (R476, R570). -/
def lcReach : List Nat := [F.LCS.CMD.OP.addr, F.LCS.CMD_STATUS.BUSY.addr, F.LCS.NONCE0.NONCE.addr, F.LCS.NONCE1.NONCE.addr,
  F.LCS.SERIAL0.SERIAL.addr, F.LCS.SERIAL1.SERIAL.addr, F.LCS.STATUS.MODE.addr] ++
  (List.range 32).map (fun n => (F.LCS.DATA.DATA.nth n).addr)

/-- The register an access reaches: none when the address is unassigned, or LC_ACCESS does not reach it (R9, R570). -/
def reached (r : Req) (addr : Nat) : Option (Nat × RegSpec × Nat) :=
  if r.test && !lcReach.contains addr then none else specAt addr

/-- The access is a naturally aligned 64-bit access (R8). -/
def aligned8 (addr size : Nat) : Bool := size == 8 && addr % 8 == 0

/-- A write to register space (R8 to R14, R566, R594). -/
def State.regWrite (s : State) (r : Req) (addr size : Nat) (w : Word) (fuseOk : Bool) : State :=
  if !aligned8 addr size then s.accessError r true addr size .size
  else match reached r addr with
    | none => s.accessError r true addr size .unassigned
    | some (_, x, n) =>
      let v := w.toNat
      let i := addr - n * x.stride
      let was := (s.reg addr).toNat
      match s.firstError x i addr n v with
      | some k =>
        if x.acts then s.accessError r true addr size k
        else
          ((s.setReg addr (BitVec.ofNat 64 (s.written x i addr n v))).afterWrite r i n (s.written x i addr n v) was fuseOk).accessError
            r true addr size k
      | none =>
        if !s.accepts addr v then s.accessError r true addr size .state
        else match s.delayWrite i v with
          | some t => t
          | none => (s.setReg addr (BitVec.ofNat 64 (s.written x i addr n v))).afterWrite r i n v was fuseOk

/-- The registers that hold a value wider than 64 bits (R13): the lowest word, and how many words. -/
def wideValues : List (Nat × Nat) :=
  [(F.LCS.NONCE0.NONCE.addr, 2), (F.LCS.SERIAL0.SERIAL.addr, 2), (F.EVR.RD_DATA.DATA.addr, 8), (F.CMP.LANE_ROLE_LO.ROLE.addr, 2)] ++
  (List.range 256).map (fun e => ((F.HPT.IP_ADDR_LO.ADDR.nth e).addr, 2)) ++
  (List.range 96).map (fun p => ((F.FRN.PORT_DRIVE_LO.DIES.nth p).addr, 2)) ++
  (List.range 96).map (fun p => ((F.FRN.PORT_FAIL_LO.DIES.nth p).addr, 2))

/-- A read of a word of a wide value: the lowest copies the others into the shadow, and those read from it (R13). -/
def State.wideRead (s : State) (addr base words : Nat) : State :=
  if addr = base then
    { s with
      busData := s.liveWord addr
      shadow := (List.range (words - 1)).foldl (fun (m : Tab Word) k =>
        Tab.insert m (base + 8 * (k + 1)) (s.liveWord (base + 8 * (k + 1)))) s.shadow }
  else { s with busData := Tab.getD s.shadow addr 0 }

/-- A read of register space (R8 to R14): what it returns stands in `busData`. -/
def State.regRead (s : State) (r : Req) (addr size : Nat) : State :=
  if !aligned8 addr size then ({ s with busData := 0 } : State).accessError r false addr size .size
  else match reached r addr with
    | none => ({ s with busData := 0 } : State).accessError r false addr size .unassigned
    | some _ =>
      match wideValues.find? (fun p => decide (p.1 ≤ addr) && decide (addr < p.1 + 8 * p.2)) with
      | some (base, words) => s.wideRead addr base words
      | none => { s with busData := s.liveWord addr }

/-! The physical address space (R544). -/

/-- An address lies in a range. -/
def within (a base len : Nat) : Bool := decide (base ≤ a) && decide (a < base + len)

/-- HBM and DDR, as far as they may reach. -/
def inDram (a : Nat) : Bool := within a hbmBase (hbmEnd - hbmBase) || within a ddrBase (3072 * 2 ^ 30)

/-- Boot SRAM (R544). -/
def inSram (a : Nat) : Bool := within a 0x10000000 0x400000

/-- The base of the read window of record flash (R482, R544). -/
def windowBase : Nat := 0x40000000

/-- A size that an access may have. -/
def accessSize (n : Nat) : Nat := if n = 1 ∨ n = 2 ∨ n = 4 then n else 8

/-- A core writes an IMSIC file (R544, R554): the identity written to the first word of a running core's file becomes pending. -/
def State.writeImsic (s : State) (file off v : Nat) : State :=
  let m : IrqMessage := ⟨off / 4096, file, v % 2 ^ 32⟩
  if off % 4096 = 0 ∧ s.coreRuns m.core ∧ 1 ≤ m.id ∧ m.id ≤ 255 ∧ m ∉ s.apc.files then
    { s with apc := { s.apc with files := s.apc.files ++ [m] } }
  else s

/-- A write of a core, or of LC_ACCESS, to a physical address (R544, R551, R482). A write that raises an access fault on its
core changes nothing else. -/
def State.busWrite (s : State) (r : Req) (addr size : Nat) (v : Word) (fuseOk : Bool) : State :=
  let n := accessSize size
  if (blockOf addr).isSome then s.regWrite r addr size v fuseOk
  else if r.test then s
  else if inDram addr then s.storeBy Src.APC addr (leBytes n v.toNat)
  else if inSram addr then s.store addr (leBytes n v.toNat)
  else if within addr windowBase 0x4C00000 then s.accessErrorIn Src.RCF r true addr size .state
  else if within addr 0xE0000000 0x30000 then s.writeImsic 0 (addr - 0xE0000000) v.toNat
  else if within addr 0xE1000000 0x30000 then s.writeImsic 1 (addr - 0xE1000000) v.toNat
  else s

/-- A read of the window onto record flash (R482). -/
def State.windowRead (s : State) (r : Req) (addr size : Nat) : State :=
  let a := addr - windowBase
  if !aligned8 addr size then ({ s with busData := 0 } : State).accessErrorIn Src.RCF r false addr size .size
  else if !windowOpen a then ({ s with busData := 0 } : State).accessErrorIn Src.RCF r false addr size .unassigned
  else { s with busData := s.rcf.readWord a }

/-- A read of a core, or of LC_ACCESS, from a physical address: what it returns stands in `busData`. What a PCIe device
returns is a free value. -/
def State.busRead (s : State) (r : Req) (addr size : Nat) : State :=
  let n := accessSize size
  if (blockOf addr).isSome then s.regRead r addr size
  else if r.test then s
  else if inDram addr then
    match s.loadBy Src.APC addr n with
    | some b => { s with busData := BitVec.ofNat 64 (leNat b) }
    | none => s.violation Src.APC false addr
  else if inSram addr then { s with busData := BitVec.ofNat 64 (leNat (s.load addr n)) }
  else if within addr windowBase 0x4C00000 then s.windowRead r addr size
  else if addr < 0x40000 then { s with busData := Config.romWord addr }
  else if within addr 0x80000000 0x40200000 || within addr 0x80000000000 0x1000000000 then
    let (k, s1) := s.draw
    { s1 with busData := Config.freeWord k }
  else s

/-! The rows that are accesses. -/

/-- REGISTER_WRITE (R14): a write without a row of its own. Whether the fuses of a life-cycle command verify is then a free
value. -/
def execRegisterWrite (r : Req) (addr size : Nat) (v : Word) (s : State) : Host.Outcome State Fault Refusal :=
  let (k, s1) := s.draw
  .next (s1.busWrite r addr size v (Config.freeBool k))

/-- WIDE_VALUE_READ (R13): a read; of the lowest word of a wide value it copies the rest to the shadow. -/
def execWideValueRead (r : Req) (addr size : Nat) (s : State) : Host.Outcome State Fault Refusal := .next (s.busRead r addr size)

end Sys2Proof.Machine
end

