-- ==== Sys2Proof/Machine/Boundary.lean ====
section
/-!
DEFINITION. Machine/Boundary.lean: the tick boundary (R24) with its five steps and the ranks of R33, and the panel tick
(R37). Within a boundary TICK_COUNT already shows the tick that begins (R23).
-/

namespace Sys2Proof.Machine

/-! Step 1: sampling (R24, R27, R28). -/

/-- The rank of a captured input (R28). -/
def Input.rank : Input → Nat
  | .supplyFault _ => 1
  | .powerFailWarning => 1
  | .epochLoss _ => 2
  | .reset _ => 3
  | .leverOpen => 4
  | .handBackStart => 4
  | .peerLoss => 5
  | .moduleLoss _ => 6
  | .dieFailure _ _ => 6
  | .commit => 7
  | .management _ => 8

/-- The unit an input's record names (R500): the rails, the fence's source, the reset kind, the port, or nothing. -/
def Input.unit : Input → Nat
  | .supplyFault rails => rails
  | .powerFailWarning => 0
  | .epochLoss src => src.code
  | .reset k => k.code
  | .leverOpen => 0x80
  | .handBackStart => 0
  | .peerLoss => 0
  | .moduleLoss n => n
  | .dieFailure n _ => n
  | .commit => 0
  | .management m => m.eid

/-- Capsules of a rank wait: those of rank 9, or those of rank 10. -/
def State.capsulesWait (s : State) (nine : Bool) : Bool :=
  s.cmf.caps.any (fun p => p.2.any (fun c => s.isRank9 p.1 c == nine))

/-- TCK.SAMPLED: bit n - 1 when rank n holds an input at the boundary; the grant of rank 11 stands while the pacer opens any. -/
def State.ranksHeld (s : State) : Nat :=
  bitSet 12 (fun b =>
    if b = 8 then s.capsulesWait true
    else if b = 9 then s.capsulesWait false || !s.cmf.arrived.isEmpty
    else if b = 10 then s.pcr.classes.any (fun c => c.share != 0)
    else s.tck.latches.any (fun i => i.rank == b + 1) || (b == 4 && s.wit.grant.isSome))

/-- The clocks of a boundary (R42, R469, R502, R542): the phase and trim, the lever pin, the time without a supply fault, the
machine timer and the operating time. -/
def State.sampleBoundary (s : State) (x : BoundarySample) : State :=
  let s1 := (s.alignBoundary x).sampleLever x.leverPinOpen
  ({ s1 with
      lcs := { s1.lcs with supplyGood := if x.supplyBad then 0 else s1.lcs.supplyGood + 1 }
      apc := { s1.apc with mtime := (s1.apc.mtime + s1.tickNs / 10) % 2 ^ 64 } } : State).runOpTime

/-- Step 1 (R24): the sampling of the tick that begins is closed. A life-cycle reset that is due is taken with it. -/
def State.closeSampling (s : State) (x : BoundarySample) : State :=
  let s1 := s.sampleBoundary x
  if s1.lcs.lifeResetDue && s1.lcs.mode != .powerFailDrain then s1.requestReset .lifeCycle else s1

/-! Step 3: results (R24). -/

/-- A loss-ring entry's bytes (R233). -/
def lossBytes (e : LossEntry) (perGranule phase : Nat) : List Byte :=
  leBytes 4 e.nsid ++ leBytes 4 (e.count * perGranule) ++ leBytes 8 (e.first * perGranule) ++ leBytes 4 e.birth ++
    leBytes 4 e.death ++ leBytes 4 (e.stripe % 2 ^ 20) ++ leBytes 4 phase

/-- Logical blocks in a granule of a namespace. -/
def State.blocksPerGranule (s : State) (nsid : Nat) : Nat :=
  if (Tab.find s.cmf.ns nsid).any (fun n => n.small) then 8 else 1

/-- The entries held go to the loss ring while it has room (R233). -/
def State.writeLosses (s : State) : List LossEntry → State
  | [] => { s with rdn := { s.rdn with lossHeld := [] } }
  | e :: es =>
    let size := 2 ^ s.fld F.RDN.LOSS_CFG.SIZE_LOG2
    let k := s.fld F.RDN.LOSS_PROD.COUNT
    if !s.flag F.RDN.LOSS_CFG.EN then { s with rdn := { s.rdn with lossHeld := e :: es } }
    else if (k + 2 ^ 32 - s.fld F.RDN.LOSS_CONS.COUNT) % 2 ^ 32 ≥ size then
      let t : State := { s with rdn := { s.rdn with lossHeld := e :: es } }
      if t.flag F.RDN.EVENT.LOSS_FULL then t else t.event Src.RDN 5
    else
      let a := s.fld F.RDN.LOSS_BASE.ADDR * 32 + k % size * 32
      (((s.storeBy Src.RDN a (lossBytes e (s.blocksPerGranule e.nsid) (phaseOf size k))).put F.RDN.LOSS_PROD.COUNT
        (k + 1)).irqEdge 128).writeLosses es

/-- FLT takes the reports of the ended tick before anything else of step 3 (R510): lanes newly withdrawn give up their jobs
(R116), acknowledgements retire entries, and the deadlines and the software watchdog lose the tick. -/
def State.faultStep (s : State) : State :=
  let t := s.takeReports
  (((t.failWithdrawn s.flt.withdrawn).applyAcks).runDeadline).runWatchdog

/-- A result applied by the side whose die gave it (R376). -/
def State.applyOnSide (s : State) (r : FrnResult) : State :=
  match (s.port r.port).desc with
  | some d => s.onSide (s.dieSide d r.cmd.die) (fun t => t.applyResult r)
  | none => s.applyResult r

/-- Results of module commands: stale fences first raise MAX_SEEN (R403); the others are applied in the order received. -/
def State.moduleResults (s : State) : State :=
  let s1 := s.staleResults
  s1.frn.results.foldl State.applyOnSide { s1 with frn := { s1.frn with results := [] } }

/-- The results of the head's own operations that arrived in the ended tick (R24). -/
def State.operationResults (s : State) : State :=
  let s1 := (s.moduleResults.bothSides State.ftlResults).transportResults
  let s2 := ((s1.postDones .cmp).postDones .cip).postDones .dgs
  s2.bothSides (fun t => t.writeLosses t.rdn.lossHeld)

/-- Commands written to command registers in the ended tick (R122, R277, R355, R446, R476), and what CIP does for its keys. -/
def State.registerCommands (s : State) : State :=
  (((s.runKeyCommand.keyTurn.runNsCommand).runVcCommand).runSimCommand).runLcsCommand

/-- The completions whose conditions the results meet, and the notices of the ended tick (R24, R294, R302, R311). -/
def State.completionStep (s : State) : State :=
  ((s.endFailedReads.endLostQueues).postNotices).postCompletions.holdBoundary

/-- Step 3 (R24). In Power-Fail Drain no journal record, delta or completion is formed (R466): a module's results only end
their commands. -/
def State.applyResults (s : State) : State :=
  let s1 := s.faultStep
  let s2 := if s1.lcs.mode = .powerFailDrain then
      ({ s1 with frn := { s1.frn with results := [] } } : State).registerCommands
    else s1.operationResults.registerCommands.completionStep
  (s2.evrBoundary.rcfBoundary).routeInterrupts

/-! Step 4: the ranks (R31 to R33). -/

/-- The record of a sampled input (R33, R500). -/
def State.inputRecord (s : State) (i : Input) (acted : Bool) : State :=
  let code := 0x100 + i.rank
  s.record Src.TCK (Config.noticeEvent Src.TCK code).toNat code i.unit acted.toNat 0

/-- Inputs that are recorded only. -/
def State.recordOnly (s : State) (xs : List Input) : State := xs.foldl (fun t i => t.inputRecord i false) s

/-- Inputs that stay captured (R33). -/
def State.defer (s : State) (xs : List Input) : State :=
  { s with tck := { s.tck with latches := xs ++ s.tck.latches } }

/-- Inputs of a rank, in arrival order. -/
def ofRank (r : Nat) (xs : List Input) : List Input := xs.filter (fun i => i.rank == r)

/-- Rank 1 (R33, R466, R468): the inputs are taken together, and Power-Fail Drain is entered; while it is in force they are
recorded only. -/
def State.rank1 (s : State) (xs : List Input) : State :=
  if xs = [] then s
  else if s.lcs.mode = .powerFailDrain then s.recordOnly xs
  else (xs.foldl (fun (t : State) i => t.inputRecord i true) s).enterDrain

/-- Rank 11 recorded only (R33, R500): the grant set of the tick, when the pacer has one. -/
def State.recordGrantOf (s before : State) : State :=
  if before.pcr.classes.any (fun c => c.share != 0) then
    s.record Src.TCK (Config.noticeEvent Src.TCK 0x10B).toNat 0x10B 0 0 0
  else s

/-- One loss of rank 2. -/
def State.rank2One (s : State) (i : Input) : State :=
  match i with
  | .epochLoss src => let (t, ok) := s.takeEpochLoss src; t.inputRecord i ok
  | _ => s

/-- Rank 2 (R33, R405): every loss in arrival order. -/
def State.rank2 (s : State) (xs : List Input) : State := xs.foldl State.rank2One s

/-- The order of rank 3: WRST_N, watchdog, software; then a life-cycle reset. -/
def resetOrder : List ResetKind := [.warm, .watchdog, .software, .lifeCycle]

/-- Rank 3 (R33): only the first is performed, and all are recorded. -/
def State.rank3 (s : State) (xs : List Input) : State :=
  match resetOrder.filter (fun k => xs.contains (.reset k)) with
  | [] => s
  | k :: ks => (((s.inputRecord (.reset k) true).recordOnly (ks.map .reset))).performReset k

/-- One input of rank 4 (R409, R516, R538, R539). -/
def State.rank4One (s : State) (i : Input) : State :=
  match i with
  | .leverOpen =>
    if s.lcs.mode = .takeOver ∨ s.lcs.mode = .restructure then
      ({ s with bay := { s.bay with leverWaits := true } } : State).inputRecord i true
    else
      let (t, ok) := s.takeHandBack false
      (if ok then t.count F.BAY.STAT.COUNT 5 else t).inputRecord i ok
  | .handBackStart => let (t, ok) := s.takeHandBack true; t.inputRecord i ok
  | _ => s

/-- An opening of the lever in Take-Over or Restructure begins its Hand-Back here (R539). -/
def State.leverWaiting (s : State) : State :=
  if s.bay.leverWaits ∧ (s.lcs.mode = .dualActive ∨ s.lcs.mode = .soloActive) then
    (({ s with bay := { s.bay with leverWaits := false } } : State).takeHandBack false).1.count F.BAY.STAT.COUNT 5
  else s

/-- Rank 4 (R33). -/
def State.rank4 (s : State) (xs : List Input) : State := (xs.foldl State.rank4One s).leverWaiting

/-- Rank 5 (R33, R400, R401): the peer loss, then a grant. While fenced a peer loss is deferred. -/
def State.rank5 (s : State) (fenced : Bool) (xs : List Input) : State :=
  let s1 := if fenced then s.defer xs else xs.foldl (fun (t : State) i => t.takePeerLoss.inputRecord i true) s
  match s1.wit.grant with
  | some g => s1.actGrant g
  | none => s1

/-- One input of rank 6 (R223, R246, R267): FLT has its report (R511). -/
def State.rank6One (s : State) (i : Input) : State :=
  match i with
  | .moduleLoss n => ((s.bothSides (fun t => t.failModule n)).report 0x0511 Src.FRN n).inputRecord i true
  | .dieFailure n die => (s.report 0x0511 Src.FRN n die).inputRecord i true
  | _ => s

/-- Rank 6 (R33): every loss of the tick. -/
def State.rank6 (s : State) (xs : List Input) : State := xs.foldl State.rank6One s

/-- Rank 7 (R33, R449): the commit; where its guard fails it is deferred. -/
def State.rank7 (s : State) (xs : List Input) : State :=
  match xs with
  | [] => s
  | i :: _ =>
    let t := s.commitAtBoundary
    if t.tck.latches.contains .commit then t else t.inputRecord i true

/-- Rank 8 (R33, R561). -/
def State.rank8 (s : State) (xs : List Input) : State :=
  xs.foldl (fun (t : State) i => match i with
    | .management m => (t.takeManagement m).inputRecord i true
    | _ => t) s

/-- Ranks 4 to 8 with no reset and no drain: at the boundary of a fence the lever and module losses are recorded; a peer loss
and a commit are deferred while the head is fenced (R33). -/
def State.lowerRanks (s : State) (now fenced : Bool) (xs : List Input) : State :=
  if now then
    let s1 := (s.recordOnly (ofRank 4 xs)).recordOnly (ofRank 6 xs)
    (s1.defer (ofRank 5 xs ++ ofRank 7 xs)).rank8 (ofRank 8 xs)
  else
    let s1 := ((s.rank4 (ofRank 4 xs)).rank5 fenced (ofRank 5 xs)).rank6 (ofRank 6 xs)
    (if fenced then s1.defer (ofRank 7 xs) else s1.rank7 (ofRank 7 xs)).rank8 (ofRank 8 xs)

/-- Ranks 1 to 8 (R33): a supply fault or a reset leaves the lower ranks recorded only, the grant of rank 11 among them; after a
fence a reset is still acted on, and the fence follows the head through it. -/
def State.actRanks (s : State) (xs : List Input) : State :=
  let s1 := s.rank1 (ofRank 1 xs)
  if s1.lcs.mode = .powerFailDrain then
    let s2 := s1.recordOnly (xs.filter (fun i => i.rank != 1))
    if ofRank 1 xs = [] then s2 else s2.recordGrantOf s
  else
    let s2 := s1.rank2 (ofRank 2 xs)
    let fenced := s2.lcs.mode == .eclipse
    if ofRank 3 xs ≠ [] then ((s2.rank3 (ofRank 3 xs)).recordOnly (xs.filter (fun i => decide (4 ≤ i.rank)))).recordGrantOf s
    else s2.lowerRanks (fenced && s1.lcs.mode != .eclipse) fenced xs

/-- An admitted command whose data or turn it waited for goes on (R288, R290, R307, R353). -/
def State.resumeCmd (s : State) (key : Nat) : State :=
  match s.cmd key with
  | none => s
  | some c =>
    if c.stage ≠ .held then s
    else if c.isConnect then s.connectNow key c
    else if !c.io then s
    else
      let s1 := s.resumeIo key
      match c.opcode with
      | 0x0D => s1.rsvRegister key
      | 0x0E => s1.rsvReport key
      | 0x11 => s1.rsvAcquire key
      | 0x15 => s1.rsvRelease key
      | _ => s1

/-- What the ranks leave to do in step 4: mode changes on the peer's MARK, the phases of a Hand-Back, requests to the
witness, ANA states, admission, and the commands that waited (R287, R310, R400, R409, R456). -/
def State.serveStep (s : State) : State :=
  let s1 := ((s.modesByMark.handBackBoundary).makeRequests).watchUnheld
  let s3 := (s1.serveBase.anaUpdate).admission
  (Tab.keys s3.cmf.cmds).foldl State.resumeCmd s3

/-- Step 4 (R24). The ring jobs of lanes whose role a commit of an earlier boundary changed move (R81); then the ranks. Ranks 9
and 10 are admission; rank 11 is the pacer's. -/
def State.actOnInputs (s : State) : State :=
  let xs := s.tck.latches
  let s := s.moveRingJobs
  let s1 := ({ s with tck := { s.tck with latches := [] } } : State).actRanks xs
  let s2 : State := { s1 with flt := { s1.flt with actingSeq := 0 } }
  if s2.lcs.mode.still then s2.admission.anaUpdate else s2.serveStep

/-! Step 5: budgets (R25, R26). -/

/-- One side's marks and transmissions: the moss tier's marks, the free stripes of a side in operation, its rows, journal
pages and anchors (R168, R174, R184, R194). -/
def State.sideWork (s : State) : State :=
  let s1 := s.mossMarks
  let s2 := if s1.lcs.mode.serving && s1.wit.own.testBit s1.ftl.side then s1.freeMarks else s1
  s2.ftlSends

/-- The links to the peer and the witness (R382, R387, R395, R466): MARKs and head slots go on in Power-Fail Drain. -/
def State.linkStep (s : State) : State :=
  let s1 := s.sendMark
  let s2 := if s1.lcs.mode.still then s1 else s1.sendDeltas
  s2.boundarySlot.witnessTick

/-- Step 5 (R24, R25): work of the tick may start; grants, lanes, rings, ports and the links. -/
def State.openBudgets (s : State) : State :=
  let s := ({ s with tck := { s.tck with working := true } } : State).openLanes
  if s.lcs.mode.still then s.pacerBoundary.linkStep
  else
    let s1 := s.pacerBoundary.ringTurn
    let s2 := ((s1.bothSides State.sideWork).evictionHand).countKeepAlive
    (s2.frnBoundary).linkStep

/-- The state as a boundary begins: the tick's number, and nothing transmitted or admitted in it yet. -/
def State.beginTick (s : State) : State :=
  { s with
    tck := { s.tck with tick := s.tck.tick + 1, working := false }
    cmf := { s.cmf with taken := 0 }
    out := [] }

/-- The five steps of a boundary in their order (R24), after what ends with the tick before it (R59, R64, R184). TCK.SAMPLED shows what was held as step 4 began. -/
def State.boundary (s : State) (x : BoundarySample) : State :=
  let s1 := ((s.closeReduction.bothSides State.mossTurn).beginTick).closeSampling x
  let s2 := s1.sealDelta
  let s3 := s2.applyResults
  let s4 := (s3.put F.TCK.SAMPLED.RANKS s3.ranksHeld).actOnInputs
  s4.openBudgets

/-- TICK_BOUNDARY (R23, R24): before the release of PORST_N no boundary comes. TICK_COUNT advances by one whatever the
boundary does. -/
def execTickBoundary (x : BoundarySample) (s : State) : Host.Outcome State Fault Refusal :=
  .next (if !s.tck.ticking then s
    else
      let t := s.boundary x
      { t with tck := { t.tck with tick := s.tck.tick + 1 } })

/-! The panel tick (R37, R38). -/

/-- PANEL_TICK (R37, R38, R421, R424, R532, R540, R591): at a boundary whose number is a multiple of 512, the panel inputs
are sampled, the pacer's control law runs, the junction sensors are read and the LEDs are decided. -/
def execPanelTick (pwr svc : Bool) (sensor : Nat) (reading : Int) (s : State) : Host.Outcome State Fault Refusal :=
  .next (if !s.tck.ticking ∨ !s.panelTick then s
    else
      let s1 : State := { s with bay := { s.bay with shown := s.bay.active, active := [] } }
      let s2 := s1.panelSamples pwr svc
      let s3 := if s2.bay.inputs.any (fun p => p.2.due) then
          s2.put F.TCK.SAMPLED.RANKS (setBits (s2.fld F.TCK.SAMPLED.RANKS) 11 11 1) else s2
      ((s3.takeTemperature sensor reading).pacerPanel).decideLeds)

end Sys2Proof.Machine
end

