-- ==== Sys2Proof/Machine/RegisterRows.lean ====
section
/-!
DEFINITION. Machine/RegisterRows.lean: the commands that are writes of a register with a row of its own: each is a write of
its register by the rules of Machine/Registers.lean, made by a core or through LC_ACCESS, at the instant of the command.
-/

namespace Sys2Proof.Machine

/-- A word with one field set. -/
def fieldWord (f : Fld) (v : Nat) : Word := BitVec.ofNat 64 (v % 2 ^ (f.hi - f.lo + 1) * 2 ^ f.lo)

/-- The three writes of R483 that follow the two keys. -/
def State.rcfWrites (s : State) (r : Req) (op addr : Nat) (data : Word) : State :=
  let s1 := s.busWrite r F.RCF.CMD.OP.addr 8 (fieldWord F.RCF.CMD.OP op) true
  let s2 := s1.busWrite r F.RCF.ADDR.ADDR.addr 8 (fieldWord F.RCF.ADDR.ADDR addr) true
  s2.busWrite r F.RCF.DATA.DATA.addr 8 data true

/-! Control blocks. -/

/-- REF_CTL_SRC_WRITE (R43, R44): a write of TCK.REF_CTL. -/
def execRefCtlSrcWrite (r : Req) (v : Word) (s : State) : Host.Outcome State Fault Refusal :=
  .next (s.busWrite r F.TCK.REF_CTL.SRC.addr 8 v true)

/-- SOFTWARE_RESET (R461): a write of LCS.SW_RESET; the key requests a software reset at rank 3. -/
def execSoftwareReset (r : Req) (v : Word) (s : State) : Host.Outcome State Fault Refusal :=
  .next (s.busWrite r F.LCS.SW_RESET.KEY.addr 8 v true)

/-- SIM_VERIFY (R441): VERIFY written to SIM.CMD. -/
def execSimVerify (r : Req) (s : State) : Host.Outcome State Fault Refusal :=
  .next (s.busWrite r F.SIM.CMD.OP.addr 8 (fieldWord F.SIM.CMD.OP 1) true)

/-- SIM_STAGE (R446): STAGE written to SIM.CMD. -/
def execSimStage (r : Req) (s : State) : Host.Outcome State Fault Refusal :=
  .next (s.busWrite r F.SIM.CMD.OP.addr 8 (fieldWord F.SIM.CMD.OP 2) true)

/-- SIM_COMMIT (R448): COMMIT written to SIM.CMD. -/
def execSimCommit (r : Req) (s : State) : Host.Outcome State Fault Refusal :=
  .next (s.busWrite r F.SIM.CMD.OP.addr 8 (fieldWord F.SIM.CMD.OP 3) true)

/-- SIM_CANCEL (R447): CANCEL written to SIM.CMD. -/
def execSimCancel (r : Req) (s : State) : Host.Outcome State Fault Refusal :=
  .next (s.busWrite r F.SIM.CMD.OP.addr 8 (fieldWord F.SIM.CMD.OP 4) true)

/-- SIM_LOAD (R445): LOAD written to SIM.CMD. -/
def execSimLoad (r : Req) (s : State) : Host.Outcome State Fault Refusal :=
  .next (s.busWrite r F.SIM.CMD.OP.addr 8 (fieldWord F.SIM.CMD.OP 5) true)

/-- SUBMIT (R475, R476): SUBMIT written to LCS.CMD. -/
def execSubmit (r : Req) (s : State) : Host.Outcome State Fault Refusal :=
  .next (s.busWrite r F.LCS.CMD.OP.addr 8 (fieldWord F.LCS.CMD.OP 1) true)

/-- ENTER_MAKER (R476): ENTER_MAKER written to LCS.CMD. -/
def execEnterMaker (r : Req) (fuseOk : Bool) (s : State) : Host.Outcome State Fault Refusal :=
  .next (s.busWrite r F.LCS.CMD.OP.addr 8 (fieldWord F.LCS.CMD.OP 2) fuseOk)

/-- PROVISION (R476): PROVISION written to LCS.CMD. -/
def execProvision (r : Req) (value : Nat) (fuseOk : Bool) (s : State) : Host.Outcome State Fault Refusal :=
  .next (s.busWrite r F.LCS.CMD.OP.addr 8 (fieldWord F.LCS.CMD.OP 3 ||| fieldWord F.LCS.CMD.VALUE value) fuseOk)

/-- FIELD (R476): FIELD written to LCS.CMD. -/
def execField (r : Req) (fuseOk : Bool) (s : State) : Host.Outcome State Fault Refusal :=
  .next (s.busWrite r F.LCS.CMD.OP.addr 8 (fieldWord F.LCS.CMD.OP 4) fuseOk)

/-- ENTER_RTM (R477, R476): ENTER_RTM written to LCS.CMD. -/
def execEnterRtm (r : Req) (fuseOk : Bool) (s : State) : Host.Outcome State Fault Refusal :=
  .next (s.busWrite r F.LCS.CMD.OP.addr 8 (fieldWord F.LCS.CMD.OP 5) fuseOk)

/-- VOID (R476): VOID written to LCS.CMD. -/
def execVoid (r : Req) (fuseOk : Bool) (s : State) : Host.Outcome State Fault Refusal :=
  .next (s.busWrite r F.LCS.CMD.OP.addr 8 (fieldWord F.LCS.CMD.OP 6) fuseOk)

/-- ADD_KEY (R476): ADD_KEY written to LCS.CMD. -/
def execAddKey (r : Req) (index : Nat) (fuseOk : Bool) (s : State) : Host.Outcome State Fault Refusal :=
  .next (s.busWrite r F.LCS.CMD.OP.addr 8 (fieldWord F.LCS.CMD.OP 7 ||| fieldWord F.LCS.CMD.INDEX index) fuseOk)

/-- REVOKE (R476): REVOKE written to LCS.CMD. -/
def execRevoke (r : Req) (index : Nat) (fuseOk : Bool) (s : State) : Host.Outcome State Fault Refusal :=
  .next (s.busWrite r F.LCS.CMD.OP.addr 8 (fieldWord F.LCS.CMD.OP 8 ||| fieldWord F.LCS.CMD.INDEX index) fuseOk)

/-- RAISE_ROLLBACK (R476): RAISE_ROLLBACK written to LCS.CMD. -/
def execRaiseRollback (r : Req) (value : Nat) (fuseOk : Bool) (s : State) : Host.Outcome State Fault Refusal :=
  .next (s.busWrite r F.LCS.CMD.OP.addr 8 (fieldWord F.LCS.CMD.OP 9 ||| fieldWord F.LCS.CMD.VALUE value) fuseOk)

/-- ZEROISE (R479, R476): ZEROISE written to LCS.CMD. -/
def execZeroise (r : Req) (s : State) : Host.Outcome State Fault Refusal :=
  .next (s.busWrite r F.LCS.CMD.OP.addr 8 (fieldWord F.LCS.CMD.OP 10) true)

/-- AWK_GENERATE (R478, R476): AWK_GENERATE written to LCS.CMD. -/
def execAwkGenerate (r : Req) (s : State) : Host.Outcome State Fault Refusal :=
  .next (s.busWrite r F.LCS.CMD.OP.addr 8 (fieldWord F.LCS.CMD.OP 11) true)

/-- AWK_EXPORT (R478, R476): AWK_EXPORT written to LCS.CMD. -/
def execAwkExport (r : Req) (s : State) : Host.Outcome State Fault Refusal :=
  .next (s.busWrite r F.LCS.CMD.OP.addr 8 (fieldWord F.LCS.CMD.OP 12) true)

/-- AWK_IMPORT (R478, R476): AWK_IMPORT written to LCS.CMD. -/
def execAwkImport (r : Req) (s : State) : Host.Outcome State Fault Refusal :=
  .next (s.busWrite r F.LCS.CMD.OP.addr 8 (fieldWord F.LCS.CMD.OP 13) true)

/-- DEVICE_PUB (R476): DEVICE_PUB written to LCS.CMD. -/
def execDevicePub (r : Req) (s : State) : Host.Outcome State Fault Refusal :=
  .next (s.busWrite r F.LCS.CMD.OP.addr 8 (fieldWord F.LCS.CMD.OP 14) true)

/-- CORE_RUN_WRITE (R547): a write of APC.CORE_RUN. -/
def execCoreRunWrite (r : Req) (v : Word) (s : State) : Host.Outcome State Fault Refusal :=
  .next (s.busWrite r F.APC.CORE_RUN.RUN.addr 8 v true)

/-- IRQ_EOI (R555): a write of APC.IRQ_EOI. -/
def execIrqEoi (r : Req) (v : Word) (s : State) : Host.Outcome State Fault Refusal :=
  .next (s.busWrite r F.APC.IRQ_EOI.SOURCE.addr 8 v true)

/-- MCTP_TX (R561): a write of the transmit producer count. -/
def execMctpTx (r : Req) (v : Word) (s : State) : Host.Outcome State Fault Refusal :=
  .next (s.busWrite r F.APC.MCTP_TX_IDX.PROD.addr 8 v true)

/-- PCR_FORCE_WRITE (R429): a write of PCR.CTL. -/
def execPcrForceWrite (r : Req) (v : Word) (s : State) : Host.Outcome State Fault Refusal :=
  .next (s.busWrite r F.PCR.CTL.FORCE.addr 8 v true)

/-- TOD_WRITE (R426): a write of PCR.TOD. -/
def execTodWrite (r : Req) (v : Word) (s : State) : Host.Outcome State Fault Refusal :=
  .next (s.busWrite r F.PCR.TOD.BIN.addr 8 v true)

/-- RC_DATA_WRITE (R427): a write of PCR.RC_DATA. -/
def execRcDataWrite (r : Req) (v : Word) (s : State) : Host.Outcome State Fault Refusal :=
  .next (s.busWrite r F.PCR.RC_DATA.M.addr 8 v true)

/-- QCLR (R536): 1 written to QCLR of a bay, its other fields as they are. -/
def execQclr (r : Req) (bay : Nat) (s : State) : Host.Outcome State Fault Refusal :=
  .next (s.busWrite r (F.BAY.BAY_CTL.QCLR.nth bay).addr
    8 (fieldWord F.BAY.BAY_CTL.QCLR 1 ||| s.reg (F.BAY.BAY_CTL.QCLR.nth bay).addr) true)

/-! Record flash, events and faults. -/

/-- RCF_UNLOCK (R483): a write of RCF.UNLOCK. -/
def execRcfUnlock (r : Req) (v : Word) (s : State) : Host.Outcome State Fault Refusal :=
  .next (s.busWrite r F.RCF.UNLOCK.KEY.addr 8 v true)

/-- RCF_PROGRAM (R484): the writes of RCF.CMD, RCF.ADDR and RCF.DATA that follow the two keys. -/
def execRcfProgram (r : Req) (addr : Nat) (data : Word) (s : State) : Host.Outcome State Fault Refusal :=
  .next (s.rcfWrites r 1 addr data)

/-- RCF_PROGRAM_BURST (R484): the writes of RCF.CMD, RCF.ADDR and RCF.DATA that follow the two keys. -/
def execRcfProgramBurst (r : Req) (addr : Nat) (data : Word) (s : State) : Host.Outcome State Fault Refusal :=
  .next (s.rcfWrites r 2 addr data)

/-- RCF_ERASE (R484, R490): the writes of RCF.CMD, RCF.ADDR and RCF.DATA that follow the two keys. -/
def execRcfErase (r : Req) (addr : Nat) (s : State) : Host.Outcome State Fault Refusal :=
  .next (s.rcfWrites r 3 addr 0)

/-- RCF_SUSPEND (R484, R488): the writes of RCF.CMD, RCF.ADDR and RCF.DATA that follow the two keys. -/
def execRcfSuspend (r : Req) (s : State) : Host.Outcome State Fault Refusal :=
  .next (s.rcfWrites r 4 0 0)

/-- RCF_RESUME (R484, R488): the writes of RCF.CMD, RCF.ADDR and RCF.DATA that follow the two keys. -/
def execRcfResume (r : Req) (s : State) : Host.Outcome State Fault Refusal :=
  .next (s.rcfWrites r 5 0 0)

/-- RCF_ROTATE (R484, R494): the writes of RCF.CMD, RCF.ADDR and RCF.DATA that follow the two keys. -/
def execRcfRotate (r : Req) (addr : Nat) (s : State) : Host.Outcome State Fault Refusal :=
  .next (s.rcfWrites r 6 addr 0)

/-- EVR_RD_SEQ_WRITE (R506): a write of EVR.RD_SEQ. -/
def execEvrRdSeqWrite (r : Req) (v : Word) (s : State) : Host.Outcome State Fault Refusal :=
  .next (s.busWrite r F.EVR.RD_SEQ.SEQ.addr 8 v true)

/-- SW_RECORD (R507): a write of EVR.SW_REC2. -/
def execSwRecord (r : Req) (v : Word) (s : State) : Host.Outcome State Fault Refusal :=
  .next (s.busWrite r F.EVR.SW_REC2.ARG1.addr 8 v true)

/-- EVR_CLEAR (R508): CLEAR written to EVR.CLEAR_CMD. -/
def execEvrClear (r : Req) (s : State) : Host.Outcome State Fault Refusal :=
  .next (s.busWrite r F.EVR.CLEAR_CMD.OP.addr 8 (fieldWord F.EVR.CLEAR_CMD.OP 1) true)

/-- FLT_ACK (R514): a class and the low half of a SEQ written to FLT.ACK. -/
def execFltAck (r : Req) (cls seqLo : Nat) (s : State) : Host.Outcome State Fault Refusal :=
  .next (s.busWrite r F.FLT.ACK.CLASS.addr 8 (fieldWord F.FLT.ACK.CLASS cls ||| fieldWord F.FLT.ACK.SEQ_LO seqLo) true)

/-- WDOG_ENABLE (R519): a write of FLT.WDOG_CTL. -/
def execWdogEnable (r : Req) (v : Word) (s : State) : Host.Outcome State Fault Refusal :=
  .next (s.busWrite r F.FLT.WDOG_CTL.EN.addr 8 v true)

/-- WDOG_KICK (R519): a write of FLT.WDOG_KICK. -/
def execWdogKick (r : Req) (v : Word) (s : State) : Host.Outcome State Fault Refusal :=
  .next (s.busWrite r F.FLT.WDOG_KICK.KEY.addr 8 v true)

/-- FLT_INJECT (R523): a write of FLT.INJECT. -/
def execFltInject (r : Req) (v : Word) (s : State) : Host.Outcome State Fault Refusal :=
  .next (s.busWrite r F.FLT.INJECT.CODE.addr 8 v true)

/-! Engines. -/

/-- CMP_RING_DOORBELL (R102): a write of CMP.RING_PROD. -/
def execCmpRingDoorbell (r : Req) (ring : Nat) (v : Word) (s : State) : Host.Outcome State Fault Refusal :=
  .next (s.busWrite r (F.CMP.RING_PROD.COUNT.nth ring).addr 8 v true)

/-- CMP_RING_ENABLE (R110): a write of CMP.RING_CFG with EN 1. -/
def execCmpRingEnable (r : Req) (ring : Nat) (v : Word) (s : State) : Host.Outcome State Fault Refusal :=
  .next (s.busWrite r (F.CMP.RING_CFG.EN.nth ring).addr 8 (v ||| 1) true)

/-- CMP_RING_DISABLE (R110): a write of CMP.RING_CFG with EN 0. -/
def execCmpRingDisable (r : Req) (ring : Nat) (v : Word) (s : State) : Host.Outcome State Fault Refusal :=
  .next (s.busWrite r (F.CMP.RING_CFG.EN.nth ring).addr 8 (v &&& ~~~1) true)

/-- CIP_RING_DOORBELL (R149): a write of CIP.RING_PROD. -/
def execCipRingDoorbell (r : Req) (ring : Nat) (v : Word) (s : State) : Host.Outcome State Fault Refusal :=
  .next (s.busWrite r (F.CIP.RING_PROD.COUNT.nth ring).addr 8 v true)

/-- DGS_RING_DOORBELL (R149): a write of DGS.RING_PROD. -/
def execDgsRingDoorbell (r : Req) (ring : Nat) (v : Word) (s : State) : Host.Outcome State Fault Refusal :=
  .next (s.busWrite r (F.DGS.RING_PROD.COUNT.nth ring).addr 8 v true)

/-- CTX_OWNER_WRITE (R114): a write of CIP.CTX_OWNER or DGS.CTX_OWNER. -/
def execCtxOwnerWrite (r : Req) (dgs : Bool) (ctx : Nat) (v : Word) (s : State) : Host.Outcome State Fault Refusal :=
  .next (s.busWrite r (if dgs then (F.DGS.CTX_OWNER.EN.nth ctx).addr else (F.CIP.CTX_OWNER.EN.nth ctx).addr) 8 v true)

/-- GENERATE (R121, R122): GENERATE written to CIP.KEY_CMD. -/
def execGenerate (r : Req) (s : State) : Host.Outcome State Fault Refusal :=
  .next (s.busWrite r F.CIP.KEY_CMD.OP.addr 8 (fieldWord F.CIP.KEY_CMD.OP 1) true)

/-- UNWRAP (R121, R122): UNWRAP written to CIP.KEY_CMD. -/
def execUnwrap (r : Req) (s : State) : Host.Outcome State Fault Refusal :=
  .next (s.busWrite r F.CIP.KEY_CMD.OP.addr 8 (fieldWord F.CIP.KEY_CMD.OP 2) true)

/-- LOAD_PLAIN (R121, R122): LOAD_PLAIN written to CIP.KEY_CMD. -/
def execLoadPlain (r : Req) (s : State) : Host.Outcome State Fault Refusal :=
  .next (s.busWrite r F.CIP.KEY_CMD.OP.addr 8 (fieldWord F.CIP.KEY_CMD.OP 3) true)

/-- SET_SUCC (R121, R122): SET_SUCC written to CIP.KEY_CMD. -/
def execSetSucc (r : Req) (s : State) : Host.Outcome State Fault Refusal :=
  .next (s.busWrite r F.CIP.KEY_CMD.OP.addr 8 (fieldWord F.CIP.KEY_CMD.OP 4) true)

/-- ROTATE (R121, R122): ROTATE written to CIP.KEY_CMD. -/
def execRotate (r : Req) (s : State) : Host.Outcome State Fault Refusal :=
  .next (s.busWrite r F.CIP.KEY_CMD.OP.addr 8 (fieldWord F.CIP.KEY_CMD.OP 5) true)

/-- SET_LIMIT (R121, R122): SET_LIMIT written to CIP.KEY_CMD. -/
def execSetLimit (r : Req) (s : State) : Host.Outcome State Fault Refusal :=
  .next (s.busWrite r F.CIP.KEY_CMD.OP.addr 8 (fieldWord F.CIP.KEY_CMD.OP 6) true)

/-- DESTROY (R121, R122): DESTROY written to CIP.KEY_CMD. -/
def execDestroy (r : Req) (s : State) : Host.Outcome State Fault Refusal :=
  .next (s.busWrite r F.CIP.KEY_CMD.OP.addr 8 (fieldWord F.CIP.KEY_CMD.OP 7) true)

/-! Flash, redundancy and Frond ports. -/

/-- SNAP_CREATE (R164): CREATE written to FTL.SNAP_CMD. -/
def execSnapCreate (r : Req) (s : State) : Host.Outcome State Fault Refusal :=
  .next (s.busWrite r F.FTL.SNAP_CMD.OP.addr 8 (fieldWord F.FTL.SNAP_CMD.OP 1) true)

/-- SNAP_DELETE (R164, R167): DELETE written to FTL.SNAP_CMD. -/
def execSnapDelete (r : Req) (s : State) : Host.Outcome State Fault Refusal :=
  .next (s.busWrite r F.FTL.SNAP_CMD.OP.addr 8 (fieldWord F.FTL.SNAP_CMD.OP 2) true)

/-- KEYQ_QUERY (R204): a write of FTL.KEYQ_ID. -/
def execKeyqQuery (r : Req) (v : Word) (s : State) : Host.Outcome State Fault Refusal :=
  .next (s.busWrite r F.FTL.KEYQ_ID.KEY_ID.addr 8 v true)

/-- RESHAPE_START (R236): START written to RDN.RESHAPE_CMD. -/
def execReshapeStart (r : Req) (s : State) : Host.Outcome State Fault Refusal :=
  .next (s.busWrite r F.RDN.RESHAPE_CMD.OP.addr 8 (fieldWord F.RDN.RESHAPE_CMD.OP 1) true)

/-- RESHAPE_ABANDON (R239): ABANDON written to RDN.RESHAPE_CMD. -/
def execReshapeAbandon (r : Req) (s : State) : Host.Outcome State Fault Refusal :=
  .next (s.busWrite r F.RDN.RESHAPE_CMD.OP.addr 8 (fieldWord F.RDN.RESHAPE_CMD.OP 2) true)

/-- EXCL_READMIT (R224): a write of RDN.MOD_STATE; EXCL 0 readmits the module. -/
def execExclReadmit (r : Req) (module : Nat) (v : Word) (s : State) : Host.Outcome State Fault Refusal :=
  .next (s.busWrite r (F.RDN.MOD_STATE.EXCL.nth module).addr 8 v true)

/-- PORT_ENABLE_WRITE (R244): a write of FRN.PORT_CTL. -/
def execPortEnableWrite (r : Req) (port : Nat) (v : Word) (s : State) : Host.Outcome State Fault Refusal :=
  .next (s.busWrite r (F.FRN.PORT_CTL.EN.nth port).addr 8 v true)

/-- FORCE_RETRAIN (R244): a write of FRN.PORT_CTL with FORCE_RETRAIN 1. -/
def execForceRetrain (r : Req) (port : Nat) (v : Word) (s : State) : Host.Outcome State Fault Refusal :=
  .next (s.busWrite r (F.FRN.PORT_CTL.EN.nth port).addr 8 (v ||| fieldWord F.FRN.PORT_CTL.FORCE_RETRAIN 1) true)

/-- EVAC_REQ (R270): a write of FRN.PORT_MGMT with EVAC_REQ 1. -/
def execEvacReq (r : Req) (port : Nat) (v : Word) (s : State) : Host.Outcome State Fault Refusal :=
  .next (s.busWrite r (F.FRN.PORT_MGMT.EVAC_REQ.nth port).addr 8 (v ||| fieldWord F.FRN.PORT_MGMT.EVAC_REQ 1) true)

/-! Command service, connections, virtual controllers and the peer. -/

/-- ACT_START (R304): START written to CMF.ACT_CMD. -/
def execActStart (r : Req) (s : State) : Host.Outcome State Fault Refusal :=
  .next (s.busWrite r F.CMF.ACT_CMD.OP.addr 8 (fieldWord F.CMF.ACT_CMD.OP 1) true)

/-- ACT_RELEASE (R304): RELEASE written to CMF.ACT_CMD. -/
def execActRelease (r : Req) (s : State) : Host.Outcome State Fault Refusal :=
  .next (s.busWrite r F.CMF.ACT_CMD.OP.addr 8 (fieldWord F.CMF.ACT_CMD.OP 2) true)

/-- NS_READ (R276, R277): READ written to CMF.NS_CMD. -/
def execNsRead (r : Req) (s : State) : Host.Outcome State Fault Refusal :=
  .next (s.busWrite r F.CMF.NS_CMD.OP.addr 8 (fieldWord F.CMF.NS_CMD.OP 1) true)

/-- NS_WRITE (R276, R277): WRITE written to CMF.NS_CMD. -/
def execNsWrite (r : Req) (s : State) : Host.Outcome State Fault Refusal :=
  .next (s.busWrite r F.CMF.NS_CMD.OP.addr 8 (fieldWord F.CMF.NS_CMD.OP 2) true)

/-- NS_DELETE (R276, R277): DELETE written to CMF.NS_CMD. -/
def execNsDelete (r : Req) (s : State) : Host.Outcome State Fault Refusal :=
  .next (s.busWrite r F.CMF.NS_CMD.OP.addr 8 (fieldWord F.CMF.NS_CMD.OP 3) true)

/-- ANA_FORCE_WRITE (R310): a write of CMF.ANA. -/
def execAnaForceWrite (r : Req) (vset : Nat) (v : Word) (s : State) : Host.Outcome State Fault Refusal :=
  .next (s.busWrite r (F.CMF.ANA.FORCE.nth vset).addr 8 v true)

/-- CTX_CREATE (R323): CREATE and a connection written to QPC.CMD. -/
def execCtxCreate (r : Req) (conn : Nat) (s : State) : Host.Outcome State Fault Refusal :=
  .next (s.busWrite r F.QPC.CMD.OP.addr 8 (fieldWord F.QPC.CMD.OP 1 ||| fieldWord F.QPC.CMD.CONN conn) true)

/-- CTX_MODIFY (R323): MODIFY and a connection written to QPC.CMD. -/
def execCtxModify (r : Req) (conn : Nat) (s : State) : Host.Outcome State Fault Refusal :=
  .next (s.busWrite r F.QPC.CMD.OP.addr 8 (fieldWord F.QPC.CMD.OP 2 ||| fieldWord F.QPC.CMD.CONN conn) true)

/-- CTX_DESTROY (R323): DESTROY and a connection written to QPC.CMD. -/
def execCtxDestroy (r : Req) (conn : Nat) (s : State) : Host.Outcome State Fault Refusal :=
  .next (s.busWrite r F.QPC.CMD.OP.addr 8 (fieldWord F.QPC.CMD.OP 3 ||| fieldWord F.QPC.CMD.CONN conn) true)

/-- CTX_READ (R323): READ and a connection written to QPC.CMD. -/
def execCtxRead (r : Req) (conn : Nat) (s : State) : Host.Outcome State Fault Refusal :=
  .next (s.busWrite r F.QPC.CMD.OP.addr 8 (fieldWord F.QPC.CMD.OP 4 ||| fieldWord F.QPC.CMD.CONN conn) true)

/-- RAW_TRANSMIT (R321): a write of the producer count of ring 257. -/
def execRawTransmit (r : Req) (v : Word) (s : State) : Host.Outcome State Fault Refusal :=
  .next (s.busWrite r (F.HPT.RING_PROD.COUNT.nth 257).addr 8 v true)

/-- SPRAY_DB (R345): a write of HPT.SPRAY_DB. -/
def execSprayDb (r : Req) (v : Word) (s : State) : Host.Outcome State Fault Refusal :=
  .next (s.busWrite r F.HPT.SPRAY_DB.PROD.addr 8 v true)

/-- TRIG_SET (R327, R350): a tag and a value written to HPT.TRIG_CMD with OP 1. -/
def execTrigSet (r : Req) (tag value : Nat) (s : State) : Host.Outcome State Fault Refusal :=
  .next (s.busWrite r F.HPT.TRIG_CMD.OP.addr
    8 (fieldWord F.HPT.TRIG_CMD.OP 1 ||| fieldWord F.HPT.TRIG_CMD.TAG tag ||| fieldWord F.HPT.TRIG_CMD.VALUE value) true)

/-- TRIG_ADD (R327, R350): a tag and a value written to HPT.TRIG_CMD with OP 2. -/
def execTrigAdd (r : Req) (tag value : Nat) (s : State) : Host.Outcome State Fault Refusal :=
  .next (s.busWrite r F.HPT.TRIG_CMD.OP.addr
    8 (fieldWord F.HPT.TRIG_CMD.OP 2 ||| fieldWord F.HPT.TRIG_CMD.TAG tag ||| fieldWord F.HPT.TRIG_CMD.VALUE value) true)

/-- VC_CREATE (R355, R356): CREATE written to VCT.CMD. -/
def execVcCreate (r : Req) (s : State) : Host.Outcome State Fault Refusal :=
  .next (s.busWrite r F.VCT.CMD.OP.addr 8 (fieldWord F.VCT.CMD.OP 1) true)

/-- VC_UPDATE (R357): UPDATE written to VCT.CMD. -/
def execVcUpdate (r : Req) (s : State) : Host.Outcome State Fault Refusal :=
  .next (s.busWrite r F.VCT.CMD.OP.addr 8 (fieldWord F.VCT.CMD.OP 2) true)

/-- VC_RESET (R355, R300): RESET written to VCT.CMD. -/
def execVcReset (r : Req) (s : State) : Host.Outcome State Fault Refusal :=
  .next (s.busWrite r F.VCT.CMD.OP.addr 8 (fieldWord F.VCT.CMD.OP 3) true)

/-- VC_DESTROY (R358): DESTROY written to VCT.CMD. -/
def execVcDestroy (r : Req) (s : State) : Host.Outcome State Fault Refusal :=
  .next (s.busWrite r F.VCT.CMD.OP.addr 8 (fieldWord F.VCT.CMD.OP 4) true)

/-- VC_MOVE (R364): MOVE written to VCT.CMD. -/
def execVcMove (r : Req) (s : State) : Host.Outcome State Fault Refusal :=
  .next (s.busWrite r F.VCT.CMD.OP.addr 8 (fieldWord F.VCT.CMD.OP 5) true)

/-- HANDBACK_START (R409): START written to RFL.HANDBACK_CMD. -/
def execHandbackStart (r : Req) (s : State) : Host.Outcome State Fault Refusal :=
  .next (s.busWrite r F.RFL.HANDBACK_CMD.OP.addr 8 (fieldWord F.RFL.HANDBACK_CMD.OP 1) true)

end Sys2Proof.Machine
end

