-- ==== Sys2Proof/Machine/Dispatch.lean ====
section
/-!
DEFINITION. Machine/Dispatch.lean: one arm per command, each the call of its meaning.
-/

namespace Sys2Proof.Machine

open Host

/-- The effect of a command on everything but the queue. -/
def exec (i : Instr) (s : State) : Host.Outcome State Fault Refusal :=
  match i with
  | .tickBoundary x => Sys2Proof.Machine.execTickBoundary x s
  | .jobCut cls lane upto => Sys2Proof.Machine.execJobCut cls lane upto s
  | .panelTick pwr svc sensor reading => Sys2Proof.Machine.execPanelTick pwr svc sensor reading s
  | .refValid link => Sys2Proof.Machine.execRefValid link s
  | .refMissing link => Sys2Proof.Machine.execRefMissing link s
  | .lockGained => Sys2Proof.Machine.execLockGained s
  | .holdoverEnd => Sys2Proof.Machine.execHoldoverEnd s
  | .refCtlSrcWrite r v => Sys2Proof.Machine.execRefCtlSrcWrite r v s
  | .coldReset => Sys2Proof.Machine.execColdReset s
  | .warmReset widthNs => Sys2Proof.Machine.execWarmReset widthNs s
  | .softwareReset r v => Sys2Proof.Machine.execSoftwareReset r v s
  | .watchdogReset => Sys2Proof.Machine.execWatchdogReset s
  | .lifeCycleReset => Sys2Proof.Machine.execLifeCycleReset s
  | .supplyFault rails => Sys2Proof.Machine.execSupplyFault rails s
  | .powerFailWarning widthNs => Sys2Proof.Machine.execPowerFailWarning widthNs s
  | .drainComplete => Sys2Proof.Machine.execDrainComplete s
  | .powerFailRestart => Sys2Proof.Machine.execPowerFailRestart s
  | .sclkLoss => Sys2Proof.Machine.execSclkLoss s
  | .hclkLoss => Sys2Proof.Machine.execHclkLoss s
  | .thermtrip sensor => Sys2Proof.Machine.execThermtrip sensor s
  | .bootVerify dimms => Sys2Proof.Machine.execBootVerify dimms s
  | .structureLoad readbackA readbackB => Sys2Proof.Machine.execStructureLoad readbackA readbackB s
  | .selfTestPhaseEnd ok unit => Sys2Proof.Machine.execSelfTestPhaseEnd ok unit s
  | .listenTimeout => Sys2Proof.Machine.execListenTimeout s
  | .recoveryReplay x => Sys2Proof.Machine.execRecoveryReplay x s
  | .recoveryDone => Sys2Proof.Machine.execRecoveryDone s
  | .structureSwapCommit => Sys2Proof.Machine.execStructureSwapCommit s
  | .restructureEnd => Sys2Proof.Machine.execRestructureEnd s
  | .commitAbandon => Sys2Proof.Machine.execCommitAbandon s
  | .rdmaReadDone key ok => Sys2Proof.Machine.execRdmaReadDone key ok s
  | .fingerprintDone chunk busError => Sys2Proof.Machine.execFingerprintDone chunk busError s
  | .sporebankLookup chunk => Sys2Proof.Machine.execSporebankLookup chunk s
  | .chunkCompressDone chunk probe frame => Sys2Proof.Machine.execChunkCompressDone chunk probe frame s
  | .chunkEncryptDone chunk busError => Sys2Proof.Machine.execChunkEncryptDone chunk busError s
  | .mossPlace => Sys2Proof.Machine.execMossPlace s
  | .writeCompletion key => Sys2Proof.Machine.execWriteCompletion key s
  | .copyPlaceAgain chunk copy => Sys2Proof.Machine.execCopyPlaceAgain chunk copy s
  | .merge => Sys2Proof.Machine.execMerge s
  | .sbRegionLoad => Sys2Proof.Machine.execSbRegionLoad s
  | .mapPageFetch nsid page => Sys2Proof.Machine.execMapPageFetch nsid page s
  | .chunkDecryptDone job busError => Sys2Proof.Machine.execChunkDecryptDone job busError s
  | .chunkExpandDone chunk => Sys2Proof.Machine.execChunkExpandDone chunk s
  | .readCompletion key => Sys2Proof.Machine.execReadCompletion key s
  | .cmpRingDoorbell r ring v => Sys2Proof.Machine.execCmpRingDoorbell r ring v s
  | .cmpJobDispatch ring => Sys2Proof.Machine.execCmpJobDispatch ring s
  | .cmpJobEnd job e => Sys2Proof.Machine.execCmpJobEnd job e s
  | .cmpRingEnable r ring v => Sys2Proof.Machine.execCmpRingEnable r ring v s
  | .cmpRingDisable r ring v => Sys2Proof.Machine.execCmpRingDisable r ring v s
  | .laneRoleTaken lane => Sys2Proof.Machine.execLaneRoleTaken lane s
  | .generate r => Sys2Proof.Machine.execGenerate r s
  | .unwrap r => Sys2Proof.Machine.execUnwrap r s
  | .loadPlain r => Sys2Proof.Machine.execLoadPlain r s
  | .setSucc r => Sys2Proof.Machine.execSetSucc r s
  | .rotate r => Sys2Proof.Machine.execRotate r s
  | .setLimit r => Sys2Proof.Machine.execSetLimit r s
  | .destroy r => Sys2Proof.Machine.execDestroy r s
  | .keyReserve slot => Sys2Proof.Machine.execKeyReserve slot s
  | .keyUsageRestore slot => Sys2Proof.Machine.execKeyUsageRestore slot s
  | .rewrap nsid chunk => Sys2Proof.Machine.execRewrap nsid chunk s
  | .ctxOwnerWrite r dgs ctx v => Sys2Proof.Machine.execCtxOwnerWrite r dgs ctx v s
  | .cipRingDoorbell r ring v => Sys2Proof.Machine.execCipRingDoorbell r ring v s
  | .dgsRingDoorbell r ring v => Sys2Proof.Machine.execDgsRingDoorbell r ring v s
  | .cipJobEnd job error => Sys2Proof.Machine.execCipJobEnd job error s
  | .dgsJobEnd job error => Sys2Proof.Machine.execDgsJobEnd job error s
  | .snapCreate r => Sys2Proof.Machine.execSnapCreate r s
  | .snapDelete r => Sys2Proof.Machine.execSnapDelete r s
  | .snapSweep nsid => Sys2Proof.Machine.execSnapSweep nsid s
  | .keyqQuery r v => Sys2Proof.Machine.execKeyqQuery r v s
  | .checkpointStart => Sys2Proof.Machine.execCheckpointStart s
  | .checkpointDone => Sys2Proof.Machine.execCheckpointDone s
  | .fold => Sys2Proof.Machine.execFold s
  | .mossRelease chunk => Sys2Proof.Machine.execMossRelease chunk s
  | .unitErase kind id => Sys2Proof.Machine.execUnitErase kind id s
  | .gcCopy => Sys2Proof.Machine.execGcCopy s
  | .chunkRewrite => Sys2Proof.Machine.execChunkRewrite s
  | .readRetry p => Sys2Proof.Machine.execReadRetry p s
  | .patrolRow => Sys2Proof.Machine.execPatrolRow s
  | .patrolLate => Sys2Proof.Machine.execPatrolLate s
  | .hostReconstruct job piece => Sys2Proof.Machine.execHostReconstruct job piece s
  | .sjPairMove => Sys2Proof.Machine.execSjPairMove s
  | .rebuildRow => Sys2Proof.Machine.execRebuildRow s
  | .rebuildCommit stripe => Sys2Proof.Machine.execRebuildCommit stripe s
  | .lossSweep stripe row slot => Sys2Proof.Machine.execLossSweep stripe row slot s
  | .reshapeStart r => Sys2Proof.Machine.execReshapeStart r s
  | .reshapeAbandon r => Sys2Proof.Machine.execReshapeAbandon r s
  | .reshapeStep => Sys2Proof.Machine.execReshapeStep s
  | .exclReadmit r module v => Sys2Proof.Machine.execExclReadmit r module v s
  | .moduleLoss port => Sys2Proof.Machine.execModuleLoss port s
  | .dieFailure port die => Sys2Proof.Machine.execDieFailure port die s
  | .trainingPatternReceived port => Sys2Proof.Machine.execTrainingPatternReceived port s
  | .equalisationComplete port => Sys2Proof.Machine.execEqualisationComplete port s
  | .trainTimeout port => Sys2Proof.Machine.execTrainTimeout port s
  | .alignComplete port => Sys2Proof.Machine.execAlignComplete port s
  | .alignTimeout port => Sys2Proof.Machine.execAlignTimeout port s
  | .descriptorReceived port frame => Sys2Proof.Machine.execDescriptorReceived port frame s
  | .identTimeout port => Sys2Proof.Machine.execIdentTimeout port s
  | .retrainComplete port => Sys2Proof.Machine.execRetrainComplete port s
  | .retrainTimeout port => Sys2Proof.Machine.execRetrainTimeout port s
  | .downTimeout port => Sys2Proof.Machine.execDownTimeout port s
  | .portEnableWrite r port v => Sys2Proof.Machine.execPortEnableWrite r port v s
  | .forceRetrain r port v => Sys2Proof.Machine.execForceRetrain r port v s
  | .rspReceived port frame => Sys2Proof.Machine.execRspReceived port frame s
  | .rdataReceived port frame => Sys2Proof.Machine.execRdataReceived port frame s
  | .moduleEvent port frame => Sys2Proof.Machine.execModuleEvent port frame s
  | .frondAck port frame => Sys2Proof.Machine.execFrondAck port frame s
  | .credit port frame => Sys2Proof.Machine.execCredit port frame s
  | .replayTimeout port => Sys2Proof.Machine.execReplayTimeout port s
  | .idleTimeout port => Sys2Proof.Machine.execIdleTimeout port s
  | .commandTimeout port tag => Sys2Proof.Machine.execCommandTimeout port tag s
  | .healthPoll => Sys2Proof.Machine.execHealthPoll s
  | .reconStart port => Sys2Proof.Machine.execReconStart port s
  | .reconEnd port => Sys2Proof.Machine.execReconEnd port s
  | .evacReq r port v => Sys2Proof.Machine.execEvacReq r port v s
  | .propertyGet key => Sys2Proof.Machine.execPropertyGet key s
  | .propertySet key => Sys2Proof.Machine.execPropertySet key s
  | .connect key => Sys2Proof.Machine.execConnect key s
  | .disconnect key => Sys2Proof.Machine.execDisconnect key s
  | .getLogPage key => Sys2Proof.Machine.execGetLogPage key s
  | .identify key => Sys2Proof.Machine.execIdentify key s
  | .abort key => Sys2Proof.Machine.execAbort key s
  | .setFeatures key => Sys2Proof.Machine.execSetFeatures key s
  | .getFeatures key => Sys2Proof.Machine.execGetFeatures key s
  | .asyncEventRequest key => Sys2Proof.Machine.execAsyncEventRequest key s
  | .keepAlive key => Sys2Proof.Machine.execKeepAlive key s
  | .keepAliveExpiry vc => Sys2Proof.Machine.execKeepAliveExpiry vc s
  | .controllerResetDone vc => Sys2Proof.Machine.execControllerResetDone vc s
  | .flush key => Sys2Proof.Machine.execFlush key s
  | .write key => Sys2Proof.Machine.execWrite key s
  | .read key => Sys2Proof.Machine.execRead key s
  | .compare key => Sys2Proof.Machine.execCompare key s
  | .writeZeroes key => Sys2Proof.Machine.execWriteZeroes key s
  | .datasetManagement key => Sys2Proof.Machine.execDatasetManagement key s
  | .reservationRegister key => Sys2Proof.Machine.execReservationRegister key s
  | .reservationReport key => Sys2Proof.Machine.execReservationReport key s
  | .reservationAcquire key => Sys2Proof.Machine.execReservationAcquire key s
  | .reservationRelease key => Sys2Proof.Machine.execReservationRelease key s
  | .capacityExceeded conn => Sys2Proof.Machine.execCapacityExceeded conn s
  | .actStart r => Sys2Proof.Machine.execActStart r s
  | .actRelease r => Sys2Proof.Machine.execActRelease r s
  | .actQuiesced => Sys2Proof.Machine.execActQuiesced s
  | .actTimeout => Sys2Proof.Machine.execActTimeout s
  | .nsRead r => Sys2Proof.Machine.execNsRead r s
  | .nsWrite r => Sys2Proof.Machine.execNsWrite r s
  | .nsDelete r => Sys2Proof.Machine.execNsDelete r s
  | .anaForceWrite r vset v => Sys2Proof.Machine.execAnaForceWrite r vset v s
  | .anattExceeded vset => Sys2Proof.Machine.execAnattExceeded vset s
  | .ctxCreate r conn => Sys2Proof.Machine.execCtxCreate r conn s
  | .ctxModify r conn => Sys2Proof.Machine.execCtxModify r conn s
  | .ctxDestroy r conn => Sys2Proof.Machine.execCtxDestroy r conn s
  | .ctxRead r conn => Sys2Proof.Machine.execCtxRead r conn s
  | .contextFetchDone conn => Sys2Proof.Machine.execContextFetchDone conn s
  | .ethPortUp port => Sys2Proof.Machine.execEthPortUp port s
  | .ethPortDown port => Sys2Proof.Machine.execEthPortDown port s
  | .rawFrameReceive port bytes => Sys2Proof.Machine.execRawFrameReceive port bytes s
  | .rawTransmit r v => Sys2Proof.Machine.execRawTransmit r v s
  | .roceSend p => Sys2Proof.Machine.execRoceSend p s
  | .roceRdmaWrite p => Sys2Proof.Machine.execRoceRdmaWrite p s
  | .roceRdmaReadRequest p => Sys2Proof.Machine.execRoceRdmaReadRequest p s
  | .roceReadResponse p => Sys2Proof.Machine.execRoceReadResponse p s
  | .roceAck conn psn => Sys2Proof.Machine.execRoceAck conn psn s
  | .roceNak conn psn cause => Sys2Proof.Machine.execRoceNak conn psn cause s
  | .roceCnp conn => Sys2Proof.Machine.execRoceCnp conn s
  | .roceRetransmitTimeout conn => Sys2Proof.Machine.execRoceRetransmitTimeout conn s
  | .roceRateIncrease conn => Sys2Proof.Machine.execRoceRateIncrease conn s
  | .sprayPut p => Sys2Proof.Machine.execSprayPut p s
  | .sprayGet p => Sys2Proof.Machine.execSprayGet p s
  | .sprayAck p => Sys2Proof.Machine.execSprayAck p s
  | .sprayNak p => Sys2Proof.Machine.execSprayNak p s
  | .sprayMessageComplete conn msn => Sys2Proof.Machine.execSprayMessageComplete conn msn s
  | .sprayLossTimeout conn psn => Sys2Proof.Machine.execSprayLossTimeout conn psn s
  | .pathReenable conn path => Sys2Proof.Machine.execPathReenable conn path s
  | .sprayDb r v => Sys2Proof.Machine.execSprayDb r v s
  | .workRequestStart conn => Sys2Proof.Machine.execWorkRequestStart conn s
  | .workRequestComplete conn n => Sys2Proof.Machine.execWorkRequestComplete conn n s
  | .trigSet r tag value => Sys2Proof.Machine.execTrigSet r tag value s
  | .trigAdd r tag value => Sys2Proof.Machine.execTrigAdd r tag value s
  | .vcCreate r => Sys2Proof.Machine.execVcCreate r s
  | .vcUpdate r => Sys2Proof.Machine.execVcUpdate r s
  | .vcReset r => Sys2Proof.Machine.execVcReset r s
  | .vcDestroy r => Sys2Proof.Machine.execVcDestroy r s
  | .vcMove r => Sys2Proof.Machine.execVcMove r s
  | .vcFreed vc => Sys2Proof.Machine.execVcFreed vc s
  | .vcSeal vc => Sys2Proof.Machine.execVcSeal vc s
  | .freezeTimeout => Sys2Proof.Machine.execFreezeTimeout s
  | .vcRecordReceived target qbase bytes => Sys2Proof.Machine.execVcRecordReceived target qbase bytes s
  | .markReceived m => Sys2Proof.Machine.execMarkReceived m s
  | .peerLoss => Sys2Proof.Machine.execPeerLoss s
  | .peerUp => Sys2Proof.Machine.execPeerUp s
  | .deltaApply good bytes => Sys2Proof.Machine.execDeltaApply good bytes s
  | .deltaKeepExpiry tick => Sys2Proof.Machine.execDeltaKeepExpiry tick s
  | .forwardedCommand f => Sys2Proof.Machine.execForwardedCommand f s
  | .fwdRspReceived tag payload data => Sys2Proof.Machine.execFwdRspReceived tag payload data s
  | .joinBulkApply b => Sys2Proof.Machine.execJoinBulkApply b s
  | .returnReqSend => Sys2Proof.Machine.execReturnReqSend s
  | .witnessSlot link w => Sys2Proof.Machine.execWitnessSlot link w s
  | .epochLoss module => Sys2Proof.Machine.execEpochLoss module s
  | .umbraLinkValid link => Sys2Proof.Machine.execUmbraLinkValid link s
  | .umbraLinkMissing link => Sys2Proof.Machine.execUmbraLinkMissing link s
  | .leaseExpired => Sys2Proof.Machine.execLeaseExpired s
  | .adoptFencesDone => Sys2Proof.Machine.execAdoptFencesDone s
  | .adoptJournalRead side x => Sys2Proof.Machine.execAdoptJournalRead side x s
  | .stripeCheck side stripe pages => Sys2Proof.Machine.execStripeCheck side stripe pages s
  | .handbackStart r => Sys2Proof.Machine.execHandbackStart r s
  | .drainEnd => Sys2Proof.Machine.execDrainEnd s
  | .handbackSeal => Sys2Proof.Machine.execHandbackSeal s
  | .handbackDone => Sys2Proof.Machine.execHandbackDone s
  | .binEnd => Sys2Proof.Machine.execBinEnd s
  | .pacerFallback => Sys2Proof.Machine.execPacerFallback s
  | .pacerClosed => Sys2Proof.Machine.execPacerClosed s
  | .pcrForceWrite r v => Sys2Proof.Machine.execPcrForceWrite r v s
  | .todWrite r v => Sys2Proof.Machine.execTodWrite r v s
  | .rcDataWrite r v => Sys2Proof.Machine.execRcDataWrite r v s
  | .simVerify r => Sys2Proof.Machine.execSimVerify r s
  | .simStage r => Sys2Proof.Machine.execSimStage r s
  | .stagingDone flashOk => Sys2Proof.Machine.execStagingDone flashOk s
  | .simCommit r => Sys2Proof.Machine.execSimCommit r s
  | .simCancel r => Sys2Proof.Machine.execSimCancel r s
  | .simLoad r => Sys2Proof.Machine.execSimLoad r s
  | .submit r => Sys2Proof.Machine.execSubmit r s
  | .enterMaker r fuseOk => Sys2Proof.Machine.execEnterMaker r fuseOk s
  | .provision r value fuseOk => Sys2Proof.Machine.execProvision r value fuseOk s
  | .field r fuseOk => Sys2Proof.Machine.execField r fuseOk s
  | .enterRtm r fuseOk => Sys2Proof.Machine.execEnterRtm r fuseOk s
  | .void r fuseOk => Sys2Proof.Machine.execVoid r fuseOk s
  | .addKey r index fuseOk => Sys2Proof.Machine.execAddKey r index fuseOk s
  | .revoke r index fuseOk => Sys2Proof.Machine.execRevoke r index fuseOk s
  | .raiseRollback r value fuseOk => Sys2Proof.Machine.execRaiseRollback r value fuseOk s
  | .zeroise r => Sys2Proof.Machine.execZeroise r s
  | .awkGenerate r => Sys2Proof.Machine.execAwkGenerate r s
  | .awkExport r => Sys2Proof.Machine.execAwkExport r s
  | .awkImport r => Sys2Proof.Machine.execAwkImport r s
  | .devicePub r => Sys2Proof.Machine.execDevicePub r s
  | .rcfUnlock r v => Sys2Proof.Machine.execRcfUnlock r v s
  | .rcfProgram r addr data => Sys2Proof.Machine.execRcfProgram r addr data s
  | .rcfProgramBurst r addr data => Sys2Proof.Machine.execRcfProgramBurst r addr data s
  | .rcfErase r addr => Sys2Proof.Machine.execRcfErase r addr s
  | .rcfSuspend r => Sys2Proof.Machine.execRcfSuspend r s
  | .rcfResume r => Sys2Proof.Machine.execRcfResume r s
  | .rcfRotate r addr => Sys2Proof.Machine.execRcfRotate r addr s
  | .rcfOperationEnd pulses ok => Sys2Proof.Machine.execRcfOperationEnd pulses ok s
  | .autoSuspend => Sys2Proof.Machine.execAutoSuspend s
  | .suspendLimitExpiry => Sys2Proof.Machine.execSuspendLimitExpiry s
  | .recordFlashScan => Sys2Proof.Machine.execRecordFlashScan s
  | .spareErase sector => Sys2Proof.Machine.execSpareErase sector s
  | .wearMove => Sys2Proof.Machine.execWearMove s
  | .evrFlush ok => Sys2Proof.Machine.execEvrFlush ok s
  | .timeRecord => Sys2Proof.Machine.execTimeRecord s
  | .evrRdSeqWrite r v => Sys2Proof.Machine.execEvrRdSeqWrite r v s
  | .swRecord r v => Sys2Proof.Machine.execSwRecord r v s
  | .evrClear r => Sys2Proof.Machine.execEvrClear r s
  | .clearRotationDone => Sys2Proof.Machine.execClearRotationDone s
  | .faultReport code source unit arg => Sys2Proof.Machine.execFaultReport code source unit arg s
  | .fltAck r cls seqLo => Sys2Proof.Machine.execFltAck r cls seqLo s
  | .ackTimeout cls => Sys2Proof.Machine.execAckTimeout cls s
  | .wdogEnable r v => Sys2Proof.Machine.execWdogEnable r v s
  | .wdogKick r v => Sys2Proof.Machine.execWdogKick r v s
  | .wdogStage1 => Sys2Proof.Machine.execWdogStage1 s
  | .laneStall source lane => Sys2Proof.Machine.execLaneStall source lane s
  | .boundaryWatchdog => Sys2Proof.Machine.execBoundaryWatchdog s
  | .fltInject r v => Sys2Proof.Machine.execFltInject r v s
  | .chainRefresh slots => Sys2Proof.Machine.execChainRefresh slots s
  | .chatterClear input => Sys2Proof.Machine.execChatterClear input s
  | .presenceChange bay => Sys2Proof.Machine.execPresenceChange bay s
  | .latchOpen bay => Sys2Proof.Machine.execLatchOpen bay s
  | .latchClose bay => Sys2Proof.Machine.execLatchClose bay s
  | .attentionPress bay => Sys2Proof.Machine.execAttentionPress bay s
  | .powerButtonRelease => Sys2Proof.Machine.execPowerButtonRelease s
  | .powerButtonLong => Sys2Proof.Machine.execPowerButtonLong s
  | .serviceButtonPress => Sys2Proof.Machine.execServiceButtonPress s
  | .buttonStuck input => Sys2Proof.Machine.execButtonStuck input s
  | .qclr r bay => Sys2Proof.Machine.execQclr r bay s
  | .leverOpen => Sys2Proof.Machine.execLeverOpen s
  | .leverClose => Sys2Proof.Machine.execLeverClose s
  | .coreRunWrite r v => Sys2Proof.Machine.execCoreRunWrite r v s
  | .irqEoi r v => Sys2Proof.Machine.execIrqEoi r v s
  | .machineTimer core => Sys2Proof.Machine.execMachineTimer core s
  | .pcieLinkUp gen width => Sys2Proof.Machine.execPcieLinkUp gen width s
  | .pcieLinkDown => Sys2Proof.Machine.execPcieLinkDown s
  | .pcieInboundRequest q => Sys2Proof.Machine.execPcieInboundRequest q s
  | .mctpControlMessage m => Sys2Proof.Machine.execMctpControlMessage m s
  | .managementMessage m => Sys2Proof.Machine.execManagementMessage m s
  | .mctpTx r v => Sys2Proof.Machine.execMctpTx r v s
  | .memFillDone => Sys2Proof.Machine.execMemFillDone s
  | .scrubPass => Sys2Proof.Machine.execScrubPass s
  | .wideValueRead r addr size => Sys2Proof.Machine.execWideValueRead r addr size s
  | .registerWrite r addr size v => Sys2Proof.Machine.execRegisterWrite r addr size v s
  | .porstRelease hslot => Sys2Proof.Machine.execPorstRelease hslot s
  | .unheldSideClaim side => Sys2Proof.Machine.execUnheldSideClaim side s
  | .busyHoldOffEnd conn psn => Sys2Proof.Machine.execBusyHoldOffEnd conn psn s
  | .umbraMidwaySlot => Sys2Proof.Machine.execUmbraMidwaySlot s
  | .dynamicAddressAssignment addr fromStatic => Sys2Proof.Machine.execDynamicAddressAssignment addr fromStatic s

end Sys2Proof.Machine
end

