-- ==== Sys2Proof/Machine/Step.lean ====
section
/-!
DEFINITION. Machine/Step.lean: one step of the block: the command at the front of the queue is taken and carried out.
-/

namespace Sys2Proof.Machine

/-- A step. The oldest waiting command leaves the queue and exec gives its effect on the rest of the state. With no command
waiting the block idles (DESIGN CHOICE, assumption 1): a tick passes only when TICK_BOUNDARY is commanded. -/
def step (s : State) : Host.Outcome State Fault Refusal :=
  match s.pending with
  | [] => .next s
  | c :: rest => exec c { s with pending := rest }

/-- The command that a word of the table spells, put at the front of the queue; no word spells one. -/
def State.withFetchWord (s : State) (nbits w : Nat) : State :=
  match decodeTableWord nbits w with
  | some c => { s with pending := c :: s.pending }
  | none => s

end Sys2Proof.Machine
end

