-- ==== Sys2Proof/Safety.lean ====
section
/-!
DEFINITION. Safety.lean: what the statements about commands say of a run: that a command completes, what it leaves
unchanged, and what it signals. The block stops on nothing (Machine/State.lean), so a run is safe when each command
answers a next state with the effect its rule gives it and no other.
-/

namespace Sys2Proof

open Machine

/-- The command answers a next state, of which P holds. -/
def Runs (c : Instr) (s : State) (P : State → Prop) : Prop := ∃ t, exec c s = .next t ∧ P t

/-- Every register reads as before but those at the addresses listed. -/
def SameRegs (but : List Nat) (s t : State) : Prop := ∀ a, a ∉ but → t.reg a = s.reg a

/-- Every register of every block but those listed reads as before. -/
def SameBlocks (but : List Nat) (s t : State) : Prop := ∀ a b, blockOf a = some b → b ∉ but → t.reg a = s.reg a

/-- Every byte of memory reads as before. -/
def SameMemory (s t : State) : Prop := ∀ a, t.byte a = s.byte a

/-- EVR.STAT 1 to 3, which count the records merged, dropped and not placed when a record is made (R501, R504). -/
def recordRegs : List Nat :=
  [(F.EVR.STAT.COUNT.nth 1).addr, (F.EVR.STAT.COUNT.nth 2).addr, (F.EVR.STAT.COUNT.nth 3).addr]

/-- The registers that an EVENT bit of a block and its record may change. -/
def eventRegs (src : Nat) : List Nat := eventAddr src :: recordRegs

/-- EVR has room for one record more (R501, R504). -/
def HasRoom (s : State) : Prop := s.evr.full = false ∧ s.evr.queue.length < 255

/-- A record of the event waits in EVR, made in the tick of s (R499, R501). -/
def HasRecord (s t : State) (source code object : Nat) : Prop :=
  ∃ r ∈ t.evr.queue, r.source = source ∧ r.code = code ∧ r.object = object % 2 ^ 24 ∧ r.tick = s.tck.tick

/-- The block sets one bit of its EVENT register and no other, and, where EVR has room, its record waits (R15, R500). -/
def Signals (s t : State) (src bit unit : Nat) : Prop :=
  t.reg (eventAddr src) = s.reg (eventAddr src) ||| BitVec.ofNat 64 (2 ^ bit) ∧
    (HasRoom s → HasRecord s t src bit unit)

/-- A bit of the block's EVENT register is set. -/
def Raises (t : State) (src bit : Nat) : Prop := (t.reg (eventAddr src)).getLsbD bit = true

/-- Fields of one register were written and its other bits stay. -/
def OnlyBits (hi lo : Nat) (v w : Word) : Prop := ∀ i, i < lo ∨ hi < i → w.getLsbD i = v.getLsbD i

/-- A write that a command is: with its BUSY 0 and an access that reaches the register, the command completes: it waits for
its boundary as `start` puts it, BUSY reads 1, and no other field, register or part of the state changes. -/
def StartsCommand (reaches : Req → Prop) (busy : Fld) (c : Req → Instr) (start : Req → State → State) : Prop :=
  ∀ (s : State) (r : Req), reaches r → s.flag busy = false → Runs (c r) s fun t =>
    t = { start r s with regs := t.regs } ∧ t.flag busy = true ∧ SameRegs [busy.addr] s t ∧
    OnlyBits busy.hi busy.lo (s.reg busy.addr) (t.reg busy.addr)

/-- The same write while BUSY is 1 is discarded and recorded as an access error of kind STATE (R566, R568). -/
def DiscardedWhileBusy (reaches : Req → Prop) (busy : Fld) (c : Req → Instr) : Prop :=
  ∀ (s : State) (r : Req), reaches r → s.flag busy = true → Runs (c r) s fun t =>
    t = { s with regs := t.regs, evr := t.evr } ∧ t.evr.queue = s.evr.queue ∧ t.flag busy = true ∧
    (t.reg (blockBase ((blockOf busy.addr).getD 0) + 8)).getLsbD 4 = true ∧
    SameRegs [blockBase ((blockOf busy.addr).getD 0) + 8, blockBase ((blockOf busy.addr).getD 0) + 16] s t

/-- A core, not LC_ACCESS. -/
def FromCore (r : Req) : Prop := r.test = false

/-- A core or LC_ACCESS. -/
def FromAnyone (_ : Req) : Prop := True

/-! Commands of hosts. -/

/-- Every command but one is as before. -/
def OtherCmds (key : Nat) (s t : State) : Prop := ∀ m, m ≠ key → t.cmd m = s.cmd m

/-- Every virtual controller but one is as before. -/
def OtherVcs (v : Nat) (s t : State) : Prop := ∀ m, m ≠ v → t.vc m = s.vc m

/-- The work of a command has ended with a status and Dword 0, and nothing else has changed (R294, R295). -/
def Ends (key : Nat) (c : Cmd) (status dw0 : Nat) (s t : State) : Prop :=
  t.cmd key = some { c with stage := .finished, status := status, dw0 := dw0 } ∧ OtherCmds key s t ∧
    t = { s with cmf := { s.cmf with cmds := t.cmf.cmds } }

/-- An admin command that its row acts on: admitted on the admin queue of a controller that a host is associated with, its
opcode as given, not fused, its data pointer passing the checks (R279, R282, R285, R286). -/
def AdminReady (s : State) (key opcode : Nat) (c : Cmd) (v : Vc) (a : Assoc) : Prop :=
  s.cmd key = some c ∧ c.stage = .admitted ∧ c.qid = 0 ∧ c.opcode = opcode ∧ s.vc c.vc = some v ∧ v.assoc = some a ∧
    c.field 1 1 % 4 = 0 ∧ s.adminPointer c = none

/-- A Fabrics command that its row acts on. -/
def FabricsReady (s : State) (key fctype : Nat) (c : Cmd) : Prop :=
  s.cmd key = some c ∧ c.opcode = 0x7F ∧ c.fctype = fctype ∧ c.stage = .admitted

/-- An I/O command that its row acts on for the first time, in its turn among reservation commands (R307). -/
def IoReady (s : State) (key opcode : Nat) (c : Cmd) : Prop :=
  s.cmd key = some c ∧ c.stage = .admitted ∧ c.io = true ∧ c.opcode = opcode ∧ s.outOfTurn key c = false

/-- An I/O command of a namespace of its own map whose data is present. -/
def IoHeld (s : State) (key opcode : Nat) (c : Cmd) (n : Ns) : Prop :=
  s.cmd key = some c ∧ c.stage = .held ∧ c.io = true ∧ c.opcode = opcode ∧ c.ns = some n ∧ n.src = 0

/-- The command came on a RoCEv2 connection that is ready, and the head may send what it returns. -/
def RoceReply (s : State) (c : Cmd) (k : Conn) : Prop :=
  c.fromPeer = none ∧ s.stampsHold c = true ∧ s.ready c.conn = some k ∧ k.isRoce = true ∧ s.lcs.mode.serving = true

/-- The bytes are written to the host by RDMA (R285), and the command's work has ended with success. -/
def Returns (key : Nat) (c : Cmd) (k : Conn) (b : List Byte) (s t : State) : Prop :=
  t.cmd key = some { c with stage := .finished, status := 0, dw0 := 0 } ∧ OtherCmds key s t ∧
    t.out = s.out ++ [.roce c.conn 2 k.npsn (packetsOf k.seg b.length) (rethBytes c.sglAddr c.sglKey b.length ++ b)] ∧
    t = { s with cmf := { s.cmf with cmds := t.cmf.cmds }, qpc := { s.qpc with conns := t.qpc.conns }, out := t.out }

end Sys2Proof
end

