-- ==== Sys2Proof/Certificates/Slice0/Obligations.lean ====
section
/-!
DEFINITION. Certificates/Slice0/Obligations.lean: the statements about the block, for the provers. Each names the rules of
spec/ it formalises in OBLIGATIONS.json; its docstring says where it rests on a choice of the model.
-/

open Sys2Proof Sys2Proof.Machine

/-- A step is exec of the front command on the state with the rest of the queue, and every command completes in every state; with
an empty queue the block idles, which is the model's choice (assumption 1). -/
def Obligations.StepTakesFrontCommand : Prop :=
  (∀ (c : Instr) (rest : List Instr) (s : State),
    step { s with pending := c :: rest } = exec c { s with pending := rest }) ∧
  (∀ (c : Instr) (s : State), ∃ t, exec c s = .next t) ∧ (∀ s : State, s.pending = [] → step s = .next s)

/-- The canonical form of memory is kept by every step from every state that has it. -/
def Obligations.StepKeepsMemoryCanonical : Prop :=
  ∀ s t : State, Memory.wf s.mem → step s = .next t → Memory.wf t.mem

/-- The reset state; that a byte of memory reads 0 in it is the model's choice (assumption 2). -/
def Obligations.ResetState : Prop :=
  Memory.wf State.reset.mem ∧ (∀ a, State.reset.byte a = 0) ∧ (∀ a, State.reset.reg a = regReset a) ∧
    State.reset.pending = [] ∧ State.reset.lcs.mode = .reset ∧ State.reset.tck.ticking = false ∧
    State.reset.tck.tick = 0 ∧ State.reset.tck.align = .free ∧ State.reset.wit.own = 0 ∧ State.reset.evr.nextSeq = 1 ∧
    State.reset.rcf.flash = [] ∧ State.reset.cip.data = [] ∧ State.reset.vct.vcs = []

/-- What one EVENT bit does, for every block of the register map. -/
def Obligations.EventBitMakesItsRecord : Prop :=
  ∀ (s : State) (src bit unit a0 a1 : Nat), src < 23 → bit < 64 →
    let t := s.event src bit unit a0 a1
    Signals s t src bit unit ∧ SameRegs (eventRegs src) s t ∧ SameMemory s t ∧ t = { s with evr := t.evr, regs := t.regs }

/-- Making a record (R501, R504), case by case. -/
def Obligations.RecorderNumbersMergesAndDrops : Prop :=
  (∀ (s : State) (r : EvRec), (∀ q ∈ s.evr.queue, r.sameEvent q = false) → s.evr.full = false → s.evr.queue.length < 255 →
    (s.makeRecord r).evr.queue = s.evr.queue ++ [{ r with
      seq := s.evr.nextSeq, opTime := s.evr.opTime, powerCycles := s.evr.powerCycles, repeats := 0 }] ∧
    (s.makeRecord r).evr.nextSeq = s.evr.nextSeq + 1 ∧ (s.makeRecord r).regs = s.regs) ∧
  (∀ (s : State) (r : EvRec), (∀ q ∈ s.evr.queue, r.sameEvent q = false) → s.evr.full = false → 255 ≤ s.evr.queue.length →
    (s.makeRecord r).evr.queue = s.evr.queue ∧ (s.makeRecord r).evr.nextSeq = s.evr.nextSeq + 1 ∧
    (∃ first, (s.makeRecord r).evr.dropped = some (first, s.evr.nextSeq)) ∧
    (s.makeRecord r).fld (F.EVR.STAT.COUNT.nth 2) = (s.fld (F.EVR.STAT.COUNT.nth 2) + 1) % 2 ^ 64) ∧
  (∀ (s : State) (r : EvRec), (∀ q ∈ s.evr.queue, r.sameEvent q = false) → s.evr.full = true →
    (s.makeRecord r).evr.queue = s.evr.queue ∧ (s.makeRecord r).evr.nextSeq = s.evr.nextSeq + 1 ∧
    (s.makeRecord r).fld (F.EVR.STAT.COUNT.nth 3) = (s.fld (F.EVR.STAT.COUNT.nth 3) + 1) % 2 ^ 64) ∧
  (∀ (s : State) (r q : EvRec) (before after : List EvRec), s.evr.queue = before ++ q :: after →
    (∀ x ∈ before, r.sameEvent x = false) → r.sameEvent q = true →
    (s.makeRecord r).evr.queue = before ++ { q with repeats := min (q.repeats + 1) 255 } :: after ∧
    (s.makeRecord r).evr.nextSeq = s.evr.nextSeq ∧
    (s.makeRecord r).fld (F.EVR.STAT.COUNT.nth 1) = (s.fld (F.EVR.STAT.COUNT.nth 1) + 1) % 2 ^ 64) ∧
  (∀ (s : State) (r : EvRec), let t := s.makeRecord r
    SameRegs recordRegs s t ∧ t = { s with evr := t.evr, regs := t.regs })

/-- PORST_RELEASE and TICK_BOUNDARY: when ticks run and what TICK_COUNT shows. -/
def Obligations.TicksRunFromPorstRelease : Prop :=
  (∀ (s : State) (hslot : Nat), s.tck.ticking = false → exec (.porstRelease hslot) s = .next { s with
    tck := { s.tck with ticking := true, headSlot := hslot % 2 }, ftl := { s.ftl with side := hslot % 2 } }) ∧
  (∀ (s : State) (hslot : Nat), s.tck.ticking = true → exec (.porstRelease hslot) s = .next s) ∧
  (∀ (s : State) (x : BoundarySample), s.tck.ticking = true →
    Runs (.tickBoundary x) s fun t => t.tck.tick = s.tck.tick + 1) ∧
  (∀ (s : State) (x : BoundarySample), s.tck.ticking = false → exec (.tickBoundary x) s = .next s)

/-- The alignment part of a boundary (R42, R43, R45, R46); that a step is followed by slewing rests on assumption 51. -/
def Obligations.BoundaryAlignment : Prop :=
  (∀ s : State, s.beginTick = { s with
    tck := { s.tck with tick := s.tck.tick + 1, working := false }, cmf := { s.cmf with taken := 0 }, out := [] }) ∧
  (∀ (s : State) (x : BoundarySample), s.tck.align = .locked → 200 < x.phaseErr.natAbs →
    s.tck.refValid s.tck.refLink = true →
    let t := s.alignBoundary x
    t.tck.align = .acquire ∧ t.tck.goodRun = 0 ∧ Signals s t Src.TCK 1 0 ∧ SameRegs (eventRegs Src.TCK) s t) ∧
  (∀ (s : State) (x : BoundarySample), s.tck.align = .locked → x.phaseErr.natAbs ≤ 200 →
    (s.alignBoundary x).tck.align = .locked ∧ (s.alignBoundary x).evr = s.evr) ∧
  (∀ (s : State) (x : BoundarySample), s.tck.align = .acquire → x.phaseErr.natAbs ≤ 200 →
    (s.alignBoundary x).tck.goodRun = s.tck.goodRun + 1) ∧
  (∀ (s : State) (x : BoundarySample), s.tck.align = .acquire → 200 < x.phaseErr.natAbs →
    (s.alignBoundary x).tck.goodRun = 0 ∧ (s.alignBoundary x).tck.align = .acquire) ∧
  (∀ (s : State) (x : BoundarySample), s.tck.align = .holdover →
    (s.alignBoundary x).tck.align = .holdover ∧ (s.alignBoundary x).tck.goodRun = 0 ∧
    (s.alignRole ≠ 2 → (s.alignBoundary x).tck.trim = s.tck.trim ∧ (s.alignBoundary x).tck.step = 0)) ∧
  (∀ (s : State) (x : BoundarySample), (s.tck.align = .holdover ∨ s.tck.align = .free) → s.alignRole = 2 → 100 < s.tck.peerOffset.natAbs →
    s.lcs.mode.stepsPhase = false →
    (s.alignBoundary x).tck.trim = s.clampTrim x.trim ∧ (s.alignBoundary x).tck.step = 0) ∧
  (∀ (s : State) (x : BoundarySample), s.tck.align = .acquire → s.lcs.mode.stepsPhase = true →
    (s.tck.stepped = false → (s.alignBoundary x).tck.step = -x.phaseErr ∧ (s.alignBoundary x).tck.stepped = true) ∧
    (s.tck.stepped = true → (s.alignBoundary x).tck.step = 0 ∧ (s.alignBoundary x).tck.trim = s.clampTrim x.trim)) ∧
  (∀ (s : State) (x : Int), 0 ≤ s.maxTrim → -s.maxTrim ≤ s.clampTrim x ∧ s.clampTrim x ≤ s.maxTrim) ∧
  (∀ (s : State) (m : Mark), s.rfl.mark = some m → m.tickLen ≠ s.fld F.TCK.CONFIG.TICK_LEN → s.alignRole = 0)

/-- The alignment commands, each completing with the transition of R43. -/
def Obligations.AlignmentTransitions : Prop :=
  (∀ (s : State) (link : Nat), link < 2 → Runs (.refValid link) s fun t =>
    t.tck.refValid link = true ∧ t.tck.refValid (1 - link) = s.tck.refValid (1 - link) ∧ t = { s with tck := t.tck } ∧
    (s.tck.align = .free → s.selectable link = true → s.tck.refLink = link → t.tck.align = .acquire ∧ t.tck.goodRun = 0) ∧
    (s.tck.align = .holdover → s.selectable link = true →
      t.tck.align = .acquire ∧ t.tck.refLink = link ∧ t.tck.goodRun = 0) ∧
    (s.tck.align = .locked ∨ s.tck.align = .acquire → t.tck.align = s.tck.align ∧ t.tck.refLink = s.tck.refLink)) ∧
  (∀ (s : State) (link : Nat), link < 2 → Runs (.refMissing link) s fun t =>
    t.tck.refValid link = false ∧ SameRegs (eventRegs Src.TCK) s t ∧
    t = { s with tck := t.tck, regs := t.regs, evr := t.evr } ∧
    (s.tck.refLink ≠ link → t.tck.align = s.tck.align ∧ t.regs = s.regs ∧ t.evr = s.evr) ∧
    (s.tck.refLink = link → s.fld F.TCK.REF_CTL.SRC = 2 → s.tck.refValid (1 - link) = true →
      s.tck.align = .locked ∨ s.tck.align = .acquire →
      t.tck.align = .acquire ∧ t.tck.refLink = 1 - link ∧ t.tck.goodRun = 0 ∧ Signals s t Src.TCK 3 (1 - link)) ∧
    (s.tck.refLink = link → (s.fld F.TCK.REF_CTL.SRC ≠ 2 ∨ s.tck.refValid (1 - link) = false) → s.tck.align = .locked →
      t.tck.align = .holdover ∧ t.tck.holdSince = s.tck.tick ∧ Signals s t Src.TCK 2 link) ∧
    (s.tck.refLink = link → (s.fld F.TCK.REF_CTL.SRC ≠ 2 ∨ s.tck.refValid (1 - link) = false) → s.tck.align = .acquire →
      t.tck.align = .free ∧ Signals s t Src.TCK 2 link)) ∧
  (∀ s : State, s.tck.align = .acquire → 16 ≤ s.tck.goodRun → Runs .lockGained s fun t =>
    t.tck = { s.tck with align := .locked } ∧ Signals s t Src.TCK 0 0 ∧ SameRegs (eventRegs Src.TCK) s t ∧
    t = { s with tck := t.tck, regs := t.regs, evr := t.evr }) ∧
  (∀ s : State, s.tck.align = .holdover → s.tck.holdSince + s.ticksIn 500000 ≤ s.tck.tick → Runs .holdoverEnd s fun t =>
    t.tck = { s.tck with align := .free, goodRun := 0 } ∧ Signals s t Src.TCK 4 0 ∧ SameRegs (eventRegs Src.TCK) s t ∧
    t = { s with tck := t.tck, regs := t.regs, evr := t.evr })

/-- REF_CTL_SRC_WRITE, JOB_CUT and PANEL_TICK. The link that SRC = auto takes is the model's choice (assumption 52), and so are the
units of a cut that need more than one tick's budget (assumption 51). -/
def Obligations.SourceWriteCutAndPanelTick : Prop :=
  (∀ (s : State) (r : Req), r.test = false → Runs (.refCtlSrcWrite r (fieldWord F.TCK.REF_CTL.SRC 3)) s fun t =>
    t.fld F.TCK.REF_CTL.SRC = 3 ∧ t.tck = { s.tck with align := .free, trim := 0, goodRun := 0 } ∧
    SameRegs [F.TCK.REF_CTL.SRC.addr] s t ∧ t = { s with tck := t.tck, regs := t.regs }) ∧
  (∀ (s : State) (r : Req) (src : Nat), r.test = false → src < 3 →
    Runs (.refCtlSrcWrite r (fieldWord F.TCK.REF_CTL.SRC src)) s fun t =>
    t.fld F.TCK.REF_CTL.SRC = src ∧ t.tck.goodRun = 0 ∧
    t.tck.refLink = (if src = 1 then 1 else 0) ∧
    t.tck.align = (if s.tck.refValid (if src = 1 then 1 else 0) then .acquire else .free) ∧
    SameRegs [F.TCK.REF_CTL.SRC.addr] s t ∧ t = { s with tck := t.tck, regs := t.regs }) ∧
  (∀ (s : State) (e : Eng) (cls lane upto : Nat) (task : LaneTask) (x : Cut), lane < cutLanes cls →
    (cls = 0 ∧ e = .cmp ∧ lane ∈ s.cmp.compressors ∨ cls = 1 ∧ e = .cmp ∧ lane ∉ s.cmp.compressors ∨ cls = 2 ∧ e = .cip ∨
      cls = 3 ∧ e = .dgs) →
    (s.laneTasks e lane).find? (fun t => t.ready && s.atFront e lane t) = some task →
    let had := ((s.cutOf e lane task).map CutSlot.spent).getD 0 + (s.tickCycles - (s.lanes.of e).spent lane)
    s.cutAt e task.item had upto = some x → had < x.need → (s.lanes.of e).spent lane < s.tickCycles → x.point.allows upto = true →
    Runs (.jobCut cls lane upto) s fun t =>
    (∃ k, Tab.find (t.lanes.of e).cuts (slotKey lane task.cls) = some k ∧ k.item = task.item ∧ k.upto = upto) ∧
    (t.lanes.of e).spent lane = s.tickCycles ∧ (∀ l, l ≠ lane → (t.lanes.of e).spent l = (s.lanes.of e).spent l) ∧
    t.fld (F.TCK.CUT_COUNT.COUNT.nth cls) = (s.fld (F.TCK.CUT_COUNT.COUNT.nth cls) + 1) %
      2 ^ (F.TCK.CUT_COUNT.COUNT.hi - F.TCK.CUT_COUNT.COUNT.lo + 1) ∧
    SameRegs [(F.TCK.CUT_COUNT.COUNT.nth cls).addr] s t ∧ t = { s with lanes := t.lanes, regs := t.regs }) ∧
  (∀ (s : State) (n upto : Nat) (c : FrnCmd), n < 96 → c ∈ (s.port n).held → c.op = 1 → s.lineTakes (s.port n) (frameLen 64) false = false →
    (s.port n).cut.contains 5 = false → Runs (.jobCut 5 n upto) s fun t =>
    t.port n = { s.port n with cut := (s.port n).cut ++ [5] } ∧ (∀ m, m ≠ n → t.port m = s.port m) ∧
    t.fld (F.TCK.CUT_COUNT.COUNT.nth 5) = (s.fld (F.TCK.CUT_COUNT.COUNT.nth 5) + 1) %
      2 ^ (F.TCK.CUT_COUNT.COUNT.hi - F.TCK.CUT_COUNT.COUNT.lo + 1) ∧
    SameRegs [(F.TCK.CUT_COUNT.COUNT.nth 5).addr] s t ∧ t = { s with frn := t.frn, regs := t.regs }) ∧
  (∀ (s : State) (lane upto : Nat), (s.laneTasks .cip lane).find? (fun t => t.ready && s.atFront .cip lane t) = none →
    exec (.jobCut 2 lane upto) s = .next s) ∧
  (∀ (s : State) (pwr svc : Bool) (sensor : Nat) (reading : Int), s.tck.ticking = true → s.panelTick = true →
    Runs (.panelTick pwr svc sensor reading) s fun t =>
    t.tck.tick = s.tck.tick ∧ t.bay.leds = (List.range t.bays).map t.bayLeds ∧
    (t.bay.ledStat, t.bay.ledSvc, t.bay.ledRmv) = t.headLeds)

/-- COLD_RESET. What memory reads after it, and the fresh nonce, rest on assumptions 2 and 5. -/
def Obligations.ColdResetKeepsFusesAndFlash : Prop :=
  ∀ s : State, Runs .coldReset s fun t =>
    t.lcs.mode = .reset ∧ t.lcs.resetCause = .cold ∧ t.tck = Tck.cold ∧ (∀ a, t.reg a = regReset a) ∧ t.mem = [] ∧
    t.wit = Wit.cold ∧ t.cip = Cip.cold ∧ t.cmf = Cmf.cold ∧ t.qpc = Qpc.cold ∧ t.vct = Vct.cold ∧ t.flt = Flt.cold ∧
    t.ftl = Ftl.cold ∧ t.rdn = Rdn.cold ∧ t.other = none ∧ t.pcr = Pcr.cold ∧ t.frn = Frn.cold ∧
    t.lcs.fuses = s.lcs.fuses ∧ t.lcs.awkStored = s.lcs.awkStored ∧ t.lcs.awk = none ∧
    t.lcs.oemToken = none ∧ t.lcs.geoToken = none ∧
    t.rcf.flash = s.rcf.flash ∧ t.rcf.info = s.rcf.info ∧ t.evr.ring = s.evr.ring ∧ t.pending = s.pending

/-- POWER_FAIL_RESTART, and what every reset but the cold one leaves; that HBM and DDR hold what they held rests on assumption 61. -/
def Obligations.OtherResetsKeepWhatTheyKeep : Prop :=
  (∀ s : State, s.lcs.mode = .powerFailDrain → s.lcs.drainEnded = true → s.ticksIn 100000 ≤ s.lcs.supplyGood →
    exec .powerFailRestart s = .next (s.performReset .powerFail)) ∧
  (∀ (s : State) (k : ResetKind),
    let t := s.performReset k
    t.lcs.mode = .reset ∧ t.lcs.resetCause = k ∧ t.tck.tick = s.tck.tick ∧ t.tck.headSlot = s.tck.headSlot ∧
    t.tck.ticking = s.tck.ticking ∧ t.tck.align = .free ∧ t.tck.latches = [] ∧ (∀ a, t.byte a = if a < hbmBase then 0 else s.byte a) ∧ t.wit = Wit.cold ∧
    t.frn = Frn.cold ∧ t.cip = Cip.cold ∧ t.cmf = Cmf.cold ∧ t.qpc = Qpc.cold ∧ t.vct = Vct.cold ∧ t.flt = Flt.cold ∧ t.rdn = Rdn.cold ∧
    t.ftl = { Ftl.cold with side := s.tck.headSlot } ∧ t.other = none ∧ t.pcr = { Pcr.cold with own := s.pcr.own, peer := s.pcr.peer } ∧
    t.lcs.fuses = s.lcs.fuses ∧ t.lcs.awk = none ∧ t.lcs.awkStored = s.lcs.awkStored ∧ t.lcs.oemToken = none ∧
    t.rcf.flash = s.rcf.flash ∧ t.evr.ring = s.evr.ring ∧ t.evr.flushing = true ∧ t.pending = s.pending) ∧
  (∀ s : State, s.lcs.mode = .powerFailDrain → s.lcs.drainEnded = true → s.ticksIn 100000 ≤ s.lcs.supplyGood →
    Runs .powerFailRestart s fun t => t.lcs.mode = .reset ∧ t.lcs.resetCause = .powerFail ∧ t.tck.tick = s.tck.tick ∧ t.pending = s.pending) ∧
  (∀ s : State, (s.lcs.mode ≠ .powerFailDrain ∨ s.lcs.drainEnded = false ∨ s.lcs.supplyGood < s.ticksIn 100000) →
    exec .powerFailRestart s = .next s)

/-- The inputs of ranks 1 and 3 and their capture. -/
def Obligations.ResetAndSupplyInputsAreCaptured : Prop :=
  (∀ (s : State) (w : Nat), 1000 ≤ w → Runs (.warmReset w) s fun t =>
    .reset .warm ∈ t.tck.latches ∧ (∀ i ∈ s.tck.latches, i ∈ t.tck.latches) ∧
    (.reset .warm ∈ s.tck.latches → t = s) ∧ t = { s with tck := { s.tck with latches := t.tck.latches } }) ∧
  (∀ (s : State) (w : Nat), w ≤ 200 → exec (.warmReset w) s = .next s) ∧
  (∀ (s : State) (r : Req), r.test = false →
    Runs (.softwareReset r (fieldWord F.LCS.SW_RESET.KEY 0x5352)) s fun t =>
    .reset .software ∈ t.tck.latches ∧ (∀ i ∈ s.tck.latches, i ∈ t.tck.latches) ∧ SameRegs [] s t ∧
    t = { s with tck := { s.tck with latches := t.tck.latches }, regs := t.regs }) ∧
  (∀ s : State, s.lcs.lifeResetDue = true → Runs .lifeCycleReset s fun t =>
    .reset .lifeCycle ∈ t.tck.latches ∧ (∀ i ∈ s.tck.latches, i ∈ t.tck.latches) ∧
    t = { s with tck := { s.tck with latches := t.tck.latches } }) ∧
  (∀ (s : State) (rails : Nat), s.tck.ticking = true → rails % 2 ^ 11 ≠ 0 → Runs (.supplyFault rails) s fun t =>
    (∃ n, Input.supplyFault n ∈ t.tck.latches ∧ n &&& (rails % 2 ^ 11) = rails % 2 ^ 11) ∧
    t = { s with tck := { s.tck with latches := t.tck.latches } }) ∧
  (∀ s : State, s.tck.ticking = true → Runs .sclkLoss s fun t =>
    (∃ n, Input.supplyFault n ∈ t.tck.latches) ∧ t = { s with tck := { s.tck with latches := t.tck.latches } }) ∧
  (∀ (s : State) (sensor : Nat), s.tck.ticking = true → sensor < 24 → Runs (.thermtrip sensor) s fun t =>
    (∃ n, Input.supplyFault n ∈ t.tck.latches) ∧ t.lcs = { s.lcs with thermTripped := true } ∧
    t = { s with lcs := t.lcs, tck := { s.tck with latches := t.tck.latches } }) ∧
  (∀ (s : State) (w : Nat), s.tck.ticking = true → 100 < w → Runs (.powerFailWarning w) s fun t =>
    Input.powerFailWarning ∈ t.tck.latches ∧ (∀ i ∈ s.tck.latches, i ∈ t.tck.latches) ∧
    t = { s with tck := { s.tck with latches := t.tck.latches } }) ∧
  (∀ (s : State) (w : Nat), w ≤ 100 → exec (.powerFailWarning w) s = .next s)

/-- DRAIN_COMPLETE and HCLK_LOSS. -/
def Obligations.DrainEndsAndHostClockLoss : Prop :=
  (∀ s : State, s.lcs.mode = .powerFailDrain → s.lcs.drainEnded = false →
    ((s.programsAnswered && s.evr.queue == []) = true ∨ s.lcs.drainStart + s.ticksIn 2000 ≤ s.now) →
    Runs .drainComplete s fun t =>
    t.lcs = { s.lcs with drainEnded := true, supplyGood := 0 } ∧
    t.fld F.LCS.PFD_STATUS.RESULT = (if (s.programsAnswered && s.evr.queue == []) = true then 0 else 1) ∧
    t.fld F.LCS.PFD_STATUS.LAST_US = (s.now - s.lcs.drainStart) * s.tickNs / 1000 %
      2 ^ (F.LCS.PFD_STATUS.LAST_US.hi - F.LCS.PFD_STATUS.LAST_US.lo + 1) ∧
    t.fld F.LCS.PFD_STATUS.OUTSTANDING = s.frn.ports.foldl (fun n p => n + p.2.writesOut) 0 %
      2 ^ (F.LCS.PFD_STATUS.OUTSTANDING.hi - F.LCS.PFD_STATUS.OUTSTANDING.lo + 1) ∧
    SameRegs [F.LCS.PFD_STATUS.RESULT.addr] s t ∧ t = { s with lcs := t.lcs, regs := t.regs }) ∧
  (∀ s : State, Runs .hclkLoss s fun t =>
    (∀ p, p < s.hostPorts → t.portUp p = false) ∧ SameMemory s t ∧ t = { s with regs := t.regs, evr := t.evr })

/-- BOOT_VERIFY, SELF_TEST_PHASE_END and LISTEN_TIMEOUT. -/
def Obligations.BootAndSelfTestPhases : Prop :=
  (∀ (s : State) (ds : List Rdimm), s.lcs.mode = .reset → s.tck.ticking = true → s.evr.flushing = false →
    (s.lcs.fuses.lifeState = .blank ∨ s.lcs.fuses.lifeState = .void) → Runs (.bootVerify ds) s fun t =>
    t.lcs.mode = .reset ∧ t.lcs.life = s.lcs.fuses.lifeState ∧
    t.flag F.MEM.STATUS.DDR_BAD = !dimmsOk ds ∧ SameMemory s t) ∧
  (∀ (s : State) (ds : List Rdimm) (slot : Nat), s.lcs.mode = .reset → s.tck.ticking = true → s.evr.flushing = false →
    s.lcs.fuses.lifeState ≠ .blank → s.lcs.fuses.lifeState ≠ .void →
    ({ s with lcs := { s.lcs with life := s.lcs.fuses.lifeState } } : State).chooseBoot.1 = some slot →
    Runs (.bootVerify ds) s fun t =>
    t.lcs.mode = .structureLoad ∧ t.lcs.bootSlot = slot + 1 ∧ t.lcs.bootFail = false ∧ SameMemory s t) ∧
  (∀ (s : State) (ds : List Rdimm), s.lcs.mode = .reset → s.tck.ticking = true → s.evr.flushing = false →
    s.lcs.fuses.lifeState ≠ .blank → s.lcs.fuses.lifeState ≠ .void →
    ({ s with lcs := { s.lcs with life := s.lcs.fuses.lifeState } } : State).chooseBoot.1 = none →
    Runs (.bootVerify ds) s fun t => t.lcs.mode = .reset ∧ t.lcs.bootFail = true) ∧
  (∀ (s : State) (unit : Nat), s.lcs.mode = .selfTest → s.lcs.stPhase = 1 → s.lcs.stFail = false →
    exec (.selfTestPhaseEnd true unit) s = .next { s with lcs := { s.lcs with stPhase := 2 } }) ∧
  (∀ (s : State) (unit : Nat), s.lcs.mode = .selfTest → s.lcs.stPhase = 2 → s.lcs.stFail = false →
    Runs (.selfTestPhaseEnd true unit) s fun t =>
    t.lcs = { s.lcs with stPhase := 3 } ∧ t.flag F.MEM.STATUS.HBM_READY = true ∧
    t.flag F.MEM.STATUS.DDR_READY = !s.flag F.MEM.STATUS.DDR_BAD ∧ t.memc.filling = true ∧
    (∀ a, t.byte a = if a < hbmBase then s.byte a else 0)) ∧
  (∀ (s : State) (unit : Nat), s.lcs.mode = .selfTest → s.lcs.stPhase = 3 →
    (s.portsTrained = true ∨ s.lcs.stEntry + s.fld F.LCS.START_CTL.LINK_WAIT ≤ s.now) →
    ∀ ok, exec (.selfTestPhaseEnd ok unit) s = .next { s with lcs := { s.lcs with stPhase := 4, listenSince := s.now } }) ∧
  (∀ (s : State) (unit : Nat), s.lcs.mode = .selfTest → s.lcs.stPhase = 1 ∨ s.lcs.stPhase = 2 →
    Runs (.selfTestPhaseEnd false unit) s fun t =>
    t.lcs.mode = .eclipse ∧ t.lcs.stFail = true ∧ t.wit.own = 0 ∧
    t.reg (eventAddr Src.LCS) = s.reg (eventAddr Src.LCS) ||| 4) ∧
  (∀ s : State, s.lcs.mode = .selfTest → s.lcs.stPhase = 4 → s.flag F.BAY.LEVER.OPEN = false →
    s.lcs.listenSince + s.fld F.LCS.START_CTL.LISTEN ≤ s.now →
    (∀ m, s.rfl.mark = some m → m.arrived + s.fld F.LCS.START_CTL.LISTEN ≤ s.now) →
    exec .listenTimeout s = .next { s with lcs := { s.lcs with stPhase := 5 } })

/-- The writes of CIP.KEY_CMD, SIM.CMD and LCS.CMD. -/
def Obligations.CommandRegistersStartTheirCommand : Prop :=
  let key (op : Nat) (c : Req → Instr) : Prop :=
    StartsCommand FromCore F.CIP.KEY_STATUS.BUSY c (fun _ s => { s with cip := { s.cip with
      pending := some ⟨op, s.reg F.CIP.KEY_ARG0.SLOT.addr, s.reg F.CIP.KEY_ARG1.LIMIT.addr⟩ } }) ∧
    DiscardedWhileBusy FromCore F.CIP.KEY_STATUS.BUSY c
  let sim (op : Nat) (c : Req → Instr) : Prop :=
    StartsCommand FromCore F.SIM.STATUS.BUSY c (fun _ s => { s with sim := { s.sim with pending := some op } }) ∧
    DiscardedWhileBusy FromCore F.SIM.STATUS.BUSY c
  let go (op index value : Nat) (fuseOk : Bool) (c : Req → Instr) : Prop :=
    StartsCommand FromAnyone F.LCS.CMD_STATUS.BUSY c (fun r s => { s with lcs := { s.lcs with
      pending := some ⟨op, index, value, r.test, fuseOk⟩ } }) ∧
    DiscardedWhileBusy FromAnyone F.LCS.CMD_STATUS.BUSY c
  key 1 Instr.generate ∧ key 2 Instr.unwrap ∧ key 3 Instr.loadPlain ∧ key 4 Instr.setSucc ∧ key 5 Instr.rotate ∧
    key 6 Instr.setLimit ∧ key 7 Instr.destroy ∧
    sim 1 Instr.simVerify ∧ sim 2 Instr.simStage ∧ sim 3 Instr.simCommit ∧ sim 4 Instr.simCancel ∧ sim 5 Instr.simLoad ∧
    go 1 0 0 true Instr.submit ∧ (∀ ok, go 2 0 0 ok (fun r => .enterMaker r ok)) ∧
    (∀ ok value, value < 2 ^ 32 → go 3 0 value ok (fun r => .provision r value ok)) ∧
    (∀ ok, go 4 0 0 ok (fun r => .field r ok)) ∧ (∀ ok, go 5 0 0 ok (fun r => .enterRtm r ok)) ∧
    (∀ ok, go 6 0 0 ok (fun r => .void r ok)) ∧
    (∀ ok index, index < 4 → go 7 index 0 ok (fun r => .addKey r index ok)) ∧
    (∀ ok index, index < 4 → go 8 index 0 ok (fun r => .revoke r index ok)) ∧
    (∀ ok value, value < 2 ^ 32 → go 9 0 value ok (fun r => .raiseRollback r value ok)) ∧
    go 10 0 0 true Instr.zeroise ∧ go 11 0 0 true Instr.awkGenerate ∧ go 12 0 0 true Instr.awkExport ∧
    go 13 0 0 true Instr.awkImport ∧ go 14 0 0 true Instr.devicePub

/-- Key commands at their boundary. -/
def Obligations.KeyCommandsAtTheirBoundary : Prop :=
  (∀ (s : State) (n : Nat) (a0 a1 : Word), s.cip.pending = some ⟨3, a0, a1⟩ → n < slotCount 1 →
    a0.toNat = bits a0.toNat 63 32 * 2 ^ 32 + bits a0.toNat 27 16 * 2 ^ 16 + 0x1000 + n → a1.toNat < 2 ^ 48 →
    s.slot 1 n = none → limitOk (bits a1.toNat 31 0) = true → s.badId 1 (bits a0.toNat 63 32) = false →
    let t := s.runKeyCommand
    t.cip.transport = Tab.insert s.cip.transport n (newSlot (bits a0.toNat 63 32) (bits a1.toNat 31 0)
      (bits a1.toNat 47 32) (s.keyData.take 32) true) ∧
    t.cip.data = s.cip.data ∧ t.cip.digest = s.cip.digest ∧ t.cip.pending = none ∧
    t.fld F.CIP.KEY_STATUS.RESULT = 0 ∧ t.flag F.CIP.KEY_STATUS.BUSY = false ∧
    (∀ i, i < 16 → t.fld (F.CIP.KEY_DATA.DATA.nth i) = 0) ∧ t.flag F.CIP.EVENT.KEY_CMD_DONE = true ∧ SameMemory s t) ∧
  (∀ (s : State) (n : Nat) (k : KeySlot) (a0 a1 : Word), s.cip.pending = some ⟨4, a0, a1⟩ → n < slotCount 0 →
    a0.toNat = n * 2 ^ 16 + n → a1.toNat < 2 ^ 48 → s.slot 0 n = some k →
    let t := s.runKeyCommand
    t.cip.data = Tab.insert s.cip.data n { k with succ := none } ∧ t.fld F.CIP.KEY_STATUS.RESULT = 0 ∧
    t.flag F.CIP.KEY_STATUS.BUSY = false) ∧
  (∀ (s : State) (n : Nat) (k : KeySlot) (a0 a1 : Word), s.cip.pending = some ⟨7, a0, a1⟩ → n < slotCount 0 →
    a0.toNat = n → a1.toNat < 2 ^ 48 → s.slot 0 n = some k →
    let t := s.runKeyCommand
    t.slot 0 n = none ∧ (∀ m, m ≠ n → t.slot 0 m = s.slot 0 m) ∧ t.cip.transport = s.cip.transport ∧
    t.fld F.CIP.KEY_STATUS.RESULT = 0 ∧ t.flag F.CIP.KEY_STATUS.BUSY = false ∧ SameMemory s t) ∧
  (∀ (s : State) (n : Nat) (k : KeySlot) (a0 a1 : Word), s.cip.pending = some ⟨5, a0, a1⟩ → n < slotCount 0 →
    a0.toNat = n → a1.toNat < 2 ^ 48 → s.slot 0 n = some k → k.state ≠ .active →
    let t := s.runKeyCommand
    t.cip = { s.cip with pending := none } ∧ t.fld F.CIP.KEY_STATUS.RESULT = 2 ∧ t.flag F.CIP.KEY_STATUS.BUSY = false) ∧
  (∀ (s : State) (typ n m : Nat) (k x : KeySlot), typ < 2 → s.slot typ n = some k → k.state = .active → k.warned = false →
    k.warnAt ≤ k.usedBlocks typ → s.successor typ k = some (m, x) → m ≠ n →
    let t := s.checkWarn typ n
    t.slot typ n = some { k with state := .retiring, warned := true } ∧ t.slot typ m = some { x with state := .active } ∧
    (∀ i, i ≠ n → i ≠ m → t.slot typ i = s.slot typ i) ∧ Raises t Src.CIP 0 ∧ Raises t Src.CIP 1 ∧ SameMemory s t)

/-- KEY_RESERVE and KEY_USAGE_RESTORE, and the IV of R134. The record of a reservation goes to the home side while the head holds it,
and else to the side held. -/
def Obligations.KeyUsageIsReservedAndRestored : Prop :=
  (∀ (s : State) (n : Nat) (k : KeySlot), s.slot 0 n = some k → k.usageValid = true → k.state ≠ .exhausted →
    s.holdsSide = true → k.resOwn * 2 ^ 20 ≤ k.next + 2 ^ 19 → k.usedBlocks 0 < k.limit →
    let side := if s.wit.own.testBit s.tck.headSlot then s.tck.headSlot else 1 - s.tck.headSlot
    let journalled (f : Ftl) : Prop := ∃ j ∈ f.journal, j.items = [JItem.keyres k.keyId (k.resOwn + 1) s.tck.headSlot]
    Runs (.keyReserve n) s fun t =>
    (∃ x, t.slot 0 n = some x ∧ x.resOwn = k.resOwn + 1 ∧ x.next = k.next ∧ x.keyId = k.keyId ∧ x.durable = k.durable) ∧
    (s.ftl.side = side → journalled t.ftl ∧ t.other = s.other) ∧
    (∀ f r, s.ftl.side ≠ side → s.other = some (f, r) → f.side = side →
      t.ftl = s.ftl ∧ t.rdn = s.rdn ∧ ∃ g, t.other = some (g, r) ∧ journalled g) ∧
    (∀ m, m ≠ n → t.slot 0 m = s.slot 0 m) ∧ SameMemory s t) ∧
  (∀ (s : State) (n : Nat), (∀ k, s.slot 0 n = some k → k.usageValid = false ∨ k.state = .exhausted ∨ s.holdsSide = false ∨
    k.next + 2 ^ 19 < k.resOwn * 2 ^ 20 ∨ k.limit ≤ k.usedBlocks 0) → exec (.keyReserve n) s = .next s) ∧
  (∀ (s : State) (n : Nat) (k : KeySlot), s.slot 0 n = some k → k.usageValid = false → s.granted Cls.mapWork = true →
    Runs (.keyUsageRestore n) s fun t =>
    (∃ x, t.slot 0 n = some x ∧ x.usageValid = true ∧ x.resOwn = max k.resOwn (s.highestRes k.keyId s.tck.headSlot) ∧
      x.resPeer = max k.resPeer (s.highestRes k.keyId (1 - s.tck.headSlot)) ∧ x.durable = x.resOwn ∧
      x.next = x.resOwn * 2 ^ 20 ∧ x.key = k.key) ∧ (∀ m, m ≠ n → t.slot 0 m = s.slot 0 m) ∧ SameMemory s t) ∧
  (∀ (s : State) (n : Nat), s.granted Cls.mapWork = false → exec (.keyUsageRestore n) s = .next s) ∧
  (∀ domain origin sender counter : Nat, ivOf domain origin sender counter =
    leBytes 1 domain ++ leBytes 1 origin ++ leBytes 2 sender ++ leBytes 8 counter ∧
    (ivOf domain origin sender counter).length = 12)

/-- SIM's own effects: COMMIT, CANCEL and LOAD at their boundary, and the rows of a commit's life. -/
def Obligations.ImageCommandEffects : Prop :=
  (∀ (s : State) (p : StagedPart), s.sim.wrote = none → s.sim.pending = some 3 → s.sim.shadow = some p →
    s.fld F.SIM.STATUS.STATE = 5 → s.sim.requested = false →
    let t := s.runSimCommand
    t.sim.requested = true ∧ t.sim.shadow = some p ∧ t.sim.pending = none ∧ t.fld F.SIM.STATUS.CMD_RESULT = 0 ∧
    t.flag F.SIM.STATUS.BUSY = false ∧ t.fld F.SIM.STATUS.STATE = 5) ∧
  (∀ (s : State), s.sim.wrote = none → s.sim.pending = some 3 → s.fld F.SIM.STATUS.STATE ≠ 5 →
    let t := s.runSimCommand
    t.sim = { s.sim with pending := none } ∧ t.fld F.SIM.STATUS.CMD_RESULT = 1 ∧ t.flag F.SIM.STATUS.BUSY = false ∧
    SameRegs [F.SIM.STATUS.STATE.addr] s t) ∧
  (∀ (s : State), s.sim.wrote = none → s.sim.pending = some 4 → s.fld F.SIM.STATUS.STATE = 5 → s.sim.requested = false →
    let t := s.runSimCommand
    t.sim.shadow = none ∧ t.fld F.SIM.STATUS.STATE = 2 ∧ t.fld F.SIM.STATUS.CMD_RESULT = 0 ∧
    t.flag F.SIM.STATUS.BUSY = false ∧ SameRegs [F.SIM.STATUS.STATE.addr] s t) ∧
  (∀ (s : State), s.sim.wrote = none → s.sim.pending = some 5 → s.lcs.mode ≠ .structureLoad →
    s.runSimCommand.fld F.SIM.STATUS.CMD_RESULT = 2 ∧ s.runSimCommand.flag F.SIM.STATUS.BUSY = false) ∧
  (∀ (s : State) (p : StagedPart), s.sim.shadow = some p → s.sim.wrote = some true → s.fld F.SIM.STATUS.STATE = 4 →
    (∀ i, i < p.bytes.length → s.rcf.byteAt (p.addr + 64 + i) = p.bytes.getD i 0) → Runs (.stagingDone true) s fun t =>
    t.fld F.SIM.STATUS.STATE = 5 ∧ t.sim.shadow = some p ∧ t.flag F.SIM.EVENT.STAGED = true ∧
    t.fld (F.SIM.STAT.COUNT.nth 3) = (s.fld (F.SIM.STAT.COUNT.nth 3) + 1) % 2 ^ 64 ∧ SameMemory s t) ∧
  (∀ (s : State) (p : StagedPart), s.sim.shadow = some p → s.sim.wrote = some false → s.fld F.SIM.STATUS.STATE = 4 →
    ∀ ok, Runs (.stagingDone ok) s fun t =>
    t.fld F.SIM.STATUS.STATE = 2 ∧ t.sim.shadow = none ∧ t.fld F.SIM.STATUS.CAUSE = 14 ∧ Signals s t Src.SIM 2 0) ∧
  (∀ s : State, s.fld F.SIM.STATUS.STATE = 6 → s.fld F.SIM.AT_TICK.TICK ≤ s.now + 1 → Runs .structureSwapCommit s fun t =>
    .commit ∈ t.tck.latches ∧ (∀ i ∈ s.tck.latches, i ∈ t.tck.latches) ∧
    t = { s with tck := { s.tck with latches := t.tck.latches } }) ∧
  (∀ (s : State) (p : StagedPart), s.sim.shadow = some p → s.fld F.SIM.STATUS.STATE = 6 →
    s.fld F.SIM.SWAP_CTL.DEFER_MAX ≤ s.sim.deferred → Runs .commitAbandon s fun t =>
    t.sim.shadow = none ∧ t.sim.deferred = 0 ∧ t.sim.requested = false ∧ t.fld F.SIM.STATUS.STATE = 2 ∧
    Signals s t Src.SIM 5 0 ∧ SameMemory s t) ∧
  (∀ s : State, s.sim.committing = true → s.oldWorkDone = true → s.lcs.mode = .restructure → Runs .restructureEnd s fun t =>
    t.lcs.mode = s.lcs.resumeMode ∧ t.sim.committing = false ∧ t.fld F.SIM.STATUS.STATE = 2 ∧
    t.fld F.SIM.STATUS.PARTS = (s.fld F.SIM.STATUS.PARTS + 1) % 16 ∧ t.flag F.SIM.EVENT.COMMITTED = true ∧ SameMemory s t)

/-- STRUCTURE_LOAD, and the word of the example of R451. -/
def Obligations.StructureLoadEnds : Prop :=
  (∀ (s : State) (a b : Bool), s.lcs.mode = .structureLoad → s.fld F.SIM.STATUS.STATE = 1 →
    (s.loadStructure a b).1 = true → Runs (.structureLoad a b) s fun t =>
    t.lcs.mode = .selfTest ∧ t.lcs.stPhase = 1 ∧ t.lcs.stFail = false ∧ t.fld F.SIM.STATUS.STATE = 2) ∧
  (∀ (s : State) (a b : Bool), s.lcs.mode = .structureLoad → s.fld F.SIM.STATUS.STATE = 1 →
    (s.loadStructure a b).1 = false → Runs (.structureLoad a b) s fun t =>
    t.lcs.mode = .structureLoad ∧ t.fld F.SIM.STATUS.STATE = 3 ∧ t.flag F.SIM.EVENT.LOAD_FAIL = true) ∧
  bits 0x005F22B8 F.CMP.CONFIG.COMP_LANES.hi F.CMP.CONFIG.COMP_LANES.lo = 56

/-- Life-cycle commands at their boundary. That FUSE_FAIL changes no fuse is assumption 43. -/
def Obligations.LifeCycleCommandsAtTheirBoundary : Prop :=
  (∀ (s : State) (c : LcsPending), s.lcs.pending = some c → s.lcsAllowed c.op c.fromLcAccess = false →
    let t := s.runLcsCommand
    t.lcs = { s.lcs with pending := none } ∧ t.fld F.LCS.CMD_STATUS.RESULT = 2 ∧ t.flag F.LCS.CMD_STATUS.BUSY = false ∧
    t.flag F.LCS.EVENT.CMD_DONE = true ∧ SameMemory s t) ∧
  (∀ (s : State) (i v : Nat) (test : Bool), s.lcs.pending = some ⟨4, i, v, test, true⟩ →
    s.lcsAllowed 4 test = true → s.lcs.fuses.lifeState = .provisioned →
    let t := s.runLcsCommand
    t.lcs.fuses.lifeState = .field ∧ t.lcs.lifeResetDue = true ∧ t.fld F.LCS.CMD_STATUS.RESULT = 0 ∧
    t.flag F.LCS.CMD_STATUS.BUSY = false) ∧
  (∀ (s : State) (i v : Nat) (test : Bool), s.lcs.pending = some ⟨3, i, v, test, true⟩ →
    s.lcsAllowed 3 test = true → s.lcs.fuses.lifeState = .maker →
    let t := s.runLcsCommand
    t.lcs.fuses.lifeState = .provisioned ∧ t.lcs.fuses.rollback = [BitVec.ofNat 32 v] ∧ t.lcs.lifeResetDue = true ∧
    t.fld F.LCS.CMD_STATUS.RESULT = 0) ∧
  (∀ (s : State) (i v : Nat) (test : Bool), s.lcs.pending = some ⟨6, i, v, test, true⟩ →
    s.lcsAllowed 6 test = true → s.lcs.fuses.lifeState = .returnToMaker →
    let t := s.runLcsCommand
    t.lcs.fuses.lifeState = .void ∧ t.lcs.lifeResetDue = true ∧ t.fld F.LCS.CMD_STATUS.RESULT = 0) ∧
  (∀ (s : State) (op i v : Nat) (test : Bool), (op = 4 ∨ op = 3 ∨ op = 6) → s.lcs.pending = some ⟨op, i, v, test, false⟩ →
    s.lcsAllowed op test = true →
    let t := s.runLcsCommand
    t.lcs.fuses = s.lcs.fuses ∧ t.lcs.lifeResetDue = s.lcs.lifeResetDue ∧ t.fld F.LCS.CMD_STATUS.RESULT = 5) ∧
  (∀ (s : State) (i v : Nat) (test : Bool), s.lcs.pending = some ⟨7, i, v, test, true⟩ → s.lcsAllowed 7 test = true →
    Tab.find s.lcs.fuses.imgDigest i = none →
    let t := s.runLcsCommand
    (Tab.find t.lcs.fuses.imgDigest i).isSome = true ∧ (∀ j, j ≠ i → Tab.find t.lcs.fuses.imgDigest j =
      Tab.find s.lcs.fuses.imgDigest j) ∧ t.lcs.fuses.lc = s.lcs.fuses.lc ∧ t.lcs.lifeResetDue = s.lcs.lifeResetDue ∧
    t.fld F.LCS.CMD_STATUS.RESULT = 0) ∧
  (∀ (s : State) (i v : Nat) (test : Bool), s.lcs.pending = some ⟨10, i, v, test, true⟩ → s.lcsAllowed 10 test = true →
    let t := s.runLcsCommand
    t.lcs.awk = none ∧ t.cip.data = [] ∧ t.cip.transport = [] ∧ t.cip.digest = [] ∧ t.cip.ctx = [] ∧ t.dgs.ctx = [] ∧
    t.lcs.fuses = s.lcs.fuses ∧ t.fld F.LCS.CMD_STATUS.RESULT = 0 ∧ t.flag F.LCS.CMD_STATUS.BUSY = false)

/-- RCF_UNLOCK and the six operations of R484. -/
def Obligations.RecordFlashCommands : Prop :=
  (∀ (s : State) (r : Req), r.test = false → s.fld F.RCF.STATUS.BUSY = 0 → s.rcf.seq = .idle →
    Runs (.rcfUnlock r 0x5A7C) s fun t =>
    t.rcf = { s.rcf with seq := .key1 } ∧ SameRegs [] s t ∧ t = { s with rcf := t.rcf, regs := t.regs }) ∧
  (∀ (s : State) (r : Req), r.test = false → s.fld F.RCF.STATUS.BUSY = 0 → s.rcf.seq = .key1 →
    Runs (.rcfUnlock r 0xC3A5) s fun t =>
    t.rcf = { s.rcf with seq := .key2 } ∧ SameRegs [] s t ∧ t = { s with rcf := t.rcf, regs := t.regs }) ∧
  (∀ (s : State) (r : Req) (v : Word), r.test = false → s.rcf.seq = .idle → wfld v.toNat F.RCF.UNLOCK.KEY ≠ 0x5A7C →
    Runs (.rcfUnlock r v) s fun t =>
    t.rcf = { s.rcf with seq := .idle } ∧ t.fld F.RCF.STATUS.RESULT = 4 ∧ Signals s t Src.RCF 7 0 ∧
    SameBlocks [Src.RCF, Src.EVR] s t ∧ t = { s with rcf := t.rcf, regs := t.regs, evr := t.evr }) ∧
  (∀ (s : State) (r : Req) (addr w : Nat) (data : Word), r.test = false → s.fld F.RCF.STATUS.BUSY = 0 → s.rcf.seq = .key2 →
    addr % 8 = 0 → addr < 0x4C00000 → s.swMayProgram addr = true → s.rcf.physical addr = some w →
    s.rcf.word w = 0xFFFFFFFFFFFFFFFF →
    (Runs (.rcfProgram r addr data) s fun t =>
      t.rcf = ({ s.rcf with seq := .idle, queue := s.rcf.queue ++ [⟨.software, .program [(w, data)]⟩] } : Rcf).serve ∧
      t.fld F.RCF.STATUS.BUSY = 1 ∧ SameRegs [F.RCF.STATUS.BUSY.addr] s t ∧ t = { s with rcf := t.rcf, regs := t.regs }) ∧
    (Runs (.rcfProgramBurst r addr data) s fun t =>
      t.rcf = ({ s.rcf with
        seq := burstNext addr, queue := s.rcf.queue ++ [⟨.software, .program [(w, data)]⟩] } : Rcf).serve ∧
      t.fld F.RCF.STATUS.BUSY = 1 ∧ SameRegs [F.RCF.STATUS.BUSY.addr] s t ∧ t = { s with rcf := t.rcf, regs := t.regs })) ∧
  (∀ (s : State) (r : Req) (addr : Nat), r.test = false → s.fld F.RCF.STATUS.BUSY = 0 → s.rcf.seq = .key2 →
    addr % 8 = 0 → addr < 0x4C00000 → s.swMayErase addr = true → Runs (.rcfErase r addr) s fun t =>
    t.rcf = ({ s.rcf with seq := .idle, queue := s.rcf.queue ++ [⟨.software, .erase (addr / 4096)⟩] } : Rcf).serve ∧
    t.fld F.RCF.STATUS.BUSY = 1 ∧ SameRegs [F.RCF.STATUS.BUSY.addr] s t ∧ t = { s with rcf := t.rcf, regs := t.regs }) ∧
  (∀ (s : State) (r : Req) (addr : Nat), r.test = false → s.fld F.RCF.STATUS.BUSY = 0 → s.rcf.seq = .key2 →
    addr % 8 = 0 → 0x4800000 ≤ addr → addr < 0x4C00000 → s.rcf.leastSpare.isSome = true →
    Runs (.rcfRotate r addr) s fun t =>
    t.rcf = ({ s.rcf with
      seq := .idle, queue := s.rcf.queue ++ [⟨.software, .rotate ((addr - 0x4000000) / 4096)⟩] } : Rcf).serve ∧
    t.fld F.RCF.STATUS.BUSY = 1 ∧ SameRegs [F.RCF.STATUS.BUSY.addr] s t ∧ t = { s with rcf := t.rcf, regs := t.regs }) ∧
  (∀ (s : State) (r : Req) (q : RcfReq), r.test = false → s.fld F.RCF.STATUS.BUSY = 0 → s.rcf.seq = .key2 →
    s.rcf.current = some q → q.op.isErase = true → s.rcf.step = 2 → Runs (.rcfSuspend r) s fun t =>
    t.rcf.held = some ⟨true, q⟩ ∧ t.rcf.current = none ∧ t.rcf.seq = .idle ∧ t.rcf.flash = s.rcf.flash ∧
    t.fld F.RCF.STATUS.RESULT = 0 ∧ Signals s t Src.RCF 0 0 ∧ t = { s with rcf := t.rcf, regs := t.regs, evr := t.evr }) ∧
  (∀ (s : State) (r : Req) (h : RcfHold), r.test = false → s.fld F.RCF.STATUS.BUSY = 0 → s.rcf.seq = .key2 →
    s.rcf.held = some h → s.rcf.current = none → s.rcf.queue = [] → s.rcf.neverResume = false →
    Runs (.rcfResume r) s fun t =>
    t.rcf.current = some h.req ∧ t.rcf.step = 2 ∧ t.rcf.held = none ∧ t.rcf.flash = s.rcf.flash ∧
    t.fld F.RCF.STATUS.RESULT = 0 ∧ Signals s t Src.RCF 0 0 ∧ t = { s with rcf := t.rcf, regs := t.regs, evr := t.evr })

/-- The rows that end or make record flash operations. -/
def Obligations.RecordFlashOperations : Prop :=
  (∀ (s : State) (w pulses : Nat) (data : Word), s.rcf.current = some ⟨.software, .program [(w, data)]⟩ →
    s.rcf.word w = 0xFFFFFFFFFFFFFFFF → pulses ≤ 16 → Runs (.rcfOperationEnd pulses true) s fun t =>
    t.rcf.word w = data ∧ (∀ x, x ≠ w → t.rcf.word x = s.rcf.word x) ∧ t.fld F.RCF.STATUS.RESULT = 0 ∧
    t.fld F.RCF.STATUS.BUSY = 0 ∧ t.fld F.RCF.STATUS.PULSES = pulses ∧ Raises t Src.RCF 0 ∧ SameMemory s t) ∧
  (∀ (s : State) (who : RcfWho) (sector pulses : Nat), s.rcf.current = some ⟨who, .erase sector⟩ → s.rcf.step = 2 →
    pulses ≤ 8 → Runs (.rcfOperationEnd pulses true) s fun t =>
    (∀ x, x / 512 = sector → t.rcf.word x = 0xFFFFFFFFFFFFFFFF) ∧
    (∀ x, x / 512 ≠ sector → t.rcf.word x = s.rcf.word x) ∧ t.rcf.step = 3 ∧ t.regs = s.regs ∧ SameMemory s t) ∧
  (∀ (s : State) (q : RcfReq), s.fld F.RCF.CTL.AUTO_SUSP = 1 → s.rcf.suspCount < s.fld F.RCF.CTL.SUSP_MAX →
    s.rcf.current = some q → q.op.isErase = true → s.rcf.step = 2 → Runs .autoSuspend s fun t =>
    t.rcf.held = some ⟨false, q⟩ ∧ t.rcf.suspSince = s.tck.tick ∧ t.rcf.flash = s.rcf.flash ∧
    SameRegs [(F.RCF.STAT.COUNT.nth 2).addr] s t ∧ t = { s with rcf := t.rcf, regs := t.regs }) ∧
  (∀ (s : State) (h : RcfHold), s.rcf.held = some h → h.bySoftware = false → s.rcf.neverResume = false →
    s.rcf.current = none → s.rcf.suspSince + 250 ≤ s.tck.tick →
    exec .suspendLimitExpiry s = .next { s with rcf := { s.rcf with current := some h.req, step := 2, held := none } }) ∧
  (∀ (s : State) (sector : Nat), s.rcf.isDirty sector = true → s.rcf.retiring.contains sector = false →
    exec (.spareErase sector) s = .next { s with rcf :=
      ({ s.rcf with queue := s.rcf.queue ++ [⟨.background, .erase sector⟩] } : Rcf).serve }) ∧
  (∀ (s : State) (sector : Nat), s.rcf.isDirty sector = true → s.rcf.retiring.contains sector = true →
    Runs (.spareErase sector) s fun t =>
    t.rcf.infoWord sector 7 = 0 ∧ t.rcf.flash = s.rcf.flash ∧ t = { s with rcf := t.rcf }) ∧
  (∀ (s : State) (l p : Nat), s.leastWorn = some (l, p) → s.rcf.countOf p + s.fld F.RCF.CTL.SPREAD < s.rcf.maxCount →
    s.rcf.lastMove = none → s.rcf.queue = [] → s.rcf.mostSpare.isSome = true →
    exec .wearMove s = .next { s with rcf := ({ s.rcf with queue := [⟨.background, .wearMove l⟩] } : Rcf).serve }) ∧
  (∀ s : State, s.lcs.mode = .reset → Runs .recordFlashScan s fun t =>
    t.rcf.flash = s.rcf.flash ∧ t.rcf.info = s.rcf.info ∧ t.evr.ring = s.evr.ring ∧
    (∀ p ∈ s.evr.ring, p.2.seq ≤ t.evr.head) ∧ t.evr.head < t.evr.nextSeq ∧ t.regs = s.regs ∧ SameMemory s t)

/-- The rows of EVR. -/
def Obligations.EventRecorderRows : Prop :=
  (∀ (s : State) (r : EvRec) (rest : List EvRec), s.evr.queue = r :: rest → s.evrMayWrite = true →
    (s.evr.pos % 64 ≠ 0 ∨ s.evr.entered = true) → s.evr.full = false → s.evr.dropped = none → Runs (.evrFlush true) s fun t =>
    t.evr.queue = rest ∧ Tab.find t.evr.ring s.evr.pos = some r ∧ (∀ k, k ≠ s.evr.pos → Tab.find t.evr.ring k =
      Tab.find s.evr.ring k) ∧ r.seq ≤ t.evr.head ∧ t.evr.pos = (s.evr.pos + 1) % 131072 ∧ t.evr.nextSeq = s.evr.nextSeq ∧
    SameMemory s t ∧ t = { s with evr := t.evr, regs := t.regs }) ∧
  (∀ (s : State) (r : EvRec) (rest : List EvRec), s.evr.queue = r :: rest → s.evrMayWrite = true →
    (s.evr.pos % 64 ≠ 0 ∨ s.evr.entered = true) → s.evr.full = false → Runs (.evrFlush false) s fun t =>
    t.evr.queue = s.evr.queue ∧ t.evr.ring = s.evr.ring ∧ t.evr.pos = (s.evr.pos + 1) % 131072 ∧ t = { s with evr := t.evr }) ∧
  (∀ s : State, s.evr.timeDue = true → Runs .timeRecord s fun t =>
    t.evr.timeDue = false ∧ (HasRoom s → HasRecord s t Src.EVR 0x400 0) ∧ SameRegs recordRegs s t ∧
    t = { s with evr := t.evr, regs := t.regs }) ∧
  (∀ (s : State) (r : Req) (v : Word), r.test = false → Runs (.evrRdSeqWrite r v) s fun t =>
    t.reg F.EVR.RD_SEQ.SEQ.addr = v ∧ SameRegs [F.EVR.RD_SEQ.SEQ.addr] s t ∧ t = { s with regs := t.regs }) ∧
  (∀ (s : State) (r : Req) (v : Word), r.test = false → Runs (.swRecord r v) s fun t =>
    t.evr = { s.evr with swPending := true } ∧ t.reg F.EVR.SW_REC2.ARG1.addr = v ∧
    SameRegs [F.EVR.SW_REC2.ARG1.addr] s t ∧ t = { s with evr := t.evr, regs := t.regs }) ∧
  (∀ s : State, s.evr.swPending = true → s.makeSwRecord.evr.swPending = false ∧
    (HasRoom s → HasRecord s s.makeSwRecord 0x40 (s.fld F.EVR.SW_REC0.CODE) (s.fld F.EVR.SW_REC0.OBJECT))) ∧
  (∀ (s : State) (r : Req), r.test = false → Runs (.evrClear r) s fun t =>
    t.evr = { s.evr with clearPending := true } ∧ SameRegs [] s t ∧ t = { s with evr := t.evr, regs := t.regs }) ∧
  (∀ s : State, s.evr.clearPending = true → s.lcs.oemToken ≠ some 3 → s.lcs.geoToken ≠ some 3 →
    s.lcs.life ≠ .returnToMaker → s.clearLog.evr = { s.evr with clearPending := false } ∧
    s.clearLog.fld F.EVR.STATUS.CLEAR_RESULT = 1) ∧
  (∀ s : State, s.evr.clearing ≠ [] →
    (∀ l ∈ s.evr.clearing, ∀ q ∈ s.rcf.current.toList ++ s.rcf.queue, q.op ≠ .rotate l) → Runs .clearRotationDone s fun t =>
    t.evr.clearing = [] ∧ (∀ p, p ∈ t.evr.ring ↔ p ∈ s.evr.ring ∧ p.1 / 64 ∉ s.evr.clearing) ∧ Raises t Src.EVR 1 ∧
    SameRegs [eventAddr Src.EVR] s t ∧ t = { s with evr := t.evr, regs := t.regs })

/-- Taking a report (R510 to R512), and FAULT_REPORT. -/
def Obligations.FaultsAreTakenByClass : Prop :=
  (∀ (s : State) (r : FltReport), let c := r.cls s.flt
    1 ≤ c → c ≤ 4 → r.injected = false → r.code ≠ 0x0506 →
    (HasRoom s → HasRecord s (s.takeFault r) Src.FLT r.code (r.source * 2 ^ 16 + r.unit % 2 ^ 16)) ∧
    Raises (s.takeFault r) Src.FLT (c - 1)) ∧
  (∀ (s : State) (r : FltReport), let c := r.cls s.flt
    2 ≤ c → c ≤ 4 → r.code ≠ 0x0506 → s.flt.queues.length = 5 → (s.flt.queueOf c).length < 16 →
    ∃ e, ((s.takeFault r).flt.queueOf c) = s.flt.queueOf c ++ [e] ∧ e.code = r.code ∧
      e.object = r.source * 2 ^ 16 + r.unit % 2 ^ 16) ∧
  (∀ (s : State) (r : FltReport), let c := r.cls s.flt
    2 ≤ c → c ≤ 4 → r.code ≠ 0x0506 → s.flt.queues.length = 5 → 16 ≤ (s.flt.queueOf c).length →
    (s.takeFault r).flt.queueOf c = s.flt.queueOf c ∧ Raises (s.takeFault r) Src.FLT 5) ∧
  (∀ (s : State) (r : FltReport), r.cls s.flt = 0 → s.takeFault r = s) ∧
  (∀ (s : State) (code source unit arg : Nat), reportable code source unit = true → source ≠ Src.MEM →
    exec (.faultReport code source unit arg) s = .next { s with flt := { s.flt with reports := s.flt.reports ++
      [{ code := code, source := source, unit := unit, arg1 := arg, injected := false, fromClass := 0 }] } }) ∧
  (∀ (s : State) (code unit arg : Nat), reportable code Src.MEM unit = true →
    Runs (.faultReport code Src.MEM unit arg) s fun t =>
    t.flt.reports = s.flt.reports ++
      [{ code := code, source := Src.MEM, unit := unit, arg1 := arg, injected := false, fromClass := 0 }] ∧ SameMemory s t)

/-- The other rows of FLT. -/
def Obligations.FaultHandlingRows : Prop :=
  (∀ (s : State) (r : Req) (cls lo : Nat), r.test = false → 2 ≤ cls → cls ≤ 5 → lo < 2 ^ 32 → s.ackNames cls lo = true →
    Runs (.fltAck r cls lo) s fun t =>
    t.flt = { s.flt with acks := s.flt.acks ++ [(cls, lo)] } ∧ SameRegs [] s t ∧ t = { s with flt := t.flt, regs := t.regs }) ∧
  (∀ (s : State) (cls : Nat) (e : FltEntry) (q : List FltEntry), 2 ≤ cls → cls ≤ 5 → s.flt.queues.length = 5 →
    s.flt.queueOf cls = e :: q → s.flt.acks = [(cls, e.seq % 2 ^ 32)] →
    s.applyAcks.flt.queueOf cls = q ∧ s.applyAcks.flt.acks = []) ∧
  (∀ (s : State) (r : Req) (cls lo : Nat), r.test = false → 1 ≤ cls → cls ≤ 5 → lo < 2 ^ 32 → s.ackNames cls lo = false →
    Runs (.fltAck r cls lo) s fun t =>
    t.flt = s.flt ∧ (t.reg (blockBase Src.FLT + 8)).getLsbD 4 = true ∧
    SameRegs [blockBase Src.FLT + 8, blockBase Src.FLT + 16] s t ∧ t = { s with regs := t.regs, evr := t.evr }) ∧
  (∀ (s : State) (cls : Nat) (e : FltEntry), s.flt.active = some (cls, e) → e.left = some 0 → cls ≤ 3 →
    s.flt.queues.length = 5 → e.object < 2 ^ 24 → Runs (.ackTimeout cls) s fun t =>
    t.flt.queueOf cls = (s.flt.queueOf cls).drop 1 ∧ Raises t Src.FLT 6 ∧
    (HasRoom s → HasRecord s t Src.FLT 0x050F e.object) ∧ SameMemory s t) ∧
  (∀ (s : State) (r : Req) (ms : Nat), r.test = false → 10 ≤ ms → ms < 2 ^ 16 → s.flag F.FLT.WDOG_CTL.EN = false →
    Runs (.wdogEnable r (fieldWord F.FLT.WDOG_CTL.EN 1 ||| fieldWord F.FLT.WDOG_CTL.TIMEOUT_MS ms)) s fun t =>
    t.flag F.FLT.WDOG_CTL.EN = true ∧ t.fld F.FLT.WDOG_CTL.TIMEOUT_MS = ms ∧ SameRegs [F.FLT.WDOG_CTL.EN.addr] s t ∧
    t = { s with regs := t.regs }) ∧
  (∀ (s : State) (r : Req), r.test = false → s.flt.wdogStage ≠ 0 → Runs (.wdogKick r 0x574B) s fun t =>
    t.flt = { s.flt with wdogStage := 1, wdogRun := 0 } ∧ SameRegs [] s t ∧ t = { s with flt := t.flt, regs := t.regs }) ∧
  (∀ s : State, s.flt.wdogStage = 1 → s.wdogPeriod ≤ s.flt.wdogRun → Runs .wdogStage1 s fun t =>
    t.flt.wdogStage = 2 ∧ t.flt.wdogRun = 0 ∧ Raises t Src.FLT 3 ∧ Raises t Src.FLT 8 ∧
    (HasRoom s → HasRecord s t Src.FLT 0x050E (Src.FLT * 2 ^ 16)) ∧ SameMemory s t) ∧
  (∀ s : State, s.flt.wdogStage = 2 → s.wdogPeriod ≤ s.flt.wdogRun → Runs .watchdogReset s fun t =>
    .reset .watchdog ∈ t.tck.latches ∧ (∀ i ∈ s.tck.latches, i ∈ t.tck.latches) ∧
    t = { s with tck := { s.tck with latches := t.tck.latches } }) ∧
  (∀ (s : State) (source lane : Nat), source ∈ [Src.CMP, Src.CIP, Src.DGS, Src.RDN, Src.HPT] →
    Runs (.laneStall source lane) s fun t =>
    t = { s with flt := { s.flt with reports := t.flt.reports } } ∧ t.flt.reports = s.flt.reports ++
      [{ code := 0x0507, source := source, unit := lane, arg1 := 0, injected := false, fromClass := 0 }]) ∧
  (∀ s : State, Runs .boundaryWatchdog s fun t =>
    t = { s with flt := { s.flt with reports := t.flt.reports } } ∧ t.flt.reports = s.flt.reports ++
      [{ code := 0x050B, source := Src.TCK, unit := 0, arg1 := 0, injected := false, fromClass := 0 }]) ∧
  (∀ (s : State) (r : Req) (code source unit : Nat), r.test = false → s.mayInject = true → 0x0501 ≤ code → code ≤ 0x0511 →
    source < 256 → unit < 2 ^ 16 →
    Runs (.fltInject r (BitVec.ofNat 64 (code * 2 ^ 48 + source * 2 ^ 40 + unit * 2 ^ 24))) s fun t =>
    t.flt = { s.flt with reports := s.flt.reports ++
      [{ code := code, source := source, unit := unit, arg1 := 0, injected := true, fromClass := 0 }] } ∧
    SameRegs [] s t ∧ t = { s with flt := t.flt, regs := t.regs })

/-- The chain, the marks of the filters, and the lever. -/
def Obligations.ChainFiltersAndLever : Prop :=
  (∀ (s : State) (slots : List Nat), s.tck.ticking = true → s.now % 512 = 464 → s.bay.primed = true →
    s.bay.parts = s.fld F.BAY.CONFIG.PARTS → (∀ b, b < s.bays → slots.getD b 0 / 32 % 8 = 5) →
    Runs (.chainRefresh slots) s fun t =>
    t.bay.sample = some (slots.take s.bays) ∧ t.bay.badRun = 0 ∧ t.flag F.BAY.STATUS.CHAIN_OK = true ∧
    SameMemory s t ∧ t = { s with bay := t.bay, regs := t.regs, out := t.out }) ∧
  (∀ (s : State) (slots : List Nat) (b : Nat), s.tck.ticking = true → s.now % 512 = 464 → s.bay.primed = true →
    s.bay.parts = s.fld F.BAY.CONFIG.PARTS → b < s.bays → slots.getD b 0 / 32 % 8 ≠ 5 → Runs (.chainRefresh slots) s fun t =>
    t.bay.sample = none ∧ t.bay.badRun = s.bay.badRun + 1 ∧
    (s.bay.badRun = 7 → t.flag F.BAY.STATUS.CHAIN_OK = false ∧ Raises t Src.BAY 7)) ∧
  (∀ (s : State) (i : Nat), isButton i = true → i < 1026 → (s.filt i).filtered = true → (s.filt i).stuck = false →
    (s.filt i).activeSince + s.ticksIn (s.fld F.BAY.FILT.STUCK_S * 1000000) ≤ s.now → Runs (.buttonStuck i) s fun t =>
    t.filt i = { s.filt i with stuck := true } ∧ (∀ j, j ≠ i → t.filt j = s.filt j) ∧
    Signals s t Src.BAY 4 (inputUnit i) ∧ t = { s with bay := t.bay, regs := t.regs, evr := t.evr }) ∧
  (∀ (s : State) (i : Nat), (s.filt i).chatter = true →
    (s.filt i).lastChange + s.ticksIn (s.fld F.BAY.FILT.HOLDOFF_S * 1000000) ≤ s.now → Runs (.chatterClear i) s fun t =>
    t.filt i = { s.filt i with chatter := false, count := 0, changes := [] } ∧ (∀ j, j ≠ i → t.filt j = s.filt j) ∧
    t = { s with bay := { s.bay with inputs := t.bay.inputs } }) ∧
  (∀ (s : State) (r : Req) (bay : Nat), r.test = false → bay < 96 → Runs (.qclr r bay) s fun t =>
    t.flag (F.BAY.BAY_STATUS.QUAR.nth bay) = false ∧ Tab.find t.bay.presence bay = none ∧
    t.fld (F.BAY.BAY_CTL.LOCATE.nth bay) = s.fld (F.BAY.BAY_CTL.LOCATE.nth bay) ∧
    t.fld (F.BAY.BAY_CTL.FAULT_SW.nth bay) = s.fld (F.BAY.BAY_CTL.FAULT_SW.nth bay) ∧
    SameRegs [(F.BAY.BAY_CTL.QCLR.nth bay).addr, (F.BAY.BAY_STATUS.QUAR.nth bay).addr] s t ∧
    t = { s with bay := { s.bay with presence := t.bay.presence }, regs := t.regs }) ∧
  (∀ s : State, s.bay.leverRaw = true → s.leverSteady = true → s.flag F.BAY.LEVER.OPEN = false → Runs .leverOpen s fun t =>
    t.flag F.BAY.LEVER.OPEN = true ∧ t.flag F.BAY.LEVER.LATCHED = true ∧ t.tck.latches = s.tck.latches ++ [.leverOpen] ∧
    SameRegs [F.BAY.LEVER.OPEN.addr] s t ∧ t = { s with tck := t.tck, regs := t.regs }) ∧
  (∀ s : State, s.bay.leverRaw = false → s.leverSteady = true → s.flag F.BAY.LEVER.OPEN = true → Runs .leverClose s fun t =>
    t.flag F.BAY.LEVER.OPEN = false ∧ t.fld F.BAY.LEVER.LATCHED = s.fld F.BAY.LEVER.LATCHED ∧
    Signals s t Src.BAY 8 0x80 ∧ t.tck = s.tck ∧ t = { s with regs := t.regs, evr := t.evr })

/-- R529: what the chain carries first. Its words are 64 bits each, one for each of the N parts. -/
def Obligations.ChainZerosFirstAfterReset : Prop :=
  (∀ s : State, s.coldReset.bay.primed = false) ∧ (∀ (s : State) (k : ResetKind), (s.performReset k).bay.primed = false) ∧
  (∀ (s : State) (slots : List Nat), s.tck.ticking = true → s.now % 512 = 464 → s.bay.primed = false →
    s.lcs.mode ≠ .powerFailDrain → Runs (.chainRefresh slots) s fun t =>
    t.bay.primed = true ∧ t.out = s.out ++ [.chain (List.replicate (s.fld F.BAY.CONFIG.PARTS) 0),
      .chain (chainWords s.bay.leds (s.fld F.BAY.CONFIG.PARTS))]) ∧
  (∀ (s : State) (slots : List Nat), s.tck.ticking = true → s.now % 512 = 464 → s.bay.primed = true →
    s.lcs.mode ≠ .powerFailDrain → Runs (.chainRefresh slots) s fun t =>
    t.out = s.out ++ [.chain (chainWords s.bay.leds (s.fld F.BAY.CONFIG.PARTS))])

/-- The rows of rank 12 (R537), outside Power-Fail Drain. -/
def Obligations.PanelInputsAreActedOn : Prop :=
  (∀ (s : State) (bay : Nat), bay < 96 → s.dueNow (bayInput bay 0) = true → Runs (.presenceChange bay) s fun t =>
    (t.filt (bayInput bay 0)).due = false ∧
    (t.filt (bayInput bay 0)).reported = (s.filt (bayInput bay 0)).filtered ∧ Raises t Src.BAY 0 ∧
    SameMemory s t ∧ t = { s with bay := t.bay, regs := t.regs, evr := t.evr }) ∧
  (∀ (s : State) (bay : Nat), bay < 96 → s.dueNow (bayInput bay 2) = true → (s.filt (bayInput bay 2)).filtered = true →
    Runs (.latchOpen bay) s fun t =>
    (t.filt (bayInput bay 2)).due = false ∧ (t.filt (bayInput bay 2)).reported = true ∧ Raises t Src.BAY 1 ∧
    (s.lcs.mode ≠ .powerFailDrain → (s.port bay).state = .up → bay ∈ t.bay.latchWarn) ∧
    t = { s with bay := t.bay, regs := t.regs, evr := t.evr }) ∧
  (∀ (s : State) (bay : Nat), bay < 96 → s.dueNow (bayInput bay 2) = true → (s.filt (bayInput bay 2)).filtered = false →
    Runs (.latchClose bay) s fun t =>
    (t.filt (bayInput bay 2)).due = false ∧ (t.filt (bayInput bay 2)).reported = false ∧ Raises t Src.BAY 1 ∧
    bay ∉ t.bay.latchWarn ∧ t = { s with bay := t.bay, regs := t.regs, evr := t.evr }) ∧
  (∀ (s : State) (bay : Nat), bay < 96 → s.dueNow (bayInput bay 1) = true → Runs (.attentionPress bay) s fun t =>
    (t.filt (bayInput bay 1)).due = false ∧ Raises t Src.BAY 2 ∧
    (s.lcs.mode ≠ .powerFailDrain → s.flag F.BAY.CTL.ATTN_LOCATE = true → t.fld (F.BAY.BAY_CTL.LOCATE.nth bay) =
      if s.fld (F.BAY.BAY_CTL.LOCATE.nth bay) = 0 then 2 else 0) ∧
    t = { s with bay := t.bay, regs := t.regs, evr := t.evr }) ∧
  (∀ s : State, s.dueNow 1024 = true → Runs .powerButtonRelease s fun t =>
    (t.filt 1024).due = false ∧ Raises t Src.BAY 3 ∧ t = { s with bay := t.bay, regs := t.regs, evr := t.evr }) ∧
  (∀ s : State, s.dueNow 1025 = true → Runs .serviceButtonPress s fun t =>
    (t.filt 1025).due = false ∧ Raises t Src.BAY 3 ∧
    (s.lcs.mode ≠ .powerFailDrain → t.fld F.BAY.HEAD_LED.IDENT = 1 - s.fld F.BAY.HEAD_LED.IDENT) ∧
    t = { s with bay := t.bay, regs := t.regs, evr := t.evr }) ∧
  (∀ s : State, (s.filt 1024).filtered = true → (s.filt 1024).longDone = false → (s.filt 1024).stuck = false →
    s.panelDeferred = false → (s.filt 1024).activeSince + s.ticksIn (s.fld F.BAY.CTL.LONG_S * 1000000) ≤ s.now →
    s.lcs.mode ≠ .dualActive → Runs .powerButtonLong s fun t =>
    (t.filt 1024).longDone = true ∧ Raises t Src.BAY 3 ∧ t = { s with bay := t.bay, regs := t.regs, evr := t.evr })

/-- The rows of APC and MEM. -/
def Obligations.CoresInterruptsAndMemoryRows : Prop :=
  (∀ (s : State) (r : Req) (v : Word), r.test = false → Runs (.coreRunWrite r v) s fun t =>
    t.fld F.APC.CORE_RUN.RUN = v.toNat % 2 ^ 48 ∧
    (∀ n, n < 48 → v.toNat.testBit n = true → s.coreRuns n = false →
      Tab.find t.apc.started n = some (s.fld F.APC.RESET_VEC.ADDR * 4) ∧ (∀ m ∈ t.apc.files, m.core ≠ n)) ∧
    (∀ n, n < 48 → v.toNat.testBit n = false → s.coreRuns n = true → Tab.find t.apc.started n = none) ∧
    SameRegs [F.APC.CORE_RUN.RUN.addr] s t ∧ t = { s with apc := t.apc, regs := t.regs }) ∧
  (∀ (s : State) (r : Req) (n : Nat), r.test = false → n < 1024 →
    Runs (.irqEoi r (fieldWord F.APC.IRQ_EOI.SOURCE n)) s fun t =>
    t.flag (F.APC.IRQ_ROUTE.IN_SERVICE.nth n) = false ∧
    OnlyBits 62 62 (s.reg (F.APC.IRQ_ROUTE.EN.nth n).addr) (t.reg (F.APC.IRQ_ROUTE.EN.nth n).addr) ∧
    SameRegs [(F.APC.IRQ_ROUTE.EN.nth n).addr] s t ∧ t = { s with regs := t.regs }) ∧
  (∀ (s : State) (n : Nat), n < 48 → s.coreRuns n = true → s.fld (F.APC.MTIMECMP.CMP.nth n) ≤ s.apc.mtime →
    Runs (.machineTimer n) s fun t => n ∈ t.apc.timerCores ∧ (∀ m ∈ s.apc.timerCores, m ∈ t.apc.timerCores) ∧
      t = { s with apc := { s.apc with timerCores := t.apc.timerCores } }) ∧
  (∀ (s : State) (gen width : Nat), s.flag F.APC.PCIE_CTL.EN = true → s.flag F.APC.PCIE_CTL.PERST = false → 1 ≤ gen →
    gen ≤ s.fld F.APC.PCIE_CTL.MAX_GEN → gen ≤ 5 → (width = 1 ∨ width = 2 ∨ width = 4) → s.flag F.APC.PCIE_STATUS.UP = false →
    Runs (.pcieLinkUp gen width) s fun t =>
    t.flag F.APC.PCIE_STATUS.UP = true ∧ t.fld F.APC.PCIE_STATUS.GEN = gen ∧ t.fld F.APC.PCIE_STATUS.WIDTH = width ∧
    Signals s t Src.APC 0 0 ∧ SameRegs (F.APC.PCIE_STATUS.UP.addr :: eventRegs Src.APC) s t ∧
    t = { s with regs := t.regs, evr := t.evr }) ∧
  (∀ s : State, s.flag F.APC.PCIE_STATUS.UP = true → Runs .pcieLinkDown s fun t =>
    t.flag F.APC.PCIE_STATUS.UP = false ∧ t.fld F.APC.PCIE_STATUS.GEN = 0 ∧ t.fld F.APC.PCIE_STATUS.WIDTH = 0 ∧
    t.apc = { s.apc with intx := 0 } ∧ Signals s t Src.APC 1 0 ∧
    SameRegs (F.APC.PCIE_STATUS.UP.addr :: eventRegs Src.APC) s t ∧ t = { s with apc := t.apc, regs := t.regs, evr := t.evr }) ∧
  (∀ (s : State) (addr : Nat) (bytes : List Byte), s.flag F.APC.PCIE_STATUS.UP = true → addr ≠ msiTarget →
    bytes.length ≤ 512 → s.memOk pcieReq addr bytes.length = true → Runs (.pcieInboundRequest (.write addr bytes)) s fun t =>
    (∀ i, i < bytes.length → t.byte (addr + i) = bytes.getD i 0) ∧
    (∀ a, a < addr ∨ addr + bytes.length ≤ a → t.byte a = s.byte a) ∧ t = { s with mem := t.mem }) ∧
  (∀ (s : State) (addr len : Nat), s.flag F.APC.PCIE_STATUS.UP = true → len ≤ 4096 → s.memOk pcieReq addr len = true →
    exec (.pcieInboundRequest (.read addr len)) s = .next (s.send (.pcieCompletion (some (s.load addr len))))) ∧
  (∀ (s : State) (n : Nat), s.flag F.APC.PCIE_STATUS.UP = true → n < 32 →
    Runs (.pcieInboundRequest (.write msiTarget (leBytes 4 n))) s fun t =>
    t.flag (F.APC.IRQ_ROUTE.PENDING.nth (160 + n)) = true ∧ SameMemory s t ∧ t = { s with regs := t.regs }) ∧
  (∀ s : State, s.memc.filling = true → Runs .memFillDone s fun t =>
    t.memc = { s.memc with filling := false, scrubSince := s.now } ∧ t.flag F.MEM.STATUS.FILL_DONE = true ∧
    Signals s t Src.MEM 0 0 ∧ SameMemory s t ∧ t = { s with memc := t.memc, regs := t.regs, evr := t.evr }) ∧
  (∀ s : State, s.flag F.MEM.STATUS.FILL_DONE = true →
    s.memc.scrubSince + s.ticksIn (s.fld F.MEM.SCRUB_CTL.SCRUB_H * 3600000000) ≤ s.now → Runs .scrubPass s fun t =>
    t.memc = { s.memc with scrubSince := s.now } ∧ Signals s t Src.MEM 3 0 ∧ SameMemory s t ∧
    t = { s with memc := t.memc, regs := t.regs, evr := t.evr })

/-- The rows of the MCTP endpoint; the control layout is PRESUMED (DSP0236). -/
def Obligations.ManagementEndpointRows : Prop :=
  (∀ (s : State) (m : ManagementMessage), s.flag F.APC.MCTP_CFG.EN = true → m.framed = true → m.bytes.length ≤ 8176 →
    (m.bytes.getD 0 0).toNat = 4 → m.bytes ≠ [] → Runs (.managementMessage m) s fun t =>
    t.tck.latches = s.tck.latches ++ [.management m] ∧ SameRegs [(F.APC.STAT.COUNT.nth 2).addr] s t ∧
    t = { s with tck := t.tck, regs := t.regs }) ∧
  (∀ (s : State) (m : ManagementMessage), s.flag F.APC.MCTP_CFG.EN = true → m.framed = false →
    Runs (.managementMessage m) s fun t =>
    t.tck.latches = s.tck.latches ∧ Signals s t Src.APC 5 0 ∧ t = { s with regs := t.regs, evr := t.evr }) ∧
  (∀ (s : State) (eid tag : Nat), s.flag F.APC.MCTP_CFG.EN = true → s.lcs.mode ≠ .powerFailDrain →
    Runs (.mctpControlMessage ⟨eid, tag, [0, 0x80, 2], true⟩) s fun t =>
    t.out = s.out ++ [.mctp ⟨eid, tag % 8, [0, 0, 2, 0, BitVec.ofNat 8 (s.fld F.APC.MCTP_CFG.EID), 0, 0]⟩] ∧
    t.fld F.APC.MCTP_CFG.EID = s.fld F.APC.MCTP_CFG.EID ∧ SameMemory s t) ∧
  (∀ (s : State) (addr : Nat) (fromStatic : Bool), s.flag F.APC.MCTP_CFG.EN = true →
    (fromStatic = true ∨ s.apc.dynamicAddr = none) →
    exec (.dynamicAddressAssignment addr fromStatic) s = .next { s with apc := { s.apc with dynamicAddr := some (addr % 128) } }) ∧
  (∀ (s : State) (r : Req) (n : Nat), r.test = false → n < 2 ^ 16 → s.flag F.APC.MCTP_CFG.EN = false →
    Runs (.mctpTx r (fieldWord F.APC.MCTP_TX_IDX.PROD n)) s fun t =>
    t.fld F.APC.MCTP_TX_IDX.PROD = n ∧ t.fld F.APC.MCTP_TX_IDX.CONS = s.fld F.APC.MCTP_TX_IDX.CONS ∧
    SameRegs [F.APC.MCTP_TX_IDX.PROD.addr] s t ∧ t = { s with regs := t.regs }) ∧
  (∀ (s : State) (r : Req) (n : Nat) (b : List Byte), r.test = false → n < 2 ^ 16 → s.flag F.APC.MCTP_CFG.EN = true →
    s.flag F.APC.MCTP_TX_BASE.EN = true → n = (s.fld F.APC.MCTP_TX_IDX.CONS + 1) % 2 ^ 16 →
    s.loadBy Src.APC (s.fld F.APC.MCTP_TX_BASE.ADDR * 2 ^ 17 + s.fld F.APC.MCTP_TX_IDX.CONS % 16 * 8192) 8192 = some b →
    leNat (b.take 2) = 3 → (b.getD 16 0).toNat < 128 → s.lcs.mode ≠ .powerFailDrain →
    Runs (.mctpTx r (fieldWord F.APC.MCTP_TX_IDX.PROD n)) s fun t =>
    t.out = s.out ++ [.mctp ⟨(b.getD 2 0).toNat, (b.getD 3 0).toNat % 16, (b.drop 16).take 3⟩] ∧
    t.fld F.APC.MCTP_TX_IDX.CONS = n ∧ t.flag (F.APC.IRQ_ROUTE.PENDING.nth 130) = true ∧
    SameBlocks [Src.APC, Src.EVR] s t ∧ t = { s with regs := t.regs, evr := t.evr, out := t.out })

/-- The rows of the write path, chunk by chunk, and how work ends on its lane (R25, R26, R72): when it is the next of the lane and its
cycles are left in the tick. How units of a cut and whole passes are charged is the model's choice (assumption 51). -/
def Obligations.WritePathChunkSteps : Prop :=
  (∀ (s : State) (e : Eng) (lane cycles : Nat) (task : LaneTask),
    let left := cycles - ((s.cutOf e lane task).map CutSlot.spent).getD 0
    ((s.atFront e lane task = false ∨ s.tickCycles < (s.lanes.of e).spent lane + left) → s.laneEnd e lane task cycles = none) ∧
    (s.atFront e lane task = true → (s.lanes.of e).spent lane + left ≤ s.tickCycles → ∃ t, s.laneEnd e lane task cycles = some t ∧
      t = { s with lanes := t.lanes } ∧ (t.lanes.of e).spent lane = (s.lanes.of e).spent lane + left ∧
      (∀ l, l ≠ lane → (t.lanes.of e).spent l = (s.lanes.of e).spent l) ∧ t.cutOf e lane task = none ∧
      (∀ d, d ≠ e → t.lanes.of d = s.lanes.of d) ∧ t.lanes.rdn = s.lanes.rdn)) ∧
  (∀ (s : State) (n : Nat) (j : ChunkJob), s.job n = some j → j.stage = .cut → j.since < s.now → s.zeroChunk j.content = true →
    Runs (.fingerprintDone n false) s fun t =>
    t.job n = some { j with stage := .zero } ∧ (∀ m, m ≠ n → t.job m = s.job m) ∧
    t = { s with rdx := { s.rdx with chunks := t.rdx.chunks } }) ∧
  (∀ (s s1 : State) (n : Nat) (j : ChunkJob) (k : KeySlot), s.job n = some j → j.stage = .cut → j.since < s.now →
    s.zeroChunk j.content = false → s.digestKey = some k → s.writeEnd .dgs n j (16 * hmacBlocks j.content.length) = some s1 →
    Runs (.fingerprintDone n false) s fun t =>
    t.job n = some { j with
      stage := .fingerprinted, fingerprint := BitVec.ofNat 256 (beNat (hmacSha256 k.key j.content)),
      dkey := s.fld F.RDX.CONFIG.DKEY, lane := none, since := s.now } ∧ (∀ m, m ≠ n → t.job m = s.job m) ∧
    SameRegs [(F.DGS.STAT.COUNT.nth 0).addr] s t ∧
    t = { s with lanes := s1.lanes, rdx := { s.rdx with chunks := t.rdx.chunks }, regs := t.regs }) ∧
  (∀ (s : State) (n c : Nat) (j : ChunkJob), s.job n = some j → j.stage = .cut → j.since < s.now → s.zeroChunk j.content = false →
    s.digestKey = none → j.cmd = some c → Runs (.fingerprintDone n false) s fun t => t = s.failWrite c 0x7C1 ∧
    (∀ p ∈ t.rdx.chunks, p.2.cmd ≠ some c) ∧ (∀ d, t.cmd c = some d → d.stage = .finished ∧ d.status = 0x7C1)) ∧
  (∀ (s : State) (n c : Nat) (j : ChunkJob), s.job n = some j → j.stage = .cut → j.since < s.now → j.cmd = some c →
    Runs (.fingerprintDone n true) s fun t => t = s.failWrite c 0x280 ∧
    (∀ p ∈ t.rdx.chunks, p.2.cmd ≠ some c) ∧ (∀ d, t.cmd c = some d → d.stage = .finished ∧ d.status = 0x280)) ∧
  (∀ (s : State) (n c : Nat) (j : ChunkJob) (d : Cmd) (x : Ns) (s1 : State), s.job n = some j → j.stage = .fingerprinted →
    j.since < s.now → s.lookupOutOfTurn n j = false → j.cmd = some c → s.cmd c = some d → d.ns = some x →
    s.resolveKey 0 x.keySlot = (none, s1) → Runs (.sporebankLookup n) s fun t =>
    t = (s1.count F.CIP.STAT.COUNT 10 (s.jobsOf c).length).failWrite c 0x7C0 ∧
    (∀ p ∈ t.rdx.chunks, p.2.cmd ≠ some c) ∧ (∀ d, t.cmd c = some d → d.stage = .finished ∧ d.status = 0x7C0)) ∧
  (∀ (s : State) (n c : Nat) (j : ChunkJob) (d : Cmd) (x : Ns) (s1 : State) (slot steps : Nat), s.job n = some j →
    j.stage = .fingerprinted → j.since < s.now → s.lookupOutOfTurn n j = false → j.cmd = some c → s.cmd c = some d →
    d.ns = some x → s.resolveKey 0 x.keySlot = (some (slot, steps), s1) → s.flag F.RDX.CONFIG.DEDUPE_EN = false →
    s.vsetSide x.vset = s.ftl.side → Runs (.sporebankLookup n) s fun t =>
    (∃ j', t.job n = some j' ∧ j'.stage = .missed ∧ j'.addr = s.ftl.side * 2 ^ 47 + s.ftl.nextChunk ∧ j'.keySlot = slot ∧
      j'.keyId = (match s1.slot 0 slot with | some k => k.keyId | none => 0) ∧ j'.content = j.content ∧ j'.since = s.now) ∧
    (∀ m, m ≠ n → t.job m = s.job m) ∧ t.ftl.nextChunk = s.ftl.nextChunk + 1 ∧ t.rdx.hot = s.rdx.hot ∧
    t.rdx.mergeQueue = s.rdx.mergeQueue ∧ SameRegs [] s t) ∧
  (∀ (s : State) (n c : Nat) (j : ChunkJob) (d : Cmd) (x : Ns) (s1 : State) (slot steps : Nat) (e : HotEntry),
    s.job n = some j → j.stage = .fingerprinted → j.since < s.now → s.lookupOutOfTurn n j = false → j.cmd = some c →
    s.cmd c = some d → d.ns = some x → s.resolveKey 0 x.keySlot = (some (slot, steps), s1) →
    s.flag F.RDX.CONFIG.DEDUPE_EN = true → j.driven = false → s.rdx.isWarm j.fingerprint = true →
    s.lookupHit j (match s1.slot 0 slot with | some k => k.keyId | none => 0) (s.vsetSide x.vset) = some e →
    Runs (.sporebankLookup n) s fun t =>
    (∃ j', t.job n = some j' ∧ j'.stage = (if e.isPend then .pendingHit else .hit) ∧ j'.addr = e.addr ∧
      j'.keySlot = slot ∧ j'.content = j.content) ∧ (∀ m, m ≠ n → t.job m = s.job m) ∧
    t.ftl.nextChunk = s.ftl.nextChunk ∧ t.ftl.journal = s.ftl.journal ∧ t.rdx.mergeQueue = s.rdx.mergeQueue ∧
    t.rdx.nextChunk = s.rdx.nextChunk) ∧
  (∀ (s : State) (n c : Nat) (j : ChunkJob) (d : Cmd) (x : Ns) (s1 : State) (slot steps : Nat),
    s.job n = some j → j.stage = .fingerprinted → j.since < s.now → s.lookupOutOfTurn n j = false → j.cmd = some c →
    s.cmd c = some d → d.ns = some x → s.resolveKey 0 x.keySlot = (some (slot, steps), s1) →
    s.flag F.RDX.CONFIG.DEDUPE_EN = true → j.driven = true → s.vsetSide x.vset = s.ftl.side →
    Runs (.sporebankLookup n) s fun t =>
    (∃ j', t.job n = some j' ∧ j'.stage = .missed ∧ j'.addr = s.ftl.side * 2 ^ 47 + s.ftl.nextChunk ∧ j'.keySlot = slot ∧
      j'.content = j.content) ∧ (∀ m, m ≠ n → t.job m = s.job m) ∧ t.ftl.nextChunk = s.ftl.nextChunk + 1) ∧
  (∀ (s s1 : State) (n : Nat) (probe frame : List Byte) (j : ChunkJob), s.job n = some j → j.stage = .missed →
    let w := j.cmpConfig
    let len := j.content.length
    let why := rawReasonOf w len probe.length frame.length
    (why = 0 → chunkFrame (cfgFld w F.CMP.CONFIG.CSUM_EN == 1) j.content frame = true) →
    (cfgFld w F.CMP.CONFIG.COMP_EN = 1 → probeOf w ≠ 0 → probeOf w < len → probeEncodes (probeOf w) j.content probe = true) →
    ((j.cmpLane.bind (fun l => s.cutOf .cmp l (s.writeTask n j))).any CutSlot.hashing = true → why = 1 ∨ why = 3) →
    s.writeEnd .cmp n j (packedCycles w len why) = some s1 →
    Runs (.chunkCompressDone n probe frame) s fun t =>
    (∃ l, t.job n = some { j with
      stage := .compressed, raw := why != 0, payload := if why = 0 then frame else j.content,
      contentCheck := contentCheckOf j.content, lane := l, since := s.now }) ∧ (∀ m, m ≠ n → t.job m = s.job m) ∧
    SameRegs [(F.CMP.STAT.COUNT.nth why).addr] s t ∧
    t = { s with lanes := s1.lanes, rdx := { s.rdx with chunks := t.rdx.chunks }, regs := t.regs }) ∧
  (∀ (s s1 : State) (n : Nat) (j : ChunkJob) (k : KeySlot), s.job n = some j → (j.stage = .compressed ∨ j.stage = .waitKey) →
    j.since < s.now → s.allLookedUp j.cmd = true → s.slot 0 j.keySlot = some k → k.keyId = j.keyId → k.mayUse 0 = true →
    (s.invoke 0 j.keySlot 0x44).2.writeEnd .cip n j (gcmCycles 80 j.payload.length) = some s1 →
    let iv := ivOf 0x44 s.tck.headSlot 0 k.next
    let h := headerBytes j.raw j.content.length j.payload.length j.keyId iv j.contentCheck j.fingerprint.toNat j.dkey
      (s.fld F.FRN.EPOCH.EPOCH) (s.rdx.writeSeq + 1)
    let x := gcmCrypt k.key iv j.payload
    Runs (.chunkEncryptDone n false) s fun t =>
    t.job n = some { j with
      stage := .encrypted, lane := none, header := h, payload := x, since := s.now,
      tag := BitVec.ofNat 128 (leNat (gcmTag k.key iv h x)) } ∧
    (∀ m, m ≠ n → t.job m = s.job m) ∧ t.rdx.writeSeq = s.rdx.writeSeq + 1 ∧ t.lanes = s1.lanes ∧
    (t.slot 0 j.keySlot).map KeySlot.next = some (k.next + 1)) ∧
  (∀ (s : State) (n : Nat) (j : ChunkJob) (k : KeySlot), s.job n = some j → j.stage = .compressed → j.since < s.now →
    s.allLookedUp j.cmd = true → s.slot 0 j.keySlot = some k → k.keyId = j.keyId → k.mayUse 0 = false →
    Runs (.chunkEncryptDone n false) s fun t =>
    t.job n = some { j with stage := .waitKey } ∧ (∀ m, m ≠ n → t.job m = s.job m) ∧ Signals s t Src.CIP 7 j.keySlot ∧
    t = { s with rdx := { s.rdx with chunks := t.rdx.chunks }, regs := t.regs, evr := t.evr }) ∧
  (∀ (s : State) (n c : Nat) (j : ChunkJob), s.job n = some j → (j.stage = .compressed ∨ j.stage = .waitKey) → j.since < s.now →
    s.allLookedUp j.cmd = true → j.cmd = some c → exec (.chunkEncryptDone n true) s = .next (s.failWrite c 0x280))

/-- The choice of R84 to R86, which CHUNK_COMPRESS_DONE makes. -/
def Obligations.RawChunkRules : Prop :=
  ∀ (s : State) (len e f : Nat),
    (s.flag F.CMP.CONFIG.COMP_EN = false → s.rawReason len e f = 3) ∧
    (s.flag F.CMP.CONFIG.COMP_EN = true → 0 < s.probeLen → s.probeLen < len →
      s.fld F.CMP.CONFIG.PROBE_THR * s.probeLen < 16 * e → s.rawReason len e f = 1) ∧
    (s.flag F.CMP.CONFIG.COMP_EN = true →
      (s.probeLen = 0 ∨ len ≤ s.probeLen ∨ 16 * e ≤ s.fld F.CMP.CONFIG.PROBE_THR * s.probeLen) →
      (s.rawReason len e f = 0 ↔ f ≤ len - len / 2 ^ s.fld F.CMP.CONFIG.SAVE_SHIFT) ∧
      (s.rawReason len e f = 2 ↔ len - len / 2 ^ s.fld F.CMP.CONFIG.SAVE_SHIFT < f)) ∧
    (s.fld F.CMP.CONFIG.PROBE = 0 → s.probeLen = 0) ∧ (s.fld F.CMP.CONFIG.PROBE = 1 → s.probeLen = 1024) ∧
    (s.fld F.CMP.CONFIG.PROBE = 2 → s.probeLen = 2048) ∧ (s.fld F.CMP.CONFIG.PROBE = 3 → s.probeLen = 4096)

/-- The cut of R47, for granules given in order with their bytes. -/
def Obligations.CuttingKeepsEveryGranule : Prop :=
  ∀ (c : Nat) (gs : List (Nat × List Byte)), 0 < c →
    ((cutWindows c gs []).flatMap (fun p => p.2.zipIdx.map (fun q => (p.1 + q.2, q.1))) = gs) ∧
    (∀ p ∈ cutWindows c gs [], p.2 ≠ [] ∧ ∀ i, i < p.2.length → (p.1 + i) / c = p.1 / c)

/-- Rows of the data path that follow a chunk or a command. Where a copy placed again is named when its record is formed already,
and which slot a loaded entry takes, are the model's choices (assumptions 13 and 59). -/
def Obligations.DataPathFollowingSteps : Prop :=
  (∀ (s : State) (key : Nat) (c : Cmd), s.cmd key = some c → c.stage = .fetching → Runs (.rdmaReadDone key false) s fun t =>
    t.cmd key = some { c with stage := .finished, status := 4, dw0 := 0 } ∧ (∀ k, k ≠ key → t.cmd k = s.cmd k) ∧
    t = { s with cmf := { s.cmf with cmds := t.cmf.cmds } }) ∧
  (∀ (s : State) (key : Nat) (c : Cmd), s.cmd key = some c → c.stage = .fetching → c.isConnect = true → 1024 ≤ c.data.length →
    Runs (.rdmaReadDone key true) s fun t =>
    t.cmd key = some { c with stage := .held, data := c.data.take 1024 } ∧ (∀ k, k ≠ key → t.cmd k = s.cmd k) ∧
    t = { s with cmf := { s.cmf with cmds := t.cmf.cmds } }) ∧
  (∀ (s : State) (key : Nat) (c : Cmd) (n : Ns), s.cmd key = some c → c.stage = .fetching → c.isConnect = false → c.ns = some n →
    c.required n.block ≤ c.data.length → s.isForwarded c = false →
    exec (.rdmaReadDone key true) s = .next ((s.modifyCmd key (fun c => { c with
      stage := .held, data := c.data.take (c.required n.block) })).resumeIo key)) ∧
  (∀ (s : State) (key : Nat) (c : Cmd) (n : Ns), s.cmd key = some c → c.stage = .fetching → c.isConnect = false → c.ns = some n →
    c.required n.block ≤ c.data.length → s.isForwarded c = true →
    exec (.rdmaReadDone key true) s = .next ((s.modifyCmd key (fun c => { c with
      stage := .held, data := c.data.take (c.required n.block) })).forwardCmd key)) ∧
  (∀ (s : State) (key : Nat) (c : Cmd) (n : Ns), s.cmd key = some c → c.stage = .fetching → c.isConnect = false → c.ns = some n →
    c.data.length < c.required n.block → exec (.rdmaReadDone key true) s = .next (s.finish key 4)) ∧
  (∀ s : State, exec .mossPlace s =
    .next (s.bothSides (fun (s : State) => ((s.placeAll s.toPlace.length).recordWrites).mossMarks))) ∧
  (∀ (s : State) (n : Nat) (ps : List (Nat × ChunkJob)) (j : ChunkJob), s.toPlace = (n, j) :: ps →
    s.placeGroup ((n, j) :: ps) = none → ∀ fuel, s.placeAll (fuel + 1) = (s.failChunk n).placeAll fuel) ∧
  (∀ s : State, s.other = none → s.toPlace = [] → exec .mossPlace s = .next s.recordWrites.mossMarks) ∧
  (∀ (s : State) (n copy : Nat) (j : ChunkJob), s.job n = some j → j.addr / 2 ^ 47 = s.ftl.side → j.stage = .placed → copy < 2 →
    j.again.testBit copy = true →
    s.mossOther 0 (pagesFor (j.units * 64) * 16384) (s.domain (keyPort (blockKeyOf (j.loc (1 - copy))))) = none →
    exec (.copyPlaceAgain n copy) s = .next (s.failChunk n)) ∧
  (∀ (s : State) (n copy : Nat) (j : ChunkJob) (d : Nat × Nat) (k : Nat) (s1 : State), s.job n = some j →
    j.addr / 2 ^ 47 = s.ftl.side → j.stage = .placed → copy < 2 → j.again.testBit copy = true → j.moves = none → j.recorded = false →
    s.mossOther 0 (pagesFor (j.units * 64) * 16384) (s.domain (keyPort (blockKeyOf (j.loc (1 - copy))))) = some d →
    s.openBlock 0 (pagesFor (j.units * 64) * 16384) d.1 d.2 = some (k, s1) → Runs (.copyPlaceAgain n copy) s fun t =>
    let u := s1.programChunks k copy [j.stored] [⟨n, 0, j.units * 64⟩] j.cmd.isSome
    (∀ x, u.2.job n = some x → ∃ y, t.job n = some y ∧ y.stage = x.stage ∧ y.again = x.again - 2 ^ copy ∧
      y.loc copy = placeOf k + u.1 / 64 ∧ y.loc (1 - copy) = x.loc (1 - copy))) ∧
  (∀ (s : State) (key : Nat) (c : Cmd), s.cmd key = some c → c.stage = .posted → c.isWrite = true →
    exec (.writeCompletion key) s = .next (s.transmitResponse key)) ∧
  (∀ (s : State) (key : Nat) (c : Cmd), s.cmd key = some c → c.stage = .posted → c.io = true → c.opcode = 2 →
    exec (.readCompletion key) s = .next (s.transmitResponse key)) ∧
  (∀ (s : State) (key : Nat) (c : Cmd), s.cmd key = some c → c.stage = .posted → c.fromPeer = none →
    (s.stampsHold c = false ∨ s.ready c.conn = none) →
    (s.transmitResponse key).cmd key = none ∧ (s.transmitResponse key).out = s.out ∧
    (∀ k, k ≠ key → (s.transmitResponse key).cmd k = s.cmd k) ∧
    SameRegs [(F.CMF.STAT.COUNT.nth 9).addr, (F.VCT.STAT.COUNT.nth 0).addr] s (s.transmitResponse key)) ∧
  (∀ (s : State) (m : MergeItem) (rest : List MergeItem), s.rdx.mergeQueue = m :: rest → s.flag F.RDX.MERGE_CTL.EN = true →
    s.granted Cls.mapWork = true → m.addr / 2 ^ 47 = s.ftl.side → Tab.find s.ftl.tables.chunks m.addr = none →
    s.chunkEntry m.addr = none → (∀ p ∈ s.rdx.chunks, p.2.addr ≠ m.addr) → Runs .merge s fun t =>
    t = { s.spendMeta with rdx := { s.rdx with mergeQueue := rest } }) ∧
  (∀ (s : State) (m : MergeItem) (rest : List MergeItem) (e : ChunkEntry) (older : Nat), s.rdx.mergeQueue = m :: rest →
    s.flag F.RDX.MERGE_CTL.EN = true → s.granted Cls.mapWork = true → m.addr / 2 ^ 47 = s.ftl.side →
    Tab.find s.ftl.tables.chunks m.addr = some e → Tab.find s.ftl.moves m.addr = none → e.state ≠ 3 → e.lost = false →
    s.olderChunk m e = some older →
    exec .merge s = .next { s.spendMeta with
      rdx := { s.rdx with mergeQueue := rest, merges := s.rdx.merges ++ [(m.addr, older)] } }) ∧
  (∀ (s : State) (newer older : Nat) (e o : ChunkEntry), newer / 2 ^ 47 = s.ftl.side →
    Tab.find s.ftl.tables.chunks newer = some e → Tab.find s.ftl.tables.chunks older = some o → e.state ≠ 3 → o.state ≠ 3 →
    s.finalChunk older = older → Tab.find s.ftl.moves newer = none →
    let t := s.closeMerge (newer, older)
    (∃ r ∈ t.ftl.journal, r.items = [.alias_ newer older (s.expectedCount newer)] ∧ r.jseq = s.ftl.jseq + 1) ∧
    (∀ n j, s.job n = some j → t.job n = some (j.redirect newer older))) ∧
  (∀ s : State, s.rdx.warm < 2 ^ 18 → s.granted Cls.mapWork = true → Runs .sbRegionLoad s fun t =>
    t.rdx.warm = s.rdx.warm + 1 ∧ (t.rdx.loading = true ↔ s.rdx.warm + 1 < 2 ^ 18) ∧
    (s.rdx.warm + 1 = 2 ^ 18 → Signals s t Src.RDX 0 0) ∧ (s.rdx.warm + 1 < 2 ^ 18 → SameRegs [] s t) ∧
    (∀ a e, Tab.find s.rdx.hot a = some e → Tab.find t.rdx.hot a = some e) ∧ t.ftl = s.ftl ∧ SameMemory s t) ∧
  (∀ (s : State) (p : Nat × ChunkEntry) (i : Nat), s.rdx.hot.all (fun h => h.2.addr != p.1) = true → i < 8 →
    (∀ k, k < i → (Tab.find s.rdx.hot (hotKey s.hotK p.2.fp k)).isSome = true) →
    Tab.find s.rdx.hot (hotKey s.hotK p.2.fp i) = none →
    ∃ e, Tab.find (s.loadEntry p).rdx.hot (hotKey s.hotK p.2.fp i) = some e ∧ e.addr = p.1 ∧ e.fpPart = fpPartOf p.2.fp ∧
      e.granules = p.2.granules ∧ e.isPend = false ∧ e.perm = p.2.perm ∧ e.lost = p.2.lost ∧ e.keyId = p.2.keyId ∧ e.age < 4) ∧
  (∀ (s : State) (nsid page : Nat), s.other = none → (Tab.find s.ftl.mapFetch (nsid * 2 ^ 64 + page)).isSome = true →
    Runs (.mapPageFetch nsid page) s fun t =>
    Tab.find t.ftl.mapFetch (nsid * 2 ^ 64 + page) = none ∧ (nsid * 2 ^ 64 + page) ∈ t.ftl.mapCached ∧
    t.ftl.journal = s.ftl.journal ∧ t.regs = s.regs ∧ SameMemory s t)

/-- The rows of the read path, and REWRAP; that a rewrap is charged to its lane as one pass is the model's choice (assumption 51). -/
def Obligations.ReadPathChunkSteps : Prop :=
  (∀ (s : State) (n : Nat) (r : ChunkRead) (busError : Bool), Tab.find s.rdx.reads n = some r → r.stage = .stored → r.since < s.now →
    (busError = true ∨ (readHeader r.stored).passes = false ∨ r.stored.length < 96 + (readHeader r.stored).storedLen) →
    exec (.chunkDecryptDone n busError) s = .next (s.integrityFailure n r)) ∧
  (∀ (s : State) (n : Nat) (r : ChunkRead), Tab.find s.rdx.reads n = some r → r.stage = .stored → r.since < s.now →
    (readHeader r.stored).passes = true → 96 + (readHeader r.stored).storedLen ≤ r.stored.length →
    s.slotOfId (readHeader r.stored).keyId = none →
    exec (.chunkDecryptDone n false) s = .next (s.endRead n r none 2 (readHeader r.stored).keyId)) ∧
  (∀ (s s1 : State) (n : Nat) (r : ChunkRead) (p : Nat × KeySlot), Tab.find s.rdx.reads n = some r → r.stage = .stored →
    r.since < s.now → (readHeader r.stored).passes = true → 96 + (readHeader r.stored).storedLen ≤ r.stored.length →
    s.slotOfId (readHeader r.stored).keyId = some p →
    s.readEnd .cip n r (gcmCycles 80 (readHeader r.stored).storedLen) = some s1 →
    gcmTag p.2.key (readHeader r.stored).iv (r.stored.take 80) ((r.stored.drop 96).take (readHeader r.stored).storedLen) =
      (r.stored.drop 80).take 16 → Runs (.chunkDecryptDone n false) s fun t =>
    (∃ l, Tab.find t.rdx.reads n = some { r with
      stage := .decrypted, cmpLane := l, since := s.now,
      payload := gcmCrypt p.2.key (readHeader r.stored).iv ((r.stored.drop 96).take (readHeader r.stored).storedLen) }) ∧
    (∀ m, m ≠ n → Tab.find t.rdx.reads m = Tab.find s.rdx.reads m) ∧ SameRegs [(F.CIP.STAT.COUNT.nth 1).addr] s t ∧
    t = { s with lanes := s1.lanes, rdx := { s.rdx with reads := t.rdx.reads }, regs := t.regs }) ∧
  (∀ (s s1 : State) (n : Nat) (r : ChunkRead) (p : Nat × KeySlot), Tab.find s.rdx.reads n = some r → r.stage = .stored →
    r.since < s.now → (readHeader r.stored).passes = true → 96 + (readHeader r.stored).storedLen ≤ r.stored.length →
    s.slotOfId (readHeader r.stored).keyId = some p →
    s.readEnd .cip n r (gcmCycles 80 (readHeader r.stored).storedLen) = some s1 →
    gcmTag p.2.key (readHeader r.stored).iv (r.stored.take 80) ((r.stored.drop 96).take (readHeader r.stored).storedLen) ≠
      (r.stored.drop 80).take 16 →
    exec (.chunkDecryptDone n false) s =
      .next (((s1.count F.CIP.STAT.COUNT 2).event Src.CIP 4 0 r.chunk).integrityFailure n r)) ∧
  (∀ (s s1 : State) (n : Nat) (r : ChunkRead) (b : List Byte), Tab.find s.rdx.reads n = some r → r.stage = .decrypted →
    r.since < s.now → s.readEnd .cmp n r (if (readHeader r.stored).raw then expandCycles true r.payload.length
      else expandCycles false (expandedLen (readHeader r.stored) r.payload)) = some s1 →
    expandCheck (readHeader r.stored) r.payload = (0, b) → Runs (.chunkExpandDone n) s fun t =>
    t = ((s1.onSide (r.chunk / 2 ^ 47) (fun u => u.queueRewrite r)).count F.CMP.STAT.COUNT
      (if (readHeader r.stored).raw then 5 else 4)).endRead n r (some b) 0 0 ∧
    (r.waiters = [] → Tab.find t.rdx.reads n = none ∧ (∀ m, m ≠ n → Tab.find t.rdx.reads m = Tab.find s.rdx.reads m) ∧
      SameRegs [(F.CMP.STAT.COUNT.nth (if (readHeader r.stored).raw then 5 else 4)).addr] s t ∧ SameMemory s t)) ∧
  (∀ (s s1 : State) (n : Nat) (r : ChunkRead) (bad : Nat) (b : List Byte), Tab.find s.rdx.reads n = some r →
    r.stage = .decrypted → r.since < s.now → s.readEnd .cmp n r (if (readHeader r.stored).raw then expandCycles true r.payload.length
      else expandCycles false (expandedLen (readHeader r.stored) r.payload)) = some s1 →
    expandCheck (readHeader r.stored) r.payload = (bad, b) → bad ≠ 0 →
    exec (.chunkExpandDone n) s =
      .next (((s1.count F.CMP.STAT.COUNT (5 + bad)).event Src.CMP 2 0 bad).integrityFailure n r)) ∧
  (∀ (h : ChunkHeader) (payload : List Byte), h.raw = true →
    ((expandCheck h payload).1 = 0 ↔ contentCheckOf payload = h.contentCheck) ∧ (expandCheck h payload).2 = payload) ∧
  (∀ (h : ChunkHeader) (payload : List Byte), h.raw = false →
    ((expandCheck h payload).1 = 0 ↔ (expandPayload h.gz h.logicalLen payload).1 = 0 ∧
      contentCheckOf (expandPayload h.gz h.logicalLen payload).2 = h.contentCheck) ∧
    ((expandCheck h payload).1 = 0 → (expandCheck h payload).2 = (expandPayload h.gz h.logicalLen payload).2)) ∧
  (∀ (s : State) (nsid chunk : Nat) (e : ChunkEntry) (n : Ns), chunk / 2 ^ 47 = s.ftl.side →
    Tab.find s.ftl.tables.chunks chunk = some e → Tab.find s.cmf.ns nsid = some n → e.state = 2 → s.mayMove chunk = true →
    (s.moverRead Cls.rewrap chunk = none → s.granted Cls.rewrap = true → exec (.rewrap nsid chunk) s =
      .next ((s.startRead chunk (.move Cls.rewrap) []).spend Cls.rewrap (e.units * 64))) ∧
    (s.moverRead Cls.rewrap chunk = none → s.granted Cls.rewrap = false → exec (.rewrap nsid chunk) s = .next s) ∧
    (∀ job r, s.moverRead Cls.rewrap chunk = some (job, r) → exec (.rewrap nsid chunk) s =
      .next (if r.stage = .ready then s.rewrapBytes job chunk e r.stored n else s))) ∧
  (∀ (s s1 : State) (job chunk slot m steps : Nat) (b : List Byte) (e : ChunkEntry) (n : Ns) (k k' : KeySlot),
    s.slotOfId e.keyId = some (slot, k) → s.resolveKey 0 n.keySlot = (some (m, steps), s1) → s1.slot 0 m = some k' →
    (k'.keyId = e.keyId → s.rewrapBytes job chunk e b n = s.dropRead job) ∧
    (k'.keyId ≠ e.keyId → (readHeader b).passes = false → s.rewrapBytes job chunk e b n =
      (((s.chargeLane .cip true (gcmCycles 80 (readHeader b).storedLen)).count F.CIP.STAT.COUNT 2).event Src.CIP 4 0 chunk).nextSource
        job) ∧
    (∀ (s2 s4 : State) (key iv : List Byte), k'.keyId ≠ e.keyId → (readHeader b).passes = true → (readHeader b).keyId = e.keyId →
      gcmTag k.key (readHeader b).iv (b.take 80) ((b.drop 96).take (readHeader b).storedLen) = (b.drop 80).take 16 →
      s1.invoke 0 m 0x44 = (some (key, iv), s2) →
      let fresh := rewrapped b (gcmCrypt k.key (readHeader b).iv ((b.drop 96).take (readHeader b).storedLen)) key iv k'.keyId
        (s2.fld F.FRN.EPOCH.EPOCH) (s2.rdx.writeSeq + 1)
      ({ s2 with rdx := { s2.rdx with writeSeq := s2.rdx.writeSeq + 1 } } : State).moveToBulk .rewrap 1 chunk k'.keyId fresh =
        (true, s4) →
      s.rewrapBytes job chunk e b n =
        ((s4.dropRead job).chargeLane .cip true (2 * gcmCycles 80 (readHeader b).storedLen)).count F.CIP.STAT.COUNT 3))

/-- The register writes of rings and stream contexts. -/
def Obligations.RingDoorbellsAndEnables : Prop :=
  (∀ (s : State) (r : Req) (n p : Nat), r.test = false → n < 32 → p < 2 ^ 32 →
    (p + 2 ^ 32 - s.jobCons .cmp n) % 2 ^ 32 ≤ s.jobRingSize .cmp n → Runs (.cmpRingDoorbell r n (BitVec.ofNat 64 p)) s fun t =>
    t.jobProd .cmp n = p ∧ SameRegs [(F.CMP.RING_PROD.COUNT.nth n).addr] s t ∧ t = { s with regs := t.regs }) ∧
  (∀ (s : State) (r : Req) (n p : Nat), r.test = false → n < 16 → p < 2 ^ 32 →
    (p + 2 ^ 32 - s.jobCons .cip n) % 2 ^ 32 ≤ s.jobRingSize .cip n → Runs (.cipRingDoorbell r n (BitVec.ofNat 64 p)) s fun t =>
    t.jobProd .cip n = p ∧ SameRegs [(F.CIP.RING_PROD.COUNT.nth n).addr] s t ∧ t = { s with regs := t.regs }) ∧
  (∀ (s : State) (r : Req) (n p : Nat), r.test = false → n < 16 → p < 2 ^ 32 →
    (p + 2 ^ 32 - s.jobCons .dgs n) % 2 ^ 32 ≤ s.jobRingSize .dgs n → Runs (.dgsRingDoorbell r n (BitVec.ofNat 64 p)) s fun t =>
    t.jobProd .dgs n = p ∧ SameRegs [(F.DGS.RING_PROD.COUNT.nth n).addr] s t ∧ t = { s with regs := t.regs }) ∧
  (∀ (s : State) (r : Req) (n p : Nat), r.test = false → n < 32 → p < 2 ^ 32 →
    s.jobRingSize .cmp n < (p + 2 ^ 32 - s.jobCons .cmp n) % 2 ^ 32 → Runs (.cmpRingDoorbell r n (BitVec.ofNat 64 p)) s fun t =>
    t.jobProd .cmp n = p ∧ t.flag (F.CMP.RING_STATUS.HALTED.nth n) = true ∧ t.fld (F.CMP.RING_STATUS.CAUSE.nth n) = 1 ∧
    t.flag (F.APC.IRQ_ROUTE.PENDING.nth (64 + n)) = true ∧ Signals s t Src.CMP 1 n ∧
    SameRegs ((F.CMP.RING_PROD.COUNT.nth n).addr :: (F.CMP.RING_STATUS.HALTED.nth n).addr ::
      (F.APC.IRQ_ROUTE.PENDING.nth (64 + n)).addr :: eventRegs Src.CMP) s t ∧ t = { s with regs := t.regs, evr := t.evr }) ∧
  (∀ (s : State) (r : Req) (n : Nat) (v : Word), r.test = false → n < 32 → s.ringEnabled .cmp n = false →
    1 ≤ wfld v.toNat F.CMP.RING_CFG.MAX_LANES → wfld v.toNat F.CMP.RING_CFG.MAX_LANES ≤ 104 →
    4 ≤ wfld v.toNat F.CMP.RING_CFG.SIZE_LOG2 → wfld v.toNat F.CMP.RING_CFG.SIZE_LOG2 ≤ 16 → Runs (.cmpRingEnable r n v) s fun t =>
    t.ringEnabled .cmp n = true ∧ t.fld (F.CMP.RING_CFG.MAX_LANES.nth n) = wfld v.toNat F.CMP.RING_CFG.MAX_LANES ∧
    t.fld (F.CMP.RING_CFG.SIZE_LOG2.nth n) = wfld v.toNat F.CMP.RING_CFG.SIZE_LOG2 ∧
    t.fld (F.CMP.RING_CFG.IRQ_EN.nth n) = wfld v.toNat F.CMP.RING_CFG.IRQ_EN ∧
    t.flag (F.CMP.RING_STATUS.HALTED.nth n) = false ∧ t.fld (F.CMP.RING_STATUS.CAUSE.nth n) = 0 ∧
    SameRegs [(F.CMP.RING_CFG.EN.nth n).addr, (F.CMP.RING_STATUS.HALTED.nth n).addr] s t ∧ t = { s with regs := t.regs }) ∧
  (∀ (s : State) (r : Req) (n : Nat) (v : Word), r.test = false → n < 32 → s.ringEnabled .cmp n = true →
    1 ≤ wfld v.toNat F.CMP.RING_CFG.MAX_LANES → wfld v.toNat F.CMP.RING_CFG.MAX_LANES ≤ 104 →
    4 ≤ wfld v.toNat F.CMP.RING_CFG.SIZE_LOG2 → wfld v.toNat F.CMP.RING_CFG.SIZE_LOG2 ≤ 16 → Runs (.cmpRingDisable r n v) s fun t =>
    t.ringEnabled .cmp n = false ∧ t.fld (F.CMP.RING_CFG.MAX_LANES.nth n) = wfld v.toNat F.CMP.RING_CFG.MAX_LANES ∧
    t.fld (F.CMP.RING_CFG.SIZE_LOG2.nth n) = s.fld (F.CMP.RING_CFG.SIZE_LOG2.nth n) ∧
    (t.reg (blockBase Src.CMP + 8)).getLsbD 4 = true ∧
    SameRegs [(F.CMP.RING_CFG.EN.nth n).addr, blockBase Src.CMP + 8, blockBase Src.CMP + 16] s t ∧
    t.cmp = s.cmp ∧ t.evr.queue = s.evr.queue ∧ t = { s with regs := t.regs, evr := t.evr }) ∧
  (∀ (s : State) (r : Req) (n : Nat) (v : Word), r.test = false → n < 256 → Runs (.ctxOwnerWrite r false n v) s fun t =>
    t.fld (F.CIP.CTX_OWNER.EN.nth n) = wfld v.toNat F.CIP.CTX_OWNER.EN ∧
    t.fld (F.CIP.CTX_OWNER.RING.nth n) = wfld v.toNat F.CIP.CTX_OWNER.RING ∧ Tab.find t.cip.ctx n = none ∧
    (∀ m, m ≠ n → Tab.find t.cip.ctx m = Tab.find s.cip.ctx m) ∧ SameRegs [(F.CIP.CTX_OWNER.EN.nth n).addr] s t ∧
    t = { s with cip := { s.cip with ctx := t.cip.ctx }, regs := t.regs }) ∧
  (∀ (s : State) (r : Req) (n : Nat) (v : Word), r.test = false → n < 256 → Runs (.ctxOwnerWrite r true n v) s fun t =>
    t.fld (F.DGS.CTX_OWNER.EN.nth n) = wfld v.toNat F.DGS.CTX_OWNER.EN ∧
    t.fld (F.DGS.CTX_OWNER.RING.nth n) = wfld v.toNat F.DGS.CTX_OWNER.RING ∧ Tab.find t.dgs.ctx n = none ∧
    (∀ m, m ≠ n → Tab.find t.dgs.ctx m = Tab.find s.dgs.ctx m) ∧ SameRegs [(F.DGS.CTX_OWNER.EN.nth n).addr] s t ∧
    t = { s with dgs := { s.dgs with ctx := t.dgs.ctx }, regs := t.regs })

/-- What the ring jobs do between their doorbell and their completion record. Which lane a job waits for, the LANE of a BAD_DESC
completion, and where the history lies in a save area are the model's choices (assumptions 55, 56, 70). -/
def Obligations.RingJobsRunAndEnd : Prop :=
  (∀ (s : State) (n : Nat), (s.ringTurnOf n = false ∨ 32 ≤ n) → exec (.cmpJobDispatch n) s = .next s) ∧
  (∀ (s : State) (n : Nat), n < 32 → s.ringTurnOf n = true → s.ringRuns .cmp n = false →
    exec (.cmpJobDispatch n) s = .next { s with cmp := { s.cmp with turned := s.cmp.turned ++ [n] } }) ∧
  (∀ (s : State) (n : Nat), n < 32 → s.ringTurnOf n = true → s.ringRuns .cmp n = true → (∀ p ∈ s.cmp.jobs, p.2.ring ≠ n ∨ p.2.lane ≠ none) →
    s.jobProd .cmp n ≠ s.jobCons .cmp n →
    (s.cplProd .cmp n + 2 ^ 32 - s.cplCons .cmp n) % 2 ^ 32 + s.ringInflight .cmp n < s.jobRingSize .cmp n →
    s.loadBy Src.CMP (s.fld (F.CMP.RING_BASE.ADDR.nth n) * 64 + 64 * (s.jobCons .cmp n % s.jobRingSize .cmp n)) 64 = none →
    Runs (.cmpJobDispatch n) s fun t =>
    t.flag (F.CMP.RING_STATUS.HALTED.nth n) = true ∧ t.fld (F.CMP.RING_STATUS.CAUSE.nth n) = 2 ∧
    t.jobCons .cmp n = s.jobCons .cmp n ∧ Raises t Src.CMP 1 ∧
    t.cmp = { s.cmp with turned := s.cmp.turned ++ [n] } ∧ SameMemory s t) ∧
  (∀ (s : State) (n : Nat) (d : List Byte), n < 32 → s.ringTurnOf n = true → s.ringRuns .cmp n = true → (∀ p ∈ s.cmp.jobs, p.2.ring ≠ n ∨ p.2.lane ≠ none) →
    s.jobProd .cmp n = (s.jobCons .cmp n + 1) % 2 ^ 32 →
    (s.cplProd .cmp n + 2 ^ 32 - s.cplCons .cmp n) % 2 ^ 32 + s.ringInflight .cmp n < s.jobRingSize .cmp n →
    s.loadBy Src.CMP (s.fld (F.CMP.RING_BASE.ADDR.nth n) * 64 + 64 * (s.jobCons .cmp n % s.jobRingSize .cmp n)) 64 = some d →
    (s.cmpBadDesc d = true → Runs (.cmpJobDispatch n) s fun t =>
      (∃ e, t.cmp.ended = s.cmp.ended ++ [e] ∧ e.ring = n ∧ e.status = 2) ∧ t.jobCons .cmp n = s.jobProd .cmp n ∧
      SameRegs [(F.CMP.RING_CONS.COUNT.nth n).addr] s t ∧ SameMemory s t) ∧
    (∀ l, s.cmpBadDesc d = false → jobHolds .cmp d = none → s.laneForJob .cmp n d = some l → Runs (.cmpJobDispatch n) s fun t =>
      Tab.find t.cmp.jobs s.cmp.nextJob = some { ring := n, desc := d, lane := some l, old := false, waited := false } ∧
      t.cmp.nextJob = s.cmp.nextJob + 1 ∧ t.cmp.ended = s.cmp.ended ∧ t.jobCons .cmp n = s.jobProd .cmp n ∧
      SameRegs [(F.CMP.RING_CONS.COUNT.nth n).addr] s t ∧ SameMemory s t)) ∧
  (∀ (s s1 : State) (n l : Nat) (e r : JobEnd) (j : RingJob), Tab.find s.cmp.jobs n = some j → j.lane = some l →
    cmpEndStatus e.status = true → e.inConsumed ≤ descField j.desc 16 4 →
    e.output.length ≤ descField j.desc 20 4 + descField j.desc 40 4 →
    (e.status = 4 ∧ r = e ∨
      e.status ≠ 4 ∧ ∃ c, s.cmpStream j.desc = some c ∧
        let src := s.load (descField j.desc 8 8) (descField j.desc 16 4)
        (descField j.desc 0 1 % 2 = 0 ∧ r = (decompressEnd j.desc c src s.cmp.nextStream).1 ∨
          descField j.desc 0 1 % 2 = 1 ∧ (compressEnd j.desc c src e s.cmp.nextStream).map Prod.fst = some r)) →
    r.output.length ≤ descField j.desc 20 4 → descField j.desc 48 8 = 0 → descField j.desc 44 4 = 0xFFFFFFFF →
    s.ringEnd .cmp n j (cmpJobCycles j.desc r) = some s1 →
    Runs (.cmpJobEnd n e) s fun t =>
    (∀ i, i < r.output.length → t.byte (descField j.desc 24 8 + i) = r.output.getD i 0) ∧
    (∀ a, a < descField j.desc 24 8 ∨ descField j.desc 24 8 + r.output.length ≤ a → t.byte a = s.byte a) ∧
    (∃ x, t.cmp.ended = s.cmp.ended ++ [x] ∧ x.ring = j.ring ∧ x.status = r.status) ∧ Tab.find t.cmp.jobs n = none ∧
    (∀ m, m ≠ n → Tab.find t.cmp.jobs m = Tab.find s.cmp.jobs m) ∧
    t = { s with lanes := s1.lanes, cmp := { s.cmp with jobs := t.cmp.jobs, ended := t.cmp.ended }, mem := t.mem }) ∧
  (∀ (s s1 : State) (n : Nat) (e r : JobEnd) (c : CodeStream) (j : RingJob), Tab.find s.cmp.jobs n = some j →
    s.cmpOutcome j.desc e = some (r, some c) → s.ringEnd .cmp n j (cmpJobCycles j.desc r) = some s1 →
    exec (.cmpJobEnd n e) s = .next (((s1.storeHistory j.desc r c).cmpFinish n j r).keepStream j.desc r.status c)) ∧
  (∀ (s : State) (n k : Nat) (j : RingJob), Tab.find s.cip.jobs n = some j → j.lane ≠ none →
    Runs (.cipJobEnd n (some k)) s fun t =>
    (∃ x, t.cip.ended = s.cip.ended ++ [x] ∧ x.ring = j.ring ∧ x.status = 4) ∧ Tab.find t.cip.jobs n = none ∧
    (usesCtx j.desc = true → Tab.find t.cip.ctx (descField j.desc 2 2) = none)) ∧
  (∀ (s : State) (n m : Nat) (j : RingJob) (k : KeySlot), Tab.find s.cip.jobs n = some j → j.lane ≠ none → usesCtx j.desc = false →
    descField j.desc 0 1 = 2 → s.slot (descField j.desc 40 2 / 2 ^ 14) (descField j.desc 40 2 % 2 ^ 12) = some k →
    (descField j.desc 1 1).testBit 2 = false →
    let out := gcmCrypt k.key (s.load (descField j.desc 48 8) 12) (s.load (descField j.desc 8 8) (min m (descField j.desc 16 4)))
    Runs (.cipJobEnd n (some m)) s fun t =>
    (∀ i, i < out.length → t.byte (descField j.desc 24 8 + i) = out.getD i 0) ∧
    (∀ a, a < descField j.desc 24 8 ∨ descField j.desc 24 8 + out.length ≤ a → t.byte a = s.byte a)) ∧
  (∀ (s s1 : State) (n : Nat) (j : RingJob) (k : KeySlot), Tab.find s.cip.jobs n = some j → j.lane ≠ none → usesCtx j.desc = false →
    descField j.desc 0 1 = 2 → s.slot (descField j.desc 40 2 / 2 ^ 14) (descField j.desc 40 2 % 2 ^ 12) = some k →
    (descField j.desc 1 1).testBit 2 = false → s.ringEnd .cip n j (ringCycles .cip j.desc) = some s1 →
    let iv := s.load (descField j.desc 48 8) 12
    let src := s.load (descField j.desc 8 8) (descField j.desc 16 4)
    let out := (gcmCrypt k.key iv src)
    let ok := gcmTag k.key iv (s.load (descField j.desc 32 8) (descField j.desc 20 4)) src = s.load (descField j.desc 56 8) 16
    Runs (.cipJobEnd n none) s fun t =>
    (∀ i, i < out.length → t.byte (descField j.desc 24 8 + i) = out.getD i 0) ∧
    (∀ a, a < descField j.desc 24 8 ∨ descField j.desc 24 8 + out.length ≤ a → t.byte a = s.byte a) ∧
    (∃ x, t.cip.ended = s.cip.ended ++ [x] ∧ x.ring = j.ring ∧ (ok → x.status = 0) ∧ (¬ok → x.status = 0x20)) ∧
    Tab.find t.cip.jobs n = none ∧
    t = { s with lanes := s1.lanes, cip := { s.cip with jobs := t.cip.jobs, ended := t.cip.ended }, mem := t.mem }) ∧
  (∀ (s : State) (n k : Nat) (j : RingJob), Tab.find s.dgs.jobs n = some j → j.lane ≠ none →
    Runs (.dgsJobEnd n (some k)) s fun t =>
    (∃ x, t.dgs.ended = s.dgs.ended ++ [x] ∧ x.ring = j.ring ∧ x.status = 4) ∧ Tab.find t.dgs.jobs n = none ∧
    (usesCtx j.desc = true → Tab.find t.dgs.ctx (descField j.desc 2 2) = none) ∧
    t = { s with lanes := t.lanes, dgs := { s.dgs with jobs := t.dgs.jobs, ended := t.dgs.ended, ctx := t.dgs.ctx } }) ∧
  (∀ (s s1 : State) (n : Nat) (j : RingJob), Tab.find s.dgs.jobs n = some j → j.lane ≠ none → usesCtx j.desc = false →
    (descField j.desc 0 1 = 1 ∨ descField j.desc 0 1 = 2) → (descField j.desc 1 1).testBit 2 = true →
    (descField j.desc 1 1).testBit 3 = false → descField j.desc 16 4 ≤ jobMax →
    s.ringEnd .dgs n j (ringCycles .dgs j.desc) = some s1 →
    let msg := s.load (descField j.desc 8 8) (descField j.desc 16 4)
    let h := if descField j.desc 0 1 = 2 then sha384 msg else sha256 msg
    Runs (.dgsJobEnd n none) s fun t =>
    (∀ i, i < h.length → t.byte (descField j.desc 24 8 + i) = h.getD i 0) ∧
    (∀ a, a < descField j.desc 24 8 ∨ descField j.desc 24 8 + h.length ≤ a → t.byte a = s.byte a) ∧
    (∃ x, t.dgs.ended = s.dgs.ended ++ [x] ∧ x.ring = j.ring ∧ x.status = 0) ∧ Tab.find t.dgs.jobs n = none ∧
    t = { s with lanes := s1.lanes, dgs := { s.dgs with jobs := t.dgs.jobs, ended := t.dgs.ended }, mem := t.mem }) ∧
  (∀ (s : State) (l : Nat), l < 112 → s.flag F.CMP.STATUS.ROLE_PEND = true → s.roleChanges l = true → s.laneEmpty l = true →
    Runs (.laneRoleTaken l) s fun t =>
    (l ∈ t.cmp.compressors ↔ l < s.fld F.CMP.CONFIG.COMP_LANES) ∧
    (∀ m, m < 112 → m ≠ l → (m ∈ t.cmp.compressors ↔ m ∈ s.cmp.compressors)) ∧
    ((∀ m, m < 112 → t.roleChanges m = false) ↔ t.flag F.CMP.STATUS.ROLE_PEND = false) ∧ SameMemory s t ∧
    t = { s with cmp := { s.cmp with compressors := t.cmp.compressors }, regs := t.regs, evr := t.evr })

/-- The link-state rows of R244. -/
def Obligations.FrondLinkStates : Prop :=
  (∀ (s : State) (n : Nat), n < 96 → (s.port n).state = .detect → Runs (.trainingPatternReceived n) s fun t =>
    t.port n = (s.port n).enter .train s.now ∧ (∀ m, m ≠ n → t.port m = s.port m) ∧ t = { s with frn := t.frn, out := t.out }) ∧
  (∀ (s : State) (n : Nat), n < 96 → (s.port n).state = .train → s.now ≤ (s.port n).since + 50000 →
    Runs (.equalisationComplete n) s fun t =>
    t.port n = { (s.port n) with
      state := .align, since := s.now, cmdLimit := 0, pageLimit := 0, cmdsSent := 0, pagesSent := 0 } ∧
    (∀ m, m ≠ n → t.port m = s.port m) ∧ t = { s with frn := t.frn }) ∧
  (∀ (s : State) (n : Nat), n < 96 → (s.port n).state = .train → (s.port n).since + 50000 ≤ s.now →
    Runs (.trainTimeout n) s fun t =>
    t.port n = (s.port n).enter .detect s.now ∧ (∀ m, m ≠ n → t.port m = s.port m) ∧
    SameRegs [(F.FRN.PORT_ERR.TIMEOUT.nth n).addr] s t ∧ t = { s with frn := t.frn, regs := t.regs }) ∧
  (∀ (s : State) (n : Nat), n < 96 → (s.port n).state = .align → s.now ≤ (s.port n).since + 5000 →
    Runs (.alignComplete n) s fun t =>
    (t.port n).state = .ident ∧ (t.port n).since = s.now ∧ (t.port n).rxNext = 0 ∧ (t.port n).lack = 65535 ∧
    ((∃ q ∈ (t.port n).cmds, q.2.op = 10) ∨ (∃ c ∈ (t.port n).held, c.op = 10)) ∧
    (∀ m, m ≠ n → t.port m = s.port m) ∧ SameMemory s t) ∧
  (∀ (s : State) (n : Nat), n < 96 → (s.port n).state = .align → (s.port n).since + 5000 ≤ s.now →
    Runs (.alignTimeout n) s fun t =>
    t.port n = (s.port n).enter .detect s.now ∧ (∀ m, m ≠ n → t.port m = s.port m) ∧
    SameRegs [(F.FRN.PORT_ERR.TIMEOUT.nth n).addr] s t ∧ t = { s with frn := t.frn, regs := t.regs }) ∧
  (∀ (s : State) (n : Nat), n < 96 → (s.port n).state = .ident → (s.port n).since + 5000 ≤ s.now →
    Runs (.identTimeout n) s fun t =>
    t.port n = (s.port n).enter .fault s.now ∧ (∀ m, m ≠ n → t.port m = s.port m) ∧ Signals s t Src.FRN 3 n ∧
    t = { s with frn := t.frn, regs := t.regs, evr := t.evr }) ∧
  (∀ (s : State) (n : Nat), n < 96 → (s.port n).state = .down → (s.port n).since + 500 ≤ s.now →
    Runs (.downTimeout n) s fun t =>
    t.port n = { (s.port n).enter .detect s.now with desc := none } ∧ (∀ m, m ≠ n → t.port m = s.port m) ∧
    t = { s with frn := t.frn }) ∧
  (∀ (s : State) (n : Nat), n < 96 → (s.port n).state = .retrain → s.now ≤ (s.port n).since + 5000 → (s.port n).held = [] →
    (s.port n).pages = [] → Runs (.retrainComplete n) s fun t =>
    t.port n = { (s.port n).enter .up s.now with
      heardAt := s.now, ackAt := s.now, replays := 0, line := (s.port n).line + (s.port n).replayBytes } ∧
    (∀ m, m ≠ n → t.port m = s.port m) ∧ SameRegs [(F.FRN.STAT.COUNT.nth 5).addr] s t ∧
    t = { s with frn := t.frn, regs := t.regs, out := t.out }) ∧
  (∀ (s : State) (n : Nat) (c : Instr), n < 96 →
    (c = .moduleLoss n ∧ ((s.port n).state = .up ∨ (s.port n).state = .retrain) ∨
      c = .retrainTimeout n ∧ (s.port n).state = .retrain ∧ (s.port n).since + 5000 ≤ s.now) → Runs c s fun t =>
    (t.port n).state = .down ∧ (t.port n).since = s.now ∧ (t.port n).cmds = [] ∧ (t.port n).recovering = [] ∧ (t.port n).held = [] ∧
    (t.port n).pages = [] ∧ (t.port n).lostView = true ∧ (t.port n).recon = none ∧ (∀ m, m ≠ n → t.port m = s.port m) ∧ Raises t Src.FRN 1 ∧
    .moduleLoss n ∈ t.tck.latches ∧
    t.frn.results = s.frn.results ++ ((s.port n).cmds.map Prod.snd ++ (s.port n).recovering.map Prod.snd ++
      (s.port n).held).map (fun c => ⟨n, c, none⟩) ∧ SameMemory s t) ∧
  (∀ (s : State) (r : Req) (n : Nat), r.test = false → n < 96 → n < s.fld F.FRN.CONFIG.PORTS → s.flag (F.FRN.PORT_CTL.EN.nth n) = false →
    Runs (.portEnableWrite r n 1) s fun t =>
    (t.port n).state = .detect ∧ (t.port n).since = s.now ∧ t.flag (F.FRN.PORT_CTL.EN.nth n) = true ∧
    (∀ m, m ≠ n → t.port m = s.port m) ∧ SameRegs [(F.FRN.PORT_CTL.EN.nth n).addr] s t ∧
    t = { s with frn := t.frn, regs := t.regs, out := t.out }) ∧
  (∀ (s : State) (r : Req) (n : Nat), r.test = false → n < 96 → (s.port n).state = .up → Runs (.portEnableWrite r n 0) s fun t =>
    (t.port n).state = .off ∧ (t.port n).cmds = [] ∧ (t.port n).lostView = true ∧ t.flag (F.FRN.PORT_CTL.EN.nth n) = false ∧
    Raises t Src.FRN 1 ∧ .moduleLoss n ∈ t.tck.latches ∧ (∀ m, m ≠ n → t.port m = s.port m) ∧
    SameBlocks [Src.FRN, Src.EVR] s t ∧ t = { s with frn := t.frn, tck := t.tck, regs := t.regs, evr := t.evr }) ∧
  (∀ (s : State) (r : Req) (n : Nat), r.test = false → n < 96 → (s.port n).state = .up → s.flag (F.FRN.PORT_CTL.EN.nth n) = true →
    Runs (.forceRetrain r n 1) s fun t =>
    (t.port n).state = .align ∧ (t.port n).since = s.now ∧ (t.port n).recovering = (s.port n).cmds ++ (s.port n).recovering ∧
    (t.port n).cmds = [] ∧ (t.port n).pages = [] ∧ (t.port n).store = [] ∧ (t.port n).cmdLimit = 0 ∧ (t.port n).pageLimit = 0 ∧
    (∀ m, m ≠ n → t.port m = s.port m) ∧ SameRegs [] s t ∧ t = { s with frn := t.frn, regs := t.regs })

/-- The rows of frames, responses and reconciliation. The cause of a NAK and what a malformed payload does are the model's choices
(assumption 73). -/
def Obligations.FrondFramesAndCommands : Prop :=
  (∀ (s : State) (n : Nat) (b : List Byte) (r : Rsp) (c : FrnCmd), n < 96 → (s.port n).state = .ident →
    let f := readFrame 0x11 b
    Tab.find (s.port n).cmds f.tag = some c → c.op = 10 → c.purpose = .identify → f.cause = 0 → f.lseq = (s.port n).rxNext →
    readRsp f = some r → r.status = 0 → Runs (.descriptorReceived n b) s fun t =>
    (descPasses c.data = true → (t.port n).state = .up ∧ (t.port n).desc = some (readDesc c.data) ∧ (t.port n).lostView = false ∧
      Raises t Src.FRN 0) ∧
    (descPasses c.data = false → (t.port n).state = .fault ∧ Raises t Src.FRN 3) ∧
    (∀ m, m ≠ n → t.port m = s.port m) ∧ SameMemory s t) ∧
  (∀ (s : State) (n : Nat) (b : List Byte) (r : Rsp) (c : FrnCmd), n < 96 → (s.port n).state = .up →
    let f := readFrame 0x11 b
    Tab.find (s.port n).cmds f.tag = some c → c.op = 2 →
    c.purpose ∉ [.identify, .fence, .health, .status, .suspend, .resume, .probe] → f.cause = 0 → f.lseq = (s.port n).rxNext →
    readRsp f = some r →
    (r.status = 0 → Runs (.rspReceived n b) s fun t =>
      t.frn.results = s.frn.results ++ [⟨n, c, some r⟩] ∧ Tab.find (t.port n).cmds f.tag = none ∧
      (t.port n).rxNext = ((s.port n).rxNext + 1) % 65536 ∧ (∀ m, m ≠ n → t.port m = s.port m) ∧ t.regs = s.regs ∧ SameMemory s t) ∧
    (r.status = 4 → Runs (.rspReceived n b) s fun t =>
      t.frn.results = s.frn.results ++ [⟨n, c, some r⟩] ∧ Tab.find (t.port n).cmds f.tag = none ∧
      Tab.find (t.port n).refused c.die = some c.epoch ∧ Raises t Src.FRN 4 ∧ .epochLoss .module ∈ t.tck.latches ∧
      (∀ m, m ≠ n → t.port m = s.port m) ∧ SameMemory s t)) ∧
  (∀ (s : State) (n : Nat) (b : List Byte), n < 96 → (s.port n).state = .up → (readFrame 0x11 b).cause = 0 →
    (readFrame 0x11 b).lseq = (s.port n).rxNext → readRsp (readFrame 0x11 b) = none → Runs (.rspReceived n b) s fun t =>
    (t.port n).cmds = (s.port n).cmds ∧ t.frn.results = s.frn.results ∧ Raises t Src.FRN 9 ∧ SameMemory s t) ∧
  (∀ (s : State) (n typ : Nat) (b : List Byte) (c : Instr), n < 96 → (s.port n).state = .up → (s.port n).nakSent = false →
    (c = .rspReceived n b ∧ typ = 0x11 ∧ (readFrame typ b).lseq ≠ (s.port n).rxNext ∨
      c = .rdataReceived n b ∧ typ = 0x12 ∧ (readFrame typ b).lseq ≠ (s.port n).rxNext ∨
      c = .moduleEvent n b ∧ typ = 0x13 ∧ (readFrame typ b).lseq ≠ (s.port n).rxNext ∨
      (readFrame typ b).cause ≠ 0 ∧ (c = .rspReceived n b ∧ typ = 0x11 ∨ c = .rdataReceived n b ∧ typ = 0x12 ∨
        c = .moduleEvent n b ∧ typ = 0x13 ∨ c = .frondAck n b ∧ typ = 0x20 ∨ c = .credit n b ∧ typ = 0x21)) → Runs c s fun t =>
    t.port n = { s.port n with nakSent := true, line := (s.port n).line + frameLen 0 } ∧ (∀ m, m ≠ n → t.port m = s.port m) ∧
    t.frn.results = s.frn.results ∧ SameRegs [(F.FRN.PORT_ERR.CRC.nth n).addr, (F.FRN.STAT.COUNT.nth 6).addr] s t ∧
    t.out = s.out ++ [.frondAck n (((s.port n).rxNext + 65535) % 65536)
      (if (readFrame typ b).cause = 0 then 3 else (readFrame typ b).cause)] ∧
    t = { s with frn := t.frn, regs := t.regs, out := t.out }) ∧
  (∀ (s : State) (n : Nat) (b : List Byte) (c : FrnCmd), (s.port n).state = .up →
    let f := readFrame 0x12 b
    Tab.find (s.port n).cmds f.tag = some c → f.cause = 0 → f.lseq = (s.port n).rxNext → Runs (.rdataReceived n b) s fun t =>
    Tab.find (t.port n).cmds f.tag = some { c with data := c.data ++ f.payload } ∧
    (∀ k, k ≠ f.tag → Tab.find (t.port n).cmds k = Tab.find (s.port n).cmds k) ∧ (∀ m, m ≠ n → t.port m = s.port m) ∧
    t = { s with frn := t.frn, out := t.out }) ∧
  (∀ (s : State) (n : Nat) (b : List Byte), n < 96 → (s.port n).state = .up → (readFrame 0x13 b).cause = 0 →
    (readFrame 0x13 b).lseq = (s.port n).rxNext →
    let p := (readFrame 0x13 b).payload
    let code := beField p 0 1
    let die := beField p 1 1
    Runs (.moduleEvent n b) s fun t =>
    (beField p 2 2 = 0 → die < 128 →
      (code = 1 → Raises t Src.FRN 2 ∧ .dieFailure n die ∈ t.tck.latches) ∧ (code = 2 ∨ code = 3 → Raises t Src.FRN 8) ∧
      (code = 4 → SameRegs recordRegs s t) ∧
      (code = 5 → (t.port n).bridgeFault = true ∧ (t.port n).cmds = [] ∧ .moduleLoss n ∈ t.tck.latches ∧ Raises t Src.FRN 1) ∧
      (code = 0 ∨ 5 < code → Raises t Src.FRN 9)) ∧
    ((beField p 2 2 ≠ 0 ∨ 128 ≤ die) → Raises t Src.FRN 9 ∧ t.tck.latches = s.tck.latches) ∧
    (t.port n).rxNext = ((s.port n).rxNext + 1) % 65536 ∧ (∀ m, m ≠ n → t.port m = s.port m) ∧ SameMemory s t) ∧
  (∀ (s : State) (n : Nat) (b : List Byte), n < 96 → (s.port n).state = .up → (readFrame 0x20 b).cause = 0 →
    (readFrame 0x20 b).nak = false → (s.port n).held = [] → (s.port n).pages = [] → Runs (.frondAck n b) s fun t =>
    t.port n = { (s.port n).acked (readFrame 0x20 b).lack s.now with heardAt := s.now } ∧ (∀ m, m ≠ n → t.port m = s.port m) ∧
    t = { s with frn := t.frn }) ∧
  (∀ (s : State) (n : Nat) (b : List Byte), n < 96 → (s.port n).state = .up → (s.port n).replays < 4 →
    (readFrame 0x20 b).cause = 0 → (readFrame 0x20 b).nak = true → (readFrame 0x20 b).lack = (s.port n).lack →
    Runs (.frondAck n b) s fun t =>
    t.port n = { s.port n with
      heardAt := s.now, replays := (s.port n).replays + 1, line := (s.port n).line + (s.port n).replayBytes } ∧
    (∀ m, m ≠ n → t.port m = s.port m) ∧
    SameRegs [(F.FRN.PORT_ERR.REPLAY.nth n).addr, (F.FRN.STAT.COUNT.nth 5).addr] s t ∧
    t = { s with frn := t.frn, regs := t.regs, out := t.out }) ∧
  (∀ (s : State) (n : Nat) (b : List Byte), (s.port n).state = .up → (s.port n).held = [] → (s.port n).recovering = [] →
    (s.port n).pages = [] → (readFrame 0x21 b).cause = 0 → Runs (.credit n b) s fun t =>
    t.port n = { (s.port n).acked (readFrame 0x21 b).lack s.now with
      cmdLimit := raisedCount (s.port n).cmdLimit (beField (readFrame 0x21 b).payload 0 4),
      pageLimit := raisedCount (s.port n).pageLimit (beField (readFrame 0x21 b).payload 4 4), heardAt := s.now } ∧
    (∀ m, m ≠ n → t.port m = s.port m) ∧ t = { s with frn := t.frn }) ∧
  (∀ (s : State) (n : Nat), n < 96 → (s.port n).state = .up → (s.port n).store ≠ [] → (s.port n).ackAt + 2 ≤ s.now →
    (s.port n).replays < 4 → Runs (.replayTimeout n) s fun t =>
    t.port n = { s.port n with
      replays := (s.port n).replays + 1, ackAt := s.now, line := (s.port n).line + (s.port n).replayBytes } ∧ (∀ m, m ≠ n → t.port m = s.port m) ∧
    SameRegs [(F.FRN.PORT_ERR.REPLAY.nth n).addr, (F.FRN.STAT.COUNT.nth 5).addr] s t ∧
    t = { s with frn := t.frn, regs := t.regs, out := t.out }) ∧
  (∀ (s : State) (n : Nat) (c : Instr), n < 96 → (s.port n).state = .up →
    (c = .idleTimeout n ∧ (s.port n).heardAt + s.fld F.FRN.TIMEOUT.IDLE ≤ s.now ∨
      c = .replayTimeout n ∧ (s.port n).store ≠ [] ∧ (s.port n).ackAt + 2 ≤ s.now ∧ 4 ≤ (s.port n).replays) →
    ((s.port n).retrainAt.filter (fun t => t + 500000 > s.now)).length < 3 → Runs c s fun t =>
    (t.port n).state = .retrain ∧ (t.port n).since = s.now ∧ s.now ∈ (t.port n).retrainAt ∧ (t.port n).cmds = (s.port n).cmds ∧
    (∀ m, m ≠ n → t.port m = s.port m) ∧ t = { s with frn := t.frn, regs := t.regs }) ∧
  (∀ (s : State) (n tag : Nat) (c : FrnCmd) (d : FrnDesc), n < 96 → (s.port n).state = .up → Tab.find (s.port n).cmds tag = some c →
    (s.port n).desc = some d → c.sent + (d.maxOp + s.tickNs - 1) / s.tickNs + s.fld F.FRN.TIMEOUT.MARGIN ≤ s.now →
    Runs (.commandTimeout n tag) s fun t =>
    (c.probed = false → (t.port n).state = .up ∧
      ((∃ q ∈ (t.port n).cmds, q.2.op = 6 ∧ q.2.die = c.die) ∨ (∃ q ∈ (t.port n).held, q.op = 6 ∧ q.die = c.die))) ∧
    (c.probed = true → (t.port n).state = .align ∧ (t.port n).recovering = (s.port n).cmds ++ (s.port n).recovering) ∧
    (∀ m, m ≠ n → t.port m = s.port m) ∧ SameMemory s t) ∧
  (∀ s : State, s.now % (512 * 1024) = 0 → Runs .healthPoll s fun t =>
    (∀ n ∈ Tab.keys s.frn.ports, (s.port n).state = .up →
      (∃ q ∈ (t.port n).cmds, q.2.op = 11) ∨ (∃ c ∈ (t.port n).held, c.op = 11)) ∧
    (∀ n, (t.port n).state = (s.port n).state) ∧ SameMemory s t) ∧
  (∀ (s : State) (n die : Nat), n < 96 → die < 128 → Runs (.dieFailure n die) s fun t =>
    t.dieFailed n die = true ∧ (∀ d, d < 128 → d ≠ die → t.dieFailed n d = s.dieFailed n d) ∧ Raises t Src.FRN 2 ∧
    .dieFailure n die ∈ t.tck.latches ∧ t.frn = s.frn ∧ SameMemory s t) ∧
  (∀ (s : State) (n : Nat), n < 96 → s.viewsDisagree n = true → (s.port n).recon = none → Runs (.reconStart n) s fun t =>
    (t.port n).recon = some s.now ∧ t.flag (F.FRN.PORT_STATUS.RECON.nth n) = true ∧ Raises t Src.FRN 6 ∧
    (∀ m, m ≠ n → t.port m = s.port m) ∧ SameMemory s t) ∧
  (∀ (s : State) (n t0 : Nat), n < 96 → (s.port n).recon = some t0 → t0 + s.ticksIn 2000000 ≤ s.now → Runs (.reconEnd n) s fun t =>
    t.port n = { s.port n with recon := none } ∧ t.flag (F.FRN.PORT_STATUS.RECON.nth n) = false ∧
    t.fld (F.FRN.PORT_STATUS.OUTCOME.nth n) =
      (if s.viewsDisagree n = false then 0 else if (s.port n).dpView = 1 then 1 else 2) ∧ Signals s t Src.FRN 7 n ∧
    (∀ m, m ≠ n → t.port m = s.port m) ∧ t = { s with frn := t.frn, regs := t.regs, evr := t.evr }) ∧
  (∀ (s : State) (r : Req) (n v : Nat), r.test = false → n < 96 → v < 4 → s.other = none → s.rdn.reshape = none →
    Runs (.evacReq r n (BitVec.ofNat 64 v)) s fun t =>
    n ∈ t.rdn.evacQueue ∧ (∀ m ∈ s.rdn.evacQueue, m ∈ t.rdn.evacQueue) ∧ t.fld (F.FRN.PORT_MGMT.VIEW.nth n) = v ∧
    SameRegs [(F.FRN.PORT_MGMT.VIEW.nth n).addr] s t ∧ t = { s with rdn := { s.rdn with evacQueue := t.rdn.evacQueue }, frn := t.frn, regs := t.regs })

/-- The rows of FTL's tables. What a checkpoint carries over in its records is the model's choice (assumption 66). -/
def Obligations.SnapshotsCheckpointsAndRecovery : Prop :=
  let side (s : State) : Nat := match Tab.find s.cmf.ns (s.fld F.FTL.SNAP_ARG.NSID) with | some n => s.vsetSide n.vset | none => s.ftl.side
  let start (op : Nat) (_ : Req) (s : State) : State :=
    s.onSide (side s) (fun t => { t with ftl := { t.ftl with snapCmd := some op } })
  StartsCommand FromCore F.FTL.SNAP_STATUS.BUSY (fun r => .snapCreate r) (start 1) ∧
  StartsCommand FromCore F.FTL.SNAP_STATUS.BUSY (fun r => .snapDelete r) (start 2) ∧
  DiscardedWhileBusy FromCore F.FTL.SNAP_STATUS.BUSY (fun r => .snapCreate r) ∧
  DiscardedWhileBusy FromCore F.FTL.SNAP_STATUS.BUSY (fun r => .snapDelete r) ∧
  (∀ (s : State) (op : Nat), s.ftl.snapCmd = some op → Tab.find s.ftl.tables.epochs (s.fld F.FTL.SNAP_ARG.NSID) = none →
    s.runSnapCommand.fld F.FTL.SNAP_STATUS.RESULT = 1 ∧ s.runSnapCommand.fld F.FTL.SNAP_STATUS.BUSY = 0 ∧
    s.runSnapCommand.ftl = { s.ftl with snapCmd := none }) ∧
  (∀ (s : State) (n : NsEpoch), s.ftl.snapCmd = some 1 → s.fld F.FTL.SNAP_ARG.NSID ≠ 0 →
    Tab.find s.ftl.tables.epochs (s.fld F.FTL.SNAP_ARG.NSID) = some n → n.snaps.length < 65535 → n.me < 0xFFFFFFFE →
    let t := s.runSnapCommand
    t.fld F.FTL.SNAP_STATUS.RESULT = 0 ∧ t.fld F.FTL.SNAP_STATUS.BUSY = 0 ∧ t.fld F.FTL.SNAP_STATUS.ME = n.me ∧
    t.ftl.tables.epoch (s.fld F.FTL.SNAP_ARG.NSID) = ⟨n.me + 1, n.snaps ++ [n.me]⟩ ∧ t.ftl.tables.map = s.ftl.tables.map ∧
    t.ftl.journal.map JRec.items = s.ftl.journal.map JRec.items ++ [[.snap (s.fld F.FTL.SNAP_ARG.NSID) n.me 1]]) ∧
  (∀ (s : State) (n : NsEpoch), s.ftl.snapCmd = some 2 → s.fld F.FTL.SNAP_ARG.NSID ≠ 0 →
    Tab.find s.ftl.tables.epochs (s.fld F.FTL.SNAP_ARG.NSID) = some n →
    let t := s.runSnapCommand
    (s.fld F.FTL.SNAP_ARG.ME ∉ n.snaps → t.fld F.FTL.SNAP_STATUS.RESULT = 3 ∧ t.ftl = { s.ftl with snapCmd := none }) ∧
    (s.fld F.FTL.SNAP_ARG.ME ∈ n.snaps → t.fld F.FTL.SNAP_STATUS.RESULT = 0 ∧
      t.ftl.tables.epoch (s.fld F.FTL.SNAP_ARG.NSID) = { n with snaps := n.snaps.erase (s.fld F.FTL.SNAP_ARG.ME) } ∧
      t.ftl.sweeps = s.ftl.sweeps ++ [⟨s.fld F.FTL.SNAP_ARG.NSID, s.fld F.FTL.SNAP_ARG.ME, false⟩])) ∧
  (∀ (s : State) (nsid : Nat) (w : SnapSweep), s.other = none → s.ftl.sweeps.find? (fun w => w.nsid == nsid) = some w →
    s.granted Cls.mapWork = true → Runs (.snapSweep nsid) s fun t =>
    t.ftl.sweeps = s.ftl.sweeps.erase w ∧ Signals s t Src.FTL 14 nsid ∧
    (∀ r ∈ t.ftl.tables.retained, r.nsid = nsid → w.wholeNs = false ∧ (s.ftl.tables.epoch nsid).sees r.entry.birth r.death = true) ∧
    (∀ r ∈ s.ftl.tables.retained, r.nsid ≠ nsid ∨ w.wholeNs = false ∧ (s.ftl.tables.epoch nsid).sees r.entry.birth r.death = true →
      r ∈ t.ftl.tables.retained) ∧ SameMemory s t) ∧
  (∀ (s : State) (r : Req) (k : Nat), r.test = false → k < 2 ^ 32 → Runs (.keyqQuery r (BitVec.ofNat 64 k)) s fun t =>
    t.ftl = { s.ftl with keyQuery := true } ∧ t.fld F.FTL.KEYQ_ID.KEY_ID = k ∧ t.fld F.FTL.KEYQ_COUNT.VALID = 0 ∧
    SameRegs [F.FTL.KEYQ_ID.KEY_ID.addr, F.FTL.KEYQ_COUNT.VALID.addr] s t ∧ t = { s with ftl := t.ftl, regs := t.regs }) ∧
  (∀ s : State, s.ftl.keyQuery = true →
    s.answerKeyQuery.fld F.FTL.KEYQ_COUNT.VALID = 1 ∧ s.answerKeyQuery.ftl = { s.ftl with keyQuery := false } ∧
    s.answerKeyQuery.fld F.FTL.KEYQ_COUNT.COUNT = s.chunksUnder (s.fld F.FTL.KEYQ_ID.KEY_ID) %
      2 ^ (F.FTL.KEYQ_COUNT.COUNT.hi - F.FTL.KEYQ_COUNT.COUNT.lo + 1)) ∧
  (∀ s : State, s.other = none → s.ftl.ckpt = none → s.fld F.FTL.CKPT_CTL.GIB * 2 ^ 30 < s.ftl.sinceCkpt →
    exec .checkpointStart s = .next { s with ftl := { s.ftl with ckpt := some s.ftl.jseq } }) ∧
  (∀ (s : State) (upto : Nat), s.other = none → s.ftl.ckpt = some upto → s.ckptFormed upto = false →
    (s.granted Cls.mapWork = false → exec .checkpointDone s = .next s) ∧
    (s.granted Cls.mapWork = true → s.ftl.writeBack = none → s.mayWriteBack upto = true →
      exec .checkpointDone s = .next (s.spendMeta.placeCheckpoint upto)) ∧
    (∀ w, s.granted Cls.mapWork = true → s.ftl.writeBack = some w →
      (∀ p ∈ w.pages, s.bulkDurable p.place 65 = true) → (w.dirPages = 0 ∨ s.bulkDurable w.root (65 * w.dirPages) = true) →
      Runs .checkpointDone s fun t =>
      let out := w.pages.filter (fun p => idKind p.id != 1) ++ w.pages.filter (fun p => idKind p.id == 1)
      (∃ rs, t.ftl.journal = s.ftl.journal ++ rs ∧ t.ftl.jseq = s.ftl.jseq + rs.length ∧ (∀ r ∈ rs, recordBytes r.items ≤ 16384) ∧
        rs.flatMap JRec.items = out.map (fun p => JItem.pageWb (idKind p.id) (idIndex p.id) p.place (idNsid p.id)) ++ s.carriedOver ++
          [.ckpt upto w.root w.dirPages]) ∧
      t.ftl.ckpt = some upto ∧ t.ftl.tables = s.ftl.tables ∧ SameRegs [(F.FTL.STAT.COUNT.nth 12).addr] s t)) ∧
  (∀ (s : State) (x : RecoveryRead), s.lcs.mode = .recovery → s.rfl.recover = 2 ^ s.tck.headSlot → s.tck.headSlot < 2 →
    Runs (.recoveryReplay x) s fun t =>
    let u := s.replaySide s.tck.headSlot x none false
    t = (((Tab.keys u.cip.data).foldl State.restoreFromJournals { u with rfl := { u.rfl with recover := 0 } }).put
      F.FTL.STATUS.RECOVERY 7).event Src.FTL 0 ∧
    t.fld F.FTL.STATUS.RECOVERY = 7 ∧ Raises t Src.FTL 0) ∧
  (∀ (s : State) (x : RecoveryRead), s.lcs.mode = .recovery → s.rfl.recover = 2 ^ s.tck.headSlot → s.ftl.side = s.tck.headSlot →
    s.tck.headSlot < 2 → x.pages = [] → Runs (.recoveryReplay x) s fun t =>
    t.rfl.recover = 0 ∧ t.ftl.tables = Ftl.cold.tables ∧ t.ftl.journal = [] ∧ t.ftl.side = s.ftl.side ∧ t.lcs = s.lcs ∧ SameMemory s t) ∧
  (∀ s : State, s.lcs.mode = .recovery → s.rfl.recover = 0 → s.fld F.FTL.STATUS.RECOVERY = 7 → Runs .recoveryDone s fun t =>
    t.lcs.mode = (if s.rfl.present = true ∧ s.peerOwn &&& (3 ^^^ s.wit.own % 4) ≠ 0 then .dualActive else .soloActive) ∧
    t.rfl.claimLater = 0 ∧ t.wit.own = s.wit.own ∧ t.ftl = s.ftl ∧ SameMemory s t)

/-- The background rows of FTL. -/
def Obligations.FlashBackgroundRows : Prop :=
  (∀ (s s1 : State) (kind : MoveKind) (cls c k : Nat) (b : List Byte), s.moveToBulk kind cls c k b = (true, s1) →
    ∃ m e, Tab.find s1.ftl.moves c = some m ∧ Tab.find s.ftl.tables.chunks c = some e ∧ m.kind = kind ∧ m.keyId = k ∧ m.state = 2 ∧
      m.units = b.length / 64 ∧ m.verified = false ∧ m.old = (if e.state = 1 then [e.loc0, e.loc1] else [e.loc0])) ∧
  (∀ s : State, exec .fold s =
    .next (s.eitherSide (fun t => t.moveChunks .fold Cls.fold 0 (fun u n => u.foldRoom 0 n) State.foldQueue))) ∧
  (∀ s : State, exec .gcCopy s =
    .next (s.eitherSide (fun t => t.moveChunks .relocate Cls.gc 1 anyRoom State.gcQueue))) ∧
  (∀ s : State, s.other = none → s.rdx.reads = [] →
    exec .fold s = .next (s.askReads Cls.fold s.foldQueue) ∧ exec .gcCopy s = .next (s.askReads Cls.gc s.gcQueue)) ∧
  (∀ (s : State) (cls c : Nat) (e : ChunkEntry) (rest : List (Nat × ChunkEntry)), s.moverRead cls c = none →
    (s.granted cls = true → s.askReads cls ((c, e) :: rest) =
      ((s.startRead c (.move cls) []).spend cls (e.units * 64)).askReads cls rest) ∧
    (s.granted cls = false → s.askReads cls ((c, e) :: rest) = s)) ∧
  (∀ (s t : State) (kind : MoveKind) (cls stripeCls c n : Nat) (room : State → Nat → Bool) (e : ChunkEntry) (r : ChunkRead)
    (rest : List (Nat × ChunkEntry)), s.moverRead cls c = some (n, r) → r.stage = .ready →
    (kind ≠ .fold → (readHeader r.stored).passes = true) → room s r.stored.length = true →
    (s.moveToBulk kind stripeCls c e.keyId r.stored = (true, t) →
      s.placeReady kind cls stripeCls room ((c, e) :: rest) = (t.dropRead n).placeReady kind cls stripeCls room rest) ∧
    (s.moveToBulk kind stripeCls c e.keyId r.stored = (false, t) →
      s.placeReady kind cls stripeCls room ((c, e) :: rest) = t)) ∧
  (∀ (s : State) (cls n : Nat) (b : List Byte), (∀ p ∈ s.ftl.stripes, p.2.state ≠ 1 ∨ p.2.cls ≠ cls) →
    s.placement s.stripeNumber = none →
    ∃ t, s.placeBulk cls b (n + 1) = (none, t) ∧ Signals s t Src.RDN 9 s.stripeNumber ∧ t = { s with regs := t.regs, evr := t.evr }) ∧
  (∀ (s : State) (c : Nat) (m : Movement), c / 2 ^ 47 = s.ftl.side → Tab.find s.ftl.moves c = some m → m.kind = .fold →
    s.moveDone m = true → Runs (.mossRelease c) s fun t =>
    Tab.find t.ftl.moves c = none ∧ c ∉ t.ftl.mossOrder ∧ (∀ d, d ≠ c → Tab.find t.ftl.moves d = Tab.find s.ftl.moves d) ∧
    t.ftl.tables = s.ftl.tables ∧ t.rdn = s.rdn ∧ SameMemory s t) ∧
  (∀ (s : State) (id : Nat) (b : MossBlock), s.other = none → s.erasable 1 id = true → s.unitQuiet [blockKeyOf id] = true →
    (s.blockWear (blockKeyOf id)).recovered.length < 2 → s.wornOut (blockKeyOf id) = false → Tab.find s.ftl.blocks (blockKeyOf id) = some b → Runs (.unitErase 1 id) s fun t =>
    Tab.find t.ftl.blocks (blockKeyOf id) = some { b with state := 3 } ∧
    t.ftl.journal.map JRec.items = s.ftl.journal.map JRec.items ++ [[.unit 1 id 3]] ∧ t.ftl.jseq = s.ftl.jseq + 1 ∧
    t.ftl.erasing = s.ftl.erasing ++ [{ kind := 1, id := id, jseq := s.ftl.jseq + 1, sent := false, left := 0 }] ∧
    SameRegs [(F.FTL.STAT.COUNT.nth 12).addr] s t ∧ t = { s with ftl := t.ftl, regs := t.regs }) ∧
  (∀ s : State, s.other = none →
    let s1 : State := { s with ftl := { s.ftl with rewrites := s.ftl.rewrites.filter s.rewriteDue } }
    (s1.ftl.rewrites.find? (fun w => s1.mayMove w.chunk) = none → exec .chunkRewrite s = .next s1) ∧
    (∀ (w : Rewrite) (e : ChunkEntry), s1.ftl.rewrites.find? (fun w => s1.mayMove w.chunk) = some w →
      Tab.find s1.ftl.tables.chunks w.chunk = some e →
      (e.state = 1 → exec .chunkRewrite s = .next (s1.rewriteMoss w e)) ∧
      (e.state ≠ 1 → exec .chunkRewrite s =
        .next ((s1.moveToBulk .rewrite 1 w.chunk e.keyId w.stored).2.refreshStripe (stripeOf e.loc0))))) ∧
  (∀ (s : State) (job piece : Nat) (r : ChunkRead) (p : ReadPiece), s.sideOfRead job = s.ftl.side →
    Tab.find s.rdx.reads job = some r → r.pieces[piece]? = some p → r.stage = .waiting → p.failed = true → p.givenUp = false →
    (p.level < s.retryMax p.port → Runs (.readRetry (.piece job piece)) s fun t =>
      (∃ q, Tab.find t.rdx.reads job = some q ∧ q.pieces[piece]? = some { p with failed := false, level := p.level + 1 } ∧
        q.stage = .waiting) ∧ (∀ m, m ≠ job → Tab.find t.rdx.reads m = Tab.find s.rdx.reads m) ∧ t.ftl = s.ftl ∧ SameMemory s t) ∧
    (s.retryMax p.port ≤ p.level → p.recon = false → (∀ src, s.assistOf p = some src → exec (.readRetry (.piece job piece)) s =
      .next (((s.levelsDone p).modifyPiece job piece (fun _ => { p with failed := false, recon := true, level := 15 })).tryPage
        (.read job piece) { p with failed := false, recon := true, level := 15 } src (r.use == .host)))) ∧
    (s.retryMax p.port ≤ p.level → (p.recon = true ∨ s.assistOf p = none) → exec (.readRetry (.piece job piece)) s =
      .next (if p.stripe.isSome then (s.levelsDone p).modifyPiece job piece ReadPiece.lostPage else (s.levelsDone p).nextSource job))) ∧
  (∀ (s : State) (n m : Nat) (r : SetRead) (p : ReadPiece), n % 2 = s.ftl.side → Tab.find s.rdn.sets n = some r →
    Tab.find r.pages m = some p → p.failed = true → p.givenUp = false → p.level < s.retryMax p.port →
    exec (.readRetry (.page n m)) s =
      .next ((s.modifySet n (fun r => { r with pages := Tab.insert r.pages m { p with failed := false, level := p.level + 1 } })).tryPage
        (.setPage n m) { p with failed := false, level := p.level + 1 } [] r.use.isHost)) ∧
  (∀ (s : State) (job piece id : Nat) (r : ChunkRead) (p : ReadPiece) (x : Stripe), s.sideOfRead job = s.ftl.side →
    Tab.find s.rdx.reads job = some r → r.pieces[piece]? = some p → r.stage = .waiting → p.givenUp = true → p.stripe = some id →
    Tab.find s.ftl.stripes id = some x →
    let m := (x.spot r.place).1
    let slot := (x.spot r.place).2
    (x.setLost p.page slot = true ∨ x.rowsDone ≤ p.page → Runs (.hostReconstruct job piece) s fun t =>
      t = s.failRead job ∧ (Tab.find t.rdx.reads job).map ChunkRead.stage = some .failed) ∧
    (x.setLost p.page slot = false → p.page < x.rowsDone → s.hostSet job piece = none → exec (.hostReconstruct job piece) s =
      .next ((s.startSet { unit := id, row := p.page, slot := slot, use := .host job piece, pages := [] }).count F.FTL.STAT.COUNT 8)) ∧
    (∀ n q, x.setLost p.page slot = false → p.page < x.rowsDone → s.hostSet job piece = some (n, q) →
      ((s.sources x q).length < x.dataMembers → Runs (.hostReconstruct job piece) s fun t =>
        (Tab.find t.rdx.reads job).map ChunkRead.stage = some .failed ∧
        (Tab.find t.ftl.stripes id).any (fun y => y.setLost p.page slot) = true) ∧
      (∀ whole, x.dataMembers ≤ (s.sources x q).length →
        (s.wanted x q).all (fun w => (Tab.find q.pages w).any (fun y => y.data.isSome)) = true → s.rdnFree = true →
        reconstruct (x.usablePages p.page slot ((q.got x.members.length).set m none)) = some whole →
        (∀ y ∈ r.pieces, y.data = none) → 2 ≤ r.pieces.length → Runs (.hostReconstruct job piece) s fun t =>
        ∃ y, Tab.find t.rdx.reads job = some y ∧ y.pieces[piece]? = some { p with
          data := some (((whole.getD m []).drop (p.col * 64)).take (p.xlen * 64)), failed := false }))) ∧
  (∀ (s : State) (t0 : Nat), s.other = none → s.flag F.FTL.PATROL_CTL.EN = true → s.granted Cls.patrol = true →
    s.ftl.patrol.since = some t0 → s.ftl.patrol.units.dropWhile (fun u => !s.patrolHere u) = [] → Runs .patrolRow s fun t =>
    t.fld F.FTL.PATROL_STATUS.PASSES = (s.fld F.FTL.PATROL_STATUS.PASSES + 1) %
      2 ^ (F.FTL.PATROL_STATUS.PASSES.hi - F.FTL.PATROL_STATUS.PASSES.lo + 1) ∧ Signals s t Src.FTL 12 0 ∧
    t.ftl.patrol.since = some s.now ∧ t.ftl.patrol.done = 0 ∧ t.ftl.patrol.late = false ∧ t.ftl.tables = s.ftl.tables) ∧
  (∀ (s : State) (t0 : Nat) (u : PatrolUnit) (us : List PatrolUnit), s.other = none → s.flag F.FTL.PATROL_CTL.EN = true →
    s.granted Cls.patrol = true → s.ftl.patrol.since = some t0 →
    s.ftl.patrol.units.dropWhile (fun u => !s.patrolHere u) = u :: us →
    let use : SetFor := if u.kind = 0 then .patrol else .block
    let sets := s.rowSets use u.id u.next
    (sets = [] → exec .patrolRow s =
      .next (((s.keepPatrol use u.id u.next).patrolAsk u).spend Cls.patrol (s.patrolRowBytes u))) ∧
    (sets ≠ [] → sets.all (fun q => q.2.settled) = true → s.rdnTakes = true → exec .patrolRow s =
      .next (((sets.map Prod.fst).foldl State.dropSet (s.patrolEnd u sets)).patrolNext u us))) ∧
  (∀ (s : State) (u : PatrolUnit) (us : List PatrolUnit), u.next + 1 < u.stop →
    (s.patrolNext u us).ftl.patrol.units = { u with next := u.next + 1 } :: us ∧
    (s.patrolNext u us).ftl.patrol.done = s.ftl.patrol.done + s.patrolRowBytes u ∧
    (s.patrolNext u us).ftl.patrol.since = s.ftl.patrol.since ∧ (s.patrolNext u us).ftl.tables = s.ftl.tables) ∧
  (∀ (s : State) (t0 : Nat), s.other = none → s.ftl.patrol.since = some t0 → s.ftl.patrol.late = false →
    5 * s.patrolPeriod < 4 * (s.now - t0) → Runs .patrolLate s fun t =>
    t.ftl = { s.ftl with patrol := { s.ftl.patrol with late := true } } ∧ Signals s t Src.FTL 13 0 ∧
    t = { s with ftl := t.ftl, regs := t.regs, evr := t.evr })

/-- The rows of RDN. -/
def Obligations.RebuildAndReshapeRows : Prop :=
  (∀ (s s1 : State) (k0 k1 : Nat), s.other = none → s.sjPairBad = true → s.openSjPair 65536 = some ((k0, k1), s1) →
    Runs .sjPairMove s fun t =>
    t.rdn.pair = s1.rdn.pair ∧ t.rdn.restating.isSome = true ∧ t.ftl.tables = s1.ftl.tables ∧ s1.rdn.sseq ≤ t.rdn.sseq) ∧
  (∀ (s : State) (id : Nat) (x : Stripe), s.other = none → s.fld F.RDN.REBUILD_CTL.EN ≠ 0 → s.granted Cls.rebuild = true →
    s.rebuildTarget = some (id, x) → s.byRelocation id x = true →
    exec .rebuildRow s = .next (s.moveChunks .relocate Cls.rebuild 1 anyRoom (fun t => t.movable id))) ∧
  (∀ (s : State) (id : Nat) (x : Stripe), s.other = none →
    s.fld F.RDN.REBUILD_CTL.EN ≠ 0 → s.granted Cls.rebuild = true → s.rebuildTarget = some (id, x) → s.byRelocation id x = false →
    Tab.find s.rdn.rebuilds id = none → Runs .rebuildRow s fun t =>
    (∃ rb, Tab.find t.rdn.rebuilds id = some rb ∧ rb.rowsA = 0 ∧ rb.rowsB = 0 ∧ rb.left = 0 ∧
      (x.members[rb.a]?).any StripeMember.failed = true) ∧ (∀ m, m ≠ id → Tab.find t.rdn.rebuilds m = Tab.find s.rdn.rebuilds m) ∧
    t = { s with rdn := { s.rdn with rebuilds := t.rdn.rebuilds } }) ∧
  (∀ (s : State) (id : Nat) (x : Stripe) (rb : Rebuild)
    (mb : StripeMember), s.other = none → s.fld F.RDN.REBUILD_CTL.EN ≠ 0 → s.granted Cls.rebuild = true →
    s.rebuildTarget = some (id, x) → s.byRelocation id x = false → Tab.find s.rdn.rebuilds id = some rb → rb.b = none →
    x.members[rb.a]? = some mb → mb.failed = true → mb.repl = none → Tab.find s.ftl.stripes id = some x →
    (∀ n ds, s.replacement id x = some (n, ds) → Runs .rebuildRow s fun t =>
      (Tab.find t.ftl.stripes id).map (fun y => (y.members[rb.a]?).map StripeMember.repl) = some (some (some (n, ds, 0))) ∧
      t.rdn.sseq = s.rdn.sseq + 1) ∧
    (s.replacement id x = none → Runs .rebuildRow s fun t =>
      Signals s t Src.RDN 9 id ∧ t = { s with regs := t.regs, evr := t.evr })) ∧
  (∀ (s : State) (id : Nat) (x : Stripe) (rb : Rebuild), s.other = none → s.fld F.RDN.REBUILD_CTL.EN ≠ 0 →
    s.granted Cls.rebuild = true → s.rebuildTarget = some (id, x) → s.byRelocation id x = false →
    Tab.find s.rdn.rebuilds id = some rb → rb.left = 0 → s.membersSettled id = true →
    (∀ m ∈ [rb.a] ++ rb.b.toList, (x.members[m]?).any (fun mb => mb.failed && mb.repl.isNone) = false) →
    Runs .rebuildRow s fun t => t = s.rebuildRow id x rb ∧ (x.rowsDone ≤ rb.nextRow x.rowsDone → t = s)) ∧
  (∀ (s : State) (id row : Nat) (x : Stripe) (rb : Rebuild) (sets : List (Nat × SetRead)),
    let t := s.programRebuilt id x rb row sets
    Tab.find t.rdn.rebuilds id = some { rb with row := row, left := (rb.membersAt row).length * x.g } ∧
    (∀ q ∈ sets, Tab.find t.rdn.sets q.1 = none)) ∧
  (∀ (s : State) (id n : Nat) (rb : Rebuild) (x : Stripe) (mb : StripeMember) (ds : List (Nat × Nat)) (k : Nat),
    s.other = none → Tab.find s.rdn.rebuilds id = some rb → rb.commitA.any s.sjSettled = true →
    rb.commitB.any s.sjSettled = false → Tab.find s.ftl.stripes id = some x → x.members[rb.a]? = some mb →
    mb.repl = some (n, ds, k) → x.lost = [] → (∀ m, m < x.members.length → m ≠ rb.a → (x.members[m]?).any StripeMember.failed = false) →
    Runs (.rebuildCommit id) s fun t =>
    Tab.find t.rdn.rebuilds id = none ∧ (Tab.find t.ftl.stripes id).map (fun y => y.members) =
      some (x.members.set rb.a { module := n, dies := ds, failed := false, repl := none })) ∧
  (∀ (s : State) (id row slot : Nat) (x : Stripe) (l : LostSet), s.other = none → Tab.find s.ftl.stripes id = some x →
    x.lost.find? (fun l => l.row = row ∧ l.slot = slot ∧ !l.swept) = some l → s.granted Cls.mapWork = true →
    Runs (.lossSweep id row slot) s fun t =>
    (∀ c ∈ s.lostChunks id x l, (Tab.find t.ftl.tables.chunks c).any ChunkEntry.lost = true) ∧
    (∀ c, c ∉ s.lostChunks id x l → Tab.find t.ftl.tables.chunks c = Tab.find s.ftl.tables.chunks c) ∧
    (Tab.find t.ftl.stripes id).any (fun y => y.lost.all (fun q => q.row != row || q.slot != slot || q.swept)) = true ∧
    Signals s t Src.RDN 4 id ∧ t.ftl.tables.map = s.ftl.tables.map ∧ SameMemory s t) ∧
  StartsCommand FromCore F.RDN.RESHAPE_STATUS.BUSY (fun r => .reshapeStart r)
    (fun _ s => { s with rdn := { s.rdn with command := some 1 } }) ∧
  StartsCommand FromCore F.RDN.RESHAPE_STATUS.BUSY (fun r => .reshapeAbandon r)
    (fun _ s => { s with rdn := { s.rdn with command := some 2 } }) ∧
  DiscardedWhileBusy FromCore F.RDN.RESHAPE_STATUS.BUSY (fun r => .reshapeStart r) ∧
  DiscardedWhileBusy FromCore F.RDN.RESHAPE_STATUS.BUSY (fun r => .reshapeAbandon r) ∧
  (∀ s : State, s.rdn.command = some 1 →
    let t := s.runReshapeCommand
    t.fld F.RDN.RESHAPE_STATUS.BUSY = 0 ∧ t.rdn.command = none ∧
    (s.fld F.RDN.RESHAPE_ARG.KIND = 0 → s.geomOk (s.fld F.RDN.RESHAPE_ARG.NEW_D) = false →
      t.fld F.RDN.RESHAPE_STATUS.RESULT = 1 ∧ t.rdn = { s.rdn with command := none }) ∧
    (s.fld F.RDN.RESHAPE_ARG.KIND = 0 → s.geomOk (s.fld F.RDN.RESHAPE_ARG.NEW_D) = true → s.rdn.reshape.isSome = true →
      t.fld F.RDN.RESHAPE_STATUS.RESULT = 2 ∧ t.rdn = { s.rdn with command := none }) ∧
    (s.fld F.RDN.RESHAPE_ARG.KIND = 0 → s.geomOk (s.fld F.RDN.RESHAPE_ARG.NEW_D) = true → s.rdn.reshape = none →
      t.fld F.RDN.RESHAPE_STATUS.RESULT = 0 ∧ t.fld F.RDN.GEOM.D = s.fld F.RDN.RESHAPE_ARG.NEW_D ∧
      (t.rdn.reshape.any (fun r => r.kind == 0 && r.cursor == 0 && r.newD == s.fld F.RDN.RESHAPE_ARG.NEW_D) = true))) ∧
  (∀ s : State, s.rdn.command = some 2 →
    (s.rdn.reshape = none → s.runReshapeCommand.fld F.RDN.RESHAPE_STATUS.RESULT = 3) ∧
    (∀ r, s.rdn.reshape = some r → s.runReshapeCommand.fld F.RDN.RESHAPE_STATUS.RESULT = 0 ∧
      s.runReshapeCommand.rdn.reshape = some { r with abandon := true } ∧ s.runReshapeCommand.rdn.sseq = s.rdn.sseq + 1)) ∧
  (∀ (s : State) (r : Reshape), s.other = none → s.rdn.reshape = some r →
    (∀ x, Tab.find s.ftl.stripes r.cursor = some x → s.needsConversion r x = false) → r.abandon = false → r.cursor < r.end_ →
    Runs .reshapeStep s fun t =>
    (t.rdn.reshape.map Reshape.cursor) = some (r.cursor + 1) ∧ t.ftl = s.ftl ∧ t = { s with rdn := t.rdn }) ∧
  (∀ (s : State) (r : Reshape) (x : Stripe), s.other = none → s.rdn.reshape = some r → Tab.find s.ftl.stripes r.cursor = some x →
    r.cursor < r.end_ → s.needsConversion r x = true → (r.abandon = false ∨ s.conversionBegun r.cursor = true) →
    exec .reshapeStep s = .next (s.convertStripe r)) ∧
  (∀ (s : State) (r : Reshape), s.other = none → s.rdn.reshape = some r → Tab.find s.ftl.stripes r.cursor = none →
    (r.abandon = true ∨ r.end_ ≤ r.cursor) → exec .reshapeStep s = .next (s.endReshape r)) ∧
  (∀ (s : State) (r : Req) (n : Nat), r.test = false → n < 96 → Runs (.exclReadmit r n 0) s fun t =>
    t.flag (F.RDN.MOD_STATE.EXCL.nth n) = false ∧
    t.fld (F.RDN.MOD_STATE.STATE.nth n) =
      (if s.fld (F.RDN.MOD_STATE.STATE.nth n) = 2 then 0 else s.fld (F.RDN.MOD_STATE.STATE.nth n)) ∧
    SameRegs [(F.RDN.MOD_STATE.EXCL.nth n).addr] s t ∧ t = { s with regs := t.regs })

/-- R303: what Abort does and what it leaves. -/
def Obligations.AbortAbortsNothing : Prop :=
  ∀ (s : State) (key : Nat) (c : Cmd) (v : Vc) (a : Assoc), AdminReady s key 0x08 c v a →
    Runs (.abort key) s (Ends key c 0 1 s)

/-- The admin rows that act on a controller. -/
def Obligations.AdminCommandRows : Prop :=
  (∀ (s : State) (key : Nat) (c : Cmd) (v : Vc) (a : Assoc), AdminReady s key 0x18 c v a →
    Runs (.keepAlive key) s (Ends key c 0 0 s)) ∧
  (∀ (s : State) (key : Nat) (c : Cmd) (v : Vc) (a : Assoc), AdminReady s key 0x0A c v a →
    (c.cdw 10 % 256 = 0x07 → Runs (.getFeatures key) s (Ends key c 0 (a.nq + a.nq * 65536) s)) ∧
    (c.cdw 10 % 256 = 0x0B → Runs (.getFeatures key) s (Ends key c 0 a.aec s)) ∧
    (c.cdw 10 % 256 = 0x0F → Runs (.getFeatures key) s (Ends key c 0 a.kato s)) ∧
    (c.cdw 10 % 256 = 0x82 → c.ns.isSome = true → Runs (.getFeatures key) s (Ends key c 0 (Tab.getD a.rsvMask c.nsid 0) s)) ∧
    (c.cdw 10 % 256 = 0x83 → c.ns.isSome = true → Runs (.getFeatures key) s (Ends key c 0 (s.rsvOf c.nsid).ptpl.toNat s)) ∧
    (c.cdw 10 % 256 ∉ [0x07, 0x0B, 0x0F, 0x81, 0x82, 0x83] → Runs (.getFeatures key) s (Ends key c 0x002 0 s))) ∧
  (∀ (s : State) (key : Nat) (c : Cmd) (v : Vc) (a : Assoc), AdminReady s key 0x09 c v a →
    let set (b : Assoc) (dw0 : Nat) (t : State) : Prop :=
      t.vc c.vc = some { v with assoc := some b } ∧ OtherVcs c.vc s t ∧
      t.cmd key = some { c with stage := .finished, status := 0, dw0 := dw0 } ∧ OtherCmds key s t ∧
      t = { s with cmf := { s.cmf with cmds := t.cmf.cmds }, vct := { s.vct with vcs := t.vct.vcs } }
    ((c.cdw 10).testBit 31 = true → Runs (.setFeatures key) s (Ends key c 0x002 0 s)) ∧
    ((c.cdw 10).testBit 31 = false →
      (c.cdw 10 % 256 = 0x07 → c.cdw 11 % 65536 ≠ 0xFFFF → c.cdw 11 / 65536 ≠ 0xFFFF →
        let n := min (max (c.cdw 11 % 65536) (c.cdw 11 / 65536)) (v.qcount - 1)
        Runs (.setFeatures key) s (set { a with nq := n } (n + n * 65536))) ∧
      (c.cdw 10 % 256 = 0x0B → Runs (.setFeatures key) s (set { a with aec := c.cdw 11 } 0)) ∧
      (c.cdw 10 % 256 = 0x0F → Runs (.setFeatures key) s (set { a with
        kato := (c.cdw 11 + 999) / 1000 * 1000, kaTicks := 0 } 0)) ∧
      (c.cdw 10 % 256 ∉ [0x07, 0x0B, 0x0F, 0x82, 0x83] → Runs (.setFeatures key) s (Ends key c 0x002 0 s)))) ∧
  (∀ (s : State) (key : Nat) (c : Cmd) (v : Vc) (a : Assoc), AdminReady s key 0x0C c v a →
    (4 ≤ a.aers.length → Runs (.asyncEventRequest key) s (Ends key c 0x002 0 s)) ∧
    (a.aers.length < 4 → a.events = [] → Runs (.asyncEventRequest key) s fun t =>
      t.vc c.vc = some { v with assoc := some { a with aers := a.aers ++ [key] } } ∧ OtherVcs c.vc s t ∧
      t.cmd key = some { c with stage := .held } ∧ OtherCmds key s t ∧
      t = { s with cmf := { s.cmf with cmds := t.cmf.cmds }, vct := { s.vct with vcs := t.vct.vcs } }) ∧
    (∀ (e : Nat) (es : List Nat), a.aers.length < 4 → a.events = e :: es → Runs (.asyncEventRequest key) s fun t =>
      t.vc c.vc = some { v with assoc := some { a with events := es } } ∧ OtherVcs c.vc s t ∧
      t.cmd key = some { c with stage := .finished, status := 0, dw0 := e } ∧ OtherCmds key s t ∧
      t = { s with cmf := { s.cmf with cmds := t.cmf.cmds }, vct := { s.vct with vcs := t.vct.vcs } })) ∧
  (∀ (s : State) (key : Nat) (c : Cmd) (v : Vc) (a : Assoc) (k : Conn), AdminReady s key 0x06 c v a → RoceReply s c k →
    (∀ n, c.cdw 10 % 256 = 0 → c.ns = some n → Runs (.identify key) s (Returns key c k (s.identifyNs c.nsid n) s)) ∧
    (c.cdw 10 % 256 = 0 → c.ns = none → Runs (.identify key) s (Ends key c 0x00B 0 s)) ∧
    (c.cdw 10 % 256 = 1 → Runs (.identify key) s (Returns key c k (s.identifyCtrl v) s)) ∧
    (c.cdw 10 % 256 = 2 → c.nsid < 0xFFFFFFFE → Runs (.identify key) s (Returns key c k (s.nsList v c.nsid) s)) ∧
    (3 < c.cdw 10 % 256 → Runs (.identify key) s (Ends key c 0x002 0 s))) ∧
  (∀ (s : State) (key : Nat) (c : Cmd) (v : Vc) (a : Assoc) (k : Conn), AdminReady s key 0x02 c v a → RoceReply s c k →
    let lid := c.cdw 10 % 256
    let off := c.cdw 12 + c.cdw 13 * 2 ^ 32
    (∀ page, lid ≠ 0x02 → s.logPage v a lid (c.cdw 10 / 256 % 16) = some page → off ≤ page.length → off % 4 = 0 →
      (c.cdw 10).testBit 15 = true → Runs (.getLogPage key) s
        (Returns key c k ((page.drop off).take c.adminBytes ++
          List.replicate (c.adminBytes - ((page.drop off).take c.adminBytes).length) 0) s)) ∧
    (s.logPage v a lid (c.cdw 10 / 256 % 16) = none → Runs (.getLogPage key) s (Ends key c 0x109 0 s))) ∧
  (∀ (s : State) (v : Nat) (x : Vc) (a : Assoc), s.vc v = some x → x.assoc = some a → x.state = .active → x.resetting = false →
    (a.kato ≠ 0 → s.katoTicks a ≤ a.kaTicks → Runs (.keepAliveExpiry v) s fun t =>
      t.vc v = some { x with
        vgen := (x.vgen + 1) % 65536, resetting := true, assoc := some { a with ready := false, aers := [], events := [] } } ∧
      OtherVcs v s t ∧
      (∀ q, q < 2048 → t.queue v q = (s.queue v q).map (fun y => { y with live := false, qgen := (y.qgen + 1) % 65536 })) ∧
      (∀ w q, w ≠ v → t.queue w q = s.queue w q) ∧
      (∀ k, t.cmd k = if k ∈ a.aers then none else s.cmd k) ∧ SameRegs [(F.VCT.STAT.COUNT.nth 1).addr] s t ∧ SameMemory s t) ∧
    (a.kaTicks < s.katoTicks a → exec (.keepAliveExpiry v) s = .next s)) ∧
  (∀ (s : State) (v : Nat) (x : Vc), s.vc v = some x → x.resetting = true →
    ((∀ p ∈ s.inFlight v, p.2.vgen = x.vgen) → Runs (.controllerResetDone v) s fun t =>
      t.vc v = some { x with resetting := false, assoc := none } ∧ OtherVcs v s t ∧
      t = { s with vct := { s.vct with vcs := t.vct.vcs } }) ∧
    ((∃ p ∈ s.inFlight v, p.2.vgen ≠ x.vgen) → exec (.controllerResetDone v) s = .next s))

/-- The Fabrics rows. -/
def Obligations.FabricsCommandRows : Prop :=
  (∀ (s : State) (key : Nat) (c : Cmd) (v : Vc) (a : Assoc), FabricsReady s key 4 c → s.vc c.vc = some v → v.assoc = some a →
    c.qid = 0 →
    (c.field 44 4 = 0 → c.field 40 1 % 8 = 1 →
      Runs (.propertyGet key) s (Ends key c 0 (1023 + 2 ^ 16 + 4 * 2 ^ 24 + 2 ^ 37) s)) ∧
    (c.field 44 4 = 0x08 → c.field 40 1 % 8 = 0 → Runs (.propertyGet key) s (Ends key c 0 0x20000 s)) ∧
    (c.field 44 4 = 0x14 → c.field 40 1 % 8 = 0 → Runs (.propertyGet key) s (Ends key c 0 a.cc s)) ∧
    (c.field 44 4 = 0x1C → c.field 40 1 % 8 = 0 → v.resetting = false → a.cc / 2 ^ 14 % 4 = 0 →
      Runs (.propertyGet key) s (Ends key c 0 a.ready.toNat s)) ∧
    (c.field 44 4 ∉ [0, 0x08, 0x14, 0x1C] → Runs (.propertyGet key) s (Ends key c 0x002 0 s))) ∧
  (∀ (s : State) (key : Nat) (c : Cmd) (v : Vc) (a : Assoc), FabricsReady s key 0 c → s.vc c.vc = some v → v.assoc = some a →
    (c.qid = 0 → c.field 44 4 = 0x14 → c.field 40 1 % 8 = 0 → Runs (.propertySet key) s fun t =>
      let x := c.field 48 4
      let resets : Bool := (a.cc % 2 == 1 && x % 2 == 0) || (x / 2 ^ 14 % 4 != 0 && a.cc / 2 ^ 14 % 4 == 0)
      t.vc c.vc = some { v with assoc := some { a with cc := x, ready := a.ready || (x % 2 == 1 && !resets) } } ∧
      OtherVcs c.vc s t ∧ t.cmd key = some { c with ends := resets, stage := .finished, status := 0, dw0 := 0 } ∧
      OtherCmds key s t ∧ t = { s with cmf := { s.cmf with cmds := t.cmf.cmds }, vct := { s.vct with vcs := t.vct.vcs } }) ∧
    (c.field 44 4 ≠ 0x14 → Runs (.propertySet key) s (Ends key c 0x002 0 s))) ∧
  (∀ (s : State) (key : Nat) (c : Cmd), s.cmd key = some c → c.isConnect = true → c.stage = .admitted →
    (c.keyed = false → Runs (.connect key) s (Ends key c 0x011 0 s)) ∧
    (c.sglType = 0x40 → c.sglLen ≠ 1024 → Runs (.connect key) s (Ends key c 0x00F 0 s)) ∧
    (∀ k, c.sglType = 0x40 → c.sglLen = 1024 → s.ready c.conn = some k → k.isRoce = true → s.lcs.mode.serving = true →
      Runs (.connect key) s fun t =>
      t.cmd key = some { c with stage := .fetching, data := [] } ∧ OtherCmds key s t ∧
      t.out = s.out ++ [.roce c.conn 4 k.npsn (packetsOf k.seg 1024) (rethBytes c.sglAddr c.sglKey 1024)] ∧
      t = { s with cmf := { s.cmf with cmds := t.cmf.cmds }, qpc := { s.qpc with conns := t.qpc.conns }, out := t.out })) ∧
  (∀ (s : State) (key : Nat) (c : Cmd), s.cmd key = some c → c.isConnect = true → c.stage = .held →
    (∀ x, s.connectStatus key c = some x → Runs (.connect key) s fun t =>
      t.cmd key = some { c with stage := .finished, status := x, dw0 := 0 } ∧ OtherCmds key s t ∧
      t.fld (F.VCT.STAT.COUNT.nth 6) = (s.fld (F.VCT.STAT.COUNT.nth 6) + 1) % 2 ^ 64 ∧
      SameRegs [(F.VCT.STAT.COUNT.nth 6).addr] s t ∧
      t = { s with cmf := { s.cmf with cmds := t.cmf.cmds }, regs := t.regs }) ∧
    (∀ v, s.connectStatus key c = none → s.vc c.vc = some v → c.qid < 2048 → Runs (.connect key) s fun t =>
      (∃ q, t.queue c.vc c.qid = some q ∧ q.live = true ∧ q.conn = c.conn ∧ q.sqsize = c.field 44 2 ∧
        q.qgen = ((s.queue c.vc c.qid).map Queue.qgen).getD 0) ∧
      t.vc c.vc = some (if c.qid = 0 then { v with assoc := some (newAssoc c) } else v) ∧ OtherVcs c.vc s t ∧
      (∃ d, t.cmd key = some d ∧ d.stage = .finished ∧ d.status = 0 ∧ d.dw0 = v.field 0 2) ∧ OtherCmds key s t ∧
      t = { s with
        cmf := { s.cmf with cmds := t.cmf.cmds, queues := t.cmf.queues }, vct := { s.vct with vcs := t.vct.vcs },
        qpc := { s.qpc with conns := t.qpc.conns } })) ∧
  (∀ (s : State) (key : Nat) (c : Cmd), FabricsReady s key 8 c → Runs (.disconnect key) s fun t =>
    t.cmd key = some { c with ends := true, stage := .finished, status := 0, dw0 := 0 } ∧ OtherCmds key s t ∧
    t = { s with cmf := { s.cmf with cmds := t.cmf.cmds } })

/-- The I/O rows. -/
def Obligations.NvmCommandRows : Prop :=
  (∀ (s : State) (key : Nat) (c : Cmd) (x : Nat), s.ioStatus c = some x → x ≠ 0x083 →
    (IoReady s key 0x00 c → c.nsid ≠ 0xFFFFFFFF → Runs (.flush key) s (Ends key c x 0 s)) ∧
    (IoReady s key 0x01 c → Runs (.write key) s (Ends key c x 0 s)) ∧
    (IoReady s key 0x02 c → Runs (.read key) s (Ends key c x 0 s)) ∧
    (IoReady s key 0x05 c → Runs (.compare key) s (Ends key c x 0 s)) ∧
    (IoReady s key 0x08 c → Runs (.writeZeroes key) s (Ends key c x 0 s)) ∧
    (IoReady s key 0x09 c → Runs (.datasetManagement key) s (Ends key c x 0 s)) ∧
    (IoReady s key 0x0D c → Runs (.reservationRegister key) s (Ends key c x 0 s)) ∧
    (IoReady s key 0x0E c → Runs (.reservationReport key) s (Ends key c x 0 s)) ∧
    (IoReady s key 0x11 c → Runs (.reservationAcquire key) s (Ends key c x 0 s)) ∧
    (IoReady s key 0x15 c → Runs (.reservationRelease key) s (Ends key c x 0 s))) ∧
  (∀ (s : State) (key : Nat) (c : Cmd), s.cmd key = some c → c.stage = .admitted → c.io = true → c.opcode = 0 →
    c.nsid = 0xFFFFFFFF → c.field 1 1 % 4 = 0 → Runs (.flush key) s (Ends key c 0 0 s)) ∧
  (∀ (s : State) (key : Nat) (c : Cmd), IoReady s key 0x00 c → c.nsid ≠ 0xFFFFFFFF → s.ioStatus c = none →
    s.isForwarded c = false → Runs (.flush key) s fun t =>
    (∃ d, t.cmd key = some d ∧ d.stage = .finished ∧ d.status = 0) ∧ OtherCmds key s t ∧
    t = { s with cmf := { s.cmf with cmds := t.cmf.cmds } }) ∧
  (∀ (s : State) (key : Nat) (c : Cmd) (n : Ns) (k : Conn), s.ioStatus c = none → s.isForwarded c = false → c.ns = some n →
    RoceReply s c k → c.keyed = true →
    let fetches (t : State) : Prop :=
      (∃ d, t.cmd key = some d ∧ d.stage = .fetching ∧ d.first = c.slba * n.block / 4096) ∧ OtherCmds key s t ∧
      t.out = s.out ++ [.roce c.conn 4 k.npsn (packetsOf k.seg (c.nlb * n.block))
        (rethBytes c.sglAddr c.sglKey (c.nlb * n.block))] ∧
      SameRegs [(F.CMF.STAT.COUNT.nth 10).addr] s t ∧
      t = { s with
        cmf := { s.cmf with cmds := t.cmf.cmds }, qpc := { s.qpc with conns := t.qpc.conns }, out := t.out, regs := t.regs }
    (IoReady s key 0x01 c → Runs (.write key) s fetches) ∧ (IoReady s key 0x05 c → Runs (.compare key) s fetches)) ∧
  (∀ (s : State) (key : Nat) (c : Cmd) (n : Ns) (d : KeySlot), IoHeld s key 0x01 c n → c.partials n.block = [] → c.count = 1 →
    s.digestKey = some d → Runs (.write key) s fun t =>
    t.cmd key = some { c with stage := .writing, items := [], recorded := false, reads := [] } ∧ OtherCmds key s t ∧
    t.rdx.nextChunk = s.rdx.nextChunk + 1 ∧
    (∃ j, Tab.find t.rdx.chunks s.rdx.nextChunk = some j ∧ j.stage = .cut ∧ j.cmd = some key ∧ j.granule = c.first ∧
      j.granules = 1) ∧
    (∀ m, m ≠ s.rdx.nextChunk → Tab.find t.rdx.chunks m = Tab.find s.rdx.chunks m) ∧
    SameRegs [(F.CMF.STAT.COUNT.nth 11).addr] s t ∧ SameMemory s t) ∧
  (∀ (s : State) (key : Nat) (c : Cmd) (n : Ns) (k : Conn), IoHeld s key 0x02 c n → RoceReply s c k → s.other = none →
    c.count = 1 → s.readWaits key c = false → mapPageKey c.nsid c.first ∈ s.ftl.mapCached →
    (∀ r ∈ s.ftl.journal, r.applied = true ∨ r.superseded = true) → s.ftl.tables.entry c.nsid c.first = none →
    Runs (.read key) s fun t =>
    (∃ d, t.cmd key = some d ∧ d.stage = .finished ∧ d.status = 0 ∧ d.resolved = true) ∧ OtherCmds key s t ∧
    (let (a, b) := c.byteRange n.block
     let p := pieceOf a b c.first (List.replicate 4096 0)
     t.out = s.out ++ [.roce c.conn 2 k.npsn (packetsOf k.seg p.2.length)
       (rethBytes (c.sglAddr + p.1) c.sglKey p.2.length ++ p.2)]) ∧
    t = { s with cmf := { s.cmf with cmds := t.cmf.cmds }, qpc := { s.qpc with conns := t.qpc.conns }, out := t.out }) ∧
  (∀ (s : State) (key : Nat) (c : Cmd) (n : Ns), IoHeld s key 0x05 c n → s.other = none →
    c.count = 1 → s.readWaits key c = false → mapPageKey c.nsid c.first ∈ s.ftl.mapCached →
    (∀ r ∈ s.ftl.journal, r.applied = true ∨ r.superseded = true) → s.ftl.tables.entry c.nsid c.first = none →
    let (a, b) := c.byteRange n.block
    Runs (.compare key) s fun t =>
    (∃ d, t.cmd key = some d ∧ d.stage = .finished ∧
      d.status = if c.data = (pieceOf a b c.first (List.replicate 4096 0)).2 then 0 else 0x285) ∧ OtherCmds key s t ∧
    t = { s with cmf := { s.cmf with cmds := t.cmf.cmds } }) ∧
  (∀ (s : State) (key : Nat) (c : Cmd) (n : Ns), IoHeld s key 0x08 c n → c.partials n.block = [] →
    c.slba * n.block % 4096 = 0 → (c.slba + c.nlb) * n.block % 4096 = 0 → 0 < n.block → Runs (.writeZeroes key) s fun t =>
    t.cmd key = some { c with
      stage := .writing, recorded := false, reads := [],
      items := [[.dealloc c.nsid (c.slba * n.block / 4096) (c.nlb * n.block / 4096)]] } ∧ OtherCmds key s t ∧
    t.rdx.nextChunk = s.rdx.nextChunk ∧ (∀ m, Tab.find t.rdx.chunks m = Tab.find s.rdx.chunks m) ∧
    SameRegs [(F.CMF.STAT.COUNT.nth 11).addr] s t ∧ SameMemory s t) ∧
  (∀ (s : State) (key : Nat) (c : Cmd) (n : Ns), IoHeld s key 0x09 c n → c.cdw 10 % 256 = 0 →
    let first := leNat ((c.data.drop 8).take 8)
    let len := leNat ((c.data.drop 4).take 4)
    (n.nsze < first + len → Runs (.datasetManagement key) s (Ends key c 0x080 0 s)) ∧
    (first + len ≤ n.nsze → (c.cdw 11).testBit 2 = false → Runs (.datasetManagement key) s (Ends key c 0 0 s)) ∧
    (first + len ≤ n.nsze → (c.cdw 11).testBit 2 = true →
      (first * n.block + 4095) / 4096 < (first + len) * n.block / 4096 → Runs (.datasetManagement key) s fun t =>
      (∃ d, t.cmd key = some d ∧ d.stage = .writing ∧ d.items = [[.dealloc c.nsid ((first * n.block + 4095) / 4096)
        ((first + len) * n.block / 4096 - (first * n.block + 4095) / 4096)]]) ∧ OtherCmds key s t ∧ t.regs = s.regs ∧
      SameMemory s t))

/-- The reservation rows, each in its turn and with its data present. -/
def Obligations.ReservationRows : Prop :=
  let ready (s : State) (key op : Nat) (c : Cmd) (n : Ns) : Prop :=
    s.cmd key = some c ∧ c.stage = .held ∧ c.io = true ∧ c.opcode = op ∧ c.ns = some n ∧ s.outOfTurn key c = false ∧
      s.other = none
  let changed (s : State) (key : Nat) (c : Cmd) (r : Rsv) (op : Nat) (k pk : Word) (t : State) : Prop :=
    t.rsvOf c.nsid = r ∧ (∀ m, m ≠ c.nsid → t.rsvOf m = s.rsvOf m) ∧
    t.cmd key = some { c with stage := .writing, recorded := true, items := [] } ∧ OtherCmds key s t ∧
    t.ftl.journal.map JRec.items = s.ftl.journal.map JRec.items ++
      [[.rsv c.nsid op r.rtype r.ptpl r.prgen c.host k pk]] ∧
    SameRegs [(F.FTL.STAT.COUNT.nth 12).addr] s t ∧
    t = { s with cmf := { s.cmf with rsv := t.cmf.rsv, cmds := t.cmf.cmds }, ftl := t.ftl, regs := t.regs }
  (∀ (s : State) (key : Nat) (c : Cmd) (n : Ns), ready s key 0x0D c n → c.cdw 10 % 8 = 0 → c.cdw 10 / 2 ^ 30 = 0 →
    (s.rsvOf c.nsid).registrant c.host = none →
    let r := s.rsvOf c.nsid
    (r.regs.length < 64 → Runs (.reservationRegister key) s (changed s key c { r with
      regs := r.regs ++ [⟨c.host, c.dataWord 8⟩], prgen := (r.prgen + 1) % 2 ^ 32 } 1 (c.dataWord 8) 0)) ∧
    (64 ≤ r.regs.length → Runs (.reservationRegister key) s (Ends key c 0x002 0 s))) ∧
  (∀ (s : State) (key : Nat) (c : Cmd) (n : Ns), ready s key 0x11 c n → c.cdw 10 % 16 = 0 →
    let r := s.rsvOf c.nsid
    let rtype := c.cdw 10 / 256 % 256
    (∀ g, r.registrant c.host = some g → g.key = c.dataWord 0 → 1 ≤ rtype → rtype ≤ 6 → r.rtype = 0 →
      Runs (.reservationAcquire key) s (changed s key c { r with rtype := rtype, holder := some c.host } 4 (c.dataWord 0) 0)) ∧
    (r.registrant c.host = none → Runs (.reservationAcquire key) s fun t =>
      t.cmd key = some { c with stage := .finished, status := 0x083, dw0 := 0 } ∧ OtherCmds key s t ∧
      t.fld (F.CMF.STAT.COUNT.nth 14) = (s.fld (F.CMF.STAT.COUNT.nth 14) + 1) % 2 ^ 64 ∧
      SameRegs [(F.CMF.STAT.COUNT.nth 14).addr] s t ∧
      t = { s with cmf := { s.cmf with cmds := t.cmf.cmds }, regs := t.regs })) ∧
  (∀ (s : State) (key : Nat) (c : Cmd) (n : Ns) (g : Registrant), ready s key 0x15 c n → c.cdw 10 % 16 = 0 →
    (s.rsvOf c.nsid).registrant c.host = some g → g.key = c.dataWord 0 → (s.rsvOf c.nsid).holder = some c.host →
    (s.rsvOf c.nsid).rtype = c.cdw 10 / 256 % 256 → ((s.rsvOf c.nsid).rtype = 1 ∨ (s.rsvOf c.nsid).rtype = 2) →
    Runs (.reservationRelease key) s (changed s key c { s.rsvOf c.nsid with rtype := 0, holder := none } 6 (c.dataWord 0) 0)) ∧
  (∀ (s : State) (key : Nat) (c : Cmd) (n : Ns), ready s key 0x0E c n →
    ((c.cdw 11).testBit 0 = false → Runs (.reservationReport key) s (Ends key c 0x018 0 s)) ∧
    (∀ k, (c.cdw 11).testBit 0 = true → RoceReply s c k →
      let len := (c.cdw 10 + 1) * 4
      let b := (s.rsvStatus (s.rsvOf c.nsid)).take len
      Runs (.reservationReport key) s (Returns key c k (b ++ List.replicate (len - b.length) 0) s)))

/-- The CMF rows that are not commands of hosts. -/
def Obligations.NamespaceActivationAndAnaRows : Prop :=
  let ns (op : Nat) (_ : Req) (s : State) : State := { s with cmf := { s.cmf with nsCmd := some op } }
  StartsCommand FromCore F.CMF.NS_STATUS.BUSY (fun r => .nsRead r) (ns 1) ∧
  StartsCommand FromCore F.CMF.NS_STATUS.BUSY (fun r => .nsWrite r) (ns 2) ∧
  StartsCommand FromCore F.CMF.NS_STATUS.BUSY (fun r => .nsDelete r) (ns 3) ∧
  DiscardedWhileBusy FromCore F.CMF.NS_STATUS.BUSY (fun r => .nsRead r) ∧
  DiscardedWhileBusy FromCore F.CMF.NS_STATUS.BUSY (fun r => .nsWrite r) ∧
  DiscardedWhileBusy FromCore F.CMF.NS_STATUS.BUSY (fun r => .nsDelete r) ∧
  (∀ (s : State), s.cmf.nsCmd = some 1 →
    let nsid := s.fld F.CMF.NS_SEL.NSID
    let t := s.runNsCommand
    t.fld F.CMF.NS_STATUS.BUSY = 0 ∧ t.cmf = { s.cmf with nsCmd := none } ∧ Signals s t Src.CMF 0 nsid ∧
    (Tab.find s.cmf.ns nsid = none → t.fld F.CMF.NS_STATUS.RESULT = 2 ∧ t.flag F.CMF.NS_DATA2.VALID = false) ∧
    (∀ n, Tab.find s.cmf.ns nsid = some n → n.nsze < 2 ^ 64 → n.src < 2 ^ 32 → n.snapMe < 2 ^ 32 → n.vset < 32 →
      n.keySlot < 4096 → t.fld F.CMF.NS_STATUS.RESULT = 0 ∧ t.flag F.CMF.NS_DATA2.VALID = true ∧
      t.nsFromRegs = { n with wp := n.wp || n.src != 0 } ∧ t.flag F.CMF.NS_DATA2.PTPL = (s.rsvOf nsid).ptpl)) ∧
  (∀ (s : State), s.cmf.nsCmd = some 2 →
    let nsid := s.fld F.CMF.NS_SEL.NSID
    let n := s.nsFromRegs
    let t := s.runNsCommand
    t.fld F.CMF.NS_STATUS.BUSY = 0 ∧ t.cmf.nsCmd = none ∧ Raises t Src.CMF 0 ∧ SameMemory s t ∧
    (n.sizeOk = false → t.fld F.CMF.NS_STATUS.RESULT = 1 ∧ t.cmf = { s.cmf with nsCmd := none }) ∧
    (n.sizeOk = true → n.src = 0 → n.snapMe = 0 → Tab.find s.cmf.ns nsid = none → s.flag F.CMF.NS_DATA2.PTPL = false →
      s.other = none → t.fld F.CMF.NS_STATUS.RESULT = 0 ∧ Tab.find t.cmf.ns nsid = some n ∧
      (∀ m, m ≠ nsid → Tab.find t.cmf.ns m = Tab.find s.cmf.ns m) ∧ (Tab.find t.ftl.tables.epochs nsid).isSome = true)) ∧
  (∀ (s : State), s.cmf.nsCmd = some 3 →
    let nsid := s.fld F.CMF.NS_SEL.NSID
    let t := s.runNsCommand
    t.fld F.CMF.NS_STATUS.BUSY = 0 ∧ t.cmf.nsCmd = none ∧ Raises t Src.CMF 0 ∧ SameMemory s t ∧
    (Tab.find s.cmf.ns nsid = none → t.fld F.CMF.NS_STATUS.RESULT = 2 ∧ t.cmf.ns = s.cmf.ns) ∧
    (∀ n, Tab.find s.cmf.ns nsid = some n → (∃ p ∈ s.cmf.ns, p.2.src = nsid) →
      t.fld F.CMF.NS_STATUS.RESULT = 3 ∧ t.cmf.ns = s.cmf.ns) ∧
    (∀ n, Tab.find s.cmf.ns nsid = some n → (∀ p ∈ s.cmf.ns, p.2.src ≠ nsid) → n.src = 0 → s.other = none →
      t.fld F.CMF.NS_STATUS.RESULT = 0 ∧ Tab.find t.cmf.ns nsid = none ∧ t.rsvOf nsid = ⟨0, 0, none, [], false⟩ ∧
      (∀ m, m ≠ nsid → Tab.find t.cmf.ns m = Tab.find s.cmf.ns m) ∧ t.ftl.sweeps = s.ftl.sweeps ++ [⟨nsid, 0, true⟩])) ∧
  (∀ (s : State) (r : Req), r.test = false →
    (s.cmf.hold = none → Runs (.actStart r) s fun t => SameRegs [] s t ∧
      t = { s with cmf := { s.cmf with actStart := true }, regs := t.regs }) ∧
    (∀ h, s.cmf.hold = some h → Runs (.actStart r) s fun t =>
      (t.reg (blockBase Src.CMF + 8)).getLsbD 4 = true ∧ t.evr.queue = s.evr.queue ∧
      SameRegs [blockBase Src.CMF + 8, blockBase Src.CMF + 16] s t ∧ t = { s with regs := t.regs, evr := t.evr }) ∧
    (∀ h, s.cmf.hold = some h → Runs (.actRelease r) s fun t => SameRegs [] s t ∧
      t = { s with cmf := { s.cmf with hold := some { h with release := true } }, regs := t.regs })) ∧
  (∀ s : State, s.cmf.hold = none → s.cmf.actStart = true →
    s.holdBoundary.cmf = { s.cmf with actStart := false, hold := some ⟨s.now, false, false⟩ } ∧
    s.holdBoundary.flag F.CMF.ACT_STATUS.HOLD = true ∧ s.holdBoundary.flag F.CMF.ACT_STATUS.QUIESCED = false) ∧
  (∀ (s : State) (h : Hold), s.cmf.hold = some h → h.release = true → h.quiesced = true → s.cmf.actStart = false →
    s.holdBoundary.cmf = { s.cmf with hold := none } ∧ s.holdBoundary.flag F.CMF.ACT_STATUS.HOLD = false ∧
    s.holdBoundary.fld F.CMF.ACT_STATUS.RESULT = 0) ∧
  (∀ (s : State) (h : Hold), s.cmf.hold = some h → h.quiesced = false →
    ((∀ p ∈ s.cmf.cmds, p.2.waitsEvent = true) → Runs .actQuiesced s fun t =>
      t.cmf = { s.cmf with hold := some { h with quiesced := true } } ∧ t.flag F.CMF.ACT_STATUS.QUIESCED = true ∧
      Signals s t Src.CMF 1 0 ∧ SameRegs (F.CMF.ACT_STATUS.QUIESCED.addr :: eventRegs Src.CMF) s t ∧
      t = { s with cmf := t.cmf, regs := t.regs, evr := t.evr }) ∧
    ((∃ p ∈ s.cmf.cmds, p.2.waitsEvent = false) → exec .actQuiesced s = .next s) ∧
    (h.since + s.ticksIn 1000 ≤ s.now → s.fld F.SIM.STATUS.STATE ≠ 6 → Runs .actTimeout s fun t =>
      t.cmf = { s.cmf with hold := none } ∧ t.flag F.CMF.ACT_STATUS.HOLD = false ∧ t.fld F.CMF.ACT_STATUS.RESULT = 1 ∧
      t.fld F.CMF.ACT_STATUS.HOLD_TICKS = min (s.now - h.since) 65535 ∧ Signals s t Src.CMF 2 0 ∧
      SameRegs (F.CMF.ACT_STATUS.HOLD.addr :: eventRegs Src.CMF) s t ∧
      t = { s with cmf := t.cmf, regs := t.regs, evr := t.evr }) ∧
    (s.now < h.since + s.ticksIn 1000 → exec .actTimeout s = .next s)) ∧
  (∀ (s : State) (r : Req) (v : Nat) (w : Word), r.test = false → v < 32 → wfld w.toNat F.CMF.ANA.FORCE ≤ 2 →
    Runs (.anaForceWrite r v w) s fun t =>
    t.fld (F.CMF.ANA.FORCE.nth v) = wfld w.toNat F.CMF.ANA.FORCE ∧
    t.fld (F.CMF.ANA.STATE.nth v) = s.fld (F.CMF.ANA.STATE.nth v) ∧ SameRegs [(F.CMF.ANA.FORCE.nth v).addr] s t ∧
    (wfld w.toNat F.CMF.ANA.FORCE = 1 → t.anaCode v = 3) ∧ (wfld w.toNat F.CMF.ANA.FORCE = 2 → t.anaCode v = 4) ∧
    t = { s with regs := t.regs }) ∧
  (∀ (s : State) (v : Nat) (a : AnaSet), v < 32 → Tab.find s.cmf.ana v = some a → a.state = 15 → a.late = false →
    s.anaCode v = 15 →
    (a.since + s.ticksIn (s.fld F.CMF.CONFIG.ANATT * 1000000) < s.now → Runs (.anattExceeded v) s fun t =>
      (∃ b, Tab.find t.cmf.ana v = some b ∧ b.state = 3 ∧ b.late = true) ∧ t.fld (F.CMF.ANA.STATE.nth v) = 3 ∧
      (HasRoom s → HasRecord s t Src.CMF 0x0502 v) ∧ SameMemory s t ∧ t.lcs = s.lcs ∧ t.rfl = s.rfl) ∧
    (s.now ≤ a.since + s.ticksIn (s.fld F.CMF.CONFIG.ANATT * 1000000) → exec (.anattExceeded v) s = .next s)) ∧
  (∀ (s : State) (n : Nat) (k : Conn) (cap : Capsule) (rest : List Capsule) (since : Nat),
    Tab.find s.cmf.caps n = some (cap :: rest) → s.conn n = some k → cap.heldSince = some since →
    (since + s.fld F.CMF.ADMIT_CTL.WAIT_MAX < s.now → s.flag F.FTL.STATUS.FOLD_STOPPED = true →
      Runs (.capacityExceeded n) s fun t =>
      (∃ d, t.cmd s.cmf.nextCmd = some d ∧ d.stage = .finished ∧ d.status = 0x081 ∧ d.sqe = cap.bytes.take 64 ∧ d.conn = n) ∧
      OtherCmds s.cmf.nextCmd s t ∧ t.cmf.nextCmd = s.cmf.nextCmd + 1 ∧ Tab.getD t.cmf.caps n [] = rest ∧
      t.cmf.taken = s.cmf.taken ∧ Signals s t Src.CMF 4 k.vcOf ∧ SameRegs (eventRegs Src.CMF) s t ∧
      t = { s with cmf := t.cmf, regs := t.regs, evr := t.evr }))

/-- The rows of HPT's ports and of QPC. -/
def Obligations.EthernetAndContextRows : Prop :=
  (∀ (s : State) (p : Nat), p < s.hostPorts →
    (s.flag (F.HPT.PORT_CTL.EN.nth p) = true → s.portUp p = false → Runs (.ethPortUp p) s fun t =>
      t.portUp p = true ∧ (∀ q, q ≠ p → t.portUp q = s.portUp q) ∧ t.fld (F.HPT.PORT_STATUS.STATE.nth p) = 2 ∧
      t.fld (F.HPT.PORT_STATUS.SPEED.nth p) = 3 - min (s.fld F.HPT.CONFIG.SPLIT) 2 ∧ Signals s t Src.HPT 0 p ∧
      SameRegs (F.HPT.STATUS.UP.addr :: (F.HPT.PORT_STATUS.STATE.nth p).addr :: eventRegs Src.HPT) s t ∧
      t = { s with regs := t.regs, evr := t.evr }) ∧
    (s.portUp p = true → Runs (.ethPortDown p) s fun t =>
      t.portUp p = false ∧ (∀ q, q ≠ p → t.portUp q = s.portUp q) ∧ t.fld (F.HPT.PORT_STATUS.STATE.nth p) = 0 ∧
      Signals s t Src.HPT 1 p ∧
      SameRegs (F.HPT.STATUS.UP.addr :: (F.HPT.PORT_STATUS.STATE.nth p).addr :: eventRegs Src.HPT) s t ∧
      t = { s with regs := t.regs, evr := t.evr })) ∧
  (∀ (s : State) (p : Nat) (b : List Byte), p < s.hostPorts → s.portUp p = true →
    let a := s.fld (F.HPT.RING_BASE.ADDR.nth 256) * 32 + 16384 * (s.ringProd 256 % s.ringSize 256)
    (60 ≤ b.length → b.length ≤ 9212 → beNat (b.take 6) = s.fld (F.HPT.PORT_MAC.MAC.nth p) → s.ringRoom 256 0 = true →
      s.memOk Src.HPT a (64 + b.length) = true → Runs (.rawFrameReceive p b) s fun t =>
      (∀ i, i < b.length → t.byte (a + 64 + i) = b.getD i 0) ∧
      t.load a 16 = leBytes 2 b.length ++ leBytes 1 p ++ List.replicate 5 0 ++ leBytes 8 s.now ∧
      (∀ x, x < a ∨ a + 64 + b.length ≤ x → t.byte x = s.byte x) ∧
      t.ringProd 256 = (s.ringProd 256 + 1) % 2 ^ 32 ∧ t.flag (F.APC.IRQ_ROUTE.PENDING.nth 512) = true ∧
      SameRegs [(F.HPT.STAT.COUNT.nth 0).addr, (F.HPT.STAT.COUNT.nth 3).addr, (F.HPT.RING_PROD.COUNT.nth 256).addr,
        (F.APC.IRQ_ROUTE.PENDING.nth 512).addr] s t ∧ t = { s with regs := t.regs, mem := t.mem }) ∧
    (60 ≤ b.length → b.length ≤ 9212 → beNat (b.take 6) = s.fld (F.HPT.PORT_MAC.MAC.nth p) → s.ringRoom 256 0 = false →
      Runs (.rawFrameReceive p b) s fun t => Signals s t Src.HPT 2 p ∧
      SameRegs ((F.HPT.STAT.COUNT.nth 0).addr :: (F.HPT.STAT.COUNT.nth 4).addr :: eventRegs Src.HPT) s t ∧
      t = { s with regs := t.regs, evr := t.evr }) ∧
    (9212 < b.length → Runs (.rawFrameReceive p b) s fun t =>
      t.fld (F.HPT.PORT_ERR.FCS.nth p) = min (s.fld (F.HPT.PORT_ERR.FCS.nth p) + 1) (2 ^ 32 - 1) ∧
      SameRegs [(F.HPT.STAT.COUNT.nth 0).addr, (F.HPT.STAT.COUNT.nth 2).addr, (F.HPT.PORT_ERR.FCS.nth p).addr] s t ∧
      t = { s with regs := t.regs })) ∧
  (∀ (s : State) (r : Req), r.test = false → s.flag (F.HPT.RING_CFG.EN.nth 257) = true → s.lcs.mode.serving = true →
    let k := s.ringCons 257
    let a := s.fld (F.HPT.RING_BASE.ADDR.nth 257) * 32 + 16384 * (k % s.ringSize 257)
    s.memOk Src.HPT a 16384 = true → Runs (.rawTransmit r (BitVec.ofNat 64 ((k + 1) % 2 ^ 32))) s fun t =>
    t.out = s.out ++ [.rawFrame (leNat (((s.load a 16384).drop 2).take 1))
      (((s.load a 16384).drop 64).take (leNat ((s.load a 16384).take 2)))] ∧
    t.ringCons 257 = (k + 1) % 2 ^ 32 ∧ t.ringProd 257 = (k + 1) % 2 ^ 32 ∧
    SameRegs [(F.HPT.RING_PROD.COUNT.nth 257).addr, (F.HPT.RING_CONS.COUNT.nth 257).addr, (F.HPT.STAT.COUNT.nth 1).addr,
      (F.APC.IRQ_ROUTE.PENDING.nth 513).addr] s t ∧ t = { s with regs := t.regs, out := t.out }) ∧
  (∀ n : Nat, n < 2 ^ 17 →
    let start (op : Nat) (_ : Req) (s : State) : State := { s with qpc := { s.qpc with command := some (op, n) } }
    StartsCommand FromCore F.QPC.CMD_STATUS.BUSY (fun r => .ctxCreate r n) (start 1) ∧
    StartsCommand FromCore F.QPC.CMD_STATUS.BUSY (fun r => .ctxModify r n) (start 2) ∧
    StartsCommand FromCore F.QPC.CMD_STATUS.BUSY (fun r => .ctxDestroy r n) (start 3) ∧
    StartsCommand FromCore F.QPC.CMD_STATUS.BUSY (fun r => .ctxRead r n) (start 4) ∧
    DiscardedWhileBusy FromCore F.QPC.CMD_STATUS.BUSY (fun r => .ctxCreate r n) ∧
    DiscardedWhileBusy FromCore F.QPC.CMD_STATUS.BUSY (fun r => .ctxModify r n) ∧
    DiscardedWhileBusy FromCore F.QPC.CMD_STATUS.BUSY (fun r => .ctxDestroy r n) ∧
    DiscardedWhileBusy FromCore F.QPC.CMD_STATUS.BUSY (fun r => .ctxRead r n)) ∧
  (∀ (s : State) (op n : Nat), s.qpc.command = some (op, n) → 1 ≤ op → op ≤ 4 →
    let t := s.runQpcCommand
    let b := s.ctxData
    t.fld F.QPC.CMD_STATUS.BUSY = 0 ∧ t.qpc.command = none ∧ Raises t Src.QPC 0 ∧
    (∀ m, m ≠ n → t.conn m = s.conn m) ∧
    (op = 1 → s.conn n = none → s.contextOk b = true →
      t.fld F.QPC.CMD_STATUS.RESULT = 0 ∧ t.conn n = some (s.newConn b) ∧ n ∈ t.qpc.cached) ∧
    (op = 1 → s.conn n = none → s.contextOk b = false → t.fld F.QPC.CMD_STATUS.RESULT = 1 ∧ t.conn n = none) ∧
    (op = 1 → s.conn n ≠ none → t.fld F.QPC.CMD_STATUS.RESULT = 2 ∧ t.conn n = s.conn n) ∧
    (∀ c, op = 2 → s.conn n = some c → c.failed = false → s.contextOk b = true → modifiable c.ctx b = true →
      t.fld F.QPC.CMD_STATUS.RESULT = 0 ∧ t.conn n = some { c with ctx := b }) ∧
    (∀ c, op = 2 → s.conn n = some c → c.failed = false → (s.contextOk b = false ∨ modifiable c.ctx b = false) →
      t.fld F.QPC.CMD_STATUS.RESULT = 1 ∧ t.conn n = some c) ∧
    (∀ c, op = 3 → s.conn n = some c → t.fld F.QPC.CMD_STATUS.RESULT = 0 ∧ t.conn n = none ∧ n ∉ t.qpc.cached) ∧
    ((op = 2 ∨ op = 3) → s.conn n = none → t.fld F.QPC.CMD_STATUS.RESULT = 2 ∧ t.conn n = none) ∧
    (∀ c, op = 4 → s.conn n = some c → t.fld F.QPC.CMD_STATUS.RESULT = 0 ∧
      t.fld F.QPC.CMD_STATUS.STATE = (if c.failed then 2 else 1) ∧ t.conn n = some c ∧
      ∀ i, i < 16 → t.fld (F.QPC.CTX_DATA.DATA.nth i) = leNat ((c.ctx.drop (8 * i)).take 8))) ∧
  (∀ (s : State) (n since : Nat) (c : Conn), s.conn n = some c → c.fetch = some since → c.parked = [] →
    s.qpc.cached.length < 16384 → (∀ p ∈ s.qpc.conns, p.2.parked ≠ [] → p.2.fetch.isSome = true) →
    Runs (.contextFetchDone n) s fun t =>
    t.conn n = some { c with fetch := none, parked := [], parkedBytes := 0 } ∧ n ∈ t.qpc.cached ∧
    (∀ m, m ≠ n → t.conn m = s.conn m) ∧ SameRegs [(F.QPC.STAT.COUNT.nth 7).addr] s t ∧
    t = { s with qpc := { s.qpc with conns := t.qpc.conns, cached := t.qpc.cached }, regs := t.regs })

/-- The RoCEv2 rows. -/
def Obligations.RocePacketRows : Prop :=
  (∀ (s : State) (p : RocePacket) (n psn cause : Nat), p.conn = n → s.ready n = none →
    let lost (t : State) : Prop := t.fld (F.HPT.STAT.COUNT.nth 15) = (s.fld (F.HPT.STAT.COUNT.nth 15) + 1) % 2 ^ 64 ∧
      SameRegs [(F.HPT.STAT.COUNT.nth 15).addr] s t ∧ t = { s with regs := t.regs }
    Runs (.roceSend p) s lost ∧ Runs (.roceRdmaWrite p) s lost ∧ Runs (.roceRdmaReadRequest p) s lost ∧
    Runs (.roceReadResponse p) s lost ∧ Runs (.roceAck n psn) s lost ∧ Runs (.roceNak n psn cause) s lost ∧
    Runs (.roceCnp n) s lost) ∧
  (∀ (s : State) (p : RocePacket) (n psn cause : Nat) (c : Conn), p.conn = n → s.ready n = some c → n ∉ s.qpc.cached →
    s.missBytes + p.payload.length ≤ 2 ^ 21 → c.parkedBytes + p.payload.length ≤ 65536 → s.fetches < 1024 → c.fetch = none →
    let parks (i : Instr) (len : Nat) (t : State) : Prop :=
      t.conn n = some { c with parked := c.parked ++ [i], parkedBytes := c.parkedBytes + len, fetch := some s.now } ∧
      (∀ m, m ≠ n → t.conn m = s.conn m) ∧
      SameRegs [(F.QPC.STAT.COUNT.nth 1).addr, (F.QPC.STAT.COUNT.nth 3).addr] s t ∧
      t = { s with qpc := { s.qpc with conns := t.qpc.conns }, regs := t.regs }
    Runs (.roceSend p) s (parks (.roceSend p) p.payload.length) ∧
    Runs (.roceRdmaWrite p) s (parks (.roceRdmaWrite p) p.payload.length) ∧
    Runs (.roceRdmaReadRequest p) s (parks (.roceRdmaReadRequest p) 0) ∧
    Runs (.roceReadResponse p) s (parks (.roceReadResponse p) p.payload.length) ∧
    Runs (.roceAck n psn) s (parks (.roceAck n psn) 0) ∧ Runs (.roceNak n psn cause) s (parks (.roceNak n psn cause) 0) ∧
    Runs (.roceCnp n) s (parks (.roceCnp n) 0)) ∧
  (∀ (s : State) (p : RocePacket) (n : Nat) (c : Conn), p.conn = n → s.ready n = some c → n ∈ s.qpc.cached → c.parked = [] →
    c.isRoce = true → p.intact = true → p.ce = false → s.lcs.mode.serving = true →
    let rest (t : State) : Prop := (∀ m, m ≠ n → t.conn m = s.conn m) ∧
      SameRegs [(F.QPC.STAT.COUNT.nth 0).addr, (F.HPT.STAT.COUNT.nth 5).addr, (F.HPT.STAT.COUNT.nth 6).addr] s t
    (c.kind = 1 → p.supported = true → p.psn % 2 ^ 24 = c.epsn → p.first = true → p.last = true → 64 ≤ p.payload.length →
      p.payload.length ≤ 64 + 1024 * s.fld F.CMF.CONFIG.ICD_KB → s.buffersUsed n < s.capsuleBuffers n →
      Runs (.roceSend p) s fun t =>
      Tab.getD t.cmf.caps n [] = Tab.getD s.cmf.caps n [] ++ [⟨p.payload, none⟩] ∧
      t.conn n = some { c with epsn := (c.epsn + 1) % 2 ^ 24, gapNak := false, asm := [], done := c.done + 1 } ∧
      t.out = s.out ++ [.roce n 6 p.psn 0 []] ∧ rest t ∧
      t = { s with cmf := { s.cmf with caps := t.cmf.caps }, qpc := t.qpc, out := t.out, regs := t.regs }) ∧
    (p.psn % 2 ^ 24 ≠ c.epsn → seqGe 24 p.psn c.epsn = true → c.gapNak = false →
      let naks (t : State) : Prop := t.conn n = some { c with gapNak := true } ∧
        t.out = s.out ++ [.roce n 7 c.epsn 0 (leBytes 1 0)] ∧ rest t ∧
        t = { s with qpc := t.qpc, out := t.out, regs := t.regs }
      Runs (.roceSend p) s naks ∧ Runs (.roceRdmaWrite p) s naks ∧ Runs (.roceRdmaReadRequest p) s naks) ∧
    (p.psn % 2 ^ 24 ≠ c.epsn → seqGe 24 p.psn c.epsn = false →
      let acks (t : State) : Prop := t.conn n = some c ∧ t.out = s.out ++ [.roce n 6 p.psn 0 []] ∧ rest t ∧
        t = { s with qpc := t.qpc, out := t.out, regs := t.regs }
      Runs (.roceSend p) s acks ∧ Runs (.roceRdmaWrite p) s acks) ∧
    (∀ a, c.kind = 2 → p.supported = true → p.psn % 2 ^ 24 = c.epsn → p.first = true → p.last = true → p.imm = none →
      p.len = p.payload.length → p.len ≤ 2 ^ 24 → s.region n p.rkey p.off p.len true = some a →
      Runs (.roceRdmaWrite p) s fun t =>
      (∀ i, i < p.payload.length → t.byte (a + i) = p.payload.getD i 0) ∧
      (∀ x, x < a ∨ a + p.payload.length ≤ x → t.byte x = s.byte x) ∧
      (∃ d, t.conn n = some d ∧ d.epsn = (c.epsn + 1) % 2 ^ 24 ∧ d.place = none ∧ d.done = c.done + 1) ∧
      t.out = s.out ++ [.roce n 6 p.psn 0 []] ∧ rest t ∧
      t = { s with qpc := t.qpc, out := t.out, regs := t.regs, mem := t.mem }) ∧
    (∀ a, c.kind = 2 → p.supported = true → p.psn % 2 ^ 24 = c.epsn → p.len ≤ 2 ^ 24 →
      s.region n p.rkey p.off p.len false = some a → Runs (.roceRdmaReadRequest p) s fun t =>
      t.out = s.out ++ [.roce n 5 p.psn (packetsOf c.seg p.len) (s.load a p.len)] ∧
      (∃ d, t.conn n = some d ∧ d.epsn = (c.epsn + packetsOf c.seg p.len) % 2 ^ 24 ∧ d.done = c.done + 1) ∧ rest t ∧
      t = { s with qpc := t.qpc, out := t.out, regs := t.regs }) ∧
    (∀ m key d, c.sent = [m] → m.read = true → m.bytes = [] → m.what = .fetch key → p.psn = m.psn % 2 ^ 24 →
      m.want = p.payload.length → s.cmd key = some d → d.stage = .fetching → Runs (.roceReadResponse p) s fun t =>
      t.cmd key = some { d with data := p.payload } ∧ OtherCmds key s t ∧
      t.conn n = some { c with sent := [], retries := 0, rnr := 0, timer := s.now } ∧ rest t ∧
      t = { s with cmf := { s.cmf with cmds := t.cmf.cmds }, qpc := t.qpc, regs := t.regs })) ∧
  (∀ (s : State) (n psn : Nat) (c : Conn) (m : RoceMsg), s.ready n = some c → n ∈ s.qpc.cached → c.parked = [] → c.sent = [m] →
    m.read = false → s.lcs.mode.serving = true →
    let resent : Out := .roce n m.op m.psn m.packets (m.reth ++ m.bytes)
    let fails (cause : Nat) (t : State) : Prop := (∃ d, t.conn n = some d ∧ d.failed = true ∧ d.sent = []) ∧
      t.fld F.QPC.ERR_LAST.CAUSE = cause ∧ t.fld F.QPC.ERR_LAST.CONN = n % 2 ^ 17 ∧ Signals s t Src.QPC 1 n ∧
      (∀ k, k ≠ n → t.conn k = s.conn k) ∧ SameMemory s t
    (seqGe 24 psn (m.psn + m.packets - 1) = true → Runs (.roceAck n psn) s fun t =>
      t.conn n = some (({ c with sent := [], retries := 0, rnr := 0, timer := s.now } : Conn).acked m.what) ∧
      (∀ k, k ≠ n → t.conn k = s.conn k) ∧
      SameRegs [(F.QPC.STAT.COUNT.nth 0).addr, (F.HPT.STAT.COUNT.nth 5).addr] s t ∧
      t = { s with qpc := t.qpc, regs := t.regs }) ∧
    (seqGe 24 ((psn + 2 ^ 24 - 1) % 2 ^ 24) (m.psn + m.packets - 1) = false →
      (c.retries < c.retry → Runs (.roceNak n psn 0) s fun t =>
        t.conn n = some { c with retries := c.retries + 1, timer := s.now } ∧ t.out = s.out ++ [resent] ∧
        (∀ k, k ≠ n → t.conn k = s.conn k) ∧
        SameRegs [(F.QPC.STAT.COUNT.nth 0).addr, (F.HPT.STAT.COUNT.nth 5).addr, (F.HPT.STAT.COUNT.nth 7).addr] s t ∧
        t = { s with qpc := t.qpc, out := t.out, regs := t.regs }) ∧
      Runs (.roceNak n psn 2) s (fails 3)) ∧
    (c.timer + s.connTimeout c ≤ s.now →
      (c.retries < c.retry → Runs (.roceRetransmitTimeout n) s fun t =>
        t.conn n = some { c with retries := c.retries + 1, timer := s.now } ∧ t.out = s.out ++ [resent] ∧
        (∀ k, k ≠ n → t.conn k = s.conn k) ∧ SameRegs [(F.HPT.STAT.COUNT.nth 7).addr] s t ∧
        t = { s with qpc := t.qpc, out := t.out, regs := t.regs }) ∧
      (c.retry ≤ c.retries → Runs (.roceRetransmitTimeout n) s (fails 1))) ∧
    (s.now < c.timer + s.connTimeout c → exec (.roceRetransmitTimeout n) s = .next s)) ∧
  (∀ (s : State) (n : Nat) (c : Conn), s.ready n = some c →
    (n ∈ s.qpc.cached → c.parked = [] → Runs (.roceCnp n) s fun t =>
      (∃ d, t.conn n = some d ∧ d.cnpGap = s.now ∧
        d.rate = if c.cnpCut = 0 ∨ c.cnpCut + s.fld F.HPT.ROCE_CC.GAP ≤ s.now then c.rate * 3 / 4 else c.rate) ∧
      (∀ k, k ≠ n → t.conn k = s.conn k) ∧
      SameRegs [(F.QPC.STAT.COUNT.nth 0).addr, (F.HPT.STAT.COUNT.nth 5).addr, (F.HPT.STAT.COUNT.nth 9).addr] s t ∧
      t = { s with qpc := t.qpc, regs := t.regs }) ∧
    (c.isRoce = true → c.cnpGap + s.fld F.HPT.ROCE_CC.GAP ≤ s.now → Runs (.roceRateIncrease n) s fun t =>
      t.conn n = some { c with rate := min s.lineRate (c.rate + s.fld F.HPT.ROCE_CC.AI_MBPS), cnpGap := s.now } ∧
      (∀ k, k ≠ n → t.conn k = s.conn k) ∧ t = { s with qpc := { s.qpc with conns := t.qpc.conns } }) ∧
    (s.now < c.cnpGap + s.fld F.HPT.ROCE_CC.GAP → exec (.roceRateIncrease n) s = .next s))

/-- The Spray rows, the work-request rows and the trigger rows. -/
def Obligations.SprayAndWorkRequestRows : Prop :=
  let present (s : State) (n : Nat) (c : Conn) : Prop :=
    s.ready n = some c ∧ n ∈ s.qpc.cached ∧ c.parked = [] ∧ (c.kind = 3 ∨ c.kind = 4) ∧ c.enc = false
  let intact (p : SprayPacket) (typ n h : Nat) (pay : List Byte) : Prop :=
    p.ipOk = true ∧ pkt p.bytes 0 1 = 16 + typ ∧ pkt p.bytes 4 4 = n ∧ sprayReservedOk typ p.bytes = true ∧
    (pkt p.bytes 1 1).testBit 0 = false ∧ p.bytes.length = h + pay.length + 4 ∧ (p.bytes.drop h).take pay.length = pay ∧
    beBytes 4 (crc32c (p.bytes.take (h + pay.length))) = p.bytes.drop (h + pay.length)
  let others (n : Nat) (s t : State) : Prop := ∀ m, m ≠ n → t.conn m = s.conn m
  (∀ (s : State) (p : SprayPacket), p.ipOk = false →
    let lost (t : State) : Prop :=
      t.fld (F.HPT.STAT.COUNT.nth 15) = (s.fld (F.HPT.STAT.COUNT.nth 15) + 1) % 2 ^ 64 ∧
      SameRegs [(F.HPT.STAT.COUNT.nth 10).addr, (F.HPT.STAT.COUNT.nth 15).addr] s t ∧ t = { s with regs := t.regs }
    Runs (.sprayPut p) s lost ∧ Runs (.sprayGet p) s lost ∧ Runs (.sprayAck p) s lost ∧ Runs (.sprayNak p) s lost) ∧
  (∀ (s : State) (p : SprayPacket) (n : Nat) (c : Conn) (pay : List Byte), present s n c → c.kind = 4 →
    intact p 1 n 52 pay → pkt p.bytes 32 2 = pay.length →
    let b := p.bytes
    let msn := pkt b 16 4
    (∀ a, seqGe 32 msn c.done = true → msn ∉ c.past → Tab.find c.rx msn = none → seqDist 32 msn c.done < 64 →
      s.lengthWrong c 1 (pkt b 28 4) (pkt b 20 4) (pkt b 24 4) pay.length none = false → s.bitmaps < 65536 →
      s.region n (pkt b 28 4) (pkt b 40 8) (pkt b 20 4) true = some a → Runs (.sprayPut p) s fun t =>
      (∀ i, i < pay.length → t.byte (a + pkt b 24 4 + i) = pay.getD i 0) ∧
      (∀ x, x < a + pkt b 24 4 ∨ a + pkt b 24 4 + pay.length ≤ x → t.byte x = s.byte x) ∧
      (∃ d r, t.conn n = some d ∧ Tab.find d.rx msn = some r ∧ r.got = [pkt b 24 4 / c.seg] ∧ r.len = pkt b 20 4 ∧
        r.trig = pkt b 34 2 ∧ d.ackPath = some (pkt b 2 1) ∧ d.done = c.done) ∧ others n s t ∧
      SameRegs [(F.HPT.STAT.COUNT.nth 10).addr, (F.QPC.STAT.COUNT.nth 0).addr] s t ∧
      t = { s with qpc := t.qpc, regs := t.regs, mem := t.mem }) ∧
    ((seqGe 32 msn c.done = false ∨ msn ∈ c.past) → Runs (.sprayPut p) s fun t =>
      (∃ d, t.conn n = some d ∧ d.rx = c.rx ∧ d.done = c.done ∧ d.ackPath = some (pkt b 2 1)) ∧ others n s t ∧
      SameRegs [(F.HPT.STAT.COUNT.nth 10).addr, (F.HPT.STAT.COUNT.nth 12).addr, (F.QPC.STAT.COUNT.nth 0).addr] s t ∧
      t = { s with qpc := t.qpc, regs := t.regs })) ∧
  (∀ (s : State) (p : SprayPacket) (n a : Nat) (c : Conn) (pay : List Byte), present s n c → c.kind = 4 →
    intact p 4 n 52 pay → pkt p.bytes 32 2 = pay.length → pay.length = 32 → pkt p.bytes 20 4 = 32 → pkt p.bytes 24 4 = 0 →
    pkt p.bytes 16 4 = c.done → c.past = [] → Tab.find c.rx c.done = none → s.bitmaps < 65536 →
    s.region n (pkt pay 0 4) (pkt pay 8 8) (pkt pay 4 4) false = some a → Runs (.sprayGet p) s fun t =>
    (∃ d m, t.conn n = some d ∧ d.done = (c.done + 1) % 2 ^ 32 ∧ Tab.find d.rx c.done = none ∧
      d.txMsn = (c.txMsn + 1) % 2 ^ 32 ∧ m ∈ d.msgs ∧ m.typ = 1 ∧ m.rkey = pkt pay 16 4 ∧ m.off = pkt pay 24 8 ∧
      m.trig = pkt pay 20 2 ∧ m.bytes = s.load a (pkt pay 4 4)) ∧ others n s t ∧
    SameRegs [(F.HPT.STAT.COUNT.nth 10).addr, (F.QPC.STAT.COUNT.nth 0).addr] s t ∧
    t = { s with qpc := t.qpc, out := t.out, regs := t.regs }) ∧
  (∀ (s : State) (p : SprayPacket) (n key : Nat) (c : Conn) (x : SprayTx) (m : SprayMsg), present s n c →
    intact p 2 n 32 [] → c.tx = [x] → seqGe 32 x.psn (pkt p.bytes 8 4) = false → c.msgs = [m] → m.msn = x.msn →
    packetsOf c.seg m.bytes.length ≤ m.next → m.what = .response key → Runs (.sprayAck p) s fun t =>
    t.cmd key = none ∧ OtherCmds key s t ∧
    (∃ d, t.conn n = some d ∧ d.tx = [] ∧ d.msgs = [] ∧ d.cwnd = windowAfter c.cwnd c.seg
      (s.fld F.HPT.SPRAY_CTL.CWND_MAX_KB * 1024) 1 (min (pkt p.bytes 24 2) 1)) ∧ others n s t ∧
    SameRegs [(F.HPT.STAT.COUNT.nth 10).addr, (F.QPC.STAT.COUNT.nth 0).addr] s t ∧
    t = { s with cmf := { s.cmf with cmds := t.cmf.cmds }, qpc := t.qpc, regs := t.regs }) ∧
  (∀ (s : State) (p : SprayPacket) (n : Nat) (c : Conn) (x : SprayTx), present s n c → intact p 3 n 32 [] → c.tx = [x] →
    x.psn = pkt p.bytes 8 4 →
    (pkt p.bytes 16 1 = 1 → Runs (.sprayNak p) s fun t =>
      t.conn n = some { c with
        tx := [{ x with holdTill := some (s.now + (pkt p.bytes 20 4 * 1000 + s.tickNs - 1) / s.tickNs) }] } ∧ others n s t ∧
      SameRegs [(F.HPT.STAT.COUNT.nth 10).addr, (F.QPC.STAT.COUNT.nth 0).addr] s t ∧
      t = { s with qpc := t.qpc, regs := t.regs }) ∧
    (pkt p.bytes 16 1 = 4 → Runs (.sprayNak p) s fun t =>
      (∃ d, t.conn n = some d ∧ d.failed = true) ∧ t.fld F.QPC.ERR_LAST.CAUSE = 5 ∧ Signals s t Src.QPC 1 n ∧
      others n s t ∧ SameMemory s t)) ∧
  (∀ (s : State) (n msn : Nat) (c : Conn) (r : SprayRx), s.ready n = some c → c.kind = 4 → Tab.find c.rx msn = some r → r.typ = 1 →
    (packetsOf c.seg r.len ≤ r.got.length → c.done = msn → c.past = [] → s.hpt.records = [] → s.hpt.completed = [] → s.hpt.ended = [] →
      s.ringRoom c.cq 0 = true → Runs (.sprayMessageComplete n msn) s fun t =>
      t.hpt = { s.hpt with completed := [(n, msn)] } ∧ (∃ d, t.conn n = some d ∧ d.done = (msn + 1) % 2 ^ 32 ∧ d.rx = c.rx) ∧ others n s t ∧
      t = { s with hpt := t.hpt, qpc := { s.qpc with conns := t.qpc.conns } }) ∧
    (r.got.length < packetsOf c.seg r.len → exec (.sprayMessageComplete n msn) s = .next s)) ∧
  (∀ (s : State) (n psn : Nat) (c : Conn) (x : SprayTx) (m : SprayMsg), s.ready n = some c → c.enc = false → c.tx = [x] →
    x.psn = psn → c.msgs.find? (fun y => y.msn = x.msn) = some m → s.lcs.mode.serving = true →
    let resent (k : Nat) (t : State) : Prop :=
      (∃ d y, t.conn n = some d ∧ d.tx = [y] ∧ y.psn = c.txPsn ∧ y.msn = x.msn ∧ y.index = x.index ∧ y.timeouts = k ∧
        d.txPsn = (c.txPsn + 1) % 2 ^ 32) ∧ t.out.length = s.out.length + 1 ∧ others n s t ∧
      SameRegs [(F.HPT.STAT.COUNT.nth 11).addr] s t ∧ t = { s with qpc := t.qpc, out := t.out, regs := t.regs }
    (x.sent + s.connTimeout c ≤ s.now → x.holdTill = none →
      (x.timeouts < c.retry → Runs (.sprayLossTimeout n psn) s (resent (x.timeouts + 1))) ∧
      (c.retry ≤ x.timeouts → Runs (.sprayLossTimeout n psn) s fun t =>
        (∃ d, t.conn n = some d ∧ d.failed = true) ∧ t.fld F.QPC.ERR_LAST.CAUSE = 1 ∧ Signals s t Src.QPC 1 n ∧
        others n s t ∧ SameMemory s t)) ∧
    (s.now < x.sent + s.connTimeout c → exec (.sprayLossTimeout n psn) s = .next s) ∧
    (∀ h, x.holdTill = some h → h ≤ s.now → Runs (.busyHoldOffEnd n psn) s (resent x.timeouts)) ∧
    (∀ h, x.holdTill = some h → s.now < h → exec (.busyHoldOffEnd n psn) s = .next s)) ∧
  (∀ (s : State) (n i t0 : Nat) (c : Conn) (x : Path), s.ready n = some c → c.paths[i]? = some x → x.off = some t0 →
    (t0 + 500000 ≤ s.now → Runs (.pathReenable n i) s fun t =>
      t.conn n = some { c with paths := c.paths.set i { x with off := none, weight := 1, losses := 0 } } ∧ others n s t ∧
      t = { s with qpc := { s.qpc with conns := t.qpc.conns } }) ∧
    (s.now < t0 + 500000 → exec (.pathReenable n i) s = .next s)) ∧
  (∀ (s : State) (r : Req) (n p : Nat) (c : Conn), r.test = false → n < 2 ^ 17 → p < 2 ^ 32 → s.ready n = some c →
    (c.kind = 2 ∨ c.kind = 4) →
    let more := seqDist 32 p c.posted
    (more + (c.posted - c.oldest) ≤ 2 ^ c.sqLog2 → Runs (.sprayDb r (BitVec.ofNat 64 (n * 2 ^ 32 + p))) s fun t =>
      t.conn n = some { c with posted := c.posted + more } ∧ others n s t ∧ SameRegs [] s t ∧
      t = { s with qpc := { s.qpc with conns := t.qpc.conns }, regs := t.regs }) ∧
    (2 ^ c.sqLog2 < more + (c.posted - c.oldest) → Runs (.sprayDb r (BitVec.ofNat 64 (n * 2 ^ 32 + p))) s fun t =>
      (∃ d, t.conn n = some d ∧ d.failed = true) ∧ t.fld F.QPC.ERR_LAST.CAUSE = 7 ∧ Signals s t Src.QPC 1 n ∧
      others n s t ∧ SameBlocks [Src.QPC, Src.EVR] s t ∧
      t = { s with qpc := t.qpc, hpt := t.hpt, regs := t.regs, evr := t.evr })) ∧
  (∀ (s : State) (n : Nat) (c : Conn), s.ready n = some c → c.kind = 4 → c.started < c.posted →
    let d := s.workDesc c c.started
    let f (o k : Nat) : Nat := leNat ((d.drop o).take k)
    ((f 1 1).testBit 1 = false → (f 1 1).testBit 2 = false → descBad c d = true → Runs (.workRequestStart n) s fun t =>
      t.hpt = { s.hpt with ended := s.hpt.ended ++ [(n, c.started, 0x35)] } ∧
      t.conn n = some { c with started := c.started + 1, works := c.works ++ [⟨c.started, d, true⟩] } ∧ others n s t ∧
      t = { s with hpt := t.hpt, qpc := { s.qpc with conns := t.qpc.conns } }) ∧
    (∀ a, (f 1 1).testBit 1 = false → (f 1 1).testBit 2 = false → descBad c d = false → f 0 1 = 1 → c.enc = false →
      s.acceptsOp 3 1 = true → s.region n (f 16 4) (f 8 8) (f 20 4) false = some a → Runs (.workRequestStart n) s fun t =>
      (∃ e m, t.conn n = some e ∧ e.started = c.started + 1 ∧ e.works = c.works ++ [⟨c.started, d, false⟩] ∧ m ∈ e.msgs ∧
        m.what = .work c.started ∧ m.bytes = s.load a (f 20 4) ∧ m.rkey = f 24 4 ∧ m.off = f 32 8) ∧ others n s t ∧
      t.hpt = s.hpt ∧ SameMemory s t) ∧
    ((f 1 1).testBit 1 = true → c.works ≠ [] → exec (.workRequestStart n) s = .next s) ∧
    ((f 1 1).testBit 1 = false → (f 1 1).testBit 2 = true → s.trigger (f 40 2) < f 44 4 →
      exec (.workRequestStart n) s = .next s)) ∧
  (∀ (s : State) (n k : Nat) (c : Conn) (w : Work), s.ready n = some c → w ∈ c.works → w.n = k → w.done = true →
    (∀ e ∈ s.hpt.ended, e.1 ≠ n ∨ e.2.1 ≠ k) → exec (.workRequestComplete n k) s = .next { s with
      hpt := { s.hpt with ended := s.hpt.ended ++ [(n, k, 0)] } }) ∧
  (∀ (s : State) (r : Req) (tag v : Nat), r.test = false → tag < 2 ^ 16 → v < 2 ^ 32 →
    let posted (op : Nat) (t : State) : Prop := t.hpt = { s.hpt with trig := s.hpt.trig ++ [(op, tag, v)] } ∧ SameRegs [] s t ∧
      t = { s with hpt := t.hpt, regs := t.regs }
    let refused (t : State) : Prop := (t.reg (blockBase Src.HPT + 8)).getLsbD 3 = true ∧ t.evr.queue = s.evr.queue ∧
      SameRegs [blockBase Src.HPT + 8, blockBase Src.HPT + 16] s t ∧ t = { s with regs := t.regs, evr := t.evr }
    (tag ≠ 0 → Runs (.trigSet r tag v) s (posted 1) ∧ Runs (.trigAdd r tag v) s (posted 2)) ∧
    (tag = 0 → Runs (.trigSet r tag v) s refused ∧ Runs (.trigAdd r tag v) s refused)) ∧
  (∀ (s : State) (tag v a : Nat), s.trigAddr tag = some a → s.memOk Src.HPT a 4 = true →
    (s.applyTrig (1, tag, v)).trigger tag = v % 2 ^ 32 ∧
    (s.applyTrig (2, tag, v)).trigger tag = (s.trigger tag + v) % 2 ^ 32 ∧
    (∀ x, x < a ∨ a + 4 ≤ x → (s.applyTrig (1, tag, v)).byte x = s.byte x ∧ (s.applyTrig (2, tag, v)).byte x = s.byte x))

/-- The VCT rows. -/
def Obligations.VirtualControllerRows : Prop :=
  let start (op : Nat) (_ : Req) (s : State) : State := { s with vct := { s.vct with command := some op } }
  StartsCommand FromCore F.VCT.CMD_STATUS.BUSY (fun r => .vcCreate r) (start 1) ∧
  StartsCommand FromCore F.VCT.CMD_STATUS.BUSY (fun r => .vcUpdate r) (start 2) ∧
  StartsCommand FromCore F.VCT.CMD_STATUS.BUSY (fun r => .vcReset r) (start 3) ∧
  StartsCommand FromCore F.VCT.CMD_STATUS.BUSY (fun r => .vcDestroy r) (start 4) ∧
  StartsCommand FromCore F.VCT.CMD_STATUS.BUSY (fun r => .vcMove r) (start 5) ∧
  DiscardedWhileBusy FromCore F.VCT.CMD_STATUS.BUSY (fun r => .vcCreate r) ∧
  DiscardedWhileBusy FromCore F.VCT.CMD_STATUS.BUSY (fun r => .vcUpdate r) ∧
  DiscardedWhileBusy FromCore F.VCT.CMD_STATUS.BUSY (fun r => .vcReset r) ∧
  DiscardedWhileBusy FromCore F.VCT.CMD_STATUS.BUSY (fun r => .vcDestroy r) ∧
  DiscardedWhileBusy FromCore F.VCT.CMD_STATUS.BUSY (fun r => .vcMove r) ∧
  (∀ (s : State) (op : Nat), s.vct.command = some op → 1 ≤ op → op ≤ 5 →
    let v := s.fld F.VCT.ARG.VC
    let t := s.runVcCommand
    let result := t.fld F.VCT.CMD_STATUS.RESULT
    let d := s.descAt v
    let same : Prop := t.vct = { s.vct with command := none }
    t.fld F.VCT.CMD_STATUS.BUSY = 0 ∧ t.vct.command = none ∧ Raises t Src.VCT 0 ∧ OtherVcs v s t ∧ SameMemory s t ∧
    (s.fld F.VCT.CONFIG.VC_MAX ≤ v → result = 1 ∧ same) ∧
    (v < s.fld F.VCT.CONFIG.VC_MAX →
      (∀ k qbase qcount ipFirst ipCount, op = 1 → k = ((s.vc v).map Vc.vgen).getD 0 → qbase = leNat ((d.drop 24).take 2) →
        qcount = leNat ((d.drop 26).take 2) → ipFirst = leNat ((d.drop 28).take 1) → ipCount = leNat ((d.drop 29).take 1) →
        (s.vcFree v = false → result = 2 ∧ same) ∧
        (s.vcFree v = true → descriptorOk d = false → result = 1 ∧ same) ∧
        (s.vcFree v = true → descriptorOk d = true → s.inFlight v = [] →
          (s.noQueues v qbase qcount = true → result = 3 ∧ same) ∧
          (s.noQueues v qbase qcount = false → s.ipClash v ipFirst ipCount = true → result = 4 ∧ same) ∧
          (s.noQueues v qbase qcount = false → s.ipClash v ipFirst ipCount = false → result = 0 ∧
            ∃ x, t.vc v = some x ∧ x.state = .active ∧ x.vgen = (k + 1) % 65536 ∧ x.desc = d ∧ x.assoc = none ∧
              x.c = max 1024 (x.cmdRate * x.burst) ∧ x.y = (x.byteRate * x.burst : Nat)))) ∧
      (∀ x, s.vc v = some x → x.state = .active →
        (op = 2 → (descriptorOk d = false ∨ fixedFields d ≠ fixedFields x.desc) → result = 1 ∧ same) ∧
        (op = 2 → descriptorOk d = true → fixedFields d = fixedFields x.desc → result = 0 ∧
          ∃ y, t.vc v = some y ∧ y.desc = d ∧ y.nsmap = s.nsmapAt v ∧ y.state = .active ∧ y.vgen = x.vgen) ∧
        (op = 3 → result = 0 ∧ ∃ y, t.vc v = some y ∧ y.vgen = (x.vgen + 1) % 65536 ∧ y.resetting = true ∧ y.state = .active) ∧
        (op = 4 → result = 0 ∧ ∃ y, t.vc v = some y ∧ y.vgen = (x.vgen + 1) % 65536 ∧ y.state = .draining) ∧
        (op = 5 → s.vct.move = none → s.lcs.mode = .dualActive → s.rfl.link = .up → result = 0 ∧
          t.vc v = some { x with state := .quiescing } ∧
          t.vct.move = some ⟨v, s.fld F.VCT.ARG.TARGET_VC, s.fld F.VCT.ARG.TARGET_QBASE, s.now⟩ ∧
          t.flag F.VCT.MOVE_STATUS.ACTIVE = true) ∧
        (op = 5 → s.vct.move = none → (s.lcs.mode ≠ .dualActive ∨ s.rfl.link ≠ .up) → result = 2 ∧ same) ∧
        (op = 5 → s.vct.move ≠ none → result = 5 ∧ same)) ∧
      (s.vc v = none → 2 ≤ op → result = 2 ∧ same))) ∧
  (∀ (s : State) (v : Nat) (x : Vc), s.vc v = some x → x.state = .draining →
    (s.inFlight v = [] → Runs (.vcFreed v) s fun t =>
      t.vc v = some { x with state := .free, assoc := none, resetting := false } ∧ OtherVcs v s t ∧ Signals s t Src.VCT 1 v ∧
      SameRegs (eventRegs Src.VCT) s t ∧
      t = { s with vct := { s.vct with vcs := t.vct.vcs }, rfl := { s.rfl with vcs := t.rfl.vcs }, regs := t.regs, evr := t.evr }) ∧
    (s.inFlight v ≠ [] → exec (.vcFreed v) s = .next s)) ∧
  (∀ (s : State) (v : Nat) (x : Vc) (m : Move), s.vc v = some x → x.state = .quiescing → s.vct.move = some m → m.vc = v →
    (s.inFlight v = [] → x.ipFirst + x.ipCount ≤ 256 → s.lcs.mode.serving = true →
      s.memOk Src.VCT (s.fld F.VCT.SAVE_ADDR.ADDR * 64) (s.vcRecord v x).length = true → Runs (.vcSeal v) s fun t =>
      t.vc v = some { x with state := .sealed } ∧ OtherVcs v s t ∧ t.flag F.VCT.MOVE_STATUS.SEALED = true ∧
      t.out = s.out ++ [.vcRecord (s.vcRecord v x)] ∧
      (∀ i, i < x.ipCount → t.flag (F.HPT.IP_CTL.VALID.nth (x.ipFirst + i)) = false) ∧
      (∀ q ∈ s.liveQueues v, ∀ c, s.conn q.2.conn = some c → t.conn q.2.conn = some { c with frozen := true }) ∧
      (∀ i, i < (s.vcRecord v x).length →
        t.byte (s.fld F.VCT.SAVE_ADDR.ADDR * 64 + i) = (s.vcRecord v x).getD i 0)) ∧
    (s.inFlight v ≠ [] → exec (.vcSeal v) s = .next s) ∧
    (m.since + s.fld F.VCT.MOVE_CTL.FREEZE_MAX ≤ s.now → Runs .freezeTimeout s fun t =>
      t.vc v = some { x with state := .active } ∧ OtherVcs v s t ∧ t.vct.move = none ∧
      t.fld F.VCT.MOVE_STATUS.RESULT = 1 ∧ t.flag F.VCT.MOVE_STATUS.ACTIVE = false ∧ Signals s t Src.VCT 2 v ∧ SameMemory s t) ∧
    (s.now < m.since + s.fld F.VCT.MOVE_CTL.FREEZE_MAX → exec .freezeTimeout s = .next s)) ∧
  (∀ (s : State) (target qbase : Nat) (b : List Byte),
    (s.refusalCause target qbase b ≠ 0 → Runs (.vcRecordReceived target qbase b) s fun t =>
      (∃ e, t.rfl.vcs = s.rfl.vcs ++ [e] ∧ e.op = 3 ∧ e.cause = s.refusalCause target qbase b ∧ e.target = target) ∧
      SameRegs [(F.VCT.STAT.COUNT.nth 5).addr] s t ∧ t = { s with rfl := { s.rfl with vcs := t.rfl.vcs }, regs := t.regs }) ∧
    (s.refusalCause target qbase b = 0 → Runs (.vcRecordReceived target qbase b) s fun t =>
      (∃ x, t.vc target = some x ∧ x.state = .loaded ∧ x.assoc = none ∧ x.nsmap = (readParts b).nsmap ∧
        x.desc = (readParts b).desc.take 24 ++ leBytes 2 qbase ++ (readParts b).desc.drop 26) ∧ OtherVcs target s t ∧
      t.vct.loaded = some ⟨target, leNat ((b.drop 4).take 2) % 1024, qbase, b⟩ ∧
      (∀ a, a < s.fld F.VCT.RESTORE_BUF.ADDR * 64 ∨ s.fld F.VCT.RESTORE_BUF.ADDR * 64 + b.length ≤ a → t.byte a = s.byte a))) ∧
  (∀ (s : State) (target qbase : Nat) (b : List Byte), b.length < 3200 → s.refusalCause target qbase b = 1)

/-- The rows of the Reflect link above its frames. -/
def Obligations.PeerRows : Prop :=
  let held (r : MarkRead) (s : State) : Mark := {
    tick := r.tick, mode := r.mode, tickLen := r.tickLen, align := r.align, head := r.head, own := r.own % 4, tag := r.tag,
    epoch := r.epoch, compat := r.compat, arrived := s.now, arrival := r.arrival }
  let passes (r : MarkRead) (s : State) : Prop := r.tag = s.fld F.WIT.CONFIG.ARRAY_TAG ∧ r.head ≠ s.tck.headSlot
  let hears (s : State) : Prop := s.lcs.mode.hearsPeer = true ∧ (s.reflectCarries || s.flag F.RFL.CTL.FB_EN) = true
  (∀ (s : State) (m : MarkIn), m.fallback = false → s.reflect = .ident → (∀ r, readMark m = some r → ¬ passes r s) →
    Runs (.markReceived m) s fun t =>
    t.rfl = { s.rfl with link := .fault, linkSince := s.now } ∧ Signals s t Src.RFL 8 0 ∧ SameRegs (eventRegs Src.RFL) s t ∧
    t = { s with rfl := t.rfl, regs := t.regs, evr := t.evr }) ∧
  (∀ (s : State) (m : MarkIn), readMark m = none →
    (m.fallback = false ∧ (s.reflect = .up ∨ s.reflect = .retrain) ∨ m.fallback = true ∧ s.flag F.RFL.CTL.FB_EN = true) →
    Runs (.markReceived m) s fun t =>
      Signals s t Src.RFL 8 0 ∧ SameRegs (eventRegs Src.RFL) s t ∧ t = { s with regs := t.regs, evr := t.evr }) ∧
  (∀ m : MarkIn, (m.payload.length ≠ 64 ∨ 11 < beField m.payload 8 1 ∨ beField m.payload 36 28 ≠ 0) → readMark m = none) ∧
  (∀ (s : State) (m : MarkIn) (r : MarkRead), readMark m = some r → m.fallback = false →
    (s.reflect = .up ∨ s.reflect = .retrain ∨ (s.reflect = .ident ∧ passes r s)) → Runs (.markReceived m) s fun t =>
    t.rfl.mark = some (held r s) ∧ t.rfl.heardAt = s.now ∧ t.rfl.unheld = none ∧ (s.reflect = .ident → t.rfl.link = .up) ∧
    t.tck.peerOffset = -((r.arrival - ((r.trip : Int) - r.echoHold) / 2 - r.txOffset) / 4) ∧ SameMemory s t ∧
    (r.tickLen ≠ s.fld F.TCK.CONFIG.TICK_LEN → s.rfl.mark = none → Raises t Src.TCK 5) ∧
    (s.lcs.mode = .join → s.fld F.RFL.JOIN_STATUS.PHASE ≤ 1 →
      t.fld F.RFL.JOIN_STATUS.CAUSE = (if r.tickLen ≠ s.fld F.TCK.CONFIG.TICK_LEN then 1 else if r.compat ≠ s.compat then 2
        else if r.tag ≠ s.fld F.WIT.CONFIG.ARRAY_TAG then 3 else 0) ∧
      (t.fld F.RFL.JOIN_STATUS.CAUSE = 0 → t.fld F.RFL.JOIN_STATUS.PHASE = 2)) ∧
    (s.lcs.mode.serving = true → r.mode = 4 → s.rfl.servesJoin = false →
      t.rfl.servesJoin = true ∧ t.rfl.deltas = [] ∧ t.rfl.baseDue = ([0, 1].filter s.wit.own.testBit).map (fun k => (k, none)) ∧
      ∃ keys sj ptr vcs bins, t.out = s.out ++ [.joinBulk keys sj ptr vcs bins])) ∧
  (∀ (s : State) (m : MarkIn), m.fallback = true →
    (∀ r, readMark m = some r → s.flag F.RFL.CTL.FB_EN = true → Runs (.markReceived m) s fun t =>
      t.rfl.mark = some (held r s) ∧ t.rfl.heardAt = s.rfl.heardAt ∧ t.rfl.unheld = none ∧ t.tck = s.tck ∧ SameMemory s t) ∧
    (s.flag F.RFL.CTL.FB_EN = false → exec (.markReceived m) s = .next s)) ∧
  (∀ (s : State) (m : MarkIn), m.fallback = false → s.reflect ≠ .ident → s.reflect ≠ .up → s.reflect ≠ .retrain →
    exec (.markReceived m) s = .next s) ∧
  (∀ s : State, s.lcs.mode.hearsPeer = true → s.rfl.lost = false →
    ((∃ m, s.rfl.mark = some m ∧ m.arrived + s.fld F.RFL.LOSS_CTL.LOSS ≤ s.now) → Runs .peerLoss s fun t =>
      t.rfl = { s.rfl with lost := true } ∧ t.tck = { s.tck with latches := s.tck.latches ++ [.peerLoss] } ∧
      Signals s t Src.RFL 0 0 ∧ SameRegs ((F.RFL.STAT.COUNT.nth 7).addr :: eventRegs Src.RFL) s t ∧
      t.fld (F.RFL.STAT.COUNT.nth 7) = (s.fld (F.RFL.STAT.COUNT.nth 7) + 1) % 2 ^ 64 ∧
      t = { s with rfl := t.rfl, tck := t.tck, regs := t.regs, evr := t.evr }) ∧
    (∀ m, s.rfl.mark = some m → s.now < m.arrived + s.fld F.RFL.LOSS_CTL.LOSS → exec .peerLoss s = .next s)) ∧
  (∀ (s : State) (m : Mark), s.rfl.lost = true → s.rfl.mark = some m →
    (s.now < m.arrived + s.fld F.RFL.LOSS_CTL.LOSS → Runs .peerUp s fun t =>
      t.rfl = { s.rfl with lost := false } ∧ Signals s t Src.RFL 1 0 ∧ SameRegs (eventRegs Src.RFL) s t ∧
      (s.wit.req ≠ 2 → t.wit = s.wit) ∧ (s.wit.req = 2 → t.wit.mask = s.wit.mask &&& (s.rfl.incoming &&& s.rfl.released)) ∧
      t = { s with rfl := t.rfl, wit := t.wit, regs := t.regs, evr := t.evr }) ∧
    (m.arrived + s.fld F.RFL.LOSS_CTL.LOSS ≤ s.now → exec .peerUp s = .next s)) ∧
  (∀ (s : State) (good : Bool) (bytes : List Byte), hears s →
    (good = false ∨ readDelta bytes = none → Runs (.deltaApply good bytes) s fun t =>
      (∀ k, k < 2 → s.peerOwn.testBit k = true → (t.shadowOf k).complete = false) ∧ Raises t Src.RFL 8 ∧
      t.fld (F.RFL.STAT.COUNT.nth 4) = (s.fld (F.RFL.STAT.COUNT.nth 4) + 1) % 2 ^ 64 ∧
      SameRegs ((F.RFL.STAT.COUNT.nth 4).addr :: eventRegs Src.RFL) s t ∧
      t = { s with rfl := { s.rfl with shadows := t.rfl.shadows }, regs := t.regs, evr := t.evr }) ∧
    (∀ d, good = true → readDelta bytes = some d → s.rfl.lastApplied ≠ 0 → d.tick ≤ s.rfl.lastApplied → exec (.deltaApply good bytes) s = .next s) ∧
    (∀ d, good = true → readDelta bytes = some d → s.rfl.lastApplied ≠ 0 → s.rfl.lastApplied + 1 < d.tick → d.ctrl = [] → d.vcs = [] →
      Runs (.deltaApply good bytes) s fun t => t.rfl.lastApplied = d.tick ∧
        ∀ k, k < 2 → s.peerOwn.testBit k = true → (t.shadowOf k).complete = false) ∧
    (∀ d, good = true → readDelta bytes = some d → d.tick = s.rfl.lastApplied + 1 → d.vcs = [] →
      (∀ c, d.ctrl = [c] → s.lcs.mode.serving = true → c.code = 1 → Runs (.deltaApply good bytes) s fun t =>
        t.rfl.lastApplied = d.tick ∧ t.rfl.incoming = s.rfl.incoming ||| 2 ^ c.side ∧ t.wit = s.wit ∧ SameMemory s t) ∧
      (∀ c, d.ctrl = [c] → s.lcs.mode.serving = true → c.code = 2 → Runs (.deltaApply good bytes) s fun t =>
        t.rfl.incoming = s.rfl.incoming ||| 2 ^ c.side ∧ t.rfl.released = s.rfl.released ||| 2 ^ c.side ∧ SameMemory s t) ∧
      (∀ c, d.ctrl = [c] → s.lcs.mode = .soloActive → s.wit.own = 3 → c.code = 3 → Runs (.deltaApply good bytes) s fun t =>
        t.lcs.mode = .handBack ∧ SameMemory s t ∧
        ∃ h, t.rfl.handBack = some h ∧ h.isReturn = true ∧ h.sides = 3 ^^^ 2 ^ s.tck.headSlot ∧ h.phase = 1) ∧
      (∀ c, d.ctrl = [c] → c.code = 4 → Runs (.deltaApply good bytes) s fun t =>
        (t.shadowOf c.side).complete = s.flag F.RFL.SHADOW_BASE.EN ∧ (t.shadowOf c.side).root = c.root ∧ SameMemory s t)) ∧
    (∀ d, good = true → readDelta bytes = some d → d.tick = s.rfl.lastApplied + 1 → d.ctrl = [] →
      (∀ e, d.vcs = [e] → e.op = 0 → Runs (.deltaApply good bytes) s fun t =>
        Tab.find t.vct.peer e.vc = some (e.state, e.vgen) ∧ t.vct.vcs = s.vct.vcs ∧ SameMemory s t) ∧
      (∀ p, d.ptr = [p] → d.vcs = [] → Runs (.deltaApply good bytes) s fun t => (t.shadowOf p.side).ptr = some p ∧ t.mem = s.mem) ∧
      (∀ b, d.pacer = [b] → d.vcs = [] → Runs (.deltaApply good bytes) s fun t =>
        Tab.find t.pcr.peer b.bin = some (b.valid, b.m) ∧ t.pcr.own = s.pcr.own ∧ t.mem = s.mem) ∧
      (∀ k r, d.mapd = [(k, r)] → d.vcs = [] → s.flag F.RFL.SHADOW_BASE.EN = true → ckptOf r.items = none →
        Tab.find (s.shadowOf k).records r.jseq = none → (s.shadowOf k).upto < r.jseq →
        (s.shadowOf k).bytes + recordBytes r.items ≤ s.shadowSize → Runs (.deltaApply good bytes) s fun t =>
        Tab.find (t.shadowOf k).records r.jseq = some r ∧ t.mem = s.mem))) ∧
  (∀ (s : State) (good : Bool) (bytes : List Byte), ¬ hears s → exec (.deltaApply good bytes) s = .next s) ∧
  (∀ (s : State) (tick : Nat) (d : Delta), s.rfl.deltas.find? (fun d => d.tick = tick) = some d →
    (d.sealedAt + s.fld F.RFL.LOSS_CTL.KEEP ≤ s.now → exec (.deltaKeepExpiry tick) s = .next { s with rfl := { s.rfl with
      deltas := s.rfl.deltas.filter (fun x => x.tick ≠ tick),
      baseDue := ([0, 1].filter s.wit.own.testBit).map (fun k => (k, none)) } }) ∧
    (s.now < d.sealedAt + s.fld F.RFL.LOSS_CTL.KEEP → exec (.deltaKeepExpiry tick) s = .next s)) ∧
  (∀ (s : State) (x : ForwardIn), s.reflect = .up → s.lcs.mode.hearsPeer = true →
    let f := readForward x
    (s.lcs.mode.serving = true → f.good = true → Runs (.forwardedCommand x) s fun t =>
      t.cmf = { s.cmf with arrived := s.cmf.arrived ++ [f] } ∧ SameRegs [(F.RFL.STAT.COUNT.nth 6).addr] s t ∧
      t = { s with cmf := t.cmf, regs := t.regs }) ∧
    (s.lcs.mode.serving = true → f.good = false → Runs (.forwardedCommand x) s fun t =>
      t.cmf = { s.cmf with arrived := s.cmf.arrived ++ [f] } ∧ Signals s t Src.RFL 8 0 ∧
      t.fld (F.RFL.STAT.COUNT.nth 4) = (s.fld (F.RFL.STAT.COUNT.nth 4) + 1) % 2 ^ 64 ∧
      t = { s with cmf := t.cmf, regs := t.regs, evr := t.evr }) ∧
    (s.lcs.mode.serving = false → f.good = true → Runs (.forwardedCommand x) s fun t =>
      t.out = s.out ++ [.forwardRsp f.tag (beBytes 2 (statusField 0x302 / 2) ++ beBytes 30 0) []] ∧
      SameRegs [(F.RFL.STAT.COUNT.nth 6).addr] s t ∧ t = { s with rfl := t.rfl, out := t.out, regs := t.regs })) ∧
  (∀ x : ForwardIn, (readForward x).good = true ↔
    x.good = true ∧ x.payload.length = 96 ∧ beField x.payload 4 4 = 0 ∧ beField x.payload 12 4 = 0) ∧
  (∀ (s : State) (x : ForwardIn), s.reflect ≠ .up → exec (.forwardedCommand x) s = .next s) ∧
  (∀ (s : State) (tag key : Nat) (payload data : List Byte) (c : Cmd),
    s.cmf.cmds.find? (fun p => p.2.toPeer = some tag ∧ p.2.stage = .forwarded) = some (key, c) → s.cmd key = some c →
    let status := beField payload 0 2
    let dw0 := beField payload 4 4 + beField payload 8 4 * 2 ^ 32
    let st := status % 256 + status / 256 % 8 * 256
    (fwdRspBad payload data = true → Runs (.fwdRspReceived tag payload data) s fun t =>
      Signals s t Src.RFL 8 0 ∧ SameRegs (eventRegs Src.RFL) s t ∧ t = { s with regs := t.regs, evr := t.evr }) ∧
    (fwdRspBad payload data = false → (st ≠ 0 ∨ data = []) → Runs (.fwdRspReceived tag payload data) s fun t =>
      Ends key c st dw0 s t) ∧
    (∀ k, fwdRspBad payload data = false → st = 0 → data ≠ [] → RoceReply s c k → Runs (.fwdRspReceived tag payload data) s fun t =>
      t.cmd key = some { c with stage := .finished, status := 0, dw0 := dw0 } ∧ OtherCmds key s t ∧
      t.out = s.out ++ [.roce c.conn 2 k.npsn (packetsOf k.seg data.length) (rethBytes c.sglAddr c.sglKey data.length ++ data)] ∧
      t = { s with cmf := { s.cmf with cmds := t.cmf.cmds }, qpc := { s.qpc with conns := t.qpc.conns }, out := t.out })) ∧
  (∀ (s : State) (tag : Nat) (payload data : List Byte),
    s.cmf.cmds.find? (fun p => p.2.toPeer = some tag ∧ p.2.stage = .forwarded) = none →
    exec (.fwdRspReceived tag payload data) s = .next s) ∧
  (∀ (s : State) (b : BulkIn), s.lcs.mode = .join → s.fld F.RFL.JOIN_STATUS.PHASE = 2 → s.rfl.bulk = false →
    Runs (.joinBulkApply b) s fun t =>
    t.rfl.bulk = true ∧ t.lcs = s.lcs ∧ (∀ p, b.ptr = [p] → (t.shadowOf p.side).ptr = some p) ∧
    (∀ x, b.pacer = [x] → Tab.find t.pcr.own x.bin = some (x.valid, x.m)) ∧
    (∀ e, b.vcs = [e] → e.op = 0 → Tab.find t.vct.peer e.vc = some (e.state, e.vgen))) ∧
  (∀ (s : State) (b : BulkIn), (s.lcs.mode ≠ .join ∨ s.fld F.RFL.JOIN_STATUS.PHASE ≠ 2 ∨ s.rfl.bulk = true) →
    exec (.joinBulkApply b) s = .next s) ∧
  (∀ s : State, s.lcs.mode = .join → s.fld F.RFL.JOIN_STATUS.PHASE = 2 → s.rfl.bulk = true →
    (s.shadowOk 0 = true → s.shadowOk 1 = true → Runs .returnReqSend s fun t =>
      t.rfl = { s.rfl with
        ctrl := s.rfl.ctrl ++ [{ code := 3, side := s.tck.headSlot, cause := 0, jseq := 0, sseq := 0, root := 0 }],
        returnSent := true } ∧ t.fld F.RFL.JOIN_STATUS.PHASE = 3 ∧ SameRegs [F.RFL.JOIN_STATUS.PHASE.addr] s t ∧
      t = { s with rfl := t.rfl, regs := t.regs }) ∧
    ((s.shadowOk 0 = false ∨ s.shadowOk 1 = false) → exec .returnReqSend s = .next s))

/-- The rows of the witness and of ownership. -/
def Obligations.WitnessAndOwnershipRows : Prop :=
  (∀ (s : State) (link : Nat) (w : WitnessSlot), (2 ≤ link ∨ s.witnessHeard = false) → exec (.witnessSlot link w) s = .next s) ∧
  (∀ (s : State) (link : Nat) (w : WitnessSlot), link < 2 → s.witnessHeard = true → s.wit.links.length = 2 →
    let r := readSlot w.bytes
    let intact := w.aligned && slotIntact w.bytes
    (intact = false → Runs (.witnessSlot link w) s fun t =>
      t.wit.link link = { s.wit.link link with good := 0 } ∧ t.wit.link (1 - link) = s.wit.link (1 - link) ∧
      t.fld (F.WIT.STAT.COUNT.nth 1) = (s.fld (F.WIT.STAT.COUNT.nth 1) + 1) % 2 ^ 64 ∧
      t.fld (F.WIT.LINK_ERR.CRC.nth link) = min (s.fld (F.WIT.LINK_ERR.CRC.nth link) + 1) (2 ^ 32 - 1) ∧
      SameRegs [(F.WIT.STAT.COUNT.nth 1).addr, (F.WIT.LINK_ERR.CRC.nth link).addr] s t ∧
      t = { s with wit := { s.wit with links := t.wit.links }, regs := t.regs }) ∧
    (intact = true → slotFormOk link w.bytes = false → Runs (.witnessSlot link w) s fun t =>
      t.wit.link link = { s.wit.link link with good := 0 } ∧ t.wit.link (1 - link) = s.wit.link (1 - link) ∧
      t.fld (F.WIT.STAT.COUNT.nth 1) = (s.fld (F.WIT.STAT.COUNT.nth 1) + 1) % 2 ^ 64 ∧
      SameRegs [(F.WIT.STAT.COUNT.nth 1).addr] s t ∧
      t = { s with wit := { s.wit with links := t.wit.links }, regs := t.regs }) ∧
    (intact = true → slotFormOk link w.bytes = true → r.tag ≠ s.fld F.WIT.CONFIG.ARRAY_TAG → Runs (.witnessSlot link w) s fun t =>
      t.wit.link link = { s.wit.link link with good := 0 } ∧ Signals s t Src.WIT 7 link ∧
      SameRegs ((F.WIT.STAT.COUNT.nth 1).addr :: eventRegs Src.WIT) s t ∧
      t = { s with wit := { s.wit with links := t.wit.links }, regs := t.regs, evr := t.evr }) ∧
    (intact = true → slotFormOk link w.bytes = true → r.tag = s.fld F.WIT.CONFIG.ARRAY_TAG → Runs (.witnessSlot link w) s fun t =>
      t.wit.link link = { s.wit.link link with good := (s.wit.link link).good + 1, idle := 0 } ∧
      t.wit.link (1 - link) = s.wit.link (1 - link) ∧ t.fld (F.WIT.LINK_STATUS.REF_COUNT.nth link) = r.refCount ∧
      t.fld (F.WIT.LINK_PHASE.PHASE.nth link) = unsignedOf 32 ((r.p - w.q) / 2) ∧
      t.fld (F.WIT.LINK_PHASE.DELAY.nth link) = unsignedOf 32 ((r.p + w.q) / 2) ∧
      t.fld F.WIT.STATUS.STATE = r.state ∧ t.flag F.WIT.STATUS.PEER_HEARD = r.peerHeard ∧
      ((s.wit.link link).valid = false → t.wit = { s.wit with links := t.wit.links } ∧
        t = { s with wit := t.wit, regs := t.regs }) ∧
      ((s.wit.link link).valid = true →
        (r.state = 1 → s.wit.granted < r.epoch → r.own &&& s.wit.own = s.wit.own →
          t.wit.grant = some ⟨r.epoch, r.own, 1⟩ ∧ t.wit.leaseRun = 0 ∧ t.wit.own = s.wit.own ∧ t.tck = s.tck ∧ t.evr = s.evr) ∧
        (r.state = 1 → r.epoch = s.wit.granted → r.own = s.wit.own → t.tck = s.tck ∧ t.wit.leaseRun = 0 ∧
          t.wit.grant = s.wit.grant ∧ t.wit.req = (if s.wit.req = 3 then 0 else s.wit.req)) ∧
        (r.state = 1 → r.epoch = s.wit.granted → s.wit.req = 3 → s.wit.own &&& r.own = s.wit.own → r.own ≠ s.wit.own →
          t.tck = s.tck ∧ t.wit.leaseRun = 0 ∧ t.wit.grant = s.wit.grant ∧ t.wit.req = 3) ∧
        (r.state = 1 → r.own &&& s.wit.own ≠ s.wit.own →
          t.tck = { s.tck with latches := s.tck.latches ++ [.epochLoss .witness] }) ∧
        (r.state = 2 → t.wit.leaseRun = 0 ∧ t.tck = s.tck ∧ t.wit.grant = s.wit.grant) ∧
        (r.state = 0 → s.wit.own ≠ 0 → t.tck = { s.tck with latches := s.tck.latches ++ [.epochLoss .witness] }) ∧
        (r.state = 0 → s.wit.own = 0 → t.tck = s.tck ∧ t.wit.req = (if s.wit.req = 3 then 0 else s.wit.req)) ∧
        (r.state = 3 → t.tck = { s.tck with latches := s.tck.latches ++ [.epochLoss .witness] } ∧ Signals s t Src.WIT 3 0)))) ∧
  (∀ (s : State) (module : Bool), (s.witnessHeard = true → exec (.epochLoss module) s = .next { s with tck := { s.tck with
      latches := s.tck.latches ++ [.epochLoss (if module then .module else .witness)] } }) ∧
    (s.witnessHeard = false → exec (.epochLoss module) s = .next s)) ∧
  (∀ (s : State) (link : Nat), link < 2 → s.wit.links.length = 2 →
    ((s.wit.link link).valid = false → 16 ≤ (s.wit.link link).good → Runs (.umbraLinkValid link) s fun t =>
      t.wit.link link = { s.wit.link link with valid := true } ∧ t.wit.link (1 - link) = s.wit.link (1 - link) ∧
      Signals s t Src.WIT 0 link ∧ SameRegs (eventRegs Src.WIT) s t ∧
      t = { s with wit := { s.wit with links := t.wit.links }, regs := t.regs, evr := t.evr }) ∧
    ((s.wit.link link).good < 16 → exec (.umbraLinkValid link) s = .next s) ∧
    ((s.wit.link link).valid = true → 10000 ≤ (s.wit.link link).idle → Runs (.umbraLinkMissing link) s fun t =>
      t.wit.link link = { s.wit.link link with valid := false, good := 0 } ∧
      t.wit.link (1 - link) = s.wit.link (1 - link) ∧ Signals s t Src.WIT 1 link ∧ SameRegs (eventRegs Src.WIT) s t ∧
      t = { s with wit := { s.wit with links := t.wit.links }, regs := t.regs, evr := t.evr }) ∧
    ((s.wit.link link).idle < 10000 → exec (.umbraLinkMissing link) s = .next s)) ∧
  (∀ s : State, (s.tickNs = 4000 → s.transmits = true → exec .umbraMidwaySlot s = .next { s with
      out := s.out ++ [.headSlot true (s.headSlotBytes 0), .headSlot true (s.headSlotBytes 1)] }) ∧
    (s.tickNs ≠ 4000 → exec .umbraMidwaySlot s = .next s)) ∧
  (∀ s : State, s.wit.own ≠ 0 → s.rfl.lost = true → s.lcs.mode.fences = true →
    (s.fld F.WIT.CONFIG.LEASE * 2000 ≤ s.wit.leaseRun → Runs .leaseExpired s fun t =>
      t.tck = { s.tck with latches := s.tck.latches ++ [.epochLoss .lease] } ∧ Signals s t Src.WIT 5 0 ∧
      t.fld (F.WIT.STAT.COUNT.nth 4) = (s.fld (F.WIT.STAT.COUNT.nth 4) + 1) % 2 ^ 64 ∧
      SameRegs ((F.WIT.STAT.COUNT.nth 4).addr :: eventRegs Src.WIT) s t ∧
      t = { s with tck := t.tck, regs := t.regs, evr := t.evr }) ∧
    (s.wit.leaseRun < s.fld F.WIT.CONFIG.LEASE * 2000 → exec .leaseExpired s = .next s)) ∧
  (∀ (s : State) (side since : Nat), s.rfl.unheld = some since → side < 2 → s.wit.own.testBit side = false →
    (since + s.ticksIn 10000000 ≤ s.now → s.mayClaim = true → s.wit.req ≠ 1 → exec (.unheldSideClaim side) s = .next
      { s with wit := { s.wit with req := 2, mask := if s.wit.req = 2 then s.wit.mask ||| 2 ^ side else 2 ^ side } }) ∧
    (s.now < since + s.ticksIn 10000000 → exec (.unheldSideClaim side) s = .next s)) ∧
  (∀ (s : State) (a : Adopt), s.rfl.adopt = some a → a.step = 2 →
    ((Tab.keys s.frn.ports).all s.portFenced = true → Runs .adoptFencesDone s fun t =>
      t.rfl = { s.rfl with adopt := some { a with step := 3 } } ∧ t.fld F.RFL.ADOPT_STATUS.STEP = 3 ∧
      SameRegs [F.RFL.ADOPT_STATUS.STEP.addr] s t ∧ t = { s with rfl := t.rfl, regs := t.regs }) ∧
    ((Tab.keys s.frn.ports).all s.portFenced = false → exec .adoptFencesDone s = .next s)) ∧
  (∀ (s : State) (a : Adopt) (side : Nat) (x : RecoveryRead), s.rfl.adopt = some a → a.step = 3 → side < 2 →
    a.todo.testBit side = true → Runs (.adoptJournalRead side x) s fun t =>
    let tail := a.tail + s.tailRecords side x (s.wholeShadow side)
    SameMemory s t ∧ t.fld F.RFL.ADOPT_STATUS.TAIL = tail % 2 ^ 32 ∧
    (a.todo ≠ 2 ^ side →
      t.rfl.adopt = some { a with todo := a.todo - 2 ^ side, tail := tail } ∧ Tab.find t.rfl.shadows side = none) ∧
    (a.todo = 2 ^ side → t.rfl.adopt = some { a with todo := 0, step := 5, tail := tail } ∧
      t.fld F.RFL.ADOPT_STATUS.STEP = 5 ∧ Raises t Src.RFL 6 ∧
      (s.lcs.mode = .takeOver → t.lcs.mode = .soloActive) ∧ (s.lcs.mode = .join → t.lcs.mode = .dualActive))) ∧
  (∀ (s : State) (side stripe : Nat) (pages : List FlashPage),
    let mark := side * 2 ^ 20 + stripe
    ((mark ∉ s.rfl.unchecked ∨ s.granted Cls.mapWork = false) → exec (.stripeCheck side stripe pages) s = .next s) ∧
    (mark ∈ s.rfl.unchecked → s.granted Cls.mapWork = true → Runs (.stripeCheck side stripe pages) s fun t =>
      t.rfl.unchecked = s.rfl.unchecked.erase mark ∧ SameMemory s t ∧
      (s.rfl.unchecked.erase mark = [] → t.rfl.adopt = none ∧ t.fld F.RFL.ADOPT_STATUS.STEP = 0) ∧
      (∀ z, s.other = none → Tab.find s.ftl.stripes stripe = some z → z.state = 1 →
        ∃ y, Tab.find t.ftl.stripes stripe = some y ∧ z.rowsDone ≤ y.rowsDone ∧ (y.rowsDone ≤ z.sentLimit ∨ y.rowsDone = z.rowsDone) ∧
          y.rowsSent = y.rowsDone ∧ y.state = (if y.rowsDone < z.sentLimit then 5 else 1) ∧
          (∀ row, z.rowsDone ≤ row → row < y.rowsDone → s.rowAccepted ⟨pages, []⟩ stripe z row = true) ∧
          (y.rowsDone < z.sentLimit → s.rowAccepted ⟨pages, []⟩ stripe z y.rowsDone = false)))) ∧
  (∀ (s : State) (r : Req), FromCore r →
    (s.lcs.mode = .dualActive → s.tck.latches.contains .handBackStart = false → Runs (.handbackStart r) s fun t =>
      t.tck = { s.tck with latches := s.tck.latches ++ [.handBackStart] } ∧ SameRegs [] s t ∧
      t = { s with tck := t.tck, regs := t.regs }) ∧
    (s.lcs.mode ≠ .dualActive → Runs (.handbackStart r) s fun t =>
      t.tck = s.tck ∧ (t.reg (blockBase Src.RFL + 8)).getLsbD 4 = true ∧
      SameRegs [blockBase Src.RFL + 8, blockBase Src.RFL + 16] s t ∧ t = { s with regs := t.regs, evr := t.evr })) ∧
  (∀ (s : State) (h : HandBack), s.rfl.handBack = some h →
    (h.phase ≤ 2 → h.since < s.now → h.abandoned = false → s.sidesBusy h.sides = false → Runs .drainEnd s fun t =>
      t.rfl = { s.rfl with handBack := some { h with phase := 3, limit := false } } ∧ t.fld F.RFL.HANDBACK_STATUS.PHASE = 3 ∧
      SameRegs [F.RFL.HANDBACK_STATUS.PHASE.addr] s t ∧ t = { s with rfl := t.rfl, regs := t.regs }) ∧
    (h.phase ≤ 2 → h.since < s.now → h.abandoned = false → s.sidesBusy h.sides = true →
      h.since + s.ticksIn (s.fld F.RFL.HANDBACK_CTL.DRAIN_MS * 1000) ≤ s.now → Runs .drainEnd s fun t =>
      t.rfl = { s.rfl with handBack := some { h with phase := 3, limit := true } } ∧ t.fld F.RFL.HANDBACK_STATUS.PHASE = 3 ∧
      t = { s with rfl := t.rfl, regs := t.regs }) ∧
    (s.sidesBusy h.sides = true → s.now < h.since + s.ticksIn (s.fld F.RFL.HANDBACK_CTL.DRAIN_MS * 1000) →
      exec .drainEnd s = .next s) ∧
    (h.phase = 3 → h.finalTick = none → h.abandoned = false → h.sides % 4 ≠ 0 → Runs .handbackSeal s fun t =>
      t.rfl.handBack = some { h with finalTick := some s.now } ∧ t.wit.req = 3 ∧ t.wit.mask = h.sides ∧ SameMemory s t ∧
      (h.isReturn = false → t.wit.own = 0 ∧ t.lcs.mode = s.lcs.mode) ∧
      (h.isReturn = true → t.wit.own = s.wit.own &&& (3 ^^^ h.sides) ∧ t.lcs.mode = .soloActive) ∧
      (s.lcs.mode = .handBack → (∀ d ∈ s.rfl.deltas, d.tick ≠ s.now) → ∃ d ∈ t.rfl.deltas, d.tick = s.now ∧
        ∀ v ∈ s.heldViews, h.sides.testBit v.1 = true →
          (⟨2, v.1, 0, v.2.ftl.jseq, v.2.rdn.sseq, 0⟩ : Ctrl) ∈ d.ctrl)) ∧
    (h.phase ≠ 3 → exec .handbackSeal s = .next s) ∧
    (∀ f, h.finalTick = some f → h.isReturn = false → h.abandoned = false →
      ((if h.receiver then f ≤ s.rfl.acked else f < s.now) → h.sides % 4 ≠ 0 → Runs .handbackDone s fun t =>
        t.lcs.mode = .eclipse ∧ t.wit.own = 0 ∧ t.rfl.handBack = none ∧ t.wit.req = 3 ∧ t.wit.mask = h.sides ∧
        SameMemory s t ∧ (s.wit.own = 0 → s.frnEpoch = 0 → Raises t Src.RFL 4 ∧ t.fld F.RFL.HANDBACK_STATUS.PHASE = 4 ∧ t.fld F.WIT.STATUS.FENCE_SRC = 3 ∧
          t.fld F.RFL.HANDBACK_STATUS.RESULT = (if h.receiver = false then 2 else if h.limit then 3 else 0))) ∧
      (h.receiver = true → s.rfl.acked < f → exec .handbackDone s = .next s)))

/-- The rows of the pacer, and what it computes. -/
def Obligations.PacerRows : Prop :=
  (∀ s : State, s.fld F.PCR.TOTAL.MIN ≤ s.fld F.PCR.TOTAL.MAX →
    s.fld F.PCR.TOTAL.MIN ≤ s.controlLaw.pcr.u ∧ s.controlLaw.pcr.u ≤ s.fld F.PCR.TOTAL.MAX ∧
    s.controlLaw = { s with pcr := { s.pcr with integ := s.controlLaw.pcr.integ, u := s.controlLaw.pcr.u } }) ∧
  (∀ (l : List Alloc) (u : Nat), allocCost l 0 ≤ 16 * u →
    allocCost l (largestX l (16 * u) 29 0) ≤ 16 * u ∧ (targetsFor l u).2 = false ∧
    (targetsFor l u).1 = l.map (fun a => a.target (largestX l (16 * u) 29 0)) ∧ ∀ a ∈ l, ∀ x, a.floor ≤ a.target x) ∧
  (∀ (x : PcrClass) (vMax aMax jMax : Nat), let y := x.step vMax aMax jMax
    (y.share = x.target ∧ y.v = 0 ∧ y.a = 0) ∨
    ((y.share : Int) = max 0 (x.share + y.v) ∧ y.v.natAbs ≤ vMax ∧ (y.a - x.a).natAbs ≤ jMax)) ∧
  (∀ (s : State) (b : Nat), s.fld F.PCR.TOD.TOD_VALID = 1 → b = s.fld F.PCR.TOD.BIN → 1 ≤ s.fld F.PCR.RC_CTL.BINS →
    s.fld F.PCR.RC_CTL.BINS ≤ 4096 →
    let learns : Bool := s.flag F.PCR.RC_CTL.EN && s.pcr.binOneSide && decide (0 < s.pcr.binClosed) &&
      decide (s.pcr.binPanel ≤ 2 * s.pcr.binClosed)
    (s.binTicks ≤ s.fld F.PCR.TOD.TICKS → Runs .binEnd s fun t =>
      t.fld F.PCR.TOD.BIN = (b + 1) % s.fld F.PCR.RC_CTL.BINS ∧
      t.fld F.PCR.TOD.TICKS = s.fld F.PCR.TOD.TICKS - s.binTicks ∧ t.pcr.binPanel = 0 ∧ t.pcr.binClosed = 0 ∧ t.pcr.binSum = 0 ∧
      SameRegs [F.PCR.TOD.BIN.addr, (F.PCR.STAT.COUNT.nth 4).addr] s t ∧ (∀ m, m ≠ b → Tab.find t.pcr.own m = Tab.find s.pcr.own m) ∧
      (learns = true → Tab.find s.pcr.own b = none → Tab.find t.pcr.own b = some (true, s.pcr.binSum / s.pcr.binClosed)) ∧
      (learns = true → ∀ m, Tab.find s.pcr.own b = some (true, m) → Tab.find t.pcr.own b = some (true,
        ((m : Int) + ((s.pcr.binSum / s.pcr.binClosed : Nat) - (m : Int)).tdiv (2 ^ s.fld F.PCR.RC_CTL.GAIN_SHIFT)).toNat)) ∧
      (learns = false → t.pcr.own = s.pcr.own) ∧ t = { s with pcr := t.pcr, regs := t.regs }) ∧
    (s.fld F.PCR.TOD.TICKS < s.binTicks → exec .binEnd s = .next s)) ∧
  (∀ s : State, s.pcr.fallback = false → s.pacerState = 2 →
    let force := s.flag F.PCR.CTL.FORCE
    ((force = true ∨ s.fld F.PCR.MODEL_CTL.N_BAD ≤ s.pcr.badRun) → Runs .pacerFallback s fun t =>
      t.pcr = { s.pcr with fallback := true, goodRun := 0, badRun := 0, u := s.scheduled, cause := if force then 2 else 1 } ∧
      Signals s t Src.PCR 0 0 ∧
      t.fld (F.PCR.STAT.COUNT.nth 3) = (s.fld (F.PCR.STAT.COUNT.nth 3) + 1) % 2 ^ 64 ∧
      SameRegs ((F.PCR.STAT.COUNT.nth 3).addr :: eventRegs Src.PCR) s t ∧
      t = { s with pcr := t.pcr, regs := t.regs, evr := t.evr }) ∧
    (force = false → s.pcr.badRun < s.fld F.PCR.MODEL_CTL.N_BAD → exec .pacerFallback s = .next s)) ∧
  (∀ s : State, s.pcr.fallback = true → s.flag F.PCR.CTL.FORCE = false →
    (s.fld F.PCR.MODEL_CTL.N_GOOD ≤ s.pcr.goodRun → Runs .pacerClosed s fun t =>
      t.pcr = { s.pcr with fallback := false, badRun := 0, integ := t.pcr.integ } ∧
      (s.pcr.u : Int) = s.pcr.uff + s.fld F.PCR.SETPOINT.KP * s.latencyError + t.pcr.integ ∧ Signals s t Src.PCR 1 0 ∧
      SameRegs (eventRegs Src.PCR) s t ∧ t = { s with pcr := t.pcr, regs := t.regs, evr := t.evr }) ∧
    (s.pcr.goodRun < s.fld F.PCR.MODEL_CTL.N_GOOD → exec .pacerClosed s = .next s)) ∧
  (∀ (s : State) (r : Req) (v : Word), FromCore r → Runs (.pcrForceWrite r v) s fun t =>
    t.flag F.PCR.CTL.FORCE = v.getLsbD 1 ∧ t.flag F.PCR.CTL.EN = v.getLsbD 0 ∧ SameRegs [F.PCR.CTL.FORCE.addr] s t ∧
    t = { s with regs := t.regs }) ∧
  (∀ (s : State) (r : Req) (v : Word), FromCore r →
    exec (.todWrite r v) s = .next { s with pcr := { s.pcr with todPending := some v } }) ∧
  (∀ (s : State) (v : Word), s.pcr.todPending = some v →
    s.pacerBoundary.fld F.PCR.TOD.BIN = wfld v.toNat F.PCR.TOD.BIN ∧
    s.pacerBoundary.fld F.PCR.TOD.TICKS = wfld v.toNat F.PCR.TOD.TICKS ∧ s.pacerBoundary.flag F.PCR.TOD.TOD_VALID = true ∧
    s.pacerBoundary.pcr.todPending = none) ∧
  (∀ (s : State) (r : Req) (v : Word), FromCore r → exec (.rcDataWrite r v) s = .next { s with pcr := { s.pcr with
    rcPending := some (s.flag F.PCR.RC_SEL.PEER, s.fld F.PCR.RC_SEL.BIN, v.getLsbD 31, wfld v.toNat F.PCR.RC_DATA.M) } }) ∧
  (∀ (s : State) (b m : Nat) (v : Bool), s.pcr.rcPending = some (false, b, v, m) →
    Tab.find s.pacerBoundary.pcr.own b = some (v, m) ∧ s.pacerBoundary.pcr.peer = s.pcr.peer ∧
    s.pacerBoundary.pcr.rcPending = none) ∧
  (∀ (s : State) (b m : Nat) (v : Bool), s.pcr.rcPending = some (true, b, v, m) →
    Tab.find s.pacerBoundary.pcr.peer b = some (v, m) ∧ s.pacerBoundary.pcr.own = s.pcr.own)

/-- R9: reads and writes of unassigned addresses. -/
def Obligations.UnassignedAddressesReadZero : Prop :=
  ∀ (s : State) (r : Req) (addr b : Nat) (v : Word), blockOf addr = some b → addr % 8 = 0 → specAt addr = none →
    let count : Fld := ⟨blockBase b + 8, 0, 63, 32⟩
    let recorded (t : State) : Prop := (t.reg (blockBase b + 8)).getLsbD 1 = true ∧
      t.fld count = min (s.fld count + 1) (2 ^ 32 - 1) ∧ SameRegs [blockBase b + 8, blockBase b + 16] s t ∧
      t.evr = { s.evr with atBoundary := t.evr.atBoundary }
    (Runs (.wideValueRead r addr 8) s fun t =>
      t.busData = 0 ∧ recorded t ∧ t = { s with busData := 0, regs := t.regs, evr := t.evr }) ∧
    (Runs (.registerWrite r addr 8 v) s fun t => recorded t ∧ t = { s with fresh := s.fresh + 1, regs := t.regs, evr := t.evr })

/-- The access rules, on registers of each kind. -/
def Obligations.RegisterAccess : Prop :=
  let err (k : Nat) (a : Nat) (t : State) : Prop := (t.reg (blockBase ((blockOf a).getD 0) + 8)).getLsbD k = true
  let errRegs (a : Nat) : List Nat := [blockBase ((blockOf a).getD 0) + 8, blockBase ((blockOf a).getD 0) + 16]
  (∀ (s : State) (r : Req) (addr size : Nat) (v : Word), (blockOf addr).isSome = true → (size ≠ 8 ∨ addr % 8 ≠ 0) →
    (Runs (.registerWrite r addr size v) s fun t => err 0 addr t ∧ SameRegs (errRegs addr) s t ∧
      t = { s with fresh := s.fresh + 1, regs := t.regs, evr := t.evr }) ∧
    (Runs (.wideValueRead r addr size) s fun t => err 0 addr t ∧ SameRegs (errRegs addr) s t ∧
      t = { s with busData := 0, regs := t.regs, evr := t.evr })) ∧
  (∀ (s : State) (r : Req) (v : Word), FromCore r → let a := F.PCR.SETPOINT.SP.addr
    Runs (.registerWrite r a 8 v) s fun t =>
      t.fld F.PCR.SETPOINT.KP = wfld v.toNat F.PCR.SETPOINT.KP ∧ t.fld F.PCR.SETPOINT.KI = wfld v.toNat F.PCR.SETPOINT.KI ∧
      bits (t.reg a).toNat 31 16 = bits (s.reg a).toNat 31 16 ∧
      (20 ≤ wfld v.toNat F.PCR.SETPOINT.SP → wfld v.toNat F.PCR.SETPOINT.SP ≤ 4095 →
        t.fld F.PCR.SETPOINT.SP = wfld v.toNat F.PCR.SETPOINT.SP ∧ SameRegs [a] s t ∧
        t = { s with fresh := s.fresh + 1, regs := t.regs }) ∧
      ((wfld v.toNat F.PCR.SETPOINT.SP < 20 ∨ 4095 < wfld v.toNat F.PCR.SETPOINT.SP) →
        t.fld F.PCR.SETPOINT.SP = s.fld F.PCR.SETPOINT.SP ∧ err 3 a t ∧ SameRegs (a :: errRegs a) s t ∧
        t = { s with fresh := s.fresh + 1, regs := t.regs, evr := t.evr })) ∧
  (∀ (s : State) (r : Req) (v : Word), FromCore r → let a := F.TCK.CONFIG.TICK_LEN.addr
    (s.lcs.mode ≠ .structureLoad → s.lcs.mode ≠ .restructure → Runs (.registerWrite r a 8 v) s fun t =>
      err 2 a t ∧ SameRegs (errRegs a) s t ∧ t = { s with fresh := s.fresh + 1, regs := t.regs, evr := t.evr }) ∧
    (s.lcs.mode = .structureLoad → wfld v.toNat F.TCK.CONFIG.TICK_LEN ≤ 2 → Runs (.registerWrite r a 8 v) s fun t =>
      t.fld F.TCK.CONFIG.TICK_LEN = wfld v.toNat F.TCK.CONFIG.TICK_LEN ∧ SameRegs [a] s t)) ∧
  (∀ (s : State) (r : Req) (v : Word), FromCore r → let a := eventAddr Src.RFL
    Runs (.registerWrite r a 8 v) s fun t =>
      (∀ i, (t.reg a).getLsbD i = ((s.reg a).getLsbD i && !(decide (i < 10) && v.getLsbD i))) ∧ SameRegs [a] s t ∧
      t = { s with fresh := s.fresh + 1, regs := t.regs }) ∧
  (∀ (s : State) (r : Req) (v : Word), FromCore r → s.flag F.QPC.CMD_STATUS.BUSY = true → let a := F.QPC.CMD.OP.addr
    Runs (.registerWrite r a 8 v) s fun t => t.qpc = s.qpc ∧ SameRegs (errRegs a) s t ∧
      t = { s with fresh := s.fresh + 1, regs := t.regs, evr := t.evr }) ∧
  (∀ (s : State) (r : Req) (addr b n : Nat) (x : RegSpec), FromCore r → specAt addr = some (b, x, n) → addr % 8 = 0 →
    (blockOf addr).isSome = true →
    (wideValues.find? (fun p => decide (p.1 ≤ addr) && decide (addr < p.1 + 8 * p.2)) = none →
      exec (.wideValueRead r addr 8) s = .next { s with busData := s.liveWord addr }) ∧
    (∀ base words, wideValues.find? (fun p => decide (p.1 ≤ addr) && decide (addr < p.1 + 8 * p.2)) = some (base, words) →
      (addr = base → Runs (.wideValueRead r addr 8) s fun t => t.busData = s.liveWord base ∧
        (∀ i, 1 ≤ i → i < words → Tab.find t.shadow (base + 8 * i) = some (s.liveWord (base + 8 * i))) ∧
        t = { s with busData := t.busData, shadow := t.shadow }) ∧
      (addr ≠ base → exec (.wideValueRead r addr 8) s = .next { s with busData := Tab.getD s.shadow addr 0 }))) ∧
  (∀ (s : State) (r : Req) (addr : Nat) (v : Word), FromCore r → blockOf addr = none → inDram addr = true →
    (s.memOk Src.APC addr 8 = true → Runs (.registerWrite r addr 8 v) s fun t =>
      (∀ i, i < 8 → t.byte (addr + i) = v.extractLsb' (8 * i) 8) ∧ (∀ a, a < addr ∨ addr + 8 ≤ a → t.byte a = s.byte a) ∧
      t = { s with fresh := s.fresh + 1, mem := t.mem }) ∧
    (s.memOk Src.APC addr 8 = false → Runs (.registerWrite r addr 8 v) s fun t => SameMemory s t ∧ Raises t Src.MEM 1 ∧
      t = { s with fresh := s.fresh + 1, regs := t.regs, evr := t.evr }))

/-- Rows of the data path, the keys, the flash, the redundancy and recovery. -/
def Obligations.DataPathAndFlashRowsLeaveTheRestAlone : Prop :=
  let keeps (bs : List Nat) (f : State → State → State) (c : Instr) : Prop := ∀ s : State,
    Runs c s fun t => t = f s t ∧ SameBlocks bs s t
  let p0 (c : Instr) : Prop := keeps [Src.CIP, Src.CMF, Src.EVR, Src.FRN, Src.QPC, Src.RFL, Src.VCT] (fun s t => { s with
      bay := t.bay, evr := t.evr, rdx := t.rdx, cip := t.cip, lanes := t.lanes, ftl := t.ftl, rdn := t.rdn, frn := t.frn,
      pcr := t.pcr, cmf := t.cmf, qpc := t.qpc, hpt := t.hpt, rfl := t.rfl, other := t.other, regs := t.regs, out := t.out }) c
  let p1 (c : Instr) : Prop := keeps [Src.DGS, Src.EVR, Src.RDX] (fun s t => { s with
      evr := t.evr, rdx := t.rdx, lanes := t.lanes, ftl := t.ftl, rdn := t.rdn, cmf := t.cmf, other := t.other,
      regs := t.regs }) c
  let p2 (c : Instr) : Prop := keeps [Src.CIP, Src.EVR, Src.RDX] (fun s t => { s with
      evr := t.evr, rdx := t.rdx, cip := t.cip, ftl := t.ftl, rdn := t.rdn, cmf := t.cmf, other := t.other, regs := t.regs }) c
  let p3 (c : Instr) : Prop := keeps [Src.CIP, Src.EVR, Src.RDX] (fun s t => { s with
      evr := t.evr, rdx := t.rdx, cip := t.cip, lanes := t.lanes, ftl := t.ftl, rdn := t.rdn, cmf := t.cmf,
      other := t.other, regs := t.regs }) c
  let p4 (c : Instr) : Prop := keeps [Src.EVR, Src.FRN, Src.FTL, Src.RDX] (fun s t => { s with
      bay := t.bay, evr := t.evr, rdx := t.rdx, ftl := t.ftl, rdn := t.rdn, frn := t.frn, pcr := t.pcr, cmf := t.cmf,
      other := t.other, regs := t.regs, out := t.out }) c
  let p5 (c : Instr) : Prop := keeps [Src.CIP, Src.CMF, Src.EVR, Src.QPC, Src.VCT] (fun s t => { s with
      evr := t.evr, cip := t.cip, lanes := t.lanes, cmf := t.cmf, vct := t.vct, qpc := t.qpc, hpt := t.hpt, rfl := t.rfl,
      regs := t.regs, out := t.out }) c
  let p6 (c : Instr) : Prop := keeps [] (fun s t => { s with
      rdx := t.rdx, ftl := t.ftl, rdn := t.rdn, pcr := t.pcr, other := t.other }) c
  let p7 (c : Instr) : Prop := keeps [Src.EVR, Src.RDX] (fun s t => { s with
      evr := t.evr, rdx := t.rdx, ftl := t.ftl, rdn := t.rdn, pcr := t.pcr, other := t.other, regs := t.regs,
      fresh := t.fresh }) c
  let p8 (c : Instr) : Prop := keeps [] (fun s t => { s with ftl := t.ftl, rdn := t.rdn, other := t.other }) c
  let p9 (c : Instr) : Prop := keeps [Src.CIP, Src.CMF, Src.EVR, Src.FRN, Src.QPC, Src.VCT] (fun s t => { s with
      bay := t.bay, evr := t.evr, rdx := t.rdx, cip := t.cip, lanes := t.lanes, ftl := t.ftl, rdn := t.rdn, frn := t.frn,
      pcr := t.pcr, cmf := t.cmf, qpc := t.qpc, hpt := t.hpt, other := t.other, regs := t.regs, out := t.out }) c
  let p10 (c : Instr) : Prop := keeps [Src.CIP, Src.CMF, Src.CMP, Src.EVR, Src.FRN, Src.QPC, Src.VCT] (fun s t => { s with
      bay := t.bay, evr := t.evr, rdx := t.rdx, cip := t.cip, lanes := t.lanes, ftl := t.ftl, rdn := t.rdn, frn := t.frn,
      pcr := t.pcr, cmf := t.cmf, qpc := t.qpc, hpt := t.hpt, other := t.other, regs := t.regs, out := t.out }) c
  let p11 (c : Instr) : Prop := keeps [Src.CIP, Src.EVR, Src.FRN, Src.FTL, Src.RDN] (fun s t => { s with
      bay := t.bay, evr := t.evr, rdx := t.rdx, cip := t.cip, lanes := t.lanes, ftl := t.ftl, rdn := t.rdn, frn := t.frn,
      pcr := t.pcr, other := t.other, regs := t.regs, out := t.out }) c
  let p12 (c : Instr) : Prop := keeps [Src.FTL] (fun s t => { s with
      cip := t.cip, ftl := t.ftl, rdn := t.rdn, other := t.other, regs := t.regs }) c
  let p13 (c : Instr) : Prop := keeps [Src.CIP, Src.EVR] (fun s t => { s with
      evr := t.evr, cip := t.cip, pcr := t.pcr, regs := t.regs }) c
  let p14 (c : Instr) : Prop := keeps [Src.APC, Src.CMP, Src.EVR, Src.MEM] (fun s t => { s with
      evr := t.evr, cmp := t.cmp, cip := t.cip, dgs := t.dgs, regs := t.regs, mem := t.mem }) c
  let p15 (c : Instr) : Prop := keeps [Src.EVR, Src.FTL] (fun s t => { s with
      evr := t.evr, rdx := t.rdx, ftl := t.ftl, rdn := t.rdn, pcr := t.pcr, other := t.other, regs := t.regs }) c
  let p16 (c : Instr) : Prop := keeps [Src.EVR, Src.FTL] (fun s t => { s with
      evr := t.evr, ftl := t.ftl, rdn := t.rdn, other := t.other, regs := t.regs }) c
  let p17 (c : Instr) : Prop := keeps [Src.EVR, Src.FRN, Src.FTL, Src.RDN] (fun s t => { s with
      bay := t.bay, evr := t.evr, lanes := t.lanes, ftl := t.ftl, rdn := t.rdn, frn := t.frn, pcr := t.pcr,
      other := t.other, regs := t.regs, out := t.out }) c
  let p18 (c : Instr) : Prop := keeps [Src.FTL] (fun s t => { s with
      ftl := t.ftl, rdn := t.rdn, other := t.other, regs := t.regs }) c
  let p19 (c : Instr) : Prop := keeps [Src.EVR, Src.FRN, Src.FTL, Src.RDN] (fun s t => { s with
      bay := t.bay, evr := t.evr, rdx := t.rdx, lanes := t.lanes, ftl := t.ftl, rdn := t.rdn, frn := t.frn, pcr := t.pcr,
      other := t.other, regs := t.regs, out := t.out }) c
  let p20 (c : Instr) : Prop := keeps [Src.EVR, Src.FRN, Src.FTL] (fun s t => { s with
      bay := t.bay, evr := t.evr, rdx := t.rdx, ftl := t.ftl, rdn := t.rdn, frn := t.frn, pcr := t.pcr, other := t.other,
      regs := t.regs, out := t.out }) c
  let p21 (c : Instr) : Prop := keeps [Src.FRN, Src.FTL, Src.RDN] (fun s t => { s with
      bay := t.bay, rdx := t.rdx, lanes := t.lanes, ftl := t.ftl, rdn := t.rdn, frn := t.frn, pcr := t.pcr,
      other := t.other, regs := t.regs, out := t.out }) c
  let p22 (c : Instr) : Prop := keeps [Src.EVR, Src.FTL, Src.RDN] (fun s t => { s with
      evr := t.evr, ftl := t.ftl, rdn := t.rdn, other := t.other, regs := t.regs }) c
  let p23 (c : Instr) : Prop := keeps [Src.CIP, Src.CMF, Src.EVR, Src.FTL, Src.RDX] (fun s t => { s with
      evr := t.evr, rdx := t.rdx, cip := t.cip, ftl := t.ftl, rdn := t.rdn, frn := t.frn, cmf := t.cmf, rfl := t.rfl,
      other := t.other, regs := t.regs }) c
  let p24 (c : Instr) : Prop := keeps [Src.EVR, Src.LCS] (fun s t => { s with
      lcs := t.lcs, evr := t.evr, rfl := t.rfl, wit := t.wit, regs := t.regs }) c
  (∀ (key : Nat) (ok : Bool), p0 (.rdmaReadDone key ok)) ∧
  (∀ (chunk : Nat) (busError : Bool), p1 (.fingerprintDone chunk busError)) ∧ (∀ (chunk : Nat), p2 (.sporebankLookup chunk)) ∧
  (∀ (chunk : Nat) (busError : Bool), p3 (.chunkEncryptDone chunk busError)) ∧ p4 .mossPlace ∧
  (∀ (chunk copy : Nat), p4 (.copyPlaceAgain chunk copy)) ∧ (∀ (key : Nat), p5 (.writeCompletion key)) ∧
  (∀ (key : Nat), p5 (.readCompletion key)) ∧ p6 .merge ∧ p7 .sbRegionLoad ∧
  (∀ (nsid page : Nat), p8 (.mapPageFetch nsid page)) ∧ (∀ (job : Nat) (busError : Bool), p9 (.chunkDecryptDone job busError)) ∧
  (∀ (chunk : Nat), p10 (.chunkExpandDone chunk)) ∧ (∀ (nsid chunk : Nat), p11 (.rewrap nsid chunk)) ∧
  (∀ (slot : Nat), p12 (.keyReserve slot)) ∧ (∀ (slot : Nat), p13 (.keyUsageRestore slot)) ∧
  (∀ (ring : Nat), p14 (.cmpJobDispatch ring)) ∧ (∀ (nsid : Nat), p15 (.snapSweep nsid)) ∧
  (∀ (chunk : Nat), p16 (.mossRelease chunk)) ∧ p17 .checkpointDone ∧ p18 .sjPairMove ∧ p19 .fold ∧ p19 .gcCopy ∧
  p19 .rebuildRow ∧ p19 .chunkRewrite ∧ p19 .patrolRow ∧ (∀ (p : PageRef), p20 (.readRetry p)) ∧
  (∀ (job piece : Nat), p21 (.hostReconstruct job piece)) ∧ (∀ (stripe : Nat), p22 (.rebuildCommit stripe)) ∧
  (∀ (x : RecoveryRead), p23 (.recoveryReplay x)) ∧ p24 .recoveryDone

/-- Rows of CMF, HPT, QPC and VCT. -/
def Obligations.HostAndTransportRowsLeaveTheRestAlone : Prop :=
  let keeps (bs : List Nat) (f : State → State → State) (c : Instr) : Prop := ∀ s : State,
    Runs c s fun t => t = f s t ∧ SameBlocks bs s t
  let p0 (c : Instr) : Prop := keeps [] (fun s t => { s with cmf := t.cmf }) c
  let p1 (c : Instr) : Prop := keeps [] (fun s t => { s with cmf := t.cmf, vct := t.vct }) c
  let p2 (c : Instr) : Prop := keeps [Src.CIP, Src.EVR, Src.QPC, Src.VCT] (fun s t => { s with
      evr := t.evr, cip := t.cip, lanes := t.lanes, cmf := t.cmf, vct := t.vct, qpc := t.qpc, hpt := t.hpt, regs := t.regs,
      out := t.out }) c
  let p3 (c : Instr) : Prop := keeps [Src.EVR, Src.VCT] (fun s t => { s with
      evr := t.evr, cmf := t.cmf, vct := t.vct, rfl := t.rfl, regs := t.regs }) c
  let p4 (c : Instr) : Prop := keeps [Src.FTL] (fun s t => { s with
      ftl := t.ftl, rdn := t.rdn, cmf := t.cmf, vct := t.vct, other := t.other, regs := t.regs }) c
  let p5 (c : Instr) : Prop := keeps [Src.CIP, Src.EVR, Src.QPC, Src.VCT] (fun s t => { s with
      evr := t.evr, cip := t.cip, lanes := t.lanes, cmf := t.cmf, qpc := t.qpc, hpt := t.hpt, regs := t.regs, out := t.out }) c
  let p6 (c : Instr) : Prop := keeps [Src.CIP, Src.EVR, Src.MEM, Src.QPC, Src.VCT] (fun s t => { s with
      evr := t.evr, cip := t.cip, lanes := t.lanes, cmf := t.cmf, vct := t.vct, qpc := t.qpc, hpt := t.hpt, regs := t.regs,
      out := t.out }) c
  let p7 (c : Instr) : Prop := keeps [Src.CIP, Src.CMF, Src.EVR, Src.QPC, Src.RFL, Src.VCT] (fun s t => { s with
      evr := t.evr, cip := t.cip, lanes := t.lanes, cmf := t.cmf, qpc := t.qpc, hpt := t.hpt, rfl := t.rfl, regs := t.regs,
      out := t.out }) c
  let p8 (c : Instr) : Prop := keeps [Src.CIP, Src.CMF, Src.EVR, Src.FRN, Src.QPC, Src.RFL, Src.VCT] (fun s t => { s with
      bay := t.bay, evr := t.evr, rdx := t.rdx, cip := t.cip, lanes := t.lanes, ftl := t.ftl, rdn := t.rdn, frn := t.frn,
      pcr := t.pcr, cmf := t.cmf, qpc := t.qpc, hpt := t.hpt, rfl := t.rfl, other := t.other, regs := t.regs, out := t.out }) c
  let p9 (c : Instr) : Prop := keeps [Src.CIP, Src.CMF, Src.EVR, Src.FTL, Src.QPC, Src.RFL, Src.VCT] (fun s t => { s with
      evr := t.evr, cip := t.cip, lanes := t.lanes, ftl := t.ftl, rdn := t.rdn, cmf := t.cmf, vct := t.vct, qpc := t.qpc,
      hpt := t.hpt, rfl := t.rfl, other := t.other, regs := t.regs, out := t.out }) c
  let p10 (c : Instr) : Prop := keeps [Src.CMF, Src.EVR] (fun s t => { s with evr := t.evr, cmf := t.cmf, regs := t.regs }) c
  let p11 (c : Instr) : Prop := keeps [Src.CIP, Src.EVR, Src.HPT, Src.QPC] (fun s t => { s with
      evr := t.evr, cip := t.cip, lanes := t.lanes, cmf := t.cmf, qpc := t.qpc, hpt := t.hpt, rfl := t.rfl, regs := t.regs,
      mem := t.mem, out := t.out }) c
  let p12 (c : Instr) : Prop := keeps [Src.EVR, Src.HPT, Src.QPC] (fun s t => { s with
      evr := t.evr, qpc := t.qpc, hpt := t.hpt, regs := t.regs, out := t.out }) c
  let p13 (c : Instr) : Prop := keeps [Src.CIP, Src.EVR, Src.HPT, Src.QPC] (fun s t => { s with
      evr := t.evr, cip := t.cip, lanes := t.lanes, qpc := t.qpc, hpt := t.hpt, regs := t.regs, out := t.out }) c
  let p14 (c : Instr) : Prop := keeps [Src.CIP, Src.EVR, Src.QPC] (fun s t => { s with
      evr := t.evr, cip := t.cip, lanes := t.lanes, qpc := t.qpc, hpt := t.hpt, regs := t.regs, out := t.out }) c
  let p15 (c : Instr) : Prop := keeps [Src.EVR, Src.HPT, Src.MEM, Src.VCT] (fun s t => { s with
      evr := t.evr, vct := t.vct, qpc := t.qpc, rfl := t.rfl, regs := t.regs, mem := t.mem, out := t.out }) c
  let p16 (c : Instr) : Prop := keeps [Src.EVR, Src.VCT] (fun s t => { s with
      evr := t.evr, vct := t.vct, rfl := t.rfl, regs := t.regs }) c
  let p17 (c : Instr) : Prop := keeps [Src.EVR, Src.MEM, Src.VCT] (fun s t => { s with
      evr := t.evr, cmf := t.cmf, vct := t.vct, qpc := t.qpc, rfl := t.rfl, regs := t.regs, mem := t.mem }) c
  (∀ (key : Nat), p0 (.propertyGet key)) ∧ (∀ (key : Nat), p0 (.keepAlive key)) ∧ (∀ (key : Nat), p0 (.abort key)) ∧
  (∀ (key : Nat), p1 (.propertySet key)) ∧ (∀ (key : Nat), p1 (.asyncEventRequest key)) ∧ (∀ (key : Nat), p2 (.connect key)) ∧
  (∀ (vc : Nat), p3 (.keepAliveExpiry vc)) ∧ (∀ (key : Nat), p4 (.setFeatures key)) ∧ (∀ (key : Nat), p5 (.getFeatures key)) ∧
  (∀ (key : Nat), p5 (.identify key)) ∧ (∀ (key : Nat), p6 (.getLogPage key)) ∧ (∀ (key : Nat), p7 (.flush key)) ∧
  (∀ (key : Nat), p7 (.reservationReport key)) ∧ (∀ (key : Nat), p8 (.write key)) ∧ (∀ (key : Nat), p8 (.read key)) ∧
  (∀ (key : Nat), p8 (.compare key)) ∧ (∀ (key : Nat), p8 (.writeZeroes key)) ∧ (∀ (key : Nat), p8 (.datasetManagement key)) ∧
  (∀ (key : Nat), p9 (.reservationRegister key)) ∧ (∀ (key : Nat), p9 (.reservationAcquire key)) ∧
  (∀ (key : Nat), p9 (.reservationRelease key)) ∧ (∀ (vset : Nat), p10 (.anattExceeded vset)) ∧
  (∀ (p : RocePacket), p11 (.roceSend p)) ∧ (∀ (p : RocePacket), p11 (.roceRdmaWrite p)) ∧
  (∀ (p : RocePacket), p11 (.roceRdmaReadRequest p)) ∧ (∀ (p : RocePacket), p11 (.roceReadResponse p)) ∧
  (∀ (conn psn : Nat), p11 (.roceAck conn psn)) ∧ (∀ (conn psn cause : Nat), p11 (.roceNak conn psn cause)) ∧
  (∀ (conn : Nat), p11 (.roceCnp conn)) ∧ (∀ (p : SprayPacket), p11 (.sprayPut p)) ∧ (∀ (p : SprayPacket), p11 (.sprayGet p)) ∧
  (∀ (p : SprayPacket), p11 (.sprayAck p)) ∧ (∀ (p : SprayPacket), p11 (.sprayNak p)) ∧
  (∀ (conn : Nat), p12 (.roceRetransmitTimeout conn)) ∧ (∀ (conn psn : Nat), p13 (.sprayLossTimeout conn psn)) ∧
  (∀ (conn psn : Nat), p13 (.busyHoldOffEnd conn psn)) ∧ (∀ (conn : Nat), p14 (.workRequestStart conn)) ∧
  (∀ (vc : Nat), p15 (.vcSeal vc)) ∧ p16 .freezeTimeout ∧
  (∀ (target qbase : Nat) (bytes : List Byte), p17 (.vcRecordReceived target qbase bytes))

/-- Rows of the modes, the images, record flash, faults, the panel, the Frond links, the peer and Hand-Back. -/
def Obligations.ControlLinkAndPeerRowsLeaveTheRestAlone : Prop :=
  let keeps (bs : List Nat) (f : State → State → State) (c : Instr) : Prop := ∀ s : State,
    Runs c s fun t => t = f s t ∧ SameBlocks bs s t
  let p0 (c : Instr) : Prop := keeps [Src.BAY, Src.EVR, Src.PCR, Src.TCK] (fun s t => { s with
      bay := t.bay, evr := t.evr, flt := t.flt, pcr := t.pcr, regs := t.regs }) c
  let p1 (c : Instr) : Prop := keeps [Src.APC, Src.EVR, Src.LCS, Src.MEM, Src.SIM] (fun s t => { s with
      lcs := t.lcs, sim := t.sim, apc := t.apc, evr := t.evr, regs := t.regs }) c
  let p2 (c : Instr) : Prop := keeps [Src.EVR, Src.FRN, Src.FTL, Src.LCS, Src.MEM, Src.RFL, Src.WIT] (fun s t => { s with
      lcs := t.lcs, memc := t.memc, bay := t.bay, evr := t.evr, flt := t.flt, frn := t.frn, pcr := t.pcr, rfl := t.rfl,
      wit := t.wit, regs := t.regs, mem := t.mem, out := t.out }) c
  let p3 (c : Instr) : Prop := keeps [Src.EVR, Src.SIM] (fun s t => { s with
      sim := t.sim, rcf := t.rcf, evr := t.evr, regs := t.regs }) c
  let p4 (c : Instr) : Prop := keeps [Src.EVR, Src.LCS, Src.SIM] (fun s t => { s with
      tck := t.tck, lcs := t.lcs, sim := t.sim, evr := t.evr, flt := t.flt, rdx := t.rdx, regs := t.regs }) c
  let p5 (c : Instr) : Prop := keeps (List.range 23) (fun s t => { s with
      lcs := t.lcs, evr := t.evr, cmp := t.cmp, regs := t.regs }) c
  let p6 (c : Instr) : Prop := keeps [Src.EVR, Src.RCF] (fun s t => { s with
      sim := t.sim, rcf := t.rcf, evr := t.evr, regs := t.regs }) c
  let p7 (c : Instr) : Prop := keeps [] (fun s t => { s with rcf := t.rcf, evr := t.evr }) c
  let p8 (c : Instr) : Prop := keeps [Src.EVR, Src.MEM] (fun s t => { s with evr := t.evr, flt := t.flt, regs := t.regs }) c
  let p9 (c : Instr) : Prop := keeps [Src.APC, Src.EVR, Src.FLT, Src.QPC] (fun s t => { s with
      tck := t.tck, lcs := t.lcs, bay := t.bay, evr := t.evr, flt := t.flt, qpc := t.qpc, hpt := t.hpt, regs := t.regs,
      fresh := t.fresh }) c
  let p10 (c : Instr) : Prop := keeps [Src.BAY, Src.EVR] (fun s t => { s with
      bay := t.bay, evr := t.evr, regs := t.regs, out := t.out }) c
  let p11 (c : Instr) : Prop := keeps [Src.APC, Src.EVR, Src.MEM] (fun s t => { s with
      apc := t.apc, evr := t.evr, regs := t.regs, mem := t.mem, out := t.out }) c
  let p12 (c : Instr) : Prop := keeps [Src.APC, Src.EVR] (fun s t => { s with
      tck := t.tck, evr := t.evr, regs := t.regs, out := t.out, fresh := t.fresh }) c
  let p13 (c : Instr) : Prop := keeps [Src.FRN] (fun s t => { s with
      bay := t.bay, frn := t.frn, pcr := t.pcr, rfl := t.rfl, regs := t.regs, out := t.out }) c
  let p14 (c : Instr) : Prop := keeps [Src.EVR, Src.FRN, Src.FTL] (fun s t => { s with
      tck := t.tck, bay := t.bay, evr := t.evr, flt := t.flt, rdn := t.rdn, frn := t.frn, pcr := t.pcr, wit := t.wit,
      regs := t.regs, out := t.out }) c
  let p15 (c : Instr) : Prop := keeps [Src.EVR, Src.FRN] (fun s t => { s with
      tck := t.tck, evr := t.evr, frn := t.frn, regs := t.regs, out := t.out }) c
  let p16 (c : Instr) : Prop := keeps [Src.EVR, Src.FRN] (fun s t => { s with tck := t.tck, evr := t.evr, regs := t.regs }) c
  let p17 (c : Instr) : Prop := keeps [Src.FRN] (fun s t => { s with
      bay := t.bay, frn := t.frn, pcr := t.pcr, regs := t.regs, out := t.out }) c
  let p18 (c : Instr) : Prop := keeps [Src.EVR, Src.FRN] (fun s t => { s with
      bay := t.bay, evr := t.evr, frn := t.frn, pcr := t.pcr, regs := t.regs, out := t.out }) c
  let p19 (c : Instr) : Prop := keeps [Src.EVR, Src.RFL, Src.TCK] (fun s t => { s with
      tck := t.tck, evr := t.evr, ftl := t.ftl, rdn := t.rdn, rfl := t.rfl, other := t.other, regs := t.regs, out := t.out }) c
  let p20 (c : Instr) : Prop := keeps [Src.CIP, Src.EVR, Src.HPT, Src.LCS, Src.RFL, Src.VCT] (fun s t => { s with
      lcs := t.lcs, evr := t.evr, cip := t.cip, pcr := t.pcr, cmf := t.cmf, vct := t.vct, qpc := t.qpc, rfl := t.rfl,
      wit := t.wit, regs := t.regs, fresh := t.fresh }) c
  let p21 (c : Instr) : Prop := keeps [Src.CIP, Src.EVR, Src.QPC, Src.RFL, Src.VCT] (fun s t => { s with
      evr := t.evr, cip := t.cip, lanes := t.lanes, cmf := t.cmf, qpc := t.qpc, hpt := t.hpt, regs := t.regs, out := t.out }) c
  let p22 (c : Instr) : Prop := keeps [Src.CIP, Src.EVR, Src.HPT, Src.VCT] (fun s t => { s with
      evr := t.evr, cip := t.cip, pcr := t.pcr, cmf := t.cmf, vct := t.vct, qpc := t.qpc, rfl := t.rfl, regs := t.regs,
      fresh := t.fresh }) c
  let p23 (c : Instr) : Prop := keeps [Src.CMF, Src.EVR, Src.FTL, Src.LCS, Src.RDX, Src.RFL] (fun s t => { s with
      lcs := t.lcs, evr := t.evr, rdx := t.rdx, ftl := t.ftl, rdn := t.rdn, frn := t.frn, cmf := t.cmf, rfl := t.rfl,
      wit := t.wit, other := t.other, regs := t.regs }) c
  let p24 (c : Instr) : Prop := keeps [Src.FTL, Src.RFL] (fun s t => { s with
      ftl := t.ftl, rdn := t.rdn, rfl := t.rfl, other := t.other, regs := t.regs }) c
  let p25 (c : Instr) : Prop := keeps [Src.EVR, Src.FRN, Src.FTL, Src.LCS, Src.RFL] (fun s t => { s with
      lcs := t.lcs, bay := t.bay, evr := t.evr, ftl := t.ftl, rdn := t.rdn, frn := t.frn, pcr := t.pcr, rfl := t.rfl,
      wit := t.wit, other := t.other, regs := t.regs, out := t.out }) c
  let p26 (c : Instr) : Prop := keeps [Src.EVR, Src.FRN, Src.FTL, Src.LCS, Src.RFL, Src.WIT] (fun s t => { s with
      lcs := t.lcs, bay := t.bay, evr := t.evr, flt := t.flt, frn := t.frn, pcr := t.pcr, rfl := t.rfl, wit := t.wit,
      regs := t.regs, out := t.out }) c
  (∀ (pwr svc : Bool) (sensor : Nat) (reading : Int), p0 (.panelTick pwr svc sensor reading)) ∧
  (∀ (dimms : List Rdimm), p1 (.bootVerify dimms)) ∧ (∀ (ok : Bool) (unit : Nat), p2 (.selfTestPhaseEnd ok unit)) ∧
  (∀ (flashOk : Bool), p3 (.stagingDone flashOk)) ∧ p3 .commitAbandon ∧ p4 .restructureEnd ∧
  (∀ (readbackA readbackB : Bool), p5 (.structureLoad readbackA readbackB)) ∧
  (∀ (pulses : Nat) (ok : Bool), p6 (.rcfOperationEnd pulses ok)) ∧ p7 .recordFlashScan ∧
  (∀ (code source unit arg : Nat), p8 (.faultReport code source unit arg)) ∧ (∀ (cls : Nat), p9 (.ackTimeout cls)) ∧
  p9 .wdogStage1 ∧ (∀ (slots : List Nat), p10 (.chainRefresh slots)) ∧ (∀ (q : PcieRequest), p11 (.pcieInboundRequest q)) ∧
  (∀ (m : ManagementMessage), p12 (.mctpControlMessage m)) ∧ (∀ (port : Nat), p13 (.alignComplete port)) ∧
  (∀ (port : Nat) (frame : List Byte), p14 (.descriptorReceived port frame)) ∧
  (∀ (port : Nat) (frame : List Byte), p14 (.rspReceived port frame)) ∧
  (∀ (port : Nat) (frame : List Byte), p15 (.moduleEvent port frame)) ∧ (∀ (port die : Nat), p16 (.dieFailure port die)) ∧
  (∀ (port tag : Nat), p17 (.commandTimeout port tag)) ∧ p17 .healthPoll ∧ (∀ (port : Nat), p18 (.reconStart port)) ∧
  (∀ (m : MarkIn), p19 (.markReceived m)) ∧ (∀ (good : Bool) (bytes : List Byte), p20 (.deltaApply good bytes)) ∧
  (∀ (tag : Nat) (payload data : List Byte), p21 (.fwdRspReceived tag payload data)) ∧
  (∀ (b : BulkIn), p22 (.joinBulkApply b)) ∧ (∀ (side : Nat) (x : RecoveryRead), p23 (.adoptJournalRead side x)) ∧
  (∀ (side stripe : Nat) (pages : List FlashPage), p24 (.stripeCheck side stripe pages)) ∧ p25 .handbackSeal ∧ p26 .handbackDone
end

