-- ==== Sys2Proof/Laws/Sparse.lean ====
section
/-!
SUPPORT. Laws/Sparse.lean: a read after a write of a keyed list, and the canonical form of it.
-/

namespace Sys2Proof.Machine

theorem Tab.find_erase {α : Type} (m : Tab α) (a b : Nat) :
    Tab.find (Tab.erase m a) b = if b = a then none else Tab.find m b := by
  unfold Tab.erase
  induction m with
  | nil => simp [Tab.find]
  | cons p m ih =>
    obtain ⟨k, v⟩ := p
    by_cases hk : k = a <;> by_cases hb : b = a <;> by_cases hbk : b = k <;>
      simp_all [Tab.find]

theorem Tab.find_insert {α : Type} (m : Tab α) (a b : Nat) (v : α) :
    Tab.find (Tab.insert m a v) b = if b = a then some v else Tab.find m b := by
  induction m with
  | nil => simp [Tab.insert, Tab.find]
  | cons p m ih =>
    obtain ⟨k, w⟩ := p
    unfold Tab.insert
    split
    · simp [Tab.find]
    · split
      · rename_i e; rw [← e]; by_cases hb : b = a <;> simp_all [Tab.find]
      · by_cases hb : b = a <;> by_cases hbk : b = k <;> simp_all [Tab.find]

/-- A table after one present key was changed. -/
theorem Tab.find_modify {α : Type} (m : Tab α) (a b : Nat) (f : α → α) :
    Tab.find (Tab.modify m a f) b = if b = a then (Tab.find m a).map f else Tab.find m b := by
  unfold Tab.modify
  cases h : Tab.find m a with
  | none => by_cases hb : b = a <;> simp [hb, h]
  | some v => simp [Tab.find_insert]

theorem Sparse.get_set {α : Type} [DecidableEq α] (d : Nat → α) (m : Tab α) (a b : Nat) (v : α) :
    Sparse.get d (Sparse.set d m a v) b = if b = a then v else Sparse.get d m b := by
  unfold Sparse.get Sparse.set
  split <;> by_cases hb : b = a <;> simp_all [Tab.find_erase, Tab.find_insert]

/-- Every key of a table is above a bound. -/
def Tab.above {α : Type} (lo : Nat) (m : Tab α) : Prop := ∀ p ∈ m, lo < p.1

theorem Tab.sorted_cons {α : Type} (k : Nat) (v : α) (m : Tab α) :
    Tab.sorted ((k, v) :: m) = true ↔ Tab.above k m ∧ Tab.sorted m = true := by
  induction m generalizing k v with
  | nil => simp [Tab.sorted, Tab.above]
  | cons p m ih =>
    obtain ⟨k', v'⟩ := p
    rw [Tab.sorted]
    simp only [Bool.and_eq_true, decide_eq_true_eq, ih, Tab.above, List.mem_cons]
    constructor
    · rintro ⟨h, h', h''⟩
      refine ⟨?_, h', h''⟩
      rintro p (rfl | hp)
      · exact h
      · exact Nat.lt_trans h (h' p hp)
    · rintro ⟨h, h', h''⟩
      exact ⟨h (k', v') (Or.inl rfl), h', h''⟩

theorem Tab.mem_insert {α : Type} (m : Tab α) (a : Nat) (v : α) (p : Nat × α) (h : p ∈ Tab.insert m a v) :
    p = (a, v) ∨ p ∈ m := by
  induction m with
  | nil => simpa [Tab.insert] using h
  | cons q m ih =>
    obtain ⟨k, w⟩ := q
    unfold Tab.insert at h
    split at h
    · simpa using h
    · split at h
      · simp only [List.mem_cons] at h ⊢; tauto
      · simp only [List.mem_cons] at h ⊢
        rcases h with h | h
        · exact Or.inr (Or.inl h)
        · rcases ih h with h | h
          · exact Or.inl h
          · exact Or.inr (Or.inr h)

theorem Tab.insert_sorted {α : Type} (m : Tab α) (a : Nat) (v : α) (h : Tab.sorted m = true) :
    Tab.sorted (Tab.insert m a v) = true := by
  induction m with
  | nil => simp [Tab.insert, Tab.sorted]
  | cons q m ih =>
    obtain ⟨k, w⟩ := q
    have h0 := (Tab.sorted_cons k w m).mp h
    unfold Tab.insert
    split
    · rename_i hlt
      refine (Tab.sorted_cons _ _ _).mpr ⟨?_, h⟩
      intro p hp
      rcases List.mem_cons.mp hp with rfl | hp
      · exact hlt
      · exact Nat.lt_trans hlt (h0.1 p hp)
    · split
      · rename_i e; rw [← e] at h0; exact (Tab.sorted_cons _ _ _).mpr h0
      · refine (Tab.sorted_cons _ _ _).mpr ⟨?_, ih h0.2⟩
        intro p hp
        rcases Tab.mem_insert _ _ _ _ hp with rfl | hp
        · show k < a; omega
        · exact h0.1 p hp

theorem Tab.filter_sorted {α : Type} (m : Tab α) (q : Nat × α → Bool) (h : Tab.sorted m = true) :
    Tab.sorted (m.filter q) = true := by
  induction m with
  | nil => exact h
  | cons p m ih =>
    obtain ⟨k, w⟩ := p
    have h0 := (Tab.sorted_cons k w m).mp h
    rw [List.filter_cons]
    split
    · refine (Tab.sorted_cons _ _ _).mpr ⟨?_, ih h0.2⟩
      intro p hp
      exact h0.1 p (List.mem_filter.mp hp).1
    · exact ih h0.2

/-- A write keeps the canonical form. -/
theorem Sparse.set_wf {α : Type} [DecidableEq α] (d : Nat → α) (m : Tab α) (a : Nat) (v : α)
    (h : Sparse.wf d m = true) : Sparse.wf d (Sparse.set d m a v) = true := by
  unfold Sparse.wf at h ⊢
  simp only [Bool.and_eq_true, List.all_eq_true, decide_eq_true_eq] at h ⊢
  obtain ⟨hs, hd⟩ := h
  unfold Sparse.set
  split
  · exact ⟨Tab.filter_sorted _ _ hs, fun p hp => hd p (List.mem_filter.mp hp).1⟩
  · refine ⟨Tab.insert_sorted _ _ _ hs, fun p hp => ?_⟩
    rcases Tab.mem_insert _ _ _ _ hp with rfl | hp
    · assumption
    · exact hd p hp

end Sys2Proof.Machine
end

