-- ==== Sys2Proof/Laws/State.lean ====
section
/-!
SUPPORT. Laws/State.lean: which part of the state each shared operation changes: one lemma per part it leaves.
-/

namespace Sys2Proof.Machine

@[simp] theorem State.setReg_pending (s : State) (a : Nat) (w : Word) : (s.setReg a w).pending = s.pending := by dsimp only [State.setReg]
@[simp] theorem State.setReg_tck (s : State) (a : Nat) (w : Word) : (s.setReg a w).tck = s.tck := by dsimp only [State.setReg]
@[simp] theorem State.setReg_lcs (s : State) (a : Nat) (w : Word) : (s.setReg a w).lcs = s.lcs := by dsimp only [State.setReg]
@[simp] theorem State.setReg_sim (s : State) (a : Nat) (w : Word) : (s.setReg a w).sim = s.sim := by dsimp only [State.setReg]
@[simp] theorem State.setReg_apc (s : State) (a : Nat) (w : Word) : (s.setReg a w).apc = s.apc := by dsimp only [State.setReg]
@[simp] theorem State.setReg_memc (s : State) (a : Nat) (w : Word) : (s.setReg a w).memc = s.memc := by dsimp only [State.setReg]
@[simp] theorem State.setReg_bay (s : State) (a : Nat) (w : Word) : (s.setReg a w).bay = s.bay := by dsimp only [State.setReg]
@[simp] theorem State.setReg_rcf (s : State) (a : Nat) (w : Word) : (s.setReg a w).rcf = s.rcf := by dsimp only [State.setReg]
@[simp] theorem State.setReg_evr (s : State) (a : Nat) (w : Word) : (s.setReg a w).evr = s.evr := by dsimp only [State.setReg]
@[simp] theorem State.setReg_flt (s : State) (a : Nat) (w : Word) : (s.setReg a w).flt = s.flt := by dsimp only [State.setReg]
@[simp] theorem State.setReg_rdx (s : State) (a : Nat) (w : Word) : (s.setReg a w).rdx = s.rdx := by dsimp only [State.setReg]
@[simp] theorem State.setReg_cmp (s : State) (a : Nat) (w : Word) : (s.setReg a w).cmp = s.cmp := by dsimp only [State.setReg]
@[simp] theorem State.setReg_cip (s : State) (a : Nat) (w : Word) : (s.setReg a w).cip = s.cip := by dsimp only [State.setReg]
@[simp] theorem State.setReg_dgs (s : State) (a : Nat) (w : Word) : (s.setReg a w).dgs = s.dgs := by dsimp only [State.setReg]
@[simp] theorem State.setReg_lanes (s : State) (a : Nat) (w : Word) : (s.setReg a w).lanes = s.lanes := by dsimp only [State.setReg]
@[simp] theorem State.setReg_ftl (s : State) (a : Nat) (w : Word) : (s.setReg a w).ftl = s.ftl := by dsimp only [State.setReg]
@[simp] theorem State.setReg_rdn (s : State) (a : Nat) (w : Word) : (s.setReg a w).rdn = s.rdn := by dsimp only [State.setReg]
@[simp] theorem State.setReg_frn (s : State) (a : Nat) (w : Word) : (s.setReg a w).frn = s.frn := by dsimp only [State.setReg]
@[simp] theorem State.setReg_pcr (s : State) (a : Nat) (w : Word) : (s.setReg a w).pcr = s.pcr := by dsimp only [State.setReg]
@[simp] theorem State.setReg_cmf (s : State) (a : Nat) (w : Word) : (s.setReg a w).cmf = s.cmf := by dsimp only [State.setReg]
@[simp] theorem State.setReg_vct (s : State) (a : Nat) (w : Word) : (s.setReg a w).vct = s.vct := by dsimp only [State.setReg]
@[simp] theorem State.setReg_qpc (s : State) (a : Nat) (w : Word) : (s.setReg a w).qpc = s.qpc := by dsimp only [State.setReg]
@[simp] theorem State.setReg_hpt (s : State) (a : Nat) (w : Word) : (s.setReg a w).hpt = s.hpt := by dsimp only [State.setReg]
@[simp] theorem State.setReg_rfl (s : State) (a : Nat) (w : Word) : (s.setReg a w).rfl = s.rfl := by dsimp only [State.setReg]
@[simp] theorem State.setReg_wit (s : State) (a : Nat) (w : Word) : (s.setReg a w).wit = s.wit := by dsimp only [State.setReg]
@[simp] theorem State.setReg_other (s : State) (a : Nat) (w : Word) : (s.setReg a w).other = s.other := by dsimp only [State.setReg]
@[simp] theorem State.setReg_mem (s : State) (a : Nat) (w : Word) : (s.setReg a w).mem = s.mem := by dsimp only [State.setReg]
@[simp] theorem State.setReg_shadow (s : State) (a : Nat) (w : Word) : (s.setReg a w).shadow = s.shadow := by dsimp only [State.setReg]
@[simp] theorem State.setReg_busData (s : State) (a : Nat) (w : Word) : (s.setReg a w).busData = s.busData := by dsimp only [State.setReg]
@[simp] theorem State.setReg_out (s : State) (a : Nat) (w : Word) : (s.setReg a w).out = s.out := by dsimp only [State.setReg]
@[simp] theorem State.setReg_fresh (s : State) (a : Nat) (w : Word) : (s.setReg a w).fresh = s.fresh := by dsimp only [State.setReg]

@[simp] theorem State.put_pending (s : State) (f : Fld) (v : Nat) : (s.put f v).pending = s.pending := by simp only [State.put, State.setReg_pending]
@[simp] theorem State.put_tck (s : State) (f : Fld) (v : Nat) : (s.put f v).tck = s.tck := by simp only [State.put, State.setReg_tck]
@[simp] theorem State.put_lcs (s : State) (f : Fld) (v : Nat) : (s.put f v).lcs = s.lcs := by simp only [State.put, State.setReg_lcs]
@[simp] theorem State.put_sim (s : State) (f : Fld) (v : Nat) : (s.put f v).sim = s.sim := by simp only [State.put, State.setReg_sim]
@[simp] theorem State.put_apc (s : State) (f : Fld) (v : Nat) : (s.put f v).apc = s.apc := by simp only [State.put, State.setReg_apc]
@[simp] theorem State.put_memc (s : State) (f : Fld) (v : Nat) : (s.put f v).memc = s.memc := by simp only [State.put, State.setReg_memc]
@[simp] theorem State.put_bay (s : State) (f : Fld) (v : Nat) : (s.put f v).bay = s.bay := by simp only [State.put, State.setReg_bay]
@[simp] theorem State.put_rcf (s : State) (f : Fld) (v : Nat) : (s.put f v).rcf = s.rcf := by simp only [State.put, State.setReg_rcf]
@[simp] theorem State.put_evr (s : State) (f : Fld) (v : Nat) : (s.put f v).evr = s.evr := by simp only [State.put, State.setReg_evr]
@[simp] theorem State.put_flt (s : State) (f : Fld) (v : Nat) : (s.put f v).flt = s.flt := by simp only [State.put, State.setReg_flt]
@[simp] theorem State.put_rdx (s : State) (f : Fld) (v : Nat) : (s.put f v).rdx = s.rdx := by simp only [State.put, State.setReg_rdx]
@[simp] theorem State.put_cmp (s : State) (f : Fld) (v : Nat) : (s.put f v).cmp = s.cmp := by simp only [State.put, State.setReg_cmp]
@[simp] theorem State.put_cip (s : State) (f : Fld) (v : Nat) : (s.put f v).cip = s.cip := by simp only [State.put, State.setReg_cip]
@[simp] theorem State.put_dgs (s : State) (f : Fld) (v : Nat) : (s.put f v).dgs = s.dgs := by simp only [State.put, State.setReg_dgs]
@[simp] theorem State.put_lanes (s : State) (f : Fld) (v : Nat) : (s.put f v).lanes = s.lanes := by simp only [State.put, State.setReg_lanes]
@[simp] theorem State.put_ftl (s : State) (f : Fld) (v : Nat) : (s.put f v).ftl = s.ftl := by simp only [State.put, State.setReg_ftl]
@[simp] theorem State.put_rdn (s : State) (f : Fld) (v : Nat) : (s.put f v).rdn = s.rdn := by simp only [State.put, State.setReg_rdn]
@[simp] theorem State.put_frn (s : State) (f : Fld) (v : Nat) : (s.put f v).frn = s.frn := by simp only [State.put, State.setReg_frn]
@[simp] theorem State.put_pcr (s : State) (f : Fld) (v : Nat) : (s.put f v).pcr = s.pcr := by simp only [State.put, State.setReg_pcr]
@[simp] theorem State.put_cmf (s : State) (f : Fld) (v : Nat) : (s.put f v).cmf = s.cmf := by simp only [State.put, State.setReg_cmf]
@[simp] theorem State.put_vct (s : State) (f : Fld) (v : Nat) : (s.put f v).vct = s.vct := by simp only [State.put, State.setReg_vct]
@[simp] theorem State.put_qpc (s : State) (f : Fld) (v : Nat) : (s.put f v).qpc = s.qpc := by simp only [State.put, State.setReg_qpc]
@[simp] theorem State.put_hpt (s : State) (f : Fld) (v : Nat) : (s.put f v).hpt = s.hpt := by simp only [State.put, State.setReg_hpt]
@[simp] theorem State.put_rfl (s : State) (f : Fld) (v : Nat) : (s.put f v).rfl = s.rfl := by simp only [State.put, State.setReg_rfl]
@[simp] theorem State.put_wit (s : State) (f : Fld) (v : Nat) : (s.put f v).wit = s.wit := by simp only [State.put, State.setReg_wit]
@[simp] theorem State.put_other (s : State) (f : Fld) (v : Nat) : (s.put f v).other = s.other := by simp only [State.put, State.setReg_other]
@[simp] theorem State.put_mem (s : State) (f : Fld) (v : Nat) : (s.put f v).mem = s.mem := by simp only [State.put, State.setReg_mem]
@[simp] theorem State.put_shadow (s : State) (f : Fld) (v : Nat) : (s.put f v).shadow = s.shadow := by simp only [State.put, State.setReg_shadow]
@[simp] theorem State.put_busData (s : State) (f : Fld) (v : Nat) : (s.put f v).busData = s.busData := by simp only [State.put, State.setReg_busData]
@[simp] theorem State.put_out (s : State) (f : Fld) (v : Nat) : (s.put f v).out = s.out := by simp only [State.put, State.setReg_out]
@[simp] theorem State.put_fresh (s : State) (f : Fld) (v : Nat) : (s.put f v).fresh = s.fresh := by simp only [State.put, State.setReg_fresh]

@[simp] theorem State.putFlag_pending (s : State) (f : Fld) (b : Bool) : (s.putFlag f b).pending = s.pending := by simp only [State.putFlag, State.put_pending]
@[simp] theorem State.putFlag_tck (s : State) (f : Fld) (b : Bool) : (s.putFlag f b).tck = s.tck := by simp only [State.putFlag, State.put_tck]
@[simp] theorem State.putFlag_lcs (s : State) (f : Fld) (b : Bool) : (s.putFlag f b).lcs = s.lcs := by simp only [State.putFlag, State.put_lcs]
@[simp] theorem State.putFlag_sim (s : State) (f : Fld) (b : Bool) : (s.putFlag f b).sim = s.sim := by simp only [State.putFlag, State.put_sim]
@[simp] theorem State.putFlag_apc (s : State) (f : Fld) (b : Bool) : (s.putFlag f b).apc = s.apc := by simp only [State.putFlag, State.put_apc]
@[simp] theorem State.putFlag_memc (s : State) (f : Fld) (b : Bool) : (s.putFlag f b).memc = s.memc := by simp only [State.putFlag, State.put_memc]
@[simp] theorem State.putFlag_bay (s : State) (f : Fld) (b : Bool) : (s.putFlag f b).bay = s.bay := by simp only [State.putFlag, State.put_bay]
@[simp] theorem State.putFlag_rcf (s : State) (f : Fld) (b : Bool) : (s.putFlag f b).rcf = s.rcf := by simp only [State.putFlag, State.put_rcf]
@[simp] theorem State.putFlag_evr (s : State) (f : Fld) (b : Bool) : (s.putFlag f b).evr = s.evr := by simp only [State.putFlag, State.put_evr]
@[simp] theorem State.putFlag_flt (s : State) (f : Fld) (b : Bool) : (s.putFlag f b).flt = s.flt := by simp only [State.putFlag, State.put_flt]
@[simp] theorem State.putFlag_rdx (s : State) (f : Fld) (b : Bool) : (s.putFlag f b).rdx = s.rdx := by simp only [State.putFlag, State.put_rdx]
@[simp] theorem State.putFlag_cmp (s : State) (f : Fld) (b : Bool) : (s.putFlag f b).cmp = s.cmp := by simp only [State.putFlag, State.put_cmp]
@[simp] theorem State.putFlag_cip (s : State) (f : Fld) (b : Bool) : (s.putFlag f b).cip = s.cip := by simp only [State.putFlag, State.put_cip]
@[simp] theorem State.putFlag_dgs (s : State) (f : Fld) (b : Bool) : (s.putFlag f b).dgs = s.dgs := by simp only [State.putFlag, State.put_dgs]
@[simp] theorem State.putFlag_lanes (s : State) (f : Fld) (b : Bool) : (s.putFlag f b).lanes = s.lanes := by simp only [State.putFlag, State.put_lanes]
@[simp] theorem State.putFlag_ftl (s : State) (f : Fld) (b : Bool) : (s.putFlag f b).ftl = s.ftl := by simp only [State.putFlag, State.put_ftl]
@[simp] theorem State.putFlag_rdn (s : State) (f : Fld) (b : Bool) : (s.putFlag f b).rdn = s.rdn := by simp only [State.putFlag, State.put_rdn]
@[simp] theorem State.putFlag_frn (s : State) (f : Fld) (b : Bool) : (s.putFlag f b).frn = s.frn := by simp only [State.putFlag, State.put_frn]
@[simp] theorem State.putFlag_pcr (s : State) (f : Fld) (b : Bool) : (s.putFlag f b).pcr = s.pcr := by simp only [State.putFlag, State.put_pcr]
@[simp] theorem State.putFlag_cmf (s : State) (f : Fld) (b : Bool) : (s.putFlag f b).cmf = s.cmf := by simp only [State.putFlag, State.put_cmf]
@[simp] theorem State.putFlag_vct (s : State) (f : Fld) (b : Bool) : (s.putFlag f b).vct = s.vct := by simp only [State.putFlag, State.put_vct]
@[simp] theorem State.putFlag_qpc (s : State) (f : Fld) (b : Bool) : (s.putFlag f b).qpc = s.qpc := by simp only [State.putFlag, State.put_qpc]
@[simp] theorem State.putFlag_hpt (s : State) (f : Fld) (b : Bool) : (s.putFlag f b).hpt = s.hpt := by simp only [State.putFlag, State.put_hpt]
@[simp] theorem State.putFlag_rfl (s : State) (f : Fld) (b : Bool) : (s.putFlag f b).rfl = s.rfl := by simp only [State.putFlag, State.put_rfl]
@[simp] theorem State.putFlag_wit (s : State) (f : Fld) (b : Bool) : (s.putFlag f b).wit = s.wit := by simp only [State.putFlag, State.put_wit]
@[simp] theorem State.putFlag_other (s : State) (f : Fld) (b : Bool) : (s.putFlag f b).other = s.other := by simp only [State.putFlag, State.put_other]
@[simp] theorem State.putFlag_mem (s : State) (f : Fld) (b : Bool) : (s.putFlag f b).mem = s.mem := by simp only [State.putFlag, State.put_mem]
@[simp] theorem State.putFlag_shadow (s : State) (f : Fld) (b : Bool) : (s.putFlag f b).shadow = s.shadow := by simp only [State.putFlag, State.put_shadow]
@[simp] theorem State.putFlag_busData (s : State) (f : Fld) (b : Bool) : (s.putFlag f b).busData = s.busData := by simp only [State.putFlag, State.put_busData]
@[simp] theorem State.putFlag_out (s : State) (f : Fld) (b : Bool) : (s.putFlag f b).out = s.out := by simp only [State.putFlag, State.put_out]
@[simp] theorem State.putFlag_fresh (s : State) (f : Fld) (b : Bool) : (s.putFlag f b).fresh = s.fresh := by simp only [State.putFlag, State.put_fresh]

@[simp] theorem State.count_pending (s : State) (f : Fld) (n k : Nat) : (s.count f n k).pending = s.pending := by simp only [State.count, State.put_pending]
@[simp] theorem State.count_tck (s : State) (f : Fld) (n k : Nat) : (s.count f n k).tck = s.tck := by simp only [State.count, State.put_tck]
@[simp] theorem State.count_lcs (s : State) (f : Fld) (n k : Nat) : (s.count f n k).lcs = s.lcs := by simp only [State.count, State.put_lcs]
@[simp] theorem State.count_sim (s : State) (f : Fld) (n k : Nat) : (s.count f n k).sim = s.sim := by simp only [State.count, State.put_sim]
@[simp] theorem State.count_apc (s : State) (f : Fld) (n k : Nat) : (s.count f n k).apc = s.apc := by simp only [State.count, State.put_apc]
@[simp] theorem State.count_memc (s : State) (f : Fld) (n k : Nat) : (s.count f n k).memc = s.memc := by simp only [State.count, State.put_memc]
@[simp] theorem State.count_bay (s : State) (f : Fld) (n k : Nat) : (s.count f n k).bay = s.bay := by simp only [State.count, State.put_bay]
@[simp] theorem State.count_rcf (s : State) (f : Fld) (n k : Nat) : (s.count f n k).rcf = s.rcf := by simp only [State.count, State.put_rcf]
@[simp] theorem State.count_evr (s : State) (f : Fld) (n k : Nat) : (s.count f n k).evr = s.evr := by simp only [State.count, State.put_evr]
@[simp] theorem State.count_flt (s : State) (f : Fld) (n k : Nat) : (s.count f n k).flt = s.flt := by simp only [State.count, State.put_flt]
@[simp] theorem State.count_rdx (s : State) (f : Fld) (n k : Nat) : (s.count f n k).rdx = s.rdx := by simp only [State.count, State.put_rdx]
@[simp] theorem State.count_cmp (s : State) (f : Fld) (n k : Nat) : (s.count f n k).cmp = s.cmp := by simp only [State.count, State.put_cmp]
@[simp] theorem State.count_cip (s : State) (f : Fld) (n k : Nat) : (s.count f n k).cip = s.cip := by simp only [State.count, State.put_cip]
@[simp] theorem State.count_dgs (s : State) (f : Fld) (n k : Nat) : (s.count f n k).dgs = s.dgs := by simp only [State.count, State.put_dgs]
@[simp] theorem State.count_lanes (s : State) (f : Fld) (n k : Nat) : (s.count f n k).lanes = s.lanes := by simp only [State.count, State.put_lanes]
@[simp] theorem State.count_ftl (s : State) (f : Fld) (n k : Nat) : (s.count f n k).ftl = s.ftl := by simp only [State.count, State.put_ftl]
@[simp] theorem State.count_rdn (s : State) (f : Fld) (n k : Nat) : (s.count f n k).rdn = s.rdn := by simp only [State.count, State.put_rdn]
@[simp] theorem State.count_frn (s : State) (f : Fld) (n k : Nat) : (s.count f n k).frn = s.frn := by simp only [State.count, State.put_frn]
@[simp] theorem State.count_pcr (s : State) (f : Fld) (n k : Nat) : (s.count f n k).pcr = s.pcr := by simp only [State.count, State.put_pcr]
@[simp] theorem State.count_cmf (s : State) (f : Fld) (n k : Nat) : (s.count f n k).cmf = s.cmf := by simp only [State.count, State.put_cmf]
@[simp] theorem State.count_vct (s : State) (f : Fld) (n k : Nat) : (s.count f n k).vct = s.vct := by simp only [State.count, State.put_vct]
@[simp] theorem State.count_qpc (s : State) (f : Fld) (n k : Nat) : (s.count f n k).qpc = s.qpc := by simp only [State.count, State.put_qpc]
@[simp] theorem State.count_hpt (s : State) (f : Fld) (n k : Nat) : (s.count f n k).hpt = s.hpt := by simp only [State.count, State.put_hpt]
@[simp] theorem State.count_rfl (s : State) (f : Fld) (n k : Nat) : (s.count f n k).rfl = s.rfl := by simp only [State.count, State.put_rfl]
@[simp] theorem State.count_wit (s : State) (f : Fld) (n k : Nat) : (s.count f n k).wit = s.wit := by simp only [State.count, State.put_wit]
@[simp] theorem State.count_other (s : State) (f : Fld) (n k : Nat) : (s.count f n k).other = s.other := by simp only [State.count, State.put_other]
@[simp] theorem State.count_mem (s : State) (f : Fld) (n k : Nat) : (s.count f n k).mem = s.mem := by simp only [State.count, State.put_mem]
@[simp] theorem State.count_shadow (s : State) (f : Fld) (n k : Nat) : (s.count f n k).shadow = s.shadow := by simp only [State.count, State.put_shadow]
@[simp] theorem State.count_busData (s : State) (f : Fld) (n k : Nat) : (s.count f n k).busData = s.busData := by simp only [State.count, State.put_busData]
@[simp] theorem State.count_out (s : State) (f : Fld) (n k : Nat) : (s.count f n k).out = s.out := by simp only [State.count, State.put_out]
@[simp] theorem State.count_fresh (s : State) (f : Fld) (n k : Nat) : (s.count f n k).fresh = s.fresh := by simp only [State.count, State.put_fresh]

@[simp] theorem State.saturate_pending (s : State) (f : Fld) (k : Nat) : (s.saturate f k).pending = s.pending := by simp only [State.saturate, State.put_pending]
@[simp] theorem State.saturate_tck (s : State) (f : Fld) (k : Nat) : (s.saturate f k).tck = s.tck := by simp only [State.saturate, State.put_tck]
@[simp] theorem State.saturate_lcs (s : State) (f : Fld) (k : Nat) : (s.saturate f k).lcs = s.lcs := by simp only [State.saturate, State.put_lcs]
@[simp] theorem State.saturate_sim (s : State) (f : Fld) (k : Nat) : (s.saturate f k).sim = s.sim := by simp only [State.saturate, State.put_sim]
@[simp] theorem State.saturate_apc (s : State) (f : Fld) (k : Nat) : (s.saturate f k).apc = s.apc := by simp only [State.saturate, State.put_apc]
@[simp] theorem State.saturate_memc (s : State) (f : Fld) (k : Nat) : (s.saturate f k).memc = s.memc := by simp only [State.saturate, State.put_memc]
@[simp] theorem State.saturate_bay (s : State) (f : Fld) (k : Nat) : (s.saturate f k).bay = s.bay := by simp only [State.saturate, State.put_bay]
@[simp] theorem State.saturate_rcf (s : State) (f : Fld) (k : Nat) : (s.saturate f k).rcf = s.rcf := by simp only [State.saturate, State.put_rcf]
@[simp] theorem State.saturate_evr (s : State) (f : Fld) (k : Nat) : (s.saturate f k).evr = s.evr := by simp only [State.saturate, State.put_evr]
@[simp] theorem State.saturate_flt (s : State) (f : Fld) (k : Nat) : (s.saturate f k).flt = s.flt := by simp only [State.saturate, State.put_flt]
@[simp] theorem State.saturate_rdx (s : State) (f : Fld) (k : Nat) : (s.saturate f k).rdx = s.rdx := by simp only [State.saturate, State.put_rdx]
@[simp] theorem State.saturate_cmp (s : State) (f : Fld) (k : Nat) : (s.saturate f k).cmp = s.cmp := by simp only [State.saturate, State.put_cmp]
@[simp] theorem State.saturate_cip (s : State) (f : Fld) (k : Nat) : (s.saturate f k).cip = s.cip := by simp only [State.saturate, State.put_cip]
@[simp] theorem State.saturate_dgs (s : State) (f : Fld) (k : Nat) : (s.saturate f k).dgs = s.dgs := by simp only [State.saturate, State.put_dgs]
@[simp] theorem State.saturate_lanes (s : State) (f : Fld) (k : Nat) : (s.saturate f k).lanes = s.lanes := by simp only [State.saturate, State.put_lanes]
@[simp] theorem State.saturate_ftl (s : State) (f : Fld) (k : Nat) : (s.saturate f k).ftl = s.ftl := by simp only [State.saturate, State.put_ftl]
@[simp] theorem State.saturate_rdn (s : State) (f : Fld) (k : Nat) : (s.saturate f k).rdn = s.rdn := by simp only [State.saturate, State.put_rdn]
@[simp] theorem State.saturate_frn (s : State) (f : Fld) (k : Nat) : (s.saturate f k).frn = s.frn := by simp only [State.saturate, State.put_frn]
@[simp] theorem State.saturate_pcr (s : State) (f : Fld) (k : Nat) : (s.saturate f k).pcr = s.pcr := by simp only [State.saturate, State.put_pcr]
@[simp] theorem State.saturate_cmf (s : State) (f : Fld) (k : Nat) : (s.saturate f k).cmf = s.cmf := by simp only [State.saturate, State.put_cmf]
@[simp] theorem State.saturate_vct (s : State) (f : Fld) (k : Nat) : (s.saturate f k).vct = s.vct := by simp only [State.saturate, State.put_vct]
@[simp] theorem State.saturate_qpc (s : State) (f : Fld) (k : Nat) : (s.saturate f k).qpc = s.qpc := by simp only [State.saturate, State.put_qpc]
@[simp] theorem State.saturate_hpt (s : State) (f : Fld) (k : Nat) : (s.saturate f k).hpt = s.hpt := by simp only [State.saturate, State.put_hpt]
@[simp] theorem State.saturate_rfl (s : State) (f : Fld) (k : Nat) : (s.saturate f k).rfl = s.rfl := by simp only [State.saturate, State.put_rfl]
@[simp] theorem State.saturate_wit (s : State) (f : Fld) (k : Nat) : (s.saturate f k).wit = s.wit := by simp only [State.saturate, State.put_wit]
@[simp] theorem State.saturate_other (s : State) (f : Fld) (k : Nat) : (s.saturate f k).other = s.other := by simp only [State.saturate, State.put_other]
@[simp] theorem State.saturate_mem (s : State) (f : Fld) (k : Nat) : (s.saturate f k).mem = s.mem := by simp only [State.saturate, State.put_mem]
@[simp] theorem State.saturate_shadow (s : State) (f : Fld) (k : Nat) : (s.saturate f k).shadow = s.shadow := by simp only [State.saturate, State.put_shadow]
@[simp] theorem State.saturate_busData (s : State) (f : Fld) (k : Nat) : (s.saturate f k).busData = s.busData := by simp only [State.saturate, State.put_busData]
@[simp] theorem State.saturate_out (s : State) (f : Fld) (k : Nat) : (s.saturate f k).out = s.out := by simp only [State.saturate, State.put_out]
@[simp] theorem State.saturate_fresh (s : State) (f : Fld) (k : Nat) : (s.saturate f k).fresh = s.fresh := by simp only [State.saturate, State.put_fresh]

@[simp] theorem State.irqEdge_pending (s : State) (n : Nat) : (s.irqEdge n).pending = s.pending := by simp only [State.irqEdge, State.put_pending]
@[simp] theorem State.irqEdge_tck (s : State) (n : Nat) : (s.irqEdge n).tck = s.tck := by simp only [State.irqEdge, State.put_tck]
@[simp] theorem State.irqEdge_lcs (s : State) (n : Nat) : (s.irqEdge n).lcs = s.lcs := by simp only [State.irqEdge, State.put_lcs]
@[simp] theorem State.irqEdge_sim (s : State) (n : Nat) : (s.irqEdge n).sim = s.sim := by simp only [State.irqEdge, State.put_sim]
@[simp] theorem State.irqEdge_apc (s : State) (n : Nat) : (s.irqEdge n).apc = s.apc := by simp only [State.irqEdge, State.put_apc]
@[simp] theorem State.irqEdge_memc (s : State) (n : Nat) : (s.irqEdge n).memc = s.memc := by simp only [State.irqEdge, State.put_memc]
@[simp] theorem State.irqEdge_bay (s : State) (n : Nat) : (s.irqEdge n).bay = s.bay := by simp only [State.irqEdge, State.put_bay]
@[simp] theorem State.irqEdge_rcf (s : State) (n : Nat) : (s.irqEdge n).rcf = s.rcf := by simp only [State.irqEdge, State.put_rcf]
@[simp] theorem State.irqEdge_evr (s : State) (n : Nat) : (s.irqEdge n).evr = s.evr := by simp only [State.irqEdge, State.put_evr]
@[simp] theorem State.irqEdge_flt (s : State) (n : Nat) : (s.irqEdge n).flt = s.flt := by simp only [State.irqEdge, State.put_flt]
@[simp] theorem State.irqEdge_rdx (s : State) (n : Nat) : (s.irqEdge n).rdx = s.rdx := by simp only [State.irqEdge, State.put_rdx]
@[simp] theorem State.irqEdge_cmp (s : State) (n : Nat) : (s.irqEdge n).cmp = s.cmp := by simp only [State.irqEdge, State.put_cmp]
@[simp] theorem State.irqEdge_cip (s : State) (n : Nat) : (s.irqEdge n).cip = s.cip := by simp only [State.irqEdge, State.put_cip]
@[simp] theorem State.irqEdge_dgs (s : State) (n : Nat) : (s.irqEdge n).dgs = s.dgs := by simp only [State.irqEdge, State.put_dgs]
@[simp] theorem State.irqEdge_lanes (s : State) (n : Nat) : (s.irqEdge n).lanes = s.lanes := by simp only [State.irqEdge, State.put_lanes]
@[simp] theorem State.irqEdge_ftl (s : State) (n : Nat) : (s.irqEdge n).ftl = s.ftl := by simp only [State.irqEdge, State.put_ftl]
@[simp] theorem State.irqEdge_rdn (s : State) (n : Nat) : (s.irqEdge n).rdn = s.rdn := by simp only [State.irqEdge, State.put_rdn]
@[simp] theorem State.irqEdge_frn (s : State) (n : Nat) : (s.irqEdge n).frn = s.frn := by simp only [State.irqEdge, State.put_frn]
@[simp] theorem State.irqEdge_pcr (s : State) (n : Nat) : (s.irqEdge n).pcr = s.pcr := by simp only [State.irqEdge, State.put_pcr]
@[simp] theorem State.irqEdge_cmf (s : State) (n : Nat) : (s.irqEdge n).cmf = s.cmf := by simp only [State.irqEdge, State.put_cmf]
@[simp] theorem State.irqEdge_vct (s : State) (n : Nat) : (s.irqEdge n).vct = s.vct := by simp only [State.irqEdge, State.put_vct]
@[simp] theorem State.irqEdge_qpc (s : State) (n : Nat) : (s.irqEdge n).qpc = s.qpc := by simp only [State.irqEdge, State.put_qpc]
@[simp] theorem State.irqEdge_hpt (s : State) (n : Nat) : (s.irqEdge n).hpt = s.hpt := by simp only [State.irqEdge, State.put_hpt]
@[simp] theorem State.irqEdge_rfl (s : State) (n : Nat) : (s.irqEdge n).rfl = s.rfl := by simp only [State.irqEdge, State.put_rfl]
@[simp] theorem State.irqEdge_wit (s : State) (n : Nat) : (s.irqEdge n).wit = s.wit := by simp only [State.irqEdge, State.put_wit]
@[simp] theorem State.irqEdge_other (s : State) (n : Nat) : (s.irqEdge n).other = s.other := by simp only [State.irqEdge, State.put_other]
@[simp] theorem State.irqEdge_mem (s : State) (n : Nat) : (s.irqEdge n).mem = s.mem := by simp only [State.irqEdge, State.put_mem]
@[simp] theorem State.irqEdge_shadow (s : State) (n : Nat) : (s.irqEdge n).shadow = s.shadow := by simp only [State.irqEdge, State.put_shadow]
@[simp] theorem State.irqEdge_busData (s : State) (n : Nat) : (s.irqEdge n).busData = s.busData := by simp only [State.irqEdge, State.put_busData]
@[simp] theorem State.irqEdge_out (s : State) (n : Nat) : (s.irqEdge n).out = s.out := by simp only [State.irqEdge, State.put_out]
@[simp] theorem State.irqEdge_fresh (s : State) (n : Nat) : (s.irqEdge n).fresh = s.fresh := by simp only [State.irqEdge, State.put_fresh]

@[simp] theorem State.setEventBit_pending (s : State) (n b : Nat) : (s.setEventBit n b).pending = s.pending := by simp only [State.setEventBit, State.setReg_pending]
@[simp] theorem State.setEventBit_tck (s : State) (n b : Nat) : (s.setEventBit n b).tck = s.tck := by simp only [State.setEventBit, State.setReg_tck]
@[simp] theorem State.setEventBit_lcs (s : State) (n b : Nat) : (s.setEventBit n b).lcs = s.lcs := by simp only [State.setEventBit, State.setReg_lcs]
@[simp] theorem State.setEventBit_sim (s : State) (n b : Nat) : (s.setEventBit n b).sim = s.sim := by simp only [State.setEventBit, State.setReg_sim]
@[simp] theorem State.setEventBit_apc (s : State) (n b : Nat) : (s.setEventBit n b).apc = s.apc := by simp only [State.setEventBit, State.setReg_apc]
@[simp] theorem State.setEventBit_memc (s : State) (n b : Nat) : (s.setEventBit n b).memc = s.memc := by simp only [State.setEventBit, State.setReg_memc]
@[simp] theorem State.setEventBit_bay (s : State) (n b : Nat) : (s.setEventBit n b).bay = s.bay := by simp only [State.setEventBit, State.setReg_bay]
@[simp] theorem State.setEventBit_rcf (s : State) (n b : Nat) : (s.setEventBit n b).rcf = s.rcf := by simp only [State.setEventBit, State.setReg_rcf]
@[simp] theorem State.setEventBit_evr (s : State) (n b : Nat) : (s.setEventBit n b).evr = s.evr := by simp only [State.setEventBit, State.setReg_evr]
@[simp] theorem State.setEventBit_flt (s : State) (n b : Nat) : (s.setEventBit n b).flt = s.flt := by simp only [State.setEventBit, State.setReg_flt]
@[simp] theorem State.setEventBit_rdx (s : State) (n b : Nat) : (s.setEventBit n b).rdx = s.rdx := by simp only [State.setEventBit, State.setReg_rdx]
@[simp] theorem State.setEventBit_cmp (s : State) (n b : Nat) : (s.setEventBit n b).cmp = s.cmp := by simp only [State.setEventBit, State.setReg_cmp]
@[simp] theorem State.setEventBit_cip (s : State) (n b : Nat) : (s.setEventBit n b).cip = s.cip := by simp only [State.setEventBit, State.setReg_cip]
@[simp] theorem State.setEventBit_dgs (s : State) (n b : Nat) : (s.setEventBit n b).dgs = s.dgs := by simp only [State.setEventBit, State.setReg_dgs]
@[simp] theorem State.setEventBit_lanes (s : State) (n b : Nat) : (s.setEventBit n b).lanes = s.lanes := by simp only [State.setEventBit, State.setReg_lanes]
@[simp] theorem State.setEventBit_ftl (s : State) (n b : Nat) : (s.setEventBit n b).ftl = s.ftl := by simp only [State.setEventBit, State.setReg_ftl]
@[simp] theorem State.setEventBit_rdn (s : State) (n b : Nat) : (s.setEventBit n b).rdn = s.rdn := by simp only [State.setEventBit, State.setReg_rdn]
@[simp] theorem State.setEventBit_frn (s : State) (n b : Nat) : (s.setEventBit n b).frn = s.frn := by simp only [State.setEventBit, State.setReg_frn]
@[simp] theorem State.setEventBit_pcr (s : State) (n b : Nat) : (s.setEventBit n b).pcr = s.pcr := by simp only [State.setEventBit, State.setReg_pcr]
@[simp] theorem State.setEventBit_cmf (s : State) (n b : Nat) : (s.setEventBit n b).cmf = s.cmf := by simp only [State.setEventBit, State.setReg_cmf]
@[simp] theorem State.setEventBit_vct (s : State) (n b : Nat) : (s.setEventBit n b).vct = s.vct := by simp only [State.setEventBit, State.setReg_vct]
@[simp] theorem State.setEventBit_qpc (s : State) (n b : Nat) : (s.setEventBit n b).qpc = s.qpc := by simp only [State.setEventBit, State.setReg_qpc]
@[simp] theorem State.setEventBit_hpt (s : State) (n b : Nat) : (s.setEventBit n b).hpt = s.hpt := by simp only [State.setEventBit, State.setReg_hpt]
@[simp] theorem State.setEventBit_rfl (s : State) (n b : Nat) : (s.setEventBit n b).rfl = s.rfl := by simp only [State.setEventBit, State.setReg_rfl]
@[simp] theorem State.setEventBit_wit (s : State) (n b : Nat) : (s.setEventBit n b).wit = s.wit := by simp only [State.setEventBit, State.setReg_wit]
@[simp] theorem State.setEventBit_other (s : State) (n b : Nat) : (s.setEventBit n b).other = s.other := by simp only [State.setEventBit, State.setReg_other]
@[simp] theorem State.setEventBit_mem (s : State) (n b : Nat) : (s.setEventBit n b).mem = s.mem := by simp only [State.setEventBit, State.setReg_mem]
@[simp] theorem State.setEventBit_shadow (s : State) (n b : Nat) : (s.setEventBit n b).shadow = s.shadow := by simp only [State.setEventBit, State.setReg_shadow]
@[simp] theorem State.setEventBit_busData (s : State) (n b : Nat) : (s.setEventBit n b).busData = s.busData := by simp only [State.setEventBit, State.setReg_busData]
@[simp] theorem State.setEventBit_out (s : State) (n b : Nat) : (s.setEventBit n b).out = s.out := by simp only [State.setEventBit, State.setReg_out]
@[simp] theorem State.setEventBit_fresh (s : State) (n b : Nat) : (s.setEventBit n b).fresh = s.fresh := by simp only [State.setEventBit, State.setReg_fresh]

@[simp] theorem State.setByte_pending (s : State) (a : Nat) (b : Byte) : (s.setByte a b).pending = s.pending := by dsimp only [State.setByte]
@[simp] theorem State.setByte_tck (s : State) (a : Nat) (b : Byte) : (s.setByte a b).tck = s.tck := by dsimp only [State.setByte]
@[simp] theorem State.setByte_lcs (s : State) (a : Nat) (b : Byte) : (s.setByte a b).lcs = s.lcs := by dsimp only [State.setByte]
@[simp] theorem State.setByte_sim (s : State) (a : Nat) (b : Byte) : (s.setByte a b).sim = s.sim := by dsimp only [State.setByte]
@[simp] theorem State.setByte_apc (s : State) (a : Nat) (b : Byte) : (s.setByte a b).apc = s.apc := by dsimp only [State.setByte]
@[simp] theorem State.setByte_memc (s : State) (a : Nat) (b : Byte) : (s.setByte a b).memc = s.memc := by dsimp only [State.setByte]
@[simp] theorem State.setByte_bay (s : State) (a : Nat) (b : Byte) : (s.setByte a b).bay = s.bay := by dsimp only [State.setByte]
@[simp] theorem State.setByte_rcf (s : State) (a : Nat) (b : Byte) : (s.setByte a b).rcf = s.rcf := by dsimp only [State.setByte]
@[simp] theorem State.setByte_evr (s : State) (a : Nat) (b : Byte) : (s.setByte a b).evr = s.evr := by dsimp only [State.setByte]
@[simp] theorem State.setByte_flt (s : State) (a : Nat) (b : Byte) : (s.setByte a b).flt = s.flt := by dsimp only [State.setByte]
@[simp] theorem State.setByte_rdx (s : State) (a : Nat) (b : Byte) : (s.setByte a b).rdx = s.rdx := by dsimp only [State.setByte]
@[simp] theorem State.setByte_cmp (s : State) (a : Nat) (b : Byte) : (s.setByte a b).cmp = s.cmp := by dsimp only [State.setByte]
@[simp] theorem State.setByte_cip (s : State) (a : Nat) (b : Byte) : (s.setByte a b).cip = s.cip := by dsimp only [State.setByte]
@[simp] theorem State.setByte_dgs (s : State) (a : Nat) (b : Byte) : (s.setByte a b).dgs = s.dgs := by dsimp only [State.setByte]
@[simp] theorem State.setByte_lanes (s : State) (a : Nat) (b : Byte) : (s.setByte a b).lanes = s.lanes := by dsimp only [State.setByte]
@[simp] theorem State.setByte_ftl (s : State) (a : Nat) (b : Byte) : (s.setByte a b).ftl = s.ftl := by dsimp only [State.setByte]
@[simp] theorem State.setByte_rdn (s : State) (a : Nat) (b : Byte) : (s.setByte a b).rdn = s.rdn := by dsimp only [State.setByte]
@[simp] theorem State.setByte_frn (s : State) (a : Nat) (b : Byte) : (s.setByte a b).frn = s.frn := by dsimp only [State.setByte]
@[simp] theorem State.setByte_pcr (s : State) (a : Nat) (b : Byte) : (s.setByte a b).pcr = s.pcr := by dsimp only [State.setByte]
@[simp] theorem State.setByte_cmf (s : State) (a : Nat) (b : Byte) : (s.setByte a b).cmf = s.cmf := by dsimp only [State.setByte]
@[simp] theorem State.setByte_vct (s : State) (a : Nat) (b : Byte) : (s.setByte a b).vct = s.vct := by dsimp only [State.setByte]
@[simp] theorem State.setByte_qpc (s : State) (a : Nat) (b : Byte) : (s.setByte a b).qpc = s.qpc := by dsimp only [State.setByte]
@[simp] theorem State.setByte_hpt (s : State) (a : Nat) (b : Byte) : (s.setByte a b).hpt = s.hpt := by dsimp only [State.setByte]
@[simp] theorem State.setByte_rfl (s : State) (a : Nat) (b : Byte) : (s.setByte a b).rfl = s.rfl := by dsimp only [State.setByte]
@[simp] theorem State.setByte_wit (s : State) (a : Nat) (b : Byte) : (s.setByte a b).wit = s.wit := by dsimp only [State.setByte]
@[simp] theorem State.setByte_other (s : State) (a : Nat) (b : Byte) : (s.setByte a b).other = s.other := by dsimp only [State.setByte]
@[simp] theorem State.setByte_regs (s : State) (a : Nat) (b : Byte) : (s.setByte a b).regs = s.regs := by dsimp only [State.setByte]
@[simp] theorem State.setByte_shadow (s : State) (a : Nat) (b : Byte) : (s.setByte a b).shadow = s.shadow := by dsimp only [State.setByte]
@[simp] theorem State.setByte_busData (s : State) (a : Nat) (b : Byte) : (s.setByte a b).busData = s.busData := by dsimp only [State.setByte]
@[simp] theorem State.setByte_out (s : State) (a : Nat) (b : Byte) : (s.setByte a b).out = s.out := by dsimp only [State.setByte]
@[simp] theorem State.setByte_fresh (s : State) (a : Nat) (b : Byte) : (s.setByte a b).fresh = s.fresh := by dsimp only [State.setByte]

@[simp] theorem State.latch_pending (s : State) (i : Input) : (s.latch i).pending = s.pending := by dsimp only [State.latch]
@[simp] theorem State.latch_lcs (s : State) (i : Input) : (s.latch i).lcs = s.lcs := by dsimp only [State.latch]
@[simp] theorem State.latch_sim (s : State) (i : Input) : (s.latch i).sim = s.sim := by dsimp only [State.latch]
@[simp] theorem State.latch_apc (s : State) (i : Input) : (s.latch i).apc = s.apc := by dsimp only [State.latch]
@[simp] theorem State.latch_memc (s : State) (i : Input) : (s.latch i).memc = s.memc := by dsimp only [State.latch]
@[simp] theorem State.latch_bay (s : State) (i : Input) : (s.latch i).bay = s.bay := by dsimp only [State.latch]
@[simp] theorem State.latch_rcf (s : State) (i : Input) : (s.latch i).rcf = s.rcf := by dsimp only [State.latch]
@[simp] theorem State.latch_evr (s : State) (i : Input) : (s.latch i).evr = s.evr := by dsimp only [State.latch]
@[simp] theorem State.latch_flt (s : State) (i : Input) : (s.latch i).flt = s.flt := by dsimp only [State.latch]
@[simp] theorem State.latch_rdx (s : State) (i : Input) : (s.latch i).rdx = s.rdx := by dsimp only [State.latch]
@[simp] theorem State.latch_cmp (s : State) (i : Input) : (s.latch i).cmp = s.cmp := by dsimp only [State.latch]
@[simp] theorem State.latch_cip (s : State) (i : Input) : (s.latch i).cip = s.cip := by dsimp only [State.latch]
@[simp] theorem State.latch_dgs (s : State) (i : Input) : (s.latch i).dgs = s.dgs := by dsimp only [State.latch]
@[simp] theorem State.latch_lanes (s : State) (i : Input) : (s.latch i).lanes = s.lanes := by dsimp only [State.latch]
@[simp] theorem State.latch_ftl (s : State) (i : Input) : (s.latch i).ftl = s.ftl := by dsimp only [State.latch]
@[simp] theorem State.latch_rdn (s : State) (i : Input) : (s.latch i).rdn = s.rdn := by dsimp only [State.latch]
@[simp] theorem State.latch_frn (s : State) (i : Input) : (s.latch i).frn = s.frn := by dsimp only [State.latch]
@[simp] theorem State.latch_pcr (s : State) (i : Input) : (s.latch i).pcr = s.pcr := by dsimp only [State.latch]
@[simp] theorem State.latch_cmf (s : State) (i : Input) : (s.latch i).cmf = s.cmf := by dsimp only [State.latch]
@[simp] theorem State.latch_vct (s : State) (i : Input) : (s.latch i).vct = s.vct := by dsimp only [State.latch]
@[simp] theorem State.latch_qpc (s : State) (i : Input) : (s.latch i).qpc = s.qpc := by dsimp only [State.latch]
@[simp] theorem State.latch_hpt (s : State) (i : Input) : (s.latch i).hpt = s.hpt := by dsimp only [State.latch]
@[simp] theorem State.latch_rfl (s : State) (i : Input) : (s.latch i).rfl = s.rfl := by dsimp only [State.latch]
@[simp] theorem State.latch_wit (s : State) (i : Input) : (s.latch i).wit = s.wit := by dsimp only [State.latch]
@[simp] theorem State.latch_other (s : State) (i : Input) : (s.latch i).other = s.other := by dsimp only [State.latch]
@[simp] theorem State.latch_regs (s : State) (i : Input) : (s.latch i).regs = s.regs := by dsimp only [State.latch]
@[simp] theorem State.latch_mem (s : State) (i : Input) : (s.latch i).mem = s.mem := by dsimp only [State.latch]
@[simp] theorem State.latch_shadow (s : State) (i : Input) : (s.latch i).shadow = s.shadow := by dsimp only [State.latch]
@[simp] theorem State.latch_busData (s : State) (i : Input) : (s.latch i).busData = s.busData := by dsimp only [State.latch]
@[simp] theorem State.latch_out (s : State) (i : Input) : (s.latch i).out = s.out := by dsimp only [State.latch]
@[simp] theorem State.latch_fresh (s : State) (i : Input) : (s.latch i).fresh = s.fresh := by dsimp only [State.latch]

@[simp] theorem State.report_pending (s : State) (c n u a : Nat) : (s.report c n u a).pending = s.pending := by dsimp only [State.report]
@[simp] theorem State.report_tck (s : State) (c n u a : Nat) : (s.report c n u a).tck = s.tck := by dsimp only [State.report]
@[simp] theorem State.report_lcs (s : State) (c n u a : Nat) : (s.report c n u a).lcs = s.lcs := by dsimp only [State.report]
@[simp] theorem State.report_sim (s : State) (c n u a : Nat) : (s.report c n u a).sim = s.sim := by dsimp only [State.report]
@[simp] theorem State.report_apc (s : State) (c n u a : Nat) : (s.report c n u a).apc = s.apc := by dsimp only [State.report]
@[simp] theorem State.report_memc (s : State) (c n u a : Nat) : (s.report c n u a).memc = s.memc := by dsimp only [State.report]
@[simp] theorem State.report_bay (s : State) (c n u a : Nat) : (s.report c n u a).bay = s.bay := by dsimp only [State.report]
@[simp] theorem State.report_rcf (s : State) (c n u a : Nat) : (s.report c n u a).rcf = s.rcf := by dsimp only [State.report]
@[simp] theorem State.report_evr (s : State) (c n u a : Nat) : (s.report c n u a).evr = s.evr := by dsimp only [State.report]
@[simp] theorem State.report_rdx (s : State) (c n u a : Nat) : (s.report c n u a).rdx = s.rdx := by dsimp only [State.report]
@[simp] theorem State.report_cmp (s : State) (c n u a : Nat) : (s.report c n u a).cmp = s.cmp := by dsimp only [State.report]
@[simp] theorem State.report_cip (s : State) (c n u a : Nat) : (s.report c n u a).cip = s.cip := by dsimp only [State.report]
@[simp] theorem State.report_dgs (s : State) (c n u a : Nat) : (s.report c n u a).dgs = s.dgs := by dsimp only [State.report]
@[simp] theorem State.report_lanes (s : State) (c n u a : Nat) : (s.report c n u a).lanes = s.lanes := by dsimp only [State.report]
@[simp] theorem State.report_ftl (s : State) (c n u a : Nat) : (s.report c n u a).ftl = s.ftl := by dsimp only [State.report]
@[simp] theorem State.report_rdn (s : State) (c n u a : Nat) : (s.report c n u a).rdn = s.rdn := by dsimp only [State.report]
@[simp] theorem State.report_frn (s : State) (c n u a : Nat) : (s.report c n u a).frn = s.frn := by dsimp only [State.report]
@[simp] theorem State.report_pcr (s : State) (c n u a : Nat) : (s.report c n u a).pcr = s.pcr := by dsimp only [State.report]
@[simp] theorem State.report_cmf (s : State) (c n u a : Nat) : (s.report c n u a).cmf = s.cmf := by dsimp only [State.report]
@[simp] theorem State.report_vct (s : State) (c n u a : Nat) : (s.report c n u a).vct = s.vct := by dsimp only [State.report]
@[simp] theorem State.report_qpc (s : State) (c n u a : Nat) : (s.report c n u a).qpc = s.qpc := by dsimp only [State.report]
@[simp] theorem State.report_hpt (s : State) (c n u a : Nat) : (s.report c n u a).hpt = s.hpt := by dsimp only [State.report]
@[simp] theorem State.report_rfl (s : State) (c n u a : Nat) : (s.report c n u a).rfl = s.rfl := by dsimp only [State.report]
@[simp] theorem State.report_wit (s : State) (c n u a : Nat) : (s.report c n u a).wit = s.wit := by dsimp only [State.report]
@[simp] theorem State.report_other (s : State) (c n u a : Nat) : (s.report c n u a).other = s.other := by dsimp only [State.report]
@[simp] theorem State.report_regs (s : State) (c n u a : Nat) : (s.report c n u a).regs = s.regs := by dsimp only [State.report]
@[simp] theorem State.report_mem (s : State) (c n u a : Nat) : (s.report c n u a).mem = s.mem := by dsimp only [State.report]
@[simp] theorem State.report_shadow (s : State) (c n u a : Nat) : (s.report c n u a).shadow = s.shadow := by dsimp only [State.report]
@[simp] theorem State.report_busData (s : State) (c n u a : Nat) : (s.report c n u a).busData = s.busData := by dsimp only [State.report]
@[simp] theorem State.report_out (s : State) (c n u a : Nat) : (s.report c n u a).out = s.out := by dsimp only [State.report]
@[simp] theorem State.report_fresh (s : State) (c n u a : Nat) : (s.report c n u a).fresh = s.fresh := by dsimp only [State.report]

@[simp] theorem State.send_pending (s : State) (o : Out) : (s.send o).pending = s.pending := by unfold State.send; split <;> dsimp only
@[simp] theorem State.send_tck (s : State) (o : Out) : (s.send o).tck = s.tck := by unfold State.send; split <;> dsimp only
@[simp] theorem State.send_lcs (s : State) (o : Out) : (s.send o).lcs = s.lcs := by unfold State.send; split <;> dsimp only
@[simp] theorem State.send_sim (s : State) (o : Out) : (s.send o).sim = s.sim := by unfold State.send; split <;> dsimp only
@[simp] theorem State.send_apc (s : State) (o : Out) : (s.send o).apc = s.apc := by unfold State.send; split <;> dsimp only
@[simp] theorem State.send_memc (s : State) (o : Out) : (s.send o).memc = s.memc := by unfold State.send; split <;> dsimp only
@[simp] theorem State.send_bay (s : State) (o : Out) : (s.send o).bay = s.bay := by unfold State.send; split <;> dsimp only
@[simp] theorem State.send_rcf (s : State) (o : Out) : (s.send o).rcf = s.rcf := by unfold State.send; split <;> dsimp only
@[simp] theorem State.send_evr (s : State) (o : Out) : (s.send o).evr = s.evr := by unfold State.send; split <;> dsimp only
@[simp] theorem State.send_flt (s : State) (o : Out) : (s.send o).flt = s.flt := by unfold State.send; split <;> dsimp only
@[simp] theorem State.send_rdx (s : State) (o : Out) : (s.send o).rdx = s.rdx := by unfold State.send; split <;> dsimp only
@[simp] theorem State.send_cmp (s : State) (o : Out) : (s.send o).cmp = s.cmp := by unfold State.send; split <;> dsimp only
@[simp] theorem State.send_cip (s : State) (o : Out) : (s.send o).cip = s.cip := by unfold State.send; split <;> dsimp only
@[simp] theorem State.send_dgs (s : State) (o : Out) : (s.send o).dgs = s.dgs := by unfold State.send; split <;> dsimp only
@[simp] theorem State.send_lanes (s : State) (o : Out) : (s.send o).lanes = s.lanes := by unfold State.send; split <;> dsimp only
@[simp] theorem State.send_ftl (s : State) (o : Out) : (s.send o).ftl = s.ftl := by unfold State.send; split <;> dsimp only
@[simp] theorem State.send_rdn (s : State) (o : Out) : (s.send o).rdn = s.rdn := by unfold State.send; split <;> dsimp only
@[simp] theorem State.send_frn (s : State) (o : Out) : (s.send o).frn = s.frn := by unfold State.send; split <;> dsimp only
@[simp] theorem State.send_pcr (s : State) (o : Out) : (s.send o).pcr = s.pcr := by unfold State.send; split <;> dsimp only
@[simp] theorem State.send_cmf (s : State) (o : Out) : (s.send o).cmf = s.cmf := by unfold State.send; split <;> dsimp only
@[simp] theorem State.send_vct (s : State) (o : Out) : (s.send o).vct = s.vct := by unfold State.send; split <;> dsimp only
@[simp] theorem State.send_qpc (s : State) (o : Out) : (s.send o).qpc = s.qpc := by unfold State.send; split <;> dsimp only
@[simp] theorem State.send_hpt (s : State) (o : Out) : (s.send o).hpt = s.hpt := by unfold State.send; split <;> dsimp only
@[simp] theorem State.send_rfl (s : State) (o : Out) : (s.send o).rfl = s.rfl := by unfold State.send; split <;> dsimp only
@[simp] theorem State.send_wit (s : State) (o : Out) : (s.send o).wit = s.wit := by unfold State.send; split <;> dsimp only
@[simp] theorem State.send_other (s : State) (o : Out) : (s.send o).other = s.other := by unfold State.send; split <;> dsimp only
@[simp] theorem State.send_regs (s : State) (o : Out) : (s.send o).regs = s.regs := by unfold State.send; split <;> dsimp only
@[simp] theorem State.send_mem (s : State) (o : Out) : (s.send o).mem = s.mem := by unfold State.send; split <;> dsimp only
@[simp] theorem State.send_shadow (s : State) (o : Out) : (s.send o).shadow = s.shadow := by unfold State.send; split <;> dsimp only
@[simp] theorem State.send_busData (s : State) (o : Out) : (s.send o).busData = s.busData := by unfold State.send; split <;> dsimp only
@[simp] theorem State.send_fresh (s : State) (o : Out) : (s.send o).fresh = s.fresh := by unfold State.send; split <;> dsimp only

@[simp] theorem State.store_pending (s : State) (a : Nat) (l : List Byte) : (s.store a l).pending = s.pending := by
  induction l generalizing s a with
  | nil => simp only [State.store]
  | cons v l ih => simp only [State.store, ih, State.setByte_pending]
@[simp] theorem State.store_tck (s : State) (a : Nat) (l : List Byte) : (s.store a l).tck = s.tck := by
  induction l generalizing s a with
  | nil => simp only [State.store]
  | cons v l ih => simp only [State.store, ih, State.setByte_tck]
@[simp] theorem State.store_lcs (s : State) (a : Nat) (l : List Byte) : (s.store a l).lcs = s.lcs := by
  induction l generalizing s a with
  | nil => simp only [State.store]
  | cons v l ih => simp only [State.store, ih, State.setByte_lcs]
@[simp] theorem State.store_sim (s : State) (a : Nat) (l : List Byte) : (s.store a l).sim = s.sim := by
  induction l generalizing s a with
  | nil => simp only [State.store]
  | cons v l ih => simp only [State.store, ih, State.setByte_sim]
@[simp] theorem State.store_apc (s : State) (a : Nat) (l : List Byte) : (s.store a l).apc = s.apc := by
  induction l generalizing s a with
  | nil => simp only [State.store]
  | cons v l ih => simp only [State.store, ih, State.setByte_apc]
@[simp] theorem State.store_memc (s : State) (a : Nat) (l : List Byte) : (s.store a l).memc = s.memc := by
  induction l generalizing s a with
  | nil => simp only [State.store]
  | cons v l ih => simp only [State.store, ih, State.setByte_memc]
@[simp] theorem State.store_bay (s : State) (a : Nat) (l : List Byte) : (s.store a l).bay = s.bay := by
  induction l generalizing s a with
  | nil => simp only [State.store]
  | cons v l ih => simp only [State.store, ih, State.setByte_bay]
@[simp] theorem State.store_rcf (s : State) (a : Nat) (l : List Byte) : (s.store a l).rcf = s.rcf := by
  induction l generalizing s a with
  | nil => simp only [State.store]
  | cons v l ih => simp only [State.store, ih, State.setByte_rcf]
@[simp] theorem State.store_evr (s : State) (a : Nat) (l : List Byte) : (s.store a l).evr = s.evr := by
  induction l generalizing s a with
  | nil => simp only [State.store]
  | cons v l ih => simp only [State.store, ih, State.setByte_evr]
@[simp] theorem State.store_flt (s : State) (a : Nat) (l : List Byte) : (s.store a l).flt = s.flt := by
  induction l generalizing s a with
  | nil => simp only [State.store]
  | cons v l ih => simp only [State.store, ih, State.setByte_flt]
@[simp] theorem State.store_rdx (s : State) (a : Nat) (l : List Byte) : (s.store a l).rdx = s.rdx := by
  induction l generalizing s a with
  | nil => simp only [State.store]
  | cons v l ih => simp only [State.store, ih, State.setByte_rdx]
@[simp] theorem State.store_cmp (s : State) (a : Nat) (l : List Byte) : (s.store a l).cmp = s.cmp := by
  induction l generalizing s a with
  | nil => simp only [State.store]
  | cons v l ih => simp only [State.store, ih, State.setByte_cmp]
@[simp] theorem State.store_cip (s : State) (a : Nat) (l : List Byte) : (s.store a l).cip = s.cip := by
  induction l generalizing s a with
  | nil => simp only [State.store]
  | cons v l ih => simp only [State.store, ih, State.setByte_cip]
@[simp] theorem State.store_dgs (s : State) (a : Nat) (l : List Byte) : (s.store a l).dgs = s.dgs := by
  induction l generalizing s a with
  | nil => simp only [State.store]
  | cons v l ih => simp only [State.store, ih, State.setByte_dgs]
@[simp] theorem State.store_lanes (s : State) (a : Nat) (l : List Byte) : (s.store a l).lanes = s.lanes := by
  induction l generalizing s a with
  | nil => simp only [State.store]
  | cons v l ih => simp only [State.store, ih, State.setByte_lanes]
@[simp] theorem State.store_ftl (s : State) (a : Nat) (l : List Byte) : (s.store a l).ftl = s.ftl := by
  induction l generalizing s a with
  | nil => simp only [State.store]
  | cons v l ih => simp only [State.store, ih, State.setByte_ftl]
@[simp] theorem State.store_rdn (s : State) (a : Nat) (l : List Byte) : (s.store a l).rdn = s.rdn := by
  induction l generalizing s a with
  | nil => simp only [State.store]
  | cons v l ih => simp only [State.store, ih, State.setByte_rdn]
@[simp] theorem State.store_frn (s : State) (a : Nat) (l : List Byte) : (s.store a l).frn = s.frn := by
  induction l generalizing s a with
  | nil => simp only [State.store]
  | cons v l ih => simp only [State.store, ih, State.setByte_frn]
@[simp] theorem State.store_pcr (s : State) (a : Nat) (l : List Byte) : (s.store a l).pcr = s.pcr := by
  induction l generalizing s a with
  | nil => simp only [State.store]
  | cons v l ih => simp only [State.store, ih, State.setByte_pcr]
@[simp] theorem State.store_cmf (s : State) (a : Nat) (l : List Byte) : (s.store a l).cmf = s.cmf := by
  induction l generalizing s a with
  | nil => simp only [State.store]
  | cons v l ih => simp only [State.store, ih, State.setByte_cmf]
@[simp] theorem State.store_vct (s : State) (a : Nat) (l : List Byte) : (s.store a l).vct = s.vct := by
  induction l generalizing s a with
  | nil => simp only [State.store]
  | cons v l ih => simp only [State.store, ih, State.setByte_vct]
@[simp] theorem State.store_qpc (s : State) (a : Nat) (l : List Byte) : (s.store a l).qpc = s.qpc := by
  induction l generalizing s a with
  | nil => simp only [State.store]
  | cons v l ih => simp only [State.store, ih, State.setByte_qpc]
@[simp] theorem State.store_hpt (s : State) (a : Nat) (l : List Byte) : (s.store a l).hpt = s.hpt := by
  induction l generalizing s a with
  | nil => simp only [State.store]
  | cons v l ih => simp only [State.store, ih, State.setByte_hpt]
@[simp] theorem State.store_rfl (s : State) (a : Nat) (l : List Byte) : (s.store a l).rfl = s.rfl := by
  induction l generalizing s a with
  | nil => simp only [State.store]
  | cons v l ih => simp only [State.store, ih, State.setByte_rfl]
@[simp] theorem State.store_wit (s : State) (a : Nat) (l : List Byte) : (s.store a l).wit = s.wit := by
  induction l generalizing s a with
  | nil => simp only [State.store]
  | cons v l ih => simp only [State.store, ih, State.setByte_wit]
@[simp] theorem State.store_other (s : State) (a : Nat) (l : List Byte) : (s.store a l).other = s.other := by
  induction l generalizing s a with
  | nil => simp only [State.store]
  | cons v l ih => simp only [State.store, ih, State.setByte_other]
@[simp] theorem State.store_regs (s : State) (a : Nat) (l : List Byte) : (s.store a l).regs = s.regs := by
  induction l generalizing s a with
  | nil => simp only [State.store]
  | cons v l ih => simp only [State.store, ih, State.setByte_regs]
@[simp] theorem State.store_shadow (s : State) (a : Nat) (l : List Byte) : (s.store a l).shadow = s.shadow := by
  induction l generalizing s a with
  | nil => simp only [State.store]
  | cons v l ih => simp only [State.store, ih, State.setByte_shadow]
@[simp] theorem State.store_busData (s : State) (a : Nat) (l : List Byte) : (s.store a l).busData = s.busData := by
  induction l generalizing s a with
  | nil => simp only [State.store]
  | cons v l ih => simp only [State.store, ih, State.setByte_busData]
@[simp] theorem State.store_out (s : State) (a : Nat) (l : List Byte) : (s.store a l).out = s.out := by
  induction l generalizing s a with
  | nil => simp only [State.store]
  | cons v l ih => simp only [State.store, ih, State.setByte_out]
@[simp] theorem State.store_fresh (s : State) (a : Nat) (l : List Byte) : (s.store a l).fresh = s.fresh := by
  induction l generalizing s a with
  | nil => simp only [State.store]
  | cons v l ih => simp only [State.store, ih, State.setByte_fresh]

theorem State.setReg_eq (s : State) (a : Nat) (w : Word) : ∃ g, s.setReg a w = { s with regs := g } := by
  unfold State.setReg; exact ⟨_, Eq.refl _⟩

theorem State.put_eq (s : State) (f : Fld) (v : Nat) : ∃ g, s.put f v = { s with regs := g } := by
  unfold State.put; exact State.setReg_eq _ _ _

theorem State.count_eq (s : State) (f : Fld) (n k : Nat) : ∃ g, s.count f n k = { s with regs := g } := by
  unfold State.count; exact State.put_eq _ _ _

/-- Making a record changes the recorder and its counters alone. -/
theorem State.makeRecord_eq (s : State) (r : EvRec) : ∃ e g, s.makeRecord r = { s with evr := e, regs := g } := by
  unfold State.makeRecord
  dsimp only
  split
  · rename_i q _
    obtain ⟨g, h⟩ := State.count_eq { s with evr := { s.evr with queue := q, unitUsed := true } } F.EVR.STAT.COUNT 1 1
    exact ⟨_, g, h⟩
  · split
    · exact ⟨_, (State.count_eq _ _ _ _).choose, (State.count_eq _ _ _ _).choose_spec⟩
    · split
      · exact ⟨_, (State.count_eq _ _ _ _).choose, (State.count_eq _ _ _ _).choose_spec⟩
      · exact ⟨_, s.regs, Eq.refl _⟩

theorem State.record_eq (s : State) (n v c u a b : Nat) :
    ∃ e g, s.record n v c u a b = { s with evr := e, regs := g } := by
  unfold State.record; exact State.makeRecord_eq _ _

/-- Setting an EVENT bit and making its record changes the recorder and registers alone. -/
theorem State.event_eq (s : State) (n b u a0 a1 : Nat) :
    ∃ e g, s.event n b u a0 a1 = { s with evr := e, regs := g } := by
  unfold State.event State.setEventBit
  obtain ⟨g, h⟩ := State.setReg_eq s (eventAddr n) (s.reg (eventAddr n) ||| BitVec.ofNat 64 (2 ^ b))
  rw [h]
  exact State.record_eq _ _ _ _ _ _ _

theorem State.report_eq (s : State) (c n u a : Nat) : ∃ f, s.report c n u a = { s with flt := f } := by
  unfold State.report; exact ⟨_, Eq.refl _⟩

theorem State.send_eq (s : State) (o : Out) : ∃ l, s.send o = { s with out := l } := by
  unfold State.send; split
  · exact ⟨_, Eq.refl _⟩
  · exact ⟨s.out, Eq.refl _⟩

@[simp] theorem State.makeRecord_pending (s : State) (r : EvRec) : (s.makeRecord r).pending = s.pending := by obtain ⟨_, _, h⟩ := State.makeRecord_eq s r; rw [h]
@[simp] theorem State.makeRecord_tck (s : State) (r : EvRec) : (s.makeRecord r).tck = s.tck := by obtain ⟨_, _, h⟩ := State.makeRecord_eq s r; rw [h]
@[simp] theorem State.makeRecord_lcs (s : State) (r : EvRec) : (s.makeRecord r).lcs = s.lcs := by obtain ⟨_, _, h⟩ := State.makeRecord_eq s r; rw [h]
@[simp] theorem State.makeRecord_sim (s : State) (r : EvRec) : (s.makeRecord r).sim = s.sim := by obtain ⟨_, _, h⟩ := State.makeRecord_eq s r; rw [h]
@[simp] theorem State.makeRecord_apc (s : State) (r : EvRec) : (s.makeRecord r).apc = s.apc := by obtain ⟨_, _, h⟩ := State.makeRecord_eq s r; rw [h]
@[simp] theorem State.makeRecord_memc (s : State) (r : EvRec) : (s.makeRecord r).memc = s.memc := by obtain ⟨_, _, h⟩ := State.makeRecord_eq s r; rw [h]
@[simp] theorem State.makeRecord_bay (s : State) (r : EvRec) : (s.makeRecord r).bay = s.bay := by obtain ⟨_, _, h⟩ := State.makeRecord_eq s r; rw [h]
@[simp] theorem State.makeRecord_rcf (s : State) (r : EvRec) : (s.makeRecord r).rcf = s.rcf := by obtain ⟨_, _, h⟩ := State.makeRecord_eq s r; rw [h]
@[simp] theorem State.makeRecord_flt (s : State) (r : EvRec) : (s.makeRecord r).flt = s.flt := by obtain ⟨_, _, h⟩ := State.makeRecord_eq s r; rw [h]
@[simp] theorem State.makeRecord_rdx (s : State) (r : EvRec) : (s.makeRecord r).rdx = s.rdx := by obtain ⟨_, _, h⟩ := State.makeRecord_eq s r; rw [h]
@[simp] theorem State.makeRecord_cmp (s : State) (r : EvRec) : (s.makeRecord r).cmp = s.cmp := by obtain ⟨_, _, h⟩ := State.makeRecord_eq s r; rw [h]
@[simp] theorem State.makeRecord_cip (s : State) (r : EvRec) : (s.makeRecord r).cip = s.cip := by obtain ⟨_, _, h⟩ := State.makeRecord_eq s r; rw [h]
@[simp] theorem State.makeRecord_dgs (s : State) (r : EvRec) : (s.makeRecord r).dgs = s.dgs := by obtain ⟨_, _, h⟩ := State.makeRecord_eq s r; rw [h]
@[simp] theorem State.makeRecord_lanes (s : State) (r : EvRec) : (s.makeRecord r).lanes = s.lanes := by obtain ⟨_, _, h⟩ := State.makeRecord_eq s r; rw [h]
@[simp] theorem State.makeRecord_ftl (s : State) (r : EvRec) : (s.makeRecord r).ftl = s.ftl := by obtain ⟨_, _, h⟩ := State.makeRecord_eq s r; rw [h]
@[simp] theorem State.makeRecord_rdn (s : State) (r : EvRec) : (s.makeRecord r).rdn = s.rdn := by obtain ⟨_, _, h⟩ := State.makeRecord_eq s r; rw [h]
@[simp] theorem State.makeRecord_frn (s : State) (r : EvRec) : (s.makeRecord r).frn = s.frn := by obtain ⟨_, _, h⟩ := State.makeRecord_eq s r; rw [h]
@[simp] theorem State.makeRecord_pcr (s : State) (r : EvRec) : (s.makeRecord r).pcr = s.pcr := by obtain ⟨_, _, h⟩ := State.makeRecord_eq s r; rw [h]
@[simp] theorem State.makeRecord_cmf (s : State) (r : EvRec) : (s.makeRecord r).cmf = s.cmf := by obtain ⟨_, _, h⟩ := State.makeRecord_eq s r; rw [h]
@[simp] theorem State.makeRecord_vct (s : State) (r : EvRec) : (s.makeRecord r).vct = s.vct := by obtain ⟨_, _, h⟩ := State.makeRecord_eq s r; rw [h]
@[simp] theorem State.makeRecord_qpc (s : State) (r : EvRec) : (s.makeRecord r).qpc = s.qpc := by obtain ⟨_, _, h⟩ := State.makeRecord_eq s r; rw [h]
@[simp] theorem State.makeRecord_hpt (s : State) (r : EvRec) : (s.makeRecord r).hpt = s.hpt := by obtain ⟨_, _, h⟩ := State.makeRecord_eq s r; rw [h]
@[simp] theorem State.makeRecord_rfl (s : State) (r : EvRec) : (s.makeRecord r).rfl = s.rfl := by obtain ⟨_, _, h⟩ := State.makeRecord_eq s r; rw [h]
@[simp] theorem State.makeRecord_wit (s : State) (r : EvRec) : (s.makeRecord r).wit = s.wit := by obtain ⟨_, _, h⟩ := State.makeRecord_eq s r; rw [h]
@[simp] theorem State.makeRecord_other (s : State) (r : EvRec) : (s.makeRecord r).other = s.other := by obtain ⟨_, _, h⟩ := State.makeRecord_eq s r; rw [h]
@[simp] theorem State.makeRecord_mem (s : State) (r : EvRec) : (s.makeRecord r).mem = s.mem := by obtain ⟨_, _, h⟩ := State.makeRecord_eq s r; rw [h]
@[simp] theorem State.makeRecord_shadow (s : State) (r : EvRec) : (s.makeRecord r).shadow = s.shadow := by obtain ⟨_, _, h⟩ := State.makeRecord_eq s r; rw [h]
@[simp] theorem State.makeRecord_busData (s : State) (r : EvRec) : (s.makeRecord r).busData = s.busData := by obtain ⟨_, _, h⟩ := State.makeRecord_eq s r; rw [h]
@[simp] theorem State.makeRecord_out (s : State) (r : EvRec) : (s.makeRecord r).out = s.out := by obtain ⟨_, _, h⟩ := State.makeRecord_eq s r; rw [h]
@[simp] theorem State.makeRecord_fresh (s : State) (r : EvRec) : (s.makeRecord r).fresh = s.fresh := by obtain ⟨_, _, h⟩ := State.makeRecord_eq s r; rw [h]

@[simp] theorem State.record_pending (s : State) (n v c u a b : Nat) : (s.record n v c u a b).pending = s.pending := by simp only [State.record, State.makeRecord_pending]
@[simp] theorem State.record_tck (s : State) (n v c u a b : Nat) : (s.record n v c u a b).tck = s.tck := by simp only [State.record, State.makeRecord_tck]
@[simp] theorem State.record_lcs (s : State) (n v c u a b : Nat) : (s.record n v c u a b).lcs = s.lcs := by simp only [State.record, State.makeRecord_lcs]
@[simp] theorem State.record_sim (s : State) (n v c u a b : Nat) : (s.record n v c u a b).sim = s.sim := by simp only [State.record, State.makeRecord_sim]
@[simp] theorem State.record_apc (s : State) (n v c u a b : Nat) : (s.record n v c u a b).apc = s.apc := by simp only [State.record, State.makeRecord_apc]
@[simp] theorem State.record_memc (s : State) (n v c u a b : Nat) : (s.record n v c u a b).memc = s.memc := by simp only [State.record, State.makeRecord_memc]
@[simp] theorem State.record_bay (s : State) (n v c u a b : Nat) : (s.record n v c u a b).bay = s.bay := by simp only [State.record, State.makeRecord_bay]
@[simp] theorem State.record_rcf (s : State) (n v c u a b : Nat) : (s.record n v c u a b).rcf = s.rcf := by simp only [State.record, State.makeRecord_rcf]
@[simp] theorem State.record_flt (s : State) (n v c u a b : Nat) : (s.record n v c u a b).flt = s.flt := by simp only [State.record, State.makeRecord_flt]
@[simp] theorem State.record_rdx (s : State) (n v c u a b : Nat) : (s.record n v c u a b).rdx = s.rdx := by simp only [State.record, State.makeRecord_rdx]
@[simp] theorem State.record_cmp (s : State) (n v c u a b : Nat) : (s.record n v c u a b).cmp = s.cmp := by simp only [State.record, State.makeRecord_cmp]
@[simp] theorem State.record_cip (s : State) (n v c u a b : Nat) : (s.record n v c u a b).cip = s.cip := by simp only [State.record, State.makeRecord_cip]
@[simp] theorem State.record_dgs (s : State) (n v c u a b : Nat) : (s.record n v c u a b).dgs = s.dgs := by simp only [State.record, State.makeRecord_dgs]
@[simp] theorem State.record_lanes (s : State) (n v c u a b : Nat) : (s.record n v c u a b).lanes = s.lanes := by simp only [State.record, State.makeRecord_lanes]
@[simp] theorem State.record_ftl (s : State) (n v c u a b : Nat) : (s.record n v c u a b).ftl = s.ftl := by simp only [State.record, State.makeRecord_ftl]
@[simp] theorem State.record_rdn (s : State) (n v c u a b : Nat) : (s.record n v c u a b).rdn = s.rdn := by simp only [State.record, State.makeRecord_rdn]
@[simp] theorem State.record_frn (s : State) (n v c u a b : Nat) : (s.record n v c u a b).frn = s.frn := by simp only [State.record, State.makeRecord_frn]
@[simp] theorem State.record_pcr (s : State) (n v c u a b : Nat) : (s.record n v c u a b).pcr = s.pcr := by simp only [State.record, State.makeRecord_pcr]
@[simp] theorem State.record_cmf (s : State) (n v c u a b : Nat) : (s.record n v c u a b).cmf = s.cmf := by simp only [State.record, State.makeRecord_cmf]
@[simp] theorem State.record_vct (s : State) (n v c u a b : Nat) : (s.record n v c u a b).vct = s.vct := by simp only [State.record, State.makeRecord_vct]
@[simp] theorem State.record_qpc (s : State) (n v c u a b : Nat) : (s.record n v c u a b).qpc = s.qpc := by simp only [State.record, State.makeRecord_qpc]
@[simp] theorem State.record_hpt (s : State) (n v c u a b : Nat) : (s.record n v c u a b).hpt = s.hpt := by simp only [State.record, State.makeRecord_hpt]
@[simp] theorem State.record_rfl (s : State) (n v c u a b : Nat) : (s.record n v c u a b).rfl = s.rfl := by simp only [State.record, State.makeRecord_rfl]
@[simp] theorem State.record_wit (s : State) (n v c u a b : Nat) : (s.record n v c u a b).wit = s.wit := by simp only [State.record, State.makeRecord_wit]
@[simp] theorem State.record_other (s : State) (n v c u a b : Nat) : (s.record n v c u a b).other = s.other := by simp only [State.record, State.makeRecord_other]
@[simp] theorem State.record_mem (s : State) (n v c u a b : Nat) : (s.record n v c u a b).mem = s.mem := by simp only [State.record, State.makeRecord_mem]
@[simp] theorem State.record_shadow (s : State) (n v c u a b : Nat) : (s.record n v c u a b).shadow = s.shadow := by simp only [State.record, State.makeRecord_shadow]
@[simp] theorem State.record_busData (s : State) (n v c u a b : Nat) : (s.record n v c u a b).busData = s.busData := by simp only [State.record, State.makeRecord_busData]
@[simp] theorem State.record_out (s : State) (n v c u a b : Nat) : (s.record n v c u a b).out = s.out := by simp only [State.record, State.makeRecord_out]
@[simp] theorem State.record_fresh (s : State) (n v c u a b : Nat) : (s.record n v c u a b).fresh = s.fresh := by simp only [State.record, State.makeRecord_fresh]

@[simp] theorem State.event_pending (s : State) (n b u a0 a1 : Nat) : (s.event n b u a0 a1).pending = s.pending := by simp only [State.event, State.record_pending, State.setEventBit_pending]
@[simp] theorem State.event_tck (s : State) (n b u a0 a1 : Nat) : (s.event n b u a0 a1).tck = s.tck := by simp only [State.event, State.record_tck, State.setEventBit_tck]
@[simp] theorem State.event_lcs (s : State) (n b u a0 a1 : Nat) : (s.event n b u a0 a1).lcs = s.lcs := by simp only [State.event, State.record_lcs, State.setEventBit_lcs]
@[simp] theorem State.event_sim (s : State) (n b u a0 a1 : Nat) : (s.event n b u a0 a1).sim = s.sim := by simp only [State.event, State.record_sim, State.setEventBit_sim]
@[simp] theorem State.event_apc (s : State) (n b u a0 a1 : Nat) : (s.event n b u a0 a1).apc = s.apc := by simp only [State.event, State.record_apc, State.setEventBit_apc]
@[simp] theorem State.event_memc (s : State) (n b u a0 a1 : Nat) : (s.event n b u a0 a1).memc = s.memc := by simp only [State.event, State.record_memc, State.setEventBit_memc]
@[simp] theorem State.event_bay (s : State) (n b u a0 a1 : Nat) : (s.event n b u a0 a1).bay = s.bay := by simp only [State.event, State.record_bay, State.setEventBit_bay]
@[simp] theorem State.event_rcf (s : State) (n b u a0 a1 : Nat) : (s.event n b u a0 a1).rcf = s.rcf := by simp only [State.event, State.record_rcf, State.setEventBit_rcf]
@[simp] theorem State.event_flt (s : State) (n b u a0 a1 : Nat) : (s.event n b u a0 a1).flt = s.flt := by simp only [State.event, State.record_flt, State.setEventBit_flt]
@[simp] theorem State.event_rdx (s : State) (n b u a0 a1 : Nat) : (s.event n b u a0 a1).rdx = s.rdx := by simp only [State.event, State.record_rdx, State.setEventBit_rdx]
@[simp] theorem State.event_cmp (s : State) (n b u a0 a1 : Nat) : (s.event n b u a0 a1).cmp = s.cmp := by simp only [State.event, State.record_cmp, State.setEventBit_cmp]
@[simp] theorem State.event_cip (s : State) (n b u a0 a1 : Nat) : (s.event n b u a0 a1).cip = s.cip := by simp only [State.event, State.record_cip, State.setEventBit_cip]
@[simp] theorem State.event_dgs (s : State) (n b u a0 a1 : Nat) : (s.event n b u a0 a1).dgs = s.dgs := by simp only [State.event, State.record_dgs, State.setEventBit_dgs]
@[simp] theorem State.event_lanes (s : State) (n b u a0 a1 : Nat) : (s.event n b u a0 a1).lanes = s.lanes := by simp only [State.event, State.record_lanes, State.setEventBit_lanes]
@[simp] theorem State.event_ftl (s : State) (n b u a0 a1 : Nat) : (s.event n b u a0 a1).ftl = s.ftl := by simp only [State.event, State.record_ftl, State.setEventBit_ftl]
@[simp] theorem State.event_rdn (s : State) (n b u a0 a1 : Nat) : (s.event n b u a0 a1).rdn = s.rdn := by simp only [State.event, State.record_rdn, State.setEventBit_rdn]
@[simp] theorem State.event_frn (s : State) (n b u a0 a1 : Nat) : (s.event n b u a0 a1).frn = s.frn := by simp only [State.event, State.record_frn, State.setEventBit_frn]
@[simp] theorem State.event_pcr (s : State) (n b u a0 a1 : Nat) : (s.event n b u a0 a1).pcr = s.pcr := by simp only [State.event, State.record_pcr, State.setEventBit_pcr]
@[simp] theorem State.event_cmf (s : State) (n b u a0 a1 : Nat) : (s.event n b u a0 a1).cmf = s.cmf := by simp only [State.event, State.record_cmf, State.setEventBit_cmf]
@[simp] theorem State.event_vct (s : State) (n b u a0 a1 : Nat) : (s.event n b u a0 a1).vct = s.vct := by simp only [State.event, State.record_vct, State.setEventBit_vct]
@[simp] theorem State.event_qpc (s : State) (n b u a0 a1 : Nat) : (s.event n b u a0 a1).qpc = s.qpc := by simp only [State.event, State.record_qpc, State.setEventBit_qpc]
@[simp] theorem State.event_hpt (s : State) (n b u a0 a1 : Nat) : (s.event n b u a0 a1).hpt = s.hpt := by simp only [State.event, State.record_hpt, State.setEventBit_hpt]
@[simp] theorem State.event_rfl (s : State) (n b u a0 a1 : Nat) : (s.event n b u a0 a1).rfl = s.rfl := by simp only [State.event, State.record_rfl, State.setEventBit_rfl]
@[simp] theorem State.event_wit (s : State) (n b u a0 a1 : Nat) : (s.event n b u a0 a1).wit = s.wit := by simp only [State.event, State.record_wit, State.setEventBit_wit]
@[simp] theorem State.event_other (s : State) (n b u a0 a1 : Nat) : (s.event n b u a0 a1).other = s.other := by simp only [State.event, State.record_other, State.setEventBit_other]
@[simp] theorem State.event_mem (s : State) (n b u a0 a1 : Nat) : (s.event n b u a0 a1).mem = s.mem := by simp only [State.event, State.record_mem, State.setEventBit_mem]
@[simp] theorem State.event_shadow (s : State) (n b u a0 a1 : Nat) : (s.event n b u a0 a1).shadow = s.shadow := by simp only [State.event, State.record_shadow, State.setEventBit_shadow]
@[simp] theorem State.event_busData (s : State) (n b u a0 a1 : Nat) : (s.event n b u a0 a1).busData = s.busData := by simp only [State.event, State.record_busData, State.setEventBit_busData]
@[simp] theorem State.event_out (s : State) (n b u a0 a1 : Nat) : (s.event n b u a0 a1).out = s.out := by simp only [State.event, State.record_out, State.setEventBit_out]
@[simp] theorem State.event_fresh (s : State) (n b u a0 a1 : Nat) : (s.event n b u a0 a1).fresh = s.fresh := by simp only [State.event, State.record_fresh, State.setEventBit_fresh]

end Sys2Proof.Machine
end

