-- ==== Sys2Proof/Laws/Registers.lean ====
section
/-!
SUPPORT. Laws/Registers.lean: what a register or a field reads after a write of it, and of another.
-/

namespace Sys2Proof.Machine

theorem State.reg_setReg (s : State) (a b : Nat) (w : Word) :
    (s.setReg a w).reg b = if b = a then w else s.reg b := Sparse.get_set regReset s.regs a b w

@[simp] theorem State.reg_setReg_same (s : State) (a : Nat) (w : Word) : (s.setReg a w).reg a = w := by
  simp [State.reg_setReg]

theorem State.reg_setReg_other (s : State) (a b : Nat) (w : Word) (h : b ≠ a) :
    (s.setReg a w).reg b = s.reg b := by simp [State.reg_setReg, h]

theorem State.reg_put_other (s : State) (f : Fld) (v b : Nat) (h : b ≠ f.addr) :
    (s.put f v).reg b = s.reg b := State.reg_setReg_other _ _ _ _ h

/-- An instance of a field stays in the block of its array. -/
@[simp] theorem blockOf_nth (f : Fld) (n : Nat) : blockOf (f.nth n).addr = blockOf f.addr := by
  obtain ⟨a, st, hi, lo⟩ := f
  have d : (a / 0x400000 * 0x400000 + (a % 0x400000 + n * st) % 0x400000) / 0x400000 = a / 0x400000 := by
    rw [Nat.mul_comm, Nat.mul_add_div (by decide), Nat.div_eq_of_lt (Nat.mod_lt _ (by decide)), Nat.add_zero]
  generalize hb : a / 0x400000 * 0x400000 + (a % 0x400000 + n * st) % 0x400000 = b at d
  have e : (Fld.nth ⟨a, st, hi, lo⟩ n).addr = b := hb
  rw [e]
  show blockOf b = blockOf a
  have l : b < ctlBase ↔ a < ctlBase := by unfold ctlBase; omega
  have q : (b - ctlBase) / 0x400000 = (a - ctlBase) / 0x400000 := by unfold ctlBase; omega
  unfold blockOf
  simp only [l, q]

/-- The registers decide what a field reads. -/
theorem State.reg_congr {s t : State} (h : t.regs = s.regs) (a : Nat) : t.reg a = s.reg a := by
  simp [State.reg, h]

theorem State.fld_congr {s t : State} (h : t.regs = s.regs) (f : Fld) : t.fld f = s.fld f := by
  simp [State.fld, State.reg, h]

theorem testBit_setBits (w hi lo v i : Nat) (h : lo ≤ hi) :
    (setBits w hi lo v).testBit i =
      if i < lo then w.testBit i else if i ≤ hi then v.testBit (i - lo) else w.testBit i := by
  have e : (2 : Nat) ^ (hi + 1) = 2 ^ lo * 2 ^ (hi - lo + 1) := by rw [← pow_add]; congr 1; omega
  have h1 : w % 2 ^ lo < 2 ^ lo := Nat.mod_lt _ (by positivity)
  have h2 : v % 2 ^ (hi - lo + 1) < 2 ^ (hi - lo + 1) := Nat.mod_lt _ (by positivity)
  have r : setBits w hi lo v =
      2 ^ lo * (2 ^ (hi - lo + 1) * (w / 2 ^ (hi + 1)) + v % 2 ^ (hi - lo + 1)) + w % 2 ^ lo := by
    unfold setBits; rw [e]; ring
  rw [r, Nat.testBit_two_pow_mul_add _ h1, Nat.testBit_two_pow_mul_add _ h2]
  by_cases a : i < lo
  · simp [a, Nat.testBit_mod_two_pow]
  · by_cases b : i ≤ hi
    · have : i - lo < hi - lo + 1 := by omega
      simp [a, b, this, Nat.testBit_mod_two_pow]
    · have c : ¬ (i - lo < hi - lo + 1) := by omega
      simp only [a, b, c, if_false, Nat.testBit_div_two_pow]
      congr 1; omega

theorem setBits_lt (w hi lo v : Nat) (h : lo ≤ hi) (hhi : hi < 64) (hw : w < 2 ^ 64) :
    setBits w hi lo v < 2 ^ 64 := by
  apply Nat.lt_pow_two_of_testBit
  intro i hi'
  rw [testBit_setBits _ _ _ _ _ h]
  have h1 : ¬ i < lo := by omega
  have h2 : ¬ i ≤ hi := by omega
  simp only [h1, h2, if_false]
  exact Nat.testBit_lt_two_pow (Nat.lt_of_lt_of_le hw (Nat.pow_le_pow_right (by decide) hi'))

theorem bits_setBits_same (w hi lo v : Nat) (h : lo ≤ hi) :
    bits (setBits w hi lo v) hi lo = v % 2 ^ (hi - lo + 1) := by
  unfold bits setBits
  have e : (2 : Nat) ^ (hi + 1) = 2 ^ (hi - lo + 1) * 2 ^ lo := by rw [← pow_add]; congr 1; omega
  have h1 : w % 2 ^ lo < 2 ^ lo := Nat.mod_lt _ (by positivity)
  rw [Nat.shiftRight_eq_div_pow, e, ← mul_assoc, ← add_mul, add_comm, mul_comm _ (2 ^ lo),
    Nat.add_mul_div_left _ _ (by positivity), Nat.div_eq_of_lt h1, zero_add, mul_comm,
    Nat.mul_add_mod]
  exact Nat.mod_mod _ _

theorem bits_setBits_other (w hi lo v hi' lo' : Nat) (h : lo ≤ hi) (h' : lo' ≤ hi')
    (d : hi < lo' ∨ hi' < lo) : bits (setBits w hi lo v) hi' lo' = bits w hi' lo' := by
  apply Nat.eq_of_testBit_eq
  intro i
  unfold bits
  simp only [Nat.testBit_mod_two_pow, Nat.testBit_shiftRight, testBit_setBits _ _ _ _ _ h]
  by_cases c : i < hi' - lo' + 1
  · have : lo' + i ≤ hi' := by omega
    rcases d with d | d
    · have : ¬ lo' + i < lo := by omega
      have : ¬ lo' + i ≤ hi := by omega
      simp [*]
    · have : lo' + i < lo := by omega
      simp [*]
  · simp [c]

/-- A field is well placed in a 64-bit register. -/
abbrev Fld.ok (f : Fld) : Prop := f.lo ≤ f.hi ∧ f.hi < 64

theorem State.fld_put_same (s : State) (f : Fld) (v : Nat) (h : f.ok) :
    (s.put f v).fld f = v % 2 ^ (f.hi - f.lo + 1) := by
  unfold State.fld State.put
  rw [State.reg_setReg_same, BitVec.toNat_ofNat, Nat.mod_eq_of_lt (setBits_lt _ _ _ _ h.1 h.2 (s.reg f.addr).isLt)]
  exact bits_setBits_same _ _ _ _ h.1

theorem State.fld_put_other (s : State) (f g : Fld) (v : Nat) (hf : f.ok) (hg : g.ok)
    (d : g.addr ≠ f.addr ∨ f.hi < g.lo ∨ g.hi < f.lo) : (s.put f v).fld g = s.fld g := by
  unfold State.fld State.put
  by_cases e : g.addr = f.addr
  · have d : f.hi < g.lo ∨ g.hi < f.lo := d.resolve_left (fun h => h e)
    rw [e, State.reg_setReg_same, BitVec.toNat_ofNat,
      Nat.mod_eq_of_lt (setBits_lt _ _ _ _ hf.1 hf.2 (s.reg f.addr).isLt)]
    exact bits_setBits_other _ _ _ _ _ _ hf.1 hg.1 d
  · rw [State.reg_setReg_other _ _ _ _ e]

end Sys2Proof.Machine
end

