-- ==== Sys2Proof/Laws/Access.lean ====
section
/-!
SUPPORT. Laws/Access.lean: what a write of a core to a register does when no check stops it, said once for the commands that
are register writes.
-/

namespace Sys2Proof.Machine

/-- An aligned write that every check lets through: the register takes its fields, and what the write starts follows. -/
theorem State.busWrite_taken (s : State) (r : Req) (a : Nat) (w : Word) (fuseOk : Bool) (b : Nat) (x : RegSpec) (n : Nat)
    (hr : r.test = false) (ha : a % 8 = 0) (hs : specAt a = some (b, x, n))
    (he : s.firstError x (a - n * x.stride) a n w.toNat = none) (hc : s.accepts a w.toNat = true)
    (hd : s.delayWrite (a - n * x.stride) w.toNat = none) :
    s.busWrite r a 8 w fuseOk =
      (s.setReg a (BitVec.ofNat 64 (s.written x (a - n * x.stride) a n w.toNat))).afterWrite r (a - n * x.stride) n w.toNat
        (s.reg a).toNat fuseOk := by
  have hb : (blockOf a).isSome = true := by
    unfold specAt at hs
    cases h : blockOf a with
    | none => rw [h] at hs; cases hs
    | some v => rfl
  have hl : aligned8 a 8 = true := by simp [aligned8, ha]
  have hq : reached r a = some (b, x, n) := by simp [reached, hr, hs]
  unfold State.busWrite
  dsimp only
  rw [if_pos hb]
  unfold State.regWrite
  rw [hl, hq]
  dsimp only
  rw [he]
  dsimp only
  rw [hc, hd]
  simp

/-- As `busWrite_taken`, for a register whose value changes at the next boundary. -/
theorem State.busWrite_delayed (s : State) (r : Req) (a : Nat) (w : Word) (fuseOk : Bool) (b : Nat) (x : RegSpec) (n : Nat)
    (t : State) (hr : r.test = false) (ha : a % 8 = 0) (hs : specAt a = some (b, x, n))
    (he : s.firstError x (a - n * x.stride) a n w.toNat = none) (hc : s.accepts a w.toNat = true)
    (hd : s.delayWrite (a - n * x.stride) w.toNat = some t) : s.busWrite r a 8 w fuseOk = t := by
  have hb : (blockOf a).isSome = true := by
    unfold specAt at hs
    cases h : blockOf a with
    | none => rw [h] at hs; cases hs
    | some v => rfl
  have hl : aligned8 a 8 = true := by simp [aligned8, ha]
  have hq : reached r a = some (b, x, n) := by simp [reached, hr, hs]
  unfold State.busWrite
  dsimp only
  rw [if_pos hb]
  unfold State.regWrite
  rw [hl, hq]
  dsimp only
  rw [he]
  dsimp only
  rw [hc, hd]
  simp

end Sys2Proof.Machine
end

