-- ==== Sys2Proof/Laws/Memory.lean ====
section
/-!
SUPPORT. Laws/Memory.lean: a byte read after a write, and the canonical form of memory.
-/

namespace Sys2Proof.Machine

theorem State.byte_setByte (s : State) (a b : Nat) (v : Byte) :
    (s.setByte a v).byte b = if b = a then v else s.byte b := Sparse.get_set _ s.mem a b v

/-- A store writes its bytes from its address and leaves every other byte. -/
theorem State.byte_store (s : State) (a b : Nat) (l : List Byte) :
    (s.store a l).byte b = if h : a ≤ b ∧ b < a + l.length then l[b - a]'(by omega) else s.byte b := by
  induction l generalizing s a with
  | nil =>
    have h : ¬ (a ≤ b ∧ b < a + ([] : List Byte).length) := by simp
    simp only [State.store, h, dif_neg, not_false_iff]
  | cons v l ih =>
    rw [State.store, ih]
    by_cases h : b = a
    · have h1 : ¬ (a + 1 ≤ b ∧ b < a + 1 + l.length) := by omega
      have h2 : a ≤ b ∧ b < a + (v :: l).length := by simp only [List.length_cons]; omega
      rw [dif_neg h1, dif_pos h2, State.byte_setByte, if_pos h]
      simp [h]
    · rw [State.byte_setByte, if_neg h]
      by_cases h1 : a + 1 ≤ b ∧ b < a + 1 + l.length
      · have h2 : a ≤ b ∧ b < a + (v :: l).length := by simp only [List.length_cons]; omega
        have e : b - a = (b - (a + 1)) + 1 := by omega
        rw [dif_pos h1, dif_pos h2]
        simp [e]
      · have h2 : ¬ (a ≤ b ∧ b < a + (v :: l).length) := by simp only [List.length_cons]; omega
        rw [dif_neg h1, dif_neg h2]

/-- What a store has put in memory is what a load of its range gives. -/
theorem State.load_store (s : State) (a : Nat) (l : List Byte) : (s.store a l).load a l.length = l := by
  refine List.ext_getElem (by simp [State.load]) (fun i h _ => ?_)
  simp only [State.load, List.length_map, List.length_range] at h
  simp only [State.load, List.getElem_map, List.getElem_range, State.byte_store, Nat.le_add_right, true_and,
    Nat.add_lt_add_iff_left, h, dite_true, Nat.add_sub_cancel_left]

/-- A load depends on memory alone. -/
theorem State.load_congr {s t : State} (h : t.mem = s.mem) (a n : Nat) : t.load a n = s.load a n := by
  unfold State.load State.byte
  rw [h]

theorem State.setByte_wf (s : State) (a : Nat) (v : Byte) (h : Memory.wf s.mem) :
    Memory.wf (s.setByte a v).mem := Sparse.set_wf _ _ _ _ h

/-- Storing keeps the canonical form of memory. -/
theorem State.store_wf (s : State) (a : Nat) (l : List Byte) (h : Memory.wf s.mem) :
    Memory.wf (s.store a l).mem := by
  induction l generalizing s a with
  | nil => exact h
  | cons v l ih => exact ih _ _ (State.setByte_wf s a v h)

theorem State.reset_mem_wf : Memory.wf State.reset.mem := by decide

end Sys2Proof.Machine
end

