-- ==== Sys2Proof/Laws/Controllers.lean ====
section
/-!
SUPPORT. Laws/Controllers.lean: the memory that the sealing of a virtual controller leaves.
-/

namespace Sys2Proof.Machine

theorem State.setIps_mem (s : State) (x : Vc) (v : Nat) : (s.setIps x v).mem = s.mem := by
  unfold State.setIps
  generalize List.range x.ipCount = l
  induction l generalizing s with
  | nil => rfl
  | cons i l ih => rw [List.foldl_cons, ih, State.put_mem]

theorem State.freezeConns_mem (s : State) (v : Nat) (h : Bool) : (s.freezeConns v h).mem = s.mem := by
  unfold State.freezeConns
  generalize s.liveQueues v = l
  induction l generalizing s with
  | nil => rfl
  | cons i l ih => rw [List.foldl_cons, ih]; rfl

theorem State.tellVc_mem (s : State) (v : Nat) : (s.tellVc v).mem = s.mem := by unfold State.tellVc; split <;> rfl

theorem State.reflectSend_mem (s : State) (n : Nat) (o : Out) : (s.reflectSend n o).mem = s.mem := by
  rw [State.reflectSend, State.send_mem]

/-- VC_SEAL of a controller that may be sealed leaves its record in the save area, where its partition grants the store (R366). -/
theorem execVcSeal_saves (s : State) (v : Nat) (x : Vc) (b : List Byte) (h : s.vc v = some x) (r : s.vcRecord v x = b)
    (g : x.state = .quiescing ∧ s.vct.move.any (fun m => m.vc == v) ∧ s.inFlight v = [])
    (ok : s.memOk Src.VCT (s.fld F.VCT.SAVE_ADDR.ADDR * 64) b.length = true) :
    ∃ t, execVcSeal v s = .next t ∧ t.load (s.fld F.VCT.SAVE_ADDR.ADDR * 64) b.length = b := by
  subst r
  refine ⟨_, rfl, ?_⟩
  simp only [h]
  rw [if_pos g]
  refine (State.load_congr ?_ _ _).trans (State.load_store s _ _)
  rw [State.reflectSend_mem, State.put_mem, State.tellVc_mem]
  show (State.freezeConns _ v true).mem = _
  rw [State.freezeConns_mem, State.setIps_mem, State.storeBy, if_pos ok]

end Sys2Proof.Machine
end

