-- ==== Sys2Proof/Laws/Records.lean ====
section
/-!
SUPPORT. Laws/Records.lean: what setting an EVENT bit and making a record do, in the terms of Safety.lean.
-/

namespace Sys2Proof.Machine

theorem State.count_reg (s : State) (f : Fld) (n k a : Nat) (h : a ≠ (f.nth n).addr) :
    (s.count f n k).reg a = s.reg a := State.reg_put_other _ _ _ _ h

theorem mergeRec_mem (r : EvRec) (l q : List EvRec) (h : mergeRec r l = some q) :
    ∃ x ∈ q, x.source = r.source ∧ x.code = r.code ∧ x.object = r.object ∧ x.tick = r.tick := by
  induction l generalizing q with
  | nil => simp [mergeRec] at h
  | cons x xs ih =>
    unfold mergeRec at h
    split at h
    · rename_i e
      simp only [EvRec.sameEvent, Bool.and_eq_true, beq_iff_eq] at e
      have h := Option.some.inj h
      rw [← h]
      exact ⟨_, List.mem_cons_self, e.1.1.1.symm, e.1.1.2.symm, e.1.2.symm, e.2.symm⟩
    · cases m : mergeRec r xs with
      | none => simp [m] at h
      | some q' =>
        simp only [m, Option.map_some] at h
        have h := Option.some.inj h
        obtain ⟨y, hy, e⟩ := ih q' m
        rw [← h]
        exact ⟨y, List.mem_cons_of_mem _ hy, e⟩

/-- Making a record leaves every register but the recorder's counters. -/
theorem State.makeRecord_reg (s : State) (r : EvRec) (a : Nat) (h : a ∉ recordRegs) :
    (s.makeRecord r).reg a = s.reg a := by
  simp only [recordRegs, List.mem_cons, List.not_mem_nil, or_false, not_or] at h
  unfold State.makeRecord
  dsimp only
  split
  · rw [State.count_reg _ _ _ _ _ h.1]; exact State.reg_congr (by dsimp only) a
  · split
    · rw [State.count_reg _ _ _ _ _ h.2.2]; exact State.reg_congr (by dsimp only) a
    · split
      · rw [State.count_reg _ _ _ _ _ h.2.1]; exact State.reg_congr (by dsimp only) a
      · exact State.reg_congr (by dsimp only) a

/-- With room, the record made waits in the recorder. -/
theorem State.makeRecord_waits (s : State) (r : EvRec) (h : HasRoom s) :
    ∃ x ∈ (s.makeRecord r).evr.queue,
      x.source = r.source ∧ x.code = r.code ∧ x.object = r.object ∧ x.tick = r.tick := by
  unfold State.makeRecord
  dsimp only
  split
  · rename_i q m
    rw [State.count_evr]
    obtain ⟨x, hx, e⟩ := mergeRec_mem _ _ _ m
    exact ⟨x, hx, e⟩
  · rw [if_neg (by simp [h.1]), if_neg (by have := h.2; omega)]
    exact ⟨_, List.mem_append_right _ (List.mem_singleton.mpr (Eq.refl _)), Eq.refl _, Eq.refl _, Eq.refl _, Eq.refl _⟩

theorem State.record_reg (s : State) (n v c u x y a : Nat) (h : a ∉ recordRegs) :
    (s.record n v c u x y).reg a = s.reg a := State.makeRecord_reg _ _ _ h

theorem State.record_waits (s s0 : State) (n v c u x y : Nat) (he : s.evr = s0.evr) (ht : s.tck.tick = s0.tck.tick)
    (h : HasRoom s0) : HasRecord s0 (s.record n v c u x y) n c u := by
  obtain ⟨r, hm, h1, h2, h3, h4⟩ := State.makeRecord_waits s _ (by simpa [HasRoom, he] using h)
  exact ⟨r, hm, h1, h2, h3, by rw [h4, ht]⟩

theorem State.event_reg (s : State) (n b u x y a : Nat) (h : a ∉ eventRegs n) :
    (s.event n b u x y).reg a = s.reg a := by
  simp only [eventRegs, List.mem_cons, not_or] at h
  unfold State.event
  rw [State.record_reg _ _ _ _ _ _ _ _ h.2]
  exact State.reg_setReg_other _ _ _ _ h.1

/-- What setting an EVENT bit does, said once. -/
theorem State.event_signals (s s0 : State) (n b u x y : Nat) (ha : eventAddr n ∉ recordRegs)
    (hr : s.reg (eventAddr n) = s0.reg (eventAddr n)) (he : s.evr = s0.evr) (ht : s.tck.tick = s0.tck.tick) :
    Signals s0 (s.event n b u x y) n b u := by
  constructor
  · unfold State.event
    rw [State.record_reg _ _ _ _ _ _ _ _ ha, State.setEventBit, State.reg_setReg_same, hr]
  · intro h
    unfold State.event
    exact State.record_waits _ _ _ _ _ _ _ _ (by simpa using he) (by simpa using ht) h

end Sys2Proof.Machine
end

