-- ==== Sys2Proof/WellFormed.lean ====
section
/-!
DEFINITION. WellFormed.lean: which commands can reach the block at all: an operand that numbers a unit stays within the
units the specification gives (R8, R34, R46, R180, R310, R319, R322, R378, R395, R542, R573, R591). A command that is not
well formed names a unit the hardware does not have; exec gives it no effect on one.
-/

namespace Sys2Proof

/-- One of the 48 cores (R542). -/
def coreOk (n : Nat) : Bool := decide (n < 48)
/-- One of the two Umbra links (R395). -/
def linkOk (n : Nat) : Bool := decide (n < 2)
/-- One of the 96 Frond ports, or the Reflect link, which trains as they do (R378; port 96). -/
def frondPortOk (n : Nat) : Bool := decide (n < 97)
/-- One of the 96 modules. -/
def moduleOk (n : Nat) : Bool := decide (n < 96)
/-- One of up to 32 host ports (R319). -/
def hostPortOk (n : Nat) : Bool := decide (n < 32)
/-- One of up to 128 dies of a module (R180). -/
def dieOk (n : Nat) : Bool := decide (n < 128)
/-- One of up to 96 bays (R526). -/
def bayOk (n : Nat) : Bool := decide (n < 96)
/-- One of the 32 volume sets (R310). -/
def vsetOk (n : Nat) : Bool := decide (n < 32)
/-- One of the 24 junction sensors (R591). -/
def sensorOk (n : Nat) : Bool := decide (n < 24)
/-- One of the two sides, or of the two head slots (R376). -/
def sideOk (n : Nat) : Bool := decide (n < 2)
/-- One of the 1,024 virtual controllers. -/
def vcOk (n : Nat) : Bool := decide (n < 1024)
/-- One of the 131,072 connections (R322). -/
def connOk (n : Nat) : Bool := decide (n < 131072)
/-- Some of the 11 monitored rails (R573, R575). -/
def railsOk (n : Nat) : Bool := decide (0 < n) && decide (n < 2 ^ 11)
/-- A packet sequence number of 24 bits. -/
def psnOk (n : Nat) : Bool := decide (n < 2 ^ 24)
/-- An address of the 40-bit register space (R8, R567). -/
def addressOk (n : Nat) : Bool := decide (n < 2 ^ 40)
/-- An access of 1, 2, 4 or 8 bytes (R8). -/
def sizeOk (n : Nat) : Bool := [1, 2, 4, 8].contains n

/-- A requester is one of the cores, or the test port. -/
def Req.wf (r : Req) : Bool := r.test || coreOk r.core

/-- Every operand of a command that numbers a unit is in range. -/
def Instr.wf (i : Instr) : Bool :=
  match i with
  | .tickBoundary _ => true
  | .jobCut _ _ _ => true
  | .panelTick _ _ sensor _ => sensorOk sensor
  | .refValid link => linkOk link
  | .refMissing link => linkOk link
  | .lockGained => true
  | .holdoverEnd => true
  | .refCtlSrcWrite r _ => r.wf
  | .coldReset => true
  | .warmReset _ => true
  | .softwareReset r _ => r.wf
  | .watchdogReset => true
  | .lifeCycleReset => true
  | .supplyFault rails => railsOk rails
  | .powerFailWarning _ => true
  | .drainComplete => true
  | .powerFailRestart => true
  | .sclkLoss => true
  | .hclkLoss => true
  | .thermtrip sensor => sensorOk sensor
  | .bootVerify _ => true
  | .structureLoad _ _ => true
  | .selfTestPhaseEnd _ _ => true
  | .listenTimeout => true
  | .recoveryReplay _ => true
  | .recoveryDone => true
  | .structureSwapCommit => true
  | .restructureEnd => true
  | .commitAbandon => true
  | .rdmaReadDone _ _ => true
  | .fingerprintDone _ _ => true
  | .sporebankLookup _ => true
  | .chunkCompressDone _ _ _ => true
  | .chunkEncryptDone _ _ => true
  | .mossPlace => true
  | .writeCompletion _ => true
  | .copyPlaceAgain _ _ => true
  | .merge => true
  | .sbRegionLoad => true
  | .mapPageFetch _ _ => true
  | .chunkDecryptDone _ _ => true
  | .chunkExpandDone _ => true
  | .readCompletion _ => true
  | .cmpRingDoorbell r _ _ => r.wf
  | .cmpJobDispatch _ => true
  | .cmpJobEnd _ _ => true
  | .cmpRingEnable r _ _ => r.wf
  | .cmpRingDisable r _ _ => r.wf
  | .laneRoleTaken _ => true
  | .generate r => r.wf
  | .unwrap r => r.wf
  | .loadPlain r => r.wf
  | .setSucc r => r.wf
  | .rotate r => r.wf
  | .setLimit r => r.wf
  | .destroy r => r.wf
  | .keyReserve _ => true
  | .keyUsageRestore _ => true
  | .rewrap _ _ => true
  | .ctxOwnerWrite r _ _ _ => r.wf
  | .cipRingDoorbell r _ _ => r.wf
  | .dgsRingDoorbell r _ _ => r.wf
  | .cipJobEnd _ _ => true
  | .dgsJobEnd _ _ => true
  | .snapCreate r => r.wf
  | .snapDelete r => r.wf
  | .snapSweep _ => true
  | .keyqQuery r _ => r.wf
  | .checkpointStart => true
  | .checkpointDone => true
  | .fold => true
  | .mossRelease _ => true
  | .unitErase _ _ => true
  | .gcCopy => true
  | .chunkRewrite => true
  | .readRetry _ => true
  | .patrolRow => true
  | .patrolLate => true
  | .hostReconstruct _ _ => true
  | .sjPairMove => true
  | .rebuildRow => true
  | .rebuildCommit _ => true
  | .lossSweep _ _ _ => true
  | .reshapeStart r => r.wf
  | .reshapeAbandon r => r.wf
  | .reshapeStep => true
  | .exclReadmit r module _ => r.wf && moduleOk module
  | .moduleLoss port => frondPortOk port
  | .dieFailure port die => frondPortOk port && dieOk die
  | .trainingPatternReceived port => frondPortOk port
  | .equalisationComplete port => frondPortOk port
  | .trainTimeout port => frondPortOk port
  | .alignComplete port => frondPortOk port
  | .alignTimeout port => frondPortOk port
  | .descriptorReceived port _ => frondPortOk port
  | .identTimeout port => frondPortOk port
  | .retrainComplete port => frondPortOk port
  | .retrainTimeout port => frondPortOk port
  | .downTimeout port => frondPortOk port
  | .portEnableWrite r port _ => r.wf && frondPortOk port
  | .forceRetrain r port _ => r.wf && frondPortOk port
  | .rspReceived port _ => frondPortOk port
  | .rdataReceived port _ => frondPortOk port
  | .moduleEvent port _ => frondPortOk port
  | .frondAck port _ => frondPortOk port
  | .credit port _ => frondPortOk port
  | .replayTimeout port => frondPortOk port
  | .idleTimeout port => frondPortOk port
  | .commandTimeout port _ => frondPortOk port
  | .healthPoll => true
  | .reconStart port => frondPortOk port
  | .reconEnd port => frondPortOk port
  | .evacReq r port _ => r.wf && frondPortOk port
  | .propertyGet _ => true
  | .propertySet _ => true
  | .connect _ => true
  | .disconnect _ => true
  | .getLogPage _ => true
  | .identify _ => true
  | .abort _ => true
  | .setFeatures _ => true
  | .getFeatures _ => true
  | .asyncEventRequest _ => true
  | .keepAlive _ => true
  | .keepAliveExpiry vc => vcOk vc
  | .controllerResetDone vc => vcOk vc
  | .flush _ => true
  | .write _ => true
  | .read _ => true
  | .compare _ => true
  | .writeZeroes _ => true
  | .datasetManagement _ => true
  | .reservationRegister _ => true
  | .reservationReport _ => true
  | .reservationAcquire _ => true
  | .reservationRelease _ => true
  | .capacityExceeded conn => connOk conn
  | .actStart r => r.wf
  | .actRelease r => r.wf
  | .actQuiesced => true
  | .actTimeout => true
  | .nsRead r => r.wf
  | .nsWrite r => r.wf
  | .nsDelete r => r.wf
  | .anaForceWrite r vset _ => r.wf && vsetOk vset
  | .anattExceeded vset => vsetOk vset
  | .ctxCreate r conn => r.wf && connOk conn
  | .ctxModify r conn => r.wf && connOk conn
  | .ctxDestroy r conn => r.wf && connOk conn
  | .ctxRead r conn => r.wf && connOk conn
  | .contextFetchDone conn => connOk conn
  | .ethPortUp port => hostPortOk port
  | .ethPortDown port => hostPortOk port
  | .rawFrameReceive port _ => hostPortOk port
  | .rawTransmit r _ => r.wf
  | .roceSend _ => true
  | .roceRdmaWrite _ => true
  | .roceRdmaReadRequest _ => true
  | .roceReadResponse _ => true
  | .roceAck conn psn => connOk conn && psnOk psn
  | .roceNak conn psn _ => connOk conn && psnOk psn
  | .roceCnp conn => connOk conn
  | .roceRetransmitTimeout conn => connOk conn
  | .roceRateIncrease conn => connOk conn
  | .sprayPut _ => true
  | .sprayGet _ => true
  | .sprayAck _ => true
  | .sprayNak _ => true
  | .sprayMessageComplete conn _ => connOk conn
  | .sprayLossTimeout conn psn => connOk conn && psnOk psn
  | .pathReenable conn _ => connOk conn
  | .sprayDb r _ => r.wf
  | .workRequestStart conn => connOk conn
  | .workRequestComplete conn _ => connOk conn
  | .trigSet r _ _ => r.wf
  | .trigAdd r _ _ => r.wf
  | .vcCreate r => r.wf
  | .vcUpdate r => r.wf
  | .vcReset r => r.wf
  | .vcDestroy r => r.wf
  | .vcMove r => r.wf
  | .vcFreed vc => vcOk vc
  | .vcSeal vc => vcOk vc
  | .freezeTimeout => true
  | .vcRecordReceived _ _ _ => true
  | .markReceived _ => true
  | .peerLoss => true
  | .peerUp => true
  | .deltaApply _ _ => true
  | .deltaKeepExpiry _ => true
  | .forwardedCommand _ => true
  | .fwdRspReceived _ _ _ => true
  | .joinBulkApply _ => true
  | .returnReqSend => true
  | .witnessSlot link _ => linkOk link
  | .epochLoss _ => true
  | .umbraLinkValid link => linkOk link
  | .umbraLinkMissing link => linkOk link
  | .leaseExpired => true
  | .adoptFencesDone => true
  | .adoptJournalRead side _ => sideOk side
  | .stripeCheck side _ _ => sideOk side
  | .handbackStart r => r.wf
  | .drainEnd => true
  | .handbackSeal => true
  | .handbackDone => true
  | .binEnd => true
  | .pacerFallback => true
  | .pacerClosed => true
  | .pcrForceWrite r _ => r.wf
  | .todWrite r _ => r.wf
  | .rcDataWrite r _ => r.wf
  | .simVerify r => r.wf
  | .simStage r => r.wf
  | .stagingDone _ => true
  | .simCommit r => r.wf
  | .simCancel r => r.wf
  | .simLoad r => r.wf
  | .submit r => r.wf
  | .enterMaker r _ => r.wf
  | .provision r _ _ => r.wf
  | .field r _ => r.wf
  | .enterRtm r _ => r.wf
  | .void r _ => r.wf
  | .addKey r _ _ => r.wf
  | .revoke r _ _ => r.wf
  | .raiseRollback r _ _ => r.wf
  | .zeroise r => r.wf
  | .awkGenerate r => r.wf
  | .awkExport r => r.wf
  | .awkImport r => r.wf
  | .devicePub r => r.wf
  | .rcfUnlock r _ => r.wf
  | .rcfProgram r _ _ => r.wf
  | .rcfProgramBurst r _ _ => r.wf
  | .rcfErase r _ => r.wf
  | .rcfSuspend r => r.wf
  | .rcfResume r => r.wf
  | .rcfRotate r _ => r.wf
  | .rcfOperationEnd _ _ => true
  | .autoSuspend => true
  | .suspendLimitExpiry => true
  | .recordFlashScan => true
  | .spareErase _ => true
  | .wearMove => true
  | .evrFlush _ => true
  | .timeRecord => true
  | .evrRdSeqWrite r _ => r.wf
  | .swRecord r _ => r.wf
  | .evrClear r => r.wf
  | .clearRotationDone => true
  | .faultReport _ _ _ _ => true
  | .fltAck r _ _ => r.wf
  | .ackTimeout _ => true
  | .wdogEnable r _ => r.wf
  | .wdogKick r _ => r.wf
  | .wdogStage1 => true
  | .laneStall _ _ => true
  | .boundaryWatchdog => true
  | .fltInject r _ => r.wf
  | .chainRefresh _ => true
  | .chatterClear _ => true
  | .presenceChange bay => bayOk bay
  | .latchOpen bay => bayOk bay
  | .latchClose bay => bayOk bay
  | .attentionPress bay => bayOk bay
  | .powerButtonRelease => true
  | .powerButtonLong => true
  | .serviceButtonPress => true
  | .buttonStuck _ => true
  | .qclr r bay => r.wf && bayOk bay
  | .leverOpen => true
  | .leverClose => true
  | .coreRunWrite r _ => r.wf
  | .irqEoi r _ => r.wf
  | .machineTimer core => coreOk core
  | .pcieLinkUp _ _ => true
  | .pcieLinkDown => true
  | .pcieInboundRequest _ => true
  | .mctpControlMessage _ => true
  | .managementMessage _ => true
  | .mctpTx r _ => r.wf
  | .memFillDone => true
  | .scrubPass => true
  | .wideValueRead r addr size => r.wf && addressOk addr && sizeOk size
  | .registerWrite r addr size _ => r.wf && addressOk addr && sizeOk size
  | .porstRelease hslot => sideOk hslot
  | .unheldSideClaim side => sideOk side
  | .busyHoldOffEnd conn psn => connOk conn && psnOk psn
  | .umbraMidwaySlot => true
  | .dynamicAddressAssignment _ _ => true

end Sys2Proof
end

