-- ==== Sys2Proof/Tests/Slice0.lean ====
section
/-!
SUPPORT. Tests/Slice0.lean: for each obligation with hypotheses, a state and operands that meet them, clause by clause, with
what the command does there; the checks of WellFormed; and the worked examples of spec/.
-/

namespace Sys2Proof.Tests

open Machine

set_option maxRecDepth 100000
set_option Elab.async false

/-- The command answers a next state that passes. -/
def got (c : Instr) (s : State) (p : State → Bool) : Bool :=
  match exec c s with
  | .next t => p t
  | _ => false

/-- No register, clock or record changes. -/
def still (c : Instr) (s : State) : Bool := got c s (fun t => t.regs == s.regs && t.tck == s.tck && t.evr == s.evr)

/-- Every register held reads as before but those at the addresses listed. -/
def regsBut (but : List Nat) (s t : State) : Bool :=
  (Tab.keys s.regs ++ Tab.keys t.regs).all fun a => but.contains a || t.reg a == s.reg a

/-- The bit of the EVENT register is set, and the record of it waits. -/
def told (src bit unit : Nat) (t : State) : Bool :=
  (t.reg (eventAddr src)).getLsbD bit && t.evr.queue.any (fun r => r.source == src && r.code == bit && r.object == unit)

/-- After PORST_N, in a mode, at tick 1,000,000. -/
def at_ (m : Mode) : State := { State.reset with
  lcs := { State.reset.lcs with mode := m }, tck := { State.reset.tck with ticking := true, tick := 1000000 } }

/-- A core's access. -/
def core : Req := { test := false, core := 3 }

/-- A record of an event. -/
def aRec (code : Nat) : EvRec :=
  { seq := 0, opTime := 0, powerCycles := 0, tick := 5, parent := 0, source := 4, severity := 1, code := code, object := 7,
    repeats := 0, arg0 := 0, arg1 := 0 }

/-- A recorder that holds n records. -/
def withRecords (n : Nat) : State := { State.reset with
  evr := { State.reset.evr with full := false, queue := (List.range n).map aRec } }

/-- HBM ready, its first gibibyte granted to every requester. -/
def withMem (s : State) : State :=
  ((((s.put (F.MEM.PART_BASE.BASE.nth 0) (hbmBase / 2 ^ 21)).put (F.MEM.PART_SIZE.SIZE.nth 0) 512).put
    (F.MEM.PART_CTL.GRANT.nth 0) (2 ^ 32 - 1)).put (F.MEM.PART_CTL.EN.nth 0) 1).put F.MEM.STATUS.HBM_READY 1

/-! Ticks, the queue of commands, and the recorder. -/

theorem witness_StepTakesFrontCommand : State.reset.pending = [] := by decide

theorem witness_StepKeepsMemoryCanonical : Memory.wf State.reset.mem ∧ step State.reset = .next State.reset := ⟨by decide, rfl⟩

theorem witness_EventBitMakesItsRecord :
    22 < 23 ∧ 63 < 64 ∧ HasRoom (withRecords 0) ∧ told 22 63 9 ((withRecords 0).event 22 63 9) = true := by
  refine ⟨by decide, by decide, ⟨by decide, by decide +kernel⟩, by decide +kernel⟩

theorem witness_RecorderNumbersMergesAndDrops :
    ((∀ q ∈ (withRecords 254).evr.queue, (aRec 254).sameEvent q = false) ∧ (withRecords 254).evr.full = false ∧
      (withRecords 254).evr.queue.length < 255) ∧
    ((∀ q ∈ (withRecords 255).evr.queue, (aRec 255).sameEvent q = false) ∧ 255 ≤ (withRecords 255).evr.queue.length) ∧
    ((withRecords 2).evr.queue = [aRec 0] ++ aRec 1 :: [] ∧ (aRec 1).sameEvent (aRec 0) = false ∧
      (aRec 1).sameEvent (aRec 1) = true) ∧
    ((∀ q ∈ (withRecords 0).evr.queue, (aRec 0).sameEvent q = false) ∧
      ({ State.reset with evr := { State.reset.evr with full := true } } : State).evr.full = true) := by
  refine ⟨?_, ?_, ?_, ?_⟩ <;> decide +kernel

theorem witness_TicksRunFromPorstRelease :
    State.reset.tck.ticking = false ∧ (at_ .reset).tck.ticking = true ∧
    got (.porstRelease 1) State.reset (fun t => t.tck.ticking && t.tck.headSlot == 1) = true := by
  refine ⟨?_, ?_, ?_⟩ <;> decide +kernel

/-- A sample of a boundary with a phase error. -/
def sampleOf (phase : Int) : BoundarySample := { phaseErr := phase, trim := 0, leverPinOpen := false, supplyBad := false }

/-- Aligned as given, on link 0, whose reference is valid, as is that of link 1 where asked. -/
def aligned (a : AlignState) (run : Nat) (both : Bool) : State := let s := at_ .dualActive
  { s with tck := { s.tck with align := a, refValid0 := true, refValid1 := both, refLink := 0, goodRun := run } }

/-- TCK.REF_CTL.SRC as given. -/
def srcOf (n : Nat) (s : State) : State := s.put F.TCK.REF_CTL.SRC n

/-- A MARK of a peer in LOCKED, with a tick length. -/
def peerMark (len : Nat) : Mark := {
  tick := 1000000, mode := 0, tickLen := len, align := 2, head := 1, own := 0, tag := 0, epoch := 0, compat := 0, arrived := 1000000, arrival := 0 }

/-- Aligned as given, with the peer's boundaries some nanoseconds away. -/
def following (a : AlignState) (m : Mode) (off : Int) (len : Nat) : State := let s := aligned a 0 true
  { s with
    lcs := { s.lcs with mode := m }, tck := { s.tck with peerOffset := off }
    rfl := { s.rfl with link := .up, mark := some (peerMark len) } }

theorem witness_BoundaryAlignment :
    ((aligned .locked 0 true).tck.align = .locked ∧ 200 < (sampleOf (-201)).phaseErr.natAbs ∧
      (aligned .locked 0 true).tck.refValid (aligned .locked 0 true).tck.refLink = true ∧
      told Src.TCK 1 0 ((aligned .locked 0 true).alignBoundary (sampleOf (-201))) = true) ∧
    ((sampleOf 200).phaseErr.natAbs ≤ 200 ∧ ((aligned .locked 0 true).alignBoundary (sampleOf 200)).tck.align = .locked) ∧
    ((aligned .acquire 15 true).tck.align = .acquire ∧ ((aligned .acquire 15 true).alignBoundary (sampleOf 200)).tck.goodRun = 16 ∧
      ((aligned .acquire 15 true).alignBoundary (sampleOf 201)).tck.goodRun = 0) ∧
    ((aligned .holdover 3 true).tck.align = .holdover ∧ (aligned .holdover 3 true).alignRole ≠ 2) ∧
    (let len := (at_ .dualActive).fld F.TCK.CONFIG.TICK_LEN;
      [AlignState.free, .holdover].all (fun a => let s := following a .dualActive 101 len
        s.tck.align == a && s.alignRole == 2 && !s.lcs.mode.stepsPhase &&
          (s.alignBoundary ⟨0, -5, false, false⟩).tck.trim == -5 &&
          ((following a .dualActive 100 len).alignBoundary ⟨0, -5, false, false⟩).tck.trim == 0) = true) ∧
    (let s : State := following .acquire .structureLoad 0 0;
      s.tck.align = .acquire ∧ s.lcs.mode.stepsPhase = true ∧ s.tck.stepped = false ∧ (s.alignBoundary (sampleOf 9)).tck.step = -9 ∧
        ((s.alignBoundary (sampleOf 9)).alignBoundary (sampleOf 4)).tck.step = 0) ∧
    0 ≤ (at_ .dualActive).maxTrim ∧
    (let s : State := following .free .dualActive 101 3;
      s.rfl.mark = some (peerMark 3) ∧ (peerMark 3).tickLen ≠ s.fld F.TCK.CONFIG.TICK_LEN) := by
  refine ⟨?_, ?_, ?_, ?_, ?_, ?_, ?_, ?_⟩ <;> decide +kernel

theorem witness_AlignmentTransitions :
    ((aligned .free 3 true).tck.align = .free ∧ (srcOf 2 (aligned .free 3 true)).selectable 0 = true ∧
      got (.refValid 0) (srcOf 2 (aligned .free 3 true)) (fun t => t.tck.align == .acquire) = true) ∧
    ((aligned .holdover 3 true).tck.align = .holdover ∧ (srcOf 1 (aligned .holdover 3 true)).selectable 1 = true ∧
      got (.refValid 1) (srcOf 1 (aligned .holdover 3 true)) (fun t => t.tck.refLink == 1) = true) ∧
    ((aligned .locked 3 true).tck.refLink ≠ 1 ∧ got (.refMissing 1) (aligned .locked 3 true) (fun t => t.tck.align == .locked) = true) ∧
    ((srcOf 2 (aligned .locked 3 true)).fld F.TCK.REF_CTL.SRC = 2 ∧ (aligned .locked 3 true).tck.refValid 1 = true ∧
      got (.refMissing 0) (srcOf 2 (aligned .locked 3 true)) (fun t => t.tck.refLink == 1 && told Src.TCK 3 1 t) = true) ∧
    ((aligned .locked 3 false).tck.refValid 1 = false ∧
      got (.refMissing 0) (aligned .locked 3 false) (fun t => t.tck.align == .holdover && told Src.TCK 2 0 t) = true) ∧
    ((aligned .acquire 3 false).tck.align = .acquire ∧
      got (.refMissing 0) (aligned .acquire 3 false) (fun t => t.tck.align == .free && told Src.TCK 2 0 t) = true) ∧
    (16 ≤ (aligned .acquire 16 false).tck.goodRun ∧
      got .lockGained (aligned .acquire 16 false) (fun t => t.tck.align == .locked && told Src.TCK 0 0 t) = true) ∧
    ((aligned .holdover 0 false).tck.holdSince + (aligned .holdover 0 false).ticksIn 500000 ≤ (aligned .holdover 0 false).tck.tick ∧
      got .holdoverEnd (aligned .holdover 0 false) (fun t => t.tck.align == .free && told Src.TCK 4 0 t) = true) := by
  refine ⟨?_, ?_, ?_, ?_, ?_, ?_, ?_, ?_⟩ <;> decide +kernel

/-- A panel tick. -/
def atPanel : State := let s := at_ .dualActive
  { s with tck := { s.tck with tick := 512 * 2000 } }

/-- A chunk of 256 bytes before CIP, on lane 47, which has 10 engine cycles left. -/
def cutting : State := let s := at_ .dualActive
  { s with
    rdx := { s.rdx with chunks := [(0, { cutJob 0 1 1 0 [] with cmd := none, stage := .compressed, lane := some 47, payload := List.replicate 256 7 })] }
    lanes := { s.lanes with cip := { s.lanes.cip with used := [(47, 3990)] } } }

/-- A read of a page. -/
def heldRead : FrnCmd := {
  op := 1, die := 0, block := 0, page := 0, count := 1, mode := 0, retry := 0, col := 0, xlen := 0, mask := 0, dlen := 0, src := []
  purpose := .probe, host := true, epoch := 0, sent := 0, lseq := 0, probed := false, data := [] }

/-- A read waits on port 95, whose line has no room left in the tick. -/
def lined : State := let s := at_ .dualActive
  s.setPort 95 { s.coldPort 95 with held := [heldRead], line := s.portBudget }

theorem witness_SourceWriteCutAndPanelTick :
    (core.test = false ∧ got (.refCtlSrcWrite core (fieldWord F.TCK.REF_CTL.SRC 3)) (aligned .locked 0 true)
      (fun t => t.tck.align == .free && t.fld F.TCK.REF_CTL.SRC == 3) = true) ∧
    (2 < 3 ∧ got (.refCtlSrcWrite core (fieldWord F.TCK.REF_CTL.SRC 1)) (aligned .locked 0 true)
      (fun t => t.tck.align == .acquire && t.tck.refLink == 1) = true) ∧
    (47 < cutLanes 2 ∧ cutting.cutAt .cip (.write 0) 10 48 = some ⟨.exactly 48, 28, 10, false⟩ ∧ 10 < 28 ∧
      (cutting.lanes.of .cip).spent 47 = 3990 ∧ cutting.tickCycles = 4000 ∧
      ((cutting.laneTasks .cip 47).find? (fun t => t.ready && cutting.atFront .cip 47 t)).any (fun t => t.item == .write 0) = true ∧
      got (.jobCut 2 47 48) cutting (fun t => t.fld (F.TCK.CUT_COUNT.COUNT.nth 2) == 1) = true) ∧
    (95 < 96 ∧ heldRead.op = 1 ∧ lined.lineTakes (lined.port 95) (frameLen 64) false = false ∧ (lined.port 95).cut.contains 5 = false ∧
      got (.jobCut 5 95 0) lined (fun t => (t.port 95).cut == [5] && t.fld (F.TCK.CUT_COUNT.COUNT.nth 5) == 1) = true) ∧
    ((at_ .dualActive).laneTasks .cip 0 = [] ∧ still (.jobCut 2 0 48) (at_ .dualActive) = true) ∧
    (atPanel.tck.ticking = true ∧ atPanel.panelTick = true ∧
      got (.panelTick true false 0 40) atPanel (fun t => t.tck.tick == atPanel.tck.tick) = true) := by
  refine ⟨?_, ?_, ?_, ?_, ?_, ?_⟩ <;> decide +kernel

/-! Resets, power, boot and Self-Test. -/

/-- Power-Fail Drain, ended or not, with a supply good for some ticks. -/
def draining (ended : Bool) (good : Nat) : State := let s := at_ .powerFailDrain
  { s with lcs := { s.lcs with drainEnded := ended, supplyGood := good, drainStart := 999500 } }

theorem witness_OtherResetsKeepWhatTheyKeep :
    ((draining true 50000).lcs.mode = .powerFailDrain ∧ (draining true 50000).lcs.drainEnded = true ∧
      (draining true 50000).ticksIn 100000 ≤ (draining true 50000).lcs.supplyGood ∧
      got .powerFailRestart (draining true 50000) (fun t => t.lcs.resetCause == .powerFail && t.lcs.mode == .reset) = true) ∧
    ((draining true 49999).lcs.supplyGood < (draining true 49999).ticksIn 100000 ∧
      still .powerFailRestart (draining true 49999) = true ∧ (draining false 50000).lcs.drainEnded = false) := by
  refine ⟨?_, ?_⟩ <;> decide +kernel

theorem witness_ResetAndSupplyInputsAreCaptured :
    (1000 ≤ 1000 ∧ got (.warmReset 1000) (at_ .dualActive) (fun t => t.tck.latches == [.reset .warm]) = true) ∧
    (200 ≤ 200 ∧ still (.warmReset 200) (at_ .dualActive) = true) ∧
    (core.test = false ∧ got (.softwareReset core (fieldWord F.LCS.SW_RESET.KEY 0x5352)) (at_ .dualActive)
      (fun t => t.tck.latches == [.reset .software] && regsBut [] (at_ .dualActive) t) = true) ∧
    (let s : State := { at_ .eclipse with lcs := { (at_ .eclipse).lcs with lifeResetDue := true } };
      s.lcs.lifeResetDue = true ∧ got .lifeCycleReset s (fun t => t.tck.latches == [.reset .lifeCycle]) = true) ∧
    ((at_ .dualActive).tck.ticking = true ∧ 5 % 2 ^ 11 ≠ 0 ∧
      got (.supplyFault 5) (at_ .dualActive) (fun t => t.tck.latches == [.supplyFault 5]) = true) ∧
    got .sclkLoss (at_ .dualActive) (fun t => t.tck.latches.length == 1) = true ∧
    (23 < 24 ∧ got (.thermtrip 23) (at_ .dualActive) (fun t => t.lcs.thermTripped) = true) ∧
    (100 < 101 ∧ got (.powerFailWarning 101) (at_ .dualActive) (fun t => t.tck.latches == [.powerFailWarning]) = true) ∧
    (100 ≤ 100 ∧ still (.powerFailWarning 100) (at_ .dualActive) = true) := by
  refine ⟨?_, ?_, ?_, ?_, ?_, ?_, ?_, ?_, ?_⟩ <;> decide +kernel

theorem witness_DrainEndsAndHostClockLoss :
    ((draining false 0).lcs.mode = .powerFailDrain ∧ (draining false 0).lcs.drainEnded = false ∧
      ((draining false 0).programsAnswered && (draining false 0).evr.queue == []) = true ∧
      got .drainComplete (draining false 0) (fun t => t.lcs.drainEnded && t.fld F.LCS.PFD_STATUS.RESULT == 0 &&
        t.fld F.LCS.PFD_STATUS.LAST_US == 1000) = true) ∧
    (let s : State := { draining false 0 with
        lcs := { (draining false 0).lcs with drainStart := 999000 }, evr := (withRecords 1).evr };
      s.lcs.drainStart + s.ticksIn 2000 ≤ s.now ∧
        got .drainComplete s (fun t => t.fld F.LCS.PFD_STATUS.RESULT == 1) = true) ∧
    0 < (at_ .dualActive).hostPorts := by
  refine ⟨?_, ?_, ?_⟩ <;> decide +kernel

/-- A boot loader image of 1,024 bytes, IMAGE_SEQ 5, signed by the key 2 under the nonce 1. -/
def bootImage : Nat := 0x88600000004000000005000004000001424c + 2 ^ 4096 *
  0x7bc7169d4aab33b4858bfd49fe7e5b7da78228a3108bceb009b10edf26670a4c635ccce84e9fdb12ab10215d698e4664b70a7672385e543a6c2955bf5df20255382a5482e041f759989ba78b623b1d6e74ad20f31ec7b18e37058bbe22ca87aa800e940a701e50612de2394de943fd5f25b46a255f504e903ec46cbc75d875b274ba6dfddfe8bfb7ed3c1b5bfaf1808e61df9552c7a9965bf8640ebe6ee8e04f9e6eb99fd107d251d634f4a659590289f0975bc545002669d9d2a37b0599d9080000000000015347

/-- SHA-384 of the public key. -/
def bootDigest : BitVec 384 :=
  0x728f0b1f7c8f999347dca33c1964cf745779012692830edc267075562dc31278439732d095ad7c6363eb54eb284bc8e4

/-- In Reset, Provisioned, with that image in slot 0. -/
def bootable : State := let s := at_ .reset
  { s with
    lcs := { s.lcs with fuses := { s.lcs.fuses with lc := 0x3F, imgDigest := [(0, bootDigest)] } }
    rcf := { s.rcf with flash := (List.range 128).map (fun i => (i, BitVec.ofNat 64 (bootImage >>> (64 * i)))) }
    evr := { s.evr with flushing := false } }

/-- In Self-Test, in a phase. -/
def selfTest (phase : Nat) : State := let s := at_ .selfTest
  { s with lcs := { s.lcs with stPhase := phase } }

/-- That state, with the life-cycle state of its fuses. -/
def booting : State := { bootable with lcs := { bootable.lcs with life := bootable.lcs.fuses.lifeState } }

/-- The bytes of slot 0. -/
def bootRd : Nat → Byte := booting.rcf.bootByte 0

/-- A signature verifies when its parts, worked out one by one, are as the standard asks. -/
theorem verify_of_parts {x y r s h w a b : Nat} {m : List Byte} {p q : JPoint}
    (range : ¬ (r = 0 ∨ r ≥ p384N ∨ s = 0 ∨ s ≥ p384N ∨ (!onCurve x y) = true)) (hash : beNat (sha384 m) = h) (inv : invMod s p384N = w)
    (first : JPoint.mul (h * w % p384N) ⟨p384G.1, p384G.2, 1⟩ = p) (second : JPoint.mul (r * w % p384N) ⟨x, y, 1⟩ = q)
    (sum : (p.add q).affine = some (a, b)) (same : (a % p384N == r) = true) : ecdsaVerify x y m r s = true := by
  subst hash inv first second
  unfold ecdsaVerify
  rw [if_neg range]
  simp only [sum, same]

/-- The numbers of that signature: SHA-384 of the bytes signed, the inverse of its second number, and the two multiples. -/
def bootHash : Nat := 0xf36fa23e00b063bf5781111028b017a6fcff061c7bf79d8c44354d192b75c162b6fa7f51403e0282c77084484efdb80

def bootInverse : Nat := 0xd3370a96722ba378bbdc054b40952fd71838cdb11ed7ba89812dac86501e84d3a3321040235f293f33e4c55d160025d3

def bootFirst : JPoint := ⟨
  0x1888efa1447ff3e2ba27eea318c52dba8d562825b318427de5c2b5d537d67f95ebe8b611757bf937c49ca9060b77123b,
  0x43b726008ede025dcd96239294f5d52d2033c241dc17aa3c4f3d51d16f660fbd68ea418dfbe760b1648cb66dee2c6e83,
  0x23a933c9f7005923ba2a51a4bc94eba4fd9c41c2b73970782f102ffe48f6cbe013f1d8462dbdd749c69a1cfb8b2c33ea⟩

def bootSecond : JPoint := ⟨
  0x495df30c4a937ddf9f4a641c1caa3855f8fcb45d94708227d4cd3d26557ee37718749d86c27b8c2ebb48fe2e9d53b4dc,
  0xfb1c9157a4d03d3dc35bc723e1ea72ac27515a0fb1513a507002dbe1859d5cadb7070e074f7961649ef56714a6ffb867,
  0x7dc1415a3b36b991dd4cc7d4ab98fd6a86b18095517bb292fb3f14b5f5ebe88636350c190add3e024954925a36c552b5⟩

theorem boot_hash : beNat (sha384 (Machine.readAt bootRd 0 616)) = bootHash := by decide +kernel

theorem boot_inverse : invMod (beAt bootRd 664 48) p384N = bootInverse := by decide +kernel

theorem boot_first : JPoint.mul (bootHash * bootInverse % p384N) ⟨p384G.1, p384G.2, 1⟩ = bootFirst := by decide +kernel

theorem boot_second :
    JPoint.mul (beAt bootRd 616 48 * bootInverse % p384N) ⟨beAt bootRd 520 48, beAt bootRd 568 48, 1⟩ = bootSecond := by
  decide +kernel

theorem boot_signature : signatureOk bootRd 1024 = true := by
  have sum : (bootFirst.add bootSecond).affine = some (((bootFirst.add bootSecond).affine.getD (0, 0)).1,
      ((bootFirst.add bootSecond).affine.getD (0, 0)).2) := by decide +kernel
  have e : ecdsaVerify (beAt bootRd 520 48) (beAt bootRd 568 48) (Machine.readAt bootRd 0 616) (beAt bootRd 616 48)
      (beAt bootRd 664 48) = true := verify_of_parts (by decide +kernel) boot_hash boot_inverse boot_first boot_second sum (by decide +kernel)
  have magic : (leAt bootRd 512 2 == 0x5347 && leAt bootRd 514 1 == 1) = true := by decide +kernel
  simp only [signatureOk, Nat.reduceSub, Nat.reduceAdd, e, magic, Bool.and_true]

theorem boot_ok : booting.bootOk 0 = true := by
  have len : leAt bootRd 4 4 = 1024 := by decide +kernel
  have e : booting.bootOk 0 = (leAt bootRd 0 2 == 0x424C && leAt bootRd 2 1 == 1 && leAt bootRd 3 1 == 0 && leAt bootRd 16 2 == 0x8860 &&
      zeroAt bootRd 18 46 && leAt bootRd 4 4 % 64 == 0 && decide (1024 ≤ leAt bootRd 4 4) && decide (leAt bootRd 4 4 ≤ 2 ^ 22) &&
      leAt bootRd 12 4 % 4 == 0 && decide (leAt bootRd 12 4 < leAt bootRd 4 4 - 512) && signatureOk bootRd (leAt bootRd 4 4) &&
      zeroAt bootRd (leAt bootRd 4 4 - 508) 4 && zeroAt bootRd (leAt bootRd 4 4 - 312) 312 &&
      booting.lcs.keyAllowed (signer bootRd (leAt bootRd 4 4)).1 (signer bootRd (leAt bootRd 4 4)).2 &&
      booting.lcs.rollbackOk (leAt bootRd 8 4)) := rfl
  rw [e, len, boot_signature]
  decide +kernel

theorem choose_first (s : State) (h0 : s.bootOk 0 = true) (h1 : s.bootOk 1 = false) : s.chooseBoot.1 = some 0 := by
  unfold State.chooseBoot chooseSlot
  by_cases hl : s.fld F.APC.BOOT_CTL.TRIAL = 0 <;> by_cases hd : s.fld F.APC.BOOT_CTL.TRIED = 0 <;>
    by_cases h1' : s.fld F.APC.BOOT_CTL.PREF = 1 <;> by_cases h2' : s.fld F.APC.BOOT_CTL.PREF = 2 <;> simp_all

theorem boot_other : booting.bootOk 1 = false := by decide +kernel

theorem witness_boot_slot_verifies : booting.chooseBoot.1 = some 0 := choose_first _ boot_ok boot_other

theorem witness_BootAndSelfTestPhases :
    (let s : State := { bootable with lcs := { bootable.lcs with fuses := { bootable.lcs.fuses with lc := 0 } } };
      s.lcs.mode = .reset ∧ s.tck.ticking = true ∧ s.evr.flushing = false ∧ s.lcs.fuses.lifeState = .blank ∧
      got (.bootVerify []) s (fun t => t.lcs.mode == .reset) = true) ∧
    (bootable.lcs.mode = .reset ∧ bootable.tck.ticking = true ∧ bootable.evr.flushing = false ∧
      bootable.lcs.fuses.lifeState = .provisioned) ∧
    (let s : State := { bootable with rcf := { bootable.rcf with flash := [] } };
      s.lcs.fuses.lifeState = .provisioned ∧
      ({ s with lcs := { s.lcs with life := s.lcs.fuses.lifeState } } : State).chooseBoot.1 = none ∧
      got (.bootVerify []) s (fun t => t.lcs.bootFail && t.lcs.mode == .reset) = true) ∧
    ((selfTest 1).lcs.mode = .selfTest ∧ (selfTest 1).lcs.stFail = false ∧
      got (.selfTestPhaseEnd true 0) (selfTest 1) (fun t => t.lcs.stPhase == 2) = true) ∧
    ((selfTest 2).lcs.stPhase = 2 ∧ (selfTest 2).lcs.stFail = false ∧
      got (.selfTestPhaseEnd true 0) (selfTest 2) (fun t => t.lcs.stPhase == 3 && t.flag F.MEM.STATUS.HBM_READY) = true) ∧
    ((selfTest 3).lcs.stEntry + (selfTest 3).fld F.LCS.START_CTL.LINK_WAIT ≤ (selfTest 3).now ∧
      got (.selfTestPhaseEnd true 0) (selfTest 3) (fun t => t.lcs.stPhase == 4 && t.lcs.listenSince == 1000000) = true) ∧
    got (.selfTestPhaseEnd false 7) (selfTest 1) (fun t => t.lcs.mode == .eclipse && t.lcs.stFail) = true ∧
    ((selfTest 4).flag F.BAY.LEVER.OPEN = false ∧
      (selfTest 4).lcs.listenSince + (selfTest 4).fld F.LCS.START_CTL.LISTEN ≤ (selfTest 4).now ∧ (selfTest 4).rfl.mark = none ∧
      got .listenTimeout (selfTest 4) (fun t => t.lcs.stPhase == 5) = true) := by
  refine ⟨?_, ?_, ?_, ?_, ?_, ?_, ?_, ?_⟩ <;> decide +kernel
/-! Keys, structure images and the life cycle. -/

/-- A data key in a state, with blocks reserved and NEXT. -/
def keyOf (st : KeyState) (res next : Nat) (valid : Bool) : KeySlot := {
  state := st, keyId := 9, key := List.replicate 32 7, limit := 1000, next := next, resOwn := res, resPeer := 2, durable := res,
  usageValid := valid, succ := some 3, sender := 0, warned := false }

/-- Data slot 4,095 holds that key; a key command waits. -/
def keyed (st : KeyState) (p : KeyPending) : State := let s := at_ .dualActive
  { s with cip := { s.cip with data := [(4095, keyOf st 1 0 true)], pending := some p } }

theorem witness_CommandRegistersStartTheirCommand :
    (FromCore core ∧ (at_ .dualActive).flag F.CIP.KEY_STATUS.BUSY = false ∧
      got (.generate core) (at_ .dualActive) (fun t => t.flag F.CIP.KEY_STATUS.BUSY && t.cip.pending.any (fun p => p.op == 1)) = true) ∧
    (((at_ .dualActive).put F.CIP.KEY_STATUS.BUSY 1).flag F.CIP.KEY_STATUS.BUSY = true ∧
      got (.destroy core) ((at_ .dualActive).put F.CIP.KEY_STATUS.BUSY 1) (fun t => t.cip.pending.isNone) = true) := by
  unfold FromCore; decide +kernel

theorem witness_KeyCommandsAtTheirBoundary :
    (let a0 : Word := 0x000000050000103F; let a1 : Word := 0x10;
      let s : State := keyed .ready ⟨3, a0, a1⟩;
      63 < slotCount 1 ∧ a0.toNat = bits a0.toNat 63 32 * 2 ^ 32 + bits a0.toNat 27 16 * 2 ^ 16 + 0x1000 + 63 ∧
      a1.toNat < 2 ^ 48 ∧ s.slot 1 63 = none ∧ limitOk (bits a1.toNat 31 0) = true ∧ s.badId 1 (bits a0.toNat 63 32) = false ∧
      s.runKeyCommand.fld F.CIP.KEY_STATUS.RESULT = 0 ∧ (s.runKeyCommand.slot 1 63).isSome = true) ∧
    (let a0 : Word := 0x0FFF0FFF; let s : State := keyed .ready ⟨4, a0, 0⟩;
      4095 < slotCount 0 ∧ a0.toNat = 4095 * 2 ^ 16 + 4095 ∧ s.slot 0 4095 = some (keyOf .ready 1 0 true) ∧
      (s.runKeyCommand.slot 0 4095).any (fun k => k.succ.isNone) = true) ∧
    (let s : State := keyed .active ⟨7, 0xFFF, 0⟩;
      s.slot 0 4095 = some (keyOf .active 1 0 true) ∧ s.runKeyCommand.fld F.CIP.KEY_STATUS.RESULT = 0 ∧
      s.runKeyCommand.slot 0 4095 = none) ∧
    (let s : State := keyed .retiring ⟨5, 0xFFF, 0⟩;
      KeyState.retiring ≠ .active ∧ s.runKeyCommand.fld F.CIP.KEY_STATUS.RESULT = 2) ∧
    (let k : KeySlot := { keyOf .active 1 0 true with limit := 1 };
      let s : State := { at_ .dualActive with cip := { State.reset.cip with data := [(3, keyOf .ready 1 0 true), (9, k)] } };
      s.slot 0 9 = some k ∧ k.warned = false ∧ k.warnAt ≤ k.usedBlocks 0 ∧ s.successor 0 k = some (3, keyOf .ready 1 0 true) ∧ 3 ≠ 9 ∧
      (s.checkWarn 0 9).slot 0 3 = some (keyOf .active 1 0 true)) := by
  refine ⟨?_, ?_, ?_, ?_, ?_⟩ <;> decide +kernel

/-- Some grant of every class. -/
def withGrants (s : State) : State := { s with
  pcr := { s.pcr with classes := s.pcr.classes.map (fun c => { c with grant := 1000000 }) } }

/-- Both sides held, data slot 0 holds a key. -/
def holding (k : KeySlot) : State := let s := at_ .dualActive
  { s with cip := { s.cip with data := [(0, k)] }, wit := { s.wit with own := 3 } }

theorem witness_KeyUsageIsReservedAndRestored :
    (let k := keyOf .active 1 (2 ^ 19) true; let s : State := holding k;
      s.slot 0 0 = some k ∧ k.usageValid = true ∧ k.state ≠ .exhausted ∧ s.holdsSide = true ∧
      k.resOwn * 2 ^ 20 ≤ k.next + 2 ^ 19 ∧ k.usedBlocks 0 < k.limit ∧
      got (.keyReserve 0) s (fun t => (t.slot 0 0).any (fun x => x.resOwn == 2) && t.ftl.journal.length == 1) = true) ∧
    (let k := keyOf .active 1 (2 ^ 19) true; let s : State := holding k; let f : Ftl := { State.reset.ftl with side := 1 };
      let s : State := { s with wit := { s.wit with own := 2 }, other := some (f, s.rdn) };
      s.wit.own.testBit s.tck.headSlot = false ∧ s.ftl.side ≠ 1 - s.tck.headSlot ∧ f.side = 1 - s.tck.headSlot ∧
      got (.keyReserve 0) s (fun t => t.ftl.journal == [] && t.other.any (fun p => p.1.journal.length == 1)) = true) ∧
    ((keyOf .active 1 (2 ^ 19 - 1) true).next + 2 ^ 19 < (keyOf .active 1 0 true).resOwn * 2 ^ 20 ∧
      still (.keyReserve 0) (holding (keyOf .active 1 (2 ^ 19 - 1) true)) = true) ∧
    (let s : State := withGrants (holding (keyOf .active 1 0 false));
      s.slot 0 0 = some (keyOf .active 1 0 false) ∧ (keyOf .active 1 0 false).usageValid = false ∧ s.granted Cls.mapWork = true ∧
      got (.keyUsageRestore 0) s (fun t => (t.slot 0 0).any (fun x => x.usageValid && x.next == 2 ^ 20)) = true) ∧
    ((holding (keyOf .active 1 0 false)).granted Cls.mapWork = false ∧
      still (.keyUsageRestore 0) (holding (keyOf .active 1 0 false)) = true) := by
  refine ⟨?_, ?_, ?_, ?_, ?_⟩ <;> decide +kernel

theorem test_iv_example : ivOf 0x44 0 0 0x2618000D =
    [0x44, 0x00, 0x00, 0x00, 0x0D, 0x00, 0x18, 0x26, 0x00, 0x00, 0x00, 0x00] := by decide

/-- A partial of one word, staged at an address. -/
def part : StagedPart :=
  { partSeq := 3, quiesce := false, regs := [], engine := none, addr := slotBase 0 + 4096, bytes := [0xFF] }

/-- SIM with that partial, in a state, with a command. -/
def imaging (st : Nat) (command : Option Nat) (wrote : Option Bool) : State := let s := (at_ .dualActive).put F.SIM.STATUS.STATE st
  { s with sim := { s.sim with pending := command, shadow := some part, wrote := wrote, requested := false } }

theorem witness_CommandRegistersStartTheirCommand_sim :
    (at_ .dualActive).flag F.SIM.STATUS.BUSY = false ∧ ((at_ .dualActive).put F.SIM.STATUS.BUSY 1).flag F.SIM.STATUS.BUSY = true ∧
    got (.simCommit core) (at_ .dualActive) (fun t => t.flag F.SIM.STATUS.BUSY && t.sim.pending == some 3) = true ∧
    got (.simLoad core) ((at_ .dualActive).put F.SIM.STATUS.BUSY 1) (fun t => t.sim.pending == none) = true := by
  refine ⟨?_, ?_, ?_, ?_⟩ <;> decide +kernel

theorem witness_ImageCommandEffects :
    ((imaging 5 (some 3) none).sim.wrote = none ∧ (imaging 5 (some 3) none).sim.pending = some 3 ∧
      (imaging 5 (some 3) none).sim.shadow = some part ∧ (imaging 5 (some 3) none).fld F.SIM.STATUS.STATE = 5 ∧
      (imaging 5 (some 3) none).sim.requested = false ∧ (imaging 5 (some 3) none).runSimCommand.sim.requested = true ∧
      (imaging 5 (some 3) none).runSimCommand.fld F.SIM.STATUS.STATE = 5) ∧
    ((imaging 2 (some 3) none).fld F.SIM.STATUS.STATE ≠ 5 ∧ (imaging 2 (some 3) none).runSimCommand.fld F.SIM.STATUS.CMD_RESULT = 1) ∧
    ((imaging 5 (some 4) none).sim.pending = some 4 ∧ (imaging 5 (some 4) none).runSimCommand.sim.shadow = none ∧
      (imaging 5 (some 4) none).runSimCommand.fld F.SIM.STATUS.STATE = 2) ∧
    ((imaging 2 (some 5) none).lcs.mode ≠ .structureLoad ∧ (imaging 2 (some 5) none).runSimCommand.fld F.SIM.STATUS.CMD_RESULT = 2) ∧
    ((imaging 4 none (some true)).sim.wrote = some true ∧ (imaging 4 none (some true)).fld F.SIM.STATUS.STATE = 4 ∧
      (∀ i, i < part.bytes.length → (imaging 4 none (some true)).rcf.byteAt (part.addr + 64 + i) = part.bytes.getD i 0) ∧
      got (.stagingDone true) (imaging 4 none (some true)) (fun t => t.fld F.SIM.STATUS.STATE == 5) = true) ∧
    ((imaging 4 none (some false)).sim.wrote = some false ∧ got (.stagingDone true) (imaging 4 none (some false)) (fun t =>
      t.fld F.SIM.STATUS.STATE == 2 && t.fld F.SIM.STATUS.CAUSE == 14 && told Src.SIM 2 0 t) = true) ∧
    ((imaging 6 none none).fld F.SIM.STATUS.STATE = 6 ∧ (imaging 6 none none).fld F.SIM.AT_TICK.TICK ≤ (imaging 6 none none).now + 1 ∧
      got .structureSwapCommit (imaging 6 none none) (fun t => t.tck.latches == [.commit]) = true) ∧
    (let s : State := { imaging 6 none none with sim := { (imaging 6 none none).sim with deferred := 2 ^ 32 } };
      s.sim.shadow = some part ∧ s.fld F.SIM.STATUS.STATE = 6 ∧ s.fld F.SIM.SWAP_CTL.DEFER_MAX ≤ s.sim.deferred ∧
      got .commitAbandon s (fun t => t.fld F.SIM.STATUS.STATE == 2 && told Src.SIM 5 0 t) = true) ∧
    (let s : State := { at_ .restructure with
        sim := { (at_ .restructure).sim with committing := true }
        lcs := { (at_ .restructure).lcs with resumeMode := .dualActive } };
      s.sim.committing = true ∧ s.oldWorkDone = true ∧ s.lcs.mode = .restructure ∧
      got .restructureEnd s (fun t => t.lcs.mode == .dualActive && t.fld F.SIM.STATUS.PARTS == 1) = true) := by
  refine ⟨?_, ?_, ?_, ?_, ?_, ?_, ?_, ?_, ?_⟩ <;> decide +kernel

/-- Structure Load with both slots erased. The first clause's image cannot be written out: whether the bodies of a TABLES and
an ENGINE section fit the elements is Config.bodyFits, which nothing evaluates. -/
def loading : State := (at_ .structureLoad).put F.SIM.STATUS.STATE 1

theorem witness_StructureLoadEnds :
    loading.lcs.mode = .structureLoad ∧ loading.fld F.SIM.STATUS.STATE = 1 ∧ (loading.loadStructure true true).1 = false ∧
    got (.structureLoad true true) loading (fun t => t.fld F.SIM.STATUS.STATE == 3) = true := by
  refine ⟨?_, ?_, ?_, ?_⟩ <;> decide +kernel

theorem witness_CommandRegistersStartTheirCommand_lcs :
    (at_ .reset).flag F.LCS.CMD_STATUS.BUSY = false ∧ ((at_ .reset).put F.LCS.CMD_STATUS.BUSY 1).flag F.LCS.CMD_STATUS.BUSY = true ∧
    2 ^ 32 - 1 < 2 ^ 32 ∧ 3 < 4 ∧
    got (.provision ⟨0, true⟩ (2 ^ 32 - 1) true) (at_ .reset) (fun t => t.lcs.pending == some ⟨3, 0, 2 ^ 32 - 1, true, true⟩) = true ∧
    got (.addKey core 3 false) (at_ .reset) (fun t => t.lcs.pending == some ⟨7, 3, 0, false, false⟩) = true := by
  refine ⟨?_, ?_, ?_, ?_, ?_, ?_⟩ <;> decide +kernel

/-- A life-cycle state, fuses as they read in it, and a command. -/
def living (l : LifeState) (lc : BitVec 15) (c : LcsPending) : State := let s := at_ .eclipse
  { s with lcs := { s.lcs with life := l, fuses := { s.lcs.fuses with lc := lc }, pending := some c } }

theorem witness_LifeCycleCommandsAtTheirBoundary :
    (let s : State := living .void 0x7FFF ⟨10, 0, 0, false, true⟩;
      s.lcsAllowed 10 false = false ∧ s.runLcsCommand.fld F.LCS.CMD_STATUS.RESULT = 2) ∧
    (let s : State := living .provisioned 0x3F ⟨4, 0, 0, false, true⟩;
      s.lcsAllowed 4 false = true ∧ s.lcs.fuses.lifeState = .provisioned ∧ s.runLcsCommand.lcs.fuses.lifeState = .field ∧
      s.runLcsCommand.lcs.lifeResetDue = true) ∧
    (let s : State := living .maker 0x7 ⟨3, 0, 5, false, true⟩;
      s.lcsAllowed 3 false = true ∧ s.lcs.fuses.lifeState = .maker ∧ s.runLcsCommand.lcs.fuses.lifeState = .provisioned ∧
      s.runLcsCommand.lcs.fuses.rollback = [5]) ∧
    (let s : State := living .returnToMaker 0xFFF ⟨6, 0, 0, false, true⟩;
      s.lcsAllowed 6 false = true ∧ s.lcs.fuses.lifeState = .returnToMaker ∧ s.runLcsCommand.lcs.fuses.lifeState = .void) ∧
    (let s : State := living .provisioned 0x3F ⟨4, 0, 0, false, false⟩;
      s.lcsAllowed 4 false = true ∧ s.runLcsCommand.fld F.LCS.CMD_STATUS.RESULT = 5) ∧
    (let s : State := living .field 0x1FF ⟨7, 3, 0, false, true⟩;
      s.lcsAllowed 7 false = true ∧ Tab.find s.lcs.fuses.imgDigest 3 = none ∧
      (Tab.find s.runLcsCommand.lcs.fuses.imgDigest 3).isSome = true) ∧
    (let s : State := living .field 0x1FF ⟨10, 0, 0, false, true⟩;
      s.lcsAllowed 10 false = true ∧ s.runLcsCommand.fld F.LCS.CMD_STATUS.RESULT = 0 ∧ s.runLcsCommand.lcs.awk = none) := by
  refine ⟨?_, ?_, ?_, ?_, ?_, ?_, ?_⟩ <;> decide +kernel
/-! Record flash, the recorder, faults, bays and the control complex. -/

/-- RCF as given. -/
def flashing (c : Rcf) : State := { at_ .dualActive with rcf := c }

/-- RCF with its unlock sequence in a state. -/
def unlocked (q : RcfSeq) : State := flashing { State.reset.rcf with seq := q }

/-- Logical sector 18,432 of the settings claimed by physical sector 10,240, with 10,241 an erased spare. -/
def rotating : Rcf := { State.reset.rcf with
  seq := .key2, claims := [(2048, 10240)]
  info := [(10240 * 8, 0x45434E5400000001), (10241 * 8, 0x45434E5400000002)] }

/-- An erase of array software in its pulses. -/
def erasing : Rcf := { State.reset.rcf with seq := .key2, current := some ⟨.software, .erase 7⟩, step := 2 }

/-- An erase held. -/
def heldErase (bySw : Bool) : Rcf := { State.reset.rcf with seq := .key2, held := some ⟨bySw, ⟨.software, .erase 7⟩⟩ }

theorem witness_RecordFlashCommands :
    ((unlocked .idle).fld F.RCF.STATUS.BUSY = 0 ∧ (unlocked .idle).rcf.seq = .idle ∧
      got (.rcfUnlock core 0x5A7C) (unlocked .idle) (fun t => t.rcf.seq == .key1 && regsBut [] (unlocked .idle) t) = true) ∧
    ((unlocked .key1).rcf.seq = .key1 ∧ got (.rcfUnlock core 0xC3A5) (unlocked .key1) (fun t => t.rcf.seq == .key2) = true) ∧
    (wfld (0xC3A5 : Word).toNat F.RCF.UNLOCK.KEY ≠ 0x5A7C ∧ got (.rcfUnlock core 0xC3A5) (unlocked .idle)
      (fun t => t.rcf.seq == .idle && t.fld F.RCF.STATUS.RESULT == 4 && told Src.RCF 7 0 t) = true) ∧
    ((unlocked .key2).rcf.seq = .key2 ∧ 0x3FFFFF8 % 8 = 0 ∧ 0x3FFFFF8 < 0x4C00000 ∧ (unlocked .key2).swMayProgram 0x3FFFFF8 = true ∧
      (unlocked .key2).rcf.physical 0x3FFFFF8 = some 0x7FFFFF ∧ (unlocked .key2).rcf.word 0x7FFFFF = 0xFFFFFFFFFFFFFFFF ∧
      got (.rcfProgram core 0x3FFFFF8 5) (unlocked .key2) (fun t => t.rcf.seq == .idle && t.rcf.current.isSome &&
        t.fld F.RCF.STATUS.BUSY == 1) = true) ∧
    ((unlocked .key2).swMayErase 0x3FFF000 = true ∧ got (.rcfErase core 0x3FFF000) (unlocked .key2)
      (fun t => t.rcf.seq == .idle && t.rcf.current.isSome) = true) ∧
    (0x4800000 % 8 = 0 ∧ 0x4800000 < 0x4C00000 ∧ (flashing rotating).rcf.leastSpare.isSome = true ∧
      got (.rcfRotate core 0x4800000) (flashing rotating) (fun t => t.rcf.current.isSome && t.fld F.RCF.STATUS.BUSY == 1) = true) ∧
    ((flashing erasing).fld F.RCF.STATUS.BUSY = 0 ∧ (RcfOp.erase 7).isErase = true ∧ (flashing erasing).rcf.step = 2 ∧
      got (.rcfSuspend core) (flashing erasing) (fun t => t.rcf.held.isSome && t.fld F.RCF.STATUS.RESULT == 0 &&
        told Src.RCF 0 0 t) = true) ∧
    ((heldErase true).current = none ∧ (heldErase true).queue = [] ∧ (heldErase true).neverResume = false ∧
      got (.rcfResume core) (flashing (heldErase true)) (fun t => t.rcf.held.isNone && t.rcf.step == 2) = true) := by
  refine ⟨?_, ?_, ?_, ?_, ?_, ?_, ?_, ?_⟩ <;> decide +kernel

/-- A program of array software in progress. -/
def programming : Rcf := { State.reset.rcf with current := some ⟨.software, .program [(7, 5)]⟩ }

theorem witness_RecordFlashOperations :
    (programming.current = some ⟨.software, .program [(7, 5)]⟩ ∧ programming.word 7 = 0xFFFFFFFFFFFFFFFF ∧ 16 ≤ 16 ∧
      got (.rcfOperationEnd 16 true) (flashing programming) (fun t => t.rcf.word 7 == 5 &&
        t.fld F.RCF.STATUS.PULSES == 16 && t.fld F.RCF.STATUS.RESULT == 0) = true) ∧
    (erasing.current = some ⟨.software, .erase 7⟩ ∧ erasing.step = 2 ∧ 8 ≤ 8 ∧
      got (.rcfOperationEnd 8 true) (flashing { erasing with flash := [(7 * 512, 5), (8 * 512, 5)] }) (fun t =>
        t.rcf.word (7 * 512) == 0xFFFFFFFFFFFFFFFF && t.rcf.word (8 * 512) == 5 && t.rcf.step == 3) = true) ∧
    (((flashing erasing).put F.RCF.CTL.AUTO_SUSP 1).fld F.RCF.CTL.AUTO_SUSP = 1 ∧
      erasing.suspCount < ((flashing erasing).put F.RCF.CTL.AUTO_SUSP 1).fld F.RCF.CTL.SUSP_MAX ∧
      got .autoSuspend ((flashing erasing).put F.RCF.CTL.AUTO_SUSP 1) (fun t => t.rcf.held.isSome) = true) ∧
    ((heldErase false).held = some ⟨false, ⟨.software, .erase 7⟩⟩ ∧ (heldErase false).suspSince + 250 ≤ 1000000 ∧
      got .suspendLimitExpiry (flashing (heldErase false)) (fun t => t.rcf.held.isNone && t.rcf.step == 2) = true) ∧
    (rotating.isDirty 13823 = true ∧ rotating.retiring.contains 13823 = false ∧
      got (.spareErase 13823) (flashing rotating) (fun t => t.rcf.current.isSome) = true) ∧
    (({ rotating with retiring := [13823] } : Rcf).isDirty 13823 = true ∧
      got (.spareErase 13823) (flashing { rotating with retiring := [13823] }) (fun t => t.rcf.infoWord 13823 7 == 0) = true) ∧
    (let s : State := flashing { rotating with info := [(10240 * 8, 0x45434E5400000001), (10241 * 8, 0x45434E5400002000)] };
      s.leastWorn = some (2048, 10240) ∧ s.rcf.countOf 10240 + s.fld F.RCF.CTL.SPREAD < s.rcf.maxCount ∧ s.rcf.lastMove = none ∧
      s.rcf.queue = [] ∧ s.rcf.mostSpare.isSome = true ∧ got .wearMove s (fun t => t.rcf.current.isSome) = true) ∧
    ((at_ .reset).lcs.mode = .reset ∧ got .recordFlashScan (at_ .reset) (fun t => decide (t.evr.head < t.evr.nextSeq)) = true) := by
  refine ⟨?_, ?_, ?_, ?_, ?_, ?_, ?_, ?_⟩ <;> decide +kernel

/-- A recorder with one record and its slot entered. -/
def recording : State := let s := at_ .dualActive
  { s with evr := { s.evr with queue := [aRec 1], entered := true, full := false, dropped := none } }

theorem witness_EventRecorderRows :
    (recording.evr.queue = aRec 1 :: [] ∧ recording.evrMayWrite = true ∧ recording.evr.entered = true ∧ recording.evr.full = false ∧
      recording.evr.dropped = none ∧ got (.evrFlush true) recording (fun t => t.evr.queue == [] && t.evr.ring.length == 1) = true ∧
      got (.evrFlush false) recording (fun t => t.evr.queue.length == 1 && t.evr.pos == recording.evr.pos + 1) = true) ∧
    (let s : State := { recording with evr := { recording.evr with timeDue := true } };
      s.evr.timeDue = true ∧ HasRoom s ∧ got .timeRecord s (fun t => t.evr.queue.length == 2 && !t.evr.timeDue) = true) ∧
    (core.test = false ∧ got (.evrRdSeqWrite core 77) recording (fun t => t.reg F.EVR.RD_SEQ.SEQ.addr == 77) = true ∧
      got (.swRecord core 99) recording (fun t => t.evr.swPending) = true) ∧
    (let s : State := { recording with evr := { recording.evr with swPending := true } };
      s.evr.swPending = true ∧ s.makeSwRecord.evr.queue.length = 2) ∧
    got (.evrClear core) recording (fun t => t.evr.clearPending) = true ∧
    (let s : State := { recording with evr := { recording.evr with clearPending := true } };
      s.evr.clearPending = true ∧ s.lcs.oemToken ≠ some 3 ∧ s.lcs.geoToken ≠ some 3 ∧ s.lcs.life ≠ .returnToMaker ∧
      s.clearLog.fld F.EVR.STATUS.CLEAR_RESULT = 1) ∧
    (let s : State := { recording with evr := { recording.evr with clearing := [0], ring := [(0, aRec 1), (64, aRec 2)] } };
      s.evr.clearing ≠ [] ∧ (∀ l ∈ s.evr.clearing, ∀ q ∈ s.rcf.current.toList ++ s.rcf.queue, q.op ≠ .rotate l) ∧
      got .clearRotationDone s (fun t => t.evr.ring == [(64, aRec 2)] && t.evr.clearing == []) = true) := by
  unfold HasRoom; decide +kernel

/-- A report of a fault. -/
def aReport (code : Nat) : FltReport := { code := code, source := Src.CMP, unit := 3, arg1 := 0, injected := false, fromClass := 0 }

/-- An entry of a fault queue. -/
def anEntry (n : Nat) : FltEntry := { seq := n, code := 0x0501, object := n, left := some 0 }

/-- The queue of a class holds n entries. -/
def queued (cls n : Nat) : State := { at_ .dualActive with
  flt := (at_ .dualActive).flt.setQueue cls ((List.range n).map anEntry) }

theorem witness_FaultsAreTakenByClass :
    (1 ≤ (aReport 0x0503).cls (at_ .dualActive).flt ∧ (aReport 0x0503).cls (at_ .dualActive).flt ≤ 4 ∧ (aReport 0x0503).injected = false) ∧
    ((aReport 0x0501).cls (at_ .dualActive).flt = 1 ∧ ((at_ .dualActive).takeFault (aReport 0x0501)).evr.queue.length = 1) ∧
    (let c := (aReport 0x0503).cls (at_ .dualActive).flt; let s : State := queued c 15;
      2 ≤ c ∧ c ≤ 4 ∧ s.flt.queues.length = 5 ∧ (s.flt.queueOf c).length < 16 ∧
      ((s.takeFault (aReport 0x0503)).flt.queueOf c).length = 16) ∧
    (let c := (aReport 0x0503).cls (at_ .dualActive).flt; let s : State := queued c 16;
      16 ≤ (s.flt.queueOf c).length ∧ ((s.takeFault (aReport 0x0503)).flt.queueOf c).length = 16) ∧
    (aReport 0).cls (at_ .dualActive).flt = 0 ∧
    (reportable 0x0503 Src.CMP 65535 = true ∧ Src.CMP ≠ Src.MEM ∧ reportable 0x0501 Src.MEM 0 = true ∧
      got (.faultReport 0x0501 Src.MEM 0 7) (at_ .dualActive) (fun t => t.flt.reports.length == 1) = true) := by
  refine ⟨?_, ?_, ?_, ?_, ?_, ?_⟩ <;> decide +kernel

theorem witness_FaultHandlingRows :
    ((queued 5 2).ackNames 5 0 = true ∧ 2 ≤ 5 ∧ 2 ^ 32 - 1 < 2 ^ 32 ∧
      got (.fltAck core 5 0) (queued 5 2) (fun t => t.flt.acks == [(5, 0)]) = true) ∧
    (let s : State := { queued 5 2 with flt := { (queued 5 2).flt with acks := [(5, 0)] } };
      s.flt.queues.length = 5 ∧ s.flt.queueOf 5 = anEntry 0 :: [anEntry 1] ∧ s.flt.acks = [(5, (anEntry 0).seq % 2 ^ 32)] ∧
      s.applyAcks.flt.queueOf 5 = [anEntry 1]) ∧
    ((queued 5 2).ackNames 1 0 = false ∧ (queued 5 2).ackNames 5 1 = false ∧
      got (.fltAck core 5 1) (queued 5 2) (fun t => (t.reg (blockBase Src.FLT + 8)).getLsbD 4 && t.flt == (queued 5 2).flt) = true) ∧
    ((queued 3 1).flt.active = some (3, anEntry 0) ∧ (anEntry 0).left = some 0 ∧ 3 ≤ 3 ∧ (queued 3 1).flt.queues.length = 5 ∧
      got (.ackTimeout 3) (queued 3 1) (fun t => t.flt.queueOf 3 == [] && (t.reg (eventAddr Src.FLT)).getLsbD 6) = true) ∧
    (10 ≤ 10 ∧ (at_ .dualActive).flag F.FLT.WDOG_CTL.EN = false ∧
      got (.wdogEnable core (fieldWord F.FLT.WDOG_CTL.EN 1 ||| fieldWord F.FLT.WDOG_CTL.TIMEOUT_MS 10)) (at_ .dualActive)
        (fun t => t.flag F.FLT.WDOG_CTL.EN && t.fld F.FLT.WDOG_CTL.TIMEOUT_MS == 10) = true) ∧
    (let s : State := { at_ .dualActive with flt := { (at_ .dualActive).flt with wdogStage := 1, wdogRun := 2 ^ 40 } };
      s.flt.wdogStage ≠ 0 ∧ s.wdogPeriod ≤ s.flt.wdogRun ∧ got (.wdogKick core 0x574B) s (fun t => t.flt.wdogRun == 0) = true ∧
      got .wdogStage1 s (fun t => t.flt.wdogStage == 2 && (t.reg (eventAddr Src.FLT)).getLsbD 8) = true) ∧
    (let s : State := { at_ .dualActive with flt := { (at_ .dualActive).flt with wdogStage := 2, wdogRun := 2 ^ 40 } };
      s.wdogPeriod ≤ s.flt.wdogRun ∧ got .watchdogReset s (fun t => t.tck.latches == [.reset .watchdog]) = true) ∧
    (Src.HPT ∈ [Src.CMP, Src.CIP, Src.DGS, Src.RDN, Src.HPT] ∧ got (.laneStall Src.HPT 3) (at_ .dualActive)
      (fun t => t.flt.reports.length == 1) = true) ∧
    ((at_ .eclipse).mayInject = true ∧ 0x0501 ≤ 0x0511 ∧ 255 < 256 ∧
      got (.fltInject core (BitVec.ofNat 64 (0x0511 * 2 ^ 48 + 4 * 2 ^ 40 + 65535 * 2 ^ 24))) (at_ .eclipse)
        (fun t => t.flt.reports.any (fun r => r.injected && r.code == 0x0511 && r.unit == 65535)) = true) := by
  refine ⟨?_, ?_, ?_, ?_, ?_, ?_, ?_, ?_, ?_⟩ <;> decide +kernel

/-- The chain in use at the time of a refresh. -/
def chained (primed : Bool) (bad : Nat) : State := let s := at_ .dualActive
  { s with
    tck := { s.tck with tick := 464 }, bay := { s.bay with primed := primed, badRun := bad, parts := s.fld F.BAY.CONFIG.PARTS } }

/-- An input with its filter. -/
def filtered (i : Nat) (x : Filt) : State := { at_ .dualActive with bay := { (at_ .dualActive).bay with inputs := [(i, x)] } }

/-- A filter that is active since tick 0 and not yet reported. -/
def pressed : Filt := { Filt.cold with filtered := true, seen := true, due := true }

theorem witness_ChainFiltersAndLever :
    ((chained true 0).tck.ticking = true ∧ (chained true 0).now % 512 = 464 ∧ (chained true 0).bay.primed = true ∧
      (chained true 0).bay.parts = (chained true 0).fld F.BAY.CONFIG.PARTS ∧
      (∀ b, b < (chained true 0).bays → (List.replicate 96 0xA0).getD b 0 / 32 % 8 = 5) ∧
      got (.chainRefresh (List.replicate 96 0xA0)) (chained true 0) (fun t => t.bay.sample.isSome) = true) ∧
    (0 < (chained true 7).bays ∧ (List.replicate 96 0).getD 0 0 / 32 % 8 ≠ 5 ∧ (chained true 7).bay.badRun = 7 ∧
      got (.chainRefresh (List.replicate 96 0)) (chained true 7) (fun t => t.bay.badRun == 8 && !t.flag F.BAY.STATUS.CHAIN_OK) = true) ∧
    (isButton 1025 = true ∧ ((filtered 1025 pressed).filt 1025).filtered = true ∧ ((filtered 1025 pressed).filt 1025).stuck = false ∧
      (let s : State := (filtered 1025 pressed).put F.BAY.FILT.STUCK_S 1;
        (s.filt 1025).activeSince + s.ticksIn (s.fld F.BAY.FILT.STUCK_S * 1000000) ≤ s.now ∧
        got (.buttonStuck 1025) s (fun t => (t.filt 1025).stuck && told Src.BAY 4 0x80 t) = true)) ∧
    (let s : State := (filtered 0 { Filt.cold with chatter := true }).put F.BAY.FILT.HOLDOFF_S 1;
      (s.filt 0).chatter = true ∧ (s.filt 0).lastChange + s.ticksIn (s.fld F.BAY.FILT.HOLDOFF_S * 1000000) ≤ s.now ∧
      got (.chatterClear 0) s (fun t => !(t.filt 0).chatter) = true) ∧
    (95 < 96 ∧ got (.qclr core 95) ((at_ .dualActive).put (F.BAY.BAY_STATUS.QUAR.nth 95) 1)
      (fun t => !t.flag (F.BAY.BAY_STATUS.QUAR.nth 95)) = true) ∧
    (let s : State := { at_ .dualActive with bay := { (at_ .dualActive).bay with leverRaw := true, leverRun := 1000000 } };
      s.bay.leverRaw = true ∧ s.leverSteady = true ∧ s.flag F.BAY.LEVER.OPEN = false ∧
      got .leverOpen s (fun t => t.tck.latches == [.leverOpen] && t.flag F.BAY.LEVER.LATCHED) = true) ∧
    (let s : State := ({ at_ .dualActive with
        bay := { (at_ .dualActive).bay with leverRaw := false, leverRun := 1000000 } } : State).put F.BAY.LEVER.OPEN 1;
      s.leverSteady = true ∧ s.flag F.BAY.LEVER.OPEN = true ∧ got .leverClose s (fun t => told Src.BAY 8 0x80 t) = true) := by
  refine ⟨?_, ?_, ?_, ?_, ?_, ?_, ?_⟩ <;> decide +kernel

theorem witness_ChainZerosFirstAfterReset :
    (chained false 0).bay.primed = false ∧ (chained false 0).lcs.mode ≠ .powerFailDrain ∧
    got (.chainRefresh []) (chained false 0) (fun t => t.bay.primed && t.out.length == 2) = true ∧
    got (.chainRefresh []) (chained true 0) (fun t => t.out.length == 1) = true := by
  refine ⟨?_, ?_, ?_, ?_⟩ <;> decide +kernel

theorem witness_PanelInputsAreActedOn :
    (95 < 96 ∧ (filtered (bayInput 95 0) pressed).dueNow (bayInput 95 0) = true ∧
      got (.presenceChange 95) (filtered (bayInput 95 0) pressed) (fun t => (t.reg (eventAddr Src.BAY)).getLsbD 0) = true) ∧
    ((filtered (bayInput 95 2) pressed).dueNow (bayInput 95 2) = true ∧ ((filtered (bayInput 95 2) pressed).filt (bayInput 95 2)).filtered = true ∧
      got (.latchOpen 95) (filtered (bayInput 95 2) pressed) (fun t => (t.reg (eventAddr Src.BAY)).getLsbD 1) = true) ∧
    (let s : State := filtered (bayInput 0 2) { pressed with filtered := false };
      s.dueNow (bayInput 0 2) = true ∧ (s.filt (bayInput 0 2)).filtered = false ∧
      got (.latchClose 0) s (fun t => (t.reg (eventAddr Src.BAY)).getLsbD 1) = true) ∧
    (let s : State := (filtered (bayInput 0 1) pressed).put F.BAY.CTL.ATTN_LOCATE 1;
      s.dueNow (bayInput 0 1) = true ∧ s.flag F.BAY.CTL.ATTN_LOCATE = true ∧
      got (.attentionPress 0) s (fun t => t.fld (F.BAY.BAY_CTL.LOCATE.nth 0) == 2) = true) ∧
    ((filtered 1024 pressed).dueNow 1024 = true ∧
      got .powerButtonRelease (filtered 1024 pressed) (fun t => (t.reg (eventAddr Src.BAY)).getLsbD 3) = true) ∧
    ((filtered 1025 pressed).dueNow 1025 = true ∧
      got .serviceButtonPress (filtered 1025 pressed) (fun t => t.fld F.BAY.HEAD_LED.IDENT == 1) = true) ∧
    (let s : State := { (filtered 1024 pressed).put F.BAY.CTL.LONG_S 1 with lcs := (at_ .soloActive).lcs };
      (s.filt 1024).filtered = true ∧ (s.filt 1024).longDone = false ∧ (s.filt 1024).stuck = false ∧ s.panelDeferred = false ∧
      (s.filt 1024).activeSince + s.ticksIn (s.fld F.BAY.CTL.LONG_S * 1000000) ≤ s.now ∧ s.lcs.mode ≠ .dualActive ∧
      got .powerButtonLong s (fun t => (t.filt 1024).longDone) = true) := by
  refine ⟨?_, ?_, ?_, ?_, ?_, ?_, ?_⟩ <;> decide +kernel

/-- The PCIe link may train at generation 3. -/
def pcie (up : Bool) : State :=
  (((withMem (at_ .dualActive)).put F.APC.PCIE_CTL.EN 1).put F.APC.PCIE_CTL.PERST 0).put F.APC.PCIE_STATUS.UP up.toNat

theorem witness_CoresInterruptsAndMemoryRows :
    (core.test = false ∧ (5 : Word).toNat.testBit 2 = true ∧ (at_ .dualActive).coreRuns 2 = false ∧
      ((at_ .dualActive).put F.APC.CORE_RUN.RUN 2).coreRuns 1 = true ∧ (5 : Word).toNat.testBit 1 = false ∧
      got (.coreRunWrite core 5) (at_ .dualActive) (fun t => (Tab.find t.apc.started 2).isSome) = true) ∧
    (1023 < 1024 ∧ got (.irqEoi core (fieldWord F.APC.IRQ_EOI.SOURCE 1023))
      ((at_ .dualActive).put (F.APC.IRQ_ROUTE.IN_SERVICE.nth 1023) 1) (fun t => !t.flag (F.APC.IRQ_ROUTE.IN_SERVICE.nth 1023)) = true) ∧
    (let s : State := ((at_ .dualActive).put F.APC.CORE_RUN.RUN (2 ^ 47)).put (F.APC.MTIMECMP.CMP.nth 47) 0;
      47 < 48 ∧ s.coreRuns 47 = true ∧ s.fld (F.APC.MTIMECMP.CMP.nth 47) ≤ s.apc.mtime ∧
      got (.machineTimer 47) s (fun t => t.apc.timerCores.contains 47) = true) ∧
    ((pcie false).flag F.APC.PCIE_CTL.EN = true ∧ (pcie false).flag F.APC.PCIE_CTL.PERST = false ∧
      (let g := (pcie false).fld F.APC.PCIE_CTL.MAX_GEN;
        1 ≤ g ∧ g ≤ 5 ∧ (pcie false).flag F.APC.PCIE_STATUS.UP = false ∧
        got (.pcieLinkUp g 4) (pcie false) (fun t => t.flag F.APC.PCIE_STATUS.UP && t.fld F.APC.PCIE_STATUS.WIDTH == 4) = true)) ∧
    ((pcie true).flag F.APC.PCIE_STATUS.UP = true ∧ got .pcieLinkDown (pcie true) (fun t => !t.flag F.APC.PCIE_STATUS.UP) = true) ∧
    (hbmBase ≠ msiTarget ∧ (pcie true).memOk pcieReq hbmBase 3 = true ∧
      got (.pcieInboundRequest (.write hbmBase [1, 2, 3])) (pcie true) (fun t => t.byte (hbmBase + 2) == 3) = true ∧
      got (.pcieInboundRequest (.read hbmBase 3)) (pcie true) (fun t => t.out.length == 1) = true ∧
      got (.pcieInboundRequest (.write msiTarget (leBytes 4 31))) (pcie true)
        (fun t => t.flag (F.APC.IRQ_ROUTE.PENDING.nth 191)) = true) ∧
    (let s : State := { at_ .dualActive with memc := { (at_ .dualActive).memc with filling := true } };
      s.memc.filling = true ∧ got .memFillDone s (fun t => t.flag F.MEM.STATUS.FILL_DONE && told Src.MEM 0 0 t) = true) ∧
    (let s : State := { (at_ .dualActive).put F.MEM.STATUS.FILL_DONE 1 with
        tck := { (at_ .dualActive).tck with tick := 2 ^ 50 } };
      s.flag F.MEM.STATUS.FILL_DONE = true ∧
      s.memc.scrubSince + s.ticksIn (s.fld F.MEM.SCRUB_CTL.SCRUB_H * 3600000000) ≤ s.now ∧
      got .scrubPass s (fun t => told Src.MEM 3 0 t) = true) := by
  refine ⟨?_, ?_, ?_, ?_, ?_, ?_, ?_, ?_⟩ <;> decide +kernel

/-- MCTP enabled. -/
def mctp (tx : Bool) : State := (((withMem (at_ .dualActive)).put F.APC.MCTP_CFG.EN 1).put F.APC.MCTP_TX_BASE.EN tx.toNat).put
  F.APC.MCTP_TX_BASE.ADDR (hbmBase / 2 ^ 17)

theorem witness_ManagementEndpointRows :
    ((mctp false).flag F.APC.MCTP_CFG.EN = true ∧
      got (.managementMessage ⟨9, 1, [4, 0], true⟩) (mctp false) (fun t => t.tck.latches == [.management ⟨9, 1, [4, 0], true⟩]) = true ∧
      got (.managementMessage ⟨9, 1, [4, 0], false⟩) (mctp false) (fun t => t.tck.latches == [] && told Src.APC 5 0 t) = true) ∧
    ((mctp false).lcs.mode ≠ .powerFailDrain ∧
      got (.mctpControlMessage ⟨9, 1, [0, 0x80, 2], true⟩) (mctp false) (fun t => t.out.length == 1) = true) ∧
    ((mctp false).apc.dynamicAddr = none ∧
      got (.dynamicAddressAssignment 5 false) (mctp false) (fun t => t.apc.dynamicAddr == some 5) = true) ∧
    (65535 < 2 ^ 16 ∧ (at_ .dualActive).flag F.APC.MCTP_CFG.EN = false ∧
      got (.mctpTx core (fieldWord F.APC.MCTP_TX_IDX.PROD 65535)) (at_ .dualActive)
        (fun t => t.fld F.APC.MCTP_TX_IDX.PROD == 65535) = true) ∧
    ((mctp true).flag F.APC.MCTP_TX_BASE.EN = true ∧ 1 = ((mctp true).fld F.APC.MCTP_TX_IDX.CONS + 1) % 2 ^ 16 ∧
      (mctp true).memOk Src.APC ((mctp true).fld F.APC.MCTP_TX_BASE.ADDR * 2 ^ 17) 8192 = true ∧
      (let s : State := (mctp true).store hbmBase ([3, 0, 9, 1] ++ List.replicate 12 0 ++ [7, 8, 9]);
        leNat ((s.load hbmBase 20).take 2) = 3 ∧ ((s.load hbmBase 20).getD 16 0).toNat < 128 ∧
        got (.mctpTx core (fieldWord F.APC.MCTP_TX_IDX.PROD 1)) s
          (fun t => t.out == [.mctp ⟨9, 1, [7, 8, 9]⟩] && t.fld F.APC.MCTP_TX_IDX.CONS == 1) = true)) := by
  refine ⟨?_, ?_, ?_, ?_, ?_⟩ <;> decide +kernel

/-! The data path and the rings. -/

/-- n bytes, zero but for the pieces laid at their offsets. -/
def lay (n : Nat) (l : List (Nat × List Byte)) : List Byte :=
  l.foldl (fun b p => b.take p.1 ++ p.2 ++ b.drop (p.1 + p.2.length)) (List.replicate n 0)

/-- A namespace of 1,024 blocks of 4,096 bytes. -/
def aNs : Ns := { nsze := 1024, small := false, vset := 0, keySlot := 0, src := 0, snapMe := 0, wp := false }

/-- A command of queue 1 of controller 0 on namespace 1. -/
def aCmd (stage : CmdStage) (opcode : Nat) (rest : List (Nat × List Byte)) : Cmd := {
  vc := 0, vgen := 1, qid := 1, qgen := 1, conn := 5, sqe := lay 64 ((0, leBytes 1 opcode) :: (4, leBytes 4 1) :: rest), icd := [],
  ns := some aNs, tick := 1000000, pos := 0, host := 3, fromPeer := none, toPeer := none, stage := stage, status := 0, dw0 := 0,
  data := [], first := 0, count := 1, ranges := [(0, 1)], reads := [], resolved := false, items := [], recorded := false, me := 1 ,
  ends := false }

/-- Both sides held, side 0 at home; data and digest slot 0 hold keys; commands and chunks of writes. -/
def writing (cmds : Tab Cmd) (js : Tab ChunkJob) : State := let s := at_ .dualActive
  { s with
    cip := { s.cip with data := [(0, keyOf .active 1 0 true)], digest := [(0, keyOf .active 1 0 true)] }
    wit := { s.wit with own := 3 }, cmf := { s.cmf with cmds := cmds }
    rdx := { s.rdx with chunks := js, warm := 2 ^ 18 } }

/-- A chunk of one granule of command 0, at a stage. -/
def chunkAt (stage : ChunkStage) : ChunkJob := { cutJob 0 1 1 0 [[7, 8, 9]] with
  stage := stage, payload := [1, 2, 3, 4, 5], keyId := 9, raw := false, lane := some 0, cmpLane := some 0
  cmpConfig := State.reset.reg F.CMP.CONFIG.COMP_LANES.addr }

/-- Command 0 is a write whose one chunk is at a stage. -/
def writes (stage : ChunkStage) : State := writing [(0, aCmd .writing 1 [])] [(0, chunkAt stage)]

/-- The hot entry of that chunk. -/
def hotOf (pend : Bool) : HotEntry := {
  fpPart := 0, addr := 5, granules := 1, isPend := pend, perm := false, lost := false, age := 2, refCount := 1, keyId := 9 }

/-- The frame of a chunk that repeats one byte: an RLE block in its 11 bytes (R83). -/
def rleFrame (len : Nat) (b : Byte) : List Byte :=
  [0x28, 0xB5, 0x2F, 0xFD, 0x60] ++ leBytes 2 (len - 256) ++ leBytes 3 (len * 8 + 3) ++ [b]

/-- A chunk of 4,096 spaces before its compressor. -/
def spaces : State := writing [(0, aCmd .writing 1 [])] [(0, { chunkAt .missed with content := List.replicate 4096 0x20 })]

theorem witness_WritePathChunkSteps :
    (let s := writes .compressed; let task := s.writeTask 0 (chunkAt .compressed);
      let used (n : Nat) : State := { s with lanes := { s.lanes with cip := { s.lanes.cip with used := [(0, n)] } } };
      s.tickCycles = 4000 ∧ s.atFront .cip 0 task = true ∧ (used 3960).laneEnd .cip 0 task 41 = none ∧
      ((used 3960).laneEnd .cip 0 task 40).any (fun t => (t.lanes.of .cip).spent 0 == 4000) = true ∧
      ({ s with tck := { s.tck with tick := 0 } } : State).atFront .cip 0 task = false) ∧
    (let s : State := writing [(0, aCmd .writing 1 [])] [(0, { chunkAt .cut with content := [0, 0] })];
      let s := s.put F.RDX.CONFIG.ZERO_EN 1
      s.zeroChunk [0, 0] = true ∧ got (.fingerprintDone 0 false) s (fun t => (t.job 0).any (fun j => j.stage == .zero)) = true) ∧
    ((writes .cut).zeroChunk (chunkAt .cut).content = false ∧ (writes .cut).digestKey = some (keyOf .active 1 0 true) ∧
      got (.fingerprintDone 0 false) (writes .cut) (fun t => (t.job 0).any (fun j => j.stage == .fingerprinted && j.fingerprint != 0)) = true) ∧
    (let s : State := { writes .cut with cip := State.reset.cip };
      s.digestKey = none ∧ s.zeroChunk (chunkAt .cut).content = false ∧ (chunkAt .cut).cmd = some 0 ∧
      got (.fingerprintDone 0 false) s (fun t => (t.cmd 0).any (fun c => c.status == 0x7C1)) = true ∧
      (chunkAt .cut).since < s.now ∧
      got (.fingerprintDone 0 true) (writes .cut) (fun t => (t.cmd 0).any (fun c => c.status == 0x280) && t.rdx.chunks == []) = true) ∧
    ((writes .cut).writeEnd .dgs 0 (chunkAt .cut) (16 * hmacBlocks 3)).isSome = true ∧
    (let s : State := { writes .fingerprinted with cip := State.reset.cip };
      s.lookupOutOfTurn 0 (chunkAt .fingerprinted) = false ∧ (s.resolveKey 0 aNs.keySlot).1 = none ∧
      got (.sporebankLookup 0) s (fun t => (t.cmd 0).any (fun c => c.status == 0x7C0)) = true) ∧
    (let s : State := (writes .fingerprinted).put F.RDX.CONFIG.DEDUPE_EN 0;
      s.lookupOutOfTurn 0 (chunkAt .fingerprinted) = false ∧ (s.resolveKey 0 aNs.keySlot).1 = some (0, 0) ∧
      s.flag F.RDX.CONFIG.DEDUPE_EN = false ∧ s.vsetSide aNs.vset = s.ftl.side ∧
      got (.sporebankLookup 0) s (fun t => (t.job 0).any (fun j => j.stage == .missed && j.keyId == 9)) = true) ∧
    ([true, false].all (fun pend =>
      let s : State := (writes .fingerprinted).put F.RDX.CONFIG.DEDUPE_EN 1
      let s : State := { s with rdx := { s.rdx with hot := [(0, hotOf pend)] } }
      !s.lookupOutOfTurn 0 (chunkAt .fingerprinted) && s.flag F.RDX.CONFIG.DEDUPE_EN && s.rdx.isWarm 0 &&
      s.lookupHit (chunkAt .fingerprinted) 9 (s.vsetSide aNs.vset) == some (hotOf pend) &&
      got (.sporebankLookup 0) s (fun t => (t.job 0).any (fun j => j.stage == (if pend then .pendingHit else .hit) && j.addr == 5))) = true) ∧
    (let j := { chunkAt .fingerprinted with driven := true }; let s := writing [(0, aCmd .writing 1 [])] [(0, j)];
      let s := (s.put F.RDX.CONFIG.DEDUPE_EN 1); let s : State := { s with rdx := { s.rdx with hot := [(0, hotOf false)] } };
      s.lookupOutOfTurn 0 j = false ∧ s.flag F.RDX.CONFIG.DEDUPE_EN = true ∧ s.vsetSide aNs.vset = s.ftl.side ∧
      (s.resolveKey 0 aNs.keySlot).1 = some (0, 0) ∧
      got (.sporebankLookup 0) s (fun t => (t.job 0).any (fun j => j.stage == .missed)) = true) ∧
    (let j := chunkAt .missed; let w := j.cmpConfig; let s1 := spaces; let k := { j with content := List.replicate 4096 0x20 };
      rawReasonOf w 3 0 4 = 2 ∧ ((writes .missed).writeEnd .cmp 0 j (packedCycles w 3 2)).isSome = true ∧
      got (.chunkCompressDone 0 [] [1, 2, 3, 4]) (writes .missed) (fun t => (t.job 0).any (fun j =>
        j.stage == .compressed && j.raw && j.payload == [7, 8, 9])) = true ∧
      rawReasonOf w 4096 1 11 = 0 ∧ chunkFrame (cfgFld w F.CMP.CONFIG.CSUM_EN == 1) k.content (rleFrame 4096 0x20) = true ∧
      cfgFld w F.CMP.CONFIG.COMP_EN = 1 ∧ probeOf w ≠ 0 ∧ probeOf w < 4096 ∧ probeEncodes (probeOf w) k.content [0x20] = true ∧
      (s1.writeEnd .cmp 0 k (packedCycles w 4096 0)).isSome = true ∧
      got (.chunkCompressDone 0 [0x20] (rleFrame 4096 0x20)) s1 (fun t => (t.job 0).any (fun j =>
        j.stage == .compressed && !j.raw && j.payload == rleFrame 4096 0x20)) = true ∧
      got (.chunkCompressDone 0 [0x21] (rleFrame 4096 0x20)) s1 (fun t => t.job 0 == some k) = true) ∧
    ((writes .compressed).allLookedUp (some 0) = true ∧ (writes .compressed).slot 0 0 = some (keyOf .active 1 0 true) ∧
      (keyOf .active 1 0 true).keyId = (chunkAt .compressed).keyId ∧ (keyOf .active 1 0 true).mayUse 0 = true ∧
      (((writes .compressed).invoke 0 0 0x44).2.writeEnd .cip 0 (chunkAt .compressed) (gcmCycles 80 5)).isSome = true ∧
      got (.chunkEncryptDone 0 false) (writes .compressed) (fun t => (t.job 0).any (fun j =>
        j.stage == .encrypted && j.header.length == 80 && j.payload.length == 5) && (t.slot 0 0).any (fun k => k.next == 1)) = true) ∧
    (let k := keyOf .active 1 (2 ^ 20) true
      let s : State := { writes .compressed with cip := { State.reset.cip with data := [(0, k)] } }
      s.slot 0 0 = some k ∧ k.mayUse 0 = false ∧ s.allLookedUp (some 0) = true ∧
      got (.chunkEncryptDone 0 false) s (fun t => (t.job 0).any (fun j => j.stage == .waitKey) && told Src.CIP 7 0 t) = true ∧
      got (.chunkEncryptDone 0 true) s (fun t => (t.cmd 0).any (fun c => c.status == 0x280)) = true) := by
  refine ⟨?_, ?_, ?_, ?_, ?_, ?_, ?_, ?_, ?_, ?_, ?_, ?_⟩ <;> decide +kernel

theorem witness_RawChunkRules :
    (at_ .dualActive).flag F.CMP.CONFIG.COMP_EN = true ∧ 0 < (at_ .dualActive).probeLen ∧ (at_ .dualActive).probeLen < 4096 ∧
      (at_ .dualActive).rawReason 4096 4096 0 = 1 ∧ (at_ .dualActive).rawReason 4096 0 0 = 0 ∧ (at_ .dualActive).rawReason 4096 0 4096 = 2 ∧
      ((at_ .dualActive).put F.CMP.CONFIG.COMP_EN 0).rawReason 4096 0 0 = 3 := by
  refine ⟨?_, ?_, ?_, ?_, ?_, ?_, ?_⟩ <;> decide +kernel

theorem witness_CuttingKeepsEveryGranule :
    cutWindows 8 [(6, [1]), (7, [2]), (8, [3]), (10, [4])] [] = [(6, [[1], [2]]), (8, [[3]]), (10, [[4]])] := by decide +kernel

/-- A module of 16 dies with 8 blocks of 256 pages in each. -/
def aDesc : FrnDesc := {
  dies := 16, dieMap := 2 ^ 16 - 1, pageData := 16384, pageMeta := 64, bits := 4, pages := 256, blocks := 8, spare := 100, cycles := 1000,
  loops := 10, retryLevels := 15, corrLimit := 100, wlPages := 4, maxSusp := 4, qdepth := 64, tProgSlc := 1, tProg := 1, tErase := 1,
  maxOp := 8, fenceTime := 1, serial := 1 }

/-- Modules at ports, up, each in a domain of its own. -/
def withModules (l : List Nat) (s : State) : State :=
  l.foldl (fun (t : State) n => (t.setPort n { t.coldPort n with state := .up, desc := some aDesc }).put (F.FTL.FDOM.DOMAIN.nth n) n) s

/-- A chunk in moss blocks of modules 0 and 1. -/
def entry (state : Nat) : ChunkEntry := {
  loc0 := placeOf (blockKey 0 0 3), loc1 := placeOf (blockKey 1 0 3), state := state, granules := 1, perm := false, lost := false,
  units := 2, refCount := 1, keyId := 9, fp := 1, dkey := 0 }

/-- The tables of the home side changed. -/
def withFtl (f : Ftl → Ftl) (s : State) : State := { s with ftl := f s.ftl }
def withRdn (f : Rdn → Rdn) (s : State) : State := { s with rdn := f s.rdn }

/-- The full index, and a fingerprint in the merge queue. -/
def merging (chunks : Tab ChunkEntry) : State := let s := (withGrants (at_ .dualActive)).put F.RDX.MERGE_CTL.EN 1
  { s with
    rdx := { s.rdx with mergeQueue := [{ fingerprint := 1, addr := 7, granules := 1, keyId := 9 }] }
    ftl := { s.ftl with tables := { s.ftl.tables with chunks := chunks } } }

theorem witness_DataPathFollowingSteps :
    (got (.rdmaReadDone 0 false) (writing [(0, aCmd .fetching 1 [])] [])
        (fun t => (t.cmd 0).any (fun c => c.stage == .finished && c.status == 4)) = true) ∧
    (let c := { aCmd .fetching 0x7F [(4, leBytes 4 1)] with data := List.replicate 1024 1 };
      c.isConnect = true ∧ 1024 ≤ c.data.length ∧
      got (.rdmaReadDone 0 true) (writing [(0, c)] []) (fun t => (t.cmd 0).any (fun c => c.stage == .held)) = true) ∧
    (let c := { aCmd .fetching 1 [] with data := List.replicate 4096 1 };
      let s := writing [(0, c)] []
      c.isConnect = false ∧ c.required aNs.block ≤ c.data.length ∧ s.isForwarded c = false ∧
      got (.rdmaReadDone 0 true) s (fun t => (t.cmd 0).any (fun c => c.stage == .writing)) = true ∧
      (let short := { c with data := List.replicate 4095 1 };
        short.data.length < short.required aNs.block ∧
        got (.rdmaReadDone 0 true) (writing [(0, short)] []) (fun t => (t.cmd 0).any (fun c => c.stage == .finished && c.status == 4)) = true)) ∧
    (let c := { aCmd .fetching 1 [] with data := List.replicate 4096 1 }; let s := writing [(0, c)] [];
      let s : State := { s with
        wit := { s.wit with own := 2 }, rfl := { s.rfl with link := .up, present := true, mark := some { peerMark 0 with own := 1 } } };
      s.isForwarded c = true ∧ got (.rdmaReadDone 0 true) s (fun t => (t.cmd 0).any (fun c => c.stage == .forwarded)) = true) ∧
    ((writes .encrypted).toPlace.length = 1 ∧ ((writes .encrypted).placeGroup (writes .encrypted).toPlace).isNone = true ∧
      got .mossPlace (writes .encrypted) (fun t => (t.job 0).any (fun j => j.stage == .failed)) = true) ∧
    ((withModules [0, 1] (writes .encrypted)).other = none ∧ (withModules [0, 1] (writes .encrypted)).toPlace.length = 1 ∧
      got .mossPlace (withModules [0, 1] (writes .encrypted)) (fun t => (t.job 0).any (fun j => j.stage == .placed)) = true) ∧
    ((writes .hit).other = none ∧ (writes .hit).toPlace = [] ∧
      got .mossPlace (writes .hit) (fun t => (t.cmd 0).any (fun c => c.recorded)) = true) ∧
    (let j := { chunkAt .placed with again := 1 };
      let s := writing [] [(0, j)]
      j.addr / 2 ^ 47 = s.ftl.side ∧ j.again.testBit 0 = true ∧
      s.mossOther 0 (pagesFor (j.units * 64) * 16384) (s.domain (keyPort (blockKeyOf (j.loc 1)))) = none ∧
      got (.copyPlaceAgain 0 0) s (fun t => (t.job 0).any (fun j => j.stage == .failed)) = true) ∧
    (let j := { chunkAt .placed with again := 2, loc0 := placeOf (blockKey 0 0 3), loc1 := placeOf (blockKey 1 0 3) };
      let s := withModules [0, 1] (writing [] [(0, j)])
      j.addr / 2 ^ 47 = s.ftl.side ∧ j.again.testBit 1 = true ∧ j.moves = none ∧ j.recorded = false ∧
      s.mossOther 0 (pagesFor (j.units * 64) * 16384) (s.domain (keyPort (blockKeyOf (j.loc 0)))) = some (1, 0) ∧
      (s.openBlock 0 (pagesFor (j.units * 64) * 16384) 1 0).isSome = true ∧
      got (.copyPlaceAgain 0 1) s (fun t => (t.job 0).any (fun j => j.again == 0 && j.loc1 == placeOf (blockKey 1 0 2) && j.loc0 == placeOf (blockKey 0 0 3))) = true) ∧
    (got (.writeCompletion 0) (writing [(0, aCmd .posted 1 [])] []) (fun t => (t.cmd 0).isNone) = true ∧
      got (.readCompletion 0) (writing [(0, aCmd .posted 2 [])] []) (fun t => (t.cmd 0).isNone) = true ∧
      (writing [(0, aCmd .posted 1 [])] []).stampsHold (aCmd .posted 1 []) = false ∧ (aCmd .posted 1 []).isWrite = true ∧
      (aCmd .posted 2 []).io = true ∧ (aCmd .posted 2 []).opcode = 2) ∧
    ((merging []).flag F.RDX.MERGE_CTL.EN = true ∧ (merging []).granted Cls.mapWork = true ∧ (merging []).chunkEntry 7 = none ∧
      got .merge (merging []) (fun t => t.rdx.mergeQueue == []) = true) ∧
    (let s := merging [(3, entry 2), (7, entry 1)];
      s.olderChunk { fingerprint := 1, addr := 7, granules := 1, keyId := 9 } (entry 1) = some 3 ∧ Tab.find s.ftl.moves 7 = none ∧
      got .merge s (fun t => t.rdx.merges == [(7, 3)] && t.rdx.mergeQueue == [] && t.ftl.journal == []) = true ∧
      s.finalChunk 3 = 3 ∧ (s.closeMerge (7, 3)).ftl.journal.map JRec.items = [[.alias_ 7 3 1]] ∧
      (let u : State := { s with rdx := { s.rdx with chunks := [(5, { chunkAt .hit with addr := 7 })] } };
        ((u.closeMerge (7, 3)).job 5).any (fun j => j.addr == 3) = true)) ∧
    (let e := { entry 1 with fp := 0 }; let s := withFtl (fun f => { f with tables := { f.tables with chunks := [(9, e)] } }) (withGrants (at_ .dualActive));
      s.rdx.warm < 2 ^ 18 ∧ s.granted Cls.mapWork = true ∧
      got .sbRegionLoad s (fun t => t.rdx.warm == 1 && t.rdx.loading && t.rdx.hot.any (fun h => h.2.addr == 9)) = true ∧
      got .sbRegionLoad { s with rdx := { s.rdx with warm := 2 ^ 18 - 1 } } (fun t => !t.rdx.loading && told Src.RDX 0 0 t) = true ∧
      (let u : State := { s with rdx := { s.rdx with hot := (List.range 7).map (fun i => (i, hotOf false)) } };
        7 < 8 ∧ (Tab.find u.rdx.hot (hotKey u.hotK 0 6)).isSome = true ∧ Tab.find u.rdx.hot (hotKey u.hotK 0 7) = none ∧
        (Tab.find (u.loadEntry (9, e)).rdx.hot (hotKey u.hotK 0 7)).any (fun h => h.addr == 9) = true)) ∧
    (let s : State := { at_ .dualActive with ftl := { State.reset.ftl with mapFetch := [(2 ^ 64, [])] } };
      s.other = none ∧ (Tab.find s.ftl.mapFetch (1 * 2 ^ 64 + 0)).isSome = true ∧
      got (.mapPageFetch 1 0) s (fun t => t.ftl.mapCached.contains (2 ^ 64)) = true) := by
  refine ⟨?_, ?_, ?_, ?_, ?_, ?_, ?_, ?_, ?_, ?_, ?_, ?_, ?_, ?_⟩ <;> decide +kernel

/-- The stored bytes of a chunk of 4,096 zeros whose payload, 1 to 5, is encrypted under KEY_ID 9 with counter 5. -/
def storedGood : List Byte := leBytes 128 (0x4be8f878bb13da8e8073bb3ad6eab9c688030d013e000000000000000100000001000000000000000000000000 *
  2 ^ 448 + 0x00000000000000000000000000000000000000000000000132d8bbdb00000000000000050000004400000009000000050000100000016d43)

/-- The same with another tag. -/
def storedBad : List Byte := storedGood.take 80 ++ List.replicate 16 0 ++ storedGood.drop 96

/-- A read of chunk 7, at a stage. -/
def readAt (stage : ReadStage) (b : List Byte) : ChunkRead := {
  chunk := 7, use := .host, waiters := [], source := .first, place := placeOf (blockKey 0 0 3), units := 2, other := none, pieces := [],
  stage := stage, stored := b, payload := [1, 2, 3, 4, 5], content := [], lane := some 0, cmpLane := some 111, since := 0 }

/-- That read, under way; the key it needs is in slot 0. -/
def readIn (stage : ReadStage) (b : List Byte) : State := let s := writing [] []
  { s with rdx := { s.rdx with reads := [(0, readAt stage b)] } }

/-- The bytes of chunk 7 that the rewrap reads, present. -/
def rewrapRead (b : List Byte) (s : State) : State :=
  { s with rdx := { s.rdx with reads := [(0, { readAt .ready b with use := .move Cls.rewrap })] } }

/-- Chunk 7 in the bulk tier under KEY_ID 9; namespace 1 now has a key of KEY_ID 10; an open relocation stripe with room. -/
def rewrapping (same : Bool) : State := let s := withGrants (writing [] [])
  { s with
    cip := { s.cip with data := [(0, { keyOf .active 1 0 true with keyId := if same then 9 else 10 }), (1, keyOf .retiring 1 0 true)] }
    cmf := { s.cmf with ns := [(1, aNs)] }
    ftl := { s.ftl with
      tables := { s.ftl.tables with chunks := [(7, entry 2)] }
      stripes := [(4, {
        state := 1, cls := 1, g := 4, members := [], rows := 256, blockSize := 256 * 16384, rowsDone := 0, rowsSent := 0, intent := 64,
        sentLimit := 64, erases := 0, valid := 0, openTick := 0, fill := [0, 0], buf := [[], []], starts := [], sent := [], lost := [],
        wrong := [] })] } }

theorem witness_read_steps :
    (let s := readIn .stored (List.replicate 128 0); (readHeader (List.replicate 128 0)).passes = false ∧
      got (.chunkDecryptDone 0 false) s (fun t => (Tab.find t.rdx.reads 0).any (fun r => r.stage == .failed)) = true) ∧
    (let s : State := { readIn .stored storedGood with cip := State.reset.cip };
      (readHeader storedGood).passes = true ∧ 96 + (readHeader storedGood).storedLen ≤ storedGood.length ∧
      s.slotOfId (readHeader storedGood).keyId = none ∧ got (.chunkDecryptDone 0 false) s (fun t => t.rdx.reads == []) = true) ∧
    ((readIn .stored storedGood).slotOfId (readHeader storedGood).keyId = some (0, keyOf .active 1 0 true) ∧
      ((readIn .stored storedGood).readEnd .cip 0 (readAt .stored storedGood) (gcmCycles 80 5)).isSome = true ∧
      got (.chunkDecryptDone 0 true) (readIn .stored storedGood) (fun t => t.rdx.reads.all (fun r => r.2.stage == .failed)) = true ∧
      got (.chunkDecryptDone 0 false) (readIn .stored storedGood)
        (fun t => (Tab.find t.rdx.reads 0).any (fun r => r.stage == .decrypted && r.payload == [1, 2, 3, 4, 5])) = true) ∧
    ((readHeader storedBad).passes = true ∧ 96 + (readHeader storedBad).storedLen ≤ storedBad.length ∧
      got (.chunkDecryptDone 0 false) (readIn .stored storedBad) (fun t => told Src.CIP 4 0 t) = true) := by
  refine ⟨?_, ?_, ⟨?_, ?_, ?_, ?_⟩, ?_, ?_, ?_⟩ <;> decide +kernel

/-- A read of that chunk whose payload, decrypted, is as given. -/
def expanding (payload : List Byte) : State := let s := writing [] []
  { s with rdx := { s.rdx with reads := [(0, { readAt .decrypted storedGood with payload := payload })] } }

/-- The header of that chunk, stored raw. -/
def rawHeader : ChunkHeader := readHeader (storedGood.take 3 ++ [1] ++ storedGood.drop 4)

theorem witness_expand_steps :
    ((readHeader storedGood).raw = false ∧
      (expandPayload (readHeader storedGood).gz (readHeader storedGood).logicalLen (rleFrame 4096 0)).1 = 0 ∧
      expandCheck (readHeader storedGood) (rleFrame 4096 0) = (0, List.replicate 4096 0) ∧
      expandedLen (readHeader storedGood) (rleFrame 4096 0) = 4096 ∧
      ((expanding (rleFrame 4096 0)).readEnd .cmp 0 { readAt .decrypted storedGood with payload := rleFrame 4096 0 }
        (expandCycles false 4096)).isSome = true ∧
      got (.chunkExpandDone 0) (expanding (rleFrame 4096 0)) (fun t => t.rdx.reads == [] && t.fld (F.CMP.STAT.COUNT.nth 4) == 1) = true) ∧
    ((expandCheck (readHeader storedGood) [1, 2, 3, 4, 5]).1 = 2 ∧
      got (.chunkExpandDone 0) (readIn .decrypted storedGood) (fun t => told Src.CMP 2 0 t && t.fld (F.CMP.STAT.COUNT.nth 7) == 1) = true) ∧
    (rawHeader.raw = true ∧ (expandCheck rawHeader (List.replicate 4096 0)).1 = 0 ∧
      (expandCheck rawHeader (List.replicate 4096 1)).1 = 6) := by
  refine ⟨?_, ?_, ?_⟩ <;> decide +kernel

/-! The worked example of R83, and the vectors of RFC 1951 and RFC 1952 that a byte of hand calculation gives: "abc" under the
fixed codes, with the CRC32 of "abc". -/

theorem test_chunk_of_spaces :
    rleFrame 16384 0x20 = [0x28, 0xB5, 0x2F, 0xFD, 0x60, 0x00, 0x3F, 0x03, 0x00, 0x02, 0x20] ∧
    expandPayload false 16384 (rleFrame 16384 0x20) = (0, List.replicate 16384 0x20) := by
  refine ⟨?_, ?_⟩ <;> decide +kernel

theorem test_gzip_member :
    (decodeStream 4 15 false true noLimits
      ([0x1F, 0x8B, 8, 0, 0, 0, 0, 0, 0, 3] ++ [0x4B, 0x4C, 0x4A, 0x06, 0x00] ++ leBytes 4 0x352441C2 ++ leBytes 4 3)).out =
      [0x61, 0x62, 0x63] ∧
    (decodeStream 4 15 false true noLimits
      ([0x1F, 0x8B, 8, 0, 0, 0, 0, 0, 0, 3] ++ [0x4B, 0x4C, 0x4A, 0x06, 0x00] ++ leBytes 4 0x352441C2 ++ leBytes 4 4)).status = 0x19 := by
  refine ⟨?_, ?_⟩ <;> decide +kernel

theorem witness_ReadPathChunkSteps :
    (let s := rewrapping false; 7 / 2 ^ 47 = s.ftl.side ∧ Tab.find s.ftl.tables.chunks 7 = some (entry 2) ∧
      Tab.find s.cmf.ns 1 = some aNs ∧ (entry 2).state = 2 ∧ s.mayMove 7 = true ∧ s.moverRead Cls.rewrap 7 = none ∧ s.granted Cls.rewrap = true ∧
      got (.rewrap 1 7) s (fun t => t.rdx.reads.any (fun r => r.2.use == .move Cls.rewrap && r.2.chunk == 7)) = true ∧
      ({ s with pcr := State.reset.pcr } : State).granted Cls.rewrap = false ∧
      got (.rewrap 1 7) { s with pcr := State.reset.pcr } (fun t => t.rdx.reads == []) = true) ∧
    (let s := rewrapRead storedGood (rewrapping true); let k := { keyOf .active 1 0 true with keyId := 9 };
      (s.moverRead Cls.rewrap 7).any (fun p => p.2.stage == .ready) = true ∧ s.slotOfId 9 = some (0, k) ∧
      (s.resolveKey 0 aNs.keySlot).1 = some (0, 0) ∧ (s.resolveKey 0 aNs.keySlot).2.slot 0 0 = some k ∧ k.keyId = (entry 2).keyId ∧
      got (.rewrap 1 7) s (fun t => t.rdx.reads == [] && t.ftl.moves == []) = true) ∧
    (let s := rewrapRead storedGood (rewrapping false); let s1 := (s.resolveKey 0 aNs.keySlot).2;
      s.slotOfId (entry 2).keyId = some (1, keyOf .retiring 1 0 true) ∧ (s.resolveKey 0 aNs.keySlot).1 = some (0, 0) ∧
      (s1.slot 0 0).any (fun k => k.keyId != (entry 2).keyId) = true ∧ (readHeader (List.replicate 128 0)).passes = false ∧
      got (.rewrap 1 7) (rewrapRead (List.replicate 128 0) (rewrapping false)) (fun t => told Src.CIP 4 0 t) = true ∧
      (readHeader storedGood).passes = true ∧ (readHeader storedGood).keyId = (entry 2).keyId ∧ (s1.invoke 0 0 0x44).1.isSome = true ∧
      got (.rewrap 1 7) s (fun t => t.rdx.reads == [] && (Tab.find t.ftl.moves 7).any (fun m => m.kind == .rewrap && m.keyId == 10)) =
        true) := by
  refine ⟨?_, ?_, ⟨?_, ?_, ?_, ?_, ?_, ?_, ?_, ?_, ?_⟩⟩ <;> decide +kernel

/-- Rings 0 of the three engines enabled, with 16 descriptors. -/
def ringOn (s : State) : State :=
  (((((s.put (F.CMP.RING_CFG.EN.nth 0) 1).put (F.CMP.RING_CFG.SIZE_LOG2.nth 0) 4).put (F.CMP.RING_CFG.MAX_LANES.nth 0) 1).put
    (F.CIP.RING_CFG.SIZE_LOG2.nth 0) 4).put (F.DGS.RING_CFG.SIZE_LOG2.nth 0) 4).put (F.CMP.RING_BASE.ADDR.nth 0) (hbmBase / 64)

theorem witness_RingDoorbellsAndEnables :
    (let s := ringOn (at_ .dualActive); core.test = false ∧
      (16 + 2 ^ 32 - s.jobCons .cmp 0) % 2 ^ 32 ≤ s.jobRingSize .cmp 0 ∧ (16 + 2 ^ 32 - s.jobCons .cip 0) % 2 ^ 32 ≤ s.jobRingSize .cip 0 ∧
      (16 + 2 ^ 32 - s.jobCons .dgs 0) % 2 ^ 32 ≤ s.jobRingSize .dgs 0 ∧ s.jobRingSize .cmp 0 < (17 + 2 ^ 32 - s.jobCons .cmp 0) % 2 ^ 32 ∧
      got (.cmpRingDoorbell core 0 16) s (fun t => t.jobProd .cmp 0 == 16 && t.ringRuns .cmp 0) = true ∧
      got (.cipRingDoorbell core 0 16) s (fun t => t.jobProd .cip 0 == 16) = true ∧
      got (.dgsRingDoorbell core 0 16) s (fun t => t.jobProd .dgs 0 == 16) = true ∧
      got (.cmpRingDoorbell core 0 17) s (fun t => !t.ringRuns .cmp 0 && told Src.CMP 1 0 t) = true) ∧
    (let v := fieldWord F.CMP.RING_CFG.SIZE_LOG2 16 ||| fieldWord F.CMP.RING_CFG.MAX_LANES 104;
      (at_ .dualActive).ringEnabled .cmp 31 = false ∧ wfld v.toNat F.CMP.RING_CFG.MAX_LANES = 104 ∧ wfld v.toNat F.CMP.RING_CFG.SIZE_LOG2 = 16 ∧
      got (.cmpRingEnable core 31 v) (at_ .dualActive) (fun t => t.ringRuns .cmp 31 && t.fld (F.CMP.RING_CFG.SIZE_LOG2.nth 31) == 16) = true ∧
      (ringOn (at_ .dualActive)).ringEnabled .cmp 0 = true ∧
      got (.cmpRingDisable core 0 v) (ringOn (at_ .dualActive))
        (fun t => !t.ringEnabled .cmp 0 && t.fld (F.CMP.RING_CFG.SIZE_LOG2.nth 0) == 4 && t.fld (F.CMP.RING_CFG.MAX_LANES.nth 0) == 104) = true) ∧
    (got (.ctxOwnerWrite core false 255 (fieldWord F.CIP.CTX_OWNER.RING 3 ||| fieldWord F.CIP.CTX_OWNER.EN 1)) (at_ .dualActive)
        (fun t => t.fld (F.CIP.CTX_OWNER.RING.nth 255) == 3) = true ∧
      got (.ctxOwnerWrite core true 255 (fieldWord F.DGS.CTX_OWNER.RING 3)) (at_ .dualActive)
        (fun t => t.fld (F.DGS.CTX_OWNER.RING.nth 255) == 3) = true) := by
  refine ⟨?_, ?_, ?_⟩ <;> decide +kernel

/-- A job of ring 0 on lane 0. -/
def aJob (d : List Byte) : RingJob := { ring := 0, desc := d, lane := some 0, old := false, waited := false }

/-- A descriptor at HBM + 64 KiB to HBM + 128 KiB, of 3 bytes. -/
def descOf (opcode flags : Nat) (rest : List (Nat × List Byte)) : List Byte :=
  lay 64 ([(0, leBytes 1 opcode), (1, leBytes 1 flags), (8, leBytes 8 (hbmBase + 65536)), (16, leBytes 4 3), (24, leBytes 8 (hbmBase + 131072))] ++ rest)

/-- A good compression descriptor of a whole message: level 3, window 2^15. -/
def gzDesc : List Byte := descOf 1 0x03 [(2, leBytes 1 3), (3, leBytes 1 15), (20, leBytes 4 4096), (44, leBytes 4 0xFFFFFFFF)]

/-- Ring 0 of CMP has that descriptor to read, or none that MEM lets it read. -/
def dispatching (d : List Byte) (granted : Bool) : State :=
  let s := ringOn (if granted then withMem (at_ .dualActive) else at_ .dualActive)
  let s := ((s.put (F.SIM.JOBFMT.OPCODES.nth 0) 0x1E).put (F.CMP.RING_PROD.COUNT.nth 0) 1).store hbmBase d
  { s with cmp := { s.cmp with lastRing := some 0 } }

/-- A whole Zstandard frame that holds "abc" in a Raw block (RFC 8878), as a single-shot job writes it (R90). -/
def abcFrame : List Byte := [0x28, 0xB5, 0x2F, 0xFD, 0x20, 3, 0x19, 0, 0, 0x61, 0x62, 0x63]

/-- A job end with a status and an output, of 3 bytes taken. -/
def anEnd (status : Nat) (output : List Byte) : JobEnd := {
  status := status, inConsumed := 3, output := output, frameEnd := true, check := 0, memberSeq := 0, inFrame := false, held := false,
  engine := [] }

/-- A good expansion descriptor of a whole message: that frame. -/
def unzDesc : List Byte := descOf 2 0x03 [(3, leBytes 1 23), (16, leBytes 4 12), (20, leBytes 4 131072), (44, leBytes 4 0xFFFFFFFF)]

/-- A compression of "abc" under way, and the expansion of its frame. -/
def compressing : State := let s := (withMem (at_ .dualActive)).store (hbmBase + 65536) [0x61, 0x62, 0x63]
  { s with cmp := { s.cmp with jobs := [(0, aJob gzDesc)] } }
def expandingJob : State := let s := (withMem (at_ .dualActive)).store (hbmBase + 65536) abcFrame
  { s with cmp := { s.cmp with jobs := [(0, aJob unzDesc)] } }

theorem witness_RingJobsRunAndEnd :
    (let s := dispatching gzDesc true; s.ringTurnOf 0 = true ∧ s.ringTurnOf 31 = false ∧ still (.cmpJobDispatch 31) s = true ∧
      (s.put (F.CMP.RING_CFG.EN.nth 0) 0).ringTurnOf 0 = true ∧ (s.put (F.CMP.RING_CFG.EN.nth 0) 0).ringRuns .cmp 0 = false ∧
      got (.cmpJobDispatch 0) (s.put (F.CMP.RING_CFG.EN.nth 0) 0) (fun t => t.cmp.turned == [0] && t.cmp.jobs == []) = true) ∧
    (let s := dispatching gzDesc false; s.ringRuns .cmp 0 = true ∧ s.cmp.jobs = [] ∧ s.jobProd .cmp 0 ≠ s.jobCons .cmp 0 ∧
      (s.cplProd .cmp 0 + 2 ^ 32 - s.cplCons .cmp 0) % 2 ^ 32 + s.ringInflight .cmp 0 < s.jobRingSize .cmp 0 ∧
      s.loadBy Src.CMP (s.fld (F.CMP.RING_BASE.ADDR.nth 0) * 64 + 64 * (s.jobCons .cmp 0 % s.jobRingSize .cmp 0)) 64 = none ∧
      got (.cmpJobDispatch 0) s (fun t => t.fld (F.CMP.RING_STATUS.CAUSE.nth 0) == 2) = true) ∧
    (let s := dispatching gzDesc true; s.jobProd .cmp 0 = (s.jobCons .cmp 0 + 1) % 2 ^ 32 ∧
      s.loadBy Src.CMP (s.fld (F.CMP.RING_BASE.ADDR.nth 0) * 64 + 64 * (s.jobCons .cmp 0 % s.jobRingSize .cmp 0)) 64 = some gzDesc ∧
      s.cmpBadDesc gzDesc = false ∧ jobHolds .cmp gzDesc = none ∧ (s.laneForJob .cmp 0 gzDesc).isSome = true ∧
      s.cmpBadDesc (descOf 9 3 []) = true ∧
      got (.cmpJobDispatch 0) s (fun t => t.cmp.jobs.length == 1 && t.jobCons .cmp 0 == 1) = true ∧
      got (.cmpJobDispatch 0) (dispatching (descOf 9 3 []) true) (fun t => t.cmp.ended.any (fun e => e.status == 2)) = true) ∧
    (cmpEndStatus (anEnd 0 abcFrame).status = true ∧ (anEnd 0 abcFrame).inConsumed ≤ descField gzDesc 16 4 ∧
      abcFrame.length ≤ descField gzDesc 20 4 ∧ descField gzDesc 48 8 = 0 ∧ descField gzDesc 44 4 = 0xFFFFFFFF ∧
      (compressing.cmpStream gzDesc).any (fun c => (compressEnd gzDesc c [0x61, 0x62, 0x63] (anEnd 0 abcFrame) 0).any (fun p =>
        (compressing.ringEnd .cmp 0 (aJob gzDesc) (cmpJobCycles gzDesc p.1)).isSome)) = true ∧
      got (.cmpJobEnd 0 (anEnd 0 abcFrame)) compressing (fun t => t.load (hbmBase + 131072) 13 == abcFrame ++ [0] && t.cmp.jobs == [] &&
        t.cmp.ended.any (fun x => x.status == 0)) = true ∧
      got (.cmpJobEnd 0 (anEnd 4 [])) compressing (fun t => t.byte (hbmBase + 131072) == 0 && t.cmp.ended.any (fun x => x.status == 4)) = true ∧
      descField unzDesc 0 1 % 2 = 0 ∧ descField unzDesc 48 8 = 0 ∧ descField unzDesc 44 4 = 0xFFFFFFFF ∧
      (expandingJob.cmpStream unzDesc).any (fun c => (decompressEnd unzDesc c abcFrame 0).1.output == [0x61, 0x62, 0x63]) = true ∧
      got (.cmpJobEnd 0 (anEnd 0 [])) expandingJob (fun t => t.load (hbmBase + 131072) 4 == [0x61, 0x62, 0x63, 0] && t.cmp.jobs == [] &&
        t.cmp.ended.any (fun x => x.status == 0)) = true) ∧
    (let d := descOf 2 0x03 [(40, leBytes 2 0), (20, leBytes 4 0), (48, leBytes 8 (hbmBase + 196608)), (56, leBytes 8 (hbmBase + 262144))];
      let s := withMem (writing [] []); let s : State := { s with cip := { s.cip with jobs := [(0, aJob d)] } };
      usesCtx d = false ∧ descField d 0 1 = 2 ∧ (descField d 1 1).testBit 2 = false ∧
      s.slot (descField d 40 2 / 2 ^ 14) (descField d 40 2 % 2 ^ 12) = some (keyOf .active 1 0 true) ∧
      (s.ringEnd .cip 0 (aJob d) (ringCycles .cip d)).isSome = true ∧
      got (.cipJobEnd 0 (some 2)) s (fun t => t.cip.ended.any (fun e => e.status == 4) && t.cip.jobs == [] &&
        t.byte (hbmBase + 131072 + 2) == 0 && t.byte (hbmBase + 131072) != 0) = true ∧
      got (.cipJobEnd 0 none) s (fun t => t.cip.ended.any (fun e => e.status == 0x20) && t.cip.jobs == []) = true) ∧
    (let d := descOf 1 0x07 []; let s := withMem (at_ .dualActive); let s : State := { s with dgs := { s.dgs with jobs := [(0, aJob d)] } };
      usesCtx d = false ∧ (descField d 1 1).testBit 2 = true ∧ (descField d 1 1).testBit 3 = false ∧ descField d 16 4 ≤ jobMax ∧
      (s.ringEnd .dgs 0 (aJob d) (ringCycles .dgs d)).isSome = true ∧
      got (.dgsJobEnd 0 (some 2)) s (fun t => t.dgs.ended.any (fun e => e.status == 4)) = true ∧
      got (.dgsJobEnd 0 none) (s.store (hbmBase + 65536) [0x61, 0x62, 0x63]) (fun t => t.load (hbmBase + 131072) 4 == [0xBA, 0x78, 0x16, 0xBF] &&
        t.dgs.ended.any (fun e => e.status == 0)) = true) ∧
    (let s : State := ((at_ .dualActive).put F.CMP.STATUS.ROLE_PEND 1).put F.CMP.CONFIG.COMP_LANES 41;
      s.roleChanges 40 = true ∧ s.laneEmpty 40 = true ∧
      got (.laneRoleTaken 40) s (fun t => t.cmp.compressors.contains 40 && !t.flag F.CMP.STATUS.ROLE_PEND) = true) := by
  refine ⟨?_, ?_, ?_, ?_, ?_, ?_, ?_⟩ <;> decide +kernel

/-! The Frond ports. -/

/-- Port 95 in a state since a tick, with its module known. -/
def portIn (st : LinkState) (since : Nat) : FrnPort := { State.reset.coldPort 95 with
  state := st, since := since, desc := some aDesc, cmdLimit := 100, pageLimit := 100, heardAt := 1000000, ackAt := 1000000, store := [(7, 84)] }

/-- The head with that port. -/
def ported (p : FrnPort) : State := (at_ .dualActive).setPort 95 p

/-- A command of 95, sent at a tick. -/
def sentCmd (op : Nat) (u : Purpose) (sent : Nat) : FrnCmd := { frnCmd op 3 5 0 1 0 false u true with sent := sent, epoch := 4 }

theorem witness_FrondLinkStates :
    (got (.trainingPatternReceived 95) (ported (portIn .detect 0)) (fun t => (t.port 95).state == .train) = true) ∧
    ((ported (portIn .train 950000)).now ≤ 950000 + 50000 ∧
      got (.equalisationComplete 95) (ported (portIn .train 950000)) (fun t => (t.port 95).state == .align && (t.port 95).cmdLimit == 0) = true ∧
      got (.trainTimeout 95) (ported (portIn .train 950000)) (fun t => (t.port 95).state == .detect) = true) ∧
    (got (.alignComplete 95) (ported (portIn .align 995000)) (fun t => (t.port 95).state == .ident && (t.port 95).cmds.length == 1) = true ∧
      got (.alignTimeout 95) (ported (portIn .align 995000)) (fun t => (t.port 95).state == .detect) = true ∧
      got (.identTimeout 95) (ported (portIn .ident 995000)) (fun t => (t.port 95).state == .fault && told Src.FRN 3 95 t) = true ∧
      got (.downTimeout 95) (ported (portIn .down 999500)) (fun t => (t.port 95).state == .detect && (t.port 95).desc.isNone) = true) ∧
    ((portIn .retrain 995000).held = [] ∧
      got (.retrainComplete 95) (ported (portIn .retrain 995000)) (fun t => (t.port 95).state == .up) = true) ∧
    ([Instr.moduleLoss 95, .retrainTimeout 95].all (fun c => got c
        (ported { portIn .retrain 995000 with cmds := [(1, sentCmd 2 .anchor 5)] })
        (fun t => (t.port 95).state == .down && t.frn.results.length == 1 && told Src.FRN 1 95 t)) = true) ∧
    (let s := ((at_ .dualActive).put F.FRN.CONFIG.PORTS 96).put (F.FRN.PORT_CTL.EN.nth 95) 0; s.flag (F.FRN.PORT_CTL.EN.nth 95) = false ∧ 95 < s.fld F.FRN.CONFIG.PORTS ∧
      got (.portEnableWrite core 95 1) s (fun t => (t.port 95).state == .detect) = true) ∧
    (got (.portEnableWrite core 95 0) (ported (portIn .up 5)) (fun t => (t.port 95).state == .off && told Src.FRN 1 95 t) = true) ∧
    (let s := (ported { portIn .up 5 with cmds := [(1, sentCmd 2 .anchor 5)] }).put (F.FRN.PORT_CTL.EN.nth 95) 1;
      s.flag (F.FRN.PORT_CTL.EN.nth 95) = true ∧
      got (.forceRetrain core 95 1) s (fun t => (t.port 95).state == .align && (t.port 95).recovering.length == 1) = true) := by
  refine ⟨?_, ?_, ?_, ?_, ?_, ?_, ?_, ?_⟩ <;> decide +kernel

/-- The 128 bytes of a descriptor that passes. -/
def descBytes : List Byte :=
  let b := lay 124 [(0, beBytes 2 0x4644), (2, [1]), (3, [16]), (4, beBytes 16 0xFFFF), (20, beBytes 2 16384), (22, [64]), (23, [4]),
    (24, beBytes 2 256), (26, beBytes 2 8), (44, beBytes 2 1024), (64, beBytes 4 1000000)]
  b ++ beBytes 4 (crc32c b)

/-- A frame of a module (R248), with tag 1: a type, flags, LSEQ, LACK and a payload. -/
def frondFrame (typ flags lseq lack : Nat) (p : List Byte) : List Byte :=
  let h := lay 14 [(0, leBytes 1 typ), (1, leBytes 1 flags), (2, beBytes 2 lseq), (4, beBytes 2 lack), (6, beBytes 2 p.length), (13, [1])]
  let b := h ++ beBytes 2 (crc16 h) ++ p
  b ++ beBytes 4 (crc32c b)

/-- The payload of a response to a PROGRAM, and its frame, the next of the port; a reserved byte of it may be set. -/
def rspFields (status : Nat) : Rsp := {
  op := 2, status := status, loops := 1, maxCorr := 0, pagesOk := 1, mdValid := false, dcrc := 0, dlen := 0, dieEpoch := 4, state := 0,
  replayed := false }
def rsp (status reserved : Nat) : List Byte :=
  frondFrame 0x11 0 0 65535 (lay 32 [(0, [2]), (1, leBytes 1 status), (3, [1]), (6, [1]), (16, beBytes 4 4), (22, leBytes 1 reserved)])

/-- An EVENT frame of a code, a die and its reserved bytes. -/
def eventOf (code die reserved : Nat) : List Byte :=
  frondFrame 0x13 0 0 65535 (lay 16 [(0, leBytes 1 code), (1, leBytes 1 die), (2, beBytes 2 reserved)])

/-- The next RDATA frame, one out of order, and one whose CRC fails. -/
def rdata : List Byte := frondFrame 0x12 0 0 65535 (List.replicate 64 3)
def early : List Byte := frondFrame 0x12 0 2 65535 (List.replicate 64 3)
def broken (typ : Nat) : List Byte := (frondFrame typ 0 0 65535 (List.replicate 64 3)).set 20 4

/-- Port 95 UP, or in another state, with a command under tag 1. -/
def busyPort (st : LinkState) (c : FrnCmd) : State := ported { portIn st 900000 with cmds := [(1, c)] }

theorem witness_FrondFramesAndCommands :
    (let s (b : List Byte) := busyPort .ident { sentCmd 10 .identify 5 with data := b };
      descPasses descBytes = true ∧ descPasses [] = false ∧
      (readFrame 0x11 (rsp 0 0)).cause = 0 ∧ (readFrame 0x11 (rsp 0 0)).lseq = ((s []).port 95).rxNext ∧ (readFrame 0x11 (rsp 0 0)).tag = 1 ∧
      readRsp (readFrame 0x11 (rsp 0 0)) = some (rspFields 0) ∧
      got (.descriptorReceived 95 (rsp 0 0)) (s descBytes) (fun t => (t.port 95).state == .up && told Src.FRN 0 95 t) = true ∧
      got (.descriptorReceived 95 (rsp 0 0)) (s []) (fun t => (t.port 95).state == .fault && told Src.FRN 3 95 t) = true) ∧
    (let s := busyPort .up (sentCmd 2 (.rebuild 1 2 3 4) 5);
      (Purpose.rebuild 1 2 3 4 ∉ [Purpose.identify, .fence, .health, .status, .suspend, .resume, .probe]) ∧
      readRsp (readFrame 0x11 (rsp 4 0)) = some (rspFields 4) ∧ readRsp (readFrame 0x11 (rsp 0 1)) = none ∧
      (readFrame 0x11 (rsp 0 1)).cause = 0 ∧
      got (.rspReceived 95 (rsp 0 0)) s (fun t => t.frn.results.length == 1 && (t.port 95).cmds.isEmpty) = true ∧
      got (.rspReceived 95 (rsp 4 0)) s (fun t => told Src.FRN 4 95 t && t.tck.latches.contains (.epochLoss .module)) = true ∧
      got (.rspReceived 95 (rsp 0 1)) s (fun t => told Src.FRN 9 95 t && t.frn.results.isEmpty && (t.port 95).cmds.length == 1) = true) ∧
    (let s := busyPort .up (sentCmd 1 .probe 5);
      (readFrame 0x12 early).lseq ≠ (s.port 95).rxNext ∧ (readFrame 0x20 (broken 0x20)).cause = 1 ∧ (readFrame 0x12 (broken 0x13)).cause ≠ 0 ∧
      got (.rdataReceived 95 early) s (fun t => (t.port 95).nakSent && t.out == [.frondAck 95 65535 3]) = true ∧
      [Instr.frondAck 95 (broken 0x20), .rspReceived 95 (broken 0x11), .credit 95 (broken 0x21)].all (fun c =>
        got c s (fun t => (t.port 95).nakSent && t.out == [.frondAck 95 65535 1])) = true ∧
      (readFrame 0x12 rdata).cause = 0 ∧
      got (.rdataReceived 95 rdata) s (fun t => (t.port 95).cmds.any (fun q => q.2.data == List.replicate 64 3)) = true) ∧
    (let s := busyPort .up (sentCmd 2 (.rebuild 1 2 3 4) 5);
      (readFrame 0x13 (eventOf 1 127 0)).cause = 0 ∧
      got (.moduleEvent 95 (eventOf 1 127 0)) s (fun t => t.tck.latches.contains (.dieFailure 95 127)) = true ∧
      got (.moduleEvent 95 (eventOf 1 128 0)) s (fun t => t.tck.latches == [] && told Src.FRN 9 95 t) = true ∧
      got (.moduleEvent 95 (eventOf 1 127 1)) s (fun t => t.tck.latches == [] && told Src.FRN 9 95 t) = true ∧
      got (.moduleEvent 95 (eventOf 2 0 0)) s (fun t => told Src.FRN 8 95 t) = true ∧
      got (.moduleEvent 95 (eventOf 5 0 0)) s (fun t => (t.port 95).bridgeFault && told Src.FRN 1 95 t) = true ∧
      got (.moduleEvent 95 (eventOf 6 0 0)) s (fun t => told Src.FRN 9 95 t) = true) ∧
    (let s := ported (portIn .up 5); let ack (flags lack : Nat) := frondFrame 0x20 flags 0 lack [];
      let cred := frondFrame 0x21 0 0 65535 (beBytes 4 500 ++ beBytes 4 20);
      (s.port 95).held = [] ∧ (s.port 95).pages = [] ∧ (s.port 95).recovering = [] ∧ (s.port 95).replays < 4 ∧ (s.port 95).store ≠ [] ∧
      (readFrame 0x20 (ack 0 7)).cause = 0 ∧ (readFrame 0x20 (ack 0 7)).nak = false ∧ (readFrame 0x20 (ack 1 65535)).nak = true ∧
      (readFrame 0x20 (ack 1 65535)).lack = (s.port 95).lack ∧ (readFrame 0x21 cred).cause = 0 ∧
      got (.frondAck 95 (ack 0 7)) s (fun t => (t.port 95).store.isEmpty) = true ∧
      got (.frondAck 95 (ack 1 65535)) s (fun t => (t.port 95).replays == 1) = true ∧
      got (.credit 95 cred) s (fun t => (t.port 95).cmdLimit == 500 && (t.port 95).pageLimit == 100) = true) ∧
    (let s := ported { portIn .up 5 with ackAt := 999998 }; (s.port 95).ackAt + 2 ≤ s.now ∧
      got (.replayTimeout 95) s (fun t => (t.port 95).replays == 1) = true) ∧
    (let s := ported { portIn .up 5 with ackAt := 999998, replays := 4, heardAt := 0, retrainAt := [400000, 999999] };
      ((s.port 95).retrainAt.filter (fun t => t + 500000 > s.now)).length < 3 ∧ (s.port 95).heardAt + s.fld F.FRN.TIMEOUT.IDLE ≤ s.now ∧
      got (.replayTimeout 95) s (fun t => (t.port 95).state == .retrain) = true ∧
      got (.idleTimeout 95) s (fun t => (t.port 95).state == .retrain) = true) ∧
    ([true, false].all (fun probed =>
      let c := { sentCmd 2 .anchor 0 with probed := probed }
      let s := busyPort .up c
      decide (c.sent + (aDesc.maxOp + s.tickNs - 1) / s.tickNs + s.fld F.FRN.TIMEOUT.MARGIN ≤ s.now) &&
      got (.commandTimeout 95 1) s (fun t => (t.port 95).state == (if probed then .align else .up))) = true) ∧
    (let s : State := { ported (portIn .up 5) with tck := { (at_ .dualActive).tck with tick := 512 * 1024 } };
      s.now % (512 * 1024) = 0 ∧ got .healthPoll s (fun t => (t.port 95).cmds.any (fun q => q.2.op == 11)) = true) ∧
    (got (.dieFailure 95 127) (at_ .dualActive) (fun t => t.dieFailed 95 127 && !t.dieFailed 95 63 && told Src.FRN 2 95 t) = true) ∧
    (let s := (ported (portIn .up 5)).put (F.FRN.PORT_MGMT.VIEW.nth 95) 3; s.viewsDisagree 95 = true ∧ (s.port 95).recon = none ∧
      got (.reconStart 95) s (fun t => t.flag (F.FRN.PORT_STATUS.RECON.nth 95) && told Src.FRN 6 95 t) = true) ∧
    (let s := ported { portIn .up 5 with recon := some 0 }; 0 + s.ticksIn 2000000 ≤ s.now ∧
      got (.reconEnd 95) s (fun t => (t.port 95).recon.isNone && told Src.FRN 7 95 t) = true) ∧
    ((at_ .dualActive).other = none ∧ (at_ .dualActive).rdn.reshape = none ∧
      got (.evacReq core 95 3) (at_ .dualActive) (fun t => t.rdn.evacQueue.contains 95) = true) := by
  refine ⟨?_, ?_, ?_, ?_, ?_, ?_, ?_, ?_, ?_, ?_, ?_, ?_, ?_⟩ <;> decide +kernel

/-! Flash translation and redundancy. -/

/-- Namespace 1 with snapshot 3 at epoch 5; a snapshot command waits. -/
def snapping (nsid me : Nat) (op : Option Nat) (sweeps : List SnapSweep) : State :=
  withFtl (fun f => { f with
    snapCmd := op, sweeps := sweeps
    tables := { f.tables with epochs := [(1, ⟨5, [3]⟩)], retained := [⟨1, 0, ⟨2, 7, 0, 4⟩, 5⟩, ⟨1, 1, ⟨2, 8, 0, 2⟩, 5⟩] } })
    (((at_ .dualActive).put F.FTL.SNAP_ARG.NSID nsid).put F.FTL.SNAP_ARG.ME me)

/-- Page 0 of a block of die 0 as the module gives it, its header and first bytes. -/
def flashPage (port block kind first : Nat) (b : List Byte) : FlashPage := {
  port := port, die := 0, block := block, page := 0, ok := true, dcrc := 7
  header := pageHeader kind 4 9 (placeOf (blockKey port 0 block)) 0 0 first 7, data := padTo 16384 b }

/-- A record of JSEQ 3: a snapshot of namespace 1. -/
def snapRec : JRec := {
  jseq := 3, doneSeq := 2, epoch := 4, items := [.snap 1 5 1], cmd := none, copy0 := .ok, copy1 := .ok, block0 := none, block1 := none
  applied := false, qualified := none, delta := none, handed := false, forPeer := true, superseded := false }

/-- The pages of a side whose journal pair, in block 5 of modules 0 and 1, holds that record. -/
def recoveryRead : RecoveryRead := {
  pages := [flashPage 0 0 4 0xFFFF (anchorPage 0 4 1 3 [(blockKey 0 0 5, blockKey 1 0 5)]), flashPage 1 5 3 0 snapRec.encode], erases := [] }

/-- A checkpoint of UPTO 9 that has placed a page of the chunk table in row 1 of stripe 4, and the directory behind it. -/
def writtenOut (rows : Nat) : State :=
  let x : Stripe := {
    state := 1, cls := 2, g := 4, members := [], rows := 256, blockSize := 256 * 16384, rowsDone := rows, rowsSent := rows, intent := 64,
    sentLimit := 64, erases := 0, valid := 0, openTick := 0, fill := [], buf := [], starts := [], sent := [], lost := [], wrong := [] }
  withFtl (fun f => { f with
    ckpt := some 9, jseq := 9, stripes := [(4, x)]
    writeBack := some ⟨[⟨pageId 3 0 0, 2 ^ 47 + 4 * 2 ^ 27 + 256, 9, []⟩], 2 ^ 47 + 4 * 2 ^ 27 + 321, 1⟩ }) (withGrants (at_ .dualActive))

theorem witness_SnapshotsCheckpointsAndRecovery :
    (core.test = false ∧ (at_ .dualActive).flag F.FTL.SNAP_STATUS.BUSY = false ∧
      got (.snapCreate core) (at_ .dualActive) (fun t => t.flag F.FTL.SNAP_STATUS.BUSY && t.ftl.snapCmd == some 1) = true ∧
      got (.snapDelete core) ((at_ .dualActive).put F.FTL.SNAP_STATUS.BUSY 1) (fun t => t.ftl.snapCmd == none) = true) ∧
    (let s := snapping 2 0 (some 1) []; Tab.find s.ftl.tables.epochs (s.fld F.FTL.SNAP_ARG.NSID) = none ∧
      s.runSnapCommand.fld F.FTL.SNAP_STATUS.RESULT = 1) ∧
    (let s := snapping 1 0 (some 1) []; Tab.find s.ftl.tables.epochs (s.fld F.FTL.SNAP_ARG.NSID) = some ⟨5, [3]⟩ ∧
      s.runSnapCommand.fld F.FTL.SNAP_STATUS.ME = 5 ∧ s.runSnapCommand.ftl.tables.epochs = [(1, ⟨6, [3, 5]⟩)]) ∧
    (let s (me : Nat) := snapping 1 me (some 2) []; 4 ∉ [3] ∧ (s 4).runSnapCommand.fld F.FTL.SNAP_STATUS.RESULT = 3 ∧
      (s 3).runSnapCommand.ftl.tables.epochs = [(1, ⟨5, []⟩)] ∧ (s 3).runSnapCommand.ftl.sweeps = [⟨1, 3, false⟩]) ∧
    (let s := withGrants (snapping 1 3 none [⟨1, 3, false⟩]); s.other = none ∧ s.granted Cls.mapWork = true ∧ s.ftl.sweeps.find? (fun w => w.nsid == 1) = some ⟨1, 3, false⟩ ∧
      got (.snapSweep 1) s (fun t => t.ftl.tables.retained.length == 1 && t.ftl.sweeps == [] && told Src.FTL 14 1 t) = true) ∧
    (got (.keyqQuery core (2 ^ 32 - 1)) (at_ .dualActive) (fun t => t.ftl.keyQuery && t.fld F.FTL.KEYQ_ID.KEY_ID == 2 ^ 32 - 1) = true) ∧
    (let s := (withFtl (fun f => { f with keyQuery := true, tables := { f.tables with chunks := [(7, entry 1), (8, entry 3)] } })
        (at_ .dualActive)).put F.FTL.KEYQ_ID.KEY_ID 9;
      s.ftl.keyQuery = true ∧ s.answerKeyQuery.fld F.FTL.KEYQ_COUNT.COUNT = 1) ∧
    (let s := withFtl (fun f => { f with sinceCkpt := 2 ^ 40, jseq := 9 }) (at_ .dualActive);
      s.ftl.ckpt = none ∧ s.fld F.FTL.CKPT_CTL.GIB * 2 ^ 30 < s.ftl.sinceCkpt ∧
      got .checkpointStart s (fun t => t.ftl.ckpt == some 9) = true) ∧
    (let s := withFtl (fun f => { f with ckpt := some 9, jseq := 9 }) (at_ .dualActive); let g := withGrants s;
      s.ckptFormed 9 = false ∧ s.granted Cls.mapWork = false ∧ still .checkpointDone s = true ∧ g.ftl.writeBack = none ∧
      g.mayWriteBack 9 = true ∧ g.granted Cls.mapWork = true ∧
      got .checkpointDone g (fun t => t.ftl.writeBack == some ⟨[], 0, 0⟩) = true) ∧
    (let s := writtenOut 2; let w : WriteBack := ⟨[⟨pageId 3 0 0, 2 ^ 47 + 4 * 2 ^ 27 + 256, 9, []⟩], 2 ^ 47 + 4 * 2 ^ 27 + 321, 1⟩;
      s.other = none ∧ s.ckptFormed 9 = false ∧ s.ftl.writeBack = some w ∧ (w.pages.all fun p => s.bulkDurable p.place 65) = true ∧
      s.bulkDurable w.root 65 = true ∧ (writtenOut 1).bulkDurable w.root 65 = false ∧
      got .checkpointDone s (fun t => t.ftl.jseq == 10 && t.ftl.ckpt == some 9 &&
        t.ftl.journal.map JRec.items == [[.pageWb 3 0 (2 ^ 47 + 4 * 2 ^ 27 + 256) 0, .ckpt 9 w.root 1]]) = true ∧
      got .checkpointDone (writtenOut 1) (fun t => t.ftl.journal == []) = true) ∧
    (let s : State := withModules [0, 1] ({ at_ .recovery with rfl := { State.reset.rfl with recover := 1 } } : State);
      let s := (s.put F.FTL.ANCHOR.MOD_A 0).put F.FTL.ANCHOR.MOD_B 1;
      s.rfl.recover = 2 ^ s.tck.headSlot ∧ s.ftl.side = s.tck.headSlot ∧
      got (.recoveryReplay recoveryRead) s (fun t => t.rfl.recover == 0 && t.ftl.jseq == 3 && t.ftl.tables.epochs == [(1, ⟨6, [5]⟩)] &&
        t.ftl.livePairs == [⟨blockKey 0 0 5, blockKey 1 0 5, 3⟩] && told Src.FTL 0 0 t) = true ∧
      got (.recoveryReplay ⟨[], []⟩) s (fun t => t.rfl.recover == 0 && t.ftl.jseq == 0) = true) ∧
    ((at_ .recovery).rfl.recover = 0 ∧ ((at_ .recovery).put F.FTL.STATUS.RECOVERY 7).fld F.FTL.STATUS.RECOVERY = 7 ∧
      got .recoveryDone ((at_ .recovery).put F.FTL.STATUS.RECOVERY 7) (fun t => t.lcs.mode == .soloActive) = true) := by
  refine ⟨?_, ?_, ?_, ?_, ?_, ?_, ?_, ?_, ?_, ?_, ?_, ?_⟩ <;> decide +kernel

/-- A stripe of three members of four dies, one or none of them failed. -/
def aStripe (state cls : Nat) (failed : Bool) : Stripe := {
  state := state, cls := cls, g := 4
  members := [⟨0, [(0, 5), (2, 5), (4, 5), (6, 5)], false, none⟩, ⟨1, [(0, 5), (2, 5), (4, 5), (6, 5)], failed, none⟩,
    ⟨2, [(0, 5), (2, 5), (4, 5), (6, 5)], false, none⟩]
  rows := 256, blockSize := 256 * 16384, rowsDone := 4, rowsSent := 4, intent := 64, sentLimit := 64, erases := 0, valid := 128, openTick := 0
  fill := [65536, 65536, 65536], buf := [[], [], []], starts := [], sent := [], lost := [], wrong := [] }

/-- The place of a chunk in row 1 of die slot 0 of stripe 4. -/
def bulkPlace : Nat := 2 ^ 47 + 4 * 2 ^ 27 + 256

/-- That chunk. -/
def bulkEntry : ChunkEntry := { entry 2 with loc0 := bulkPlace, loc1 := 0 }

/-- A moss chunk to fold, a stripe to fold into, and a closed stripe with a chunk to collect into another. -/
def tiered (open_ : Bool) : State := withGrants (withFtl (fun f => { f with
    mossOrder := [7], tables := { f.tables with chunks := [(7, entry 1), (8, bulkEntry)] }
    stripes := (4, aStripe 2 0 false) :: (if open_ then [(5, aStripe 1 0 false), (6, aStripe 1 1 false)] else []) }) (at_ .dualActive))

/-- A read of chunk 8 whose two pieces wait. -/
def pieceOf8 (failed recon : Bool) : ReadPiece := {
  port := 0, die := 0, block := 5, page := 1, col := 0, xlen := 2, data := none, failed := failed, level := 0, recon := recon
  stripe := some 4 }
def reading8 (p : ReadPiece) : State := withModules [0] (let s := tiered false
  { s with rdx := { s.rdx with reads := [(0, { readAt .waiting [] with chunk := 8, place := bulkPlace, pieces := [p, p] })] } })

/-- The stored bytes of a chunk, present for a mover. -/
def moverHas (cls chunk : Nat) (b : List Byte) (s : State) : State :=
  { s with rdx := { s.rdx with reads := (chunk, { readAt .ready b with chunk := chunk, use := .move cls, lane := none, cmpLane := none }) ::
      s.rdx.reads } }

/-- A page of stripe 4 asked for, and a set of it whose page of member 1 that is. -/
def setPage (m : Nat) (p : ReadPiece) : ReadPiece := { p with port := m, xlen := 256 }
def setOf (use : SetFor) (row slot : Nat) (pages : List (Nat × ReadPiece)) (s : State) : State :=
  withRdn (fun q => { q with nextSet := 5, sets := [(2, { unit := 4, row := row, slot := slot, use := use, pages := pages })] }) s

theorem witness_FlashBackgroundRows :
    (let s := tiered true; let b := List.replicate 128 (1 : Byte);
      (s.moveToBulk .fold 0 7 9 b).1 = true ∧ s.other = none ∧ s.rdx.reads = [] ∧ s.moverRead Cls.fold 7 = none ∧
      s.granted Cls.fold = true ∧ (at_ .dualActive).granted Cls.fold = false ∧
      got .fold s (fun t => t.rdx.reads.any (fun r => r.2.use == .move Cls.fold && r.2.chunk == 7)) = true ∧
      got .gcCopy s (fun t => t.rdx.reads.any (fun r => r.2.use == .move Cls.gc && r.2.chunk == 8)) = true) ∧
    (let b := List.replicate 128 (1 : Byte); let s := moverHas Cls.fold 7 b (tiered true); let g := moverHas Cls.gc 8 storedGood (tiered true);
      (s.moverRead Cls.fold 7).map Prod.fst = some 7 ∧ s.foldRoom 0 b.length = true ∧ (readHeader storedGood).passes = true ∧
      (g.moveToBulk .relocate 1 8 9 storedGood).1 = true ∧
      got .fold s (fun t => (Tab.find t.ftl.moves 7).any (fun m => m.kind == .fold && m.state == 2)) = true ∧
      got .gcCopy g (fun t => (Tab.find t.ftl.moves 8).any (fun m => m.kind == .relocate)) = true) ∧
    (let s := moverHas Cls.fold 7 (List.replicate 128 1) (tiered false); (s.moveToBulk .fold 0 7 9 (List.replicate 128 1)).1 = false ∧
      s.placement s.stripeNumber = none ∧
      got .fold s (fun t => told Src.RDN 9 s.stripeNumber t) = true) ∧
    (let m : Movement := {
        kind := .fold, loc0 := bulkPlace, loc1 := 0, state := 2, keyId := 9, units := 2, verified := true, jseq := some 3, newMoss := [],
        oldUnits := none, old := [] };
      let s := withFtl (fun f => { f with moves := [(7, m)], jseq := 3 }) (tiered true);
      7 / 2 ^ 47 = s.ftl.side ∧ m.kind = .fold ∧ s.moveDone m = true ∧
      got (.mossRelease 7) s (fun t => t.ftl.moves == [] && t.ftl.mossOrder == []) = true) ∧
    (let k := blockKey 0 0 3; let s := withFtl (fun f => { f with blocks := [(k, ⟨0, 2, 16384, 0, 0⟩)] }) (at_ .dualActive);
      blockKeyOf (placeOf k) = k ∧ s.erasable 1 (placeOf k) = true ∧ s.unitQuiet [k] = true ∧ (s.blockWear k).recovered.length < 2 ∧
      s.wornOut k = false ∧
      got (.unitErase 1 (placeOf k)) s (fun t => t.ftl.erasing.length == 1) = true) ∧
    (let s := withFtl (fun f => { f with rewrites := [⟨8, List.replicate 128 1, bulkPlace⟩] }) (tiered true);
      let m := withFtl (fun f => { f with rewrites := [⟨7, List.replicate 128 1, placeOf (blockKey 0 0 3)⟩] }) (tiered true);
      (s.moveToBulk .rewrite 1 8 9 (List.replicate 128 1)).1 = true ∧ bulkEntry.state ≠ 1 ∧ (entry 1).state = 1 ∧
      s.ftl.rewrites.filter s.rewriteDue = s.ftl.rewrites ∧ s.mayMove 8 = true ∧ m.ftl.rewrites.filter m.rewriteDue = m.ftl.rewrites ∧
      got .chunkRewrite s (fun t => (Tab.find t.ftl.moves 8).any (fun m => m.kind == .rewrite)) = true ∧
      got .chunkRewrite m (told Src.FTL 4 0) = true ∧
      got .chunkRewrite (withFtl (fun f => { f with rewrites := [⟨99, [], 0⟩] }) s) (fun t => t.ftl.rewrites == []) = true) ∧
    (let s := (reading8 (pieceOf8 true false)).put F.FTL.RETRY_CTL.MAX 1; s.sideOfRead 0 = s.ftl.side ∧
      (pieceOf8 true false).level < s.retryMax 0 ∧
      got (.readRetry (.piece 0 1)) s (fun t => t.rdx.reads.any (fun r => r.2.pieces[1]? == some { pieceOf8 false false with level := 1 })) = true ∧
      (let p := { pieceOf8 true false with level := s.retryMax 0 };
        let s := { reading8 p with regs := s.regs }; let d := setOf .patrol 1 1 [(0, { p with die := 2 })] s;
        s.assistOf p = some [(2, 5), (4, 5), (6, 5)] ∧ d.assistOf p = none ∧
        got (.readRetry (.piece 0 1)) s (fun t => t.rdx.reads.any (fun r => (r.2.pieces[1]?).any (fun q => q.recon && q.level == 15))) = true ∧
        got (.readRetry (.piece 0 1)) d (fun t => t.rdx.reads.any (fun r => (r.2.pieces[1]?).any (fun q => q.givenUp))) = true)) ∧
    (let s := setOf .patrol 1 0 [(0, setPage 0 (pieceOf8 true false))] ((reading8 (pieceOf8 true false)).put F.FTL.RETRY_CTL.MAX 1);
      2 % 2 = s.ftl.side ∧ (setPage 0 (pieceOf8 true false)).level < s.retryMax 0 ∧
      got (.readRetry (.page 2 0)) s (fun t => t.rdn.sets.any (fun r => r.2.pages.any (fun p => p.2.level == 1 && !p.2.failed))) = true) ∧
    (let p := (pieceOf8 true false).lostPage; let s := reading8 p; let x := aStripe 2 0 false; let d := some (List.replicate 16384 (1 : Byte));
      let page (m : Nat) (d : Option (List Byte)) : Nat × ReadPiece := (m, { setPage m (pieceOf8 false false) with data := d });
      let h := setOf (.host 0 0) 1 0 [page 1 d] s;
      let q : SetRead := { unit := 4, row := 1, slot := 0, use := .host 0 0, pages := [page 1 d] };
      let l := setOf (.host 0 0) 1 0 [(1, setPage 1 p), (2, setPage 2 p)] s;
      p.givenUp = true ∧ x.spot bulkPlace = (0, 0) ∧ x.setLost 1 0 = false ∧ 1 < x.rowsDone ∧ s.hostSet 0 0 = none ∧
      got (.hostReconstruct 0 0) s (fun t => t.rdn.sets.length == 1) = true ∧
      h.hostSet 0 0 = some (2, q) ∧ x.dataMembers ≤ (h.sources x q).length ∧ h.wanted x q = [1] ∧ h.rdnFree = true ∧
      (reconstruct (x.usablePages 1 0 ((q.got 3).set 0 none))).isSome = true ∧
      got (.hostReconstruct 0 0) h (fun t => t.rdx.reads.any (fun r => (r.2.pieces[0]?).any (fun y => y.data.isSome))) = true ∧
      (l.hostSet 0 0).any (fun r => decide ((l.sources x r.2).length < x.dataMembers)) = true ∧
      got (.hostReconstruct 0 0) l (fun t => t.rdx.reads.any (fun r => r.2.stage == .failed) &&
        (Tab.find t.ftl.stripes 4).any (fun y => y.setLost 1 0)) = true ∧
      got (.hostReconstruct 0 0) (withFtl (fun f => { f with stripes := [(4, { x with rowsDone := 1 })] }) s)
        (fun t => t.rdx.reads.any (fun r => r.2.stage == .failed)) = true) ∧
    (let s := (withGrants (at_ .dualActive)).put F.FTL.PATROL_CTL.EN 1; let p := s.ftl.patrol;
      let t0 := withFtl (fun f => { f with patrol := { p with since := some 5 } }) s;
      t0.granted Cls.patrol = true ∧ t0.ftl.patrol.units.dropWhile (fun u => !t0.patrolHere u) = [] ∧
      got .patrolRow t0 (fun t => t.fld F.FTL.PATROL_STATUS.PASSES == 1 && told Src.FTL 12 0 t) = true ∧
      (let k := blockKey 0 0 3; let u : PatrolUnit := ⟨1, k, 0, 2⟩;
        let t1 := withFtl (fun f => { f with patrol := { p with since := some 5, units := [u] }, blocks := [(k, ⟨0, 2, 32768, 0, 0⟩)] }) s;
        let t2 := withRdn (fun q => { q with sets := [(2, ⟨k, 0, 0, .block, [(0, { setPage 0 (pieceOf8 false false) with data := some [] })]⟩)] }) t1;
        t1.patrolHere u = true ∧ u.next + 1 < u.stop ∧ t1.rowSets .block k 0 = [] ∧ got .patrolRow t1 (fun t => t.rdn.sets.length == 1) = true ∧
        (t2.rowSets .block k 0).length = 1 ∧ t2.rdnTakes = true ∧
        got .patrolRow t2 (fun t => t.ftl.patrol.done == 16384 && t.ftl.patrol.units == [⟨1, k, 1, 2⟩]) = true) ∧
      (let t2 : State := { t0 with tck := { t0.tck with tick := 2 ^ 60 } };
        5 * t2.patrolPeriod < 4 * (t2.now - 5) ∧ got .patrolLate t2 (fun t => told Src.FTL 13 0 t) = true)) := by
  refine ⟨?_, ?_, ?_, ?_, ?_, ?_, ?_, ?_, ?_, ?_⟩ <;> decide +kernel

/-- Stripe 4 has a failed member; rebuild is enabled and granted. -/
def rebuilding (mods : List Nat) (r : Tab Rebuild) (x : Stripe) : State :=
  withRdn (fun q => { q with rebuilds := r, impaired := true }) (withFtl (fun f => { f with stripes := [(4, x)] })
    (withModules mods (withGrants ((((at_ .dualActive).put F.FTL.CONFIG.DIE_GROUP 0).put F.RDN.REBUILD_CTL.EN 1).put F.RDN.REBUILD_CTL.RELOC_PCT 0))))

/-- The rebuild of its member 1. -/
def aRebuild (commit : Option Nat) : Rebuild := {
  a := 1, b := none, rowsA := 0, rowsB := 0, recorded := 0, commitA := commit, commitB := none, row := 0, left := 0 }

/-- A reshape at stripe 9 of 20. -/
def aReshape : Reshape := { kind := 0, module := 0, newD := 8, cursor := 9, end_ := 20, moved := 0, since := 0, sinceTick := 1000000, abandon := false }

/-- A reshape command to a geometry of D data members waits. -/
def reshaping (d op : Nat) (r : Option Reshape) : State := withRdn (fun q => { q with command := some op, reshape := r })
  (((at_ .dualActive).put F.RDN.RESHAPE_ARG.NEW_D d).put F.RDN.RESHAPE_ARG.KIND 0)

theorem witness_RebuildAndReshapeRows :
    (let s := withRdn (fun q => { q with pair := some (blockKey 5 0 3, blockKey 6 0 3) })
        (withModules [0, 1] ((at_ .dualActive).put F.FTL.CONFIG.DIE_GROUP 0));
      s.other = none ∧ s.sjPairBad = true ∧ (s.openSjPair 65536).isSome = true ∧
      got .sjPairMove s (fun t => t.rdn.restating.isSome && t.rdn.pair != s.rdn.pair) = true) ∧
    (let x := aStripe 5 0 true; let s := rebuilding [] [] x;
      let s := withFtl (fun f => { f with tables := { f.tables with chunks := [(8, bulkEntry)] } }) s;
      s.fld F.RDN.REBUILD_CTL.EN ≠ 0 ∧ s.granted Cls.rebuild = true ∧ s.rebuildTarget.map Prod.fst = some 4 ∧ s.byRelocation 4 x = true ∧
      got .rebuildRow s (fun t => t.rdx.reads.any (fun r => r.2.use == .move Cls.rebuild && r.2.chunk == 8)) = true) ∧
    (let x := aStripe 2 0 true; let s := rebuilding [] [] x;
      s.rebuildTarget.map Prod.fst = some 4 ∧ s.byRelocation 4 x = false ∧
      got .rebuildRow s (fun t => t.rdn.rebuilds == [(4, aRebuild none)]) = true) ∧
    (let x := aStripe 2 0 true; let s := rebuilding [0, 2, 6] [(4, aRebuild none)] x;
      s.rebuildTarget.map Prod.fst = some 4 ∧ s.byRelocation 4 x = false ∧ (s.replacement 4 x).isSome = true ∧
      got .rebuildRow s (fun t => t.rdn.sseq == 1) = true ∧
      (let s := rebuilding [0, 2] [(4, aRebuild none)] x; s.replacement 4 x = none ∧
        got .rebuildRow s (told Src.RDN 9 4) = true)) ∧
    (let x := aStripe 2 0 true; let x := { x with members := x.members.set 1 ⟨1, [], true, some (3, [(0, 1), (2, 1), (4, 1), (6, 1)], 0)⟩ };
      let s := rebuilding [0, 2, 6] [(4, aRebuild none)] x;
      (aRebuild none).left = 0 ∧ s.membersSettled 4 = true ∧ (aRebuild none).nextRow x.rowsDone = 0 ∧ 0 < x.rowsDone ∧
      (aRebuild none).membersAt 0 = [1] ∧ (aRebuild (some 5)).nextRow x.rowsDone = x.rowsDone ∧
      got .rebuildRow s (fun t => t.rdn.sets.length == 3 && t.rdn.sets.all (fun r => r.2.use == .rebuild && r.2.row == 0)) = true ∧
      (let sets (f : Nat → List (Nat × ReadPiece)) : List (Nat × SetRead) := [0, 1, 2].map (fun i => (2 * i, ⟨4, 0, i, .rebuild, f i⟩));
        let page (i : Nat) : List (Nat × ReadPiece) := [(0, { setPage 0 (pieceOf8 false false) with data := some (List.replicate 16384 (BitVec.ofNat 8 i)) })];
        let s := withRdn (fun q => { q with sets := sets page }) s;
        (s.programRebuilt 4 x (aRebuild none) 0 (sets page)).rdn.rebuilds = [(4, { aRebuild none with left := 4 })])) ∧
    (let x := aStripe 2 0 true; let x := { x with members := x.members.set 1 ⟨1, [], true, some (3, [(0, 1)], 4)⟩ };
      let s := withRdn (fun q => { q with sseq := 5 }) (rebuilding [] [(4, aRebuild (some 5))] x);
      s.other = none ∧ (aRebuild (some 5)).commitA.any s.sjSettled = true ∧ (aRebuild (some 5)).commitB.any s.sjSettled = false ∧ x.lost = [] ∧
      got (.rebuildCommit 4) s (fun t => t.rdn.rebuilds == [] && (Tab.find t.ftl.stripes 4).any (fun y => y.members[1]? == some ⟨3, [(0, 1)], false, none⟩)) = true) ∧
    (let x := { aStripe 2 0 true with lost := [⟨1, 0, 7, false⟩] };
      let s := withFtl (fun f => { f with tables := { f.tables with chunks := [(8, bulkEntry)] } }) (rebuilding [] [] x);
      x.lost.find? (fun l => l.row = 1 ∧ l.slot = 0 ∧ !l.swept) = some ⟨1, 0, 7, false⟩ ∧ s.granted Cls.mapWork = true ∧
      s.lostChunks 4 x ⟨1, 0, 7, false⟩ = [8] ∧
      got (.lossSweep 4 1 0) s (fun t => (Tab.find t.ftl.tables.chunks 8).any ChunkEntry.lost && told Src.RDN 4 4 t) = true) ∧
    (got (.reshapeStart core) (at_ .dualActive) (fun t => t.flag F.RDN.RESHAPE_STATUS.BUSY && t.rdn.command == some 1) = true ∧
      got (.reshapeAbandon core) (at_ .dualActive) (fun t => t.rdn.command == some 2) = true ∧
      got (.reshapeStart core) ((at_ .dualActive).put F.RDN.RESHAPE_STATUS.BUSY 1) (fun t => t.rdn.command == none) = true) ∧
    ((reshaping 0 1 none).geomOk 0 = false ∧ (reshaping 0 1 none).runReshapeCommand.fld F.RDN.RESHAPE_STATUS.RESULT = 1 ∧
      (let d := (at_ .dualActive).fld F.RDN.CONFIG.D_MAX;
        (reshaping d 1 none).geomOk d = true ∧ (reshaping d 1 (some aReshape)).runReshapeCommand.fld F.RDN.RESHAPE_STATUS.RESULT = 2 ∧
        (reshaping d 1 none).runReshapeCommand.fld F.RDN.GEOM.D = d) ∧
      (reshaping 0 2 none).runReshapeCommand.fld F.RDN.RESHAPE_STATUS.RESULT = 3 ∧
      (reshaping 0 2 (some aReshape)).runReshapeCommand.rdn.sseq = 1) ∧
    (let s (r : Reshape) (x : List (Nat × Stripe)) := withRdn (fun q => { q with reshape := some r }) (withFtl (fun f => { f with
        stripes := x, tables := { f.tables with chunks := [(8, bulkEntry)] } }) (withGrants (at_ .dualActive)));
      let x := aStripe 2 0 false; let at4 := { aReshape with cursor := 4 };
      aReshape.cursor < aReshape.end_ ∧ got .reshapeStep (s aReshape []) (fun t => t.rdn.reshape.map Reshape.cursor == some 10) = true ∧
      (s at4 [(4, x)]).needsConversion at4 x = true ∧ at4.abandon = false ∧
      got .reshapeStep (s at4 [(4, x)]) (fun t => t.rdx.reads.any (fun r => r.2.use == .move Cls.reshape)) = true ∧
      { aReshape with cursor := 20 }.end_ ≤ 20 ∧
      got .reshapeStep (s { aReshape with cursor := 20 } []) (fun t => t.rdn.reshape == none && told Src.RDN 7 0 t) = true) ∧
    (let s := ((at_ .dualActive).put (F.RDN.MOD_STATE.STATE.nth 95) 2).put (F.RDN.MOD_STATE.EXCL.nth 95) 1;
      got (.exclReadmit core 95 0) s (fun t => !t.flag (F.RDN.MOD_STATE.EXCL.nth 95) && t.fld (F.RDN.MOD_STATE.STATE.nth 95) == 0) = true) := by
  refine ⟨?_, ?_, ?_, ?_, ?_, ?_, ?_, ?_, ?_, ?_, ?_⟩ <;> decide +kernel

/-! Commands of hosts. -/

/-- A controller of 8 I/O queues with every namespace attached, and an association with it. -/
def anAssoc : Assoc := {
  host := 3, nqn := [], cc := 1, ready := true, shutDone := false, kato := 5000, kaTicks := 0, aers := [], events := [], aec := 0, nq := 7,
  rsvMask := [(1, 2)], errors := [], errCount := 0, changed := [], rsvLog := [], rsvCount := 0 }
def hostVc (a : Option Assoc) : Vc := {
  state := .active, vgen := 1, desc := lay 1024 [(0, [9, 0]), (2, [3]), (26, [8, 0]), (29, [1]), (30, [50, 0])], nsmap := [], c := 8, y := 0,
  assoc := a, resetting := false }

/-- A queue on RoCEv2 connection 5, whose next packet is 70. -/
def aQueue : Queue := { live := true, conn := 5, qgen := 1, sqsize := 31, sqhd := 3, fcOff := false }
def aConn : Conn := { State.reset.newConn (lay 128 [(0, [1]), (54, [1])]) with npsn := 70 }

/-- Controller 0 with its association, admin queue and queue 1, and commands. -/
def hosted (a : Option Assoc) (cmds : Tab Cmd) : State := let s := writing cmds []
  { s with
    vct := { s.vct with vcs := [(0, hostVc a)] }, qpc := { s.qpc with conns := [(5, aConn), (6, aConn)] }
    cmf := { s.cmf with queues := [(queueKey 0 0, aQueue), (queueKey 0 1, aQueue)], ns := [(1, aNs)] } }

/-- A keyed data pointer in the submission entry. -/
def ptr (len : Nat) : Nat × List Byte := (24, leBytes 8 0x1000 ++ leBytes 3 len ++ leBytes 4 0xABCD ++ [0x40])

/-- An admin command, and its state: command 4. -/
def adm (opcode : Nat) (rest : List (Nat × List Byte)) : Cmd := { aCmd .admitted opcode ((1, [64]) :: rest) with qid := 0 }
def admin (a : Assoc) (c : Cmd) : State := hosted (some a) [(4, c)]

/-- The hypotheses of an admin row. -/
def admReady (a : Assoc) (opcode : Nat) (c : Cmd) : Bool :=
  let s := admin a c
  s.cmd 4 == some c && c.stage == .admitted && c.qid == 0 && c.opcode == opcode && s.vc c.vc == some (hostVc (some a)) &&
    c.field 1 1 % 4 == 0 && s.adminPointer c == none

/-- The command has ended with a status and Dword 0. -/
def ended (key status dw0 : Nat) (t : State) : Bool :=
  (t.cmd key).any (fun c => c.stage == .finished && c.status == status && c.dw0 == dw0)

/-- The association after. -/
def assocOf (t : State) : Option Assoc := (t.vc 0).bind Vc.assoc

theorem witness_AbortAbortsNothing :
    let c := adm 8 [(40, [1, 0, 7, 0])]; admReady anAssoc 8 c = true ∧
      got (.abort 4) (admin anAssoc c) (fun t => ended 4 0 1 t && t.cmf.cmds.length == 1 && t.vct == (admin anAssoc c).vct) = true := by
  decide +kernel

/-- Bytes of a command dword. -/
def dw (n x : Nat) : Nat × List Byte := (4 * n, leBytes 4 x)

/-- The RDMA write that answers a command. -/
def answered (b : List Byte) (t : State) : Bool :=
  t.out == [.roce 5 2 70 (packetsOf 1024 b.length) (rethBytes 0x1000 0xABCD b.length ++ b)]

theorem witness_AdminCommandRows :
    (admReady anAssoc 0x18 (adm 0x18 []) = true ∧ got (.keepAlive 4) (admin anAssoc (adm 0x18 [])) (ended 4 0 0) = true) ∧
    (let c (f : Nat) := adm 0x0A [dw 10 f];
      [0x07, 0x0B, 0x0F, 0x82, 0x83, 0x10].all (fun f => admReady anAssoc 0x0A (c f)) = true ∧ (c 0x82).ns.isSome = true ∧
      got (.getFeatures 4) (admin anAssoc (c 0x07)) (ended 4 0 0x70007) = true ∧
      got (.getFeatures 4) (admin anAssoc (c 0x0B)) (ended 4 0 0) = true ∧
      got (.getFeatures 4) (admin anAssoc (c 0x0F)) (ended 4 0 5000) = true ∧
      got (.getFeatures 4) (admin anAssoc (c 0x82)) (ended 4 0 2) = true ∧
      got (.getFeatures 4) (admin anAssoc (c 0x83)) (ended 4 0 0) = true ∧
      got (.getFeatures 4) (admin anAssoc (c 0x10)) (ended 4 2 0) = true) ∧
    (let c (f x : Nat) := adm 0x09 [dw 10 f, dw 11 x];
      [(0x80000007, 0), (0x07, 0x20003), (0x0B, 0x900), (0x0F, 4001), (0x10, 0)].all (fun p => admReady anAssoc 0x09 (c p.1 p.2)) = true ∧
      (c 0x80000007 0 |>.cdw 10).testBit 31 = true ∧ (c 0x07 0x20003 |>.cdw 10).testBit 31 = false ∧
      got (.setFeatures 4) (admin anAssoc (c 0x80000007 0)) (ended 4 2 0) = true ∧
      got (.setFeatures 4) (admin anAssoc (c 0x07 0x20003)) (fun t => ended 4 0 0x30003 t && (assocOf t).any (fun a => a.nq == 3)) = true ∧
      got (.setFeatures 4) (admin anAssoc (c 0x0B 0x900)) (fun t => ended 4 0 0 t && (assocOf t).any (fun a => a.aec == 0x900)) = true ∧
      got (.setFeatures 4) (admin anAssoc (c 0x0F 4001)) (fun t => ended 4 0 0 t && (assocOf t).any (fun a => a.kato == 5000)) = true ∧
      got (.setFeatures 4) (admin anAssoc (c 0x10 0)) (ended 4 2 0) = true) ∧
    (let c := adm 0x0C []; let a (l es : List Nat) : Assoc := { anAssoc with aers := l, events := es };
      [([1, 2, 3, 9], []), ([1, 2, 3], []), ([], [0xC0302, 5])].all (fun p => admReady (a p.1 p.2) 0x0C c) = true ∧
      got (.asyncEventRequest 4) (admin (a [1, 2, 3, 9] []) c) (ended 4 2 0) = true ∧
      got (.asyncEventRequest 4) (admin (a [1, 2, 3] []) c) (fun t =>
        (t.cmd 4).any (fun d => d.stage == .held) && (assocOf t).any (fun b => b.aers == [1, 2, 3, 4])) = true ∧
      got (.asyncEventRequest 4) (admin (a [] [0xC0302, 5]) c) (fun t =>
        ended 4 0 0xC0302 t && (assocOf t).any (fun b => b.events == [5])) = true) ∧
    (let c (cns : Nat) := adm 0x06 [dw 10 cns, ptr 4096]; let s (cns : Nat) := admin anAssoc (c cns);
      [0, 1, 2, 4].all (fun n => admReady anAssoc 6 (c n) && (s n).stampsHold (c n)) = true ∧ (s 0).ready 5 = some aConn ∧
      aConn.isRoce = true ∧ (s 0).lcs.mode.serving = true ∧ (c 0).ns = some aNs ∧
      got (.identify 4) (s 0) (fun t => ended 4 0 0 t && answered ((s 0).identifyNs 1 aNs) t) = true ∧
      got (.identify 4) (admin anAssoc { c 0 with ns := none }) (ended 4 0x00B 0) = true ∧
      got (.identify 4) (s 1) (fun t => ended 4 0 0 t && answered ((s 1).identifyCtrl (hostVc (some anAssoc))) t) = true ∧
      got (.identify 4) (s 2) (fun t => ended 4 0 0 t && answered (List.replicate 4096 0) t) = true ∧
      got (.identify 4) (s 4) (ended 4 2 0) = true) ∧
    (let c (lid : Nat) := adm 0x02 [dw 10 (lid + 2 ^ 15 + 15 * 2 ^ 16), dw 12 4, ptr 64]; let s (lid : Nat) := admin anAssoc (c lid);
      [0x80, 0x44].all (fun n => admReady anAssoc 2 (c n) && (s n).stampsHold (c n)) = true ∧ (c 0x80).adminBytes = 64 ∧
      (s 0x80).logPage (hostVc (some anAssoc)) anAssoc 0x80 0 = some (List.replicate 64 0) ∧ ((c 0x80).cdw 10).testBit 15 = true ∧
      got (.getLogPage 4) (s 0x80) (fun t => ended 4 0 0 t && answered (List.replicate 64 0) t) = true ∧
      (s 0x44).logPage (hostVc (some anAssoc)) anAssoc 0x44 0 = none ∧ got (.getLogPage 4) (s 0x44) (ended 4 0x109 0) = true) ∧
    (let a (n : Nat) : Assoc := { anAssoc with kaTicks := n, aers := [4] }; let s (n : Nat) := admin (a n) { adm 0x0C [] with stage := .held };
      (s 0).katoTicks (a 0) = 2500000 ∧
      got (.keepAliveExpiry 0) (s 2500000) (fun t => (t.vc 0).any (fun x => x.vgen == 2 && x.resetting) && t.cmf.cmds == [] &&
        (t.queue 0 1).any (fun q => !q.live && q.qgen == 2)) = true ∧
      got (.keepAliveExpiry 0) (s 2499999) (fun t => (t.vc 0).any (fun x => x.vgen == 1 && !x.resetting)) = true) ∧
    (let v : Vc := { hostVc (some anAssoc) with vgen := 2, resetting := true };
      let s (g : Nat) : State := { admin anAssoc { adm 0x18 [] with vgen := g } with vct := { State.reset.vct with vcs := [(0, v)] } };
      (s 2).inFlight 0 ≠ [] ∧
      got (.controllerResetDone 0) (s 2) (fun t => (t.vc 0).any (fun x => !x.resetting && x.assoc.isNone)) = true ∧
      got (.controllerResetDone 0) (s 1) (fun t => (t.vc 0).any (fun x => x.resetting && x.assoc.isSome)) = true) := by
  refine ⟨?_, ?_, ?_, ?_, ?_, ?_, ?_, ?_⟩ <;> decide +kernel

/-- A Fabrics command of a type. -/
def fab (typ : Nat) (rest : List (Nat × List Byte)) : Cmd := adm 0x7F ((4, [BitVec.ofNat 8 typ]) :: rest)

/-- The data of a Connect, and its command on connection 6. -/
def connectData (cntlid : Nat) : List Byte := lay 1024 [(0, [3]), (16, leBytes 2 cntlid)]
def conn6 (stage : CmdStage) (q cntlid : Nat) : Cmd := { fab 1 [ptr 1024, (44, [31, 0])] with
  qid := q, conn := 6, stage := stage, data := connectData cntlid }

theorem witness_FabricsCommandRows :
    (let get (off n : Nat) := fab 4 [(40, [BitVec.ofNat 8 n]), (44, leBytes 4 off)];
      (get 0 1).opcode = 0x7F ∧ (get 0 1).fctype = 4 ∧ (get 0 1).field 40 1 % 8 = 1 ∧
      got (.propertyGet 4) (admin anAssoc (get 0 1)) (ended 4 0 (1023 + 2 ^ 16 + 4 * 2 ^ 24 + 2 ^ 37)) = true ∧
      got (.propertyGet 4) (admin anAssoc (get 8 0)) (ended 4 0 0x20000) = true ∧
      got (.propertyGet 4) (admin anAssoc (get 0x14 0)) (ended 4 0 1) = true ∧
      got (.propertyGet 4) (admin anAssoc (get 0x1C 0)) (ended 4 0 1) = true ∧
      got (.propertyGet 4) (admin anAssoc (get 0x20 0)) (ended 4 2 0) = true) ∧
    (let set (off x : Nat) := fab 0 [(44, leBytes 4 off), (48, leBytes 4 x)];
      (set 0x14 0).fctype = 0 ∧ (set 0x14 0).field 40 1 % 8 = 0 ∧
      got (.propertySet 4) (admin anAssoc (set 0x14 0)) (fun t => ended 4 0 0 t && (t.cmd 4).any Cmd.ends) = true ∧
      got (.propertySet 4) (admin { anAssoc with cc := 0, ready := false } (set 0x14 1)) (fun t =>
        (t.cmd 4).any (fun c => !c.ends) && (assocOf t).any (fun a => a.ready && a.cc == 1)) = true ∧
      got (.propertySet 4) (admin anAssoc (set 0x1C 0)) (ended 4 2 0) = true) ∧
    (let s (c : Cmd) := hosted none [(4, c)]; let c := conn6 .admitted 0 0xFFFF;
      let bad := { fab 1 [(24, leBytes 8 0x1000 ++ leBytes 3 512 ++ leBytes 4 0xABCD ++ [0x40])] with conn := 6 };
      c.isConnect = true ∧ c.sglType = 0x40 ∧ c.sglLen = 1024 ∧ (s c).ready 6 = some aConn ∧ (s c).lcs.mode.serving = true ∧
      got (.connect 4) (s c) (fun t => (t.cmd 4).any (fun d => d.stage == .fetching) &&
        t.out == [.roce 6 4 70 1 (rethBytes 0x1000 0xABCD 1024)]) = true ∧
      bad.sglLen ≠ 1024 ∧ bad.isConnect = true ∧ got (.connect 4) (s bad) (ended 4 0x00F 0) = true ∧
      (fab 1 []).keyed = false ∧ (fab 1 []).isConnect = true ∧ got (.connect 4) (s (fab 1 [])) (ended 4 0x011 0) = true) ∧
    (let s (a : Option Assoc) (c : Cmd) := hosted a [(4, c)];
      let ok := conn6 .held 0 0xFFFF; let q2 := conn6 .held 2 9; let taken := conn6 .held 1 9;
      (s none ok).connectStatus 4 ok = none ∧ (s (some anAssoc) ok).connectStatus 4 ok = some 0x181 ∧
      (s (some anAssoc) q2).connectStatus 4 q2 = none ∧ (s (some anAssoc) taken).connectStatus 4 taken = some 0x182 ∧
      got (.connect 4) (s none ok) (fun t => ended 4 0 9 t && (assocOf t).any (fun a => a.host == 3) &&
        (t.queue 0 0).any (fun q => q.live && q.conn == 6 && q.sqsize == 31)) = true ∧
      got (.connect 4) (s (some anAssoc) q2) (fun t => ended 4 0 9 t && (t.queue 0 2).any Queue.live) = true ∧
      got (.connect 4) (s (some anAssoc) taken) (fun t => ended 4 0x182 0 t && t.fld (F.VCT.STAT.COUNT.nth 6) == 1) = true) ∧
    (got (.disconnect 4) (admin anAssoc (fab 8 [])) (fun t => ended 4 0 0 t && (t.cmd 4).any Cmd.ends) = true) := by
  refine ⟨?_, ?_, ?_, ?_, ?_⟩ <;> decide +kernel

/-- An I/O command on blocks, with a keyed pointer, and the head that has it as command 4. -/
def io (stage : CmdStage) (opcode slba nlb len : Nat) : Cmd := { aCmd stage opcode
  [(1, [64]), ptr len, (40, leBytes 8 slba), (48, leBytes 2 (nlb - 1))] with first := slba, count := nlb, ranges := [(slba, nlb)] }
def ioHead (c : Cmd) : State := withFtl (fun f => { f with mapCached := [mapPageKey 1 0] }) (hosted (some anAssoc) [(4, c)])

/-- A Dataset Management of blocks 3 to 6, with or without deallocation. -/
def dsm (ad first : Nat) : Cmd := { aCmd .held 9 [(1, [64]), dw 11 ad] with data := lay 16 [(4, leBytes 4 4), (8, leBytes 8 first)] }

theorem witness_NvmCommandRows :
    (let bad (op : Nat) := io .admitted op 1023 2 8192;
      [(Instr.flush 4, 0), (.write 4, 1), (.read 4, 2), (.compare 4, 5), (.writeZeroes 4, 8), (.datasetManagement 4, 9),
        (.reservationRegister 4, 0x0D), (.reservationReport 4, 0x0E), (.reservationAcquire 4, 0x11), (.reservationRelease 4, 0x15)].all (fun p =>
        let c := { bad p.2 with ns := none }
        (ioHead c).ioStatus c == some 0x00B && !(ioHead c).outOfTurn 4 c && c.io && c.opcode == p.2 && c.nsid == 1 &&
        got p.1 (ioHead c) (ended 4 0x00B 0)) = true ∧
      (ioHead (bad 1)).ioStatus (bad 1) = some 0x080 ∧ got (.write 4) (ioHead (bad 1)) (ended 4 0x080 0) = true) ∧
    (let c := aCmd .admitted 0 [(4, leBytes 4 0xFFFFFFFF)]; c.nsid = 0xFFFFFFFF ∧ c.io = true ∧ c.field 1 1 % 4 = 0 ∧
      got (.flush 4) (ioHead c) (ended 4 0 0) = true) ∧
    (let c := io .admitted 0 0 1 0; (ioHead c).ioStatus c = none ∧ (ioHead c).isForwarded c = false ∧ c.nsid ≠ 0xFFFFFFFF ∧
      got (.flush 4) (ioHead c) (ended 4 0 0) = true) ∧
    ([(Instr.write 4, 1), (.compare 4, 5)].all (fun p =>
      let c := io .admitted p.2 3 2 8192
      (ioHead c).ioStatus c == none && !(ioHead c).isForwarded c && (ioHead c).stampsHold c && c.keyed && !(ioHead c).outOfTurn 4 c &&
      got p.1 (ioHead c) (fun t => (t.cmd 4).any (fun d => d.stage == .fetching && d.first == 3) &&
        t.out == [.roce 5 4 70 8 (rethBytes 0x1000 0xABCD 8192)])) = true) ∧
    (let c := { io .held 1 3 1 4096 with data := List.replicate 4096 6 };
      c.partials 4096 = [] ∧ (ioHead c).digestKey = some (keyOf .active 1 0 true) ∧
      got (.write 4) (ioHead c) (fun t => (t.cmd 4).any (fun d => d.stage == .writing) &&
        (Tab.find t.rdx.chunks 0).any (fun j => j.stage == .cut && j.granule == 3 && j.granules == 1 && j.content == c.data)) = true) ∧
    (let c := io .held 2 3 1 4096; let s := ioHead c;
      s.stampsHold c = true ∧ s.ready 5 = some aConn ∧ s.other = none ∧ s.readWaits 4 c = false ∧ mapPageKey 1 3 ∈ s.ftl.mapCached ∧
      s.ftl.journal = [] ∧ s.ftl.tables.entry 1 3 = none ∧
      got (.read 4) s (fun t => ended 4 0 0 t && answered (List.replicate 4096 0) t) = true) ∧
    (let c (b : Byte) : Cmd := { io .held 5 3 1 4096 with data := List.replicate 4096 b };
      (ioHead (c 0)).readWaits 4 (c 0) = false ∧ (ioHead (c 0)).ftl.tables.entry 1 3 = none ∧
      got (.compare 4) (ioHead (c 0)) (ended 4 0 0) = true ∧ got (.compare 4) (ioHead (c 1)) (ended 4 0x285 0) = true) ∧
    (let c := io .held 8 3 2 0;
      c.partials 4096 = [] ∧ got (.writeZeroes 4) (ioHead c) (fun t => (t.cmd 4).any (fun d => d.items == [[.dealloc 1 3 2]])) = true) ∧
    (got (.datasetManagement 4) (ioHead (dsm 4 1021)) (ended 4 0x080 0) = true ∧
      got (.datasetManagement 4) (ioHead (dsm 0 1020)) (ended 4 0 0) = true ∧ ((dsm 4 3).cdw 11).testBit 2 = true ∧
      got (.datasetManagement 4) (ioHead (dsm 4 3)) (fun t => (t.cmd 4).any (fun d => d.stage == .writing && d.items == [[.dealloc 1 3 4]])) = true) := by
  refine ⟨?_, ?_, ?_, ?_, ?_, ?_, ?_, ?_, ?_⟩ <;> decide +kernel

/-! Reservations, namespaces and holds. -/

/-- A reservation command of host 3 with its data present: keys 0x11 and 0x22. -/
def rsvCmd (op cdw10 cdw11 : Nat) : Cmd := { aCmd .held op [(1, [64]), ptr 64, dw 10 cdw10, dw 11 cdw11] with
  data := leBytes 8 0x11 ++ leBytes 8 0x22 }
def rsvHead (r : Rsv) (c : Cmd) : State := let s := ioHead c
  { s with cmf := { s.cmf with rsv := [(1, r)] } }

/-- No reservation, with host 3 registered or n others. -/
def mine : Rsv := { prgen := 6, rtype := 0, holder := none, regs := [⟨3, 0x11⟩], ptpl := false }
def others (n : Nat) : Rsv := { mine with regs := (List.range n).map (fun i => ⟨BitVec.ofNat 128 (100 + i), 1⟩) }

/-- The items of the one journal record. -/
def itemsAre (l : List JItem) (t : State) : Bool := t.ftl.journal.map JRec.items == [l]

theorem witness_ReservationRows :
    (let c := rsvCmd 0x0D 0 0; let s (n : Nat) := rsvHead (others n) c;
      c.io = true ∧ c.opcode = 0x0D ∧ c.cdw 10 % 8 = 0 ∧ c.cdw 10 / 2 ^ 30 = 0 ∧ (s 64).outOfTurn 4 c = false ∧ (s 64).other = none ∧
      ((s 64).rsvOf 1).registrant 3 = none ∧
      got (.reservationRegister 4) (s 2) (fun t => (t.rsvOf 1).prgen == 7 && (t.rsvOf 1).registrant 3 == some ⟨3, 0x22⟩ &&
        itemsAre [.rsv 1 1 0 false 7 3 0x22 0] t && (t.cmd 4).any (fun d => d.stage == .writing)) = true ∧
      got (.reservationRegister 4) (s 64) (ended 4 2 0) = true) ∧
    (let c := rsvCmd 0x11 0x100 0;
      c.opcode = 0x11 ∧ c.cdw 10 % 16 = 0 ∧ mine.registrant 3 = some ⟨3, 0x11⟩ ∧ c.dataWord 0 = 0x11 ∧
      got (.reservationAcquire 4) (rsvHead mine c) (fun t => (t.rsvOf 1).rtype == 1 && (t.rsvOf 1).holder == some 3 &&
        itemsAre [.rsv 1 4 1 false 6 3 0x11 0] t) = true ∧
      got (.reservationAcquire 4) (rsvHead (others 1) c) (fun t => ended 4 0x083 0 t && t.fld (F.CMF.STAT.COUNT.nth 14) == 1) = true) ∧
    (let c := rsvCmd 0x15 0x200 0; let r := { mine with rtype := 2, holder := some 3 };
      c.opcode = 0x15 ∧ c.cdw 10 / 256 % 256 = 2 ∧
      got (.reservationRelease 4) (rsvHead r c) (fun t => (t.rsvOf 1).rtype == 0 && (t.rsvOf 1).holder == none &&
        itemsAre [.rsv 1 6 0 false 6 3 0x11 0] t) = true) ∧
    (let c (eds : Nat) := rsvCmd 0x0E 31 eds; let s (eds : Nat) := rsvHead mine (c eds);
      (c 1).opcode = 0x0E ∧ (s 1).stampsHold (c 1) = true ∧ (s 1).ready 5 = some aConn ∧
      got (.reservationReport 4) (s 0) (ended 4 0x018 0) = true ∧
      got (.reservationReport 4) (s 1) (fun t => ended 4 0 0 t && answered (lay 128 [(0, [6]), (5, [1]), (64, [9]), (72, [0x11]), (80, [3])]) t) = true) := by
  refine ⟨?_, ?_, ?_, ?_⟩ <;> decide +kernel

/-- A namespace command waits on NSID, with an entry described by the registers. -/
def nsCmd (op nsid nsze : Nat) (ns : Tab Ns) : State :=
  let s := at_ .dualActive
  (({ s with cmf := { s.cmf with ns := ns, nsCmd := some op } } : State).put F.CMF.NS_SEL.NSID nsid).put F.CMF.NS_DATA0.NSZE nsze

/-- A hold that began at a tick. -/
def actHold (h : Option Hold) (cmds : Tab Cmd) (start : Bool) : State := let s := writing cmds []
  { s with cmf := { s.cmf with hold := h, actStart := start } }

/-- A volume set in Change since a tick. -/
def changing (since : Nat) : State := let s := (at_ .dualActive).put F.CMF.CONFIG.ANATT 1
  { s with cmf := { s.cmf with ana := [(5, ⟨15, since, false⟩)] }, rfl := { s.rfl with incoming := 3 }, evr := { s.evr with full := false }
           tck := { s.tck with tick := 10000000 } }

theorem witness_NamespaceActivationAndAnaRows :
    (core.test = false ∧ (at_ .dualActive).flag F.CMF.NS_STATUS.BUSY = false ∧
      ([(Instr.nsRead core, 1), (.nsWrite core, 2), (.nsDelete core, 3)].all (fun p =>
        got p.1 (at_ .dualActive) (fun t => t.flag F.CMF.NS_STATUS.BUSY && t.cmf.nsCmd == some p.2) &&
        got p.1 ((at_ .dualActive).put F.CMF.NS_STATUS.BUSY 1) (fun t => t.cmf.nsCmd == none))) = true) ∧
    (let s := nsCmd 1 7 5 [(7, { aNs with snapMe := 4, src := 9, vset := 31 })];
      s.fld F.CMF.NS_SEL.NSID = 7 ∧ s.runNsCommand.nsFromRegs = { aNs with snapMe := 4, src := 9, vset := 31, wp := true } ∧
      s.runNsCommand.fld F.CMF.NS_STATUS.RESULT = 0 ∧ told Src.CMF 0 7 s.runNsCommand = true ∧
      (nsCmd 1 7 5 []).runNsCommand.fld F.CMF.NS_STATUS.RESULT = 2) ∧
    (let s := nsCmd 2 7 16 [(1, aNs)];
      s.nsFromRegs.sizeOk = true ∧ s.nsFromRegs.src = 0 ∧ s.flag F.CMF.NS_DATA2.PTPL = false ∧ s.other = none ∧
      s.runNsCommand.cmf.ns = [(1, aNs), (7, s.nsFromRegs)] ∧ s.runNsCommand.fld F.CMF.NS_STATUS.RESULT = 0 ∧
      (nsCmd 2 7 0 []).nsFromRegs.sizeOk = false ∧ (nsCmd 2 7 0 []).runNsCommand.fld F.CMF.NS_STATUS.RESULT = 1) ∧
    ((nsCmd 3 7 0 []).runNsCommand.fld F.CMF.NS_STATUS.RESULT = 2 ∧
      (nsCmd 3 7 0 [(7, aNs), (8, { aNs with src := 7 })]).runNsCommand.fld F.CMF.NS_STATUS.RESULT = 3 ∧
      (nsCmd 3 7 0 [(7, aNs)]).runNsCommand.cmf.ns = [] ∧ (nsCmd 3 7 0 [(7, aNs)]).runNsCommand.ftl.sweeps = [⟨7, 0, true⟩]) ∧
    (let s := actHold none [] false; let h : Hold := ⟨10, false, false⟩; let b := actHold (some h) [] false;
      got (.actStart core) s (fun t => t.cmf.actStart) = true ∧
      got (.actStart core) b (fun t => !t.cmf.actStart && (t.reg (blockBase Src.CMF + 8)).getLsbD 4) = true ∧
      got (.actRelease core) b (fun t => t.cmf.hold == some { h with release := true }) = true) ∧
    (let s := actHold none [] true;
      s.holdBoundary.cmf.hold = some ⟨1000000, false, false⟩ ∧ s.holdBoundary.flag F.CMF.ACT_STATUS.HOLD = true) ∧
    (let s := actHold (some ⟨999900, true, true⟩) [] false;
      s.holdBoundary.cmf.hold = none ∧ s.holdBoundary.fld F.CMF.ACT_STATUS.HOLD_TICKS = 100) ∧
    (let s (since : Nat) := actHold (some ⟨since, false, false⟩) [(3, { adm 0x0C [] with stage := .held })] false;
      ((s 0).cmf.cmds.all (fun p => p.2.waitsEvent)) = true ∧ (s 0).ticksIn 1000 = 500 ∧ (s 0).fld F.SIM.STATUS.STATE ≠ 6 ∧
      got .actQuiesced (s 0) (fun t => t.flag F.CMF.ACT_STATUS.QUIESCED && told Src.CMF 1 0 t) = true ∧
      got .actQuiesced (actHold (some ⟨0, false, false⟩) [(3, adm 0x0C [])] false) (fun t => t.cmf.hold == some ⟨0, false, false⟩) = true ∧
      got .actTimeout (s 999500) (fun t => t.cmf.hold == none && t.fld F.CMF.ACT_STATUS.RESULT == 1 && told Src.CMF 2 0 t) = true ∧
      got .actTimeout (s 999501) (fun t => t.cmf.hold.isSome) = true) ∧
    ([(1, 3), (2, 4)].all (fun p => got (.anaForceWrite core 31 (BitVec.ofNat 64 (p.1 * 2 ^ F.CMF.ANA.FORCE.lo))) (at_ .dualActive)
      (fun t => t.fld (F.CMF.ANA.FORCE.nth 31) == p.1 && t.anaCode 31 == p.2)) = true) ∧
    ((changing 9400000).anaCode 5 = 15 ∧ (changing 0).ticksIn 1000000 = 500000 ∧
      got (.anattExceeded 5) (changing 9400000) (fun t => (Tab.find t.cmf.ana 5).any (fun a => a.state == 3 && a.late) &&
        t.fld (F.CMF.ANA.STATE.nth 5) == 3 && t.evr.queue.any (fun r => r.code == 0x0502 && r.object == 5)) = true ∧
      got (.anattExceeded 5) (changing 9500000) (fun t => (Tab.find t.cmf.ana 5) == some ⟨15, 9500000, false⟩) = true) ∧
    (let cap : Capsule := { bytes := (aCmd .admitted 1 []).sqe, heldSince := some 5 };
      let s0 := (hosted (some anAssoc) []).put F.FTL.STATUS.FOLD_STOPPED 1;
      let s : State := { s0 with cmf := { s0.cmf with caps := [(5, [cap, { cap with heldSince := none }])] } };
      s.conn 5 = some aConn ∧ 5 + s.fld F.CMF.ADMIT_CTL.WAIT_MAX < s.now ∧ s.flag F.FTL.STATUS.FOLD_STOPPED = true ∧
      got (.capacityExceeded 5) s (fun t => ended 0 0x081 0 t && (Tab.getD t.cmf.caps 5 []).length == 1 && told Src.CMF 4 0 t) = true) := by
  refine ⟨?_, ?_, ?_, ?_, ?_, ?_, ?_, ?_, ?_, ?_, ?_⟩ <;> decide +kernel

/-! Host ports and RoCEv2. -/

/-- Port 15 of 16, enabled, up or down; the raw rings hold one entry and have room, or none, at an address of HBM. -/
def etherHead (up room : Nat) : State :=
  ((((((((withMem (at_ .dualActive)).put F.HPT.CONFIG.SPLIT 1).put (F.HPT.PORT_CTL.EN.nth 15) 1).put F.HPT.STATUS.UP (up * 2 ^ 15)).put
    (F.HPT.PORT_MAC.MAC.nth 15) 0x10203040506).put (F.HPT.RING_BASE.ADDR.nth 256) (hbmBase / 32)).put
    (F.HPT.RING_BASE.ADDR.nth 257) (hbmBase / 32)).put (F.HPT.RING_CFG.EN.nth 256) room).put (F.HPT.RING_CFG.EN.nth 257) 1

/-- A frame of n bytes to that port. -/
def frameOf (n : Nat) : List Byte := beBytes 6 0x10203040506 ++ List.replicate (n - 6) 7

/-- A connection of a kind, that expects PSN 50 and sends 70 next, retries at most 2. -/
def kindConn (kind : Nat) : Conn := { State.reset.newConn (lay 128 [(0, leBytes 1 kind), (52, [2 * 32 + 8, 7]), (54, [1])]) with
  npsn := 70, epsn := 50 }

/-- Connections of a head, those cached; region 1 of 4,096 bytes at 2^20 above the start of HBM, at offset 64 of the table. -/
def netHead (cached : List Nat) (l : Tab Conn) : State :=
  let s := ((withMem (at_ .dualActive)).put F.HPT.REGION_BASE.ADDR (hbmBase / 2 ^ 19)).put F.HPT.REGION_BASE.EN 1
  let entry := lay 32 [(0, leBytes 6 (hbmBase + 2 ^ 20)), (6, [5, 0]), (8, leBytes 6 4096), (16, leBytes 4 (2 ^ 20 + 2 ^ 19 + 2 ^ 18 + 9))]
  { s.store (hbmBase + 32) entry with qpc := { s.qpc with conns := l, cached := cached } }

/-- A whole packet of connection 9. -/
def aPacket (psn : Nat) (b : List Byte) : RocePacket := {
  conn := 9, psn := psn, first := true, last := true, payload := b, rkey := 65541, off := 16, len := b.length, imm := none, intact := true,
  supported := true, ce := false }

/-- Context bytes that pass, in the CTX_DATA registers; a context command waits. -/
def goodCtx (byte52 : Nat) : List Byte := lay 128 [(0, [1]), (52, leBytes 1 byte52), (54, [1])]
def ctxCmd (op : Nat) (byte52 : Nat) (l : Tab Conn) : State := let s := netHead [] l
  (List.range 16).foldl (fun (t : State) i => t.put (F.QPC.CTX_DATA.DATA.nth i) (leNat (((goodCtx byte52).drop (8 * i)).take 8)))
    { s with qpc := { s.qpc with command := some (op, 9) } }

theorem witness_EthernetAndContextRows :
    (let d := etherHead 0 1; let u := etherHead 1 1;
      15 < d.hostPorts ∧ d.flag (F.HPT.PORT_CTL.EN.nth 15) = true ∧ d.portUp 15 = false ∧
      got (.ethPortUp 15) d (fun t => t.portUp 15 && t.fld (F.HPT.PORT_STATUS.SPEED.nth 15) == 2 && told Src.HPT 0 15 t) = true ∧
      got (.ethPortDown 15) u (fun t => !t.portUp 15 && told Src.HPT 1 15 t) = true) ∧
    (let s := etherHead 1 1; let b := frameOf 60;
      beNat (b.take 6) = s.fld (F.HPT.PORT_MAC.MAC.nth 15) ∧ s.ringRoom 256 0 = true ∧ s.memOk Src.HPT hbmBase (64 + 9212) = true ∧
      got (.rawFrameReceive 15 b) s (fun t => t.load (hbmBase + 64) 60 == b && t.load hbmBase 8 == [60, 0, 15, 0, 0, 0, 0, 0] &&
        t.ringProd 256 == 1 && t.flag (F.APC.IRQ_ROUTE.PENDING.nth 512)) = true ∧
      (etherHead 1 0).ringRoom 256 0 = false ∧ got (.rawFrameReceive 15 (frameOf 9212)) (etherHead 1 0) (told Src.HPT 2 15) = true ∧
      got (.rawFrameReceive 15 (frameOf 9213)) s (fun t => t.fld (F.HPT.PORT_ERR.FCS.nth 15) == 1) = true) ∧
    (let s := (etherHead 1 1).store hbmBase ([60, 0, 15] ++ List.replicate 61 0 ++ frameOf 60);
      s.flag (F.HPT.RING_CFG.EN.nth 257) = true ∧ s.lcs.mode.serving = true ∧ s.memOk Src.HPT hbmBase 16384 = true ∧
      got (.rawTransmit core 1) s (fun t => t.out == [.rawFrame 15 (frameOf 60)] && t.ringCons 257 == 1) = true) ∧
    ((at_ .dualActive).flag F.QPC.CMD_STATUS.BUSY = false ∧
      ([Instr.ctxCreate core 131071, .ctxModify core 131071, .ctxDestroy core 131071, .ctxRead core 131071].zipIdx.all (fun p =>
        got p.1 (at_ .dualActive) (fun t => t.flag F.QPC.CMD_STATUS.BUSY && t.qpc.command == some (p.2 + 1, 131071)) &&
        got p.1 ((at_ .dualActive).put F.QPC.CMD_STATUS.BUSY 1) (fun t => t.qpc.command == none))) = true) ∧
    (let res (t : State) := t.fld F.QPC.CMD_STATUS.RESULT; let c := { kindConn 1 with ctx := goodCtx 8 };
      (ctxCmd 1 8 []).ctxData = goodCtx 8 ∧ (ctxCmd 1 8 []).contextOk (goodCtx 8) = true ∧ (ctxCmd 1 7 []).contextOk (goodCtx 7) = false ∧
      res (ctxCmd 1 8 []).runQpcCommand = 0 ∧ ((ctxCmd 1 8 []).runQpcCommand.conn 9).isSome = true ∧
      res (ctxCmd 1 7 []).runQpcCommand = 1 ∧ res (ctxCmd 1 8 [(9, c)]).runQpcCommand = 2 ∧
      modifiable c.ctx (goodCtx 20) = true ∧ ((ctxCmd 2 20 [(9, c)]).runQpcCommand.conn 9) = some { c with ctx := goodCtx 20 } ∧
      res (ctxCmd 2 7 [(9, c)]).runQpcCommand = 1 ∧ (ctxCmd 3 8 [(9, c)]).runQpcCommand.conn 9 = none ∧
      res (ctxCmd 3 8 []).runQpcCommand = 2 ∧ res (ctxCmd 2 8 []).runQpcCommand = 2 ∧
      (ctxCmd 4 0 [(9, c)]).runQpcCommand.fld F.QPC.CMD_STATUS.STATE = 1 ∧ (ctxCmd 4 0 [(9, c)]).runQpcCommand.ctxData = goodCtx 8) ∧
    (let s := netHead [] [(9, { kindConn 1 with fetch := some 5 })];
      got (.contextFetchDone 9) s (fun t => t.qpc.cached == [9] && (t.conn 9).any (fun c => c.fetch.isNone)) = true) := by
  refine ⟨?_, ?_, ?_, ?_, ?_, ?_⟩ <;> decide +kernel

/-- Connection 9 of a kind, cached, with messages sent. -/
def roced (kind : Nat) (sent : List RoceMsg) (retries : Nat) : State :=
  netHead [9] [(9, { kindConn kind with sent := sent, retries := retries })]

/-- A response that waits for its acknowledgement, and a fetch for command 4. -/
def aMsg : RoceMsg := { psn := 68, packets := 2, what := .response 4, op := 1, reth := [], bytes := [1, 2], want := 0, read := false }
def aFetch : RoceMsg := { psn := 69, packets := 1, what := .fetch 4, op := 4, reth := [], bytes := [], want := 3, read := true }

/-- Every RoCEv2 row on connection 9. -/
def roceRows : List Instr := let p := aPacket 50 []
  [.roceSend p, .roceRdmaWrite p, .roceRdmaReadRequest p, .roceReadResponse p, .roceAck 9 5, .roceNak 9 5 0, .roceCnp 9]

theorem witness_RocePacketRows :
    ((netHead [] []).ready 9 = none ∧ roceRows.all (fun i => got i (netHead [] []) (fun t => t.fld (F.HPT.STAT.COUNT.nth 15) == 1)) = true) ∧
    (let s := netHead [] [(9, kindConn 1)];
      s.ready 9 = some (kindConn 1) ∧ s.missBytes = 0 ∧ s.fetches = 0 ∧
      roceRows.all (fun i => got i s (fun t => (t.conn 9).any (fun c => c.parked == [i] && c.fetch == some 1000000))) = true) ∧
    (let s := roced 1 [] 0; let b := (aCmd .admitted 1 []).sqe; let p := aPacket 50 b;
      s.ready 9 = some (kindConn 1) ∧ (kindConn 1).isRoce = true ∧ s.buffersUsed 9 < s.capsuleBuffers 9 ∧ s.lcs.mode.serving = true ∧
      got (.roceSend p) s (fun t => Tab.getD t.cmf.caps 9 [] == [⟨b, none⟩] && t.out == [.roce 9 6 50 0 []]) = true) ∧
    (let p := aPacket 51 [1]; seqGe 24 51 50 = true ∧ (kindConn 1).epsn = 50 ∧
      [Instr.roceSend p, .roceRdmaWrite p, .roceRdmaReadRequest p].all (fun i => got i (roced 1 [] 0) (fun t =>
        t.out == [.roce 9 7 50 0 [0]] && (t.conn 9).any Conn.gapNak)) = true) ∧
    (let p := aPacket 49 [1]; seqGe 24 49 50 = false ∧
      [Instr.roceSend p, .roceRdmaWrite p].all (fun i => got i (roced 1 [] 0) (fun t =>
        t.out == [.roce 9 6 49 0 []] && t.conn 9 == some (kindConn 1))) = true) ∧
    (let s := roced 2 [] 0; let p := aPacket 50 [1, 2, 3];
      s.region 9 65541 16 3 true = some (hbmBase + 2 ^ 20 + 16) ∧ s.region 9 65541 4094 3 true = none ∧
      got (.roceRdmaWrite p) s (fun t => t.load (hbmBase + 2 ^ 20 + 16) 3 == [1, 2, 3] && (t.conn 9).any (fun c => c.epsn == 51)) = true ∧
      got (.roceRdmaReadRequest { p with payload := [] }) (s.store (hbmBase + 2 ^ 20 + 16) [4, 5, 6]) (fun t =>
        t.out == [.roce 9 5 50 1 [4, 5, 6]] && (t.conn 9).any (fun c => c.epsn == 51)) = true) ∧
    (let s := roced 1 [aFetch] 0; let c := { adm 6 [] with stage := .fetching };
      let s : State := { s with cmf := { s.cmf with cmds := [(4, c)] } };
      got (.roceReadResponse (aPacket 69 [7, 8, 9])) s (fun t => (t.cmd 4).any (fun d => d.data == [7, 8, 9]) &&
        (t.conn 9).any (fun c => c.sent == [])) = true) ∧
    (let s (r : Nat) := roced 1 [aMsg] r;
      seqGe 24 69 (68 + 2 - 1) = true ∧ seqGe 24 ((69 + 2 ^ 24 - 1) % 2 ^ 24) 69 = false ∧ (kindConn 1).retry = 2 ∧
      got (.roceAck 9 69) (s 1) (fun t => (t.conn 9).any (fun c => c.sent == [] && c.retries == 0)) = true ∧
      got (.roceNak 9 69 0) (s 1) (fun t => (t.conn 9).any (fun c => c.retries == 2) && t.out == [.roce 9 1 68 2 [1, 2]]) = true ∧
      got (.roceNak 9 69 2) (s 1) (fun t => (t.conn 9).any (fun c => c.failed) && t.fld F.QPC.ERR_LAST.CAUSE == 3 && told Src.QPC 1 9 t) = true ∧
      (s 0).connTimeout (kindConn 1) = 524 ∧
      got (.roceRetransmitTimeout 9) (s 0) (fun t => (t.conn 9).any (fun c => c.retries == 1 && c.timer == 1000000)) = true ∧
      got (.roceRetransmitTimeout 9) (s 2) (fun t => (t.conn 9).any (fun c => c.failed) && t.fld F.QPC.ERR_LAST.CAUSE == 1) = true ∧
      got (.roceRetransmitTimeout 9) (netHead [9] [(9, { kindConn 1 with sent := [aMsg], timer := 999477 })]) (fun t =>
        (t.conn 9).any (fun c => c.retries == 0)) = true) ∧
    (let s (cut gap : Nat) := netHead [9] [(9, { kindConn 1 with rate := 400000, cnpCut := cut, cnpGap := gap })];
      (s 0 0).fld F.HPT.ROCE_CC.GAP ≠ 0 ∧
      got (.roceCnp 9) (s 0 0) (fun t => (t.conn 9).any (fun c => c.rate == 300000)) = true ∧
      got (.roceCnp 9) (s 1000000 0) (fun t => (t.conn 9).any (fun c => c.rate == 400000)) = true ∧
      got (.roceRateIncrease 9) (s 0 0) (fun t => (t.conn 9).any (fun c => c.rate == 400000 + t.fld F.HPT.ROCE_CC.AI_MBPS)) = true ∧
      got (.roceRateIncrease 9) (s 0 1000000) (fun t => (t.conn 9).any (fun c => c.rate == 400000)) = true) := by
  refine ⟨?_, ?_, ?_, ?_, ?_, ?_, ?_, ?_, ?_⟩ <;> decide +kernel

/-! Spray. -/

/-- A Spray connection of KIND 3 or 4 with two paths, next PSN 40 and next MSN 7. -/
def sprayConn (kind : Nat) : Conn := {
  State.reset.newConn (lay 128 [(0, leBytes 1 kind), (52, [2 * 32 + 8]), (54, [2]), (55, [3]), (70, [4]), (80, [0])]) with
  txPsn := 40, txMsn := 7, done := 3, cwnd := 65536 }

/-- Connection 9, present, in a head whose completion ring 3 is on. -/
def sprayed (c : Conn) : State := (netHead [9] [(9, c)]).put (F.HPT.RING_CFG.EN.nth 3) 1

/-- A packet with its CRC: TYPE, path 1, message, its length and offset, region offset 16 of region 1, trigger 2. -/
def dataPacket (typ psn msn len off rkey : Nat) (pay : List Byte) : SprayPacket :=
  let h := sprayHeader typ false false 0 1 9 5 psn msn len off rkey pay.length 2 psn 16 0 ++ pay
  { ipOk := true, ce := false, bytes := h ++ beBytes 4 (crc32c h) }
def ctlPacket (typ : Nat) (rest : List Byte) : SprayPacket :=
  let h := sprayAckHeader typ false 0 1 9 rest
  { ipOk := true, ce := false, bytes := h ++ beBytes 4 (crc32c h) }

/-- What the Spray statements call an intact packet of connection 9. -/
def whole (p : SprayPacket) (typ h : Nat) (pay : List Byte) : Bool :=
  p.ipOk && pkt p.bytes 0 1 == 16 + typ && pkt p.bytes 4 4 == 9 && sprayReservedOk typ p.bytes && !(pkt p.bytes 1 1).testBit 0 &&
    p.bytes.length == h + pay.length + 4 && (p.bytes.drop h).take pay.length == pay &&
    beBytes 4 (crc32c (p.bytes.take (h + pay.length))) == p.bytes.drop (h + pay.length)

/-- A packet of message 6 sent, unacknowledged; the message: the response of command 4. -/
def sentPacket (sent timeouts : Nat) (hold : Option Nat) : SprayTx := {
  psn := 39, msn := 6, index := 0, path := 0, len := 16, sent := sent, timeouts := timeouts, dups := 0, holdTill := hold }
def sentMsg : SprayMsg := {
  msn := 6, what := .response 4, typ := 1, rkey := 5, off := 0, trig := 0, imm := none, bytes := List.replicate 16 1, next := 1 }
def sending (x : SprayTx) : State := sprayed { sprayConn 4 with tx := [x], msgs := [sentMsg] }

/-- A message received whole, or with a packet missing. -/
def received (len : Nat) : SprayRx := { typ := 1, len := len, rkey := 65541, off := 16, trig := 0, imm := none, got := [0], parts := [] }

/-- A work descriptor in the ring of connection 9 at the start of HBM + 2^21: OP, FLAGS, local range of region 1. -/
def workBytes (op flags len : Nat) : List Byte := lay 64 [(0, leBytes 1 op), (1, leBytes 1 flags), (8, leBytes 8 16),
  (16, leBytes 4 65541), (20, leBytes 4 len), (24, leBytes 4 77), (32, leBytes 8 88), (40, leBytes 2 6), (44, leBytes 4 9)]
def working (op flags len : Nat) (works : List Work) : State :=
  ((sprayed { sprayConn 4 with
    ctx := (sprayConn 4).ctx.take 64 ++ leBytes 6 (hbmBase + 2 ^ 21) ++ (sprayConn 4).ctx.drop 70, posted := 1, works := works }).put
    (F.SIM.JOBFMT.OPCODES.nth 3) (2 ^ 64 - 1)).store (hbmBase + 2 ^ 21) (workBytes op flags len)

theorem witness_SprayAndWorkRequestRows :
    (let p := { dataPacket 1 5 3 4 0 65541 [1, 2, 3, 4] with ipOk := false };
      [Instr.sprayPut p, .sprayGet p, .sprayAck p, .sprayNak p].all (fun i => got i (sprayed (sprayConn 4)) (fun t =>
        t.fld (F.HPT.STAT.COUNT.nth 15) == 1)) = true) ∧
    (let s := sprayed (sprayConn 4); let c := sprayConn 4; let p (n : Nat) := dataPacket 1 5 n 4 0 65541 [1, 2, 3, 4];
      s.ready 9 = some c ∧ c.kind = 4 ∧ c.enc = false ∧ whole (p 3) 1 52 [1, 2, 3, 4] = true ∧ seqGe 32 66 c.done = true ∧
      seqDist 32 66 c.done = 63 ∧ s.lengthWrong c 1 65541 4 0 4 none = false ∧ s.bitmaps = 0 ∧
      s.region 9 65541 16 4 true = some (hbmBase + 2 ^ 20 + 16) ∧
      ([3, 66].all fun n => got (.sprayPut (p n)) s (fun t => t.load (hbmBase + 2 ^ 20 + 16) 4 == [1, 2, 3, 4] &&
        (t.conn 9).any (fun d => (Tab.find d.rx n).any (fun r => r.got == [0] && r.trig == 2) && d.ackPath == some 1))) = true ∧
      seqGe 32 2 c.done = false ∧
      got (.sprayPut (p 2)) s (fun t => t.fld (F.HPT.STAT.COUNT.nth 12) == 1 && t.byte (hbmBase + 2 ^ 20 + 16) == 0) = true) ∧
    (let get := beBytes 4 65541 ++ beBytes 4 3 ++ beBytes 8 20 ++ beBytes 4 900 ++ beBytes 2 8 ++ beBytes 2 0 ++ beBytes 8 1000;
      let s := (sprayed (sprayConn 4)).store (hbmBase + 2 ^ 20 + 20) [7, 8, 9]; let p := dataPacket 4 5 3 32 0 0 get;
      get.length = 32 ∧ whole p 4 52 get = true ∧ s.region 9 65541 20 3 false = some (hbmBase + 2 ^ 20 + 20) ∧
      got (.sprayGet p) s (fun t => t.out.length == 1 && (t.conn 9).any (fun d => d.done == 4 && d.rx == [] &&
        d.msgs.any (fun m => m.rkey == 900 && m.off == 1000 && m.trig == 8 && m.bytes == [7, 8, 9]))) = true) ∧
    (let s0 := sending (sentPacket 0 0 none); let s : State := { s0 with cmf := { s0.cmf with cmds := [(4, adm 6 [])] } };
      let p := ctlPacket 2 (beBytes 4 40 ++ beBytes 4 7 ++ beBytes 8 0 ++ beBytes 2 0 ++ beBytes 6 0);
      whole p 2 32 [] = true ∧ seqGe 32 39 40 = false ∧
      got (.sprayAck p) s (fun t => t.cmf.cmds == [] && (t.conn 9).any (fun d => d.tx == [] && d.msgs == [] && d.cwnd == 65536 + 16)) = true) ∧
    (let p (cause : Nat) := ctlPacket 3 (beBytes 4 39 ++ beBytes 4 6 ++ beBytes 1 cause ++ beBytes 3 0 ++ beBytes 4 3 ++ beBytes 8 0);
      whole (p 1) 3 32 [] = true ∧ whole (p 4) 3 32 [] = true ∧
      got (.sprayNak (p 1)) (sending (sentPacket 0 0 none)) (fun t => (t.conn 9).any (fun d => d.tx == [sentPacket 0 0 (some 1000002)])) = true ∧
      got (.sprayNak (p 4)) (sending (sentPacket 0 0 none)) (fun t => (t.conn 9).any Conn.failed &&
        t.fld F.QPC.ERR_LAST.CAUSE == 5 && told Src.QPC 1 9 t) = true) ∧
    (let s (len : Nat) := sprayed { sprayConn 4 with rx := [(3, received len)] };
      (s 1024).ringRoom 3 0 = true ∧ (sprayConn 4).cq = 3 ∧
      got (.sprayMessageComplete 9 3) (s 1024) (fun t => t.hpt.completed == [(9, 3)] && (t.conn 9).any (fun d => d.done == 4)) = true ∧
      got (.sprayMessageComplete 9 3) (s 1025) (fun t => t.hpt.completed == []) = true) ∧
    (let late := 1000000 - 524;
      (sending (sentPacket 0 0 none)).connTimeout (sprayConn 4) = 524 ∧ (sprayConn 4).retry = 2 ∧
      got (.sprayLossTimeout 9 39) (sending (sentPacket late 1 none)) (fun t => t.out.length == 1 && (t.conn 9).any (fun d =>
        d.tx.map (fun y => (y.psn, y.timeouts, y.path)) == [(40, 2, 1)] && d.txPsn == 41)) = true ∧
      got (.sprayLossTimeout 9 39) (sending (sentPacket late 2 none)) (fun t => (t.conn 9).any Conn.failed &&
        t.fld F.QPC.ERR_LAST.CAUSE == 1) = true ∧
      got (.sprayLossTimeout 9 39) (sending (sentPacket (late + 1) 1 none)) (fun t => t.out == []) = true ∧
      got (.busyHoldOffEnd 9 39) (sending (sentPacket late 2 (some 1000000))) (fun t => (t.conn 9).any (fun d =>
        d.tx.map (fun y => (y.psn, y.timeouts)) == [(40, 2)])) = true ∧
      got (.busyHoldOffEnd 9 39) (sending (sentPacket late 2 (some 1000001))) (fun t => t.out == []) = true) ∧
    (let p (off : Option Nat) : Path := { weight := 4, acked := 0, losses := 3, off := off };
      let s (n : Nat) := sprayed { sprayConn 4 with paths := [p none, p (some n)] };
      got (.pathReenable 9 1) (s 500000) (fun t => (t.conn 9).any (fun d => d.paths == [p none, ⟨1, 0, 0, none⟩])) = true ∧
      got (.pathReenable 9 1) (s 500001) (fun t => (t.conn 9).any (fun d => d.paths == [p none, p (some 500001)])) = true) ∧
    (let s := sprayed (sprayConn 4); (sprayConn 4).sqLog2 = 4 ∧ (sprayConn 4).oldest = 0 ∧
      got (.sprayDb core (BitVec.ofNat 64 (9 * 2 ^ 32 + 16))) s (fun t => (t.conn 9).any (fun d => d.posted == 16)) = true ∧
      got (.sprayDb core (BitVec.ofNat 64 (9 * 2 ^ 32 + 17))) s (fun t => (t.conn 9).any Conn.failed && t.fld F.QPC.ERR_LAST.CAUSE == 7) = true) ∧
    (let c (s : State) : Conn := (s.conn 9).getD (sprayConn 4); let good := working 1 0 3 []; let bad := working 3 0 3 [];
      good.workDesc (c good) 0 = workBytes 1 0 3 ∧ descBad (c good) (workBytes 1 0 3) = false ∧ descBad (c bad) (workBytes 3 0 3) = true ∧
      good.acceptsOp 3 1 = true ∧ (good.region 9 65541 16 3 false).isSome = true ∧
      got (.workRequestStart 9) bad (fun t => t.hpt.ended == [(9, 0, 0x35)]) = true ∧
      got (.workRequestStart 9) good (fun t => t.hpt.ended == [] && (t.conn 9).any (fun d => d.started == 1 &&
        d.msgs.any (fun m => m.what == .work 0 && m.rkey == 77 && m.off == 88))) = true ∧
      got (.workRequestStart 9) (working 1 2 3 [⟨5, [], false⟩]) (fun t => (t.conn 9).any (fun d => d.started == 0)) = true ∧
      (working 1 4 3 []).trigger 6 = 0 ∧
      got (.workRequestStart 9) (working 1 4 3 []) (fun t => (t.conn 9).any (fun d => d.started == 0)) = true) ∧
    (got (.workRequestComplete 9 5) (working 1 0 3 [⟨5, [], true⟩]) (fun t => t.hpt.ended == [(9, 5, 0)]) = true) ∧
    ([1, 65535].all (fun tag =>
      got (.trigSet core tag 4294967295) (at_ .dualActive) (fun t => t.hpt.trig == [(1, tag, 4294967295)]) &&
      got (.trigAdd core tag 7) (at_ .dualActive) (fun t => t.hpt.trig == [(2, tag, 7)])) = true ∧
      [Instr.trigSet core 0 7, .trigAdd core 0 7].all (fun c => got c (at_ .dualActive) (fun t =>
        t.hpt.trig == [] && (t.reg (blockBase Src.HPT + 8)).getLsbD 3)) = true) ∧
    (let s := ((sprayed (sprayConn 4)).put F.HPT.TRIG_BASE.ADDR (hbmBase / 2 ^ 19 + 8)).put F.HPT.TRIG_BASE.EN 1;
      s.trigAddr 2 = some (hbmBase + 2 ^ 22 + 16) ∧ s.memOk Src.HPT (hbmBase + 2 ^ 22 + 16) 4 = true ∧
      (s.applyTrig (1, 2, 2 ^ 32 - 1)).trigger 2 = 2 ^ 32 - 1 ∧ ((s.applyTrig (1, 2, 2 ^ 32 - 1)).applyTrig (2, 2, 3)).trigger 2 = 2) := by
  refine ⟨?_, ?_, ?_, ?_, ?_, ?_, ?_, ?_, ?_, ?_, ?_, ?_, ?_⟩ <;> decide +kernel

/-! Virtual controllers. -/

/-- A descriptor: CNTLID, queues from a base, IP entries from a first one. -/
def descOfVc (cntlid qbase qcount ipFirst ipCount : Nat) : List Byte := lay 1024 [(0, leBytes 2 cntlid), (2, [3]), (24, leBytes 2 qbase),
  (26, leBytes 2 qcount), (28, leBytes 1 ipFirst), (29, leBytes 1 ipCount), (30, [50, 0]), (32, leBytes 4 2048), (36, leBytes 4 12800)]

/-- The tables of descriptors lie at the start of HBM; that of index 6 holds one; a command on an index waits. -/
def vcCmd (op v : Nat) (d : List Byte) (vcs : Tab Vc) : State :=
  let s := (((withMem (at_ .dualActive)).put F.VCT.DESC_BASE.ADDR (hbmBase / 2 ^ 20)).put F.VCT.NSMAP_BASE.ADDR (hbmBase / 2 ^ 20 + 2)).put
    F.VCT.ARG.VC v
  { s.store (hbmBase + 1024 * v) d with vct := { s.vct with command := some op, vcs := vcs } }

/-- Controller 6 in a state, of the descriptor that passes. -/
def vcIn (st : VcState) : Vc := { hostVc none with state := st, desc := descOfVc 9 100 8 4 2, nsmap := List.replicate 2048 0 }

/-- The RESULT of the command. -/
def res (s : State) : Nat := s.runVcCommand.fld F.VCT.CMD_STATUS.RESULT

/-- Controller 6 in a state, with a move, one queue on connection 5, and memory for its record. -/
def moving (st : VcState) (since : Nat) (cmds : Tab Cmd) : State :=
  let s := ((vcCmd 0 6 [] [(6, vcIn st)]).put F.VCT.SAVE_ADDR.ADDR (hbmBase / 64 + 2 ^ 16)).put (F.HPT.IP_CTL.VALID.nth 5) 1
  { s with
    vct := { s.vct with command := none, move := some ⟨6, 8, 200, since⟩ }
    cmf := { s.cmf with cmds := cmds, queues := [(queueKey 6 1, aQueue)] }, qpc := { s.qpc with conns := [(5, aConn)] } }

/-- A record of a controller without queues. -/
def aRecord : List Byte :=
  let body := descOfVc 9 100 8 4 2 ++ List.replicate 2048 0 ++ List.replicate 64 0
  let h (crc : Nat) := lay 128 [(0, leBytes 2 0x5643), (2, [1]), (4, [7]), (6, [3]), (16, leBytes 4 (128 + body.length)), (124, leBytes 4 crc)]
  h (crc32c (h 0 ++ body)) ++ body

/-- The head that may load it. -/
def target : State := ((((vcCmd 0 6 [] []).put F.VCT.RESTORE_BUF.ADDR (hbmBase / 64 + 2 ^ 16)).put F.VCT.RESTORE_BUF.EN 1).put
  F.VCT.RESTORE_BUF.SIZE_64K 16).put F.HPT.STATUS.UP 1

theorem witness_VirtualControllerRows :
    (core.test = false ∧ (at_ .dualActive).flag F.VCT.CMD_STATUS.BUSY = false ∧
      ([Instr.vcCreate core, .vcUpdate core, .vcReset core, .vcDestroy core, .vcMove core].zipIdx.all (fun p =>
        got p.1 (at_ .dualActive) (fun t => t.flag F.VCT.CMD_STATUS.BUSY && t.vct.command == some (p.2 + 1)) &&
        got p.1 ((at_ .dualActive).put F.VCT.CMD_STATUS.BUSY 1) (fun t => t.vct.command == none))) = true) ∧
    (let d := descOfVc 9 100 8 4 2; let s := vcCmd 1 6 d [];
      s.descAt 6 = d ∧ descriptorOk d = true ∧ s.vcFree 6 = true ∧ s.noQueues 6 100 8 = false ∧ s.ipClash 6 4 2 = false ∧ res s = 0 ∧
      (s.runVcCommand.vc 6).any (fun x => x.state == .active && x.vgen == 1 && x.c == 2048 * 50 && x.y == 640000) = true ∧
      res ((vcCmd 1 6 d []).put F.VCT.CONFIG.VC_MAX 6) = 1 ∧ res (vcCmd 1 6 d [(6, vcIn .draining)]) = 2 ∧
      descriptorOk (descOfVc 0 100 8 4 2) = false ∧ res (vcCmd 1 6 (descOfVc 0 100 8 4 2) []) = 1 ∧
      res (vcCmd 1 6 d [(5, vcIn .active)]) = 3 ∧ res (vcCmd 1 6 d [(5, { vcIn .active with desc := descOfVc 9 108 8 5 1 })]) = 4) ∧
    (let d := descOfVc 9 100 8 4 2; let e := lay 1024 [(0, d.take 40), (32, [7])];
      res (vcCmd 2 6 (descOfVc 9 100 7 4 2) [(6, vcIn .active)]) = 1 ∧ fixedFields e = fixedFields d ∧ res (vcCmd 2 6 e [(6, vcIn .active)]) = 0 ∧
      ((vcCmd 2 6 e [(6, vcIn .active)]).runVcCommand.vc 6).any (fun y => y.desc == e && y.vgen == 1) = true) ∧
    (((vcCmd 3 6 [] [(6, vcIn .active)]).runVcCommand.vc 6).any (fun y => y.vgen == 2 && y.resetting) = true ∧
      ((vcCmd 4 6 [] [(6, vcIn .active)]).runVcCommand.vc 6).any (fun y => y.vgen == 2 && y.state == .draining) = true ∧
      (let s := vcCmd 5 6 [] [(6, vcIn .active)]; let up : State := { s with rfl := { s.rfl with link := .up } };
        res s = 2 ∧ res up = 0 ∧ (up.runVcCommand.vc 6).any (fun y => y.state == .quiescing) = true ∧
        res { up with vct := { up.vct with move := some ⟨7, 8, 0, 5⟩ } } = 5) ∧
      res (vcCmd 3 6 [] []) = 2) ∧
    ((moving .draining 0 []).inFlight 6 = [] ∧
      got (.vcFreed 6) (moving .draining 0 []) (fun t => (t.vc 6).any (fun x => x.state == .free) && told Src.VCT 1 6 t) = true ∧
      (moving .draining 0 [(4, { adm 6 [] with vc := 6 })]).inFlight 6 ≠ [] ∧
      got (.vcFreed 6) (moving .draining 0 [(4, { adm 6 [] with vc := 6 })]) (fun t => (t.vc 6).any (fun x => x.state == .draining)) = true) := by
  refine ⟨?_, ?_, ?_, ?_, ?_⟩ <;> decide +kernel

/-- A controller that is quiescing, with nothing in flight. -/
def sealable : State := moving .quiescing 999000 []

/-- Its record. -/
def sealedRec : List Byte := sealable.vcRecord 6 (vcIn .quiescing)

theorem witness_vc_record_saved :
    ∃ t, exec (.vcSeal 6) sealable = .next t ∧ t.load (sealable.fld F.VCT.SAVE_ADDR.ADDR * 64) sealedRec.length = sealedRec :=
  execVcSeal_saves sealable 6 (vcIn .quiescing) sealedRec (by decide +kernel) rfl (by decide +kernel) (by decide +kernel)

theorem witness_VirtualControllerRows_move :
    (sealedRec.length = 128 + 1024 + 2048 + 64 + 32 + 512 ∧ sealable.fld F.VCT.SAVE_ADDR.ADDR * 64 = hbmBase + 2 ^ 22 ∧ sealable.memOk Src.VCT (hbmBase + 2 ^ 22) sealedRec.length = true ∧
      sealable.lcs.mode.serving = true ∧
      got (.vcSeal 6) sealable (fun t => (t.vc 6).any (fun x => x.state == .sealed) && t.flag F.VCT.MOVE_STATUS.SEALED &&
        t.out == [.vcRecord sealedRec] && !t.flag (F.HPT.IP_CTL.VALID.nth 5) && (t.conn 5).any Conn.frozen) = true ∧
      got (.vcSeal 6) (moving .quiescing 0 [(4, { adm 6 [] with vc := 6 })]) (fun t => t.out == []) = true) ∧
    (let max := (at_ .dualActive).fld F.VCT.MOVE_CTL.FREEZE_MAX;
      got .freezeTimeout (moving .quiescing (1000000 - max) []) (fun t => (t.vc 6).any (fun x => x.state == .active) && t.vct.move == none &&
        t.fld F.VCT.MOVE_STATUS.RESULT == 1 && told Src.VCT 2 6 t) = true ∧
      got .freezeTimeout (moving .quiescing (1000001 - max) []) (fun t => (t.vc 6).any (fun x => x.state == .quiescing)) = true) ∧
    (target.refusalCause 6 300 [] = 1 ∧
      got (.vcRecordReceived 6 300 (aRecord.set 5 1)) target (fun t => t.rfl.vcs.map (fun e => (e.op, e.cause, e.target)) == [(3, 2, 6)] &&
        t.fld (F.VCT.STAT.COUNT.nth 5) == 1) = true ∧
      got (.vcRecordReceived 6 300 aRecord) target (fun t => (t.vc 6).any (fun x => x.state == .loaded && x.qbase == 300) &&
        t.vct.loaded.any (fun l => l.src == 7 && l.record == aRecord)) = true) := by
  refine ⟨⟨?_, ?_, ?_, ?_, ?_, ?_⟩, ?_, ?_, ?_, ?_⟩ <;> decide +kernel

/-! The peer, the witness and ownership. -/

/-- The payload of a MARK of the other head in tick 1,000,000, from the table of R382: EPOCH 4, ECHO_HOLD 100, TX_OFFSET 8. -/
def markOf (mode tag own tickLen compat : Nat) : List Byte :=
  beBytes 8 1000000 ++ beBytes 1 mode ++ beBytes 1 (tickLen + 2 * 4 + 32 + own * 64) ++ beBytes 2 tag ++ beBytes 4 4 ++ beBytes 8 0 ++
    beBytes 4 100 ++ beBytes 4 8 ++ beBytes 4 compat ++ beBytes 28 0

/-- That MARK as it arrives, of the usual tick length. -/
def markIn (mode tag own : Nat) : MarkIn := { payload := markOf mode tag own 0 0, trip := 500, arrival := 240, fallback := false }

/-- A head of that array in a mode, the Reflect link in a state, its tick length that of the MARK. -/
def peered (mode : Mode) (st : LinkState) : State :=
  let s := ((at_ mode).put F.WIT.CONFIG.ARRAY_TAG 0x1234).put F.TCK.CONFIG.TICK_LEN 0
  { s with rfl := { s.rfl with link := st }, wit := { s.wit with own := 1, granted := 4 }, evr := { s.evr with full := false } }

/-- Its last MARK arrived at a tick. -/
def heard (s : State) (arrived : Nat) (lost : Bool) : State := { s with rfl := { s.rfl with
  lost := lost, mark := some { tick := 5, mode := 5, tickLen := 0, align := 2, head := 1, own := 2, tag := 0x1234, epoch := 4, compat := 0, arrived := arrived, arrival := 0 } } }

/-- The delta of a tick with some sections, after that of tick 70. -/
def deltaIn (tick : Nat) (ctrl : List Ctrl) (vcs : List VcEntry) : Delta := {
  tick := tick, epoch := 4, ctrl := ctrl, vcs := vcs, sj := [], keyres := [], ptr := [], mapd := [], pacer := []
  pacerHead := State.reset.pacerHeader 7 1, len := 0, sealedAt := 0, lseq := none }

/-- It arrives whole. -/
def deltaComes (d : Delta) : Instr := .deltaApply true (d.encode 1)
def applied (mode : Mode) (own : Nat) : State := let s := heard (peered mode .up) 999000 false
  ({ s with
    rfl := { s.rfl with lastApplied := 70, shadows := [(1, { Shadow.empty with complete := true })] }
    wit := { s.wit with own := own } }.put F.RFL.SHADOW_BASE.EN 1).put F.RFL.SHADOW_BASE.SIZE_GIB 1
def ctrl (code side : Nat) : Ctrl := { code := code, side := side, cause := 0, jseq := 5, sseq := 6, root := 77 }

/-- A delta sealed at a tick and not acknowledged. -/
def sealed (tick at_ : Nat) : Delta := {
  tick := tick, epoch := 4, ctrl := [], vcs := [], sj := [], keyres := [], ptr := [], mapd := [], pacer := [], pacerHead := [], len := 32,
  sealedAt := at_, lseq := none }

/-- A command forwarded to the peer under tag 9, and one from it. -/
def away : State := hosted (some anAssoc) [(4, { io .forwarded 2 3 1 4096 with toPeer := some 9 })]
def aForward : ForwardIn := { tag := 12, payload := forwardBytes { io .held 2 0 1 4096 with vc := 0, qid := 1, host := 3 } 0, data := [], good := true }

/-- The payload of a FWD_RSP with a status word and DW0 1, for some bytes of data. -/
def fwdRsp (status len : Nat) : List Byte := beBytes 2 status ++ beBytes 2 0 ++ beBytes 4 1 ++ beBytes 4 0 ++ beBytes 4 len ++ beBytes 16 0

/-- A head in Join that awaits or has the bulk state. -/
def joining (bulk : Bool) (shadows : Tab Shadow) : State :=
  let s := (((applied .join 0).put F.RFL.JOIN_STATUS.PHASE 2).put F.RFL.SHADOW_BASE.EN 1)
  { s with rfl := { s.rfl with bulk := bulk, shadows := shadows } }

theorem witness_PeerRows :
    (let s := peered .selfTest .ident; let bad := markIn 5 0x1235 2;
      bad.fallback = false ∧ s.reflect = .ident ∧ (readMark bad).map MarkRead.tag = some 0x1235 ∧ s.fld F.WIT.CONFIG.ARRAY_TAG = 0x1234 ∧
      got (.markReceived bad) s (fun t => t.rfl.link == .fault && told Src.RFL 8 0 t) = true ∧
      got (.markReceived (markIn 5 0x1234 2)) s (fun t => t.rfl.link == .up && t.rfl.mark.any (fun m => m.own == 2) &&
        t.rfl.heardAt == 1000000 && t.tck.peerOffset == -8) = true ∧
      (let u := peered .dualActive .up; let m := { markIn 5 0x1234 2 with payload := markOf 12 0x1234 2 0 0 };
        readMark m = none ∧ got (.markReceived m) u (fun t => told Src.RFL 8 0 t && t.rfl.mark.isNone) = true ∧
        readMark { m with payload := (markOf 11 0x1234 2 0 0).take 63 } = none ∧ readMark { m with payload := markOf 5 0x1234 2 0 0 ++ [0] } = none ∧
        readMark { m with payload := (markOf 5 0x1234 2 0 0).set 63 1 } = none ∧ (readMark { m with payload := markOf 11 0x1234 2 0 0 }).isSome = true)) ∧
    (let s := peered .join .up; let m := { markIn 5 0x1234 2 with payload := markOf 5 0x1234 2 2 0 };
      s.lcs.mode = .join ∧ s.fld F.RFL.JOIN_STATUS.PHASE ≤ 1 ∧ s.rfl.mark = none ∧ (readMark m).map MarkRead.tickLen = some 2 ∧
      s.fld F.TCK.CONFIG.TICK_LEN = 0 ∧
      got (.markReceived m) s (fun t => (t.reg (eventAddr Src.TCK)).getLsbD 5 && t.fld F.RFL.JOIN_STATUS.CAUSE == 1) = true ∧
      got (.markReceived { markIn 5 0x1234 2 with payload := markOf 5 0x1234 2 0 s.compat }) s (fun t => t.fld F.RFL.JOIN_STATUS.PHASE == 2) = true) ∧
    (let s := peered .soloActive .retrain; s.lcs.mode.serving = true ∧ s.rfl.servesJoin = false ∧
      got (.markReceived (markIn 4 0x1234 0)) s (fun t => t.rfl.servesJoin && t.rfl.baseDue == [(0, none)] && t.out.length == 1) = true) ∧
    (let m := { markIn 5 0x1234 2 with fallback := true }; let s := peered .dualActive .down;
      (s.put F.RFL.CTL.FB_EN 1).flag F.RFL.CTL.FB_EN = true ∧ s.flag F.RFL.CTL.FB_EN = false ∧
      got (.markReceived m) (s.put F.RFL.CTL.FB_EN 1) (fun t => t.rfl.mark.isSome && t.rfl.heardAt == s.rfl.heardAt) = true ∧
      got (.markReceived m) s (fun t => t.rfl.mark.isNone) = true ∧
      got (.markReceived (markIn 5 0x1234 2)) s (fun t => t.rfl.mark.isNone) = true) ∧
    (let s (n : Nat) (lost : Bool) := heard (peered .dualActive .up) n lost; let l := (at_ .dualActive).fld F.RFL.LOSS_CTL.LOSS;
      (s 0 false).lcs.mode.hearsPeer = true ∧ 0 < l ∧
      got .peerLoss (s (1000000 - l) false) (fun t => t.rfl.lost && t.tck.latches == [.peerLoss] && told Src.RFL 0 0 t) = true ∧
      got .peerLoss (s (1000001 - l) false) (fun t => !t.rfl.lost) = true ∧
      (let u := s (1000001 - l) true; let r : State := { u with wit := { u.wit with req := 2, mask := 2 }, rfl := { u.rfl with incoming := 2, released := 2 } };
        got .peerUp u (fun t => !t.rfl.lost && told Src.RFL 1 0 t) = true ∧
        got .peerUp { r with rfl := { r.rfl with released := 0 } } (fun t => t.wit.mask == 0 && t.wit.req == 0) = true ∧
        got .peerUp r (fun t => t.wit.mask == 2 && t.wit.req == 2) = true) ∧
      got .peerUp (s (1000000 - l) true) (fun t => t.rfl.lost) = true) ∧
    (let s := applied .dualActive 1;
      s.lcs.mode.hearsPeer = true ∧ s.reflectCarries = true ∧ s.peerOwn = 2 ∧
      readDelta ((deltaIn 71 [] []).encode 1) = some ⟨71, [], [], [], [], [], [], []⟩ ∧
      got (.deltaApply false ((deltaIn 71 [] []).encode 1)) s (fun t => !(t.shadowOf 1).complete && t.fld (F.RFL.STAT.COUNT.nth 4) == 1) = true ∧
      got (.deltaApply true (((deltaIn 71 [] []).encode 1).set 22 1)) s (fun t => t.rfl.lastApplied == 70 && told Src.RFL 8 0 t) = true ∧
      got (deltaComes (deltaIn 70 [ctrl 1 1] [])) s (fun t => t.rfl.incoming == 0) = true ∧
      got (deltaComes (deltaIn 72 [] [])) s (fun t => t.rfl.lastApplied == 72 && !(t.shadowOf 1).complete) = true ∧
      got (deltaComes (deltaIn 71 [ctrl 1 1] [])) s (fun t => t.rfl.incoming == 2 && (t.shadowOf 1).complete) = true ∧
      got (deltaComes (deltaIn 71 [ctrl 2 1] [])) s (fun t => t.rfl.incoming == 2 && t.rfl.released == 2 && t.wit.req == 2 && t.wit.mask == 2) = true ∧
      got (deltaComes (deltaIn 71 [ctrl 3 1] [])) (applied .soloActive 3) (fun t => t.lcs.mode == .handBack &&
        t.rfl.handBack.any (fun h => h.isReturn && h.sides == 2 && h.phase == 1)) = true ∧
      got (deltaComes (deltaIn 71 [ctrl 4 0] [])) s (fun t => (t.shadowOf 0).complete && (t.shadowOf 0).root == 77) = true ∧
      got (deltaComes (deltaIn 71 [] [⟨9, 1, 0, 0, 3, 0, 0⟩])) s (fun t => Tab.find t.vct.peer 9 == some (1, 3)) = true ∧
      got (deltaComes { deltaIn 71 [] [] with ptr := [⟨1, 2, 3, 4, 5, 6, 7, 8⟩], pacer := [⟨7, true, 99⟩] }) s (fun t =>
        (t.shadowOf 1).ptr == some ⟨1, 2, 3, 4, 5, 6, 7, 8⟩ && Tab.find t.pcr.peer 7 == some (true, 99)) = true ∧
      got (deltaComes { deltaIn 71 [] [] with mapd := [(1, 1, { snapRec with jseq := 1 }.encode)] }) s (fun t =>
        (Tab.find (t.shadowOf 1).records 1).any (fun r => r.items == [.snap 1 5 1]) && (t.shadowOf 1).upto == 1) = true ∧
      got (deltaComes (deltaIn 71 [ctrl 1 1] [])) (applied .reset 1) (fun t => t.rfl.incoming == 0) = true) ∧
    (let keep := (at_ .dualActive).fld F.RFL.LOSS_CTL.KEEP; let s (n : Nat) : State := let s := peered .dualActive .up
        { s with rfl := { s.rfl with deltas := [sealed 50 n, sealed 51 n] } };
      got (.deltaKeepExpiry 50) (s (1000000 - keep)) (fun t => t.rfl.deltas.map Delta.tick == [51] && t.rfl.baseDue == [(0, none)]) = true ∧
      got (.deltaKeepExpiry 50) (s (1000001 - keep)) (fun t => t.rfl.deltas.length == 2) = true) ∧
    (got (.forwardedCommand aForward) (peered .dualActive .up) (fun t => t.cmf.arrived == [readForward aForward]) = true ∧
      got (.forwardedCommand aForward) (peered .eclipse .up) (fun t => t.cmf.arrived == [] && t.out.length == 1) = true ∧
      (readForward aForward).good = true ∧ (readForward { aForward with good := false }).good = false ∧
      got (.forwardedCommand { aForward with payload := aForward.payload.set 4 1 }) (peered .dualActive .up)
        (fun t => told Src.RFL 8 0 t && t.cmf.arrived.all (fun f => !f.good)) = true ∧
      got (.forwardedCommand aForward) (peered .dualActive .down) (fun t => t.cmf.arrived == []) = true) ∧
    (let c := { io .forwarded 2 3 1 4096 with toPeer := some 9 }; away.cmd 4 = some c ∧ away.stampsHold c = true ∧ away.ready 5 = some aConn ∧
      fwdRspBad (fwdRsp 0x281 0) [] = false ∧ got (.fwdRspReceived 9 (fwdRsp 0x281 0) []) away (ended 4 0x281 1) = true ∧
      got (.fwdRspReceived 9 (fwdRsp 0x281 1) []) away (fun t => told Src.RFL 8 0 t && t.cmf.cmds == away.cmf.cmds) = true ∧
      got (.fwdRspReceived 9 (fwdRsp 0 2) [5, 6]) away (fun t => ended 4 0 1 t && answered [5, 6] t) = true ∧
      got (.fwdRspReceived 8 (fwdRsp 0 2) [5, 6]) away (fun t => t.out == []) = true) ∧
    (let b : BulkIn := { keyres := [], sj := [], ptr := [⟨1, 2, 3, 4, 5, 6, 7, 8⟩], vcs := [⟨9, 1, 0, 0, 3, 0, 0⟩], pacer := [⟨7, true, 99⟩] };
      (joining false []).lcs.mode = .join ∧
      got (.joinBulkApply b) (joining false []) (fun t => t.rfl.bulk && (t.shadowOf 1).ptr == some ⟨1, 2, 3, 4, 5, 6, 7, 8⟩ &&
        Tab.find t.pcr.own 7 == some (true, 99) && Tab.find t.vct.peer 9 == some (1, 3)) = true ∧
      got (.joinBulkApply b) (joining true []) (fun t => t.vct.peer == []) = true) ∧
    (let ok := { Shadow.empty with complete := true };
      (joining true [(0, ok), (1, ok)]).shadowOk 1 = true ∧ (joining true [(0, ok)]).shadowOk 1 = false ∧
      got .returnReqSend (joining true [(0, ok), (1, ok)]) (fun t => t.rfl.returnSent && t.rfl.ctrl.length == 1 &&
        t.fld F.RFL.JOIN_STATUS.PHASE == 3) = true ∧
      got .returnReqSend (joining true [(0, ok)]) (fun t => !t.rfl.returnSent) = true) := by
  refine ⟨?_, ?_, ?_, ?_, ?_, ?_, ?_, ?_, ?_, ?_, ?_⟩ <;> decide +kernel

/-- Characters 1 to 19 of a slot of the witness on link 1, from the table of R396: REF_COUNT 2^32 - 1, P 40, peer heard. -/
def slotBytes (state epoch own tag : Nat) : List Byte :=
  let body := beBytes 1 0x50 ++ beBytes 4 (2 ^ 32 - 1) ++ beBytes 2 40 ++ beBytes 4 epoch ++ beBytes 1 own ++ beBytes 1 state ++ beBytes 1 1 ++
    beBytes 1 2 ++ beBytes 2 tag
  body ++ beBytes 2 (crc16 body)

/-- It arrives. -/
def slotOf (state epoch own : Nat) : WitnessSlot := { aligned := true, bytes := slotBytes state epoch own 0x1234, q := -20 }

/-- A head whose link 1 is or is not valid, that holds sides under epoch 4. -/
def witnessed (valid : Bool) (own req : Nat) : State := let s := peered .dualActive .up
  { s with wit := { s.wit with own := own, req := req, mask := 1, granted := 4, leaseRun := 77, links := [⟨3, 5, false⟩, ⟨20, 5, valid⟩] } }

/-- A head that adopts side 1 with a step to do. -/
def adopting (mode : Mode) (step todo : Nat) : State := let s := peered mode .up
  { s with rfl := { s.rfl with adopt := some ⟨3, todo, 999000, step, 7⟩ }, wit := { s.wit with own := 3 } }

/-- A Hand-Back of side 0. -/
def handing (phase since : Nat) (final : Option Nat) (isReturn receiver : Bool) (cmds : Tab Cmd) : State := let s := peered .handBack .up
  { s with
    rfl := { s.rfl with handBack := some {
      sides := 1, phase := phase, since := since, software := true, isReturn := isReturn, receiver := receiver, limit := false,
      abandoned := false, finalTick := final } }
    cmf := { s.cmf with cmds := cmds } }

theorem witness_WitnessAndOwnershipRows :
    ((witnessed true 1 0).witnessHeard = true ∧
      got (.witnessSlot 2 (slotOf 1 5 1)) (witnessed true 1 0) (fun t => t.wit.grant == none) = true ∧
      got (.witnessSlot 1 { slotOf 1 5 1 with aligned := false }) (witnessed true 1 0) (fun t => (t.wit.link 1).good == 0 && (t.wit.link 0).good == 3 &&
        t.fld (F.WIT.LINK_ERR.CRC.nth 1) == 1) = true ∧
      slotIntact (slotOf 1 5 1).bytes = true ∧ slotFormOk 1 (slotOf 1 5 1).bytes = true ∧ slotFormOk 0 (slotOf 1 5 1).bytes = false ∧
      slotFormOk 1 (slotOf 4 5 1).bytes = false ∧ slotIntact ((slotOf 1 5 1).bytes.set 18 0) = false ∧
      got (.witnessSlot 1 (slotOf 4 5 1)) (witnessed true 1 0) (fun t => (t.wit.link 1).good == 0 && t.fld (F.WIT.LINK_ERR.CRC.nth 1) == 0 &&
        t.fld (F.WIT.STAT.COUNT.nth 1) == 1) = true ∧
      got (.witnessSlot 1 { slotOf 1 5 1 with bytes := slotBytes 1 5 1 0x1235 }) (witnessed true 1 0) (fun t => (t.wit.link 1).good == 0 && told Src.WIT 7 1 t) = true ∧
      got (.witnessSlot 1 (slotOf 1 5 1)) (witnessed false 1 0) (fun t => t.wit.link 1 == ⟨21, 0, false⟩ && t.wit.grant == none &&
        t.fld (F.WIT.LINK_STATUS.REF_COUNT.nth 1) == 2 ^ 32 - 1 && t.fld (F.WIT.LINK_PHASE.PHASE.nth 1) == 30 &&
        t.fld (F.WIT.LINK_PHASE.DELAY.nth 1) == 10 && t.fld F.WIT.STATUS.STATE == 1 && t.flag F.WIT.STATUS.PEER_HEARD) = true) ∧
    (got (.witnessSlot 1 (slotOf 1 5 3)) (witnessed true 1 0) (fun t => t.wit.grant == some ⟨5, 3, 1⟩ && t.wit.leaseRun == 0 && t.tck.latches == []) = true ∧
      got (.witnessSlot 1 (slotOf 1 4 1)) (witnessed true 1 3) (fun t => t.wit.req == 0 && t.tck.latches == []) = true ∧
      got (.witnessSlot 1 (slotOf 1 5 2)) (witnessed true 1 0) (fun t => t.tck.latches == [.epochLoss .witness]) = true ∧
      got (.witnessSlot 1 (slotOf 1 4 3)) (witnessed true 1 3) (fun t => t.wit.req == 3 && t.tck.latches == [] && t.wit.leaseRun == 0) = true ∧
      got (.witnessSlot 1 (slotOf 2 5 2)) (witnessed true 1 0) (fun t => t.tck.latches == [] && t.wit.leaseRun == 0) = true ∧
      got (.witnessSlot 1 (slotOf 0 5 2)) (witnessed true 1 0) (fun t => t.tck.latches == [.epochLoss .witness]) = true ∧
      got (.witnessSlot 1 (slotOf 0 5 2)) (witnessed true 0 3) (fun t => t.tck.latches == [] && t.wit.req == 0) = true ∧
      got (.witnessSlot 1 (slotOf 3 5 2)) (witnessed true 1 0) (fun t => t.tck.latches == [.epochLoss .witness] && told Src.WIT 3 0 t) = true) ∧
    (got (.epochLoss true) (witnessed true 1 0) (fun t => t.tck.latches == [.epochLoss .module]) = true ∧
      got (.epochLoss true) (peered .reset .up) (fun t => t.tck.latches == []) = true) ∧
    (let s (g i : Nat) (v : Bool) : State := { witnessed v 1 0 with wit := { (witnessed v 1 0).wit with links := [⟨3, 5, false⟩, ⟨g, i, v⟩] } };
      got (.umbraLinkValid 1) (s 16 0 false) (fun t => (t.wit.link 1).valid && told Src.WIT 0 1 t) = true ∧
      got (.umbraLinkValid 1) (s 15 0 false) (fun t => !(t.wit.link 1).valid) = true ∧
      got (.umbraLinkMissing 1) (s 16 10000 true) (fun t => !(t.wit.link 1).valid && told Src.WIT 1 1 t) = true ∧
      got (.umbraLinkMissing 1) (s 16 9999 true) (fun t => (t.wit.link 1).valid) = true) ∧
    (let s := (peered .dualActive .up).put F.TCK.CONFIG.TICK_LEN 2; s.tickNs = 4000 ∧ s.transmits = true ∧ (peered .dualActive .up).tickNs ≠ 4000 ∧
      got .umbraMidwaySlot s (fun t => t.out.length == 2) = true ∧ got .umbraMidwaySlot (peered .dualActive .up) (fun t => t.out == []) = true) ∧
    (let lease := (at_ .dualActive).fld F.WIT.CONFIG.LEASE; let s (n : Nat) : State := let s := heard (witnessed true 1 0) 5 true
        { s with wit := { s.wit with leaseRun := n } };
      0 < lease ∧ (s 0).lcs.mode.fences = true ∧
      got .leaseExpired (s (lease * 2000)) (fun t => t.tck.latches == [.epochLoss .lease] && told Src.WIT 5 0 t) = true ∧
      got .leaseExpired (s (lease * 2000 - 1)) (fun t => t.tck.latches == []) = true) ∧
    (let s (since : Nat) : State := let s := witnessed true 1 0
        { s with rfl := { s.rfl with unheld := some since }, tck := { s.tck with tick := 20000000 } };
      (s 0).ticksIn 10000000 = 10000000 ∧ (s 0).mayClaim = true ∧
      got (.unheldSideClaim 1) (s 10000000) (fun t => t.wit.req == 2 && t.wit.mask == 2) = true ∧
      got (.unheldSideClaim 1) (s 10000001) (fun t => t.wit.req == 0) = true) ∧
    (((Tab.keys (adopting .takeOver 2 2).frn.ports).all (adopting .takeOver 2 2).portFenced) = true ∧
      got .adoptFencesDone (adopting .takeOver 2 2) (fun t => t.rfl.adopt.any (fun a => a.step == 3) && t.fld F.RFL.ADOPT_STATUS.STEP == 3) = true ∧
      (let s := (adopting .takeOver 2 2).setPort 95 (portIn .up 5); (Tab.keys s.frn.ports).all s.portFenced = false ∧
        got .adoptFencesDone s (fun t => t.rfl.adopt.any (fun a => a.step == 2)) = true)) ∧
    (got (.adoptJournalRead 1 recoveryRead) (adopting .takeOver 3 3) (fun t => t.rfl.adopt == some ⟨3, 1, 999000, 3, 7⟩ &&
        t.fld F.RFL.ADOPT_STATUS.TAIL == 7) = true ∧
      got (.adoptJournalRead 1 recoveryRead) (adopting .takeOver 3 2) (fun t => t.rfl.adopt == some ⟨3, 0, 999000, 5, 7⟩ &&
        t.lcs.mode == .soloActive && t.fld F.RFL.ADOPT_STATUS.STEP == 5) = true ∧
      got (.adoptJournalRead 1 recoveryRead) (adopting .join 3 2) (fun t => t.lcs.mode == .dualActive) = true) ∧
    (let s := withGrants (withFtl (fun f => { f with stripes := [(4, aStripe 1 0 false)] })
        { adopting .takeOver 5 0 with rfl := { (adopting .takeOver 5 0).rfl with unchecked := [4, 2 ^ 20 + 9] } });
      let one (x : Stripe) : State := { s with ftl := { s.ftl with stripes := [(4, x)] }, rfl := { s.rfl with unchecked := [4] } };
      let x := aStripe 1 0 false;
      s.other = none ∧ s.granted Cls.mapWork = true ∧ (adopting .takeOver 5 0).granted Cls.mapWork = false ∧ s.rowAccepted ⟨[], []⟩ 4 x 4 = false ∧
      got (.stripeCheck 0 4 []) s (fun t => t.rfl.unchecked == [2 ^ 20 + 9] && (Tab.find t.ftl.stripes 4).any (fun y => y.rowsDone == 4 && y.state == 5)) = true ∧
      got (.stripeCheck 0 4 []) (one { x with sentLimit := 4 }) (fun t => t.rfl.adopt == none &&
        (Tab.find t.ftl.stripes 4).any (fun y => y.rowsDone == 4 && y.state == 1)) = true ∧
      got (.stripeCheck 1 4 []) (one x) (fun t => t.rfl.unchecked == [4]) = true) ∧
    (got (.handbackStart core) (peered .dualActive .up) (fun t => t.tck.latches == [.handBackStart]) = true ∧
      got (.handbackStart core) (peered .soloActive .up) (fun t => t.tck.latches == [] && (t.reg (blockBase Src.RFL + 8)).getLsbD 4) = true) ∧
    (let busy : Tab Cmd := [(4, io .held 1 0 1 4096)]; let d := (at_ .dualActive).ticksIn ((at_ .dualActive).fld F.RFL.HANDBACK_CTL.DRAIN_MS * 1000);
      (handing 2 5 none false true busy).sidesBusy 1 = true ∧ (handing 2 5 none false true []).sidesBusy 1 = false ∧ 0 < d ∧
      got .drainEnd (handing 1 999999 none false true []) (fun t => t.rfl.handBack.any (fun h => h.phase == 3 && !h.limit)) = true ∧
      got .drainEnd { handing 1 0 none false true busy with tck := { (at_ .dualActive).tck with tick := 2 * d + 10 } } (fun t =>
        t.rfl.handBack.any (fun h => h.phase == 3 && h.limit)) = true ∧
      got .drainEnd (handing 1 999999 none false true busy) (fun t => t.rfl.handBack.any (fun h => h.phase == 1)) = true) ∧
    (got .handbackSeal (handing 3 5 none false true []) (fun t => t.rfl.handBack.any (fun h => h.finalTick == some 1000000) && t.wit.own == 0 &&
        t.wit.req == 3 && t.wit.mask == 1 && t.rfl.deltas.any (fun d => d.tick == 1000000 && d.ctrl.contains ⟨2, 0, 0, 0, 0, 0⟩)) = true ∧
      (let s : State := { handing 3 5 none true true [] with wit := { (peered .handBack .up).wit with own := 3 } };
        got .handbackSeal s (fun t => t.wit.own == 2 && t.lcs.mode == .soloActive) = true) ∧
      got .handbackSeal (handing 2 5 none false true []) (fun t => t.rfl.handBack.any (fun h => h.finalTick == none)) = true) ∧
    (let s (receiver : Bool) (f acked : Nat) : State := let s := handing 3 5 (some f) false receiver []
        { s with rfl := { s.rfl with acked := acked }, wit := { s.wit with own := 0 } };
      (s true 70 70).frnEpoch = 0 ∧
      got .handbackDone (s true 70 70) (fun t => t.lcs.mode == .eclipse && t.wit.req == 3 && t.wit.mask == 1 && t.fld F.RFL.HANDBACK_STATUS.PHASE == 4 &&
        t.fld F.RFL.HANDBACK_STATUS.RESULT == 0 && t.fld F.WIT.STATUS.FENCE_SRC == 3) = true ∧
      got .handbackDone (s false 999999 0) (fun t => t.fld F.RFL.HANDBACK_STATUS.RESULT == 2) = true ∧
      got .handbackDone (s true 70 69) (fun t => t.lcs.mode == .handBack) = true) := by
  refine ⟨?_, ?_, ?_, ?_, ?_, ?_, ?_, ?_, ?_, ?_, ?_, ?_, ?_, ?_⟩ <;> decide +kernel

/-! The pacer. -/

/-- In closed loop in Dual-Active, time set, the bin 7 run out. -/
def pacing : State :=
  let s := ((((at_ .dualActive).put F.PCR.CTL.EN 1).put F.PCR.TOD.TOD_VALID 1).put F.PCR.TOD.BIN 7).put F.PCR.TOD.TICKS 30000004
  { s with
    wit := { s.wit with own := 1 }
    pcr := { s.pcr with binPanel := 4, binClosed := 2, binSum := 2001, binOneSide := true, own := [(6, true, 5), (9, true, 6)] } }

/-- That state with some of the pacer's fields set. -/
def paced (f : Pcr → Pcr) : State := { pacing with pcr := f pacing.pcr }

/-- The classes of the worked example of R422, with FOLD, GC, PATROL and REPL backlogged. -/
def evening : List Alloc :=
  let s := (at_ .dualActive).mapClasses (fun c x => { x with backlog := c == 0 || c == 1 || c == 3 || c == 7 })
  (s.allocs 2).zipIdx.map (fun p => if p.2 == Cls.patrol then { p.1 with cap := 3110 } else p.1)

theorem witness_PacerRows :
    ((at_ .dualActive).fld F.PCR.TOTAL.MIN ≤ (at_ .dualActive).fld F.PCR.TOTAL.MAX) ∧
    (allocCost evening 0 ≤ 16 * 360110 ∧ (targetsFor evening 360110).1 = [96000, 48000, 0, 3110, 0, 0, 0, 51000]) ∧
    (pacing.fld F.PCR.TOD.TOD_VALID = 1 ∧ 1 ≤ pacing.fld F.PCR.RC_CTL.BINS ∧ pacing.fld F.PCR.RC_CTL.BINS ≤ 4096 ∧
      pacing.binTicks = 30000000 ∧ pacing.flag F.PCR.RC_CTL.EN = true ∧ pacing.fld F.PCR.RC_CTL.GAIN_SHIFT = 3 ∧
      got .binEnd pacing (fun t => t.fld F.PCR.TOD.BIN == 8 && t.fld F.PCR.TOD.TICKS == 4 && t.pcr.binPanel == 0 &&
        Tab.find t.pcr.own 7 == some (true, 1000) && Tab.find t.pcr.own 9 == some (true, 6)) = true ∧
      got .binEnd (paced (fun p => { p with own := [(7, true, 1400)] })) (fun t => t.pcr.own == [(7, true, 1350)]) = true ∧
      got .binEnd (paced (fun p => { p with binPanel := 5 })) (fun t => t.pcr.own == pacing.pcr.own) = true ∧
      (pacing.put F.PCR.TOD.TICKS 29999999).fld F.PCR.TOD.TICKS < pacing.binTicks ∧
      still .binEnd (pacing.put F.PCR.TOD.TICKS 29999999) = true) ∧
    (pacing.pcr.fallback = false ∧ pacing.pacerState = 2 ∧ pacing.flag F.PCR.CTL.FORCE = false ∧
      pacing.fld F.PCR.MODEL_CTL.N_BAD = 16 ∧ still .pacerFallback (paced (fun p => { p with badRun := 15 })) = true ∧
      got .pacerFallback (paced (fun p => { p with badRun := 16 })) (fun t => t.pcr.fallback && t.pcr.cause == 1 && told Src.PCR 0 0 t) = true ∧
      got .pacerFallback (pacing.put F.PCR.CTL.FORCE 1) (fun t => t.pcr.fallback && t.pcr.cause == 2) = true) ∧
    (pacing.fld F.PCR.MODEL_CTL.N_GOOD = 1024 ∧ still .pacerClosed (paced (fun p => { p with fallback := true, goodRun := 1023 })) = true ∧
      got .pacerClosed (paced (fun p => { p with fallback := true, goodRun := 1024, u := 900, uff := 200 })) (fun t =>
        !t.pcr.fallback && t.pcr.integ == 700 && told Src.PCR 1 0 t) = true) ∧
    (core.test = false ∧ got (.pcrForceWrite core 3) (at_ .dualActive) (fun t => t.flag F.PCR.CTL.FORCE) = true ∧
      got (.todWrite core (fieldWord F.PCR.TOD.BIN 5)) (at_ .dualActive) (fun t => t.fld F.PCR.TOD.BIN == 0 &&
        t.pacerBoundary.fld F.PCR.TOD.BIN == 5 && t.pacerBoundary.flag F.PCR.TOD.TOD_VALID) = true) ∧
    (got (.rcDataWrite core (fieldWord F.PCR.RC_DATA.M 5)) (pacing.put F.PCR.RC_SEL.BIN 6) (fun t =>
        Tab.find t.pacerBoundary.pcr.own 6 == some (false, 5)) = true ∧
      got (.rcDataWrite core (fieldWord F.PCR.RC_DATA.M 5)) (pacing.put F.PCR.RC_SEL.PEER 1) (fun t =>
        Tab.find t.pacerBoundary.pcr.peer 0 == some (false, 5) && t.pacerBoundary.pcr.own == pacing.pcr.own) = true) := by
  refine ⟨?_, ?_, ?_, ?_, ?_, ?_, ?_⟩ <;> decide +kernel

/-! Accesses. -/

theorem witness_UnassignedAddressesReadZero :
    (let s := at_ .dualActive; let a := 0xF4800FF8;
      blockOf a = some Src.PCR ∧ a % 8 = 0 ∧ specAt a = none ∧
      got (.wideValueRead core a 8) { s with busData := 5 } (fun t => t.busData == 0 && (t.reg 0xF4800008).getLsbD 1 && t.evr.queue == s.evr.queue) = true ∧
      got (.registerWrite core a 8 7) s (fun t => t.fld ⟨0xF4800008, 0, 63, 32⟩ == 1 && t.reg a == 0) = true) := by decide +kernel

theorem witness_RegisterAccess :
    (let s := at_ .dualActive; let a := F.PCR.SETPOINT.SP.addr;
      (blockOf a).isSome = true ∧ (4 ≠ 8 ∨ a % 8 ≠ 0) ∧
      got (.registerWrite core a 4 7) s (fun t => t.reg a == s.reg a && (t.reg 0xF4800008).getLsbD 0) = true ∧
      core.test = false ∧ wfld 20 F.PCR.SETPOINT.SP = 20 ∧ wfld 4095 F.PCR.SETPOINT.SP = 4095 ∧
      got (.registerWrite core a 8 20) s (fun t => t.fld F.PCR.SETPOINT.SP == 20 && regsBut [a] s t) = true ∧
      got (.registerWrite core a 8 4095) s (fun t => t.fld F.PCR.SETPOINT.SP == 4095) = true ∧
      got (.registerWrite core a 8 (5 * 2 ^ 48 + 19)) s (fun t => t.fld F.PCR.SETPOINT.SP == s.fld F.PCR.SETPOINT.SP &&
        t.reg a != s.reg a && (t.reg 0xF4800008).getLsbD 3) = true ∧
      got (.registerWrite core a 8 4096) s (fun t => t.fld F.PCR.SETPOINT.SP == s.fld F.PCR.SETPOINT.SP) = true) ∧
    (let a := F.TCK.CONFIG.TICK_LEN.addr;
      got (.registerWrite core a 8 2) (at_ .dualActive) (fun t => t.fld F.TCK.CONFIG.TICK_LEN == 1 && regsBut [blockBase 0 + 8, blockBase 0 + 16] (at_ .dualActive) t) = true ∧
      (at_ .structureLoad).lcs.mode = .structureLoad ∧
      got (.registerWrite core a 8 2) (at_ .structureLoad) (fun t => t.fld F.TCK.CONFIG.TICK_LEN == 2) = true) ∧
    (let a := eventAddr Src.RFL; let s := (at_ .dualActive).setReg a 0x21;
      got (.registerWrite core a 8 0x422) s (fun t => t.reg a == 1) = true) ∧
    (let s := (at_ .dualActive).put F.QPC.CMD_STATUS.BUSY 1; s.flag F.QPC.CMD_STATUS.BUSY = true ∧
      got (.registerWrite core F.QPC.CMD.OP.addr 8 (fieldWord F.QPC.CMD.OP 1)) s (fun t => t.qpc.command == none) = true) ∧
    (let s := (at_ .dualActive).setReg F.LCS.SERIAL1.SERIAL.addr 9; let a := F.LCS.SERIAL0.SERIAL.addr;
      (specAt a).isSome = true ∧ (wideValues.find? (fun p => decide (p.1 ≤ a) && decide (a < p.1 + 8 * p.2))) = some (a, 2) ∧
      got (.wideValueRead core a 8) s (fun t => t.busData == s.liveWord a && Tab.find t.shadow (a + 8) == some (s.liveWord (a + 8))) = true ∧
      got (.wideValueRead core (a + 8) 8) { s with shadow := [(a + 8, 77)] } (fun t => t.busData == 77) = true ∧
      got (.wideValueRead core F.PCR.SETPOINT.SP.addr 8) s (fun t => t.busData == s.reg F.PCR.SETPOINT.SP.addr) = true) ∧
    (let s := withMem (at_ .dualActive); let a := hbmBase + 2 ^ 20;
      blockOf a = none ∧ inDram a = true ∧ s.memOk Src.APC a 8 = true ∧ s.memOk Src.APC (a + 2 ^ 31) 8 = false ∧
      got (.registerWrite core a 8 0x0102) s (fun t => t.load (a - 1) 4 == [0, 2, 1, 0]) = true ∧
      got (.registerWrite core (a + 2 ^ 31) 8 1) s (fun t => t.mem == s.mem && (t.reg (eventAddr Src.MEM)).getLsbD 1) = true) := by
  refine ⟨?_, ?_, ?_, ?_, ?_, ?_⟩ <;> decide +kernel

/-! WellFormed: a term that each check refuses. -/

theorem test_ill_formed_commands_are_refused :
    [Instr.machineTimer 48, .refValid 2, .trainTimeout 97, .portEnableWrite core 97 0, .exclReadmit core 96 0, .ethPortUp 32,
      .dieFailure 3 128, .presenceChange 96, .anaForceWrite core 32 0, .thermtrip 24, .porstRelease 2, .vcFreed 1024,
      .capacityExceeded 131072, .supplyFault 0, .supplyFault 2048, .roceAck 3 (2 ^ 24), .registerWrite core (2 ^ 40) 8 0,
      .wideValueRead core 0xF0000000 3, .irqEoi { test := false, core := 48 } 0].all (fun c => !c.wf) = true := by decide

theorem test_well_formed_commands_are_accepted :
    [Instr.machineTimer 47, .refValid 1, .trainTimeout 96, .exclReadmit core 95 0, .ethPortUp 31, .dieFailure 3 127,
      .presenceChange 95, .anaForceWrite core 31 0, .thermtrip 23, .porstRelease 1, .vcFreed 1023, .capacityExceeded 131071,
      .supplyFault 2047, .roceAck 3 (2 ^ 24 - 1), .registerWrite core (2 ^ 40 - 8) 8 0,
      .irqEoi { test := true, core := 48 } 0].all (fun c => c.wf) = true := by decide

/-! Published values of the functions the specification names: CRC-32C and CRC-32 of "123456789", SHA-256 and SHA-384 of
"abc" (FIPS 180-4), HMAC-SHA-256 (RFC 4231, case 2), AES-256-GCM (the GCM specification, case 14), XXH64 of nothing. -/

/-- "123456789". -/
def digits : List Byte := [0x31, 0x32, 0x33, 0x34, 0x35, 0x36, 0x37, 0x38, 0x39]

theorem test_crc : crc32c digits = 0xE3069283 ∧ crc32 digits = 0xCBF43926 ∧ contentCheckOf [] = 0x51D8E999 := by decide +kernel

theorem test_sha256_abc : beNat (sha256 [0x61, 0x62, 0x63]) =
    0xba7816bf8f01cfea414140de5dae2223b00361a396177a9cb410ff61f20015ad := by decide +kernel

theorem test_sha384_abc : beNat (sha384 [0x61, 0x62, 0x63]) =
    0xcb00753f45a35e8bb5a03d699ac65007272c32ab0eded1631a8b605a43ff5bed8086072ba1e7cc2358baeca134c825a7 := by decide +kernel

theorem test_hmac_sha256 : beNat (hmacSha256 [0x4a, 0x65, 0x66, 0x65] (beBytes 28
      0x7768617420646f2079612077616e7420666f72206e6f7468696e673f)) =
    0x5bdcc146bf60754e6a042426089575c75a003f089d2739839dec58b964ec3843 := by decide +kernel

theorem test_aes_gcm : let z (n : Nat) : List Byte := List.replicate n 0
    beNat (gcmCrypt (z 32) (z 12) (z 16)) = 0xcea7403d4d606b6e074ec5d3baf39d18 ∧
    beNat (gcmTag (z 32) (z 12) [] (gcmCrypt (z 32) (z 12) (z 16))) = 0xd0d1c8a799996bf0265b98b5d48ab919 := by decide +kernel

/-! Worked examples of the specification. -/

/-- 06_module_redundancy.md: data members 2 and 5 missing, 0x53 and 0x9A, the others zero. -/
theorem test_parity_example : gfMul (gfPow 2) 0x53 = 0x51 ∧ gfMul (gfPow 5) 0x9A = 0xAA ∧ gfMul (gfPow 5) 0xC9 = 0x18 ∧
    gfPow 2 ^^^ gfPow 5 = 0x24 ∧
    let d : List (List Byte) := (List.range 16).map (fun i => if i = 2 then [0x53] else if i = 5 then [0x9A] else [0])
    parityP d = [0xC9] ∧ parityQ d = [0xFB] ∧
    reconstruct (((d ++ [parityP d, parityQ d]).map some).zipIdx.map (fun p => if p.2 = 2 ∨ p.2 = 5 then none else p.1)) =
      some (d ++ [parityP d, parityQ d]) := by decide +kernel

/-- 01_tick_architecture.md: the order of the virtual controllers 2, 7, 9, 12 and 30 after 9, and after 12. -/
theorem test_rotation_example : 
    nextFirst [2, 7, 9, 12, 30] (some 9) = some 12 ∧ rotation [2, 7, 9, 12, 30] (some 12) = [12, 30, 2, 7, 9] ∧
    nextFirst [2, 7, 9, 12, 30] (some 12) = some 30 := by decide

/-- 19_register_map.md: the state after the two accesses. -/
def twoErrors : State :=
  let s := (at_ .dualActive).busWrite { test := false, core := 5 } 0xF2400100 8 0x2C92 true
  s.busRead { test := false, core := 9 } 0xF2400204 4

theorem test_access_error_example :
    twoErrors.reg 0xF2400008 = 0x0000000200000105 ∧ twoErrors.reg 0xF2400010 = 0xC0141A00F2400100 ∧ twoErrors.busData = 0 ∧
    twoErrors.liveWord 0xF2400000 = 0x5244580988600100 ∧
    got (.registerWrite core 0xF2400008 8 0x105) twoErrors (fun t => t.reg 0xF2400008 == 0x0000000200000000 && t.reg 0xF2400010 == 0x40141A00F2400100) =
      true := by decide +kernel

/-- 13_structure_images.md: CMP.CONFIG of the example splits the lanes 56 to 56. -/
theorem test_lane_split_example : let s := (at_ .dualActive).setReg F.CMP.CONFIG.COMP_LANES.addr 0x5F22B8
    s.fld F.CMP.CONFIG.COMP_LANES = 56 ∧ s.fld F.CMP.CONFIG.LEVEL = 2 ∧ s.fld F.CMP.CONFIG.PROBE_THR = 15 ∧ s.fld F.CMP.CONFIG.SAVE_SHIFT = 5 := by
  decide +kernel

/-- A controller of 12,800 bytes per tick with BURST 50. -/
def farm : Vc := { vcIn .active with y := 640000, c := 2048 * 50 }

/-- 10_virtual_controllers.md: a read of 1 MiB, then 31 and 32 top-ups. -/
theorem test_byte_credit_example : farm.byteDepth = 640000 ∧ (farm.charge 1048576).y = -408576 ∧
    ((List.range 31).foldl (fun (v : Vc) _ => v.topUp) (farm.charge 1048576)).mayTake = false ∧
    ((List.range 32).foldl (fun (v : Vc) _ => v.topUp) (farm.charge 1048576)).mayTake = true := by decide +kernel

end Sys2Proof.Tests
end

section
/-!
Laws of the recorder and of access errors, and the statements on EVENT bits and on unassigned addresses.
-/

namespace Sys2Proof.Machine

/-! What no event, counter or field write changes. -/

/-- The state with the recorder and the registers masked: what stays when a register is written or a record is made. -/
def State.unrecorded (s : State) : State := { s with evr := Evr.cold, regs := [] }

/-- States that agree behind the mask differ in the recorder and the registers alone. -/
theorem State.eq_of_unrecorded {s t : State} (h : t.unrecorded = s.unrecorded) :
    t = { s with evr := t.evr, regs := t.regs } :=
  congrArg (fun u : State => { u with evr := t.evr, regs := t.regs }) h

/-- As `eq_of_unrecorded`, where the recorder is as before. -/
theorem State.eq_of_unrecorded_of_evr {s t : State} (h : t.unrecorded = s.unrecorded) (he : t.evr = s.evr) :
    t = { s with regs := t.regs } := by
  rw [← he]; exact State.eq_of_unrecorded h

@[simp] theorem State.setReg_unrecorded (s : State) (a : Nat) (w : Word) : (s.setReg a w).unrecorded = s.unrecorded := Eq.refl _
@[simp] theorem State.put_unrecorded (s : State) (f : Fld) (v : Nat) : (s.put f v).unrecorded = s.unrecorded := Eq.refl _
@[simp] theorem State.putFlag_unrecorded (s : State) (f : Fld) (b : Bool) : (s.putFlag f b).unrecorded = s.unrecorded := Eq.refl _
@[simp] theorem State.count_unrecorded (s : State) (f : Fld) (n k : Nat) : (s.count f n k).unrecorded = s.unrecorded := by
  rw [State.count, State.put_unrecorded]
@[simp] theorem State.saturate_unrecorded (s : State) (f : Fld) (k : Nat) : (s.saturate f k).unrecorded = s.unrecorded := by
  rw [State.saturate, State.put_unrecorded]
@[simp] theorem State.withEvr_unrecorded (s : State) (e : Evr) : ({ s with evr := e } : State).unrecorded = s.unrecorded := Eq.refl _
@[simp] theorem State.record_unrecorded (s : State) (n v c u x y : Nat) :
    (s.record n v c u x y).unrecorded = s.unrecorded := by
  obtain ⟨_, _, h⟩ := State.record_eq s n v c u x y; rw [h]; rfl
@[simp] theorem State.event_unrecorded (s : State) (n b u x y : Nat) : (s.event n b u x y).unrecorded = s.unrecorded := by
  obtain ⟨_, _, h⟩ := State.event_eq s n b u x y; rw [h]; rfl

theorem State.busData_of_unrecorded {s t : State} (h : t.unrecorded = s.unrecorded) : t.busData = s.busData := by
  have e := congrArg State.busData h
  exact e

/-! Fields and bits of registers. -/

theorem State.fld_eq_of_reg {s t : State} {f : Fld} (h : t.reg f.addr = s.reg f.addr) : t.fld f = s.fld f := by
  unfold State.fld; rw [h]

theorem sameMemory_of_mem {s t : State} (h : t.mem = s.mem) : SameMemory s t := fun a => by unfold State.byte; rw [h]

theorem Fld.nth_ok {f : Fld} {n : Nat} (h : f.ok) : (f.nth n).ok := h

theorem State.reg_putFlag_other (s : State) (f : Fld) (b : Bool) (a : Nat) (h : a ≠ f.addr) :
    (s.putFlag f b).reg a = s.reg a := State.reg_put_other _ _ _ _ h

theorem State.reg_saturate_other (s : State) (f : Fld) (k a : Nat) (h : a ≠ f.addr) :
    (s.saturate f k).reg a = s.reg a := State.reg_put_other _ _ _ _ h

/-- A field of w bits after a write of it. -/
theorem State.fld_put_width (s : State) (f : Fld) (v w : Nat) (h : f.ok) (hw : f.hi - f.lo + 1 = w) :
    (s.put f v).fld f = v % 2 ^ w := hw ▸ State.fld_put_same s f v h

theorem State.fld_count_same (s : State) (f : Fld) (n k w : Nat) (h : f.ok) (hw : f.hi - f.lo + 1 = w) :
    (s.count f n k).fld (f.nth n) = (s.fld (f.nth n) + k) % 2 ^ w := State.fld_put_width s _ _ w (Fld.nth_ok h) hw

theorem State.fld_saturate_same (s : State) (f : Fld) (k w : Nat) (h : f.ok) (hw : f.hi - f.lo + 1 = w) :
    (s.saturate f k).fld f = min (s.fld f + k) (2 ^ w - 1) := by
  have : 0 < 2 ^ w := by positivity
  rw [State.saturate, State.fld_put_width _ _ _ w h hw, hw, Nat.mod_eq_of_lt (by omega)]

/-- A bit of a register is the field of its width 1 there. -/
theorem State.getLsbD_reg (s : State) (a d i : Nat) : (s.reg a).getLsbD i = decide (s.fld ⟨a, d, i, i⟩ = 1) := by
  simp only [BitVec.getLsbD, State.fld, bits, Nat.testBit, Nat.sub_self, zero_add, pow_one, Nat.one_and_eq_mod_two]
  rcases Nat.mod_two_eq_zero_or_one ((s.reg a).toNat >>> i) with h | h <;> rw [h] <;> rfl

/-- An EVENT register of a block is none of the counters of the recorder. -/
theorem eventAddr_not_mem_recordRegs : ∀ src < 23, eventAddr src ∉ recordRegs := by decide

/-! Access errors (R566 to R568). -/

/-- The state with an access error shown in ERR_STATUS and, when it is the first, in ERR_ADDR (R566, R567). -/
def State.errorShown (s : State) (b : Nat) (r : Req) (write : Bool) (addr size : Nat) (k : ErrKind) : State :=
  let s1 := (s.put ⟨blockBase b + 8, 0, k.num, k.num⟩ 1).saturate ⟨blockBase b + 8, 0, 63, 32⟩
  if s1.fld ⟨blockBase b + 16, 0, 63, 63⟩ = 0 then
    (s1.setReg (blockBase b + 16) (errAddrWord r write addr size k.num)).put ⟨blockBase b + 8, 0, 8, 8⟩ 1
  else s1

/-- The state with the record of an access error due at the boundary, unless its kind is masked (R568). -/
def State.errorDue (u : State) (b : Nat) (r : Req) (write : Bool) (addr : Nat) (k : ErrKind) : State :=
  if u.fld ⟨blockBase b + 24, 0, k.num, k.num⟩ = 1 then u
  else { u with evr := { u.evr with atBoundary := u.evr.atBoundary ++
    [{ seq := 0, opTime := 0, powerCycles := 0, tick := 0, parent := 0, source := b, severity := 1,
       code := 0x7F00, object := k.num, repeats := 0, arg0 := addr,
       arg1 := write.toNat + (if r.test then 0 else r.core % 64) * 256 + r.test.toNat * 2 ^ 14 }] } }

/-- An access error is shown, and its record falls due. -/
theorem State.accessErrorIn_eq (s : State) (b : Nat) (r : Req) (write : Bool) (addr size : Nat) (k : ErrKind) :
    s.accessErrorIn b r write addr size k = (s.errorShown b r write addr size k).errorDue b r write addr k := by
  rw [State.accessErrorIn, State.errorDue, State.errorShown]

theorem State.errorDue_unrecorded (u : State) (b : Nat) (r : Req) (write : Bool) (addr : Nat) (k : ErrKind) :
    (u.errorDue b r write addr k).unrecorded = u.unrecorded := by
  rw [State.errorDue]
  split
  · exact Eq.refl _
  · exact State.withEvr_unrecorded u _

theorem State.errorDue_evr (u : State) (b : Nat) (r : Req) (write : Bool) (addr : Nat) (k : ErrKind) :
    (u.errorDue b r write addr k).evr = { u.evr with atBoundary := (u.errorDue b r write addr k).evr.atBoundary } := by
  rw [State.errorDue]
  split <;> exact Eq.refl _

theorem State.errorDue_reg (u : State) (b : Nat) (r : Req) (write : Bool) (addr : Nat) (k : ErrKind) (a : Nat) :
    (u.errorDue b r write addr k).reg a = u.reg a := by
  rw [State.errorDue]
  split <;> exact Eq.refl _

theorem State.errorShown_unrecorded (s : State) (b : Nat) (r : Req) (write : Bool) (addr size : Nat) (k : ErrKind) :
    (s.errorShown b r write addr size k).unrecorded = s.unrecorded := by
  rw [State.errorShown]
  split <;> simp only [State.put_unrecorded, State.setReg_unrecorded, State.saturate_unrecorded]

theorem State.errorShown_evr (s : State) (b : Nat) (r : Req) (write : Bool) (addr size : Nat) (k : ErrKind) :
    (s.errorShown b r write addr size k).evr = s.evr := by
  rw [State.errorShown]
  split <;> simp only [State.put_evr, State.setReg_evr, State.saturate_evr]

theorem State.accessErrorIn_unrecorded (s : State) (b : Nat) (r : Req) (write : Bool) (addr size : Nat) (k : ErrKind) :
    (s.accessErrorIn b r write addr size k).unrecorded = s.unrecorded := by
  rw [State.accessErrorIn_eq, State.errorDue_unrecorded, State.errorShown_unrecorded]

/-- Of the recorder, an access error changes the records due at the boundary alone. -/
theorem State.accessErrorIn_evr (s : State) (b : Nat) (r : Req) (write : Bool) (addr size : Nat) (k : ErrKind) :
    (s.accessErrorIn b r write addr size k).evr =
      { s.evr with atBoundary := (s.accessErrorIn b r write addr size k).evr.atBoundary } := by
  have h := State.errorDue_evr (s.errorShown b r write addr size k) b r write addr k
  rwa [State.errorShown_evr, ← State.accessErrorIn_eq] at h

theorem State.accessErrorIn_reg (s : State) (b : Nat) (r : Req) (write : Bool) (addr size : Nat) (k : ErrKind) (a : Nat) :
    (s.accessErrorIn b r write addr size k).reg a = (s.errorShown b r write addr size k).reg a := by
  rw [State.accessErrorIn_eq, State.errorDue_reg]

/-- An access error changes the error registers of its block alone. -/
theorem State.accessErrorIn_sameRegs (s : State) (b : Nat) (r : Req) (write : Bool) (addr size : Nat) (k : ErrKind) :
    SameRegs [blockBase b + 8, blockBase b + 16] s (s.accessErrorIn b r write addr size k) := by
  intro a h
  simp only [List.mem_cons, List.not_mem_nil, or_false, not_or] at h
  obtain ⟨h8, h16⟩ := h
  rw [State.accessErrorIn_reg]
  rw [State.errorShown]
  split
  · rw [State.reg_put_other _ _ _ _ h8, State.reg_setReg_other _ _ _ _ h16, State.reg_saturate_other _ _ _ _ h8,
      State.reg_put_other _ _ _ _ h8]
  · rw [State.reg_saturate_other _ _ _ _ h8, State.reg_put_other _ _ _ _ h8]

/-- What a field of ERR_STATUS other than the bit that shows a capture reads once an access error is shown. -/
theorem State.errorShown_fld (s : State) (b : Nat) (r : Req) (write : Bool) (addr size : Nat) (k : ErrKind) (hi lo : Nat)
    (hl : lo ≤ hi) (hh : hi < 64) (h8 : 8 < lo ∨ hi < 8) :
    (s.errorShown b r write addr size k).fld ⟨blockBase b + 8, 0, hi, lo⟩ =
      ((s.put ⟨blockBase b + 8, 0, k.num, k.num⟩ 1).saturate ⟨blockBase b + 8, 0, 63, 32⟩).fld ⟨blockBase b + 8, 0, hi, lo⟩ := by
  rw [State.errorShown]
  split
  · rw [State.fld_put_other _ _ _ _ ⟨Nat.le_refl 8, by show 8 < 64; decide⟩ ⟨hl, hh⟩ (.inr h8)]
    exact State.fld_eq_of_reg (State.reg_setReg_other _ _ _ _ (by show blockBase b + 8 ≠ blockBase b + 16; omega))
  · exact Eq.refl _

theorem errCount_ok (b : Nat) : (⟨blockBase b + 8, 0, 63, 32⟩ : Fld).ok :=
  ⟨by show 32 ≤ 63; decide, by show 63 < 64; decide⟩

theorem ErrKind.num_le (k : ErrKind) : k.num ≤ 4 := by cases k <;> decide

/-- The bit of the error's kind is set in ERR_STATUS. -/
theorem State.accessErrorIn_kind (s : State) (b : Nat) (r : Req) (write : Bool) (addr size : Nat) (k : ErrKind) :
    ((s.accessErrorIn b r write addr size k).reg (blockBase b + 8)).getLsbD k.num = true := by
  have hk := k.num_le
  have ok : (⟨blockBase b + 8, 0, k.num, k.num⟩ : Fld).ok := ⟨Nat.le_refl _, by show k.num < 64; omega⟩
  rw [State.accessErrorIn_reg, State.getLsbD_reg _ _ 0,
    State.errorShown_fld _ _ _ _ _ _ _ _ _ (Nat.le_refl _) (by omega) (.inr (by omega)), State.saturate,
    State.fld_put_other _ _ _ _ (errCount_ok b) ok (.inr (.inr (by show k.num < 32; omega))),
    State.fld_put_same _ _ _ ok]
  simp

/-- The error is counted in ERR_STATUS, saturating. -/
theorem State.accessErrorIn_counted (s : State) (b : Nat) (r : Req) (write : Bool) (addr size : Nat) (k : ErrKind) :
    (s.accessErrorIn b r write addr size k).fld ⟨blockBase b + 8, 0, 63, 32⟩ =
      min (s.fld ⟨blockBase b + 8, 0, 63, 32⟩ + 1) (2 ^ 32 - 1) := by
  have hk := k.num_le
  rw [State.fld_eq_of_reg (State.accessErrorIn_reg ..),
    State.errorShown_fld _ _ _ _ _ _ _ _ _ (by decide) (by decide) (.inl (by decide)),
    State.fld_saturate_same _ _ _ 32 (errCount_ok b) (by rfl),
    State.fld_put_other _ _ _ _ ⟨Nat.le_refl _, by show k.num < 64; omega⟩ (errCount_ok b)
      (.inr (.inl (by show k.num < 32; omega)))]

/-- What R9 says of an access error of kind UNASSIGNED, on a state that reads as `s` where the error is recorded. -/
theorem State.accessErrorIn_unassigned {s u : State} (hr : u.regs = s.regs) (he : u.evr = s.evr) (b : Nat) (r : Req)
    (write : Bool) (addr size : Nat) :
    let t := u.accessErrorIn b r write addr size .unassigned
    (t.reg (blockBase b + 8)).getLsbD 1 = true ∧
      t.fld ⟨blockBase b + 8, 0, 63, 32⟩ = min (s.fld ⟨blockBase b + 8, 0, 63, 32⟩ + 1) (2 ^ 32 - 1) ∧
      SameRegs [blockBase b + 8, blockBase b + 16] s t ∧ t.evr = { s.evr with atBoundary := t.evr.atBoundary } := by
  refine ⟨?_, ?_, fun a h => ?_, ?_⟩
  · exact u.accessErrorIn_kind b r write addr size .unassigned
  · rw [u.accessErrorIn_counted b r write addr size .unassigned, State.fld_congr hr]
  · rw [u.accessErrorIn_sameRegs b r write addr size .unassigned a h, State.reg_congr hr]
  · rw [← he]; exact u.accessErrorIn_evr b r write addr size .unassigned

/-! Addresses assigned to no register (R9). -/

/-- Nothing is reached at an address assigned to no register. -/
theorem reached_of_unassigned (r : Req) {addr : Nat} (h : specAt addr = none) : reached r addr = none := by
  unfold reached; split
  · exact Eq.refl _
  · exact h

theorem aligned8_of_mod {addr : Nat} (h : addr % 8 = 0) : aligned8 addr 8 = true := by simp [aligned8, h]

/-- A read of an unassigned address returns zero and is an access error of kind UNASSIGNED. -/
theorem State.busRead_unassigned (s : State) (r : Req) {addr b : Nat} (hb : blockOf addr = some b) (ha : addr % 8 = 0)
    (hs : specAt addr = none) :
    s.busRead r addr 8 = ({ s with busData := 0 } : State).accessErrorIn b r false addr 8 .unassigned := by
  simp [State.busRead, State.regRead, aligned8_of_mod ha, reached_of_unassigned r hs, State.accessError, hb]

/-- A write to an unassigned address is an access error of kind UNASSIGNED and nothing else. -/
theorem State.busWrite_unassigned (s : State) (r : Req) {addr b : Nat} (v : Word) (fuseOk : Bool)
    (hb : blockOf addr = some b) (ha : addr % 8 = 0) (hs : specAt addr = none) :
    s.busWrite r addr 8 v fuseOk = s.accessErrorIn b r true addr 8 .unassigned := by
  simp [State.busWrite, State.regWrite, aligned8_of_mod ha, reached_of_unassigned r hs, State.accessError, hb]

end Sys2Proof.Machine

open Sys2Proof Sys2Proof.Machine

/-- Settles O4: the law of EVENT bits (R15, R500), with its frame. -/
theorem eventBitMakesItsRecord : Obligations.EventBitMakesItsRecord := by
  intro s src bit unit a0 a1 hsrc _
  refine ⟨?_, ?_, ?_, ?_⟩
  · exact State.event_signals s s _ _ _ _ _ (eventAddr_not_mem_recordRegs src hsrc) rfl rfl rfl
  · exact fun a h => State.event_reg s _ _ _ _ _ a h
  · exact sameMemory_of_mem (State.event_mem ..)
  · exact State.eq_of_unrecorded (State.event_unrecorded ..)

/-- Settles O56: both accesses are access errors of kind UNASSIGNED in the block of the address (R9), on the state that the row
starts from: with `busData` 0 for a read, with one more free value drawn for a write. -/
theorem unassignedAddressesReadZero : Obligations.UnassignedAddressesReadZero := by
  intro s r addr b v hb ha hs
  refine ⟨⟨_, congrArg Host.Outcome.next (s.busRead_unassigned r hb ha hs), ?_, ?_, ?_⟩,
    ⟨_, congrArg Host.Outcome.next (({ s with fresh := s.fresh + 1 } : State).busWrite_unassigned r v _ hb ha hs), ?_, ?_⟩⟩
  · exact State.busData_of_unrecorded (State.accessErrorIn_unrecorded ..)
  · exact State.accessErrorIn_unassigned rfl rfl ..
  · exact State.eq_of_unrecorded (State.accessErrorIn_unrecorded ..)
  · exact State.accessErrorIn_unassigned rfl rfl ..
  · exact State.eq_of_unrecorded (State.accessErrorIn_unrecorded ..)
end

section
/-!
The rows of the Umbra links and the witness (R395 to R402).
-/

namespace Sys2Proof.Machine

/-! Parts of the state behind the mask of `State.unrecorded`. -/

theorem State.wit_of_unrecorded {s t : State} (h : t.unrecorded = s.unrecorded) : t.wit = s.wit := by
  have e := congrArg State.wit h
  exact e

theorem State.tck_of_unrecorded {s t : State} (h : t.unrecorded = s.unrecorded) : t.tck = s.tck := by
  have e := congrArg State.tck h
  exact e

/-! Links (R398). -/

theorem State.modifyLink_reg (s : State) (n : Nat) (f : UmbraLink → UmbraLink) (a : Nat) :
    (s.modifyLink n f).reg a = s.reg a := Eq.refl _

theorem State.modifyLink_fld (s : State) (n : Nat) (f : UmbraLink → UmbraLink) (g : Fld) :
    (s.modifyLink n f).fld g = s.fld g := Eq.refl _

/-- A state that differs from one with a link changed in the recorder and the registers alone: both links, and the frame. -/
theorem State.modifyLink_frame {s t : State} {link : Nat} {f : UmbraLink → UmbraLink} (hl : link < 2)
    (hn : s.wit.links.length = 2) (h : t.unrecorded = (s.modifyLink link f).unrecorded) :
    t.wit.link link = f (s.wit.link link) ∧ t.wit.link (1 - link) = s.wit.link (1 - link) ∧
      t = { s with wit := { s.wit with links := t.wit.links }, regs := t.regs, evr := t.evr } := by
  have hw : t.wit.links = s.wit.links.set link (f (s.wit.link link)) := by rw [State.wit_of_unrecorded h]; exact Eq.refl _
  refine ⟨?_, ?_, ?_⟩
  · simp only [Wit.link, hw, List.getD_eq_getElem?_getD, List.getElem?_set_self (by omega : link < s.wit.links.length),
      Option.getD_some]
  · simp only [Wit.link, hw, List.getD_eq_getElem?_getD, List.getElem?_set_ne (by omega : link ≠ 1 - link)]
  · rw [hw]; exact State.eq_of_unrecorded h

/-- As `modifyLink_frame`, where the recorder is as before. -/
theorem State.modifyLink_frame_of_evr {s t : State} {link : Nat} {f : UmbraLink → UmbraLink} (hl : link < 2)
    (hn : s.wit.links.length = 2) (h : t.unrecorded = (s.modifyLink link f).unrecorded) (he : t.evr = s.evr) :
    t.wit.link link = f (s.wit.link link) ∧ t.wit.link (1 - link) = s.wit.link (1 - link) ∧
      t = { s with wit := { s.wit with links := t.wit.links }, regs := t.regs } := by
  obtain ⟨h1, h2, h3⟩ := State.modifyLink_frame hl hn h
  exact ⟨h1, h2, by rw [← he]; exact h3⟩

/-! Slots that are refused (R398). -/

/-- The state after a slot that is not valid: the run of valid slots of its link is over, and it is counted. -/
def State.slotRefused (s : State) (link : Nat) : State :=
  (s.modifyLink link (fun l => { l with good := 0 })).count F.WIT.STAT.COUNT 1

theorem State.slotRefused_unrecorded (s : State) (link : Nat) :
    (s.slotRefused link).unrecorded = (s.modifyLink link (fun l => { l with good := 0 })).unrecorded :=
  State.count_unrecorded ..

theorem State.slotRefused_evr (s : State) (link : Nat) : (s.slotRefused link).evr = s.evr := State.count_evr ..

theorem State.slotRefused_reg (s : State) (link a : Nat) (h : a ≠ (F.WIT.STAT.COUNT.nth 1).addr) :
    (s.slotRefused link).reg a = s.reg a := State.count_reg _ _ _ _ _ h

theorem State.slotRefused_counted (s : State) (link : Nat) :
    (s.slotRefused link).fld (F.WIT.STAT.COUNT.nth 1) = (s.fld (F.WIT.STAT.COUNT.nth 1) + 1) % 2 ^ 64 :=
  State.fld_count_same _ F.WIT.STAT.COUNT 1 1 64 (by decide) (by rfl)

/-- The registers of the links, the counters of WIT and those that an EVENT bit of WIT may change are all different. -/
theorem witRegs_ne : ∀ link < 2, (F.WIT.LINK_ERR.CRC.nth link).addr ≠ (F.WIT.STAT.COUNT.nth 1).addr := by decide

section Slots

variable {s : State} {link : Nat} {w : WitnessSlot}

/-- A slot is acted on by no head that does not hear the witness, and by none on a link that is not there. -/
theorem execWitnessSlot_unheard (h : 2 ≤ link ∨ s.witnessHeard = false) : exec (.witnessSlot link w) s = .next s := by
  show execWitnessSlot link w s = _
  rw [execWitnessSlot, if_pos (by simpa using h)]

variable (hl : link < 2) (hh : s.witnessHeard = true)
include hl hh

theorem execWitnessSlot_notIntact (hi : (w.aligned && slotIntact w.bytes) = false) :
    exec (.witnessSlot link w) s = .next ((s.slotRefused link).saturate (F.WIT.LINK_ERR.CRC.nth link)) := by
  show execWitnessSlot link w s = _
  rw [execWitnessSlot, if_neg (by simp [hh]; omega)]
  simp only [hi, Bool.not_false, true_or, if_true, State.slotRefused]

theorem execWitnessSlot_badForm (hi : (w.aligned && slotIntact w.bytes) = true) (hf : slotFormOk link w.bytes = false) :
    exec (.witnessSlot link w) s = .next (s.slotRefused link) := by
  show execWitnessSlot link w s = _
  rw [execWitnessSlot, if_neg (by simp [hh]; omega)]
  simp [hi, hf, State.slotRefused]

theorem execWitnessSlot_otherArray (hi : (w.aligned && slotIntact w.bytes) = true) (hf : slotFormOk link w.bytes = true)
    (ht : (readSlot w.bytes).tag ≠ s.fld F.WIT.CONFIG.ARRAY_TAG) :
    exec (.witnessSlot link w) s = .next ((s.slotRefused link).event Src.WIT 7 link (readSlot w.bytes).tag) := by
  show execWitnessSlot link w s = _
  rw [execWitnessSlot, if_neg (by simp [hh]; omega)]
  simp [hi, hf, ht, State.slotRefused]

end Slots

/-! Slots that are valid. -/

/-- The state that shows a valid slot, before it is acted on: its link's run and the fields of WIT. -/
def State.slotShown (s : State) (link : Nat) (r : SlotRead) (q : Int) : State :=
  let s1 := (s.modifyLink link (fun l => { l with good := l.good + 1, idle := 0 })).count F.WIT.STAT.COUNT 0
  let s2 := ((s1.put (F.WIT.LINK_STATUS.REF_COUNT.nth link) r.refCount).put (F.WIT.LINK_PHASE.PHASE.nth link)
    (unsignedOf 32 ((r.p - q) / 2))).put (F.WIT.LINK_PHASE.DELAY.nth link) (unsignedOf 32 ((r.p + q) / 2))
  (s2.put F.WIT.STATUS.STATE r.state).putFlag F.WIT.STATUS.PEER_HEARD r.peerHeard

theorem execWitnessSlot_valid {s : State} {link : Nat} {w : WitnessSlot} (hl : link < 2) (hh : s.witnessHeard = true)
    (hi : (w.aligned && slotIntact w.bytes) = true) (hf : slotFormOk link w.bytes = true)
    (ht : (readSlot w.bytes).tag = s.fld F.WIT.CONFIG.ARRAY_TAG) :
    exec (.witnessSlot link w) s = .next (if (s.wit.link link).valid then
      (s.slotShown link (readSlot w.bytes) w.q).actOnSlot (readSlot w.bytes) else s.slotShown link (readSlot w.bytes) w.q) := by
  show execWitnessSlot link w s = _
  rw [execWitnessSlot, if_neg (by simp [hh]; omega)]
  simp only [hi, hf, ht, Bool.not_true, ne_eq, not_true_eq_false, or_self, Bool.false_eq_true, if_false, State.slotShown]

theorem State.slotShown_unrecorded (s : State) (link : Nat) (r : SlotRead) (q : Int) :
    (s.slotShown link r q).unrecorded = (s.modifyLink link (fun l => { l with good := l.good + 1, idle := 0 })).unrecorded := by
  simp only [State.slotShown, State.putFlag_unrecorded, State.put_unrecorded, State.count_unrecorded]

theorem State.slotShown_evr (s : State) (link : Nat) (r : SlotRead) (q : Int) : (s.slotShown link r q).evr = s.evr := by
  simp only [State.slotShown, State.putFlag_evr, State.put_evr, State.count_evr]; exact Eq.refl _

theorem unsignedOf_lt (w : Nat) (i : Int) : unsignedOf w i < 2 ^ w := by
  unfold unsignedOf
  have h : (0 : Int) < 2 ^ w := by positivity
  have h1 := Int.emod_lt_of_pos i h
  have h0 := Int.emod_nonneg i (ne_of_gt h)
  zify
  omega

theorem State.flag_putFlag (s : State) (f : Fld) (b : Bool) (h : f.ok) (hw : f.hi - f.lo + 1 = 1) :
    (s.putFlag f b).flag f = b := by
  rw [State.flag, State.putFlag, State.fld_put_width _ _ _ 1 h hw]
  cases b <;> rfl

/-- What WIT shows of a valid slot, in any state whose registers outside those of an EVENT bit are the shown state's. -/
theorem State.slotShown_fields {s t : State} {link : Nat} {r : SlotRead} {q : Int} (hl : link < 2)
    (h : ∀ a, a ∉ eventRegs Src.WIT → t.reg a = (s.slotShown link r q).reg a) (hc : r.refCount < 2 ^ 32) (hs : r.state < 2 ^ 4) :
    t.fld (F.WIT.LINK_STATUS.REF_COUNT.nth link) = r.refCount ∧
      t.fld (F.WIT.LINK_PHASE.PHASE.nth link) = unsignedOf 32 ((r.p - q) / 2) ∧
      t.fld (F.WIT.LINK_PHASE.DELAY.nth link) = unsignedOf 32 ((r.p + q) / 2) ∧
      t.fld F.WIT.STATUS.STATE = r.state ∧ t.flag F.WIT.STATUS.PEER_HEARD = r.peerHeard := by
  have hp := unsignedOf_lt 32 ((r.p - q) / 2)
  have hd := unsignedOf_lt 32 ((r.p + q) / 2)
  obtain rfl | rfl : link = 0 ∨ link = 1 := by omega
  all_goals
    refine ⟨?_, ?_, ?_, ?_, ?_⟩
    · rw [State.fld_eq_of_reg (h _ (by decide)), State.slotShown, State.putFlag]
      simp (disch := decide) only [State.fld_put_other]
      rw [State.fld_put_width _ _ _ 32 (by decide) (by rfl), Nat.mod_eq_of_lt hc]
    · rw [State.fld_eq_of_reg (h _ (by decide)), State.slotShown, State.putFlag]
      simp (disch := decide) only [State.fld_put_other]
      rw [State.fld_put_width _ _ _ 32 (by decide) (by rfl), Nat.mod_eq_of_lt hp]
    · rw [State.fld_eq_of_reg (h _ (by decide)), State.slotShown, State.putFlag]
      simp (disch := decide) only [State.fld_put_other]
      rw [State.fld_put_width _ _ _ 32 (by decide) (by rfl), Nat.mod_eq_of_lt hd]
    · rw [State.fld_eq_of_reg (h _ (by decide)), State.slotShown, State.putFlag]
      simp (disch := decide) only [State.fld_put_other]
      rw [State.fld_put_width _ _ _ 4 (by decide) (by rfl), Nat.mod_eq_of_lt hs]
    · rw [State.flag, State.fld_eq_of_reg (h _ (by decide)), ← State.flag, State.slotShown,
        State.flag_putFlag _ _ _ (by decide) (by rfl)]

/-! Bytes of a slot. -/

theorem beNat_foldl_lt (l : List Byte) (a : Nat) :
    l.foldl (fun a b => a * 256 + b.toNat) a < (a + 1) * 256 ^ l.length := by
  induction l generalizing a with
  | nil => simp
  | cons b l ih =>
    have hb : b.toNat < 256 := b.isLt
    calc (b :: l).foldl (fun a b => a * 256 + b.toNat) a
        < (a * 256 + b.toNat + 1) * 256 ^ l.length := ih _
      _ ≤ ((a + 1) * 256) * 256 ^ l.length := Nat.mul_le_mul_right _ (by omega)
      _ = (a + 1) * 256 ^ (b :: l).length := by rw [List.length_cons, pow_succ]; ring

/-- A field of n bytes is below 256 to the n. -/
theorem beField_lt (b : List Byte) (o n : Nat) : beField b o n < 256 ^ n := by
  have h := beNat_foldl_lt ((b.drop o).take n) 0
  rw [zero_add, one_mul] at h
  exact Nat.lt_of_lt_of_le h (Nat.pow_le_pow_right (by decide) (by simp))

theorem readSlot_refCount_lt (b : List Byte) : (readSlot b).refCount < 2 ^ 32 := beField_lt b 1 4

/-- A slot of the right form has one of the four states. -/
theorem readSlot_state_le {link : Nat} {b : List Byte} (h : slotFormOk link b = true) : (readSlot b).state ≤ 3 := by
  simp only [slotFormOk, Bool.and_eq_true, decide_eq_true_eq] at h
  exact h.1.1.2

/-! Slots that are acted on (R401): what one of each state does. -/

/-- The state in which GRANTED or PENDING has been taken: the lease begins again (R402). -/
def State.leaseRenewed (s : State) : State := { s with wit := { s.wit with leaseRun := 0 } }

/-- The witness has recorded what a RELEASE asked for: the request is withdrawn (R401). -/
def State.releaseRecorded (s : State) : State := if s.wit.req = 3 then s.setRequest 0 0 else s

theorem State.releaseRecorded_req (s : State) : s.releaseRecorded.wit.req = if s.wit.req = 3 then 0 else s.wit.req := by
  unfold State.releaseRecorded
  split <;> exact Eq.refl _

section Acts

variable (s : State) (r : SlotRead)

theorem State.actOnSlot_granted (h : r.state = 1) : s.actOnSlot r =
    if r.epoch > s.wit.granted ∧ r.own &&& s.wit.own = s.wit.own then
      { s.leaseRenewed with wit := { s.leaseRenewed.wit with grant := some ⟨r.epoch, r.own, 1⟩ } }
    else if r.epoch = s.wit.granted ∧ r.own = s.wit.own then s.leaseRenewed.releaseRecorded
    else if r.epoch = s.wit.granted ∧ (s.wit.req = 3 ∨ s.lcs.mode = .eclipse ∧ s.fld F.WIT.STATUS.FENCE_SRC = 3) ∧
      s.wit.own &&& r.own = s.wit.own then s.leaseRenewed
    else s.leaseRenewed.latch (.epochLoss .witness) := by
  simp only [State.actOnSlot, h]
  rfl

theorem State.actOnSlot_pending (h : r.state = 2) : s.actOnSlot r = s.leaseRenewed := by
  simp only [State.actOnSlot, h]
  rfl

theorem State.actOnSlot_idle (h : r.state = 0) : s.actOnSlot r =
    if s.wit.own ≠ 0 then s.latch (.epochLoss .witness) else s.releaseRecorded := by
  simp only [State.actOnSlot, h]
  rfl

theorem State.actOnSlot_refused (h : r.state = 3) :
    s.actOnSlot r = (s.event Src.WIT 3).latch (.epochLoss .witness) := by
  simp only [State.actOnSlot, h]
  rfl

end Acts

theorem State.releaseRecorded_wit (s : State) : s.releaseRecorded.wit =
    { s.wit with req := s.releaseRecorded.wit.req, mask := s.releaseRecorded.wit.mask } := by
  unfold State.releaseRecorded
  split <;> exact Eq.refl _

theorem State.releaseRecorded_tck (s : State) : s.releaseRecorded.tck = s.tck := by
  unfold State.releaseRecorded
  split <;> exact Eq.refl _

theorem State.releaseRecorded_regs (s : State) : s.releaseRecorded.regs = s.regs := by
  unfold State.releaseRecorded
  split <;> exact Eq.refl _

theorem signals_latch {s t : State} {src bit unit : Nat} (i : Input) (h : Signals s t src bit unit) :
    Signals s (t.latch i) src bit unit := h

/-- Of the registers, acting on a slot changes those of an EVENT bit of WIT alone. -/
theorem State.actOnSlot_reg (s : State) (r : SlotRead) (hs : r.state ≤ 3) (a : Nat) (h : a ∉ eventRegs Src.WIT) :
    (s.actOnSlot r).reg a = s.reg a := by
  obtain h0 | h1 | h2 | h3 : r.state = 0 ∨ r.state = 1 ∨ r.state = 2 ∨ r.state = 3 := by omega
  · rw [State.actOnSlot_idle _ _ h0]
    split
    · exact Eq.refl _
    · exact State.reg_congr (State.releaseRecorded_regs s) a
  · rw [State.actOnSlot_granted _ _ h1]
    split
    · exact Eq.refl _
    split
    · exact State.reg_congr (State.releaseRecorded_regs s.leaseRenewed) a
    split <;> exact Eq.refl _
  · rw [State.actOnSlot_pending _ _ h2]; exact Eq.refl _
  · rw [State.actOnSlot_refused _ _ h3]
    exact State.event_reg _ _ _ _ _ _ _ h

/-- Acting on a slot leaves the links as they are. -/
theorem State.actOnSlot_links (s : State) (r : SlotRead) (hs : r.state ≤ 3) : (s.actOnSlot r).wit.links = s.wit.links := by
  obtain h0 | h1 | h2 | h3 : r.state = 0 ∨ r.state = 1 ∨ r.state = 2 ∨ r.state = 3 := by omega
  · rw [State.actOnSlot_idle _ _ h0]
    split
    · exact Eq.refl _
    · rw [State.releaseRecorded_wit]
  · rw [State.actOnSlot_granted _ _ h1]
    split
    · exact Eq.refl _
    split
    · rw [State.releaseRecorded_wit]; exact Eq.refl _
    split <;> exact Eq.refl _
  · rw [State.actOnSlot_pending _ _ h2]; exact Eq.refl _
  · rw [State.actOnSlot_refused _ _ h3, State.latch_wit, State.event_wit]

theorem State.slotShown_eventReg (s : State) {link : Nat} (r : SlotRead) (q : Int) (hl : link < 2) :
    (s.slotShown link r q).reg (eventAddr Src.WIT) = s.reg (eventAddr Src.WIT) := by
  obtain rfl | rfl : link = 0 ∨ link = 1 := by omega
  all_goals
    rw [State.slotShown]
    simp (disch := decide) only [State.reg_putFlag_other, State.reg_put_other, State.count_reg, State.modifyLink_reg]

/-- What acting on a slot does (R401), state by state, in a state `u` that has shown it and stands for `s` in what it reads. -/
theorem State.actOnSlot_effect {s u : State} {r : SlotRead} (hw : u.wit = { s.wit with links := u.wit.links })
    (ht : u.tck = s.tck) (he : u.evr = s.evr) (hr : u.reg (eventAddr Src.WIT) = s.reg (eventAddr Src.WIT)) :
    let t := u.actOnSlot r
    (r.state = 1 → s.wit.granted < r.epoch → r.own &&& s.wit.own = s.wit.own →
      t.wit.grant = some ⟨r.epoch, r.own, 1⟩ ∧ t.wit.leaseRun = 0 ∧ t.wit.own = s.wit.own ∧ t.tck = s.tck ∧ t.evr = s.evr) ∧
    (r.state = 1 → r.epoch = s.wit.granted → r.own = s.wit.own → t.tck = s.tck ∧ t.wit.leaseRun = 0 ∧
      t.wit.grant = s.wit.grant ∧ t.wit.req = (if s.wit.req = 3 then 0 else s.wit.req)) ∧
    (r.state = 1 → r.epoch = s.wit.granted → s.wit.req = 3 → s.wit.own &&& r.own = s.wit.own → r.own ≠ s.wit.own →
      t.tck = s.tck ∧ t.wit.leaseRun = 0 ∧ t.wit.grant = s.wit.grant ∧ t.wit.req = 3) ∧
    (r.state = 1 → r.own &&& s.wit.own ≠ s.wit.own →
      t.tck = { s.tck with latches := s.tck.latches ++ [.epochLoss .witness] }) ∧
    (r.state = 2 → t.wit.leaseRun = 0 ∧ t.tck = s.tck ∧ t.wit.grant = s.wit.grant) ∧
    (r.state = 0 → s.wit.own ≠ 0 → t.tck = { s.tck with latches := s.tck.latches ++ [.epochLoss .witness] }) ∧
    (r.state = 0 → s.wit.own = 0 → t.tck = s.tck ∧ t.wit.req = (if s.wit.req = 3 then 0 else s.wit.req)) ∧
    (r.state = 3 → t.tck = { s.tck with latches := s.tck.latches ++ [.epochLoss .witness] } ∧ Signals s t Src.WIT 3 0) := by
  have hown : u.wit.own = s.wit.own := by rw [hw]
  have hgranted : u.wit.granted = s.wit.granted := by rw [hw]
  have hreq : u.wit.req = s.wit.req := by rw [hw]
  have hgrant : u.wit.grant = s.wit.grant := by rw [hw]
  refine ⟨fun h1 hep ho => ?_, fun h1 hep ho => ?_, fun h1 hep hq ho hne => ?_, fun h1 ho => ?_, fun h2 => ?_,
    fun h0 ho => ?_, fun h0 ho => ?_, fun h3 => ?_⟩
  · rw [State.actOnSlot_granted _ _ h1, hgranted, hown, if_pos ⟨hep, ho⟩]
    exact ⟨Eq.refl _, Eq.refl _, hown, ht, he⟩
  · rw [State.actOnSlot_granted _ _ h1, hgranted, hown, if_neg (by omega), if_pos ⟨hep, ho⟩,
      State.releaseRecorded_tck, State.releaseRecorded_req, State.releaseRecorded_wit]
    exact ⟨ht, Eq.refl _, hgrant, by rw [← hreq]; exact Eq.refl _⟩
  · rw [State.actOnSlot_granted _ _ h1, hgranted, hown, hreq, if_neg (by omega), if_neg (fun h => hne h.2),
      if_pos ⟨hep, .inl hq, ho⟩]
    exact ⟨ht, Eq.refl _, hgrant, hreq.trans hq⟩
  · have hne : r.own ≠ s.wit.own := fun e => ho (by rw [e, Nat.and_self])
    rw [State.actOnSlot_granted _ _ h1, hgranted, hown, hreq, if_neg (fun h => ho h.2), if_neg (fun h => hne h.2),
      if_neg (fun h => ho (by rw [Nat.and_comm]; exact h.2.2)), ← ht]
    exact Eq.refl _
  · rw [State.actOnSlot_pending _ _ h2]
    exact ⟨Eq.refl _, ht, hgrant⟩
  · rw [State.actOnSlot_idle _ _ h0, hown, if_pos ho, ← ht]
    exact Eq.refl _
  · rw [State.actOnSlot_idle _ _ h0, hown, if_neg (fun h => h ho), State.releaseRecorded_tck, State.releaseRecorded_req, hreq]
    exact ⟨ht, Eq.refl _⟩
  · rw [State.actOnSlot_refused _ _ h3]
    refine ⟨?_, signals_latch _ (State.event_signals u s _ _ _ _ _ (by decide) hr he (by rw [ht]))⟩
    rw [← ht, ← State.event_tck u Src.WIT 3 0 0 0]
    exact Eq.refl _

end Sys2Proof.Machine
end

section
/-!
What each row of the witness does, and the rows by which sides are asked for (R396 to R402).
-/

namespace Sys2Proof.Machine

section Slots

variable {s : State} {link : Nat} {w : WitnessSlot} (hl : link < 2) (hh : s.witnessHeard = true)
  (hn : s.wit.links.length = 2)
include hl hh hn

theorem witnessSlot_notIntact (hi : (w.aligned && slotIntact w.bytes) = false) : Runs (.witnessSlot link w) s fun t =>
    t.wit.link link = { s.wit.link link with good := 0 } ∧ t.wit.link (1 - link) = s.wit.link (1 - link) ∧
    t.fld (F.WIT.STAT.COUNT.nth 1) = (s.fld (F.WIT.STAT.COUNT.nth 1) + 1) % 2 ^ 64 ∧
    t.fld (F.WIT.LINK_ERR.CRC.nth link) = min (s.fld (F.WIT.LINK_ERR.CRC.nth link) + 1) (2 ^ 32 - 1) ∧
    SameRegs [(F.WIT.STAT.COUNT.nth 1).addr, (F.WIT.LINK_ERR.CRC.nth link).addr] s t ∧
    t = { s with wit := { s.wit with links := t.wit.links }, regs := t.regs } := by
  have hne := witRegs_ne link hl
  have hu : ((s.slotRefused link).saturate (F.WIT.LINK_ERR.CRC.nth link)).unrecorded =
      (s.modifyLink link (fun l => { l with good := 0 })).unrecorded := by
    rw [State.saturate_unrecorded, State.slotRefused_unrecorded]
  have he : ((s.slotRefused link).saturate (F.WIT.LINK_ERR.CRC.nth link)).evr = s.evr := by
    rw [State.saturate_evr, State.slotRefused_evr]
  obtain ⟨h1, h2, h3⟩ := State.modifyLink_frame_of_evr hl hn hu he
  refine ⟨_, execWitnessSlot_notIntact hl hh hi, h1, h2, ?_, ?_, fun a ha => ?_, h3⟩
  · rw [State.fld_eq_of_reg (State.reg_saturate_other _ _ _ _ hne.symm), State.slotRefused_counted]
  · rw [State.fld_saturate_same _ _ _ 32 (Fld.nth_ok (by decide)) (by rfl), State.fld_eq_of_reg (State.slotRefused_reg _ _ _ hne)]
  · simp only [List.mem_cons, List.not_mem_nil, or_false, not_or] at ha
    rw [State.reg_saturate_other _ _ _ _ ha.2, State.slotRefused_reg _ _ _ ha.1]

theorem witnessSlot_badForm (hi : (w.aligned && slotIntact w.bytes) = true) (hf : slotFormOk link w.bytes = false) :
    Runs (.witnessSlot link w) s fun t =>
    t.wit.link link = { s.wit.link link with good := 0 } ∧ t.wit.link (1 - link) = s.wit.link (1 - link) ∧
    t.fld (F.WIT.STAT.COUNT.nth 1) = (s.fld (F.WIT.STAT.COUNT.nth 1) + 1) % 2 ^ 64 ∧
    SameRegs [(F.WIT.STAT.COUNT.nth 1).addr] s t ∧
    t = { s with wit := { s.wit with links := t.wit.links }, regs := t.regs } := by
  obtain ⟨h1, h2, h3⟩ :=
    State.modifyLink_frame_of_evr hl hn (State.slotRefused_unrecorded s link) (State.slotRefused_evr s link)
  exact ⟨_, execWitnessSlot_badForm hl hh hi hf, h1, h2, State.slotRefused_counted s link,
    fun a ha => State.slotRefused_reg _ _ _ (by simpa using ha), h3⟩

theorem witnessSlot_otherArray (hi : (w.aligned && slotIntact w.bytes) = true) (hf : slotFormOk link w.bytes = true)
    (ht : (readSlot w.bytes).tag ≠ s.fld F.WIT.CONFIG.ARRAY_TAG) : Runs (.witnessSlot link w) s fun t =>
    t.wit.link link = { s.wit.link link with good := 0 } ∧ Signals s t Src.WIT 7 link ∧
    SameRegs ((F.WIT.STAT.COUNT.nth 1).addr :: eventRegs Src.WIT) s t ∧
    t = { s with wit := { s.wit with links := t.wit.links }, regs := t.regs, evr := t.evr } := by
  have hu : ((s.slotRefused link).event Src.WIT 7 link (readSlot w.bytes).tag).unrecorded =
      (s.modifyLink link (fun l => { l with good := 0 })).unrecorded := by
    rw [State.event_unrecorded, State.slotRefused_unrecorded]
  obtain ⟨h1, -, h3⟩ := State.modifyLink_frame hl hn hu
  refine ⟨_, execWitnessSlot_otherArray hl hh hi hf ht, h1, ?_, fun a ha => ?_, h3⟩
  · exact State.event_signals _ s _ _ _ _ _ (by decide) (State.slotRefused_reg _ _ _ (by decide)) (State.slotRefused_evr _ _)
      (by rw [State.tck_of_unrecorded (State.slotRefused_unrecorded s link)]; exact Eq.refl _)
  · simp only [List.mem_cons, not_or] at ha
    rw [State.event_reg _ _ _ _ _ _ _ (by simpa using ha.2), State.slotRefused_reg _ _ _ ha.1]

theorem witnessSlot_valid (hi : (w.aligned && slotIntact w.bytes) = true) (hf : slotFormOk link w.bytes = true)
    (htag : (readSlot w.bytes).tag = s.fld F.WIT.CONFIG.ARRAY_TAG) : Runs (.witnessSlot link w) s fun t =>
    let r := readSlot w.bytes
    t.wit.link link = { s.wit.link link with good := (s.wit.link link).good + 1, idle := 0 } ∧
    t.wit.link (1 - link) = s.wit.link (1 - link) ∧ t.fld (F.WIT.LINK_STATUS.REF_COUNT.nth link) = r.refCount ∧
    t.fld (F.WIT.LINK_PHASE.PHASE.nth link) = unsignedOf 32 ((r.p - w.q) / 2) ∧
    t.fld (F.WIT.LINK_PHASE.DELAY.nth link) = unsignedOf 32 ((r.p + w.q) / 2) ∧
    t.fld F.WIT.STATUS.STATE = r.state ∧ t.flag F.WIT.STATUS.PEER_HEARD = r.peerHeard ∧
    ((s.wit.link link).valid = false → t.wit = { s.wit with links := t.wit.links } ∧
      t = { s with wit := t.wit, regs := t.regs }) ∧
    ((s.wit.link link).valid = true →
      (r.state = 1 → s.wit.granted < r.epoch → r.own &&& s.wit.own = s.wit.own →
        t.wit.grant = some ⟨r.epoch, r.own, 1⟩ ∧ t.wit.leaseRun = 0 ∧ t.wit.own = s.wit.own ∧ t.tck = s.tck ∧ t.evr = s.evr) ∧
      (r.state = 1 → r.epoch = s.wit.granted → r.own = s.wit.own → t.tck = s.tck ∧ t.wit.leaseRun = 0 ∧
        t.wit.grant = s.wit.grant ∧ t.wit.req = (if s.wit.req = 3 then 0 else s.wit.req)) ∧
      (r.state = 1 → r.epoch = s.wit.granted → s.wit.req = 3 → s.wit.own &&& r.own = s.wit.own → r.own ≠ s.wit.own →
        t.tck = s.tck ∧ t.wit.leaseRun = 0 ∧ t.wit.grant = s.wit.grant ∧ t.wit.req = 3) ∧
      (r.state = 1 → r.own &&& s.wit.own ≠ s.wit.own →
        t.tck = { s.tck with latches := s.tck.latches ++ [.epochLoss .witness] }) ∧
      (r.state = 2 → t.wit.leaseRun = 0 ∧ t.tck = s.tck ∧ t.wit.grant = s.wit.grant) ∧
      (r.state = 0 → s.wit.own ≠ 0 → t.tck = { s.tck with latches := s.tck.latches ++ [.epochLoss .witness] }) ∧
      (r.state = 0 → s.wit.own = 0 → t.tck = s.tck ∧ t.wit.req = (if s.wit.req = 3 then 0 else s.wit.req)) ∧
      (r.state = 3 → t.tck = { s.tck with latches := s.tck.latches ++ [.epochLoss .witness] } ∧ Signals s t Src.WIT 3 0)) := by
  have hc := readSlot_refCount_lt w.bytes
  have hs := readSlot_state_le hf
  have hu := State.slotShown_unrecorded s link (readSlot w.bytes) w.q
  have he := State.slotShown_evr s link (readSlot w.bytes) w.q
  obtain ⟨hsame, hother, hframe⟩ := State.modifyLink_frame_of_evr hl hn hu he
  have hwit : (s.slotShown link (readSlot w.bytes) w.q).wit =
      { s.wit with links := (s.slotShown link (readSlot w.bytes) w.q).wit.links } := by
    rw [State.wit_of_unrecorded hu]; exact Eq.refl _
  have hrun := execWitnessSlot_valid hl hh hi hf htag
  cases hv : (s.wit.link link).valid with
  | false =>
    rw [hv, if_neg (by decide)] at hrun
    obtain ⟨f1, f2, f3, f4, f5⟩ := State.slotShown_fields hl (fun _ _ => Eq.refl _) hc (by omega)
    exact ⟨_, hrun, hsame, hother, f1, f2, f3, f4, f5, fun _ => ⟨hwit, by rw [hwit]; exact hframe⟩, fun h => nomatch h⟩
  | true =>
    rw [hv, if_pos rfl] at hrun
    have hlinks := State.actOnSlot_links (s.slotShown link (readSlot w.bytes) w.q) _ hs
    obtain ⟨f1, f2, f3, f4, f5⟩ := State.slotShown_fields hl (State.actOnSlot_reg _ _ hs) hc (by omega)
    refine ⟨_, hrun, ?_, ?_, f1, f2, f3, f4, f5, fun h => (nomatch h), fun _ => ?_⟩
    · rw [Wit.link, hlinks]; exact hsame
    · rw [Wit.link, hlinks]; exact hother
    · have htck := (State.tck_of_unrecorded hu).trans (Eq.refl s.tck)
      exact State.actOnSlot_effect hwit htck he (State.slotShown_eventReg s _ _ hl)

end Slots

/-! Epoch losses, links and the lease. -/

theorem epochLoss_rows (s : State) (module : Bool) :
    (s.witnessHeard = true → exec (.epochLoss module) s = .next { s with tck := { s.tck with
      latches := s.tck.latches ++ [.epochLoss (if module then .module else .witness)] } }) ∧
    (s.witnessHeard = false → exec (.epochLoss module) s = .next s) := by
  refine ⟨fun h => ?_, fun h => ?_⟩ <;> show execEpochLoss module s = _ <;> rw [execEpochLoss, h]
  · exact Eq.refl _
  · exact Eq.refl _

/-- A change of a link told by an EVENT bit of WIT: what the rows UMBRA_LINK_VALID and UMBRA_LINK_MISSING share. -/
theorem State.modifyLink_event {s : State} {link bit : Nat} {f : UmbraLink → UmbraLink} (hl : link < 2)
    (hn : s.wit.links.length = 2) :
    let t := (s.modifyLink link f).event Src.WIT bit link
    t.wit.link link = f (s.wit.link link) ∧ t.wit.link (1 - link) = s.wit.link (1 - link) ∧
      Signals s t Src.WIT bit link ∧ SameRegs (eventRegs Src.WIT) s t ∧
      t = { s with wit := { s.wit with links := t.wit.links }, regs := t.regs, evr := t.evr } := by
  obtain ⟨h1, h2, h3⟩ := State.modifyLink_frame hl hn (State.event_unrecorded (s.modifyLink link f) Src.WIT bit link 0 0)
  exact ⟨h1, h2, State.event_signals _ s _ _ _ _ _ (by decide) (Eq.refl _) (Eq.refl _) (Eq.refl _),
    fun a ha => State.event_reg _ _ _ _ _ _ _ ha, h3⟩

theorem umbraLink_rows (s : State) (link : Nat) (hl : link < 2) (hn : s.wit.links.length = 2) :
    ((s.wit.link link).valid = false → 16 ≤ (s.wit.link link).good → Runs (.umbraLinkValid link) s fun t =>
      t.wit.link link = { s.wit.link link with valid := true } ∧ t.wit.link (1 - link) = s.wit.link (1 - link) ∧
      Signals s t Src.WIT 0 link ∧ SameRegs (eventRegs Src.WIT) s t ∧
      t = { s with wit := { s.wit with links := t.wit.links }, regs := t.regs, evr := t.evr }) ∧
    ((s.wit.link link).good < 16 → exec (.umbraLinkValid link) s = .next s) ∧
    ((s.wit.link link).valid = true → 10000 ≤ (s.wit.link link).idle → Runs (.umbraLinkMissing link) s fun t =>
      t.wit.link link = { s.wit.link link with valid := false, good := 0 } ∧
      t.wit.link (1 - link) = s.wit.link (1 - link) ∧ Signals s t Src.WIT 1 link ∧ SameRegs (eventRegs Src.WIT) s t ∧
      t = { s with wit := { s.wit with links := t.wit.links }, regs := t.regs, evr := t.evr }) ∧
    ((s.wit.link link).idle < 10000 → exec (.umbraLinkMissing link) s = .next s) := by
  refine ⟨fun hv hg => ⟨_, ?_, State.modifyLink_event (f := fun l => { l with valid := true }) hl hn⟩, fun hg => ?_,
    fun hv hi => ⟨_, ?_, State.modifyLink_event (f := fun l => { l with valid := false, good := 0 }) hl hn⟩, fun hi => ?_⟩
  · show execUmbraLinkValid link s = _
    rw [execUmbraLinkValid, if_pos ⟨hl, by rw [hv]; rfl, hg⟩]
  · show execUmbraLinkValid link s = _
    rw [execUmbraLinkValid, if_neg (fun h => absurd h.2.2 (by omega))]
  · show execUmbraLinkMissing link s = _
    rw [execUmbraLinkMissing, if_pos ⟨hl, hv, hi⟩]
  · show execUmbraLinkMissing link s = _
    rw [execUmbraLinkMissing, if_neg (fun h => absurd h.2.2 (by omega))]

/-- A head that transmits may send a head slot (R462, R467). -/
theorem State.maySendOut_headSlot {s : State} (h : s.transmits = true) (m : Bool) (b : List Byte) :
    s.maySendOut (.headSlot m b) = true := by
  unfold State.transmits at h
  unfold State.maySendOut
  split
  · next hm => simp [hm] at h
  · next hm => simpa [hm, Out.link] using h
  · exact Eq.refl _

theorem State.send_of_maySendOut {s : State} {o : Out} (h : s.maySendOut o = true) :
    s.send o = { s with out := s.out ++ [o] } := if_pos h

theorem umbraMidwaySlot_rows (s : State) :
    (s.tickNs = 4000 → s.transmits = true → exec .umbraMidwaySlot s = .next { s with
      out := s.out ++ [.headSlot true (s.headSlotBytes 0), .headSlot true (s.headSlotBytes 1)] }) ∧
    (s.tickNs ≠ 4000 → exec .umbraMidwaySlot s = .next s) := by
  refine ⟨fun hn ht => ?_, fun hn => ?_⟩ <;> show execUmbraMidwaySlot s = _ <;> rw [execUmbraMidwaySlot]
  · have h2 : ∀ l, ({ s with out := l } : State).transmits = true := fun _ => ht
    rw [if_pos ⟨hn, ht⟩, State.sendSlots, State.send_of_maySendOut (State.maySendOut_headSlot ht _ _),
      State.send_of_maySendOut (State.maySendOut_headSlot (h2 _) _ _), List.append_assoc]
    exact Eq.refl _
  · rw [if_neg (fun h => hn h.1)]

/-- An input latched after registers and the recorder have changed. -/
theorem State.latch_frame {s u : State} (i : Input) (h : u.unrecorded = s.unrecorded) :
    u.latch i = { s with tck := (u.latch i).tck, regs := (u.latch i).regs, evr := (u.latch i).evr } := by
  have e : (u.latch i).tck = (s.latch i).tck := by unfold State.latch; rw [State.tck_of_unrecorded h]
  rw [e]
  exact congrArg (fun v : State => { v.latch i with regs := u.regs, evr := u.evr }) h

theorem leaseExpired_rows (s : State) (ho : s.wit.own ≠ 0) (hlost : s.rfl.lost = true) (hf : s.lcs.mode.fences = true) :
    (s.fld F.WIT.CONFIG.LEASE * 2000 ≤ s.wit.leaseRun → Runs .leaseExpired s fun t =>
      t.tck = { s.tck with latches := s.tck.latches ++ [.epochLoss .lease] } ∧ Signals s t Src.WIT 5 0 ∧
      t.fld (F.WIT.STAT.COUNT.nth 4) = (s.fld (F.WIT.STAT.COUNT.nth 4) + 1) % 2 ^ 64 ∧
      SameRegs ((F.WIT.STAT.COUNT.nth 4).addr :: eventRegs Src.WIT) s t ∧
      t = { s with tck := t.tck, regs := t.regs, evr := t.evr }) ∧
    (s.wit.leaseRun < s.fld F.WIT.CONFIG.LEASE * 2000 → exec .leaseExpired s = .next s) := by
  refine ⟨fun h => ?_, fun h => ?_⟩
  · refine ⟨((s.event Src.WIT 5).count F.WIT.STAT.COUNT 4).latch (.epochLoss .lease), ?_, ?_, ?_, ?_, fun a ha => ?_, ?_⟩
    · show execLeaseExpired s = _
      rw [execLeaseExpired, if_pos ⟨ho, hlost, hf, h⟩]
    · rw [State.latch, State.count_tck, State.event_tck]
    · have hs := State.event_signals s s Src.WIT 5 0 0 0 (by decide) (Eq.refl _) (Eq.refl _) (Eq.refl _)
      refine signals_latch _ ⟨?_, ?_⟩
      · rw [State.count_reg _ _ _ _ _ (by decide)]; exact hs.1
      · rw [HasRecord, State.count_evr]; exact hs.2
    · rw [State.fld_congr (State.latch_regs _ _), State.fld_count_same _ _ _ _ 64 (by decide) (by rfl),
        State.fld_eq_of_reg (State.event_reg s _ _ _ _ _ _ (by decide))]
    · simp only [List.mem_cons, not_or] at ha
      rw [State.reg_congr (State.latch_regs _ _), State.count_reg _ _ _ _ _ ha.1, State.event_reg _ _ _ _ _ _ _ (by simpa using ha.2)]
    · have hu : ((s.event Src.WIT 5).count F.WIT.STAT.COUNT 4).unrecorded = s.unrecorded := by
        rw [State.count_unrecorded, State.event_unrecorded]
      exact State.latch_frame _ hu
  · show execLeaseExpired s = _
    rw [execLeaseExpired, if_neg (fun hc => absurd hc.2.2.2 (by omega))]

/-! A side that no head holds (R400). -/

/-- A side that the head does not hold, asked for alone, is the whole of what it asks for. -/
theorem State.notOwn_two_pow {s : State} {side : Nat} (hs : side < 2) (ho : s.wit.own.testBit side = false) :
    s.notOwn (2 ^ side) = 2 ^ side := by
  unfold State.notOwn
  obtain rfl | rfl : side = 0 ∨ side = 1 := by omega
  · have h : s.wit.own % 2 = 0 := by simpa [Nat.testBit_zero] using ho
    obtain e | e : s.wit.own % 4 = 0 ∨ s.wit.own % 4 = 2 := by omega
    all_goals rw [e]; decide
  · have h : s.wit.own / 2 % 2 = 0 := by simpa [Nat.testBit_succ, Nat.testBit_zero] using ho
    obtain e | e : s.wit.own % 4 = 0 ∨ s.wit.own % 4 = 1 := by omega
    all_goals rw [e]; decide

theorem unheldSideClaim_rows (s : State) (side since : Nat) (hu : s.rfl.unheld = some since) (hs : side < 2)
    (ho : s.wit.own.testBit side = false) :
    (since + s.ticksIn 10000000 ≤ s.now → s.mayClaim = true → s.wit.req ≠ 1 → exec (.unheldSideClaim side) s = .next
      { s with wit := { s.wit with req := 2, mask := if s.wit.req = 2 then s.wit.mask ||| 2 ^ side else 2 ^ side } }) ∧
    (s.now < since + s.ticksIn 10000000 → exec (.unheldSideClaim side) s = .next s) := by
  have hpos : 2 ^ side ≠ 0 := by positivity
  refine ⟨fun hd hc hr => ?_, fun hd => ?_⟩ <;> show execUnheldSideClaim side s = _ <;>
    simp only [execUnheldSideClaim, hu]
  · have hm : (if s.wit.req = 2 then s.wit.mask ||| 2 ^ side else 2 ^ side) ≠ 0 := by
      split
      · exact fun h => hpos (Nat.or_eq_zero_iff.mp h).2
      · exact hpos
    rw [if_pos ⟨hs, by rw [ho]; rfl, hd⟩, State.claim, State.notOwn_two_pow hs ho, hc,
      if_neg (by simp [hr]), State.setRequest, if_neg hm, if_neg (by decide)]
  · rw [if_neg (fun h => absurd h.2.2 (by omega))]

end Sys2Proof.Machine
end

section
/-!
What the work of flash leaves alone: the tables of FTL and RDN, the Frond ports and the path of reduced data stand apart from
memory, modes, keys, witness and peer. A mask says it once, and each function of that work keeps what is behind it.
-/

namespace Sys2Proof.Machine

/-- The state with everything masked that the work of flash may change. -/
def State.besidesFlash (s : State) : State := { s with
  ftl := Ftl.cold, rdn := Rdn.cold, other := none, frn := Frn.cold, rdx := Rdx.cold, cmf := Cmf.cold, pcr := Pcr.cold,
  bay := Bay.cold, evr := Evr.cold, regs := [], out := [] }

/-- Two states agree in everything that the work of flash leaves alone. -/
def FlashOnly (s t : State) : Prop := t.besidesFlash = s.besidesFlash

namespace FlashOnly

theorem refl (s : State) : FlashOnly s s := Eq.refl _

theorem trans {s t u : State} (h : FlashOnly s t) (h' : FlashOnly t u) : FlashOnly s u := Eq.trans h' h

theorem mem {s t : State} (h : FlashOnly s t) : t.mem = s.mem := by
  have e := congrArg State.mem h
  exact e
theorem lcs {s t : State} (h : FlashOnly s t) : t.lcs = s.lcs := by
  have e := congrArg State.lcs h
  exact e
theorem peer {s t : State} (h : FlashOnly s t) : t.rfl = s.rfl := by
  have e := congrArg State.rfl h
  exact e
theorem wit {s t : State} (h : FlashOnly s t) : t.wit = s.wit := by
  have e := congrArg State.wit h
  exact e
theorem tck {s t : State} (h : FlashOnly s t) : t.tck = s.tck := by
  have e := congrArg State.tck h
  exact e

/-- Registers and the recorder stand behind the mask. -/
theorem of_unrecorded {s t : State} (h : t.unrecorded = s.unrecorded) : FlashOnly s t := by
  have e := congrArg State.besidesFlash h
  exact e

theorem ftl (s : State) (f : Ftl) : FlashOnly s { s with ftl := f } := Eq.refl _
theorem ftlRdn (s : State) (f : Ftl) (r : Rdn) : FlashOnly s { s with ftl := f, rdn := r } := Eq.refl _
theorem rdn (s : State) (r : Rdn) : FlashOnly s { s with rdn := r } := Eq.refl _
theorem frn (s : State) (f : Frn) : FlashOnly s { s with frn := f } := Eq.refl _

/-- Steps one after another over a list. -/
theorem foldl {α : Type} {f : State → α → State} (h : ∀ u x, FlashOnly u (f u x)) (l : List α) (s : State) :
    FlashOnly s (l.foldl f s) := by
  induction l generalizing s with
  | nil => exact refl s
  | cons x l ih => exact (h s x).trans (ih _)

theorem swapSides (s : State) : FlashOnly s s.swapSides := by
  unfold State.swapSides
  split <;> exact Eq.refl _

/-- Work of one side. -/
theorem onSide {f : State → State} (h : ∀ u, FlashOnly u (f u)) (s : State) (k : Nat) : FlashOnly s (s.onSide k f) := by
  unfold State.onSide
  split
  · exact h s
  · split
    · split
      · exact ((swapSides s).trans (h _)).trans (swapSides _)
      · exact h s
    · exact h s

section Registers

variable (s : State)

theorem put (f : Fld) (v : Nat) : FlashOnly s (s.put f v) := of_unrecorded (State.put_unrecorded ..)
theorem count (f : Fld) (n k : Nat) : FlashOnly s (s.count f n k) := of_unrecorded (State.count_unrecorded ..)
theorem saturate (f : Fld) (k : Nat) : FlashOnly s (s.saturate f k) := of_unrecorded (State.saturate_unrecorded ..)
theorem event (n b u x y : Nat) : FlashOnly s (s.event n b u x y) := of_unrecorded (State.event_unrecorded ..)
theorem record (n v c u x y : Nat) : FlashOnly s (s.record n v c u x y) := of_unrecorded (State.record_unrecorded ..)

end Registers

/-! The tables of FTL (R155 to R175). -/

section Tables

variable (s : State)

theorem setTables (t : FtlTables) : FlashOnly s (s.setTables t) := Eq.refl _

theorem modifyChunk (c : Nat) (f : ChunkEntry → ChunkEntry) : FlashOnly s (s.modifyChunk c f) := Eq.refl _

theorem hotModify (a : Nat) (f : HotEntry → HotEntry) : FlashOnly s (s.hotModify a f) := Eq.refl _

theorem hotRemove (a : Nat) : FlashOnly s (s.hotRemove a) := Eq.refl _

theorem modifyStripe (id : Nat) (f : Stripe → Stripe) : FlashOnly s (s.modifyStripe id f) := Eq.refl _

theorem formSj (id : Nat) (b : SjBody) : FlashOnly s (s.formSj id b) := Eq.refl _

theorem formRecord (items : List JItem) (c : Option Nat) (p : Bool) : FlashOnly s (s.formRecord items c p) :=
  (ftl s _).trans (count _ _ _ _)

theorem beginCkpt : FlashOnly s s.beginCkpt := by
  unfold State.beginCkpt
  split <;> exact Eq.refl _

theorem markPerm (a : Nat) : FlashOnly s (s.markPerm a) :=
  (((hotModify s a _).trans (onSide (fun u => ftl u _) _ _)).trans (count _ _ _ _)).trans (event _ _ _ _ _ _)

theorem unnameAlias (c : Nat) : FlashOnly s (s.unnameAlias c) := by
  unfold State.unnameAlias
  split
  · exact refl s
  · split
    · exact refl s
    · split <;> exact Eq.refl _

theorem retireEntry (n g c i : Nat) : FlashOnly s (s.retireEntry n g c i) := by
  unfold State.retireEntry
  split
  · exact refl s
  · dsimp only
    split
    · exact setTables s _
    · split
      · exact ((setTables s _).trans (ftl _ _)).trans (unnameAlias _ _)
      · exact setTables s _

theorem deadSpace (p n : Nat) : FlashOnly s (s.deadSpace p n) := by
  unfold State.deadSpace
  split <;> exact Eq.refl _

theorem deadChunk (c : ChunkEntry) : FlashOnly s (s.deadChunk c) := by
  unfold State.deadChunk
  split
  · exact (deadSpace _ _ _).trans (deadSpace _ _ _)
  · split
    · exact deadSpace _ _ _
    · exact refl s

theorem dropMove (c : Nat) : FlashOnly s (s.dropMove c) := by
  unfold State.dropMove
  split
  · exact refl s
  · dsimp only
    split
    · exact (ftl s _).trans (foldl (fun u p => deadSpace u p _) _ _)
    · split
      · exact (ftl s _).trans (foldl (fun u p => deadSpace u p _) _ _)
      · exact ftl s _

theorem addRef (c n : Nat) : FlashOnly s (s.addRef c n) := by
  unfold State.addRef
  split
  · exact refl s
  · split
    · exact refl s
    · split
      · exact markPerm s c
      · exact modifyChunk s _ _

theorem dropRef (c n : Nat) : FlashOnly s (s.dropRef c n) := by
  unfold State.dropRef
  dsimp only
  split
  · exact refl s
  · split
    · exact refl s
    · split
      · exact (((deadChunk s _).trans (dropMove _ _)).trans (setTables _ _)).trans (hotRemove _ _)
      · exact modifyChunk s _ _

theorem rewriteAliases (p : Nat) : FlashOnly s (s.rewriteAliases p) :=
  foldl (fun u _ => (setTables u _).trans (unnameAlias _ _)) _ _

theorem applyUnit (k i st : Nat) : FlashOnly s (s.applyUnit k i st) := by
  unfold State.applyUnit
  split <;> exact ftl s _

theorem liveBulk (p n : Nat) : FlashOnly s (s.liveBulk p n) := ftl s _

theorem requestEvac (n : Nat) : FlashOnly s (s.requestEvac n) := by
  unfold State.requestEvac
  split
  · exact refl s
  · exact rdn s _

theorem reserveCheck (n : Nat) : FlashOnly s (s.reserveCheck n) := by
  unfold State.reserveCheck
  split
  · exact refl s
  · refine foldl (fun u m => ?_) _ _
    dsimp only
    split
    · have h1 := put u (F.FTL.MOD_WEAR0.STATE.nth n) (u.fld (F.FTL.MOD_WEAR0.STATE.nth n) + 2 ^ m.2.1)
      split <;> split
      · exact h1.trans (requestEvac _ _)
      · exact h1
      · exact (h1.trans (event _ _ _ _ _ _)).trans (requestEvac _ _)
      · exact h1.trans (event _ _ _ _ _ _)
    · exact refl u

theorem applyItem (c n : Nat) (i : JItem) : FlashOnly s (s.applyItem c n i) := by
  cases i with
  | map nsid g e =>
    simp only [State.applyItem]
    split
    · exact ((retireEntry s _ _ _ _).trans (setTables _ _)).trans (addRef _ _ _)
    · exact (retireEntry s _ _ _ _).trans (setTables _ _)
  | chunkNew => exact setTables s _
  | reloc chunk keyId units loc0 state loc1 =>
    simp only [State.applyItem]
    have h1 := (modifyChunk s chunk (fun c => { c with
      keyId := keyId, units := units, loc0 := loc0, state := state, loc1 := loc1 })).trans
      (hotModify _ chunk (fun h => { h with keyId := keyId }))
    split
    · exact refl s
    · split
      · exact h1.trans (liveBulk _ _ _)
      · exact h1
  | alias_ chunk target count =>
    simp only [State.applyItem]
    split
    · exact refl s
    · have h1 := fun c f => ((deadChunk s c).trans (modifyChunk _ chunk f))
      split
      · exact (((((h1 _ _).trans (ftl _ _)).trans (setTables _ _)).trans (addRef _ _ _))).trans
          (foldl (fun u p => rewriteAliases u p) _ _)
      · exact ((((h1 _ _).trans (ftl _ _)).trans (addRef _ _ _))).trans (foldl (fun u p => rewriteAliases u p) _ _)
  | deref => exact dropRef s _ _
  | keyres => exact ftl s _
  | snap => exact refl s
  | dealloc => exact foldl (fun u g => retireEntry u _ g _ _) _ _
  | unit => exact applyUnit s _ _ _
  | retire module die block cause =>
    simp only [State.applyItem]
    split
    · exact refl s
    · exact ((ftl s _).trans (saturate _ _ _)).trans (reserveCheck _ _)
  | pageWb => exact refl s
  | ckpt => exact refl s
  | rsv => exact event s _ _ _ _ _

theorem touchPage (j id : Nat) : FlashOnly s (s.touchPage j id) := ftl s _

theorem applyTouching (j : Nat) (items : List JItem) (f : State → State) (h : FlashOnly s (f s)) :
    FlashOnly s (s.applyTouching j items f) :=
  h.trans (foldl (fun u id => touchPage u j id) _ _)

theorem setBlockState (k st : Nat) : FlashOnly s (s.setBlockState k st) := by
  unfold State.setBlockState
  split
  · exact refl s
  · exact (ftl s _).trans (formRecord _ _ _ _)

theorem closeStripe (id st : Nat) : FlashOnly s (s.closeStripe id st) := by
  unfold State.closeStripe
  split
  · exact refl s
  · exact (((modifyStripe s _ _).trans (formRecord _ _ _ _)).trans (formSj _ _ _)).trans (ftlRdn _ _ _)

theorem commitMember (id m : Nat) : FlashOnly s (s.commitMember id m) := modifyStripe s _ _

end Tables

/-! Replay (R162, R171, R175, R217, R221). -/

section Replay

variable (s : State)

theorem replaySnap (n m op : Nat) : FlashOnly s (s.replaySnap n m op) := (setTables s _).trans (ftl _ _)

theorem replayRetire (n g j i : Nat) : FlashOnly s (s.replayRetire n g j i) := by
  unfold State.replayRetire
  split
  · exact (retireEntry s _ _ _ _).trans (setTables _ _)
  · exact refl s

theorem replayItem (j n : Nat) (i : JItem) : FlashOnly s (s.replayItem j n i) := by
  cases i with
  | map nsid g e =>
    simp only [State.replayItem]
    have h1 := replayRetire s nsid g j n
    split <;> split
    · exact (h1.trans (setTables _ _)).trans (addRef _ _ _)
    · exact h1.trans (addRef _ _ _)
    · exact h1.trans (setTables _ _)
    · exact h1
  | chunkNew =>
    simp only [State.replayItem]
    split
    · exact applyItem s _ _ _
    · exact refl s
  | reloc =>
    simp only [State.replayItem]
    split
    · exact applyItem s _ _ _
    · exact refl s
  | alias_ chunk target count =>
    simp only [State.replayItem]
    have h1 := fun f => ftl s f
    split <;> split
    · exact ((h1 _).trans (modifyChunk _ _ _)).trans (addRef _ _ _)
    · exact (h1 _).trans (addRef _ _ _)
    · exact (h1 _).trans (modifyChunk _ _ _)
    · exact h1 _
  | deref chunk cause m count =>
    simp only [State.replayItem]
    split <;> split
    · exact (ftl s _).trans (dropRef _ _ _)
    · exact dropRef s _ _
    · exact ftl s _
    · exact refl s
  | snap => exact replaySnap s _ _ _
  | dealloc => exact foldl (fun u g => replayRetire u _ g _ _) _ _
  | keyres => exact applyItem s _ _ _
  | unit kind id st =>
    cases kind with
    | zero => exact refl s
    | succ k => exact applyItem s _ _ _
  | retire => exact applyItem s _ _ _
  | pageWb => exact applyItem s _ _ _
  | ckpt => exact applyItem s _ _ _
  | rsv => exact refl s

theorem replayItems (j n : Nat) (l : List JItem) : FlashOnly s (s.replayItems j n l) := by
  induction l generalizing s n with
  | nil => exact refl s
  | cons i l ih => exact (replayItem s _ _ _).trans (ih _ _)

theorem replayRecord (r : ReadRec) : FlashOnly s (s.replayRecord r) := applyTouching s _ _ _ (replayItems s _ _ _)

theorem secondCopy (x : RecoveryRead) (c n : Nat) (l : List Nat × List Nat) : FlashOnly s (s.secondCopy x c n l) := by
  unfold State.secondCopy
  split
  · split
    · exact ftl s _
    · exact refl s
  · exact refl s

theorem secondCopies (x : RecoveryRead) (items : List JItem) (b : State) : FlashOnly s (s.secondCopies x items b) :=
  foldl (fun u i => by
    split
    · exact secondCopy u _ _ _ _
    · exact secondCopy u _ _ _ _
    · exact refl u) _ _

theorem applyTail (x : RecoveryRead) (l : List ReadRec) : FlashOnly s (s.applyTail x l).1 := by
  induction l generalizing s with
  | nil => exact refl s
  | cons r l ih =>
    unfold State.applyTail
    split
    · exact ((replayRecord s r).trans (secondCopies _ _ _ _)).trans (ih _)
    · exact refl s

theorem takePage (p w : Nat) (q : Nat × Nat × List Byte) : FlashOnly s (s.takePage p w q) := ftl s _

theorem stripePages : FlashOnly s s.stripePages := ftl s _

theorem readPages (x : RecoveryRead) (l : List (Nat × Nat)) (n : Nat) : FlashOnly s (s.readPages x l n) := by
  induction n generalizing s with
  | zero => exact refl s
  | succ n ih =>
    have h1 : FlashOnly s (l.foldl (fun (u : State) p => match u.metaAt x p.1 with
        | some q => u.takePage p.1 p.2 q
        | none => u) s).stripePages := (foldl (fun u p => by
      split
      · exact takePage u _ _ _
      · exact refl u) _ _).trans (stripePages _)
    unfold State.readPages
    dsimp only
    split
    · exact h1
    · exact h1.trans (ih _)

theorem applySj (r : ReadSj) : FlashOnly s (s.applySj r) := by
  unfold State.applySj
  dsimp only
  split
  · split
    · exact ftl s _
    · exact refl s
  · exact modifyStripe s _ _
  · exact modifyStripe s _ _
  · exact modifyStripe s _ _
  · split
    · exact modifyStripe s _ _
    · exact modifyStripe s _ _
    · split
      · exact (commitMember s _ _).trans (rdn _ _)
      · exact commitMember s _ _
    · exact modifyStripe s _ _
  · exact (modifyStripe s _ _).trans (rdn _ _)
  · exact rdn s _
  · exact modifyStripe s _ _

theorem loadTables (x : RecoveryRead) (q : Source) (run : List ReadRec) (ck : Nat × Nat × Nat) :
    FlashOnly s (s.loadTables x q run ck) := by
  unfold State.loadTables
  dsimp only
  refine trans ?_ (setTables _ _)
  refine trans ?_ (readPages _ _ _ _)
  refine trans ?_ (foldl applySj _ _)
  exact Eq.refl _

theorem settleStripes (rs : List ReadRec) : FlashOnly s (s.settleStripes rs) := ftl s _

theorem countAliases : FlashOnly s s.countAliases := setTables s _

theorem restoreCopy (p n : Nat) : FlashOnly s (s.restoreCopy p n) := ftl s _

theorem restoreFill (x : RecoveryRead) : FlashOnly s (s.restoreFill x) :=
  (ftl s _).trans (foldl (fun u _ => setBlockState u _ _) _ _)

theorem restoreValid : FlashOnly s s.restoreValid :=
  (((ftl s _).trans (foldl (fun u _ => liveBulk u _ _) _ _)).trans
    (foldl (fun _ _ => foldl (fun v _ => liveBulk v _ _) _ _) _ _)).trans (foldl (fun u _ => liveBulk u _ _) _ _)

theorem restoreUnits (x : RecoveryRead) : FlashOnly s (s.restoreUnits x) :=
  (((ftl s _).trans (foldl (fun u _ => (restoreCopy u _ _).trans (restoreCopy _ _ _)) _ _)).trans (restoreValid _)).trans
    (restoreFill _ _)

theorem eraseFirst (k id : Nat) : FlashOnly s (s.eraseFirst k id) := ftl s _

theorem restoreRsv (i : JItem) : FlashOnly s (s.restoreRsv i) := by
  unfold State.restoreRsv
  split
  · exact Eq.refl _
  · exact refl s

theorem clearRsv : FlashOnly s s.clearRsv := foldl (fun u _ => (restoreRsv u _).trans (formRecord _ _ _ _)) _ _

theorem checkStripe (x : RecoveryRead) (id : Nat) : FlashOnly s (s.checkStripe x id) := by
  unfold State.checkStripe
  split
  · exact refl s
  · split
    · exact refl s
    · dsimp only
      split
      · exact (modifyStripe s _ _).trans (closeStripe _ _ _)
      · split
        · exact modifyStripe s _ _
        · exact (modifyStripe s _ _).trans (formSj _ _ _)

theorem replay (x : RecoveryRead) (q : Source) (adopt : Bool) : FlashOnly s (s.replay x q adopt) := by
  unfold State.replay
  extract_lets j run last ck s1 done above s2
  have h2 : FlashOnly s s2 := (loadTables s x q run ck).trans (foldl replayRecord _ _)
  have ht := h2.trans (applyTail s2 x (above.filter (fun r => r.jseq > done)))
  split
  next s3 first dropped hs =>
  rw [hs] at ht
  have h3 : FlashOnly s s3 := ht
  extract_lets s4 kept s5 again numbers f5 r5 s6 s7 s8 s9
  have h4 : FlashOnly s3 s4 := by
    show FlashOnly s3 (if dropped = 0 then s3 else _)
    split
    · exact refl s3
    · exact ((count _ _ _ _).trans (event _ _ _ _ _ _)).trans (beginCkpt _)
  clear_value s4
  have h5 : FlashOnly s4 s5 := ((settleStripes s4 kept).trans (countAliases _)).trans (restoreUnits _ x)
  clear_value s5
  have h6 : FlashOnly s5 s6 := Eq.refl _
  clear_value s6
  have h7 : FlashOnly s6 s7 := foldl (fun u i => eraseFirst u i.1 i.2) again s6
  clear_value s7
  have h8 : FlashOnly s7 s8 := foldl (fun u (r : ReadRec) => foldl restoreRsv r.items u) _ s7
  clear_value s8
  have h9 : FlashOnly s8 s9 := by
    show FlashOnly s8 (if adopt = true then s8 else _)
    split
    · exact refl s8
    · exact (clearRsv s8).trans (foldl (fun u id => checkStripe u x id) _ _)
  exact ((((((h3.trans h4).trans h5).trans h6).trans h7).trans h8).trans h9).trans (put s9 _ _)

theorem ensureSide (k : Nat) : FlashOnly s (s.ensureSide k) := by
  unfold State.ensureSide
  split
  · exact refl s
  · exact Eq.refl _

theorem replaySide (k : Nat) (x : RecoveryRead) (h : Option Shadow) (adopt : Bool) : FlashOnly s (s.replaySide k x h adopt) := by
  unfold State.replaySide
  refine (ensureSide s k).trans (onSide (fun u => ?_) _ _)
  dsimp only
  split
  · exact (ftlRdn u _ _).trans (replay _ _ _ _)
  · exact (ftlRdn u _ _).trans (replay _ _ _ _)
  · exact ftlRdn u _ _

theorem dropWrites (k : Nat) : FlashOnly s (s.dropWrites k) := Eq.refl _

end Replay

/-! Frond ports (R242 to R265). -/

section Ports

variable (s : State)

theorem setPort (n : Nat) (p : FrnPort) : FlashOnly s (s.setPort n p) := frn s _

theorem send (o : Out) : FlashOnly s (s.send o) := by
  unfold State.send
  split <;> exact Eq.refl _

theorem sendPages (n : Nat) (which : Nat × Bool × List Byte → Bool) (l : List (Nat × Bool × List Byte)) :
    FlashOnly s (s.sendPages n which l) := by
  induction l generalizing s with
  | nil => exact refl s
  | cons x l ih =>
    unfold State.sendPages
    split
    · exact ((setPort s _ _).trans (send _ _)).trans (ih _)
    · split
      · exact refl s
      · exact ih s

theorem countSent (c : FrnCmd) : FlashOnly s (s.countSent c) := by
  unfold State.countSent
  have h1 := count s F.FRN.STAT.COUNT 0 1
  dsimp only
  split
  · exact h1.trans (count _ _ _ _)
  · exact h1.trans (count _ _ _ _)
  · exact h1.trans (count _ _ _ _)
  · exact h1
  · exact h1.trans (count _ _ _ _)
  · exact h1

theorem hostLoad (c : FrnCmd) : FlashOnly s (s.hostLoad c) := by
  unfold State.hostLoad
  split <;> exact Eq.refl _

theorem bay (b : Bay) : FlashOnly s { s with bay := b } := Eq.refl _

theorem transmit (n : Nat) (c : FrnCmd) : FlashOnly s (s.transmit n c) :=
  (((((setPort s _ _).trans (send _ _)).trans (sendPages _ _ _ _)).trans (bay _ _)).trans (countSent _ _)).trans (hostLoad _ _)

theorem issue (n : Nat) (c : FrnCmd) : FlashOnly s (s.issue n c) := by
  unfold State.issue
  extract_lets p first
  split
  · exact transmit s _ _
  · exact setPort s _ _

theorem sendFence (n : Nat) : FlashOnly s (s.sendFence n) := by
  unfold State.sendFence
  split
  · exact refl s
  · dsimp only
    split
    · exact refl s
    · exact issue s _ _

theorem fenceAll : FlashOnly s s.fenceAll := by
  refine foldl (fun u n => ?_) _ _
  split
  · exact sendFence u n
  · exact refl u

theorem showDesc (n : Nat) (d : FrnDesc) : FlashOnly s (s.showDesc n d) := by
  apply of_unrecorded
  simp only [State.showDesc, State.put_unrecorded]

end Ports

/-! Epochs, sides and modes. -/

/-- A new epoch raises the highest epoch seen, and changes nothing else but the work of flash (R265). -/
theorem setFrnEpoch (s : State) (e : Nat) :
    ∃ m, FlashOnly { s with wit := { s.wit with maxSeen := m } } (s.setFrnEpoch e) := by
  unfold State.setFrnEpoch
  split
  · exact ⟨s.wit.maxSeen, refl s⟩
  · obtain ⟨g, h⟩ := State.put_eq s F.FRN.EPOCH.EPOCH e
    rw [h]
    exact ⟨max s.wit.maxSeen e, trans (t := { s with regs := g, wit := { s.wit with maxSeen := max s.wit.maxSeen e } })
      (Eq.refl _) (fenceAll _)⟩

/-- When the sides held change, the dies driven follow (R376). -/
theorem setOwn (s : State) (own : Nat) : FlashOnly { s with wit := { s.wit with own := own } } (s.setOwn own) := by
  unfold State.setOwn
  split
  · next h => subst h; exact refl s
  · refine foldl (fun u p => ?_) _ _
    split
    · exact showDesc u _ _
    · exact refl u

/-- A mode is entered (R455). -/
theorem enterMode (s : State) (m : Mode) : FlashOnly { s with lcs := { s.lcs with mode := m } } (s.enterMode m) := by
  unfold State.enterMode
  dsimp only
  have h1 := record { s with lcs := { s.lcs with mode := m } } Src.LCS (Config.noticeEvent Src.LCS (0x200 + m.code)).toNat
    (0x200 + m.code) s.lcs.mode.code 0 0
  split <;> split <;> exact h1

end FlashOnly

/-- The registers that entering a mode may change are those of the recorder. -/
theorem State.enterMode_reg (s : State) (m : Mode) (a : Nat) (h : a ∉ recordRegs) : (s.enterMode m).reg a = s.reg a := by
  have h1 := State.record_reg { s with lcs := { s.lcs with mode := m } } Src.LCS
    (Config.noticeEvent Src.LCS (0x200 + m.code)).toNat (0x200 + m.code) s.lcs.mode.code 0 0 a h
  unfold State.enterMode
  dsimp only
  split <;> split <;> exact h1

end Sys2Proof.Machine
end

section
/-!
The rows of an adoption (R407, R408, R222).
-/

namespace Sys2Proof.Machine

/-- A bit of an EVENT register that has been set reads 1. -/
theorem raises_of_signals {s t : State} {src bit unit : Nat} (hb : bit < 64) (h : Signals s t src bit unit) :
    Raises t src bit := by
  rw [Raises, h.1, BitVec.getLsbD_or, BitVec.getLsbD_ofNat]
  simp [hb]

/-- A raised bit stays where the register does. -/
theorem raises_of_reg {s t : State} {src bit : Nat} (hr : t.reg (eventAddr src) = s.reg (eventAddr src))
    (h : Raises s src bit) : Raises t src bit := by
  rw [Raises, hr]; exact h

/-- CLAIM changes the request of the head slots alone (R400). -/
theorem State.claim_eq (s : State) (k : Nat) :
    ∃ r m, s.claim k = { s with wit := { s.wit with req := r, mask := m } } := by
  unfold State.claim
  dsimp only
  split
  · exact ⟨s.wit.req, s.wit.mask, Eq.refl _⟩
  · exact ⟨_, _, Eq.refl _⟩

/-! ADOPT_FENCES_DONE (R407 step 2). -/

theorem adoptFencesDone_rows (s : State) (a : Adopt) (ha : s.rfl.adopt = some a) (h2 : a.step = 2) :
    ((Tab.keys s.frn.ports).all s.portFenced = true → Runs .adoptFencesDone s fun t =>
      t.rfl = { s.rfl with adopt := some { a with step := 3 } } ∧ t.fld F.RFL.ADOPT_STATUS.STEP = 3 ∧
      SameRegs [F.RFL.ADOPT_STATUS.STEP.addr] s t ∧ t = { s with rfl := t.rfl, regs := t.regs }) ∧
    ((Tab.keys s.frn.ports).all s.portFenced = false → exec .adoptFencesDone s = .next s) := by
  refine ⟨fun h => ?_, fun h => ?_⟩
  · refine ⟨({ s with rfl := { s.rfl with adopt := some { a with step := 3 } } } : State).put F.RFL.ADOPT_STATUS.STEP 3,
      ?_, State.put_rfl .., ?_, fun b hb => ?_, Eq.refl _⟩
    · show execAdoptFencesDone s = _
      simp only [execAdoptFencesDone, ha]
      rw [if_pos ⟨h2, h⟩]
    · exact State.fld_put_width _ _ _ 3 (by decide) (by rfl)
    · rw [State.reg_put_other _ _ _ _ (by simpa using hb)]; exact Eq.refl _
  · show execAdoptFencesDone s = _
    simp only [execAdoptFencesDone, ha]
    rw [if_neg (by rw [h]; exact fun hc => Bool.noConfusion hc.2)]

/-! ADOPT_JOURNAL_READ (R407 steps 3 and 4). -/

/-- The mode after an adoption whose sides are served (R456, R596), before it claims further sides. -/
def State.adoptMode (s : State) (m : Mode) : State :=
  if m = .join then (s.put F.RFL.JOIN_STATUS.PHASE 5).enterMode .dualActive
  else if m = .restructure then { s with lcs := { s.lcs with resumeMode := .soloActive } }
  else if m = .takeOver then s.enterMode .soloActive
  else s

theorem State.adoptMode_reg (s : State) (m : Mode) (a : Nat) (h : a ∉ recordRegs) (hp : a ≠ F.RFL.JOIN_STATUS.PHASE.addr) :
    (s.adoptMode m).reg a = s.reg a := by
  unfold State.adoptMode
  split
  · rw [State.enterMode_reg _ _ _ h, State.reg_put_other _ _ _ _ hp]
  · split
    · exact Eq.refl _
    · split
      · exact State.enterMode_reg _ _ _ h
      · exact Eq.refl _

/-- The end of an adoption changes the modes of LCS and the work of flash alone. -/
theorem State.adoptMode_flashOnly (s : State) (m : Mode) : ∃ l, FlashOnly { s with lcs := l } (s.adoptMode m) := by
  unfold State.adoptMode
  split
  · obtain ⟨g, h⟩ := State.put_eq s F.RFL.JOIN_STATUS.PHASE 5
    rw [h]
    have hg : FlashOnly { s with lcs := { s.lcs with mode := .dualActive } }
      { s with regs := g, lcs := { s.lcs with mode := .dualActive } } := Eq.refl _
    exact ⟨_, hg.trans (FlashOnly.enterMode { s with regs := g } .dualActive)⟩
  · split
    · exact ⟨_, FlashOnly.refl _⟩
    · split
      · exact ⟨_, FlashOnly.enterMode _ _⟩
      · exact ⟨s.lcs, FlashOnly.refl _⟩

theorem State.adoptMode_takeOver (s : State) : (s.adoptMode .takeOver).lcs.mode = .soloActive := by
  show (s.enterMode .soloActive).lcs.mode = _
  rw [(FlashOnly.enterMode s .soloActive).lcs]

theorem State.adoptMode_join (s : State) : (s.adoptMode .join).lcs.mode = .dualActive := by
  show ((s.put F.RFL.JOIN_STATUS.PHASE 5).enterMode .dualActive).lcs.mode = _
  rw [(FlashOnly.enterMode _ .dualActive).lcs]

/-- What ADOPT_STATUS, EVENT and the counters show of a step 4 that has ended, with the stripes opened to check. -/
def State.adoptShown (s : State) (a : Adopt) (opened : List Nat) : State :=
  let s1 : State := { s with rfl := { s.rfl with
    adopt := some { a with todo := 0, step := 5 }, unchecked := s.rfl.unchecked ++ opened,
    incoming := s.notOwn s.rfl.incoming, released := s.notOwn s.rfl.released } }
  (((s1.put F.RFL.ADOPT_STATUS.TICKS (min (s.now - a.since) 65535)).put F.RFL.ADOPT_STATUS.STEP 5).event Src.RFL 6 0 a.sides).count
    F.RFL.STAT.COUNT 8

/-- The sides still to be claimed at the end of an adoption are claimed (R411, R596). -/
def State.claimFurther (s : State) : State :=
  let s5 := s.claim (s.rfl.claimLater ||| s.releasedSides ||| (if s.rfl.lost then s.peerOwn else 0))
  { s5 with rfl := { s5.rfl with claimLater := 0 } }

theorem State.adoptDone_eq (s : State) (a : Adopt) :
    ∃ o, s.adoptDone a = ((s.adoptShown a o).adoptMode s.lcs.mode).claimFurther := ⟨_, Eq.refl _⟩

/-- Claiming leaves memory, modes, registers and the adoption as they were. -/
theorem State.claimFurther_frame (s : State) : s.claimFurther.mem = s.mem ∧ s.claimFurther.lcs = s.lcs ∧
    s.claimFurther.regs = s.regs ∧ s.claimFurther.rfl.adopt = s.rfl.adopt := by
  unfold State.claimFurther
  obtain ⟨r, m, h⟩ := s.claim_eq (s.rfl.claimLater ||| s.releasedSides ||| (if s.rfl.lost then s.peerOwn else 0))
  rw [h]
  exact ⟨Eq.refl _, Eq.refl _, Eq.refl _, Eq.refl _⟩

theorem State.adoptShown_frame (s : State) (a : Adopt) (o : List Nat) : (s.adoptShown a o).mem = s.mem ∧
    (s.adoptShown a o).lcs = s.lcs ∧ (s.adoptShown a o).rfl.adopt = some { a with todo := 0, step := 5 } := by
  unfold State.adoptShown
  simp only [State.count_mem, State.event_mem, State.put_mem, State.count_lcs, State.event_lcs, State.put_lcs,
    State.count_rfl, State.event_rfl, State.put_rfl, and_self]

/-- A field of ADOPT_STATUS other than TICKS and STEP shows what it did. -/
theorem State.adoptShown_status (s : State) (a : Adopt) (o : List Nat) :
    (s.adoptShown a o).fld F.RFL.ADOPT_STATUS.STEP = 5 ∧
    (s.adoptShown a o).fld F.RFL.ADOPT_STATUS.TAIL = s.fld F.RFL.ADOPT_STATUS.TAIL := by
  unfold State.adoptShown
  generalize min (s.now - a.since) 65535 = n
  extract_lets r1 s1
  have hreg : ∀ f : Fld, f.addr = F.RFL.ADOPT_STATUS.STEP.addr →
      ((((s1.put F.RFL.ADOPT_STATUS.TICKS n).put F.RFL.ADOPT_STATUS.STEP 5).event Src.RFL 6 0 a.sides).count
        F.RFL.STAT.COUNT 8).fld f = ((s1.put F.RFL.ADOPT_STATUS.TICKS n).put F.RFL.ADOPT_STATUS.STEP 5).fld f := by
    intro f hf
    apply State.fld_eq_of_reg
    rw [hf, State.count_reg _ _ _ _ _ (by decide), State.event_reg _ _ _ _ _ _ _ (by decide)]
  rw [hreg _ (by rfl), hreg _ (by rfl)]
  constructor
  · exact State.fld_put_width _ _ _ 3 (by decide) (by rfl)
  · rw [State.fld_put_other _ _ _ _ (by decide) (by decide) (by decide),
      State.fld_put_other _ _ _ _ (by decide) (by decide) (by decide)]
    exact State.fld_congr (Eq.refl _) _

theorem State.adoptShown_raises (s : State) (a : Adopt) (o : List Nat) : Raises (s.adoptShown a o) Src.RFL 6 := by
  unfold State.adoptShown
  exact raises_of_reg (State.count_reg _ _ _ _ _ (by decide))
    (raises_of_signals (by decide) (State.event_signals _ _ _ _ _ _ _ (by decide) (Eq.refl _) (Eq.refl _) (Eq.refl _)))

/-- Step 4 of R407 ends: what ADOPT_STATUS, EVENT and RFL show of it, and what it leaves. -/
theorem State.adoptDone_effect (s : State) (a : Adopt) : let t := s.adoptDone a
    t.mem = s.mem ∧ t.rfl.adopt = some { a with todo := 0, step := 5 } ∧ t.fld F.RFL.ADOPT_STATUS.STEP = 5 ∧
    t.fld F.RFL.ADOPT_STATUS.TAIL = s.fld F.RFL.ADOPT_STATUS.TAIL ∧ Raises t Src.RFL 6 ∧
    (s.lcs.mode = .takeOver → t.lcs.mode = .soloActive) ∧ (s.lcs.mode = .join → t.lcs.mode = .dualActive) := by
  obtain ⟨o, ho⟩ := s.adoptDone_eq a
  rw [ho]
  obtain ⟨hm, hl, ha⟩ := s.adoptShown_frame a o
  obtain ⟨hstep, htail⟩ := s.adoptShown_status a o
  have hev := s.adoptShown_raises a o
  generalize s.adoptShown a o = u at hm hl ha hstep htail hev
  obtain ⟨l, hu⟩ := u.adoptMode_flashOnly s.lcs.mode
  obtain ⟨hcm, hcl, hcr, hca⟩ := (u.adoptMode s.lcs.mode).claimFurther_frame
  have hreg : ∀ b, b ∉ recordRegs → b ≠ F.RFL.JOIN_STATUS.PHASE.addr →
      (u.adoptMode s.lcs.mode).claimFurther.reg b = u.reg b := fun b hb hp =>
    (State.reg_congr hcr b).trans (u.adoptMode_reg s.lcs.mode b hb hp)
  refine ⟨hcm.trans (hu.mem.trans hm), ?_, ?_, ?_, raises_of_reg (hreg _ (by decide) (by decide)) hev, fun h => ?_, fun h => ?_⟩
  · rw [hca, hu.peer]; exact ha
  · rw [State.fld_eq_of_reg (hreg _ (by decide) (by decide))]; exact hstep
  · rw [State.fld_eq_of_reg (hreg _ (by decide) (by decide))]; exact htail
  · rw [hcl, h]; exact u.adoptMode_takeOver
  · rw [hcl, h]; exact u.adoptMode_join

/-- The last side of a mask of two is the mask itself. -/
theorem sub_two_pow_eq_zero_iff {n k : Nat} (h : n.testBit k = true) : n - 2 ^ k = 0 ↔ n = 2 ^ k := by
  have := Nat.ge_two_pow_of_testBit h
  omega

theorem adoptJournalRead_rows (s : State) (a : Adopt) (side : Nat) (x : RecoveryRead) (ha : s.rfl.adopt = some a)
    (h3 : a.step = 3) (hside : side < 2) (ht : a.todo.testBit side = true) : Runs (.adoptJournalRead side x) s fun t =>
    let tail := a.tail + s.tailRecords side x (s.wholeShadow side)
    SameMemory s t ∧ t.fld F.RFL.ADOPT_STATUS.TAIL = tail % 2 ^ 32 ∧
    (a.todo ≠ 2 ^ side →
      t.rfl.adopt = some { a with todo := a.todo - 2 ^ side, tail := tail } ∧ Tab.find t.rfl.shadows side = none) ∧
    (a.todo = 2 ^ side → t.rfl.adopt = some { a with todo := 0, step := 5, tail := tail } ∧
      t.fld F.RFL.ADOPT_STATUS.STEP = 5 ∧ Raises t Src.RFL 6 ∧
      (s.lcs.mode = .takeOver → t.lcs.mode = .soloActive) ∧ (s.lcs.mode = .join → t.lcs.mode = .dualActive)) := by
  have hf : FlashOnly s ((s.dropWrites side).replaySide side x (s.wholeShadow side) true) :=
    (FlashOnly.dropWrites s side).trans (FlashOnly.replaySide _ side x _ true)
  have he : exec (.adoptJournalRead side x) s = execAdoptJournalRead side x s := Eq.refl _
  simp only [execAdoptJournalRead, ha] at he
  rw [if_pos ⟨h3, hside, ht⟩] at he
  generalize (s.dropWrites side).replaySide side x (s.wholeShadow side) true = u at hf he
  generalize a.tail + s.tailRecords side x (s.wholeShadow side) = tail at he ⊢
  refine ⟨_, he, ?_⟩
  have hm := hf.mem
  have hl := hf.lcs
  clear he
  generalize hv : ({ u with rfl := { u.rfl with
    adopt := some { a with todo := a.todo - 2 ^ side, tail := tail }, shadows := Tab.erase u.rfl.shadows side } } : State) = v
  have hvm : v.mem = s.mem := by rw [← hv]; exact hm
  have hvl : v.lcs = s.lcs := by rw [← hv]; exact hl
  have hva : v.rfl.adopt = some { a with todo := a.todo - 2 ^ side, tail := tail } := by rw [← hv]
  have hvs : Tab.find v.rfl.shadows side = none := by rw [← hv]; exact (Tab.find_erase ..).trans (if_pos (Eq.refl _))
  have htail : (v.put F.RFL.ADOPT_STATUS.TAIL tail).fld F.RFL.ADOPT_STATUS.TAIL = tail % 2 ^ 32 :=
    State.fld_put_width _ _ _ 32 (by decide) (by rfl)
  have hiff := sub_two_pow_eq_zero_iff ht
  split
  next h0 =>
    obtain ⟨em, ea, estep, etail, eev, etake, ejoin⟩ := (v.put F.RFL.ADOPT_STATUS.TAIL tail).adoptDone_effect
      { a with todo := a.todo - 2 ^ side, tail := tail }
    rw [State.put_lcs, hvl] at etake ejoin
    exact ⟨sameMemory_of_mem (em.trans hvm), etail.trans htail, fun hn => absurd (hiff.mp h0) hn,
      fun _ => ⟨ea, estep, eev, etake, ejoin⟩⟩
  next h0 =>
    exact ⟨sameMemory_of_mem hvm, htail, fun _ => ⟨hva, hvs⟩, fun hn => absurd (hiff.mpr hn) h0⟩

/-! STRIPE_CHECK (R222, R407 step 5). -/

/-- The numbers counted from 0 on as long as they satisfy p: each does, and the next one does not. -/
theorem takeWhile_range_spec (p : Nat → Bool) (n : Nat) : let m := ((List.range n).takeWhile p).length
    m ≤ n ∧ (∀ i < m, p i = true) ∧ (m < n → p m = false) := by
  have h : ((List.range n).takeWhile p).length = (List.range n).findIdx (fun i => !p i) := by
    have hle := List.findIdx_le_length (xs := List.range n) (p := fun i => !p i)
    rw [List.takeWhile_eq_take_findIdx_not, List.length_take, Nat.min_eq_left hle]
  have hle := List.findIdx_le_length (xs := List.range n) (p := fun i => !p i)
  rw [List.length_range] at hle
  dsimp only
  rw [h]
  refine ⟨hle, fun i hi => ?_, fun hlt => ?_⟩
  · have := List.not_of_lt_findIdx hi
    simpa using this
  · have := List.findIdx_getElem (p := fun i => !p i) (xs := List.range n) (w := by rwa [List.length_range])
    simpa using this

/-- Work of a side on a head that keeps one side. -/
theorem State.onSide_single (s : State) (k : Nat) (f : State → State) (h : s.other = none) : s.onSide k f = f s := by
  unfold State.onSide
  rw [h]
  exact ite_self _

/-- A stripe closed in a state: nothing stands beyond its durable rows. -/
def Stripe.closedAs (x : Stripe) (st : Nat) : Stripe := { x with
  state := st, sent := [], starts := [], rowsSent := x.rowsDone,
  buf := List.replicate x.buf.length [], fill := x.fill.map (fun _ => x.rowsDone * 16384) }

theorem State.closeStripe_stripes (s : State) (id st : Nat) (x : Stripe) (h : Tab.find s.ftl.stripes id = some x) :
    (s.closeStripe id st).ftl.stripes = Tab.modify s.ftl.stripes id (fun x => x.closedAs st) := by
  unfold State.closeStripe
  rw [h]
  exact Eq.refl _

/-- The rows of an open stripe found accepted from its durable ones on, up to the first not accepted. -/
def State.rowsAccepted (s : State) (x : RecoveryRead) (id : Nat) (z : Stripe) : Nat :=
  ((List.range (z.sentLimit - z.rowsDone)).takeWhile (fun i => s.rowAccepted x id z (z.rowsDone + i))).length

/-- A stripe whose durable rows go up to a row, with nothing buffered. -/
def Stripe.checkedTo (z : Stripe) (top : Nat) : Stripe := { z.doneTo top with buf := z.buf.map (fun _ => []) }

/-- What a row check leaves of an open stripe (R221, R222). -/
theorem State.checkStripe_find (s : State) (x : RecoveryRead) (id : Nat) (z : Stripe)
    (hz : Tab.find s.ftl.stripes id = some z) (ho : z.state = 1) :
    Tab.find (s.checkStripe x id).ftl.stripes id = some (
      if z.rowsDone + s.rowsAccepted x id z < z.sentLimit then (z.checkedTo (z.rowsDone + s.rowsAccepted x id z)).closedAs 5
      else z.checkedTo (z.rowsDone + s.rowsAccepted x id z)) := by
  have hm : ∀ top, Tab.find (s.modifyStripe id (fun z => z.checkedTo top)).ftl.stripes id = some (z.checkedTo top) := by
    intro top
    refine (Tab.find_modify ..).trans ?_
    rw [if_pos (Eq.refl _), hz]; exact Eq.refl _
  have he : s.checkStripe x id = (
      let s1 := s.modifyStripe id (fun y => y.checkedTo (z.rowsDone + s.rowsAccepted x id z))
      if z.rowsDone + s.rowsAccepted x id z < z.sentLimit then s1.closeStripe id 5
      else if s.rowsAccepted x id z = 0 then s1 else s1.formSj id (.done (z.rowsDone + s.rowsAccepted x id z))) := by
    unfold State.checkStripe
    rw [hz]
    dsimp only
    rw [if_neg (not_not_intro ho)]
    exact Eq.refl _
  rw [he]
  dsimp only
  have hm := hm (z.rowsDone + s.rowsAccepted x id z)
  split
  · rw [State.closeStripe_stripes _ _ _ _ hm, Tab.find_modify, if_pos (Eq.refl _), hm]
    exact Eq.refl _
  · split
    · exact hm
    · exact hm

/-- The durable rows that a row check finds, and where it closes the stripe (R221, R222). -/
theorem State.checkStripe_rows (s : State) (x : RecoveryRead) (id : Nat) (z : Stripe)
    (hz : Tab.find s.ftl.stripes id = some z) (ho : z.state = 1) :
    ∃ y, Tab.find (s.checkStripe x id).ftl.stripes id = some y ∧ z.rowsDone ≤ y.rowsDone ∧
      (y.rowsDone ≤ z.sentLimit ∨ y.rowsDone = z.rowsDone) ∧ y.rowsSent = y.rowsDone ∧
      y.state = (if y.rowsDone < z.sentLimit then 5 else 1) ∧
      (∀ row, z.rowsDone ≤ row → row < y.rowsDone → s.rowAccepted x id z row = true) ∧
      (y.rowsDone < z.sentLimit → s.rowAccepted x id z y.rowsDone = false) := by
  obtain ⟨hle, hall, hstop⟩ := takeWhile_range_spec (fun i => s.rowAccepted x id z (z.rowsDone + i)) (z.sentLimit - z.rowsDone)
  have hf := s.checkStripe_find x id z hz ho
  unfold State.rowsAccepted at hf
  generalize ((List.range (z.sentLimit - z.rowsDone)).takeWhile
    (fun i => s.rowAccepted x id z (z.rowsDone + i))).length = m at hle hall hstop hf
  have hrow : ∀ row, z.rowsDone ≤ row → row < z.rowsDone + m → s.rowAccepted x id z row = true := by
    intro row h1 h2
    obtain ⟨i, rfl⟩ := Nat.exists_eq_add_of_le h1
    exact hall i (by omega)
  refine ⟨_, hf, ?_⟩
  split
  next hlt =>
    exact ⟨Nat.le_add_right _ m, Or.inl hlt.le, Eq.refl _, (if_pos hlt).symm, hrow, fun _ => hstop (by omega)⟩
  next hge =>
    exact ⟨Nat.le_add_right _ m, by show z.rowsDone + m ≤ _ ∨ z.rowsDone + m = _; omega, Eq.refl _,
      ho.trans (if_neg hge).symm, hrow, fun h => absurd h hge⟩

theorem stripeCheck_rows (s : State) (side stripe : Nat) (pages : List FlashPage) :
    let mark := side * 2 ^ 20 + stripe
    ((mark ∉ s.rfl.unchecked ∨ s.granted Cls.mapWork = false) → exec (.stripeCheck side stripe pages) s = .next s) ∧
    (mark ∈ s.rfl.unchecked → s.granted Cls.mapWork = true → Runs (.stripeCheck side stripe pages) s fun t =>
      t.rfl.unchecked = s.rfl.unchecked.erase mark ∧ SameMemory s t ∧
      (s.rfl.unchecked.erase mark = [] → t.rfl.adopt = none ∧ t.fld F.RFL.ADOPT_STATUS.STEP = 0) ∧
      (∀ z, s.other = none → Tab.find s.ftl.stripes stripe = some z → z.state = 1 →
        ∃ y, Tab.find t.ftl.stripes stripe = some y ∧ z.rowsDone ≤ y.rowsDone ∧ (y.rowsDone ≤ z.sentLimit ∨ y.rowsDone = z.rowsDone) ∧
          y.rowsSent = y.rowsDone ∧ y.state = (if y.rowsDone < z.sentLimit then 5 else 1) ∧
          (∀ row, z.rowsDone ≤ row → row < y.rowsDone → s.rowAccepted ⟨pages, []⟩ stripe z row = true) ∧
          (y.rowsDone < z.sentLimit → s.rowAccepted ⟨pages, []⟩ stripe z y.rowsDone = false))) := by
  intro mark
  have he : exec (.stripeCheck side stripe pages) s = execStripeCheck side stripe pages s := Eq.refl _
  unfold execStripeCheck at he
  dsimp only at he
  constructor
  · intro h
    rw [he, if_pos (h.imp_right fun hg => by rw [hg]; exact Eq.refl _)]
  · intro hin hg
    rw [if_neg (by rw [hg]; exact fun hc => hc.elim (fun hn => hn hin) Bool.noConfusion)] at he
    have hf : FlashOnly s (s.onSide side (fun t => t.checkStripe ⟨pages, []⟩ stripe)) :=
      FlashOnly.onSide (fun u => FlashOnly.checkStripe u _ _) s side
    have hrows : ∀ z, s.other = none → Tab.find s.ftl.stripes stripe = some z → z.state = 1 → _ := fun z ho hz h1 => by
      have h := s.checkStripe_rows ⟨pages, []⟩ stripe z hz h1
      rw [← s.onSide_single side (fun t => t.checkStripe ⟨pages, []⟩ stripe) ho] at h
      exact h
    generalize s.onSide side (fun t => t.checkStripe ⟨pages, []⟩ stripe) = u at he hf hrows
    refine ⟨_, he, ?_⟩
    clear he
    split
    next hl =>
      refine ⟨congrArg Rfl.unchecked (State.put_rfl _ _ _), sameMemory_of_mem hf.mem, fun _ => ⟨?_, ?_⟩, hrows⟩
      · exact congrArg Rfl.adopt (State.put_rfl _ _ _)
      · exact State.fld_put_width _ _ _ 3 (by decide) (by rfl)
    next hl =>
      exact ⟨Eq.refl _, sameMemory_of_mem hf.mem, fun h => absurd h hl, hrows⟩

end Sys2Proof.Machine
end

section
/-!
A Hand-Back is started: the write of START to RFL.HANDBACK_CMD (R409).
-/

namespace Sys2Proof.Machine

/-! HANDBACK_START: a write of START to RFL.HANDBACK_CMD. -/

/-- The layout of RFL.HANDBACK_CMD: one field OP that is only written. -/
def handbackCmd : RegSpec := ⟨0x140, 0x0, 1, [⟨1, 0, .wo, (k 0), false, [(1, 1)]⟩]⟩

theorem blockOf_handbackCmd : blockOf F.RFL.HANDBACK_CMD.OP.addr = some Src.RFL := by decide

theorem specAt_handbackCmd : specAt F.RFL.HANDBACK_CMD.OP.addr = some (Src.RFL, handbackCmd, 0) := by rfl

theorem State.accepts_handbackCmd (s : State) (v : Nat) :
    s.accepts F.RFL.HANDBACK_CMD.OP.addr v = (s.lcs.mode == .dualActive) := by rfl

theorem State.firstError_handbackCmd (s : State) : s.firstError handbackCmd F.RFL.HANDBACK_CMD.OP.addr
    F.RFL.HANDBACK_CMD.OP.addr 0 (fieldWord F.RFL.HANDBACK_CMD.OP 1).toNat = none := by rfl

/-- A field that is only written leaves the register's word. -/
theorem State.written_handbackCmd (s : State) (i a n v : Nat) (hi : reservedIn i n ⟨1, 0, .wo, (k 0), false, [(1, 1)]⟩ = false) :
    s.written handbackCmd i a n v = (s.reg a).toNat := by
  simp [State.written, handbackCmd, hi]

theorem State.startCommand_handbackCmd (s : State) (r : Req) (v : Nat) (ok : Bool) :
    s.startCommand r F.RFL.HANDBACK_CMD.OP.addr v ok = s := by rfl

theorem State.serviceWritten_handbackCmd (s : State) (n v : Nat) : s.serviceWritten F.RFL.HANDBACK_CMD.OP.addr n v =
    if s.tck.latches.contains .handBackStart then s else s.latch .handBackStart := by rfl

theorem State.dataWritten_handbackCmd (s : State) (n v was : Nat) :
    s.dataWritten F.RFL.HANDBACK_CMD.OP.addr n v was = s := by rfl

theorem State.controlWritten_handbackCmd (s : State) (n v was : Nat) :
    s.controlWritten F.RFL.HANDBACK_CMD.OP.addr n v was = s := by rfl

theorem handbackCmd_not_errStatus : F.RFL.HANDBACK_CMD.OP.addr % 0x400000 ≠ 8 := by decide

/-- What a write starts at a register that is not an error status. -/
theorem State.afterWrite_of_ne (s : State) (r : Req) (i n v was : Nat) (ok : Bool) (h : i % 0x400000 ≠ 8) :
    s.afterWrite r i n v was ok =
      (((s.startCommand r i v ok).serviceWritten i n v).dataWritten i n v was).controlWritten i n v was := by
  rw [State.afterWrite]
  exact if_neg h

/-- What a write to RFL.HANDBACK_CMD starts: START is latched, once, until rank 4 takes it. -/
theorem State.afterWrite_handbackCmd (s : State) (r : Req) (n v was : Nat) (ok : Bool) :
    s.afterWrite r F.RFL.HANDBACK_CMD.OP.addr n v was ok =
      if s.tck.latches.contains .handBackStart then s else s.latch .handBackStart := by
  rw [State.afterWrite_of_ne _ _ _ _ _ _ _ handbackCmd_not_errStatus, State.startCommand_handbackCmd,
    State.serviceWritten_handbackCmd, State.dataWritten_handbackCmd, State.controlWritten_handbackCmd]

/-- A word written back where it stood changes no register. -/
theorem State.reg_setReg_self (s : State) (a b : Nat) : (s.setReg a (s.reg a)).reg b = s.reg b := by
  rw [State.reg_setReg]
  split
  next h => rw [h]
  next h => exact Eq.refl _

/-- A write that a register's own rule discards is an access error of kind STATE (R566). -/
theorem State.busWrite_discarded (s : State) (r : Req) (a : Nat) (w : Word) (fuseOk : Bool) (b : Nat) (x : RegSpec) (n : Nat)
    (hr : r.test = false) (ha : a % 8 = 0) (hb : blockOf a = some b) (hs : specAt a = some (b, x, n))
    (he : s.firstError x (a - n * x.stride) a n w.toNat = none) (hc : s.accepts a w.toNat = false) :
    s.busWrite r a 8 w fuseOk = s.accessErrorIn b r true a 8 .state := by
  have hq : reached r a = some (b, x, n) := by simp [reached, hr, hs]
  simp [State.busWrite, State.regWrite, aligned8_of_mod ha, hq, he, hc, State.accessError, hb]

theorem handbackStart_rows (s : State) (r : Req) (hr : FromCore r) :
    (s.lcs.mode = .dualActive → s.tck.latches.contains .handBackStart = false → Runs (.handbackStart r) s fun t =>
      t.tck = { s.tck with latches := s.tck.latches ++ [.handBackStart] } ∧ SameRegs [] s t ∧
      t = { s with tck := t.tck, regs := t.regs }) ∧
    (s.lcs.mode ≠ .dualActive → Runs (.handbackStart r) s fun t =>
      t.tck = s.tck ∧ (t.reg (blockBase Src.RFL + 8)).getLsbD 4 = true ∧
      SameRegs [blockBase Src.RFL + 8, blockBase Src.RFL + 16] s t ∧ t = { s with regs := t.regs, evr := t.evr }) := by
  constructor
  · intro hm hn
    have h := s.busWrite_taken r F.RFL.HANDBACK_CMD.OP.addr (fieldWord F.RFL.HANDBACK_CMD.OP 1) true Src.RFL handbackCmd 0 hr
      (by decide) specAt_handbackCmd s.firstError_handbackCmd (by rw [s.accepts_handbackCmd, hm]; exact Eq.refl _) (Eq.refl _)
    rw [State.written_handbackCmd _ _ _ _ _ (by rfl), BitVec.ofNat_toNat, BitVec.setWidth_eq] at h
    have hw : s.busWrite r F.RFL.HANDBACK_CMD.OP.addr 8 (fieldWord F.RFL.HANDBACK_CMD.OP 1) true =
        (s.setReg F.RFL.HANDBACK_CMD.OP.addr (s.reg F.RFL.HANDBACK_CMD.OP.addr)).latch .handBackStart :=
      h.trans ((State.afterWrite_handbackCmd _ _ _ _ _ _).trans (if_neg (by rw [State.setReg_tck, hn]; exact Bool.false_ne_true)))
    exact ⟨_, congrArg Host.Outcome.next hw, Eq.refl _, fun a _ => State.reg_setReg_self s _ a, Eq.refl _⟩
  · intro hm
    have h := s.busWrite_discarded r F.RFL.HANDBACK_CMD.OP.addr (fieldWord F.RFL.HANDBACK_CMD.OP 1) true Src.RFL handbackCmd 0 hr
      (by decide) blockOf_handbackCmd specAt_handbackCmd s.firstError_handbackCmd
      (by rw [s.accepts_handbackCmd]; simpa using hm)
    refine ⟨_, congrArg Host.Outcome.next h, ?_, ?_, ?_, ?_⟩
    · exact State.tck_of_unrecorded (State.accessErrorIn_unrecorded ..)
    · exact State.accessErrorIn_kind s Src.RFL r true _ 8 .state
    · exact fun a ha => State.accessErrorIn_sameRegs s Src.RFL r true _ 8 .state a ha
    · exact State.eq_of_unrecorded (State.accessErrorIn_unrecorded ..)

end Sys2Proof.Machine
end

section
/-!
The rows by which a Hand-Back drains, seals and ends (R409, R410).
-/

namespace Sys2Proof.Machine

/-! DRAIN_END (R409 phase 2). -/

/-- The drain has lasted as long as DRAIN_MS allows. -/
def State.drainLate (s : State) (h : HandBack) : Bool :=
  decide (s.now ≥ h.since + s.ticksIn (s.fld F.RFL.HANDBACK_CTL.DRAIN_MS * 1000))

/-- The state once the drain has ended. -/
def State.drained (s : State) (h : HandBack) : State :=
  ({ s with rfl := { s.rfl with handBack := some { h with phase := 3, limit := s.sidesBusy h.sides } } } : State).put
    F.RFL.HANDBACK_STATUS.PHASE 3

section Drain

variable {s : State} {h : HandBack} (hh : s.rfl.handBack = some h)
include hh

theorem execDrainEnd_ends (hp : h.phase ≤ 2) (hs : h.since < s.now) (ha : h.abandoned = false)
    (hb : s.sidesBusy h.sides = false ∨ s.drainLate h = true) : exec .drainEnd s = .next (s.drained h) := by
  show execDrainEnd s = _
  simp only [execDrainEnd, hh]
  rw [if_pos ⟨hp, hs, by rw [ha]; exact Eq.refl _, hb.imp_left fun e => by rw [e]; exact Eq.refl _⟩]
  exact Eq.refl _

theorem execDrainEnd_waits (hb : s.sidesBusy h.sides = true) (hl : s.drainLate h = false) : exec .drainEnd s = .next s := by
  show execDrainEnd s = _
  simp only [execDrainEnd, hh]
  rw [if_neg]
  rintro ⟨-, -, -, hc⟩
  rcases hc with hc | hc
  · rw [hb] at hc; cases hc
  · exact Bool.noConfusion (hl.symm.trans hc)

end Drain

/-- What the end of a drain shows. -/
theorem State.drained_effect (s : State) (h : HandBack) :
    (s.drained h).rfl = { s.rfl with handBack := some { h with phase := 3, limit := s.sidesBusy h.sides } } ∧
    (s.drained h).fld F.RFL.HANDBACK_STATUS.PHASE = 3 ∧ SameRegs [F.RFL.HANDBACK_STATUS.PHASE.addr] s (s.drained h) ∧
    s.drained h = { s with rfl := (s.drained h).rfl, regs := (s.drained h).regs } :=
  ⟨State.put_rfl _ _ _, State.fld_put_width _ _ _ 3 (by decide) (by rfl),
    fun _ ha => State.reg_put_other _ _ _ _ (by simpa using ha), Eq.refl _⟩

theorem drainEnd_rows (s : State) (h : HandBack) (hh : s.rfl.handBack = some h) :
    (h.phase ≤ 2 → h.since < s.now → h.abandoned = false → s.sidesBusy h.sides = false → Runs .drainEnd s fun t =>
      t.rfl = { s.rfl with handBack := some { h with phase := 3, limit := false } } ∧ t.fld F.RFL.HANDBACK_STATUS.PHASE = 3 ∧
      SameRegs [F.RFL.HANDBACK_STATUS.PHASE.addr] s t ∧ t = { s with rfl := t.rfl, regs := t.regs }) ∧
    (h.phase ≤ 2 → h.since < s.now → h.abandoned = false → s.sidesBusy h.sides = true →
      h.since + s.ticksIn (s.fld F.RFL.HANDBACK_CTL.DRAIN_MS * 1000) ≤ s.now → Runs .drainEnd s fun t =>
      t.rfl = { s.rfl with handBack := some { h with phase := 3, limit := true } } ∧ t.fld F.RFL.HANDBACK_STATUS.PHASE = 3 ∧
      t = { s with rfl := t.rfl, regs := t.regs }) ∧
    (s.sidesBusy h.sides = true → s.now < h.since + s.ticksIn (s.fld F.RFL.HANDBACK_CTL.DRAIN_MS * 1000) →
      exec .drainEnd s = .next s) := by
  obtain ⟨erfl, ephase, eregs, ee⟩ := s.drained_effect h
  refine ⟨fun hp hs ha hb => ?_, fun hp hs ha hb hl => ?_, fun hb hl => ?_⟩
  · rw [hb] at erfl
    exact ⟨_, execDrainEnd_ends hh hp hs ha (Or.inl hb), erfl, ephase, eregs, ee⟩
  · rw [hb] at erfl
    exact ⟨_, execDrainEnd_ends hh hp hs ha (Or.inr (decide_eq_true hl)), erfl, ephase, ee⟩
  · exact execDrainEnd_waits hh hb (decide_eq_false (Nat.not_le.mpr hl))

/-! HANDBACK_SEAL (R409 phase 3, R410). -/

namespace FlashOnly

/-- What is sealed is marked in the journals alone (R389). -/
theorem markSealed (s : State) (tick : Nat) (taken : List (Nat × Nat)) : FlashOnly s (s.markSealed tick taken) :=
  foldl (fun u _ => onSide (fun v => ftlRdn v _ _) u _) _ _

/-- What RFL holds stands apart from the work of flash. -/
theorem withPeer {s t : State} (h : FlashOnly s t) (r : Rfl) : FlashOnly { s with rfl := r } { t with rfl := r } := by
  have e := congrArg (fun u : State => { u with rfl := r }) h
  exact e

/-- A request of the head slots stands apart from the work of flash. -/
theorem withRequest {s t : State} (h : FlashOnly s t) (q m : Nat) : FlashOnly (s.setRequest q m) (t.setRequest q m) := by
  have e := congrArg (fun u : State => u.setRequest q m) h
  exact e

/-- The highest epoch seen stands apart from the work of flash. -/
theorem withMaxSeen {s t : State} (h : FlashOnly s t) (m : Nat) :
    FlashOnly { s with wit := { s.wit with maxSeen := m } } { t with wit := { t.wit with maxSeen := m } } := by
  have e := congrArg (fun u : State => { u with wit := { u.wit with maxSeen := m } }) h
  exact e

/-- The mode of the head stands apart from the work of flash. -/
theorem withMode {s t : State} (h : FlashOnly s t) (m : Mode) :
    FlashOnly { s with lcs := { s.lcs with mode := m } } { t with lcs := { t.lcs with mode := m } } := by
  have e := congrArg (fun u : State => { u with lcs := { u.lcs with mode := m } }) h
  exact e

end FlashOnly

/-- A delta that is sealed carries what waited in CTRL (R389); beside RFL only the work of flash changes. -/
theorem State.sealAt_effect (s : State) (tick : Nat) : ∃ r, FlashOnly { s with rfl := r } (s.sealAt tick) ∧
    (s.lcs.mode.seals = true → (∀ d ∈ s.rfl.deltas, d.tick ≠ tick) → ∃ d ∈ r.deltas, d.tick = tick ∧ d.ctrl = s.rfl.ctrl) := by
  unfold State.sealAt
  split
  next h =>
    refine ⟨s.rfl, FlashOnly.refl s, fun hm hd => ?_⟩
    rcases h with h | h
    · rw [hm] at h; cases h
    · obtain ⟨d, hin, ht⟩ := List.any_eq_true.mp h
      exact absurd (beq_iff_eq.mp ht) (hd d hin)
  next h =>
    extract_lets full views ready
    split
    next changed further _ =>
    extract_lets d0 used taken d1 used1 bins d2 len carry s1 turn p1 r1 s2 s3
    have h1 : FlashOnly s s1 := by
      show FlashOnly s (if full then _ else s)
      split
      · exact FlashOnly.markSealed s _ _
      · exact FlashOnly.refl s
    have h2 : FlashOnly { s with rfl := s2.rfl } s2 := h1.withPeer s2.rfl
    have hd : ∃ d ∈ s2.rfl.deltas, d.tick = tick ∧ d.ctrl = s.rfl.ctrl :=
      ⟨{ d2 with len := len }, List.mem_append_right _ (List.mem_singleton_self _), Eq.refl _, Eq.refl _⟩
    clear_value s2
    have h3 : FlashOnly s2 s3 := by
      show FlashOnly s2 (if carry = 0 then s2 else _)
      split
      · exact FlashOnly.refl s2
      · exact FlashOnly.count s2 _ _ _
    exact ⟨s2.rfl, ((h2.trans h3).trans (FlashOnly.put _ _ _)).trans (FlashOnly.put _ _ _), fun _ _ => hd⟩

/-- The messages of a RELEASE: the last JSEQ and SSEQ formed of each side released (R409). -/
theorem State.mem_tellRelease (s : State) (sides : Nat) (v : Nat × State) (hv : v ∈ s.heldViews)
    (hs : sides.testBit v.1 = true) : (⟨2, v.1, 0, v.2.ftl.jseq, v.2.rdn.sseq, 0⟩ : Ctrl) ∈ (s.tellRelease sides).rfl.ctrl :=
  List.mem_append_right _ (List.mem_map_of_mem (List.mem_filter.mpr ⟨hv, hs⟩))

/-- The state once the final delta of a Hand-Back is sealed, with RELEASE for its sides. -/
def State.finalSealed (s : State) (h : HandBack) : State :=
  let s1 := (s.tellRelease h.sides).sealAt s.now
  { s1 with rfl := { s1.rfl with handBack := some { h with finalTick := some s.now } } }

theorem State.finalSealed_effect (s : State) (h : HandBack) : ∃ r, FlashOnly { s with rfl := r } (s.finalSealed h) ∧
    r.handBack = some { h with finalTick := some s.now } ∧
    (s.lcs.mode.seals = true → (∀ d ∈ s.rfl.deltas, d.tick ≠ s.now) → ∃ d ∈ r.deltas, d.tick = s.now ∧
      ∀ v ∈ s.heldViews, h.sides.testBit v.1 = true → (⟨2, v.1, 0, v.2.ftl.jseq, v.2.rdn.sseq, 0⟩ : Ctrl) ∈ d.ctrl) := by
  obtain ⟨r, hf, hd⟩ := (s.tellRelease h.sides).sealAt_effect s.now
  unfold State.finalSealed
  generalize (s.tellRelease h.sides).sealAt s.now = u at hf
  have hp := hf.peer
  refine ⟨{ u.rfl with handBack := some { h with finalTick := some s.now } }, hf.withPeer _, Eq.refl _, fun hm hn => ?_⟩
  obtain ⟨d, hin, ht, hc⟩ := hd hm hn
  refine ⟨d, ?_, ht, fun v hv hs => ?_⟩
  · show d ∈ u.rfl.deltas
    rw [hp]; exact hin
  · rw [hc]; exact s.mem_tellRelease h.sides v hv hs

/-- A request of some sides, put in the head slots (R400). -/
theorem State.setRequest_some (s : State) {req mask : Nat} (hr : req ≠ 0) (hm : mask ≠ 0) :
    s.setRequest req mask = { s with wit := { s.wit with req := req, mask := mask } } := by
  unfold State.setRequest
  rw [if_neg hm, if_neg hr]

theorem ne_zero_of_sides {n : Nat} (h : n % 4 ≠ 0) : n ≠ 0 := fun e => h (by rw [e])

/-- The sides of a return are released, and the head goes on with the others (R414). -/
theorem FlashOnly.release_return (s : State) (left sides : Nat) (hs : sides ≠ 0) :
    FlashOnly { s with wit := { s.wit with own := left, req := 3, mask := sides }, lcs := { s.lcs with mode := .soloActive } }
      (((s.setOwn left).setRequest 3 sides).enterMode .soloActive) := by
  have h := ((FlashOnly.setOwn s left).withRequest 3 sides).withMode .soloActive
  rw [State.setRequest_some { s with wit := { s.wit with own := left } } (by decide) hs] at h
  exact h.trans (FlashOnly.enterMode _ _)

/-- All sides are released, and no epoch is held (R410). -/
theorem FlashOnly.release_all (s : State) (sides : Nat) (hs : sides ≠ 0) :
    ∃ m, FlashOnly { s with wit := { s.wit with own := 0, req := 3, mask := sides, maxSeen := m } }
      (((s.setOwn 0).setFrnEpoch 0).setRequest 3 sides) := by
  obtain ⟨m, h⟩ := FlashOnly.setFrnEpoch (s.setOwn 0) 0
  have h := (((FlashOnly.setOwn s 0).withMaxSeen m).trans h).withRequest 3 sides
  rw [State.setRequest_some { s with wit := { s.wit with own := 0, maxSeen := m } } (by decide) hs] at h
  exact ⟨m, h⟩

theorem handbackSeal_rows (s : State) (h : HandBack) (hh : s.rfl.handBack = some h) :
    (h.phase = 3 → h.finalTick = none → h.abandoned = false → h.sides % 4 ≠ 0 → Runs .handbackSeal s fun t =>
      t.rfl.handBack = some { h with finalTick := some s.now } ∧ t.wit.req = 3 ∧ t.wit.mask = h.sides ∧ SameMemory s t ∧
      (h.isReturn = false → t.wit.own = 0 ∧ t.lcs.mode = s.lcs.mode) ∧
      (h.isReturn = true → t.wit.own = s.wit.own &&& (3 ^^^ h.sides) ∧ t.lcs.mode = .soloActive) ∧
      (s.lcs.mode = .handBack → (∀ d ∈ s.rfl.deltas, d.tick ≠ s.now) → ∃ d ∈ t.rfl.deltas, d.tick = s.now ∧
        ∀ v ∈ s.heldViews, h.sides.testBit v.1 = true →
          (⟨2, v.1, 0, v.2.ftl.jseq, v.2.rdn.sseq, 0⟩ : Ctrl) ∈ d.ctrl)) ∧
    (h.phase ≠ 3 → exec .handbackSeal s = .next s) := by
  have he : exec .handbackSeal s = execHandbackSeal s := Eq.refl _
  simp only [execHandbackSeal, hh] at he
  constructor
  · intro hp hf ha hs
    have hs := ne_zero_of_sides hs
    have hnow : ¬(h.phase ≠ 3 ∨ h.finalTick.isSome = true ∨ h.abandoned = true) := by
      rw [hf, ha]
      exact fun hc => hc.elim (fun hn => hn hp) (fun hc => hc.elim Bool.noConfusion Bool.noConfusion)
    rw [if_neg hnow] at he
    obtain ⟨r, hfr, hrh, hrd⟩ := s.finalSealed_effect h
    change exec .handbackSeal s = Host.Outcome.next (if h.isReturn = true then
      (((s.finalSealed h).setOwn (s.wit.own &&& (3 ^^^ h.sides))).setRequest 3 h.sides).enterMode .soloActive
      else (((s.finalSealed h).setOwn 0).setFrnEpoch 0).setRequest 3 h.sides) at he
    generalize s.finalSealed h = u at he hfr
    have hlast : s.lcs.mode = .handBack → _ := fun hm => hrd (by rw [hm]; exact Eq.refl _)
    refine ⟨_, he, ?_⟩
    clear he
    rcases Bool.eq_false_or_eq_true h.isReturn with hret | hret
    · rw [if_pos hret]
      have hx := FlashOnly.release_return u (s.wit.own &&& (3 ^^^ h.sides)) h.sides hs
      generalize ((u.setOwn (s.wit.own &&& (3 ^^^ h.sides))).setRequest 3 h.sides).enterMode .soloActive = t at hx
      rw [hx.peer, hx.wit, hx.lcs]
      refine ⟨?_, Eq.refl _, Eq.refl _, sameMemory_of_mem (hx.mem.trans hfr.mem), fun hn => Bool.noConfusion (hret.symm.trans hn),
        fun _ => ⟨Eq.refl _, Eq.refl _⟩, ?_⟩
      · show u.rfl.handBack = _
        rw [hfr.peer]; exact hrh
      · show _ → _ → ∃ d ∈ u.rfl.deltas, _
        rw [hfr.peer]; exact hlast
    · rw [if_neg (by rw [hret]; exact Bool.false_ne_true)]
      obtain ⟨m, hx⟩ := FlashOnly.release_all u h.sides hs
      generalize ((u.setOwn 0).setFrnEpoch 0).setRequest 3 h.sides = t at hx
      rw [hx.peer, hx.wit, hx.lcs]
      refine ⟨?_, Eq.refl _, Eq.refl _, sameMemory_of_mem (hx.mem.trans hfr.mem), fun _ => ⟨Eq.refl _, ?_⟩,
        fun hn => Bool.noConfusion (hret.symm.trans hn), ?_⟩
      · show u.rfl.handBack = _
        rw [hfr.peer]; exact hrh
      · show u.lcs.mode = _
        rw [hfr.lcs]
      · show _ → _ → ∃ d ∈ u.rfl.deltas, _
        rw [hfr.peer]; exact hlast
  · intro hp
    rw [he, if_pos (Or.inl hp)]

/-! HANDBACK_DONE (R409 phase 4, R406). -/

/-- The state in Eclipse but for its registers and its mode (R406): nothing is asked for, and nothing of a Hand-Back or of an
adoption goes on. -/
def State.eclipsed (s : State) (before : Nat) : State := { s with
  wit := { s.wit with heldBefore := before, req := 0, mask := 0, grant := none },
  rfl := { s.rfl with adopt := none, handBack := none, unchecked := [], recover := 0, servesJoin := false },
  pcr := { s.pcr with classes := s.pcr.classes.map (fun c => { c with grant := 0 }) },
  flt := { s.flt with fatalHandBack := false } }

/-- JOIN_STATUS leaves its phase when Join ends. -/
def State.leaveJoin (s : State) (m : Mode) : State := if m = .join then s.put F.RFL.JOIN_STATUS.PHASE 0 else s

theorem State.enterEclipse_eq (s : State) (src : FenceSrc) : ∃ before, s.enterEclipse src =
    (((((s.setOwn 0).setFrnEpoch 0).eclipsed before).leaveJoin s.lcs.mode).put F.WIT.STATUS.FENCE_SRC src.code).enterMode
      .eclipse := ⟨_, Eq.refl _⟩

theorem FlashOnly.leaveJoin (s : State) (m : Mode) : FlashOnly s (s.leaveJoin m) := by
  unfold State.leaveJoin
  split
  · exact FlashOnly.put s _ _
  · exact FlashOnly.refl s

/-- A head in Eclipse holds no side and goes on with no Hand-Back (R406). -/
theorem State.enterEclipse_effect (s : State) (src : FenceSrc) : let t := s.enterEclipse src
    t.lcs.mode = .eclipse ∧ t.wit.own = 0 ∧ t.rfl.handBack = none ∧ t.mem = s.mem := by
  obtain ⟨before, he⟩ := s.enterEclipse_eq src
  obtain ⟨m, h2⟩ := FlashOnly.setFrnEpoch (s.setOwn 0) 0
  have h1 := (FlashOnly.setOwn s 0).withMaxSeen m |>.trans h2
  rw [he]
  generalize (s.setOwn 0).setFrnEpoch 0 = u at h1
  have h3 := (FlashOnly.leaveJoin (u.eclipsed before) s.lcs.mode).trans
    (FlashOnly.put _ F.WIT.STATUS.FENCE_SRC src.code)
  generalize ((u.eclipsed before).leaveJoin s.lcs.mode).put F.WIT.STATUS.FENCE_SRC src.code = v at h3
  have h4 := FlashOnly.enterMode v .eclipse
  refine ⟨?_, ?_, ?_, ?_⟩
  · rw [h4.lcs]
  · rw [h4.wit]
    show v.wit.own = 0
    rw [h3.wit]
    show u.wit.own = 0
    rw [h1.wit]
  · rw [h4.peer]
    show v.rfl.handBack = none
    rw [h3.peer]
    exact Eq.refl _
  · exact h4.mem.trans (h3.mem.trans h1.mem)

theorem State.leaveJoin_reg (s : State) (m : Mode) (a : Nat) (hj : a ≠ F.RFL.JOIN_STATUS.PHASE.addr) :
    (s.leaveJoin m).reg a = s.reg a := by
  unfold State.leaveJoin
  split
  · exact State.reg_put_other _ _ _ _ hj
  · exact Eq.refl _

/-- The registers of a head that holds no side and no epoch, when it enters Eclipse. -/
theorem State.enterEclipse_reg (s : State) (src : FenceSrc) (ho : s.wit.own = 0) (he : s.frnEpoch = 0) (a : Nat)
    (hr : a ∉ recordRegs) (hj : a ≠ F.RFL.JOIN_STATUS.PHASE.addr) (hf : a ≠ F.WIT.STATUS.FENCE_SRC.addr) :
    (s.enterEclipse src).reg a = s.reg a := by
  obtain ⟨before, h⟩ := s.enterEclipse_eq src
  have hu : (s.setOwn 0).setFrnEpoch 0 = s := by
    have h1 : s.setOwn 0 = s := if_pos ho
    rw [h1]
    exact if_pos he
  rw [h, hu, State.enterMode_reg _ _ _ hr, State.reg_put_other _ _ _ _ hf, State.leaveJoin_reg _ _ _ hj]
  exact Eq.refl _

/-- WIT.STATUS shows why the head entered Eclipse (R406). -/
theorem State.enterEclipse_fenceSrc (s : State) (src : FenceSrc) :
    (s.enterEclipse src).fld F.WIT.STATUS.FENCE_SRC = src.code := by
  obtain ⟨before, h⟩ := s.enterEclipse_eq src
  rw [h, State.fld_eq_of_reg (State.enterMode_reg _ _ _ (by decide)),
    State.fld_put_width _ _ _ 2 (by decide) (by rfl), Nat.mod_eq_of_lt (by cases src <;> decide)]

/-- RESULT of a Hand-Back (R409): no receiver, a drain cut short, or neither. -/
def HandBack.result (h : HandBack) : Nat := if !h.receiver then 2 else if h.limit then 3 else 0

theorem HandBack.result_lt (h : HandBack) : h.result < 2 ^ 4 := by
  unfold HandBack.result
  split
  · decide
  · split <;> decide

/-- The state that shows the end of a Hand-Back, before Eclipse is entered. -/
def State.handBackShown (s : State) (h : HandBack) : State :=
  ((s.put F.RFL.HANDBACK_STATUS.RESULT h.result).put F.RFL.HANDBACK_STATUS.PHASE 4).event Src.RFL 4 0 h.sides

theorem State.handBackShown_frame (s : State) (h : HandBack) : (s.handBackShown h).mem = s.mem ∧
    (s.handBackShown h).wit = s.wit ∧ (s.handBackShown h).frnEpoch = s.frnEpoch := by
  unfold State.handBackShown
  refine ⟨by simp only [State.event_mem, State.put_mem], by simp only [State.event_wit, State.put_wit], ?_⟩
  exact State.fld_eq_of_reg ((State.event_reg _ _ _ _ _ _ _ (by decide)).trans
    ((State.reg_put_other _ _ _ _ (by decide)).trans (State.reg_put_other _ _ _ _ (by decide))))

/-- HANDBACK_STATUS and EVENT show the end of a Hand-Back and its result. -/
theorem State.handBackShown_status (s : State) (h : HandBack) : Raises (s.handBackShown h) Src.RFL 4 ∧
    (s.handBackShown h).fld F.RFL.HANDBACK_STATUS.PHASE = 4 ∧
    (s.handBackShown h).fld F.RFL.HANDBACK_STATUS.RESULT = h.result := by
  unfold State.handBackShown
  refine ⟨?_, ?_, ?_⟩
  · exact raises_of_signals (by decide) (State.event_signals _ _ _ _ _ _ _ (by decide) (Eq.refl _) (Eq.refl _) (Eq.refl _))
  · exact (State.fld_eq_of_reg (State.event_reg _ _ _ _ _ _ _ (by decide))).trans
      (State.fld_put_width _ _ _ 3 (by decide) (by rfl))
  · refine (State.fld_eq_of_reg (State.event_reg _ _ _ _ _ _ _ (by decide))).trans
      ((State.fld_put_other _ _ _ _ (by decide) (by decide) (by decide)).trans
        ((State.fld_put_width _ _ _ 4 (by decide) (by rfl)).trans (Nat.mod_eq_of_lt h.result_lt)))

theorem handbackDone_rows (s : State) (h : HandBack) (hh : s.rfl.handBack = some h) (f : Nat) (hf : h.finalTick = some f)
    (hret : h.isReturn = false) (ha : h.abandoned = false) :
    ((if h.receiver then f ≤ s.rfl.acked else f < s.now) → h.sides % 4 ≠ 0 → Runs .handbackDone s fun t =>
      t.lcs.mode = .eclipse ∧ t.wit.own = 0 ∧ t.rfl.handBack = none ∧ t.wit.req = 3 ∧ t.wit.mask = h.sides ∧
      SameMemory s t ∧ (s.wit.own = 0 → s.frnEpoch = 0 → Raises t Src.RFL 4 ∧ t.fld F.RFL.HANDBACK_STATUS.PHASE = 4 ∧ t.fld F.WIT.STATUS.FENCE_SRC = 3 ∧
        t.fld F.RFL.HANDBACK_STATUS.RESULT = (if h.receiver = false then 2 else if h.limit then 3 else 0))) ∧
    (h.receiver = true → s.rfl.acked < f → exec .handbackDone s = .next s) := by
  have he : exec .handbackDone s = execHandbackDone s := Eq.refl _
  simp only [execHandbackDone, hh, hf, hret, ha] at he
  constructor
  · intro hdue hs
    have hs := ne_zero_of_sides hs
    have hdue : (if h.receiver = true then decide (s.rfl.acked ≥ f) else decide (s.now > f)) = true := by
      revert hdue
      split <;> exact decide_eq_true
    rw [if_neg (by rw [hdue]; decide)] at he
    change exec .handbackDone s =
      Host.Outcome.next (((s.handBackShown h).enterEclipse .handBackOrFault).setRequest 3 h.sides) at he
    obtain ⟨hm, hw, hep⟩ := s.handBackShown_frame h
    obtain ⟨hev, hphase, hresult⟩ := s.handBackShown_status h
    generalize s.handBackShown h = u at he hm hw hep hev hphase hresult
    obtain ⟨emode, eown, ehand, emem⟩ := u.enterEclipse_effect .handBackOrFault
    have esrc := u.enterEclipse_fenceSrc .handBackOrFault
    have ereg := u.enterEclipse_reg .handBackOrFault
    generalize u.enterEclipse .handBackOrFault = v at he emode eown ehand emem esrc ereg
    rw [State.setRequest_some _ (by decide) hs] at he
    refine ⟨_, he, emode, eown, ehand, Eq.refl _, Eq.refl _, sameMemory_of_mem (emem.trans hm), fun ho hz => ?_⟩
    have ereg := ereg (by rw [hw]; exact ho) (hep.trans hz)
    refine ⟨raises_of_reg (ereg _ (by decide) (by decide) (by decide)) hev,
      (State.fld_eq_of_reg (ereg _ (by decide) (by decide) (by decide))).trans hphase, esrc,
      (State.fld_eq_of_reg (ereg _ (by decide) (by decide) (by decide))).trans (hresult.trans ?_)⟩
    unfold HandBack.result
    cases h.receiver <;> exact Eq.refl _
  · intro hrec hlate
    rw [he, if_pos]
    rw [if_pos hrec, decide_eq_false (by omega)]
    exact Or.inr (Or.inr (Eq.refl _))

end Sys2Proof.Machine
end

section
/-!
The statement on the witness and on ownership, from the rows above.
-/

open Sys2Proof Sys2Proof.Machine

/-- Settles O54: one lemma for each row, in the order of the statement. -/
theorem witnessAndOwnershipRows : Obligations.WitnessAndOwnershipRows := by
  refine ⟨fun s link w => execWitnessSlot_unheard, fun s link w hl hh hn => ⟨?_, ?_, ?_, ?_⟩, epochLoss_rows, umbraLink_rows,
    umbraMidwaySlot_rows, leaseExpired_rows, unheldSideClaim_rows, adoptFencesDone_rows, adoptJournalRead_rows,
    stripeCheck_rows, handbackStart_rows, fun s h hh => ?_⟩
  · exact witnessSlot_notIntact hl hh hn
  · exact witnessSlot_badForm hl hh hn
  · exact witnessSlot_otherArray hl hh hn
  · exact witnessSlot_valid hl hh hn
  · obtain ⟨hfree, hlate, hwait⟩ := drainEnd_rows s h hh
    obtain ⟨hseal, hnot⟩ := handbackSeal_rows s h hh
    exact ⟨hfree, hlate, hwait, hseal, hnot, handbackDone_rows s h hh⟩
end
section
/-!
The tick: its start, the alignment to the witness reference, and the state that a reset leaves (R23, R29, R40 to R46).
-/

namespace Sys2Proof.Machine

/-! Modes of phase correction (R42). -/

theorem State.correctPhase_align (s : State) (t : Tck) (err trim : Int) : (s.correctPhase t err trim).align = t.align := by
  unfold State.correctPhase; split <;> exact Eq.refl _

theorem State.correctPhase_goodRun (s : State) (t : Tck) (err trim : Int) :
    (s.correctPhase t err trim).goodRun = t.goodRun := by
  unfold State.correctPhase; split <;> exact Eq.refl _

/-- In a mode that steps, a head that has not stepped yet steps by the whole error. -/
theorem State.correctPhase_steps {s : State} {t : Tck} (err trim : Int) (h : s.lcs.mode.stepsPhase = true)
    (ht : t.stepped = false) : s.correctPhase t err trim = { t with stepped := true, step := -err } := by
  unfold State.correctPhase; rw [h, ht]; exact Eq.refl _

/-- A head that has stepped slews. -/
theorem State.correctPhase_slews {s : State} {t : Tck} (err trim : Int) (ht : t.stepped = true) :
    s.correctPhase t err trim = { t with step := 0, trim := s.clampTrim trim } := by
  unfold State.correctPhase; rw [ht, Bool.not_true, Bool.and_false]; exact Eq.refl _

/-- In a mode that does not step, a head slews. -/
theorem State.correctPhase_slews_of_mode {s : State} (t : Tck) (err trim : Int) (h : s.lcs.mode.stepsPhase = false) :
    s.correctPhase t err trim = { t with step := 0, trim := s.clampTrim trim } := by
  unfold State.correctPhase; rw [h, Bool.false_and]; exact Eq.refl _

theorem State.followPeer_align (s : State) (t : Tck) (trim : Int) : (s.followPeer t trim).align = t.align := by
  unfold State.followPeer; split
  · exact State.correctPhase_align ..
  · exact Eq.refl _

theorem State.followPeer_goodRun (s : State) (t : Tck) (trim : Int) : (s.followPeer t trim).goodRun = t.goodRun := by
  unfold State.followPeer; split
  · exact State.correctPhase_goodRun ..
  · exact Eq.refl _

/-- A head that is no follower makes no correction toward its peer. -/
theorem State.followPeer_of_not_follower {s : State} (t : Tck) (trim : Int) (h : s.alignRole ≠ 2) :
    s.followPeer t trim = { t with step := 0 } := if_neg (fun a => h a.1)

/-- A follower beyond 100 ns corrects toward its peer. -/
theorem State.followPeer_of_follower {s : State} (t : Tck) (trim : Int) (h : s.alignRole = 2)
    (hp : 100 < s.tck.peerOffset.natAbs) : s.followPeer t trim = s.correctPhase t (4 * s.tck.peerOffset) trim :=
  if_pos ⟨h, hp⟩

/-! A boundary in each state of the alignment (R43, R45). -/

section Boundary

variable {s : State} (x : BoundarySample)

theorem State.alignBoundary_free (h : s.tck.align = .free) : s.alignBoundary x =
    { s with tck := s.followPeer { s.tck with phaseErr := 0, goodRun := 0 } x.trim } := by
  unfold State.alignBoundary; simp only [h]

theorem State.alignBoundary_holdover (h : s.tck.align = .holdover) : s.alignBoundary x =
    { s with tck := s.followPeer { s.tck with phaseErr := x.phaseErr, goodRun := 0 } x.trim } := by
  unfold State.alignBoundary; simp only [h]

theorem State.alignBoundary_acquire (h : s.tck.align = .acquire) : s.alignBoundary x =
    { s with tck := s.correctPhase { s.tck with
        phaseErr := x.phaseErr, goodRun := if within50 x.phaseErr then s.tck.goodRun + 1 else 0 } x.phaseErr x.trim } := by
  unfold State.alignBoundary; simp only [h]

/-- In LOCKED a phase error within 50 ns, or of a reference that is not valid, keeps the lock. -/
theorem State.alignBoundary_locked (h : s.tck.align = .locked)
    (hk : within50 x.phaseErr || !s.tck.refValid s.tck.refLink) :
    s.alignBoundary x = { s with tck := s.correctPhase { s.tck with phaseErr := x.phaseErr } x.phaseErr x.trim } := by
  unfold State.alignBoundary; simp only [h]; exact if_pos hk

/-- In LOCKED a phase error beyond 50 ns of a valid reference loses the lock. -/
theorem State.alignBoundary_unlocked (h : s.tck.align = .locked)
    (hk : (within50 x.phaseErr || !s.tck.refValid s.tck.refLink) = false) : s.alignBoundary x =
    ({ s with tck := { s.correctPhase { s.tck with phaseErr := x.phaseErr } x.phaseErr x.trim with
      align := .acquire, goodRun := 0 } } : State).event Src.TCK 1 := by
  unfold State.alignBoundary; simp only [h]; exact if_neg (by rw [hk]; exact Bool.false_ne_true)

end Boundary

theorem within50_of_le {err : Int} (h : err.natAbs ≤ 200) : within50 err = true := decide_eq_true h

theorem within50_of_gt {err : Int} (h : 200 < err.natAbs) : within50 err = false := decide_eq_false (by omega)

end Sys2Proof.Machine
end

section
/-!
The statements on the reset state, on the start of the ticks, and on the alignment at a boundary.
-/

open Sys2Proof Sys2Proof.Machine

namespace Sys2Proof.Machine

/-- With nothing listed, every register reads its reset value. -/
theorem State.reg_of_regs_nil {s : State} (h : s.regs = []) (a : Nat) : s.reg a = regReset a := by
  unfold State.reg; rw [h]; exact Eq.refl _

/-- With nothing listed, every byte reads 0 (assumption 2). -/
theorem State.byte_of_mem_nil {s : State} (h : s.mem = []) (a : Nat) : s.byte a = 0 := by
  unfold State.byte; rw [h]; exact Eq.refl _

/-- While ticks run a boundary leaves TICK_COUNT one more. -/
theorem execTickBoundary_ticking {s : State} (x : BoundarySample) (h : s.tck.ticking = true) :
    Runs (.tickBoundary x) s fun t => t.tck.tick = s.tck.tick + 1 := by
  refine ⟨_, congrArg Host.Outcome.next (if_neg ?_), Eq.refl _⟩
  rw [h]; exact Bool.false_ne_true

/-- The trim of a boundary stays within the slew bound (R42). -/
theorem State.clampTrim_bounds (s : State) (x : Int) (h : 0 ≤ s.maxTrim) :
    -s.maxTrim ≤ s.clampTrim x ∧ s.clampTrim x ≤ s.maxTrim := by
  unfold State.clampTrim; omega

/-- A peer that reports another tick length gives no role (R46). -/
theorem State.alignRole_of_tickLen {s : State} {m : Mark} (hm : s.rfl.mark = some m)
    (h : m.tickLen ≠ s.fld F.TCK.CONFIG.TICK_LEN) : s.alignRole = 0 := by
  unfold State.alignRole
  split
  · exact Eq.refl _
  · simp only [hm]; exact if_pos h

/-- Lock lost at a boundary: the state goes to ACQUIRE with EVENT bit 1 (R43). -/
theorem State.alignBoundary_loses {s : State} (x : BoundarySample) (h : s.tck.align = .locked)
    (he : 200 < x.phaseErr.natAbs) (hv : s.tck.refValid s.tck.refLink = true) :
    let t := s.alignBoundary x
    t.tck.align = .acquire ∧ t.tck.goodRun = 0 ∧ Signals s t Src.TCK 1 0 ∧ SameRegs (eventRegs Src.TCK) s t := by
  have hk : (within50 x.phaseErr || !s.tck.refValid s.tck.refLink) = false := by rw [within50_of_gt he, hv]; exact Eq.refl _
  rw [State.alignBoundary_unlocked x h hk]
  refine ⟨?_, ?_, ?_, fun a ha => ?_⟩
  · rw [State.event_tck]
  · rw [State.event_tck]
  · refine State.event_signals _ s _ _ _ _ _ (by decide) (Eq.refl _) (Eq.refl _) ?_
    show (s.correctPhase _ _ _).tick = _
    unfold State.correctPhase; split <;> exact Eq.refl _
  · rw [State.event_reg _ _ _ _ _ _ _ ha]; exact Eq.refl _

/-- In HOLDOVER a boundary keeps the state, and the trim of a head that is no follower (R43, R45). -/
theorem State.alignBoundary_holds {s : State} (x : BoundarySample) (h : s.tck.align = .holdover) :
    (s.alignBoundary x).tck.align = .holdover ∧ (s.alignBoundary x).tck.goodRun = 0 ∧
      (s.alignRole ≠ 2 → (s.alignBoundary x).tck.trim = s.tck.trim ∧ (s.alignBoundary x).tck.step = 0) := by
  rw [State.alignBoundary_holdover x h]
  refine ⟨?_, ?_, fun hr => ?_⟩
  · exact (State.followPeer_align ..).trans h
  · exact State.followPeer_goodRun ..
  · dsimp only
    rw [State.followPeer_of_not_follower _ _ hr]
    exact ⟨Eq.refl _, Eq.refl _⟩

/-- A follower slews toward its peer in FREE and HOLDOVER, in the modes that do not step (R42, R45). -/
theorem State.alignBoundary_follows {s : State} (x : BoundarySample) (h : s.tck.align = .holdover ∨ s.tck.align = .free)
    (hr : s.alignRole = 2) (hp : 100 < s.tck.peerOffset.natAbs) (hm : s.lcs.mode.stepsPhase = false) :
    (s.alignBoundary x).tck.trim = s.clampTrim x.trim ∧ (s.alignBoundary x).tck.step = 0 := by
  rcases h with h | h
  · rw [State.alignBoundary_holdover x h]
    dsimp only
    rw [State.followPeer_of_follower _ _ hr hp, State.correctPhase_slews_of_mode _ _ _ hm]
    exact ⟨Eq.refl _, Eq.refl _⟩
  · rw [State.alignBoundary_free x h]
    dsimp only
    rw [State.followPeer_of_follower _ _ hr hp, State.correctPhase_slews_of_mode _ _ _ hm]
    exact ⟨Eq.refl _, Eq.refl _⟩

/-- In ACQUIRE a boundary counts in the run of good ones, or starts it again (R43). -/
theorem State.alignBoundary_acquire_run {s : State} (x : BoundarySample) (h : s.tck.align = .acquire) :
    (s.alignBoundary x).tck.goodRun = (if within50 x.phaseErr then s.tck.goodRun + 1 else 0) ∧
      (s.alignBoundary x).tck.align = .acquire := by
  rw [State.alignBoundary_acquire x h]
  exact ⟨State.correctPhase_goodRun .., (State.correctPhase_align ..).trans h⟩

/-- In ACQUIRE in a mode that steps, the first boundary steps and those after it slew (R42, assumption 51). -/
theorem State.alignBoundary_acquire_phase {s : State} (x : BoundarySample) (h : s.tck.align = .acquire)
    (hm : s.lcs.mode.stepsPhase = true) :
    (s.tck.stepped = false → (s.alignBoundary x).tck.step = -x.phaseErr ∧ (s.alignBoundary x).tck.stepped = true) ∧
      (s.tck.stepped = true → (s.alignBoundary x).tck.step = 0 ∧ (s.alignBoundary x).tck.trim = s.clampTrim x.trim) := by
  rw [State.alignBoundary_acquire x h]
  constructor
  · intro hs
    dsimp only
    rw [State.correctPhase_steps _ _ hm (by exact hs)]
    exact ⟨Eq.refl _, Eq.refl _⟩
  · intro hs
    dsimp only
    rw [State.correctPhase_slews _ _ (by exact hs)]
    exact ⟨Eq.refl _, Eq.refl _⟩

/-- In LOCKED a boundary within 50 ns keeps the lock and records nothing (R43). -/
theorem State.alignBoundary_keeps {s : State} (x : BoundarySample) (h : s.tck.align = .locked)
    (he : x.phaseErr.natAbs ≤ 200) : (s.alignBoundary x).tck.align = .locked ∧ (s.alignBoundary x).evr = s.evr := by
  rw [State.alignBoundary_locked x h (by rw [within50_of_le he]; exact Eq.refl _)]
  exact ⟨(State.correctPhase_align ..).trans h, Eq.refl _⟩

end Sys2Proof.Machine

/-- Settles O3: the reset state lists no register and no byte, so every register reads its reset value and every byte 0. -/
theorem resetState : Obligations.ResetState := by
  refine ⟨State.reset_mem_wf, State.byte_of_mem_nil (Eq.refl _), State.reg_of_regs_nil (Eq.refl _), ?_⟩
  exact ⟨Eq.refl _, Eq.refl _, Eq.refl _, Eq.refl _, Eq.refl _, Eq.refl _, Eq.refl _, Eq.refl _, Eq.refl _, Eq.refl _⟩

/-- Settles O6: both commands look at `ticking` alone. -/
theorem ticksRunFromPorstRelease : Obligations.TicksRunFromPorstRelease := by
  refine ⟨fun s hslot h => congrArg Host.Outcome.next (if_neg ?_), fun s hslot h => congrArg Host.Outcome.next (if_pos h),
    fun s x h => execTickBoundary_ticking x h, fun s x h => congrArg Host.Outcome.next (if_pos ?_)⟩
  · rw [h]; exact Bool.false_ne_true
  · rw [h]; exact Eq.refl _

/-- Settles O7: one lemma for each state of the alignment. -/
theorem boundaryAlignment : Obligations.BoundaryAlignment := by
  refine ⟨fun s => Eq.refl _, fun s x => State.alignBoundary_loses x, fun s x => State.alignBoundary_keeps x,
    fun s x h he => ?_, fun s x h he => ?_, fun s x => State.alignBoundary_holds x, fun s x => State.alignBoundary_follows x,
    fun s x => State.alignBoundary_acquire_phase x, State.clampTrim_bounds, fun s m => State.alignRole_of_tickLen⟩
  · rw [(State.alignBoundary_acquire_run x h).1, within50_of_le he]; exact Eq.refl _
  · obtain ⟨hrun, hal⟩ := State.alignBoundary_acquire_run x h
    rw [within50_of_gt he] at hrun
    exact ⟨hrun, hal⟩
end

section
/-!
The alignment commands (R41, R43, R44), and what a cold reset leaves (R29, R463).
-/

namespace Sys2Proof.Machine

/-! The validity of the references (R41). -/

section References

variable (t : Tck) (link : Nat) (v : Bool)

theorem Tck.refValid_setRef_same : (t.setRef link v).refValid link = v := by
  unfold Tck.refValid Tck.setRef; split <;> exact Eq.refl _

/-- Setting the reference of a link leaves that of the other. -/
theorem Tck.refValid_setRef_other (h : link < 2) : (t.setRef link v).refValid (1 - link) = t.refValid (1 - link) := by
  obtain rfl | rfl : link = 0 ∨ link = 1 := by omega
  · exact Eq.refl _
  · exact Eq.refl _

@[simp] theorem Tck.setRef_align : (t.setRef link v).align = t.align := by
  unfold Tck.setRef; split <;> exact Eq.refl _

@[simp] theorem Tck.setRef_refLink : (t.setRef link v).refLink = t.refLink := by
  unfold Tck.setRef; split <;> exact Eq.refl _

@[simp] theorem Tck.setRef_tick : (t.setRef link v).tick = t.tick := by
  unfold Tck.setRef; split <;> exact Eq.refl _

theorem Tck.setRef_true (h : link < 2) : t.setRef link true =
    { t with refValid0 := t.refValid0 || (link == 0), refValid1 := t.refValid1 || (link == 1) } := by
  obtain rfl | rfl : link = 0 ∨ link = 1 := by omega
  · simp [Tck.setRef]
  · simp [Tck.setRef]

end References

/-! REF_VALID. -/

/-- TCK after the reference of a link has become valid (R43): FREE with the link in use, and HOLDOVER, go to ACQUIRE on a link
that may be selected. -/
def State.reacquire (s : State) (link : Nat) : Tck :=
  let t := s.tck.setRef link true
  if s.tck.align = .free ∧ s.selectable link = true ∧ s.tck.refLink = link then
    { t with align := .acquire, goodRun := 0, stepped := false }
  else if s.tck.align = .holdover ∧ s.selectable link = true then { t with align := .acquire, refLink := link, goodRun := 0 }
  else t

theorem execRefValid_eq {s : State} {link : Nat} (h : link < 2) :
    execRefValid link s = .next { s with tck := s.reacquire link } := by
  have hl : ¬ link ≥ 2 := by omega
  unfold execRefValid State.reacquire
  rw [if_neg hl, ← Tck.setRef_true _ _ h]
  cases ha : s.tck.align <;> simp only [Tck.setRef_align, ha, Tck.setRef_refLink, reduceCtorEq, false_and, true_and, if_false]
  case free => simp only [Bool.and_eq_true, beq_iff_eq]; split <;> exact Eq.refl _
  case holdover => split <;> exact Eq.refl _

theorem State.reacquire_refValid (s : State) (link i : Nat) :
    (s.reacquire link).refValid i = (s.tck.setRef link true).refValid i := by
  unfold State.reacquire
  dsimp only
  split
  · exact Eq.refl _
  · split <;> exact Eq.refl _

theorem State.reacquire_free {s : State} {link : Nat} (ha : s.tck.align = .free) (hs : s.selectable link = true)
    (hl : s.tck.refLink = link) :
    s.reacquire link = { s.tck.setRef link true with align := .acquire, goodRun := 0, stepped := false } :=
  if_pos ⟨ha, hs, hl⟩

theorem State.reacquire_holdover {s : State} {link : Nat} (ha : s.tck.align = .holdover) (hs : s.selectable link = true) :
    s.reacquire link = { s.tck.setRef link true with align := .acquire, refLink := link, goodRun := 0 } := by
  unfold State.reacquire
  rw [ha]
  exact (if_neg (fun h => by cases h.1)).trans (if_pos ⟨Eq.refl _, hs⟩)

/-- A head that follows a reference goes on with it. -/
theorem State.reacquire_following {s : State} (link : Nat) (ha : s.tck.align = .locked ∨ s.tck.align = .acquire) :
    s.reacquire link = s.tck.setRef link true := by
  unfold State.reacquire
  rcases ha with ha | ha <;> rw [ha] <;> exact (if_neg (fun h => by cases h.1)).trans (if_neg (fun h => by cases h.1))

theorem refValid_rows (s : State) (link : Nat) (h : link < 2) : Runs (.refValid link) s fun t =>
    t.tck.refValid link = true ∧ t.tck.refValid (1 - link) = s.tck.refValid (1 - link) ∧ t = { s with tck := t.tck } ∧
    (s.tck.align = .free → s.selectable link = true → s.tck.refLink = link → t.tck.align = .acquire ∧ t.tck.goodRun = 0) ∧
    (s.tck.align = .holdover → s.selectable link = true →
      t.tck.align = .acquire ∧ t.tck.refLink = link ∧ t.tck.goodRun = 0) ∧
    (s.tck.align = .locked ∨ s.tck.align = .acquire → t.tck.align = s.tck.align ∧ t.tck.refLink = s.tck.refLink) := by
  refine ⟨_, execRefValid_eq h, ?_, ?_, Eq.refl _, fun ha hs hl => ?_, fun ha hs => ?_, fun ha => ?_⟩
  · exact (State.reacquire_refValid ..).trans (Tck.refValid_setRef_same ..)
  · exact (State.reacquire_refValid ..).trans (Tck.refValid_setRef_other _ _ _ h)
  · rw [State.reacquire_free ha hs hl]; exact ⟨Eq.refl _, Eq.refl _⟩
  · rw [State.reacquire_holdover ha hs]; exact ⟨Eq.refl _, Eq.refl _, Eq.refl _⟩
  · rw [State.reacquire_following link ha]; exact ⟨Tck.setRef_align .., Tck.setRef_refLink ..⟩

/-! REF_MISSING. -/

/-- TCK given a new state, with an EVENT bit of TCK that names a link: what is as before, and what is signalled. -/
theorem State.event_tck_signals (s : State) (t : Tck) (bit unit : Nat) (ht : t.tick = s.tck.tick) :
    let u := ({ s with tck := t } : State).event Src.TCK bit unit
    u.tck = t ∧ Signals s u Src.TCK bit unit ∧ SameRegs (eventRegs Src.TCK) s u ∧
      u = { s with tck := u.tck, regs := u.regs, evr := u.evr } := by
  refine ⟨State.event_tck .., ?_, ?_, ?_⟩
  · exact State.event_signals _ s _ _ _ _ _ (by decide) (Eq.refl _) (Eq.refl _) ht
  · exact fun a ha => State.event_reg ({ s with tck := t } : State) _ _ _ _ _ a ha
  · have h := State.eq_of_unrecorded (State.event_unrecorded ({ s with tck := t } : State) Src.TCK bit unit 0 0)
    rw [State.event_tck]
    exact h

section Missing

variable {s : State} {link : Nat}

/-- The head may go over to the other link (R44): SRC is auto, and the reference of that link is valid. -/
def State.maySwitch (s : State) (link : Nat) : Bool := s.fld F.TCK.REF_CTL.SRC == 2 && s.tck.refValid (1 - link)

/-- TCK as it goes over to the other link. -/
def Tck.switched (t : Tck) (link : Nat) : Tck := { t with align := .acquire, refLink := 1 - link, goodRun := 0 }

/-- TCK as it enters HOLDOVER, and FREE. -/
def Tck.holding (t : Tck) : Tck := { t with align := .holdover, holdSince := t.tick }
def Tck.freed (t : Tck) : Tck := { t with align := .free, goodRun := 0 }

/-- What REF_MISSING of a link in use does, by the state of the alignment. -/
theorem execRefMissing_inUse (h : link < 2) (hl : s.tck.refLink = link) : execRefMissing link s =
    let u := s.tck.setRef link false
    .next (match s.tck.align with
      | .locked =>
        if s.maySwitch link then ({ s with tck := u.switched link } : State).event Src.TCK 3 (1 - link)
        else ({ s with tck := u.holding } : State).event Src.TCK 2 link
      | .acquire =>
        if s.maySwitch link then ({ s with tck := u.switched link } : State).event Src.TCK 3 (1 - link)
        else ({ s with tck := u.freed } : State).event Src.TCK 2 link
      | _ => { s with tck := u }) := by
  have h2 : ¬ link ≥ 2 := by omega
  have hs : (({ s with tck := s.tck.setRef link false } : State).fld F.TCK.REF_CTL.SRC == 2 &&
      (s.tck.setRef link false).refValid (1 - link)) = s.maySwitch link := by
    rw [Tck.refValid_setRef_other _ _ _ h]; exact Eq.refl _
  unfold execRefMissing
  rw [if_neg h2]
  dsimp only
  rw [if_neg (by rw [Tck.setRef_refLink, hl]; exact fun h => h (Eq.refl _)), hs, Tck.setRef_align]
  cases s.tck.align <;> exact Eq.refl _

/-- A link that is not in use loses its reference and nothing else. -/
theorem execRefMissing_notInUse (h : link < 2) (hl : s.tck.refLink ≠ link) :
    execRefMissing link s = .next { s with tck := s.tck.setRef link false } := by
  have h2 : ¬ link ≥ 2 := by omega
  unfold execRefMissing
  rw [if_neg h2]
  exact congrArg Host.Outcome.next (if_pos (by rw [Tck.setRef_refLink]; exact hl))

theorem execRefMissing_switches (h : link < 2) (hl : s.tck.refLink = link) (hs : s.maySwitch link = true)
    (ha : s.tck.align = .locked ∨ s.tck.align = .acquire) : execRefMissing link s =
    .next (({ s with tck := (s.tck.setRef link false).switched link } : State).event Src.TCK 3 (1 - link)) := by
  rw [execRefMissing_inUse h hl]
  rcases ha with ha | ha <;> rw [ha] <;> exact congrArg Host.Outcome.next (if_pos hs)

theorem execRefMissing_holds (h : link < 2) (hl : s.tck.refLink = link) (hs : s.maySwitch link = false)
    (ha : s.tck.align = .locked) : execRefMissing link s =
    .next (({ s with tck := (s.tck.setRef link false).holding } : State).event Src.TCK 2 link) := by
  rw [execRefMissing_inUse h hl, ha]
  exact congrArg Host.Outcome.next (if_neg (by rw [hs]; exact Bool.false_ne_true))

theorem execRefMissing_frees (h : link < 2) (hl : s.tck.refLink = link) (hs : s.maySwitch link = false)
    (ha : s.tck.align = .acquire) : execRefMissing link s =
    .next (({ s with tck := (s.tck.setRef link false).freed } : State).event Src.TCK 2 link) := by
  rw [execRefMissing_inUse h hl, ha]
  exact congrArg Host.Outcome.next (if_neg (by rw [hs]; exact Bool.false_ne_true))

/-- A head that follows no reference loses none. -/
theorem execRefMissing_idle (h : link < 2) (hl : s.tck.refLink = link) (h1 : s.tck.align ≠ .locked)
    (h2 : s.tck.align ≠ .acquire) : execRefMissing link s = .next { s with tck := s.tck.setRef link false } := by
  rw [execRefMissing_inUse h hl]
  cases ha : s.tck.align
  case locked => exact absurd ha h1
  case acquire => exact absurd ha h2
  all_goals exact Eq.refl _

/-- What REF_MISSING leaves in each case: TCK with the reference of the link lost, and an EVENT bit of TCK at most. -/
theorem execRefMissing_cases (h : link < 2) : ∃ u : Tck, u.refValid link = false ∧ u.tick = s.tck.tick ∧
    (execRefMissing link s = .next { s with tck := u } ∨
      ∃ bit unit, execRefMissing link s = .next (({ s with tck := u } : State).event Src.TCK bit unit)) := by
  have hv := Tck.refValid_setRef_same s.tck link false
  have ht := Tck.setRef_tick s.tck link false
  by_cases hl : s.tck.refLink = link
  case neg => exact ⟨_, hv, ht, .inl (execRefMissing_notInUse h hl)⟩
  by_cases h1 : s.tck.align = .locked
  · cases hs : s.maySwitch link
    · exact ⟨(s.tck.setRef link false).holding, hv, ht, .inr ⟨2, link, execRefMissing_holds h hl hs h1⟩⟩
    · exact ⟨(s.tck.setRef link false).switched link, hv, ht, .inr ⟨3, 1 - link, execRefMissing_switches h hl hs (.inl h1)⟩⟩
  by_cases h2 : s.tck.align = .acquire
  · cases hs : s.maySwitch link
    · exact ⟨(s.tck.setRef link false).freed, hv, ht, .inr ⟨2, link, execRefMissing_frees h hl hs h2⟩⟩
    · exact ⟨(s.tck.setRef link false).switched link, hv, ht, .inr ⟨3, 1 - link, execRefMissing_switches h hl hs (.inr h2)⟩⟩
  · exact ⟨_, hv, ht, .inl (execRefMissing_idle h hl h1 h2)⟩

theorem State.maySwitch_of_auto (h : s.fld F.TCK.REF_CTL.SRC = 2) (hv : s.tck.refValid (1 - link) = true) :
    s.maySwitch link = true := by
  unfold State.maySwitch; rw [h, hv]; exact Eq.refl _

theorem State.maySwitch_of_not (h : s.fld F.TCK.REF_CTL.SRC ≠ 2 ∨ s.tck.refValid (1 - link) = false) :
    s.maySwitch link = false := by
  unfold State.maySwitch
  rcases h with h | h
  · rw [beq_eq_false_iff_ne.mpr h]; exact Eq.refl _
  · rw [h, Bool.and_false]

end Missing

theorem refMissing_rows (s : State) (link : Nat) (h : link < 2) : Runs (.refMissing link) s fun t =>
    t.tck.refValid link = false ∧ SameRegs (eventRegs Src.TCK) s t ∧
    t = { s with tck := t.tck, regs := t.regs, evr := t.evr } ∧
    (s.tck.refLink ≠ link → t.tck.align = s.tck.align ∧ t.regs = s.regs ∧ t.evr = s.evr) ∧
    (s.tck.refLink = link → s.fld F.TCK.REF_CTL.SRC = 2 → s.tck.refValid (1 - link) = true →
      s.tck.align = .locked ∨ s.tck.align = .acquire →
      t.tck.align = .acquire ∧ t.tck.refLink = 1 - link ∧ t.tck.goodRun = 0 ∧ Signals s t Src.TCK 3 (1 - link)) ∧
    (s.tck.refLink = link → (s.fld F.TCK.REF_CTL.SRC ≠ 2 ∨ s.tck.refValid (1 - link) = false) → s.tck.align = .locked →
      t.tck.align = .holdover ∧ t.tck.holdSince = s.tck.tick ∧ Signals s t Src.TCK 2 link) ∧
    (s.tck.refLink = link → (s.fld F.TCK.REF_CTL.SRC ≠ 2 ∨ s.tck.refValid (1 - link) = false) → s.tck.align = .acquire →
      t.tck.align = .free ∧ Signals s t Src.TCK 2 link) := by
  obtain ⟨t, ht⟩ : ∃ t, execRefMissing link s = .next t := ⟨_, Eq.refl _⟩
  have is {u : State} (hu : execRefMissing link s = .next u) : t = u := Host.Outcome.next.inj (ht.symm.trans hu)
  have tick := Tck.setRef_tick s.tck link false
  obtain ⟨hvalid, hregs, hframe⟩ : t.tck.refValid link = false ∧ SameRegs (eventRegs Src.TCK) s t ∧
      t = { s with tck := t.tck, regs := t.regs, evr := t.evr } := by
    obtain ⟨u, hv, hk, hu | ⟨bit, unit, hu⟩⟩ := execRefMissing_cases (s := s) h
    · rw [is hu]; exact ⟨hv, fun a _ => Eq.refl _, Eq.refl _⟩
    · obtain ⟨htck, _, hr, hf⟩ := State.event_tck_signals s u bit unit hk
      rw [is hu]; exact ⟨by rw [htck]; exact hv, hr, hf⟩
  refine ⟨t, ht, hvalid, hregs, hframe, fun hl => ?_, fun hl hs hv ha => ?_, fun hl hs ha => ?_, fun hl hs ha => ?_⟩
  · rw [is (execRefMissing_notInUse h hl)]
    exact ⟨Tck.setRef_align .., Eq.refl _, Eq.refl _⟩
  · obtain ⟨htck, hsig, _, _⟩ := State.event_tck_signals s ((s.tck.setRef link false).switched link) 3 (1 - link) tick
    rw [is (execRefMissing_switches h hl (State.maySwitch_of_auto hs hv) ha), htck]
    exact ⟨Eq.refl _, Eq.refl _, Eq.refl _, hsig⟩
  · obtain ⟨htck, hsig, _, _⟩ := State.event_tck_signals s (s.tck.setRef link false).holding 2 link tick
    rw [is (execRefMissing_holds h hl (State.maySwitch_of_not hs) ha), htck]
    exact ⟨Eq.refl _, tick, hsig⟩
  · obtain ⟨htck, hsig, _, _⟩ := State.event_tck_signals s (s.tck.setRef link false).freed 2 link tick
    rw [is (execRefMissing_frees h hl (State.maySwitch_of_not hs) ha), htck]
    exact ⟨Eq.refl _, hsig⟩

/-! LOCK_GAINED and HOLDOVER_END. -/

theorem lockGained_rows (s : State) (ha : s.tck.align = .acquire) (hg : 16 ≤ s.tck.goodRun) : Runs .lockGained s fun t =>
    t.tck = { s.tck with align := .locked } ∧ Signals s t Src.TCK 0 0 ∧ SameRegs (eventRegs Src.TCK) s t ∧
    t = { s with tck := t.tck, regs := t.regs, evr := t.evr } :=
  ⟨_, congrArg Host.Outcome.next (if_pos ⟨ha, hg⟩), State.event_tck_signals s { s.tck with align := .locked } 0 0 (Eq.refl _)⟩

theorem holdoverEnd_rows (s : State) (ha : s.tck.align = .holdover) (hg : s.tck.holdSince + s.ticksIn 500000 ≤ s.tck.tick) :
    Runs .holdoverEnd s fun t =>
      t.tck = { s.tck with align := .free, goodRun := 0 } ∧ Signals s t Src.TCK 4 0 ∧ SameRegs (eventRegs Src.TCK) s t ∧
      t = { s with tck := t.tck, regs := t.regs, evr := t.evr } :=
  ⟨_, congrArg Host.Outcome.next (if_pos ⟨ha, hg⟩),
    State.event_tck_signals s s.tck.freed 4 0 (Eq.refl _)⟩

end Sys2Proof.Machine
end

section
/-!
The statements on the alignment commands and on a cold reset.
-/

open Sys2Proof Sys2Proof.Machine

/-- Settles O8: one lemma for each command. -/
theorem alignmentTransitions : Obligations.AlignmentTransitions :=
  ⟨refValid_rows, refMissing_rows, lockGained_rows, holdoverEnd_rows⟩

/-- Settles O10: a cold reset answers the reset state but for what it keeps, with the nonce drawn anew (R463). -/
theorem coldResetKeepsFusesAndFlash : Obligations.ColdResetKeepsFusesAndFlash := by
  intro s
  refine ⟨s.coldReset, Eq.refl _, Eq.refl _, Eq.refl _, Eq.refl _, State.reg_of_regs_nil (Eq.refl _), ?_⟩
  repeat' apply And.intro
  all_goals exact Eq.refl _
end

section
/-!
The end of Power-Fail Drain, and the loss of the host clock (R467, R581).
-/

namespace Sys2Proof.Machine

/-! DRAIN_COMPLETE (R467). -/

/-- The drain ended, with what LCS.PFD_STATUS then shows: its length, the commands outstanding, and its result. -/
def State.drainShown (s : State) (us outstanding result : Nat) : State :=
  ((s.put F.LCS.PFD_STATUS.LAST_US us).put F.LCS.PFD_STATUS.OUTSTANDING outstanding).put F.LCS.PFD_STATUS.RESULT result

@[simp] theorem State.drainShown_lcs (s : State) (us outstanding result : Nat) :
    (s.drainShown us outstanding result).lcs = s.lcs := by
  unfold State.drainShown; rw [State.put_lcs, State.put_lcs, State.put_lcs]

theorem State.drainShown_eq (s : State) (us outstanding result : Nat) :
    s.drainShown us outstanding result = { s with regs := (s.drainShown us outstanding result).regs } := by
  refine State.eq_of_unrecorded_of_evr ?_ ?_
  · unfold State.drainShown; rw [State.put_unrecorded, State.put_unrecorded, State.put_unrecorded]
  · unfold State.drainShown; rw [State.put_evr, State.put_evr, State.put_evr]

theorem State.drainShown_sameRegs (s : State) (us outstanding result : Nat) :
    SameRegs [F.LCS.PFD_STATUS.RESULT.addr] s (s.drainShown us outstanding result) := by
  intro a h
  have h : a ≠ F.LCS.PFD_STATUS.RESULT.addr := by simpa using h
  calc (s.drainShown us outstanding result).reg a
      = ((s.put F.LCS.PFD_STATUS.LAST_US us).put F.LCS.PFD_STATUS.OUTSTANDING outstanding).reg a := State.reg_put_other _ _ _ _ h
    _ = (s.put F.LCS.PFD_STATUS.LAST_US us).reg a := State.reg_put_other _ _ _ _ h
    _ = s.reg a := State.reg_put_other _ _ _ _ h

section Fields

variable (s : State) (us outstanding result : Nat)

theorem State.drainShown_result : (s.drainShown us outstanding result).fld F.LCS.PFD_STATUS.RESULT = result % 2 ^ 2 :=
  State.fld_put_width _ _ _ 2 (by decide) (Eq.refl _)

theorem State.drainShown_outstanding :
    (s.drainShown us outstanding result).fld F.LCS.PFD_STATUS.OUTSTANDING =
      outstanding % 2 ^ (F.LCS.PFD_STATUS.OUTSTANDING.hi - F.LCS.PFD_STATUS.OUTSTANDING.lo + 1) := by
  unfold State.drainShown
  rw [State.fld_put_other _ _ _ _ (by decide) (by decide) (by decide), State.fld_put_same _ _ _ (by decide)]

theorem State.drainShown_lastUs :
    (s.drainShown us outstanding result).fld F.LCS.PFD_STATUS.LAST_US =
      us % 2 ^ (F.LCS.PFD_STATUS.LAST_US.hi - F.LCS.PFD_STATUS.LAST_US.lo + 1) := by
  unfold State.drainShown
  rw [State.fld_put_other _ _ _ _ (by decide) (by decide) (by decide),
    State.fld_put_other _ _ _ _ (by decide) (by decide) (by decide), State.fld_put_same _ _ _ (by decide)]

end Fields

/-- In a drain that has not ended and whose conditions hold, or whose time is over, DRAIN_COMPLETE ends it. -/
theorem execDrainComplete_ends {s : State} (hm : s.lcs.mode = .powerFailDrain) (he : s.lcs.drainEnded = false)
    (h : (s.programsAnswered && s.evr.queue == []) = true ∨ s.lcs.drainStart + s.ticksIn 2000 ≤ s.now) :
    execDrainComplete s = .next (({ s with lcs := { s.lcs with drainEnded := true, supplyGood := 0 } } : State).drainShown
      ((s.now - s.lcs.drainStart) * s.tickNs / 1000) (s.frn.ports.foldl (fun n p => n + p.2.writesOut) 0)
      (!(s.programsAnswered && s.evr.queue == [])).toNat) := by
  have h1 : ¬ (s.lcs.mode ≠ .powerFailDrain ∨ s.lcs.drainEnded = true) := by simp [hm, he]
  have h2 : ¬ ((!(s.programsAnswered && s.evr.queue == [])) && decide (s.now < s.lcs.drainStart + s.ticksIn 2000)) = true := by
    rw [Bool.and_eq_true, decide_eq_true_eq, Bool.not_eq_true']
    rintro ⟨hnot, hlt⟩
    rcases h with h | h
    · rw [h] at hnot; cases hnot
    · omega
  unfold execDrainComplete
  rw [if_neg h1]
  exact congrArg Host.Outcome.next (if_neg h2)

/-! HCLK_LOSS (R581). -/

/-- A set bit taken out of a number is clear, and the other bits stay. -/
theorem testBit_sub_two_pow {m p : Nat} (h : m.testBit p = true) (i : Nat) :
    (m - 2 ^ p).testBit i = (m.testBit i && decide (i ≠ p)) := by
  have hpos : 0 < 2 ^ p := by positivity
  have hr : m % 2 ^ p < 2 ^ p := Nat.mod_lt _ hpos
  have hq : m / 2 ^ p % 2 = 1 := by rwa [Nat.testBit_eq_decide_div_mod_eq, decide_eq_true_eq] at h
  have hm : 2 ^ p * (m / 2 ^ p) + m % 2 ^ p = m := Nat.div_add_mod ..
  generalize m / 2 ^ p = q at hq hm
  generalize m % 2 ^ p = r at hr hm
  have hs : m - 2 ^ p = 2 ^ p * (q - 1) + r := by
    obtain ⟨n, rfl⟩ : ∃ n, q = n + 1 := ⟨q - 1, by omega⟩
    rw [← hm, Nat.mul_succ, Nat.add_sub_cancel]
    omega
  rw [hs, ← hm, Nat.testBit_two_pow_mul_add _ hr, Nat.testBit_two_pow_mul_add _ hr]
  obtain hi | rfl | hi : i < p ∨ i = p ∨ p < i := by omega
  · simp [hi, Nat.ne_of_lt hi]
  · have : (q - 1) % 2 = 0 := by omega
    simp [Nat.testBit_zero, this]
  · obtain ⟨j, rfl⟩ : ∃ j, i = p + j + 1 := ⟨i - p - 1, by omega⟩
    have h1 : ¬ p + j + 1 < p := by omega
    have h2 : p + j + 1 ≠ p := by omega
    have h3 : p + j + 1 - p = j + 1 := by omega
    have h4 : (q - 1) / 2 = q / 2 := by omega
    simp only [h1, h2, h3, if_false, Nat.testBit_succ, h4, ne_eq, not_false_eq_true, decide_true, Bool.and_true]

/-- One host port brought down: what a loss of HCLK does to each. -/
def State.hclkDown (s : State) (p : Nat) : State := if s.portUp p then (s.setHostPort p false).event Src.HPT 1 p else s

theorem portStatus_ne_status : ∀ p < 32, (F.HPT.PORT_STATUS.STATE.nth p).addr ≠ F.HPT.STATUS.UP.addr ∧
    (F.HPT.PORT_STATUS.SPEED.nth p).addr ≠ F.HPT.STATUS.UP.addr := by decide

theorem hptStatus_not_mem_eventRegs : F.HPT.STATUS.UP.addr ∉ eventRegs Src.HPT := by decide

theorem State.fld_status_up_lt (s : State) : s.fld F.HPT.STATUS.UP < 2 ^ 32 := Nat.mod_lt _ (by positivity)

/-- A port that is taken down is down, and the others are as before. -/
theorem State.portUp_setHostPort_down {s : State} {p : Nat} (hp : p < 32) (h : s.portUp p = true) (i : Nat) :
    (s.setHostPort p false).portUp i = (s.portUp i && decide (i ≠ p)) := by
  obtain ⟨h1, h2⟩ := portStatus_ne_status p hp
  have hf : (s.setHostPort p false).fld F.HPT.STATUS.UP = s.fld F.HPT.STATUS.UP - 2 ^ p := by
    have hb : (s.fld F.HPT.STATUS.UP).testBit p = true := h
    unfold State.setHostPort
    rw [State.fld_eq_of_reg ((State.reg_put_other _ _ _ _ h2.symm).trans (State.reg_put_other _ _ _ _ h1.symm)),
      State.fld_put_width _ _ _ 32 (by decide) (Eq.refl _), hb]
    have := s.fld_status_up_lt
    exact Nat.mod_eq_of_lt (Nat.lt_of_le_of_lt (Nat.sub_le ..) this)
  unfold State.portUp
  rw [hf]
  exact testBit_sub_two_pow h i

theorem State.hclkDown_portUp {s : State} {p : Nat} (hp : p < 32) (i : Nat) :
    (s.hclkDown p).portUp i = (s.portUp i && decide (i ≠ p)) := by
  unfold State.hclkDown
  split
  next h =>
    have : ((s.setHostPort p false).event Src.HPT 1 p).portUp i = (s.setHostPort p false).portUp i := by
      unfold State.portUp
      rw [State.fld_eq_of_reg (State.event_reg _ _ _ _ _ _ _ hptStatus_not_mem_eventRegs)]
    rw [this, State.portUp_setHostPort_down hp h]
  next h =>
    by_cases hi : i = p
    · rw [hi, Bool.eq_false_iff.mpr h, Bool.false_and]
    · rw [decide_eq_true hi, Bool.and_true]

theorem State.hclkDown_unrecorded (s : State) (p : Nat) : (s.hclkDown p).unrecorded = s.unrecorded := by
  unfold State.hclkDown
  split
  · rw [State.event_unrecorded, State.setHostPort, State.put_unrecorded, State.put_unrecorded, State.put_unrecorded]
  · exact Eq.refl _

/-- Ports brought down one after another: those listed are down, and the others are as before. -/
theorem State.hclkDown_foldl (l : List Nat) (hl : ∀ p ∈ l, p < 32) (s : State) :
    (∀ i, (l.foldl State.hclkDown s).portUp i = (s.portUp i && decide (i ∉ l))) ∧
      (l.foldl State.hclkDown s).unrecorded = s.unrecorded := by
  induction l generalizing s with
  | nil => exact ⟨fun i => by simp, Eq.refl _⟩
  | cons p l ih =>
    obtain ⟨hup, hrest⟩ := ih (fun q hq => hl q (List.mem_cons_of_mem _ hq)) (s.hclkDown p)
    refine ⟨fun i => ?_, hrest.trans (State.hclkDown_unrecorded s p)⟩
    rw [List.foldl_cons, hup, State.hclkDown_portUp (hl p List.mem_cons_self)]
    simp [Bool.and_assoc]

theorem State.hostPorts_le (s : State) : s.hostPorts ≤ 32 := by
  have h : 2 ^ min (s.fld F.HPT.CONFIG.SPLIT) 2 ≤ 2 ^ 2 := Nat.pow_le_pow_right (by decide) (Nat.min_le_right ..)
  unfold State.hostPorts
  omega

theorem State.mem_of_unrecorded {s t : State} (h : t.unrecorded = s.unrecorded) : t.mem = s.mem := by
  have e := congrArg State.mem h
  exact e

theorem hclkLoss_rows (s : State) : Runs .hclkLoss s fun t =>
    (∀ p, p < s.hostPorts → t.portUp p = false) ∧ SameMemory s t ∧ t = { s with regs := t.regs, evr := t.evr } := by
  obtain ⟨hup, hrest⟩ := State.hclkDown_foldl (List.range s.hostPorts)
    (fun p hp => Nat.lt_of_lt_of_le (List.mem_range.mp hp) s.hostPorts_le) s
  refine ⟨(List.range s.hostPorts).foldl State.hclkDown s, Eq.refl _, fun p hp => ?_, ?_, State.eq_of_unrecorded hrest⟩
  · rw [hup, decide_eq_false (not_not_intro (List.mem_range.mpr hp)), Bool.and_false]
  · exact sameMemory_of_mem (State.mem_of_unrecorded hrest)

end Sys2Proof.Machine
end

section
/-!
The statement on the end of Power-Fail Drain and on the loss of the host clock.
-/

open Sys2Proof Sys2Proof.Machine

/-- Settles O13: both commands in turn, from the fields that a drain's end shows and from the ports that are taken down. -/
theorem drainEndsAndHostClockLoss : Obligations.DrainEndsAndHostClockLoss := by
  refine ⟨fun s hm he h => ?_, hclkLoss_rows⟩
  refine ⟨_, execDrainComplete_ends hm he h, State.drainShown_lcs .., ?_, State.drainShown_lastUs ..,
    State.drainShown_outstanding .., fun a ha => ?_, ?_⟩
  · rw [State.drainShown_result]
    cases s.programsAnswered && s.evr.queue == [] <;> exact Eq.refl _
  · exact State.drainShown_sameRegs _ _ _ _ a ha
  · rw [State.drainShown_lcs]
    exact State.drainShown_eq ..
end

section
/-!
Writes of a core to a register whose fields are legal: what the word written holds, that no field is in error, and what the
register then reads (R11, R14, R594).
-/

namespace Sys2Proof.Machine

/-! Fields of a word. -/

theorem bits_or (a b hi lo : Nat) : bits (a ||| b) hi lo = bits a hi lo ||| bits b hi lo := by
  unfold bits; rw [Nat.shiftRight_or_distrib, Nat.or_mod_two_pow]

theorem toNat_or_bits (v w : Word) (hi lo : Nat) : bits (v ||| w).toNat hi lo = bits v.toNat hi lo ||| bits w.toNat hi lo := by
  rw [BitVec.toNat_or, bits_or]

/-- A word with one field set is zero with that field written. -/
theorem toNat_fieldWord (f : Fld) (v : Nat) (h : f.ok) : (fieldWord f v).toNat = setBits 0 f.hi f.lo v := by
  have he : setBits 0 f.hi f.lo v = v % 2 ^ (f.hi - f.lo + 1) * 2 ^ f.lo := by simp [setBits]
  rw [fieldWord, BitVec.toNat_ofNat, ← he, Nat.mod_eq_of_lt (setBits_lt 0 _ _ v h.1 h.2 (by positivity))]

theorem bits_fieldWord_same (f : Fld) (v : Nat) (h : f.ok) :
    bits (fieldWord f v).toNat f.hi f.lo = v % 2 ^ (f.hi - f.lo + 1) := by
  rw [toNat_fieldWord f v h, bits_setBits_same _ _ _ _ h.1]

theorem bits_fieldWord_other (f g : Fld) (v : Nat) (hf : f.ok) (hg : g.ok) (d : f.hi < g.lo ∨ g.hi < f.lo) :
    bits (fieldWord f v).toNat g.hi g.lo = 0 := by
  rw [toNat_fieldWord f v hf, bits_setBits_other _ _ _ _ _ _ hf.1 hg.1 d]
  simp [bits]

/-- Two fields of one word: each reads as it was given. -/
theorem bits_fieldWord_pair (f g : Fld) (v w : Nat) (hf : f.ok) (hg : g.ok) (d : f.hi < g.lo ∨ g.hi < f.lo) :
    bits (fieldWord f v ||| fieldWord g w).toNat f.hi f.lo = v % 2 ^ (f.hi - f.lo + 1) ∧
      bits (fieldWord f v ||| fieldWord g w).toNat g.hi g.lo = w % 2 ^ (g.hi - g.lo + 1) := by
  rw [toNat_or_bits, toNat_or_bits, bits_fieldWord_same f v hf, bits_fieldWord_same g w hg,
    bits_fieldWord_other f g v hf hg d, bits_fieldWord_other g f w hg hf d.symm, Nat.or_zero, Nat.zero_or]
  exact ⟨Eq.refl _, Eq.refl _⟩

theorem State.fld_setReg_same (s : State) (f : Fld) (v : Nat) (h : v < 2 ^ 64) :
    (s.setReg f.addr (BitVec.ofNat 64 v)).fld f = bits v f.hi f.lo := by
  unfold State.fld
  rw [State.reg_setReg_same, BitVec.toNat_ofNat, Nat.mod_eq_of_lt h]

theorem State.setReg_sameRegs (s : State) (a : Nat) (w : Word) : SameRegs [a] s (s.setReg a w) :=
  fun b h => State.reg_setReg_other _ _ _ _ (by simpa using h)

/-! Legal fields. -/

/-- A field that is written, in the range of its description and not locked, takes a legal value. -/
theorem State.fieldError_none {s : State} {x : RegSpec} {i a n v : Nat} {f : FieldSpec} (hr : reservedIn i n f = false)
    (hacc : f.acc = .wo ∨ f.acc = .rw) (hlegal : f.legalVal (bits v f.hi f.lo) = true) (hin : s.inRange x i a n f v = true)
    (hlock : s.enableLocked i n f = false) : s.fieldError x i a n f v = none := by
  unfold State.fieldError
  rcases hacc with hacc | hacc <;> simp [hr, hacc, hlegal, hin, hlock]

/-- With no field in error the write has none. -/
theorem State.firstError_none {s : State} {x : RegSpec} {i a n v : Nat}
    (h : ∀ f ∈ x.fields, s.fieldError x i a n f v = none) : s.firstError x i a n v = none := by
  unfold State.firstError
  rw [List.filterMap_eq_nil_iff.mpr h]
  exact Eq.refl _

/-- Fields that are only written leave the register's word. -/
theorem State.written_writeOnly {s : State} {x : RegSpec} {i a n v : Nat} (h : ∀ f ∈ x.fields, f.acc = .wo) :
    s.written x i a n v = (s.reg a).toNat := by
  unfold State.written
  generalize (s.reg a).toNat = w
  generalize x.fields = l at h
  induction l generalizing w with
  | nil => exact Eq.refl _
  | cons f l ih =>
    rw [List.foldl_cons, h f List.mem_cons_self]
    dsimp only
    rw [ite_self]
    exact ih w (fun g hg => h g (List.mem_cons_of_mem _ hg))

/-- A single register that a core writes with no field in error, whose own rule accepts it. -/
theorem State.busWrite_legal {s : State} {r : Req} {a b : Nat} {w : Word} {ok : Bool} {x : RegSpec} (hr : r.test = false)
    (ha : a % 8 = 0) (hs : specAt a = some (b, x, 0)) (he : s.firstError x a a 0 w.toNat = none)
    (hc : s.accepts a w.toNat = true) (hd : s.delayWrite a w.toNat = none) : s.busWrite r a 8 w ok =
      (s.setReg a (BitVec.ofNat 64 (s.written x a a 0 w.toNat))).afterWrite r a 0 w.toNat (s.reg a).toNat ok := by
  have h := s.busWrite_taken r a w ok b x 0 hr ha hs
  rw [Nat.zero_mul, Nat.sub_zero] at h
  exact h he hc hd

/-- A register all of whose fields are only written: the write starts its action and leaves the word. -/
theorem State.busWrite_action {s : State} {r : Req} {a b : Nat} {w : Word} {ok : Bool} {x : RegSpec} (hr : r.test = false)
    (ha : a % 8 = 0) (hs : specAt a = some (b, x, 0)) (hx : ∀ f ∈ x.fields, f.acc = .wo)
    (he : s.firstError x a a 0 w.toNat = none) (hc : s.accepts a w.toNat = true) (hd : s.delayWrite a w.toNat = none) :
    s.busWrite r a 8 w ok = (s.setReg a (s.reg a)).afterWrite r a 0 w.toNat (s.reg a).toNat ok := by
  rw [State.busWrite_legal hr ha hs he hc hd, State.written_writeOnly hx, BitVec.ofNat_toNat, BitVec.setWidth_eq]

end Sys2Proof.Machine
end

section
/-!
The rows of FLT that are register writes (R514, R519, R523).
-/

namespace Sys2Proof.Machine

/-! The layouts of FLT.ACK, FLT.WDOG_CTL, FLT.WDOG_KICK and FLT.INJECT. -/

def fltAck : RegSpec := ⟨0x110, 0x0, 1, [⟨63, 32, .wo, (k 0), false, []⟩, ⟨2, 0, .wo, (k 0), false, [(1, 5)]⟩]⟩
def fltWdogCtl : RegSpec := ⟨0x118, 0x0, 1, [⟨16, 16, .w1s, (k 0), false, []⟩, ⟨15, 0, .rw, (k 2000), false, [(10, 65535)]⟩]⟩
def fltWdogKick : RegSpec := ⟨0x120, 0x0, 1, [⟨15, 0, .wo, (k 0), false, []⟩]⟩
def fltInject : RegSpec := ⟨0x150, 0x0, 1, [⟨63, 48, .wo, (k 0), false, [(1281, 1297)]⟩, ⟨47, 24, .wo, (k 0), false, []⟩]⟩

theorem specAt_fltAck : specAt F.FLT.ACK.CLASS.addr = some (Src.FLT, fltAck, 0) := by rfl
theorem specAt_fltWdogCtl : specAt F.FLT.WDOG_CTL.EN.addr = some (Src.FLT, fltWdogCtl, 0) := by rfl
theorem specAt_fltWdogKick : specAt F.FLT.WDOG_KICK.KEY.addr = some (Src.FLT, fltWdogKick, 0) := by rfl
theorem specAt_fltInject : specAt F.FLT.INJECT.CODE.addr = some (Src.FLT, fltInject, 0) := by rfl

section Writes

variable (s : State) (r : Req) (n v was : Nat) (ok : Bool)

theorem State.accepts_fltAck : s.accepts F.FLT.ACK.CLASS.addr v =
    s.ackNames (wfld v F.FLT.ACK.CLASS) (wfld v F.FLT.ACK.SEQ_LO) := by rfl
theorem State.accepts_fltWdogCtl : s.accepts F.FLT.WDOG_CTL.EN.addr v = true := by rfl
theorem State.accepts_fltWdogKick : s.accepts F.FLT.WDOG_KICK.KEY.addr v = (wfld v F.FLT.WDOG_KICK.KEY == 0x574B) := by rfl
theorem State.accepts_fltInject : s.accepts F.FLT.INJECT.CODE.addr v = s.mayInject := by rfl

/-- What a write of each of them starts. -/
theorem State.afterWrite_fltAck : s.afterWrite r F.FLT.ACK.CLASS.addr n v was ok =
    { s with flt := { s.flt with acks := s.flt.acks ++ [(wfld v F.FLT.ACK.CLASS, wfld v F.FLT.ACK.SEQ_LO)] } } := by rfl
theorem State.afterWrite_fltWdogCtl : s.afterWrite r F.FLT.WDOG_CTL.EN.addr n v was ok = s := by rfl
theorem State.afterWrite_fltWdogKick : s.afterWrite r F.FLT.WDOG_KICK.KEY.addr n v was ok = s.kickWatchdog := by rfl
theorem State.afterWrite_fltInject : s.afterWrite r F.FLT.INJECT.CODE.addr n v was ok =
    { s with flt := { s.flt with reports := s.flt.reports ++ [
      { code := wfld v F.FLT.INJECT.CODE, source := v / 2 ^ 40 % 256, unit := v / 2 ^ 24 % 2 ^ 16, arg1 := 0, injected := true,
        fromClass := 0 }] } } := by rfl

end Writes

theorem State.flt_of_unrecorded {s t : State} (h : t.unrecorded = s.unrecorded) : t.flt = s.flt := by
  have e := congrArg State.flt h
  exact e

/-- The word that FLT_ACK writes, and what it reads as. -/
def ackWord (cls lo : Nat) : Word := fieldWord F.FLT.ACK.CLASS cls ||| fieldWord F.FLT.ACK.SEQ_LO lo

theorem ackWord_fields {cls lo : Nat} (hc : cls ≤ 5) (hl : lo < 2 ^ 32) :
    wfld (ackWord cls lo).toNat F.FLT.ACK.CLASS = cls ∧ wfld (ackWord cls lo).toNat F.FLT.ACK.SEQ_LO = lo := by
  obtain ⟨h1, h2⟩ := bits_fieldWord_pair F.FLT.ACK.CLASS F.FLT.ACK.SEQ_LO cls lo (by decide) (by decide) (by decide)
  exact ⟨h1.trans (Nat.mod_eq_of_lt (Nat.lt_of_le_of_lt hc (by decide))), h2.trans (Nat.mod_eq_of_lt hl)⟩

theorem State.firstError_fltAck {s : State} {v : Nat} (h1 : 1 ≤ wfld v F.FLT.ACK.CLASS) (h5 : wfld v F.FLT.ACK.CLASS ≤ 5) :
    s.firstError fltAck F.FLT.ACK.CLASS.addr F.FLT.ACK.CLASS.addr 0 v = none := by
  refine State.firstError_none (fun f hf => ?_)
  simp only [fltAck, List.mem_cons, List.not_mem_nil, or_false] at hf
  rcases hf with rfl | rfl
  · exact State.fieldError_none (by rfl) (.inl (Eq.refl _)) (by rfl) (by rfl) (by rfl)
  · refine State.fieldError_none (by rfl) (.inl (Eq.refl _)) ?_ (by rfl) (by rfl)
    have e : bits v 2 0 = wfld v F.FLT.ACK.CLASS := Eq.refl _
    simp [FieldSpec.legalVal, e, h1, h5]

theorem fltAck_rows (s : State) (r : Req) (cls lo : Nat) (hr : r.test = false) (h2 : 2 ≤ cls) (h5 : cls ≤ 5)
    (hlo : lo < 2 ^ 32) (hn : s.ackNames cls lo = true) : Runs (.fltAck r cls lo) s fun t =>
    t.flt = { s.flt with acks := s.flt.acks ++ [(cls, lo)] } ∧ SameRegs [] s t ∧ t = { s with flt := t.flt, regs := t.regs } := by
  obtain ⟨hc, hl⟩ := ackWord_fields h5 hlo
  have h := State.busWrite_action (ok := true) hr (by decide) specAt_fltAck (by decide)
    (State.firstError_fltAck (by rw [hc]; omega) (by rw [hc]; exact h5)) (by rw [State.accepts_fltAck, hc, hl]; exact hn) (by rfl)
  rw [State.afterWrite_fltAck, hc, hl] at h
  exact ⟨_, congrArg Host.Outcome.next h, Eq.refl _, fun a _ => State.reg_setReg_self s _ a, Eq.refl _⟩

theorem fltAck_discarded (s : State) (r : Req) (cls lo : Nat) (hr : r.test = false) (h1 : 1 ≤ cls) (h5 : cls ≤ 5)
    (hlo : lo < 2 ^ 32) (hn : s.ackNames cls lo = false) : Runs (.fltAck r cls lo) s fun t =>
    t.flt = s.flt ∧ (t.reg (blockBase Src.FLT + 8)).getLsbD 4 = true ∧
    SameRegs [blockBase Src.FLT + 8, blockBase Src.FLT + 16] s t ∧ t = { s with regs := t.regs, evr := t.evr } := by
  obtain ⟨hc, hl⟩ := ackWord_fields h5 hlo
  have h := s.busWrite_discarded r F.FLT.ACK.CLASS.addr (ackWord cls lo) true Src.FLT fltAck 0 hr (by decide) (by decide)
    specAt_fltAck (State.firstError_fltAck (by rw [hc]; omega) (by rw [hc]; exact h5)) (by rw [State.accepts_fltAck, hc, hl]; exact hn)
  have hf := State.accessErrorIn_unrecorded s Src.FLT r true F.FLT.ACK.CLASS.addr 8 .state
  exact ⟨_, congrArg Host.Outcome.next h, State.flt_of_unrecorded hf, State.accessErrorIn_kind s Src.FLT r true _ 8 .state,
    State.accessErrorIn_sameRegs s Src.FLT r true _ 8 .state, State.eq_of_unrecorded hf⟩

theorem wdogKick_rows (s : State) (r : Req) (hr : r.test = false) (hs : s.flt.wdogStage ≠ 0) :
    Runs (.wdogKick r 0x574B) s fun t =>
      t.flt = { s.flt with wdogStage := 1, wdogRun := 0 } ∧ SameRegs [] s t ∧ t = { s with flt := t.flt, regs := t.regs } := by
  have h := State.busWrite_action (s := s) (ok := true) (w := 0x574B) hr (by decide) specAt_fltWdogKick (by decide)
    (by rfl) (by rw [State.accepts_fltWdogKick]; exact Eq.refl _) (by rfl)
  rw [State.afterWrite_fltWdogKick, State.kickWatchdog] at h
  exact ⟨_, congrArg Host.Outcome.next (h.trans (if_neg hs)), Eq.refl _, fun a _ => State.reg_setReg_self s _ a, Eq.refl _⟩

/-! WDOG_ENABLE (R519). -/

def wdogWord (ms : Nat) : Word := fieldWord F.FLT.WDOG_CTL.EN 1 ||| fieldWord F.FLT.WDOG_CTL.TIMEOUT_MS ms

theorem wdogWord_fields {ms : Nat} (h : ms < 2 ^ 16) :
    bits (wdogWord ms).toNat 16 16 = 1 ∧ bits (wdogWord ms).toNat 15 0 = ms := by
  obtain ⟨h1, h2⟩ := bits_fieldWord_pair F.FLT.WDOG_CTL.EN F.FLT.WDOG_CTL.TIMEOUT_MS 1 ms (by decide) (by decide) (by decide)
  exact ⟨h1, h2.trans (Nat.mod_eq_of_lt h)⟩

/-- TIMEOUT_MS is locked while EN is 1. -/
theorem State.enableLocked_wdogTimeout (s : State) :
    s.enableLocked F.FLT.WDOG_CTL.EN.addr 0 ⟨15, 0, .rw, (k 2000), false, [(10, 65535)]⟩ =
      (s.flag F.FLT.WDOG_CTL.EN || false) := by rfl

/-- EN takes no error; TIMEOUT_MS takes a legal value while EN is 0. -/
theorem State.fieldError_fltWdogCtl {s : State} {v : Nat} (h10 : 10 ≤ bits v 15 0)
    (hen : s.flag F.FLT.WDOG_CTL.EN = false) : ∀ f ∈ fltWdogCtl.fields,
    s.fieldError fltWdogCtl F.FLT.WDOG_CTL.EN.addr F.FLT.WDOG_CTL.EN.addr 0 f v = none := by
  intro f hf
  simp only [fltWdogCtl, List.mem_cons, List.not_mem_nil, or_false] at hf
  rcases hf with rfl | rfl
  · rfl
  · have hlt : bits v 15 0 < 2 ^ 16 := Nat.mod_lt _ (by positivity)
    refine State.fieldError_none (by rfl) (.inr (Eq.refl _)) ?_ (by rfl) ?_
    · simp [FieldSpec.legalVal, h10, show bits v 15 0 ≤ 65535 by omega]
    · rw [State.enableLocked_wdogTimeout, hen]; exact Eq.refl _

/-- What FLT.WDOG_CTL holds after a write that sets EN where it was 0. -/
theorem State.written_fltWdogCtl {s : State} {v : Nat} (h1 : bits v 16 16 = 1) (h10 : 10 ≤ bits v 15 0)
    (hen : s.flag F.FLT.WDOG_CTL.EN = false) :
    s.written fltWdogCtl F.FLT.WDOG_CTL.EN.addr F.FLT.WDOG_CTL.EN.addr 0 v =
      setBits (setBits (s.reg F.FLT.WDOG_CTL.EN.addr).toNat 16 16 1) 15 0 (bits v 15 0) := by
  have he := State.fieldError_fltWdogCtl h10 hen
  have h0 : bits (s.reg F.FLT.WDOG_CTL.EN.addr).toNat 16 16 = 0 := by
    have hlt : bits (s.reg F.FLT.WDOG_CTL.EN.addr).toNat 16 16 < 2 := Nat.mod_lt _ (by decide)
    have hne : bits (s.reg F.FLT.WDOG_CTL.EN.addr).toNat 16 16 ≠ 1 := beq_eq_false_iff_ne.mp hen
    omega
  have h2 := he ⟨15, 0, .rw, (k 2000), false, [(10, 65535)]⟩ (by simp [fltWdogCtl])
  rw [State.written, show fltWdogCtl.fields = [_, _] from Eq.refl _, List.foldl_cons, List.foldl_cons, List.foldl_nil, h2]
  show setBits (setBits _ 16 16 (bits (s.reg F.FLT.WDOG_CTL.EN.addr).toNat 16 16 ||| bits v 16 16)) 15 0 (bits v 15 0) = _
  rw [h0, h1]
  exact Eq.refl _

theorem wdogEnable_rows (s : State) (r : Req) (ms : Nat) (hr : r.test = false) (h10 : 10 ≤ ms) (hms : ms < 2 ^ 16)
    (hen : s.flag F.FLT.WDOG_CTL.EN = false) :
    Runs (.wdogEnable r (fieldWord F.FLT.WDOG_CTL.EN 1 ||| fieldWord F.FLT.WDOG_CTL.TIMEOUT_MS ms)) s fun t =>
    t.flag F.FLT.WDOG_CTL.EN = true ∧ t.fld F.FLT.WDOG_CTL.TIMEOUT_MS = ms ∧ SameRegs [F.FLT.WDOG_CTL.EN.addr] s t ∧
    t = { s with regs := t.regs } := by
  obtain ⟨h1, hb⟩ := wdogWord_fields hms
  have hb10 : 10 ≤ bits (wdogWord ms).toNat 15 0 := by rw [hb]; exact h10
  have h := State.busWrite_legal (ok := true) hr (by decide) specAt_fltWdogCtl
    (State.firstError_none (State.fieldError_fltWdogCtl hb10 hen)) (State.accepts_fltWdogCtl ..) (by rfl)
  rw [State.written_fltWdogCtl h1 hb10 hen, hb, State.afterWrite_fltWdogCtl] at h
  have hw := setBits_lt _ 16 16 1 (by decide) (by decide) (s.reg F.FLT.WDOG_CTL.EN.addr).isLt
  have hw2 := setBits_lt _ 15 0 ms (by decide) (by decide) hw
  refine ⟨_, congrArg Host.Outcome.next h, ?_, ?_, State.setReg_sameRegs _ _ _, Eq.refl _⟩
  · unfold State.flag
    rw [State.fld_setReg_same s F.FLT.WDOG_CTL.EN _ hw2]
    exact beq_iff_eq.mpr ((bits_setBits_other _ _ _ _ _ _ (by decide) (by decide) (.inl (by decide))).trans
      (bits_setBits_same _ _ _ _ (by decide)))
  · have e := State.fld_setReg_same s F.FLT.WDOG_CTL.TIMEOUT_MS _ hw2
    exact (e.trans (bits_setBits_same _ _ _ _ (by decide))).trans (Nat.mod_eq_of_lt hms)

/-! FLT_INJECT (R523). -/

/-- The word of FLT.INJECT, and what it names. -/
def injectWord (code source unit : Nat) : Word := BitVec.ofNat 64 (code * 2 ^ 48 + source * 2 ^ 40 + unit * 2 ^ 24)

theorem injectWord_fields {code source unit : Nat} (hc : code < 2 ^ 16) (hs : source < 256) (hu : unit < 2 ^ 16) :
    wfld (injectWord code source unit).toNat F.FLT.INJECT.CODE = code ∧
      (injectWord code source unit).toNat / 2 ^ 40 % 256 = source ∧
      (injectWord code source unit).toNat / 2 ^ 24 % 2 ^ 16 = unit := by
  have hv : (injectWord code source unit).toNat = code * 2 ^ 48 + source * 2 ^ 40 + unit * 2 ^ 24 := by
    unfold injectWord
    rw [BitVec.toNat_ofNat]
    omega
  rw [hv]
  refine ⟨?_, by omega, by omega⟩
  show (_ >>> 48) % 2 ^ (63 - 48 + 1) = code
  rw [Nat.shiftRight_eq_div_pow]
  omega

theorem State.firstError_fltInject {s : State} {v : Nat} (h1 : 0x0501 ≤ wfld v F.FLT.INJECT.CODE)
    (h2 : wfld v F.FLT.INJECT.CODE ≤ 0x0511) :
    s.firstError fltInject F.FLT.INJECT.CODE.addr F.FLT.INJECT.CODE.addr 0 v = none := by
  refine State.firstError_none (fun f hf => ?_)
  simp only [fltInject, List.mem_cons, List.not_mem_nil, or_false] at hf
  rcases hf with rfl | rfl
  · refine State.fieldError_none (by rfl) (.inl (Eq.refl _)) ?_ (by rfl) (by rfl)
    have e : bits v 63 48 = wfld v F.FLT.INJECT.CODE := Eq.refl _
    simp [FieldSpec.legalVal, e, h1, h2]
  · exact State.fieldError_none (by rfl) (.inl (Eq.refl _)) (by rfl) (by rfl) (by rfl)

theorem fltInject_rows (s : State) (r : Req) (code source unit : Nat) (hr : r.test = false) (hm : s.mayInject = true)
    (h1 : 0x0501 ≤ code) (h2 : code ≤ 0x0511) (hs : source < 256) (hu : unit < 2 ^ 16) :
    Runs (.fltInject r (BitVec.ofNat 64 (code * 2 ^ 48 + source * 2 ^ 40 + unit * 2 ^ 24))) s fun t =>
    t.flt = { s.flt with reports := s.flt.reports ++
      [{ code := code, source := source, unit := unit, arg1 := 0, injected := true, fromClass := 0 }] } ∧
    SameRegs [] s t ∧ t = { s with flt := t.flt, regs := t.regs } := by
  obtain ⟨hcode, hsource, hunit⟩ := injectWord_fields (code := code) (by omega) hs hu
  have h := State.busWrite_action (ok := true) hr (by decide) specAt_fltInject (by decide)
    (State.firstError_fltInject (by rw [hcode]; exact h1) (by rw [hcode]; exact h2))
    (by rw [State.accepts_fltInject]; exact hm) (by rfl)
  rw [State.afterWrite_fltInject, hcode, hsource, hunit] at h
  exact ⟨_, congrArg Host.Outcome.next h, Eq.refl _, fun a _ => State.reg_setReg_self s _ a, Eq.refl _⟩

end Sys2Proof.Machine
end

section
/-!
What FLT does with a report of classes 2 to 4, and the rows that make one (R510 to R514, R519 to R521).
-/

namespace Sys2Proof.Machine

/-! Operations that keep a bit set in an EVENT register. -/

theorem Raises.setReg_other {s : State} {src bit a : Nat} (w : Word) (h : Raises s src bit) (ha : eventAddr src ≠ a) :
    Raises (s.setReg a w) src bit := by
  unfold Raises; rw [State.reg_setReg_other _ _ _ _ ha]; exact h

theorem Raises.setEventBit {s : State} {src bit : Nat} (src' bit' : Nat) (h : Raises s src bit) :
    Raises (s.setEventBit src' bit') src bit := by
  unfold Raises State.setEventBit
  rw [State.reg_setReg]
  split
  next e => rw [BitVec.getLsbD_or, ← e, h]; exact Eq.refl _
  next e => exact h

theorem raises_setEventBit (s : State) (src : Nat) {bit : Nat} (hb : bit < 64) : Raises (s.setEventBit src bit) src bit := by
  unfold Raises State.setEventBit
  rw [State.reg_setReg_same, BitVec.getLsbD_or, BitVec.getLsbD_ofNat, Nat.testBit_two_pow_self, decide_eq_true hb]
  simp

theorem Raises.record {s : State} {src bit : Nat} (n v c u x y : Nat) (h : Raises s src bit)
    (hs : eventAddr src ∉ recordRegs) : Raises (s.record n v c u x y) src bit := by
  unfold Raises; rw [State.record_reg _ _ _ _ _ _ _ _ hs]; exact h

theorem Raises.count {s : State} {src bit : Nat} (f : Fld) (n k : Nat) (h : Raises s src bit)
    (ha : eventAddr src ≠ (f.nth n).addr) : Raises (s.count f n k) src bit := Raises.setReg_other _ h ha

theorem Raises.saturate {s : State} {src bit : Nat} (f : Fld) (k : Nat) (h : Raises s src bit)
    (ha : eventAddr src ≠ f.addr) : Raises (s.saturate f k) src bit := Raises.setReg_other _ h ha

/-! Queues (R512). -/

theorem Flt.queueOf_setQueue_same {f : Flt} {c : Nat} (q : List FltEntry) (hc : c - 1 < f.queues.length) :
    (f.setQueue c q).queueOf c = q := by
  simp [Flt.queueOf, Flt.setQueue, hc]

theorem Flt.queueOf_setQueue_other {f : Flt} {c d : Nat} (q : List FltEntry) (h : c - 1 ≠ d - 1) :
    (f.setQueue c q).queueOf d = f.queueOf d := by
  simp [Flt.queueOf, Flt.setQueue, List.getElem?_set_ne h]

theorem State.enqueueFault_mem (s : State) (c : Nat) (e : FltEntry) : (s.enqueueFault c e).mem = s.mem := by
  unfold State.enqueueFault
  split
  · exact Eq.refl _
  · rw [State.setEventBit_mem, State.count_mem, State.saturate_mem]

theorem State.enqueueFault_evr (s : State) (c : Nat) (e : FltEntry) : (s.enqueueFault c e).evr = s.evr := by
  unfold State.enqueueFault
  split
  · exact Eq.refl _
  · rw [State.setEventBit_evr, State.count_evr, State.saturate_evr]

/-- Of FLT, queueing a fault changes the queues alone. -/
theorem State.enqueueFault_flt (s : State) (c : Nat) (e : FltEntry) :
    (s.enqueueFault c e).flt = { s.flt with queues := (s.enqueueFault c e).flt.queues } := by
  unfold State.enqueueFault
  split
  · exact Eq.refl _
  · rw [State.setEventBit_flt, State.count_flt, State.saturate_flt]

/-- A fault of one class leaves the queues of the others. -/
theorem State.enqueueFault_queueOf_other (s : State) {c d : Nat} (e : FltEntry) (h : c - 1 ≠ d - 1) :
    (s.enqueueFault c e).flt.queueOf d = s.flt.queueOf d := by
  unfold State.enqueueFault
  split
  · exact Flt.queueOf_setQueue_other _ h
  · rw [State.setEventBit_flt, State.count_flt, State.saturate_flt]

theorem fltEvent_ne_stat : ∀ n < 10, eventAddr Src.FLT ≠ (F.FLT.STAT.COUNT.nth n).addr := by decide

theorem fltEvent_ne_classStatus : ∀ n < 5, eventAddr Src.FLT ≠ (F.FLT.CLASS_STATUS.OVF.nth n).addr := by decide

theorem fltEvent_not_mem_recordRegs : eventAddr Src.FLT ∉ recordRegs := eventAddr_not_mem_recordRegs _ (by decide)

theorem Raises.enqueueFault {s : State} {bit c : Nat} (e : FltEntry) (h : Raises s Src.FLT bit) (hc : c ≤ 5) :
    Raises (s.enqueueFault c e) Src.FLT bit := by
  unfold State.enqueueFault
  split
  · exact h
  · exact Raises.setEventBit _ _ (Raises.count _ _ _ (Raises.saturate _ _ h (fltEvent_ne_classStatus _ (by omega)))
      (fltEvent_ne_stat 5 (by decide)))

/-! A report of a class from 2 to 4, not injected (R510 to R513). -/

/-- The record, the EVENT bit of the class and its counter, once FLT takes a report of class c. -/
def State.faultNoted (s : State) (r : FltReport) (c : Nat) : State :=
  ((s.record Src.FLT (classSeverity c) r.code (r.source * 2 ^ 16 + r.unit % 2 ^ 16) c (r.arg1 % 2 ^ 63)).setEventBit Src.FLT
    (c - 1)).count F.FLT.STAT.COUNT (c - 1)

/-- FLT notes the report, queues the fault, and does what its code asks for. -/
theorem State.takeFault_eq {s : State} {r : FltReport} {c : Nat} (hc : r.cls s.flt = c) (h2 : 2 ≤ c) (h4 : c ≤ 4)
    (hi : r.injected = false) : ∃ e, s.takeFault r = ((s.faultNoted r c).enqueueFault c e).faultAction r := by
  have h0 : ¬ c = 0 := by omega
  have h1 : ¬ c = 1 := by omega
  have h5 : ¬ c = 5 := by omega
  unfold State.takeFault
  rw [hc, hi]
  dsimp only
  rw [if_neg h0, if_neg h1, if_neg h5]
  exact ⟨_, Eq.refl _⟩

section Noted

variable (s : State) (r : FltReport) (c : Nat)

theorem State.faultNoted_mem : (s.faultNoted r c).mem = s.mem := by
  rw [State.faultNoted, State.count_mem, State.setEventBit_mem, State.record_mem]

theorem State.faultNoted_flt : (s.faultNoted r c).flt = s.flt := by
  rw [State.faultNoted, State.count_flt, State.setEventBit_flt, State.record_flt]

theorem State.faultNoted_raises (hc : c ≤ 5) : Raises (s.faultNoted r c) Src.FLT (c - 1) :=
  Raises.count _ _ _ (raises_setEventBit _ _ (by omega)) (fltEvent_ne_stat _ (by omega))

theorem Raises.faultNoted {s : State} {bit : Nat} (h : Raises s Src.FLT bit) (hc : c ≤ 5) :
    Raises (s.faultNoted r c) Src.FLT bit :=
  Raises.count _ _ _ (Raises.setEventBit _ _ (Raises.record _ _ _ _ _ _ h fltEvent_not_mem_recordRegs))
    (fltEvent_ne_stat _ (by omega))

/-- With room in the recorder, the record of the report waits. -/
theorem State.faultNoted_hasRecord {s s0 : State} (he : s.evr = s0.evr) (ht : s.tck.tick = s0.tck.tick) (h : HasRoom s0) :
    HasRecord s0 (s.faultNoted r c) Src.FLT r.code (r.source * 2 ^ 16 + r.unit % 2 ^ 16) := by
  obtain ⟨x, hx, hrest⟩ := State.record_waits s s0 Src.FLT (classSeverity c) r.code (r.source * 2 ^ 16 + r.unit % 2 ^ 16) c
    (r.arg1 % 2 ^ 63) he ht h
  refine ⟨x, ?_, hrest⟩
  rw [State.faultNoted, State.count_evr, State.setEventBit_evr]
  exact hx

end Noted

/-- What taking a report of a class from 2 to 4 does, whatever its code asks for beside it. -/
theorem State.takeFault_minor {s s0 : State} {r : FltReport} {c : Nat} (hc : r.cls s.flt = c) (h2 : 2 ≤ c) (h4 : c ≤ 4)
    (hi : r.injected = false) (he : s.evr = s0.evr) (ht : s.tck.tick = s0.tck.tick) :
    ∃ u : State, s.takeFault r = u.faultAction r ∧ u.mem = s.mem ∧ Raises u Src.FLT (c - 1) ∧
      (∀ bit, Raises s Src.FLT bit → Raises u Src.FLT bit) ∧
      (HasRoom s0 → HasRecord s0 u Src.FLT r.code (r.source * 2 ^ 16 + r.unit % 2 ^ 16)) ∧
      u.flt = { s.flt with queues := u.flt.queues } ∧ ∀ d, c - 1 ≠ d - 1 → u.flt.queueOf d = s.flt.queueOf d := by
  obtain ⟨e, h⟩ := State.takeFault_eq hc h2 h4 hi
  refine ⟨(s.faultNoted r c).enqueueFault c e, h, ?_, ?_, fun bit hb => ?_, fun hroom => ?_, ?_, fun d hd => ?_⟩
  · rw [State.enqueueFault_mem, State.faultNoted_mem]
  · exact Raises.enqueueFault e (State.faultNoted_raises s r c (by omega)) (by omega)
  · exact Raises.enqueueFault e (Raises.faultNoted r c hb (by omega)) (by omega)
  · obtain ⟨x, hx, hrest⟩ := State.faultNoted_hasRecord r c he ht hroom
    exact ⟨x, by rw [State.enqueueFault_evr]; exact hx, hrest⟩
  · rw [← State.faultNoted_flt s r c]; exact State.enqueueFault_flt ..
  · rw [State.enqueueFault_queueOf_other _ _ hd, State.faultNoted_flt]

theorem State.faultAction_ackTimeout (s : State) {r : FltReport} (h : r.code = 0x050F) : s.faultAction r = s := by
  unfold State.faultAction; rw [h]; exact Eq.refl _

theorem State.faultAction_wdogStage1 (s : State) {r : FltReport} (h : r.code = 0x050E) :
    s.faultAction r = s.setEventBit Src.FLT 8 := by
  unfold State.faultAction; rw [h]; exact Eq.refl _

/-! Acknowledgements taken, and deadlines that run out (R514). -/

/-- The acknowledgement of the head entry of a class retires it. -/
theorem State.applyAcks_retires {s : State} {cls : Nat} {e : FltEntry} {q : List FltEntry} (h5 : cls ≤ 5)
    (hn : s.flt.queues.length = 5) (hq : s.flt.queueOf cls = e :: q) (ha : s.flt.acks = [(cls, e.seq % 2 ^ 32)]) :
    s.applyAcks.flt.queueOf cls = q ∧ s.applyAcks.flt.acks = [] := by
  refine ⟨?_, Eq.refl _⟩
  have hs : s.applyAcks.flt = { s.flt.setQueue cls q with acks := [] } := by
    unfold State.applyAcks
    rw [ha, List.foldl_cons, List.foldl_nil]
    simp only [hq, if_true]
  rw [hs]
  exact Flt.queueOf_setQueue_same q (by omega)

/-- The fault being handled is of a class from 2 to 5. -/
theorem Flt.active_class {f : Flt} {c : Nat} {e : FltEntry} (h : f.active = some (c, e)) : 2 ≤ c ∧ c ≤ 5 := by
  unfold Flt.active at h
  split at h
  next => obtain ⟨rfl, _⟩ := Prod.mk.inj (Option.some.inj h); decide
  next =>
    split at h
    next => obtain ⟨rfl, _⟩ := Prod.mk.inj (Option.some.inj h); decide
    next =>
      split at h
      next => obtain ⟨rfl, _⟩ := Prod.mk.inj (Option.some.inj h); decide
      next =>
        split at h
        next => obtain ⟨rfl, _⟩ := Prod.mk.inj (Option.some.inj h); decide
        next => cases h

/-- The report of an entry of a class whose deadline has run out. -/
def FltEntry.timeoutReport (e : FltEntry) (cls : Nat) : FltReport :=
  { code := 0x050F, source := e.object / 2 ^ 16, unit := e.object % 2 ^ 16, arg1 := e.seq, injected := false, fromClass := cls }

/-- The state in which an entry has retired at its deadline, before FLT takes the fault of the next class. -/
def State.deadlineRetired (s : State) (c : Nat) : State :=
  (({ s with flt := s.flt.setQueue c ((s.flt.queueOf c).drop 1) } : State).setEventBit Src.FLT 6).count F.FLT.STAT.COUNT 6

theorem State.deadlineRetired_flt (s : State) (c : Nat) :
    (s.deadlineRetired c).flt = s.flt.setQueue c ((s.flt.queueOf c).drop 1) := by
  rw [State.deadlineRetired, State.count_flt, State.setEventBit_flt]

theorem State.deadlineRetired_raises (s : State) (c : Nat) : Raises (s.deadlineRetired c) Src.FLT 6 :=
  Raises.count _ _ _ (raises_setEventBit _ _ (by decide)) (fltEvent_ne_stat 6 (by decide))

theorem ackTimeout_rows (s : State) (cls : Nat) (e : FltEntry) (ha : s.flt.active = some (cls, e)) (hl : e.left = some 0)
    (h3 : cls ≤ 3) (hn : s.flt.queues.length = 5) : Runs (.ackTimeout cls) s fun t =>
    t.flt.queueOf cls = (s.flt.queueOf cls).drop 1 ∧ Raises t Src.FLT 6 ∧
    (HasRoom s → HasRecord s t Src.FLT 0x050F e.object) ∧ SameMemory s t := by
  have h2 := (Flt.active_class ha).1
  have hr : execAckTimeout cls s = .next ((s.deadlineRetired cls).takeFault (e.timeoutReport cls)) := by
    unfold execAckTimeout
    simp only [ha, hl, and_self, if_true]
    exact Eq.refl _
  have hcls : (e.timeoutReport cls).cls (s.deadlineRetired cls).flt = cls + 1 := by
    show min (cls + 1) 5 = cls + 1
    omega
  obtain ⟨u, hu, hmem, _, hkeeps, hrec, _, hq⟩ := State.takeFault_minor (s0 := s) hcls (by omega) (by omega) (Eq.refl _)
    (by rw [State.deadlineRetired, State.count_evr, State.setEventBit_evr])
    (by rw [State.deadlineRetired, State.count_tck, State.setEventBit_tck])
  rw [State.faultAction_ackTimeout u (Eq.refl _)] at hu
  rw [hu] at hr
  refine ⟨u, hr, ?_, hkeeps 6 (s.deadlineRetired_raises cls), fun hroom => ?_, sameMemory_of_mem ?_⟩
  · rw [hq cls (by omega), State.deadlineRetired_flt]
    exact Flt.queueOf_setQueue_same _ (by omega)
  · have h := hrec hroom
    have ho : (e.timeoutReport cls).source * 2 ^ 16 + (e.timeoutReport cls).unit % 2 ^ 16 = e.object := by
      show e.object / 2 ^ 16 * 2 ^ 16 + e.object % 2 ^ 16 % 2 ^ 16 = e.object
      omega
    rwa [ho] at h
  · rw [hmem, State.deadlineRetired, State.count_mem, State.setEventBit_mem]

/-! The watchdogs (R519, R521), and lanes that stall (R520). -/

/-- The report of a first period of the watchdog that has run out. -/
def wdogReport : FltReport :=
  { code := 0x050E, source := Src.FLT, unit := 0, arg1 := 0, injected := false, fromClass := 0 }

/-- The state in which the second period has begun, before FLT takes the fault of the first. -/
def State.secondPeriod (s : State) : State :=
  ({ s with flt := { s.flt with wdogStage := 2, wdogRun := 0 } } : State).count F.FLT.STAT.COUNT 8

theorem State.secondPeriod_flt (s : State) : s.secondPeriod.flt = { s.flt with wdogStage := 2, wdogRun := 0 } := by
  rw [State.secondPeriod, State.count_flt]

theorem wdogStage1_rows (s : State) (h1 : s.flt.wdogStage = 1) (hp : s.wdogPeriod ≤ s.flt.wdogRun) :
    Runs .wdogStage1 s fun t =>
    t.flt.wdogStage = 2 ∧ t.flt.wdogRun = 0 ∧ Raises t Src.FLT 3 ∧ Raises t Src.FLT 8 ∧
    (HasRoom s → HasRecord s t Src.FLT 0x050E (Src.FLT * 2 ^ 16)) ∧ SameMemory s t := by
  have hr : execWdogStage1 s = .next (s.secondPeriod.takeFault wdogReport) := congrArg Host.Outcome.next (if_pos ⟨h1, hp⟩)
  have hcls : wdogReport.cls s.secondPeriod.flt = 4 := Eq.refl _
  obtain ⟨u, hu, hmem, hraises, _, hrec, hflt, _⟩ := State.takeFault_minor (s0 := s) hcls (by decide) (by decide) (Eq.refl _)
    (by rw [State.secondPeriod, State.count_evr]) (by rw [State.secondPeriod, State.count_tck])
  rw [State.secondPeriod_flt] at hflt
  rw [State.faultAction_wdogStage1 u (Eq.refl _)] at hu
  rw [hu] at hr
  refine ⟨_, hr, ?_, ?_, Raises.setEventBit _ _ hraises, raises_setEventBit u _ (by decide), fun hroom => ?_,
    sameMemory_of_mem ?_⟩
  · rw [State.setEventBit_flt, hflt]
  · rw [State.setEventBit_flt, hflt]
  · have h := hrec hroom
    rw [show wdogReport.source * 2 ^ 16 + wdogReport.unit % 2 ^ 16 = Src.FLT * 2 ^ 16 from Nat.add_zero _] at h
    obtain ⟨x, hx, hrest⟩ := h
    exact ⟨x, by rw [State.setEventBit_evr]; exact hx, hrest⟩
  · rw [State.setEventBit_mem, hmem, State.secondPeriod, State.count_mem]

theorem watchdogReset_rows (s : State) (h2 : s.flt.wdogStage = 2) (hp : s.wdogPeriod ≤ s.flt.wdogRun) :
    Runs .watchdogReset s fun t => .reset .watchdog ∈ t.tck.latches ∧ (∀ i ∈ s.tck.latches, i ∈ t.tck.latches) ∧
    t = { s with tck := { s.tck with latches := t.tck.latches } } := by
  by_cases hl : (.reset .watchdog) ∈ s.tck.latches
  · exact ⟨s, congrArg Host.Outcome.next (if_neg (fun h => h.2.2 hl)), hl, fun i hi => hi, Eq.refl _⟩
  · exact ⟨_, congrArg Host.Outcome.next (if_pos ⟨h2, hp, hl⟩), List.mem_append_right _ (List.mem_singleton.mpr (Eq.refl _)),
      fun i hi => List.mem_append_left _ hi, Eq.refl _⟩

theorem laneStall_rows (s : State) (source lane : Nat) (h : source ∈ [Src.CMP, Src.CIP, Src.DGS, Src.RDN, Src.HPT]) :
    Runs (.laneStall source lane) s fun t =>
    t = { s with flt := { s.flt with reports := t.flt.reports } } ∧ t.flt.reports = s.flt.reports ++
      [{ code := 0x0507, source := source, unit := lane, arg1 := 0, injected := false, fromClass := 0 }] :=
  ⟨_, congrArg Host.Outcome.next (if_pos h), Eq.refl _, Eq.refl _⟩

end Sys2Proof.Machine
end

section
/-!
The statement on the rows of FLT.
-/

open Sys2Proof Sys2Proof.Machine

/-- Settles O25: one lemma for each row, in the order of the statement. -/
theorem faultHandlingRows : Obligations.FaultHandlingRows :=
  ⟨fltAck_rows, fun _ _ _ _ _ h5 hn hq ha => State.applyAcks_retires h5 hn hq ha, fltAck_discarded,
    fun s cls e ha hl h3 hn _ => ackTimeout_rows s cls e ha hl h3 hn, wdogEnable_rows, wdogKick_rows, wdogStage1_rows,
    watchdogReset_rows, laneStall_rows, fun _ => ⟨_, Eq.refl _, Eq.refl _, Eq.refl _⟩, fltInject_rows⟩
end

section
/-!
A write of the reference select, the cuts of lanes and ports, and the panel tick (R25, R37, R43, R44, R540, R541).
-/

namespace Sys2Proof.Machine

/-! REF_CTL_SRC_WRITE (R43, R44). -/

def tckRefCtl : RegSpec := ⟨0x118, 0x0, 1, [⟨1, 0, .rw, (k 2), false, [(0, 3)]⟩]⟩

theorem specAt_tckRefCtl : specAt F.TCK.REF_CTL.SRC.addr = some (Src.TCK, tckRefCtl, 0) := by rfl

theorem State.accepts_tckRefCtl (s : State) (v : Nat) : s.accepts F.TCK.REF_CTL.SRC.addr v = true := by rfl

theorem State.afterWrite_tckRefCtl (s : State) (r : Req) (n v was : Nat) (ok : Bool) :
    s.afterWrite r F.TCK.REF_CTL.SRC.addr n v was ok = s.srcWritten := by rfl

theorem State.fieldError_tckRefCtl (s : State) (v : Nat) :
    s.fieldError tckRefCtl F.TCK.REF_CTL.SRC.addr F.TCK.REF_CTL.SRC.addr 0 ⟨1, 0, .rw, (k 2), false, [(0, 3)]⟩ v = none := by
  have hlt : bits v 1 0 < 4 := Nat.mod_lt _ (by decide)
  refine State.fieldError_none (by rfl) (.inr (Eq.refl _)) ?_ (by rfl) (by rfl)
  simp [FieldSpec.legalVal, show bits v 1 0 ≤ 3 by omega]

theorem State.written_tckRefCtl (s : State) (v : Nat) :
    s.written tckRefCtl F.TCK.REF_CTL.SRC.addr F.TCK.REF_CTL.SRC.addr 0 v =
      setBits (s.reg F.TCK.REF_CTL.SRC.addr).toNat 1 0 (bits v 1 0) := by
  rw [State.written, show tckRefCtl.fields = [_] from Eq.refl _, List.foldl_cons, List.foldl_nil, s.fieldError_tckRefCtl]
  exact Eq.refl _

/-- A write of SRC stores it, and the alignment follows. -/
theorem State.busWrite_src {s : State} {r : Req} {src : Nat} (hr : r.test = false) (hs : src < 4) :
    s.busWrite r F.TCK.REF_CTL.SRC.addr 8 (fieldWord F.TCK.REF_CTL.SRC src) true =
      (s.put F.TCK.REF_CTL.SRC src).srcWritten := by
  have h := State.busWrite_legal (s := s) (w := fieldWord F.TCK.REF_CTL.SRC src) (ok := true) hr (by decide) specAt_tckRefCtl
    (State.firstError_none (fun f hf => by
      rw [List.mem_singleton.mp hf]; exact s.fieldError_tckRefCtl _)) (State.accepts_tckRefCtl ..) (by rfl)
  have hb : bits (fieldWord F.TCK.REF_CTL.SRC src).toNat 1 0 = src :=
    (bits_fieldWord_same F.TCK.REF_CTL.SRC src (by decide)).trans (Nat.mod_eq_of_lt hs)
  rw [State.written_tckRefCtl, hb, State.afterWrite_tckRefCtl] at h
  exact h

theorem State.srcWritten_none {s : State} (h : s.fld F.TCK.REF_CTL.SRC = 3) :
    s.srcWritten = { s with tck := { s.tck with align := .free, trim := 0, goodRun := 0 } } := by
  unfold State.srcWritten; rw [h]; exact Eq.refl _

/-- The link that a write of SRC takes (assumption 52). -/
def srcLink (src : Nat) : Nat := if src = 1 then 1 else 0

theorem State.srcWritten_link {s : State} {src : Nat} (h : s.fld F.TCK.REF_CTL.SRC = src) (h3 : src < 3) :
    s.srcWritten = { s with tck := { s.tck with
      refLink := srcLink src, goodRun := 0, stepped := false,
      align := if s.tck.refValid (srcLink src) then .acquire else .free } } := by
  obtain rfl | rfl | rfl : src = 0 ∨ src = 1 ∨ src = 2 := by omega
  all_goals
    unfold State.srcWritten; rw [h]; exact Eq.refl _

theorem State.fld_put_src (s : State) {src : Nat} (h : src < 4) : (s.put F.TCK.REF_CTL.SRC src).fld F.TCK.REF_CTL.SRC = src :=
  (State.fld_put_width s _ _ 2 (by decide) (Eq.refl _)).trans (Nat.mod_eq_of_lt h)

theorem State.put_sameRegs (s : State) (f : Fld) (v : Nat) : SameRegs [f.addr] s (s.put f v) :=
  State.setReg_sameRegs _ _ _

theorem refCtlSrcWrite_none (s : State) (r : Req) (hr : r.test = false) :
    Runs (.refCtlSrcWrite r (fieldWord F.TCK.REF_CTL.SRC 3)) s fun t =>
    t.fld F.TCK.REF_CTL.SRC = 3 ∧ t.tck = { s.tck with align := .free, trim := 0, goodRun := 0 } ∧
    SameRegs [F.TCK.REF_CTL.SRC.addr] s t ∧ t = { s with tck := t.tck, regs := t.regs } := by
  have hf := s.fld_put_src (src := 3) (by decide)
  refine ⟨_, congrArg Host.Outcome.next ((State.busWrite_src hr (by decide)).trans (State.srcWritten_none hf)), hf, ?_,
    State.put_sameRegs s _ _, ?_⟩
  · rw [State.put_tck]
  · exact Eq.refl _

theorem refCtlSrcWrite_link (s : State) (r : Req) (src : Nat) (hr : r.test = false) (h3 : src < 3) :
    Runs (.refCtlSrcWrite r (fieldWord F.TCK.REF_CTL.SRC src)) s fun t =>
    t.fld F.TCK.REF_CTL.SRC = src ∧ t.tck.goodRun = 0 ∧
    t.tck.refLink = (if src = 1 then 1 else 0) ∧
    t.tck.align = (if s.tck.refValid (if src = 1 then 1 else 0) then .acquire else .free) ∧
    SameRegs [F.TCK.REF_CTL.SRC.addr] s t ∧ t = { s with tck := t.tck, regs := t.regs } := by
  have hf := s.fld_put_src (src := src) (by omega)
  refine ⟨_, congrArg Host.Outcome.next ((State.busWrite_src hr (by omega)).trans (State.srcWritten_link hf h3)), hf, Eq.refl _,
    Eq.refl _, ?_, State.put_sameRegs s _ _, Eq.refl _⟩
  rw [State.put_tck]
  exact Eq.refl _

/-! JOB_CUT on a lane (R25). -/

theorem LaneBanks.of_set_same (b : LaneBanks) (e : Eng) (l : Lanes) : (b.set e l).of e = l := by cases e <;> exact Eq.refl _

theorem Lanes.spent_insert_same (b : Lanes) (cuts : Tab CutSlot) (lane c : Nat) :
    ({ b with cuts := cuts, used := Tab.insert b.used lane c } : Lanes).spent lane = c := by
  simp [Lanes.spent, Tab.getD, Tab.find_insert]

theorem Lanes.spent_insert_other (b : Lanes) (cuts : Tab CutSlot) {lane l : Nat} (c : Nat) (h : l ≠ lane) :
    ({ b with cuts := cuts, used := Tab.insert b.used lane c } : Lanes).spent l = b.spent l := by
  simp [Lanes.spent, Tab.getD, Tab.find_insert, h]

/-- The cycles that the work at the front of a lane can have by the end of the tick. -/
def State.cyclesAtHand (s : State) (e : Eng) (lane : Nat) (t : LaneTask) : Nat :=
  ((s.cutOf e lane t).map CutSlot.spent).getD 0 + (s.tickCycles - (s.lanes.of e).spent lane)

/-- A cut that may be made: the slot of the class of the work holds it with its byte, and the lane has spent its tick. -/
theorem State.cutLane_cuts {s : State} {e : Eng} {lane upto : Nat} {task : LaneTask} {x : Cut}
    (hfront : (s.laneTasks e lane).find? (fun t => t.ready && s.atFront e lane t) = some task)
    (hx : s.cutAt e task.item (s.cyclesAtHand e lane task) upto = some x) (hneed : s.cyclesAtHand e lane task < x.need)
    (hleft : (s.lanes.of e).spent lane < s.tickCycles) (hat : x.point.allows upto = true) :
    ∃ k : CutSlot, k.item = task.item ∧ k.upto = upto ∧
      s.cutLane e lane upto = some { s with lanes := s.lanes.set e { s.lanes.of e with
        cuts := Tab.insert (s.lanes.of e).cuts (slotKey lane task.cls) k,
        used := Tab.insert (s.lanes.of e).used lane s.tickCycles } } := by
  have hno : ¬ (x.need ≤ s.cyclesAtHand e lane task ∨ s.tickCycles ≤ (s.lanes.of e).spent lane ∨
      (!x.point.allows upto) = true) := by
    rintro (h | h | h)
    · omega
    · omega
    · rw [hat] at h; cases h
  have hx' : s.cutAt e task.item (((s.cutOf e lane task).map CutSlot.spent).getD 0 +
      (s.tickCycles - (s.lanes.of e).spent lane)) upto = some x := hx
  unfold State.cutLane
  dsimp only
  rw [hfront]
  dsimp only
  rw [hx']
  dsimp only
  exact ⟨_, Eq.refl _, Eq.refl _, if_neg hno⟩

/-- With no work at its front a lane is not cut. -/
theorem State.cutLane_none {s : State} {e : Eng} {lane upto : Nat}
    (h : (s.laneTasks e lane).find? (fun t => t.ready && s.atFront e lane t) = none) : s.cutLane e lane upto = none := by
  unfold State.cutLane
  dsimp only
  rw [h]

/-- The engine is the one whose cuts on a lane a class of CUT_COUNT counts. -/
def CutsOn (s : State) (cls lane : Nat) (e : Eng) : Prop :=
  cls = 0 ∧ e = .cmp ∧ lane ∈ s.cmp.compressors ∨ cls = 1 ∧ e = .cmp ∧ lane ∉ s.cmp.compressors ∨ cls = 2 ∧ e = .cip ∨
    cls = 3 ∧ e = .dgs

theorem execJobCut_lane {s : State} {cls lane upto : Nat} {e : Eng} (hl : lane < cutLanes cls) (hc : CutsOn s cls lane e) :
    execJobCut cls lane upto s = .next (((s.cutLane e lane upto).map (fun t => t.count F.TCK.CUT_COUNT.COUNT cls)).getD s) := by
  have hlane : ¬ lane ≥ cutLanes cls := by omega
  unfold execJobCut
  rw [if_neg hlane]
  rcases hc with ⟨rfl, rfl, hm⟩ | ⟨rfl, rfl, hm⟩ | ⟨rfl, rfl⟩ | ⟨rfl, rfl⟩
  · simp only [List.contains_eq_mem, hm, decide_true, if_true]
    cases s.cutLane .cmp lane upto <;> exact Eq.refl _
  · simp only [List.contains_eq_mem, hm, decide_false, Bool.false_eq_true, if_false]
    cases s.cutLane .cmp lane upto <;> exact Eq.refl _
  · dsimp only
    cases s.cutLane .cip lane upto <;> exact Eq.refl _
  · dsimp only
    cases s.cutLane .dgs lane upto <;> exact Eq.refl _

/-- What counting a cut of a class does. -/
theorem State.countCut_rows (s : State) (cls : Nat) :
    let t := s.count F.TCK.CUT_COUNT.COUNT cls
    t.fld (F.TCK.CUT_COUNT.COUNT.nth cls) = (s.fld (F.TCK.CUT_COUNT.COUNT.nth cls) + 1) %
        2 ^ (F.TCK.CUT_COUNT.COUNT.hi - F.TCK.CUT_COUNT.COUNT.lo + 1) ∧
      SameRegs [(F.TCK.CUT_COUNT.COUNT.nth cls).addr] s t ∧ t = { s with regs := t.regs } :=
  ⟨State.fld_put_same _ _ _ (Fld.nth_ok (by decide)), State.put_sameRegs _ _ _,
    State.eq_of_unrecorded_of_evr (State.count_unrecorded ..) (State.count_evr ..)⟩

theorem jobCut_lane_rows (s : State) (e : Eng) (cls lane upto : Nat) (task : LaneTask) (x : Cut) (hl : lane < cutLanes cls)
    (hc : CutsOn s cls lane e) (hfront : (s.laneTasks e lane).find? (fun t => t.ready && s.atFront e lane t) = some task)
    (hx : s.cutAt e task.item (s.cyclesAtHand e lane task) upto = some x) (hneed : s.cyclesAtHand e lane task < x.need)
    (hleft : (s.lanes.of e).spent lane < s.tickCycles) (hat : x.point.allows upto = true) :
    Runs (.jobCut cls lane upto) s fun t =>
    (∃ k, Tab.find (t.lanes.of e).cuts (slotKey lane task.cls) = some k ∧ k.item = task.item ∧ k.upto = upto) ∧
    (t.lanes.of e).spent lane = s.tickCycles ∧ (∀ l, l ≠ lane → (t.lanes.of e).spent l = (s.lanes.of e).spent l) ∧
    t.fld (F.TCK.CUT_COUNT.COUNT.nth cls) = (s.fld (F.TCK.CUT_COUNT.COUNT.nth cls) + 1) %
      2 ^ (F.TCK.CUT_COUNT.COUNT.hi - F.TCK.CUT_COUNT.COUNT.lo + 1) ∧
    SameRegs [(F.TCK.CUT_COUNT.COUNT.nth cls).addr] s t ∧ t = { s with lanes := t.lanes, regs := t.regs } := by
  obtain ⟨k, hitem, hupto, hcut⟩ := State.cutLane_cuts hfront hx hneed hleft hat
  have hrun := execJobCut_lane (upto := upto) hl hc
  rw [hcut, Option.map_some, Option.getD_some] at hrun
  generalize hb : ({ s.lanes.of e with
    cuts := Tab.insert (s.lanes.of e).cuts (slotKey lane task.cls) k,
    used := Tab.insert (s.lanes.of e).used lane s.tickCycles } : Lanes) = b at hrun
  obtain ⟨hcount, hregs, hframe⟩ := State.countCut_rows { s with lanes := s.lanes.set e b } cls
  have hof := LaneBanks.of_set_same s.lanes e b
  refine ⟨_, hrun, ⟨k, ?_, hitem, hupto⟩, ?_, fun l hne => ?_, hcount, hregs, ?_⟩
  · rw [State.count_lanes, hof, ← hb]
    exact (Tab.find_insert ..).trans (if_pos (Eq.refl _))
  · rw [State.count_lanes, hof, ← hb]
    exact Lanes.spent_insert_same ..
  · rw [State.count_lanes, hof, ← hb]
    exact Lanes.spent_insert_other _ _ _ hne
  · rw [State.count_lanes]
    exact hframe

/-! JOB_CUT on a port (R25, R243). -/

/-- The port as it is after a cut of a class. -/
def FrnPort.cutIn (p : FrnPort) (cls : Nat) : FrnPort := { p with cut := p.cut ++ [cls] }

/-- Reads that the line does not take are cut, once a tick. -/
theorem State.portCut_reads {s : State} {n : Nat} {c : FrnCmd} (hc : c ∈ (s.port n).held) (hop : c.op = 1)
    (hline : s.lineTakes (s.port n) (frameLen 64) false = false) (hcut : (s.port n).cut.contains 5 = false) :
    s.portCut 5 n = some (s.setPort n ((s.port n).cutIn 5)) := by
  have hwaits : ((s.port n).held.any fun c => (c.op == 1 || c.op == 8) && !s.lineTakes (s.port n) (frameLen 64) false) = true :=
    List.any_eq_true.mpr ⟨c, hc, by rw [hop, hline]; exact Eq.refl _⟩
  have hboth : (((s.port n).held.any fun c => (c.op == 1 || c.op == 8) && !s.lineTakes (s.port n) (frameLen 64) false) &&
      !(s.port n).cut.contains 5) = true := by rw [hwaits, hcut]; exact Eq.refl _
  exact if_pos hboth

theorem State.port_setPort_same (s : State) (n : Nat) (p : FrnPort) : (s.setPort n p).port n = p := by
  unfold State.port State.setPort
  simp [Tab.getD, Tab.find_insert]

theorem State.port_setPort_other (s : State) {n m : Nat} (p : FrnPort) (h : m ≠ n) : (s.setPort n p).port m = s.port m := by
  have hc : (s.setPort n p).coldPort m = s.coldPort m := Eq.refl _
  unfold State.port
  rw [hc]
  simp [State.setPort, Tab.getD, Tab.find_insert, h]

theorem execJobCut_port {s t : State} {n upto : Nat} (hn : n < 96) (h : s.portCut 5 n = some t) :
    execJobCut 5 n upto s = .next (t.count F.TCK.CUT_COUNT.COUNT 5) := by
  have hlane : ¬ n ≥ cutLanes 5 := by show ¬ n ≥ 96; omega
  unfold execJobCut
  rw [if_neg hlane]
  simp only [h]

/-- A count of a cut changes no register of FRN. -/
theorem cutCount_ne_frn (m : Nat) : (F.FRN.PORT_CTL.EN.nth m).addr ≠ (F.TCK.CUT_COUNT.COUNT.nth 5).addr ∧
    F.FRN.CONFIG.PORTS.addr ≠ (F.TCK.CUT_COUNT.COUNT.nth 5).addr := by
  refine ⟨fun e => ?_, by decide⟩
  have h := congrArg blockOf e
  rw [blockOf_nth, blockOf_nth] at h
  exact absurd h (by decide)

/-- A port reads the same once a cut is counted. -/
theorem State.port_countCut (s : State) (m : Nat) : (s.count F.TCK.CUT_COUNT.COUNT 5).port m = s.port m := by
  obtain ⟨h1, h2⟩ := cutCount_ne_frn m
  have hcold : (s.count F.TCK.CUT_COUNT.COUNT 5).coldPort m = s.coldPort m := by
    unfold State.coldPort
    rw [State.count_frn, State.fld_eq_of_reg (State.count_reg s _ 5 1 _ h1), State.fld_eq_of_reg (State.count_reg s _ 5 1 _ h2)]
  unfold State.port
  rw [State.count_frn, hcold]

theorem jobCut_port_rows (s : State) (n upto : Nat) (c : FrnCmd) (hn : n < 96) (hc : c ∈ (s.port n).held) (hop : c.op = 1)
    (hline : s.lineTakes (s.port n) (frameLen 64) false = false) (hcut : (s.port n).cut.contains 5 = false) :
    Runs (.jobCut 5 n upto) s fun t =>
    t.port n = { s.port n with cut := (s.port n).cut ++ [5] } ∧ (∀ m, m ≠ n → t.port m = s.port m) ∧
    t.fld (F.TCK.CUT_COUNT.COUNT.nth 5) = (s.fld (F.TCK.CUT_COUNT.COUNT.nth 5) + 1) %
      2 ^ (F.TCK.CUT_COUNT.COUNT.hi - F.TCK.CUT_COUNT.COUNT.lo + 1) ∧
    SameRegs [(F.TCK.CUT_COUNT.COUNT.nth 5).addr] s t ∧ t = { s with frn := t.frn, regs := t.regs } := by
  have hrun := execJobCut_port (upto := upto) hn (State.portCut_reads hc hop hline hcut)
  obtain ⟨hcount, hregs, hframe⟩ := State.countCut_rows (s.setPort n ((s.port n).cutIn 5)) 5
  have hregs : SameRegs [(F.TCK.CUT_COUNT.COUNT.nth 5).addr] s
    ((s.setPort n ((s.port n).cutIn 5)).count F.TCK.CUT_COUNT.COUNT 5) := hregs
  refine ⟨_, hrun, ?_, fun m hm => ?_, hcount, hregs, ?_⟩
  · rw [State.port_countCut, State.port_setPort_same]
    exact Eq.refl _
  · rw [State.port_countCut, State.port_setPort_other _ _ hm]
  · rw [State.count_frn]
    exact hframe

theorem jobCut_idle (s : State) (lane upto : Nat)
    (h : (s.laneTasks .cip lane).find? (fun t => t.ready && s.atFront .cip lane t) = none) :
    exec (.jobCut 2 lane upto) s = .next s := by
  show execJobCut 2 lane upto s = .next s
  by_cases hl : lane < cutLanes 2
  · rw [execJobCut_lane hl (.inr (.inr (.inl ⟨Eq.refl _, Eq.refl _⟩))), State.cutLane_none h]
    exact Eq.refl _
  · exact congrArg Host.Outcome.next (if_pos (Nat.le_of_not_lt hl))

end Sys2Proof.Machine
end

section
/-!
PANEL_TICK (R37, R540, R541).
-/

namespace Sys2Proof.Machine

/-! What a panel tick leaves of TCK: all of it but what is shown in SAMPLED. -/

/-- Steps that leave TCK, one after another over a list. -/
theorem State.foldl_tck {α : Type} {f : State → α → State} (h : ∀ u x, (f u x).tck = u.tck) (l : List α) (s : State) :
    (l.foldl f s).tck = s.tck := by
  induction l generalizing s with
  | nil => exact Eq.refl _
  | cons x l ih => exact (ih (f s x)).trans (h s x)

section Panel

variable (s : State)

@[simp] theorem State.setFilt_tck (i : Nat) (x : Filt) : (s.setFilt i x).tck = s.tck := Eq.refl _

/-- What follows the filter of an input at its sample: chatter is marked, or a filtered change is accepted (R532, R535). -/
def State.sampleActed (s : State) (i : Nat) (marks accept : Bool) : State :=
  let s2 := if marks then (s.count F.BAY.STAT.COUNT 3).event Src.BAY 5 (inputUnit i) (inputNumber i) else s
  if !accept then s2
  else
    let s3 := s2.count F.BAY.STAT.COUNT 1
    if i < 1024 ∧ i % 4 = 0 then
      { s3 with bay := { s3.bay with
        presence := Tab.insert s3.bay.presence (i / 4) (s.now :: (Tab.getD s3.bay.presence (i / 4) []).take 15) } }
    else s3

theorem State.sampleActed_tck (i : Nat) (marks accept : Bool) : (s.sampleActed i marks accept).tck = s.tck := by
  have hm : (if marks then (s.count F.BAY.STAT.COUNT 3).event Src.BAY 5 (inputUnit i) (inputNumber i) else s).tck = s.tck := by
    split <;> simp
  unfold State.sampleActed
  generalize (if marks then (s.count F.BAY.STAT.COUNT 3).event Src.BAY 5 (inputUnit i) (inputNumber i) else s) = u at hm ⊢
  dsimp only
  split
  · exact hm
  split <;> rw [State.count_tck] <;> exact hm

theorem State.sampleInput_eq (i : Nat) (raw : Bool) :
    ∃ y marks accept, s.sampleInput i raw = (s.setFilt i y).sampleActed i marks accept := ⟨_, _, _, Eq.refl _⟩

@[simp] theorem State.sampleInput_tck (i : Nat) (raw : Bool) : (s.sampleInput i raw).tck = s.tck := by
  obtain ⟨y, marks, accept, h⟩ := s.sampleInput_eq i raw
  rw [h, State.sampleActed_tck, State.setFilt_tck]

@[simp] theorem State.releaseButton_tck (i : Nat) : (s.releaseButton i).tck = s.tck := by
  unfold State.releaseButton
  dsimp only
  split <;> simp

@[simp] theorem State.markDue_tck (i : Nat) : (s.markDue i).tck = s.tck := by
  unfold State.markDue
  dsimp only
  split
  · simp
  split
  · exact Eq.refl _
  split
  · simp
  split
  · split <;> simp
  split <;> simp

@[simp] theorem State.panelSamples_tck (pwr svc : Bool) : (s.panelSamples pwr svc).tck = s.tck := by
  unfold State.panelSamples
  dsimp only
  rw [State.foldl_tck State.markDue_tck, State.sampleInput_tck, State.sampleInput_tck]
  split
  · exact State.foldl_tck (fun u b => by simp) _ _
  · exact Eq.refl _

@[simp] theorem State.takeTemperature_tck (sensor : Nat) (reading : Int) : (s.takeTemperature sensor reading).tck = s.tck := by
  unfold State.takeTemperature
  dsimp only
  split <;> split <;> simp

@[simp] theorem State.noteBacklog_tck : s.noteBacklog.tck = s.tck := Eq.refl _

@[simp] theorem State.measure_tck : s.measure.tck = s.tck := Eq.refl _

@[simp] theorem State.controlLaw_tck : s.controlLaw.tck = s.tck := Eq.refl _

@[simp] theorem State.learnPanel_tck (closed : Bool) : (s.learnPanel closed).tck = s.tck := Eq.refl _

@[simp] theorem State.stepClasses_tck (st : Nat) (targets : List Nat) : (s.stepClasses st targets).tck = s.tck := Eq.refl _

@[simp] theorem State.judge_tck : s.judge.tck = s.tck := by
  unfold State.judge
  split
  · exact Eq.refl _
  · split <;> simp

@[simp] theorem State.allocate_tck (st : Nat) : (s.allocate st).tck = s.tck := by
  unfold State.allocate
  dsimp only
  rw [State.stepClasses_tck]
  split <;> simp

@[simp] theorem State.pacerPanel_tck : s.pacerPanel.tck = s.tck := by
  unfold State.pacerPanel
  dsimp only
  split
  · exact State.noteBacklog_tck s
  · exact State.noteBacklog_tck s
  · exact State.stepClasses_tck ..
  · simp
  · rw [State.allocate_tck, State.learnPanel_tck]
    split <;> simp

end Panel

/-! The LEDs (R540, R541). -/

/-- At a panel tick the LEDs are those that the rules decide from the state left: no rule reads an LED. -/
theorem State.decideLeds_shows {s : State} (h : s.panelTick = true) :
    s.decideLeds.tck = s.tck ∧ s.decideLeds.bay.leds = (List.range s.decideLeds.bays).map s.decideLeds.bayLeds ∧
      (s.decideLeds.bay.ledStat, s.decideLeds.bay.ledSvc, s.decideLeds.bay.ledRmv) = s.decideLeds.headLeds := by
  have hd : s.decideLeds = { s with bay := { s.bay with
      leds := (List.range s.bays).map s.bayLeds, ledStat := s.headLeds.1, ledSvc := s.headLeds.2.1, ledRmv := s.headLeds.2.2 } } := by
    unfold State.decideLeds
    rw [h]
    exact Eq.refl _
  rw [hd]
  exact ⟨Eq.refl _, Eq.refl _, Eq.refl _⟩

/-- The state of a panel tick before its LEDs are decided. -/
def State.panelActed (s : State) (pwr svc : Bool) (sensor : Nat) (reading : Int) : State :=
  let s1 : State := { s with bay := { s.bay with shown := s.bay.active, active := [] } }
  let s2 := s1.panelSamples pwr svc
  let s3 := if s2.bay.inputs.any (fun p => p.2.due) then
      s2.put F.TCK.SAMPLED.RANKS (setBits (s2.fld F.TCK.SAMPLED.RANKS) 11 11 1) else s2
  (s3.takeTemperature sensor reading).pacerPanel

theorem State.panelActed_tck (s : State) (pwr svc : Bool) (sensor : Nat) (reading : Int) :
    (s.panelActed pwr svc sensor reading).tck = s.tck := by
  unfold State.panelActed
  dsimp only
  rw [State.pacerPanel_tck, State.takeTemperature_tck]
  split <;> simp

theorem panelTick_rows (s : State) (pwr svc : Bool) (sensor : Nat) (reading : Int) (ht : s.tck.ticking = true)
    (hp : s.panelTick = true) : Runs (.panelTick pwr svc sensor reading) s fun t =>
    t.tck.tick = s.tck.tick ∧ t.bay.leds = (List.range t.bays).map t.bayLeds ∧
    (t.bay.ledStat, t.bay.ledSvc, t.bay.ledRmv) = t.headLeds := by
  have hno : ¬ ((!s.tck.ticking) = true ∨ (!s.panelTick) = true) := by simp [ht, hp]
  have htck := s.panelActed_tck pwr svc sensor reading
  have hpanel : (s.panelActed pwr svc sensor reading).panelTick = true := by
    unfold State.panelTick at hp ⊢; rw [htck]; exact hp
  obtain ⟨hsame, hleds, hhead⟩ := State.decideLeds_shows hpanel
  have hrun : execPanelTick pwr svc sensor reading s = .next (s.panelActed pwr svc sensor reading).decideLeds := by
    unfold execPanelTick State.panelActed
    rw [if_neg hno]
  exact ⟨_, hrun, by rw [hsame, htck], hleds, hhead⟩

end Sys2Proof.Machine
end

section
/-!
The statement on the reference select, on cuts and on the panel tick.
-/

open Sys2Proof Sys2Proof.Machine

/-- Settles O9: one lemma for each of its clauses, in the order of the statement. -/
theorem sourceWriteCutAndPanelTick : Obligations.SourceWriteCutAndPanelTick := by
  refine ⟨refCtlSrcWrite_none, refCtlSrcWrite_link, fun s e cls lane upto task x hl hc hfront => ?_, jobCut_port_rows,
    jobCut_idle, panelTick_rows⟩
  exact jobCut_lane_rows s e cls lane upto task x hl hc hfront
end

section
/-!
The cut of a write into chunks (R47): each piece stands for the granules it holds, and the pieces of a cut hold them all.
-/

namespace Sys2Proof.Machine

/-- The granules that a piece of a write holds, numbered from its first. -/
def pieceGranules (p : Nat × List (List Byte)) : List (Nat × List Byte) := p.2.zipIdx.map (fun q => (p.1 + q.2, q.1))

/-- A piece is not empty and lies in one window of c granules (R47). -/
def InOneWindow (c : Nat) (p : Nat × List (List Byte)) : Prop := p.2 ≠ [] ∧ ∀ i, i < p.2.length → (p.1 + i) / c = p.1 / c

theorem pieceGranules_single (g : Nat) (b : List Byte) : pieceGranules (g, [b]) = [(g, b)] := Eq.refl _

theorem pieceGranules_append (g : Nat) (bs : List (List Byte)) (b : List Byte) :
    pieceGranules (g, bs ++ [b]) = pieceGranules (g, bs) ++ [(g + bs.length, b)] := by
  simp [pieceGranules, List.zipIdx_append]

theorem InOneWindow.single (c g : Nat) (b : List Byte) : InOneWindow c (g, [b]) :=
  ⟨List.cons_ne_nil _ _, fun i hi => by rw [Nat.lt_one_iff.mp hi, Nat.add_zero]⟩

/-- A piece takes the next granule when that lies in the same window. -/
theorem InOneWindow.append {c g : Nat} {bs : List (List Byte)} (b : List Byte) (h : InOneWindow c (g, bs))
    (hw : (g + bs.length) / c = g / c) : InOneWindow c (g, bs ++ [b]) := by
  refine ⟨by simp, fun i hi => ?_⟩
  rcases Nat.lt_or_ge i bs.length with hlt | hge
  · exact h.2 i hlt
  · rw [List.length_append, List.length_singleton] at hi
    rw [show i = bs.length by omega]
    exact hw

/-- The pieces of a cut hold what the pieces begun hold, and then the granules that are left. -/
theorem cutWindows_granules (c : Nat) (gs : List (Nat × List Byte)) (acc : List (Nat × List (List Byte))) :
    (cutWindows c gs acc).flatMap pieceGranules = acc.reverse.flatMap pieceGranules ++ gs := by
  induction gs generalizing acc with
  | nil => simp [cutWindows]
  | cons x rest ih =>
    obtain ⟨g, b⟩ := x
    cases acc with
    | nil => rw [cutWindows, ih]; simp [pieceGranules_single]
    | cons p acc =>
      obtain ⟨g0, bs⟩ := p
      rw [cutWindows]
      split
      next h => rw [ih]; simp [pieceGranules_append, h.2]
      next => rw [ih]; simp [pieceGranules_single]

/-- Every piece of a cut lies in one window when the pieces begun do. -/
theorem cutWindows_inOneWindow (c : Nat) (gs : List (Nat × List Byte)) (acc : List (Nat × List (List Byte)))
    (h : ∀ p ∈ acc, InOneWindow c p) : ∀ p ∈ cutWindows c gs acc, InOneWindow c p := by
  induction gs generalizing acc with
  | nil => rw [cutWindows]; exact fun p hp => h p (List.mem_reverse.mp hp)
  | cons x rest ih =>
    obtain ⟨g, b⟩ := x
    cases acc with
    | nil => rw [cutWindows]; exact ih _ (List.forall_mem_singleton.mpr (.single c g b))
    | cons p acc =>
      obtain ⟨g0, bs⟩ := p
      obtain ⟨hp, hacc⟩ := List.forall_mem_cons.mp h
      rw [cutWindows]
      split
      next hw => exact ih _ (List.forall_mem_cons.mpr ⟨hp.append b (hw.2 ▸ hw.1), hacc⟩)
      next => exact ih _ (List.forall_mem_cons.mpr ⟨.single c g b, h⟩)

end Sys2Proof.Machine

open Sys2Proof Sys2Proof.Machine

/-- Settles O33: the pieces begun are the accumulator, which each granule of the write joins or follows. -/
theorem cuttingKeepsEveryGranule : Obligations.CuttingKeepsEveryGranule := by
  intro c gs _
  exact ⟨cutWindows_granules c gs [], cutWindows_inOneWindow c gs [] (by simp)⟩
end

section
/-!
The read path of a stored chunk: its decryption, its expansion and its delivery (R51, R73, R75, R87, R131, R139).
-/

namespace Sys2Proof.Machine

/-! What the end of a job on its lane leaves alone (R25). -/

theorem State.laneEnd_lanes {s s1 : State} {e : Eng} {lane cycles : Nat} {t : LaneTask}
    (h : s.laneEnd e lane t cycles = some s1) : ∃ b, s1 = { s with lanes := b } := by
  unfold State.laneEnd at h
  dsimp only at h
  split at h
  · exact ⟨_, (Option.some.inj h).symm⟩
  · cases h

theorem State.readEnd_lanes {s s1 : State} {e : Eng} {n cycles : Nat} {r : ChunkRead}
    (h : s.readEnd e n r cycles = some s1) : ∃ b, s1 = { s with lanes := b } := by
  obtain ⟨_, _, hl⟩ := Option.bind_eq_some_iff.mp h
  exact State.laneEnd_lanes hl

/-! Work of one side leaves what neither the work nor the change of sides touches. -/

theorem State.onSide_keeps {α : Type} (p : State → α) {f : State → State} (hp : ∀ u, p u.swapSides = p u)
    (hf : ∀ u, p (f u) = p u) (s : State) (k : Nat) : p (s.onSide k f) = p s := by
  unfold State.onSide
  split
  · exact hf s
  · split
    · split
      · rw [hp, hf, hp]
      · exact hf s
    · exact hf s

theorem State.onSide_home {s : State} {k : Nat} (f : State → State) (h : k = s.ftl.side) : s.onSide k f = f s :=
  if_pos h.symm

theorem State.swapSides_rdx (s : State) : s.swapSides.rdx = s.rdx := by unfold State.swapSides; split <;> rfl
theorem State.swapSides_regs (s : State) : s.swapSides.regs = s.regs := by unfold State.swapSides; split <;> rfl
theorem State.swapSides_mem (s : State) : s.swapSides.mem = s.mem := by unfold State.swapSides; split <;> rfl

/-- A chunk queued to be rewritten changes FTL alone. -/
theorem State.queueRewrite_ftl (s : State) (r : ChunkRead) : s.queueRewrite r = { s with ftl := (s.queueRewrite r).ftl } := by
  unfold State.queueRewrite; split <;> rfl

theorem State.onSide_queueRewrite (s : State) (k : Nat) (r : ChunkRead) : let t := s.onSide k (fun u => u.queueRewrite r)
    t.rdx = s.rdx ∧ t.regs = s.regs ∧ t.mem = s.mem :=
  ⟨State.onSide_keeps State.rdx State.swapSides_rdx (fun u => by rw [u.queueRewrite_ftl r]) s k,
    State.onSide_keeps State.regs State.swapSides_regs (fun u => by rw [u.queueRewrite_ftl r]) s k,
    State.onSide_keeps State.mem State.swapSides_mem (fun u => by rw [u.queueRewrite_ftl r]) s k⟩

/-! CHUNK_DECRYPT_DONE (R51, R131, R139). -/

section Decrypt

variable {s s1 : State} {n : Nat} {r : ChunkRead} {busError : Bool} {p : Nat × KeySlot}
  (hr : Tab.find s.rdx.reads n = some r) (hst : r.stage = .stored) (hs : r.since < s.now)
include hr hst hs

theorem execChunkDecryptDone_refused
    (h : busError = true ∨ (readHeader r.stored).passes = false ∨ r.stored.length < 96 + (readHeader r.stored).storedLen) :
    exec (.chunkDecryptDone n busError) s = .next (s.integrityFailure n r) := by
  have hbad : (busError || !(readHeader r.stored).passes ||
      decide (96 + (readHeader r.stored).storedLen > r.stored.length)) = true := by
    simpa [or_assoc] using h
  show execChunkDecryptDone n busError s = _
  simp only [execChunkDecryptDone, hr, hst, ne_eq, not_true_eq_false, false_or, Nat.not_le.mpr hs, if_false, hbad, if_true]

variable (hp : (readHeader r.stored).passes = true) (hl : 96 + (readHeader r.stored).storedLen ≤ r.stored.length)
include hp hl

theorem execChunkDecryptDone_noKey (hk : s.slotOfId (readHeader r.stored).keyId = none) :
    exec (.chunkDecryptDone n false) s = .next (s.endRead n r none 2 (readHeader r.stored).keyId) := by
  show execChunkDecryptDone n false s = _
  simp [execChunkDecryptDone, hr, hst, Nat.not_le.mpr hs, hp, Nat.not_lt.mpr hl, hk]

/-- The header passes, its key is held and the cycles are left: the tag decides. -/
theorem execChunkDecryptDone_tag (hk : s.slotOfId (readHeader r.stored).keyId = some p)
    (hc : s.readEnd .cip n r (gcmCycles 80 (readHeader r.stored).storedLen) = some s1) :
    exec (.chunkDecryptDone n false) s = .next
      (if gcmTag p.2.key (readHeader r.stored).iv (r.stored.take 80) ((r.stored.drop 96).take (readHeader r.stored).storedLen) =
          (r.stored.drop 80).take 16 then
        ((s1.count F.CIP.STAT.COUNT 1).modifyRead n (fun r' => { r' with
          stage := .decrypted, payload := gcmCrypt p.2.key (readHeader r.stored).iv
            ((r.stored.drop 96).take (readHeader r.stored).storedLen) })).giveReadLane n
      else ((s1.count F.CIP.STAT.COUNT 2).event Src.CIP 4 0 r.chunk).integrityFailure n r) := by
  show execChunkDecryptDone n false s = _
  simp [execChunkDecryptDone, hr, hst, Nat.not_le.mpr hs, hp, Nat.not_lt.mpr hl, hk, hc]

end Decrypt

/-- A read whose payload is decrypted is queued for the decompressors, which changes that read alone (R73, R80). -/
theorem State.giveReadLane_decrypted {s : State} {n : Nat} {r : ChunkRead} (x : List Byte)
    (h : Tab.find s.rdx.reads n = some r) :
    let t := (s.modifyRead n (fun r => { r with stage := .decrypted, payload := x })).giveReadLane n
    (∃ l, Tab.find t.rdx.reads n = some { r with stage := .decrypted, cmpLane := l, since := s.now, payload := x }) ∧
    (∀ m, m ≠ n → Tab.find t.rdx.reads m = Tab.find s.rdx.reads m) ∧ t = { s with rdx := { s.rdx with reads := t.rdx.reads } } := by
  have hf : Tab.find (s.modifyRead n (fun r => { r with stage := .decrypted, payload := x })).rdx.reads n =
      some { r with stage := .decrypted, payload := x } := by
    rw [State.modifyRead, Tab.find_modify, if_pos (Eq.refl _), h]; exact Eq.refl _
  unfold State.giveReadLane
  simp only [hf, ReadStage.engine]
  refine ⟨⟨_, (Tab.find_insert ..).trans (if_pos (Eq.refl _))⟩, fun m hm => ?_, Eq.refl _⟩
  rw [Tab.find_insert, if_neg hm, State.modifyRead, Tab.find_modify, if_neg hm]

/-- A tag that agrees leaves the payload decrypted, on a state that differs from `s` in its lanes alone. -/
theorem State.decrypted_effect {s s1 : State} {n : Nat} {r : ChunkRead} (x : List Byte)
    (hr : Tab.find s.rdx.reads n = some r) (hl : ∃ b, s1 = { s with lanes := b }) :
    let t := ((s1.count F.CIP.STAT.COUNT 1).modifyRead n (fun r => { r with stage := .decrypted, payload := x })).giveReadLane n
    (∃ l, Tab.find t.rdx.reads n = some { r with stage := .decrypted, cmpLane := l, since := s.now, payload := x }) ∧
    (∀ m, m ≠ n → Tab.find t.rdx.reads m = Tab.find s.rdx.reads m) ∧ SameRegs [(F.CIP.STAT.COUNT.nth 1).addr] s t ∧
    t = { s with lanes := s1.lanes, rdx := { s.rdx with reads := t.rdx.reads }, regs := t.regs } := by
  obtain ⟨b, rfl⟩ := hl
  have hreg : SameRegs [(F.CIP.STAT.COUNT.nth 1).addr] s (({ s with lanes := b } : State).count F.CIP.STAT.COUNT 1) :=
    fun a ha => State.count_reg _ _ _ _ _ (by simpa using ha)
  have hu := State.eq_of_unrecorded_of_evr (State.count_unrecorded { s with lanes := b } F.CIP.STAT.COUNT 1 1) (State.count_evr ..)
  generalize State.count _ _ _ = u at hu hreg ⊢
  obtain ⟨g, rfl⟩ : ∃ g, u = { s with lanes := b, regs := g } := ⟨_, hu⟩
  obtain ⟨hn, hm, ht⟩ := State.giveReadLane_decrypted x hr (s := { s with lanes := b, regs := g })
  have hregs := congrArg State.regs ht
  refine ⟨hn, hm, fun a ha => (State.reg_congr hregs a).trans (hreg a ha), ?_⟩
  rw [hregs]
  exact ht

/-! CHUNK_EXPAND_DONE (R75, R78, R87). -/

section Expand

variable {s s1 : State} {n bad : Nat} {r : ChunkRead} {b : List Byte}

/-- The cycles that the expansion of a payload takes, by its output as far as it came (R78, R87). -/
def ChunkRead.expandCost (r : ChunkRead) : Nat :=
  if (readHeader r.stored).raw then expandCycles true r.payload.length
  else expandCycles false (expandedLen (readHeader r.stored) r.payload)

theorem execChunkExpandDone_checked (hr : Tab.find s.rdx.reads n = some r) (hst : r.stage = .decrypted) (hs : r.since < s.now)
    (hc : s.readEnd .cmp n r r.expandCost = some s1) (he : expandCheck (readHeader r.stored) r.payload = (bad, b)) :
    exec (.chunkExpandDone n) s = .next
      (if bad ≠ 0 then ((s1.count F.CMP.STAT.COUNT (5 + bad)).event Src.CMP 2 0 bad).integrityFailure n r
      else ((s1.onSide (r.chunk / 2 ^ 47) (fun u => u.queueRewrite r)).count F.CMP.STAT.COUNT
        (if (readHeader r.stored).raw then 5 else 4)).endRead n r (some b) 0 0) := by
  show execChunkExpandDone n s = _
  rw [ChunkRead.expandCost] at hc
  simp only [execChunkExpandDone, hr, hst, ne_eq, not_true_eq_false, false_or, Nat.not_le.mpr hs, if_false, hc, he]

/-- With nobody waiting for it, a read that ends leaves the table of reads, and neither registers nor memory change. -/
theorem State.endRead_unawaited (s : State) (n : Nat) (content : Option (List Byte)) (failure keyId : Nat) (h : r.waiters = []) :
    let t := s.endRead n r content failure keyId
    t.rdx.reads = Tab.erase s.rdx.reads n ∧ t.regs = s.regs ∧ t.mem = s.mem := by
  simp [State.endRead, h]

/-- Content delivered to nobody: the read leaves, and one counter counts. -/
theorem State.delivered_unawaited (hl : ∃ b, s1 = { s with lanes := b }) (h : r.waiters = []) (k : Nat) :
    let t := ((s1.onSide (r.chunk / 2 ^ 47) (fun u => u.queueRewrite r)).count F.CMP.STAT.COUNT k).endRead n r (some b) 0 0
    Tab.find t.rdx.reads n = none ∧ (∀ m, m ≠ n → Tab.find t.rdx.reads m = Tab.find s.rdx.reads m) ∧
      SameRegs [(F.CMP.STAT.COUNT.nth k).addr] s t ∧ SameMemory s t := by
  obtain ⟨hrdx, hregs, hmem⟩ := State.onSide_queueRewrite s1 (r.chunk / 2 ^ 47) r
  have hs1 : s1.rdx = s.rdx ∧ s1.regs = s.regs ∧ s1.mem = s.mem := by
    obtain ⟨_, rfl⟩ := hl; exact ⟨Eq.refl _, Eq.refl _, Eq.refl _⟩
  generalize s1.onSide _ _ = u at *
  obtain ⟨herase, hregs', hmem'⟩ := State.endRead_unawaited (u.count F.CMP.STAT.COUNT k) n (some b) 0 0 h
  rw [State.count_rdx, hrdx, hs1.1] at herase
  refine ⟨?_, fun m hm => ?_, fun a ha => ?_, sameMemory_of_mem ?_⟩
  · rw [herase, Tab.find_erase, if_pos (Eq.refl _)]
  · rw [herase, Tab.find_erase, if_neg hm]
  · rw [State.reg_congr hregs', State.count_reg _ _ _ _ _ (by simpa using ha), State.reg_congr (hregs.trans hs1.2.1)]
  · rw [hmem', State.count_mem, hmem, hs1.2.2]

end Expand

theorem expandCheck_raw {h : ChunkHeader} (payload : List Byte) (hr : h.raw = true) :
    expandCheck h payload = (if contentCheckOf payload = h.contentCheck then 0 else 6, payload) := by
  rw [expandCheck, if_pos hr]

/-- A frame or member passes when it expands without error and the check of its output agrees, and gives that output. -/
theorem expandCheck_coded {h : ChunkHeader} (payload : List Byte) (hr : h.raw = false) :
    ((expandCheck h payload).1 = 0 ↔ (expandPayload h.gz h.logicalLen payload).1 = 0 ∧
      contentCheckOf (expandPayload h.gz h.logicalLen payload).2 = h.contentCheck) ∧
    ((expandCheck h payload).1 = 0 → (expandCheck h payload).2 = (expandPayload h.gz h.logicalLen payload).2) := by
  unfold expandCheck
  rw [hr]
  obtain ⟨step, out⟩ := expandPayload h.gz h.logicalLen payload
  cases step with
  | zero => by_cases hc : contentCheckOf out = h.contentCheck <;> simp [hc]
  | succ k => simp

/-! REWRAP (R132, R195). -/

/-- A stored chunk of the bulk tier that may move: its bytes are read within the grant, and rewrapped once they are present. -/
theorem execRewrap_stored {s : State} {nsid chunk : Nat} {e : ChunkEntry} {n : Ns} (hside : chunk / 2 ^ 47 = s.ftl.side)
    (he : Tab.find s.ftl.tables.chunks chunk = some e) (hn : Tab.find s.cmf.ns nsid = some n) (h2 : e.state = 2)
    (hm : s.mayMove chunk = true) :
    (s.moverRead Cls.rewrap chunk = none → s.granted Cls.rewrap = true → exec (.rewrap nsid chunk) s =
      .next ((s.startRead chunk (.move Cls.rewrap) []).spend Cls.rewrap (e.units * 64))) ∧
    (s.moverRead Cls.rewrap chunk = none → s.granted Cls.rewrap = false → exec (.rewrap nsid chunk) s = .next s) ∧
    (∀ job r, s.moverRead Cls.rewrap chunk = some (job, r) → exec (.rewrap nsid chunk) s =
      .next (if r.stage = .ready then s.rewrapBytes job chunk e r.stored n else s)) := by
  refine ⟨fun hr hg => ?_, fun hr hg => ?_, fun job r hr => ?_⟩ 
  all_goals show execRewrap nsid chunk s = _
  all_goals simp only [execRewrap, State.onSide_home _ hside, he, hn, h2, hm, hr, ne_eq, not_true_eq_false, Bool.not_true,
    Bool.false_eq_true, or_self, if_false]
  · rw [if_pos hg]
  · rw [if_neg (by rw [hg]; exact Bool.false_ne_true)]

section Rewrap

variable {s s1 : State} {job chunk slot m steps : Nat} {b : List Byte} {e : ChunkEntry} {n : Ns} {k k' : KeySlot}
  (hs : s.slotOfId e.keyId = some (slot, k)) (hr : s.resolveKey 0 n.keySlot = (some (m, steps), s1)) (hk : s1.slot 0 m = some k')
include hs hr hk

theorem State.rewrapBytes_sameKey (h : k'.keyId = e.keyId) : s.rewrapBytes job chunk e b n = s.dropRead job := by
  simp [State.rewrapBytes, hs, hr, hk, h]

theorem State.rewrapBytes_badHeader (h : k'.keyId ≠ e.keyId) (hp : (readHeader b).passes = false) :
    s.rewrapBytes job chunk e b n =
      (((s.chargeLane .cip true (gcmCycles 80 (readHeader b).storedLen)).count F.CIP.STAT.COUNT 2).event Src.CIP 4 0 chunk).nextSource
        job := by
  simp [State.rewrapBytes, hs, hr, hk, h, hp]

/-- Bytes that pass are encrypted under the present key with the next WRITE_SEQ and moved to a bulk stripe (R132). -/
theorem State.rewrapBytes_moves {s2 s4 : State} {key iv : List Byte} (h : k'.keyId ≠ e.keyId) (hp : (readHeader b).passes = true)
    (hid : (readHeader b).keyId = e.keyId)
    (htag : gcmTag k.key (readHeader b).iv (b.take 80) ((b.drop 96).take (readHeader b).storedLen) = (b.drop 80).take 16)
    (hv : s1.invoke 0 m 0x44 = (some (key, iv), s2))
    (hmove : ({ s2 with rdx := { s2.rdx with writeSeq := s2.rdx.writeSeq + 1 } } : State).moveToBulk .rewrap 1 chunk k'.keyId
      (rewrapped b (gcmCrypt k.key (readHeader b).iv ((b.drop 96).take (readHeader b).storedLen)) key iv k'.keyId
        (s2.fld F.FRN.EPOCH.EPOCH) (s2.rdx.writeSeq + 1)) = (true, s4)) :
    s.rewrapBytes job chunk e b n =
      ((s4.dropRead job).chargeLane .cip true (2 * gcmCycles 80 (readHeader b).storedLen)).count F.CIP.STAT.COUNT 3 := by
  simp [State.rewrapBytes, hs, hr, hk, h, hp, hid, htag, hv, hmove]

end Rewrap

end Sys2Proof.Machine

open Sys2Proof Sys2Proof.Machine

/-- Settles O35: each row by the branch of its meaning that its conditions choose. -/
theorem readPathChunkSteps : Obligations.ReadPathChunkSteps := by
  refine ⟨fun s n r busError hr hst hs h => execChunkDecryptDone_refused hr hst hs h,
    fun s n r hr hst hs hp hl hk => execChunkDecryptDone_noKey hr hst hs hp hl hk,
    fun s s1 n r p hr hst hs hp hl hk hc htag => ?_, fun s s1 n r p hr hst hs hp hl hk hc htag => ?_,
    fun s s1 n r b hr hst hs hc he => ?_, fun s s1 n r bad b hr hst hs hc he hbad => ?_,
    fun h payload hr => ?_, fun h payload hr => expandCheck_coded payload hr,
    fun s nsid chunk e n hside he hn h2 hm => execRewrap_stored hside he hn h2 hm,
    fun s s1 job chunk slot m steps b e n k k' hs hr hk => ⟨State.rewrapBytes_sameKey hs hr hk,
      State.rewrapBytes_badHeader hs hr hk,
      fun s2 s4 key iv h hp hid htag hv => State.rewrapBytes_moves hs hr hk h hp hid htag hv⟩⟩
  · exact ⟨_, (execChunkDecryptDone_tag hr hst hs hp hl hk hc).trans (congrArg _ (if_pos htag)),
      State.decrypted_effect _ hr (State.readEnd_lanes hc)⟩
  · rw [execChunkDecryptDone_tag hr hst hs hp hl hk hc, if_neg htag]
  · exact ⟨_, execChunkExpandDone_checked hr hst hs hc he, Eq.refl _,
      fun hw => State.delivered_unawaited (State.readEnd_lanes hc) hw _⟩
  · rw [execChunkExpandDone_checked hr hst hs hc he, if_pos hbad]
  · rw [expandCheck_raw payload hr]
    exact ⟨by simp, Eq.refl _⟩
end

section
/-!
The stripe journal's pair and the rebuild of stripes (R220, R224 to R231).
-/

namespace Sys2Proof.Machine

/-! What helps with work of one side and with steps one after another. -/

theorem State.eitherSide_single {s : State} (f : State → State) (h : s.other = none) : s.eitherSide f = f s := by
  unfold State.eitherSide
  rw [h]

/-- What each step leaves alone, steps one after another over a list leave alone. -/
theorem State.foldl_keeps {α β : Type} (p : State → α) {f : State → β → State} (h : ∀ u x, p (f u x) = p u) (l : List β)
    (s : State) : p (l.foldl f s) = p s := by
  induction l generalizing s with
  | nil => exact Eq.refl _
  | cons x l ih => exact (ih _).trans (h s x)

/-! Records formed in the stripe journal (R216). -/

/-- Only records have been formed in the stripe journal. -/
def SjFormed (s t : State) : Prop := ∃ n j, s.rdn.sseq ≤ n ∧ t = { s with rdn := { s.rdn with sseq := n, journal := j } }

namespace SjFormed

theorem refl (s : State) : SjFormed s s := ⟨s.rdn.sseq, s.rdn.journal, Nat.le_refl _, Eq.refl _⟩

theorem trans {s t u : State} (h : SjFormed s t) (h' : SjFormed t u) : SjFormed s u := by
  obtain ⟨n, j, hn, rfl⟩ := h
  obtain ⟨n', j', hn', rfl⟩ := h'
  exact ⟨n', j', Nat.le_trans hn hn', Eq.refl _⟩

theorem formSj (s : State) (id : Nat) (b : SjBody) : SjFormed s (s.formSj id b) := ⟨_, _, Nat.le_succ _, Eq.refl _⟩

theorem foldl {α : Type} {f : State → α → State} (h : ∀ u x, SjFormed u (f u x)) (l : List α) (s : State) :
    SjFormed s (l.foldl f s) := by
  induction l generalizing s with
  | nil => exact refl s
  | cons x l ih => exact (h s x).trans (ih _)

/-- The restatement only forms records (R220). -/
theorem restate (s : State) : SjFormed s s.restate := by
  have hopen := foldl (fun u (p : Nat × Stripe) => ((formSj u p.1 (.open_ p.2.rows)).trans (formSj _ p.1 (.intent p.2.sentLimit))).trans
    (formSj _ p.1 (.done p.2.rowsDone))) (s.ftl.stripes.filter (fun p => p.2.state = 1)) s
  have hrebuild := fun v : State => foldl (fun u (p : Nat × Rebuild) =>
    formSj u p.1 (.rebuild p.2.a (p.2.b.getD 31) p.2.rowsA p.2.rowsB)) v.rdn.rebuilds v
  have hloss := fun v : State => foldl (fun u (p : Nat × Stripe) => foldl (fun w (l : LostSet) =>
    formSj w p.1 (.loss l.row l.slot l.members)) (p.2.lost.filter (fun l => !l.swept)) u) v.ftl.stripes v
  refine ((hopen.trans (hrebuild _)).trans ?_).trans (hloss _)
  split
  · exact formSj _ _ _
  · exact refl _

theorem pair {s t : State} (h : SjFormed s t) : t.rdn.pair = s.rdn.pair := by obtain ⟨_, _, _, rfl⟩ := h; exact Eq.refl _
theorem tables {s t : State} (h : SjFormed s t) : t.ftl.tables = s.ftl.tables := by obtain ⟨_, _, _, rfl⟩ := h; exact Eq.refl _
theorem le_sseq {s t : State} {n : Nat} (h : SjFormed s t) (hn : n ≤ s.rdn.sseq) : n ≤ t.rdn.sseq := by
  obtain ⟨_, _, hs, rfl⟩ := h; exact Nat.le_trans hn hs

end SjFormed

/-- SJ_PAIR_MOVE of a bad pair opens a new one and restates first (R220). -/
theorem sjPairMove_row (s s1 : State) (k0 k1 : Nat) (ho : s.other = none) (hb : s.sjPairBad = true)
    (h : s.openSjPair 65536 = some ((k0, k1), s1)) : Runs .sjPairMove s fun t =>
    t.rdn.pair = s1.rdn.pair ∧ t.rdn.restating.isSome = true ∧ t.ftl.tables = s1.ftl.tables ∧ s1.rdn.sseq ≤ t.rdn.sseq := by
  refine ⟨_, congrArg Host.Outcome.next (State.eitherSide_single _ ho), ?_⟩
  simp only [hb, h, Bool.not_true, Bool.false_eq_true, if_false]
  exact ⟨(SjFormed.restate _).pair, Eq.refl _, (SjFormed.restate _).tables, (SjFormed.restate _).le_sseq (Nat.le_refl _)⟩

/-! The stripe rebuilt next (R225, R227). -/

theorem mem_of_leastBy {f : Nat × Stripe → Nat} {l : List (Nat × Stripe)} {p : Nat × Stripe} (h : leastBy f l = some p) : p ∈ l := by
  induction l generalizing p with
  | nil => cases h
  | cons q l ih =>
    unfold leastBy at h
    split at h
    · exact List.mem_cons.mpr (.inl (Option.some.inj h).symm)
    · next r hr =>
      split at h
      · exact List.mem_cons_of_mem _ (Option.some.inj h ▸ ih hr)
      · exact List.mem_cons.mpr (.inl (Option.some.inj h).symm)

theorem State.rebuildTarget_failed {s : State} {id : Nat} {x : Stripe} (h : s.rebuildTarget = some (id, x)) : 0 < x.failedCount := by
  have hm := (List.mem_filter.mp (mem_of_leastBy h)).2
  simp only [decide_eq_true_eq] at hm
  exact hm.2.1

/-- A stripe that counts a FAILED member has one at some place. -/
theorem Stripe.exists_failed {x : Stripe} (h : 0 < x.failedCount) :
    ∃ m, m < x.members.length ∧ (x.members[m]?).any StripeMember.failed = true := by
  obtain ⟨mb, hmb⟩ := List.exists_mem_of_length_pos h
  obtain ⟨hmem, hf⟩ := List.mem_filter.mp hmb
  obtain ⟨m, hm, rfl⟩ := List.getElem_of_mem hmem
  exact ⟨m, hm, by rw [List.getElem?_eq_getElem hm]; exact hf⟩

/-- A rebuild that begins names a FAILED member, has no row done, and changes the table of rebuilds alone. -/
theorem State.beginRebuild_effect (s : State) (id : Nat) {x : Stripe} (h : 0 < x.failedCount) :
    let t := s.beginRebuild id x
    (∃ rb, Tab.find t.rdn.rebuilds id = some rb ∧ rb.rowsA = 0 ∧ rb.rowsB = 0 ∧ rb.left = 0 ∧
      (x.members[rb.a]?).any StripeMember.failed = true) ∧ (∀ m, m ≠ id → Tab.find t.rdn.rebuilds m = Tab.find s.rdn.rebuilds m) ∧
    t = { s with rdn := { s.rdn with rebuilds := t.rdn.rebuilds } } := by
  obtain ⟨m, hm, hf⟩ := Stripe.exists_failed h
  unfold State.beginRebuild
  dsimp only
  split
  · next hnil =>
    have hmem : m ∈ (List.range x.members.length).filter (fun m => (x.members[m]?).any StripeMember.failed) :=
      List.mem_filter.mpr ⟨List.mem_range.mpr hm, hf⟩
    rw [hnil] at hmem
    cases hmem
  · next a rest hcons =>
    have ha := (List.mem_filter.mp (hcons ▸ List.mem_cons_self : a ∈ List.filter _ _)).2
    exact ⟨⟨_, (Tab.find_insert ..).trans (if_pos (Eq.refl _)), Eq.refl _, Eq.refl _, Eq.refl _, ha⟩,
      fun m hm => (Tab.find_insert ..).trans (if_neg hm), Eq.refl _⟩

/-! REBUILD_ROW (R225 to R231). -/

/-- The FAILED members of a rebuild that still lack a replacement (R226 step 1). -/
def Rebuild.bare (rb : Rebuild) (x : Stripe) : List Nat :=
  ([rb.a] ++ rb.b.toList).filter (fun m => (x.members[m]?).any (fun mb => mb.failed && mb.repl.isNone))

section RebuildRow

variable {s : State} {id : Nat} {x : Stripe} {rb : Rebuild} (ho : s.other = none) (hen : s.fld F.RDN.REBUILD_CTL.EN ≠ 0)
  (hg : s.granted Cls.rebuild = true) (ht : s.rebuildTarget = some (id, x))
include ho hen hg ht

theorem execRebuildRow_relocates (hb : s.byRelocation id x = true) :
    exec .rebuildRow s = .next (s.moveChunks .relocate Cls.rebuild 1 anyRoom (fun t => t.movable id)) := by
  refine congrArg Host.Outcome.next ((State.eitherSide_single _ ho).trans ?_)
  simp only [hen, hg, ht, hb, Bool.not_true, Bool.false_eq_true, or_self, if_false, if_true]

variable (hb : s.byRelocation id x = false)
include hb

theorem execRebuildRow_begins (hr : Tab.find s.rdn.rebuilds id = none) : exec .rebuildRow s = .next (s.beginRebuild id x) := by
  refine congrArg Host.Outcome.next ((State.eitherSide_single _ ho).trans ?_)
  simp only [hen, hg, ht, hb, hr, Bool.not_true, Bool.false_eq_true, or_self, if_false]

variable (hr : Tab.find s.rdn.rebuilds id = some rb)
include hr

theorem execRebuildRow_chooses (hbare : rb.bare x ≠ []) :
    exec .rebuildRow s = .next ((rb.bare x).foldl (fun t m => t.chooseReplacement id m) s) := by
  refine congrArg Host.Outcome.next ((State.eitherSide_single _ ho).trans ?_)
  simp only [hen, hg, ht, hb, hr, Bool.not_true, Bool.false_eq_true, or_self, if_false]
  exact if_pos hbare

theorem execRebuildRow_row (hbare : rb.bare x = []) (hl : rb.left = 0) (hs : s.membersSettled id = true) :
    exec .rebuildRow s = .next (s.rebuildRow id x rb) := by
  refine congrArg Host.Outcome.next ((State.eitherSide_single _ ho).trans ?_)
  simp only [hen, hg, ht, hb, hr, Bool.not_true, Bool.false_eq_true, or_self, if_false]
  rw [Rebuild.bare] at hbare
  simp only [hbare, hl, hs, ne_eq, not_true_eq_false, Bool.not_true, Bool.false_eq_true, or_self, if_false]

end RebuildRow

/-- A rebuild of one member that lacks a replacement lacks that one. -/
theorem Rebuild.bare_single {rb : Rebuild} {x : Stripe} {mb : StripeMember} (hb : rb.b = none) (hm : x.members[rb.a]? = some mb)
    (hf : mb.failed = true) (hr : mb.repl = none) : rb.bare x = [rb.a] := by
  simp [Rebuild.bare, hb, hm, hf, hr]

/-- The replacement chosen stands in the descriptor, and one record is formed (R226 step 1). -/
theorem State.chooseReplacement_some {s : State} {id m n : Nat} {x : Stripe} {mb : StripeMember} {ds : List (Nat × Nat)}
    (hx : Tab.find s.ftl.stripes id = some x) (hm : x.members[m]? = some mb) (h : s.replacement id x = some (n, ds)) :
    let t := s.chooseReplacement id m
    (Tab.find t.ftl.stripes id).map (fun y => (y.members[m]?).map StripeMember.repl) = some (some (some (n, ds, 0))) ∧
      t.rdn.sseq = s.rdn.sseq + 1 := by
  have hlt : m < x.members.length := (List.getElem?_eq_some_iff.mp hm).1
  simp only [State.chooseReplacement, hx, hm, h]
  refine ⟨?_, Eq.refl _⟩
  show (Tab.find (Tab.modify s.ftl.stripes id _) id).map _ = _
  rw [Tab.find_modify, if_pos (Eq.refl _), hx]
  simp [hlt]

/-- With no module to take, RDN.EVENT.PLACE_FAIL is set and nothing else changes. -/
theorem State.chooseReplacement_none {s : State} {id m : Nat} {x : Stripe} {mb : StripeMember}
    (hx : Tab.find s.ftl.stripes id = some x) (hm : x.members[m]? = some mb) (h : s.replacement id x = none) :
    s.chooseReplacement id m = s.event Src.RDN 9 id := by
  simp only [State.chooseReplacement, hx, hm, h]

/-- An event in a block changes the recorder and the registers alone, and signals. -/
theorem State.event_rows (s : State) (bit unit a0 a1 : Nat) : let t := s.event Src.RDN bit unit a0 a1
    Signals s t Src.RDN bit unit ∧ t = { s with regs := t.regs, evr := t.evr } :=
  ⟨State.event_signals s s _ _ _ _ _ (eventAddr_not_mem_recordRegs _ (by decide)) (Eq.refl _) (Eq.refl _) (Eq.refl _),
    State.eq_of_unrecorded (State.event_unrecorded ..)⟩

theorem rebuildRow_chooses (s : State) (id : Nat) (x : Stripe) (rb : Rebuild) (mb : StripeMember) (ho : s.other = none)
    (hen : s.fld F.RDN.REBUILD_CTL.EN ≠ 0) (hg : s.granted Cls.rebuild = true) (ht : s.rebuildTarget = some (id, x))
    (hb : s.byRelocation id x = false) (hr : Tab.find s.rdn.rebuilds id = some rb) (hone : rb.b = none)
    (hm : x.members[rb.a]? = some mb) (hf : mb.failed = true) (hrepl : mb.repl = none) (hx : Tab.find s.ftl.stripes id = some x) :
    (∀ n ds, s.replacement id x = some (n, ds) → Runs .rebuildRow s fun t =>
      (Tab.find t.ftl.stripes id).map (fun y => (y.members[rb.a]?).map StripeMember.repl) = some (some (some (n, ds, 0))) ∧
      t.rdn.sseq = s.rdn.sseq + 1) ∧
    (s.replacement id x = none → Runs .rebuildRow s fun t =>
      Signals s t Src.RDN 9 id ∧ t = { s with regs := t.regs, evr := t.evr }) := by
  have hbare := Rebuild.bare_single hone hm hf hrepl
  have he : exec .rebuildRow s = .next (s.chooseReplacement id rb.a) := by
    rw [execRebuildRow_chooses ho hen hg ht hb hr (by rw [hbare]; exact List.cons_ne_nil _ _), hbare]
    exact Eq.refl _
  refine ⟨fun n ds h => ⟨_, he, State.chooseReplacement_some hx hm h⟩, fun h => ⟨_, he, ?_⟩⟩
  rw [State.chooseReplacement_none hx hm h]
  exact s.event_rows 9 id 0 0

theorem State.rebuildRow_ended {s : State} {id : Nat} {x : Stripe} {rb : Rebuild} (h : x.rowsDone ≤ rb.nextRow x.rowsDone) :
    s.rebuildRow id x rb = s := if_pos (.inl h)

/-! A row programmed (R226 step 2). -/

theorem State.chargeRdn_rdn (s : State) (d n : Nat) : (s.chargeRdn d n).rdn = s.rdn := by
  induction n generalizing s with
  | zero => exact Eq.refl _
  | succ n ih =>
    refine (ih _).trans ?_
    split <;> exact Eq.refl _

/-- Sets given up are read no longer; the others stay. -/
theorem State.find_dropSets (l : List Nat) (s : State) (a : Nat) :
    Tab.find (l.foldl State.dropSet s).rdn.sets a = if a ∈ l then none else Tab.find s.rdn.sets a := by
  induction l generalizing s with
  | nil => exact Eq.refl _
  | cons b l ih =>
    rw [List.foldl_cons, ih]
    show (if a ∈ l then none else Tab.find (Tab.erase s.rdn.sets b) a) = _
    rw [Tab.find_erase]
    by_cases hl : a ∈ l <;> by_cases hb : a = b <;> simp [hl, hb]

theorem State.programRebuilt_rows (s : State) (id row : Nat) (x : Stripe) (rb : Rebuild) (sets : List (Nat × SetRead)) :
    let t := s.programRebuilt id x rb row sets
    Tab.find t.rdn.rebuilds id = some { rb with row := row, left := (rb.membersAt row).length * x.g } ∧
    (∀ q ∈ sets, Tab.find t.rdn.sets q.1 = none) := by
  unfold State.programRebuilt
  simp only [State.count_rdn]
  refine ⟨?_, fun q hq => ?_⟩
  · refine (congrArg (fun r : Rdn => Tab.find r.rebuilds id) (State.chargeRdn_rdn ..)).trans ?_
    exact (Tab.find_insert ..).trans (if_pos (Eq.refl _))
  · refine (congrArg (fun r : Rdn => Tab.find r.sets q.1) (State.chargeRdn_rdn ..)).trans ?_
    exact (State.find_dropSets ..).trans (if_pos (List.mem_map_of_mem hq))

/-! REBUILD_COMMIT (R226 step 5). -/

/-- A member's replacement in its place: the stripe's other members stay. -/
theorem State.commitMember_stripe {s : State} {id m n k : Nat} {x : Stripe} {mb : StripeMember} {ds : List (Nat × Nat)}
    (hx : Tab.find s.ftl.stripes id = some x) (hm : x.members[m]? = some mb) (hr : mb.repl = some (n, ds, k)) :
    Tab.find (s.commitMember id m).ftl.stripes id = some { x with
      members := x.members.set m { module := n, dies := ds, failed := false, repl := none } } := by
  refine (Tab.find_modify ..).trans ?_
  simp only [hx, hm, hr, if_true, Option.map_some]

/-- A stripe whose members but one have not failed counts none FAILED once that one is replaced. -/
theorem failedCount_set {x : Stripe} {m : Nat} {mb : StripeMember} (hmb : mb.failed = false)
    (h : ∀ i, i < x.members.length → i ≠ m → (x.members[i]?).any StripeMember.failed = false) :
    ({ x with members := x.members.set m mb } : Stripe).failedCount = 0 := by
  refine List.length_eq_zero_iff.mpr (List.filter_eq_nil_iff.mpr fun y hy => ?_)
  obtain ⟨i, hi, rfl⟩ := List.getElem_of_mem hy
  rw [List.length_set] at hi
  rw [List.getElem_set]
  split
  · rw [hmb]; exact Bool.false_ne_true
  · next hne =>
    have hi' := h i hi (Ne.symm hne)
    rw [List.getElem?_eq_getElem hi] at hi'
    exact Bool.eq_false_iff.mp hi'

theorem State.excludeCheck_keeps {α : Type} (p : State → α) (hp : ∀ u f v, p (State.put u f v) = p u) (s : State) :
    p s.excludeCheck = p s := by
  refine State.foldl_keeps p (fun u n => ?_) _ s
  split
  · rw [hp, hp]
  · exact Eq.refl _

theorem State.rebuildDoneCheck_keeps (s : State) : s.rebuildDoneCheck.ftl = s.ftl ∧ s.rebuildDoneCheck.rdn.rebuilds = s.rdn.rebuilds := by
  unfold State.rebuildDoneCheck
  split
  · rw [State.event_ftl, State.event_rdn]; exact ⟨Eq.refl _, Eq.refl _⟩
  · exact ⟨Eq.refl _, Eq.refl _⟩

theorem rebuildCommit_row (s : State) (id n : Nat) (rb : Rebuild) (x : Stripe) (mb : StripeMember) (ds : List (Nat × Nat)) (k : Nat)
    (ho : s.other = none) (hr : Tab.find s.rdn.rebuilds id = some rb) (ha : rb.commitA.any s.sjSettled = true)
    (hb : rb.commitB.any s.sjSettled = false) (hx : Tab.find s.ftl.stripes id = some x) (hm : x.members[rb.a]? = some mb)
    (hrepl : mb.repl = some (n, ds, k)) (hlost : x.lost = [])
    (hrest : ∀ m, m < x.members.length → m ≠ rb.a → (x.members[m]?).any StripeMember.failed = false) :
    Runs (.rebuildCommit id) s fun t =>
    Tab.find t.rdn.rebuilds id = none ∧ (Tab.find t.ftl.stripes id).map (fun y => y.members) =
      some (x.members.set rb.a { module := n, dies := ds, failed := false, repl := none }) := by
  have hy := State.commitMember_stripe hx hm hrepl
  have hc := failedCount_set (mb := { module := n, dies := ds, failed := false, repl := none }) (Eq.refl _) hrest
  refine ⟨_, congrArg Host.Outcome.next (State.eitherSide_single _ ho), ?_⟩
  simp only [hr, ha, hb, hy, hc, Bool.not_true, Bool.not_false, Bool.false_and, Bool.false_eq_true, if_true, if_false,
    gt_iff_lt, Nat.lt_irrefl]
  rw [if_pos hlost]
  obtain ⟨hftl, hrdn⟩ := State.rebuildDoneCheck_keeps (State.excludeCheck (State.count _ F.RDN.STAT.COUNT 3))
  rw [hftl, hrdn, State.excludeCheck_keeps State.rdn (fun _ _ _ => State.put_rdn ..), State.count_rdn,
    State.excludeCheck_keeps State.ftl (fun _ _ _ => State.put_ftl ..), State.count_ftl]
  exact ⟨(Tab.find_erase ..).trans (if_pos (Eq.refl _)), by rw [hy]; exact Eq.refl _⟩

end Sys2Proof.Machine
end

section
/-!
The sweep of a lost set (R61, R231, R232).
-/

namespace Sys2Proof.Machine

/-- A key that an entry of a table has is found there. -/
theorem Tab.isSome_find_of_mem {α : Type} {m : Tab α} {p : Nat × α} (h : p ∈ m) : (Tab.find m p.1).isSome = true := by
  induction m with
  | nil => cases h
  | cons q m ih =>
    obtain ⟨k, v⟩ := q
    unfold Tab.find
    split
    · exact Eq.refl _
    · next hne =>
      rcases List.mem_cons.mp h with rfl | h
      · exact absurd (Eq.refl _) hne
      · exact ih h

/-- A chunk marked LOST, in its entry and in the hot set, and counted (R232). -/
def State.markLost (s : State) (c : Nat) : State :=
  ((s.modifyChunk c (fun e => { e with lost := true })).hotModify c (fun h => { h with lost := true })).count F.RDN.STAT.COUNT 11

/-- What chunks marked LOST leave alone. -/
theorem State.foldl_markLost_frame (l : List Nat) (s : State) : let t := l.foldl State.markLost s
    t.ftl.stripes = s.ftl.stripes ∧ t.ftl.tables.map = s.ftl.tables.map ∧ t.mem = s.mem ∧ t.evr = s.evr ∧ t.tck = s.tck := by
  have h := State.foldl_keeps (fun u => (u.ftl.stripes, u.ftl.tables.map, u.mem, u.evr, u.tck)) (f := State.markLost)
    (fun u c => by
      simp only [State.markLost, State.count_ftl, State.count_mem, State.count_evr, State.count_tck]
      exact Eq.refl _) l s
  simpa only [Prod.mk.injEq] using h

theorem State.find_markLost (s : State) (c a : Nat) : Tab.find (s.markLost c).ftl.tables.chunks a =
    if a = c then (Tab.find s.ftl.tables.chunks c).map (fun e => { e with lost := true }) else Tab.find s.ftl.tables.chunks a := by
  rw [State.markLost, State.count_ftl]
  exact Tab.find_modify ..

/-- Of the chunk table, chunks marked LOST change their own entries alone. -/
theorem State.find_foldl_markLost (l : List Nat) (s : State) (a : Nat) : Tab.find (l.foldl State.markLost s).ftl.tables.chunks a =
    if a ∈ l then (Tab.find s.ftl.tables.chunks a).map (fun e => { e with lost := true }) else Tab.find s.ftl.tables.chunks a := by
  induction l generalizing s with
  | nil => exact Eq.refl _
  | cons c l ih =>
    rw [List.foldl_cons, ih, State.find_markLost]
    by_cases hc : a = c
    · subst hc; simp [Option.map_map, Function.comp_def]
    · simp [hc]

theorem State.reg_foldl_markLost (l : List Nat) (s : State) {a : Nat} (h : a ≠ (F.RDN.STAT.COUNT.nth 11).addr) :
    (l.foldl State.markLost s).reg a = s.reg a :=
  State.foldl_keeps (fun u => u.reg a) (fun u c => by rw [State.markLost, State.count_reg _ _ _ _ _ h]; exact Eq.refl _) l s

/-- A chunk of a lost set is in the chunk table. -/
theorem State.isSome_of_mem_lostChunks {s : State} {id c : Nat} {x : Stripe} {l : LostSet} (h : c ∈ s.lostChunks id x l) :
    (Tab.find s.ftl.tables.chunks c).isSome = true := by
  obtain ⟨p, hp, rfl⟩ := List.mem_map.mp h
  exact Tab.isSome_find_of_mem (List.mem_filter.mp hp).1

/-- Every lost set of a row and slot is swept once these are marked. -/
theorem lostSwept (l : List LostSet) (row slot : Nat) :
    (l.map (fun q => if q.row = row ∧ q.slot = slot then { q with swept := true } else q)).all
      (fun q => q.row != row || q.slot != slot || q.swept) = true := by
  refine List.all_eq_true.mpr (List.forall_mem_map.mpr fun q _ => ?_)
  by_cases hr : q.row = row <;> by_cases hs : q.slot = slot <;> simp [hr, hs]

/-- LOSS_SWEEP marks the chunks of a lost set LOST, and the sweep ends with RDN.EVENT.LOSS (R61, R231, R232). -/
theorem lossSweep_row (s : State) (id row slot : Nat) (x : Stripe) (l : LostSet) (ho : s.other = none)
    (hx : Tab.find s.ftl.stripes id = some x) (hl : x.lost.find? (fun l => l.row = row ∧ l.slot = slot ∧ !l.swept) = some l)
    (hg : s.granted Cls.mapWork = true) : Runs (.lossSweep id row slot) s fun t =>
    (∀ c ∈ s.lostChunks id x l, (Tab.find t.ftl.tables.chunks c).any ChunkEntry.lost = true) ∧
    (∀ c, c ∉ s.lostChunks id x l → Tab.find t.ftl.tables.chunks c = Tab.find s.ftl.tables.chunks c) ∧
    (Tab.find t.ftl.stripes id).any (fun y => y.lost.all (fun q => q.row != row || q.slot != slot || q.swept)) = true ∧
    Signals s t Src.RDN 4 id ∧ t.ftl.tables.map = s.ftl.tables.map ∧ SameMemory s t := by
  refine ⟨_, congrArg Host.Outcome.next (State.eitherSide_single _ ho), ?_⟩
  simp only [hx, hl, hg, Bool.not_true, Bool.false_eq_true, if_false]
  rw [State.event_ftl]
  obtain ⟨hstripes, hmap, hmem, hevr, htck⟩ := State.foldl_markLost_frame (s.lostChunks id x l) s
  refine ⟨fun c hc => ?_, fun c hc => ?_, ?_, ?_, hmap, sameMemory_of_mem ((State.event_mem ..).trans hmem)⟩
  · show (Tab.find ((s.lostChunks id x l).foldl State.markLost s).ftl.tables.chunks c).any _ = true
    obtain ⟨e, he⟩ := Option.isSome_iff_exists.mp (State.isSome_of_mem_lostChunks hc)
    rw [State.find_foldl_markLost, if_pos hc, he]
    exact Eq.refl _
  · exact (State.find_foldl_markLost ..).trans (if_neg hc)
  · show (Tab.find (Tab.modify ((s.lostChunks id x l).foldl State.markLost s).ftl.stripes id _) id).any _ = true
    rw [hstripes, Tab.find_modify, if_pos (Eq.refl _), hx]
    exact lostSwept x.lost row slot
  · exact State.event_signals _ s _ _ _ _ _ (eventAddr_not_mem_recordRegs _ (by decide))
      (State.reg_foldl_markLost _ s (a := eventAddr Src.RDN) (by decide)) hevr (congrArg Tck.tick htck)

end Sys2Proof.Machine
end

section
/-!
Reshapes and evacuations, and a module taken back (R224, R236 to R239).
-/

namespace Sys2Proof.Machine

/-! RESHAPE_START and RESHAPE_ABANDON: writes of RDN.RESHAPE_CMD. -/

def rdnReshapeCmd : RegSpec := ⟨0x128, 0x0, 1, [⟨1, 0, .wo, (k 0), false, [(1, 2)]⟩]⟩

theorem specAt_rdnReshapeCmd : specAt F.RDN.RESHAPE_CMD.OP.addr = some (Src.RDN, rdnReshapeCmd, 0) := by rfl

theorem blockOf_rdnReshapeCmd : blockOf F.RDN.RESHAPE_CMD.OP.addr = some Src.RDN := by decide

theorem State.accepts_rdnReshapeCmd (s : State) (v : Nat) :
    s.accepts F.RDN.RESHAPE_CMD.OP.addr v = !s.flag F.RDN.RESHAPE_STATUS.BUSY := by
  have h : s.accepts F.RDN.RESHAPE_CMD.OP.addr v = if (s.flag F.RDN.RESHAPE_STATUS.BUSY || false) = true then false else true := by rfl
  rw [h]
  cases s.flag F.RDN.RESHAPE_STATUS.BUSY <;> rfl

/-- An operation that RDN.RESHAPE_CMD takes: START or ABANDON. -/
theorem State.firstError_rdnReshapeCmd (s : State) {op : Nat} (h : op = 1 ∨ op = 2) :
    s.firstError rdnReshapeCmd F.RDN.RESHAPE_CMD.OP.addr F.RDN.RESHAPE_CMD.OP.addr 0 (fieldWord F.RDN.RESHAPE_CMD.OP op).toNat = none := by
  rcases h with rfl | rfl <;> rfl

theorem wfld_rdnReshapeCmd {op : Nat} (h : op = 1 ∨ op = 2) :
    wfld (fieldWord F.RDN.RESHAPE_CMD.OP op).toNat F.RDN.RESHAPE_CMD.OP = op := by
  rcases h with rfl | rfl <;> decide

theorem State.afterWrite_rdnReshapeCmd (s : State) (r : Req) (n v was : Nat) (ok : Bool) :
    s.afterWrite r F.RDN.RESHAPE_CMD.OP.addr n v was ok =
      ({ s with rdn := { s.rdn with command := some (wfld v F.RDN.RESHAPE_CMD.OP) } } : State).put F.RDN.RESHAPE_STATUS.BUSY 1 := by rfl

/-- A field written leaves the other bits of its register. -/
theorem State.put_onlyBits (s : State) {f : Fld} (v : Nat) (h : f.ok) :
    OnlyBits f.hi f.lo (s.reg f.addr) ((s.put f v).reg f.addr) := by
  intro i hi
  have hlt := setBits_lt _ f.hi f.lo v h.1 h.2 (s.reg f.addr).isLt
  rw [State.put, State.reg_setReg_same, BitVec.getLsbD, BitVec.toNat_ofNat, Nat.mod_eq_of_lt hlt, testBit_setBits _ _ _ _ _ h.1]
  rcases hi with hi | hi
  · rw [if_pos hi]; rfl
  · rw [if_neg (by have := h.1; omega), if_neg (by omega)]; rfl

section Start

variable {s : State} {r : Req} {op : Nat} (hr : FromCore r) (hop : op = 1 ∨ op = 2)
include hr hop

theorem reshapeCmd_started (hb : s.flag F.RDN.RESHAPE_STATUS.BUSY = false) :
    let t := s.busWrite r F.RDN.RESHAPE_CMD.OP.addr 8 (fieldWord F.RDN.RESHAPE_CMD.OP op) true
    t = { s with rdn := { s.rdn with command := some op }, regs := t.regs } ∧ t.flag F.RDN.RESHAPE_STATUS.BUSY = true ∧
    SameRegs [F.RDN.RESHAPE_STATUS.BUSY.addr] s t ∧
    OnlyBits F.RDN.RESHAPE_STATUS.BUSY.hi F.RDN.RESHAPE_STATUS.BUSY.lo (s.reg F.RDN.RESHAPE_STATUS.BUSY.addr)
      (t.reg F.RDN.RESHAPE_STATUS.BUSY.addr) := by
  have hok : F.RDN.RESHAPE_STATUS.BUSY.ok := by decide
  have h := State.busWrite_action (ok := true) hr (by decide) specAt_rdnReshapeCmd
    (fun f hf => by rw [List.mem_singleton.mp hf]) (s.firstError_rdnReshapeCmd hop) (by rw [s.accepts_rdnReshapeCmd, hb]; rfl) (by rfl)
  rw [State.afterWrite_rdnReshapeCmd, wfld_rdnReshapeCmd hop] at h
  rw [h]
  have hreg := s.reg_setReg_self F.RDN.RESHAPE_CMD.OP.addr
  refine ⟨Eq.refl _, ?_, fun a ha => ?_, ?_⟩
  · rw [State.flag, State.fld_put_width _ _ _ 1 hok (Eq.refl _)]; rfl
  · exact (State.put_sameRegs _ _ _ a ha).trans (hreg a)
  · rw [← hreg F.RDN.RESHAPE_STATUS.BUSY.addr]
    exact State.put_onlyBits _ 1 hok

theorem reshapeCmd_discarded (hb : s.flag F.RDN.RESHAPE_STATUS.BUSY = true) :
    let t := s.busWrite r F.RDN.RESHAPE_CMD.OP.addr 8 (fieldWord F.RDN.RESHAPE_CMD.OP op) true
    t = { s with regs := t.regs, evr := t.evr } ∧ t.evr.queue = s.evr.queue ∧ t.flag F.RDN.RESHAPE_STATUS.BUSY = true ∧
    (t.reg (blockBase Src.RDN + 8)).getLsbD 4 = true ∧ SameRegs [blockBase Src.RDN + 8, blockBase Src.RDN + 16] s t := by
  have h := s.busWrite_discarded r F.RDN.RESHAPE_CMD.OP.addr (fieldWord F.RDN.RESHAPE_CMD.OP op) true Src.RDN rdnReshapeCmd 0 hr
    (by decide) blockOf_rdnReshapeCmd specAt_rdnReshapeCmd (s.firstError_rdnReshapeCmd hop) (by rw [s.accepts_rdnReshapeCmd, hb]; rfl)
  rw [h]
  have hregs := s.accessErrorIn_sameRegs Src.RDN r true F.RDN.RESHAPE_CMD.OP.addr 8 .state
  refine ⟨State.eq_of_unrecorded (State.accessErrorIn_unrecorded ..), ?_, ?_, ?_, hregs⟩
  · rw [State.accessErrorIn_evr]
  · rw [State.flag, State.fld_eq_of_reg (hregs F.RDN.RESHAPE_STATUS.BUSY.addr (by decide))]; exact hb
  · exact s.accessErrorIn_kind Src.RDN r true _ 8 .state

end Start

end Sys2Proof.Machine
end

section
/-!
The command that a boundary carries out, and the steps of a reshape (R236 to R239).
-/

namespace Sys2Proof.Machine

/-! The command of a boundary (R236, R239). -/

/-- The command is taken: BUSY reads 0 and none waits. -/
def State.reshapeTaken (s : State) : State :=
  ({ s with rdn := { s.rdn with command := none } } : State).put F.RDN.RESHAPE_STATUS.BUSY 0

theorem State.reshapeTaken_eq (s : State) :
    ({ s with rdn := { s.rdn with command := none } } : State).put F.RDN.RESHAPE_STATUS.BUSY 0 = s.reshapeTaken := Eq.refl _

/-- A register other than RESHAPE_STATUS reads as before the command was taken. -/
theorem State.reshapeTaken_fld (s : State) {f : Fld} (h : f.addr ≠ F.RDN.RESHAPE_STATUS.BUSY.addr) :
    s.reshapeTaken.fld f = s.fld f := State.fld_eq_of_reg (State.reg_put_other _ _ _ _ h)

theorem State.reshapeTaken_rdn (s : State) : s.reshapeTaken.rdn = { s.rdn with command := none } := State.put_rdn ..

theorem State.reshapeTaken_busy (s : State) : s.reshapeTaken.fld F.RDN.RESHAPE_STATUS.BUSY = 0 :=
  State.fld_put_width _ _ _ 1 (by decide) (Eq.refl _)

theorem State.reshapeTaken_geomOk (s : State) (d : Nat) : s.reshapeTaken.geomOk d = s.geomOk d := by
  have hg : s.reshapeTaken.groupSize = s.groupSize := by rw [State.groupSize, s.reshapeTaken_fld (by decide)]; rfl
  have hl : s.reshapeTaken.largestBlock = s.largestBlock := by rw [State.largestBlock, State.reshapeTaken, State.put_frn]; rfl
  rw [State.geomOk, State.geomOk, s.reshapeTaken_fld (by decide), s.reshapeTaken_fld (by decide), hg, hl]

theorem State.reshapeTaken_kind (s : State) : s.reshapeTaken.fld F.RDN.RESHAPE_ARG.KIND = s.fld F.RDN.RESHAPE_ARG.KIND :=
  s.reshapeTaken_fld (by decide)
theorem State.reshapeTaken_module (s : State) : s.reshapeTaken.fld F.RDN.RESHAPE_ARG.MODULE = s.fld F.RDN.RESHAPE_ARG.MODULE :=
  s.reshapeTaken_fld (by decide)
theorem State.reshapeTaken_newD (s : State) : s.reshapeTaken.fld F.RDN.RESHAPE_ARG.NEW_D = s.fld F.RDN.RESHAPE_ARG.NEW_D :=
  s.reshapeTaken_fld (by decide)

section Command

variable {s : State} {r : Reshape}

/-- A geometry change to a D that the geometry does not allow (R236). -/
def State.reshapeRefused (s : State) : Prop := s.fld F.RDN.RESHAPE_ARG.KIND = 0 ∧ (!s.geomOk (s.fld F.RDN.RESHAPE_ARG.NEW_D)) = true

/-- START with a geometry that is not allowed ends with RESULT 1. -/
theorem State.runReshapeCommand_refused (h : s.rdn.command = some 1) (hg : s.reshapeRefused) :
    s.runReshapeCommand = s.reshapeTaken.put F.RDN.RESHAPE_STATUS.RESULT 1 := by
  unfold State.runReshapeCommand
  simp only [h, State.reshapeTaken_eq, State.reshapeTaken_kind, State.reshapeTaken_newD, State.reshapeTaken_geomOk, if_true]
  exact if_pos hg

/-- START while a reshape is active queues an evacuation, or ends with RESULT 2. -/
theorem State.runReshapeCommand_active (h : s.rdn.command = some 1) (hg : ¬ s.reshapeRefused) (hr : s.rdn.reshape = some r) :
    s.runReshapeCommand = if s.fld F.RDN.RESHAPE_ARG.KIND = 1 then
      (s.reshapeTaken.requestEvac (s.fld F.RDN.RESHAPE_ARG.MODULE)).put F.RDN.RESHAPE_STATUS.RESULT 0
      else s.reshapeTaken.put F.RDN.RESHAPE_STATUS.RESULT 2 := by
  unfold State.runReshapeCommand
  simp only [h, State.reshapeTaken_eq, State.reshapeTaken_kind, State.reshapeTaken_newD, State.reshapeTaken_module,
    State.reshapeTaken_geomOk, State.reshapeTaken_rdn, if_true]
  simp only [hr]
  exact if_neg hg

/-- START with none active starts the reshape, with RESULT 0. -/
theorem State.runReshapeCommand_starts (h : s.rdn.command = some 1) (hg : ¬ s.reshapeRefused) (hr : s.rdn.reshape = none) :
    s.runReshapeCommand = (s.reshapeTaken.startReshape (s.fld F.RDN.RESHAPE_ARG.KIND) (s.fld F.RDN.RESHAPE_ARG.MODULE)
      (s.fld F.RDN.RESHAPE_ARG.NEW_D)).put F.RDN.RESHAPE_STATUS.RESULT 0 := by
  unfold State.runReshapeCommand
  simp only [h, State.reshapeTaken_eq, State.reshapeTaken_kind, State.reshapeTaken_newD, State.reshapeTaken_module,
    State.reshapeTaken_geomOk, State.reshapeTaken_rdn, if_true]
  simp only [hr]
  exact if_neg hg

/-- ABANDON with none active ends with RESULT 3. -/
theorem State.runReshapeCommand_nothing (h : s.rdn.command = some 2) (hr : s.rdn.reshape = none) :
    s.runReshapeCommand = s.reshapeTaken.put F.RDN.RESHAPE_STATUS.RESULT 3 := by
  unfold State.runReshapeCommand
  simp only [h, State.reshapeTaken_eq, State.reshapeTaken_rdn]
  simp only [hr]
  exact if_neg (by decide)

/-- ABANDON of an active reshape marks it and forms its record, with RESULT 0. -/
theorem State.runReshapeCommand_abandons (h : s.rdn.command = some 2) (hr : s.rdn.reshape = some r) :
    s.runReshapeCommand = (({ s.reshapeTaken with
        rdn := { s.reshapeTaken.rdn with reshape := some { r with abandon := true } } } : State).formSj 0
      (.reshape 4 r.kind r.module r.newD r.cursor r.end_ r.moved)).put F.RDN.RESHAPE_STATUS.RESULT 0 := by
  unfold State.runReshapeCommand
  simp only [h, State.reshapeTaken_eq, State.reshapeTaken_rdn]
  simp only [hr]
  exact if_neg (by decide)

/-- What a reshape's start leaves: BUSY and the command taken. -/
theorem State.startReshape_taken (s : State) (kind module newD : Nat) :
    (s.startReshape kind module newD).fld F.RDN.RESHAPE_STATUS.BUSY = s.fld F.RDN.RESHAPE_STATUS.BUSY ∧
    (s.startReshape kind module newD).rdn.command = s.rdn.command := by
  have hne : F.RDN.RESHAPE_STATUS.BUSY.addr ≠ (F.FRN.PORT_MGMT.EVAC_REQ.nth module).addr := fun h =>
    absurd (congrArg blockOf h) (by rw [blockOf_nth]; decide)
  unfold State.startReshape
  dsimp only
  split
  · exact ⟨(State.fld_eq_of_reg (Eq.refl _)).trans (State.fld_eq_of_reg (State.reg_put_other s F.RDN.GEOM.D newD _ (by decide))), Eq.refl _⟩
  · exact ⟨(State.fld_eq_of_reg (Eq.refl _)).trans (State.fld_eq_of_reg (State.reg_put_other s _ 0 _ hne)), Eq.refl _⟩

theorem State.requestEvac_taken (s : State) (n : Nat) :
    (s.requestEvac n).regs = s.regs ∧ (s.requestEvac n).rdn.command = s.rdn.command := by
  unfold State.requestEvac
  split <;> exact ⟨Eq.refl _, Eq.refl _⟩

/-- RESULT, written at the end, leaves BUSY 0 and no command waiting. -/
theorem State.resultPut_taken {u : State} (k : Nat) (hb : u.fld F.RDN.RESHAPE_STATUS.BUSY = 0) (hc : u.rdn.command = none) :
    (u.put F.RDN.RESHAPE_STATUS.RESULT k).fld F.RDN.RESHAPE_STATUS.BUSY = 0 ∧
      (u.put F.RDN.RESHAPE_STATUS.RESULT k).rdn.command = none := by
  rw [State.fld_put_other _ _ _ _ (by decide) (by decide) (by decide), State.put_rdn]
  exact ⟨hb, hc⟩

/-- However START ends, BUSY is 0 and no command waits. -/
theorem State.runReshapeCommand_taken (h : s.rdn.command = some 1) :
    s.runReshapeCommand.fld F.RDN.RESHAPE_STATUS.BUSY = 0 ∧ s.runReshapeCommand.rdn.command = none := by
  have hb := s.reshapeTaken_busy
  have hc : s.reshapeTaken.rdn.command = none := by rw [s.reshapeTaken_rdn]
  by_cases hg : s.reshapeRefused
  · rw [State.runReshapeCommand_refused h hg]
    exact State.resultPut_taken 1 hb hc
  cases hr : s.rdn.reshape with
  | none =>
    obtain ⟨hb', hc'⟩ := s.reshapeTaken.startReshape_taken (s.fld F.RDN.RESHAPE_ARG.KIND) (s.fld F.RDN.RESHAPE_ARG.MODULE)
      (s.fld F.RDN.RESHAPE_ARG.NEW_D)
    rw [State.runReshapeCommand_starts h hg hr]
    exact State.resultPut_taken 0 (hb'.trans hb) (hc'.trans hc)
  | some r =>
    obtain ⟨hregs, hc'⟩ := s.reshapeTaken.requestEvac_taken (s.fld F.RDN.RESHAPE_ARG.MODULE)
    rw [State.runReshapeCommand_active h hg hr]
    split
    · exact State.resultPut_taken 0 ((State.fld_congr hregs _).trans hb) (hc'.trans hc)
    · exact State.resultPut_taken 2 hb hc

theorem State.fld_resultPut (u : State) {k : Nat} (h : k < 2 ^ 4) :
    (u.put F.RDN.RESHAPE_STATUS.RESULT k).fld F.RDN.RESHAPE_STATUS.RESULT = k :=
  (State.fld_put_width _ _ _ 4 (by decide) (Eq.refl _)).trans (Nat.mod_eq_of_lt h)

/-- A geometry change that starts writes GEOM and makes the reshape active from the first stripe on (R236). -/
theorem State.startReshape_geometry (u : State) (module : Nat) {newD : Nat} (hd : newD < 2 ^ 5) :
    (u.startReshape 0 module newD).fld F.RDN.GEOM.D = newD ∧
    (u.startReshape 0 module newD).rdn.reshape.any (fun r => r.kind == 0 && r.cursor == 0 && r.newD == newD) = true := by
  unfold State.startReshape
  dsimp only
  rw [if_pos (Eq.refl 0)]
  refine ⟨?_, by simp [State.formSj]⟩
  refine (State.fld_eq_of_reg (Eq.refl _)).trans ((State.fld_put_width u F.RDN.GEOM.D newD 5 (by decide) (Eq.refl _)).trans ?_)
  exact Nat.mod_eq_of_lt hd

theorem State.newD_lt (s : State) : s.fld F.RDN.RESHAPE_ARG.NEW_D < 2 ^ 5 := Nat.mod_lt _ (by decide)

theorem reshapeStart_results (s : State) (h : s.rdn.command = some 1) :
    let t := s.runReshapeCommand
    t.fld F.RDN.RESHAPE_STATUS.BUSY = 0 ∧ t.rdn.command = none ∧
    (s.fld F.RDN.RESHAPE_ARG.KIND = 0 → s.geomOk (s.fld F.RDN.RESHAPE_ARG.NEW_D) = false →
      t.fld F.RDN.RESHAPE_STATUS.RESULT = 1 ∧ t.rdn = { s.rdn with command := none }) ∧
    (s.fld F.RDN.RESHAPE_ARG.KIND = 0 → s.geomOk (s.fld F.RDN.RESHAPE_ARG.NEW_D) = true → s.rdn.reshape.isSome = true →
      t.fld F.RDN.RESHAPE_STATUS.RESULT = 2 ∧ t.rdn = { s.rdn with command := none }) ∧
    (s.fld F.RDN.RESHAPE_ARG.KIND = 0 → s.geomOk (s.fld F.RDN.RESHAPE_ARG.NEW_D) = true → s.rdn.reshape = none →
      t.fld F.RDN.RESHAPE_STATUS.RESULT = 0 ∧ t.fld F.RDN.GEOM.D = s.fld F.RDN.RESHAPE_ARG.NEW_D ∧
      (t.rdn.reshape.any (fun r => r.kind == 0 && r.cursor == 0 && r.newD == s.fld F.RDN.RESHAPE_ARG.NEW_D) = true)) := by
  obtain ⟨hb, hc⟩ := State.runReshapeCommand_taken h
  refine ⟨hb, hc, fun hk hg => ?_, fun hk hg hr => ?_, fun hk hg hr => ?_⟩
  · rw [State.runReshapeCommand_refused h ⟨hk, by rw [hg]; exact Eq.refl _⟩]
    exact ⟨State.fld_resultPut _ (by decide), (State.put_rdn ..).trans s.reshapeTaken_rdn⟩
  · obtain ⟨r, hr⟩ := Option.isSome_iff_exists.mp hr
    have hok : ¬ s.reshapeRefused := fun hn => by have := hn.2; rw [hg] at this; cases this
    rw [State.runReshapeCommand_active h hok hr, if_neg (by rw [hk]; decide)]
    exact ⟨State.fld_resultPut _ (by decide), (State.put_rdn ..).trans s.reshapeTaken_rdn⟩
  · have hok : ¬ s.reshapeRefused := fun hn => by have := hn.2; rw [hg] at this; cases this
    rw [State.runReshapeCommand_starts h hok hr, hk]
    obtain ⟨hd, hr'⟩ := s.reshapeTaken.startReshape_geometry (s.fld F.RDN.RESHAPE_ARG.MODULE) s.newD_lt
    refine ⟨State.fld_resultPut _ (by decide), ?_, by rw [State.put_rdn]; exact hr'⟩
    exact (State.fld_put_other _ _ _ _ (by decide) (by decide) (by decide)).trans hd

theorem reshapeAbandon_results (s : State) (h : s.rdn.command = some 2) :
    (s.rdn.reshape = none → s.runReshapeCommand.fld F.RDN.RESHAPE_STATUS.RESULT = 3) ∧
    (∀ r, s.rdn.reshape = some r → s.runReshapeCommand.fld F.RDN.RESHAPE_STATUS.RESULT = 0 ∧
      s.runReshapeCommand.rdn.reshape = some { r with abandon := true } ∧ s.runReshapeCommand.rdn.sseq = s.rdn.sseq + 1) := by
  refine ⟨fun hr => ?_, fun r hr => ?_⟩
  · rw [State.runReshapeCommand_nothing h hr]
    exact State.fld_resultPut _ (by decide)
  · rw [State.runReshapeCommand_abandons h hr, State.put_rdn]
    refine ⟨State.fld_resultPut _ (by decide), Eq.refl _, ?_⟩
    show s.reshapeTaken.rdn.sseq + 1 = _
    rw [State.reshapeTaken_rdn]

end Command

/-! RESHAPE_STEP (R237 to R239). -/

/-- The cursor after a stripe passed: RDN alone changes. -/
theorem State.setReshape_rows (s : State) (r : Reshape) : let t := s.setReshape r
    t.rdn.reshape.map Reshape.cursor = some r.cursor ∧ t.ftl = s.ftl ∧ t = { s with rdn := t.rdn } := by
  unfold State.setReshape
  split <;> exact ⟨Eq.refl _, Eq.refl _, Eq.refl _⟩

section Step

variable {s : State} {r : Reshape} {x : Stripe} (ho : s.other = none) (hr : s.rdn.reshape = some r)
include ho hr

theorem execReshapeStep_passes (hx : ∀ x, Tab.find s.ftl.stripes r.cursor = some x → s.needsConversion r x = false)
    (ha : r.abandon = false) (hc : r.cursor < r.end_) :
    exec .reshapeStep s = .next (s.setReshape { r with cursor := r.cursor + 1, since := r.since + 1 }) := by
  refine congrArg Host.Outcome.next ((State.eitherSide_single _ ho).trans ?_)
  have hge : decide (r.cursor ≥ r.end_) = false := decide_eq_false (Nat.not_le.mpr hc)
  cases hs : Tab.find s.ftl.stripes r.cursor with
  | none => simp only [hr, hs, ha, hge, Bool.or_self, Bool.false_eq_true, if_false]
  | some x => simp only [hr, hs, hx x hs, ha, hge, Bool.or_self, Bool.false_eq_true, and_false, if_false]

theorem execReshapeStep_converts (hx : Tab.find s.ftl.stripes r.cursor = some x) (hc : r.cursor < r.end_)
    (hn : s.needsConversion r x = true) (ha : r.abandon = false ∨ s.conversionBegun r.cursor = true) :
    exec .reshapeStep s = .next (s.convertStripe r) := by
  refine congrArg Host.Outcome.next ((State.eitherSide_single _ ho).trans ?_)
  have hgo : ¬ (r.abandon = true ∧ (!s.conversionBegun r.cursor) = true) := by
    rcases ha with ha | ha <;> simp [ha]
  simp only [hr, hx, hc, hn, and_self, if_true]
  exact if_neg hgo

theorem execReshapeStep_ends (hx : Tab.find s.ftl.stripes r.cursor = none) (he : r.abandon = true ∨ r.end_ ≤ r.cursor) :
    exec .reshapeStep s = .next (s.endReshape r) := by
  refine congrArg Host.Outcome.next ((State.eitherSide_single _ ho).trans ?_)
  simp only [hr, hx]
  exact if_pos (by simpa using he)

end Step

end Sys2Proof.Machine
end

section
/-!
A module taken back into placement: the write of RDN.MOD_STATE.EXCL (R224).
-/

namespace Sys2Proof.Machine

/-! RDN.MOD_STATE, an array of 96 registers (R12). -/

def rdnModState : RegSpec := ⟨0x1000, 0x8, 96, [⟨27, 8, .ro, (k 0), false, []⟩, ⟨3, 3, .ro, (k 0), false, []⟩,
  ⟨2, 2, .rw, (k 0), false, []⟩, ⟨1, 0, .ro, (k 0), false, []⟩]⟩

theorem modState_addr {n : Nat} (h : n < 96) : (F.RDN.MOD_STATE.EXCL.nth n).addr = 0xF3801000 + n * 8 := by
  show 0xF3801000 / 0x400000 * 0x400000 + (0xF3801000 % 0x400000 + n * 8) % 0x400000 = _
  omega

theorem modState_addr_ne {n b : Nat} (h : n < 96) (hb : b < 0xF3801000 ∨ 0xF3801300 ≤ b) : (F.RDN.MOD_STATE.EXCL.nth n).addr ≠ b := by
  rw [modState_addr h]; omega

/-- The register of each of the 96 modules, found at its address by evaluation. -/
theorem specAt_modState {n : Nat} (h : n < 96) :
    specAt (F.RDN.MOD_STATE.EXCL.nth n).addr = some (Src.RDN, rdnModState, n) := by
  interval_cases n <;> rfl

theorem State.accepts_modState (s : State) {n : Nat} (v : Nat) (h : n < 96) : s.accepts (F.RDN.MOD_STATE.EXCL.nth n).addr v = true := by
  have hbusy : ∀ p ∈ busyCommands, p.1.addr < 0xF3801000 ∨ 0xF3801300 ≤ p.1.addr := by decide
  have hany : busyCommands.any (fun p => p.1.addr == (F.RDN.MOD_STATE.EXCL.nth n).addr && s.flag p.2) = false :=
    List.any_eq_false.mpr fun p hp => by simp [(modState_addr_ne h (hbusy p hp)).symm]
  unfold State.accepts
  rw [hany, if_neg Bool.false_ne_true]
  simp only [modState_addr_ne h (b := F.CMF.ACT_CMD.OP.addr) (by decide), modState_addr_ne h (b := F.RFL.HANDBACK_CMD.OP.addr) (by decide),
    modState_addr_ne h (b := F.LCS.SW_RESET.KEY.addr) (by decide), modState_addr_ne h (b := F.FLT.ACK.CLASS.addr) (by decide),
    modState_addr_ne h (b := F.FLT.WDOG_KICK.KEY.addr) (by decide), modState_addr_ne h (b := F.FLT.INJECT.CODE.addr) (by decide), if_false]

theorem State.firstError_modState (s : State) (a n : Nat) :
    s.firstError rdnModState F.RDN.MOD_STATE.EXCL.addr a n 0 = none := by rfl

theorem State.written_modState (s : State) (a n : Nat) :
    s.written rdnModState F.RDN.MOD_STATE.EXCL.addr a n 0 = setBits (s.reg a).toNat 2 2 0 := by rfl

theorem State.afterWrite_modState (s : State) (r : Req) (n v was : Nat) (ok : Bool) :
    s.afterWrite r F.RDN.MOD_STATE.EXCL.addr n v was ok = s.exclWritten n := by rfl

/-- A write of 0 to a module's EXCL clears it, and what follows is that of R224. -/
theorem State.busWrite_excl {s : State} {r : Req} {n : Nat} (hr : r.test = false) (h : n < 96) :
    s.busWrite r (F.RDN.MOD_STATE.EXCL.nth n).addr 8 0 true = (s.put (F.RDN.MOD_STATE.EXCL.nth n) 0).exclWritten n := by
  have hi : (F.RDN.MOD_STATE.EXCL.nth n).addr - n * rdnModState.stride = F.RDN.MOD_STATE.EXCL.addr := by
    rw [modState_addr h]; exact Nat.add_sub_cancel ..
  have hw := s.busWrite_taken r (F.RDN.MOD_STATE.EXCL.nth n).addr 0 true Src.RDN rdnModState n hr
    (by rw [modState_addr h]; omega) (specAt_modState h)
  rw [hi] at hw
  rw [hw (s.firstError_modState _ n) (s.accepts_modState _ h) (by rfl), State.afterWrite_modState]
  exact Eq.refl _

theorem modState_sameAddr (n : Nat) : (F.RDN.MOD_STATE.STATE.nth n).addr = (F.RDN.MOD_STATE.EXCL.nth n).addr := by
  simp only [Fld.nth, F.RDN.MOD_STATE.STATE, F.RDN.MOD_STATE.EXCL]

/-- The state of a module after EXCL is cleared: an excluded one is healthy (R224). -/
theorem State.exclCleared (s : State) (n : Nat) : let t := (s.put (F.RDN.MOD_STATE.EXCL.nth n) 0).exclWritten n
    t.flag (F.RDN.MOD_STATE.EXCL.nth n) = false ∧
    t.fld (F.RDN.MOD_STATE.STATE.nth n) =
      (if s.fld (F.RDN.MOD_STATE.STATE.nth n) = 2 then 0 else s.fld (F.RDN.MOD_STATE.STATE.nth n)) ∧
    SameRegs [(F.RDN.MOD_STATE.EXCL.nth n).addr] s t ∧ t = { s with regs := t.regs } := by
  have hexcl : (F.RDN.MOD_STATE.EXCL.nth n).ok := Fld.nth_ok (by decide)
  have hstate : (F.RDN.MOD_STATE.STATE.nth n).ok := Fld.nth_ok (by decide)
  have h0 : (s.put (F.RDN.MOD_STATE.EXCL.nth n) 0).fld (F.RDN.MOD_STATE.EXCL.nth n) = 0 := State.fld_put_width _ _ _ 1 hexcl (Eq.refl _)
  have hs : (s.put (F.RDN.MOD_STATE.EXCL.nth n) 0).fld (F.RDN.MOD_STATE.STATE.nth n) = s.fld (F.RDN.MOD_STATE.STATE.nth n) :=
    State.fld_put_other _ _ _ _ hexcl hstate (.inr (.inr (by show 1 < 2; decide)))
  unfold State.exclWritten
  simp only [h0, hs, true_and]
  split
  · refine ⟨?_, State.fld_put_width _ _ _ 2 hstate (Eq.refl _), fun a ha => ?_, Eq.refl _⟩
    · rw [State.flag, State.fld_put_other _ _ _ _ hstate hexcl (.inr (.inl (by show 1 < 2; decide))), h0]; rfl
    · rw [← modState_sameAddr] at ha
      rw [State.put_sameRegs _ _ _ a ha]
      exact State.put_sameRegs s _ _ a (modState_sameAddr n ▸ ha)
  · exact ⟨by rw [State.flag, h0]; rfl, hs, State.put_sameRegs s _ _, Eq.refl _⟩

end Sys2Proof.Machine

open Sys2Proof Sys2Proof.Machine

/-- Settles O42: each row by the branch of its meaning that its conditions choose. -/
theorem rebuildAndReshapeRows : Obligations.RebuildAndReshapeRows := by
  refine ⟨sjPairMove_row, fun s id x ho hen hg ht hb => execRebuildRow_relocates ho hen hg ht hb,
    fun s id x ho hen hg ht hb hr => ⟨_, execRebuildRow_begins ho hen hg ht hb hr,
      s.beginRebuild_effect id (State.rebuildTarget_failed ht)⟩,
    rebuildRow_chooses,
    fun s id x rb ho hen hg ht hb hr hl hs hbare => ⟨_, execRebuildRow_row ho hen hg ht hb hr ?_ hl hs, Eq.refl _, State.rebuildRow_ended⟩,
    State.programRebuilt_rows, rebuildCommit_row, lossSweep_row,
    fun s r hr hb => ⟨_, Eq.refl _, reshapeCmd_started hr (.inl (Eq.refl _)) hb⟩,
    fun s r hr hb => ⟨_, Eq.refl _, reshapeCmd_started hr (.inr (Eq.refl _)) hb⟩,
    fun s r hr hb => ⟨_, Eq.refl _, reshapeCmd_discarded hr (.inl (Eq.refl _)) hb⟩,
    fun s r hr hb => ⟨_, Eq.refl _, reshapeCmd_discarded hr (.inr (Eq.refl _)) hb⟩,
    reshapeStart_results, reshapeAbandon_results,
    fun s r ho hr hx ha hc => ⟨_, execReshapeStep_passes ho hr hx ha hc, s.setReshape_rows _⟩,
    fun s r x ho hr hx hc hn ha => execReshapeStep_converts ho hr hx hc hn ha,
    fun s r ho hr hx he => execReshapeStep_ends ho hr hx he,
    fun s r n hr hn => ⟨_, congrArg Host.Outcome.next (State.busWrite_excl hr hn), s.exclCleared n⟩⟩
  exact List.filter_eq_nil_iff.mpr fun m hm => Bool.eq_false_iff.mp (hbare m hm)
end

section
/-!
Arrays of registers, and writes of them (R12).
-/

namespace Sys2Proof.Machine

/-! What a write of a register of an array stores, and when it is taken. -/

/-- No register of an array is one of another array: it ends below it, or it is an array of the same stride beside it. -/
def RegSpec.skips (q x : RegSpec) : Bool :=
  decide (q.off + q.count * q.stride < x.off) ||
    (decide (1 < q.count ∧ q.off ≤ x.off ∧ q.stride = x.stride ∧ (x.off - q.off) % q.stride ≠ 0))

theorem RegSpec.inst_of_skips {q x : RegSpec} (h : q.skips x = true) (n : Nat) : q.inst (x.off + n * x.stride) = none := by
  unfold RegSpec.skips at h
  unfold RegSpec.inst
  rcases Bool.or_eq_true_iff.mp h with h | h
  · have h : q.off + q.count * q.stride < x.off := by simpa using h
    split
    · exact if_neg (by omega)
    · rw [if_neg (by omega), if_neg]
      rintro ⟨hm, hd⟩
      have e := Nat.div_mul_cancel (Nat.dvd_of_mod_eq_zero hm)
      have l := Nat.mul_le_mul_right q.stride (Nat.le_of_lt hd)
      omega
  · obtain ⟨hc, hle, hs, hm⟩ : 1 < q.count ∧ q.off ≤ x.off ∧ q.stride = x.stride ∧ (x.off - q.off) % q.stride ≠ 0 := by simpa using h
    have e : x.off + n * x.stride - q.off = x.off - q.off + n * q.stride := by rw [hs]; omega
    rw [if_neg (by omega), if_neg (by omega), if_neg (by rw [e, Nat.add_mul_mod_self_right]; exact fun h => hm h.1)]

theorem RegSpec.inst_nth {x : RegSpec} {n : Nat} (h1 : 1 < x.count) (hs : 0 < x.stride) (hn : n < x.count) :
    x.inst (x.off + n * x.stride) = some n := by
  unfold RegSpec.inst
  rw [if_neg (by omega), if_neg (by omega), Nat.add_sub_cancel_left, Nat.mul_div_cancel _ hs, Nat.mul_mod_left,
    if_pos ⟨Eq.refl _, hn⟩]

/-- A register of an array is found behind registers that are not it. -/
theorem findReg_array {l : List RegSpec} {k n : Nat} {x : RegSpec} (hx : l[k]? = some x)
    (hl : ∀ q ∈ l.take k, q.skips x = true) (h1 : 1 < x.count) (hs : 0 < x.stride) (hn : n < x.count) :
    findReg l (x.off + n * x.stride) = some (x, n) := by
  induction l generalizing k with
  | nil => simp at hx
  | cons q l ih =>
    cases k with
    | zero =>
      obtain rfl : q = x := by simpa using hx
      simp only [findReg, RegSpec.inst_nth h1 hs hn]
    | succ k =>
      simp only [findReg, RegSpec.inst_of_skips (hl q (by simp)) n]
      exact ih (by simpa using hx) (fun p hp => hl p (by simp [hp]))

theorem blockOf_offset {b off : Nat} (hb : b < 23) (ho : off < 0x400000) : blockOf (blockBase b + off) = some b := by
  have h : (blockBase b + off - ctlBase) / 0x400000 = b := by unfold blockBase; omega
  unfold blockOf
  rw [if_neg (by unfold blockBase; omega), h, if_pos hb]

/-- What stands in a block's list behind the common registers is assigned. The offset is kept a variable: the kernel would compute
the difference in unary. -/
theorem specAt_of_findReg {a b off n : Nat} {x : RegSpec} (hb : blockOf a = some b) (ho : a - blockBase b = off) (h0 : 0x100 ≤ off)
    (hf : findReg (blocks.getD b ⟨0, 0, []⟩).regs off = some (x, n)) : specAt a = some (b, x, n) := by
  obtain ⟨offOf, hoff⟩ : ∃ g : Nat → Nat, ∀ c, a - blockBase c = g c := ⟨_, fun _ => Eq.refl _⟩
  have ho : offOf b = off := (hoff b).symm.trans ho
  unfold specAt
  simp only [hoff]
  rw [hb]
  dsimp only
  rw [ho, if_neg (Nat.not_lt.mpr h0), hf]

/-- The layout of an array of a block, by its place in the block's list. -/
theorem specAt_array {b k n : Nat} {x : RegSpec} (hb : b < 23) (hx : (blocks.getD b ⟨0, 0, []⟩).regs[k]? = some x)
    (hl : ∀ q ∈ (blocks.getD b ⟨0, 0, []⟩).regs.take k, q.skips x = true) (h1 : 1 < x.count) (hs : 0 < x.stride)
    (hn : n < x.count) (h0 : 0x100 ≤ x.off) (he : x.off + n * x.stride < 0x400000) :
    specAt (blockBase b + (x.off + n * x.stride)) = some (b, x, n) :=
  specAt_of_findReg (blockOf_offset hb he) (Nat.add_sub_cancel_left ..) (Nat.le_trans h0 (Nat.le_add_right _ _)) (findReg_array hx hl h1 hs hn)

/-! Writes of registers whose fields are read and written (R11, R14). -/

/-- A word with fields of another word written into it. -/
def writeFields (v : Nat) (l : List FieldSpec) (w : Nat) : Nat := l.foldl (fun w f => setBits w f.hi f.lo (bits v f.hi f.lo)) w

/-- Of a register whose fields are read and written, those take the word written that are not in error. -/
theorem State.written_rw {s : State} {x : RegSpec} {i a n v : Nat} (h : ∀ f ∈ x.fields, f.acc = .rw ∧ reservedIn i n f = false) :
    s.written x i a n v = writeFields v (x.fields.filter (fun f => (s.fieldError x i a n f v).isNone)) (s.reg a).toNat := by
  unfold State.written writeFields
  rw [List.foldl_filter]
  refine List.foldl_ext _ _ _ (fun w f hf => ?_)
  obtain ⟨hacc, hres⟩ := h f hf
  simp only [hacc, hres, Bool.false_eq_true, if_false]

theorem writeFields_lt {v : Nat} {l : List FieldSpec} (h : ∀ f ∈ l, f.lo ≤ f.hi ∧ f.hi < 64) {w : Nat} (hw : w < 2 ^ 64) :
    writeFields v l w < 2 ^ 64 := by
  induction l generalizing w with
  | nil => exact hw
  | cons f l ih =>
    obtain ⟨h1, h2⟩ := h f List.mem_cons_self
    exact ih (fun g hg => h g (List.mem_cons_of_mem _ hg)) (setBits_lt _ _ _ _ h1 h2 hw)

/-- Bits apart from the fields written stay. -/
theorem bits_writeFields_other {v hi lo : Nat} {l : List FieldSpec} (h : lo ≤ hi)
    (hl : ∀ f ∈ l, f.lo ≤ f.hi ∧ (f.hi < lo ∨ hi < f.lo)) (w : Nat) : bits (writeFields v l w) hi lo = bits w hi lo := by
  induction l generalizing w with
  | nil => exact Eq.refl _
  | cons f l ih =>
    obtain ⟨h1, h2⟩ := hl f List.mem_cons_self
    exact (ih (fun g hg => hl g (List.mem_cons_of_mem _ hg)) _).trans (bits_setBits_other _ _ _ _ _ _ h1 h h2)

/-- A field written reads as the word written gives it. -/
theorem bits_writeFields_same {v : Nat} {l : List FieldSpec} (hd : l.Pairwise (fun f g => f.hi < g.lo ∨ g.hi < f.lo))
    (ho : ∀ f ∈ l, f.lo ≤ f.hi) {f : FieldSpec} (hf : f ∈ l) (w : Nat) : bits (writeFields v l w) f.hi f.lo = bits v f.hi f.lo := by
  induction l generalizing w with
  | nil => cases hf
  | cons g l ih =>
    obtain ⟨hg, hd⟩ := List.pairwise_cons.mp hd
    have ho' : ∀ f ∈ l, f.lo ≤ f.hi := fun f hf => ho f (List.mem_cons_of_mem _ hf)
    rcases List.mem_cons.mp hf with rfl | hf
    · have h := ho f List.mem_cons_self
      refine (bits_writeFields_other h (fun g hg' => ⟨ho' g hg', (hg g hg').symm⟩) _).trans ?_
      rw [bits_setBits_same _ _ _ _ h]
      exact Nat.mod_mod _ _
    · exact ih hd ho' hf _

/-! What a write of a core to an array does. -/

/-- The registers whose own rule may discard a write. -/
def ruledRegs : List Nat := busyCommands.map (fun p => p.1.addr) ++ [F.CMF.ACT_CMD.OP.addr, F.RFL.HANDBACK_CMD.OP.addr,
  F.LCS.SW_RESET.KEY.addr, F.FLT.ACK.CLASS.addr, F.FLT.WDOG_KICK.KEY.addr, F.FLT.INJECT.CODE.addr]

theorem State.accepts_of_not_ruled (s : State) {a : Nat} (v : Nat) (h : a ∉ ruledRegs) : s.accepts a v = true := by
  simp only [ruledRegs, List.mem_append, List.mem_map, List.mem_cons, List.not_mem_nil, or_false, not_or] at h
  obtain ⟨hb, h1, h2, h3, h4, h5, h6⟩ := h
  have hany : busyCommands.any (fun p => p.1.addr == a && s.flag p.2) = false :=
    List.any_eq_false.mpr fun p hp => by simp [show p.1.addr ≠ a from fun e => hb ⟨p, hp, e⟩]
  simp only [State.accepts, hany, h1, h2, h3, h4, h5, h6, Bool.false_eq_true, if_false]

/-- What a write starts at a register of the data blocks that starts nothing elsewhere. -/
theorem State.afterWrite_data (s : State) {r : Req} {i n v was : Nat} {ok : Bool} (ho : i % 0x400000 ≠ 8)
    (hs : ∀ t : State, t.startCommand r i v ok = t) (hv : ∀ t : State, t.serviceWritten i n v = t)
    (hc : ∀ t : State, t.controlWritten i n v was = t) : s.afterWrite r i n v was ok = s.dataWritten i n v was := by
  rw [State.afterWrite_of_ne _ _ _ _ _ _ _ ho, hs, hv, hc]

/-- A write of which some field is in error: the others are taken, what the write starts follows, and the error is recorded (R566). -/
theorem State.busWrite_partly (s : State) (r : Req) (a : Nat) (w : Word) (ok : Bool) (b : Nat) (x : RegSpec) (n : Nat) (kind : ErrKind)
    (hr : r.test = false) (ha : a % 8 = 0) (hb : blockOf a = some b) (hs : specAt a = some (b, x, n))
    (he : s.firstError x (a - n * x.stride) a n w.toNat = some kind) (hx : x.acts = false) :
    s.busWrite r a 8 w ok = ((s.setReg a (BitVec.ofNat 64 (s.written x (a - n * x.stride) a n w.toNat))).afterWrite r (a - n * x.stride) n
      (s.written x (a - n * x.stride) a n w.toNat) (s.reg a).toNat ok).accessErrorIn b r true a 8 kind := by
  have hq : reached r a = some (b, x, n) := by simp [reached, hr, hs]
  simp [State.busWrite, State.regWrite, aligned8_of_mod ha, hq, he, hx, State.accessError, hb]


/-- An array of a block, as the layout of the block's list gives it (R12). -/
structure ArrayOf (b : Nat) (x : RegSpec) : Prop where
  block : b < 23
  listed : ∃ k, (blocks.getD b ⟨0, 0, []⟩).regs[k]? = some x ∧
    ∀ q ∈ (blocks.getD b ⟨0, 0, []⟩).regs.take k, q.skips x = true
  count : 1 < x.count
  stride : 0 < x.stride
  aligned : x.off % 8 = 0 ∧ x.stride % 8 = 0
  apart : 0x100 ≤ x.off ∧ x.off + x.count * x.stride ≤ 0x400000

/-- The address of a register of an array. -/
def arrayAddr (b : Nat) (x : RegSpec) (n : Nat) : Nat := blockBase b + (x.off + n * x.stride)

section Arrays

variable {s : State} {r : Req} {b n : Nat} {x : RegSpec} {w : Word} {ok : Bool}

theorem ArrayOf.lt (hx : ArrayOf b x) (hn : n < x.count) : x.off + n * x.stride < 0x400000 := by
  have h1 := Nat.mul_lt_mul_of_pos_right hn hx.stride
  have h2 := hx.apart.2
  omega

theorem specAt_arrayAddr (hx : ArrayOf b x) (hn : n < x.count) : specAt (arrayAddr b x n) = some (b, x, n) := by
  obtain ⟨k, hk, hl⟩ := hx.listed
  exact specAt_array hx.block hk hl hx.count hx.stride hn hx.apart.1 (hx.lt hn)

theorem blockOf_arrayAddr (hx : ArrayOf b x) (hn : n < x.count) : blockOf (arrayAddr b x n) = some b :=
  blockOf_offset hx.block (hx.lt hn)

theorem arrayAddr_mod (hx : ArrayOf b x) : arrayAddr b x n % 8 = 0 := by
  obtain ⟨ho, hs⟩ := hx.aligned
  have hm : n * x.stride % 8 = 0 := by rw [Nat.mul_mod, hs, Nat.mul_zero, Nat.zero_mod]
  have hb : blockBase b % 8 = 0 := by unfold blockBase ctlBase; omega
  unfold arrayAddr
  omega

theorem arrayAddr_sub : arrayAddr b x n - n * x.stride = blockBase b + x.off := by
  unfold arrayAddr
  rw [← Nat.add_assoc, Nat.add_sub_cancel]

/-- A write that every field of a register of an array takes. -/
theorem State.busWrite_array (hx : ArrayOf b x) (hn : n < x.count) (hr : r.test = false)
    (hrw : ∀ f ∈ x.fields, f.acc = .rw ∧ reservedIn (blockBase b + x.off) n f = false)
    (he : ∀ f ∈ x.fields, s.fieldError x (blockBase b + x.off) (arrayAddr b x n) n f w.toNat = none)
    (hc : arrayAddr b x n ∉ ruledRegs) (hd : s.delayWrite (blockBase b + x.off) w.toNat = none) :
    s.busWrite r (arrayAddr b x n) 8 w ok =
      (s.setReg (arrayAddr b x n) (BitVec.ofNat 64 (writeFields w.toNat x.fields (s.reg (arrayAddr b x n)).toNat))).afterWrite r
        (blockBase b + x.off) n w.toNat (s.reg (arrayAddr b x n)).toNat ok := by
  have hall : x.fields.filter (fun f => (s.fieldError x (blockBase b + x.off) (arrayAddr b x n) n f w.toNat).isNone) = x.fields :=
    List.filter_eq_self.mpr fun f hf => by rw [he f hf]; rfl
  have h := s.busWrite_taken r (arrayAddr b x n) w ok b x n hr (arrayAddr_mod hx) (specAt_arrayAddr hx hn)
  rw [arrayAddr_sub, State.written_rw hrw, hall] at h
  exact h (State.firstError_none he) (State.accepts_of_not_ruled s _ hc) hd

end Arrays

theorem Fld.nth_addr {f : Fld} {n : Nat} (h : f.addr % 0x400000 + n * f.stride < 0x400000) :
    (f.nth n).addr = f.addr + n * f.stride := by
  unfold Fld.nth
  dsimp only
  rw [Nat.mod_eq_of_lt h]
  omega

/-- An address in a range is none of a list of addresses outside it. -/
theorem not_mem_of_outside {a lo hi : Nat} {l : List Nat} (hlo : lo ≤ a) (hhi : a < hi) (h : ∀ b ∈ l, b < lo ∨ hi ≤ b) : a ∉ l :=
  fun hm => by have := h a hm; omega

/-- The bits of a field are those of the word in its place. -/
theorem bits_congr {v w hi lo : Nat} (h : ∀ i, lo ≤ i → i ≤ hi → v.testBit i = w.testBit i) (hl : lo ≤ hi) :
    bits v hi lo = bits w hi lo := by
  refine Nat.eq_of_testBit_eq fun i => ?_
  simp only [bits, Nat.testBit_mod_two_pow, Nat.testBit_shiftRight]
  by_cases hi' : i < hi - lo + 1
  · rw [h (lo + i) (by omega) (by omega)]
  · simp [hi']

end Sys2Proof.Machine
end

section
/-!
When a chunk is stored raw (R84 to R86).
-/

open Sys2Proof Sys2Proof.Machine

/-- Settles O32, by the branches of the reason a chunk is stored raw for. -/
theorem rawChunkRules : Obligations.RawChunkRules := by
  intro s len e f
  have hprobe : s.probeLen = [0, 1024, 2048, 4096].getD (s.fld F.CMP.CONFIG.PROBE) 0 := Eq.refl _
  have hraw : s.rawReason len e f = if s.fld F.CMP.CONFIG.COMP_EN ≠ 1 then 3
      else if s.probeLen ≠ 0 ∧ len > s.probeLen ∧ 16 * e > s.fld F.CMP.CONFIG.PROBE_THR * s.probeLen then 1
      else if f ≤ len - len / 2 ^ s.fld F.CMP.CONFIG.SAVE_SHIFT then 0 else 2 := Eq.refl _
  refine ⟨fun h => ?_, fun h hp hl hw => ?_, fun h hno => ?_, ?_, ?_, ?_, ?_⟩
  · rw [hraw, if_pos (by simpa [State.flag] using h)]
  · rw [hraw, if_neg (by simpa [State.flag] using h), if_pos ⟨by omega, hl, hw⟩]
  · have hn : ¬ (s.probeLen ≠ 0 ∧ len > s.probeLen ∧ 16 * e > s.fld F.CMP.CONFIG.PROBE_THR * s.probeLen) := by
      rintro ⟨h0, h1, h2⟩
      rcases hno with h | h | h
      · exact h0 h
      · exact absurd h1 (by omega)
      · exact absurd h2 (by omega)
    rw [hraw, if_neg (by simpa [State.flag] using h), if_neg hn]
    split <;> simp <;> omega
  all_goals intro h; rw [hprobe, h]; rfl
end

section
/-!
The doorbells of the engines' rings (R102, R110, R149).
-/

namespace Sys2Proof.Machine

/-! Ring registers of the engines (R102, R110, R149). -/

/-- The base of an engine's block (R563), as a number. -/
def Eng.base : Eng → Nat
  | .cmp => 0xF2800000
  | .cip => 0xF2C00000
  | .dgs => 0xF3000000

theorem Eng.blockBase_src (e : Eng) : blockBase e.src = e.base := by cases e <;> rfl

theorem Eng.base_mod (e : Eng) : e.base % 0x400000 = 0 := by cases e <;> rfl

theorem Eng.rings_le (e : Eng) : e.rings ≤ 32 := by cases e <;> decide

/-- A field of the registers of job rings, as CMP has it. -/
abbrev Fld.isRing (f : Fld) : Prop := 0xF2801000 ≤ f.addr ∧ f.addr < 0xF2801040 ∧ f.stride = 0x40 ∧ f.ok

section Fields

variable {e : Eng} {f g : Fld} {n : Nat}

theorem Eng.fld_addr (hf : f.isRing) (hn : n < 32) :
    ∃ d, f.addr = 0xF2801000 + d ∧ (e.fld f n).addr = e.base + (0x1000 + d + n * 0x40) := by
  obtain ⟨h1, h2, h3, -⟩ := hf
  obtain ⟨d, hd⟩ := Nat.exists_eq_add_of_le h1
  have hb := e.base_mod
  have he : f.addr - blockBase Src.CMP + blockBase e.src = 0x1000 + d + e.base := by
    rw [e.blockBase_src, show blockBase Src.CMP = 0xF2800000 from Eq.refl _, hd, show 0xF2801000 = 0xF2800000 + 0x1000 from Eq.refl _,
      Nat.add_assoc, Nat.add_sub_cancel_left]
  refine ⟨d, hd, ?_⟩
  unfold Eng.fld
  rw [he, h3, Fld.nth_addr]
  · dsimp only; omega
  · dsimp only; omega

theorem Eng.fld_hi : (e.fld f n).hi = f.hi := by rw [Eng.fld, Fld.nth]
theorem Eng.fld_lo : (e.fld f n).lo = f.lo := by rw [Eng.fld, Fld.nth]

theorem Eng.fld_ok (hf : f.isRing) : (e.fld f n).ok := by
  rw [Fld.ok, Eng.fld_hi, Eng.fld_lo]; exact hf.2.2.2

/-- The range of the ring registers of an engine. -/
theorem Eng.fld_range (hf : f.isRing) (hn : n < 32) : e.base + 0x1000 ≤ (e.fld f n).addr ∧ (e.fld f n).addr < e.base + 0x1800 := by
  obtain ⟨d, hd, he⟩ := Eng.fld_addr (e := e) hf hn
  obtain ⟨-, h2, -, -⟩ := hf
  omega

theorem Eng.fld_addr_ne (hf : f.isRing) (hg : g.isRing) (h : f.addr ≠ g.addr) (hn : n < 32) : (e.fld f n).addr ≠ (e.fld g n).addr := by
  obtain ⟨d, hd, he⟩ := Eng.fld_addr (e := e) hf hn
  obtain ⟨c, hc, hg⟩ := Eng.fld_addr (e := e) hg hn
  omega

theorem Eng.fld_not_mem {l : List Nat} (hf : f.isRing) (hn : n < 32) (h : ∀ b ∈ l, b < e.base + 0x1000 ∨ e.base + 0x1800 ≤ b) :
    (e.fld f n).addr ∉ l := by
  obtain ⟨hlo, hhi⟩ := Eng.fld_range (e := e) hf hn
  exact not_mem_of_outside hlo hhi h

/-- A write of a field of another register of the ring, or of other bits of the same, leaves a field. -/
theorem State.fld_put_ring (s : State) (v : Nat) (hf : f.isRing) (hg : g.isRing) (hn : n < 32)
    (h : f.addr ≠ g.addr ∨ f.hi < g.lo ∨ g.hi < f.lo) : (s.put (e.fld f n) v).fld (e.fld g n) = s.fld (e.fld g n) :=
  State.fld_put_other _ _ _ _ (Eng.fld_ok hf) (Eng.fld_ok hg) (by
    rw [Eng.fld_hi, Eng.fld_lo, Eng.fld_hi, Eng.fld_lo]
    exact h.imp_left (fun h => Eng.fld_addr_ne hg hf h.symm hn))

end Fields

/-! Doorbells (R102). -/

/-- The layout of RING_PROD. -/
def ringProdSpec (e : Eng) : RegSpec := ⟨0x1010, 0x40, e.rings, [⟨31, 0, .rw, (k 0), false, []⟩]⟩

theorem arrayOf_ringProd (e : Eng) : ArrayOf e.src (ringProdSpec e) := by
  refine ⟨by cases e <;> decide, ?_, by cases e <;> decide, by cases e <;> decide, by cases e <;> decide, by cases e <;> decide⟩
  cases e
  · exact ⟨10, by rfl, by decide⟩
  · exact ⟨18, by rfl, by decide⟩
  · exact ⟨6, by rfl, by decide⟩

theorem arrayAddr_ringProd {e : Eng} {n : Nat} (hn : n < e.rings) :
    arrayAddr e.src (ringProdSpec e) n = (e.fld F.CMP.RING_PROD.COUNT n).addr := by
  obtain ⟨d, hd, he⟩ := Eng.fld_addr (e := e) (f := F.CMP.RING_PROD.COUNT) (by decide) (Nat.lt_of_lt_of_le hn e.rings_le)
  obtain rfl : 0x10 = d := Nat.add_left_cancel (n := 0xF2801000) hd
  rw [he, arrayAddr, e.blockBase_src, ringProdSpec]

theorem ruledRegs_outside (e : Eng) : ∀ b ∈ ruledRegs, b < e.base + 0x1000 ∨ e.base + 0x1800 ≤ b := by
  cases e <;> decide

theorem State.dataWritten_ringProd (s : State) (e : Eng) (n v was : Nat) :
    s.dataWritten (e.base + 0x1010) n v was = s.ringProdWritten e n (wfld v F.CMP.RING_PROD.COUNT) := by
  cases e with
  | cmp => exact if_pos (by decide)
  | cip => exact (if_neg (by decide)).trans (if_pos (by decide))
  | dgs => exact (if_neg (by decide)).trans ((if_neg (by decide)).trans (if_pos (by decide)))

/-- A write of RING_PROD starts what R102 says, and nothing else. -/
theorem State.afterWrite_ringProd (s : State) (r : Req) (e : Eng) (n v was : Nat) (ok : Bool) :
    s.afterWrite r (e.base + 0x1010) n v was ok = s.ringProdWritten e n (wfld v F.CMP.RING_PROD.COUNT) := by
  rw [← s.dataWritten_ringProd e n v was]
  cases e <;> exact s.afterWrite_data (by decide) (fun _ => by rfl) (fun _ => by rfl) (fun _ => by rfl)

theorem State.fieldError_ringProd (s : State) (e : Eng) (a n v : Nat) :
    ∀ f ∈ (ringProdSpec e).fields, s.fieldError (ringProdSpec e) (e.base + 0x1010) a n f v = none := by
  intro f hf
  obtain rfl := List.mem_singleton.mp hf
  cases e <;> rfl

/-- A doorbell of a core, its word below 2^32: RING_PROD takes it, and R102 follows. -/
theorem State.busWrite_ringProd {s : State} {r : Req} {e : Eng} {n p : Nat} (hr : r.test = false) (hn : n < e.rings) (hp : p < 2 ^ 32) :
    ∃ w, s.busWrite r (e.fld F.CMP.RING_PROD.COUNT n).addr 8 (BitVec.ofNat 64 p) true =
      (s.setReg (e.fld F.CMP.RING_PROD.COUNT n).addr w).ringProdWritten e n p := by
  have hw : wfld p F.CMP.RING_PROD.COUNT = p := Nat.mod_eq_of_lt hp
  have hv : (BitVec.ofNat 64 p).toNat = p := by rw [BitVec.toNat_ofNat]; omega
  have hi : blockBase e.src + (ringProdSpec e).off = e.base + 0x1010 := by rw [e.blockBase_src, ringProdSpec]
  have h := State.busWrite_array (s := s) (r := r) (w := BitVec.ofNat 64 p) (ok := true) (arrayOf_ringProd e) hn hr
  rw [arrayAddr_ringProd hn, hi, hv] at h
  refine ⟨_, (h (fun f hf => ?_) (s.fieldError_ringProd e _ n p) ?_ ?_).trans (hw ▸ State.afterWrite_ringProd _ r e n p _ true)⟩
  · obtain rfl := List.mem_singleton.mp hf
    cases e <;> exact ⟨by rfl, by rfl⟩
  · exact Eng.fld_not_mem (by decide) (Nat.lt_of_lt_of_le hn e.rings_le) (ruledRegs_outside e)
  · cases e <;> rfl

section Counts

variable (s : State) {e : Eng} {n : Nat} (hn : n < 32)
include hn

theorem State.reg_setReg_ring {f g : Fld} (hf : f.isRing) (hg : g.isRing) (h : g.addr ≠ f.addr) (w : Word) :
    (s.setReg (e.fld f n).addr w).reg (e.fld g n).addr = s.reg (e.fld g n).addr :=
  State.reg_setReg_other _ _ _ _ (Eng.fld_addr_ne hg hf h hn)

theorem State.jobCons_setReg_prod (w : Word) : (s.setReg (e.fld F.CMP.RING_PROD.COUNT n).addr w).jobCons e n = s.jobCons e n :=
  State.fld_eq_of_reg (s.reg_setReg_ring hn (by decide) (by decide) (by decide) w)

theorem State.jobRingSize_setReg_prod (w : Word) :
    (s.setReg (e.fld F.CMP.RING_PROD.COUNT n).addr w).jobRingSize e n = s.jobRingSize e n :=
  congrArg (2 ^ ·) (State.fld_eq_of_reg (s.reg_setReg_ring hn (by decide) (by decide) (by decide) w))

omit hn in
theorem State.jobProd_put {p : Nat} (hp : p < 2 ^ 32) : (s.put (e.fld F.CMP.RING_PROD.COUNT n) p).jobProd e n = p := by
  rw [State.jobProd, State.fld_put_width _ _ _ 32 (Eng.fld_ok (by decide)) (by rw [Eng.fld_hi, Eng.fld_lo]; rfl), Nat.mod_eq_of_lt hp]

end Counts

/-- A register written and then a field of it put: the others are as before. -/
theorem State.setReg_put_sameRegs (s : State) (f : Fld) (w : Word) (v : Nat) : SameRegs [f.addr] s ((s.setReg f.addr w).put f v) := by
  intro a ha
  have ha : a ≠ f.addr := by simpa using ha
  rw [State.reg_put_other _ _ _ _ ha, State.reg_setReg_other _ _ _ _ ha]

theorem State.setReg_put_frame (s : State) (f : Fld) (w : Word) (v : Nat) :
    let t := (s.setReg f.addr w).put f v; t = { s with regs := t.regs } :=
  State.eq_of_unrecorded_of_evr (by rw [State.put_unrecorded, State.setReg_unrecorded]) (by rw [State.put_evr, State.setReg_evr])

/-- The distance is kept a variable: the kernel would compute it in unary. -/
theorem State.ringProdWritten_fits {s : State} {e : Eng} {n v : Nat}
    (h : (v + 2 ^ 32 - s.jobCons e n) % 2 ^ 32 ≤ s.jobRingSize e n) :
    s.ringProdWritten e n v = s.put (e.fld F.CMP.RING_PROD.COUNT n) v := by
  obtain ⟨d, hd⟩ : ∃ d, (v + 2 ^ 32 - s.jobCons e n) % 2 ^ 32 = d := ⟨_, Eq.refl _⟩
  rw [hd] at h
  unfold State.ringProdWritten
  rw [hd]
  exact if_neg (Nat.not_lt.mpr h)

theorem State.ringProdWritten_overruns {s : State} {e : Eng} {n v : Nat}
    (h : s.jobRingSize e n < (v + 2 ^ 32 - s.jobCons e n) % 2 ^ 32) :
    s.ringProdWritten e n v = (s.put (e.fld F.CMP.RING_PROD.COUNT n) v).haltRing e n 1 := by
  obtain ⟨d, hd⟩ : ∃ d, (v + 2 ^ 32 - s.jobCons e n) % 2 ^ 32 = d := ⟨_, Eq.refl _⟩
  rw [hd] at h
  unfold State.ringProdWritten
  rw [hd]
  exact if_pos h

/-- A count within the ring's size of the consumer is taken (R102). -/
theorem State.busWrite_ringProd_fits {s : State} {r : Req} {e : Eng} {n p : Nat} (hr : r.test = false) (hn : n < e.rings) (hp : p < 2 ^ 32)
    (h : (p + 2 ^ 32 - s.jobCons e n) % 2 ^ 32 ≤ s.jobRingSize e n) :
    ∃ w, s.busWrite r (e.fld F.CMP.RING_PROD.COUNT n).addr 8 (BitVec.ofNat 64 p) true =
      (s.setReg (e.fld F.CMP.RING_PROD.COUNT n).addr w).put (e.fld F.CMP.RING_PROD.COUNT n) p := by
  have hn32 := Nat.lt_of_lt_of_le hn e.rings_le
  obtain ⟨w, hw⟩ := State.busWrite_ringProd (s := s) hr hn hp
  exact ⟨w, hw.trans (State.ringProdWritten_fits (by rwa [State.jobCons_setReg_prod _ hn32, State.jobRingSize_setReg_prod _ hn32]))⟩

/-- A count more than the ring's size ahead of the consumer is taken, and halts the ring (R102). -/
theorem State.busWrite_ringProd_overruns {s : State} {r : Req} {e : Eng} {n p : Nat} (hr : r.test = false) (hn : n < e.rings)
    (hp : p < 2 ^ 32) (h : s.jobRingSize e n < (p + 2 ^ 32 - s.jobCons e n) % 2 ^ 32) :
    ∃ w, s.busWrite r (e.fld F.CMP.RING_PROD.COUNT n).addr 8 (BitVec.ofNat 64 p) true =
      ((s.setReg (e.fld F.CMP.RING_PROD.COUNT n).addr w).put (e.fld F.CMP.RING_PROD.COUNT n) p).haltRing e n 1 := by
  have hn32 := Nat.lt_of_lt_of_le hn e.rings_le
  obtain ⟨w, hw⟩ := State.busWrite_ringProd (s := s) hr hn hp
  exact ⟨w, hw.trans (State.ringProdWritten_overruns (by
    rwa [State.jobCons_setReg_prod _ hn32, State.jobRingSize_setReg_prod _ hn32]))⟩

/-! Halted rings (R102, R110). -/

/-- The registers that a ring's halt may change. -/
def haltRegs (e : Eng) (n : Nat) : List Nat :=
  (e.fld F.CMP.RING_STATUS.HALTED n).addr :: (F.APC.IRQ_ROUTE.PENDING.nth (e.irqBase + n)).addr :: eventRegs e.src

theorem eventRegs_outside (e : Eng) : ∀ b ∈ eventRegs e.src, b < e.base + 0x1000 ∨ e.base + 0x1800 ≤ b := by
  cases e <;> decide

theorem irqRoute_addr {n : Nat} (hn : n < 256) : (F.APC.IRQ_ROUTE.PENDING.nth n).addr = 0xF0C04000 + n * 8 := by
  have h : F.APC.IRQ_ROUTE.PENDING.addr % 0x400000 + n * F.APC.IRQ_ROUTE.PENDING.stride < 0x400000 := by
    show 0x4000 + n * 8 < 0x400000
    omega
  exact Fld.nth_addr h

theorem Eng.irqBase_le (e : Eng) : e.irqBase ≤ 112 := by cases e <;> decide

theorem Eng.base_ge (e : Eng) : 0xF2800000 ≤ e.base := by cases e <;> decide

theorem irqRoute_lt_base (e : Eng) {n : Nat} (hn : n < 32) : (F.APC.IRQ_ROUTE.PENDING.nth (e.irqBase + n)).addr < e.base := by
  have h1 := e.irqBase_le
  have h2 := e.base_ge
  rw [irqRoute_addr (by omega)]
  omega

theorem irqRoute_not_mem_eventRegs (e : Eng) {n : Nat} (hn : n < 32) :
    (F.APC.IRQ_ROUTE.PENDING.nth (e.irqBase + n)).addr ∉ eventRegs e.src := by
  have h : ∀ b ∈ eventRegs e.src, b < 0xF0C04000 ∨ 0xF0C04800 ≤ b := by cases e <;> decide
  have h1 := e.irqBase_le
  rw [irqRoute_addr (by omega)]
  exact not_mem_of_outside (by omega) (by omega) h

/-- A ring's status shows a halt. -/
def State.haltShown (s : State) (e : Eng) (n cause : Nat) : State :=
  (s.put (e.fld F.CMP.RING_STATUS.HALTED n) 1).put (e.fld F.CMP.RING_STATUS.CAUSE n) cause

theorem State.haltRing_eq (s : State) (e : Eng) (n cause : Nat) :
    s.haltRing e n cause = ((s.haltShown e n cause).event e.src e.haltBit n cause).irqEdge (e.irqBase + n) := by
  rw [State.haltRing, State.haltShown]

/-- HALTED and CAUSE share a register. -/
theorem ringStatus_addr (e : Eng) (n : Nat) : (e.fld F.CMP.RING_STATUS.CAUSE n).addr = (e.fld F.CMP.RING_STATUS.HALTED n).addr := by
  simp only [Eng.fld, Fld.nth, F.CMP.RING_STATUS.CAUSE, F.CMP.RING_STATUS.HALTED]

theorem State.haltShown_reg (s : State) (e : Eng) {n cause a : Nat} (h : a ≠ (e.fld F.CMP.RING_STATUS.HALTED n).addr) :
    (s.haltShown e n cause).reg a = s.reg a := by
  rw [State.haltShown, State.reg_put_other _ _ _ _ (by rwa [ringStatus_addr]), State.reg_put_other _ _ _ _ h]

theorem State.haltRing_unrecorded (s : State) (e : Eng) (n cause : Nat) : (s.haltRing e n cause).unrecorded = s.unrecorded := by
  rw [State.haltRing_eq, State.irqEdge, State.put_unrecorded, State.event_unrecorded, State.haltShown, State.put_unrecorded,
    State.put_unrecorded]

/-- Of the registers, a halt changes the ring's status, the route of its interrupt and those of an EVENT bit alone. -/
theorem State.haltRing_reg (s : State) (e : Eng) {n cause a : Nat} (h : a ∉ haltRegs e n) : (s.haltRing e n cause).reg a = s.reg a := by
  simp only [haltRegs, List.mem_cons, not_or] at h
  obtain ⟨hs, hi, he⟩ := h
  rw [State.haltRing_eq, State.irqEdge, State.reg_put_other _ _ _ _ hi, State.event_reg _ _ _ _ _ _ _ (by simpa using he),
    State.haltShown_reg _ _ hs]

theorem Eng.fld_ne_eventAddr {e : Eng} {f : Fld} {n : Nat} (hf : f.isRing) (hn : n < 32) : (e.fld f n).addr ≠ eventAddr e.src := by
  intro h
  exact Eng.fld_not_mem hf hn (eventRegs_outside e) (by rw [h]; exact List.mem_cons_self)

section Halt

variable (s : State) (e : Eng) {n : Nat} (cause : Nat) (hn : n < 32)
include hn

/-- The status register of a ring reads as it is shown. -/
theorem State.haltRing_statusReg :
    (s.haltRing e n cause).reg (e.fld F.CMP.RING_STATUS.HALTED n).addr =
      (s.haltShown e n cause).reg (e.fld F.CMP.RING_STATUS.HALTED n).addr := by
  have hr := Eng.fld_range (e := e) (f := F.CMP.RING_STATUS.HALTED) (by decide) hn
  have hi := irqRoute_lt_base e hn
  rw [State.haltRing_eq, State.irqEdge, State.reg_put_other _ _ _ _ (by omega),
    State.event_reg _ _ _ _ _ _ _ (Eng.fld_not_mem (by decide) hn (eventRegs_outside e))]

theorem State.haltRing_halted : (s.haltRing e n cause).flag (e.fld F.CMP.RING_STATUS.HALTED n) = true := by
  rw [State.flag, State.fld_eq_of_reg (s.haltRing_statusReg e cause hn), State.haltShown,
    State.fld_put_ring _ _ (by decide) (by decide) hn (.inr (by decide)),
    State.fld_put_width _ _ _ 1 (Eng.fld_ok (by decide)) (by rw [Eng.fld_hi, Eng.fld_lo]; rfl)]
  rfl

theorem State.haltRing_cause (hc : cause < 8) : (s.haltRing e n cause).fld (e.fld F.CMP.RING_STATUS.CAUSE n) = cause := by
  have h := s.haltRing_statusReg e cause hn
  rw [← ringStatus_addr] at h
  rw [State.fld_eq_of_reg h, State.haltShown,
    State.fld_put_width _ _ _ 3 (Eng.fld_ok (by decide)) (by rw [Eng.fld_hi, Eng.fld_lo]; rfl)]
  exact Nat.mod_eq_of_lt hc

omit hn in
theorem State.haltRing_pending : (s.haltRing e n cause).flag (F.APC.IRQ_ROUTE.PENDING.nth (e.irqBase + n)) = true := by
  rw [State.haltRing_eq, State.irqEdge, State.flag, State.fld_put_width _ _ _ 1 (Fld.nth_ok (by decide)) (Eq.refl _)]
  rfl

/-- The halt of a ring sets its EVENT bit and makes its record, on a state that reads as `s0` where they are. -/
theorem State.haltRing_signals {s0 : State} (hr : s.reg (eventAddr e.src) = s0.reg (eventAddr e.src)) (he : s.evr = s0.evr)
    (ht : s.tck = s0.tck) : Signals s0 (s.haltRing e n cause) e.src e.haltBit n := by
  have hi := irqRoute_not_mem_eventRegs e hn
  have hev : eventAddr e.src ∉ recordRegs := eventAddr_not_mem_recordRegs _ (by cases e <;> decide)
  have hst : (s.haltShown e n cause).reg (eventAddr e.src) = s0.reg (eventAddr e.src) :=
    (State.haltShown_reg _ _ (Eng.fld_ne_eventAddr (by decide) hn).symm).trans hr
  obtain ⟨hbit, hrec⟩ := State.event_signals (s.haltShown e n cause) s0 e.src e.haltBit n cause 0 hev hst
    (by rw [State.haltShown, State.put_evr, State.put_evr, he]) (by rw [State.haltShown, State.put_tck, State.put_tck, ht])
  rw [State.haltRing_eq]
  refine ⟨?_, fun hroom => ?_⟩
  · rw [← hbit, State.irqEdge]
    exact State.reg_put_other _ _ _ _ (fun h => hi (by rw [← h]; exact List.mem_cons_self))
  · obtain ⟨x, hx, hxs⟩ := hrec hroom
    exact ⟨x, by rw [State.irqEdge_evr]; exact hx, hxs⟩

end Halt

/-! The rows of the doorbells. -/

section Doorbells

variable {s : State} {r : Req} {e : Eng} {n p : Nat} (hr : r.test = false) (hn : n < e.rings) (hp : p < 2 ^ 32)
include hr hn hp

theorem ringDoorbell_fits (h : (p + 2 ^ 32 - s.jobCons e n) % 2 ^ 32 ≤ s.jobRingSize e n) :
    ∃ t, s.busWrite r (e.fld F.CMP.RING_PROD.COUNT n).addr 8 (BitVec.ofNat 64 p) true = t ∧
      t.jobProd e n = p ∧ SameRegs [(e.fld F.CMP.RING_PROD.COUNT n).addr] s t ∧ t = { s with regs := t.regs } := by
  obtain ⟨w, hw⟩ := State.busWrite_ringProd_fits hr hn hp h
  exact ⟨_, hw, State.jobProd_put _ hp, State.setReg_put_sameRegs _ _ _ _, State.setReg_put_frame _ _ _ _⟩

theorem ringDoorbell_overruns (h : s.jobRingSize e n < (p + 2 ^ 32 - s.jobCons e n) % 2 ^ 32) :
    ∃ t, s.busWrite r (e.fld F.CMP.RING_PROD.COUNT n).addr 8 (BitVec.ofNat 64 p) true = t ∧
      t.jobProd e n = p ∧ t.flag (e.fld F.CMP.RING_STATUS.HALTED n) = true ∧ t.fld (e.fld F.CMP.RING_STATUS.CAUSE n) = 1 ∧
      t.flag (F.APC.IRQ_ROUTE.PENDING.nth (e.irqBase + n)) = true ∧ Signals s t e.src e.haltBit n ∧
      SameRegs ((e.fld F.CMP.RING_PROD.COUNT n).addr :: haltRegs e n) s t ∧ t = { s with regs := t.regs, evr := t.evr } := by
  have hn32 := Nat.lt_of_lt_of_le hn e.rings_le
  obtain ⟨w, hw⟩ := State.busWrite_ringProd_overruns hr hn hp h
  have hregs := State.setReg_put_sameRegs s (e.fld F.CMP.RING_PROD.COUNT n) w p
  have hprod : (e.fld F.CMP.RING_PROD.COUNT n).addr ∉ haltRegs e n := by
    have hrange := Eng.fld_range (e := e) (f := F.CMP.RING_PROD.COUNT) (by decide) hn32
    have hi := irqRoute_lt_base e hn32
    simp only [haltRegs, List.mem_cons, not_or]
    exact ⟨Eng.fld_addr_ne (by decide) (by decide) (by decide) hn32, by omega,
      by simpa using Eng.fld_not_mem (by decide) hn32 (eventRegs_outside e)⟩
  refine ⟨_, hw, ?_, State.haltRing_halted _ e 1 hn32, State.haltRing_cause _ e 1 hn32 (by decide), State.haltRing_pending _ e 1,
    State.haltRing_signals _ e 1 hn32 (hregs _ ?_) (by rw [State.put_evr, State.setReg_evr])
      (by rw [State.put_tck, State.setReg_tck]), fun a ha => ?_, State.eq_of_unrecorded ?_⟩
  · exact (State.fld_eq_of_reg (State.haltRing_reg _ e hprod)).trans (State.jobProd_put _ hp)
  · exact fun h => Eng.fld_ne_eventAddr (by decide) hn32 (List.mem_singleton.mp h).symm
  · simp only [List.mem_cons, not_or] at ha
    obtain ⟨h1, h2⟩ := ha
    rw [State.haltRing_reg _ e (by simpa [haltRegs] using h2)]
    exact hregs a (by simpa using h1)
  · rw [State.haltRing_unrecorded, State.put_unrecorded, State.setReg_unrecorded]

end Doorbells

end Sys2Proof.Machine
end

section
/-!
Ring enables (R110).
-/

namespace Sys2Proof.Machine

/-! CMP.RING_CFG (R110). -/

/-- The fields of CMP.RING_CFG and its layout. -/
def cfgMaxLanes : FieldSpec := ⟨23, 16, .rw, (k 8), false, [(1, 104)]⟩
def cfgSize : FieldSpec := ⟨12, 8, .rw, (k 4), false, [(4, 16)]⟩
def cfgIrqEn : FieldSpec := ⟨1, 1, .rw, (k 0), false, []⟩
def cfgEn : FieldSpec := ⟨0, 0, .rw, (k 0), false, []⟩
def cmpRingCfg : RegSpec := ⟨0x1008, 0x40, 32, [cfgMaxLanes, cfgSize, cfgIrqEn, cfgEn]⟩

theorem arrayOf_cmpRingCfg : ArrayOf Src.CMP cmpRingCfg :=
  ⟨by decide, ⟨9, by rfl, by decide⟩, by decide, by decide, by decide, by decide⟩

theorem arrayAddr_cmpRingCfg {n : Nat} (hn : n < 32) : arrayAddr Src.CMP cmpRingCfg n = (F.CMP.RING_CFG.EN.nth n).addr := by
  have h : F.CMP.RING_CFG.EN.addr % 0x400000 + n * F.CMP.RING_CFG.EN.stride < 0x400000 := by
    show 0x1008 + n * 0x40 < 0x400000
    omega
  rw [Fld.nth_addr h, arrayAddr, ← Nat.add_assoc]
  exact Eq.refl _

theorem cmpRingCfg_base : blockBase Src.CMP + cmpRingCfg.off = F.CMP.RING_CFG.EN.addr := by rfl

theorem State.dataWritten_cmpRingCfg (s : State) (n v was : Nat) :
    s.dataWritten F.CMP.RING_CFG.EN.addr n v was = s.ringCfgWritten .cmp n (wfld was F.CMP.RING_CFG.EN == 1) :=
  (if_neg (by decide)).trans ((if_neg (by decide)).trans ((if_neg (by decide)).trans (if_pos (by decide))))

theorem State.afterWrite_cmpRingCfg (s : State) (r : Req) (n v was : Nat) (ok : Bool) :
    s.afterWrite r F.CMP.RING_CFG.EN.addr n v was ok = s.ringCfgWritten .cmp n (wfld was F.CMP.RING_CFG.EN == 1) := by
  rw [← s.dataWritten_cmpRingCfg n v was]
  exact s.afterWrite_data (by decide) (fun _ => by rfl) (fun _ => by rfl) (fun _ => by rfl)

section Fields

variable (s : State) (a : Nat) {n v : Nat}

/-- SIZE_LOG2 is locked while EN is 1; no other field of the register is locked. -/
theorem State.enableLocked_cfgSize : s.enableLocked F.CMP.RING_CFG.EN.addr n cfgSize = (s.ringEnabled .cmp n || false) := by rfl
theorem State.enableLocked_cfgMaxLanes : s.enableLocked F.CMP.RING_CFG.EN.addr n cfgMaxLanes = false := by rfl

theorem State.fieldError_cfgMaxLanes (h1 : 1 ≤ wfld v F.CMP.RING_CFG.MAX_LANES) (h2 : wfld v F.CMP.RING_CFG.MAX_LANES ≤ 104) :
    s.fieldError cmpRingCfg F.CMP.RING_CFG.EN.addr a n cfgMaxLanes v = none := by
  refine State.fieldError_none (by rfl) (.inr (by rfl)) ?_ (by rfl) (s.enableLocked_cfgMaxLanes)
  have e : bits v 23 16 = wfld v F.CMP.RING_CFG.MAX_LANES := Eq.refl _
  simp [FieldSpec.legalVal, cfgMaxLanes, e, h1, h2]

theorem cfgSize_legal (h1 : 4 ≤ wfld v F.CMP.RING_CFG.SIZE_LOG2) (h2 : wfld v F.CMP.RING_CFG.SIZE_LOG2 ≤ 16) :
    cfgSize.legalVal (bits v cfgSize.hi cfgSize.lo) = true := by
  have e : bits v 12 8 = wfld v F.CMP.RING_CFG.SIZE_LOG2 := Eq.refl _
  simp [FieldSpec.legalVal, cfgSize, e, h1, h2]

theorem State.fieldError_cfgSize (h1 : 4 ≤ wfld v F.CMP.RING_CFG.SIZE_LOG2) (h2 : wfld v F.CMP.RING_CFG.SIZE_LOG2 ≤ 16) :
    s.fieldError cmpRingCfg F.CMP.RING_CFG.EN.addr a n cfgSize v = if s.ringEnabled .cmp n then some .state else none := by
  have hl := cfgSize_legal h1 h2
  have hin : s.inRange cmpRingCfg F.CMP.RING_CFG.EN.addr a n cfgSize v = true := by rfl
  unfold State.fieldError
  rw [if_neg (by rw [show reservedIn F.CMP.RING_CFG.EN.addr n cfgSize = false by rfl]; exact Bool.false_ne_true)]
  show (if (!(cfgSize.legalVal _ && _)) = true then _ else if _ = true then _ else none) = _
  rw [hl, hin, s.enableLocked_cfgSize, Bool.or_false]
  rfl

theorem State.fieldError_cfgIrqEn : s.fieldError cmpRingCfg F.CMP.RING_CFG.EN.addr a n cfgIrqEn v = none := by rfl
theorem State.fieldError_cfgEn : s.fieldError cmpRingCfg F.CMP.RING_CFG.EN.addr a n cfgEn v = none := by rfl

section Locked

variable (hm1 : 1 ≤ wfld v F.CMP.RING_CFG.MAX_LANES) (hm2 : wfld v F.CMP.RING_CFG.MAX_LANES ≤ 104)
  (hs1 : 4 ≤ wfld v F.CMP.RING_CFG.SIZE_LOG2) (hs2 : wfld v F.CMP.RING_CFG.SIZE_LOG2 ≤ 16) (h : s.ringEnabled .cmp n = true)
include hm1 hm2 hs1 hs2 h

/-- The one error of a write to an enabled ring: SIZE_LOG2 is locked. -/
theorem State.fieldError_cfgLocked : s.fieldError cmpRingCfg F.CMP.RING_CFG.EN.addr a n cfgMaxLanes v = none ∧
    s.fieldError cmpRingCfg F.CMP.RING_CFG.EN.addr a n cfgSize v = some .state ∧
    s.fieldError cmpRingCfg F.CMP.RING_CFG.EN.addr a n cfgIrqEn v = none ∧
    s.fieldError cmpRingCfg F.CMP.RING_CFG.EN.addr a n cfgEn v = none :=
  ⟨s.fieldError_cfgMaxLanes a hm1 hm2, by rw [s.fieldError_cfgSize a hs1 hs2, h]; rfl, s.fieldError_cfgIrqEn a, s.fieldError_cfgEn a⟩

theorem State.firstError_cfgLocked : s.firstError cmpRingCfg F.CMP.RING_CFG.EN.addr a n v = some .state := by
  obtain ⟨e1, e2, e3, e4⟩ := s.fieldError_cfgLocked a hm1 hm2 hs1 hs2 h
  rw [State.firstError, show cmpRingCfg.fields = [cfgMaxLanes, cfgSize, cfgIrqEn, cfgEn] from Eq.refl _]
  simp only [List.filterMap_cons, e1, e2, e3, e4, List.filterMap_nil, List.foldl_cons, List.foldl_nil]

theorem State.filter_cfgLocked : cmpRingCfg.fields.filter (fun f =>
    (s.fieldError cmpRingCfg F.CMP.RING_CFG.EN.addr a n f v).isNone) = [cfgMaxLanes, cfgIrqEn, cfgEn] := by
  obtain ⟨e1, e2, e3, e4⟩ := s.fieldError_cfgLocked a hm1 hm2 hs1 hs2 h
  rw [show cmpRingCfg.fields = [cfgMaxLanes, cfgSize, cfgIrqEn, cfgEn] from Eq.refl _]
  simp [e1, e2, e3, e4]

end Locked

end Fields

theorem cmpRingCfg_rw (n : Nat) : ∀ f ∈ cmpRingCfg.fields, f.acc = .rw ∧ reservedIn F.CMP.RING_CFG.EN.addr n f = false := by
  intro f hf
  simp only [cmpRingCfg, List.mem_cons, List.not_mem_nil, or_false] at hf
  rcases hf with rfl | rfl | rfl | rfl <;> exact ⟨by rfl, by rfl⟩

/-- The words that enable and disable a ring: their EN, and the fields above it. -/
theorem bits_or_one (v : Word) {hi lo : Nat} (h : 0 < lo) (hl : lo ≤ hi) : bits (v ||| 1).toNat hi lo = bits v.toNat hi lo := by
  refine bits_congr (fun i h1 _ => ?_) hl
  rw [BitVec.toNat_or, Nat.testBit_or]
  have : (1 : Word).toNat.testBit i = false := Nat.testBit_lt_two_pow (Nat.one_lt_two_pow (by omega))
  rw [this, Bool.or_false]

theorem bits_and_not_one (v : Word) {hi lo : Nat} (h : 0 < lo) (hl : lo ≤ hi) : bits (v &&& ~~~1).toNat hi lo = bits v.toNat hi lo := by
  refine bits_congr (fun i h1 _ => ?_) hl
  by_cases hi : i < 64
  · show (v &&& ~~~1).getLsbD i = v.getLsbD i
    rw [BitVec.getLsbD_and, BitVec.getLsbD_not]
    simp [hi, show i ≠ 0 by omega]
  · rw [Nat.testBit_lt_two_pow (Nat.lt_of_lt_of_le (BitVec.isLt _) (Nat.pow_le_pow_right (by decide) (by omega))),
      Nat.testBit_lt_two_pow (Nat.lt_of_lt_of_le (BitVec.isLt _) (Nat.pow_le_pow_right (by decide) (by omega)))]

theorem en_or_one (v : Word) : wfld (v ||| 1).toNat F.CMP.RING_CFG.EN = 1 := by
  show (v ||| 1).toNat >>> 0 % 2 ^ 1 = 1
  rw [Nat.shiftRight_zero, BitVec.toNat_or]
  show (v.toNat ||| 1) % 2 = 1
  rw [Nat.or_mod_two_eq_one]
  exact .inr (Eq.refl _)

theorem en_and_not_one (v : Word) : wfld (v &&& ~~~1).toNat F.CMP.RING_CFG.EN = 0 := by
  show (v &&& ~~~1).toNat >>> 0 % 2 ^ 1 = 0
  rw [Nat.shiftRight_zero, BitVec.toNat_and, Nat.and_mod_two_pow, show (~~~(1 : Word)).toNat % 2 ^ 1 = 0 by rfl, Nat.and_zero]

/-- The ring registers of CMP are those of the engine CMP. -/
theorem Eng.cmp_fld {f : Fld} (hf : f.isRing) (n : Nat) : Eng.cmp.fld f n = f.nth n := by
  have h : blockBase Src.CMP ≤ f.addr := Nat.le_trans (by decide) hf.1
  rw [Eng.fld, show Eng.cmp.src = Src.CMP from Eq.refl _, Nat.sub_add_cancel h]

/-- A field of CMP.RING_CFG that is not in error reads as the word written gives it. -/
theorem bits_cmpRingCfg (v w : Nat) (l : List FieldSpec) (hl : l.Sublist cmpRingCfg.fields) {f : FieldSpec} (hf : f ∈ l) :
    bits (writeFields v l w) f.hi f.lo = bits v f.hi f.lo := by
  have hd : cmpRingCfg.fields.Pairwise (fun f g => f.hi < g.lo ∨ g.hi < f.lo) := by
    simp [cmpRingCfg, cfgMaxLanes, cfgSize, cfgIrqEn, cfgEn]
  have ho : ∀ f ∈ cmpRingCfg.fields, f.lo ≤ f.hi := by simp [cmpRingCfg, cfgMaxLanes, cfgSize, cfgIrqEn, cfgEn]
  exact bits_writeFields_same (hd.sublist hl) (fun f hf => ho f (hl.subset hf)) hf w

theorem writeFields_cmpRingCfg_lt (v : Nat) (w : Word) {l : List FieldSpec} (hl : l.Sublist cmpRingCfg.fields) :
    writeFields v l w.toNat < 2 ^ 64 := by
  have ho : ∀ f ∈ cmpRingCfg.fields, f.lo ≤ f.hi ∧ f.hi < 64 := by simp [cmpRingCfg, cfgMaxLanes, cfgSize, cfgIrqEn, cfgEn]
  exact writeFields_lt (fun f hf => ho f (hl.subset hf)) w.isLt

/-- CMP.RING_CFG of a ring after a write that takes some of its fields. -/
def State.cfgTaken (s : State) (n v : Nat) (l : List FieldSpec) : State :=
  s.setReg (F.CMP.RING_CFG.EN.nth n).addr (BitVec.ofNat 64 (writeFields v l (s.reg (F.CMP.RING_CFG.EN.nth n).addr).toNat))

theorem cmpRingCfg_sameAddr (n : Nat) : (F.CMP.RING_CFG.MAX_LANES.nth n).addr = (F.CMP.RING_CFG.EN.nth n).addr ∧
    (F.CMP.RING_CFG.SIZE_LOG2.nth n).addr = (F.CMP.RING_CFG.EN.nth n).addr ∧
    (F.CMP.RING_CFG.IRQ_EN.nth n).addr = (F.CMP.RING_CFG.EN.nth n).addr := ⟨by rfl, by rfl, by rfl⟩

section Taken

variable (s : State) (n v : Nat) {l : List FieldSpec} (hl : l.Sublist cmpRingCfg.fields)
include hl

/-- What a field of the register reads once fields of it are taken: bits of the word they give. -/
theorem State.fld_cfgTaken {g : Fld} (ha : (g.nth n).addr = (F.CMP.RING_CFG.EN.nth n).addr) :
    (s.cfgTaken n v l).fld (g.nth n) = bits (writeFields v l (s.reg (F.CMP.RING_CFG.EN.nth n).addr).toNat) g.hi g.lo := by
  have h := s.fld_setReg_same (g.nth n) _ (writeFields_cmpRingCfg_lt v (s.reg (F.CMP.RING_CFG.EN.nth n).addr) hl)
  rw [ha] at h
  exact h

theorem State.cfgTaken_maxLanes (h : cfgMaxLanes ∈ l) :
    (s.cfgTaken n v l).fld (F.CMP.RING_CFG.MAX_LANES.nth n) = wfld v F.CMP.RING_CFG.MAX_LANES :=
  (s.fld_cfgTaken n v hl (cmpRingCfg_sameAddr n).1).trans (bits_cmpRingCfg v _ l hl h)

theorem State.cfgTaken_size (h : cfgSize ∈ l) :
    (s.cfgTaken n v l).fld (F.CMP.RING_CFG.SIZE_LOG2.nth n) = wfld v F.CMP.RING_CFG.SIZE_LOG2 :=
  (s.fld_cfgTaken n v hl (cmpRingCfg_sameAddr n).2.1).trans (bits_cmpRingCfg v _ l hl h)

theorem State.cfgTaken_irqEn (h : cfgIrqEn ∈ l) :
    (s.cfgTaken n v l).fld (F.CMP.RING_CFG.IRQ_EN.nth n) = wfld v F.CMP.RING_CFG.IRQ_EN :=
  (s.fld_cfgTaken n v hl (cmpRingCfg_sameAddr n).2.2).trans (bits_cmpRingCfg v _ l hl h)

theorem State.cfgTaken_enabled (h : cfgEn ∈ l) : (s.cfgTaken n v l).ringEnabled .cmp n = (wfld v F.CMP.RING_CFG.EN == 1) := by
  rw [State.ringEnabled, State.flag, Eng.cmp_fld (by decide), s.fld_cfgTaken n v hl (Eq.refl _)]
  exact congrArg (· == 1) (bits_cmpRingCfg v _ l hl h)

end Taken

/-- SIZE_LOG2 stays where the fields taken are the others. -/
theorem State.cfgTaken_size_kept (s : State) (n v : Nat) :
    (s.cfgTaken n v [cfgMaxLanes, cfgIrqEn, cfgEn]).fld (F.CMP.RING_CFG.SIZE_LOG2.nth n) = s.fld (F.CMP.RING_CFG.SIZE_LOG2.nth n) := by
  rw [s.fld_cfgTaken n v (by simp [cmpRingCfg]) (cmpRingCfg_sameAddr n).2.1, bits_writeFields_other (by decide)
    (by simp [cfgMaxLanes, cfgIrqEn, cfgEn, F.CMP.RING_CFG.SIZE_LOG2]), State.fld, (cmpRingCfg_sameAddr n).2.1]
  exact Eq.refl _

theorem State.cfgTaken_sameRegs (s : State) (n v : Nat) (l : List FieldSpec) :
    SameRegs [(F.CMP.RING_CFG.EN.nth n).addr] s (s.cfgTaken n v l) := State.setReg_sameRegs _ _ _

theorem State.cfgTaken_unrecorded (s : State) (n v : Nat) (l : List FieldSpec) : (s.cfgTaken n v l).unrecorded = s.unrecorded := by
  rw [State.cfgTaken, State.setReg_unrecorded]

theorem State.cfgTaken_evr (s : State) (n v : Nat) (l : List FieldSpec) : (s.cfgTaken n v l).evr = s.evr := by
  rw [State.cfgTaken, State.setReg_evr]

theorem State.wasEnabled (s : State) (n : Nat) :
    (wfld (s.reg (F.CMP.RING_CFG.EN.nth n).addr).toNat F.CMP.RING_CFG.EN == 1) = s.ringEnabled .cmp n := by
  rw [State.ringEnabled, State.flag, Eng.cmp_fld (by decide), State.fld, wfld]
  exact Eq.refl _

/-- A ring's status shows no halt. -/
def State.haltCleared (s : State) (n : Nat) : State := (s.put (F.CMP.RING_STATUS.HALTED.nth n) 0).put (F.CMP.RING_STATUS.CAUSE.nth n) 0

theorem State.haltCleared_reg (s : State) {n a : Nat} (h : a ≠ (F.CMP.RING_STATUS.HALTED.nth n).addr) :
    (s.haltCleared n).reg a = s.reg a := by
  have hc : a ≠ (F.CMP.RING_STATUS.CAUSE.nth n).addr := h
  rw [State.haltCleared, State.reg_put_other _ _ _ _ hc, State.reg_put_other _ _ _ _ h]

theorem State.haltCleared_halted (s : State) (n : Nat) : (s.haltCleared n).flag (F.CMP.RING_STATUS.HALTED.nth n) = false := by
  rw [State.flag, State.haltCleared, State.fld_put_other _ _ _ _ (Fld.nth_ok (by decide)) (Fld.nth_ok (by decide))
    (.inr (.inr (by show 0 < 1; decide))), State.fld_put_width _ _ _ 1 (Fld.nth_ok (by decide)) (Eq.refl _)]
  rfl

theorem State.haltCleared_cause (s : State) (n : Nat) : (s.haltCleared n).fld (F.CMP.RING_STATUS.CAUSE.nth n) = 0 :=
  State.fld_put_width _ _ _ 3 (Fld.nth_ok (by decide)) (Eq.refl _)

/-- Clearing a halt leaves the fields of the other ring registers. -/
theorem State.haltCleared_cfg (s : State) {n : Nat} (hn : n < 32) {f : Fld} (hf : f.isRing) (h : f.addr ≠ F.CMP.RING_STATUS.HALTED.addr) :
    (s.haltCleared n).fld (f.nth n) = s.fld (f.nth n) := by
  refine State.fld_eq_of_reg (s.haltCleared_reg ?_)
  rw [← Eng.cmp_fld hf, ← Eng.cmp_fld (by decide)]
  exact Eng.fld_addr_ne hf (by decide) h hn

theorem State.cmp_of_unrecorded {s t : State} (h : t.unrecorded = s.unrecorded) : t.cmp = s.cmp := by
  have e := congrArg State.cmp h
  exact e

section Rows

variable {s : State} {r : Req} {n : Nat} {v : Word} (hr : r.test = false) (hn : n < 32)
  (hm1 : 1 ≤ wfld v.toNat F.CMP.RING_CFG.MAX_LANES) (hm2 : wfld v.toNat F.CMP.RING_CFG.MAX_LANES ≤ 104)
  (hs1 : 4 ≤ wfld v.toNat F.CMP.RING_CFG.SIZE_LOG2) (hs2 : wfld v.toNat F.CMP.RING_CFG.SIZE_LOG2 ≤ 16)
include hr hn hm1 hm2 hs1 hs2

/-- A ring that is disabled takes the word that enables it (R110). -/
theorem State.busWrite_enable (h : s.ringEnabled .cmp n = false) :
    s.busWrite r (F.CMP.RING_CFG.EN.nth n).addr 8 (v ||| 1) true =
      (s.cfgTaken n (v ||| 1).toNat cmpRingCfg.fields).ringCfgWritten .cmp n false := by
  have hm : wfld (v ||| 1).toNat F.CMP.RING_CFG.MAX_LANES = wfld v.toNat F.CMP.RING_CFG.MAX_LANES := bits_or_one v (by decide) (by decide)
  have hs : wfld (v ||| 1).toNat F.CMP.RING_CFG.SIZE_LOG2 = wfld v.toNat F.CMP.RING_CFG.SIZE_LOG2 := bits_or_one v (by decide) (by decide)
  have hb := State.busWrite_array (s := s) (r := r) (w := v ||| 1) (ok := true) arrayOf_cmpRingCfg hn hr
  rw [arrayAddr_cmpRingCfg hn, cmpRingCfg_base] at hb
  refine (hb (cmpRingCfg_rw n) (fun f hf => ?_) ?_ (by rfl)).trans ?_
  · simp only [cmpRingCfg, List.mem_cons, List.not_mem_nil, or_false] at hf
    rcases hf with rfl | rfl | rfl | rfl
    · exact s.fieldError_cfgMaxLanes _ (hm ▸ hm1) (hm ▸ hm2)
    · rw [s.fieldError_cfgSize _ (hs ▸ hs1) (hs ▸ hs2), h]; rfl
    · exact s.fieldError_cfgIrqEn _
    · exact s.fieldError_cfgEn _
  · rw [← Eng.cmp_fld (by decide)]
    exact Eng.fld_not_mem (by decide) hn (ruledRegs_outside .cmp)
  · rw [State.afterWrite_cmpRingCfg, State.wasEnabled, h, State.cfgTaken]

/-- A ring that is enabled takes the word that disables it but for SIZE_LOG2, which is a decode error of kind STATE (R110, R566). -/
theorem State.busWrite_disable (h : s.ringEnabled .cmp n = true) :
    s.busWrite r (F.CMP.RING_CFG.EN.nth n).addr 8 (v &&& ~~~1) true =
      ((s.cfgTaken n (v &&& ~~~1).toNat [cfgMaxLanes, cfgIrqEn, cfgEn]).ringCfgWritten .cmp n true).accessErrorIn Src.CMP r true
        (F.CMP.RING_CFG.EN.nth n).addr 8 .state := by
  have hm : wfld (v &&& ~~~1).toNat F.CMP.RING_CFG.MAX_LANES = wfld v.toNat F.CMP.RING_CFG.MAX_LANES :=
    bits_and_not_one v (by decide) (by decide)
  have hs : wfld (v &&& ~~~1).toNat F.CMP.RING_CFG.SIZE_LOG2 = wfld v.toNat F.CMP.RING_CFG.SIZE_LOG2 :=
    bits_and_not_one v (by decide) (by decide)
  have hfirst := s.firstError_cfgLocked (F.CMP.RING_CFG.EN.nth n).addr (hm ▸ hm1) (hm ▸ hm2) (hs ▸ hs1) (hs ▸ hs2) h
  have htaken := s.filter_cfgLocked (F.CMP.RING_CFG.EN.nth n).addr (hm ▸ hm1) (hm ▸ hm2) (hs ▸ hs1) (hs ▸ hs2) h
  have hb := s.busWrite_partly r (arrayAddr Src.CMP cmpRingCfg n) (v &&& ~~~1) true Src.CMP cmpRingCfg n .state hr
    (arrayAddr_mod arrayOf_cmpRingCfg) (blockOf_arrayAddr arrayOf_cmpRingCfg hn) (specAt_arrayAddr arrayOf_cmpRingCfg hn)
  rw [arrayAddr_sub, cmpRingCfg_base, arrayAddr_cmpRingCfg hn, State.written_rw (cmpRingCfg_rw n), htaken] at hb
  refine (hb hfirst (by rfl)).trans ?_
  rw [State.afterWrite_cmpRingCfg, State.wasEnabled, h, State.cfgTaken]

theorem ringEnable_row (h : s.ringEnabled .cmp n = false) : Runs (.cmpRingEnable r n v) s fun t =>
    t.ringEnabled .cmp n = true ∧ t.fld (F.CMP.RING_CFG.MAX_LANES.nth n) = wfld v.toNat F.CMP.RING_CFG.MAX_LANES ∧
    t.fld (F.CMP.RING_CFG.SIZE_LOG2.nth n) = wfld v.toNat F.CMP.RING_CFG.SIZE_LOG2 ∧
    t.fld (F.CMP.RING_CFG.IRQ_EN.nth n) = wfld v.toNat F.CMP.RING_CFG.IRQ_EN ∧
    t.flag (F.CMP.RING_STATUS.HALTED.nth n) = false ∧ t.fld (F.CMP.RING_STATUS.CAUSE.nth n) = 0 ∧
    SameRegs [(F.CMP.RING_CFG.EN.nth n).addr, (F.CMP.RING_STATUS.HALTED.nth n).addr] s t ∧ t = { s with regs := t.regs } := by
  have hsub := List.Sublist.refl cmpRingCfg.fields
  have hen : (s.cfgTaken n (v ||| 1).toNat cmpRingCfg.fields).ringEnabled .cmp n = true :=
    (s.cfgTaken_enabled n (v ||| 1).toNat hsub (by simp [cmpRingCfg])).trans (by rw [en_or_one]; rfl)
  have hw : (s.cfgTaken n (v ||| 1).toNat cmpRingCfg.fields).ringCfgWritten .cmp n false =
      (s.cfgTaken n (v ||| 1).toNat cmpRingCfg.fields).haltCleared n := by
    rw [State.ringCfgWritten, hen, State.haltCleared, Eng.cmp_fld (by decide), Eng.cmp_fld (by decide)]
    exact if_pos (Eq.refl _)
  refine ⟨_, congrArg Host.Outcome.next ((State.busWrite_enable hr hn hm1 hm2 hs1 hs2 h).trans hw), ?_, ?_, ?_, ?_, ?_, ?_, ?_, ?_⟩
  · rw [State.ringEnabled, Eng.cmp_fld (by decide)] at hen ⊢
    exact (congrArg (· == 1) (State.haltCleared_cfg _ hn (by decide) (by decide))).trans hen
  · exact (State.haltCleared_cfg _ hn (by decide) (by decide)).trans ((s.cfgTaken_maxLanes n _ hsub (by simp [cmpRingCfg])).trans (bits_or_one v (by decide) (by decide)))
  · exact (State.haltCleared_cfg _ hn (by decide) (by decide)).trans ((s.cfgTaken_size n _ hsub (by simp [cmpRingCfg])).trans (bits_or_one v (by decide) (by decide)))
  · exact (State.haltCleared_cfg _ hn (by decide) (by decide)).trans ((s.cfgTaken_irqEn n _ hsub (by simp [cmpRingCfg])).trans (bits_or_one v (by decide) (by decide)))
  · exact State.haltCleared_halted _ n
  · exact State.haltCleared_cause _ n
  · intro a ha
    simp only [List.mem_cons, List.not_mem_nil, or_false, not_or] at ha
    obtain ⟨h1, h2⟩ := ha
    rw [State.haltCleared_reg _ h2]
    exact s.cfgTaken_sameRegs n _ _ a (by simpa using h1)
  · exact State.eq_of_unrecorded_of_evr (by rw [State.haltCleared, State.put_unrecorded, State.put_unrecorded, State.cfgTaken_unrecorded])
      (by rw [State.haltCleared, State.put_evr, State.put_evr, State.cfgTaken_evr])

theorem ringDisable_row (h : s.ringEnabled .cmp n = true) : Runs (.cmpRingDisable r n v) s fun t =>
    t.ringEnabled .cmp n = false ∧ t.fld (F.CMP.RING_CFG.MAX_LANES.nth n) = wfld v.toNat F.CMP.RING_CFG.MAX_LANES ∧
    t.fld (F.CMP.RING_CFG.SIZE_LOG2.nth n) = s.fld (F.CMP.RING_CFG.SIZE_LOG2.nth n) ∧
    (t.reg (blockBase Src.CMP + 8)).getLsbD 4 = true ∧
    SameRegs [(F.CMP.RING_CFG.EN.nth n).addr, blockBase Src.CMP + 8, blockBase Src.CMP + 16] s t ∧
    t.cmp = s.cmp ∧ t.evr.queue = s.evr.queue ∧ t = { s with regs := t.regs, evr := t.evr } := by
  have hsub : [cfgMaxLanes, cfgIrqEn, cfgEn].Sublist cmpRingCfg.fields := by simp [cmpRingCfg]
  let u := s.cfgTaken n (v &&& ~~~1).toNat [cfgMaxLanes, cfgIrqEn, cfgEn]
  have hen : u.ringEnabled .cmp n = false := by
    rw [s.cfgTaken_enabled n _ hsub (by simp), en_and_not_one]; rfl
  have hw : u.ringCfgWritten .cmp n true = u := if_neg (by simp)
  have hreg := State.accessErrorIn_sameRegs u Src.CMP r true (F.CMP.RING_CFG.EN.nth n).addr 8 .state
  have hcfg : (F.CMP.RING_CFG.EN.nth n).addr ∉ [blockBase Src.CMP + 8, blockBase Src.CMP + 16] := by
    rw [← Eng.cmp_fld (by decide)]
    exact Eng.fld_not_mem (by decide) hn (by rw [show blockBase Src.CMP = 0xF2800000 from Eq.refl _]; decide)
  have hfld {g : Fld} (hg : (g.nth n).addr = (F.CMP.RING_CFG.EN.nth n).addr) :
      (u.accessErrorIn Src.CMP r true (F.CMP.RING_CFG.EN.nth n).addr 8 .state).fld (g.nth n) = u.fld (g.nth n) :=
    State.fld_eq_of_reg (hreg _ (by rw [hg]; exact hcfg))
  have hun : (u.accessErrorIn Src.CMP r true (F.CMP.RING_CFG.EN.nth n).addr 8 .state).unrecorded = s.unrecorded := by
    rw [State.accessErrorIn_unrecorded, State.cfgTaken_unrecorded]
  refine ⟨_, congrArg Host.Outcome.next ((State.busWrite_disable hr hn hm1 hm2 hs1 hs2 h).trans (by rw [hw])), ?_, ?_, ?_, ?_, ?_, ?_, ?_,
    State.eq_of_unrecorded hun⟩
  · rw [← hen, State.ringEnabled, State.ringEnabled, Eng.cmp_fld (by decide)]
    exact congrArg (· == 1) (hfld (Eq.refl _))
  · exact (hfld (cmpRingCfg_sameAddr n).1).trans
      ((s.cfgTaken_maxLanes n _ hsub (by simp)).trans (bits_and_not_one v (by decide) (by decide)))
  · exact (hfld (cmpRingCfg_sameAddr n).2.1).trans (s.cfgTaken_size_kept n _)
  · exact u.accessErrorIn_kind Src.CMP r true (F.CMP.RING_CFG.EN.nth n).addr 8 .state
  · intro a ha
    simp only [List.mem_cons, List.not_mem_nil, or_false, not_or] at ha
    obtain ⟨h1, h2⟩ := ha
    exact (hreg a (by simpa using h2)).trans (s.cfgTaken_sameRegs n _ _ a (by simpa using h1))
  · exact State.cmp_of_unrecorded hun
  · rw [State.accessErrorIn_evr]
    have hu : u.evr = s.evr := s.cfgTaken_evr n _ _
    show u.evr.queue = s.evr.queue
    rw [hu]

end Rows

end Sys2Proof.Machine
end

section
/-!
Owners of the stream contexts (R114), and the statement on doorbells, enables and owners.
-/

namespace Sys2Proof.Machine

/-! CTX_OWNER (R114). -/

def ctxOwner : RegSpec := ⟨0x2000, 0x8, 256, [⟨4, 4, .rw, (k 0), false, []⟩, ⟨3, 0, .rw, (k 0), false, []⟩]⟩

theorem arrayOf_cipCtxOwner : ArrayOf Src.CIP ctxOwner :=
  ⟨by decide, ⟨24, by rfl, by decide⟩, by decide, by decide, by decide, by decide⟩

theorem arrayOf_dgsCtxOwner : ArrayOf Src.DGS ctxOwner :=
  ⟨by decide, ⟨12, by rfl, by decide⟩, by decide, by decide, by decide, by decide⟩

/-- The two fields of a CTX_OWNER register, of either block. -/
structure OwnerFields (b : Nat) (en ring : Fld) : Prop where
  array : ArrayOf b ctxOwner
  base : blockBase b + ctxOwner.off = en.addr
  addr : en.addr % 0x400000 = 0x2000
  en_eq : en = ⟨en.addr, 8, 4, 4⟩
  ring_eq : ring = ⟨en.addr, 8, 3, 0⟩
  unruled : ∀ a ∈ ruledRegs, a < en.addr ∨ en.addr + 0x800 ≤ a
  legal : ∀ (s : State) (a n v : Nat), ∀ f ∈ ctxOwner.fields,
    (f.acc = .rw ∧ reservedIn en.addr n f = false) ∧ s.fieldError ctxOwner en.addr a n f v = none
  atOnce : ∀ (s : State) (v : Nat), s.delayWrite en.addr v = none

theorem cipOwner : OwnerFields Src.CIP F.CIP.CTX_OWNER.EN F.CIP.CTX_OWNER.RING := by
  refine ⟨arrayOf_cipCtxOwner, by rfl, by rfl, by rfl, by rfl, by decide, fun s a n v f hf => ?_, fun _ _ => by rfl⟩
  simp only [ctxOwner, List.mem_cons, List.not_mem_nil, or_false] at hf
  rcases hf with rfl | rfl <;> exact ⟨⟨by rfl, by rfl⟩, by rfl⟩

theorem dgsOwner : OwnerFields Src.DGS F.DGS.CTX_OWNER.EN F.DGS.CTX_OWNER.RING := by
  refine ⟨arrayOf_dgsCtxOwner, by rfl, by rfl, by rfl, by rfl, by decide, fun s a n v f hf => ?_, fun _ _ => by rfl⟩
  simp only [ctxOwner, List.mem_cons, List.not_mem_nil, or_false] at hf
  rcases hf with rfl | rfl <;> exact ⟨⟨by rfl, by rfl⟩, by rfl⟩

section Owner

variable {b : Nat} {en ring : Fld} (h : OwnerFields b en ring) {s : State} {r : Req} {n : Nat} {v : Word}
include h

/-- The register of a context with its fields taken from a word. -/
theorem State.busWrite_owner (hr : r.test = false) (hn : n < 256) : ∃ w,
    s.busWrite r (en.nth n).addr 8 v true = (s.setReg (en.nth n).addr w).afterWrite r en.addr n v.toNat (s.reg (en.nth n).addr).toNat true ∧
    (s.setReg (en.nth n).addr w).fld (en.nth n) = wfld v.toNat en ∧ (s.setReg (en.nth n).addr w).fld (ring.nth n) = wfld v.toNat ring := by
  obtain ⟨harr, hbase, haddr, hen, hring, hrul, hlegal, hd⟩ := h
  have ha : (en.nth n).addr = en.addr + n * 8 := by
    have hs : en.stride = 8 := by rw [hen]
    rw [Fld.nth_addr (by rw [haddr, hs]; omega), hs]
  have haa : arrayAddr b ctxOwner n = (en.nth n).addr := by rw [ha, ← hbase, arrayAddr, ← Nat.add_assoc]; rfl
  have hsame : (ring.nth n).addr = (en.nth n).addr := by rw [hring]; unfold Fld.nth; rw [hen]
  have hb := State.busWrite_array (s := s) (r := r) (w := v) (ok := true) harr hn hr
  rw [haa, hbase] at hb
  have hlt := writeFields_lt (v := v.toNat) (l := ctxOwner.fields) (by simp [ctxOwner]) (s.reg (en.nth n).addr).isLt
  have hbits {f : FieldSpec} (hf : f ∈ ctxOwner.fields) :
      bits (writeFields v.toNat ctxOwner.fields (s.reg (en.nth n).addr).toNat) f.hi f.lo = bits v.toNat f.hi f.lo :=
    bits_writeFields_same (by simp [ctxOwner]) (by simp [ctxOwner]) hf _
  refine ⟨_, hb (fun f hf => (hlegal s 0 n 0 f hf).1) (fun f hf => (hlegal s _ n _ f hf).2)
    (not_mem_of_outside (by omega) (by omega) hrul) (hd s _), ?_, ?_⟩
  · obtain ⟨hhi, hlo⟩ : en.hi = 4 ∧ en.lo = 4 := by rw [hen]; exact ⟨Eq.refl _, Eq.refl _⟩
    rw [s.fld_setReg_same (en.nth n) _ hlt, wfld, show (en.nth n).hi = 4 from hhi, show (en.nth n).lo = 4 from hlo, hhi, hlo]
    exact hbits (f := ⟨4, 4, .rw, (k 0), false, []⟩) (by simp [ctxOwner])
  · have hf := s.fld_setReg_same (ring.nth n) _ hlt
    rw [hsame] at hf
    rw [hf, wfld, hring]
    exact hbits (f := ⟨3, 0, .rw, (k 0), false, []⟩) (by simp [ctxOwner])

end Owner

theorem State.dataWritten_cipOwner (s : State) (n v was : Nat) :
    s.dataWritten F.CIP.CTX_OWNER.EN.addr n v was = s.setCipCtx n none := by rfl

theorem State.dataWritten_dgsOwner (s : State) (n v was : Nat) :
    s.dataWritten F.DGS.CTX_OWNER.EN.addr n v was = s.setDgsCtx n none := by rfl

theorem cipOwner_row (s : State) (r : Req) (n : Nat) (v : Word) (hr : r.test = false) (hn : n < 256) :
    Runs (.ctxOwnerWrite r false n v) s fun t =>
    t.fld (F.CIP.CTX_OWNER.EN.nth n) = wfld v.toNat F.CIP.CTX_OWNER.EN ∧
    t.fld (F.CIP.CTX_OWNER.RING.nth n) = wfld v.toNat F.CIP.CTX_OWNER.RING ∧ Tab.find t.cip.ctx n = none ∧
    (∀ m, m ≠ n → Tab.find t.cip.ctx m = Tab.find s.cip.ctx m) ∧ SameRegs [(F.CIP.CTX_OWNER.EN.nth n).addr] s t ∧
    t = { s with cip := { s.cip with ctx := t.cip.ctx }, regs := t.regs } := by
  obtain ⟨w, hw, hen, hring⟩ := State.busWrite_owner cipOwner (s := s) (v := v) hr hn
  have ha := (s.setReg (F.CIP.CTX_OWNER.EN.nth n).addr w).afterWrite_data (r := r) (i := F.CIP.CTX_OWNER.EN.addr) (n := n) (v := v.toNat)
    (was := (s.reg (F.CIP.CTX_OWNER.EN.nth n).addr).toNat) (ok := true) (by decide) (fun _ => by rfl) (fun _ => by rfl) (fun _ => by rfl)
  rw [State.dataWritten_cipOwner] at ha
  refine ⟨_, congrArg Host.Outcome.next (hw.trans ha), hen, hring, ?_, fun m hm => ?_, s.setReg_sameRegs _ w, Eq.refl _⟩
  · exact (Tab.find_erase _ n n).trans (if_pos (Eq.refl _))
  · exact (Tab.find_erase _ n m).trans (if_neg hm)

theorem dgsOwner_row (s : State) (r : Req) (n : Nat) (v : Word) (hr : r.test = false) (hn : n < 256) :
    Runs (.ctxOwnerWrite r true n v) s fun t =>
    t.fld (F.DGS.CTX_OWNER.EN.nth n) = wfld v.toNat F.DGS.CTX_OWNER.EN ∧
    t.fld (F.DGS.CTX_OWNER.RING.nth n) = wfld v.toNat F.DGS.CTX_OWNER.RING ∧ Tab.find t.dgs.ctx n = none ∧
    (∀ m, m ≠ n → Tab.find t.dgs.ctx m = Tab.find s.dgs.ctx m) ∧ SameRegs [(F.DGS.CTX_OWNER.EN.nth n).addr] s t ∧
    t = { s with dgs := { s.dgs with ctx := t.dgs.ctx }, regs := t.regs } := by
  obtain ⟨w, hw, hen, hring⟩ := State.busWrite_owner dgsOwner (s := s) (v := v) hr hn
  have ha := (s.setReg (F.DGS.CTX_OWNER.EN.nth n).addr w).afterWrite_data (r := r) (i := F.DGS.CTX_OWNER.EN.addr) (n := n) (v := v.toNat)
    (was := (s.reg (F.DGS.CTX_OWNER.EN.nth n).addr).toNat) (ok := true) (by decide) (fun _ => by rfl) (fun _ => by rfl) (fun _ => by rfl)
  rw [State.dataWritten_dgsOwner] at ha
  refine ⟨_, congrArg Host.Outcome.next (hw.trans ha), hen, hring, ?_, fun m hm => ?_, s.setReg_sameRegs _ w, Eq.refl _⟩
  · exact (Tab.find_erase _ n n).trans (if_pos (Eq.refl _))
  · exact (Tab.find_erase _ n m).trans (if_neg hm)

end Sys2Proof.Machine
open Sys2Proof Sys2Proof.Machine

/-- Settles O36: the doorbells by one theorem over the engines, the writes of CMP.RING_CFG and of CTX_OWNER by what each stores. -/
theorem ringDoorbellsAndEnables : Obligations.RingDoorbellsAndEnables := by
  refine ⟨fun s r n p hr hn hp h => ?_, fun s r n p hr hn hp h => ?_, fun s r n p hr hn hp h => ?_, fun s r n p hr hn hp h => ?_,
    fun s r n v hr hn he hm1 hm2 hs1 hs2 => ringEnable_row hr hn hm1 hm2 hs1 hs2 he,
    fun s r n v hr hn he hm1 hm2 hs1 hs2 => ringDisable_row hr hn hm1 hm2 hs1 hs2 he, cipOwner_row, dgsOwner_row⟩
  · obtain ⟨t, ht, heff⟩ := ringDoorbell_fits (e := .cmp) hr hn hp h
    exact ⟨t, congrArg Host.Outcome.next ht, heff⟩
  · obtain ⟨t, ht, heff⟩ := ringDoorbell_fits (e := .cip) hr hn hp h
    exact ⟨t, congrArg Host.Outcome.next ht, heff⟩
  · obtain ⟨t, ht, heff⟩ := ringDoorbell_fits (e := .dgs) hr hn hp h
    exact ⟨t, congrArg Host.Outcome.next ht, heff⟩
  · obtain ⟨t, ht, heff⟩ := ringDoorbell_overruns (e := .cmp) hr hn hp h
    exact ⟨t, congrArg Host.Outcome.next ht, heff⟩
end

section
/-!
How the jobs of the rings end: CMP jobs without a save area, CIP jobs broken off and decryptions, DGS jobs (R96, R106, R116, R137 to R146).
-/

namespace Sys2Proof.Machine

/-! What a store, and the end of a job on its lane, change. -/

theorem State.ringEnd_lanes {s s1 : State} {e : Eng} {n cycles : Nat} {j : RingJob} (h : s.ringEnd e n j cycles = some s1) :
    ∃ b, s1 = { s with lanes := b } := by
  obtain ⟨_, _, hl⟩ := Option.bind_eq_some_iff.mp h
  exact State.laneEnd_lanes hl

/-- A store changes memory alone. -/
theorem State.store_eq (s : State) (a : Nat) (l : List Byte) : s.store a l = { s with mem := (s.store a l).mem } := by
  induction l generalizing s a with
  | nil => exact Eq.refl _
  | cons b l ih => exact ih (s.setByte a b) (a + 1)

/-- Memory holds bytes from an address on, and every other byte is as before. -/
def Wrote (s t : State) (a : Nat) (l : List Byte) : Prop :=
  (∀ i, i < l.length → t.byte (a + i) = l.getD i 0) ∧ ∀ b, b < a ∨ a + l.length ≤ b → t.byte b = s.byte b

theorem State.store_wrote (s : State) (a : Nat) (l : List Byte) : Wrote s (s.store a l) a l := by
  refine ⟨fun i hi => ?_, fun b hb => ?_⟩
  · rw [State.byte_store, dif_pos (by omega), List.getD_eq_getElem _ _ hi]
    simp
  · rw [State.byte_store, dif_neg (by omega)]

theorem wrote_of_mem {s t u : State} {a : Nat} {l : List Byte} (hu : u.mem = s.mem) (ht : t.mem = (u.store a l).mem) : Wrote s t a l := by
  obtain ⟨hin, hout⟩ := u.store_wrote a l
  have hb (b : Nat) : t.byte b = (u.store a l).byte b := sameMemory_of_mem ht b
  exact ⟨fun i hi => (hb _).trans (hin i hi), fun b h => (hb b).trans ((hout b h).trans (sameMemory_of_mem hu b))⟩

theorem State.load_length (s : State) (a n : Nat) : (s.load a n).length = n := by simp [State.load]

theorem leNat_lt (l : List Byte) : leNat l < 256 ^ l.length := by
  induction l with
  | nil => exact Nat.one_pos
  | cons b l ih =>
    have hb := b.isLt
    rw [leNat, List.length_cons, Nat.pow_succ]
    omega

theorem descField_lt (d : List Byte) (off n : Nat) : descField d off n < 256 ^ n :=
  Nat.lt_of_lt_of_le (leNat_lt _) (Nat.pow_le_pow_right (by decide) (List.length_take_le ..))

/-- A job of no stream is a whole message (R114). -/
theorem whole_of_usesCtx {d : List Byte} (h : usesCtx d = false) : jobStarts d = true ∧ jobEnds d = true := by
  unfold usesCtx at h
  simpa using h

/-! The end of a CMP job without a save area (R96, R100, R101, R106). -/

section Cmp

variable {s s1 : State} {n : Nat} {e r : JobEnd} {j : RingJob}

/-- A lane's report that the descriptor allows ends the job: a bus error as it is, else as the job's stream says. -/
theorem State.cmpOutcome_reports (hst : cmpEndStatus e.status = true) (hin : e.inConsumed ≤ descField j.desc 16 4)
    (hout : e.output.length ≤ descField j.desc 20 4 + descField j.desc 40 4)
    (hr : e.status = 4 ∧ r = e ∨
      e.status ≠ 4 ∧ ∃ c, s.cmpStream j.desc = some c ∧
        let src := s.load (descField j.desc 8 8) (descField j.desc 16 4)
        (descField j.desc 0 1 % 2 = 0 ∧ r = (decompressEnd j.desc c src s.cmp.nextStream).1 ∨
          descField j.desc 0 1 % 2 = 1 ∧ (compressEnd j.desc c src e s.cmp.nextStream).map Prod.fst = some r)) :
    ∃ c, s.cmpOutcome j.desc e = some (r, c) := by
  have hallowed : ¬ ((!cmpEndStatus e.status) = true ∨ e.inConsumed > descField j.desc 16 4 ∨
      e.output.length > descField j.desc 20 4 + descField j.desc 40 4) := by
    rw [hst]; simp; omega
  unfold State.cmpOutcome
  dsimp only
  rw [if_neg hallowed]
  obtain ⟨h4, rfl⟩ | ⟨h4, c, hc, ⟨hop, rfl⟩ | ⟨hop, hr⟩⟩ := hr
  · exact ⟨none, if_pos h4⟩
  · rw [if_neg h4, hc]
    exact ⟨_, if_pos hop⟩
  · obtain ⟨x, hx, rfl⟩ := Option.map_eq_some_iff.mp hr
    rw [if_neg h4, hc]
    dsimp only
    rw [if_neg (by omega), hx]
    exact ⟨_, Eq.refl _⟩

theorem State.storeHistory_unsaved (s : State) {d : List Byte} (r : JobEnd) (c : CodeStream) (h : descField d 48 8 = 0) :
    s.storeHistory d r c = s := if_pos (.inl h)

theorem State.keepStream_unsaved (s : State) {d : List Byte} (status : Nat) (c : CodeStream) (h : descField d 48 8 = 0) :
    s.keepStream d status c = s := if_neg (fun hs => hs.1 h)

theorem expectedEnd_unbounded {d : List Byte} (h : descField d 44 4 = 0xFFFFFFFF) (status total : Nat) (out : List Byte) :
    expectedEnd d status total out = (status, out) := by
  unfold expectedEnd
  dsimp only
  exact if_pos (.inl h)

/-- An output within the primary buffer is written there alone. -/
theorem State.writeOutput_primary (s : State) {d out : List Byte} (h : out.length ≤ descField d 20 4) :
    s.writeOutput d out = s.store (descField d 24 8) out := by
  unfold State.writeOutput
  dsimp only
  rw [List.take_of_length_le h, List.drop_eq_nil_of_le h, State.store]

/-- A job without a save area or a declared length ends with its output and its completion. -/
theorem State.cmpFinish_unsaved (s : State) (n : Nat) (h48 : descField j.desc 48 8 = 0) (h44 : descField j.desc 44 4 = 0xFFFFFFFF)
    (hlen : r.output.length ≤ descField j.desc 20 4) : ∃ x, x.ring = j.ring ∧ x.status = r.status ∧
    s.cmpFinish n j r = (s.store (descField j.desc 24 8) r.output).endJob .cmp n x := by
  unfold State.cmpFinish
  simp only [expectedEnd_unbounded h44, s.writeOutput_primary hlen, h48, ne_eq, not_true_eq_false, false_and, if_false]
  exact ⟨_, Eq.refl _, Eq.refl _, Eq.refl _⟩

section End

variable (hj : Tab.find s.cmp.jobs n = some j) (hend : s.ringEnd .cmp n j (cmpJobCycles j.desc r) = some s1)
include hj hend

theorem execCmpJobEnd_stream {c : CodeStream} (ho : s.cmpOutcome j.desc e = some (r, some c)) :
    exec (.cmpJobEnd n e) s = .next (((s1.storeHistory j.desc r c).cmpFinish n j r).keepStream j.desc r.status c) := by
  show execCmpJobEnd n e s = _
  simp only [execCmpJobEnd, hj, ho, hend]

theorem execCmpJobEnd_alone (ho : s.cmpOutcome j.desc e = some (r, none)) :
    exec (.cmpJobEnd n e) s = .next (s1.cmpFinish n j r) := by
  show execCmpJobEnd n e s = _
  simp only [execCmpJobEnd, hj, ho, hend]

end End

theorem cmpJobEnd_row (hj : Tab.find s.cmp.jobs n = some j) (ho : ∃ c, s.cmpOutcome j.desc e = some (r, c))
    (hlen : r.output.length ≤ descField j.desc 20 4) (h48 : descField j.desc 48 8 = 0) (h44 : descField j.desc 44 4 = 0xFFFFFFFF)
    (hend : s.ringEnd .cmp n j (cmpJobCycles j.desc r) = some s1) : Runs (.cmpJobEnd n e) s fun t =>
    (∀ i, i < r.output.length → t.byte (descField j.desc 24 8 + i) = r.output.getD i 0) ∧
    (∀ a, a < descField j.desc 24 8 ∨ descField j.desc 24 8 + r.output.length ≤ a → t.byte a = s.byte a) ∧
    (∃ x, t.cmp.ended = s.cmp.ended ++ [x] ∧ x.ring = j.ring ∧ x.status = r.status) ∧ Tab.find t.cmp.jobs n = none ∧
    (∀ m, m ≠ n → Tab.find t.cmp.jobs m = Tab.find s.cmp.jobs m) ∧
    t = { s with lanes := s1.lanes, cmp := { s.cmp with jobs := t.cmp.jobs, ended := t.cmp.ended }, mem := t.mem } := by
  obtain ⟨o, ho⟩ := ho
  obtain ⟨b, rfl⟩ := State.ringEnd_lanes hend
  obtain ⟨x, hring, hstatus, hx⟩ := ({ s with lanes := b } : State).cmpFinish_unsaved n h48 h44 hlen
  have hexec : exec (.cmpJobEnd n e) s = .next (({ s with lanes := b } : State).cmpFinish n j r) := by
    cases o with
    | none => exact execCmpJobEnd_alone hj hend ho
    | some c => rw [execCmpJobEnd_stream hj hend ho, State.storeHistory_unsaved _ _ _ h48, State.keepStream_unsaved _ _ _ h48]
  obtain ⟨hin, hout⟩ := wrote_of_mem (s := s) (u := { s with lanes := b }) (a := descField j.desc 24 8) (l := r.output) (Eq.refl _) (Eq.refl _)
  rw [State.store_eq] at hx
  exact ⟨_, hexec.trans (congrArg Host.Outcome.next hx), hin, hout, ⟨x, Eq.refl _, hring, hstatus⟩,
    (Tab.find_erase _ n n).trans (if_pos (Eq.refl _)), fun m hm => (Tab.find_erase _ n m).trans (if_neg hm), Eq.refl _⟩

end Cmp

/-! A CIP job broken off (R116). -/

section Cip

theorem State.keyEvent_cip (s : State) (typ n bit keyId : Nat) : (s.keyEvent typ n bit keyId).cip = s.cip := by
  unfold State.keyEvent
  dsimp only
  split
  · rw [State.put_cip, State.event_cip]
  · rw [State.put_cip, State.event_cip]

theorem State.setSlots_ended (s : State) (typ : Nat) (m : Tab KeySlot) : (s.setSlots typ m).cip.ended = s.cip.ended := by
  unfold State.setSlots
  split
  · rfl
  · split <;> rfl

theorem State.checkSpent_ended (s : State) (typ n : Nat) : (s.checkSpent typ n).cip.ended = s.cip.ended := by
  unfold State.checkSpent
  split
  · rfl
  · split
    · rw [State.keyEvent_cip]
      exact State.setSlots_ended ..
    · rfl

/-- An invocation changes no ended job. -/
theorem State.invoke_ended (s : State) (typ n domain : Nat) : (s.invoke typ n domain).2.cip.ended = s.cip.ended := by
  unfold State.invoke
  split
  · rfl
  · split
    · exact (State.checkSpent_ended ..).trans (State.setSlots_ended ..)
    · rfl

theorem State.cipStart_ended {s t : State} {n counter : Nat} {j : RingJob} {k : KeySlot} {c : CipCtx}
    (h : s.cipStart n j k = .open_ t c counter) : t.cip.ended = s.cip.ended := by
  unfold State.cipStart at h
  dsimp only at h
  split at h
  · cases h; rfl
  · split at h
    · cases h
    · split at h
      · next hv =>
        cases h
        rw [State.store_cip]
        exact (congrArg (fun p => p.2.cip.ended) hv).symm.trans (State.invoke_ended ..)
      · cases h

/-- The opening of a job changes no ended one. -/
theorem State.cipOpen_ended {s t : State} {n counter : Nat} {j : RingJob} {c : CipCtx} (h : s.cipOpen n j = .open_ t c counter) :
    t.cip.ended = s.cip.ended := by
  unfold State.cipOpen at h
  dsimp only at h
  split at h
  · cases h
  · split at h
    · exact State.cipStart_ended h
    · split at h
      · split at h
        · cases h; rfl
        · cases h
      · cases h

/-- What a job that is broken off loses: its stream context, and its slot on the lane (R116). -/
def State.cipLost (s : State) (n : Nat) (j : RingJob) : State :=
  (if usesCtx j.desc then s.setCipCtx (descField j.desc 2 2) none else s).dropCut .cip (.ring n)

theorem State.dropCut_lanes (s : State) (e : Eng) (i : LaneItem) : ∃ b, s.dropCut e i = { s with lanes := b } := by
  unfold State.dropCut
  dsimp only
  split
  · exact ⟨_, Eq.refl _⟩
  · exact ⟨s.lanes, Eq.refl _⟩

theorem State.cipLost_ended (s : State) (n : Nat) (j : RingJob) : (s.cipLost n j).cip.ended = s.cip.ended := by
  unfold State.cipLost
  obtain ⟨b, hb⟩ := State.dropCut_lanes (if usesCtx j.desc then s.setCipCtx (descField j.desc 2 2) none else s) .cip (.ring n)
  rw [hb]
  cases usesCtx j.desc <;> rfl

theorem State.cipLost_ctx (s : State) (n : Nat) {j : RingJob} (h : usesCtx j.desc = true) :
    Tab.find (s.cipLost n j).cip.ctx (descField j.desc 2 2) = none := by
  unfold State.cipLost
  rw [if_pos h]
  obtain ⟨b, hb⟩ := State.dropCut_lanes (s.setCipCtx (descField j.desc 2 2) none) .cip (.ring n)
  rw [hb]
  exact (Tab.find_erase ..).trans (if_pos (Eq.refl _))

theorem State.cipLost_mem (s : State) (n : Nat) (j : RingJob) : (s.cipLost n j).mem = s.mem := by
  unfold State.cipLost
  obtain ⟨b, hb⟩ := State.dropCut_lanes (if usesCtx j.desc then s.setCipCtx (descField j.desc 2 2) none else s) .cip (.ring n)
  rw [hb]
  cases usesCtx j.desc <;> rfl

/-- A job broken off ends with the status once it has lost its context, and what else it does leaves the ended jobs alone. -/
theorem State.cipBroken_ends (s : State) (n : Nat) (j : RingJob) (status k : Nat) : ∃ (u : State) (x : JobDone),
    s.cipBroken n j status k = (u.cipLost n j).endJob .cip n x ∧ u.cip.ended = s.cip.ended ∧ x.ring = j.ring ∧ x.status = status := by
  unfold State.cipBroken
  cases h : s.cipOpen n j with
  | settled t => exact ⟨s, _, Eq.refl _, Eq.refl _, Eq.refl _, Eq.refl _⟩
  | open_ t c counter =>
    exact ⟨_, _, Eq.refl _, (congrArg Cip.ended (State.store_cip ..)).trans (State.cipOpen_ended h), Eq.refl _, Eq.refl _⟩

section Job

variable {s : State} {n : Nat} {j : RingJob} (hj : Tab.find s.cip.jobs n = some j) (hl : j.lane ≠ none)
include hj hl

theorem execCipJobEnd_error (k : Nat) : exec (.cipJobEnd n (some k)) s = .next (s.cipBroken n j 4 k) := by
  show execCipJobEnd n (some k) s = _
  unfold execCipJobEnd
  rw [hj]
  dsimp only
  rw [if_neg (by simpa using hl)]

theorem cipJobEnd_broken (k : Nat) : Runs (.cipJobEnd n (some k)) s fun t =>
    (∃ x, t.cip.ended = s.cip.ended ++ [x] ∧ x.ring = j.ring ∧ x.status = 4) ∧ Tab.find t.cip.jobs n = none ∧
    (usesCtx j.desc = true → Tab.find t.cip.ctx (descField j.desc 2 2) = none) := by
  obtain ⟨u, x, hu, hended, hring, hstatus⟩ := s.cipBroken_ends n j 4 k
  refine ⟨_, execCipJobEnd_error hj hl k, ?_⟩
  rw [hu]
  exact ⟨⟨x, congrArg (· ++ [x]) ((u.cipLost_ended n j).trans hended), hring, hstatus⟩,
    (Tab.find_erase _ n n).trans (if_pos (Eq.refl _)), fun h => u.cipLost_ctx n h⟩

end Job

/-! The decryption of a whole message (R137 to R140). -/

theorem engineDone_status (e : Eng) (j : RingJob) (status inConsumed out counter : Nat) :
    (engineDone e j status inConsumed out counter).status = status := Eq.refl _

/-- The invocation of a decryption: the IV and the additional data stand in memory. -/
def State.decryption (s : State) (d : List Byte) (k : KeySlot) : CipCtx :=
  { key := k.key, slotType := descField d 40 2 / 2 ^ 14, slot := descField d 40 2 % 2 ^ 12, encrypting := false,
    iv := s.load (descField d 48 8) 12, aad := s.load (descField d 32 8) (descField d 20 4), text := [] }

variable {s : State} {n : Nat} {j : RingJob} {k : KeySlot} (hu : usesCtx j.desc = false) (hop : descField j.desc 0 1 = 2)
  (hk : s.slot (descField j.desc 40 2 / 2 ^ 14) (descField j.desc 40 2 % 2 ^ 12) = some k)
include hu hop hk

theorem State.cipOpen_decryption : s.cipOpen n j = .open_ s (s.decryption j.desc k) 0 := by
  unfold State.cipOpen
  dsimp only
  rw [hk]
  dsimp only
  rw [if_pos (whole_of_usesCtx hu).1]
  unfold State.cipStart
  exact if_pos hop

variable (hj : Tab.find s.cip.jobs n = some j) (hl : j.lane ≠ none) (hf : (descField j.desc 1 1).testBit 2 = false)
include hj hl hf

theorem cipJobEnd_brokenDecryption (m : Nat) :
    let out := gcmCrypt k.key (s.load (descField j.desc 48 8) 12) (s.load (descField j.desc 8 8) (min m (descField j.desc 16 4)))
    Runs (.cipJobEnd n (some m)) s fun t =>
    (∀ i, i < out.length → t.byte (descField j.desc 24 8 + i) = out.getD i 0) ∧
    (∀ a, a < descField j.desc 24 8 ∨ descField j.desc 24 8 + out.length ≤ a → t.byte a = s.byte a) := by
  intro out
  refine ⟨_, execCipJobEnd_error hj hl m, wrote_of_mem (Eq.refl s.mem) ?_⟩
  unfold State.cipBroken
  rw [State.cipOpen_decryption hu hop hk]
  dsimp only
  rw [hf, if_neg Bool.false_ne_true]
  exact State.cipLost_mem (s.store (descField j.desc 24 8) out) n j

omit hop hk hj hl in
/-- The rest of the decryption of a whole message: its text, and a status that says whether the tag agrees. -/
theorem State.cipRun_decryption (t : State) (ht : t.mem = s.mem) :
    let src := s.load (descField j.desc 8 8) (descField j.desc 16 4)
    let ok := gcmTag k.key (s.load (descField j.desc 48 8) 12) (s.load (descField j.desc 32 8) (descField j.desc 20 4)) src =
      s.load (descField j.desc 56 8) 16
    ∃ x : JobDone, t.cipRun n j (s.decryption j.desc k) 0 =
        (t.store (descField j.desc 24 8) (gcmCrypt k.key (s.load (descField j.desc 48 8) 12) src)).endJob .cip n x ∧
      x.ring = j.ring ∧ (ok → x.status = 0) ∧ (¬ok → x.status = 0x20) := by
  intro src ok
  have hlen : ¬ ([] ++ src : List Byte).length > 2 ^ 36 - 32 := by
    have := descField_lt j.desc 16 4
    rw [List.nil_append, State.load_length]
    omega
  unfold State.cipRun State.decryption
  simp only [State.load_congr ht, hu, hf, (whole_of_usesCtx hu).2, Bool.false_eq_true, if_false, Bool.and_false, Bool.and_true,
    Bool.not_false, Bool.true_and]
  rw [if_neg hlen]
  refine ⟨_, Eq.refl _, Eq.refl _, fun h => ?_, fun h => ?_⟩
  · rw [engineDone_status, if_neg (by simpa using h)]
  · rw [engineDone_status, if_pos (by simpa using h)]

theorem cipJobEnd_decryption {s1 : State} (hend : s.ringEnd .cip n j (ringCycles .cip j.desc) = some s1) :
    let iv := s.load (descField j.desc 48 8) 12
    let src := s.load (descField j.desc 8 8) (descField j.desc 16 4)
    let out := (gcmCrypt k.key iv src)
    let ok := gcmTag k.key iv (s.load (descField j.desc 32 8) (descField j.desc 20 4)) src = s.load (descField j.desc 56 8) 16
    Runs (.cipJobEnd n none) s fun t =>
    (∀ i, i < out.length → t.byte (descField j.desc 24 8 + i) = out.getD i 0) ∧
    (∀ a, a < descField j.desc 24 8 ∨ descField j.desc 24 8 + out.length ≤ a → t.byte a = s.byte a) ∧
    (∃ x, t.cip.ended = s.cip.ended ++ [x] ∧ x.ring = j.ring ∧ (ok → x.status = 0) ∧ (¬ok → x.status = 0x20)) ∧
    Tab.find t.cip.jobs n = none ∧
    t = { s with lanes := s1.lanes, cip := { s.cip with jobs := t.cip.jobs, ended := t.cip.ended }, mem := t.mem } := by
  intro iv src out ok
  obtain ⟨b, rfl⟩ := State.ringEnd_lanes hend
  have hopen : ({ s with lanes := b } : State).cipOpen n j = .open_ { s with lanes := b } (s.decryption j.desc k) 0 :=
    State.cipOpen_decryption (s := { s with lanes := b }) hu hop hk
  obtain ⟨x, hx, hring, hok, hbad⟩ := State.cipRun_decryption (n := n) (k := k) hu hf { s with lanes := b } (Eq.refl _)
  rw [State.store_eq] at hx
  have hexec : exec (.cipJobEnd n none) s = .next (({ s with lanes := b } : State).cipRun n j (s.decryption j.desc k) 0) := by
    show execCipJobEnd n none s = _
    simp only [execCipJobEnd, hj, hend, hopen]
    rw [if_neg (by simpa using hl)]
  obtain ⟨hin, hout⟩ := wrote_of_mem (s := s) (u := { s with lanes := b }) (a := descField j.desc 24 8) (l := out) (Eq.refl _) (Eq.refl _)
  exact ⟨_, hexec.trans (congrArg Host.Outcome.next hx), hin, hout, ⟨x, Eq.refl _, hring, hok, hbad⟩,
    (Tab.find_erase _ n n).trans (if_pos (Eq.refl _)), Eq.refl _⟩

end Cip

/-! DGS jobs: one broken off, and the digest of a whole message (R116, R142, R146). -/

section Dgs

variable {s : State} {n : Nat} {j : RingJob} (hj : Tab.find s.dgs.jobs n = some j) (hl : j.lane ≠ none)
include hj hl

theorem dgsJobEnd_broken (k : Nat) : Runs (.dgsJobEnd n (some k)) s fun t =>
    (∃ x, t.dgs.ended = s.dgs.ended ++ [x] ∧ x.ring = j.ring ∧ x.status = 4) ∧ Tab.find t.dgs.jobs n = none ∧
    (usesCtx j.desc = true → Tab.find t.dgs.ctx (descField j.desc 2 2) = none) ∧
    t = { s with lanes := t.lanes, dgs := { s.dgs with jobs := t.dgs.jobs, ended := t.dgs.ended, ctx := t.dgs.ctx } } := by
  have hexec : exec (.dgsJobEnd n (some k)) s = .next (s.dgsBroken n j 4 k) := by
    show execDgsJobEnd n (some k) s = _
    simp only [execDgsJobEnd, hj]
    rw [if_neg (by simpa using hl)]
  refine ⟨_, hexec, ?_⟩
  unfold State.dgsBroken
  obtain ⟨b, hb⟩ := State.dropCut_lanes (if usesCtx j.desc then s.setDgsCtx (descField j.desc 2 2) none else s) .dgs (.ring n)
  rw [hb]
  have hnone : Tab.find (Tab.erase s.dgs.jobs n) n = none := (Tab.find_erase _ n n).trans (if_pos (Eq.refl _))
  cases h : usesCtx j.desc with
  | true => exact ⟨⟨_, Eq.refl _, Eq.refl _, Eq.refl _⟩, hnone, fun _ => (Tab.find_erase ..).trans (if_pos (Eq.refl _)), Eq.refl _⟩
  | false => exact ⟨⟨_, Eq.refl _, Eq.refl _, Eq.refl _⟩, hnone, fun hf => absurd hf Bool.false_ne_true, Eq.refl _⟩

variable (hu : usesCtx j.desc = false) (hop : descField j.desc 0 1 = 1 ∨ descField j.desc 0 1 = 2)
include hu hop

/-- A job of SHA-256 or SHA-384 that is a whole message needs no key and no context. -/
theorem execDgsJobEnd_whole {t : State} (hend : s.ringEnd .dgs n j (ringCycles .dgs j.desc) = some t) :
    exec (.dgsJobEnd n none) s = .next (t.dgsRun n j { opcode := descField j.desc 0 1, key := [], msg := [] }) := by
  show execDgsJobEnd n none s = _
  simp only [execDgsJobEnd, hj, hend]
  rw [if_neg (by simpa using hl), if_pos (whole_of_usesCtx hu).1]
  rcases hop with hop | hop <;> simp only [hop]

variable (hpad : (descField j.desc 1 1).testBit 2 = true) (hcmp : (descField j.desc 1 1).testBit 3 = false)
include hpad hcmp

omit hj hl in
/-- The digest of a whole message is written, and the job ends with status 0. -/
theorem State.dgsRun_whole (t : State) (hlen : descField j.desc 16 4 ≤ jobMax) :
    let msg := t.load (descField j.desc 8 8) (descField j.desc 16 4)
    ∃ x : JobDone, t.dgsRun n j { opcode := descField j.desc 0 1, key := [], msg := [] } =
        (t.store (descField j.desc 24 8) (if descField j.desc 0 1 = 2 then sha384 msg else sha256 msg)).endJob .dgs n x ∧
      x.ring = j.ring ∧ x.status = 0 := by
  intro msg
  have hfits : ¬ ([] ++ msg : List Byte).length > 2 ^ 61 - 1 := by
    rw [List.nil_append, State.load_length]
    unfold jobMax at hlen
    omega
  have hdigest : digestOf { opcode := descField j.desc 0 1, key := [], msg := [] } true msg =
      if descField j.desc 0 1 = 2 then sha384 msg else sha256 msg := by
    unfold digestOf
    rw [if_neg (by show descField j.desc 0 1 ≠ 3; omega)]
    rfl
  unfold State.dgsRun
  simp only [hu, hpad, hcmp, (whole_of_usesCtx hu).2, Bool.false_eq_true, if_false, Bool.not_true]
  rw [if_neg hfits, List.nil_append, hdigest]
  exact ⟨_, Eq.refl _, Eq.refl _, Eq.refl _⟩

theorem dgsJobEnd_digest {s1 : State} (hlen : descField j.desc 16 4 ≤ jobMax)
    (hend : s.ringEnd .dgs n j (ringCycles .dgs j.desc) = some s1) :
    let msg := s.load (descField j.desc 8 8) (descField j.desc 16 4)
    let h := if descField j.desc 0 1 = 2 then sha384 msg else sha256 msg
    Runs (.dgsJobEnd n none) s fun t =>
    (∀ i, i < h.length → t.byte (descField j.desc 24 8 + i) = h.getD i 0) ∧
    (∀ a, a < descField j.desc 24 8 ∨ descField j.desc 24 8 + h.length ≤ a → t.byte a = s.byte a) ∧
    (∃ x, t.dgs.ended = s.dgs.ended ++ [x] ∧ x.ring = j.ring ∧ x.status = 0) ∧ Tab.find t.dgs.jobs n = none ∧
    t = { s with lanes := s1.lanes, dgs := { s.dgs with jobs := t.dgs.jobs, ended := t.dgs.ended }, mem := t.mem } := by
  intro msg h
  obtain ⟨b, rfl⟩ := State.ringEnd_lanes hend
  obtain ⟨x, hx, hring, hstatus⟩ := State.dgsRun_whole (n := n) hu hop hpad hcmp { s with lanes := b } hlen
  rw [State.store_eq] at hx
  obtain ⟨hin, hout⟩ := wrote_of_mem (s := s) (u := { s with lanes := b }) (a := descField j.desc 24 8) (l := h) (Eq.refl _) (Eq.refl _)
  exact ⟨_, (execDgsJobEnd_whole hj hl hu hop hend).trans (congrArg Host.Outcome.next hx), hin, hout, ⟨x, Eq.refl _, hring, hstatus⟩,
    (Tab.find_erase _ n n).trans (if_pos (Eq.refl _)), Eq.refl _⟩

end Dgs

end Sys2Proof.Machine
end

section
/-!
Lanes that take a new role (R81).
-/

namespace Sys2Proof.Machine

/-- The compressor lanes once a lane has taken the role that it is due. -/
def State.rolesAfter (s : State) (l : Nat) : List Nat :=
  if s.roleDue l then (List.range 112).filter (fun m => m == l || s.cmp.compressors.contains m) else s.cmp.compressors.filter (fun m => m != l)

def State.roleTaken (s : State) (l : Nat) : State := { s with cmp := { s.cmp with compressors := s.rolesAfter l } }

theorem State.mem_rolesAfter_self (s : State) {l : Nat} (hl : l < 112) : l ∈ s.rolesAfter l ↔ l < s.fld F.CMP.CONFIG.COMP_LANES := by
  unfold State.rolesAfter State.roleDue
  split
  · next h => simpa [hl] using h
  · next h => simpa using h

theorem State.mem_rolesAfter_other (s : State) {l m : Nat} (hm : m < 112) (h : m ≠ l) : m ∈ s.rolesAfter l ↔ m ∈ s.cmp.compressors := by
  unfold State.rolesAfter
  split <;> simp [hm, h]

/-- A lane's role depends on the roles taken and on CMP.CONFIG alone. -/
theorem State.roleChanges_congr {s t : State} (hc : t.cmp = s.cmp) (hf : t.fld F.CMP.CONFIG.COMP_LANES = s.fld F.CMP.CONFIG.COMP_LANES)
    (m : Nat) : t.roleChanges m = s.roleChanges m := by
  rw [State.roleChanges, State.roleChanges, State.roleDue, State.roleDue, hc, hf]

section

variable {s : State} {l : Nat} (hl : l < 112) (hp : s.flag F.CMP.STATUS.ROLE_PEND = true)
include hl hp

theorem execLaneRoleTaken_taken (hr : s.roleChanges l = true) (he : s.laneEmpty l = true) :
    exec (.laneRoleTaken l) s = .next (if (List.range 112).any (s.roleTaken l).roleChanges then s.roleTaken l
      else ((s.roleTaken l).put F.CMP.STATUS.ROLE_PEND 0).event Src.CMP 0 0 (s.rolesAfter l).length) :=
  congrArg Host.Outcome.next (if_neg (by simp [hp, hr, he, hl]))

omit hp in
/-- What a lane with a new role leaves, whether another is still to change or not. -/
theorem State.roleTaken_row {t : State} (hcmp : t.cmp = (s.roleTaken l).cmp) (hrest : t.unrecorded = (s.roleTaken l).unrecorded)
    (hpend : (∀ m, m < 112 → (s.roleTaken l).roleChanges m = false) ↔ t.flag F.CMP.STATUS.ROLE_PEND = false)
    (hcfg : t.fld F.CMP.CONFIG.COMP_LANES = (s.roleTaken l).fld F.CMP.CONFIG.COMP_LANES) :
    (l ∈ t.cmp.compressors ↔ l < s.fld F.CMP.CONFIG.COMP_LANES) ∧
    (∀ m, m < 112 → m ≠ l → (m ∈ t.cmp.compressors ↔ m ∈ s.cmp.compressors)) ∧
    ((∀ m, m < 112 → t.roleChanges m = false) ↔ t.flag F.CMP.STATUS.ROLE_PEND = false) ∧ SameMemory s t ∧
    t = { s with cmp := { s.cmp with compressors := t.cmp.compressors }, regs := t.regs, evr := t.evr } := by
  have hmem : t.mem = (s.roleTaken l).mem := State.mem_of_unrecorded hrest
  have hframe := State.eq_of_unrecorded hrest
  have hroles : t.cmp.compressors = s.rolesAfter l := congrArg Cmp.compressors hcmp
  rw [hroles]
  simp only [State.roleChanges_congr hcmp hcfg]
  exact ⟨s.mem_rolesAfter_self hl, fun m hm h => s.mem_rolesAfter_other hm h, hpend,
    sameMemory_of_mem hmem, hframe⟩

end

theorem laneRoleTaken_row (s : State) (l : Nat) (hl : l < 112) (hp : s.flag F.CMP.STATUS.ROLE_PEND = true)
    (hr : s.roleChanges l = true) (he : s.laneEmpty l = true) : Runs (.laneRoleTaken l) s fun t =>
    (l ∈ t.cmp.compressors ↔ l < s.fld F.CMP.CONFIG.COMP_LANES) ∧
    (∀ m, m < 112 → m ≠ l → (m ∈ t.cmp.compressors ↔ m ∈ s.cmp.compressors)) ∧
    ((∀ m, m < 112 → t.roleChanges m = false) ↔ t.flag F.CMP.STATUS.ROLE_PEND = false) ∧ SameMemory s t ∧
    t = { s with cmp := { s.cmp with compressors := t.cmp.compressors }, regs := t.regs, evr := t.evr } := by
  refine ⟨_, execLaneRoleTaken_taken hl hp hr he, ?_⟩
  split
  · next h =>
    obtain ⟨m, hm, hch⟩ := List.any_eq_true.mp h
    refine State.roleTaken_row hl (Eq.refl _) (Eq.refl _) ⟨fun hall => ?_, fun hf => ?_⟩ (Eq.refl _)
    · exact absurd ((hall m (List.mem_range.mp hm)).symm.trans hch) Bool.false_ne_true
    · exact absurd (hf.symm.trans hp) Bool.false_ne_true
  · next h =>
    have hok : F.CMP.STATUS.ROLE_PEND.ok := by decide
    have hnone (m : Nat) (hm : m < 112) : (s.roleTaken l).roleChanges m = false :=
      Bool.eq_false_iff.mpr fun hch => h (List.any_eq_true.mpr ⟨m, List.mem_range.mpr hm, hch⟩)
    refine State.roleTaken_row hl (by rw [State.event_cmp, State.put_cmp]) (by rw [State.event_unrecorded, State.put_unrecorded])
      ⟨fun _ => ?_, fun _ => hnone⟩ ?_
    · rw [State.flag, State.fld_eq_of_reg (State.event_reg _ _ _ _ _ _ _ (by decide)), State.fld_put_width _ _ _ 1 hok (Eq.refl _)]
      rfl
    · rw [State.fld_eq_of_reg (State.event_reg _ _ _ _ _ _ _ (by decide)),
        State.fld_eq_of_reg (State.reg_put_other _ _ _ _ (by decide))]

end Sys2Proof.Machine
end

section
/-!
What the dispatch of a CMP job depends on (R80, R98, R548 to R551).
-/

namespace Sys2Proof.Machine

/-! What the dispatch of a CMP job looks at (R80, R98, R548 to R551). -/

/-- States that agree where the choice of a lane, the check of a descriptor and a read of memory look: memory, the work that
is queued, and the registers below those of the CMP rings. -/
structure Alike (s t : State) : Prop where
  reg : ∀ a, a < 0xF2801000 → t.reg a = s.reg a
  mem : t.mem = s.mem
  flt : t.flt = s.flt
  rdx : t.rdx = s.rdx
  jobs : t.cmp.jobs = s.cmp.jobs
  compressors : t.cmp.compressors = s.cmp.compressors

section Look

variable {s t : State} (h : Alike s t)
include h

theorem Alike.fld {f : Fld} (hf : f.addr < 0xF2801000) : t.fld f = s.fld f := State.fld_eq_of_reg (h.reg _ hf)

theorem Alike.memReady (a : Nat) : t.memReady a = s.memReady a := by
  unfold State.memReady State.ddrEnd State.flag
  rw [h.fld (by decide), h.fld (by decide), h.fld (by decide)]

theorem Alike.partRange {n : Nat} (hn : n < 16) : t.partRange n = s.partRange n := by
  have hlow : ∀ m < 16, (F.MEM.PART_CTL.EN.nth m).addr < 0xF2801000 ∧ (F.MEM.PART_BASE.BASE.nth m).addr < 0xF2801000 ∧
      (F.MEM.PART_SIZE.SIZE.nth m).addr < 0xF2801000 := by decide
  obtain ⟨hctl, hbase, hsize⟩ := hlow n hn
  unfold State.partRange State.ddrEnd
  rw [h.fld hctl, h.fld hbase, h.fld hsize, h.fld (by decide)]

theorem Alike.grantEnd (req a : Nat) {n : Nat} (hn : n ≤ 16) : t.grantEnd req a n = s.grantEnd req a n := by
  have hlow : ∀ m < 16, (F.MEM.PART_CTL.GRANT.nth m).addr < 0xF2801000 := by decide
  induction n with
  | zero => rfl
  | succ n ih =>
    rw [State.grantEnd, State.grantEnd, h.partRange hn, h.fld (hlow n hn), ih (Nat.le_of_succ_le hn)]

theorem Alike.grantedUpTo (req a n : Nat) : t.grantedUpTo req a n = s.grantedUpTo req a n := by
  induction n generalizing a with
  | zero => rfl
  | succ n ih =>
    rw [State.grantedUpTo, State.grantedUpTo, h.grantEnd req a (Nat.le_refl 16)]
    split
    · exact ih _
    · rfl

theorem Alike.memOk (req a len : Nat) : t.memOk req a len = s.memOk req a len := by
  rw [State.memOk, State.memOk, h.memReady, h.grantedUpTo]

theorem Alike.hotByte (a : Nat) : t.hotByte a = s.hotByte a := by
  unfold State.hotByte State.hotK
  rw [h.fld (by decide), h.fld (by decide), h.rdx]

theorem Alike.loadBy (req a n : Nat) : t.loadBy req a n = s.loadBy req a n := by
  have hbyte (i : Nat) : (t.hotByte (a + i)).getD (t.byte (a + i)) = (s.hotByte (a + i)).getD (s.byte (a + i)) := by
    rw [h.hotByte, sameMemory_of_mem h.mem]
  rw [State.loadBy, State.loadBy, h.memOk, State.view, State.view, h.rdx, State.load_congr h.mem]
  simp only [hbyte]

theorem Alike.acceptsOp (op : Nat) : t.acceptsOp 0 op = s.acceptsOp 0 op := by
  rw [State.acceptsOp, State.acceptsOp, h.fld (by decide)]

theorem Alike.cmpBadDesc (d : List Byte) : t.cmpBadDesc d = s.cmpBadDesc d := by
  unfold State.cmpBadDesc
  simp only [h.memOk, h.acceptsOp]

theorem Alike.laneOpen (c : Bool) (l : Nat) : t.laneOpen .cmp c l = s.laneOpen .cmp c l := by
  rw [State.laneOpen, State.laneOpen, h.flt, h.compressors, h.fld (by decide)]

theorem Alike.ringJobs : t.ringJobs .cmp = s.ringJobs .cmp := h.jobs

theorem Alike.laneLoad (l : Nat) : t.laneLoad .cmp l = s.laneLoad .cmp l := by
  rw [State.laneLoad, State.laneLoad, h.rdx, h.ringJobs]

theorem Alike.pickLane (c : Bool) : t.pickLane .cmp c = s.pickLane .cmp c := by
  have hopen : t.laneOpen .cmp c = s.laneOpen .cmp c := funext (h.laneOpen c)
  have hload : t.laneLoad .cmp = s.laneLoad .cmp := funext h.laneLoad
  unfold State.pickLane
  rw [hopen, hload]

theorem Alike.ringLanes (n : Nat) : t.ringLanes .cmp n = s.ringLanes .cmp n := by
  rw [State.ringLanes, State.ringLanes, h.ringJobs]

theorem Alike.laneForJob {n : Nat} (hm : t.fld (Eng.cmp.fld F.CMP.RING_CFG.MAX_LANES n) = s.fld (Eng.cmp.fld F.CMP.RING_CFG.MAX_LANES n))
    (d : List Byte) : t.laneForJob .cmp n d = s.laneForJob .cmp n d := by
  rw [State.laneForJob, State.laneForJob, h.pickLane, h.ringLanes, hm]

end Look

end Sys2Proof.Machine
end

section
/-!
The turn of a CMP ring, and the descriptors it reads (R103, R105, R110).
-/

namespace Sys2Proof.Machine

/-! A CMP ring that takes its turn (R103). -/

/-- The ring has had its turn of the tick. -/
def State.turnTaken (s : State) (n : Nat) : State := { s with cmp := { s.cmp with turned := s.cmp.turned ++ [n] } }

theorem execCmpJobDispatch_turn {s : State} {n : Nat} (hn : n < 32) (ht : s.ringTurnOf n = true) :
    exec (.cmpJobDispatch n) s = .next ((s.turnTaken n).dispatchRing .cmp n) := congrArg Host.Outcome.next (if_pos ⟨hn, ht⟩)

theorem cmpJobDispatch_idle (s : State) (n : Nat) (h : s.ringTurnOf n = false ∨ 32 ≤ n) : exec (.cmpJobDispatch n) s = .next s := by
  refine congrArg Host.Outcome.next (if_neg fun ⟨hn, ht⟩ => ?_)
  rcases h with h | h
  · exact absurd (h.symm.trans ht) Bool.false_ne_true
  · omega

/-- The ring has a descriptor to read, and its completion ring has room for the job (R103). -/
structure State.RingReads (s : State) (n : Nat) : Prop where
  runs : s.ringRuns .cmp n = true
  waits : s.jobProd .cmp n ≠ s.jobCons .cmp n
  room : (s.cplProd .cmp n + 2 ^ 32 - s.cplCons .cmp n) % 2 ^ 32 + s.ringInflight .cmp n < s.jobRingSize .cmp n

/-- The address of the descriptor that a ring reads next. -/
def State.ringDescAt (s : State) (n : Nat) : Nat :=
  s.fld (Eng.cmp.fld F.CMP.RING_BASE.ADDR n) * 64 + 64 * (s.jobCons .cmp n % s.jobRingSize .cmp n)

section Regs

variable {s t : State} {e : Eng} {n : Nat} (h : t.regs = s.regs)
include h

theorem State.fld_of_regs (f : Fld) : t.fld f = s.fld f := State.fld_eq_of_reg (State.reg_congr h _)

theorem State.ringRuns_of_regs : t.ringRuns e n = s.ringRuns e n := by
  rw [State.ringRuns, State.ringRuns, State.ringEnabled, State.ringEnabled, State.flag, State.flag, State.flag, State.flag,
    State.fld_of_regs h, State.fld_of_regs h]

theorem State.jobCons_of_regs : t.jobCons e n = s.jobCons e n := State.fld_of_regs h _
theorem State.jobProd_of_regs : t.jobProd e n = s.jobProd e n := State.fld_of_regs h _
theorem State.cplCons_of_regs : t.cplCons e n = s.cplCons e n := State.fld_of_regs h _
theorem State.cplProd_of_regs : t.cplProd e n = s.cplProd e n := State.fld_of_regs h _

theorem State.jobRingSize_of_regs : t.jobRingSize e n = s.jobRingSize e n := by
  rw [State.jobRingSize, State.jobRingSize, State.fld_of_regs h]

theorem State.ringDescAt_of_regs : t.ringDescAt n = s.ringDescAt n := by
  rw [State.ringDescAt, State.ringDescAt, State.fld_of_regs h, State.jobCons_of_regs h, State.jobRingSize_of_regs h]

end Regs

theorem State.turnTaken_regs (s : State) (n : Nat) : (s.turnTaken n).regs = s.regs := Eq.refl _

theorem State.turnTaken_alike (s : State) (n : Nat) : Alike s (s.turnTaken n) :=
  ⟨fun _ _ => State.reg_congr (s.turnTaken_regs n) _, Eq.refl _, Eq.refl _, Eq.refl _, Eq.refl _, Eq.refl _⟩

theorem State.RingReads.turnTaken {s : State} {n : Nat} (h : s.RingReads n) : (s.turnTaken n).RingReads n := by
  have hr := s.turnTaken_regs n
  obtain ⟨hruns, hwaits, hroom⟩ := h
  have hin : (s.turnTaken n).ringInflight .cmp n = s.ringInflight .cmp n := by
    rw [State.ringInflight, State.ringInflight]; rfl
  refine ⟨by rwa [State.ringRuns_of_regs hr], by rwa [State.jobProd_of_regs hr, State.jobCons_of_regs hr], ?_⟩
  rw [State.cplProd_of_regs hr, State.cplCons_of_regs hr, hin, State.jobRingSize_of_regs hr]
  exact hroom

/-- No job that has been read waits for a lane. -/
theorem State.beginWaiting_none {s : State} {e : Eng} {n : Nat} (h : ∀ p ∈ s.ringJobs e, p.2.ring ≠ n ∨ p.2.lane ≠ none) :
    s.beginWaiting e n = s := by
  have hnil : (s.ringJobs e).filter (fun p => p.2.ring == n && p.2.lane.isNone) = [] :=
    List.filter_eq_nil_iff.mpr fun p hp => by
      rcases h p hp with h | h
      · simp [h]
      · simp [h]
  unfold State.beginWaiting
  rw [hnil, List.foldl_nil]

theorem State.jobRingSize_succ (s : State) (e : Eng) (n : Nat) : ∃ f, s.jobRingSize e n = f + 1 :=
  Nat.exists_eq_succ_of_ne_zero (Nat.two_pow_pos _).ne'

/-- A turn of a ring that reads: the descriptors follow, for no job waits. -/
theorem State.dispatchRing_reads {s : State} {n : Nat} (h : s.RingReads n) (hw : ∀ p ∈ s.cmp.jobs, p.2.ring ≠ n ∨ p.2.lane ≠ none) :
    ∃ f, s.dispatchRing .cmp n = s.readDescs .cmp n (f + 1) := by
  obtain ⟨f, hf⟩ := s.jobRingSize_succ .cmp n
  refine ⟨f, ?_⟩
  rw [State.dispatchRing, if_pos h.runs, State.beginWaiting_none (e := .cmp) hw, hf]

/-- A ring with nothing to read stops. -/
theorem State.readDescs_empty {s : State} {e : Eng} {n : Nat} (h : s.jobCons e n = s.jobProd e n) (f : Nat) : s.readDescs e n f = s := by
  cases f with
  | zero => rw [State.readDescs]
  | succ f => rw [State.readDescs, if_pos (by simp [h])]

/-- The consumer has moved past the descriptor of a new job. -/
def State.jobTaken (s : State) (n : Nat) : State :=
  ({ s with cmp := { s.cmp with nextJob := s.cmp.nextJob + 1 } } : State).put (Eng.cmp.fld F.CMP.RING_CONS.COUNT n) (s.jobCons .cmp n + 1)

theorem State.jobTaken_reg (s : State) {n a : Nat} (h : a ≠ (Eng.cmp.fld F.CMP.RING_CONS.COUNT n).addr) :
    (s.jobTaken n).reg a = s.reg a := by
  unfold State.jobTaken
  exact State.reg_put_other _ _ _ _ h

theorem State.jobTaken_cmp (s : State) (n : Nat) : (s.jobTaken n).cmp = { s.cmp with nextJob := s.cmp.nextJob + 1 } := by
  unfold State.jobTaken
  rw [State.put_cmp]

theorem State.jobTaken_mem (s : State) (n : Nat) : (s.jobTaken n).mem = s.mem := by
  unfold State.jobTaken
  rw [State.put_mem]

section Taken

variable (s : State) {n : Nat} (hn : n < 32)
include hn

theorem State.jobTaken_alike : Alike s (s.jobTaken n) := by
  have hr := Eng.fld_range (e := .cmp) (f := F.CMP.RING_CONS.COUNT) (by decide) hn
  have hb : Eng.cmp.base = 0xF2800000 := Eq.refl _
  refine ⟨fun a ha => s.jobTaken_reg (by omega), s.jobTaken_mem n, ?_, ?_, ?_, ?_⟩
  · unfold State.jobTaken; rw [State.put_flt]
  · unfold State.jobTaken; rw [State.put_rdx]
  · rw [State.jobTaken_cmp]
  · rw [State.jobTaken_cmp]

theorem State.jobTaken_fld {g : Fld} (hg : g.isRing) (h : F.CMP.RING_CONS.COUNT.addr ≠ g.addr) :
    (s.jobTaken n).fld (Eng.cmp.fld g n) = s.fld (Eng.cmp.fld g n) := by
  exact State.fld_eq_of_reg (s.jobTaken_reg (Eng.fld_addr_ne hg (by decide) h.symm hn))

omit hn in
theorem State.jobTaken_cons : (s.jobTaken n).jobCons .cmp n = (s.jobCons .cmp n + 1) % 2 ^ 32 := by
  rw [State.jobCons, State.jobTaken,
    State.fld_put_width _ _ _ 32 (Eng.fld_ok (by decide)) (by rw [Eng.fld_hi, Eng.fld_lo]; rfl)]

theorem State.jobTaken_prod : (s.jobTaken n).jobProd .cmp n = s.jobProd .cmp n := s.jobTaken_fld hn (by decide) (by decide)

end Taken

theorem State.mayHold_none {s : State} {e : Eng} {d : List Byte} (h : jobHolds e d = none) (job : Nat) : s.mayHold e job d = true := by
  rw [State.mayHold, h]

/-- A good job that holds nothing takes its lane and runs. -/
theorem State.beginJob_runs {s : State} {j : RingJob} (hb : s.cmpBadDesc j.desc = false) (h48 : descField j.desc 48 8 = 0) (job : Nat) :
    s.beginJob .cmp job j = s.setJobs .cmp (Tab.insert s.cmp.jobs job j) := by
  unfold State.beginJob
  rw [if_neg (by rw [State.badDesc, hb]; exact Bool.false_ne_true), if_neg (fun h => h.2.1 h48)]
  exact if_neg (fun h => h.2 h48)

theorem jobHolds_cmp_none {d : List Byte} (h : jobHolds .cmp d = none) : descField d 48 8 = 0 := by
  by_contra hd
  rw [jobHolds, if_neg hd] at h
  cases h

/-- A job of a ring as its descriptor is read. -/
def readJob (n : Nat) (d : List Byte) (lane : Option Nat) : RingJob := { ring := n, desc := d, lane := lane, old := false, waited := false }

section Read

variable {s : State} {n : Nat} (hs : s.RingReads n) (f : Nat)
include hs

theorem State.RingReads.goes : ¬ (!s.ringRuns .cmp n || s.jobCons .cmp n == s.jobProd .cmp n ||
    !decide ((s.cplProd .cmp n + 2 ^ 32 - s.cplCons .cmp n) % 2 ^ 32 + s.ringInflight .cmp n < s.jobRingSize .cmp n)) = true := by
  obtain ⟨hruns, hwaits, hroom⟩ := hs
  obtain ⟨d, hd⟩ : ∃ d, (s.cplProd .cmp n + 2 ^ 32 - s.cplCons .cmp n) % 2 ^ 32 = d := ⟨_, Eq.refl _⟩
  rw [hd] at hroom ⊢
  simp [hruns, hwaits.symm, hroom]

/-- A read that memory refuses halts the ring with CAUSE 2 (R110). -/
theorem State.readDescs_refused (hl : s.loadBy Src.CMP (s.ringDescAt n) 64 = none) :
    s.readDescs .cmp n (f + 1) = (s.violation Src.CMP false (s.ringDescAt n)).haltRing .cmp n 2 := by
  rw [State.readDescs, if_neg hs.goes]
  dsimp only
  rw [← State.ringDescAt, show Eng.cmp.src = Src.CMP from Eq.refl _, hl]

variable {d : List Byte} (hl : s.loadBy Src.CMP (s.ringDescAt n) 64 = some d)
include hl

/-- A bad descriptor ends with status 2, and the ring reads on (R105). -/
theorem State.readDescs_bad (hb : s.cmpBadDesc d = true) : s.readDescs .cmp n (f + 1) =
    ((s.jobTaken n).endJob .cmp s.cmp.nextJob (emptyEnd .cmp (readJob n d (s.pickLane .cmp true)) 2)).readDescs .cmp n f := by
  rw [State.readDescs, if_neg hs.goes]
  dsimp only
  rw [← State.ringDescAt, show Eng.cmp.src = Src.CMP from Eq.refl _, hl]
  exact if_pos hb

/-- A good descriptor that needs nothing held takes a lane, and the ring reads on (R103). -/
theorem State.readDescs_runs {l : Nat} (hn : n < 32) (hb : s.cmpBadDesc d = false) (hh : jobHolds .cmp d = none)
    (hlane : s.laneForJob .cmp n d = some l) : s.readDescs .cmp n (f + 1) =
    ((s.jobTaken n).setJobs .cmp (Tab.insert s.cmp.jobs s.cmp.nextJob (readJob n d (some l)))).readDescs .cmp n f := by
  have halike := s.jobTaken_alike hn
  have hlane' : (s.jobTaken n).laneForJob .cmp n d = some l :=
    (halike.laneForJob (s.jobTaken_fld hn (by decide) (by decide)) d).trans hlane
  have hbegin := State.beginJob_runs (j := readJob n d (some l)) ((halike.cmpBadDesc d).trans hb) (jobHolds_cmp_none hh) s.cmp.nextJob
  rw [halike.jobs] at hbegin
  rw [State.readDescs, if_neg hs.goes]
  dsimp only
  rw [← State.ringDescAt, show Eng.cmp.src = Src.CMP from Eq.refl _, hl]
  refine (if_neg (by rw [State.badDesc, hb]; exact Bool.false_ne_true)).trans ((if_pos (State.mayHold_none hh _)).trans ?_)
  show (match (s.jobTaken n).laneForJob .cmp n d with
    | some l => ((s.jobTaken n).beginJob .cmp s.cmp.nextJob (readJob n d (some l))).readDescs .cmp n f
    | none => s) = _
  simp only [hlane', hbegin]

end Read

end Sys2Proof.Machine
end

section
/-!
The rows of CMP_JOB_DISPATCH, and the statement on the jobs of the rings.
-/

namespace Sys2Proof.Machine

/-! A read that memory refuses (R551). -/

/-- The registers that a refused access may change. -/
def violationRegs : List Nat := (F.MEM.STAT.COUNT.nth 3).addr :: F.MEM.VIOL.VALID.addr :: eventRegs Src.MEM

theorem State.violation_unrecorded (s : State) (req : Nat) (write : Bool) (a : Nat) : (s.violation req write a).unrecorded = s.unrecorded := by
  unfold State.violation
  dsimp only
  split
  · rw [State.event_unrecorded, State.count_unrecorded]
  · rw [State.put_unrecorded, State.put_unrecorded, State.putFlag_unrecorded, State.put_unrecorded, State.event_unrecorded,
      State.count_unrecorded]

theorem State.violation_reg (s : State) (req : Nat) (write : Bool) (x : Nat) {a : Nat} (h : a ∉ violationRegs) :
    (s.violation req write x).reg a = s.reg a := by
  simp only [violationRegs, List.mem_cons, not_or] at h
  obtain ⟨hstat, hviol, hevent⟩ := h
  have hcounted : ((s.count F.MEM.STAT.COUNT 3).event Src.MEM 1 req x).reg a = s.reg a :=
    (State.event_reg _ _ _ _ _ _ _ (by simpa using hevent)).trans (State.count_reg _ _ _ _ _ hstat)
  unfold State.violation
  dsimp only
  split
  · exact hcounted
  · have hfld {f : Fld} (hf : f.addr = F.MEM.VIOL.VALID.addr) (u : State) (v : Nat) : (u.put f v).reg a = u.reg a :=
      State.reg_put_other _ _ _ _ (by rw [hf]; exact hviol)
    rw [hfld (f := F.MEM.VIOL.ADDR) (Eq.refl _), hfld (f := F.MEM.VIOL.REQ) (Eq.refl _), State.putFlag,
      hfld (f := F.MEM.VIOL.WRITE) (Eq.refl _), hfld (f := F.MEM.VIOL.VALID) (Eq.refl _), hcounted]

theorem violationRegs_outside : ∀ b ∈ violationRegs, b < Eng.cmp.base + 0x1000 ∨ Eng.cmp.base + 0x1800 ≤ b := by decide

/-! The rows of CMP_JOB_DISPATCH. -/

theorem State.setJobs_regs (s : State) (e : Eng) (m : Tab RingJob) : (s.setJobs e m).regs = s.regs := by cases e <;> rfl

theorem State.endJob_regs (s : State) (e : Eng) (n : Nat) (d : JobDone) : (s.endJob e n d).regs = s.regs := by cases e <;> rfl

section Rows

variable {s : State} {n : Nat} (hn : n < 32) (ht : s.ringTurnOf n = true) (hs : s.RingReads n)
  (hw : ∀ p ∈ s.cmp.jobs, p.2.ring ≠ n ∨ p.2.lane ≠ none)
include hn ht hs hw

theorem execCmpJobDispatch_reads : ∃ f, exec (.cmpJobDispatch n) s = .next ((s.turnTaken n).readDescs .cmp n (f + 1)) := by
  obtain ⟨f, hf⟩ := State.dispatchRing_reads hs.turnTaken (s := s.turnTaken n) hw
  exact ⟨f, (execCmpJobDispatch_turn hn ht).trans (congrArg Host.Outcome.next hf)⟩

omit hn ht hs hw in
/-- What a ring reads next is the same once its turn is noted. -/
theorem State.turnTaken_loadBy (s : State) (n : Nat) :
    (s.turnTaken n).loadBy Src.CMP ((s.turnTaken n).ringDescAt n) 64 = s.loadBy Src.CMP (s.ringDescAt n) 64 := by
  rw [(s.turnTaken_alike n).loadBy, State.ringDescAt_of_regs (s.turnTaken_regs n)]

theorem cmpJobDispatch_refused (hl : s.loadBy Src.CMP (s.ringDescAt n) 64 = none) : Runs (.cmpJobDispatch n) s fun t =>
    t.flag (Eng.cmp.fld F.CMP.RING_STATUS.HALTED n) = true ∧ t.fld (Eng.cmp.fld F.CMP.RING_STATUS.CAUSE n) = 2 ∧
    t.jobCons .cmp n = s.jobCons .cmp n ∧ Raises t Src.CMP 1 ∧
    t.cmp = { s.cmp with turned := s.cmp.turned ++ [n] } ∧ SameMemory s t := by
  obtain ⟨f, hf⟩ := execCmpJobDispatch_reads hn ht hs hw
  rw [State.readDescs_refused hs.turnTaken f ((s.turnTaken_loadBy n).trans hl)] at hf
  obtain ⟨v, hv⟩ : ∃ v, (s.turnTaken n).violation Src.CMP false ((s.turnTaken n).ringDescAt n) = v := ⟨_, Eq.refl _⟩
  have hcons : (Eng.cmp.fld F.CMP.RING_CONS.COUNT n).addr ∉ haltRegs .cmp n := by
    have hrange := Eng.fld_range (e := .cmp) (f := F.CMP.RING_CONS.COUNT) (by decide) hn
    have hi := irqRoute_lt_base .cmp hn
    simp only [haltRegs, List.mem_cons, not_or]
    exact ⟨Eng.fld_addr_ne (by decide) (by decide) (by decide) hn, by omega,
      by simpa using Eng.fld_not_mem (by decide) hn (eventRegs_outside .cmp)⟩
  have hkept : v.jobCons .cmp n = s.jobCons .cmp n := by
    rw [← hv]
    exact State.fld_eq_of_reg ((State.violation_reg _ _ _ _ (Eng.fld_not_mem (by decide) hn violationRegs_outside)).trans
      (State.reg_congr (s.turnTaken_regs n) _))
  have hrest : (v.haltRing .cmp n 2).unrecorded = (s.turnTaken n).unrecorded := by
    rw [State.haltRing_unrecorded, ← hv, State.violation_unrecorded]
  rw [hv] at hf
  exact ⟨_, hf, v.haltRing_halted .cmp 2 hn, v.haltRing_cause .cmp 2 hn (by decide),
    (State.fld_eq_of_reg (v.haltRing_reg .cmp hcons)).trans hkept,
    raises_of_signals (by decide) (v.haltRing_signals .cmp 2 hn (Eq.refl _) (Eq.refl _) (Eq.refl _)),
    State.cmp_of_unrecorded hrest, sameMemory_of_mem ((State.mem_of_unrecorded hrest).trans (Eq.refl _))⟩

variable {d : List Byte} (hp : s.jobProd .cmp n = (s.jobCons .cmp n + 1) % 2 ^ 32) (hl : s.loadBy Src.CMP (s.ringDescAt n) 64 = some d)
include hp hl

omit hn ht hs hw hl in
/-- The ring's last descriptor has been read. -/
theorem State.turnTaken_read : ((s.turnTaken n).jobTaken n).jobCons .cmp n = s.jobProd .cmp n := by
  rw [State.jobTaken_cons, State.jobCons_of_regs (s.turnTaken_regs n), hp]

omit ht hs hw hl in
theorem State.turnTaken_empty {t : State} (h : t.regs = ((s.turnTaken n).jobTaken n).regs) (f : Nat) : t.readDescs .cmp n f = t :=
  State.readDescs_empty (by
    rw [State.jobCons_of_regs h, State.jobProd_of_regs h, State.turnTaken_read hp, State.jobTaken_prod _ hn,
      State.jobProd_of_regs (s.turnTaken_regs n)]) f

omit hn ht hs hw hp hl in
/-- Of the registers, a descriptor that is read changes the consumer count alone. -/
theorem State.turnTaken_sameRegs {t : State} (h : t.regs = ((s.turnTaken n).jobTaken n).regs) :
    SameRegs [(F.CMP.RING_CONS.COUNT.nth n).addr] s t := by
  intro a ha
  rw [State.reg_congr h, State.jobTaken_reg _ (by rw [Eng.cmp_fld (by decide)]; simpa using ha),
    State.reg_congr (s.turnTaken_regs n)]

theorem cmpJobDispatch_bad (hb : s.cmpBadDesc d = true) : Runs (.cmpJobDispatch n) s fun t =>
    (∃ e, t.cmp.ended = s.cmp.ended ++ [e] ∧ e.ring = n ∧ e.status = 2) ∧ t.jobCons .cmp n = s.jobProd .cmp n ∧
    SameRegs [(F.CMP.RING_CONS.COUNT.nth n).addr] s t ∧ SameMemory s t := by
  obtain ⟨f, hf⟩ := execCmpJobDispatch_reads hn ht hs hw
  rw [State.readDescs_bad hs.turnTaken f ((s.turnTaken_loadBy n).trans hl) (((s.turnTaken_alike n).cmpBadDesc d).trans hb),
    State.turnTaken_empty hn hp (State.endJob_regs ..)] at hf
  have hended : ((s.turnTaken n).jobTaken n).cmp.ended = s.cmp.ended := by
    rw [State.jobTaken_cmp]; rfl
  exact ⟨_, hf, ⟨emptyEnd .cmp (readJob n d ((s.turnTaken n).pickLane .cmp true)) 2, congrArg (· ++ [_]) hended, Eq.refl _, Eq.refl _⟩,
    State.turnTaken_read hp, State.turnTaken_sameRegs (Eq.refl _), sameMemory_of_mem ((s.turnTaken n).jobTaken_mem n)⟩

theorem cmpJobDispatch_runs {l : Nat} (hb : s.cmpBadDesc d = false) (hh : jobHolds .cmp d = none) (hlane : s.laneForJob .cmp n d = some l) :
    Runs (.cmpJobDispatch n) s fun t =>
    Tab.find t.cmp.jobs s.cmp.nextJob = some { ring := n, desc := d, lane := some l, old := false, waited := false } ∧
    t.cmp.nextJob = s.cmp.nextJob + 1 ∧ t.cmp.ended = s.cmp.ended ∧ t.jobCons .cmp n = s.jobProd .cmp n ∧
    SameRegs [(F.CMP.RING_CONS.COUNT.nth n).addr] s t ∧ SameMemory s t := by
  have halike := s.turnTaken_alike n
  have hlane' : (s.turnTaken n).laneForJob .cmp n d = some l :=
    (halike.laneForJob (State.fld_of_regs (s.turnTaken_regs n) _) d).trans hlane
  have hnext : ((s.turnTaken n).jobTaken n).cmp.nextJob = s.cmp.nextJob + 1 := by
    rw [State.jobTaken_cmp]; rfl
  have hended : ((s.turnTaken n).jobTaken n).cmp.ended = s.cmp.ended := by
    rw [State.jobTaken_cmp]; rfl
  obtain ⟨f, hf⟩ := execCmpJobDispatch_reads hn ht hs hw
  rw [State.readDescs_runs hs.turnTaken f ((s.turnTaken_loadBy n).trans hl) hn ((halike.cmpBadDesc d).trans hb) hh hlane',
    State.turnTaken_empty hn hp (State.setJobs_regs ..)] at hf
  exact ⟨_, hf, (Tab.find_insert ..).trans (if_pos (Eq.refl _)), hnext, hended,
    State.turnTaken_read hp, State.turnTaken_sameRegs (Eq.refl _), sameMemory_of_mem ((s.turnTaken n).jobTaken_mem n)⟩

end Rows

end Sys2Proof.Machine

open Sys2Proof Sys2Proof.Machine

/-- Settles O37: the dispatch by what a ring reads in its turn, the ends by what each job writes and leaves. -/
theorem ringJobsRunAndEnd : Obligations.RingJobsRunAndEnd := by
  have hat (s : State) (n : Nat) : s.fld (F.CMP.RING_BASE.ADDR.nth n) * 64 + 64 * (s.jobCons .cmp n % s.jobRingSize .cmp n) = s.ringDescAt n := by
    rw [State.ringDescAt, Eng.cmp_fld (by decide)]
  refine ⟨cmpJobDispatch_idle, fun s n hn ht hr => ?_, fun s n hn ht hr hw hne hroom hl => ?_, fun s n d hn ht hr hw hp hroom hl => ?_,
    fun s s1 n l e r j hj _ hst hin hout hr hlen h48 h44 hend => cmpJobEnd_row hj (State.cmpOutcome_reports hst hin hout hr) hlen h48 h44 hend,
    fun s s1 n e r c j hj ho hend => execCmpJobEnd_stream hj hend ho, fun s n k j hj hl => cipJobEnd_broken hj hl k,
    fun s n m j k hj hl hu hop hk hf => cipJobEnd_brokenDecryption hu hop hk hj hl hf m,
    fun s s1 n j k hj hl hu hop hk hf hend => cipJobEnd_decryption hu hop hk hj hl hf hend,
    fun s n k j hj hl => dgsJobEnd_broken hj hl k,
    fun s s1 n j hj hl hu hop hpad hcmp hlen hend => dgsJobEnd_digest hj hl hu hop hpad hcmp hlen hend, laneRoleTaken_row⟩
  · rw [execCmpJobDispatch_turn hn ht, State.dispatchRing, State.ringRuns_of_regs (s.turnTaken_regs n), hr]
    exact congrArg Host.Outcome.next (if_neg Bool.false_ne_true)
  · have h := cmpJobDispatch_refused hn ht ⟨hr, hne, hroom⟩ hw ((congrArg (s.loadBy Src.CMP · 64) (hat s n)).symm.trans hl)
    rwa [Eng.cmp_fld (by decide), Eng.cmp_fld (by decide)] at h
  · have hne : s.jobProd .cmp n ≠ s.jobCons .cmp n := by omega
    have hload := (congrArg (s.loadBy Src.CMP · 64) (hat s n)).symm.trans hl
    exact ⟨cmpJobDispatch_bad hn ht ⟨hr, hne, hroom⟩ hw hp hload,
      fun l hb hh hlane => cmpJobDispatch_runs hn ht ⟨hr, hne, hroom⟩ hw hp hload hb hh hlane⟩
end

section
/-!
Command registers that a BUSY field guards: what a write starts while BUSY is 0, and that it is discarded while BUSY is 1 (R566, R594).
-/

namespace Sys2Proof.Machine

/-! A command register. -/

/-- The register at `a` of block `b`, laid out as `x`, takes a command while `busy` is 0; what its write starts, beside BUSY, is `start`. -/
structure CommandReg (a b : Nat) (x : RegSpec) (busy : Fld) (start : Req → Nat → Bool → State → State) : Prop where
  aligned : a % 8 = 0
  spec : specAt a = some (b, x, 0)
  block : blockOf a = some b
  busyBlock : blockOf busy.addr = some b
  busyBit : busy.ok ∧ busy.hi - busy.lo + 1 = 1
  busyApart : busy.addr ∉ [blockBase b + 8, blockBase b + 16]
  writeOnly : ∀ f ∈ x.fields, f.acc = .wo
  free : ∀ (s : State) (v : Nat), ∀ f ∈ x.fields,
    reservedIn a 0 f = false ∧ s.inRange x a a 0 f v = true ∧ s.enableLocked a 0 f = false
  accepts : ∀ (s : State) (v : Nat), s.accepts a v = !s.flag busy
  undelayed : ∀ (s : State) (v : Nat), s.delayWrite a v = none
  starts : ∀ (s : State) (r : Req) (v was : Nat) (ok : Bool), s.afterWrite r a 0 v was ok = (start r v ok s).put busy 1
  rewritten : ∀ (s : State) (r : Req) (v : Nat) (ok : Bool),
    start r v ok (s.setReg a (s.reg a)) = { start r v ok s with regs := (s.setReg a (s.reg a)).regs }

/-- The write of a word whose fields are legal, by an access that reaches the register. -/
theorem State.busWrite_reached {s : State} {r : Req} {a b : Nat} {w : Word} {ok : Bool} {x : RegSpec}
    (hq : reached r a = some (b, x, 0)) (ha : a % 8 = 0) (hb : blockOf a = some b) (he : s.firstError x a a 0 w.toNat = none)
    (hd : s.delayWrite a w.toNat = none) : s.busWrite r a 8 w ok =
      if s.accepts a w.toNat then
        (s.setReg a (BitVec.ofNat 64 (s.written x a a 0 w.toNat))).afterWrite r a 0 w.toNat (s.reg a).toNat ok
      else s.accessErrorIn b r true a 8 .state := by
  have hi : a - 0 * x.stride = a := by rw [Nat.zero_mul, Nat.sub_zero]
  cases hc : s.accepts a w.toNat <;>
    simp [State.busWrite, State.regWrite, State.accessError, aligned8_of_mod ha, hb, hq, he, hc, hd]

/-- A register written back as it stood, and a field of another put: what changes. -/
theorem State.fldPut_effect {s u : State} {f : Fld} (hf : f.ok) (h1 : f.hi - f.lo + 1 = 1) (hu : ∀ a, u.reg a = s.reg a) :
    (u.put f 1).flag f = true ∧ SameRegs [f.addr] s (u.put f 1) ∧
      OnlyBits f.hi f.lo (s.reg f.addr) ((u.put f 1).reg f.addr) := by
  refine ⟨?_, fun a ha => (State.put_sameRegs u f 1 a ha).trans (hu a), ?_⟩
  · rw [State.flag, State.fld_put_width _ _ _ 1 hf h1]; rfl
  · rw [← hu f.addr]
    exact State.put_onlyBits u 1 hf

section Command

variable {a b : Nat} {x : RegSpec} {busy : Fld} {start : Req → Nat → Bool → State → State} (h : CommandReg a b x busy start)
include h

theorem CommandReg.firstError (s : State) {v : Nat} (hv : ∀ f ∈ x.fields, f.legalVal (bits v f.hi f.lo) = true) :
    s.firstError x a a 0 v = none :=
  State.firstError_none fun f hf =>
    let ⟨hres, hin, hlock⟩ := h.free s v f hf
    State.fieldError_none hres (.inl (h.writeOnly f hf)) (hv f hf) hin hlock

variable {s : State} {r : Req} {w : Word} {ok : Bool} (hq : reached r a = some (b, x, 0))
  (hw : ∀ f ∈ x.fields, f.legalVal (bits w.toNat f.hi f.lo) = true)
include hq hw

theorem CommandReg.started (hb : s.flag busy = false) : let t := s.busWrite r a 8 w ok
    t = { start r w.toNat ok s with regs := t.regs } ∧ t.flag busy = true ∧ SameRegs [busy.addr] s t ∧
    OnlyBits busy.hi busy.lo (s.reg busy.addr) (t.reg busy.addr) := by
  have ht : s.busWrite r a 8 w ok =
      ({ start r w.toNat ok s with regs := (s.setReg a (s.reg a)).regs } : State).put busy 1 := by
    rw [State.busWrite_reached hq h.aligned h.block (h.firstError s hw) (h.undelayed s _),
      if_pos (by rw [h.accepts, hb]; rfl), State.written_writeOnly h.writeOnly, BitVec.ofNat_toNat, BitVec.setWidth_eq,
      h.starts, h.rewritten]
  rw [ht]
  exact ⟨Eq.refl _, State.fldPut_effect h.busyBit.1 h.busyBit.2 (s.reg_setReg_self a)⟩

theorem CommandReg.discarded (hb : s.flag busy = true) : let t := s.busWrite r a 8 w ok
    t = { s with regs := t.regs, evr := t.evr } ∧ t.evr.queue = s.evr.queue ∧ t.flag busy = true ∧
    (t.reg (blockBase b + 8)).getLsbD 4 = true ∧ SameRegs [blockBase b + 8, blockBase b + 16] s t := by
  have ht : s.busWrite r a 8 w ok = s.accessErrorIn b r true a 8 .state := by
    rw [State.busWrite_reached hq h.aligned h.block (h.firstError s hw) (h.undelayed s _),
      if_neg (by rw [h.accepts, hb]; exact Bool.false_ne_true)]
  rw [ht]
  have hregs := s.accessErrorIn_sameRegs b r true a 8 .state
  refine ⟨State.eq_of_unrecorded (State.accessErrorIn_unrecorded ..), ?_, ?_, s.accessErrorIn_kind b r true a 8 .state, hregs⟩
  · rw [State.accessErrorIn_evr]
  · rw [State.flag, State.fld_eq_of_reg (hregs busy.addr h.busyApart)]
    exact hb

end Command

/-- A command that is the write of a legal word to a command register starts, or is discarded. -/
theorem CommandReg.command {a b : Nat} {x : RegSpec} {busy : Fld} {start : Req → Nat → Bool → State → State}
    (h : CommandReg a b x busy start) {reaches : Req → Prop} {c : Req → Instr} {w : Word} {ok : Bool} {begun : Req → State → State}
    (hq : ∀ r, reaches r → reached r a = some (b, x, 0)) (hw : ∀ f ∈ x.fields, f.legalVal (bits w.toNat f.hi f.lo) = true)
    (hc : ∀ r s, exec (c r) s = .next (s.busWrite r a 8 w ok)) (hs : ∀ r s, start r w.toNat ok s = begun r s) :
    StartsCommand reaches busy c begun ∧ DiscardedWhileBusy reaches busy c := by
  refine ⟨fun s r hr hb => ⟨_, hc r s, ?_⟩, fun s r hr hb => ⟨_, hc r s, ?_⟩⟩
  · rw [← hs r s]
    exact h.started (hq r hr) hw hb
  · rw [h.busyBlock]
    exact h.discarded (hq r hr) hw hb

/-- An access of a core reaches every register. -/
theorem reached_fromCore {a b : Nat} {x : RegSpec} (hs : specAt a = some (b, x, 0)) (r : Req) (hr : FromCore r) :
    reached r a = some (b, x, 0) := by
  rw [reached, show r.test = false from hr]
  exact hs

/-! CIP.KEY_CMD, SIM.CMD and LCS.CMD. -/

/-- The rule of a command register as `State.accepts` works it out. -/
theorem accepts_of_busy (b : Bool) : (if (b || false) = true then false else true) = !b := by cases b <;> rfl

def cipKeyCmd : RegSpec := ⟨0x108, 0x0, 1, [⟨3, 0, .wo, (k 0), false, [(1, 7)]⟩]⟩
def simCmd : RegSpec := ⟨0x118, 0x0, 1, [⟨2, 0, .wo, (k 0), false, [(1, 5)]⟩]⟩
def lcsCmd : RegSpec := ⟨0x120, 0x0, 1,
  [⟨63, 32, .wo, (k 0), false, []⟩, ⟨9, 8, .wo, (k 0), false, []⟩, ⟨3, 0, .wo, (k 0), false, [(1, 14)]⟩]⟩

/-- What a write of each of them starts (R122, R441, R476). -/
def keyBegun (_ : Req) (v : Nat) (_ : Bool) (s : State) : State := { s with cip := { s.cip with
  pending := some ⟨wfld v F.CIP.KEY_CMD.OP, s.reg F.CIP.KEY_ARG0.SLOT.addr, s.reg F.CIP.KEY_ARG1.LIMIT.addr⟩ } }
def simBegun (_ : Req) (v : Nat) (_ : Bool) (s : State) : State :=
  { s with sim := { s.sim with pending := some (wfld v F.SIM.CMD.OP) } }
def lcsBegun (r : Req) (v : Nat) (ok : Bool) (s : State) : State := { s with lcs := { s.lcs with
  pending := some ⟨wfld v F.LCS.CMD.OP, wfld v F.LCS.CMD.INDEX, wfld v F.LCS.CMD.VALUE, r.test, ok⟩ } }

theorem commandReg_cipKeyCmd : CommandReg F.CIP.KEY_CMD.OP.addr Src.CIP cipKeyCmd F.CIP.KEY_STATUS.BUSY keyBegun where
  aligned := by decide
  spec := by rfl
  block := by decide
  busyBlock := by decide
  busyBit := by decide
  busyApart := by decide
  writeOnly := by decide
  free s v f hf := by
    rw [List.mem_singleton.mp hf]
    exact ⟨by rfl, by rfl, by rfl⟩
  accepts s v := Eq.trans (by rfl) (accepts_of_busy (s.flag F.CIP.KEY_STATUS.BUSY))
  undelayed s v := by rfl
  starts s r v was ok := by rfl
  rewritten s r v ok := by
    simp only [keyBegun, State.reg_setReg_self]
    rfl

theorem commandReg_simCmd : CommandReg F.SIM.CMD.OP.addr Src.SIM simCmd F.SIM.STATUS.BUSY simBegun where
  aligned := by decide
  spec := by rfl
  block := by decide
  busyBlock := by decide
  busyBit := by decide
  busyApart := by decide
  writeOnly := by decide
  free s v f hf := by
    rw [List.mem_singleton.mp hf]
    exact ⟨by rfl, by rfl, by rfl⟩
  accepts s v := Eq.trans (by rfl) (accepts_of_busy (s.flag F.SIM.STATUS.BUSY))
  undelayed s v := by rfl
  starts s r v was ok := by rfl
  rewritten s r v ok := by rfl

theorem commandReg_lcsCmd : CommandReg F.LCS.CMD.OP.addr Src.LCS lcsCmd F.LCS.CMD_STATUS.BUSY lcsBegun where
  aligned := by decide
  spec := by rfl
  block := by decide
  busyBlock := by decide
  busyBit := by decide
  busyApart := by decide
  writeOnly := by decide
  free s v f hf := by
    simp only [lcsCmd, List.mem_cons, List.not_mem_nil, or_false] at hf
    rcases hf with rfl | rfl | rfl <;> exact ⟨by rfl, by rfl, by rfl⟩
  accepts s v := Eq.trans (by rfl) (accepts_of_busy (s.flag F.LCS.CMD_STATUS.BUSY))
  undelayed s v := by rfl
  starts s r v was ok := by rfl
  rewritten s r v ok := by rfl

/-- LCS.CMD is one of the registers that LC_ACCESS reaches (R476, R570). -/
theorem reached_lcsCmd (r : Req) (_ : FromAnyone r) : reached r F.LCS.CMD.OP.addr = some (Src.LCS, lcsCmd, 0) := by
  have h : lcReach.contains F.LCS.CMD.OP.addr = true := by decide
  rw [reached, h, Bool.not_true, Bool.and_false]
  exact commandReg_lcsCmd.spec

/-! The commands. -/

/-- A value in the one range of a field is legal. -/
theorem legalVal_range {f : FieldSpec} {lo hi v : Nat} (hf : f.legal = [(lo, hi)]) (h : lo ≤ v ∧ v ≤ hi) : f.legalVal v = true := by
  simp [FieldSpec.legalVal, hf, h]

/-- A word that LCS.CMD takes: an operation with its index and value. -/
structure LcsWord (w : Word) (op index value : Nat) : Prop where
  opField : wfld w.toNat F.LCS.CMD.OP = op
  indexField : wfld w.toNat F.LCS.CMD.INDEX = index
  valueField : wfld w.toNat F.LCS.CMD.VALUE = value
  legal : 1 ≤ op ∧ op ≤ 14

section Fields

variable {op : Nat} (h : 1 ≤ op ∧ op ≤ 14)
include h

theorem lcsWord_op : LcsWord (fieldWord F.LCS.CMD.OP op) op 0 0 where
  opField := (bits_fieldWord_same F.LCS.CMD.OP op (by decide)).trans (Nat.mod_eq_of_lt (Nat.lt_of_le_of_lt h.2 (by decide)))
  indexField := bits_fieldWord_other _ F.LCS.CMD.INDEX _ (by decide) (by decide) (by decide)
  valueField := bits_fieldWord_other _ F.LCS.CMD.VALUE _ (by decide) (by decide) (by decide)
  legal := h

theorem lcsWord_index {index : Nat} (hi : index < 4) : LcsWord (fieldWord F.LCS.CMD.OP op ||| fieldWord F.LCS.CMD.INDEX index) op index 0 := by
  obtain ⟨h1, h2⟩ := bits_fieldWord_pair F.LCS.CMD.OP F.LCS.CMD.INDEX op index (by decide) (by decide) (by decide)
  refine ⟨h1.trans (Nat.mod_eq_of_lt (Nat.lt_of_le_of_lt h.2 (by decide))), h2.trans (Nat.mod_eq_of_lt hi), ?_, h⟩
  rw [wfld, toNat_or_bits, bits_fieldWord_other _ F.LCS.CMD.VALUE _ (by decide) (by decide) (by decide),
    bits_fieldWord_other _ F.LCS.CMD.VALUE _ (by decide) (by decide) (by decide)]
  rfl

theorem lcsWord_value {value : Nat} (hv : value < 2 ^ 32) : LcsWord (fieldWord F.LCS.CMD.OP op ||| fieldWord F.LCS.CMD.VALUE value) op 0 value := by
  obtain ⟨h1, h2⟩ := bits_fieldWord_pair F.LCS.CMD.OP F.LCS.CMD.VALUE op value (by decide) (by decide) (by decide)
  refine ⟨h1.trans (Nat.mod_eq_of_lt (Nat.lt_of_le_of_lt h.2 (by decide))), ?_, h2.trans (Nat.mod_eq_of_lt hv), h⟩
  rw [wfld, toNat_or_bits, bits_fieldWord_other _ F.LCS.CMD.INDEX _ (by decide) (by decide) (by decide),
    bits_fieldWord_other _ F.LCS.CMD.INDEX _ (by decide) (by decide) (by decide)]
  rfl

end Fields

/-- A key command (R122) waits with the arguments that KEY_ARG0 and KEY_ARG1 hold at its write (assumption 72). -/
theorem keyCommand {op : Nat} {c : Req → Instr} (h : 1 ≤ op ∧ op ≤ 7)
    (hc : ∀ r s, exec (c r) s = .next (s.busWrite r F.CIP.KEY_CMD.OP.addr 8 (fieldWord F.CIP.KEY_CMD.OP op) true)) :
    StartsCommand FromCore F.CIP.KEY_STATUS.BUSY c (fun _ s => { s with cip := { s.cip with
      pending := some ⟨op, s.reg F.CIP.KEY_ARG0.SLOT.addr, s.reg F.CIP.KEY_ARG1.LIMIT.addr⟩ } }) ∧
    DiscardedWhileBusy FromCore F.CIP.KEY_STATUS.BUSY c := by
  have hop : bits (fieldWord F.CIP.KEY_CMD.OP op).toNat 3 0 = op :=
    (bits_fieldWord_same F.CIP.KEY_CMD.OP op (by decide)).trans (Nat.mod_eq_of_lt (Nat.lt_of_le_of_lt h.2 (by decide)))
  refine commandReg_cipKeyCmd.command (reached_fromCore commandReg_cipKeyCmd.spec) (fun f hf => ?_) hc (fun r s => ?_)
  · obtain rfl := List.mem_singleton.mp hf
    exact legalVal_range (Eq.refl _) (hop.symm ▸ h)
  · rw [keyBegun, show wfld _ F.CIP.KEY_CMD.OP = op from hop]

/-- A command of SIM (R441, R446 to R448). -/
theorem simCommand {op : Nat} {c : Req → Instr} (h : 1 ≤ op ∧ op ≤ 5)
    (hc : ∀ r s, exec (c r) s = .next (s.busWrite r F.SIM.CMD.OP.addr 8 (fieldWord F.SIM.CMD.OP op) true)) :
    StartsCommand FromCore F.SIM.STATUS.BUSY c (fun _ s => { s with sim := { s.sim with pending := some op } }) ∧
    DiscardedWhileBusy FromCore F.SIM.STATUS.BUSY c := by
  have hop : bits (fieldWord F.SIM.CMD.OP op).toNat 2 0 = op :=
    (bits_fieldWord_same F.SIM.CMD.OP op (by decide)).trans (Nat.mod_eq_of_lt (Nat.lt_of_le_of_lt h.2 (by decide)))
  refine commandReg_simCmd.command (reached_fromCore commandReg_simCmd.spec) (fun f hf => ?_) hc (fun r s => ?_)
  · obtain rfl := List.mem_singleton.mp hf
    exact legalVal_range (Eq.refl _) (hop.symm ▸ h)
  · rw [simBegun, show wfld _ F.SIM.CMD.OP = op from hop]

/-- A command of LCS (R476), whose word gives its index and value. -/
theorem lcsCommand {op index value : Nat} {w : Word} {ok : Bool} {c : Req → Instr} (h : LcsWord w op index value)
    (hc : ∀ r s, exec (c r) s = .next (s.busWrite r F.LCS.CMD.OP.addr 8 w ok)) :
    StartsCommand FromAnyone F.LCS.CMD_STATUS.BUSY c (fun r s => { s with lcs := { s.lcs with
      pending := some ⟨op, index, value, r.test, ok⟩ } }) ∧
    DiscardedWhileBusy FromAnyone F.LCS.CMD_STATUS.BUSY c := by
  refine commandReg_lcsCmd.command reached_lcsCmd (fun f hf => ?_) hc (fun r s => ?_)
  · simp only [lcsCmd, List.mem_cons, List.not_mem_nil, or_false] at hf
    rcases hf with rfl | rfl | rfl
    · rfl
    · rfl
    · have hop : bits w.toNat 3 0 = op := h.opField
      exact legalVal_range (Eq.refl _) (hop.symm ▸ h.legal)
  · rw [lcsBegun, h.opField, h.indexField, h.valueField]

end Sys2Proof.Machine

open Sys2Proof Sys2Proof.Machine

/-- Settles O15: each command is the write of a legal word to its block's command register. -/
theorem commandRegistersStartTheirCommand : Obligations.CommandRegistersStartTheirCommand := by
  exact ⟨keyCommand (op := 1) (by decide) fun _ _ => rfl, keyCommand (op := 2) (by decide) fun _ _ => rfl,
    keyCommand (op := 3) (by decide) fun _ _ => rfl, keyCommand (op := 4) (by decide) fun _ _ => rfl,
    keyCommand (op := 5) (by decide) fun _ _ => rfl, keyCommand (op := 6) (by decide) fun _ _ => rfl,
    keyCommand (op := 7) (by decide) fun _ _ => rfl,
    simCommand (op := 1) (by decide) fun _ _ => rfl, simCommand (op := 2) (by decide) fun _ _ => rfl,
    simCommand (op := 3) (by decide) fun _ _ => rfl, simCommand (op := 4) (by decide) fun _ _ => rfl,
    simCommand (op := 5) (by decide) fun _ _ => rfl,
    lcsCommand (lcsWord_op (op := 1) (by decide)) fun _ _ => rfl,
    fun _ => lcsCommand (lcsWord_op (op := 2) (by decide)) fun _ _ => rfl,
    fun _ _ hv => lcsCommand (lcsWord_value (op := 3) (by decide) hv) fun _ _ => rfl,
    fun _ => lcsCommand (lcsWord_op (op := 4) (by decide)) fun _ _ => rfl,
    fun _ => lcsCommand (lcsWord_op (op := 5) (by decide)) fun _ _ => rfl,
    fun _ => lcsCommand (lcsWord_op (op := 6) (by decide)) fun _ _ => rfl,
    fun _ _ hi => lcsCommand (lcsWord_index (op := 7) (by decide) hi) fun _ _ => rfl,
    fun _ _ hi => lcsCommand (lcsWord_index (op := 8) (by decide) hi) fun _ _ => rfl,
    fun _ _ hv => lcsCommand (lcsWord_value (op := 9) (by decide) hv) fun _ _ => rfl,
    lcsCommand (lcsWord_op (op := 10) (by decide)) fun _ _ => rfl, lcsCommand (lcsWord_op (op := 11) (by decide)) fun _ _ => rfl,
    lcsCommand (lcsWord_op (op := 12) (by decide)) fun _ _ => rfl, lcsCommand (lcsWord_op (op := 13) (by decide)) fun _ _ => rfl,
    lcsCommand (lcsWord_op (op := 14) (by decide)) fun _ _ => rfl⟩
end

section
/-!
Key slots, and what the commands and events of keys leave alone (R117 to R124).
-/

namespace Sys2Proof.Machine

/-! A slot after a write of it, or of another. -/

theorem State.slot_of_cip {s t : State} (h : t.cip = s.cip) (typ n : Nat) : t.slot typ n = s.slot typ n := by
  rw [State.slot, State.slot, h]

theorem State.slots_setSlots (s : State) (typ : Nat) (m : Tab KeySlot) : (s.setSlots typ m).cip.slots typ = m := by
  unfold State.setSlots Cip.slots
  by_cases h0 : typ = 0
  · simp [h0]
  · by_cases h1 : typ = 1 <;> simp [h0, h1]

theorem State.slot_setSlot (s : State) (typ n m : Nat) (k : KeySlot) :
    (s.setSlot typ n k).slot typ m = if m = n then some k else s.slot typ m := by
  rw [State.setSlot, State.slot, State.slots_setSlots, Tab.find_insert]
  rfl

theorem State.slot_setSlot_same (s : State) (typ n : Nat) (k : KeySlot) : (s.setSlot typ n k).slot typ n = some k :=
  (s.slot_setSlot typ n n k).trans (if_pos (Eq.refl _))

theorem State.slot_setSlot_other (s : State) (typ : Nat) {n m : Nat} (k : KeySlot) (h : m ≠ n) :
    (s.setSlot typ n k).slot typ m = s.slot typ m := (s.slot_setSlot typ n m k).trans (if_neg h)

theorem State.setSlots_eq (s : State) (typ : Nat) (m : Tab KeySlot) : ∃ c, s.setSlots typ m = { s with cip := c } := by
  unfold State.setSlots
  split
  · exact ⟨_, Eq.refl _⟩
  · split <;> exact ⟨_, Eq.refl _⟩

theorem State.setSlot_regs (s : State) (typ n : Nat) (k : KeySlot) : (s.setSlot typ n k).regs = s.regs := by
  obtain ⟨c, h⟩ := s.setSlots_eq typ (Tab.insert (s.cip.slots typ) n k)
  rw [State.setSlot, h]

/-! What work on keys leaves alone: all but CIP, the recorder and the registers. -/

/-- The state with everything masked that work on keys may change. -/
def State.besidesKeys (s : State) : State := { s.unrecorded with cip := Cip.cold }

/-- Two states agree in everything that work on keys leaves alone. -/
def KeysOnly (s t : State) : Prop := t.besidesKeys = s.besidesKeys

namespace KeysOnly

variable {s t u : State}

theorem refl (s : State) : KeysOnly s s := Eq.refl _
theorem trans (h : KeysOnly s t) (h' : KeysOnly t u) : KeysOnly s u := Eq.trans h' h

theorem of_unrecorded (h : t.unrecorded = s.unrecorded) : KeysOnly s t :=
  congrArg (fun v : State => ({ v with cip := Cip.cold } : State)) h

theorem setSlots (s : State) (typ : Nat) (m : Tab KeySlot) : KeysOnly s (s.setSlots typ m) := by
  obtain ⟨c, h⟩ := s.setSlots_eq typ m
  rw [h]
  rfl

theorem setSlot (s : State) (typ n : Nat) (k : KeySlot) : KeysOnly s (s.setSlot typ n k) := setSlots s typ _

theorem foldl {α : Type} {f : State → α → State} (h : ∀ v x, KeysOnly v (f v x)) (l : List α) (s : State) :
    KeysOnly s (l.foldl f s) := by
  induction l generalizing s with
  | nil => exact refl s
  | cons x l ih => exact (h s x).trans (ih _)

/-- What reads only what is left alone reads as before. -/
theorem keeps {α : Type} (p : State → α) (h : KeysOnly s t) (hp : ∀ v : State, p v = p v.besidesKeys) : p t = p s := by
  rw [hp t, hp s, show t.besidesKeys = s.besidesKeys from h]

theorem mem (h : KeysOnly s t) : t.mem = s.mem := h.keeps State.mem fun _ => Eq.refl _
theorem ftl (h : KeysOnly s t) : t.ftl = s.ftl := h.keeps State.ftl fun _ => Eq.refl _
theorem rdn (h : KeysOnly s t) : t.rdn = s.rdn := h.keeps State.rdn fun _ => Eq.refl _
theorem other (h : KeysOnly s t) : t.other = s.other := h.keeps State.other fun _ => Eq.refl _
theorem lcs (h : KeysOnly s t) : t.lcs = s.lcs := h.keeps State.lcs fun _ => Eq.refl _
theorem peer (h : KeysOnly s t) : t.rfl = s.rfl := h.keeps State.rfl fun _ => Eq.refl _

end KeysOnly

/-! Events of keys. -/

theorem State.keyEvent_unrecorded (s : State) (typ n bit keyId : Nat) : (s.keyEvent typ n bit keyId).unrecorded = s.unrecorded := by
  unfold State.keyEvent
  dsimp only
  split <;> rw [State.put_unrecorded, State.event_unrecorded]

theorem State.slot_keyEvent (s : State) (typ n bit keyId ty m : Nat) : (s.keyEvent typ n bit keyId).slot ty m = s.slot ty m :=
  State.slot_of_cip (State.keyEvent_cip ..) ty m

/-- Bits set in a register leave those that are set. -/
theorem Raises.putOr {s : State} {src bit : Nat} (f : Fld) (hf : f.ok) (v : Nat) (h : Raises s src bit) :
    Raises (s.put f (s.fld f ||| v)) src bit := by
  by_cases ha : eventAddr src = f.addr
  · have hlt : setBits (s.reg f.addr).toNat f.hi f.lo (s.fld f ||| v) < 2 ^ 64 := setBits_lt _ _ _ _ hf.1 hf.2 (s.reg f.addr).isLt
    have hbit : (s.reg f.addr).toNat.testBit bit = true := ha ▸ h
    rw [Raises, ha, State.put, State.reg_setReg_same, BitVec.getLsbD, BitVec.toNat_ofNat, Nat.mod_eq_of_lt hlt,
      testBit_setBits _ _ _ _ _ hf.1]
    split
    · exact hbit
    · next hlo =>
      split
      · next hhi =>
        have hin : bit - f.lo < f.hi - f.lo + 1 := by omega
        rw [Nat.testBit_or, State.fld, bits, Nat.testBit_mod_two_pow, Nat.testBit_shiftRight, Nat.add_sub_cancel' (by omega), hbit]
        simp [hin]
      · exact hbit
  · exact Raises.setReg_other _ h ha

theorem cipEvent_not_mem_recordRegs : eventAddr Src.CIP ∉ recordRegs := eventAddr_not_mem_recordRegs _ (by decide)

/-- The ATTN bits of a slot leave what CIP has raised. -/
theorem raises_attn {s : State} {typ n bit : Nat} (h : Raises s Src.CIP bit) :
    Raises (if typ = 0 then s.put (F.CIP.ATTN.SLOT.nth (n / 64)) (s.fld (F.CIP.ATTN.SLOT.nth (n / 64)) ||| 2 ^ (n % 64))
      else s.put F.CIP.ATTN_TX.SLOT (s.fld F.CIP.ATTN_TX.SLOT ||| 2 ^ n)) Src.CIP bit := by
  split
  · exact Raises.putOr _ (Fld.nth_ok (by decide)) _ h
  · exact Raises.putOr _ (by decide) _ h

theorem Raises.keyEvent {s : State} {bit : Nat} (typ n bit' keyId : Nat) (h : Raises s Src.CIP bit) :
    Raises (s.keyEvent typ n bit' keyId) Src.CIP bit :=
  raises_attn (Raises.record _ _ _ _ _ _ (Raises.setEventBit Src.CIP bit' h) cipEvent_not_mem_recordRegs)

theorem raises_keyEvent (s : State) (typ n keyId : Nat) {bit : Nat} (hb : bit < 64) :
    Raises (s.keyEvent typ n bit keyId) Src.CIP bit :=
  raises_attn (Raises.record _ _ _ _ _ _ (raises_setEventBit s Src.CIP hb) cipEvent_not_mem_recordRegs)

theorem Raises.of_regs {s t : State} {src bit : Nat} (h : t.regs = s.regs) (hr : Raises s src bit) : Raises t src bit :=
  raises_of_reg (State.reg_congr h _) hr

namespace KeysOnly

theorem keyEvent (s : State) (typ n bit keyId : Nat) : KeysOnly s (s.keyEvent typ n bit keyId) :=
  of_unrecorded (State.keyEvent_unrecorded ..)

theorem checkSpent (s : State) (typ n : Nat) : KeysOnly s (s.checkSpent typ n) := by
  unfold State.checkSpent
  split
  · exact refl s
  · split
    · exact (setSlot s _ _ _).trans (keyEvent _ _ _ _ _)
    · exact refl s

end KeysOnly

/-! A key that is spent (R123). -/

/-- A spent key changes its STATE alone. -/
theorem State.checkSpent_slot {s : State} {typ n : Nat} {k : KeySlot} (h : s.slot typ n = some k) :
    ∃ st, (s.checkSpent typ n).slot typ n = some { k with state := st } := by
  unfold State.checkSpent
  simp only [h]
  split
  · exact ⟨.exhausted, (State.slot_keyEvent ..).trans (State.slot_setSlot_same ..)⟩
  · exact ⟨k.state, h⟩

theorem State.checkSpent_slot_other (s : State) (typ : Nat) {n m : Nat} (hm : m ≠ n) :
    (s.checkSpent typ n).slot typ m = s.slot typ m := by
  unfold State.checkSpent
  split
  · rfl
  · split
    · rw [State.slot_keyEvent, State.slot_setSlot_other _ _ _ hm]
    · rfl

/-! A key that reaches W (R123, R127, R128). -/

section Warn

variable {s : State} {typ n m : Nat} {k x : KeySlot} (hk : s.slot typ n = some k) (ha : k.state = .active) (hw : k.warned = false)
  (hu : k.warnAt ≤ k.usedBlocks typ) (hs : s.successor typ k = some (m, x))
include hk ha hw hu hs

theorem State.checkWarn_switches : s.checkWarn typ n =
    ((s.setSlot typ n { k with warned := true }).keyEvent typ n 0 k.keyId).switchKey typ n { k with warned := true } m x := by
  unfold State.checkWarn
  simp only [hk]
  rw [if_neg (Nat.not_lt.mpr hu), if_neg (by simp [ha, hw]), hs, hw]
  rfl

theorem State.checkWarn_row (hm : m ≠ n) : let t := s.checkWarn typ n
    t.slot typ n = some { k with state := .retiring, warned := true } ∧ t.slot typ m = some { x with state := .active } ∧
    (∀ i, i ≠ n → i ≠ m → t.slot typ i = s.slot typ i) ∧ Raises t Src.CIP 0 ∧ Raises t Src.CIP 1 ∧ SameMemory s t := by
  rw [State.checkWarn_switches hk ha hw hu hs, State.switchKey]
  generalize hv : (s.setSlot typ n { k with warned := true }).keyEvent typ n 0 k.keyId = v
  have hslot (i : Nat) (hi : i ≠ n) : v.slot typ i = s.slot typ i := by
    rw [← hv, State.slot_keyEvent, State.slot_setSlot_other _ _ _ hi]
  have hraised : Raises v Src.CIP 0 := hv ▸ raises_keyEvent _ typ n k.keyId (by decide)
  have hkeys : KeysOnly s v := hv ▸ (KeysOnly.setSlot s _ _ _).trans (KeysOnly.keyEvent _ _ _ _ _)
  refine ⟨?_, ?_, fun i hn hm' => ?_, ?_, raises_keyEvent _ _ _ _ (by decide), sameMemory_of_mem (KeysOnly.mem ?_)⟩
  · rw [State.slot_keyEvent, State.slot_setSlot_other _ _ _ hm.symm, State.slot_setSlot_same]
  · rw [State.slot_keyEvent, State.slot_setSlot_same]
  · rw [State.slot_keyEvent, State.slot_setSlot_other _ _ _ hm', State.slot_setSlot_other _ _ _ hn, hslot i hn]
  · exact Raises.keyEvent _ _ _ _ (Raises.of_regs ((State.setSlot_regs ..).trans (State.setSlot_regs ..)) hraised)
  · exact ((hkeys.trans (KeysOnly.setSlot _ _ _ _)).trans (KeysOnly.setSlot _ _ _ _)).trans (KeysOnly.keyEvent _ _ _ _ _)

end Warn

end Sys2Proof.Machine
end

section
/-!
What a key command does at its boundary (R121, R122).
-/

namespace Sys2Proof.Machine

/-! The same field of the registers of an array, each given a value. -/

section Puts

variable (f : Fld) (v : Nat → Nat)

theorem State.reg_foldl_put_nth {n a : Nat} (s : State) (h : ∀ i < n, a ≠ (f.nth i).addr) :
    ((List.range n).foldl (fun (t : State) i => t.put (f.nth i) (v i)) s).reg a = s.reg a := by
  induction n with
  | zero => rfl
  | succ n ih =>
    rw [List.range_succ, List.foldl_concat, State.reg_put_other _ _ _ _ (h n n.lt_succ_self)]
    exact ih fun i hi => h i (Nat.lt_succ_of_lt hi)

theorem State.fld_foldl_put_nth {n i : Nat} (s : State) (hf : f.ok) (hd : ∀ j < n, ∀ l < j, (f.nth l).addr ≠ (f.nth j).addr)
    (hi : i < n) : ((List.range n).foldl (fun (t : State) i => t.put (f.nth i) (v i)) s).fld (f.nth i) =
      v i % 2 ^ (f.hi - f.lo + 1) := by
  induction n with
  | zero => cases hi
  | succ n ih =>
    rw [List.range_succ, List.foldl_concat]
    rcases Nat.lt_or_eq_of_le (Nat.le_of_lt_succ hi) with hi | rfl
    · rw [State.fld_eq_of_reg (State.reg_put_other _ _ _ _ (hd n n.lt_succ_self i hi))]
      exact ih (fun j hj => hd j (Nat.lt_succ_of_lt hj)) hi
    · exact State.fld_put_same _ _ _ (Fld.nth_ok hf)

theorem State.foldl_put_unrecorded (s : State) (l : List Nat) :
    (l.foldl (fun (t : State) i => t.put (f.nth i) (v i)) s).unrecorded = s.unrecorded := by
  induction l generalizing s with
  | nil => rfl
  | cons i l ih => rw [List.foldl_cons, ih, State.put_unrecorded]

end Puts

/-! The end of a key command (R122). -/

theorem keyData_ok : F.CIP.KEY_DATA.DATA.ok ∧ F.CIP.KEY_DATA.DATA.hi - F.CIP.KEY_DATA.DATA.lo + 1 = 64 := by decide
theorem keyData_apart : ∀ j < 16, ∀ l < j, (F.CIP.KEY_DATA.DATA.nth l).addr ≠ (F.CIP.KEY_DATA.DATA.nth j).addr := by decide
theorem keyStatus_not_keyData : ∀ i < 16, F.CIP.KEY_STATUS.BUSY.addr ≠ (F.CIP.KEY_DATA.DATA.nth i).addr := by decide
theorem keyData_not_event : ∀ i < 16, (F.CIP.KEY_DATA.DATA.nth i).addr ∉ eventRegs Src.CIP := by decide
theorem keyStatus_not_event : F.CIP.KEY_STATUS.BUSY.addr ∉ eventRegs Src.CIP := by decide

/-- A bit that is raised reads 1 as a field of its EVENT register. -/
theorem Raises.flag {t : State} {src bit d : Nat} (h : Raises t src bit) : t.flag ⟨eventAddr src, d, bit, bit⟩ = true := by
  rw [Raises, State.getLsbD_reg _ _ d] at h
  exact beq_iff_eq.mpr (of_decide_eq_true h)

section End

variable (s : State) (result : Nat) (data : List Byte)

/-- The state as a command ends, before its event. -/
def State.keyResultShown : State :=
  ((s.put F.CIP.KEY_STATUS.BUSY 0).put F.CIP.KEY_STATUS.RESULT result).setKeyData data

theorem State.endKeyCommand_eq : s.endKeyCommand result data = (s.keyResultShown result data).event Src.CIP 3 0 result := by rfl

theorem State.keyResultShown_unrecorded : (s.keyResultShown result data).unrecorded = s.unrecorded := by
  rw [State.keyResultShown, State.setKeyData, State.foldl_put_unrecorded, State.put_unrecorded, State.put_unrecorded]

theorem State.endKeyCommand_unrecorded : (s.endKeyCommand result data).unrecorded = s.unrecorded := by
  rw [State.endKeyCommand_eq, State.event_unrecorded, State.keyResultShown_unrecorded]

theorem State.endKeyCommand_cip : (s.endKeyCommand result data).cip = s.cip := by
  have h := congrArg State.cip (s.endKeyCommand_unrecorded result data)
  exact h

theorem State.endKeyCommand_mem : (s.endKeyCommand result data).mem = s.mem :=
  State.mem_of_unrecorded (s.endKeyCommand_unrecorded result data)

theorem State.endKeyCommand_status {f : Fld} (hf : f.addr = F.CIP.KEY_STATUS.BUSY.addr) : (s.endKeyCommand result data).fld f =
    ((s.put F.CIP.KEY_STATUS.BUSY 0).put F.CIP.KEY_STATUS.RESULT result).fld f := by
  rw [State.endKeyCommand_eq, State.fld_eq_of_reg (State.event_reg _ _ _ _ _ _ _ (hf ▸ keyStatus_not_event)),
    State.keyResultShown, State.setKeyData,
    State.fld_eq_of_reg (State.reg_foldl_put_nth _ _ _ fun i hi => hf ▸ keyStatus_not_keyData i hi)]

theorem State.endKeyCommand_result (h : result < 2 ^ 4) : (s.endKeyCommand result data).fld F.CIP.KEY_STATUS.RESULT = result := by
  rw [State.endKeyCommand_status _ _ _ (by decide), State.fld_put_width _ _ _ 4 (by decide) (by rfl), Nat.mod_eq_of_lt h]

theorem State.endKeyCommand_busy : (s.endKeyCommand result data).flag F.CIP.KEY_STATUS.BUSY = false := by
  rw [State.flag, State.endKeyCommand_status _ _ _ (by decide), State.fld_put_other _ _ _ _ (by decide) (by decide) (by decide),
    State.fld_put_width _ _ _ 1 (by decide) (by rfl)]
  rfl

theorem State.endKeyCommand_done : (s.endKeyCommand result data).flag F.CIP.EVENT.KEY_CMD_DONE = true := by
  have h : Raises (s.endKeyCommand result data) Src.CIP 3 := by
    rw [State.endKeyCommand_eq, State.event]
    exact Raises.record _ _ _ _ _ _ (raises_setEventBit _ Src.CIP (by decide)) cipEvent_not_mem_recordRegs
  have ha : F.CIP.EVENT.KEY_CMD_DONE = ⟨eventAddr Src.CIP, 0, 3, 3⟩ := by decide
  rw [ha]
  exact Raises.flag h

theorem State.endKeyCommand_data {i : Nat} (hi : i < 16) : (s.endKeyCommand result data).fld (F.CIP.KEY_DATA.DATA.nth i) =
    leNat ((data.drop (8 * i)).take 8) % 2 ^ 64 := by
  rw [State.endKeyCommand_eq, State.fld_eq_of_reg (State.event_reg _ _ _ _ _ _ _ (keyData_not_event i hi)), State.keyResultShown,
    State.setKeyData, State.fld_foldl_put_nth _ _ _ keyData_ok.1 keyData_apart hi, keyData_ok.2]

end End

/-! The arguments of a command (R122). -/

/-- A word of KEY_ARG0 taken apart: KEY_ID, OTHER, TYPE and SLOT, with its reserved bits 0. -/
structure KeyArg (a0 : Word) (id other typ n : Nat) : Prop where
  idField : bits a0.toNat 63 32 = id
  otherField : bits a0.toNat 27 16 = other
  typeField : bits a0.toNat 13 12 = typ
  slotField : bits a0.toNat 11 0 = n
  reserved : bits a0.toNat 31 28 = 0 ∧ bits a0.toNat 15 14 = 0
  inRange : n < slotCount typ

theorem keyArg_of_sum {a0 : Word} {id other typ n : Nat} (h : a0.toNat = id * 2 ^ 32 + other * 2 ^ 16 + typ * 2 ^ 12 + n)
    (ho : other < 2 ^ 12) (ht : typ < 2 ^ 2) (hn : n < 2 ^ 12) (hr : n < slotCount typ) : KeyArg a0 id other typ n := by
  have hlt := a0.isLt
  have hid : id < 2 ^ 32 := by omega
  refine ⟨?_, ?_, ?_, ?_, ⟨?_, ?_⟩, hr⟩ <;> simp only [bits, Nat.shiftRight_eq_div_pow, h] <;> omega

theorem bits_reserved_arg1 {a1 : Word} (h : a1.toNat < 2 ^ 48) : bits a1.toNat 63 48 = 0 := by
  simp only [bits, Nat.shiftRight_eq_div_pow]
  omega

/-! What each command does. -/

/-- The command waiting has been taken. -/
def State.keyTaken (s : State) : State := { s with cip := { s.cip with pending := none } }

section Commands

variable {s : State} {a0 a1 : Word} {id other n : Nat} {k : KeySlot} (h1 : a1.toNat < 2 ^ 48)
include h1

theorem State.runKeyCommand_loadPlain (hp : s.cip.pending = some ⟨3, a0, a1⟩) (ha : KeyArg a0 id other 1 n) (hs : s.slot 1 n = none)
    (hl : limitOk (bits a1.toNat 31 0) = true) (hb : s.badId 1 id = false) : s.runKeyCommand =
      (s.keyTaken.setSlot 1 n (newSlot id (bits a1.toNat 31 0) (bits a1.toNat 47 32) (s.keyData.take 32) true)).endKeyCommand 0 [] := by
  have hs' : s.keyTaken.slot 1 n = none := hs
  have hb' : s.keyTaken.badId 1 id = false := hb
  unfold State.runKeyCommand
  simp only [hp, ha.typeField, ha.slotField, ha.idField, ha.reserved, bits_reserved_arg1 h1]
  rw [if_neg (by simp [ha.inRange])]
  simp only [State.keyTaken] at hs' hb' ⊢
  simp only [hs', hl, hb']
  rfl

theorem State.runKeyCommand_setSuccSelf (hp : s.cip.pending = some ⟨4, a0, a1⟩) (ha : KeyArg a0 id n 0 n) (hs : s.slot 0 n = some k) :
    s.runKeyCommand = (s.keyTaken.setSlot 0 n { k with succ := none }).endKeyCommand 0 [] := by
  have hs' : s.keyTaken.slot 0 n = some k := hs
  unfold State.runKeyCommand
  simp only [hp, ha.typeField, ha.slotField, ha.otherField, ha.reserved, bits_reserved_arg1 h1]
  rw [if_neg (by simp [ha.inRange])]
  simp only [State.keyTaken] at hs' ⊢
  simp only [hs']
  rw [if_neg (Nat.not_le.mpr ha.inRange), if_pos trivial]

theorem State.runKeyCommand_rotateIdle (hp : s.cip.pending = some ⟨5, a0, a1⟩) (ha : KeyArg a0 id other 0 n) (hs : s.slot 0 n = some k)
    (hk : k.state ≠ .active) : s.runKeyCommand = s.keyTaken.endKeyCommand 2 [] := by
  have hs' : s.keyTaken.slot 0 n = some k := hs
  unfold State.runKeyCommand
  simp only [hp, ha.typeField, ha.slotField, ha.reserved, bits_reserved_arg1 h1]
  rw [if_neg (by simp [ha.inRange])]
  simp only [State.keyTaken] at hs' ⊢
  simp only [hs']
  rw [if_pos hk]

theorem State.runKeyCommand_destroy (hp : s.cip.pending = some ⟨7, a0, a1⟩) (ha : KeyArg a0 id other 0 n) (hs : s.slot 0 n = some k) :
    s.runKeyCommand = (s.keyTaken.setSlots 0 (Tab.erase s.cip.data n)).endKeyCommand 0 [] := by
  have hs' : s.keyTaken.slot 0 n = some k := hs
  unfold State.runKeyCommand
  simp only [hp, ha.typeField, ha.slotField, ha.reserved, bits_reserved_arg1 h1]
  rw [if_neg (by simp [ha.inRange])]
  simp only [State.keyTaken] at hs' ⊢
  simp only [hs']
  rw [if_neg (by simp)]
  rfl

end Commands

/-! The statement's rows. -/

section Rows

variable {s : State} {a0 a1 : Word} {n : Nat} {k : KeySlot} (h1 : a1.toNat < 2 ^ 48)
include h1

theorem loadPlain_row (hp : s.cip.pending = some ⟨3, a0, a1⟩) (hn : n < slotCount 1)
    (h0 : a0.toNat = bits a0.toNat 63 32 * 2 ^ 32 + bits a0.toNat 27 16 * 2 ^ 16 + 0x1000 + n) (hs : s.slot 1 n = none)
    (hl : limitOk (bits a1.toNat 31 0) = true) (hb : s.badId 1 (bits a0.toNat 63 32) = false) :
    let t := s.runKeyCommand
    t.cip.transport = Tab.insert s.cip.transport n (newSlot (bits a0.toNat 63 32) (bits a1.toNat 31 0)
      (bits a1.toNat 47 32) (s.keyData.take 32) true) ∧
    t.cip.data = s.cip.data ∧ t.cip.digest = s.cip.digest ∧ t.cip.pending = none ∧
    t.fld F.CIP.KEY_STATUS.RESULT = 0 ∧ t.flag F.CIP.KEY_STATUS.BUSY = false ∧
    (∀ i, i < 16 → t.fld (F.CIP.KEY_DATA.DATA.nth i) = 0) ∧ t.flag F.CIP.EVENT.KEY_CMD_DONE = true ∧ SameMemory s t := by
  have ha : KeyArg a0 (bits a0.toNat 63 32) (bits a0.toNat 27 16) 1 n :=
    keyArg_of_sum (h0.trans (by omega)) (Nat.mod_lt _ (by decide)) (by decide) (Nat.lt_trans hn (by decide)) hn
  rw [State.runKeyCommand_loadPlain h1 hp ha hs hl hb]
  dsimp only
  rw [State.endKeyCommand_cip]
  refine ⟨rfl, rfl, rfl, rfl, State.endKeyCommand_result _ _ _ (by decide), State.endKeyCommand_busy _ _ _, fun i hi => ?_,
    State.endKeyCommand_done _ _ _,
    sameMemory_of_mem ((State.endKeyCommand_mem ..).trans (KeysOnly.mem (KeysOnly.setSlots _ _ _)))⟩
  rw [State.endKeyCommand_data _ _ _ hi, List.drop_nil]
  rfl

theorem setSuccSelf_row (hp : s.cip.pending = some ⟨4, a0, a1⟩) (hn : n < slotCount 0) (h0 : a0.toNat = n * 2 ^ 16 + n)
    (hs : s.slot 0 n = some k) : let t := s.runKeyCommand
    t.cip.data = Tab.insert s.cip.data n { k with succ := none } ∧ t.fld F.CIP.KEY_STATUS.RESULT = 0 ∧
    t.flag F.CIP.KEY_STATUS.BUSY = false := by
  have ha : KeyArg a0 0 n 0 n := keyArg_of_sum (h0.trans (by omega)) hn (by decide) hn hn
  rw [State.runKeyCommand_setSuccSelf h1 hp ha hs]
  refine ⟨?_, State.endKeyCommand_result _ _ _ (by decide), State.endKeyCommand_busy _ _ _⟩
  rw [State.endKeyCommand_cip]
  rfl

theorem destroy_row (hp : s.cip.pending = some ⟨7, a0, a1⟩) (hn : n < slotCount 0) (h0 : a0.toNat = n) (hs : s.slot 0 n = some k) :
    let t := s.runKeyCommand
    t.slot 0 n = none ∧ (∀ m, m ≠ n → t.slot 0 m = s.slot 0 m) ∧ t.cip.transport = s.cip.transport ∧
    t.fld F.CIP.KEY_STATUS.RESULT = 0 ∧ t.flag F.CIP.KEY_STATUS.BUSY = false ∧ SameMemory s t := by
  have ha : KeyArg a0 0 0 0 n := keyArg_of_sum (h0.trans (by omega)) (by decide) (by decide) hn hn
  rw [State.runKeyCommand_destroy h1 hp ha hs]
  have hslot (m : Nat) : ((s.keyTaken.setSlots 0 (Tab.erase s.cip.data n)).endKeyCommand 0 []).slot 0 m =
      if m = n then none else s.slot 0 m := by
    rw [State.slot_of_cip (State.endKeyCommand_cip ..)]
    exact Tab.find_erase s.cip.data n m
  refine ⟨(hslot n).trans (if_pos rfl), fun m hm => (hslot m).trans (if_neg hm), ?_, State.endKeyCommand_result _ _ _ (by decide),
    State.endKeyCommand_busy _ _ _,
    sameMemory_of_mem ((State.endKeyCommand_mem ..).trans (KeysOnly.mem (KeysOnly.setSlots _ _ _)))⟩
  rw [State.endKeyCommand_cip]
  rfl

theorem rotateIdle_row (hp : s.cip.pending = some ⟨5, a0, a1⟩) (hn : n < slotCount 0) (h0 : a0.toNat = n) (hs : s.slot 0 n = some k)
    (hk : k.state ≠ .active) : let t := s.runKeyCommand
    t.cip = { s.cip with pending := none } ∧ t.fld F.CIP.KEY_STATUS.RESULT = 2 ∧ t.flag F.CIP.KEY_STATUS.BUSY = false := by
  have ha : KeyArg a0 0 0 0 n := keyArg_of_sum (h0.trans (by omega)) (by decide) (by decide) hn hn
  rw [State.runKeyCommand_rotateIdle h1 hp ha hs hk]
  exact ⟨State.endKeyCommand_cip _ _ _, State.endKeyCommand_result _ _ _ (by decide), State.endKeyCommand_busy _ _ _⟩

end Rows

end Sys2Proof.Machine

open Sys2Proof Sys2Proof.Machine

/-- Settles O16: what each command's checks lead to, and what the end of a command shows. -/
theorem keyCommandsAtTheirBoundary : Obligations.KeyCommandsAtTheirBoundary :=
  ⟨fun _ _ _ _ hp hn h0 h1 hs hl hb => loadPlain_row h1 hp hn h0 hs hl hb, fun _ _ _ _ _ hp hn h0 h1 hs => setSuccSelf_row h1 hp hn h0 hs,
    fun _ _ _ _ _ hp hn h0 h1 hs => destroy_row h1 hp hn h0 hs, fun _ _ _ _ _ hp hn h0 h1 hs hk => rotateIdle_row h1 hp hn h0 hs hk,
    fun _ _ _ _ _ _ _ hk ha hw hu hs hm => State.checkWarn_row hk ha hw hu hs hm⟩
end

section
/-!
The usage of keys: reservations, restored counters and the initialisation vector (R124 to R126, R134).
-/

namespace Sys2Proof.Machine

/-! A record formed for one side (R169, R376). -/

theorem State.formRecord_unrecorded (s : State) (items : List JItem) (c : Option Nat) (p : Bool) :
    (s.formRecord items c p).unrecorded = { s with ftl := (s.formRecord items c p).ftl }.unrecorded := by
  unfold State.formRecord
  dsimp only
  rw [State.count_unrecorded, State.count_ftl]

/-- The record formed stands last in the journal. -/
theorem State.formRecord_ftl (s : State) (items : List JItem) (c : Option Nat) (p : Bool) : ∃ r : JRec, r.items = items ∧
    (s.formRecord items c p).ftl = { s.ftl with
      journal := s.ftl.journal ++ [r], jseq := s.ftl.jseq + 1, sinceCkpt := s.ftl.sinceCkpt + recordBytes items } := by
  refine ⟨_, ?_, State.count_ftl ..⟩
  rfl

theorem State.formRecord_reg (s : State) (items : List JItem) (c : Option Nat) (p : Bool) {a : Nat}
    (h : a ≠ (F.FTL.STAT.COUNT.nth 12).addr) : (s.formRecord items c p).reg a = s.reg a := by
  unfold State.formRecord
  exact (State.count_reg _ _ _ _ _ h).trans (State.reg_congr (Eq.refl _) a)

theorem State.formRecord_cip (s : State) (items : List JItem) (c : Option Nat) (p : Bool) : (s.formRecord items c p).cip = s.cip := by
  have h := congrArg State.cip (s.formRecord_unrecorded items c p)
  exact h

theorem State.formRecord_mem (s : State) (items : List JItem) (c : Option Nat) (p : Bool) : (s.formRecord items c p).mem = s.mem := by
  have h := congrArg State.mem (s.formRecord_unrecorded items c p)
  exact h

theorem State.formRecord_other (s : State) (items : List JItem) (c : Option Nat) (p : Bool) : (s.formRecord items c p).other = s.other := by
  have h := congrArg State.other (s.formRecord_unrecorded items c p)
  exact h

theorem State.formRecord_rdn (s : State) (items : List JItem) (c : Option Nat) (p : Bool) : (s.formRecord items c p).rdn = s.rdn := by
  have h := congrArg State.rdn (s.formRecord_unrecorded items c p)
  exact h

theorem State.swapSides_cip (s : State) : s.swapSides.cip = s.cip := by unfold State.swapSides; split <;> rfl

/-- Work of the other side, while the head keeps it. -/
theorem State.onSide_other {s : State} {k : Nat} {g : Ftl} {r : Rdn} (f : State → State) (h : s.ftl.side ≠ k)
    (ho : s.other = some (g, r)) (hg : g.side = k) : s.onSide k f = (f s.swapSides).swapSides := by
  unfold State.onSide
  rw [if_neg h, ho]
  exact if_pos hg

/-- The sides after work on the other one: the home side's tables as they were. -/
theorem State.swapSides_worked {s u : State} {g : Ftl} {r : Rdn} (ho : s.other = some (g, r)) (hu : u.other = s.swapSides.other) :
    u.swapSides.ftl = s.ftl ∧ u.swapSides.rdn = s.rdn ∧ u.swapSides.other = some (u.ftl, u.rdn) := by
  have hu : u.other = some (s.ftl, s.rdn) := hu.trans (by simp only [State.swapSides, ho])
  simp only [State.swapSides, hu, and_self]

/-- A record with the items stands in the journal of a side. -/
def Ftl.Journalled (f : Ftl) (items : List JItem) : Prop := ∃ j ∈ f.journal, j.items = items

theorem State.formRecord_journalled (s : State) (items : List JItem) (c : Option Nat) (p : Bool) :
    (s.formRecord items c p).ftl.Journalled items := by
  obtain ⟨r, hr, hf⟩ := s.formRecord_ftl items c p
  exact ⟨r, by rw [hf]; exact List.mem_append_right _ List.mem_cons_self, hr⟩

/-- A record formed for a side stands in the journal of that side, and the other side is as it was. -/
theorem State.onSide_formRecord (s : State) (k : Nat) (items : List JItem) : let t := s.onSide k (fun u => u.formRecord items none true)
    (s.ftl.side = k → t.ftl.Journalled items ∧ t.other = s.other) ∧
    (∀ f r, s.ftl.side ≠ k → s.other = some (f, r) → f.side = k →
      t.ftl = s.ftl ∧ t.rdn = s.rdn ∧ ∃ g, t.other = some (g, r) ∧ g.Journalled items) ∧ t.cip = s.cip ∧ t.mem = s.mem := by
  refine ⟨fun hs => ?_, fun f r hs ho hf => ?_, State.onSide_keeps State.cip State.swapSides_cip (fun u => u.formRecord_cip ..) s k,
    State.onSide_keeps State.mem State.swapSides_mem (fun u => u.formRecord_mem ..) s k⟩
  · rw [State.onSide_home _ hs.symm]
    exact ⟨State.formRecord_journalled .., State.formRecord_other ..⟩
  · rw [State.onSide_other _ hs ho hf]
    obtain ⟨h1, h2, h3⟩ := State.swapSides_worked ho (u := s.swapSides.formRecord items none true) (State.formRecord_other ..)
    have hr : (s.swapSides.formRecord items none true).rdn = r := by
      rw [State.formRecord_rdn]
      simp only [State.swapSides, ho]
    exact ⟨h1, h2, _, hr ▸ h3, State.formRecord_journalled ..⟩

/-! KEY_RESERVE (R125). -/

/-- A key that reserves a further block: its values run low, and some are left below LIMIT. -/
structure State.Reserves (s : State) (n : Nat) (k : KeySlot) : Prop where
  slot : s.slot 0 n = some k
  valid : k.usageValid = true
  live : k.state ≠ .exhausted
  holds : s.holdsSide = true
  low : k.resOwn * 2 ^ 20 ≤ k.next + 2 ^ 19
  left : k.usedBlocks 0 < k.limit

/-- The side in whose journal a reservation is recorded. -/
def State.reserveSide (s : State) : Nat := if s.wit.own.testBit s.tck.headSlot then s.tck.headSlot else 1 - s.tck.headSlot

/-- A slot with one block more reserved. -/
def KeySlot.reserved (k : KeySlot) : KeySlot := { k with resOwn := k.resOwn + 1 }

theorem execKeyReserve_nothing {s : State} {n : Nat} (h : ∀ k, ¬ s.Reserves n k) : exec (.keyReserve n) s = .next s := by
  show Host.Outcome.next (s.reserve n) = _
  unfold State.reserve
  split
  · rfl
  · next k hk =>
    rw [if_neg]
    rintro ⟨hv, hl, hs, hn, hu⟩
    exact h k ⟨hk, hv, hl, hs, hn, hu⟩

section Reserve

variable {s : State} {n : Nat} {k : KeySlot} (h : s.Reserves n k)
include h

theorem execKeyReserve_reserves : exec (.keyReserve n) s =
    .next ((s.setSlot 0 n k.reserved).onSide s.reserveSide
      (fun t => t.formRecord [.keyres k.keyId (k.resOwn + 1) s.tck.headSlot] none true)) := by
  show Host.Outcome.next (s.reserve n) = _
  unfold State.reserve
  simp only [h.slot]
  rw [if_pos ⟨h.valid, h.live, h.holds, h.low, h.left⟩]
  rfl

theorem keyReserve_row : Runs (.keyReserve n) s fun t =>
    (∃ x, t.slot 0 n = some x ∧ x.resOwn = k.resOwn + 1 ∧ x.next = k.next ∧ x.keyId = k.keyId ∧ x.durable = k.durable) ∧
    (s.ftl.side = s.reserveSide → t.ftl.Journalled [.keyres k.keyId (k.resOwn + 1) s.tck.headSlot] ∧ t.other = s.other) ∧
    (∀ f r, s.ftl.side ≠ s.reserveSide → s.other = some (f, r) → f.side = s.reserveSide →
      t.ftl = s.ftl ∧ t.rdn = s.rdn ∧ ∃ g, t.other = some (g, r) ∧ g.Journalled [.keyres k.keyId (k.resOwn + 1) s.tck.headSlot]) ∧
    (∀ m, m ≠ n → t.slot 0 m = s.slot 0 m) ∧ SameMemory s t := by
  obtain ⟨hhome, hother, hcip, hmem⟩ := (s.setSlot 0 n k.reserved).onSide_formRecord s.reserveSide
    [.keyres k.keyId (k.resOwn + 1) s.tck.headSlot]
  exact ⟨_, execKeyReserve_reserves h,
    ⟨k.reserved, (State.slot_of_cip hcip 0 n).trans (s.slot_setSlot_same 0 n _), Eq.refl _, Eq.refl _, Eq.refl _, Eq.refl _⟩, hhome, hother,
    fun m hm => (State.slot_of_cip hcip 0 m).trans (s.slot_setSlot_other 0 _ hm), sameMemory_of_mem hmem⟩

end Reserve

/-! KEY_USAGE_RESTORE (R126). -/

/-- A slot with its usage restored: NEXT at the end of the blocks reserved. -/
def KeySlot.restored (k : KeySlot) (own peer : Nat) : KeySlot :=
  { k with resOwn := own, resPeer := peer, durable := own, next := own * 2 ^ 20, usageValid := true }

/-- The slot with the counters that the journals and the slot itself give (R126). -/
def State.restoredSlot (s : State) (k : KeySlot) : KeySlot :=
  k.restored (max k.resOwn (s.highestRes k.keyId s.tck.headSlot)) (max k.resPeer (s.highestRes k.keyId (1 - s.tck.headSlot)))

theorem State.restoreFromJournals_none {s : State} {n : Nat} (h : s.slot 0 n = none) : s.restoreFromJournals n = s := by
  simp only [State.restoreFromJournals, h]

theorem State.restoreFromJournals_some {s : State} {n : Nat} {k : KeySlot} (h : s.slot 0 n = some k) :
    s.restoreFromJournals n = (s.setSlot 0 n (s.restoredSlot k)).checkSpent 0 n := by
  simp only [State.restoreFromJournals, State.restoreUsage, h]
  rfl

theorem KeysOnly.restoreFromJournals (s : State) (n : Nat) : KeysOnly s (s.restoreFromJournals n) := by
  cases h : s.slot 0 n with
  | none => rw [State.restoreFromJournals_none h]; exact KeysOnly.refl s
  | some k => rw [State.restoreFromJournals_some h]; exact (KeysOnly.setSlot s _ _ _).trans (KeysOnly.checkSpent _ _ _)

theorem keyUsageRestore_row {s : State} {n : Nat} {k : KeySlot} (h : s.slot 0 n = some k) (hv : k.usageValid = false)
    (hg : s.granted Cls.mapWork = true) : Runs (.keyUsageRestore n) s fun t =>
    (∃ x, t.slot 0 n = some x ∧ x.usageValid = true ∧ x.resOwn = max k.resOwn (s.highestRes k.keyId s.tck.headSlot) ∧
      x.resPeer = max k.resPeer (s.highestRes k.keyId (1 - s.tck.headSlot)) ∧ x.durable = x.resOwn ∧
      x.next = x.resOwn * 2 ^ 20 ∧ x.key = k.key) ∧ (∀ m, m ≠ n → t.slot 0 m = s.slot 0 m) ∧ SameMemory s t := by
  have ht : exec (.keyUsageRestore n) s = .next (s.spendMeta.restoreFromJournals n) := by
    show execKeyUsageRestore n s = _
    rw [execKeyUsageRestore, if_pos ⟨hg, by rw [h, Option.any_some, hv]; rfl⟩]
  refine ⟨_, ht, ?_, fun m hm => ?_, sameMemory_of_mem (KeysOnly.restoreFromJournals s.spendMeta n).mem⟩
  · obtain ⟨st, hst⟩ := State.checkSpent_slot (s.spendMeta.slot_setSlot_same 0 n (s.restoredSlot k))
    rw [State.restoreFromJournals_some (s := s.spendMeta) h]
    exact ⟨_, hst, rfl, rfl, rfl, rfl, rfl, rfl⟩
  · rw [State.restoreFromJournals_some (s := s.spendMeta) h, State.checkSpent_slot_other _ _ hm, State.slot_setSlot_other _ _ _ hm]
    rfl

theorem execKeyUsageRestore_ungranted {s : State} (n : Nat) (hg : s.granted Cls.mapWork = false) :
    exec (.keyUsageRestore n) s = .next s := by
  show execKeyUsageRestore n s = _
  rw [execKeyUsageRestore, if_neg]
  rintro ⟨h, -⟩
  exact Bool.noConfusion (hg.symm.trans h)

/-! The initialisation vector (R134). -/

theorem leBytes_length (n v : Nat) : (leBytes n v).length = n := by
  induction n generalizing v with
  | zero => rfl
  | succ n ih => exact congrArg (· + 1) (ih _)

theorem ivOf_length (domain origin sender counter : Nat) : (ivOf domain origin sender counter).length = 12 := by
  simp only [ivOf, List.length_append, leBytes_length]

end Sys2Proof.Machine

open Sys2Proof Sys2Proof.Machine

/-- Settles O17: what reserves and what does not, the counters restored, and the bytes of an IV. -/
theorem keyUsageIsReservedAndRestored : Obligations.KeyUsageIsReservedAndRestored := by
  refine ⟨fun s n k hk hv hl hs hn hu => keyReserve_row ⟨hk, hv, hl, hs, hn, hu⟩, fun s n h => execKeyReserve_nothing fun k hr => ?_,
    fun s n k hk hv hg => keyUsageRestore_row hk hv hg, fun s n hg => execKeyUsageRestore_ungranted n hg,
    fun d o x c => ⟨rfl, ivOf_length d o x c⟩⟩
  obtain ⟨hk, hv, hl, hs, hn, hu⟩ := hr
  rcases h k hk with h | h | h | h | h
  · exact Bool.noConfusion (h.symm.trans hv)
  · exact hl h
  · exact Bool.noConfusion (h.symm.trans hs)
  · omega
  · omega
end

section
/-!
Snapshots: the commands of FTL.SNAP_CMD, their execution at the boundary, and the sweep of what no snapshot sees (R164 to R167).
-/

namespace Sys2Proof.Machine

/-! FTL.SNAP_CMD. -/

def ftlSnapCmd : RegSpec := ⟨0x170, 0x0, 1, [⟨1, 0, .wo, (k 0), false, [(1, 2)]⟩]⟩

/-- The side on which a snapshot command waits: that of its namespace, the home side where the namespace is unknown. -/
def State.snapSide (s : State) : Nat :=
  match Tab.find s.cmf.ns (s.fld F.FTL.SNAP_ARG.NSID) with
  | some n => s.vsetSide n.vset
  | none => s.ftl.side

def State.awaitSnap (op : Nat) (t : State) : State := { t with ftl := { t.ftl with snapCmd := some op } }

def snapBegun (_ : Req) (v : Nat) (_ : Bool) (s : State) : State := s.onSide s.snapSide (State.awaitSnap (wfld v F.FTL.SNAP_CMD.OP))

/-- A command waits on a side whatever the registers hold. -/
theorem State.onSide_awaitSnap_regs (s : State) (k op : Nat) (m : Tab Word) :
    ({ s with regs := m } : State).onSide k (State.awaitSnap op) = { s.onSide k (State.awaitSnap op) with regs := m } := by
  by_cases hk : s.ftl.side = k
  · simp only [State.onSide, if_pos hk, State.awaitSnap]
  · cases ho : s.other with
    | none => simp only [State.onSide, if_neg hk, ho, State.awaitSnap]
    | some p => by_cases hg : p.1.side = k <;> simp [State.onSide, hk, hg, ho, State.awaitSnap, State.swapSides]

theorem State.snapSide_setReg_self (s : State) (a : Nat) : (s.setReg a (s.reg a)).snapSide = s.snapSide := by
  have hf (f : Fld) : (s.setReg a (s.reg a)).fld f = s.fld f := State.fld_eq_of_reg (s.reg_setReg_self a _)
  simp only [State.snapSide, State.vsetSide, hf]
  rfl

theorem commandReg_ftlSnapCmd : CommandReg F.FTL.SNAP_CMD.OP.addr Src.FTL ftlSnapCmd F.FTL.SNAP_STATUS.BUSY snapBegun where
  aligned := by decide
  spec := by rfl
  block := by decide
  busyBlock := by decide
  busyBit := by decide
  busyApart := by decide
  writeOnly := by decide
  free s v f hf := by
    rw [List.mem_singleton.mp hf]
    exact ⟨by rfl, by rfl, by rfl⟩
  accepts s v := Eq.trans (by rfl) (accepts_of_busy (s.flag F.FTL.SNAP_STATUS.BUSY))
  undelayed s v := by rfl
  starts s r v was ok := by rfl
  rewritten s r v ok := by
    rw [snapBegun, State.snapSide_setReg_self]
    exact State.onSide_awaitSnap_regs s _ _ _

/-- A snapshot command (R164) waits on the side of its namespace. -/
theorem snapCommand {op : Nat} {c : Req → Instr} (h : 1 ≤ op ∧ op ≤ 2)
    (hc : ∀ r s, exec (c r) s = .next (s.busWrite r F.FTL.SNAP_CMD.OP.addr 8 (fieldWord F.FTL.SNAP_CMD.OP op) true)) :
    StartsCommand FromCore F.FTL.SNAP_STATUS.BUSY c (fun _ s => s.onSide s.snapSide (State.awaitSnap op)) ∧
    DiscardedWhileBusy FromCore F.FTL.SNAP_STATUS.BUSY c := by
  have hop : bits (fieldWord F.FTL.SNAP_CMD.OP op).toNat 1 0 = op :=
    (bits_fieldWord_same F.FTL.SNAP_CMD.OP op (by decide)).trans (Nat.mod_eq_of_lt (Nat.lt_of_le_of_lt h.2 (by decide)))
  refine commandReg_ftlSnapCmd.command (reached_fromCore commandReg_ftlSnapCmd.spec) (fun f hf => ?_) hc (fun r s => ?_)
  · obtain rfl := List.mem_singleton.mp hf
    exact legalVal_range (Eq.refl _) (hop.symm ▸ h)
  · rw [snapBegun, show wfld _ F.FTL.SNAP_CMD.OP = op from hop]

/-! The command at its boundary (R164, R167). -/

/-- The namespace that a snapshot command names, and the epoch that a DELETE names. -/
abbrev State.snapNsid (s : State) : Nat := s.fld F.FTL.SNAP_ARG.NSID
abbrev State.snapMe (s : State) : Nat := s.fld F.FTL.SNAP_ARG.ME

/-- The command has been taken: BUSY reads 0. -/
def State.snapTaken (s : State) : State := ({ s with ftl := { s.ftl with snapCmd := none } } : State).put F.FTL.SNAP_STATUS.BUSY 0

/-- A snapshot begun: the map epoch of the namespace is the snapshot's, and the next one begins. -/
def State.snapCreated (s : State) (n : NsEpoch) : State :=
  (s.snapTaken.setTables { s.ftl.tables with
    epochs := Tab.insert s.ftl.tables.epochs s.snapNsid ⟨n.me + 1, n.snaps ++ [n.me]⟩ }).formRecord [.snap s.snapNsid n.me 1] none true

/-- A snapshot removed, and its sweep begun. -/
def State.snapDeleted (s : State) (n : NsEpoch) : State :=
  let t := s.snapTaken.setTables { s.ftl.tables with
    epochs := Tab.insert s.ftl.tables.epochs s.snapNsid { n with snaps := n.snaps.erase s.snapMe } }
  ({ t with ftl := { t.ftl with sweeps := t.ftl.sweeps ++ [⟨s.snapNsid, s.snapMe, false⟩] } } : State).formRecord
    [.snap s.snapNsid s.snapMe 2] none true

section Boundary

variable {s : State} {op : Nat} {n : NsEpoch}

theorem State.runSnapCommand_unknown (h : s.ftl.snapCmd = some op) (hn : Tab.find s.ftl.tables.epochs s.snapNsid = none) :
    s.runSnapCommand = s.snapTaken.put F.FTL.SNAP_STATUS.RESULT 1 := by
  simp only [State.runSnapCommand, h, State.runSnapCommand.cmfHas, hn, Option.isSome_none, Bool.and_false, Bool.not_false, if_true]
  rfl

variable (h0 : s.snapNsid ≠ 0) (hn : Tab.find s.ftl.tables.epochs s.snapNsid = some n)
include h0 hn

theorem State.snapKnown : State.runSnapCommand.cmfHas s s.snapNsid = true ∧ s.ftl.tables.epoch s.snapNsid = n :=
  ⟨by simp [State.runSnapCommand.cmfHas, h0, hn], by rw [FtlTables.epoch, Tab.getD, hn]; exact Eq.refl _⟩

theorem State.runSnapCommand_create (h : s.ftl.snapCmd = some 1) (hs : n.snaps.length < 65535) (hm : n.me < 0xFFFFFFFE) :
    s.runSnapCommand = ((s.snapCreated n).put F.FTL.SNAP_STATUS.RESULT 0).put F.FTL.SNAP_STATUS.ME n.me := by
  obtain ⟨hk, he⟩ := State.snapKnown h0 hn
  simp only [State.runSnapCommand, h, hk, he]
  rw [if_neg (by simp), if_pos trivial, if_neg (by omega)]
  rfl

theorem State.runSnapCommand_absent (h : s.ftl.snapCmd = some 2) (hm : s.snapMe ∉ n.snaps) :
    s.runSnapCommand = s.snapTaken.put F.FTL.SNAP_STATUS.RESULT 3 := by
  obtain ⟨hk, he⟩ := State.snapKnown h0 hn
  simp only [State.runSnapCommand, h, hk, he]
  rw [if_neg (by simp), if_neg (by decide), if_pos hm]
  rfl

theorem State.runSnapCommand_delete (h : s.ftl.snapCmd = some 2) (hm : s.snapMe ∈ n.snaps) :
    s.runSnapCommand = (s.snapDeleted n).put F.FTL.SNAP_STATUS.RESULT 0 := by
  obtain ⟨hk, he⟩ := State.snapKnown h0 hn
  simp only [State.runSnapCommand, h, hk, he]
  rw [if_neg (by simp), if_neg (by decide), if_neg (not_not_intro hm)]
  rfl

end Boundary

/-! What it shows and leaves. -/

theorem snapStatus_ok : F.FTL.SNAP_STATUS.BUSY.ok ∧ F.FTL.SNAP_STATUS.RESULT.ok ∧ F.FTL.SNAP_STATUS.ME.ok := by decide

theorem State.put_snapResult (u : State) {r : Nat} (h : r < 2 ^ 4) : let t := u.put F.FTL.SNAP_STATUS.RESULT r
    t.fld F.FTL.SNAP_STATUS.RESULT = r ∧ t.fld F.FTL.SNAP_STATUS.BUSY = u.fld F.FTL.SNAP_STATUS.BUSY :=
  ⟨(State.fld_put_width u _ r 4 snapStatus_ok.2.1 (Eq.refl _)).trans (Nat.mod_eq_of_lt h),
    State.fld_put_other u _ _ r snapStatus_ok.2.1 snapStatus_ok.1 (by decide)⟩

theorem State.put_snapMe (u : State) {m : Nat} (h : m < 2 ^ 32) : let t := u.put F.FTL.SNAP_STATUS.ME m
    t.fld F.FTL.SNAP_STATUS.ME = m ∧ t.fld F.FTL.SNAP_STATUS.RESULT = u.fld F.FTL.SNAP_STATUS.RESULT ∧
    t.fld F.FTL.SNAP_STATUS.BUSY = u.fld F.FTL.SNAP_STATUS.BUSY :=
  ⟨(State.fld_put_width u _ m 32 snapStatus_ok.2.2 (Eq.refl _)).trans (Nat.mod_eq_of_lt h),
    State.fld_put_other u _ _ m snapStatus_ok.2.2 snapStatus_ok.2.1 (by decide),
    State.fld_put_other u _ _ m snapStatus_ok.2.2 snapStatus_ok.1 (by decide)⟩

theorem State.snapTaken_busy (s : State) : s.snapTaken.fld F.FTL.SNAP_STATUS.BUSY = 0 :=
  State.fld_put_width _ _ 0 1 snapStatus_ok.1 (Eq.refl _)

theorem State.snapTaken_ftl (s : State) : s.snapTaken.ftl = { s.ftl with snapCmd := none } := State.put_ftl ..

theorem State.snapCreated_busy (s : State) (n : NsEpoch) : (s.snapCreated n).fld F.FTL.SNAP_STATUS.BUSY = 0 :=
  (State.fld_eq_of_reg (State.formRecord_reg _ _ _ _ (by decide))).trans s.snapTaken_busy

/-- A table's value at a key just inserted. -/
theorem Tab.getD_insert_same {α : Type} (m : Tab α) (a : Nat) (v d : α) : Tab.getD (Tab.insert m a v) a d = v := by
  rw [Tab.getD, Tab.find_insert, if_pos (Eq.refl _), Option.getD_some]

theorem State.snapCreated_tables (s : State) (n : NsEpoch) : (s.snapCreated n).ftl.tables = { s.ftl.tables with
    epochs := Tab.insert s.ftl.tables.epochs s.snapNsid ⟨n.me + 1, n.snaps ++ [n.me]⟩ } := by
  obtain ⟨r, -, hf⟩ := State.formRecord_ftl (s.snapTaken.setTables { s.ftl.tables with
    epochs := Tab.insert s.ftl.tables.epochs s.snapNsid ⟨n.me + 1, n.snaps ++ [n.me]⟩ }) [.snap s.snapNsid n.me 1] none true
  rw [State.snapCreated, hf]
  rfl

theorem State.snapCreated_journal (s : State) (n : NsEpoch) : (s.snapCreated n).ftl.journal.map JRec.items =
    s.ftl.journal.map JRec.items ++ [[.snap s.snapNsid n.me 1]] := by
  obtain ⟨r, hr, hf⟩ := State.formRecord_ftl (s.snapTaken.setTables { s.ftl.tables with
    epochs := Tab.insert s.ftl.tables.epochs s.snapNsid ⟨n.me + 1, n.snaps ++ [n.me]⟩ }) [.snap s.snapNsid n.me 1] none true
  rw [State.snapCreated, hf, List.map_append, List.map_singleton, hr]
  rfl

theorem State.snapDeleted_ftl (s : State) (n : NsEpoch) :
    (s.snapDeleted n).ftl.tables = { s.ftl.tables with
      epochs := Tab.insert s.ftl.tables.epochs s.snapNsid { n with snaps := n.snaps.erase s.snapMe } } ∧
    (s.snapDeleted n).ftl.sweeps = s.ftl.sweeps ++ [⟨s.snapNsid, s.snapMe, false⟩] := by
  rw [State.snapDeleted]
  dsimp only
  generalize hu : State.setTables _ _ = u
  obtain ⟨r, -, hf⟩ := State.formRecord_ftl ({ u with ftl := { u.ftl with sweeps := u.ftl.sweeps ++ [⟨s.snapNsid, s.snapMe, false⟩] } } : State)
    [.snap s.snapNsid s.snapMe 2] none true
  rw [hf, ← hu]
  exact ⟨Eq.refl _, Eq.refl _⟩

/-! The rows of the boundary. -/

theorem snapUnknown_row {s : State} {op : Nat} (h : s.ftl.snapCmd = some op) (hn : Tab.find s.ftl.tables.epochs s.snapNsid = none) :
    s.runSnapCommand.fld F.FTL.SNAP_STATUS.RESULT = 1 ∧ s.runSnapCommand.fld F.FTL.SNAP_STATUS.BUSY = 0 ∧
    s.runSnapCommand.ftl = { s.ftl with snapCmd := none } := by
  rw [State.runSnapCommand_unknown h hn]
  obtain ⟨hr, hb⟩ := s.snapTaken.put_snapResult (r := 1) (by decide)
  exact ⟨hr, hb.trans s.snapTaken_busy, (State.put_ftl ..).trans s.snapTaken_ftl⟩

section Known

variable {s : State} {n : NsEpoch} (h0 : s.snapNsid ≠ 0) (hn : Tab.find s.ftl.tables.epochs s.snapNsid = some n)
include h0 hn

theorem snapCreate_row (h : s.ftl.snapCmd = some 1) (hs : n.snaps.length < 65535) (hm : n.me < 0xFFFFFFFE) :
    let t := s.runSnapCommand
    t.fld F.FTL.SNAP_STATUS.RESULT = 0 ∧ t.fld F.FTL.SNAP_STATUS.BUSY = 0 ∧ t.fld F.FTL.SNAP_STATUS.ME = n.me ∧
    t.ftl.tables.epoch s.snapNsid = ⟨n.me + 1, n.snaps ++ [n.me]⟩ ∧ t.ftl.tables.map = s.ftl.tables.map ∧
    t.ftl.journal.map JRec.items = s.ftl.journal.map JRec.items ++ [[.snap s.snapNsid n.me 1]] := by
  rw [State.runSnapCommand_create h0 hn h hs hm]
  obtain ⟨hr, hb⟩ := (s.snapCreated n).put_snapResult (r := 0) (by decide)
  obtain ⟨hme, hr', hb'⟩ := ((s.snapCreated n).put F.FTL.SNAP_STATUS.RESULT 0).put_snapMe (m := n.me) (by omega)
  refine ⟨hr'.trans hr, hb'.trans (hb.trans (s.snapCreated_busy n)), hme, ?_⟩
  rw [State.put_ftl, State.put_ftl, s.snapCreated_tables, s.snapCreated_journal]
  exact ⟨Tab.getD_insert_same .., Eq.refl _, Eq.refl _⟩

theorem snapDelete_row (h : s.ftl.snapCmd = some 2) : let t := s.runSnapCommand
    (s.snapMe ∉ n.snaps → t.fld F.FTL.SNAP_STATUS.RESULT = 3 ∧ t.ftl = { s.ftl with snapCmd := none }) ∧
    (s.snapMe ∈ n.snaps → t.fld F.FTL.SNAP_STATUS.RESULT = 0 ∧
      t.ftl.tables.epoch s.snapNsid = { n with snaps := n.snaps.erase s.snapMe } ∧
      t.ftl.sweeps = s.ftl.sweeps ++ [⟨s.snapNsid, s.snapMe, false⟩]) := by
  refine ⟨fun hm => ?_, fun hm => ?_⟩
  · rw [State.runSnapCommand_absent h0 hn h hm]
    exact ⟨(State.put_snapResult _ (by decide)).1, (State.put_ftl ..).trans s.snapTaken_ftl⟩
  · rw [State.runSnapCommand_delete h0 hn h hm]
    obtain ⟨ht, hw⟩ := s.snapDeleted_ftl n
    refine ⟨(State.put_snapResult _ (by decide)).1, ?_⟩
    rw [State.put_ftl, ht, hw]
    exact ⟨Tab.getD_insert_same .., Eq.refl _⟩

end Known

/-! The sweep (R167). -/

/-- The retained entries that a sweep drops: those of its namespace that no remaining snapshot sees. -/
def SnapSweep.gone (w : SnapSweep) (t : FtlTables) (nsid : Nat) : List Retained :=
  t.retained.filter (fun r => r.nsid == nsid && (w.wholeNs || !(t.epoch nsid).sees r.entry.birth r.death))

/-- The map entries that the sweep of a deleted namespace takes too. -/
def SnapSweep.live (w : SnapSweep) (t : FtlTables) (nsid : Nat) : Tab MapEntry :=
  if w.wholeNs then t.map.filter (fun p => p.1 / 2 ^ 64 = nsid) else []

/-- The chunks that lose an entry to a sweep. -/
def SnapSweep.chunks (w : SnapSweep) (t : FtlTables) (nsid : Nat) : List Nat :=
  ((w.gone t nsid).map Retained.entry ++ (w.live t nsid).map Prod.snd).filterMap (fun e => if e.typ = 2 then some e.chunk else none)

/-- The tables without what a sweep drops, and the sweep ended. -/
def State.swept (s : State) (w : SnapSweep) (nsid : Nat) : State :=
  let t := s.ftl.tables
  let u := s.setTables { t with
    retained := t.retained.filter (fun r => r ∉ w.gone t nsid),
    map := if w.wholeNs then t.map.filter (fun p => p.1 / 2 ^ 64 ≠ nsid) else t.map,
    epochs := if w.wholeNs then Tab.erase t.epochs nsid else t.epochs }
  { u with ftl := { u.ftl with sweeps := u.ftl.sweeps.erase w } }

/-- The items that a sweep journals: a DEREF for each entry, and its SNAP item. -/
def State.sweepItems (s : State) (w : SnapSweep) (nsid : Nat) : List JItem :=
  (w.chunks s.ftl.tables nsid).map (fun c => JItem.deref (s.finalChunk c) s.ftl.jseq 0 1) ++ [.snap nsid w.me 3]

/-- The counts of a sweep's chunks lowered, and its records formed. -/
def State.sweepJournalled (s : State) (w : SnapSweep) (nsid : Nat) : State :=
  let chunks := w.chunks s.ftl.tables nsid
  (cutRecords ((s.sweepItems w nsid).map (fun x => [x])) []).foldl (fun (u : State) x => u.formRecord x none true)
    (chunks.foldl State.unnameAlias ((s.swept w nsid).willLower chunks))

theorem execSnapSweep_granted {s : State} {nsid : Nat} {w : SnapSweep} (ho : s.other = none)
    (hw : s.ftl.sweeps.find? (fun w => w.nsid == nsid) = some w) (hg : s.granted Cls.mapWork = true) :
    exec (.snapSweep nsid) s = .next ((s.spendMeta.sweepJournalled w nsid).event Src.FTL 14 nsid w.me) := by
  show execSnapSweep nsid s = _
  rw [execSnapSweep, State.eitherSide_single _ ho, hw]
  dsimp -zeta only
  rw [if_neg (by rw [hg]; exact Bool.false_ne_true)]
  rfl

/-- What the records of a sweep and the counts it lowers leave alone. -/
def State.besidesSweep (s : State) : List SnapSweep × List Retained × Evr × Tck × List Host.Cell × Word :=
  (s.ftl.sweeps, s.ftl.tables.retained, s.evr, s.tck, s.mem, s.reg (eventAddr Src.FTL))

theorem State.unnameAlias_besidesSweep (s : State) (c : Nat) : (s.unnameAlias c).besidesSweep = s.besidesSweep := by
  unfold State.unnameAlias
  split
  · rfl
  · split
    · rfl
    · split <;> rfl

theorem State.formRecord_besidesSweep (s : State) (items : List JItem) (c : Option Nat) (p : Bool) :
    (s.formRecord items c p).besidesSweep = s.besidesSweep := by
  obtain ⟨r, -, hf⟩ := s.formRecord_ftl items c p
  have hreg := s.formRecord_reg items c p (a := eventAddr Src.FTL) (by decide)
  simp only [State.besidesSweep, hf, hreg]
  simp only [State.formRecord, State.count_evr, State.count_tck, State.count_mem]

theorem State.sweepJournalled_besidesSweep (s : State) (w : SnapSweep) (nsid : Nat) :
    (s.sweepJournalled w nsid).besidesSweep = (s.swept w nsid).besidesSweep := by
  unfold State.sweepJournalled
  dsimp only
  rw [State.foldl_keeps State.besidesSweep (fun u x => u.formRecord_besidesSweep x none true),
    State.foldl_keeps State.besidesSweep State.unnameAlias_besidesSweep]
  rfl

/-- An entry stands after a sweep when it stood before and the sweep does not drop it. -/
theorem SnapSweep.mem_kept {w : SnapSweep} {t : FtlTables} {nsid : Nat} {r : Retained} :
    r ∈ t.retained.filter (fun r => r ∉ w.gone t nsid) ↔
      r ∈ t.retained ∧ (r.nsid = nsid → w.wholeNs = false ∧ (t.epoch nsid).sees r.entry.birth r.death = true) := by
  rw [List.mem_filter, decide_eq_true_iff, SnapSweep.gone, List.mem_filter]
  refine and_congr_right fun hr => ?_
  rw [not_and, imp_iff_right hr]
  by_cases hn : r.nsid = nsid <;> simp [hn]

theorem snapSweep_row {s : State} {nsid : Nat} {w : SnapSweep} (ho : s.other = none)
    (hw : s.ftl.sweeps.find? (fun w => w.nsid == nsid) = some w) (hg : s.granted Cls.mapWork = true) :
    Runs (.snapSweep nsid) s fun t =>
    t.ftl.sweeps = s.ftl.sweeps.erase w ∧ Signals s t Src.FTL 14 nsid ∧
    (∀ r ∈ t.ftl.tables.retained, r.nsid = nsid → w.wholeNs = false ∧ (s.ftl.tables.epoch nsid).sees r.entry.birth r.death = true) ∧
    (∀ r ∈ s.ftl.tables.retained, r.nsid ≠ nsid ∨ w.wholeNs = false ∧ (s.ftl.tables.epoch nsid).sees r.entry.birth r.death = true →
      r ∈ t.ftl.tables.retained) ∧ SameMemory s t := by
  have hkept := s.spendMeta.sweepJournalled_besidesSweep w nsid
  simp only [State.besidesSweep, Prod.mk.injEq] at hkept
  obtain ⟨hsweeps, hretained, hevr, htck, hmem, hreg⟩ := hkept
  refine ⟨_, execSnapSweep_granted ho hw hg, ?_, ?_, fun r hr hn => ?_, fun r hr hn => ?_, sameMemory_of_mem ?_⟩
  · rw [State.event_ftl, hsweeps]
    rfl
  · exact State.event_signals _ s _ _ _ _ _ (eventAddr_not_mem_recordRegs _ (by decide)) hreg hevr (congrArg Tck.tick htck)
  · rw [State.event_ftl, hretained] at hr
    exact (SnapSweep.mem_kept.mp hr).2 hn
  · rw [State.event_ftl, hretained]
    exact SnapSweep.mem_kept.mpr ⟨hr, fun e => hn.resolve_left (not_not_intro e)⟩
  · rw [State.event_mem, hmem]
    rfl

end Sys2Proof.Machine
end

section
/-!
The key query (R204) and checkpoints (R163, R173).
-/

namespace Sys2Proof.Machine

/-! KEYQ_QUERY: a write of FTL.KEYQ_ID. -/

def ftlKeyqId : RegSpec := ⟨0x188, 0x0, 1, [⟨31, 0, .rw, (k 0), false, []⟩]⟩

theorem specAt_ftlKeyqId : specAt F.FTL.KEYQ_ID.KEY_ID.addr = some (Src.FTL, ftlKeyqId, 0) := by rfl

theorem State.fieldError_ftlKeyqId (s : State) (v : Nat) : ∀ f ∈ ftlKeyqId.fields,
    s.fieldError ftlKeyqId F.FTL.KEYQ_ID.KEY_ID.addr F.FTL.KEYQ_ID.KEY_ID.addr 0 f v = none := by
  intro f hf
  rw [List.mem_singleton.mp hf]
  exact State.fieldError_none (by rfl) (.inr (Eq.refl _)) (by rfl) (by rfl) (by rfl)

/-- A query waits for its boundary. -/
def State.awaitKeyQuery (s : State) : State := { s with ftl := { s.ftl with keyQuery := true } }

/-- The query asked: the KEY_ID stands in its register, and no answer is valid. -/
def State.keyAsked (s : State) (k : Nat) : State := ((s.put F.FTL.KEYQ_ID.KEY_ID k).awaitKeyQuery).put F.FTL.KEYQ_COUNT.VALID 0

/-- What a write of FTL.KEYQ_ID starts. -/
theorem State.afterWrite_ftlKeyqId (s : State) (r : Req) (n v was : Nat) (ok : Bool) :
    s.afterWrite r F.FTL.KEYQ_ID.KEY_ID.addr n v was ok = s.awaitKeyQuery.put F.FTL.KEYQ_COUNT.VALID 0 := by rfl

theorem State.accepts_ftlKeyqId (s : State) (v : Nat) : s.accepts F.FTL.KEYQ_ID.KEY_ID.addr v = true := by rfl

theorem State.delayWrite_ftlKeyqId (s : State) (v : Nat) : s.delayWrite F.FTL.KEYQ_ID.KEY_ID.addr v = none := by rfl

theorem State.written_ftlKeyqId (s : State) (v : Nat) :
    s.written ftlKeyqId F.FTL.KEYQ_ID.KEY_ID.addr F.FTL.KEYQ_ID.KEY_ID.addr 0 v =
      setBits (s.reg F.FTL.KEYQ_ID.KEY_ID.addr).toNat 31 0 (bits v 31 0) := by
  have he := s.fieldError_ftlKeyqId v
  rw [State.written_rw fun f hf => by rw [List.mem_singleton.mp hf]; exact ⟨Eq.refl _, by rfl⟩,
    List.filter_eq_self.mpr fun f hf => by rw [he f hf]; rfl]
  rfl

theorem execKeyqQuery_asks {s : State} {r : Req} {k : Nat} (hr : r.test = false) (hk : k < 2 ^ 32) :
    exec (.keyqQuery r (BitVec.ofNat 64 k)) s = .next (s.keyAsked k) := by
  have hv : (BitVec.ofNat 64 k).toNat = k := by rw [BitVec.toNat_ofNat]; omega
  have hb : bits k 31 0 = k := by simp only [bits, Nat.shiftRight_eq_div_pow]; omega
  have h := State.busWrite_legal (s := s) (ok := true) hr (by decide) specAt_ftlKeyqId (w := BitVec.ofNat 64 k)
    (State.firstError_none (s.fieldError_ftlKeyqId _)) (s.accepts_ftlKeyqId _) (s.delayWrite_ftlKeyqId _)
  rw [hv, State.written_ftlKeyqId, hb, State.afterWrite_ftlKeyqId] at h
  exact congrArg Host.Outcome.next h

theorem State.reg_awaitKeyQuery (s : State) (a : Nat) : s.awaitKeyQuery.reg a = s.reg a := by rfl

theorem State.keyAsked_eq (s : State) (k : Nat) :
    s.keyAsked k = { s with ftl := { s.ftl with keyQuery := true }, regs := (s.keyAsked k).regs } := by
  obtain ⟨g, hg⟩ := s.put_eq F.FTL.KEYQ_ID.KEY_ID k
  obtain ⟨m, hm⟩ := (s.put F.FTL.KEYQ_ID.KEY_ID k).awaitKeyQuery.put_eq F.FTL.KEYQ_COUNT.VALID 0
  rw [State.keyAsked, hm, hg]
  rfl

theorem State.keyAsked_ftl (s : State) (k : Nat) : (s.keyAsked k).ftl = { s.ftl with keyQuery := true } :=
  congrArg State.ftl (s.keyAsked_eq k)

theorem keyqQuery_row {s : State} {r : Req} {k : Nat} (hr : r.test = false) (hk : k < 2 ^ 32) :
    Runs (.keyqQuery r (BitVec.ofNat 64 k)) s fun t =>
    t.ftl = { s.ftl with keyQuery := true } ∧ t.fld F.FTL.KEYQ_ID.KEY_ID = k ∧ t.fld F.FTL.KEYQ_COUNT.VALID = 0 ∧
    SameRegs [F.FTL.KEYQ_ID.KEY_ID.addr, F.FTL.KEYQ_COUNT.VALID.addr] s t ∧ t = { s with ftl := t.ftl, regs := t.regs } := by
  have hftl := s.keyAsked_ftl k
  refine ⟨_, execKeyqQuery_asks hr hk, hftl, ?_, ?_, fun a ha => ?_, by rw [hftl]; exact s.keyAsked_eq k⟩
  · rw [State.keyAsked, State.fld_put_other _ _ _ _ (by decide) (by decide) (by decide), State.fld_eq_of_reg (State.reg_awaitKeyQuery ..),
      State.fld_put_width _ _ _ 32 (by decide) (by rfl), Nat.mod_eq_of_lt hk]
  · exact State.fld_put_width _ _ 0 1 (by decide) (by rfl)
  · simp only [List.mem_cons, List.not_mem_nil, or_false, not_or] at ha
    rw [State.keyAsked, State.reg_put_other _ _ _ _ ha.2, State.reg_awaitKeyQuery, State.reg_put_other _ _ _ _ ha.1]

theorem answerKeyQuery_row {s : State} (h : s.ftl.keyQuery = true) : let t := s.answerKeyQuery
    t.fld F.FTL.KEYQ_COUNT.VALID = 1 ∧ t.ftl = { s.ftl with keyQuery := false } ∧
    t.fld F.FTL.KEYQ_COUNT.COUNT = s.chunksUnder (s.fld F.FTL.KEYQ_ID.KEY_ID) %
      2 ^ (F.FTL.KEYQ_COUNT.COUNT.hi - F.FTL.KEYQ_COUNT.COUNT.lo + 1) := by
  have hok : F.FTL.KEYQ_COUNT.COUNT.ok ∧ F.FTL.KEYQ_COUNT.VALID.ok := by decide
  rw [State.answerKeyQuery, if_pos h]
  refine ⟨State.fld_put_width _ _ 1 1 hok.2 (Eq.refl _), ?_, ?_⟩
  · rw [State.put_ftl, State.put_ftl]
  · rw [State.fld_put_other _ _ _ _ hok.2 hok.1 (by decide)]
    exact State.fld_put_same _ _ _ hok.1

/-! The records of a list of items (R169, R172). -/

theorem cutRecords_flatten (gs : List (List JItem)) (acc : List JItem) : (cutRecords gs acc).flatten = acc ++ gs.flatten := by
  induction gs generalizing acc with
  | nil => by_cases h : acc = [] <;> simp [cutRecords, h]
  | cons g gs ih =>
    rw [cutRecords]
    split
    · rw [List.flatten_cons, ih, List.flatten_cons]
    · rw [ih, List.flatten_cons, List.append_assoc]

/-- Groups that fit in a record make records that fit. -/
theorem cutRecords_fit {gs : List (List JItem)} {acc : List JItem} (hg : ∀ g ∈ gs, recordBytes g ≤ 16384) (ha : recordBytes acc ≤ 16384) :
    ∀ r ∈ cutRecords gs acc, recordBytes r ≤ 16384 := by
  induction gs generalizing acc with
  | nil =>
    intro r hr
    rw [cutRecords] at hr
    split at hr
    · cases hr
    · rwa [List.mem_singleton.mp hr]
  | cons g gs ih =>
    have hgs : ∀ g ∈ gs, recordBytes g ≤ 16384 := fun x hx => hg x (List.mem_cons_of_mem _ hx)
    intro r hr
    rw [cutRecords] at hr
    split at hr
    · rcases List.mem_cons.mp hr with rfl | hr
      · exact ha
      · exact ih hgs (hg g List.mem_cons_self) r hr
    · next h =>
      refine ih hgs ?_ r hr
      by_cases he : acc = []
      · rw [he]
        exact hg g List.mem_cons_self
      · exact Nat.le_of_not_lt fun hlt => h ⟨he, hlt⟩

theorem recordBytes_single (i : JItem) : recordBytes [i] ≤ 16384 := by
  have h : i.bytes ≤ 64 := by cases i <;> simp [JItem.bytes]
  have hr : recordBytes [i] = 32 + (0 + i.bytes) := Eq.refl _
  omega

/-- The records formed of several lists of items. -/
theorem State.formRecords_ftl (s : State) (ls : List (List JItem)) (p : Bool) :
    let t := ls.foldl (fun (u : State) items => u.formRecord items none p) s
    ∃ rs : List JRec, rs.map JRec.items = ls ∧ t.ftl.journal = s.ftl.journal ++ rs ∧ t.ftl.jseq = s.ftl.jseq + rs.length ∧
      t.ftl.ckpt = s.ftl.ckpt ∧ t.ftl.tables = s.ftl.tables := by
  induction ls generalizing s with
  | nil => exact ⟨[], Eq.refl _, (List.append_nil _).symm, Eq.refl _, Eq.refl _, Eq.refl _⟩
  | cons l ls ih =>
    obtain ⟨r, hr, hf⟩ := s.formRecord_ftl l none p
    obtain ⟨rs, hrs, hj, hq, hc, ht⟩ := ih (s.formRecord l none p)
    rw [hf] at hj hq hc ht
    refine ⟨r :: rs, by rw [List.map_cons, hr, hrs], ?_, ?_, hc, ht⟩
    · rw [List.foldl_cons, hj, List.append_assoc]
      rfl
    · rw [List.foldl_cons, hq, List.length_cons]
      exact Nat.succ_add_eq_add_succ ..

end Sys2Proof.Machine
end

section
/-!
The beginning of a checkpoint, and the records that end it (R163, R173).
-/

namespace Sys2Proof.Machine

theorem checkpointStart_row {s : State} (ho : s.other = none) (hc : s.ftl.ckpt = none)
    (hj : s.fld F.FTL.CKPT_CTL.GIB * 2 ^ 30 < s.ftl.sinceCkpt) :
    exec .checkpointStart s = .next { s with ftl := { s.ftl with ckpt := some s.ftl.jseq } } := by
  show execCheckpointStart s = _
  rw [execCheckpointStart, State.eitherSide_single _ ho, if_pos ⟨Option.isNone_iff_eq_none.mpr hc, hj⟩]

/-! CHECKPOINT_DONE. -/

/-- Where the directory and the pages of a write-back lie, with their lengths. -/
def WriteBack.spots (w : WriteBack) : List (Nat × Nat) :=
  (if w.dirPages = 0 then [] else [(w.root, 65 * w.dirPages)]) ++ w.pages.map (fun p => (p.place, 65))

section Checkpoint

variable {s : State} {upto : Nat} (ho : s.other = none) (hc : s.ftl.ckpt = some upto)
include ho hc

theorem execCheckpointDone_ungranted (hg : s.granted Cls.mapWork = false) : exec .checkpointDone s = .next s := by
  show execCheckpointDone s = _
  simp only [execCheckpointDone, State.eitherSide_single _ ho, hc, hg, Bool.not_false, or_true, if_true]

variable (hf : s.ckptFormed upto = false) (hg : s.granted Cls.mapWork = true)
include hf hg

theorem execCheckpointDone_places (hw : s.ftl.writeBack = none) (hm : s.mayWriteBack upto = true) :
    exec .checkpointDone s = .next (s.spendMeta.placeCheckpoint upto) := by
  show execCheckpointDone s = _
  simp only [execCheckpointDone, State.eitherSide_single _ ho, hc, hf, hg, hw, hm, Bool.not_true, Bool.false_eq_true, or_self, if_false,
    if_true]

theorem execCheckpointDone_journals {w : WriteBack} (hw : s.ftl.writeBack = some w) (hp : ∀ p ∈ w.pages, s.bulkDurable p.place 65 = true)
    (hd : w.dirPages = 0 ∨ s.bulkDurable w.root (65 * w.dirPages) = true) :
    exec .checkpointDone s = .next (s.spendMeta.journalCheckpoint upto w) := by
  have hall : w.spots.all (fun p => s.bulkDurable p.1 p.2) = true := by
    rw [WriteBack.spots, List.all_append, List.all_map, Bool.and_eq_true]
    refine ⟨?_, List.all_eq_true.mpr hp⟩
    by_cases h0 : w.dirPages = 0
    · rw [if_pos h0]
      rfl
    · simpa only [if_neg h0, List.all_cons, List.all_nil, Bool.and_true] using hd.resolve_left h0
  show execCheckpointDone s = _
  simp only [execCheckpointDone, State.eitherSide_single _ ho, hc, hf, hg, hw, Bool.not_true, Bool.false_eq_true, or_self, if_false]
  exact congrArg Host.Outcome.next (if_pos hall)

end Checkpoint

/-! What the last records of a checkpoint hold. -/

/-- The pages written back, map pages last (R163). -/
def WriteBack.inOrder (w : WriteBack) : List PageOut := w.pages.filter (fun p => idKind p.id != 1) ++ w.pages.filter (fun p => idKind p.id == 1)

def PageOut.item (p : PageOut) : JItem := .pageWb (idKind p.id) (idIndex p.id) p.place (idNsid p.id)

/-- The records of a checkpoint's end: each item may begin one. -/
def State.ckptRecords (s : State) (upto : Nat) (w : WriteBack) : List (List JItem) :=
  cutRecords ((w.inOrder.map PageOut.item ++ s.carriedOver).map (fun i => [i]) ++ [[.ckpt upto w.root w.dirPages]]) []

theorem State.ckptRecords_flatten (s : State) (upto : Nat) (w : WriteBack) :
    (s.ckptRecords upto w).flatten = w.inOrder.map PageOut.item ++ s.carriedOver ++ [.ckpt upto w.root w.dirPages] := by
  rw [State.ckptRecords, cutRecords_flatten, List.nil_append, List.flatten_append, ← List.flatMap_def, List.flatMap_singleton']
  rfl

theorem State.ckptRecords_fit (s : State) (upto : Nat) (w : WriteBack) : ∀ l ∈ s.ckptRecords upto w, recordBytes l ≤ 16384 := by
  refine cutRecords_fit (fun g hg => ?_) (by decide)
  rcases List.mem_append.mp hg with hg | hg
  · obtain ⟨i, -, rfl⟩ := List.mem_map.mp hg
    exact recordBytes_single i
  · rw [List.mem_singleton.mp hg]
    exact recordBytes_single _

/-- The records of a checkpoint's end formed one after another. -/
def State.ckptJournalled (s : State) (upto : Nat) (w : WriteBack) : State :=
  (s.ckptRecords upto w).foldl (fun (t : State) items => t.formRecord items none false) s

theorem State.journalCheckpoint_eq (s : State) (upto : Nat) (w : WriteBack) : s.journalCheckpoint upto w =
    w.inOrder.foldl (fun (t : State) p => t.recordPage p (s.ckptJournalled upto w).ftl.jseq) (s.ckptJournalled upto w) := by rfl

/-- A page recorded as written back changes nothing but what is kept of the pages. -/
theorem State.journalCheckpoint_keeps {α : Type} (p : State → α) (hp : ∀ u id m, p (State.setPage u id m) = p u) (s : State) (upto : Nat)
    (w : WriteBack) : p (s.journalCheckpoint upto w) = p (s.ckptJournalled upto w) := by
  rw [State.journalCheckpoint_eq]
  exact State.foldl_keeps p (fun u x => hp u ..) _ _

theorem State.ckptJournalled_reg (s : State) (upto : Nat) (w : WriteBack) {a : Nat} (h : a ≠ (F.FTL.STAT.COUNT.nth 12).addr) :
    (s.ckptJournalled upto w).reg a = s.reg a :=
  State.foldl_keeps (fun u => u.reg a) (fun u x => u.formRecord_reg x none false h) _ _

theorem journalCheckpoint_row (s : State) (upto : Nat) (w : WriteBack) : let t := s.journalCheckpoint upto w
    (∃ rs : List JRec, t.ftl.journal = s.ftl.journal ++ rs ∧ t.ftl.jseq = s.ftl.jseq + rs.length ∧ (∀ r ∈ rs, recordBytes r.items ≤ 16384) ∧
      rs.flatMap JRec.items = w.inOrder.map PageOut.item ++ s.carriedOver ++ [.ckpt upto w.root w.dirPages]) ∧
    t.ftl.ckpt = s.ftl.ckpt ∧ t.ftl.tables = s.ftl.tables ∧ SameRegs [(F.FTL.STAT.COUNT.nth 12).addr] s t := by
  obtain ⟨rs, hr, hj, hq, hc, ht⟩ := s.formRecords_ftl (s.ckptRecords upto w) false
  refine ⟨⟨rs, ?_, ?_, fun r hm => s.ckptRecords_fit upto w _ (hr ▸ List.mem_map_of_mem hm), ?_⟩, ?_, ?_, fun a ha => ?_⟩
  · exact (State.journalCheckpoint_keeps (fun u => u.ftl.journal) (fun _ _ _ => Eq.refl _) ..).trans hj
  · exact (State.journalCheckpoint_keeps (fun u => u.ftl.jseq) (fun _ _ _ => Eq.refl _) ..).trans hq
  · rw [List.flatMap_def, hr, State.ckptRecords_flatten]
  · exact (State.journalCheckpoint_keeps (fun u => u.ftl.ckpt) (fun _ _ _ => Eq.refl _) ..).trans hc
  · exact (State.journalCheckpoint_keeps (fun u => u.ftl.tables) (fun _ _ _ => Eq.refl _) ..).trans ht
  · exact (State.journalCheckpoint_keeps (fun u => u.reg a) (fun _ _ _ => Eq.refl _) ..).trans
      (s.ckptJournalled_reg upto w fun h => ha (h ▸ List.mem_cons_self))

end Sys2Proof.Machine
end

section
/-!
Recovery: a side restored from what is read of the modules, and the end of the mode (R126, R175, R456).
-/

namespace Sys2Proof.Machine

/-! RECOVERY_REPLAY of the last side. -/

section LastSide

variable {s : State} (hm : s.lcs.mode = .recovery) (hr : s.rfl.recover = 2 ^ s.tck.headSlot)

/-- The usage of every data key restored, with no side left to restore. -/
def State.usageRestored (u : State) : State :=
  (Tab.keys u.cip.data).foldl State.restoreFromJournals { u with rfl := { u.rfl with recover := 0 } }

/-- The restored tables are shown in FTL.STATUS and in EVENT. -/
def State.recoveryShown (u : State) : State := (u.put F.FTL.STATUS.RECOVERY 7).event Src.FTL 0

include hm hr in
theorem execRecoveryReplay_last (x : RecoveryRead) :
    exec (.recoveryReplay x) s = .next (s.replaySide s.tck.headSlot x none false).usageRestored.recoveryShown := by
  have hne : s.rfl.recover ≠ 0 := by rw [hr]; exact (Nat.two_pow_pos _).ne'
  have hb : s.rfl.recover.testBit s.tck.headSlot = true := by rw [hr]; exact Nat.testBit_two_pow_self
  have hl : s.rfl.recover - 2 ^ s.tck.headSlot = 0 := by rw [hr]; exact Nat.sub_self _
  show execRecoveryReplay x s = _
  rw [execRecoveryReplay, if_neg (not_or.mpr ⟨not_not.mpr hm, hne⟩)]
  dsimp only
  rw [if_pos hb, hl, if_pos (Eq.refl 0)]
  rfl

theorem ftlRecovery_ok : F.FTL.STATUS.RECOVERY.ok := by decide

theorem State.recoveryShown_field (u : State) : u.recoveryShown.fld F.FTL.STATUS.RECOVERY = 7 := by
  have hf : F.FTL.STATUS.RECOVERY.addr ∉ eventRegs Src.FTL := by decide
  exact (State.fld_eq_of_reg (State.event_reg _ _ _ _ _ _ _ hf)).trans (State.fld_put_width u _ 7 3 ftlRecovery_ok (by rfl))

theorem State.recoveryShown_raises (u : State) : Raises u.recoveryShown Src.FTL 0 :=
  Raises.record _ _ _ _ _ _ (raises_setEventBit _ _ (by decide)) (eventAddr_not_mem_recordRegs _ (by decide))

theorem State.recoveryShown_unrecorded (u : State) : u.recoveryShown.unrecorded = u.unrecorded := by
  rw [State.recoveryShown, State.event_unrecorded, State.put_unrecorded]

theorem KeysOnly.recovered (u : State) : KeysOnly { u with rfl := { u.rfl with recover := 0 } } u.usageRestored.recoveryShown :=
  (KeysOnly.foldl KeysOnly.restoreFromJournals _ _).trans (KeysOnly.of_unrecorded (State.recoveryShown_unrecorded _))

include hm hr in
theorem recoveryReplay_row (x : RecoveryRead) : Runs (.recoveryReplay x) s fun t =>
    t = (s.replaySide s.tck.headSlot x none false).usageRestored.recoveryShown ∧
    t.fld F.FTL.STATUS.RECOVERY = 7 ∧ Raises t Src.FTL 0 :=
  ⟨_, execRecoveryReplay_last hm hr x, Eq.refl _, State.recoveryShown_field _, State.recoveryShown_raises _⟩

/-! No page read: the side holds nothing. -/

/-- A side with empty tables: only its commands under way stay. -/
def State.emptySide (s : State) (k : Nat) : State := { s with
  ftl := { Ftl.cold with side := k, snapCmd := s.ftl.snapCmd, keyQuery := s.ftl.keyQuery },
  rdn := { Rdn.cold with command := s.rdn.command } }

theorem writtenPages_nil {x : RecoveryRead} (h : x.pages = []) (key : Nat) : writtenPages x key = [] := by
  rw [writtenPages, h]
  rfl

theorem State.anchorFound_nil (s : State) {x : RecoveryRead} (h : x.pages = []) : s.anchorFound x = none := by
  have hk : s.anchorKeys.flatMap (fun k => (writtenPages x k).filterMap (fun p => readAnchor p.data)) = [] :=
    List.flatMap_eq_nil_iff.mpr fun k _ => by rw [writtenPages_nil h k]; rfl
  rw [State.anchorFound, hk]
  rfl

theorem State.replaySide_nil {s : State} {k : Nat} {x : RecoveryRead} (hs : s.ftl.side = k) (h : x.pages = []) :
    s.replaySide k x none false = s.emptySide k := by
  have he : s.ensureSide k = s := if_pos (.inl hs)
  rw [State.replaySide, he, State.onSide_home _ hs.symm]
  dsimp only
  rw [State.anchorFound_nil _ h]
  rfl

include hm hr in
theorem recoveryReplayEmpty_row {x : RecoveryRead} (hs : s.ftl.side = s.tck.headSlot) (hx : x.pages = []) :
    Runs (.recoveryReplay x) s fun t =>
    t.rfl.recover = 0 ∧ t.ftl.tables = Ftl.cold.tables ∧ t.ftl.journal = [] ∧ t.ftl.side = s.ftl.side ∧ t.lcs = s.lcs ∧ SameMemory s t := by
  have h := KeysOnly.recovered (s.emptySide s.tck.headSlot)
  refine ⟨_, execRecoveryReplay_last hm hr x, ?_⟩
  rw [State.replaySide_nil hs hx]
  refine ⟨by rw [KeysOnly.peer h], by rw [KeysOnly.ftl h]; rfl, by rw [KeysOnly.ftl h]; rfl, by rw [KeysOnly.ftl h, hs]; rfl, (KeysOnly.lcs h).trans (by rfl),
    sameMemory_of_mem ((KeysOnly.mem h).trans (by rfl))⟩

end LastSide

/-! RECOVERY_DONE. -/

theorem State.enterMode_ftl (s : State) (m : Mode) : (s.enterMode m).ftl = s.ftl := by
  have h := State.record_ftl { s with lcs := { s.lcs with mode := m } } Src.LCS (Config.noticeEvent Src.LCS (0x200 + m.code)).toNat
    (0x200 + m.code) s.lcs.mode.code 0 0
  unfold State.enterMode
  dsimp only
  split <;> split <;> exact h

/-- The peer is there, and its MARK shows that it holds the other side. -/
def State.besidePeer (s : State) : Bool := s.rfl.present && s.peerOwn &&& (3 ^^^ s.wit.own % 4) != 0

theorem State.besidePeer_iff (s : State) : s.besidePeer = true ↔ s.rfl.present = true ∧ s.peerOwn &&& (3 ^^^ s.wit.own % 4) ≠ 0 := by
  rw [State.besidePeer, Bool.and_eq_true, bne_iff_ne]

/-- The mode that Recovery leads to (R456). -/
def State.afterRecovery (s : State) : Mode := if s.besidePeer then .dualActive else .soloActive

/-- The sides that a peer loss and releases recorded before have left to claim (R457). -/
def State.recoveryClaim (s : State) : Nat := s.rfl.claimLater ||| (if s.rfl.lost then s.peerOwn else 0)

def State.claimsMade (s : State) : State := { s with rfl := { s.rfl with claimLater := 0 } }

theorem execRecoveryDone_leaves {s : State} (hm : s.lcs.mode = .recovery) (hr : s.rfl.recover = 0) (hf : s.fld F.FTL.STATUS.RECOVERY = 7) :
    exec .recoveryDone s = .next ((s.enterMode s.afterRecovery).claim s.recoveryClaim).claimsMade := by
  show execRecoveryDone s = _
  rw [execRecoveryDone, if_neg (by simp only [hm, hr, hf, ne_eq, not_true_eq_false, or_self, not_false_eq_true])]
  rfl

theorem recoveryDone_row {s : State} (hm : s.lcs.mode = .recovery) (hr : s.rfl.recover = 0) (hf : s.fld F.FTL.STATUS.RECOVERY = 7) :
    Runs .recoveryDone s fun t =>
    t.lcs.mode = (if s.rfl.present = true ∧ s.peerOwn &&& (3 ^^^ s.wit.own % 4) ≠ 0 then .dualActive else .soloActive) ∧
    t.rfl.claimLater = 0 ∧ t.wit.own = s.wit.own ∧ t.ftl = s.ftl ∧ SameMemory s t := by
  have hmode := FlashOnly.enterMode s s.afterRecovery
  have hown : (s.enterMode s.afterRecovery).wit.own = s.wit.own := by rw [FlashOnly.wit hmode]
  obtain ⟨r, m, hc⟩ := (s.enterMode s.afterRecovery).claim_eq s.recoveryClaim
  refine ⟨_, execRecoveryDone_leaves hm hr hf, ?_⟩
  rw [hc]
  refine ⟨?_, Eq.refl _, ?_, s.enterMode_ftl _, sameMemory_of_mem ((FlashOnly.mem hmode).trans (by rfl))⟩
  · rw [← if_congr s.besidePeer_iff (Eq.refl _) (Eq.refl _)]
    exact congrArg Lcs.mode (FlashOnly.lcs hmode)
  · exact hown

end Sys2Proof.Machine

open Sys2Proof Sys2Proof.Machine

/-- Settles O40: the snapshot commands and the key query, what begins and ends a checkpoint, and Recovery. -/
theorem snapshotsCheckpointsAndRecovery : Obligations.SnapshotsCheckpointsAndRecovery := by
  refine ⟨?_, ?_, ?_, ?_, fun s op h hn => snapUnknown_row h hn, fun s n h h0 hn hs hm => snapCreate_row h0 hn h hs hm,
    fun s n h h0 hn => snapDelete_row h0 hn h, fun s nsid w ho hw hg => snapSweep_row ho hw hg, fun s r k hr hk => keyqQuery_row hr hk,
    fun s h => answerKeyQuery_row h, fun s ho hc hj => checkpointStart_row ho hc hj, fun s upto ho hc hf => ⟨execCheckpointDone_ungranted ho hc,
      execCheckpointDone_places ho hc hf, fun w hg hw hp hd => ?_⟩, fun s x hm hr _ => recoveryReplay_row hm hr x,
    fun s x hm hr hs _ hx => recoveryReplayEmpty_row hm hr hs hx, fun s hm hr hf => recoveryDone_row hm hr hf⟩
  · exact (snapCommand (op := 1) (by decide) fun _ _ => Eq.refl _).1
  · exact (snapCommand (op := 2) (by decide) fun _ _ => Eq.refl _).1
  · exact (snapCommand (op := 1) (by decide) fun _ _ => Eq.refl _).2
  · exact (snapCommand (op := 2) (by decide) fun _ _ => Eq.refl _).2
  · obtain ⟨hrs, hckpt, htables, hregs⟩ := journalCheckpoint_row s.spendMeta upto w
    exact ⟨_, execCheckpointDone_journals ho hc hf hg hw hp hd, hrs, hckpt.trans hc, htables, hregs⟩
end

section
/-!
The movement of stored bytes: the step of every mover, FOLD and GC_COPY (R160, R187, R190, R192), MOSS_RELEASE (R189), UNIT_ERASE (R190,
R198) and CHUNK_REWRITE (R195).
-/

namespace Sys2Proof.Machine

/-! A chunk placed in a bulk stripe (R160, R214). -/

theorem State.moveToBulk_moved {s s1 : State} {kind : MoveKind} {cls c k : Nat} {b : List Byte}
    (h : s.moveToBulk kind cls c k b = (true, s1)) :
    ∃ m e, Tab.find s1.ftl.moves c = some m ∧ Tab.find s.ftl.tables.chunks c = some e ∧ m.kind = kind ∧ m.keyId = k ∧ m.state = 2 ∧
      m.units = b.length / 64 ∧ m.verified = false ∧ m.old = (if e.state = 1 then [e.loc0, e.loc1] else [e.loc0]) := by
  unfold State.moveToBulk at h
  split at h
  · cases h
  · next e he =>
    split at h
    · cases h
    · split at h
      · cases h
      · obtain rfl := congrArg Prod.snd h
        exact ⟨_, e, (Tab.find_insert ..).trans (if_pos (Eq.refl _)), he, Eq.refl _, Eq.refl _, Eq.refl _, Eq.refl _, Eq.refl _, Eq.refl _⟩

/-- With no stripe of the class open and none to be had, RDN.EVENT.PLACE_FAIL is set and nothing else changes (R214). -/
theorem State.placeBulk_unplaceable {s : State} {cls : Nat} (b : List Byte) (n : Nat)
    (ho : ∀ p ∈ s.ftl.stripes, p.2.state ≠ 1 ∨ p.2.cls ≠ cls) (hp : s.placement s.stripeNumber = none) :
    s.placeBulk cls b (n + 1) = (none, s.event Src.RDN 9 s.stripeNumber) := by
  have hnone : s.ftl.stripes.find? (fun p => p.2.state = 1 ∧ p.2.cls = cls ∧ p.2.fill.any (fun f => f < p.2.blockSize)) = none := by
    refine List.find?_eq_none.mpr fun p hm => ?_
    rw [decide_eq_true_eq]
    rintro ⟨hs, hc, -⟩
    exact (ho p hm).elim (fun h => h hs) (fun h => h hc)
  have hopen : s.openStripe cls = (none, s.event Src.RDN 9 s.stripeNumber) := by
    rw [State.openStripe, hp]
  rw [State.placeBulk, hnone, hopen]

/-! The step of a mover (R187, R190). -/

section Mover

variable {s : State} {cls c n : Nat} {e : ChunkEntry} {r : ChunkRead}

/-- With no read under way a mover only asks for reads. -/
theorem State.moveChunks_noReads (h : s.rdx.reads = []) (kind : MoveKind) (cls stripeCls : Nat) (room : State → Nat → Bool)
    (queue : State → List (Nat × ChunkEntry)) : s.moveChunks kind cls stripeCls room queue = s.askReads cls (queue s) := by
  have hdrop (q : List Nat) : s.dropStale cls q = s := by
    rw [State.dropStale, h, List.filter_nil, ← h]
  have hplace : ∀ q, s.placeReady kind cls stripeCls room q = s
    | [] => Eq.refl _
    | (c, e) :: q => by
      have hread : s.moverRead cls c = none := by rw [State.moverRead, h, List.find?_nil]
      rw [State.placeReady, hread]
  rw [State.moveChunks, hdrop, hplace]

theorem State.askReads_granted (hr : s.moverRead cls c = none) (hg : s.granted cls = true) (rest : List (Nat × ChunkEntry)) :
    s.askReads cls ((c, e) :: rest) = ((s.startRead c (.move cls) []).spend cls (e.units * 64)).askReads cls rest := by
  rw [State.askReads, hr, Option.isSome_none, if_neg Bool.false_ne_true, if_pos hg]

theorem State.askReads_ungranted (hr : s.moverRead cls c = none) (hg : s.granted cls = false) (rest : List (Nat × ChunkEntry)) :
    s.askReads cls ((c, e) :: rest) = s := by
  rw [State.askReads, hr, Option.isSome_none, if_neg Bool.false_ne_true, if_neg (Bool.eq_false_iff.mp hg)]

/-- Where the first chunk of the queue is read and there is room, the turn goes on if it finds a place, and ends if it finds none. -/
theorem State.placeReady_ready {kind : MoveKind} {stripeCls : Nat} {room : State → Nat → Bool} (hr : s.moverRead cls c = some (n, r))
    (hs : r.stage = .ready) (hh : kind ≠ .fold → (readHeader r.stored).passes = true) (hm : room s r.stored.length = true)
    (rest : List (Nat × ChunkEntry)) :
    let moved := s.moveToBulk kind stripeCls c e.keyId r.stored
    s.placeReady kind cls stripeCls room ((c, e) :: rest) =
      if moved.1 = true then (moved.2.dropRead n).placeReady kind cls stripeCls room rest else moved.2 := by
  have hpass : ¬(kind ≠ .fold ∧ (!(readHeader r.stored).passes) = true) := by
    rintro ⟨hk, hf⟩
    rw [hh hk] at hf
    cases hf
  rw [State.placeReady, hr]
  dsimp only
  rw [if_neg (not_not_intro hs), if_neg hpass, if_neg (by rw [hm]; exact Bool.false_ne_true)]
  rcases s.moveToBulk kind stripeCls c e.keyId r.stored with ⟨_ | _, t⟩ <;> rfl

end Mover

theorem execFold_noReads {s : State} (ho : s.other = none) (h : s.rdx.reads = []) : exec .fold s = .next (s.askReads Cls.fold s.foldQueue) :=
  congrArg Host.Outcome.next ((State.eitherSide_single _ ho).trans (State.moveChunks_noReads h ..))

theorem execGcCopy_noReads {s : State} (ho : s.other = none) (h : s.rdx.reads = []) : exec .gcCopy s = .next (s.askReads Cls.gc s.gcQueue) :=
  congrArg Host.Outcome.next ((State.eitherSide_single _ ho).trans (State.moveChunks_noReads h ..))

/-! MOSS_RELEASE (R189). -/

theorem State.deadSpace_frame (s : State) (l n : Nat) : (s.deadSpace l n).ftl.tables = s.ftl.tables ∧
    (s.deadSpace l n).ftl.moves = s.ftl.moves ∧ (s.deadSpace l n).rdn = s.rdn := by
  unfold State.deadSpace
  split <;> exact ⟨Eq.refl _, Eq.refl _, Eq.refl _⟩

theorem State.endMove_frame (s : State) (c : Nat) (m : Movement) : (s.endMove c m).ftl.tables = s.ftl.tables ∧
    (s.endMove c m).ftl.moves = Tab.erase s.ftl.moves c ∧ (s.endMove c m).rdn = s.rdn ∧ (s.endMove c m).mem = s.mem := by
  refine ⟨?_, congrArg (fun x => Tab.erase x c) ?_, ?_, ?_⟩
  · exact State.foldl_keeps (fun u => u.ftl.tables) (fun u q => let ⟨h, _, _⟩ := u.deadSpace_frame q _; h) m.old s
  · exact State.foldl_keeps (fun u => u.ftl.moves) (fun u q => let ⟨_, h, _⟩ := u.deadSpace_frame q _; h) m.old s
  · exact State.foldl_keeps State.rdn (fun u q => let ⟨_, _, h⟩ := u.deadSpace_frame q _; h) m.old s
  · exact State.foldl_keeps State.mem (fun u q => FlashOnly.mem (FlashOnly.deadSpace u q _)) m.old s

theorem State.mossMarks_unrecorded (s : State) : s.mossMarks.unrecorded = s.unrecorded := by
  simp only [State.mossMarks, apply_ite State.unrecorded, State.event_unrecorded, State.put_unrecorded, ite_self]

theorem execMossRelease_releases {s : State} {c : Nat} {m : Movement} (hs : c / 2 ^ 47 = s.ftl.side) (hm : Tab.find s.ftl.moves c = some m)
    (hk : m.kind = .fold) (hd : s.moveDone m = true) : exec (.mossRelease c) s =
    let u := (s.endMove c m).count F.FTL.STAT.COUNT 2
    .next ({ u with ftl := { u.ftl with mossOrder := u.ftl.mossOrder.filter (fun d => d ≠ c) } } : State).mossMarks := by
  refine congrArg Host.Outcome.next ((State.onSide_home _ hs).trans ?_)
  dsimp only
  rw [hm]
  exact if_pos ⟨hk, hd⟩

theorem mossRelease_row {s : State} {c : Nat} {m : Movement} (hs : c / 2 ^ 47 = s.ftl.side) (hm : Tab.find s.ftl.moves c = some m)
    (hk : m.kind = .fold) (hd : s.moveDone m = true) : Runs (.mossRelease c) s fun t =>
    Tab.find t.ftl.moves c = none ∧ c ∉ t.ftl.mossOrder ∧ (∀ d, d ≠ c → Tab.find t.ftl.moves d = Tab.find s.ftl.moves d) ∧
    t.ftl.tables = s.ftl.tables ∧ t.rdn = s.rdn ∧ SameMemory s t := by
  obtain ⟨htables, hmoves, hrdn, hmem⟩ := s.endMove_frame c m
  refine ⟨_, execMossRelease_releases hs hm hk hd, ?_⟩
  dsimp only
  rw [State.eq_of_unrecorded (State.mossMarks_unrecorded _)]
  simp only [State.count_ftl, State.count_rdn, hmoves, htables, hrdn, Tab.find_erase]
  refine ⟨if_pos trivial, fun h => ?_, fun d hd => if_neg hd, trivial, trivial, sameMemory_of_mem ?_⟩
  · exact of_decide_eq_true (List.mem_filter.mp h).2 (Eq.refl c)
  · exact (State.count_mem (s.endMove c m) F.FTL.STAT.COUNT 2 1).trans hmem

/-! UNIT_ERASE (R190 steps 4 and 5). -/

/-- A block in erase intent, with its UNIT item. -/
def State.blockIntent (s : State) (id : Nat) : State :=
  ({ s with ftl := { s.ftl with
      blocks := Tab.modify s.ftl.blocks (blockKeyOf id) (fun (b : MossBlock) => { b with state := 3 }) } } : State).formRecord
    [.unit 1 id 3] none true

/-- The erase of a block that waits for its intent to be durable. -/
def State.blockErase (s : State) (id : Nat) : State :=
  { s with ftl := { s.ftl with erasing := s.ftl.erasing ++ [{ kind := 1, id := id, jseq := s.ftl.jseq, sent := false, left := 0 }] } }

theorem State.blockIntent_frame (s : State) (id : Nat) : SameRegs [(F.FTL.STAT.COUNT.nth 12).addr] s (s.blockIntent id) ∧
    s.blockIntent id = { s with ftl := (s.blockIntent id).ftl, regs := (s.blockIntent id).regs } := by
  refine ⟨fun a ha => State.formRecord_reg _ _ _ _ (fun h => ha (h ▸ List.mem_cons_self)), ?_⟩
  exact State.eq_of_unrecorded_of_evr (s := { s with ftl := (s.blockIntent id).ftl }) (State.formRecord_unrecorded ..) (State.count_evr ..)

theorem execUnitErase_intends {s : State} {id : Nat} (ho : s.other = none) (he : s.erasable 1 id = true)
    (hq : s.unitQuiet [blockKeyOf id] = true) (hr : (s.blockWear (blockKeyOf id)).recovered.length < 2)
    (hw : s.wornOut (blockKeyOf id) = false) : exec (.unitErase 1 id) s = .next ((s.blockIntent id).blockErase id) := by
  have hkeys : s.unitBlocks 1 id = [blockKeyOf id] := if_neg (by decide)
  refine congrArg Host.Outcome.next ((State.eitherSide_single _ ho).trans ?_)
  dsimp only
  rw [hkeys, if_pos (by rw [he, hq]; rfl), List.foldl_cons, List.foldl_nil, if_neg (Nat.not_le.mpr hr),
    if_neg (Bool.eq_false_iff.mp hw)]
  rfl

theorem unitErase_row {s : State} {id : Nat} {b : MossBlock} (ho : s.other = none) (he : s.erasable 1 id = true)
    (hq : s.unitQuiet [blockKeyOf id] = true) (hr : (s.blockWear (blockKeyOf id)).recovered.length < 2)
    (hw : s.wornOut (blockKeyOf id) = false) (hb : Tab.find s.ftl.blocks (blockKeyOf id) = some b) : Runs (.unitErase 1 id) s fun t =>
    Tab.find t.ftl.blocks (blockKeyOf id) = some { b with state := 3 } ∧
    t.ftl.journal.map JRec.items = s.ftl.journal.map JRec.items ++ [[.unit 1 id 3]] ∧ t.ftl.jseq = s.ftl.jseq + 1 ∧
    t.ftl.erasing = s.ftl.erasing ++ [{ kind := 1, id := id, jseq := s.ftl.jseq + 1, sent := false, left := 0 }] ∧
    SameRegs [(F.FTL.STAT.COUNT.nth 12).addr] s t ∧ t = { s with ftl := t.ftl, regs := t.regs } := by
  obtain ⟨hregs, hframe⟩ := s.blockIntent_frame id
  obtain ⟨r, hitems, hftl⟩ := State.formRecord_ftl ({ s with ftl := { s.ftl with
    blocks := Tab.modify s.ftl.blocks (blockKeyOf id) (fun (b : MossBlock) => { b with state := 3 }) } } : State) [.unit 1 id 3] none true
  have hintent : (s.blockIntent id).ftl = _ := hftl
  refine ⟨_, execUnitErase_intends ho he hq hr hw, ?_, ?_, ?_, ?_, hregs, ?_⟩
  · rw [State.blockErase, hintent]
    exact (Tab.find_modify ..).trans ((if_pos (Eq.refl _)).trans (by rw [hb]; rfl))
  · rw [State.blockErase, hintent, List.map_append, List.map_singleton, hitems]
  · rw [State.blockErase, hintent]
  · rw [State.blockErase, hintent]
  · exact congrArg (fun u : State => u.blockErase id) hframe

/-! CHUNK_REWRITE (R195). -/

/-- Of the rewritings asked for, those still due. -/
def State.rewritesDue (s : State) : State := { s with ftl := { s.ftl with rewrites := s.ftl.rewrites.filter s.rewriteDue } }

section Rewrites

variable {s : State} {w : Rewrite} {e : ChunkEntry} (ho : s.other = none)
include ho

theorem execChunkRewrite_nothing (h : s.rewritesDue.ftl.rewrites.find? (fun w => s.rewritesDue.mayMove w.chunk) = none) :
    exec .chunkRewrite s = .next s.rewritesDue := by
  refine congrArg Host.Outcome.next ((State.eitherSide_single _ ho).trans ?_)
  rw [State.rewritesDue] at h
  dsimp only
  rw [h]
  rfl

theorem execChunkRewrite_moves (h : s.rewritesDue.ftl.rewrites.find? (fun w => s.rewritesDue.mayMove w.chunk) = some w)
    (he : Tab.find s.rewritesDue.ftl.tables.chunks w.chunk = some e) :
    exec .chunkRewrite s = .next (if e.state = 1 then s.rewritesDue.rewriteMoss w e
      else (s.rewritesDue.moveToBulk .rewrite 1 w.chunk e.keyId w.stored).2.refreshStripe (stripeOf e.loc0)) := by
  refine congrArg Host.Outcome.next ((State.eitherSide_single _ ho).trans ?_)
  rw [State.rewritesDue] at h he
  dsimp only
  rw [h]
  dsimp only
  rw [he]
  rfl

end Rewrites

end Sys2Proof.Machine
end

section
/-!
READ_RETRY (R196) and HOST_RECONSTRUCT (R207 to R210, R231): what gives a page that could not be read.
-/

namespace Sys2Proof.Machine

/-! What a command to a module leaves alone (R243 to R252). -/

/-- The state with everything masked that a command to a module may change. -/
def State.besidesPorts (s : State) : State := { s.unrecorded with frn := Frn.cold, out := [], bay := Bay.cold, pcr := Pcr.cold }

theorem State.besidesPorts_of_unrecorded {s t : State} (h : t.unrecorded = s.unrecorded) : t.besidesPorts = s.besidesPorts :=
  congrArg (fun u : State => ({ u with frn := Frn.cold, out := [], bay := Bay.cold, pcr := Pcr.cold } : State)) h

theorem State.send_besidesPorts (s : State) (o : Out) : (s.send o).besidesPorts = s.besidesPorts := by
  unfold State.send
  split <;> rfl

theorem State.sendPages_besidesPorts (s : State) (n : Nat) (which : Nat × Bool × List Byte → Bool) (l : List (Nat × Bool × List Byte)) :
    (s.sendPages n which l).besidesPorts = s.besidesPorts := by
  induction l generalizing s with
  | nil => rfl
  | cons x l ih =>
    unfold State.sendPages
    split
    · exact (ih _).trans (State.send_besidesPorts _ _)
    · split
      · rfl
      · exact ih s

theorem State.countSent_besidesPorts (s : State) (c : FrnCmd) : (s.countSent c).besidesPorts = s.besidesPorts := by
  apply State.besidesPorts_of_unrecorded
  unfold State.countSent
  dsimp only
  split <;> simp only [State.count_unrecorded]

theorem State.hostLoad_besidesPorts (s : State) (c : FrnCmd) : (s.hostLoad c).besidesPorts = s.besidesPorts := by
  unfold State.hostLoad
  split <;> rfl

theorem State.transmit_besidesPorts (s : State) (n : Nat) (c : FrnCmd) : (s.transmit n c).besidesPorts = s.besidesPorts :=
  (State.hostLoad_besidesPorts _ _).trans ((State.countSent_besidesPorts _ _).trans
    ((State.sendPages_besidesPorts ..).trans (State.send_besidesPorts (s.setPort n _) _)))

theorem State.issue_besidesPorts (s : State) (n : Nat) (c : FrnCmd) : (s.issue n c).besidesPorts = s.besidesPorts := by
  unfold State.issue
  extract_lets p first
  split
  · exact State.transmit_besidesPorts ..
  · rfl

theorem State.tryPage_besidesPorts (s : State) (u : Purpose) (p : ReadPiece) (src : List (Nat × Nat)) (host : Bool) :
    (s.tryPage u p src host).besidesPorts = s.besidesPorts := by
  unfold State.tryPage
  split
  · exact (State.besidesPorts_of_unrecorded (State.count_unrecorded ..)).trans (State.issue_besidesPorts ..)
  · exact State.issue_besidesPorts ..

/-- The next try at a page changes no read, no table and no byte of memory. -/
theorem State.tryPage_frame (s : State) (u : Purpose) (p : ReadPiece) (src : List (Nat × Nat)) (host : Bool) :
    (s.tryPage u p src host).rdx = s.rdx ∧ (s.tryPage u p src host).ftl = s.ftl ∧ (s.tryPage u p src host).mem = s.mem := by
  have h := s.tryPage_besidesPorts u p src host
  have hrdx := congrArg State.rdx h
  have hftl := congrArg State.ftl h
  have hmem := congrArg State.mem h
  exact ⟨hrdx, hftl, hmem⟩

/-! The next way to read a page (R196). -/

section Tries

variable {s : State} {p : ReadPiece}

/-- A page asked for at the next level. -/
def ReadPiece.nextLevel (p : ReadPiece) : ReadPiece := { p with failed := false, level := p.level + 1 }

/-- A page asked for through die-parity assist. -/
def ReadPiece.assisted (p : ReadPiece) : ReadPiece := { p with failed := false, recon := true, level := 15 }

theorem State.nextTry_level (h : p.level < s.retryMax p.port) : s.nextTry p = some (p.nextLevel, []) := if_pos h

theorem State.nextTry_assist {src : List (Nat × Nat)} (h : s.retryMax p.port ≤ p.level) (hr : p.recon = false)
    (ha : s.assistOf p = some src) : s.nextTry p = some (p.assisted, src) := by
  rw [State.nextTry, if_neg (Nat.not_lt.mpr h), if_neg (Bool.eq_false_iff.mp hr), ha]
  rfl

theorem State.nextTry_none (h : s.retryMax p.port ≤ p.level) (hr : p.recon = true ∨ s.assistOf p = none) : s.nextTry p = none := by
  rw [State.nextTry, if_neg (Nat.not_lt.mpr h)]
  split
  · rfl
  · next hn => rw [hr.resolve_left hn, Option.map_none]

/-- While a level is left, the read does not enter the die's average (R200). -/
theorem State.levelsDone_within (h : p.level < s.retryMax p.port) : s.levelsDone p = s := if_pos (.inr h)

end Tries

/-! A piece of a read (R73, R196). -/

section Piece

variable {s : State} {job i : Nat} {r : ChunkRead} {p : ReadPiece} (hr : Tab.find s.rdx.reads job = some r)

include hr in
theorem State.find_modifyPiece (hp : r.pieces[i]? = some p) (f : ReadPiece → ReadPiece) :
    Tab.find (s.modifyPiece job i f).rdx.reads job = some { r with pieces := r.pieces.set i (f p) } := by
  refine (Tab.find_modify ..).trans ((if_pos (Eq.refl _)).trans ?_)
  rw [hr, Option.map_some, hp]

theorem State.find_modifyPiece_other (s : State) {job m : Nat} (i : Nat) (f : ReadPiece → ReadPiece) (h : m ≠ job) :
    Tab.find (s.modifyPiece job i f).rdx.reads m = Tab.find s.rdx.reads m := (Tab.find_modify ..).trans (if_neg h)

include hr in
/-- The read of a piece that cannot be reconstructed has failed. -/
theorem State.find_failRead : (Tab.find (s.failRead job).rdx.reads job).map ChunkRead.stage = some .failed := by
  rw [show Tab.find (s.failRead job).rdx.reads job = _ from Tab.find_modify .., if_pos (Eq.refl _), hr]
  rfl

include hr in
/-- A read with a piece that has no data stays as it is. -/
theorem State.assemble_waits {y : ReadPiece} (hy : y ∈ r.pieces) (hn : y.data = none) : s.assemble job = s := by
  rw [State.assemble, hr]
  refine if_neg fun h => ?_
  have := List.all_eq_true.mp h.2 y hy
  rw [hn] at this
  cases this

end Piece

/-! READ_RETRY (R196). -/

section RetryPiece

variable {s : State} {job piece : Nat} {r : ChunkRead} {p : ReadPiece} (hs : s.sideOfRead job = s.ftl.side)
  (hr : Tab.find s.rdx.reads job = some r) (hp : r.pieces[piece]? = some p) (hw : r.stage = .waiting) (hf : p.failed = true)
  (hg : p.givenUp = false)
include hs hr hp hw hf hg

theorem execReadRetry_tries {p1 : ReadPiece} {src : List (Nat × Nat)} (h : s.nextTry p = some (p1, src)) :
    exec (.readRetry (.piece job piece)) s = .next (((s.levelsDone p).modifyPiece job piece (fun _ => p1)).tryPage (.read job piece) p1 src
      (r.use == .host)) := by
  refine congrArg Host.Outcome.next ((State.onSide_home _ hs).trans ?_)
  simp only [State.retryPiece, hr, hp, hw, hf, hg, h, ne_eq, not_true_eq_false, Bool.not_true, Bool.false_eq_true, or_self, if_false]

theorem execReadRetry_givesUp (h : s.nextTry p = none) : exec (.readRetry (.piece job piece)) s =
    .next (if p.stripe.isSome then (s.levelsDone p).modifyPiece job piece ReadPiece.lostPage else (s.levelsDone p).nextSource job) := by
  refine congrArg Host.Outcome.next ((State.onSide_home _ hs).trans ?_)
  simp only [State.retryPiece, hr, hp, hw, hf, hg, h, ne_eq, not_true_eq_false, Bool.not_true, Bool.false_eq_true, or_self, if_false]

theorem readRetryLevel_row (h : p.level < s.retryMax p.port) : Runs (.readRetry (.piece job piece)) s fun t =>
    (∃ q, Tab.find t.rdx.reads job = some q ∧ q.pieces[piece]? = some p.nextLevel ∧ q.stage = .waiting) ∧
    (∀ m, m ≠ job → Tab.find t.rdx.reads m = Tab.find s.rdx.reads m) ∧ t.ftl = s.ftl ∧ SameMemory s t := by
  refine ⟨_, execReadRetry_tries hs hr hp hw hf hg (State.nextTry_level h), ?_⟩
  rw [State.levelsDone_within h]
  obtain ⟨hrdx, hftl, hmem⟩ := (s.modifyPiece job piece (fun _ => p.nextLevel)).tryPage_frame (.read job piece) p.nextLevel [] (r.use == .host)
  rw [hrdx, hftl]
  have hlt : piece < r.pieces.length := (List.getElem?_eq_some_iff.mp hp).1
  exact ⟨⟨_, State.find_modifyPiece hr hp _, List.getElem?_set_self hlt, hw⟩, fun m hm => s.find_modifyPiece_other _ _ hm, Eq.refl _,
    sameMemory_of_mem hmem⟩

end RetryPiece

theorem execReadRetry_page {s : State} {n m : Nat} {r : SetRead} {p : ReadPiece} (hs : n % 2 = s.ftl.side)
    (hr : Tab.find s.rdn.sets n = some r) (hp : Tab.find r.pages m = some p) (hf : p.failed = true) (hg : p.givenUp = false)
    (h : p.level < s.retryMax p.port) : exec (.readRetry (.page n m)) s =
    .next ((s.modifySet n (fun r => { r with pages := Tab.insert r.pages m p.nextLevel })).tryPage (.setPage n m) p.nextLevel []
      r.use.isHost) := by
  refine congrArg Host.Outcome.next ((State.onSide_home _ hs).trans ?_)
  simp only [State.retrySet, hr, hp, hf, hg, State.nextTry_level h, State.levelsDone_within h, Bool.not_true, Bool.false_eq_true, or_self,
    if_false]

/-! HOST_RECONSTRUCT (R207 to R210). -/

section Reconstruct

variable {s : State} {job piece id m slot n : Nat} {r : ChunkRead} {p : ReadPiece} {x : Stripe} {q : SetRead}

theorem execHostReconstruct_works (hs : s.sideOfRead job = s.ftl.side) (hr : Tab.find s.rdx.reads job = some r)
    (hp : r.pieces[piece]? = some p) (hw : r.stage = .waiting) (hg : p.givenUp = true) (hid : p.stripe = some id)
    (hx : Tab.find s.ftl.stripes id = some x) :
    exec (.hostReconstruct job piece) s = .next (s.hostReconstruct job piece r p id x) := by
  have hfilter : (r.pieces[piece]?).filter (fun p => r.stage == .waiting && p.givenUp) = some p := by
    rw [hp, hw, Option.filter_some, if_pos (by rw [hg]; rfl)]
  refine congrArg Host.Outcome.next ((State.onSide_home _ hs).trans ?_)
  simp only [hr, hfilter, hid, hx]

variable (hspot : x.spot r.place = (m, slot))
include hspot

theorem State.hostReconstruct_hopeless (h : x.setLost p.page slot = true ∨ x.rowsDone ≤ p.page) :
    s.hostReconstruct job piece r p id x = s.failRead job := by
  rw [State.hostReconstruct, hspot]
  exact if_pos ((Bool.or_eq_true ..).mpr (h.imp_right decide_eq_true))

variable (hl : x.setLost p.page slot = false) (hd : p.page < x.rowsDone)
include hl hd

theorem State.hostReconstruct_asks (h : s.hostSet job piece = none) : s.hostReconstruct job piece r p id x =
    (s.startSet { unit := id, row := p.page, slot := slot, use := .host job piece, pages := [] }).count F.FTL.STAT.COUNT 8 := by
  simp only [State.hostReconstruct, hspot, hl, h, decide_eq_false (Nat.not_le.mpr hd), Bool.or_self, Bool.false_eq_true, if_false]

variable (hset : s.hostSet job piece = some (n, q))
include hset

theorem State.hostReconstruct_loses (h : (s.sources x q).length < x.dataMembers) : s.hostReconstruct job piece r p id x =
    ((s.loseSet id p.page slot (s.missingOfSet x q)).dropSet n).failRead job := by
  simp only [State.hostReconstruct, hspot, hl, hset, h, decide_eq_false (Nat.not_le.mpr hd), Bool.or_self, Bool.false_eq_true, if_false,
    if_true]

/-- A piece with its bytes. -/
def ReadPiece.given (p : ReadPiece) (bytes : List Byte) : ReadPiece := { p with data := some bytes, failed := false }

/-- A piece given its bytes, with what RDN's work on it costs and shows (R198, R209). -/
def State.pieceRebuilt (s : State) (job piece id m n : Nat) (x : Stripe) (p : ReadPiece) (bytes : List Byte) : State :=
  let s1 := (s.modifyPiece job piece (fun p => p.given bytes)).assemble job
  let s2 := ((s1.dropSet n).chargeRdn x.dataMembers 1).count F.RDN.STAT.COUNT 1
  let s3 := if (x.members[m]?).any StripeMember.failed then s2 else s2.noteRecovered (blockKey p.port p.die p.block) p.page
  s3.refreshStripe id

theorem State.hostReconstruct_rebuilds {whole : List (List Byte)} (hmany : x.dataMembers ≤ (s.sources x q).length)
    (hall : (s.wanted x q).all (fun w => (Tab.find q.pages w).any (fun y => y.data.isSome)) = true) (hfree : s.rdnFree = true)
    (hwhole : reconstruct (x.usablePages p.page slot ((q.got x.members.length).set m none)) = some whole) :
    s.hostReconstruct job piece r p id x =
      s.pieceRebuilt job piece id m n x p (((whole.getD m []).drop (p.col * 64)).take (p.xlen * 64)) := by
  simp only [State.hostReconstruct, hspot, hl, hset, hall, hfree, hwhole, Nat.not_lt.mpr hmany, decide_eq_false (Nat.not_le.mpr hd),
    Bool.or_self, Bool.not_true, Bool.false_eq_true, if_false]
  rfl

end Reconstruct

/-! What RDN's work on a set leaves alone. -/

theorem State.formRecord_rdx (s : State) (items : List JItem) (c : Option Nat) (p : Bool) : (s.formRecord items c p).rdx = s.rdx := by
  have h := congrArg State.rdx (s.formRecord_unrecorded items c p)
  exact h

theorem State.closeStripe_rdx (s : State) (id st : Nat) : (s.closeStripe id st).rdx = s.rdx := by
  unfold State.closeStripe
  split
  · rfl
  · dsimp only [State.formSj]
    rw [State.formRecord_rdx]
    rfl

theorem State.refreshStripe_rdx (s : State) (id : Nat) : (s.refreshStripe id).rdx = s.rdx := by
  unfold State.refreshStripe
  split
  · rfl
  · split
    · rw [State.count_rdx, State.closeStripe_rdx]
    · split
      · rfl
      · rw [State.count_rdx, State.formRecord_rdx]

theorem State.noteRecovered_rdx (s : State) (key page : Nat) : (s.noteRecovered key page).rdx = s.rdx := by
  unfold State.noteRecovered
  dsimp only
  split <;> rfl

theorem State.chargeRdn_rdx (s : State) (d n : Nat) : (s.chargeRdn d n).rdx = s.rdx := by
  induction n generalizing s with
  | zero => rfl
  | succ n ih =>
    refine (ih _).trans ?_
    split <;> rfl

theorem State.pieceRebuilt_rdx (s : State) (job piece id m n : Nat) (x : Stripe) (p : ReadPiece) (bytes : List Byte) :
    (s.pieceRebuilt job piece id m n x p bytes).rdx =
      ((s.modifyPiece job piece (fun p => p.given bytes)).assemble job).rdx := by
  unfold State.pieceRebuilt
  dsimp only
  rw [State.refreshStripe_rdx, apply_ite State.rdx, State.noteRecovered_rdx, ite_self, State.count_rdx, State.chargeRdn_rdx]
  rfl

theorem State.loseSet_rdx (s : State) (id row slot members : Nat) : (s.loseSet id row slot members).rdx = s.rdx := by
  unfold State.loseSet
  split
  · rfl
  · split
    · rfl
    · exact State.count_rdx ..

/-- A set named in a LOSS record is lost. -/
theorem State.loseSet_lost {s : State} {id : Nat} {x : Stripe} (row slot members : Nat) (hx : Tab.find s.ftl.stripes id = some x)
    (hl : x.setLost row slot = false) :
    (Tab.find (s.loseSet id row slot members).ftl.stripes id).any (fun y => y.setLost row slot) = true := by
  rw [State.loseSet, hx]
  dsimp only
  rw [if_neg (Bool.eq_false_iff.mp hl), State.count_ftl]
  refine (congrArg (Option.any _) (Tab.find_modify ..)).trans ?_
  simp [hx, Stripe.setLost]

/-! The rows of HOST_RECONSTRUCT. -/

/-- Of two pieces or more without data, another one than a given one is still without. -/
theorem exists_piece_without_data {l : List ReadPiece} (h : ∀ y ∈ l, y.data = none) (hlen : 2 ≤ l.length) (i : Nat) (v : ReadPiece) :
    ∃ y ∈ l.set i v, y.data = none := by
  obtain ⟨j, hj, hne⟩ : ∃ j, j < l.length ∧ i ≠ j := by
    by_cases hi : i = 0
    · exact ⟨1, by omega, by omega⟩
    · exact ⟨0, by omega, hi⟩
  refine ⟨l[j], List.mem_of_getElem? (i := j) ?_, h _ (List.getElem_mem hj)⟩
  rw [List.getElem?_set_ne hne, List.getElem?_eq_getElem hj]

/-- A piece that has been reconstructed has its bytes while another one of its read is still without. -/
theorem State.pieceRebuilt_piece {s : State} {job piece : Nat} {r : ChunkRead} {p : ReadPiece} (hr : Tab.find s.rdx.reads job = some r)
    (hp : r.pieces[piece]? = some p) (hnone : ∀ y ∈ r.pieces, y.data = none) (hlen : 2 ≤ r.pieces.length) (id m n : Nat) (x : Stripe)
    (bytes : List Byte) : ∃ y, Tab.find (s.pieceRebuilt job piece id m n x p bytes).rdx.reads job = some y ∧
      y.pieces[piece]? = some (p.given bytes) := by
  have hfind := State.find_modifyPiece hr hp (fun p => p.given bytes)
  obtain ⟨y, hy, hyn⟩ := exists_piece_without_data hnone hlen piece (p.given bytes)
  rw [State.pieceRebuilt_rdx, State.assemble_waits hfind hy hyn]
  exact ⟨_, hfind, List.getElem?_set_self (List.getElem?_eq_some_iff.mp hp).1⟩

section Rows

variable {s : State} {job piece id : Nat} {r : ChunkRead} {p : ReadPiece} {x : Stripe}
  (hs : s.sideOfRead job = s.ftl.side) (hr : Tab.find s.rdx.reads job = some r) (hp : r.pieces[piece]? = some p)
  (hw : r.stage = .waiting) (hg : p.givenUp = true) (hid : p.stripe = some id) (hx : Tab.find s.ftl.stripes id = some x)
include hs hr hp hw hg hid hx

theorem hostReconstructHopeless_row (h : x.setLost p.page (x.spot r.place).2 = true ∨ x.rowsDone ≤ p.page) :
    Runs (.hostReconstruct job piece) s fun t =>
    t = s.failRead job ∧ (Tab.find t.rdx.reads job).map ChunkRead.stage = some .failed := by
  refine ⟨_, execHostReconstruct_works hs hr hp hw hg hid hx, ?_⟩
  rw [State.hostReconstruct_hopeless Prod.mk.eta.symm h]
  exact ⟨Eq.refl _, State.find_failRead hr⟩

variable (hl : x.setLost p.page (x.spot r.place).2 = false) (hd : p.page < x.rowsDone)
include hl hd

theorem execHostReconstruct_asks (h : s.hostSet job piece = none) : exec (.hostReconstruct job piece) s = .next
    ((s.startSet { unit := id, row := p.page, slot := (x.spot r.place).2, use := .host job piece, pages := [] }).count F.FTL.STAT.COUNT 8) :=
  (execHostReconstruct_works hs hr hp hw hg hid hx).trans
    (congrArg Host.Outcome.next (State.hostReconstruct_asks Prod.mk.eta.symm hl hd h))

variable {n : Nat} {q : SetRead} (hset : s.hostSet job piece = some (n, q))
include hset

theorem hostReconstructLoses_row (h : (s.sources x q).length < x.dataMembers) : Runs (.hostReconstruct job piece) s fun t =>
    (Tab.find t.rdx.reads job).map ChunkRead.stage = some .failed ∧
    (Tab.find t.ftl.stripes id).any (fun y => y.setLost p.page (x.spot r.place).2) = true := by
  refine ⟨_, execHostReconstruct_works hs hr hp hw hg hid hx, ?_⟩
  rw [State.hostReconstruct_loses Prod.mk.eta.symm hl hd hset h]
  exact ⟨State.find_failRead ((congrArg (fun y : Rdx => Tab.find y.reads job) (State.loseSet_rdx ..)).trans hr),
    State.loseSet_lost _ _ _ hx hl⟩

theorem hostReconstructRebuilds_row {whole : List (List Byte)} (hmany : x.dataMembers ≤ (s.sources x q).length)
    (hall : (s.wanted x q).all (fun w => (Tab.find q.pages w).any (fun y => y.data.isSome)) = true) (hfree : s.rdnFree = true)
    (hwhole : reconstruct (x.usablePages p.page (x.spot r.place).2 ((q.got x.members.length).set (x.spot r.place).1 none)) = some whole)
    (hnone : ∀ y ∈ r.pieces, y.data = none) (hlen : 2 ≤ r.pieces.length) : Runs (.hostReconstruct job piece) s fun t =>
    ∃ y, Tab.find t.rdx.reads job = some y ∧
      y.pieces[piece]? = some (p.given (((whole.getD (x.spot r.place).1 []).drop (p.col * 64)).take (p.xlen * 64))) := by
  refine ⟨_, execHostReconstruct_works hs hr hp hw hg hid hx, ?_⟩
  rw [State.hostReconstruct_rebuilds Prod.mk.eta.symm hl hd hset hmany hall hfree hwhole]
  exact State.pieceRebuilt_piece hr hp hnone hlen ..

end Rows

end Sys2Proof.Machine
end

section
/-!
The patrol (R202, R203): PATROL_ROW and PATROL_LATE.
-/

namespace Sys2Proof.Machine

/-! PATROL_ROW (R202). -/

/-- What the sets of a row of a unit are read for. -/
def PatrolUnit.use (u : PatrolUnit) : SetFor := if u.kind = 0 then .patrol else .block

section PatrolRow

variable {s : State} {t0 : Nat} (ho : s.other = none) (hen : s.fld F.FTL.PATROL_CTL.EN = 1) (hg : s.granted Cls.patrol = true)
  (ht : s.ftl.patrol.since = some t0)
include ho hen hg ht

theorem execPatrolRow_ends (hu : s.ftl.patrol.units.dropWhile (fun u => !s.patrolHere u) = []) :
    exec .patrolRow s = .next s.endPass := by
  refine congrArg Host.Outcome.next ((State.eitherSide_single _ ho).trans ?_)
  simp only [hen, hg, ht, hu, Nat.one_ne_zero, Bool.not_true, Option.isNone_some, Bool.false_eq_true, or_self, if_false]

variable {u : PatrolUnit} {us : List PatrolUnit} (hu : s.ftl.patrol.units.dropWhile (fun u => !s.patrolHere u) = u :: us)
include hu

theorem execPatrolRow_asks (hsets : s.rowSets u.use u.id u.next = []) : exec .patrolRow s =
    .next (((s.keepPatrol u.use u.id u.next).patrolAsk u).spend Cls.patrol (s.patrolRowBytes u)) := by
  refine congrArg Host.Outcome.next ((State.eitherSide_single _ ho).trans ?_)
  simp only [hen, hg, ht, hu, Nat.one_ne_zero, Bool.not_true, Option.isNone_some, Bool.false_eq_true, or_self, if_false]
  exact if_pos hsets

theorem execPatrolRow_settles (hsets : s.rowSets u.use u.id u.next ≠ [])
    (hall : (s.rowSets u.use u.id u.next).all (fun q => q.2.settled) = true) (hr : s.rdnTakes = true) : exec .patrolRow s =
    .next ((((s.rowSets u.use u.id u.next).map Prod.fst).foldl State.dropSet (s.patrolEnd u (s.rowSets u.use u.id u.next))).patrolNext u us) := by
  refine congrArg Host.Outcome.next ((State.eitherSide_single _ ho).trans ?_)
  simp only [hen, hg, ht, hu, Nat.one_ne_zero, Bool.not_true, Option.isNone_some, Bool.false_eq_true, or_self, if_false]
  exact (if_neg hsets).trans (if_pos ⟨hall, hr⟩)

end PatrolRow

/-- The patrol passes on to the next row of its unit. -/
theorem State.patrolNext_row (s : State) {u : PatrolUnit} (us : List PatrolUnit) (h : u.next + 1 < u.stop) :
    (s.patrolNext u us).ftl.patrol.units = { u with next := u.next + 1 } :: us ∧
    (s.patrolNext u us).ftl.patrol.done = s.ftl.patrol.done + s.patrolRowBytes u ∧
    (s.patrolNext u us).ftl.patrol.since = s.ftl.patrol.since ∧ (s.patrolNext u us).ftl.tables = s.ftl.tables := by
  unfold State.patrolNext
  simp only [if_pos h, reduceCtorEq, if_false, State.count_ftl, and_self]

/-! The end of a pass (R203). -/

/-- PATROL_PASS in EVENT, and one pass more in PASSES. -/
def State.passCounted (s : State) : State :=
  (s.event Src.FTL 12).put F.FTL.PATROL_STATUS.PASSES (s.fld F.FTL.PATROL_STATUS.PASSES + 1)

theorem State.endPass_eq (s : State) : s.endPass = s.passCounted.beginPass := by rfl

theorem patrolPasses_ok : F.FTL.PATROL_STATUS.PASSES.ok := by decide

/-- A register written leaves the signals of others. -/
theorem Signals.put {s t : State} {src bit unit : Nat} (h : Signals s t src bit unit) (f : Fld) (v : Nat) (hf : eventAddr src ≠ f.addr) :
    Signals s (t.put f v) src bit unit := ⟨(State.reg_put_other _ _ _ _ hf).trans h.1, h.2⟩

/-- What FTL holds is no register. -/
theorem State.fld_withFtl (s : State) (f : Ftl) (g : Fld) : ({ s with ftl := f } : State).fld g = s.fld g := State.fld_congr (by rfl) g

theorem Signals.withFtl {s t : State} {src bit unit : Nat} (h : Signals s t src bit unit) (f : Ftl) :
    Signals s { t with ftl := f } src bit unit := ⟨(State.reg_congr (Eq.refl _) _).trans h.1, h.2⟩

theorem State.passCounted_row (s : State) : let t := s.passCounted
    t.fld F.FTL.PATROL_STATUS.PASSES = (s.fld F.FTL.PATROL_STATUS.PASSES + 1) %
      2 ^ (F.FTL.PATROL_STATUS.PASSES.hi - F.FTL.PATROL_STATUS.PASSES.lo + 1) ∧ Signals s t Src.FTL 12 0 ∧
    t.now = s.now ∧ t.ftl = s.ftl := by
  have hevent := State.event_signals s s Src.FTL 12 0 0 0 (eventAddr_not_mem_recordRegs _ (by decide)) (Eq.refl _) (Eq.refl _) (Eq.refl _)
  exact ⟨State.fld_put_same _ _ _ patrolPasses_ok, Signals.put hevent _ _ (by decide),
    congrArg Tck.tick ((State.put_tck ..).trans (State.event_tck ..)), (State.put_ftl ..).trans (State.event_ftl ..)⟩

/-- A pass that begins changes the patrol alone, which has read nothing of it yet. -/
theorem State.beginPass_eq (s : State) : ∃ p : Patrol, s.beginPass = { s with ftl := { s.ftl with patrol := p } } ∧
    p.since = some s.now ∧ p.done = 0 ∧ p.late = false := ⟨_, Eq.refl _, Eq.refl _, Eq.refl _, Eq.refl _⟩

theorem patrolPass_row {s : State} {t0 : Nat} (ho : s.other = none) (hen : s.flag F.FTL.PATROL_CTL.EN = true)
    (hg : s.granted Cls.patrol = true) (ht : s.ftl.patrol.since = some t0)
    (hu : s.ftl.patrol.units.dropWhile (fun u => !s.patrolHere u) = []) : Runs .patrolRow s fun t =>
    t.fld F.FTL.PATROL_STATUS.PASSES = (s.fld F.FTL.PATROL_STATUS.PASSES + 1) %
      2 ^ (F.FTL.PATROL_STATUS.PASSES.hi - F.FTL.PATROL_STATUS.PASSES.lo + 1) ∧ Signals s t Src.FTL 12 0 ∧
    t.ftl.patrol.since = some s.now ∧ t.ftl.patrol.done = 0 ∧ t.ftl.patrol.late = false ∧ t.ftl.tables = s.ftl.tables := by
  have he : exec .patrolRow s = .next s.passCounted.beginPass := by
    rw [execPatrolRow_ends ho (beq_iff_eq.mp hen) hg ht hu, State.endPass_eq]
  obtain ⟨hpasses, hsignals, hnow, hftl⟩ := s.passCounted_row
  generalize s.passCounted = c at he hpasses hsignals hnow hftl
  obtain ⟨p, hpass, hsince, hdone, hlate⟩ := c.beginPass_eq
  rw [hnow] at hsince
  have htables := congrArg Ftl.tables hftl
  refine ⟨_, he.trans (congrArg Host.Outcome.next hpass), ?_, Signals.withFtl hsignals _, hsince, hdone, hlate, htables⟩
  rw [State.fld_withFtl]
  exact hpasses

/-! PATROL_LATE (R203). -/

/-- The pass runs late. -/
def State.patrolBehind (s : State) : State := { s with ftl := { s.ftl with patrol := { s.ftl.patrol with late := true } } }

theorem execPatrolLate_signals {s : State} {t0 : Nat} (ho : s.other = none) (ht : s.ftl.patrol.since = some t0)
    (hl : s.ftl.patrol.late = false) (hp : 5 * s.patrolPeriod < 4 * (s.now - t0)) :
    exec .patrolLate s = .next (s.patrolBehind.event Src.FTL 13) := by
  refine congrArg Host.Outcome.next ((State.eitherSide_single _ ho).trans ?_)
  simp only [ht, hl, gt_iff_lt, hp, decide_true, Bool.not_false, Bool.and_self, if_true]
  rw [← ht]
  rfl

theorem patrolLate_row {s : State} {t0 : Nat} (ho : s.other = none) (ht : s.ftl.patrol.since = some t0)
    (hl : s.ftl.patrol.late = false) (hp : 5 * s.patrolPeriod < 4 * (s.now - t0)) : Runs .patrolLate s fun t =>
    t.ftl = { s.ftl with patrol := { s.ftl.patrol with late := true } } ∧ Signals s t Src.FTL 13 0 ∧
    t = { s with ftl := t.ftl, regs := t.regs, evr := t.evr } := by
  have hftl := State.event_ftl s.patrolBehind Src.FTL 13 0 0 0
  refine ⟨_, execPatrolLate_signals ho ht hl hp, hftl, ?_, ?_⟩
  · exact State.event_signals _ s _ _ _ _ _ (eventAddr_not_mem_recordRegs _ (by decide)) (Eq.refl _) (Eq.refl _) (Eq.refl _)
  · rw [hftl]
    exact State.eq_of_unrecorded (s := s.patrolBehind) (State.event_unrecorded ..)

end Sys2Proof.Machine
end

section
/-!
The background rows of FTL: the statement.
-/

open Sys2Proof Sys2Proof.Machine

/-- Settles O41: each row by the branch of its meaning that its conditions choose. -/
theorem flashBackgroundRows : Obligations.FlashBackgroundRows := by
  refine ⟨fun s s1 kind cls c k b h => State.moveToBulk_moved h, fun s => Eq.refl _, fun s => Eq.refl _,
    fun s ho h => ⟨execFold_noReads ho h, execGcCopy_noReads ho h⟩,
    fun s cls c e rest hr => ⟨fun hg => State.askReads_granted hr hg rest, fun hg => State.askReads_ungranted hr hg rest⟩,
    fun s t kind cls stripeCls c n room e r rest hr hs hh hm => ⟨fun h => ?_, fun h => ?_⟩,
    fun s cls n b ho hp => ⟨_, State.placeBulk_unplaceable b n ho hp, s.event_rows 9 _ 0 0⟩,
    fun s c m hs hm hk hd => mossRelease_row hs hm hk hd, fun s id b ho he hq hr hw hb => unitErase_row ho he hq hr hw hb,
    fun s ho => ⟨fun h => execChunkRewrite_nothing ho h, fun w e hw he => ⟨fun h => ?_, fun h => ?_⟩⟩,
    fun s job piece r p hs hr hp hw hf hg => ⟨fun h => readRetryLevel_row hs hr hp hw hf hg h,
      fun h hn src ha => execReadRetry_tries hs hr hp hw hf hg (State.nextTry_assist h hn ha),
      fun h hn => execReadRetry_givesUp hs hr hp hw hf hg (State.nextTry_none h hn)⟩,
    fun s n m r p hs hr hp hf hg h => execReadRetry_page hs hr hp hf hg h,
    fun s job piece id r p x hs hr hp hw hg hid hx => ⟨fun h => hostReconstructHopeless_row hs hr hp hw hg hid hx h,
      fun hl hd h => execHostReconstruct_asks hs hr hp hw hg hid hx hl hd h,
      fun n q hl hd h => ⟨fun hfew => hostReconstructLoses_row hs hr hp hw hg hid hx hl hd h hfew,
        fun whole hmany hall hfree hwhole hnone hlen =>
          hostReconstructRebuilds_row hs hr hp hw hg hid hx hl hd h hmany hall hfree hwhole hnone hlen⟩⟩,
    fun s t0 ho hen hg ht hu => patrolPass_row ho hen hg ht hu,
    fun s t0 u us ho hen hg ht hu => ⟨fun h => execPatrolRow_asks ho (beq_iff_eq.mp hen) hg ht hu h,
      fun h hall hr => execPatrolRow_settles ho (beq_iff_eq.mp hen) hg ht hu h hall hr⟩,
    fun s u us h => s.patrolNext_row us h, fun s t0 ho ht hl hp => patrolLate_row ho ht hl hp⟩
  · rw [State.placeReady_ready hr hs hh hm, h]
    rfl
  · rw [State.placeReady_ready hr hs hh hm, h]
    rfl
  · exact (execChunkRewrite_moves ho hw he).trans (congrArg Host.Outcome.next (if_pos h))
  · exact (execChunkRewrite_moves ho hw he).trans (congrArg Host.Outcome.next (if_neg h))
end

section
/-!
Laws of host commands: what changes with a command, with an association and with a connection, and what its row does to a command that
ends, returns data or fetches its data (R285, R294, R328).
-/

namespace Sys2Proof.Machine

/-! Tables. -/

theorem Tab.insert_insert {α : Type} (m : Tab α) (a : Nat) (v w : α) : Tab.insert (Tab.insert m a v) a w = Tab.insert m a w := by
  induction m with
  | nil => simp [Tab.insert]
  | cons p m ih =>
    obtain ⟨k, u⟩ := p
    rcases Nat.lt_trichotomy a k with h | h | h
    · simp [Tab.insert, h]
    · simp [Tab.insert, h]
    · simp [Tab.insert, Nat.not_lt.mpr h.le, h.ne', ih]

theorem Tab.modify_modify {α : Type} (m : Tab α) (a : Nat) (f g : α → α) :
    Tab.modify (Tab.modify m a f) a g = Tab.modify m a (fun v => g (f v)) := by
  cases h : Tab.find m a with
  | none => simp [Tab.modify, h]
  | some v => simp [Tab.modify, h, Tab.find_insert, Tab.insert_insert]

/-- A table of the entries whose keys satisfy a condition. -/
theorem Tab.find_filter_key {α : Type} (m : Tab α) (p : Nat → Bool) (a : Nat) :
    Tab.find (m.filter (fun q => p q.1)) a = if p a then Tab.find m a else none := by
  induction m with
  | nil => simp [Tab.find]
  | cons q m ih =>
    obtain ⟨k, v⟩ := q
    by_cases hk : p k = true
    · rw [List.filter_cons_of_pos (p := fun q : Nat × α => p q.1) hk, Tab.find, Tab.find, ih]
      split
      · next h => rw [h, if_pos hk]
      · rfl
    · rw [List.filter_cons_of_neg (p := fun q : Nat × α => p q.1) hk, ih]
      by_cases h : a = k
      · rw [h, if_neg hk, if_neg hk]
      · rw [Tab.find, if_neg h]

/-- A table whose entries are changed each by its key. -/
theorem Tab.find_map_entry {α : Type} (m : Tab α) (f : Nat → α → α) (a : Nat) :
    Tab.find (m.map (fun q => (q.1, f q.1 q.2))) a = (Tab.find m a).map (f a) := by
  induction m with
  | nil => rfl
  | cons q m ih =>
    rw [List.map_cons, Tab.find, Tab.find, ih]
    split
    · next h => rw [h]; rfl
    · rfl

/-! A command changed. -/

section Commands

variable {s : State} {key : Nat} {c : Cmd}

theorem State.cmd_modifyCmd (s : State) (key m : Nat) (f : Cmd → Cmd) :
    (s.modifyCmd key f).cmd m = if m = key then (s.cmd key).map f else s.cmd m := Tab.find_modify _ _ _ _

theorem State.cmd_modifyCmd_same (h : s.cmd key = some c) (f : Cmd → Cmd) : (s.modifyCmd key f).cmd key = some (f c) := by
  rw [State.cmd_modifyCmd, if_pos (Eq.refl _), h]; rfl

theorem State.otherCmds_modifyCmd (s : State) (key : Nat) (f : Cmd → Cmd) : OtherCmds key s (s.modifyCmd key f) :=
  fun m hm => (s.cmd_modifyCmd key m f).trans (if_neg hm)

theorem State.modifyCmd_modifyCmd (s : State) (key : Nat) (f g : Cmd → Cmd) :
    (s.modifyCmd key f).modifyCmd key g = s.modifyCmd key (fun c => g (f c)) := by
  unfold State.modifyCmd
  dsimp only
  rw [Tab.modify_modify]

/-- The work of a command ends. -/
theorem State.finish_ends (h : s.cmd key = some c) (status dw0 : Nat) : Ends key c status dw0 s (s.finish key status dw0) :=
  ⟨State.cmd_modifyCmd_same h _, State.otherCmds_modifyCmd s key _, Eq.refl _⟩

/-! Rows of admin and Fabrics commands. -/

theorem State.runAdmin_ready {opcode : Nat} {v : Vc} {a : Assoc} (h : AdminReady s key opcode c v a) (f : Cmd → Vc → Assoc → State) :
    s.runAdmin key opcode f = f c v a := by
  obtain ⟨hc, hst, hq, hop, hv, ha, hfuse, hptr⟩ := h
  simp [State.runAdmin, hc, hst, hq, hop, hv, ha, hfuse, hptr]

/-- A row that runs an admin command does so for one that is ready. -/
theorem adminRow {i : Instr} {opcode : Nat} {v : Vc} {a : Assoc} {f : Cmd → Vc → Assoc → State} {P : State → Prop}
    (h : AdminReady s key opcode c v a) (hi : exec i s = .next (s.runAdmin key opcode f)) (hP : P (f c v a)) : Runs i s P :=
  ⟨_, hi.trans (congrArg Host.Outcome.next (State.runAdmin_ready h f)), hP⟩

/-- As `adminRow`, for a command that ends with nothing done. -/
theorem adminRow_ends {i : Instr} {opcode status dw0 : Nat} {v : Vc} {a : Assoc} {f : Cmd → Vc → Assoc → State}
    (h : AdminReady s key opcode c v a) (hi : exec i s = .next (s.runAdmin key opcode f))
    (hf : f c v a = s.finish key status dw0) : Runs i s (Ends key c status dw0 s) :=
  adminRow h hi (hf ▸ State.finish_ends h.1 status dw0)

theorem State.runFabrics_ready {fctype : Nat} (h : FabricsReady s key fctype c) (f : Cmd → State) :
    s.runFabrics key fctype f = f c := by
  obtain ⟨hc, hop, hty, hst⟩ := h
  simp [State.runFabrics, hc, hop, hty, hst]

/-- A row that runs a Fabrics command does so for one that is ready. -/
theorem fabricsRow {i : Instr} {fctype : Nat} {f : Cmd → State} {P : State → Prop}
    (h : FabricsReady s key fctype c) (hi : exec i s = .next (s.runFabrics key fctype f)) (hP : P (f c)) : Runs i s P :=
  ⟨_, hi.trans (congrArg Host.Outcome.next (State.runFabrics_ready h f)), hP⟩

/-- As `fabricsRow`, for a command that ends with nothing done. -/
theorem fabricsRow_ends {i : Instr} {fctype status dw0 : Nat} {f : Cmd → State} (h : FabricsReady s key fctype c)
    (hi : exec i s = .next (s.runFabrics key fctype f)) (hf : f c = s.finish key status dw0) :
    Runs i s (Ends key c status dw0 s) :=
  fabricsRow h hi (hf ▸ State.finish_ends h.1 status dw0)

/-! A virtual controller changed together with a command of it. -/

theorem State.vc_modifyVc (s : State) (i m : Nat) (f : Vc → Vc) :
    (s.modifyVc i f).vc m = if m = i then (s.vc i).map f else s.vc m := Tab.find_modify _ _ _ _

/-- A virtual controller and a command are as given, and nothing else has changed. -/
def VcAndCmdSet (i key : Nat) (v : Vc) (c : Cmd) (s t : State) : Prop :=
  t.vc i = some v ∧ OtherVcs i s t ∧ t.cmd key = some c ∧ OtherCmds key s t ∧
    t = { s with cmf := { s.cmf with cmds := t.cmf.cmds }, vct := { s.vct with vcs := t.vct.vcs } }

theorem State.modifyAssoc_modifyCmd {i : Nat} {v : Vc} {a : Assoc} (hc : s.cmd key = some c) (hv : s.vc i = some v)
    (ha : v.assoc = some a) (f : Assoc → Assoc) (g : Cmd → Cmd) :
    VcAndCmdSet i key { v with assoc := some (f a) } (g c) s ((s.modifyAssoc i f).modifyCmd key g) := by
  have hvc (m : Nat) := s.vc_modifyVc i m (fun x => { x with assoc := x.assoc.map f })
  refine ⟨?_, fun m hm => (hvc m).trans (if_neg hm), State.cmd_modifyCmd_same (s := s.modifyAssoc i f) hc g,
    State.otherCmds_modifyCmd (s.modifyAssoc i f) key g, Eq.refl _⟩
  refine (hvc i).trans ?_
  rw [if_pos (Eq.refl _), hv, Option.map_some, ha]
  rfl

/-- A row that changes the association of an admin command's controller, and the command. -/
theorem adminRow_sets {i : Instr} {opcode : Nat} {v : Vc} {a : Assoc} {f : Cmd → Vc → Assoc → State} (fa : Assoc → Assoc) (g : Cmd → Cmd)
    (h : AdminReady s key opcode c v a) (hi : exec i s = .next (s.runAdmin key opcode f))
    (hf : f c v a = (s.modifyAssoc c.vc fa).modifyCmd key g) :
    Runs i s (VcAndCmdSet c.vc key { v with assoc := some (fa a) } (g c) s) := by
  obtain ⟨hc, -, -, -, hv, ha, -⟩ := id h
  exact adminRow h hi (hf ▸ State.modifyAssoc_modifyCmd hc hv ha fa g)

/-- As `adminRow_sets`, for a Fabrics command. -/
theorem fabricsRow_sets {i : Instr} {fctype : Nat} {v : Vc} {a : Assoc} {f : Cmd → State} (fa : Assoc → Assoc) (g : Cmd → Cmd)
    (h : FabricsReady s key fctype c) (hv : s.vc c.vc = some v) (ha : v.assoc = some a)
    (hi : exec i s = .next (s.runFabrics key fctype f)) (hf : f c = (s.modifyAssoc c.vc fa).modifyCmd key g) :
    Runs i s (VcAndCmdSet c.vc key { v with assoc := some (fa a) } (g c) s) :=
  fabricsRow h hi (hf ▸ State.modifyAssoc_modifyCmd h.1 hv ha fa g)

/-! Data returned to the host, and fetched from it (R285, R315, R328). -/

/-- A serving head may transmit anything. -/
theorem State.maySendOut_serving (h : s.lcs.mode.serving = true) (o : Out) : s.maySendOut o = true := by
  unfold State.maySendOut
  split
  · next hm => rw [hm] at h; cases h
  · next hm => rw [hm] at h; cases h
  · rfl

/-- A RoCEv2 message of a serving head is transmitted, and kept with its connection. -/
theorem State.roceMessage_serving (h : s.lcs.mode.serving = true) (n : Nat) (k : Conn) (op : Nat) (what : TxFor)
    (reth bytes : List Byte) (want : Nat) : ∃ conns, s.roceMessage n k op what reth bytes want = { s with
      qpc := { s.qpc with conns := conns },
      out := s.out ++ [.roce n op k.npsn (packetsOf k.seg (if op = 4 then want else bytes.length)) (reth ++ bytes)] } :=
  ⟨_, State.send_of_maySendOut (State.maySendOut_serving h _)⟩

/-- Data returned on a RoCEv2 connection that is ready. -/
theorem State.returnData_roce {k : Conn} (hc : s.cmd key = some c) (h : RoceReply s c k) (b : List Byte) :
    Returns key c k b s (s.returnData key b) := by
  obtain ⟨hpeer, hstamps, hready, hroce, hserving⟩ := h
  obtain ⟨conns, hsent⟩ := State.roceMessage_serving hserving c.conn k 2 (.readData key) (rethBytes (c.sglAddr + 0) c.sglKey b.length) b 0
  have ht : s.returnData key b = (s.roceMessage c.conn k 2 (.readData key) (rethBytes (c.sglAddr + 0) c.sglKey b.length) b 0).finish key 0 := by
    simp [State.returnData, hc, hpeer, hstamps, State.sendData, hready, hroce]
  rw [ht, hsent]
  exact ⟨State.cmd_modifyCmd_same hc _, State.otherCmds_modifyCmd s key _, Eq.refl _, Eq.refl _⟩

/-- As `adminRow`, for a command that returns data on a RoCEv2 connection that is ready. -/
theorem adminRow_returns {i : Instr} {opcode : Nat} {v : Vc} {a : Assoc} {k : Conn} {f : Cmd → Vc → Assoc → State} {b : List Byte}
    (h : AdminReady s key opcode c v a) (hk : RoceReply s c k) (hi : exec i s = .next (s.runAdmin key opcode f))
    (hf : f c v a = s.returnData key b) : Runs i s (Returns key c k b s) :=
  adminRow h hi (hf ▸ State.returnData_roce h.1 hk b)

/-- Data asked of the host by an RDMA Read on a RoCEv2 connection that is ready. -/
theorem State.fetchData_roce {k : Conn} (hstamps : s.stampsHold c = true) (hready : s.ready c.conn = some k) (hroce : k.isRoce = true)
    (hserving : s.lcs.mode.serving = true) (len : Nat) : ∃ conns, s.fetchData key c len =
      { s.modifyCmd key (fun c => { c with stage := .fetching, data := [] }) with
        qpc := { s.qpc with conns := conns },
        out := s.out ++ [.roce c.conn 4 k.npsn (packetsOf k.seg len) (rethBytes c.sglAddr c.sglKey len)] } := by
  obtain ⟨conns, hsent⟩ := State.roceMessage_serving (s := s.modifyCmd key (fun c => { c with stage := .fetching, data := [] })) hserving
    c.conn k 4 (.fetch key) (rethBytes c.sglAddr c.sglKey len) [] len
  have hready1 : (s.modifyCmd key (fun c => { c with stage := .fetching, data := [] })).ready c.conn = some k := hready
  refine ⟨conns, ?_⟩
  simp only [State.fetchData, hstamps, hready1, hroce, Bool.not_true, Bool.false_eq_true, if_false, if_true]
  rw [hsent, List.append_nil]
  rfl

end Commands

end Sys2Proof.Machine

open Sys2Proof Sys2Proof.Machine

/-- Settles O43: the row does no more than end the command, with Dword 0 of 1. -/
theorem abortAbortsNothing : Obligations.AbortAbortsNothing :=
  fun _ _ _ _ _ h => adminRow_ends h rfl rfl
end

section
/-!
Laws of a controller reset (R300).
-/

namespace Sys2Proof.Machine

/-! What a controller reset changes. -/

/-- A queue that a reset of controller v ends. -/
def resetQueue (v key : Nat) (q : Queue) : Queue :=
  if key / 2048 = v then { q with live := false, qgen := (q.qgen + 1) % 65536 } else q

theorem resetQueue_own (v : Nat) {q : Nat} (hq : q < 2048) (y : Queue) :
    resetQueue v (queueKey v q) y = { y with live := false, qgen := (y.qgen + 1) % 65536 } := by
  unfold resetQueue queueKey
  rw [if_pos (by omega)]

theorem resetQueue_other {v w q : Nat} (hw : w ≠ v) (hq : q < 2048) (y : Queue) : resetQueue v (queueKey w q) y = y := by
  unfold resetQueue queueKey
  rw [if_neg (by omega)]

/-- What a controller reset leaves of its association. -/
def resetAssoc (a : Assoc) : Assoc := { a with ready := false, aers := [], events := [] }

/-- What is told to the peer changes the section of the tick's delta alone. -/
theorem State.tellVc_vcs (s : State) (v : Nat) : ∃ l, s.tellVc v = { s with rfl := { s.rfl with vcs := l } } := by
  unfold State.tellVc
  split
  · exact ⟨_, Eq.refl _⟩
  · exact ⟨_, Eq.refl s⟩

theorem State.foldl_tellQueue_vcs (v : Nat) (l : List (Nat × Queue)) (s : State) :
    ∃ e, l.foldl (fun t p => t.tellQueue v (p.1 % 2048) p.2.qgen) s = { s with rfl := { s.rfl with vcs := e } } := by
  induction l generalizing s with
  | nil => exact ⟨_, Eq.refl s⟩
  | cons p l ih =>
    obtain ⟨e, he⟩ := ih (s.tellQueue v (p.1 % 2048) p.2.qgen)
    exact ⟨e, he⟩

/-- Queues changed each by its key. -/
theorem State.queue_of_map {s t : State} {f : Nat → Queue → Queue} (h : t.cmf.queues = s.cmf.queues.map (fun p => (p.1, f p.1 p.2)))
    (v q : Nat) : t.queue v q = (s.queue v q).map (f (queueKey v q)) := by
  unfold State.queue
  split
  · rw [h, Tab.find_map_entry]
  · exact Eq.refl _

/-- A reset of an active controller of a host. -/
theorem State.controllerReset_active {s : State} {v : Nat} {x : Vc} {a : Assoc} (hv : s.vc v = some x) (ha : x.assoc = some a)
    (hx : x.state = .active) :
    (s.controllerReset v).vct.vcs = Tab.insert s.vct.vcs v { x with
      vgen := (x.vgen + 1) % 65536, resetting := true, assoc := some (resetAssoc a) } ∧
    (s.controllerReset v).cmf.queues = s.cmf.queues.map (fun p => (p.1, resetQueue v p.1 p.2)) ∧
    (s.controllerReset v).cmf.cmds = s.cmf.cmds.filter (fun p => p.1 ∉ a.aers) ∧
    (s.controllerReset v).regs = (s.count F.VCT.STAT.COUNT 1).regs ∧ (s.controllerReset v).mem = s.mem := by
  have hq : (fun p : Nat × Queue => if p.1 / 2048 = v then (p.1, { p.2 with live := false, qgen := (p.2.qgen + 1) % 65536 }) else p) =
      fun p => (p.1, resetQueue v p.1 p.2) := by
    funext p
    unfold resetQueue
    split <;> rfl
  unfold State.controllerReset
  rw [hv]
  dsimp only
  rw [hq, ha, hx, if_neg (by decide), if_neg (by decide)]
  obtain ⟨l, hl⟩ := State.tellVc_vcs (State.count _ F.VCT.STAT.COUNT 1) v
  rw [hl]
  obtain ⟨e, he⟩ := State.foldl_tellQueue_vcs v _ _
  rw [he]
  exact ⟨Eq.refl _, Eq.refl _, Eq.refl _, Eq.refl _, Eq.refl _⟩

end Sys2Proof.Machine

open Sys2Proof Sys2Proof.Machine

/-- Settles O44: the rows by what an admin command that is ready does (R279, R282), the expiry of Keep Alive by what a controller reset
changes (R300). -/
theorem adminCommandRows : Obligations.AdminCommandRows := by
  refine ⟨fun s key c v a h => ?keepAlive, fun s key c v a h => ?getFeatures, fun s key c v a h => ?setFeatures,
    fun s key c v a h => ?asyncEventRequest, fun s key c v a k h hk => ?identify, fun s key c v a k h hk => ?getLogPage,
    fun s v x a hv ha hx hr => ?keepAliveExpiry, fun s v x hv hr => ?controllerResetDone⟩
  case keepAlive => exact adminRow_ends h rfl rfl
  case getFeatures =>
    refine ⟨fun hf => ?_, fun hf => ?_, fun hf => ?_, fun hf hn => ?_, fun hf hn => ?_, fun hf => ?_⟩
    · exact adminRow_ends h rfl (by simp only [hf])
    · exact adminRow_ends h rfl (by simp only [hf])
    · exact adminRow_ends h rfl (by simp only [hf])
    · obtain ⟨n, hn⟩ := Option.isSome_iff_exists.mp hn
      exact adminRow_ends h rfl (by simp [hf, hn])
    · obtain ⟨n, hn⟩ := Option.isSome_iff_exists.mp hn
      exact adminRow_ends h rfl (by simp [hf, hn])
    · exact adminRow_ends h rfl (by split <;> simp_all)
  case setFeatures =>
    refine ⟨fun hsave => adminRow_ends h rfl (by simp [hsave]), fun hsave => ⟨fun hf h0 h1 => ?_, fun hf => ?_, fun hf => ?_, fun hf => ?_⟩⟩
    · let n := min (max (c.cdw 11 % 65536) (c.cdw 11 / 65536)) (v.qcount - 1)
      exact adminRow_sets (fun a => { a with nq := n }) (fun c => { c with stage := .finished, status := 0, dw0 := n + n * 65536 }) h rfl
        (by simp [hsave, hf, h0, h1, n, State.finish])
    · exact adminRow_sets (fun a => { a with aec := c.cdw 11 }) (fun c => { c with stage := .finished, status := 0, dw0 := 0 }) h rfl
        (by simp [hsave, hf, State.finish])
    · exact adminRow_sets (fun a => { a with kato := roundKato (c.cdw 11), kaTicks := 0 })
        (fun c => { c with stage := .finished, status := 0, dw0 := 0 }) h rfl (by simp [hsave, hf, State.finish])
    · exact adminRow_ends h rfl (by simp only [hsave]; split <;> simp_all)
  case asyncEventRequest =>
    refine ⟨fun hn => adminRow_ends h rfl (if_pos hn), fun hn he => ?_, fun e es hn he => ?_⟩
    · exact adminRow_sets (fun a => { a with aers := a.aers ++ [key] }) (fun c => { c with stage := .held }) h rfl
        (by rw [if_neg (Nat.not_le.mpr hn), he])
    · exact adminRow_sets (fun a => { a with events := es }) (fun c => { c with stage := .finished, status := 0, dw0 := e }) h rfl
        (by rw [if_neg (Nat.not_le.mpr hn), he]; rfl)
  case identify =>
    refine ⟨fun n hf hn => ?_, fun hf hn => ?_, fun hf => ?_, fun hf hn => ?_, fun hf => ?_⟩
    · exact adminRow_returns h hk rfl (by simp only [hf, hn])
    · exact adminRow_ends h rfl (by simp only [hf, hn])
    · exact adminRow_returns h hk rfl (by simp only [hf])
    · exact adminRow_returns h hk rfl (by simp only [hf]; exact if_neg (Nat.not_le.mpr hn))
    · refine adminRow_ends h rfl ?_
      split
      case h_5 => rfl
      all_goals omega
  case getLogPage =>
    refine ⟨fun page hl hp ho h4 hr => ?_, fun hp => ?_⟩
    · refine adminRow_returns h hk rfl ?_
      simp only [hp, hl, hr, false_and, if_false, if_true]
      exact if_neg fun hh => hh.elim (Nat.not_lt.mpr ho) (· h4)
    · exact adminRow_ends h rfl (by simp only [hp])
  case keepAliveExpiry => 
    refine ⟨fun h0 hk => ?_, fun hk => ?_⟩
    · obtain ⟨hvcs, hqueues, hcmds, hregs, hmem⟩ := State.controllerReset_active hv ha hx
      refine ⟨s.controllerReset v, ?_, ?_, fun m hm => ?_, fun q hq => ?_, fun w q hw => ?_, fun k => ?_, fun m hm => ?_,
        sameMemory_of_mem hmem⟩
      · show Host.Outcome.next _ = _
        simp only [hv, ha]
        rw [if_pos ⟨hx, by rw [hr]; rfl, h0, hk⟩]
      · rw [State.vc, hvcs, Tab.find_insert, if_pos rfl]
        rfl
      · rw [State.vc, hvcs, Tab.find_insert, if_neg hm]
        rfl
      · rw [State.queue_of_map hqueues, funext (resetQueue_own v hq)]
      · rw [State.queue_of_map hqueues]
        by_cases hq : q < 2048
        · rw [funext (resetQueue_other hw hq)]
          exact Option.map_id'
        · rw [State.queue, if_neg hq]
          rfl
      · rw [State.cmd, hcmds, Tab.find_filter_key _ (fun k => k ∉ a.aers)]
        simp only [decide_eq_true_eq, ite_not]
        rfl
      · exact (State.reg_congr hregs m).trans (State.put_sameRegs s _ _ m hm)
    · show Host.Outcome.next _ = _
      simp only [hv, ha]
      rw [if_neg fun hh => Nat.not_le.mpr hk hh.2.2.2]
  case controllerResetDone =>
    refine ⟨fun hall => ⟨s.modifyVc v (fun x => { x with resetting := false, assoc := none }), ?_, ?_, fun m hm => ?_, rfl⟩, fun hex => ?_⟩
    · show Host.Outcome.next _ = _
      simp only [hv, hr]
      rw [if_pos ⟨trivial, List.all_eq_true.mpr fun p hp => beq_iff_eq.mpr (hall p hp)⟩]
    · rw [State.vc_modifyVc, if_pos rfl, hv]; rfl
    · rw [State.vc_modifyVc, if_neg hm]
    · obtain ⟨p, hp, hne⟩ := hex
      show Host.Outcome.next _ = _
      simp only [hv, hr]
      rw [if_neg fun hh => hne (beq_iff_eq.mp (List.all_eq_true.mp hh.2 p hp))]
end

section
/-!
Laws of Connect (R279 to R281, R353).
-/

namespace Sys2Proof.Machine

section Fabrics

variable {s : State} {key : Nat} {c : Cmd}

/-- A property of the length asked for is read on the admin queue (R282). -/
theorem propertyGet_reads {a : Assoc} {n x : Nat} (h : FabricsReady s key 4 c) (ha : (s.vc c.vc).bind Vc.assoc = some a) (hq : c.qid = 0)
    (hp : s.property c.vc a (c.field 44 4) = some (n, x)) (hn : n = if c.field 40 1 % 8 = 1 then 8 else 4) :
    Runs (.propertyGet key) s (Ends key c 0 x s) := by
  refine fabricsRow_ends h rfl ?_
  simp only [ha, hp]
  exact if_pos ⟨hq, hn⟩

/-- The checks of a Connect's data pointer. -/
def State.connectPointer (s : State) (c : Cmd) : Option Nat :=
  if !c.keyed then some 0x011
  else if c.sglType = 0x4F ∧ (s.conn c.conn).any (fun k => k.kind == 3) then some 0x002
  else if c.sglLen ≠ 1024 then some 0x00F else none

/-- A Connect that came ends by its data pointer, or has its data fetched. -/
theorem execConnect_admitted (hc : s.cmd key = some c) (hcon : c.isConnect = true) (hst : c.stage = .admitted) :
    execConnect key s = .next (match s.connectPointer c with | some x => s.finish key x | none => s.fetchData key c 1024) := by
  unfold execConnect
  simp only [hc, hcon, hst]
  rfl

theorem State.connectPointer_keyed (ht : c.sglType = 0x40) : s.connectPointer c = if c.sglLen ≠ 1024 then some 0x00F else none := by
  simp [State.connectPointer, Cmd.keyed, ht]

theorem execConnect_held (hc : s.cmd key = some c) (hcon : c.isConnect = true)
    (hst : c.stage = .held) : execConnect key s = .next (s.connectNow key c) := by
  simp [execConnect, hc, hcon, hst]

/-- A Connect that a check refuses is counted (R281). -/
theorem State.connectNow_refused {x : Nat} (h : s.connectStatus key c = some x) :
    s.connectNow key c = (s.count F.VCT.STAT.COUNT 6).finish key x := by
  unfold State.connectNow
  rw [h]

/-- The association made by an admin Connect alone. -/
theorem State.connectVc {v : Vc} (hv : s.vc c.vc = some v) :
    ∃ vcs, (if c.qid = 0 then s.modifyVc c.vc (fun v => { v with assoc := some (newAssoc c) }) else s) =
        { s with vct := { s.vct with vcs := vcs } } ∧
      ∀ m, Tab.find vcs m = if m = c.vc then some (if c.qid = 0 then { v with assoc := some (newAssoc c) } else v) else s.vc m := by
  split
  · refine ⟨_, Eq.refl _, fun m => (s.vc_modifyVc c.vc m _).trans ?_⟩
    rw [hv]
    rfl
  · refine ⟨_, Eq.refl s, fun m => ?_⟩
    split
    · next hm => rw [hm]; exact hv
    · exact Eq.refl _

/-- What a Connect that passes the checks makes of the state. -/
def ConnectMakes (key : Nat) (c : Cmd) (v : Vc) (s t : State) : Prop :=
  (∃ q, t.queue c.vc c.qid = some q ∧ q.live = true ∧ q.conn = c.conn ∧ q.sqsize = c.field 44 2 ∧
    q.qgen = ((s.queue c.vc c.qid).map Queue.qgen).getD 0) ∧
  t.vc c.vc = some (if c.qid = 0 then { v with assoc := some (newAssoc c) } else v) ∧ OtherVcs c.vc s t ∧
  (∃ d, t.cmd key = some d ∧ d.stage = .finished ∧ d.status = 0 ∧ d.dw0 = v.field 0 2) ∧ OtherCmds key s t ∧
  t = { s with
    cmf := { s.cmf with cmds := t.cmf.cmds, queues := t.cmf.queues }, vct := { s.vct with vcs := t.vct.vcs },
    qpc := { s.qpc with conns := t.qpc.conns } }

/-- A Connect that passes the checks makes its queue, and with the admin queue the association; it ends with CNTLID (R281, R353). -/
theorem State.connectNow_makes {v : Vc} (h : s.connectStatus key c = none) (hc : s.cmd key = some c) (hv : s.vc c.vc = some v)
    (hq : c.qid < 2048) : ConnectMakes key c v s (s.connectNow key c) := by
  unfold State.connectNow
  rw [h]
  dsimp only
  obtain ⟨vcs, hs2, hfind⟩ := State.connectVc (s := { s with cmf := { s.cmf with queues := Tab.insert s.cmf.queues (queueKey c.vc c.qid) {
    live := true, conn := c.conn, qgen := ((s.queue c.vc c.qid).map Queue.qgen).getD 0, sqsize := c.field 44 2,
    sqhd := 1 % (c.field 44 2 + 1), fcOff := (c.field 46 1).testBit 2 } } }) hv
  have hvc : Tab.find vcs c.vc = some (if c.qid = 0 then { v with assoc := some (newAssoc c) } else v) := (hfind _).trans (if_pos (Eq.refl _))
  rw [hs2, State.finish, State.modifyCmd_modifyCmd]
  refine ⟨⟨_, (if_pos hq).trans ((Tab.find_insert _ _ _ _).trans (if_pos (Eq.refl _))), Eq.refl _, Eq.refl _, Eq.refl _, Eq.refl _⟩, hvc, fun m hm => (hfind m).trans (if_neg hm),
    ⟨_, State.cmd_modifyCmd_same (s := s) hc _, Eq.refl _, Eq.refl _, ?_⟩, State.otherCmds_modifyCmd s key _, Eq.refl _⟩
  show (Option.map (fun v : Vc => v.field 0 2) (Tab.find vcs c.vc)).getD 0 = _
  rw [hvc]
  split <;> rfl

theorem State.count_frame (s : State) (f : Fld) (n k : Nat) : s.count f n k = { s with regs := (s.count f n k).regs } :=
  State.eq_of_unrecorded_of_evr (State.put_unrecorded _ _ _) (State.put_evr _ _ _)

/-- A command ends after a change of registers. -/
theorem State.finish_of_regs {u : State} (hu : u = { s with regs := u.regs }) (hc : s.cmd key = some c) (status dw0 : Nat) :
    (u.finish key status dw0).cmd key = some { c with stage := .finished, status := status, dw0 := dw0 } ∧
    OtherCmds key s (u.finish key status dw0) ∧ (u.finish key status dw0).regs = u.regs ∧
    u.finish key status dw0 = { s with cmf := { s.cmf with cmds := (u.finish key status dw0).cmf.cmds }, regs := u.regs } := by
  generalize u.regs = r at hu
  subst hu
  exact ⟨State.cmd_modifyCmd_same hc _, State.otherCmds_modifyCmd s key _, Eq.refl _, Eq.refl _⟩

end Fabrics

end Sys2Proof.Machine

open Sys2Proof Sys2Proof.Machine

/-- Settles O45: each row by the branch of its meaning that its conditions choose; of a Connect by its data pointer, its data and its
checks (R280, R281, R353). -/
theorem fabricsCommandRows : Obligations.FabricsCommandRows := by
  refine ⟨fun s key c v a h hv ha hq => ?propertyGet, fun s key c v a h hv ha => ?propertySet, fun s key c hc hcon hst => ?connectAdmitted,
    fun s key c hc hcon hst => ?connectHeld, fun s key c h => ?disconnect⟩
  case propertyGet =>
    have ha' : (s.vc c.vc).bind Vc.assoc = some a := by rw [hv]; exact ha
    refine ⟨fun ho hn => ?_, fun ho hn => ?_, fun ho hn => ?_, fun ho hn hr hs => ?_, fun ho => ?_⟩
    · exact propertyGet_reads h ha' hq (by rw [ho]; rfl) (by rw [hn]; rfl)
    · exact propertyGet_reads h ha' hq (by rw [ho]; rfl) (by rw [hn]; rfl)
    · exact propertyGet_reads h ha' hq (by rw [ho]; rfl) (by rw [hn]; rfl)
    · exact propertyGet_reads h ha' hq (n := 4) (by rw [ho]; rw [State.property, hv, hs]; simp [hr]) (by rw [hn]; rfl)
    · exact fabricsRow_ends h rfl (by simp only [ha', State.property]; split <;> simp_all)
  case propertySet =>
    have ha' : (s.vc c.vc).bind Vc.assoc = some a := by rw [hv]; exact ha
    refine ⟨fun hq ho hn => ?_, fun ho => fabricsRow_ends h rfl ?_⟩
    · refine fabricsRow_sets
        (fun b => { b with cc := c.field 48 4, ready := b.ready || (c.field 48 4 % 2 == 1 && !ccResets a.cc (c.field 48 4)) })
        (fun d => { d with ends := ccResets a.cc (c.field 48 4), stage := .finished, status := 0, dw0 := 0 }) h hv ha rfl ?_
      simp only [ha', hq, ho, hn, ne_eq, not_true_eq_false, or_self, if_false]
      rw [State.finish, State.modifyCmd_modifyCmd]
    · simp only [ha']
      exact if_pos (.inr (.inl ho))
  case connectAdmitted =>
    refine ⟨fun hk => ?_, fun ht hl => ?_, fun k ht hl hr hroce hs => ?_⟩
    · refine ⟨_, (execConnect_admitted hc hcon hst).trans ?_, State.finish_ends hc 0x011 0⟩
      rw [State.connectPointer, hk]
      rfl
    · refine ⟨_, (execConnect_admitted hc hcon hst).trans ?_, State.finish_ends hc 0x00F 0⟩
      rw [State.connectPointer_keyed ht, if_pos hl]
    · have hstamps : s.stampsHold c = true := by
        unfold State.stampsHold
        rw [if_pos hcon, hr]
        rfl
      obtain ⟨conns, ht'⟩ := State.fetchData_roce hstamps (key := key) hr hroce hs 1024
      refine ⟨s.fetchData key c 1024, (execConnect_admitted hc hcon hst).trans ?_, ?_⟩
      · rw [State.connectPointer_keyed ht, if_neg (not_not.mpr hl)]
      · rw [ht']
        exact ⟨State.cmd_modifyCmd_same hc _, State.otherCmds_modifyCmd s key _, rfl, rfl⟩
  case connectHeld => 
    refine ⟨fun x hx => ?_, fun v hx hv hq => ?_⟩
    · obtain ⟨hcmd, hother, hregs, hframe⟩ := State.finish_of_regs (s.count_frame F.VCT.STAT.COUNT 6 1) hc x 0
      refine ⟨_, (execConnect_held hc hcon hst).trans (congrArg _ (State.connectNow_refused hx)), hcmd, hother, ?_, fun m hm => ?_, ?_⟩
      · exact (State.fld_congr hregs _).trans (State.fld_count_same s _ 6 1 64 (by decide) rfl)
      · exact (State.reg_congr hregs m).trans (State.put_sameRegs s _ _ m hm)
      · rw [hregs]
        exact hframe
    · exact ⟨_, (execConnect_held hc hcon hst), State.connectNow_makes hx hc hv hq⟩
  case disconnect =>
    refine fabricsRow h rfl ?_
    rw [State.finish, State.modifyCmd_modifyCmd]
    exact ⟨State.cmd_modifyCmd_same h.1 _, State.otherCmds_modifyCmd s key _, rfl⟩
end

section
/-!
Laws of I/O commands: the checks and the fetch that come first, reads of unmapped granules, and writes that are cut (R47, R73, R274, R283,
R297).
-/

namespace Sys2Proof.Machine

section Io

variable {s : State} {key op : Nat} {c : Cmd}

/-! What every I/O row does first. -/

theorem State.ioStart_refused {x : Nat} (ht : s.outOfTurn key c = false) (hx : s.ioStatus c = some x) (hne : x ≠ 0x083) :
    s.ioStart key c = s.finish key x := by
  simp only [State.ioStart, ht, hx, hne, if_false, Bool.false_eq_true]

theorem State.resumeIo_unheld (hc : s.cmd key = some c) (h : c.stage ≠ .held) : s.resumeIo key = s := by
  simp only [State.resumeIo, hc, h, ne_eq, not_false_eq_true, if_true]

theorem State.runIo_ready (h : IoReady s key op c) : s.runIo key op = (s.ioStart key c).resumeIo key := by
  obtain ⟨hc, hst, hio, hop, -⟩ := h
  simp [State.runIo, hc, hst, hio, hop]

theorem State.runIo_held {n : Ns} (h : IoHeld s key op c n) : s.runIo key op = s.resumeIo key := by
  obtain ⟨hc, hst, hio, hop, -⟩ := h
  simp [State.runIo, hc, hst, hio, hop]

/-- A command that a check refuses ends with its status (R297). -/
theorem State.runIo_refused {x : Nat} (h : IoReady s key op c) (hx : s.ioStatus c = some x) (hne : x ≠ 0x083) :
    Ends key c x 0 s (s.runIo key op) := by
  have he := State.finish_ends h.1 x 0
  obtain ⟨hc, hst, hio, hop, ht⟩ := id h
  rw [State.runIo_ready h, State.ioStart_refused ht hx hne, State.resumeIo_unheld he.1 (by simp)]
  exact he

theorem State.runRsv_refused {x : Nat} (f : Cmd → Ns → Rsv → State → State) (h : IoReady s key op c) (hx : s.ioStatus c = some x)
    (hne : x ≠ 0x083) : Ends key c x 0 s (s.runRsv key op f) := by
  have he := State.finish_ends h.1 x 0
  obtain ⟨hc, hst, hio, hop, ht⟩ := h
  have hrun : s.runRsv key op f = s.finish key x := by
    simp only [State.runRsv, hc, hio, hop, hst, State.ioStart_refused ht hx hne, he.1, Bool.not_true, Bool.false_eq_true, ne_eq,
      not_true_eq_false, or_self, if_false, if_true]
    cases c.ns <;> rfl
  exact hrun ▸ he

theorem execFlush_refused {x : Nat} (h : IoReady s key 0 c) (hn : c.nsid ≠ 0xFFFFFFFF) (hx : s.ioStatus c = some x) (hne : x ≠ 0x083) :
    execFlush key s = .next (s.finish key x) := by
  have he := State.finish_ends h.1 x 0
  obtain ⟨hc, hst, hio, hop, ht⟩ := h
  simp [execFlush, hc, hio, hop, hst, hn, State.ioStart_refused ht hx hne, he.1]

theorem State.modifyCmd_of_cmd (hc : s.cmd key = some c) (f : Cmd → Cmd) : s.modifyCmd key f = s.modifyCmd key (fun _ => f c) := by
  simp only [State.modifyCmd, Tab.modify, show Tab.find s.cmf.cmds key = some c from hc]

/-- What the checks leave with a command: the granules of its blocks (R273). -/
def Cmd.placed (c : Cmd) (n : Ns) : Cmd :=
  let g := if c.isRead || c.opcode == 1 || c.opcode == 8 then granulesOf n.block c.slba c.nlb else (0, 0)
  { c with first := g.1, count := g.2, ranges := if c.opcode = 9 then [(0, n.nsze * n.block / 4096)] else [(g.1, g.2)] }

/-- A command whose data is present, from its capsule or from the peer (R285, R392). -/
def Cmd.withData (need : Nat) (c : Cmd) : Cmd :=
  { c with stage := .held, data := if c.fromPeer.isSome then c.data else (c.icd.drop c.sglAddr).take need }

/-- The state in which a command that passes the checks goes on: placed, and a read or write counted where it has to wait (R290). -/
def IoPassed (key : Nat) (c : Cmd) (n : Ns) (s u : State) : Prop :=
  u = s.modifyCmd key (fun _ => c.placed n) ∨
    (c.isRead || c.isWrite) = true ∧ u = (s.modifyCmd key (fun _ => c.placed n)).count F.CMF.STAT.COUNT 10

theorem IoPassed.frame {n : Ns} {u : State} (h : IoPassed key c n s u) :
    u = { s.modifyCmd key (fun _ => c.placed n) with regs := u.regs } ∧ SameRegs [(F.CMF.STAT.COUNT.nth 10).addr] s u := by
  obtain rfl | ⟨-, rfl⟩ := h
  · exact ⟨Eq.refl _, fun _ _ => Eq.refl _⟩
  · exact ⟨State.count_frame _ _ _ _, State.put_sameRegs (s.modifyCmd key (fun _ => c.placed n)) _ _⟩

theorem State.ioStart_passed {n : Ns} (hc : s.cmd key = some c) (ht : s.outOfTurn key c = false) (hx : s.ioStatus c = none)
    (hf : s.isForwarded c = false) (hn : c.ns = some n) : ∃ u, IoPassed key c n s u ∧ s.ioStart key c =
      if c.toDevice ∧ c.fromPeer.isNone ∧ c.keyed then u.fetchData key c (c.required n.block)
      else u.modifyCmd key (Cmd.withData (c.required n.block)) := by
  unfold State.ioStart
  rw [ht, hx, hf]
  simp only [State.nsOf, hn, Bool.false_eq_true, if_false, false_and]
  unfold IoPassed Cmd.placed
  generalize (if (c.isRead || c.opcode == 1 || c.opcode == 8) = true then granulesOf n.block c.slba c.nlb else (0, 0)) = g
  obtain ⟨g0, gn⟩ := g
  rw [State.modifyCmd_of_cmd hc (fun c => { c with
    first := g0, count := gn, ranges := if c.opcode = 9 then [(0, n.nsze * n.block / 4096)] else [(g0, gn)] })]
  dsimp only
  generalize (if c.opcode = 9 then [(0, n.nsze * n.block / 4096)] else [(g0, gn)]) = ranges
  refine ⟨_, ?_, Eq.refl _⟩
  split
  · next hw =>
      refine .inr ⟨?_, Eq.refl _⟩
      cases hr : c.isRead
      · rw [hr, Bool.false_and, Bool.false_or, Bool.and_eq_true] at hw
        exact hw.1
      · rfl
  · exact .inl (Eq.refl _)

/-- The data of a write or compare is asked of the host (R286). -/
def FetchesBlocks (key : Nat) (c : Cmd) (n : Ns) (k : Conn) (s t : State) : Prop :=
  (∃ d, t.cmd key = some d ∧ d.stage = .fetching ∧ d.first = c.slba * n.block / 4096) ∧ OtherCmds key s t ∧
  t.out = s.out ++ [.roce c.conn 4 k.npsn (packetsOf k.seg (c.nlb * n.block)) (rethBytes c.sglAddr c.sglKey (c.nlb * n.block))] ∧
  SameRegs [(F.CMF.STAT.COUNT.nth 10).addr] s t ∧
  t = { s with
    cmf := { s.cmf with cmds := t.cmf.cmds }, qpc := { s.qpc with conns := t.qpc.conns }, out := t.out, regs := t.regs }

theorem State.ioStart_fetches {n : Ns} {k : Conn} (hc : s.cmd key = some c) (ht : s.outOfTurn key c = false) (hx : s.ioStatus c = none)
    (hf : s.isForwarded c = false) (hn : c.ns = some n) (hk : RoceReply s c k) (hkey : c.keyed = true)
    (hop : c.opcode = 1 ∨ c.opcode = 5 ∧ c.io = true) : FetchesBlocks key c n k s (s.ioStart key c) := by
  obtain ⟨hpeer, hstamps, hready, hroce, hserving⟩ := hk
  obtain ⟨u, hu, hstart⟩ := State.ioStart_passed hc ht hx hf hn
  obtain ⟨hframe, hregs⟩ := hu.frame
  generalize u.regs = r at hframe
  subst hframe
  have hd : c.toDevice = true := by rcases hop with hop | ⟨hop, -⟩ <;> simp [Cmd.toDevice, hop]
  have hneed : c.required n.block = c.nlb * n.block := by rcases hop with hop | ⟨hop, -⟩ <;> simp [Cmd.required, hop]
  have hfirst : (c.placed n).first = c.slba * n.block / 4096 := by
    rcases hop with hop | ⟨hop, hio⟩
    · simp [Cmd.placed, hop, granulesOf]
    · simp [Cmd.placed, Cmd.isRead, hop, hio, granulesOf]
  obtain ⟨conns, hfetch⟩ := State.fetchData_roce (s := { s.modifyCmd key (fun _ => c.placed n) with regs := r }) (key := key) (c := c) hstamps hready
    hroce hserving (c.required n.block)
  rw [hstart, if_pos ⟨hd, by rw [hpeer]; rfl, hkey⟩, hfetch, hneed]
  exact ⟨⟨_, State.cmd_modifyCmd_same (s := { s.modifyCmd key (fun _ => c.placed n) with regs := r }) (State.cmd_modifyCmd_same hc _) _,
      Eq.refl _, hfirst⟩,
    fun m hm => (State.otherCmds_modifyCmd _ key _ m hm).trans (State.otherCmds_modifyCmd s key _ m hm), Eq.refl _, hregs, Eq.refl _⟩

/-- A write or compare that passes the checks asks the host for its blocks. -/
theorem State.runIo_fetches {n : Ns} {k : Conn} (h : IoReady s key op c) (hop : op = 1 ∨ op = 5) (hx : s.ioStatus c = none)
    (hf : s.isForwarded c = false) (hn : c.ns = some n) (hk : RoceReply s c k) (hkey : c.keyed = true) :
    FetchesBlocks key c n k s (s.runIo key op) := by
  obtain ⟨hc, -, hio, rfl, ht⟩ := id h
  have hfetch := State.ioStart_fetches hc ht hx hf hn hk hkey (hop.imp_right fun h5 => ⟨h5, hio⟩)
  obtain ⟨d, hd, hst, -⟩ := hfetch.1
  rw [State.runIo_ready h, State.resumeIo_unheld hd (by rw [hst]; decide)]
  exact hfetch

theorem State.ns_of_ioStatus (hx : s.ioStatus c = none) : ∃ n, c.ns = some n := by
  cases hn : c.ns with
  | some n => exact ⟨n, Eq.refl _⟩
  | none =>
    simp only [State.ioStatus, State.nsOf, hn] at hx
    split_ifs at hx

theorem execFlush_of_ioStart (h : IoReady s key 0 c) (hn : c.nsid ≠ 0xFFFFFFFF) {f : Cmd → Cmd} (hf : (f c).stage = .held)
    (hstart : s.ioStart key c = s.modifyCmd key f) : execFlush key s = .next ((s.modifyCmd key f).finish key 0) := by
  have hcmd := State.cmd_modifyCmd_same h.1 f
  obtain ⟨hc, hst, hio, hop, -⟩ := h
  simp [execFlush, hc, hio, hop, hst, hn, hstart, hcmd, hf]

/-- A flush that passes the checks ends (R301). -/
theorem execFlush_passes (h : IoReady s key 0 c) (hn : c.nsid ≠ 0xFFFFFFFF) (hx : s.ioStatus c = none) (hf : s.isForwarded c = false) :
    ∃ g : Cmd → Cmd, (g c).stage = .finished ∧ (g c).status = 0 ∧ execFlush key s = .next (s.modifyCmd key g) := by
  obtain ⟨hc, -, -, hop, ht⟩ := id h
  obtain ⟨n, hns⟩ := State.ns_of_ioStatus hx
  obtain ⟨u, hu, hstart⟩ := State.ioStart_passed hc ht hx hf hns
  have hnone : (c.isRead || c.isWrite) = false := by simp [Cmd.isRead, Cmd.isWrite, hop]
  have hdev : c.toDevice = false := by simp [Cmd.toDevice, hop]
  obtain rfl | ⟨hw, -⟩ := hu
  · rw [hdev, if_neg (fun hh => Bool.false_ne_true hh.1), State.modifyCmd_modifyCmd] at hstart
    have hrun := execFlush_of_ioStart h hn (Eq.refl _) hstart
    rw [State.finish, State.modifyCmd_modifyCmd] at hrun
    exact ⟨_, Eq.refl _, Eq.refl _, hrun⟩
  · rw [hnone] at hw
    cases hw

/-! Reads of unmapped granules (R73, R74). -/

/-- What a granule that no mapping resolves is read as. -/
def zeroRead (g : Nat) : GranuleRead := { granule := g, content := some zeroGranule, failure := 0, keyId := 0 }

theorem State.liveEntry_settled (h : ∀ r ∈ s.ftl.journal, r.applied = true ∨ r.superseded = true) (nsid g : Nat) :
    s.liveEntry nsid g = s.ftl.tables.entry nsid g := by
  have hw : s.ftl.journal.filter (fun r => !r.applied && !r.superseded && s.settled r) = [] :=
    List.filter_eq_nil_iff.mpr fun r hr => by rcases h r hr with h | h <;> simp [h]
  unfold State.liveEntry
  rw [hw]
  rfl

/-- The read of one unmapped granule whose map page is present. -/
theorem State.readGranules_unmapped {n : Ns} {g : Nat} (hc : s.cmd key = some c) (ho : s.other = none) (hn : c.ns = some n)
    (hsrc : n.src = 0) (hpage : mapPageKey c.nsid g ∈ s.ftl.mapCached)
    (hj : ∀ r ∈ s.ftl.journal, r.applied = true ∨ r.superseded = true) (he : s.ftl.tables.entry c.nsid g = none) :
    s.readGranules key [g] = s.modifyCmd key (fun c => { c with stage := .reading, reads := [zeroRead g], resolved := true }) := by
  have hmissing : s.missingPages c [g] = [] := by simp [State.missingPages, hn, hsrc, hpage]
  have hnone (f : Cmd → Cmd) : (s.modifyCmd key f).resolveGranule c g = none := by
    simp only [State.resolveGranule, hn, hsrc, if_true]
    exact (State.liveEntry_settled (s := s.modifyCmd key f) hj _ _).trans he
  unfold State.readGranules
  rw [hc]
  dsimp only
  rw [State.onSide_single s _ _ ho, hmissing]
  simp only [List.foldl, State.readGranule, hnone]
  rw [State.modifyCmd_modifyCmd]
  rfl

/-! What follows the reads (R73, R283). -/

/-- A command whose one granule reads as zeros. -/
def Cmd.readZero (c : Cmd) : Cmd := { c with stage := .reading, reads := [zeroRead c.first], resolved := true }

/-- A read or compare of one unmapped granule that need not wait. -/
theorem State.beginRead_unmapped {n : Ns} (hc : s.cmd key = some c) (ho : s.other = none) (hn : c.ns = some n) (hsrc : n.src = 0)
    (h1 : c.count = 1) (hw : s.readWaits key c = false) (hpage : mapPageKey c.nsid c.first ∈ s.ftl.mapCached)
    (hj : ∀ r ∈ s.ftl.journal, r.applied = true ∨ r.superseded = true) (he : s.ftl.tables.entry c.nsid c.first = none) :
    s.beginRead key = (s.modifyCmd key (fun _ => c.readZero)).readsDone key := by
  unfold State.beginRead
  rw [hc]
  dsimp only
  rw [hw, h1, if_neg Bool.false_ne_true]
  show State.readsDone (s.readGranules key [c.first]) key = _
  rw [State.readGranules_unmapped hc ho hn hsrc hpage hj he, State.modifyCmd_of_cmd hc]
  rfl

theorem Cmd.readZero_settled (c : Cmd) : c.readZero.readsSettled = true := rfl

theorem State.failureRecords_readZero (s : State) (c : Cmd) : s.failureRecords c.readZero = s := Eq.refl _

theorem Cmd.readZero_readStatus (c : Cmd) : c.readZero.readStatus = 0 := rfl

theorem State.readsDone_compare {u : State} {n : Ns} (hu : u.cmd key = some c.readZero) (hn : c.ns = some n) (hop : c.opcode = 5) :
    u.readsDone key =
      u.finish key (if (pieceOf (c.byteRange n.block).1 (c.byteRange n.block).2 c.first zeroGranule).2 = c.data then 0 else 0x285) := by
  have hop' : c.readZero.opcode = 5 := hop
  have hn' : c.readZero.ns = some n := hn
  simp only [State.readsDone, hu, hn', hop', Cmd.readZero_settled, State.failureRecords_readZero, Cmd.readZero_readStatus, Bool.not_true,
    Bool.false_eq_true, if_false, if_true, ne_eq, not_true_eq_false, show ¬ (5 = 2) by decide]
  rw [show c.readZero.reads = [zeroRead c.first] from Eq.refl _, List.flatMap_singleton]
  rfl

theorem State.readsDone_read {u : State} {n : Ns} (hu : u.cmd key = some c.readZero) (hn : c.ns = some n) (hop : c.opcode = 2) :
    u.readsDone key = u.returnRead key c.readZero n := by
  have hop' : c.readZero.opcode = 2 := hop
  have hn' : c.readZero.ns = some n := hn
  simp [State.readsDone, hu, hn', hop', Cmd.readZero_settled, State.failureRecords_readZero]

theorem State.sendData_roce {k : Conn} (hready : s.ready c.conn = some k) (hroce : k.isRoce = true) (hserving : s.lcs.mode.serving = true)
    (key off : Nat) (b : List Byte) : ∃ conns, s.sendData key c off b = { s with
      qpc := { s.qpc with conns := conns }
      out := s.out ++ [.roce c.conn 2 k.npsn (packetsOf k.seg b.length) (rethBytes (c.sglAddr + off) c.sglKey b.length ++ b)] } := by
  obtain ⟨conns, hsent⟩ := State.roceMessage_serving hserving c.conn k 2 (.readData key) (rethBytes (c.sglAddr + off) c.sglKey b.length) b 0
  refine ⟨conns, ?_⟩
  simp only [State.sendData, hready, hroce, if_true]
  exact hsent

/-- The read of one unmapped granule returns zeros to the host (R73). -/
theorem State.returnRead_readZero {u : State} {k : Conn} (n : Ns) (hk : RoceReply u c k) :
    let p := pieceOf (c.byteRange n.block).1 (c.byteRange n.block).2 c.first zeroGranule
    ∃ conns, u.returnRead key c.readZero n = { u.finish key 0 with
      qpc := { u.qpc with conns := conns }
      out := u.out ++ [.roce c.conn 2 k.npsn (packetsOf k.seg p.2.length) (rethBytes (c.sglAddr + p.1) c.sglKey p.2.length ++ p.2)] } := by
  obtain ⟨hpeer, hstamps, hready, hroce, hserving⟩ := hk
  intro p
  obtain ⟨conns, hsend⟩ := State.sendData_roce (c := c.readZero) hready hroce hserving key p.1 p.2
  have hstamps' : u.stampsHold c.readZero = true := hstamps
  have hpeer' : c.readZero.fromPeer = none := hpeer
  have hjoin : joinPieces (c.readZero.reads.filterMap (fun r => r.content.map (fun x =>
      pieceOf (c.byteRange n.block).1 (c.byteRange n.block).2 r.granule x))) [] = [p] := Eq.refl _
  have hrange : c.readZero.byteRange n.block = c.byteRange n.block := Eq.refl _
  refine ⟨conns, ?_⟩
  unfold State.returnRead
  rw [hrange]
  simp only [hpeer', hjoin, List.foldl, hstamps', Option.isSome_none, Bool.false_eq_true, if_false, if_true, hsend,
    Cmd.readZero_readStatus]
  rfl

theorem State.resumeIo_read (h : s.cmd key = some c) (hst : c.stage = .held) (hop : c.opcode = 2 ∨ c.opcode = 5) :
    s.resumeIo key = s.beginRead key := by
  rcases hop with hop | hop <;> simp [State.resumeIo, h, hst, hop]

theorem State.runIo_unmapped {n : Ns} (h : IoHeld s key op c n) (hop : op = 2 ∨ op = 5) (ho : s.other = none) (h1 : c.count = 1)
    (hw : s.readWaits key c = false) (hpage : mapPageKey c.nsid c.first ∈ s.ftl.mapCached)
    (hj : ∀ r ∈ s.ftl.journal, r.applied = true ∨ r.superseded = true) (he : s.ftl.tables.entry c.nsid c.first = none) :
    s.runIo key op = (s.modifyCmd key (fun _ => c.readZero)).readsDone key := by
  obtain ⟨hc, hst, -, rfl, hns, hsrc⟩ := id h
  rw [State.runIo_held h, State.resumeIo_read hc hst hop, State.beginRead_unmapped hc ho hns hsrc h1 hw hpage hj he]

/-- What ends a command that read zeros. -/
def Cmd.readEnded (status : Nat) (c : Cmd) : Cmd := { c.readZero with stage := .finished, status := status, dw0 := 0 }

theorem State.finish_readZero (s : State) (key status : Nat) (c : Cmd) :
    (s.modifyCmd key (fun _ => c.readZero)).finish key status = s.modifyCmd key (fun _ => c.readEnded status) :=
  State.modifyCmd_modifyCmd s key _ _

/-! Writes that are cut (R47, R81). -/

/-- A command whose chunks are cut and whose items wait for its record. -/
def Cmd.cutInto (items : List (List JItem)) (c : Cmd) : Cmd := { c with stage := .writing, items := items, recorded := false, reads := [] }

/-- A chunk that is admitted is given its lanes and keeps what it holds. -/
theorem State.admitChunk_eq {j : ChunkJob} {m : Nat} (h : Tab.find s.rdx.chunks m = some j) :
    ∃ i, s.admitChunk m = { s with rdx := { s.rdx with chunks := Tab.insert s.rdx.chunks m i } } ∧
      i.stage = j.stage ∧ i.cmd = j.cmd ∧ i.granule = j.granule ∧ i.granules = j.granules := by
  unfold State.admitChunk State.giveLane
  simp only [h, Tab.find_insert, if_true, Tab.insert_insert]
  refine ⟨_, Eq.refl _, ?_⟩
  split <;> exact ⟨Eq.refl _, Eq.refl _, Eq.refl _, Eq.refl _⟩

theorem State.cutWrite_items {items : List (List JItem)} (hc : s.cmd key = some c) (hi : items ≠ []) :
    s.cutWrite key [] items = s.modifyCmd key (Cmd.cutInto items) := by
  unfold State.cutWrite
  rw [hc]
  simp [cutWindows, hi]
  rfl

/-- One granule makes one chunk. -/
theorem State.cutWrite_one {d : KeySlot} (hc : s.cmd key = some c) (hd : s.digestKey = some d) (g : Nat) (b : List Byte) :
    ∃ i, s.cutWrite key [(g, b)] [] = { s.modifyCmd key (Cmd.cutInto []) with
        rdx := { s.rdx with chunks := Tab.insert s.rdx.chunks s.rdx.nextChunk i, nextChunk := s.rdx.nextChunk + 1 } } ∧
      i.stage = .cut ∧ i.cmd = some key ∧ i.granule = g ∧ i.granules = 1 := by
  let j := cutJob key c.nsid c.me g [b]
  have hjs : (cutWindows s.chunkGranules [(g, b)] []).map (fun p => cutJob key c.nsid c.me p.1 p.2) = [j] := Eq.refl _
  obtain ⟨i, hi, hi'⟩ := State.admitChunk_eq (s := { s with rdx := { s.rdx with
    chunks := Tab.insert s.rdx.chunks s.rdx.nextChunk j, nextChunk := s.rdx.nextChunk + 1 } }) (j := j) (m := s.rdx.nextChunk)
    ((Tab.find_insert _ _ _ _).trans (if_pos (Eq.refl _)))
  refine ⟨i, ?_, hi'⟩
  unfold State.cutWrite
  rw [hc]
  simp only [hjs, hd, List.cons_ne_self, false_and, if_false, Option.isNone_some, Bool.false_eq_true]
  simp only [List.zipIdx_cons, List.zipIdx_nil, List.map_cons, List.map_nil, List.foldl, List.length_singleton, Nat.add_zero]
  rw [hi, Tab.insert_insert]
  rfl

/-- A write or write zeroes whose granules are whole reads nothing (R274). -/
def Cmd.unread (c : Cmd) : Cmd := { c with stage := .reading, reads := [] }

theorem Cmd.readsSettled_nil (hst : c.stage = .reading) (hr : c.reads = []) : c.readsSettled = true := by
  simp [Cmd.readsSettled, hst, hr]

theorem State.failureRecords_nil (s : State) (hr : c.reads = []) : s.failureRecords c = s := by simp [State.failureRecords, hr, failedRuns]

theorem Cmd.readStatus_nil (hr : c.reads = []) : c.readStatus = 0 := by simp [Cmd.readStatus, hr]

theorem State.readsDone_write {n : Ns} (hc : s.cmd key = some c) (hn : c.ns = some n) (hst : c.stage = .reading) (hr : c.reads = [])
    (hop : c.opcode = 1) : s.readsDone key = (s.count F.CMF.STAT.COUNT 11 0).cutWrite key ((List.range c.count).map (fun i =>
      (c.first + i, mergeGranule (c.byteRange n.block).1 (c.byteRange n.block).2 (c.first + i) c.data zeroGranule))) [] := by
  simp [State.readsDone, hc, hn, Cmd.readsSettled_nil hst hr, s.failureRecords_nil hr, Cmd.readStatus_nil hr, hop, hr]
  rfl

theorem State.readsDone_writeZeroes {n : Ns} (hc : s.cmd key = some c) (hn : c.ns = some n) (hst : c.stage = .reading) (hr : c.reads = [])
    (hop : c.opcode = 8) (hp : c.partials n.block = []) (hlt : ((c.byteRange n.block).1 + 4095) / 4096 < (c.byteRange n.block).2 / 4096) :
    s.readsDone key = (s.count F.CMF.STAT.COUNT 11 0).cutWrite key [] [[.dealloc c.nsid (((c.byteRange n.block).1 + 4095) / 4096)
      ((c.byteRange n.block).2 / 4096 - ((c.byteRange n.block).1 + 4095) / 4096)]] := by
  simp [State.readsDone, hc, hn, Cmd.readsSettled_nil hst hr, s.failureRecords_nil hr, Cmd.readStatus_nil hr, hop, hr, hp, hlt]

theorem State.digestKey_count (s : State) (k : Nat) : (s.count F.CMF.STAT.COUNT 11 k).digestKey = s.digestKey := by
  unfold State.digestKey
  rw [State.fld_eq_of_reg (s.count_reg F.CMF.STAT.COUNT 11 k _ (by decide)), State.slot_of_cip (State.count_cip ..)]

theorem State.resumeIo_write {n : Ns} (hc : s.cmd key = some c) (hst : c.stage = .held) (hop : c.opcode = 1 ∨ c.opcode = 8)
    (hn : c.ns = some n) (hp : c.partials n.block = []) :
    s.resumeIo key = (s.modifyCmd key (fun _ => c.unread)).readsDone key := by
  simp only [State.resumeIo, hc, hst, hop, State.beginWrite, hn, hp, ne_eq, not_true_eq_false, if_false, if_true]
  rw [State.modifyCmd_of_cmd hc]
  rfl

/-- The granules of a whole write are counted, none, once the command has turned to its reads (R274). -/
theorem State.counted_unread (s : State) (key : Nat) (c : Cmd) : ∃ u, (s.modifyCmd key (fun _ => c.unread)).count F.CMF.STAT.COUNT 11 0 = u ∧
    u = { s.modifyCmd key (fun _ => c.unread) with regs := u.regs } ∧ SameRegs [(F.CMF.STAT.COUNT.nth 11).addr] s u ∧
    u.digestKey = s.digestKey :=
  ⟨_, Eq.refl _, State.count_frame _ _ _ _, State.put_sameRegs (s.modifyCmd key (fun _ => c.unread)) _ _,
    (State.digestKey_count _ 0).trans (Eq.refl _)⟩

/-! Dataset Management (R283). -/

theorem State.beginDsm_past {n : Ns} (hc : s.cmd key = some c) (hns : c.ns = some n) (h1 : c.cdw 10 % 256 = 0)
    (h : n.nsze < leNat ((c.data.drop 8).take 8) + leNat ((c.data.drop 4).take 4)) : s.beginDsm key = s.finish key 0x080 := by
  simp [State.beginDsm, hc, hns, h1, h]

theorem State.beginDsm_hint {n : Ns} (hc : s.cmd key = some c) (hns : c.ns = some n) (h1 : c.cdw 10 % 256 = 0)
    (h : leNat ((c.data.drop 8).take 8) + leNat ((c.data.drop 4).take 4) ≤ n.nsze) (had : (c.cdw 11).testBit 2 = false) :
    s.beginDsm key = s.finish key 0 := by
  simp [State.beginDsm, hc, hns, h1, Nat.not_lt.mpr h, had]

/-- With AD set, the whole granules of a range make an item. -/
theorem State.beginDsm_dealloc {n : Ns} (hc : s.cmd key = some c) (hns : c.ns = some n) (h1 : c.cdw 10 % 256 = 0)
    (had : (c.cdw 11).testBit 2 = true) :
    let first := leNat ((c.data.drop 8).take 8)
    let len := leNat ((c.data.drop 4).take 4)
    let g := (first * n.block + 4095) / 4096
    let e := (first + len) * n.block / 4096
    first + len ≤ n.nsze → g < e → s.beginDsm key =
      (s.modifyCmd key (fun c => { c with ranges := [(g, e - g)] })).cutWrite key [] [[.dealloc c.nsid g (e - g)]] := by
  intro first len g e hle hlt
  have hr : (List.range (c.cdw 10 % 256 + 1)).map (fun i =>
      (leNat ((c.data.drop (16 * i + 8)).take 8), leNat ((c.data.drop (16 * i + 4)).take 4))) = [(first, len)] := by
    rw [h1]
    rfl
  have hany : [(first, len)].any (fun r => decide (r.1 + r.2 > n.nsze)) = false := by simpa using hle
  have hwhole : [(first, len)].filterMap (fun r =>
      if (r.1 * n.block + 4095) / 4096 < (r.1 + r.2) * n.block / 4096 then
        some ((r.1 * n.block + 4095) / 4096, (r.1 + r.2) * n.block / 4096 - (r.1 * n.block + 4095) / 4096) else none) = [(g, e - g)] := by
    simp only [List.filterMap_cons, List.filterMap_nil]
    rw [if_pos hlt]
  simp only [State.beginDsm, hc, hns, hr, hany, had, hwhole]
  rfl

/-- A range of whole granules. -/
theorem granules_of_aligned {a len : Nat} (ha : a % 4096 = 0) (hb : (a + len) % 4096 = 0) :
    (a + 4095) / 4096 = a / 4096 ∧ (a + len) / 4096 - a / 4096 = len / 4096 ∧ (0 < len → a / 4096 < (a + len) / 4096) := by
  omega

end Io

end Sys2Proof.Machine

open Sys2Proof Sys2Proof.Machine

/-- Settles O46: the checks and the fetch by what `State.ioStart` does of a command that fails or passes them (R286, R297), the reads of
unmapped granules by `State.readGranules_unmapped` (R73), the writes by how their granules are cut (R47, R283). -/
theorem nvmCommandRows : Obligations.NvmCommandRows := by
  refine ⟨fun s key c x hx hne => ?refused, fun s key c hc hst hio hop hn hf => ?flushAll, fun s key c h hn hx hf => ?flush,
    fun s key c n k hx hf hn hk hkey => ?fetch, fun s key c n d h hp h1 hd => ?write, fun s key c n k h hk ho h1 hw hpage hj he => ?read,
    fun s key c n h ho h1 hw hpage hj he => ?compare, fun s key c n h hp ha hb hn => ?writeZeroes, fun s key c n h hn => ?dsm⟩
  case refused =>
    exact ⟨fun h hn => ⟨_, execFlush_refused h hn hx hne, State.finish_ends h.1 x 0⟩,
      fun h => ⟨_, rfl, State.runIo_refused h hx hne⟩, fun h => ⟨_, rfl, State.runIo_refused h hx hne⟩,
      fun h => ⟨_, rfl, State.runIo_refused h hx hne⟩, fun h => ⟨_, rfl, State.runIo_refused h hx hne⟩,
      fun h => ⟨_, rfl, State.runIo_refused h hx hne⟩, fun h => ⟨_, rfl, State.runRsv_refused _ h hx hne⟩,
      fun h => ⟨_, rfl, State.runRsv_refused _ h hx hne⟩, fun h => ⟨_, rfl, State.runRsv_refused _ h hx hne⟩,
      fun h => ⟨_, rfl, State.runRsv_refused _ h hx hne⟩⟩
  case flushAll =>
    refine ⟨s.finish key 0, ?_, State.finish_ends hc 0 0⟩
    show execFlush key s = _
    simp [execFlush, hc, hio, hop, hst, hn, hf]
  case flush =>
    obtain ⟨g, hst, hstatus, hrun⟩ := execFlush_passes h hn hx hf
    exact ⟨_, hrun, ⟨_, State.cmd_modifyCmd_same h.1 g, hst, hstatus⟩, State.otherCmds_modifyCmd s key g, rfl⟩
  case fetch =>
    exact ⟨fun h => ⟨_, rfl, State.runIo_fetches h (.inl rfl) hx hf hn hk hkey⟩,
      fun h => ⟨_, rfl, State.runIo_fetches h (.inr rfl) hx hf hn hk hkey⟩⟩
  case write =>
    obtain ⟨hc, hst, -, hop, hns, -⟩ := id h
    have hrun := (State.runIo_held h).trans ((State.resumeIo_write hc hst (.inl hop) hns hp).trans
      (State.readsDone_write (State.cmd_modifyCmd_same hc fun _ => c.unread) hns rfl rfl hop))
    rw [show c.unread.count = 1 from h1] at hrun
    obtain ⟨u, hu, hframe, hregs, hdigest⟩ := s.counted_unread key c
    rw [hu] at hrun
    clear hu
    generalize u.regs = r at hframe
    subst hframe
    obtain ⟨i, hcut, hi⟩ := State.cutWrite_one (s := { s.modifyCmd key (fun _ => c.unread) with regs := r }) (State.cmd_modifyCmd_same hc fun _ => c.unread)
      (hdigest.trans hd) c.first (mergeGranule (c.byteRange n.block).1 (c.byteRange n.block).2 c.first c.data zeroGranule)
    exact ⟨_, congrArg Host.Outcome.next (hrun.trans hcut),
      State.cmd_modifyCmd_same (s := { s.modifyCmd key (fun _ => c.unread) with regs := r }) (State.cmd_modifyCmd_same hc fun _ => c.unread) _,
      fun m hm => (State.otherCmds_modifyCmd _ key _ m hm).trans (State.otherCmds_modifyCmd s key _ m hm), rfl,
      ⟨i, (Tab.find_insert _ _ _ _).trans (if_pos rfl), hi⟩, fun m hm => (Tab.find_insert _ _ _ _).trans (if_neg hm), hregs,
      sameMemory_of_mem rfl⟩
  case read =>
    obtain ⟨hc, -, -, hop, hns, -⟩ := id h
    obtain ⟨conns, hret⟩ := State.returnRead_readZero (u := s.modifyCmd key (fun _ => c.readZero)) (key := key) n hk
    have ht := (State.runIo_unmapped h (.inl rfl) ho h1 hw hpage hj he).trans
      ((State.readsDone_read (State.cmd_modifyCmd_same hc fun _ => c.readZero) hns hop).trans hret)
    rw [State.finish_readZero] at ht
    exact ⟨_, congrArg Host.Outcome.next ht, ⟨_, State.cmd_modifyCmd_same hc _, rfl, rfl, rfl⟩, State.otherCmds_modifyCmd s key _, rfl, rfl⟩
  case compare =>
    obtain ⟨hc, -, -, hop, hns, -⟩ := id h
    have ht := (State.runIo_unmapped h (.inr rfl) ho h1 hw hpage hj he).trans (State.readsDone_compare (State.cmd_modifyCmd_same hc fun _ => c.readZero) hns hop)
    rw [State.finish_readZero] at ht
    exact ⟨_, congrArg Host.Outcome.next ht, ⟨_, State.cmd_modifyCmd_same hc _, rfl, if_congr eq_comm rfl rfl⟩,
      State.otherCmds_modifyCmd s key _, rfl⟩
  case writeZeroes =>
    obtain ⟨hc, hst, -, hop, hns, -⟩ := id h
    obtain ⟨hfirst, hcount, hsome⟩ := granules_of_aligned ha (by rw [← Nat.add_mul]; exact hb)
    rw [← Nat.add_mul] at hcount hsome
    have hlt : (c.slba * n.block + 4095) / 4096 < (c.slba + c.nlb) * n.block / 4096 :=
      hfirst ▸ hsome (Nat.mul_pos (Nat.succ_pos _) hn)
    have hrun := (State.runIo_held h).trans ((State.resumeIo_write hc hst (.inr hop) hns hp).trans
      (State.readsDone_writeZeroes (State.cmd_modifyCmd_same hc fun _ => c.unread) hns rfl rfl hop hp hlt))
    obtain ⟨u, hu, hframe, hregs, -⟩ := s.counted_unread key c
    rw [hu] at hrun
    clear hu
    generalize u.regs = r at hframe
    subst hframe
    have hcut := State.cutWrite_items (s := { s.modifyCmd key (fun _ => c.unread) with regs := r }) (State.cmd_modifyCmd_same hc fun _ => c.unread)
      (List.cons_ne_nil [JItem.dealloc c.nsid ((c.slba * n.block + 4095) / 4096)
        ((c.slba + c.nlb) * n.block / 4096 - (c.slba * n.block + 4095) / 4096)] [])
    refine ⟨_, congrArg Host.Outcome.next (hrun.trans hcut),
      (State.cmd_modifyCmd_same (s := { s.modifyCmd key (fun _ => c.unread) with regs := r }) (State.cmd_modifyCmd_same hc fun _ => c.unread) _).trans ?_,
      fun m hm => (State.otherCmds_modifyCmd _ key _ m hm).trans (State.otherCmds_modifyCmd s key _ m hm), rfl, fun _ => rfl, hregs,
      sameMemory_of_mem rfl⟩
    rw [hfirst, hcount]
    rfl
  case dsm =>
    obtain ⟨hc, hst, -, hop, hns, -⟩ := id h
    intro first len
    have hrun : s.runIo key 9 = s.beginDsm key := by
      rw [State.runIo_held h]
      simp [State.resumeIo, hc, hst, hop]
    refine ⟨fun hlt => ?_, fun hle had => ?_, fun hle had hwhole => ?_⟩
    · exact ⟨_, congrArg Host.Outcome.next (hrun.trans (State.beginDsm_past hc hns hn hlt)), State.finish_ends hc 0x080 0⟩
    · exact ⟨_, congrArg Host.Outcome.next (hrun.trans (State.beginDsm_hint hc hns hn hle had)), State.finish_ends hc 0 0⟩
    · have hdsm := hrun.trans (State.beginDsm_dealloc hc hns hn had hle hwhole)
      rw [State.cutWrite_items (State.cmd_modifyCmd_same hc _) (List.cons_ne_nil _ _), State.modifyCmd_modifyCmd] at hdsm
      exact ⟨_, congrArg Host.Outcome.next hdsm, ⟨_, State.cmd_modifyCmd_same hc _, rfl, rfl⟩, State.otherCmds_modifyCmd s key _, rfl,
        sameMemory_of_mem rfl⟩
end

section
/-!
Laws of reservation commands in their turn (R306 to R308).
-/

namespace Sys2Proof.Machine

section Reservations

variable {s : State} {key op : Nat} {c : Cmd} {n : Ns}

/-- A record formed changes the flash side, and counts. -/
theorem State.formRecord_frame (s : State) (items : List JItem) (k : Option Nat) (p : Bool) :
    s.formRecord items k p = { s with ftl := (s.formRecord items k p).ftl, regs := (s.formRecord items k p).regs } :=
  State.eq_of_unrecorded_of_evr (s := { s with ftl := (s.formRecord items k p).ftl }) (s.formRecord_unrecorded items k p)
    (State.count_evr ..)

theorem State.formRecord_items (s : State) (items : List JItem) (k : Option Nat) (p : Bool) :
    (s.formRecord items k p).ftl.journal.map JRec.items = s.ftl.journal.map JRec.items ++ [items] := by
  obtain ⟨r, hr, hf⟩ := s.formRecord_ftl items k p
  rw [hf, List.map_append, List.map_singleton, hr]

theorem State.rsvOf_insert {s t : State} {a : Nat} {r : Rsv} (h : t.cmf.rsv = Tab.insert s.cmf.rsv a r) (m : Nat) :
    t.rsvOf m = if m = a then r else s.rsvOf m := by
  unfold State.rsvOf Tab.getD
  rw [h, Tab.find_insert]
  split <;> rfl

/-- A reservation command whose data is present, in its turn, takes effect. -/
theorem State.runRsv_held (f : Cmd → Ns → Rsv → State → State) (hc : s.cmd key = some c) (hst : c.stage = .held) (hio : c.io = true)
    (hop : c.opcode = op) (hn : c.ns = some n) (ht : s.outOfTurn key c = false) :
    s.runRsv key op f = f c n (s.rsvOf c.nsid) s := by
  simp [State.runRsv, hc, hst, hio, hop, hn, ht]

/-- A change of a reservation that no other host is told of (R307, R308). -/
def RsvChanged (key : Nat) (c : Cmd) (r : Rsv) (op : Nat) (k pk : Word) (s t : State) : Prop :=
  t.rsvOf c.nsid = r ∧ (∀ m, m ≠ c.nsid → t.rsvOf m = s.rsvOf m) ∧
  t.cmd key = some { c with stage := .writing, recorded := true, items := [] } ∧ OtherCmds key s t ∧
  t.ftl.journal.map JRec.items = s.ftl.journal.map JRec.items ++ [[.rsv c.nsid op r.rtype r.ptpl r.prgen c.host k pk]] ∧
  SameRegs [(F.FTL.STAT.COUNT.nth 12).addr] s t ∧
  t = { s with cmf := { s.cmf with rsv := t.cmf.rsv, cmds := t.cmf.cmds }, ftl := t.ftl, regs := t.regs }

theorem State.applyRsv_change (hc : s.cmd key = some c) (ho : s.other = none) (n : Ns) (r : Rsv) (op : Nat) (k pk : Word) :
    RsvChanged key c r op k pk s (s.applyRsv key c n (.change r op k pk [])) := by
  let s1 : State := { s with cmf := { s.cmf with rsv := Tab.insert s.cmf.rsv c.nsid r } }
  have hitems := s1.formRecord_items [.rsv c.nsid op r.rtype r.ptpl r.prgen c.host k pk] (some key) true
  have hframe := s1.formRecord_frame [.rsv c.nsid op r.rtype r.ptpl r.prgen c.host k pk] (some key) true
  have hregs : SameRegs [(F.FTL.STAT.COUNT.nth 12).addr] s1
      (s1.formRecord [.rsv c.nsid op r.rtype r.ptpl r.prgen c.host k pk] (some key) true) :=
    fun a ha => s1.formRecord_reg _ _ _ (List.mem_singleton.not.mp ha)
  have ht : s.applyRsv key c n (.change r op k pk []) = (s1.formRecord [.rsv c.nsid op r.rtype r.ptpl r.prgen c.host k pk] (some key)
      true).modifyCmd key (fun c => { c with stage := .writing, recorded := true, items := [] }) :=
    congrArg (State.modifyCmd · key _) (s1.onSide_single _ _ ho)
  rw [ht]
  generalize s1.formRecord [.rsv c.nsid op r.rtype r.ptpl r.prgen c.host k pk] (some key) true = u at *
  generalize u.ftl = f at *
  generalize u.regs = g at *
  subst hframe
  exact ⟨(State.rsvOf_insert (s := s) (Eq.refl _) _).trans (if_pos (Eq.refl _)),
    fun m hm => (State.rsvOf_insert (s := s) (Eq.refl _) m).trans (if_neg hm),
    State.cmd_modifyCmd_same (s := { s1 with ftl := f, regs := g }) hc _, State.otherCmds_modifyCmd { s1 with ftl := f, regs := g } key _,
    hitems, hregs, Eq.refl _⟩

theorem State.applyRsv_conflict (hc : s.cmd key = some c) (n : Ns) :
    let t := s.applyRsv key c n (.refused 0x083)
    t.cmd key = some { c with stage := .finished, status := 0x083, dw0 := 0 } ∧ OtherCmds key s t ∧
    t.fld (F.CMF.STAT.COUNT.nth 14) = (s.fld (F.CMF.STAT.COUNT.nth 14) + 1) % 2 ^ 64 ∧ SameRegs [(F.CMF.STAT.COUNT.nth 14).addr] s t ∧
    t = { s with cmf := { s.cmf with cmds := t.cmf.cmds }, regs := t.regs } := by
  intro t
  obtain ⟨hcmd, hother, hregs, hframe⟩ := State.finish_of_regs (s.count_frame F.CMF.STAT.COUNT 14 1) hc 0x083 0
  have ht : t = (s.count F.CMF.STAT.COUNT 14).finish key 0x083 := Eq.refl _
  rw [ht]
  refine ⟨hcmd, hother, (State.fld_congr hregs _).trans (State.fld_count_same s _ 14 1 64 (by decide) (by rfl)),
    fun m hm => (State.reg_congr hregs m).trans (State.put_sameRegs s _ _ m hm), ?_⟩
  rw [hregs]
  exact hframe

/-- Bits 3:0 of a dword are 0. -/
theorem low4_zero {x : Nat} (h : x % 16 = 0) : x.testBit 3 = false ∧ x % 8 = 0 := by
  refine ⟨?_, by omega⟩
  rw [Nat.testBit_eq_decide_div_mod_eq]
  exact decide_eq_false (by omega)

/-! The reservation as a command changes it (R306, R307). -/

theorem Rsv.register_new {r : Rsv} {h : BitVec 128} (hr : r.registrant h = none) (iekey : Bool) (crkey nrkey : Word) :
    r.register h 0 iekey 0 crkey nrkey = if 64 ≤ r.regs.length then .refused 0x002
      else .change { r with regs := r.regs ++ [⟨h, nrkey⟩], prgen := (r.prgen + 1) % 2 ^ 32 } 1 nrkey 0 [] := by
  unfold Rsv.register
  rw [hr]
  rfl

theorem Rsv.acquire_free {r : Rsv} {h : BitVec 128} {g : Registrant} (hr : r.registrant h = some g) {rtype : Nat} (h1 : 1 ≤ rtype)
    (h6 : rtype ≤ 6) (h0 : r.rtype = 0) (prkey : Word) :
    r.acquire h 0 rtype g.key prkey = .change { r with rtype := rtype, holder := some h } 4 g.key 0 [] := by
  simp [Rsv.acquire, hr, h0, Nat.not_lt.mpr h6, Nat.ne_of_gt h1]

theorem Rsv.acquire_unregistered {r : Rsv} {h : BitVec 128} (hr : r.registrant h = none) (action rtype : Nat) (crkey prkey : Word) :
    r.acquire h action rtype crkey prkey = .refused 0x083 := by
  unfold Rsv.acquire
  rw [hr]

theorem Rsv.release_holder {r : Rsv} {h : BitVec 128} {g : Registrant} (hr : r.registrant h = some g) (hh : r.holder = some h)
    (ht : r.rtype = 1 ∨ r.rtype = 2) :
    r.releaseCmd h 0 r.rtype g.key = .change { r with rtype := 0, holder := none } 6 g.key 0 [] := by
  rcases ht with ht | ht <;> simp [Rsv.releaseCmd, hr, Rsv.heldBy, Rsv.allHold, ht, hh, Rsv.release]

end Reservations

end Sys2Proof.Machine

open Sys2Proof Sys2Proof.Machine

/-- Settles O47: a reservation command in its turn takes effect once (`State.runRsv_held`), and its change makes one record
(`State.applyRsv_change`, R307, R308). -/
theorem reservationRows : Obligations.ReservationRows := by
  refine ⟨fun s key c n h ha hp hr => ?register, fun s key c n h ha => ?acquire, fun s key c n g h ha hr hg hh ht h12 => ?release,
    fun s key c n h => ?report⟩ <;> obtain ⟨hc, hst, hio, hop, hn, hturn, ho⟩ := h
  case register =>
    have hrun (u : State) (hu : s.applyRsv key c n ((s.rsvOf c.nsid).register c.host 0 ((c.cdw 10).testBit 3) 0 (c.dataWord 0) (c.dataWord 8)) = u) :
        exec (.reservationRegister key) s = .next u := by
      refine congrArg Host.Outcome.next ((State.runRsv_held _ hc hst hio hop hn hturn).trans ?_)
      rw [ha, hp]
      exact hu
    rw [Rsv.register_new hr] at hrun
    exact ⟨fun hlt => ⟨_, hrun _ (by rw [if_neg (Nat.not_le.mpr hlt)]), State.applyRsv_change hc ho n _ 1 _ 0⟩,
      fun hle => ⟨_, hrun _ (by rw [if_pos hle]; rfl), State.finish_ends hc 0x002 0⟩⟩
  case acquire =>
    obtain ⟨hbit, hact⟩ := low4_zero ha
    intro r rtype
    have hrun (u : State) (hu : s.applyRsv key c n (r.acquire c.host 0 rtype (c.dataWord 0) (c.dataWord 8)) = u) :
        exec (.reservationAcquire key) s = .next u := by
      refine congrArg Host.Outcome.next ((State.runRsv_held _ hc hst hio hop hn hturn).trans ?_)
      rw [hbit, hact]
      exact hu
    refine ⟨fun g hr hg h1 h6 h0 => ?_, fun hr => ?_⟩
    · rw [← hg, Rsv.acquire_free hr h1 h6 h0] at hrun
      rw [← hg]
      exact ⟨_, hrun _ rfl, State.applyRsv_change hc ho n _ 4 _ 0⟩
    · rw [Rsv.acquire_unregistered hr] at hrun
      exact ⟨_, hrun _ rfl, State.applyRsv_conflict hc n⟩
  case release =>
    obtain ⟨hbit, hact⟩ := low4_zero ha
    refine ⟨_, congrArg Host.Outcome.next ((State.runRsv_held _ hc hst hio hop hn hturn).trans ?_), State.applyRsv_change hc ho n _ 6 _ 0⟩
    rw [hbit, hact, ← ht, ← hg, Rsv.release_holder hr hh h12]
    rfl
  case report =>
    have hrun := State.runRsv_held (fun c _ r t =>
      if !(c.cdw 11).testBit 0 then t.finish key 0x018
      else t.returnData key ((t.rsvStatus r).take ((c.cdw 10 + 1) * 4) ++
        List.replicate ((c.cdw 10 + 1) * 4 - ((t.rsvStatus r).take ((c.cdw 10 + 1) * 4)).length) 0)) hc hst hio hop hn hturn
    refine ⟨fun h0 => ⟨_, congrArg Host.Outcome.next (hrun.trans ?_), State.finish_ends hc 0x018 0⟩,
      fun k h0 hk => ⟨_, congrArg Host.Outcome.next (hrun.trans ?_), State.returnData_roce hc hk _⟩⟩
    · rw [h0]
      rfl
    · rw [h0]
      rfl
end

section
/-!
Laws of namespace commands, of the activation hold, of ANA states and of the moss limit (R276, R277, R287, R304, R310 to R312).
-/

namespace Sys2Proof.Machine

/-! CMF.NS_CMD (R277, R566). -/

def cmfNsCmd : RegSpec := ⟨0x138, 0x0, 1, [⟨1, 0, .wo, (k 0), false, [(1, 3)]⟩]⟩

/-- What a write of it starts. -/
def nsBegun (_ : Req) (v : Nat) (_ : Bool) (s : State) : State := { s with cmf := { s.cmf with nsCmd := some (wfld v F.CMF.NS_CMD.OP) } }

theorem commandReg_cmfNsCmd : CommandReg F.CMF.NS_CMD.OP.addr Src.CMF cmfNsCmd F.CMF.NS_STATUS.BUSY nsBegun where
  aligned := by decide
  spec := by rfl
  block := by decide
  busyBlock := by decide
  busyBit := by decide
  busyApart := by decide
  writeOnly := by decide
  free s v f hf := by
    rw [List.mem_singleton.mp hf]
    exact ⟨by rfl, by rfl, by rfl⟩
  accepts s v := Eq.trans (by rfl) (accepts_of_busy (s.flag F.CMF.NS_STATUS.BUSY))
  undelayed s v := by rfl
  starts s r v was ok := by rfl
  rewritten s r v ok := by rfl

/-- A namespace command waits for its boundary (R277). -/
theorem nsCommand {op : Nat} {c : Req → Instr} (h : 1 ≤ op ∧ op ≤ 3)
    (hc : ∀ r s, exec (c r) s = .next (s.busWrite r F.CMF.NS_CMD.OP.addr 8 (fieldWord F.CMF.NS_CMD.OP op) true)) :
    StartsCommand FromCore F.CMF.NS_STATUS.BUSY c (fun _ s => { s with cmf := { s.cmf with nsCmd := some op } }) ∧
    DiscardedWhileBusy FromCore F.CMF.NS_STATUS.BUSY c := by
  have hop : bits (fieldWord F.CMF.NS_CMD.OP op).toNat 1 0 = op :=
    (bits_fieldWord_same F.CMF.NS_CMD.OP op (by decide)).trans (Nat.mod_eq_of_lt (Nat.lt_of_le_of_lt h.2 (by decide)))
  refine commandReg_cmfNsCmd.command (reached_fromCore commandReg_cmfNsCmd.spec) (fun f hf => ?_) hc (fun r s => ?_)
  · obtain rfl := List.mem_singleton.mp hf
    exact legalVal_range (Eq.refl _) (hop.symm ▸ h)
  · rw [nsBegun, show wfld _ F.CMF.NS_CMD.OP = op from hop]

/-! CMF.ACT_CMD (R304). -/

def cmfActCmd : RegSpec := ⟨0x148, 0x0, 1, [⟨1, 0, .wo, (k 0), false, [(1, 2)]⟩]⟩

section ActCmd

variable {s : State} {r : Req} {op : Nat}

theorem actOp_fieldWord (h : 1 ≤ op ∧ op ≤ 2) : wfld (fieldWord F.CMF.ACT_CMD.OP op).toNat F.CMF.ACT_CMD.OP = op :=
  (bits_fieldWord_same F.CMF.ACT_CMD.OP op (by decide)).trans (Nat.mod_eq_of_lt (Nat.lt_of_le_of_lt h.2 (by decide)))

theorem State.accepts_actCmd (s : State) (v : Nat) :
    s.accepts F.CMF.ACT_CMD.OP.addr v = (wfld v F.CMF.ACT_CMD.OP != 1 || s.cmf.hold.isNone) := by rfl

/-- A write of START or RELEASE is taken, but for START during a hold. -/
theorem State.busWrite_actCmd (hr : r.test = false) (h : 1 ≤ op ∧ op ≤ 2) :
    s.busWrite r F.CMF.ACT_CMD.OP.addr 8 (fieldWord F.CMF.ACT_CMD.OP op) true =
      if op != 1 || s.cmf.hold.isNone then
        (s.setReg F.CMF.ACT_CMD.OP.addr (s.reg F.CMF.ACT_CMD.OP.addr)).serviceWritten F.CMF.ACT_CMD.OP.addr 0
          (fieldWord F.CMF.ACT_CMD.OP op).toNat
      else s.accessErrorIn Src.CMF r true F.CMF.ACT_CMD.OP.addr 8 .state := by
  have hs : specAt F.CMF.ACT_CMD.OP.addr = some (Src.CMF, cmfActCmd, 0) := by rfl
  have hop := actOp_fieldWord h
  have hlegal : 1 ≤ bits (fieldWord F.CMF.ACT_CMD.OP op).toNat 1 0 ∧ bits (fieldWord F.CMF.ACT_CMD.OP op).toNat 1 0 ≤ 2 :=
    (show bits (fieldWord F.CMF.ACT_CMD.OP op).toNat 1 0 = op from hop).symm ▸ h
  have he : s.firstError cmfActCmd F.CMF.ACT_CMD.OP.addr F.CMF.ACT_CMD.OP.addr 0 (fieldWord F.CMF.ACT_CMD.OP op).toNat = none :=
    State.firstError_none fun f hf => by
      obtain rfl := List.mem_singleton.mp hf
      exact State.fieldError_none (by rfl) (.inl (Eq.refl _)) (legalVal_range (Eq.refl _) hlegal) (by rfl) (by rfl)
  rw [State.busWrite_reached (reached_fromCore hs r hr) (by decide) (by decide) he (by rfl), State.accepts_actCmd, hop,
    State.written_writeOnly (by decide), BitVec.ofNat_toNat, BitVec.setWidth_eq]
  rfl

end ActCmd

end Sys2Proof.Machine

end

section
/-!
Laws of namespace commands at their boundary (R276, R277).
-/

namespace Sys2Proof.Machine

/-! What a namespace command leaves alone. -/

/-- What no namespace command changes before it gives its result. -/
def State.nsKept (s : State) : Word × Word × Evr × Tck × List Host.Cell × Option Nat :=
  (s.reg F.CMF.NS_STATUS.BUSY.addr, s.reg (eventAddr Src.CMF), s.evr, s.tck, s.mem, s.cmf.nsCmd)

theorem State.nsKept_swapSides (s : State) : s.swapSides.nsKept = s.nsKept := by
  unfold State.swapSides
  split <;> rfl

theorem State.nsKept_formRecord (s : State) (items : List JItem) (k : Option Nat) (p : Bool) : (s.formRecord items k p).nsKept = s.nsKept := by
  have hframe := s.formRecord_frame items k p
  unfold State.nsKept
  rw [s.formRecord_reg items k p (by decide), s.formRecord_reg items k p (by decide), hframe]

theorem State.nsKept_setPtpl (s : State) (nsid : Nat) (ptpl : Bool) (c : Option Nat) : (s.setPtpl nsid ptpl c).nsKept = s.nsKept :=
  (State.onSide_keeps State.nsKept State.nsKept_swapSides (fun u => u.nsKept_formRecord ..) _ _).trans (Eq.refl _)

theorem State.nsKept_onSide {f : State → State} (hf : ∀ u, (f u).nsKept = u.nsKept) (s : State) (k : Nat) :
    (s.onSide k f).nsKept = s.nsKept := State.onSide_keeps State.nsKept State.nsKept_swapSides hf s k

/-- The reservations of a namespace that is created persist when PTPL asks for it (R308). -/
theorem State.nsKept_created (s : State) (nsid : Nat) (ptpl owns : Bool) :
    (if !ptpl then s else if owns then s.setPtpl nsid ptpl none
      else { s with cmf := { s.cmf with rsv := Tab.insert s.cmf.rsv nsid { s.rsvOf nsid with ptpl := ptpl } } }).nsKept = s.nsKept := by
  split
  · exact Eq.refl _
  · split
    · exact State.nsKept_setPtpl ..
    · exact Eq.refl _

/-! The end of a namespace command. -/

/-- A namespace command has ended with a result, in the state of its boundary (R277). -/
structure NsDone (r : Nat) (s u : State) : Prop where
  notBusy : u.fld F.CMF.NS_STATUS.BUSY = 0
  result : u.fld F.CMF.NS_STATUS.RESULT = r
  events : u.reg (eventAddr Src.CMF) = s.reg (eventAddr Src.CMF)
  evr : u.evr = s.evr
  tck : u.tck = s.tck
  mem : u.mem = s.mem
  nsCmd : u.cmf.nsCmd = none

/-- The state in which a namespace command runs. -/
def State.nsTurn (s : State) : State := ({ s with cmf := { s.cmf with nsCmd := none } } : State).put F.CMF.NS_STATUS.BUSY 0

section Turn

variable {s u w : State} {r : Nat}

theorem State.nsTurn_cmf (s : State) : s.nsTurn.cmf = { s.cmf with nsCmd := none } := State.put_cmf _ _ _

theorem State.nsTurn_reg (s : State) {a : Nat} (h : a ≠ F.CMF.NS_STATUS.BUSY.addr) : s.nsTurn.reg a = s.reg a :=
  State.reg_put_other ({ s with cmf := { s.cmf with nsCmd := none } } : State) F.CMF.NS_STATUS.BUSY 0 a h

theorem State.nsTurn_notBusy (s : State) : s.nsTurn.fld F.CMF.NS_STATUS.BUSY = 0 := State.fld_put_width _ _ _ 1 (by decide) (by rfl)

/-- What keeps all that a namespace command keeps, and then gives the result. -/
theorem NsDone.of_put (hr : r < 16) (hw : w.nsKept = s.nsTurn.nsKept) : NsDone r s (w.put F.CMF.NS_STATUS.RESULT r) := by
  obtain ⟨hstatus, hevents, hevr, htck, hmem, hcmd⟩ : _ ∧ _ ∧ _ ∧ _ ∧ _ ∧ _ := by simpa only [State.nsKept, Prod.mk.injEq] using hw
  refine ⟨?_, (State.fld_put_width _ _ _ 4 (by decide) (by rfl)).trans (Nat.mod_eq_of_lt hr), ?_, ?_, ?_, ?_, ?_⟩
  · rw [State.fld_put_other _ _ _ _ (by decide) (by decide) (by decide), State.fld_eq_of_reg hstatus, s.nsTurn_notBusy]
  · rw [State.reg_put_other _ _ _ _ (by decide), hevents, s.nsTurn_reg (by decide)]
  · rw [State.put_evr, hevr]
    exact State.put_evr _ _ _
  · rw [State.put_tck, htck]
    exact State.put_tck _ _ _
  · rw [State.put_mem, hmem]
    exact State.put_mem _ _ _
  · rw [State.put_cmf, hcmd, s.nsTurn_cmf]

/-- Registers but NS_STATUS and the events' may change on the way. -/
theorem State.nsKept_setReg (s : State) (a : Nat) (v : Word) (h : a ≠ F.CMF.NS_STATUS.BUSY.addr ∧ a ≠ eventAddr Src.CMF) :
    (s.setReg a v).nsKept = s.nsKept := by
  unfold State.nsKept
  rw [State.reg_setReg_other _ _ _ _ h.1.symm, State.reg_setReg_other _ _ _ _ h.2.symm, State.setReg_evr, State.setReg_tck, State.setReg_mem,
    State.setReg_cmf]

/-- The end of the command is signalled. -/
theorem NsDone.signalled (h : NsDone r s u) (nsid : Nat) : let t := u.event Src.CMF 0 nsid
    t.fld F.CMF.NS_STATUS.BUSY = 0 ∧ t.fld F.CMF.NS_STATUS.RESULT = r ∧ Signals s t Src.CMF 0 nsid ∧ SameMemory s t ∧
      t.cmf.nsCmd = none := by
  intro t
  have hkept : t.reg F.CMF.NS_STATUS.BUSY.addr = u.reg F.CMF.NS_STATUS.BUSY.addr := State.event_reg _ _ _ _ _ _ _ (by decide)
  exact ⟨(State.fld_eq_of_reg hkept).trans h.notBusy, (State.fld_eq_of_reg (f := F.CMF.NS_STATUS.RESULT) hkept).trans h.result,
    State.event_signals _ _ _ _ _ _ _ (eventAddr_not_mem_recordRegs _ (by decide)) h.events h.evr (by rw [h.tck]),
    sameMemory_of_mem ((State.event_mem ..).trans h.mem), by rw [State.event_cmf]; exact h.nsCmd⟩

theorem State.nsWrite_done (s : State) (nsid : Nat) : ∃ r, NsDone r s (s.nsTurn.nsWrite nsid) := by
  unfold State.nsWrite
  dsimp only
  split
  · exact ⟨1, NsDone.of_put (by decide) (Eq.refl _)⟩
  · split
    · split
      · exact ⟨1, NsDone.of_put (by decide) (Eq.refl _)⟩
      · refine ⟨0, NsDone.of_put (by decide) ?_⟩
        split
        · exact Eq.refl _
        · split
          · exact State.nsKept_setPtpl ..
          · exact Eq.refl _
    · refine ⟨0, NsDone.of_put (by decide) ((State.nsKept_created ..).trans ?_)⟩
      split
      · refine (State.nsKept_onSide (fun u => ?_) _ _).trans (Eq.refl _)
        split <;> exact Eq.refl _
      · exact Eq.refl _

theorem State.nsDelete_done (s : State) (nsid : Nat) : ∃ r, NsDone r s (s.nsTurn.nsDelete nsid) := by
  unfold State.nsDelete
  dsimp only
  split
  · exact ⟨2, NsDone.of_put (by decide) (Eq.refl _)⟩
  · split
    · exact ⟨3, NsDone.of_put (by decide) (Eq.refl _)⟩
    · refine ⟨0, NsDone.of_put (by decide) ?_⟩
      split
      · exact (State.nsKept_onSide (fun u => by exact Eq.refl _) _ _).trans (Eq.refl _)
      · exact Eq.refl _

end Turn

end Sys2Proof.Machine

end

section
/-!
The entry that NS READ shows, and the entries that NS WRITE makes and NS DELETE removes (R276, R277).
-/

namespace Sys2Proof.Machine

section Entry

variable {s t : State} {n : Ns} {nsid : Nat}

/-- NS_DATA2 as READ shows it. -/
def nsWord (n : Ns) (ptpl : Bool) : Nat :=
  2 ^ 27 + ptpl.toNat * 2 ^ 26 + n.wp.toNat * 2 ^ 25 + n.small.toNat * 2 ^ 24 + n.vset * 2 ^ 16 + n.keySlot

theorem bits_nsWord (ptpl : Bool) (hv : n.vset < 32) (hk : n.keySlot < 4096) :
    bits (nsWord n ptpl % 2 ^ 64) 27 27 = 1 ∧ bits (nsWord n ptpl % 2 ^ 64) 26 26 = ptpl.toNat ∧ bits (nsWord n ptpl % 2 ^ 64) 25 25 = n.wp.toNat ∧
    bits (nsWord n ptpl % 2 ^ 64) 24 24 = n.small.toNat ∧ bits (nsWord n ptpl % 2 ^ 64) 20 16 = n.vset ∧
    bits (nsWord n ptpl % 2 ^ 64) 11 0 = n.keySlot := by
  have h1 := ptpl.toNat_lt
  have h2 := n.wp.toNat_lt
  have h3 := n.small.toNat_lt
  unfold nsWord bits
  simp only [Nat.shiftRight_eq_div_pow]
  omega

theorem bits_nsSource (hs : n.src < 2 ^ 32) (hm : n.snapMe < 2 ^ 32) :
    bits ((n.src * 2 ^ 32 + n.snapMe) % 2 ^ 64) 63 32 = n.src ∧ bits ((n.src * 2 ^ 32 + n.snapMe) % 2 ^ 64) 31 0 = n.snapMe := by
  unfold bits
  simp only [Nat.shiftRight_eq_div_pow]
  omega

/-- The registers show an entry (R276). -/
theorem State.nsFromRegs_shown {ptpl : Bool} (h0 : (t.reg F.CMF.NS_DATA0.NSZE.addr).toNat = n.nsze)
    (h1 : t.reg F.CMF.NS_DATA1.SRC_NSID.addr = BitVec.ofNat 64 (n.src * 2 ^ 32 + n.snapMe))
    (h2 : t.reg F.CMF.NS_DATA2.VALID.addr = BitVec.ofNat 64 (nsWord n ptpl))
    (hs : n.src < 2 ^ 32) (hm : n.snapMe < 2 ^ 32) (hv : n.vset < 32) (hk : n.keySlot < 4096) :
    t.flag F.CMF.NS_DATA2.VALID = true ∧ t.nsFromRegs = { n with wp := n.wp || n.src != 0 } ∧ t.flag F.CMF.NS_DATA2.PTPL = ptpl := by
  have hw : (t.reg F.CMF.NS_DATA2.VALID.addr).toNat = nsWord n ptpl % 2 ^ 64 := by rw [h2, BitVec.toNat_ofNat]
  have hx : (t.reg F.CMF.NS_DATA1.SRC_NSID.addr).toNat = (n.src * 2 ^ 32 + n.snapMe) % 2 ^ 64 := by rw [h1, BitVec.toNat_ofNat]
  obtain ⟨hvalid, hptpl, hwp, hsmall, hvset, hslot⟩ := bits_nsWord ptpl hv hk
  obtain ⟨hsrc, hme⟩ := bits_nsSource hs hm
  rw [← hw] at hvalid hptpl hwp hsmall hvset hslot
  rw [← hx] at hsrc hme
  have hflag (b : Bool) : (b.toNat == 1) = b := by cases b <;> rfl
  have fptpl : t.flag F.CMF.NS_DATA2.PTPL = ptpl := (congrArg (· == 1) hptpl).trans (hflag _)
  have fwp : t.flag F.CMF.NS_DATA2.WP = n.wp := (congrArg (· == 1) hwp).trans (hflag _)
  have fsmall : t.flag F.CMF.NS_DATA2.LBAF = n.small := (congrArg (· == 1) hsmall).trans (hflag _)
  refine ⟨beq_iff_eq.mpr hvalid, ?_, fptpl⟩
  unfold State.nsFromRegs
  rw [h0, fsmall, fwp, show t.fld F.CMF.NS_DATA2.VSET = n.vset from hvset, show t.fld F.CMF.NS_DATA2.KEY_SLOT = n.keySlot from hslot,
    show t.fld F.CMF.NS_DATA1.SRC_NSID = n.src from hsrc, show t.fld F.CMF.NS_DATA1.SNAP_ME = n.snapMe from hme]

/-- A field that is a whole register. -/
theorem State.toNat_reg_of_word (s : State) (a : Nat) : s.fld ⟨a, 0, 63, 0⟩ = (s.reg a).toNat := by
  unfold State.fld bits
  simp only [Nat.shiftRight_zero]
  exact Nat.mod_eq_of_lt (s.reg a).isLt

/-- A read of an entry that does not exist (R276). -/
theorem State.nsRead_none (h : Tab.find s.cmf.ns nsid = none) : NsDone 2 s (s.nsTurn.nsRead nsid) ∧
    (s.nsTurn.nsRead nsid).flag F.CMF.NS_DATA2.VALID = false := by
  have hfind : Tab.find s.nsTurn.cmf.ns nsid = none := h
  unfold State.nsRead
  rw [hfind]
  refine ⟨NsDone.of_put (by decide) ?_, ?_⟩
  · exact State.nsKept_setReg _ _ _ (by decide)
  · rw [State.flag, State.fld_put_other _ _ _ _ (by decide) (by decide) (by decide), State.fld_put_width _ _ _ 1 (by decide) (by rfl)]
    rfl

theorem State.nsRead_done (h : Tab.find s.cmf.ns nsid = some n) : NsDone 0 s (s.nsTurn.nsRead nsid) := by
  have hfind : Tab.find s.nsTurn.cmf.ns nsid = some n := h
  unfold State.nsRead
  rw [hfind]
  refine NsDone.of_put (by decide) ?_
  rw [State.nsKept_setReg _ _ _ (by decide), State.nsKept_setReg _ _ _ (by decide)]
  exact State.nsKept_setReg _ _ _ (by decide)

/-- A read of an entry (R276). -/
theorem State.nsRead_some (h : Tab.find s.cmf.ns nsid = some n) (hz : n.nsze < 2 ^ 64) : let u := s.nsTurn.nsRead nsid
    NsDone 0 s u ∧ (u.reg F.CMF.NS_DATA0.NSZE.addr).toNat = n.nsze ∧
      u.reg F.CMF.NS_DATA1.SRC_NSID.addr = BitVec.ofNat 64 (n.src * 2 ^ 32 + n.snapMe) ∧
      u.reg F.CMF.NS_DATA2.VALID.addr = BitVec.ofNat 64 (nsWord n (s.rsvOf nsid).ptpl) := by
  have hfind : Tab.find s.nsTurn.cmf.ns nsid = some n := h
  refine ⟨State.nsRead_done h, ?_⟩
  unfold State.nsRead
  rw [hfind]
  dsimp only
  refine ⟨?_, ?_, ?_⟩
  · rw [State.reg_put_other _ _ _ _ (by decide), State.reg_setReg_other _ _ _ _ (by decide), State.reg_setReg_other _ _ _ _ (by decide)]
    exact (State.toNat_reg_of_word _ _).symm.trans ((State.fld_put_width _ F.CMF.NS_DATA0.NSZE _ 64 (by decide) (by rfl)).trans (Nat.mod_eq_of_lt hz))
  · rw [State.reg_put_other _ _ _ _ (by decide), State.reg_setReg_other _ _ _ _ (by decide), State.reg_setReg_same]
  · rw [State.reg_put_other _ _ _ _ (by decide), State.reg_setReg_same]
    rfl

theorem State.nsRead_cmf (s : State) (nsid : Nat) : (s.nsRead nsid).cmf = s.cmf := by
  unfold State.nsRead
  split
  · rw [State.put_cmf, State.put_cmf]
  · rw [State.put_cmf, State.setReg_cmf, State.setReg_cmf, State.put_cmf]

/-! Entries made and removed (R277). -/

theorem State.nsTurn_nsFromRegs (s : State) : s.nsTurn.nsFromRegs = s.nsFromRegs := by
  have h (f : Fld) (hf : f.addr ≠ F.CMF.NS_STATUS.BUSY.addr) : s.nsTurn.fld f = s.fld f := State.fld_eq_of_reg (s.nsTurn_reg hf)
  unfold State.nsFromRegs State.flag
  rw [s.nsTurn_reg (by decide), h _ (by decide), h _ (by decide), h _ (by decide), h _ (by decide), h _ (by decide), h _ (by decide)]

/-- An entry of a bad size changes nothing. -/
theorem State.nsWrite_badSize (h : s.nsFromRegs.sizeOk = false) (nsid : Nat) :
    NsDone 1 s (s.nsTurn.nsWrite nsid) ∧ (s.nsTurn.nsWrite nsid).cmf = { s.cmf with nsCmd := none } := by
  have hu : s.nsTurn.nsWrite nsid = s.nsTurn.put F.CMF.NS_STATUS.RESULT 1 := by
    unfold State.nsWrite
    simp only [s.nsTurn_nsFromRegs, h, Bool.not_false, true_or, if_true]
  rw [hu]
  exact ⟨NsDone.of_put (by decide) (Eq.refl _), s.nsTurn_cmf⟩

/-- A new entry of a namespace of its own map (R164, R277). -/
theorem State.nsWrite_new (hok : s.nsFromRegs.sizeOk = true) (hsrc : s.nsFromRegs.src = 0) (hme : s.nsFromRegs.snapMe = 0)
    (hnone : Tab.find s.cmf.ns nsid = none) (hptpl : s.flag F.CMF.NS_DATA2.PTPL = false) (ho : s.other = none) :
    let u := s.nsTurn.nsWrite nsid
    NsDone 0 s u ∧ u.cmf.ns = Tab.insert s.cmf.ns nsid s.nsFromRegs ∧ (Tab.find u.ftl.tables.epochs nsid).isSome = true := by
  have hfind : Tab.find s.nsTurn.cmf.ns nsid = none := hnone
  have hflag : s.nsTurn.flag F.CMF.NS_DATA2.PTPL = false := by
    unfold State.flag
    rw [State.fld_eq_of_reg (s.nsTurn_reg (by decide))]
    exact hptpl
  have ho' : s.nsTurn.other = none := ho
  have hu : ∃ w : State, s.nsTurn.nsWrite nsid = w.put F.CMF.NS_STATUS.RESULT 0 ∧ w.nsKept = s.nsTurn.nsKept ∧
      w.cmf.ns = Tab.insert s.nsTurn.cmf.ns nsid s.nsFromRegs ∧ (Tab.find w.ftl.tables.epochs nsid).isSome = true := by
    unfold State.nsWrite
    rw [s.nsTurn_nsFromRegs]
    simp only [hok, hsrc, hme, hfind, hflag, Bool.not_true, Bool.false_eq_true, ne_eq, not_true_eq_false, and_false, or_self, if_false,
      Bool.not_false, if_true]
    refine ⟨_, Eq.refl _, ?_⟩
    rw [State.onSide_single]
    · split
      case isTrue he => exact ⟨Eq.refl _, Eq.refl _, he⟩
      case isFalse =>
        refine ⟨Eq.refl _, Eq.refl _, ?_⟩
        show (Tab.find (Tab.insert _ nsid _) nsid).isSome = true
        rw [Tab.find_insert, if_pos (Eq.refl _)]
        rfl
    · exact ho'
  obtain ⟨w, hw, hkept, hns, hepoch⟩ := hu
  rw [hw]
  exact ⟨NsDone.of_put (by decide) hkept, hns, hepoch⟩

end Entry

end Sys2Proof.Machine

end

section
/-!
NS READ, WRITE and DELETE at their boundary (R276, R277).
-/

namespace Sys2Proof.Machine

section Boundary

variable {s : State} {n : Ns} {nsid : Nat}

theorem State.nsDelete_none (h : Tab.find s.cmf.ns nsid = none) : let u := s.nsTurn.nsDelete nsid
    NsDone 2 s u ∧ u.cmf.ns = s.cmf.ns := by
  have hfind : Tab.find s.nsTurn.cmf.ns nsid = none := h
  unfold State.nsDelete
  rw [hfind]
  exact ⟨NsDone.of_put (by decide) (Eq.refl _), Eq.refl _⟩

/-- A snapshot namespace reads it (R277). -/
theorem State.nsDelete_source (h : Tab.find s.cmf.ns nsid = some n) (hsrc : ∃ p ∈ s.cmf.ns, p.2.src = nsid) : let u := s.nsTurn.nsDelete nsid
    NsDone 3 s u ∧ u.cmf.ns = s.cmf.ns := by
  have hfind : Tab.find s.nsTurn.cmf.ns nsid = some n := h
  have hany : s.nsTurn.cmf.ns.any (fun p => p.2.src == nsid) = true := by
    obtain ⟨p, hp, he⟩ := hsrc
    exact List.any_eq_true.mpr ⟨p, hp, beq_iff_eq.mpr he⟩
  unfold State.nsDelete
  rw [hfind]
  simp only [hany, if_true]
  exact ⟨NsDone.of_put (by decide) (Eq.refl _), Eq.refl _⟩

/-- The entry and its reservation go, and its map is swept (R167). -/
theorem State.nsDelete_some (h : Tab.find s.cmf.ns nsid = some n) (hno : ∀ p ∈ s.cmf.ns, p.2.src ≠ nsid) (hsrc : n.src = 0)
    (ho : s.other = none) : let u := s.nsTurn.nsDelete nsid
    NsDone 0 s u ∧ u.cmf.ns = Tab.erase s.cmf.ns nsid ∧ u.cmf.rsv = Tab.erase s.cmf.rsv nsid ∧
      u.ftl.sweeps = s.ftl.sweeps ++ [⟨nsid, 0, true⟩] := by
  have hfind : Tab.find s.nsTurn.cmf.ns nsid = some n := h
  have hany : s.nsTurn.cmf.ns.any (fun p => p.2.src == nsid) = false :=
    List.any_eq_false.mpr (fun p hp => by simpa using hno p hp)
  unfold State.nsDelete
  rw [hfind]
  simp only [hany, Bool.false_eq_true, if_false, hsrc, if_true]
  rw [State.onSide_single _ _ _ (by exact ho)]
  exact ⟨NsDone.of_put (by decide) (Eq.refl _), Eq.refl _, Eq.refl _, Eq.refl _⟩

theorem State.runNsCommand_read (h : s.cmf.nsCmd = some 1) :
    s.runNsCommand = (s.nsTurn.nsRead (s.fld F.CMF.NS_SEL.NSID)).event Src.CMF 0 (s.fld F.CMF.NS_SEL.NSID) := by
  unfold State.runNsCommand
  rw [h]
  rfl

theorem State.runNsCommand_write (h : s.cmf.nsCmd = some 2) :
    s.runNsCommand = (s.nsTurn.nsWrite (s.fld F.CMF.NS_SEL.NSID)).event Src.CMF 0 (s.fld F.CMF.NS_SEL.NSID) := by
  unfold State.runNsCommand
  rw [h]
  rfl

theorem State.runNsCommand_delete (h : s.cmf.nsCmd = some 3) :
    s.runNsCommand = (s.nsTurn.nsDelete (s.fld F.CMF.NS_SEL.NSID)).event Src.CMF 0 (s.fld F.CMF.NS_SEL.NSID) := by
  unfold State.runNsCommand
  rw [h]
  rfl

/-- The event of the end changes no register but those of events. -/
theorem State.fld_event {u : State} {src bit unit a0 a1 : Nat} {f : Fld} (h : f.addr ∉ eventRegs src) :
    (u.event src bit unit a0 a1).fld f = u.fld f := State.fld_eq_of_reg (State.event_reg _ _ _ _ _ _ _ h)

theorem State.nsFromRegs_event {u : State} (unit : Nat) : (u.event Src.CMF 0 unit).nsFromRegs = u.nsFromRegs := by
  unfold State.nsFromRegs State.flag
  rw [State.event_reg _ _ _ _ _ _ _ (by decide), State.fld_event (by decide), State.fld_event (by decide), State.fld_event (by decide),
    State.fld_event (by decide), State.fld_event (by decide), State.fld_event (by decide)]

theorem State.nsRead_boundary (s : State) (h : s.cmf.nsCmd = some 1) :
    let nsid := s.fld F.CMF.NS_SEL.NSID
    let t := s.runNsCommand
    t.fld F.CMF.NS_STATUS.BUSY = 0 ∧ t.cmf = { s.cmf with nsCmd := none } ∧ Signals s t Src.CMF 0 nsid ∧
    (Tab.find s.cmf.ns nsid = none → t.fld F.CMF.NS_STATUS.RESULT = 2 ∧ t.flag F.CMF.NS_DATA2.VALID = false) ∧
    (∀ n, Tab.find s.cmf.ns nsid = some n → n.nsze < 2 ^ 64 → n.src < 2 ^ 32 → n.snapMe < 2 ^ 32 → n.vset < 32 →
      n.keySlot < 4096 → t.fld F.CMF.NS_STATUS.RESULT = 0 ∧ t.flag F.CMF.NS_DATA2.VALID = true ∧
      t.nsFromRegs = { n with wp := n.wp || n.src != 0 } ∧ t.flag F.CMF.NS_DATA2.PTPL = (s.rsvOf nsid).ptpl) := by
  intro nsid t
  have ht : t = (s.nsTurn.nsRead nsid).event Src.CMF 0 nsid := State.runNsCommand_read h
  have hcmf : t.cmf = { s.cmf with nsCmd := none } := by rw [ht, State.event_cmf, State.nsRead_cmf, State.nsTurn_cmf]
  have hdone : ∃ r, NsDone r s (s.nsTurn.nsRead nsid) := by
    cases hf : Tab.find s.cmf.ns nsid with
    | none => exact ⟨2, (State.nsRead_none hf).1⟩
    | some n => exact ⟨0, State.nsRead_done hf⟩
  obtain ⟨r, hdone⟩ := hdone
  obtain ⟨hbusy, -, hsig, -, -⟩ := hdone.signalled nsid
  rw [ht]
  refine ⟨hbusy, ht ▸ hcmf, hsig, fun hf => ?_, fun n hf hz hs hm hv hk => ?_⟩
  · obtain ⟨hend, hvalid⟩ := State.nsRead_none hf
    obtain ⟨-, hresult, -⟩ := hend.signalled nsid
    refine ⟨hresult, ?_⟩
    unfold State.flag
    rw [State.fld_event (by decide)]
    exact hvalid
  · obtain ⟨hend, h0, h1, h2⟩ := State.nsRead_some hf hz
    obtain ⟨hvalid, hshown, hptpl⟩ := State.nsFromRegs_shown h0 h1 h2 hs hm hv hk
    obtain ⟨-, hresult, -⟩ := hend.signalled nsid
    refine ⟨hresult, ?_, (State.nsFromRegs_event nsid).trans hshown, ?_⟩
    · unfold State.flag
      rw [State.fld_event (by decide)]
      exact hvalid
    · unfold State.flag
      rw [State.fld_event (by decide)]
      exact hptpl

theorem State.nsWrite_boundary (s : State) (h : s.cmf.nsCmd = some 2) :
    let nsid := s.fld F.CMF.NS_SEL.NSID
    let n := s.nsFromRegs
    let t := s.runNsCommand
    t.fld F.CMF.NS_STATUS.BUSY = 0 ∧ t.cmf.nsCmd = none ∧ Raises t Src.CMF 0 ∧ SameMemory s t ∧
    (n.sizeOk = false → t.fld F.CMF.NS_STATUS.RESULT = 1 ∧ t.cmf = { s.cmf with nsCmd := none }) ∧
    (n.sizeOk = true → n.src = 0 → n.snapMe = 0 → Tab.find s.cmf.ns nsid = none → s.flag F.CMF.NS_DATA2.PTPL = false →
      s.other = none → t.fld F.CMF.NS_STATUS.RESULT = 0 ∧ Tab.find t.cmf.ns nsid = some n ∧
      (∀ m, m ≠ nsid → Tab.find t.cmf.ns m = Tab.find s.cmf.ns m) ∧ (Tab.find t.ftl.tables.epochs nsid).isSome = true) := by
  intro nsid n t
  have ht : t = (s.nsTurn.nsWrite nsid).event Src.CMF 0 nsid := State.runNsCommand_write h
  obtain ⟨r, hdone⟩ := s.nsWrite_done nsid
  obtain ⟨hbusy, -, hsig, hmem, hcmd⟩ := hdone.signalled nsid
  rw [ht]
  refine ⟨hbusy, hcmd, raises_of_signals (by decide) hsig, hmem, fun hbad => ?_, fun hok hsrc hme hnone hptpl ho => ?_⟩
  · obtain ⟨hend, hcmf⟩ := State.nsWrite_badSize hbad nsid
    obtain ⟨-, hresult, -⟩ := hend.signalled nsid
    exact ⟨hresult, (State.event_cmf ..).trans hcmf⟩
  · obtain ⟨hend, hns, hepoch⟩ := State.nsWrite_new hok hsrc hme hnone hptpl ho
    obtain ⟨-, hresult, -⟩ := hend.signalled nsid
    refine ⟨hresult, ?_, fun m hm => ?_, ?_⟩
    · rw [State.event_cmf, hns, Tab.find_insert, if_pos (Eq.refl _)]
    · rw [State.event_cmf, hns, Tab.find_insert, if_neg hm]
    · rw [State.event_ftl]
      exact hepoch

theorem State.nsDelete_boundary (s : State) (h : s.cmf.nsCmd = some 3) :
    let nsid := s.fld F.CMF.NS_SEL.NSID
    let t := s.runNsCommand
    t.fld F.CMF.NS_STATUS.BUSY = 0 ∧ t.cmf.nsCmd = none ∧ Raises t Src.CMF 0 ∧ SameMemory s t ∧
    (Tab.find s.cmf.ns nsid = none → t.fld F.CMF.NS_STATUS.RESULT = 2 ∧ t.cmf.ns = s.cmf.ns) ∧
    (∀ n, Tab.find s.cmf.ns nsid = some n → (∃ p ∈ s.cmf.ns, p.2.src = nsid) →
      t.fld F.CMF.NS_STATUS.RESULT = 3 ∧ t.cmf.ns = s.cmf.ns) ∧
    (∀ n, Tab.find s.cmf.ns nsid = some n → (∀ p ∈ s.cmf.ns, p.2.src ≠ nsid) → n.src = 0 → s.other = none →
      t.fld F.CMF.NS_STATUS.RESULT = 0 ∧ Tab.find t.cmf.ns nsid = none ∧ t.rsvOf nsid = ⟨0, 0, none, [], false⟩ ∧
      (∀ m, m ≠ nsid → Tab.find t.cmf.ns m = Tab.find s.cmf.ns m) ∧ t.ftl.sweeps = s.ftl.sweeps ++ [⟨nsid, 0, true⟩]) := by
  intro nsid t
  have ht : t = (s.nsTurn.nsDelete nsid).event Src.CMF 0 nsid := State.runNsCommand_delete h
  obtain ⟨r, hdone⟩ := s.nsDelete_done nsid
  obtain ⟨hbusy, -, hsig, hmem, hcmd⟩ := hdone.signalled nsid
  rw [ht]
  refine ⟨hbusy, hcmd, raises_of_signals (by decide) hsig, hmem, fun hf => ?_, fun n hf hsrc => ?_, fun n hf hno hsrc ho => ?_⟩
  · obtain ⟨hend, hns⟩ := State.nsDelete_none hf
    obtain ⟨-, hresult, -⟩ := hend.signalled nsid
    exact ⟨hresult, by rw [State.event_cmf]; exact hns⟩
  · obtain ⟨hend, hns⟩ := State.nsDelete_source hf hsrc
    obtain ⟨-, hresult, -⟩ := hend.signalled nsid
    exact ⟨hresult, by rw [State.event_cmf]; exact hns⟩
  · obtain ⟨hend, hns, hrsv, hsweeps⟩ := State.nsDelete_some hf hno hsrc ho
    obtain ⟨-, hresult, -⟩ := hend.signalled nsid
    refine ⟨hresult, ?_, ?_, fun m hm => ?_, ?_⟩
    · rw [State.event_cmf, hns, Tab.find_erase, if_pos (Eq.refl _)]
    · unfold State.rsvOf Tab.getD
      rw [State.event_cmf, hrsv, Tab.find_erase, if_pos (Eq.refl _)]
      rfl
    · rw [State.event_cmf, hns, Tab.find_erase, if_neg hm]
    · rw [State.event_ftl]
      exact hsweeps

end Boundary

end Sys2Proof.Machine

end

section
/-!
The activation hold (R304).
-/

namespace Sys2Proof.Machine

section Hold

variable {s : State} {h : Hold}

/-- START outside a hold waits for its boundary. -/
theorem actStart_taken {r : Req} (hr : r.test = false) (hh : s.cmf.hold = none) : Runs (.actStart r) s fun t =>
    SameRegs [] s t ∧ t = { s with cmf := { s.cmf with actStart := true }, regs := t.regs } := by
  let t : State := { s.setReg F.CMF.ACT_CMD.OP.addr (s.reg F.CMF.ACT_CMD.OP.addr) with cmf := { s.cmf with actStart := true } }
  refine ⟨t, congrArg Host.Outcome.next ((State.busWrite_actCmd hr (op := 1) (by decide)).trans ?_), ?_, ?_⟩
  · rw [hh]
    rfl
  · exact fun a _ => s.reg_setReg_self _ a
  · rfl

/-- START during a hold is discarded. -/
theorem actStart_discarded {r : Req} (hr : r.test = false) (hh : s.cmf.hold = some h) : Runs (.actStart r) s fun t =>
    (t.reg (blockBase Src.CMF + 8)).getLsbD 4 = true ∧ t.evr.queue = s.evr.queue ∧
    SameRegs [blockBase Src.CMF + 8, blockBase Src.CMF + 16] s t ∧ t = { s with regs := t.regs, evr := t.evr } := by
  refine ⟨s.accessErrorIn Src.CMF r true F.CMF.ACT_CMD.OP.addr 8 .state,
    congrArg Host.Outcome.next ((State.busWrite_actCmd hr (op := 1) (by decide)).trans ?_), s.accessErrorIn_kind Src.CMF r true _ 8 .state, ?_,
    s.accessErrorIn_sameRegs Src.CMF r true _ 8 .state, State.eq_of_unrecorded (State.accessErrorIn_unrecorded ..)⟩
  · exact if_neg (by rw [hh]; exact Bool.false_ne_true)
  · rw [State.accessErrorIn_evr]

theorem actRelease_taken {r : Req} (hr : r.test = false) (hh : s.cmf.hold = some h) : Runs (.actRelease r) s fun t =>
    SameRegs [] s t ∧ t = { s with cmf := { s.cmf with hold := some { h with release := true } }, regs := t.regs } := by
  let t : State := { s.setReg F.CMF.ACT_CMD.OP.addr (s.reg F.CMF.ACT_CMD.OP.addr) with
    cmf := { s.cmf with hold := some { h with release := true } } }
  refine ⟨t, congrArg Host.Outcome.next ((State.busWrite_actCmd hr (op := 2) (by decide)).trans ?_), ?_, ?_⟩
  · have hmap : s.cmf.hold.map (fun h => { h with release := true }) = some { h with release := true } := by rw [hh]; rfl
    exact (congrArg (fun o : Option Hold => { s.setReg F.CMF.ACT_CMD.OP.addr (s.reg F.CMF.ACT_CMD.OP.addr) with
      cmf := { s.cmf with hold := o } }) hmap)
  · exact fun a _ => s.reg_setReg_self _ a
  · rfl

/-- What the end of a hold leaves before its event: the three fields of ACT_STATUS. -/
def State.holdGone (s : State) (h : Hold) (result : Nat) : State :=
  ((({ s with cmf := { s.cmf with hold := none } } : State).put F.CMF.ACT_STATUS.HOLD 0).put F.CMF.ACT_STATUS.RESULT result).put
    F.CMF.ACT_STATUS.HOLD_TICKS (min (s.now - h.since) 65535)

theorem State.holdGone_hold (s : State) (h : Hold) (result : Nat) : (s.holdGone h result).flag F.CMF.ACT_STATUS.HOLD = false := by
  unfold State.flag State.holdGone
  rw [State.fld_put_other _ _ _ _ (by decide) (by decide) (by decide), State.fld_put_other _ _ _ _ (by decide) (by decide) (by decide),
    State.fld_put_width _ _ _ 1 (by decide) (by rfl)]
  rfl

theorem State.holdGone_result (s : State) (h : Hold) {result : Nat} (hr : result < 16) :
    (s.holdGone h result).fld F.CMF.ACT_STATUS.RESULT = result := by
  unfold State.holdGone
  rw [State.fld_put_other _ _ _ _ (by decide) (by decide) (by decide), State.fld_put_width _ _ _ 4 (by decide) (by rfl)]
  exact Nat.mod_eq_of_lt hr

theorem State.holdGone_ticks (s : State) (h : Hold) (result : Nat) :
    (s.holdGone h result).fld F.CMF.ACT_STATUS.HOLD_TICKS = min (s.now - h.since) 65535 := by
  unfold State.holdGone
  rw [State.fld_put_width _ _ _ 16 (by decide) (by rfl)]
  exact Nat.mod_eq_of_lt (by omega)

theorem State.holdGone_sameRegs (s : State) (h : Hold) (result : Nat) : SameRegs [F.CMF.ACT_STATUS.HOLD.addr] s (s.holdGone h result) := by
  intro a ha
  have hne : a ≠ F.CMF.ACT_STATUS.HOLD.addr := fun he => ha (List.mem_singleton.mpr he)
  unfold State.holdGone
  rw [State.reg_put_other _ F.CMF.ACT_STATUS.HOLD_TICKS _ _ hne, State.reg_put_other _ F.CMF.ACT_STATUS.RESULT _ _ hne,
    State.reg_put_other _ F.CMF.ACT_STATUS.HOLD _ _ hne]
  rfl

theorem State.holdGone_frame (s : State) (h : Hold) (result : Nat) :
    s.holdGone h result = { s with cmf := { s.cmf with hold := none }, regs := (s.holdGone h result).regs } := Eq.refl _

/-- START takes effect at its boundary. -/
theorem State.holdBoundary_starts (hh : s.cmf.hold = none) (hs : s.cmf.actStart = true) :
    s.holdBoundary.cmf = { s.cmf with actStart := false, hold := some ⟨s.now, false, false⟩ } ∧
    s.holdBoundary.flag F.CMF.ACT_STATUS.HOLD = true ∧ s.holdBoundary.flag F.CMF.ACT_STATUS.QUIESCED = false := by
  have ht : s.holdBoundary =
      (({ s with cmf := { s.cmf with actStart := false, hold := some ⟨s.now, false, false⟩ } } : State).put F.CMF.ACT_STATUS.HOLD 1).put
        F.CMF.ACT_STATUS.QUIESCED 0 := by
    unfold State.holdBoundary
    simp only [hh, hs, Option.isNone_none, and_self, if_true]
  rw [ht]
  refine ⟨Eq.refl _, ?_, ?_⟩
  · rw [State.flag, State.fld_put_other _ _ _ _ (by decide) (by decide) (by decide), State.fld_put_width _ _ _ 1 (by decide) (by rfl)]
    rfl
  · rw [State.flag, State.fld_put_width _ _ _ 1 (by decide) (by rfl)]
    rfl

/-- A hold that was released ends at the boundary. -/
theorem State.holdBoundary_released (hh : s.cmf.hold = some h) (hrel : h.release = true) (hq : h.quiesced = true)
    (hs : s.cmf.actStart = false) : s.holdBoundary.cmf = { s.cmf with hold := none } ∧
    s.holdBoundary.flag F.CMF.ACT_STATUS.HOLD = false ∧ s.holdBoundary.fld F.CMF.ACT_STATUS.RESULT = 0 := by
  have hend : s.endHold h 0 = s.holdGone h 0 := by rfl
  have hno : (s.holdGone h 0).cmf.actStart = false := hs
  have ht : s.holdBoundary = s.holdGone h 0 := by
    unfold State.holdBoundary
    simp only [hh, hrel, hq, if_true, hend, hno, Bool.false_eq_true, false_and, if_false]
  rw [ht]
  exact ⟨Eq.refl _, s.holdGone_hold h 0, s.holdGone_result h (by decide)⟩

theorem actQuiesced_idle (hh : s.cmf.hold = some h) (hq : h.quiesced = false) (hidle : ∀ p ∈ s.cmf.cmds, p.2.waitsEvent = true) :
    Runs .actQuiesced s fun t =>
      t.cmf = { s.cmf with hold := some { h with quiesced := true } } ∧ t.flag F.CMF.ACT_STATUS.QUIESCED = true ∧
      Signals s t Src.CMF 1 0 ∧ SameRegs (F.CMF.ACT_STATUS.QUIESCED.addr :: eventRegs Src.CMF) s t ∧
      t = { s with cmf := t.cmf, regs := t.regs, evr := t.evr } := by
  have hnone : s.anyInFlight = false := List.any_eq_false.mpr fun p hp => by rw [hidle p hp]; decide
  let u : State := { s with cmf := { s.cmf with hold := some { h with quiesced := true } } }
  have ht : exec .actQuiesced s = .next ((u.put F.CMF.ACT_STATUS.QUIESCED 1).event Src.CMF 1) := by
    show execActQuiesced s = _
    unfold execActQuiesced
    simp only [hh, hq, hnone, Bool.false_eq_true, or_self, if_false, u]
  refine ⟨_, ht, ?_, ?_, ?_, fun a ha => ?_, ?_⟩
  · rw [State.event_cmf]
    rfl
  · rw [State.flag, State.fld_event (by decide), State.fld_put_width _ _ _ 1 (by decide) (by rfl)]
    rfl
  · exact State.event_signals _ _ _ _ _ _ _ (eventAddr_not_mem_recordRegs _ (by decide)) (State.reg_put_other u _ _ _ (by decide))
      (Eq.refl _) (Eq.refl _)
  · obtain ⟨hne, hev⟩ := not_or.mp (List.mem_cons.not.mp ha)
    rw [State.event_reg _ _ _ _ _ _ _ hev, State.reg_put_other _ _ _ _ hne]
    rfl
  · obtain ⟨e, g, he⟩ := State.event_eq (u.put F.CMF.ACT_STATUS.QUIESCED 1) Src.CMF 1 0 0 0
    rw [he]
    rfl

theorem actQuiesced_busy (hh : s.cmf.hold = some h) (hbusy : ∃ p ∈ s.cmf.cmds, p.2.waitsEvent = false) :
    exec .actQuiesced s = .next s := by
  obtain ⟨p, hp, hw⟩ := hbusy
  have hany : s.anyInFlight = true := List.any_eq_true.mpr ⟨p, hp, by rw [hw]; rfl⟩
  show execActQuiesced s = _
  unfold execActQuiesced
  simp only [hh, hany, or_true, if_true]

theorem actTimeout_ends (hh : s.cmf.hold = some h) (hq : h.quiesced = false) (hlate : h.since + s.ticksIn 1000 ≤ s.now)
    (hsim : s.fld F.SIM.STATUS.STATE ≠ 6) : Runs .actTimeout s fun t =>
      t.cmf = { s.cmf with hold := none } ∧ t.flag F.CMF.ACT_STATUS.HOLD = false ∧ t.fld F.CMF.ACT_STATUS.RESULT = 1 ∧
      t.fld F.CMF.ACT_STATUS.HOLD_TICKS = min (s.now - h.since) 65535 ∧ Signals s t Src.CMF 2 0 ∧
      SameRegs (F.CMF.ACT_STATUS.HOLD.addr :: eventRegs Src.CMF) s t ∧
      t = { s with cmf := t.cmf, regs := t.regs, evr := t.evr } := by
  have hregs := s.holdGone_sameRegs h 1
  have hlost : ((s.holdGone h 1).event Src.CMF 2).holdLost = (s.holdGone h 1).event Src.CMF 2 := by
    unfold State.holdLost
    rw [if_neg]
    rintro ⟨he, -⟩
    rw [State.fld_event (by decide), State.fld_eq_of_reg (hregs _ (by decide))] at he
    exact hsim he
  have ht : exec .actTimeout s = .next ((s.holdGone h 1).event Src.CMF 2) := by
    show execActTimeout s = _
    unfold execActTimeout
    have hnot : ¬ (s.now < h.since + s.holdLimit) := Nat.not_lt.mpr hlate
    simp only [hh, hq, hnot, Bool.false_eq_true, or_self, if_false]
    exact congrArg Host.Outcome.next hlost
  refine ⟨_, ht, ?_, ?_, ?_, ?_, ?_, fun a ha => ?_, ?_⟩
  · rw [State.event_cmf]
    rfl
  · rw [State.flag, State.fld_event (by decide)]
    exact s.holdGone_hold h 1
  · rw [State.fld_event (by decide)]
    exact s.holdGone_result h (by decide)
  · rw [State.fld_event (by decide)]
    exact s.holdGone_ticks h 1
  · exact State.event_signals _ _ _ _ _ _ _ (eventAddr_not_mem_recordRegs _ (by decide)) (hregs _ (by decide)) (Eq.refl _) (Eq.refl _)
  · obtain ⟨hne, hev⟩ := not_or.mp (List.mem_cons.not.mp ha)
    rw [State.event_reg _ _ _ _ _ _ _ hev]
    exact hregs a fun hm => hne (List.mem_singleton.mp hm)
  · obtain ⟨e, g, he⟩ := State.event_eq (s.holdGone h 1) Src.CMF 2 0 0 0
    rw [he]
    rfl

theorem actTimeout_early (hh : s.cmf.hold = some h) (hearly : s.now < h.since + s.ticksIn 1000) : exec .actTimeout s = .next s := by
  show execActTimeout s = _
  unfold execActTimeout
  have hnot : s.now < h.since + s.holdLimit := hearly
  simp only [hh, hnot, or_true, if_true]

end Hold

end Sys2Proof.Machine

end

section
/-!
ANA states: those forced, and a change that lasts too long (R310, R312).
-/

namespace Sys2Proof.Machine

/-! CMF.ANA, an array of 32 registers. -/

def cmfAna : RegSpec := ⟨0x1000, 0x8, 32, [⟨63, 32, .ro, (k 0), false, []⟩, ⟨5, 4, .rw, (k 0), false, [(0, 2)]⟩, ⟨3, 0, .ro, (k 3), false, []⟩]⟩

theorem arrayOf_cmfAna : ArrayOf Src.CMF cmfAna :=
  ⟨by decide, ⟨15, by rfl, by decide⟩, by decide, by decide, by decide, by decide⟩

section Ana

variable {s t u : State} {r : Req} {v i : Nat} {w : Word}

theorem ana_addr (hv : v < 32) : (F.CMF.ANA.FORCE.nth v).addr = 0xF1C01000 + v * 8 := by
  show 0xF1C01000 / 0x400000 * 0x400000 + (0xF1C01000 % 0x400000 + v * 8) % 0x400000 = _
  omega

theorem ana_arrayAddr (hv : v < 32) : (F.CMF.ANA.FORCE.nth v).addr = arrayAddr Src.CMF cmfAna v := by
  rw [ana_addr hv]
  show _ = 0xF1C00000 + (0x1000 + v * 8)
  omega

/-- A register out of the array is none of it. -/
theorem ana_addr_ne (hv : v < 32) {a : Nat} (ha : a < 0xF1C01000 ∨ 0xF1C01100 ≤ a) : a ≠ (F.CMF.ANA.FORCE.nth v).addr := by
  rw [ana_addr hv]
  omega

theorem ana_not_event (hv : v < 32) : (F.CMF.ANA.FORCE.nth v).addr ∉ eventRegs Src.CMF := by
  have h : ∀ a ∈ eventRegs Src.CMF, a < 0xF1C01000 ∨ 0xF1C01100 ≤ a := by decide
  exact fun hm => ana_addr_ne hv (h _ hm) (Eq.refl _)

theorem State.accepts_ana (s : State) (v' : Nat) (hv : v < 32) : s.accepts (F.CMF.ANA.FORCE.nth v).addr v' = true := by
  have h : ∀ a ∈ ruledRegs, a < 0xF1C01000 ∨ 0xF1C01100 ≤ a := by decide
  exact State.accepts_of_not_ruled s _ fun hm => ana_addr_ne hv (h _ hm) (Eq.refl _)

theorem State.afterWrite_ana (s : State) (r : Req) (n v was : Nat) (ok : Bool) : s.afterWrite r F.CMF.ANA.FORCE.addr n v was ok = s := by
  rw [State.afterWrite_of_ne _ _ _ _ _ _ _ (by decide)]
  rfl

/-- The write of a state to force. -/
theorem State.busWrite_ana (hr : r.test = false) (hv : v < 32) (hw : wfld w.toNat F.CMF.ANA.FORCE ≤ 2) :
    s.busWrite r (F.CMF.ANA.FORCE.nth v).addr 8 w true = s.put (F.CMF.ANA.FORCE.nth v) (wfld w.toNat F.CMF.ANA.FORCE) := by
  have hspec : specAt (F.CMF.ANA.FORCE.nth v).addr = some (Src.CMF, cmfAna, v) := by
    rw [ana_arrayAddr hv]
    exact specAt_arrayAddr arrayOf_cmfAna hv
  have hi : (F.CMF.ANA.FORCE.nth v).addr - v * cmfAna.stride = F.CMF.ANA.FORCE.addr := by
    rw [ana_addr hv]
    exact Nat.add_sub_cancel ..
  have hforce : s.fieldError cmfAna F.CMF.ANA.FORCE.addr (F.CMF.ANA.FORCE.nth v).addr v ⟨5, 4, .rw, (k 0), false, [(0, 2)]⟩ w.toNat = none :=
    State.fieldError_none (by rfl) (.inr (Eq.refl _)) (legalVal_range (Eq.refl _) ⟨Nat.zero_le _, hw⟩) (by rfl) (by rfl)
  have he : s.firstError cmfAna F.CMF.ANA.FORCE.addr (F.CMF.ANA.FORCE.nth v).addr v w.toNat = none := State.firstError_none fun f hf => by
    simp only [cmfAna, List.mem_cons, List.not_mem_nil, or_false] at hf
    rcases hf with rfl | rfl | rfl
    · rfl
    · exact hforce
    · rfl
  have hwritten : s.written cmfAna F.CMF.ANA.FORCE.addr (F.CMF.ANA.FORCE.nth v).addr v w.toNat =
      setBits (s.reg (F.CMF.ANA.FORCE.nth v).addr).toNat 5 4 (bits w.toNat 5 4) :=
    if_pos (by rw [hforce]; rfl)
  have h := s.busWrite_taken r (F.CMF.ANA.FORCE.nth v).addr w true Src.CMF cmfAna v hr (by rw [ana_addr hv]; omega) hspec
  rw [hi] at h
  rw [h he (s.accepts_ana _ hv) (by rfl), State.afterWrite_ana, hwritten]
  rfl

/-- The state that a forced set presents (R310). -/
theorem State.anaCode_forced (s : State) (v : Nat) : (s.fld (F.CMF.ANA.FORCE.nth v) = 1 → s.anaCode v = 3) ∧
    (s.fld (F.CMF.ANA.FORCE.nth v) = 2 → s.anaCode v = 4) := by
  unfold State.anaCode
  constructor <;> intro h <;> simp only [h] <;> rfl

theorem anaForceWrite_runs (hr : r.test = false) (hv : v < 32) (hw : wfld w.toNat F.CMF.ANA.FORCE ≤ 2) :
    Runs (.anaForceWrite r v w) s fun t =>
    t.fld (F.CMF.ANA.FORCE.nth v) = wfld w.toNat F.CMF.ANA.FORCE ∧
    t.fld (F.CMF.ANA.STATE.nth v) = s.fld (F.CMF.ANA.STATE.nth v) ∧ SameRegs [(F.CMF.ANA.FORCE.nth v).addr] s t ∧
    (wfld w.toNat F.CMF.ANA.FORCE = 1 → t.anaCode v = 3) ∧ (wfld w.toNat F.CMF.ANA.FORCE = 2 → t.anaCode v = 4) ∧
    t = { s with regs := t.regs } := by
  have hf : (s.put (F.CMF.ANA.FORCE.nth v) (wfld w.toNat F.CMF.ANA.FORCE)).fld (F.CMF.ANA.FORCE.nth v) = wfld w.toNat F.CMF.ANA.FORCE := by
    rw [State.fld_put_width _ _ _ 2 (Fld.nth_ok (by decide)) (by rfl)]
    exact Nat.mod_eq_of_lt (by omega)
  obtain ⟨h1, h2⟩ := (s.put (F.CMF.ANA.FORCE.nth v) (wfld w.toNat F.CMF.ANA.FORCE)).anaCode_forced v
  refine ⟨_, congrArg Host.Outcome.next (State.busWrite_ana hr hv hw), hf, ?_, State.put_sameRegs _ _ _, ?_, ?_, Eq.refl _⟩
  · exact State.fld_put_other _ _ _ _ (Fld.nth_ok (by decide)) (Fld.nth_ok (by decide)) (.inr (.inr (show 3 < 4 by decide)))
  · rwa [hf] at h1
  · rwa [hf] at h2

end Ana

end Sys2Proof.Machine

end

section
/-!
A volume set that stays in Change for too long (R312, R595).
-/

namespace Sys2Proof.Machine

/-! A record that waits stays when another is made. -/

theorem mergeRec_keeps {r x : EvRec} {l q : List EvRec} (h : mergeRec r l = some q) (hx : x ∈ l) :
    ∃ y ∈ q, y.source = x.source ∧ y.code = x.code ∧ y.object = x.object ∧ y.tick = x.tick := by
  induction l generalizing q with
  | nil => cases hx
  | cons e es ih =>
    unfold mergeRec at h
    split at h
    case isTrue =>
      obtain rfl := Option.some.inj h
      rcases List.mem_cons.mp hx with rfl | hx
      · exact ⟨_, List.mem_cons_self, Eq.refl _, Eq.refl _, Eq.refl _, Eq.refl _⟩
      · exact ⟨x, List.mem_cons_of_mem _ hx, Eq.refl _, Eq.refl _, Eq.refl _, Eq.refl _⟩
    case isFalse =>
      obtain ⟨q', hq', rfl⟩ := Option.map_eq_some_iff.mp h
      rcases List.mem_cons.mp hx with rfl | hx
      · exact ⟨x, List.mem_cons_self, Eq.refl _, Eq.refl _, Eq.refl _, Eq.refl _⟩
      · obtain ⟨y, hy, he⟩ := ih hq' hx
        exact ⟨y, List.mem_cons_of_mem _ hy, he⟩

theorem State.makeRecord_keeps (s : State) (r : EvRec) {x : EvRec} (hx : x ∈ s.evr.queue) :
    ∃ y ∈ (s.makeRecord r).evr.queue, y.source = x.source ∧ y.code = x.code ∧ y.object = x.object ∧ y.tick = x.tick := by
  unfold State.makeRecord
  dsimp only
  split
  case h_1 q hq =>
    rw [State.count_evr]
    exact mergeRec_keeps hq hx
  case h_2 =>
    split
    · rw [State.count_evr]
      exact ⟨x, hx, Eq.refl _, Eq.refl _, Eq.refl _, Eq.refl _⟩
    · split
      · rw [State.count_evr]
        exact ⟨x, hx, Eq.refl _, Eq.refl _, Eq.refl _, Eq.refl _⟩
      · exact ⟨x, List.mem_append_left _ hx, Eq.refl _, Eq.refl _, Eq.refl _, Eq.refl _⟩

theorem State.event_keeps (s : State) (src bit unit a0 a1 : Nat) {x : EvRec} (hx : x ∈ s.evr.queue) :
    ∃ y ∈ (s.event src bit unit a0 a1).evr.queue, y.source = x.source ∧ y.code = x.code ∧ y.object = x.object ∧ y.tick = x.tick := by
  unfold State.event State.record
  exact State.makeRecord_keeps _ _ (by rw [State.setEventBit, State.setReg_evr]; exact hx)

theorem HasRecord.event {s t : State} {source code object : Nat} (h : HasRecord s t source code object) (src bit unit a0 a1 : Nat) :
    HasRecord s (t.event src bit unit a0 a1) source code object := by
  obtain ⟨r, hr, hsrc, hcode, hobj, htick⟩ := h
  obtain ⟨y, hy, ysrc, ycode, yobj, ytick⟩ := t.event_keeps src bit unit a0 a1 hr
  exact ⟨y, hy, ysrc.trans hsrc, ycode.trans hcode, yobj.trans hobj, ytick.trans htick⟩

/-! The states presented anew, set by set. -/

/-- The entry of a volume set that is presented anew. -/
def State.anaNew (s : State) (i : Nat) : AnaSet :=
  ⟨s.anaCode i, s.now, (Tab.getD s.cmf.ana i ⟨3, 0, false⟩).late && s.anaCode i == 3⟩

/-- One volume set's state presented, as `State.anaUpdate` does it of each. -/
def State.anaStep (s : State) (i : Nat) : State :=
  if (Tab.getD s.cmf.ana i ⟨3, 0, false⟩).state = s.anaCode i then s
  else
    let t1 : State := { s with cmf := { s.cmf with
      ana := Tab.insert s.cmf.ana i (s.anaNew i), anaCount := s.cmf.anaCount + 1,
      notices := s.cmf.notices ++ (Tab.keys s.vct.vcs).map (fun c => (c, 0x0C0302)) } }
    ((t1.put (F.CMF.ANA.STATE.nth i) (s.anaCode i)).put (F.CMF.ANA.CHANGES.nth i) (t1.fld (F.CMF.ANA.CHANGES.nth i) + 1)).event
      Src.CMF 3 i (s.anaCode i)

theorem State.anaUpdate_eq (s : State) : s.anaUpdate = (List.range 32).foldl State.anaStep s := by rfl

section Step

variable {s t u : State} {v i : Nat} {a : AnaSet}

/-- What a presented state leaves alone: all but CMF, the recorder and the registers. -/
theorem State.anaStep_frame (s : State) (i : Nat) :
    s.anaStep i = { s with cmf := (s.anaStep i).cmf, evr := (s.anaStep i).evr, regs := (s.anaStep i).regs } := by
  unfold State.anaStep
  split
  · exact Eq.refl _
  · dsimp only
    generalize hu : State.put _ (F.CMF.ANA.CHANGES.nth i) _ = u
    obtain ⟨e, g, he⟩ := State.event_eq u Src.CMF 3 i (s.anaCode i) 0
    rw [he, ← hu]
    rfl

/-- The registers that it may change. -/
theorem State.anaStep_reg (s : State) {i b : Nat} (hb : b ∉ eventRegs Src.CMF) (hne : b ≠ (F.CMF.ANA.FORCE.nth i).addr) :
    (s.anaStep i).reg b = s.reg b := by
  unfold State.anaStep
  split
  · exact Eq.refl _
  · rw [State.event_reg _ _ _ _ _ _ _ hb, State.reg_put_other _ (F.CMF.ANA.CHANGES.nth i) _ _ hne,
      State.reg_put_other _ (F.CMF.ANA.STATE.nth i) _ _ hne]
    rfl

theorem State.anaStep_force (s : State) (hv : v < 32) : (s.anaStep i).fld (F.CMF.ANA.FORCE.nth v) = s.fld (F.CMF.ANA.FORCE.nth v) := by
  unfold State.anaStep
  split
  · exact Eq.refl _
  · rw [State.fld_event (ana_not_event hv),
      State.fld_put_other _ (F.CMF.ANA.CHANGES.nth i) (F.CMF.ANA.FORCE.nth v) _ (Fld.nth_ok (by decide)) (Fld.nth_ok (by decide))
        (.inr (.inr (show 5 < 32 by decide))),
      State.fld_put_other _ (F.CMF.ANA.STATE.nth i) (F.CMF.ANA.FORCE.nth v) _ (Fld.nth_ok (by decide)) (Fld.nth_ok (by decide)) (.inr (.inl (show 3 < 4 by decide)))]
    rfl

/-- A set already presented as it is stays. -/
theorem State.anaStep_same (h : Tab.find s.cmf.ana i = some a) (hc : s.anaCode i = a.state) : s.anaStep i = s := by
  unfold State.anaStep
  rw [if_pos]
  rw [Tab.getD, h, hc]
  rfl

theorem State.anaStep_new (hi : i < 32) (h : Tab.find s.cmf.ana i = some a) (hc : s.anaCode i ≠ a.state) :
    Tab.find (s.anaStep i).cmf.ana i = some (s.anaNew i) ∧ (s.anaStep i).fld (F.CMF.ANA.STATE.nth i) = s.anaCode i % 16 := by
  unfold State.anaStep
  rw [if_neg (by rw [Tab.getD, h]; exact fun e => hc e.symm)]
  dsimp only
  constructor
  · rw [State.event_cmf]
    exact (Tab.find_insert ..).trans (if_pos (Eq.refl _))
  · rw [State.fld_event (f := F.CMF.ANA.STATE.nth i) (ana_not_event hi),
      State.fld_put_other _ (F.CMF.ANA.CHANGES.nth i) (F.CMF.ANA.STATE.nth i) _ (Fld.nth_ok (by decide)) (Fld.nth_ok (by decide))
        (.inr (.inr (show 3 < 32 by decide))),
      State.fld_put_width _ _ _ 4 (Fld.nth_ok (by decide)) (by rfl)]
    rfl

theorem State.anaStep_other (s : State) (h : v ≠ i) : Tab.find (s.anaStep i).cmf.ana v = Tab.find s.cmf.ana v := by
  unfold State.anaStep
  split
  · exact Eq.refl _
  · rw [State.event_cmf]
    exact (Tab.find_insert ..).trans (if_neg h)

theorem HasRecord.anaStep {source code object : Nat} (h : HasRecord s t source code object) (i : Nat) :
    HasRecord s (t.anaStep i) source code object := by
  unfold State.anaStep
  split
  · exact h
  · refine HasRecord.event ?_ ..
    exact h

/-- A set in Change that is late is presented as Inaccessible (R312). -/
theorem State.anaCode_late (h : s.anaCode v = 15) (hf : t.fld (F.CMF.ANA.FORCE.nth v) = s.fld (F.CMF.ANA.FORCE.nth v))
    (hh : t.fld F.RFL.CONFIG.VSET_HOME = s.fld F.RFL.CONFIG.VSET_HOME) (hl : t.lcs = s.lcs) (hr : t.rfl = s.rfl)
    (ha : (Tab.getD t.cmf.ana v ⟨3, 0, false⟩).late = true) : t.anaCode v = 3 := by
  unfold State.anaCode at h ⊢
  dsimp only at h ⊢
  rw [hf, hh, hl, hr, ha]
  have h1 : s.fld (F.CMF.ANA.FORCE.nth v) ≠ 1 := fun e => by rw [if_pos e] at h; exact absurd h (by decide)
  rw [if_neg h1] at h ⊢
  have h2 : s.fld (F.CMF.ANA.FORCE.nth v) ≠ 2 := fun e => by rw [if_pos e] at h; exact absurd h (by decide)
  rw [if_neg h2] at h ⊢
  have h3 : ¬ (s.lcs.mode = .eclipse ∨ s.lcs.mode = .join) := fun e => by rw [if_pos e] at h; exact absurd h (by decide)
  rw [if_neg h3] at h ⊢
  generalize hchanging : (_ || _ || _ : Bool) = changing at h ⊢
  cases changing with
  | true => rfl
  | false =>
    rw [if_neg Bool.false_ne_true] at h
    split at h
    · exact absurd h (by decide)
    · split at h <;> exact absurd h (by decide)

/-- The set `v` of `s`, in Change and late, on the way through the sets below `n`. -/
structure AnaLate (s : State) (v n : Nat) (u : State) : Prop where
  frame : u = { s with cmf := u.cmf, evr := u.evr, regs := u.regs }
  force : u.fld (F.CMF.ANA.FORCE.nth v) = s.fld (F.CMF.ANA.FORCE.nth v)
  home : u.fld F.RFL.CONFIG.VSET_HOME = s.fld F.RFL.CONFIG.VSET_HOME
  entry : ∃ b, Tab.find u.cmf.ana v = some b ∧ b.late = true ∧ (n ≤ v → b.state = 15) ∧
    (v < n → b.state = 3 ∧ u.fld (F.CMF.ANA.STATE.nth v) = 3)

variable {n : Nat}

theorem AnaLate.code (h : AnaLate s v n u) (hc : s.anaCode v = 15) : u.anaCode v = 3 := by
  obtain ⟨b, hb, hlate, -⟩ := h.entry
  exact State.anaCode_late hc h.force h.home (by rw [h.frame]) (by rw [h.frame]) (by rw [Tab.getD, hb]; exact hlate)

theorem AnaLate.step (h : AnaLate s v n u) (hc : s.anaCode v = 15) (hv : v < 32) (hn : n < 32) : AnaLate s v (n + 1) (u.anaStep n) where
  frame := by
    have hu := h.frame
    have hs := u.anaStep_frame n
    generalize u.anaStep n = w at hs ⊢
    rw [hs, hu]
  force := (u.anaStep_force hv).trans h.force
  home := (State.fld_eq_of_reg (u.anaStep_reg (by decide) (ana_addr_ne hn (by decide)))).trans h.home
  entry := by
    obtain ⟨b, hb, hlate, hbefore, hafter⟩ := h.entry
    have hcode := h.code hc
    by_cases hvn : v = n
    · subst hvn
      obtain ⟨hfind, hshown⟩ := State.anaStep_new hv hb (by rw [hcode, hbefore (Nat.le_refl _)]; decide)
      refine ⟨_, hfind, ?_, fun hle => absurd hle (by omega), fun _ => ⟨hcode, by rw [hshown, hcode]⟩⟩
      show ((Tab.getD u.cmf.ana v ⟨3, 0, false⟩).late && u.anaCode v == 3) = true
      rw [hcode, Tab.getD, hb]
      exact (Bool.and_true _).trans hlate
    · refine ⟨b, (u.anaStep_other hvn).trans hb, hlate, fun hle => hbefore (by omega), fun hlt => ?_⟩
      obtain ⟨h3, hshown⟩ := hafter (by omega)
      refine ⟨h3, (State.fld_eq_of_reg (f := F.CMF.ANA.STATE.nth v) (u.anaStep_reg (ana_not_event hv) ?_)).trans hshown⟩
      show (F.CMF.ANA.FORCE.nth v).addr ≠ _
      rw [ana_addr hv, ana_addr hn]
      omega

theorem AnaLate.steps (h : AnaLate s v 0 u) (hc : s.anaCode v = 15) (hv : v < 32) (n : Nat) (hn : n ≤ 32) :
    AnaLate s v n ((List.range n).foldl State.anaStep u) := by
  induction n with
  | zero => exact h
  | succ n ih =>
    rw [List.range_succ, List.foldl_append]
    exact (ih (by omega)).step hc hv (by omega)

theorem HasRecord.anaUpdate {source code object : Nat} (h : HasRecord s t source code object) :
    HasRecord s t.anaUpdate source code object := by
  rw [State.anaUpdate_eq]
  generalize List.range 32 = l
  induction l generalizing t with
  | nil => exact h
  | cons i l ih => exact ih (HasRecord.anaStep h i)

/-- The set whose change has lasted beyond ANATT. -/
theorem anattExceeded_late (hv : v < 32) (hf : Tab.find s.cmf.ana v = some a) (ha : a.state = 15) (hl : a.late = false)
    (hc : s.anaCode v = 15) (hnow : a.since + s.ticksIn (s.fld F.CMF.CONFIG.ANATT * 1000000) < s.now) :
    Runs (.anattExceeded v) s fun t =>
      (∃ b, Tab.find t.cmf.ana v = some b ∧ b.state = 3 ∧ b.late = true) ∧ t.fld (F.CMF.ANA.STATE.nth v) = 3 ∧
      (HasRoom s → HasRecord s t Src.CMF 0x0502 v) ∧ SameMemory s t ∧ t.lcs = s.lcs ∧ t.rfl = s.rfl := by
  let s1 : State := { s with cmf := { s.cmf with ana := Tab.insert s.cmf.ana v { a with late := true } } }
  let u := s1.record Src.CMF 1 0x0502 v (s.now - a.since) (s.fld F.CMF.CONFIG.ANATT)
  have ht : exec (.anattExceeded v) s = .next u.anaUpdate := by
    show execAnattExceeded v s = _
    unfold execAnattExceeded
    simp only [hf, ha, hl, Bool.not_false, true_and, gt_iff_lt, hnow, if_true, u, s1]
  have hu : AnaLate s v 0 u := {
    frame := by
      obtain ⟨e, g, he⟩ := s1.record_eq Src.CMF 1 0x0502 v (s.now - a.since) (s.fld F.CMF.CONFIG.ANATT)
      show s1.record _ _ _ _ _ _ = { s with
        cmf := (s1.record _ _ _ _ _ _).cmf, evr := (s1.record _ _ _ _ _ _).evr, regs := (s1.record _ _ _ _ _ _).regs }
      rw [he]
    force := State.fld_eq_of_reg (State.record_reg s1 _ _ _ _ _ _ _ fun hm => ana_not_event hv (List.mem_cons_of_mem _ hm))
    home := State.fld_eq_of_reg (State.record_reg s1 _ _ _ _ _ _ _ (by decide))
    entry := by
      refine ⟨{ a with late := true }, ?_, Eq.refl _, fun _ => ha, fun h => absurd h (by omega)⟩
      rw [State.record_cmf]
      exact (Tab.find_insert ..).trans (if_pos (Eq.refl _)) }
  have hend : AnaLate s v 32 u.anaUpdate := hu.steps hc hv 32 (Nat.le_refl _)
  obtain ⟨b, hb, hlate, -, hafter⟩ := hend.entry
  obtain ⟨h3, hshown⟩ := hafter hv
  have hframe := hend.frame
  exact ⟨_, ht, ⟨b, hb, h3, hlate⟩, hshown, fun hroom => HasRecord.anaUpdate (s1.record_waits s _ _ _ _ _ _ (Eq.refl _) (Eq.refl _) hroom),
    sameMemory_of_mem (by rw [hframe]), by rw [hframe], by rw [hframe]⟩

theorem anattExceeded_early (hf : Tab.find s.cmf.ana v = some a)
    (hnow : s.now ≤ a.since + s.ticksIn (s.fld F.CMF.CONFIG.ANATT * 1000000)) : exec (.anattExceeded v) s = .next s := by
  show execAnattExceeded v s = _
  unfold execAnattExceeded
  simp only [hf, gt_iff_lt, Nat.not_lt.mpr hnow, and_false, if_false]

end Step

end Sys2Proof.Machine

end

section
/-!
The moss limit (R287), and the rows of CMF that are not commands of hosts.
-/

namespace Sys2Proof.Machine

section MossLimit

variable {s : State} {n : Nat} {k : Conn} {cap : Capsule} {rest : List Capsule} {since : Nat}

/-- The submission queue head moves, and nothing else (R280). -/
theorem State.consumeEntry_frame (s : State) (vc conn : Nat) : ∃ q, s.consumeEntry vc conn = { s with cmf := { s.cmf with queues := q } } := by
  unfold State.consumeEntry
  split
  · exact ⟨s.cmf.queues, Eq.refl _⟩
  · exact ⟨_, Eq.refl _⟩

/-- The capsules of a connection after its first is gone. -/
def capsLeft (caps : Tab (List Capsule)) (n : Nat) (rest : List Capsule) : Tab (List Capsule) :=
  if rest = [] then Tab.erase caps n else Tab.insert caps n rest

theorem getD_capsLeft (caps : Tab (List Capsule)) (n : Nat) (rest : List Capsule) : Tab.getD (capsLeft caps n rest) n [] = rest := by
  unfold capsLeft Tab.getD
  split
  case isTrue h => rw [Tab.find_erase, if_pos (Eq.refl _), h]; rfl
  case isFalse => rw [Tab.find_insert, if_pos (Eq.refl _)]; rfl

/-- The command of a capsule that ends before it is admitted. -/
def State.turnedAway (s : State) (n vc : Nat) (cap : Capsule) (status : Nat) : Cmd :=
  { s.capsuleCmd n vc cap with stage := .finished, status := status, dw0 := 0 }

/-- The table of commands with one more, that has ended. -/
theorem State.insertCmd_finish (s : State) (c : Cmd) (status : Nat) : let u := (s.insertCmd c).finish s.cmf.nextCmd status
    u.cmd s.cmf.nextCmd = some { c with stage := .finished, status := status, dw0 := 0 } ∧ OtherCmds s.cmf.nextCmd s u ∧
    u = { s with cmf := { s.cmf with cmds := u.cmf.cmds, nextCmd := s.cmf.nextCmd + 1 } } := by
  refine ⟨?_, fun m hm => ?_, Eq.refl _⟩
  · show Tab.find (Tab.modify (Tab.insert s.cmf.cmds s.cmf.nextCmd c) s.cmf.nextCmd _) s.cmf.nextCmd = _
    rw [Tab.find_modify, if_pos (Eq.refl _), Tab.find_insert, if_pos (Eq.refl _)]
    rfl
  · show Tab.find (Tab.modify (Tab.insert s.cmf.cmds s.cmf.nextCmd c) s.cmf.nextCmd _) m = _
    rw [Tab.find_modify, if_neg hm, Tab.find_insert, if_neg hm]
    rfl

/-- The oldest capsule that the moss limit has held too long ends, and is not admitted. -/
theorem capacityExceeded_ends (hcaps : Tab.find s.cmf.caps n = some (cap :: rest)) (hk : s.conn n = some k)
    (hsince : cap.heldSince = some since) (hlate : since + s.fld F.CMF.ADMIT_CTL.WAIT_MAX < s.now)
    (hstop : s.flag F.FTL.STATUS.FOLD_STOPPED = true) : Runs (.capacityExceeded n) s fun t =>
      (∃ d, t.cmd s.cmf.nextCmd = some d ∧ d.stage = .finished ∧ d.status = 0x081 ∧ d.sqe = cap.bytes.take 64 ∧ d.conn = n) ∧
      OtherCmds s.cmf.nextCmd s t ∧ t.cmf.nextCmd = s.cmf.nextCmd + 1 ∧ Tab.getD t.cmf.caps n [] = rest ∧
      t.cmf.taken = s.cmf.taken ∧ Signals s t Src.CMF 4 k.vcOf ∧ SameRegs (eventRegs Src.CMF) s t ∧
      t = { s with cmf := t.cmf, regs := t.regs, evr := t.evr } := by
  obtain ⟨hcmd, hother, hu⟩ := s.insertCmd_finish (s.capsuleCmd n k.vcOf cap) 0x081
  generalize hgu : (s.insertCmd (s.capsuleCmd n k.vcOf cap)).finish s.cmf.nextCmd 0x081 = u at hcmd hother hu
  obtain ⟨q, hq⟩ := State.consumeEntry_frame { u with cmf := { u.cmf with caps := capsLeft u.cmf.caps n rest } } k.vcOf n
  have ht : exec (.capacityExceeded n) s =
      .next (State.event { u with cmf := { u.cmf with caps := capsLeft u.cmf.caps n rest, queues := q } } Src.CMF 4 k.vcOf) := by
    show execCapacityExceeded n s = _
    unfold execCapacityExceeded
    simp only [hcaps, hk, List.find?_cons, hsince, Option.any_some, gt_iff_lt, hlate, decide_true, hstop, Bool.and_true,
      List.erase_cons_head, hgu]
    exact congrArg (fun t : State => Host.Outcome.next (t.event Src.CMF 4 k.vcOf)) hq
  refine ⟨_, ht, ⟨s.turnedAway n k.vcOf cap 0x081, ?_, Eq.refl _, Eq.refl _, Eq.refl _, Eq.refl _⟩, fun m hm => ?_, ?_, ?_, ?_, ?_, ?_, ?_⟩
  · rw [State.cmd, State.event_cmf]
    exact hcmd
  · rw [State.cmd, State.event_cmf]
    exact hother m hm
  · rw [State.event_cmf, hu]
  · rw [State.event_cmf]
    exact getD_capsLeft ..
  · rw [State.event_cmf, hu]
  · exact State.event_signals _ _ _ _ _ _ _ (eventAddr_not_mem_recordRegs _ (by decide)) (by rw [hu]; rfl) (by rw [hu]) (by rw [hu])
  · intro a ha
    rw [State.event_reg _ _ _ _ _ _ _ ha, hu]
    rfl
  · generalize hw : ({ u with cmf := { u.cmf with caps := capsLeft u.cmf.caps n rest, queues := q } } : State) = w
    obtain ⟨e, g, he⟩ := w.event_eq Src.CMF 4 k.vcOf 0 0
    rw [he, ← hw, hu]

end MossLimit

end Sys2Proof.Machine

open Sys2Proof Sys2Proof.Machine

/-- Settles O48: the commands by the command register of NS_CMD and their turn at the boundary; a hold by what it leaves in ACT_STATUS; a
volume set that is late by an invariant over the sets presented with it. -/
theorem namespaceActivationAndAnaRows : Obligations.NamespaceActivationAndAnaRows := by
  unfold Obligations.NamespaceActivationAndAnaRows
  obtain ⟨hread, hreadBusy⟩ := nsCommand (op := 1) (c := fun r => .nsRead r) (by decide) fun _ _ => rfl
  obtain ⟨hwrite, hwriteBusy⟩ := nsCommand (op := 2) (c := fun r => .nsWrite r) (by decide) fun _ _ => rfl
  obtain ⟨hdelete, hdeleteBusy⟩ := nsCommand (op := 3) (c := fun r => .nsDelete r) (by decide) fun _ _ => rfl
  refine ⟨hread, hwrite, hdelete, hreadBusy, hwriteBusy, hdeleteBusy, State.nsRead_boundary, State.nsWrite_boundary,
    State.nsDelete_boundary, ?starts, fun s => State.holdBoundary_starts, fun s h => State.holdBoundary_released, ?hold,
    fun s r v w => anaForceWrite_runs, ?anatt, ?moss⟩
  case starts => exact fun s r hr => ⟨actStart_taken hr, fun h => actStart_discarded hr, fun h => actRelease_taken hr⟩
  case hold =>
    exact fun s h hh hq => ⟨actQuiesced_idle hh hq, actQuiesced_busy hh, actTimeout_ends hh hq, actTimeout_early hh⟩
  case anatt =>
    exact fun s v a hv hf ha hl hc => ⟨anattExceeded_late hv hf ha hl hc, anattExceeded_early hf⟩
  case moss => exact fun s n k cap rest since => capacityExceeded_ends
end

section
/-!
Commands of virtual controllers: the register that takes them, and the state of their boundary (R355).
-/

namespace Sys2Proof.Machine

/-! VCT.CMD (R355, R566). -/

def vctCmd : RegSpec := ⟨0x118, 0x0, 1, [⟨2, 0, .wo, (k 0), false, [(1, 5)]⟩]⟩

/-- What a write of it starts. -/
def vcBegun (_ : Req) (v : Nat) (_ : Bool) (s : State) : State := { s with vct := { s.vct with command := some (wfld v F.VCT.CMD.OP) } }

theorem commandReg_vctCmd : CommandReg F.VCT.CMD.OP.addr Src.VCT vctCmd F.VCT.CMD_STATUS.BUSY vcBegun where
  aligned := by decide
  spec := by rfl
  block := by decide
  busyBlock := by decide
  busyBit := by decide
  busyApart := by decide
  writeOnly := by decide
  free s v f hf := by
    rw [List.mem_singleton.mp hf]
    exact ⟨by rfl, by rfl, by rfl⟩
  accepts s v := Eq.trans (by rfl) (accepts_of_busy (s.flag F.VCT.CMD_STATUS.BUSY))
  undelayed s v := by rfl
  starts s r v was ok := by rfl
  rewritten s r v ok := by rfl

/-- A command of a virtual controller waits for its boundary. -/
theorem vcCommand {op : Nat} {c : Req → Instr} (h : 1 ≤ op ∧ op ≤ 5)
    (hc : ∀ r s, exec (c r) s = .next (s.busWrite r F.VCT.CMD.OP.addr 8 (fieldWord F.VCT.CMD.OP op) true)) :
    StartsCommand FromCore F.VCT.CMD_STATUS.BUSY c (fun _ s => { s with vct := { s.vct with command := some op } }) ∧
    DiscardedWhileBusy FromCore F.VCT.CMD_STATUS.BUSY c := by
  have hop : bits (fieldWord F.VCT.CMD.OP op).toNat 2 0 = op :=
    (bits_fieldWord_same F.VCT.CMD.OP op (by decide)).trans (Nat.mod_eq_of_lt (Nat.lt_of_le_of_lt h.2 (by decide)))
  refine commandReg_vctCmd.command (reached_fromCore commandReg_vctCmd.spec) (fun f hf => ?_) hc (fun r s => ?_)
  · obtain rfl := List.mem_singleton.mp hf
    exact legalVal_range (Eq.refl _) (hop.symm ▸ h)
  · rw [vcBegun, show wfld _ F.VCT.CMD.OP = op from hop]

/-! The state in which a command runs. -/

/-- The registers that differ once a command has its turn and has read memory. -/
def vcTurnRegs : List Nat := F.VCT.CMD_STATUS.BUSY.addr :: violationRegs

/-- The state in which a command runs: its turn has come, and what it read from memory is noted. -/
structure VcTurn (s w : State) : Prop where
  frame : w = { s with vct := { s.vct with command := none }, regs := w.regs, evr := w.evr }
  reg : ∀ a, a ∉ vcTurnRegs → w.reg a = s.reg a
  notBusy : w.fld F.VCT.CMD_STATUS.BUSY = 0

def State.vcTurn (s : State) : State := ({ s with vct := { s.vct with command := none } } : State).put F.VCT.CMD_STATUS.BUSY 0

theorem State.vcTurn_turn (s : State) : VcTurn s s.vcTurn where
  frame := Eq.refl _
  reg a ha := State.reg_put_other ({ s with vct := { s.vct with command := none } } : State) F.VCT.CMD_STATUS.BUSY 0 a
    fun he => ha (he ▸ List.mem_cons_self)
  notBusy := State.fld_put_width _ _ _ 1 (by decide) (by rfl)

section Turn

variable {s w : State} (h : VcTurn s w)
include h

theorem VcTurn.fld {f : Fld} (hf : f.addr ∉ vcTurnRegs) : w.fld f = s.fld f := State.fld_eq_of_reg (h.reg _ hf)

theorem VcTurn.vct : w.vct = { s.vct with command := none } := by rw [h.frame]
theorem VcTurn.vc (v : Nat) : w.vc v = s.vc v := by rw [State.vc, h.vct, State.vc]
theorem VcTurn.mem : w.mem = s.mem := by rw [h.frame]
theorem VcTurn.rdx : w.rdx = s.rdx := by rw [h.frame]
theorem VcTurn.cmf : w.cmf = s.cmf := by rw [h.frame]
theorem VcTurn.lcs : w.lcs = s.lcs := by rw [h.frame]
theorem VcTurn.tck : w.tck = s.tck := by rw [h.frame]
theorem VcTurn.link : w.rfl.link = s.rfl.link := by rw [h.frame]

/-- A read that memory refuses is noted (R551). -/
theorem VcTurn.noteRead (req a n : Nat) : VcTurn s (w.noteRead req a n) := by
  unfold State.noteRead
  split
  · exact h
  · refine ⟨?_, fun b hb => ?_, ?_⟩
    · have hv := State.eq_of_unrecorded (State.violation_unrecorded w req false a)
      have hw := h.frame
      generalize w.violation req false a = u at hv ⊢
      rw [hv, hw]
    · rw [State.violation_reg _ _ _ _ fun hm => hb (List.mem_cons_of_mem _ hm)]
      exact h.reg b hb
    · rw [State.fld_eq_of_reg (State.violation_reg _ _ _ _ (by decide))]
      exact h.notBusy

/-! What it reads of memory is what it would read before (R548 to R551). -/

theorem VcTurn.memReady (a : Nat) : w.memReady a = s.memReady a := by
  unfold State.memReady State.ddrEnd State.flag
  rw [h.fld (by decide), h.fld (by decide), h.fld (by decide)]

theorem VcTurn.grantEnd (req a : Nat) {n : Nat} (hn : n ≤ 16) : w.grantEnd req a n = s.grantEnd req a n := by
  have hapart : ∀ m < 16, (F.MEM.PART_CTL.EN.nth m).addr ∉ vcTurnRegs ∧ (F.MEM.PART_BASE.BASE.nth m).addr ∉ vcTurnRegs ∧
      (F.MEM.PART_SIZE.SIZE.nth m).addr ∉ vcTurnRegs ∧ (F.MEM.PART_CTL.GRANT.nth m).addr ∉ vcTurnRegs := by decide
  induction n with
  | zero => rfl
  | succ n ih =>
    obtain ⟨hctl, hbase, hsize, hgrant⟩ := hapart n hn
    rw [State.grantEnd, State.grantEnd, State.partRange, State.partRange, State.ddrEnd, State.ddrEnd, h.fld hctl, h.fld hbase,
      h.fld hsize, h.fld hgrant, h.fld (by decide), ih (Nat.le_of_succ_le hn)]

theorem VcTurn.memOk (req a len : Nat) : w.memOk req a len = s.memOk req a len := by
  have hup (b n : Nat) : w.grantedUpTo req b n = s.grantedUpTo req b n := by
    induction n generalizing b with
    | zero => rfl
    | succ n ih =>
      rw [State.grantedUpTo, State.grantedUpTo, h.grantEnd req b (Nat.le_refl 16)]
      split
      · exact ih _
      · rfl
  rw [State.memOk, State.memOk, h.memReady, hup]

theorem VcTurn.loadBy (req a n : Nat) : w.loadBy req a n = s.loadBy req a n := by
  have hbyte (b : Nat) : (w.hotByte b).getD (w.byte b) = (s.hotByte b).getD (s.byte b) := by
    rw [sameMemory_of_mem h.mem b]
    unfold State.hotByte State.hotK
    rw [h.fld (by decide), h.fld (by decide), h.rdx]
  rw [State.loadBy, State.loadBy, h.memOk, State.view, State.view, h.rdx, State.load_congr h.mem]
  simp only [hbyte]

theorem VcTurn.descAt (v : Nat) : w.descAt v = s.descAt v := by
  rw [State.descAt, State.descAt, h.loadBy, h.fld (by decide)]

theorem VcTurn.nsmapAt (v : Nat) : w.nsmapAt v = s.nsmapAt v := by
  rw [State.nsmapAt, State.nsmapAt, h.loadBy, h.fld (by decide)]

/-! So is what it looks at of the controllers. -/

theorem VcTurn.vcFree (v : Nat) : w.vcFree v = s.vcFree v := by rw [State.vcFree, State.vcFree, h.vc]
theorem VcTurn.inFlight (v : Nat) : w.inFlight v = s.inFlight v := by rw [State.inFlight, State.inFlight, h.cmf]
theorem VcTurn.otherVcs (v : Nat) : w.otherVcs v = s.otherVcs v := by rw [State.otherVcs, State.otherVcs, h.vct]

theorem VcTurn.noQueues (v a n : Nat) : w.noQueues v a n = s.noQueues v a n := by
  rw [State.noQueues, State.noQueues, h.otherVcs, h.fld (by decide)]

theorem VcTurn.ipClash (v a n : Nat) : w.ipClash v a n = s.ipClash v a n := by
  rw [State.ipClash, State.ipClash, h.otherVcs]

end Turn

end Sys2Proof.Machine

end

section
/-!
What the commands of virtual controllers do (R355 to R358, R364).
-/

namespace Sys2Proof.Machine

/-! The end of a command. -/

/-- The state that a command leaves before its result is given. -/
structure VcEnd (v : Nat) (s u : State) : Prop where
  notBusy : u.fld F.VCT.CMD_STATUS.BUSY = 0
  command : u.vct.command = none
  others : OtherVcs v s u
  mem : u.mem = s.mem

/-- A command that changes nothing ends with its result. -/
theorem VcTurn.ended {s w : State} (h : VcTurn s w) (v : Nat) : VcEnd v s w where
  notBusy := h.notBusy
  command := by rw [h.vct]
  others m _ := h.vc m
  mem := h.mem

/-- What gives a result signals it. -/
def State.vcResult (u : State) (v r : Nat) : State := (u.put F.VCT.CMD_STATUS.RESULT r).event Src.VCT 0 v

section Result

variable {s u : State} {v r : Nat}

theorem State.vcResult_vct (u : State) (v r : Nat) : (u.vcResult v r).vct = u.vct := by
  unfold State.vcResult
  rw [State.event_vct, State.put_vct]

theorem State.vcResult_result (u : State) (v : Nat) (hr : r < 16) : (u.vcResult v r).fld F.VCT.CMD_STATUS.RESULT = r := by
  unfold State.vcResult
  rw [State.fld_event (by decide), State.fld_put_width _ _ _ 4 (by decide) (by rfl)]
  exact Nat.mod_eq_of_lt hr

theorem State.vcResult_flag (u : State) (v r : Nat) {f : Fld} (hf : f.addr ∉ F.VCT.CMD_STATUS.RESULT.addr :: eventRegs Src.VCT) :
    (u.vcResult v r).flag f = u.flag f := by
  obtain ⟨hne, hev⟩ := not_or.mp (List.mem_cons.not.mp hf)
  unfold State.vcResult State.flag
  rw [State.fld_event hev, State.fld_eq_of_reg (State.reg_put_other u F.VCT.CMD_STATUS.RESULT r f.addr hne)]

theorem State.vcResult_raises (u : State) (v r : Nat) : Raises (u.vcResult v r) Src.VCT 0 :=
  raises_of_signals (by decide) (State.event_signals (u.put F.VCT.CMD_STATUS.RESULT r) (u.put F.VCT.CMD_STATUS.RESULT r) _ _ v _ _
    (eventAddr_not_mem_recordRegs _ (by decide)) (Eq.refl _) (Eq.refl _) (Eq.refl _))

theorem VcEnd.signalled (h : VcEnd v s u) (r : Nat) : let t := u.vcResult v r
    t.fld F.VCT.CMD_STATUS.BUSY = 0 ∧ t.vct.command = none ∧ Raises t Src.VCT 0 ∧ OtherVcs v s t ∧ SameMemory s t := by
  refine ⟨?_, ?_, u.vcResult_raises v r, fun m hm => ?_, sameMemory_of_mem ?_⟩
  · unfold State.vcResult
    rw [State.fld_event (by decide), State.fld_put_other _ _ _ _ (by decide) (by decide) (by decide)]
    exact h.notBusy
  · rw [State.vcResult_vct]
    exact h.command
  · rw [State.vc, State.vcResult_vct]
    exact h.others m hm
  · unfold State.vcResult
    rw [State.event_mem, State.put_mem]
    exact h.mem

end Result

/-! Each command in its turn. -/

section Commands

variable {s w u : State} {v : Nat} {x : Vc}

/-- One controller changes. -/
theorem VcTurn.changes (h : VcTurn s w) (hfld : u.fld F.VCT.CMD_STATUS.BUSY = w.fld F.VCT.CMD_STATUS.BUSY)
    (hvcs : u.vct.vcs = Tab.insert w.vct.vcs v x) (hcmd : u.vct.command = w.vct.command) (hmem : u.mem = w.mem) :
    VcEnd v s u ∧ u.vc v = some x := by
  refine ⟨⟨hfld.trans h.notBusy, hcmd.trans (h.ended v).command, fun m hm => ?_, hmem.trans h.mem⟩, ?_⟩
  · rw [State.vc, hvcs, Tab.find_insert, if_neg hm]
    exact h.vc m
  · rw [State.vc, hvcs, Tab.find_insert, if_pos (Eq.refl _)]

/-- A new virtual controller, with full credits (R356). -/
def Vc.fresh (vgen : Nat) (desc nsmap : List Byte) : Vc :=
  let x : Vc := { state := .active, vgen := vgen, desc := desc, nsmap := nsmap, c := 0, y := 0, assoc := none, resetting := false }
  { x with c := x.cmdDepth, y := x.byteDepth }

theorem Vc.fresh_fields (vgen : Nat) (desc nsmap : List Byte) : let x := Vc.fresh vgen desc nsmap
    x.state = .active ∧ x.vgen = vgen ∧ x.desc = desc ∧ x.assoc = none ∧ x.c = max 1024 (x.cmdRate * x.burst) ∧
      x.y = (x.byteRate * x.burst : Nat) := ⟨Eq.refl _, Eq.refl _, Eq.refl _, Eq.refl _, Eq.refl _, Eq.refl _⟩

theorem Vc.fresh_ranges (vgen : Nat) (desc nsmap : List Byte) : let x := Vc.fresh vgen desc nsmap
    x.qbase = leNat ((desc.drop 24).take 2) ∧ x.qcount = leNat ((desc.drop 26).take 2) ∧
      x.ipFirst = leNat ((desc.drop 28).take 1) ∧ x.ipCount = leNat ((desc.drop 29).take 1) :=
  ⟨Eq.refl _, Eq.refl _, Eq.refl _, Eq.refl _⟩

/-- A virtual controller as CREATE makes it. -/
def State.vcMade (s : State) (v : Nat) : Vc :=
  Vc.fresh ((((s.vc v).map Vc.vgen).getD 0 + 1) % 65536) (s.descAt v) (s.nsmapAt v)

theorem VcTurn.vcCreate (h : VcTurn s w) (v : Nat) : w.vcCreate v =
    if !s.vcFree v then (w, 2)
    else if !descriptorOk (s.descAt v) then (w, 1)
    else if s.inFlight v ≠ [] then (w, 5)
    else if s.noQueues v (s.vcMade v).qbase (s.vcMade v).qcount then (w, 3)
    else if s.ipClash v (s.vcMade v).ipFirst (s.vcMade v).ipCount then (w, 4)
    else (({ w with vct := { w.vct with vcs := Tab.insert w.vct.vcs v (s.vcMade v) } } : State).tellVc v, 0) := by
  unfold State.vcCreate State.vcMade Vc.fresh
  simp only [h.vcFree, h.descAt, h.nsmapAt, h.inFlight, h.noQueues, h.ipClash, h.vc]

/-- What tells the peer changes nothing here. -/
theorem VcTurn.vcInserted (h : VcTurn s w) (v : Nat) (x : Vc) :
    let u := ({ w with vct := { w.vct with vcs := Tab.insert w.vct.vcs v x } } : State).tellVc v
    VcEnd v s u ∧ u.vc v = some x := by
  obtain ⟨l, hl⟩ := State.tellVc_vcs { w with vct := { w.vct with vcs := Tab.insert w.vct.vcs v x } } v
  intro u
  refine h.changes (x := x) ?_ ?_ ?_ ?_ <;> simp only [u, hl]
  rfl

theorem VcTurn.vcCreate_ends (h : VcTurn s w) (v : Nat) : VcEnd v s (w.vcCreate v).1 := by
  rw [h.vcCreate]
  split
  · exact h.ended v
  · split
    · exact h.ended v
    · split
      · exact h.ended v
      · split
        · exact h.ended v
        · split
          · exact h.ended v
          · exact (h.vcInserted v _).1

theorem VcTurn.vcUpdate_ends (h : VcTurn s w) (v : Nat) : VcEnd v s (w.vcUpdate v).1 := by
  unfold State.vcUpdate
  split
  · exact h.ended v
  · dsimp only
    split
    · exact h.ended v
    · split
      · exact h.ended v
      · dsimp only
        split
        · exact And.left (h.changes (Eq.refl _) (Eq.refl _) (Eq.refl _) (Eq.refl _))
        · exact And.left (h.changes (Eq.refl _) (Eq.refl _) (Eq.refl _) (Eq.refl _))

/-- A virtual controller as UPDATE leaves it, with the namespaces whose attachment changes (R357). -/
def Vc.updated (x : Vc) (desc nsmap : List Byte) (ns : List Nat) : Vc :=
  let y : Vc := { x with desc := desc, nsmap := nsmap }
  let diff := ns.filter (fun n => x.attached n != y.attached n)
  { y with assoc := y.assoc.map (fun a => { a with changed := a.changed ++ diff }) }

theorem Vc.updated_fields (x : Vc) (desc nsmap : List Byte) (ns : List Nat) : (x.updated desc nsmap ns).desc = desc ∧
    (x.updated desc nsmap ns).nsmap = nsmap ∧ (x.updated desc nsmap ns).state = x.state ∧ (x.updated desc nsmap ns).vgen = x.vgen :=
  ⟨Eq.refl _, Eq.refl _, Eq.refl _, Eq.refl _⟩

/-- UPDATE of an active controller. -/
theorem VcTurn.vcUpdate_bad (h : VcTurn s w) (hv : s.vc v = some x) (hx : x.state = .active)
    (hbad : descriptorOk (s.descAt v) = false ∨ fixedFields (s.descAt v) ≠ fixedFields x.desc) : w.vcUpdate v = (w, 1) := by
  unfold State.vcUpdate
  rw [h.vc, hv]
  dsimp only
  rw [if_neg (by rw [hx]; decide), if_pos]
  rw [h.descAt, Bool.not_eq_true']
  exact hbad

theorem VcTurn.vcUpdate_good (h : VcTurn s w) (hv : s.vc v = some x) (hx : x.state = .active) (hok : descriptorOk (s.descAt v) = true)
    (hfix : fixedFields (s.descAt v) = fixedFields x.desc) : ∃ u y, w.vcUpdate v = (u, 0) ∧ u.vc v = some y ∧ y.desc = s.descAt v ∧
      y.nsmap = s.nsmapAt v ∧ y.state = .active ∧ y.vgen = x.vgen := by
  obtain ⟨hdesc, hmap, hstate, hgen⟩ := x.updated_fields (w.descAt v) (w.nsmapAt v) (Tab.keys w.cmf.ns)
  unfold State.vcUpdate
  rw [h.vc, hv]
  dsimp only
  rw [if_neg (by rw [hx]; decide), if_neg (by rw [h.descAt, hok]; simp [hfix])]
  refine ⟨_, x.updated (w.descAt v) (w.nsmapAt v) (Tab.keys w.cmf.ns), Eq.refl _, ?_, hdesc.trans (h.descAt v), hmap.trans (h.nsmapAt v),
    hstate.trans hx, hgen⟩
  split <;> exact (Tab.find_insert ..).trans (if_pos (Eq.refl _))

/-! RESET and DESTROY (R300, R358). -/

/-- A controller after a reset of an active one. -/
def Vc.afterReset (x : Vc) : Vc := { x with vgen := (x.vgen + 1) % 65536, resetting := true, assoc := x.assoc.map resetAssoc }

theorem State.controllerReset_frame (hv : s.vc v = some x) (hx : x.state = .active) : ∃ c r, s.controllerReset v =
    { s with vct := { s.vct with vcs := Tab.insert s.vct.vcs v x.afterReset }, cmf := c, rfl := r, regs := (s.count F.VCT.STAT.COUNT 1).regs } := by
  unfold State.controllerReset
  rw [hv]
  dsimp only
  rw [hx, if_neg (by decide), if_neg (by decide)]
  obtain ⟨l, hl⟩ := State.tellVc_vcs (State.count _ F.VCT.STAT.COUNT 1) v
  rw [hl]
  obtain ⟨e, he⟩ := State.foldl_tellQueue_vcs v _ _
  rw [he]
  unfold Vc.afterReset
  rw [hx]
  exact ⟨_, _, Eq.refl _⟩

theorem State.closeConns_frame (s : State) (v : Nat) : (s.closeConns v).vct = s.vct ∧ (s.closeConns v).mem = s.mem ∧
    (s.closeConns v).fld F.VCT.CMD_STATUS.BUSY = s.fld F.VCT.CMD_STATUS.BUSY := by
  unfold State.closeConns
  generalize List.filter _ s.qpc.conns = l
  induction l generalizing s with
  | nil => exact ⟨Eq.refl _, Eq.refl _, Eq.refl _⟩
  | cons p l ih =>
    obtain ⟨hvct, hmem, hfld⟩ := ih ((s.modifyConn p.1 (fun c => { c with failed := true })).count F.QPC.STAT.COUNT 6)
    rw [List.foldl_cons]
    refine ⟨hvct.trans (State.count_vct ..), hmem.trans (State.count_mem ..), hfld.trans (State.fld_eq_of_reg ?_)⟩
    exact State.count_reg _ _ _ _ _ (by decide)

theorem VcTurn.vcReset_none (h : VcTurn s w) (hv : s.vc v = none) (destroy : Bool) : w.vcReset v destroy = (w, 2) := by
  unfold State.vcReset
  rw [h.vc, hv]

/-- A reset in the turn of its command. -/
theorem VcTurn.controllerReset (h : VcTurn s w) (hv : s.vc v = some x) (hx : x.state = .active) : ∃ u, w.controllerReset v = u ∧
    u.fld F.VCT.CMD_STATUS.BUSY = w.fld F.VCT.CMD_STATUS.BUSY ∧ u.vct.vcs = Tab.insert w.vct.vcs v x.afterReset ∧
    u.vct.command = w.vct.command ∧ u.mem = w.mem := by
  obtain ⟨c, r, hu⟩ := State.controllerReset_frame ((h.vc v).trans hv) hx
  refine ⟨_, hu, ?_, Eq.refl _, Eq.refl _, Eq.refl _⟩
  exact State.fld_eq_of_reg (State.count_reg w F.VCT.STAT.COUNT 1 1 _ (by decide))

theorem VcTurn.vcReset_active (h : VcTurn s w) (hv : s.vc v = some x) (hx : x.state = .active) : ∃ u, w.vcReset v false = (u, 0) ∧
    VcEnd v s u ∧ u.vc v = some x.afterReset := by
  obtain ⟨u, hu, hfld, hvcs, hcmd, hmem⟩ := h.controllerReset hv hx
  refine ⟨u, ?_, h.changes hfld hvcs hcmd hmem⟩
  unfold State.vcReset
  rw [h.vc, hv]
  dsimp only
  rw [if_neg (by rw [hx]; decide), if_neg Bool.false_ne_true, hu]

/-- DESTROY also closes the connections, and the controller drains (R358). -/
theorem VcTurn.vcDestroy_active (h : VcTurn s w) (hv : s.vc v = some x) (hx : x.state = .active) : ∃ u, w.vcReset v true = (u, 0) ∧
    VcEnd v s u ∧ u.vc v = some { x.afterReset with state := .draining } := by
  obtain ⟨u, hu, hfld, hvcs, hcmd, hmem⟩ := h.controllerReset hv hx
  obtain ⟨hvct, hcmem, hcfld⟩ := u.closeConns_frame v
  obtain ⟨l, hl⟩ := State.tellVc_vcs ((u.closeConns v).modifyVc v (fun x => { x with state := .draining })) v
  refine ⟨((u.closeConns v).modifyVc v (fun x => { x with state := .draining })).tellVc v, ?_, ?_⟩
  · unfold State.vcReset
    rw [h.vc, hv]
    dsimp only
    rw [if_neg (by rw [hx]; decide), if_pos (Eq.refl _), hu]
  · rw [hl]
    have hfind (m : Nat) : Tab.find (Tab.modify (u.closeConns v).vct.vcs v (fun x : Vc => { x with state := .draining })) m =
        if m = v then some { x.afterReset with state := .draining } else w.vc m := by
      rw [hvct, hvcs, Tab.find_modify, Tab.find_insert, Tab.find_insert, if_pos (Eq.refl _)]
      by_cases hm : m = v
      · rw [if_pos hm, if_pos hm]
        rfl
      · rw [if_neg hm, if_neg hm, if_neg hm]
        rfl
    refine ⟨⟨?_, ?_, fun m hm => ?_, ?_⟩, ?_⟩
    · exact hcfld.trans (hfld.trans h.notBusy)
    · show (u.closeConns v).vct.command = none
      rw [hvct, hcmd, h.vct]
    · exact (hfind m).trans ((if_neg hm).trans (h.vc m))
    · exact hcmem.trans (hmem.trans h.mem)
    · exact (hfind v).trans (if_pos (Eq.refl _))

end Commands

end Sys2Proof.Machine

end

section
/-!
Commands of virtual controllers at their boundary (R355 to R358, R364).
-/

namespace Sys2Proof.Machine

section Moves

variable {s w : State} {v : Nat} {x : Vc}

theorem VcTurn.vcReset_ends (h : VcTurn s w) (v : Nat) (destroy : Bool) : VcEnd v s (w.vcReset v destroy).1 := by
  cases hv : s.vc v with
  | none =>
    rw [h.vcReset_none hv]
    exact h.ended v
  | some x =>
    by_cases hx : x.state = .active
    · cases destroy with
      | false =>
        obtain ⟨u, hu, hend, -⟩ := h.vcReset_active hv hx
        rw [hu]
        exact hend
      | true =>
        obtain ⟨u, hu, hend, -⟩ := h.vcDestroy_active hv hx
        rw [hu]
        exact hend
    · have hno : w.vcReset v destroy = (w, 2) := by
        unfold State.vcReset
        rw [h.vc, hv]
        exact if_pos hx
      rw [hno]
      exact h.ended v

theorem VcTurn.vcUpdate_none (h : VcTurn s w) (hv : s.vc v = none) : w.vcUpdate v = (w, 2) := by
  unfold State.vcUpdate
  rw [h.vc, hv]

theorem VcTurn.vcMove_none (h : VcTurn s w) (hv : s.vc v = none) : w.vcMove v = (w, 2) := by
  unfold State.vcMove
  rw [h.vc, hv]

/-- Another move runs. -/
theorem VcTurn.vcMove_busy (h : VcTurn s w) (hv : s.vc v = some x) (hm : s.vct.move ≠ none) : w.vcMove v = (w, 5) := by
  unfold State.vcMove
  rw [h.vc, hv, h.vct]
  exact if_pos (Option.isSome_iff_ne_none.mpr hm)

theorem VcTurn.vcMove_refused (h : VcTurn s w) (hv : s.vc v = some x) (hm : s.vct.move = none)
    (hno : x.state ≠ .active ∨ s.lcs.mode ≠ .dualActive ∨ s.rfl.link ≠ .up) : w.vcMove v = (w, 2) := by
  unfold State.vcMove
  rw [h.vc, hv]
  dsimp only
  rw [if_neg (by rw [h.vct]; simp [hm]), if_pos (by rw [h.lcs, h.link]; exact hno)]

/-- A move begins (R364). -/
theorem VcTurn.vcMove_begins (h : VcTurn s w) (hv : s.vc v = some x) (hm : s.vct.move = none) (hx : x.state = .active)
    (hmode : s.lcs.mode = .dualActive) (hlink : s.rfl.link = .up) : ∃ u, w.vcMove v = (u, 0) ∧ VcEnd v s u ∧
      u.vc v = some { x with state := .quiescing } ∧
      u.vct.move = some ⟨v, s.fld F.VCT.ARG.TARGET_VC, s.fld F.VCT.ARG.TARGET_QBASE, s.now⟩ ∧
      u.flag F.VCT.MOVE_STATUS.ACTIVE = true := by
  let m : Move := { vc := v, target := w.fld F.VCT.ARG.TARGET_VC, qbase := w.fld F.VCT.ARG.TARGET_QBASE, since := w.now }
  let w1 : State := ({ w with vct := { w.vct with move := some m } } : State).modifyVc v (fun x => { x with state := .quiescing })
  obtain ⟨l, hl⟩ := State.tellVc_vcs w1 v
  have hfind (n : Nat) : Tab.find (Tab.modify w.vct.vcs v (fun x : Vc => { x with state := .quiescing })) n =
      if n = v then some { x with state := .quiescing } else s.vc n := by
    rw [Tab.find_modify]
    by_cases hn : n = v
    · rw [if_pos hn, if_pos hn, show Tab.find w.vct.vcs v = some x from (h.vc v).trans hv]
      rfl
    · rw [if_neg hn, if_neg hn]
      exact h.vc n
  refine ⟨((w1.tellVc v).put F.VCT.MOVE_STATUS.ACTIVE 1).put F.VCT.MOVE_STATUS.SEALED 0, ?_, ⟨?_, ?_, fun n hn => ?_, ?_⟩, ?_, ?_, ?_⟩
  · unfold State.vcMove
    rw [h.vc, hv]
    dsimp only
    rw [if_neg (by rw [h.vct]; simp [hm]), if_neg (by rw [h.lcs, h.link]; simp [hx, hmode, hlink])]
  · rw [State.fld_eq_of_reg (State.reg_put_other _ _ _ _ (by decide)), State.fld_eq_of_reg (State.reg_put_other _ _ _ _ (by decide)), hl]
    exact h.notBusy
  · rw [State.put_vct, State.put_vct, hl]
    show w.vct.command = none
    rw [h.vct]
  · rw [State.vc, State.put_vct, State.put_vct, hl]
    exact (hfind n).trans (if_neg hn)
  · rw [State.put_mem, State.put_mem, hl]
    exact h.mem
  · rw [State.vc, State.put_vct, State.put_vct, hl]
    exact (hfind v).trans (if_pos (Eq.refl _))
  · rw [State.put_vct, State.put_vct, hl]
    show some m = _
    rw [← h.fld (f := F.VCT.ARG.TARGET_VC) (by decide), ← h.fld (f := F.VCT.ARG.TARGET_QBASE) (by decide),
      show s.now = w.now from congrArg Tck.tick h.tck.symm]
  · rw [State.flag, State.fld_put_other _ _ _ _ (by decide) (by decide) (by decide), State.fld_put_width _ _ _ 1 (by decide) (by rfl)]
    rfl

theorem VcTurn.vcMove_ends (h : VcTurn s w) (v : Nat) : VcEnd v s (w.vcMove v).1 := by
  cases hv : s.vc v with
  | none =>
    rw [h.vcMove_none hv]
    exact h.ended v
  | some x =>
    by_cases hm : s.vct.move = none
    · by_cases hno : x.state ≠ .active ∨ s.lcs.mode ≠ .dualActive ∨ s.rfl.link ≠ .up
      · rw [h.vcMove_refused hv hm hno]
        exact h.ended v
      · obtain ⟨hx, hmode, hlink⟩ : x.state = .active ∧ s.lcs.mode = .dualActive ∧ s.rfl.link = .up := by simpa using hno
        obtain ⟨u, hu, hend, -⟩ := h.vcMove_begins hv hm hx hmode hlink
        rw [hu]
        exact hend
    · rw [h.vcMove_busy hv hm]
      exact h.ended v

end Moves

/-! The boundary. -/

/-- The reads of the descriptor and the map of an index are noted. -/
def State.vcRead (w : State) (v : Nat) : State :=
  (w.noteRead Src.VCT (w.fld F.VCT.DESC_BASE.ADDR * 2 ^ 20 + 1024 * v) 1024).noteRead
    Src.VCT (w.fld F.VCT.NSMAP_BASE.ADDR * 2 ^ 20 + 2048 * v) 2048

/-- The choice of a command by its operation. -/
def vcChoice {α : Type} (create update reset destroy move : α) : Nat → α
  | 1 => create
  | 2 => update
  | 3 => reset
  | 4 => destroy
  | _ => move

theorem vcChoice_create {α : Type} (a b c d e : α) : vcChoice a b c d e 1 = a := by rfl
theorem vcChoice_update {α : Type} (a b c d e : α) : vcChoice a b c d e 2 = b := by rfl
theorem vcChoice_reset {α : Type} (a b c d e : α) : vcChoice a b c d e 3 = c := by rfl
theorem vcChoice_destroy {α : Type} (a b c d e : α) : vcChoice a b c d e 4 = d := by rfl
theorem vcChoice_move {α : Type} (a b c d e : α) : vcChoice a b c d e 5 = e := by rfl

/-- What the command that waits leaves, and its result. -/
def State.vcOutcome (s : State) (op v : Nat) : State × Nat :=
  if v ≥ s.fld F.VCT.CONFIG.VC_MAX then (s.vcTurn, 1)
  else vcChoice ((s.vcTurn.vcRead v).vcCreate v) ((s.vcTurn.vcRead v).vcUpdate v) (s.vcTurn.vcReset v false) (s.vcTurn.vcReset v true)
    (s.vcTurn.vcMove v) op

section Boundary

variable {s u w : State} {op v r : Nat} {x : Vc}

theorem State.vcRead_turn (s : State) (v : Nat) : VcTurn s (s.vcTurn.vcRead v) := (s.vcTurn_turn.noteRead ..).noteRead ..

theorem State.runVcCommand_eq (h : s.vct.command = some op) : s.runVcCommand =
    (s.vcOutcome op (s.fld F.VCT.ARG.VC)).1.vcResult (s.fld F.VCT.ARG.VC) (s.vcOutcome op (s.fld F.VCT.ARG.VC)).2 := by
  unfold State.runVcCommand
  rw [h]
  rfl

theorem State.vcOutcome_within {v : Nat} (hv : v < s.fld F.VCT.CONFIG.VC_MAX) (op : Nat) : s.vcOutcome op v =
    vcChoice ((s.vcTurn.vcRead v).vcCreate v) ((s.vcTurn.vcRead v).vcUpdate v) (s.vcTurn.vcReset v false) (s.vcTurn.vcReset v true)
      (s.vcTurn.vcMove v) op := if_neg (Nat.not_le.mpr hv)

/-- What holds of each command holds of the one chosen. -/
theorem vcChoice_of_all {α : Type} {P : α → Prop} {a b c d e : α} (ha : P a) (hb : P b) (hc : P c) (hd : P d) (he : P e) (op : Nat) :
    P (vcChoice a b c d e op) := by
  unfold vcChoice
  split
  · exact ha
  · exact hb
  · exact hc
  · exact hd
  · exact he

theorem State.vcOutcome_ends (s : State) (op v : Nat) : VcEnd v s (s.vcOutcome op v).1 := by
  by_cases hv : v < s.fld F.VCT.CONFIG.VC_MAX
  · rw [State.vcOutcome_within hv]
    exact vcChoice_of_all (P := fun o : State × Nat => VcEnd v s o.1) ((s.vcRead_turn v).vcCreate_ends v) ((s.vcRead_turn v).vcUpdate_ends v)
      (s.vcTurn_turn.vcReset_ends v false) (s.vcTurn_turn.vcReset_ends v true) (s.vcTurn_turn.vcMove_ends v) op
  · rw [State.vcOutcome, if_pos (Nat.not_lt.mp hv)]
    exact s.vcTurn_turn.ended v

/-- A command that waits gives a result and leaves a state. -/
def VcGives (s : State) (v r : Nat) (u : State) : Prop := s.runVcCommand = u.vcResult v r

theorem VcGives.of_outcome (h : s.vct.command = some op) (ho : s.vcOutcome op (s.fld F.VCT.ARG.VC) = (u, r)) :
    VcGives s (s.fld F.VCT.ARG.VC) r u := by
  unfold VcGives
  rw [State.runVcCommand_eq h, ho]

theorem VcGives.result (h : VcGives s v r u) (hr : r < 16) : s.runVcCommand.fld F.VCT.CMD_STATUS.RESULT = r := by
  rw [h]
  exact u.vcResult_result v hr

theorem VcGives.vct (h : VcGives s v r u) : s.runVcCommand.vct = u.vct := by
  rw [h]
  exact u.vcResult_vct v r

theorem VcGives.vc (h : VcGives s v r u) (m : Nat) : s.runVcCommand.vc m = u.vc m := by
  rw [State.vc, h.vct, State.vc]

/-- A command that is refused changes no controller. -/
theorem VcGives.refused (h : VcGives s v r w) (hw : VcTurn s w) (hr : r < 16) :
    s.runVcCommand.fld F.VCT.CMD_STATUS.RESULT = r ∧ s.runVcCommand.vct = { s.vct with command := none } :=
  ⟨h.result hr, h.vct.trans hw.vct⟩

theorem State.vcOutcome_out (hv : s.fld F.VCT.CONFIG.VC_MAX ≤ v) : s.vcOutcome op v = (s.vcTurn, 1) := if_pos hv

theorem State.vcOutcome_create (hv : v < s.fld F.VCT.CONFIG.VC_MAX) : s.vcOutcome 1 v = (s.vcTurn.vcRead v).vcCreate v :=
  (State.vcOutcome_within hv _).trans (vcChoice_create ..)
theorem State.vcOutcome_update (hv : v < s.fld F.VCT.CONFIG.VC_MAX) : s.vcOutcome 2 v = (s.vcTurn.vcRead v).vcUpdate v :=
  (State.vcOutcome_within hv _).trans (vcChoice_update ..)
theorem State.vcOutcome_reset (hv : v < s.fld F.VCT.CONFIG.VC_MAX) : s.vcOutcome 3 v = s.vcTurn.vcReset v false :=
  (State.vcOutcome_within hv _).trans (vcChoice_reset ..)
theorem State.vcOutcome_destroy (hv : v < s.fld F.VCT.CONFIG.VC_MAX) : s.vcOutcome 4 v = s.vcTurn.vcReset v true :=
  (State.vcOutcome_within hv _).trans (vcChoice_destroy ..)
theorem State.vcOutcome_move (hv : v < s.fld F.VCT.CONFIG.VC_MAX) : s.vcOutcome 5 v = s.vcTurn.vcMove v :=
  (State.vcOutcome_within hv _).trans (vcChoice_move ..)

/-- A controller that is absent takes no command but CREATE. -/
theorem State.vcOutcome_absent (hmax : v < s.fld F.VCT.CONFIG.VC_MAX) (hop : 2 ≤ op ∧ op ≤ 5) (hv : s.vc v = none) :
    ∃ w, VcTurn s w ∧ s.vcOutcome op v = (w, 2) := by
  obtain ⟨h2, h5⟩ := hop
  interval_cases op
  · exact ⟨_, s.vcRead_turn v, (State.vcOutcome_update hmax).trans ((s.vcRead_turn v).vcUpdate_none hv)⟩
  · exact ⟨_, s.vcTurn_turn, (State.vcOutcome_reset hmax).trans (s.vcTurn_turn.vcReset_none hv false)⟩
  · exact ⟨_, s.vcTurn_turn, (State.vcOutcome_destroy hmax).trans (s.vcTurn_turn.vcReset_none hv true)⟩
  · exact ⟨_, s.vcTurn_turn, (State.vcOutcome_move hmax).trans (s.vcTurn_turn.vcMove_none hv)⟩

/-! The results of CREATE, in the order of its checks (R356). -/

variable (hc : s.vct.command = some 1) (hmax : s.fld F.VCT.ARG.VC < s.fld F.VCT.CONFIG.VC_MAX)
include hc hmax

theorem vcCreate_inUse (hfree : s.vcFree (s.fld F.VCT.ARG.VC) = false) : VcGives s (s.fld F.VCT.ARG.VC) 2 (s.vcTurn.vcRead (s.fld F.VCT.ARG.VC)) := by
  refine VcGives.of_outcome hc ?_
  rw [State.vcOutcome_create hmax, (s.vcRead_turn _).vcCreate]
  exact if_pos (by rw [hfree]; rfl)

variable (hfree : s.vcFree (s.fld F.VCT.ARG.VC) = true)
include hfree

theorem vcCreate_badDescriptor (hok : descriptorOk (s.descAt (s.fld F.VCT.ARG.VC)) = false) :
    VcGives s (s.fld F.VCT.ARG.VC) 1 (s.vcTurn.vcRead (s.fld F.VCT.ARG.VC)) := by
  refine VcGives.of_outcome hc ?_
  rw [State.vcOutcome_create hmax, (s.vcRead_turn _).vcCreate, if_neg (by rw [hfree]; decide)]
  exact if_pos (by rw [hok]; rfl)

variable (hok : descriptorOk (s.descAt (s.fld F.VCT.ARG.VC)) = true) (hidle : s.inFlight (s.fld F.VCT.ARG.VC) = [])
include hok hidle

omit hc in
/-- The checks that remain once the descriptor is good and nothing is in flight. -/
theorem State.vcOutcome_checked : s.vcOutcome 1 (s.fld F.VCT.ARG.VC) =
    let w := s.vcTurn.vcRead (s.fld F.VCT.ARG.VC)
    let x := s.vcMade (s.fld F.VCT.ARG.VC)
    if s.noQueues (s.fld F.VCT.ARG.VC) x.qbase x.qcount then (w, 3)
    else if s.ipClash (s.fld F.VCT.ARG.VC) x.ipFirst x.ipCount then (w, 4)
    else (({ w with vct := { w.vct with vcs := Tab.insert w.vct.vcs (s.fld F.VCT.ARG.VC) x } } : State).tellVc (s.fld F.VCT.ARG.VC), 0) := by
  rw [State.vcOutcome_create hmax, (s.vcRead_turn _).vcCreate, if_neg (by rw [hfree]; decide), if_neg (by rw [hok]; decide),
    if_neg (fun hn => hn hidle)]

theorem vcCreate_noQueues (hq : s.noQueues (s.fld F.VCT.ARG.VC) (s.vcMade (s.fld F.VCT.ARG.VC)).qbase (s.vcMade (s.fld F.VCT.ARG.VC)).qcount = true) :
    VcGives s (s.fld F.VCT.ARG.VC) 3 (s.vcTurn.vcRead (s.fld F.VCT.ARG.VC)) :=
  VcGives.of_outcome hc ((State.vcOutcome_checked hmax hfree hok hidle).trans (if_pos hq))

variable (hq : s.noQueues (s.fld F.VCT.ARG.VC) (s.vcMade (s.fld F.VCT.ARG.VC)).qbase (s.vcMade (s.fld F.VCT.ARG.VC)).qcount = false)
include hq

theorem vcCreate_ipClash (hi : s.ipClash (s.fld F.VCT.ARG.VC) (s.vcMade (s.fld F.VCT.ARG.VC)).ipFirst (s.vcMade (s.fld F.VCT.ARG.VC)).ipCount = true) :
    VcGives s (s.fld F.VCT.ARG.VC) 4 (s.vcTurn.vcRead (s.fld F.VCT.ARG.VC)) :=
  VcGives.of_outcome hc ((State.vcOutcome_checked hmax hfree hok hidle).trans
    ((if_neg (by rw [hq]; exact Bool.false_ne_true)).trans (if_pos hi)))

theorem vcCreate_made (hi : s.ipClash (s.fld F.VCT.ARG.VC) (s.vcMade (s.fld F.VCT.ARG.VC)).ipFirst (s.vcMade (s.fld F.VCT.ARG.VC)).ipCount = false) :
    ∃ u, VcGives s (s.fld F.VCT.ARG.VC) 0 u ∧ u.vc (s.fld F.VCT.ARG.VC) = some (s.vcMade (s.fld F.VCT.ARG.VC)) := by
  refine ⟨_, VcGives.of_outcome hc ((State.vcOutcome_checked hmax hfree hok hidle).trans
    ((if_neg (by rw [hq]; exact Bool.false_ne_true)).trans (if_neg (by rw [hi]; exact Bool.false_ne_true)))), ?_⟩
  exact ((s.vcRead_turn _).vcInserted _ _).2

end Boundary

end Sys2Proof.Machine

end

section
/-!
The results of a command of a virtual controller at its boundary (R355 to R357, R364).
-/

namespace Sys2Proof.Machine

section Results

variable {s : State} {v op : Nat} {x : Vc}

/-- What every command gives. -/
theorem State.runVcCommand_ends (hc : s.vct.command = some op) : let t := s.runVcCommand
    t.fld F.VCT.CMD_STATUS.BUSY = 0 ∧ t.vct.command = none ∧ Raises t Src.VCT 0 ∧ OtherVcs (s.fld F.VCT.ARG.VC) s t ∧ SameMemory s t := by
  rw [State.runVcCommand_eq hc]
  exact (s.vcOutcome_ends op (s.fld F.VCT.ARG.VC)).signalled _

/-- An index out of the table. -/
theorem vcCommand_outOfRange (hc : s.vct.command = some op) (hv : s.fld F.VCT.CONFIG.VC_MAX ≤ s.fld F.VCT.ARG.VC) :
    s.runVcCommand.fld F.VCT.CMD_STATUS.RESULT = 1 ∧ s.runVcCommand.vct = { s.vct with command := none } :=
  (VcGives.of_outcome hc (State.vcOutcome_out hv)).refused s.vcTurn_turn (by decide)

/-- CREATE (R356). -/
theorem vcCreate_rows (hop : s.vct.command = some 1) (hmax : s.fld F.VCT.ARG.VC < s.fld F.VCT.CONFIG.VC_MAX)
    (hv : s.fld F.VCT.ARG.VC = v) {k qbase qcount ipFirst ipCount : Nat} (hk : k = ((s.vc v).map Vc.vgen).getD 0)
    (hqb : qbase = leNat (((s.descAt v).drop 24).take 2)) (hqc : qcount = leNat (((s.descAt v).drop 26).take 2))
    (hif : ipFirst = leNat (((s.descAt v).drop 28).take 1)) (hic : ipCount = leNat (((s.descAt v).drop 29).take 1)) :
    let t := s.runVcCommand
    let result := t.fld F.VCT.CMD_STATUS.RESULT
    let d := s.descAt v
    let same : Prop := t.vct = { s.vct with command := none }
    (s.vcFree v = false → result = 2 ∧ same) ∧
    (s.vcFree v = true → descriptorOk d = false → result = 1 ∧ same) ∧
    (s.vcFree v = true → descriptorOk d = true → s.inFlight v = [] →
      (s.noQueues v qbase qcount = true → result = 3 ∧ same) ∧
      (s.noQueues v qbase qcount = false → s.ipClash v ipFirst ipCount = true → result = 4 ∧ same) ∧
      (s.noQueues v qbase qcount = false → s.ipClash v ipFirst ipCount = false → result = 0 ∧
        ∃ x, t.vc v = some x ∧ x.state = .active ∧ x.vgen = (k + 1) % 65536 ∧ x.desc = d ∧ x.assoc = none ∧
          x.c = max 1024 (x.cmdRate * x.burst) ∧ x.y = (x.byteRate * x.burst : Nat))) := by
  subst hv
  have hread := s.vcRead_turn (s.fld F.VCT.ARG.VC)
  obtain ⟨hqb', hqc', hif', hic'⟩ := Vc.fresh_ranges ((((s.vc (s.fld F.VCT.ARG.VC)).map Vc.vgen).getD 0 + 1) % 65536)
    (s.descAt (s.fld F.VCT.ARG.VC)) (s.nsmapAt (s.fld F.VCT.ARG.VC))
  rw [← State.vcMade] at hqb' hqc' hif' hic'
  rw [hqb, hqc, hif, hic, ← hqb', ← hqc', ← hif', ← hic']
  refine ⟨fun hfree => ?_, fun hfree hok => ?_, fun hfree hok hidle => ⟨fun hq => ?_, fun hq hi => ?_, fun hq hi => ?_⟩⟩
  · exact (vcCreate_inUse hop hmax hfree).refused hread (by decide)
  · exact (vcCreate_badDescriptor hop hmax hfree hok).refused hread (by decide)
  · exact (vcCreate_noQueues hop hmax hfree hok hidle hq).refused hread (by decide)
  · exact (vcCreate_ipClash hop hmax hfree hok hidle hq hi).refused hread (by decide)
  · obtain ⟨u, hu, hmade⟩ := vcCreate_made hop hmax hfree hok hidle hq hi
    rw [hk]
    exact ⟨hu.result (by decide), _, (hu.vc _).trans hmade, Vc.fresh_fields ..⟩

/-- UPDATE, RESET, DESTROY and MOVE of an active controller. -/
theorem vcActive_rows (hop : s.vct.command = some op) (hmax : s.fld F.VCT.ARG.VC < s.fld F.VCT.CONFIG.VC_MAX)
    (hv : s.vc (s.fld F.VCT.ARG.VC) = some x) (hx : x.state = .active) :
    let v := s.fld F.VCT.ARG.VC
    let t := s.runVcCommand
    let result := t.fld F.VCT.CMD_STATUS.RESULT
    let d := s.descAt v
    let same : Prop := t.vct = { s.vct with command := none }
    (op = 2 → (descriptorOk d = false ∨ fixedFields d ≠ fixedFields x.desc) → result = 1 ∧ same) ∧
    (op = 2 → descriptorOk d = true → fixedFields d = fixedFields x.desc → result = 0 ∧
      ∃ y, t.vc v = some y ∧ y.desc = d ∧ y.nsmap = s.nsmapAt v ∧ y.state = .active ∧ y.vgen = x.vgen) ∧
    (op = 3 → result = 0 ∧ ∃ y, t.vc v = some y ∧ y.vgen = (x.vgen + 1) % 65536 ∧ y.resetting = true ∧ y.state = .active) ∧
    (op = 4 → result = 0 ∧ ∃ y, t.vc v = some y ∧ y.vgen = (x.vgen + 1) % 65536 ∧ y.state = .draining) ∧
    (op = 5 → s.vct.move = none → s.lcs.mode = .dualActive → s.rfl.link = .up → result = 0 ∧
      t.vc v = some { x with state := .quiescing } ∧
      t.vct.move = some ⟨v, s.fld F.VCT.ARG.TARGET_VC, s.fld F.VCT.ARG.TARGET_QBASE, s.now⟩ ∧
      t.flag F.VCT.MOVE_STATUS.ACTIVE = true) ∧
    (op = 5 → s.vct.move = none → (s.lcs.mode ≠ .dualActive ∨ s.rfl.link ≠ .up) → result = 2 ∧ same) ∧
    (op = 5 → s.vct.move ≠ none → result = 5 ∧ same) := by
  intro v t result d same
  have hread := s.vcRead_turn v
  have hturn := s.vcTurn_turn
  refine ⟨fun h hbad => ?_, fun h hok hfix => ?_, fun h => ?_, fun h => ?_, fun h hm hmode hlink => ?_, fun h hm hno => ?_, fun h hm => ?_⟩ <;>
    subst h
  · exact (VcGives.of_outcome hop ((State.vcOutcome_update hmax).trans (hread.vcUpdate_bad hv hx hbad))).refused hread (by decide)
  · obtain ⟨u, y, hu, hy, hfields⟩ := hread.vcUpdate_good hv hx hok hfix
    have hg := VcGives.of_outcome hop ((State.vcOutcome_update hmax).trans hu)
    exact ⟨hg.result (by decide), y, (hg.vc v).trans hy, hfields⟩
  · obtain ⟨u, hu, -, hy⟩ := hturn.vcReset_active hv hx
    have hg := VcGives.of_outcome hop ((State.vcOutcome_reset hmax).trans hu)
    exact ⟨hg.result (by decide), x.afterReset, (hg.vc v).trans hy, Eq.refl _, Eq.refl _, hx⟩
  · obtain ⟨u, hu, -, hy⟩ := hturn.vcDestroy_active hv hx
    have hg := VcGives.of_outcome hop ((State.vcOutcome_destroy hmax).trans hu)
    exact ⟨hg.result (by decide), _, (hg.vc v).trans hy, Eq.refl _, Eq.refl _⟩
  · obtain ⟨u, hu, -, hy, hmove, hactive⟩ := hturn.vcMove_begins hv hm hx hmode hlink
    have hg := VcGives.of_outcome hop ((State.vcOutcome_move hmax).trans hu)
    refine ⟨hg.result (by decide), (hg.vc v).trans hy, ?_, ?_⟩
    · rw [hg.vct]
      exact hmove
    · rw [show t = u.vcResult v 0 from hg, u.vcResult_flag v 0 (by decide)]
      exact hactive
  · exact (VcGives.of_outcome hop ((State.vcOutcome_move hmax).trans (hturn.vcMove_refused hv hm (.inr hno)))).refused hturn (by decide)
  · exact (VcGives.of_outcome hop ((State.vcOutcome_move hmax).trans (hturn.vcMove_busy hv hm))).refused hturn (by decide)

theorem vcAbsent_row (hop : s.vct.command = some op) (hmax : s.fld F.VCT.ARG.VC < s.fld F.VCT.CONFIG.VC_MAX)
    (hv : s.vc (s.fld F.VCT.ARG.VC) = none) (h2 : 2 ≤ op) (h5 : op ≤ 5) :
    s.runVcCommand.fld F.VCT.CMD_STATUS.RESULT = 2 ∧ s.runVcCommand.vct = { s.vct with command := none } := by
  obtain ⟨w, hw, ho⟩ := State.vcOutcome_absent hmax ⟨h2, h5⟩ hv
  exact (VcGives.of_outcome hop ho).refused hw (by decide)

end Results

/-! VC_FREED (R358, R363). -/

section Freed

variable {s : State} {v : Nat} {x : Vc}

/-- One controller changed by a function of it. -/
theorem State.vc_modifyVc_of (hv : s.vc v = some x) (f : Vc → Vc) (m : Nat) :
    (s.modifyVc v f).vc m = if m = v then some (f x) else s.vc m := by
  rw [State.vc_modifyVc, hv]
  rfl

theorem vcFreed_idle (hv : s.vc v = some x) (hx : x.state = .draining) (hidle : s.inFlight v = []) : Runs (.vcFreed v) s fun t =>
      t.vc v = some { x with state := .free, assoc := none, resetting := false } ∧ OtherVcs v s t ∧ Signals s t Src.VCT 1 v ∧
      SameRegs (eventRegs Src.VCT) s t ∧
      t = { s with vct := { s.vct with vcs := t.vct.vcs }, rfl := { s.rfl with vcs := t.rfl.vcs }, regs := t.regs, evr := t.evr } := by
  let w := s.modifyVc v (fun x => { x with state := .free, assoc := none, resetting := false })
  obtain ⟨l, hl⟩ := State.tellVc_vcs w v
  have hfind := State.vc_modifyVc_of hv (fun x => { x with state := .free, assoc := none, resetting := false })
  have ht : exec (.vcFreed v) s = .next ((w.tellVc v).event Src.VCT 1 v) := by
    show execVcFreed v s = _
    unfold execVcFreed
    simp only [hv, hx, hidle, and_self, if_true, w]
  rw [hl] at ht
  refine ⟨_, ht, ?_, fun m hm => ?_, ?_, fun a ha => State.event_reg _ _ _ _ _ _ _ ha, ?_⟩
  · rw [State.vc, State.event_vct]
    exact (hfind v).trans (if_pos (Eq.refl _))
  · rw [State.vc, State.event_vct]
    exact (hfind m).trans (if_neg hm)
  · exact State.event_signals _ _ _ _ _ _ _ (eventAddr_not_mem_recordRegs _ (by decide)) (Eq.refl _) (Eq.refl _) (Eq.refl _)
  · generalize hu : ({ w with rfl := { w.rfl with vcs := l } } : State) = u
    obtain ⟨e, g, he⟩ := u.event_eq Src.VCT 1 v 0 0
    rw [he, ← hu]
    rfl

theorem vcFreed_busy (hv : s.vc v = some x) (hbusy : s.inFlight v ≠ []) : exec (.vcFreed v) s = .next s := by
  show execVcFreed v s = _
  unfold execVcFreed
  simp only [hv, hbusy, and_false, if_false]

end Freed

/-! FREEZE_TIMEOUT (R363). -/

section Freeze

variable {s : State} {v : Nat} {x : Vc} {m : Move}

/-- What the end of a move leaves before its event. -/
def State.moveGone (s : State) (m : Move) (result : Nat) : State :=
  (((({ s with vct := { s.vct with move := none } } : State).put F.VCT.MOVE_STATUS.ACTIVE 0).put F.VCT.MOVE_STATUS.SEALED 0).put
    F.VCT.MOVE_STATUS.RESULT result).put F.VCT.MOVE_STATUS.HOLD_TICKS (min (s.now - m.since) 65535)

theorem State.endMoveWith_eq (hm : s.vct.move = some m) (hv : m.vc = v) (result : Nat) : s.endMoveWith v result =
    ((s.moveGone m result).count F.VCT.STAT.COUNT (if result = 0 then 2 else 4)).event Src.VCT 2 v result := by
  unfold State.endMoveWith
  rw [hm]
  dsimp only
  rw [if_pos hv]
  rfl

theorem State.moveGone_result (s : State) (m : Move) {result : Nat} (hr : result < 16) :
    (s.moveGone m result).fld F.VCT.MOVE_STATUS.RESULT = result := by
  unfold State.moveGone
  rw [State.fld_put_other _ _ _ _ (by decide) (by decide) (by decide), State.fld_put_width _ _ _ 4 (by decide) (by rfl)]
  exact Nat.mod_eq_of_lt hr

theorem State.moveGone_active (s : State) (m : Move) (result : Nat) : (s.moveGone m result).flag F.VCT.MOVE_STATUS.ACTIVE = false := by
  unfold State.flag State.moveGone
  rw [State.fld_put_other _ _ _ _ (by decide) (by decide) (by decide), State.fld_put_other _ _ _ _ (by decide) (by decide) (by decide),
    State.fld_put_other _ _ _ _ (by decide) (by decide) (by decide), State.fld_put_width _ _ _ 1 (by decide) (by rfl)]
  rfl

theorem State.moveGone_reg (s : State) (m : Move) (result : Nat) {a : Nat} (ha : a ≠ F.VCT.MOVE_STATUS.ACTIVE.addr) :
    (s.moveGone m result).reg a = s.reg a := by
  unfold State.moveGone
  rw [State.reg_put_other _ F.VCT.MOVE_STATUS.HOLD_TICKS _ _ ha, State.reg_put_other _ F.VCT.MOVE_STATUS.RESULT _ _ ha,
    State.reg_put_other _ F.VCT.MOVE_STATUS.SEALED _ _ ha, State.reg_put_other _ F.VCT.MOVE_STATUS.ACTIVE _ _ ha]
  rfl

theorem State.moveGone_frame (s : State) (m : Move) (result : Nat) :
    s.moveGone m result = { s with vct := { s.vct with move := none }, regs := (s.moveGone m result).regs } := by
  refine State.eq_of_unrecorded_of_evr (s := { s with vct := { s.vct with move := none } }) ?_ ?_ <;> unfold State.moveGone
  · rw [State.put_unrecorded, State.put_unrecorded, State.put_unrecorded, State.put_unrecorded]
  · rw [State.put_evr, State.put_evr, State.put_evr, State.put_evr]

theorem freezeTimeout_ends (hv : s.vc v = some x) (hx : x.state = .quiescing) (hm : s.vct.move = some m) (hmv : m.vc = v)
    (hlate : m.since + s.fld F.VCT.MOVE_CTL.FREEZE_MAX ≤ s.now) : Runs .freezeTimeout s fun t =>
      t.vc v = some { x with state := .active } ∧ OtherVcs v s t ∧ t.vct.move = none ∧
      t.fld F.VCT.MOVE_STATUS.RESULT = 1 ∧ t.flag F.VCT.MOVE_STATUS.ACTIVE = false ∧ Signals s t Src.VCT 2 v ∧ SameMemory s t := by
  have hend := State.endMoveWith_eq hm hmv 1
  generalize hc : (s.moveGone m 1).count F.VCT.STAT.COUNT (if 1 = 0 then 2 else 4) = c at hend
  have hcreg {a : Nat} (ha : a ≠ (F.VCT.STAT.COUNT.nth 4).addr) : c.reg a = (s.moveGone m 1).reg a := by
    rw [← hc]
    exact State.count_reg _ _ _ _ _ ha
  have hcvct : c.vct = { s.vct with move := none } := by
    rw [← hc, State.count_vct, s.moveGone_frame]
  have hcmem : c.mem = s.mem := by rw [← hc, State.count_mem, s.moveGone_frame]
  have hcevr : c.evr = s.evr := by rw [← hc, State.count_evr, s.moveGone_frame]
  have hctck : c.tck = s.tck := by rw [← hc, State.count_tck, s.moveGone_frame]
  let w := (c.event Src.VCT 2 v 1).modifyVc v (fun x => { x with state := .active })
  obtain ⟨l, hl⟩ := State.tellVc_vcs w v
  have ht : exec .freezeTimeout s = .next (w.tellVc v) := by
    show execFreezeTimeout s = _
    unfold execFreezeTimeout
    subst hmv
    simp only [hm, hv, hx, ge_iff_le, hlate, and_self, if_true, hend, w]
  rw [hl] at ht
  have hvct : (c.event Src.VCT 2 v 1).vct = { s.vct with move := none } := (State.event_vct ..).trans hcvct
  have hfind := State.vc_modifyVc_of (s := c.event Src.VCT 2 v 1) (by rw [State.vc, hvct]; exact hv) (fun x => { x with state := .active })
  have hfld {f : Fld} (hf : f.addr ∉ (F.VCT.STAT.COUNT.nth 4).addr :: eventRegs Src.VCT) :
      (c.event Src.VCT 2 v 1).fld f = (s.moveGone m 1).fld f := by
    obtain ⟨hne, hev⟩ := not_or.mp (List.mem_cons.not.mp hf)
    exact (State.fld_event hev).trans (State.fld_eq_of_reg (hcreg hne))
  have hsig : Signals s (c.event Src.VCT 2 v 1) Src.VCT 2 v :=
    State.event_signals _ _ _ _ _ _ _ (eventAddr_not_mem_recordRegs _ (by decide))
      ((hcreg (by decide)).trans (s.moveGone_reg m 1 (by decide))) hcevr (by rw [hctck])
  refine ⟨_, ht, (hfind v).trans (if_pos (Eq.refl _)), fun n hn => (hfind n).trans ((if_neg hn).trans ?_), ?_, ?_, ?_, hsig,
    sameMemory_of_mem ((State.event_mem ..).trans hcmem)⟩
  · rw [State.vc, hvct, State.vc]
  · exact congrArg Vct.move hvct
  · exact (hfld (f := F.VCT.MOVE_STATUS.RESULT) (by decide)).trans (s.moveGone_result m (by decide))
  · exact (congrArg (· == 1) (hfld (f := F.VCT.MOVE_STATUS.ACTIVE) (by decide))).trans (s.moveGone_active m 1)

theorem freezeTimeout_early (hv : s.vc v = some x) (hm : s.vct.move = some m) (hmv : m.vc = v)
    (hearly : s.now < m.since + s.fld F.VCT.MOVE_CTL.FREEZE_MAX) : exec .freezeTimeout s = .next s := by
  show execFreezeTimeout s = _
  unfold execFreezeTimeout
  subst hmv
  simp only [hm, hv, ge_iff_le, Nat.not_le.mpr hearly, and_false, if_false]

end Freeze

end Sys2Proof.Machine

end

section
/-!
A virtual controller that is sealed, and one that is loaded (R366, R368).
-/

namespace Sys2Proof.Machine

/-! IP entries made invalid. -/

section Ips

variable {s : State} {x : Vc} {i j n : Nat}

theorem ipCtl_addr (hi : i < 256) : (F.HPT.IP_CTL.VALID.nth i).addr = F.HPT.IP_CTL.VALID.addr + i * F.HPT.IP_CTL.VALID.stride :=
  Fld.nth_addr (by
    show 0x2010 + i * 0x20 < 0x400000
    omega)

/-- An entry made invalid leaves none valid that was not. -/
theorem State.fld_put_ip (h : s.fld (F.HPT.IP_CTL.VALID.nth i) = 0 ∨ j = i) :
    (s.put (F.HPT.IP_CTL.VALID.nth j) 0).fld (F.HPT.IP_CTL.VALID.nth i) = 0 := by
  by_cases ha : (F.HPT.IP_CTL.VALID.nth i).addr = (F.HPT.IP_CTL.VALID.nth j).addr
  · have hf : F.HPT.IP_CTL.VALID.nth i = F.HPT.IP_CTL.VALID.nth j := congrArg (fun a => { F.HPT.IP_CTL.VALID with addr := a }) ha
    rw [hf, State.fld_put_width _ _ _ 1 (Fld.nth_ok (by decide)) (by rfl)]
    rfl
  · rw [State.fld_put_other _ _ _ _ (Fld.nth_ok (by decide)) (Fld.nth_ok (by decide)) (.inl ha)]
    exact h.resolve_right fun e => ha (by rw [e])

theorem State.setIps_frame (s : State) (x : Vc) (b : Nat) : s.setIps x b = { s with regs := (s.setIps x b).regs } := by
  unfold State.setIps
  generalize List.range x.ipCount = l
  induction l generalizing s with
  | nil => exact Eq.refl _
  | cons i l ih =>
    rw [List.foldl_cons]
    exact ih (s.put (F.HPT.IP_CTL.VALID.nth (x.ipFirst + i)) b)

theorem State.setIps_invalid (s : State) (x : Vc) (hi : i < x.ipCount) : (s.setIps x 0).fld (F.HPT.IP_CTL.VALID.nth (x.ipFirst + i)) = 0 := by
  unfold State.setIps
  generalize x.ipCount = n at hi
  induction n with
  | zero => cases hi
  | succ n ih =>
    rw [List.range_succ, List.foldl_append, List.foldl_cons, List.foldl_nil]
    refine State.fld_put_ip ?_
    rcases Nat.lt_succ_iff_lt_or_eq.mp hi with hlt | heq
    · exact .inl (ih hlt)
    · exact .inr (by rw [heq])

end Ips

/-! Connections held. -/

section Conns

variable {s : State} {v n : Nat} {c : Conn}

theorem State.freezeConns_frame (s : State) (v : Nat) (b : Bool) : s.freezeConns v b = { s with qpc := (s.freezeConns v b).qpc } := by
  unfold State.freezeConns
  generalize s.liveQueues v = l
  induction l generalizing s with
  | nil => exact Eq.refl _
  | cons q l ih =>
    rw [List.foldl_cons]
    exact ih (s.modifyConn q.2.conn (fun c => { c with frozen := b }))

theorem State.conn_modifyConn (s : State) (i m : Nat) (f : Conn → Conn) :
    (s.modifyConn i f).conn m = if m = i then (s.conn i).map f else s.conn m := Tab.find_modify _ _ _ _

/-- Of every queue in a list the connection is held, whatever it was. -/
theorem State.foldl_freeze (l : List (Nat × Queue)) (s : State) (h : (s.conn n).map (fun c => { c with frozen := true }) = some c)
    (hl : s.conn n = some c ∨ ∃ q ∈ l, q.2.conn = n) :
    (l.foldl (fun (t : State) q => t.modifyConn q.2.conn (fun c => { c with frozen := true })) s).conn n = some c := by
  induction l generalizing s with
  | nil => exact hl.resolve_right (by simp)
  | cons q l ih =>
    rw [List.foldl_cons]
    have hq := s.conn_modifyConn q.2.conn n (fun c => { c with frozen := true })
    by_cases hn : n = q.2.conn
    · rw [if_pos hn, ← hn, h] at hq
      rw [← hn]
      have hfrozen : { c with frozen := true } = c := by
        obtain ⟨c', -, rfl⟩ := Option.map_eq_some_iff.mp h
        rfl
      refine ih _ ?_ (.inl hq)
      rw [hq, Option.map_some, hfrozen]
    · rw [if_neg hn] at hq
      refine ih _ (hq.symm ▸ h) ?_
      rcases hl with hc | ⟨p, hp, hpn⟩
      · exact .inl (hq.trans hc)
      · rcases List.mem_cons.mp hp with rfl | hp
        · exact absurd hpn.symm hn
        · exact .inr ⟨p, hp, hpn⟩

theorem State.freezeConns_conn (s : State) (v : Nat) {q : Nat × Queue} (hq : q ∈ s.liveQueues v) (hc : s.conn q.2.conn = some c) :
    (s.freezeConns v true).conn q.2.conn = some { c with frozen := true } :=
  State.foldl_freeze _ s (by rw [hc]; rfl) (.inr ⟨q, hq, Eq.refl _⟩)

end Conns

/-! VC_SEAL (R366). -/

section Seal

variable {s : State} {v : Nat} {x : Vc} {m : Move}

/-- The record of the controller in the save area, its IP entries invalid and its connections held. -/
def State.vcHeld (s : State) (v : Nat) (x : Vc) : State :=
  ((s.store (s.fld F.VCT.SAVE_ADDR.ADDR * 64) (s.vcRecord v x)).setIps x 0).freezeConns v true

theorem State.vcHeld_frame (s : State) (v : Nat) (x : Vc) : s.vcHeld v x = { s with
    mem := (s.store (s.fld F.VCT.SAVE_ADDR.ADDR * 64) (s.vcRecord v x)).mem, regs := (s.vcHeld v x).regs, qpc := (s.vcHeld v x).qpc } := by
  have hstore := State.store_eq s (s.fld F.VCT.SAVE_ADDR.ADDR * 64) (s.vcRecord v x)
  unfold State.vcHeld
  generalize s.store (s.fld F.VCT.SAVE_ADDR.ADDR * 64) (s.vcRecord v x) = s1 at hstore ⊢
  have hips := s1.setIps_frame x 0
  generalize s1.setIps x 0 = u at hips ⊢
  have hconns := u.freezeConns_frame v true
  generalize u.freezeConns v true = w at hconns ⊢
  rw [hconns, hips, hstore]

end Seal

end Sys2Proof.Machine

end

section
/-!
The seal of a virtual controller and its record on the target (R366, R368).
-/

namespace Sys2Proof.Machine

/-! VC_SEAL. -/

section Seal

variable {s : State} {v : Nat} {x : Vc} {m : Move}

theorem State.vcHeld_mem (s : State) (v : Nat) (x : Vc) :
    (s.vcHeld v x).mem = (s.store (s.fld F.VCT.SAVE_ADDR.ADDR * 64) (s.vcRecord v x)).mem := by
  unfold State.vcHeld
  rw [State.freezeConns_mem, State.setIps_mem]

theorem State.vcHeld_ip (s : State) (v : Nat) {x : Vc} {i : Nat} (hi : i < x.ipCount) :
    (s.vcHeld v x).fld (F.HPT.IP_CTL.VALID.nth (x.ipFirst + i)) = 0 := by
  unfold State.vcHeld
  rw [State.freezeConns_frame]
  exact State.setIps_invalid _ x hi

theorem State.vcHeld_conn (s : State) {v : Nat} (x : Vc) {q : Nat × Queue} {c : Conn} (hq : q ∈ s.liveQueues v) (hc : s.conn q.2.conn = some c) :
    (s.vcHeld v x).conn q.2.conn = some { c with frozen := true } := by
  have hstore := State.store_eq s (s.fld F.VCT.SAVE_ADDR.ADDR * 64) (s.vcRecord v x)
  unfold State.vcHeld
  generalize s.store (s.fld F.VCT.SAVE_ADDR.ADDR * 64) (s.vcRecord v x) = s1 at hstore ⊢
  have hips := s1.setIps_frame x 0
  generalize s1.setIps x 0 = u at hips ⊢
  refine u.freezeConns_conn v ?_ ?_
  · rw [hips, hstore]
    exact hq
  · rw [hips, hstore]
    exact hc

/-- A frame sent while the head serves (R466). -/
theorem State.reflectSend_serving (h : s.lcs.mode.serving = true) (n : Nat) (o : Out) :
    ∃ r, s.reflectSend n o = { s with rfl := r, out := s.out ++ [o] } := by
  unfold State.reflectSend
  refine ⟨_, State.send_of_maySendOut ?_⟩
  exact State.maySendOut_serving (by exact h) o

/-- The state that a seal leaves before its record is sent. -/
def State.vcSealed (s : State) (v : Nat) (x : Vc) : State :=
  (((s.vcHeld v x).modifyVc v (fun x => { x with state := .sealed })).tellVc v).put F.VCT.MOVE_STATUS.SEALED 1

/-- Of what the seal changes beside what it held: the controller's state, and MOVE_STATUS. -/
theorem State.vcSealed_frame (s : State) (v : Nat) (x : Vc) : ∃ l, s.vcSealed v x =
    ({ (s.vcHeld v x).modifyVc v (fun x => { x with state := .sealed }) with rfl := l } : State).put F.VCT.MOVE_STATUS.SEALED 1 := by
  obtain ⟨l, hl⟩ := State.tellVc_vcs ((s.vcHeld v x).modifyVc v (fun x => { x with state := .sealed })) v
  unfold State.vcSealed
  rw [hl]
  exact ⟨_, Eq.refl _⟩

theorem State.vcSealed_vc (hv : s.vc v = some x) (n : Nat) :
    (s.vcSealed v x).vc n = if n = v then some { x with state := .sealed } else s.vc n := by
  have hvct : (s.vcHeld v x).vct = s.vct := by rw [s.vcHeld_frame v x]
  have hheld (n : Nat) : (s.vcHeld v x).vc n = s.vc n := by rw [State.vc, hvct, State.vc]
  obtain ⟨l, hl⟩ := s.vcSealed_frame v x
  rw [hl, State.vc, State.put_vct]
  exact (State.vc_modifyVc_of ((hheld v).trans hv) _ n).trans (by rw [hheld])

theorem State.vcSealed_out (s : State) (v : Nat) (x : Vc) : (s.vcSealed v x).out = s.out := by
  have hout : (s.vcHeld v x).out = s.out := by rw [s.vcHeld_frame v x]
  obtain ⟨l, hl⟩ := s.vcSealed_frame v x
  rw [hl, State.put_out]
  exact hout

theorem State.vcSealed_lcs (s : State) (v : Nat) (x : Vc) : (s.vcSealed v x).lcs = s.lcs := by
  have hlcs : (s.vcHeld v x).lcs = s.lcs := by rw [s.vcHeld_frame v x]
  obtain ⟨l, hl⟩ := s.vcSealed_frame v x
  rw [hl, State.put_lcs]
  exact hlcs

theorem State.vcSealed_mem (s : State) (v : Nat) (x : Vc) :
    (s.vcSealed v x).mem = (s.store (s.fld F.VCT.SAVE_ADDR.ADDR * 64) (s.vcRecord v x)).mem := by
  obtain ⟨l, hl⟩ := s.vcSealed_frame v x
  rw [hl, State.put_mem]
  exact s.vcHeld_mem v x

theorem State.vcSealed_flag (s : State) (v : Nat) (x : Vc) : (s.vcSealed v x).flag F.VCT.MOVE_STATUS.SEALED = true := by
  rw [State.flag, State.vcSealed, State.fld_put_width _ _ _ 1 (by decide) (by rfl)]
  rfl

theorem State.vcSealed_ip (s : State) (v : Nat) {x : Vc} (hips : x.ipFirst + x.ipCount ≤ 256) {i : Nat} (hi : i < x.ipCount) :
    (s.vcSealed v x).flag (F.HPT.IP_CTL.VALID.nth (x.ipFirst + i)) = false := by
  have hne : (F.HPT.IP_CTL.VALID.nth (x.ipFirst + i)).addr ≠ F.VCT.MOVE_STATUS.SEALED.addr := by
    rw [ipCtl_addr (by omega)]
    show 0xF1402010 + (x.ipFirst + i) * 0x20 ≠ 0xF2000138
    omega
  obtain ⟨l, hl⟩ := s.vcSealed_frame v x
  rw [hl, State.flag, State.fld_put_other _ _ _ _ (by decide) (Fld.nth_ok (by decide)) (.inl hne)]
  exact congrArg (· == 1) (s.vcHeld_ip v hi)

theorem State.vcSealed_conn (s : State) {v : Nat} (x : Vc) {q : Nat × Queue} {c : Conn} (hq : q ∈ s.liveQueues v)
    (hc : s.conn q.2.conn = some c) : (s.vcSealed v x).conn q.2.conn = some { c with frozen := true } := by
  obtain ⟨l, hl⟩ := s.vcSealed_frame v x
  rw [hl, State.conn, State.put_qpc]
  exact s.vcHeld_conn x hq hc

theorem vcSeal_runs (hv : s.vc v = some x) (hx : x.state = .quiescing) (hm : s.vct.move = some m) (hmv : m.vc = v)
    (hidle : s.inFlight v = []) (hips : x.ipFirst + x.ipCount ≤ 256) (hserving : s.lcs.mode.serving = true)
    (hok : s.memOk Src.VCT (s.fld F.VCT.SAVE_ADDR.ADDR * 64) (s.vcRecord v x).length = true) : Runs (.vcSeal v) s fun t =>
      t.vc v = some { x with state := .sealed } ∧ OtherVcs v s t ∧ t.flag F.VCT.MOVE_STATUS.SEALED = true ∧
      t.out = s.out ++ [.vcRecord (s.vcRecord v x)] ∧
      (∀ i, i < x.ipCount → t.flag (F.HPT.IP_CTL.VALID.nth (x.ipFirst + i)) = false) ∧
      (∀ q ∈ s.liveQueues v, ∀ c, s.conn q.2.conn = some c → t.conn q.2.conn = some { c with frozen := true }) ∧
      (∀ i, i < (s.vcRecord v x).length →
        t.byte (s.fld F.VCT.SAVE_ADDR.ADDR * 64 + i) = (s.vcRecord v x).getD i 0) := by
  have hmove : s.vct.move.any (fun m => m.vc == v) = true := by rw [hm]; exact beq_iff_eq.mpr hmv
  have ht : exec (.vcSeal v) s =
      .next ((s.vcSealed v x).reflectSend (reflectFrames (s.vcRecord v x).length) (.vcRecord (s.vcRecord v x))) := by
    show execVcSeal v s = _
    unfold execVcSeal
    simp only [hv, hx, hmove, hidle, and_self, if_true]
    rw [State.storeBy, if_pos hok]
    rfl
  obtain ⟨r, hr⟩ := State.reflectSend_serving (s := s.vcSealed v x) (by rw [s.vcSealed_lcs]; exact hserving)
    (reflectFrames (s.vcRecord v x).length) (.vcRecord (s.vcRecord v x))
  rw [hr] at ht
  have hvc := State.vcSealed_vc hv
  have hflag := s.vcSealed_flag v x
  have hout := s.vcSealed_out v x
  have hip {i : Nat} (hi : i < x.ipCount) := s.vcSealed_ip v hips hi
  have hconn {q : Nat × Queue} {c : Conn} (hq : q ∈ s.liveQueues v) (hc : s.conn q.2.conn = some c) := s.vcSealed_conn x hq hc
  obtain ⟨hstored, -⟩ := wrote_of_mem (s := s) (Eq.refl s.mem) (s.vcSealed_mem v x)
  generalize s.vcSealed v x = u at ht hvc hflag hout hip hconn hstored
  exact ⟨_, ht, (hvc v).trans (if_pos (Eq.refl _)), fun n hn => (hvc n).trans (if_neg hn), hflag, congrArg (· ++ _) hout,
    fun i hi => hip hi, fun q hq c hc => hconn hq hc, hstored⟩

theorem vcSeal_busy (hv : s.vc v = some x) (hbusy : s.inFlight v ≠ []) : exec (.vcSeal v) s = .next s := by
  show execVcSeal v s = _
  unfold execVcSeal
  simp only [hv, hbusy, and_false, if_false]

end Seal

/-! VC_RECORD_RECEIVED (R368). -/

section Received

variable {s : State} {target qbase : Nat} {b : List Byte}

/-- The entry that tells the source of a record what came of it. -/
def recordEntry (target op cause : Nat) (b : List Byte) : VcEntry :=
  { vc := leNat ((b.drop 4).take 2) % 1024, state := 0, op := op, cause := cause, vgen := leNat ((b.drop 6).take 2), target := target, qgen := 0 }

theorem vcRecordReceived_refused (h : s.refusalCause target qbase b ≠ 0) : Runs (.vcRecordReceived target qbase b) s fun t =>
      (∃ e, t.rfl.vcs = s.rfl.vcs ++ [e] ∧ e.op = 3 ∧ e.cause = s.refusalCause target qbase b ∧ e.target = target) ∧
      SameRegs [(F.VCT.STAT.COUNT.nth 5).addr] s t ∧ t = { s with rfl := { s.rfl with vcs := t.rfl.vcs }, regs := t.regs } := by
  let u := s.tellEntry (recordEntry target 3 (s.refusalCause target qbase b) b)
  have ht : exec (.vcRecordReceived target qbase b) s = .next (u.count F.VCT.STAT.COUNT 5) := by
    show execVcRecordReceived target qbase b s = _
    unfold execVcRecordReceived
    exact congrArg Host.Outcome.next (if_pos h)
  have hframe := u.count_frame F.VCT.STAT.COUNT 5 1
  refine ⟨_, ht, ⟨recordEntry target 3 (s.refusalCause target qbase b) b, ?_, Eq.refl _, Eq.refl _, Eq.refl _⟩, fun a ha => ?_, ?_⟩
  · rw [State.count_rfl]
    rfl
  · rw [State.count_reg _ _ _ _ _ fun he => ha (List.mem_singleton.mpr he)]
    rfl
  · rw [hframe]
    rfl

/-- A queue of a record and its connection, held. -/
def State.loadQueue (t : State) (target : Nat) (q : List Byte × List Byte) : State :=
  let c := t.connFrom q.2
  let ctx := c.ctx.take 6 ++ leBytes 2 target ++ c.ctx.drop 8
  let f (o n : Nat) : Nat := leNat ((q.1.drop o).take n)
  let x : Queue := { live := true, conn := f 4 4, qgen := f 2 2, sqsize := f 8 2, sqhd := f 10 2, fcOff := f 12 1 == 1 }
  let t1 := t.setConn (f 4 4) { c with ctx := ctx, frozen := true }
  { t1 with cmf := { t1.cmf with queues := Tab.insert t1.cmf.queues (queueKey target (f 0 2)) x } }

theorem State.loadQueues_vct (target : Nat) (l : List (List Byte × List Byte)) (s : State) :
    (l.foldl (fun t q => t.loadQueue target q) s).vct = s.vct ∧ (l.foldl (fun t q => t.loadQueue target q) s).mem = s.mem := by
  induction l generalizing s with
  | nil => exact ⟨Eq.refl _, Eq.refl _⟩
  | cons q l ih => exact ih (s.loadQueue target q)

/-- The controller that a record makes on the target. -/
def State.vcLoaded (s : State) (target qbase : Nat) (b : List Byte) : Vc :=
  let x : Vc := {
    state := .loaded, vgen := ((s.vc target).map Vc.vgen).getD 0,
    desc := (readParts b).desc.take 24 ++ leBytes 2 qbase ++ (readParts b).desc.drop 26,
    nsmap := (readParts b).nsmap, c := 0, y := 0, assoc := none, resetting := false }
  { x with c := x.cmdDepth, y := x.byteDepth }

/-- A store changes no controller, and no byte beyond its range. -/
theorem State.storeBy_vct (s : State) (req a : Nat) (l : List Byte) : (s.storeBy req a l).vct = s.vct ∧
    ∀ x, x < a ∨ a + l.length ≤ x → (s.storeBy req a l).byte x = s.byte x := by
  unfold State.storeBy
  split
  · exact ⟨State.store_vct .., fun x hx => (s.store_wrote a l).2 x hx⟩
  · have hu := State.eq_of_unrecorded (s.violation_unrecorded req true a)
    generalize s.violation req true a = u at hu ⊢
    rw [hu]
    exact ⟨Eq.refl _, fun x _ => sameMemory_of_mem (Eq.refl _) x⟩

theorem vcRecordReceived_loads (h : s.refusalCause target qbase b = 0) : Runs (.vcRecordReceived target qbase b) s fun t =>
      (∃ x, t.vc target = some x ∧ x.state = .loaded ∧ x.assoc = none ∧ x.nsmap = (readParts b).nsmap ∧
        x.desc = (readParts b).desc.take 24 ++ leBytes 2 qbase ++ (readParts b).desc.drop 26) ∧ OtherVcs target s t ∧
      t.vct.loaded = some ⟨target, leNat ((b.drop 4).take 2) % 1024, qbase, b⟩ ∧
      (∀ a, a < s.fld F.VCT.RESTORE_BUF.ADDR * 64 ∨ s.fld F.VCT.RESTORE_BUF.ADDR * 64 + b.length ≤ a → t.byte a = s.byte a) := by
  obtain ⟨hvct1, hbytes⟩ := s.storeBy_vct Src.VCT (s.fld F.VCT.RESTORE_BUF.ADDR * 64) b
  obtain ⟨hvct2, hmem⟩ := State.loadQueues_vct target ((readParts b).queues.zip (readParts b).ctxs)
    (s.storeBy Src.VCT (s.fld F.VCT.RESTORE_BUF.ADDR * 64) b)
  generalize hw : ((readParts b).queues.zip (readParts b).ctxs).foldl (fun t q => t.loadQueue target q)
    (s.storeBy Src.VCT (s.fld F.VCT.RESTORE_BUF.ADDR * 64) b) = w at hvct2 hmem
  have hvct : w.vct = s.vct := hvct2.trans hvct1
  let w1 : State := { w with vct := { w.vct with
    vcs := Tab.insert w.vct.vcs target (s.vcLoaded target qbase b), loaded := some ⟨target, leNat ((b.drop 4).take 2) % 1024, qbase, b⟩ } }
  have ht : exec (.vcRecordReceived target qbase b) s = .next ((w1.tellVc target).tellEntry (recordEntry target 1 0 b)) := by
    show execVcRecordReceived target qbase b s = _
    unfold execVcRecordReceived
    refine congrArg Host.Outcome.next ((if_neg (not_not.mpr h)).trans ?_)
    simp only [w1, ← hw]
    rfl
  obtain ⟨l, hl⟩ := State.tellVc_vcs w1 target
  rw [hl] at ht
  have hfind (n : Nat) : Tab.find (Tab.insert w.vct.vcs target (s.vcLoaded target qbase b)) n =
      if n = target then some (s.vcLoaded target qbase b) else s.vc n := by
    rw [Tab.find_insert, hvct, State.vc]
  refine ⟨_, ht, ⟨s.vcLoaded target qbase b, (hfind target).trans (if_pos (Eq.refl _)), Eq.refl _, Eq.refl _, Eq.refl _, Eq.refl _⟩,
    fun n hn => (hfind n).trans (if_neg hn), Eq.refl _, fun a ha => (sameMemory_of_mem hmem a).trans (hbytes a ha)⟩

/-- A record shorter than its header, descriptor and map is malformed. -/
theorem State.refusalCause_short (s : State) (target qbase : Nat) (h : b.length < 3200) : s.refusalCause target qbase b = 1 := by
  have hshort : b.length < 128 + 1024 + 2048 := h
  unfold State.refusalCause
  simp only [hshort, true_or, if_true]

end Received

end Sys2Proof.Machine

open Sys2Proof Sys2Proof.Machine

/-- Settles O52: a command by its outcome in the turn that the boundary gives it, whatever its reads of memory noted; the life of a moving
controller by what each of its rows leaves. -/
theorem virtualControllerRows : Obligations.VirtualControllerRows := by
  obtain ⟨hcreate, hcreateBusy⟩ := vcCommand (op := 1) (c := fun r => .vcCreate r) (by decide) fun _ _ => rfl
  obtain ⟨hupdate, hupdateBusy⟩ := vcCommand (op := 2) (c := fun r => .vcUpdate r) (by decide) fun _ _ => rfl
  obtain ⟨hreset, hresetBusy⟩ := vcCommand (op := 3) (c := fun r => .vcReset r) (by decide) fun _ _ => rfl
  obtain ⟨hdestroy, hdestroyBusy⟩ := vcCommand (op := 4) (c := fun r => .vcDestroy r) (by decide) fun _ _ => rfl
  obtain ⟨hmove, hmoveBusy⟩ := vcCommand (op := 5) (c := fun r => .vcMove r) (by decide) fun _ _ => rfl
  refine ⟨hcreate, hupdate, hreset, hdestroy, hmove, hcreateBusy, hupdateBusy, hresetBusy, hdestroyBusy, hmoveBusy, ?boundary,
    fun s v x hv hx => ⟨vcFreed_idle hv hx, vcFreed_busy hv⟩, ?moving, ?received, fun s target qbase b => s.refusalCause_short target qbase⟩
  case boundary =>
    intro s op hop h1 h5 v t result d same
    obtain ⟨hbusy, hcommand, hraises, hothers, hmem⟩ := State.runVcCommand_ends hop
    refine ⟨hbusy, hcommand, hraises, hothers, hmem, vcCommand_outOfRange hop,
      fun hmax => ⟨?_, fun x hv hx => vcActive_rows hop hmax hv hx, fun hv h2 => vcAbsent_row hop hmax hv h2 h5⟩⟩
    rintro k qbase qcount ipFirst ipCount rfl hk hqb hqc hif hic
    exact vcCreate_rows hop hmax (Eq.refl v) hk hqb hqc hif hic
  case moving =>
    intro s v x m hv hx hm hmv
    exact ⟨vcSeal_runs hv hx hm hmv, vcSeal_busy hv, freezeTimeout_ends hv hx hm hmv, freezeTimeout_early hv hm hmv⟩
  case received => exact fun s target qbase b => ⟨vcRecordReceived_refused, vcRecordReceived_loads⟩
end
